-- ==== Sys2Proof/Word.lean ====
section
/-!
DEFINITION. The words of the PDX-8 and the small operand types of its commands: the 32-bit register word (R12),
the byte, the 64-bit timestamp and frame word, and the requesters, lanes and error outcomes that commands name.
-/

namespace Sys2Proof

/-- A register word: 32 bits, little-endian (R12). -/
abbrev Word := BitVec 32

/-- A byte of a memory, a plan record or a PMBus block. -/
abbrev Byte := BitVec 8

/-- A 64-bit traverse frame word (R510) or timestamp (R525). -/
abbrev Word64 := BitVec 64

/-- Who makes a register access: host software over the AXI4-Lite target, or firmware over the core port (R579). -/
inductive Port where
  | host
  | core
  deriving DecidableEq, Repr

/-- The two lanes of the ring (R68): the lane on which a frame arrives or leaves. -/
inductive Lane where
  | cw
  | ccw
  deriving DecidableEq, Repr

/-- A frame that a receiver discards: its lane, and whether its CRC failed or its TYPE is reserved (R512). -/
structure BadFrame where
  lane : Lane
  crcFailed : Bool
  deriving DecidableEq, Repr

/-- What the check code finds in the words that a step reads, the four of a coefficient set or one (R611): no error, `more` + 1 of
them corrected, or one with an uncorrectable error. -/
inductive Ecc where
  | clean
  | corrected (more : Fin 4)
  | uncorrectable
  deriving DecidableEq, Repr

/-- The converter trigger sources of Table 11.2 that are events of the part itself. -/
inductive TrigSrc where
  | ibPeriod
  | turnOn (phase : Fin 16)
  | ibFault
  deriving DecidableEq, Repr

/-- VBLK at the end of a power-on reset: when it last rose above 1.50 V, and the IB as it reads then, uV (R79, R355). -/
structure VblkRise where
  riseAt : Nat
  ibUv : Nat
  deriving DecidableEq, Repr

/-- The phases of the cells, two of each: the highest current of each in the frame before, mA, and for each the conduction times,
ps, after which its current reaches the peak limit of R101 in the five periods of the frame that begins (8000 where it does not;
none given: in none of them). -/
structure PhasePeaks where
  highest : List Int
  reach : List (List Nat)
  deriving DecidableEq, Repr

/-- A comparator trip: the station, and by cell and phase after how many ns of conduction the current reaches the peak limit
of R101 (8 where it does not). -/
structure Trip where
  stn : Fin 1024
  reach : List Nat
  deriving DecidableEq, Repr

/-- A tract at the end of a lockout: the stations whose comparators are tripped, and `reach` as in a trip. -/
structure Retrip where
  tripped : BitVec 16
  reach : List Nat
  deriving DecidableEq, Repr

/-- A phase of a cell in its latest 16 periods: cel_isns (mA) when the low side ended, and cel_zcd and cel_isns when it began
(R116). -/
structure ZcdPeriods where
  ph : Fin 2
  per : List (Int × Bool × Int)
  deriving DecidableEq, Repr

/-- The highest current of each IB phase since the previous sample, 0.1 A (R360). -/
structure IbPeaks where
  highest : List Nat
  deriving DecidableEq, Repr

/-- A comparator on the current of an IB phase fires: the phase, the IB as Monument's comparator senses it then, uV, and the phase's
current, 0.1 A: at IPK x f the peak comparator, else the zero-current one (R350, R351, R360). -/
structure ZcdFiring where
  ph : Fin 16
  ibUv : Nat
  amps10 : Nat
  deriving DecidableEq, Repr

/-- The levels of aon_test_en and of the wrapper's serial port as an instruction is loaded (R81, R83). -/
structure WrapperPort where
  testEn : Bool
  wrck : Bool
  wrstn : Bool
  selectWir : Bool
  captureWr : Bool
  shiftWr : Bool
  updateWr : Bool
  wsi : Bool
  deriving DecidableEq, Repr

/-- A PMBus byte command: a read, or the byte written with the packet error code received behind it, if any (R74, R475). -/
structure PmbByte where
  byte : Option Byte
  pec : Option Byte
  deriving DecidableEq, Repr

/-- A PMBus block written, with the packet error code received behind it, if any (R74, R475). -/
structure PmbBlock where
  bytes : List Byte
  pec : Option Byte
  deriving DecidableEq, Repr

/-- How a PMBus transaction fails under R476. -/
inductive PmbFault where
  | command (code : Byte)
  | pec
  deriving DecidableEq, Repr

end Sys2Proof
end

