-- ==== Sys2Proof/Syntax.lean ====
section
/-!
DEFINITION. The commands of the block: one constructor of Instr for each row of spec/opcode_table.json, with the
values that come with it from outside the block (an address, a level, a sample, a frame word).
-/

namespace Sys2Proof

/-- A command of the block: a register access, a port event, or an event that one of its rules times. -/
inductive Instr where
  /-- A host or core write to a register that has no row of its own takes effect under its access code, or completes with SLVERR or no effect (R13). -/
  | registerWrite (p : Port) (off : Nat) (strb : BitVec 4) (v : Word)
  /-- A read of NRG_PART_LO, NRG_WTS_LO or TRV_TIME_LO captures the upper half for the matching HI register (R652). -/
  | captureRead (p : Port) (off : Nat)
  /-- VBLK falls below 1.40 V and the block holds itself in power-on reset (R79). -/
  | powerOnReset
  /-- Power-on reset is released 100 us after VBLK rises above 1.50 V; Monument starts and the IB soft start begins (R620). -/
  | porRelease (rise : VblkRise) (vsel : Fin 8)
  /-- A synchronised rise of aon_rst_req starts the block reset sequence (R655). -/
  | aonRstReq
  /-- aon_host_pwrgd falls: host ports are held, outstanding AXI transactions are abandoned and plan reads fail (R52). -/
  | hostPwrgdFall
  /-- aon_host_pwrgd rises and the host-die ports are served again (R51). -/
  | hostPwrgdRise
  /-- axi_aresetn resets both AXI interfaces, failing plan reads in flight and dropping a telemetry record being pushed (R62). -/
  | axiReset
  /-- SYNC_IN shows no edge for 100 ns and the PLL moves to the internal fast oscillator (R18). -/
  | syncInLoss
  /-- SYNC_IN present for 100 us; the PLL returns to it at the next IB period boundary and offsets slew back (R19). -/
  | syncInReturn
  /-- The PLL locks and lclk and gate_clk start; lagging domains switch on (R305). -/
  | pllLock
  /-- Wrapper instruction WS_BYPASS is executed (R82). -/
  | wsBypass (port : WrapperPort)
  /-- Wrapper instruction WS_EXTEST is executed while aon_test_en is high (R82). -/
  | wsExtest (port : WrapperPort)
  /-- Wrapper instruction WS_INTEST is executed while aon_test_en is high (R82). -/
  | wsIntest (port : WrapperPort)
  /-- Wrapper memory self-test instruction WS_MBIST is executed while aon_test_en is high (R82). -/
  | wsMbist (port : WrapperPort)
  /-- An announce peg is accepted and opens or merges into an awaiting instance, hitting PLAN memory or starting a fetch (R204). -/
  | announce (q : Fin 16) (mark : Fin 65536)
  /-- An arrive peg turns the awaiting instance into a running one, schedules feed-forward and attaches a header re-read (R205). -/
  | arrive (q : Fin 16) (mark : Fin 65536)
  /-- A waiting header or record read is issued once a read identifier is free or its header read has completed (R213). -/
  | fetchIssue
  /-- A plan header read completes and updates SO_GEN and the fetch's COUNT test (R220). -/
  | headerReadDone (rid : Fin 32) (ok : Bool) (bytes : List Byte)
  /-- A plan record read completes; the record is checked and accepted, or discarded as malformed, stale or failed (R215). -/
  | recordReadDone (rid : Fin 32) (ok : Bool) (bytes : List Byte)
  /-- The header re-read of an arrive completes and confirms the record, discards it as stale, or fails (R223). -/
  | rereadDone (rid : Fin 32) (ok : Bool) (bytes : List Byte)
  /-- A plan read has not completed 10 us after its handshake and its fetch fails (R216). -/
  | fetchTimeout (rid : Fin 32)
  /-- At time S an instance starts its lift and requests continuous conduction for its masked domains (R231). -/
  | liftStart (idx : Fin 65536)
  /-- A running instance ends at arrive plus its duration, withdrawing its lift and applying any return feed-forward (R236). -/
  | stepEnd (idx : Fin 65536)
  /-- An awaiting instance with no arrive by P plus GRACE closes as missed (R238). -/
  | markMiss (idx : Fin 65536)
  /-- A write of 1 to SO_CTL.EN enables setting-out, or is refused for an invalid window or unowned PLAN memory (R209). -/
  | soCtlEnSet (p : Port) (clr : Bool)
  /-- A write of 0 to SO_CTL.EN closes every instance, withdraws lifts and makes resident records unusable (R241). -/
  | soCtlEnClear (p : Port) (clr : Bool)
  /-- A write of 1 to SO_CTL.CLR clears the setting-out quality counters and SO_PEG_DROP (R240). -/
  | soCtlClr (p : Port) (en : Bool)
  /-- New engine start requests on a tract channel are added to its pending count (R33). -/
  | gateReq (t : Fin 64) (n : Fin 8)
  /-- The block grants one link on a tract once its pending count, pause, release interval and stagger permit, adding link feed-forward (R35). -/
  | gateLink (t : Fin 64)
  /-- An activity counter increment is attributed to the partition on its tag in the same cycle (R40). -/
  | activityIncrement (c : Fin 64) (n : Fin 16) (tag : Fin 16)
  /-- At each pause slot boundary each tract's duty pause and newly demanded duty take effect (R256). -/
  | pauseSlot
  /-- At each 40 ns frame start all stations sample their rails and the tract feedback and median are formed (R117). -/
  | frameStart (uv : List Nat) (isns : List Int) (peaks : PhasePeaks) (tripped : List Nat)
  /-- A station far from the tract median for 25,000 samples is marked suspect, or CONSENSUS is set (R122). -/
  | stationSuspect (t : Fin 64)
  /-- A write of 1 to an STN_SUSP bit returns the station to use and re-arms its comparator (R125). -/
  | stnSuspClear (p : Port) (t : Fin 64) (m : BitVec 16)
  /-- A lane computes a tract-sample: voltage, current-limit and IB-share loops, winner, normalisation and duty delivery (R155). -/
  | tractSample (t : Fin 64) (ecc : Ecc) (residueOk : Bool)
  /-- A tract-sample not delivered by its slot end is late; duty and histories hold (R173). -/
  | tractSampleLate (t : Fin 64)
  /-- The timing-floor pause falls 16 cycles after the slot of the last qualifying sample (R171). -/
  | floorPauseEnd (t : Fin 64)
  /-- Every 1 us the normalisation factor k is recomputed from the averaged IB voltage (R160). -/
  | normUpdate (uv : Nat)
  /-- At its slew or ramp interval a cell's present code moves one code toward its target (R93). -/
  | presentCodeStep (c : Fin 256)
  /-- The start delay of a domain expires and its ramp begins from the start voltage (R94). -/
  | softStartDelayEnd (d : Fin 32)
  /-- The stop delay of a domain expires and its stop ramp begins (R97). -/
  | softStopDelayEnd (d : Fin 32)
  /-- Every 1 us CEL_CFG.APPLIED moves one step toward the written OFFSET (R88). -/
  | phaseOffsetStep (c : Fin 256)
  /-- Every 100 us the block sets each healthy cell's shed fraction and share target (R105). -/
  | shareUpdate
  /-- A cell's shed fraction held at MAXSHED for 10 ms sets SHARE_SAT (R108). -/
  | shareSat (c : Fin 256)
  /-- cel_zcd rises and the low side of a diode-emulating phase turns off (R113). -/
  | zcdRise (c : Fin 256) (ph : Fin 2)
  /-- 16 consecutive inconsistent periods report a stuck zero-current detector and timed low-side end (R116). -/
  | zcdStuck (c : Fin 256) (z : ZcdPeriods)
  /-- An armed comparator trips and every healthy cell of the tract conducts for 8 ns, raising the tract's pause (R127). -/
  | snap (trip : Trip)
  /-- The 8 ns lockout ends and the tract snaps again if a comparator is still tripped (R129). -/
  | snapLockoutEnd (t : Fin 64) (m : Retrip)
  /-- The snap pause falls 16 cycles after the edge following the latest snap start (R130). -/
  | snapPauseEnd (t : Fin 64)
  /-- A comparator tripped for 32 samples while its station reads high is disarmed (R133). -/
  | cmpStuck (stn : Fin 1024)
  /-- At 1.5 ramp times the feedback below 0.20 of target ends the soft start attempt (R135). -/
  | shortCondA (d : Fin 32)
  /-- A cell at its limit with r below 0.80 for 250 samples is driven off and enters hiccup, or latches on the final retry (R136). -/
  | shortCondB (c : Fin 256)
  /-- After 1 ms of hiccup a cell rejoins by pre-biased start or a domain retries its soft start (R137). -/
  | hiccupEnd (c : Fin 256)
  /-- After 100 ms without a short condition a cell's retry count returns to 0 (R139). -/
  | retryCountReset (c : Fin 256)
  /-- A cell delivering under 10 % of its share target over 100 us latches at once as open (R141). -/
  | cellOpen (c : Fin 256)
  /-- A write of TRC_OPEN bit 0 requests open-hold, or is refused (R181). -/
  | trcOpen (p : Port) (t : Fin 64) (v : Word)
  /-- At the first slot end at least 100 ns after the request the duty freezes and the staging copy is made (R182). -/
  | openHoldBegin (t : Fin 64)
  /-- An access to the coefficient window reaches the staging copy of a tract in requested open-hold, or is refused (R186). -/
  | coefWindowAccess (p : Port) (t : Fin 64) (set : Fin 2) (j : Fin 8) (wr : Option Word)
  /-- A write of TRC_OPEN bit 1 commits the staging copy and selects the set for closing (R188). -/
  | trcClose (p : Port) (t : Fin 64)
  /-- The first closed sample is computed in the first slot at least 100 ns after a close, reset or set switch (R188). -/
  | loopClose (t : Fin 64) (ecc : Ecc)
  /-- An open-hold lasting 200 us without CLOSE discards the staging copy and closes on the old set (R189). -/
  | openHoldTimeout (t : Fin 64)
  /-- Within 2 us of an uncorrectable read the tract closes on its other set, or stops if none is usable (R193). -/
  | setSwitchClose (t : Fin 64)
  /-- An engine failure is declared at a slot end and failover onto the surviving engine begins (R176). -/
  | engineFail (e : Fin 2)
  /-- The surviving engine reads all fallback sets and seeds every tract's histories (R197). -/
  | failoverSeed (t : Fin 64) (ecc : Ecc)
  /-- A group of eight tracts closes on its fallback set at its scheduled time (R196). -/
  | failoverGroupClose (g : Fin 8)
  /-- A group's failover pause duty is lifted, and FAILOVER clears after the last group (R196). -/
  | failoverPauseLift (g : Fin 8)
  /-- Before a header stage, and every 1 us while waiting, neighbours' currents are compared with the loaded level (R260). -/
  | inrushCompare (d : Fin 32)
  /-- A stage wait reaches CG_INRUSH.WAIT and the stage proceeds at quarter speed (R263). -/
  | inrushWaitExpiry (d : Fin 32)
  /-- The next header stage of a switching-on domain admits its phase slot in every tract (R287). -/
  | headerStage (d : Fin 32)
  /-- A write of DOM_CTL.ON starts a switch-on or reversal, or is refused (R286). -/
  | domCtlOn (p : Port) (d : Fin 32)
  /-- A write of DOM_CTL.OFF starts switching off toward retention or a soft stop, or is refused (R281). -/
  | domCtlOff (p : Port) (d : Fin 32) (full : Bool)
  /-- A write of DOM_CTL.FULL alone to a domain in Retention stops it fully, and is refused otherwise (R283). -/
  | domCtlFull (p : Port) (d : Fin 32)
  /-- A write to DOM_VSET sets a new commanded target, or is refused under the code and cadastre limits (R278). -/
  | domVsetWrite (p : Port) (d : Fin 32) (v : Word)
  /-- A Retention rail more than 32 codes low for 1 ms sets RET_LOW (R284). -/
  | retLow (d : Fin 32)
  /-- A PST_REQ write with GO requests Sleep, Deep sleep or Off and starts entry, or is refused (R296). -/
  | pstReqGo (p : Port) (target : Fin 8)
  /-- The commit window ends and aon_state takes the new low-power state (R297). -/
  | entryCommit
  /-- The management core executes its wait instruction and the block enters Idle (R295). -/
  | coreWait
  /-- WAKE_N becomes active and wakes the block, aborts an entry, or refuses later entries (R301). -/
  | wakeN (active : Bool)
  /-- The wake timer expires PST_WTIMER cycles after the commit window and wakes the block (R300). -/
  | wakeTimer
  /-- WAKE_N active without a break for 1 s sets WAKE_STUCK (R304). -/
  | wakeStuck
  /-- A PMBus address match wakes the block from Sleep while the clock is stretched (R302). -/
  | pmbusAddressMatch
  /-- Line activity for 1 us on a receive lane wakes a sleeping die, which sends its own wake burst (R551). -/
  | traverseWake
  /-- On wake from Off the retained plat is checked and applied, or PLAT_LOST is set (R310). -/
  | offWakePlatCheck
  /-- Every 16 aon_clk cycles Monument reads its channels and evaluates its rules and backups (R311). -/
  | monumentSample (vblkMv ibMv : Nat) (raws : List Int)
  /-- A VSEL value read the same in 4 cycles is accepted and applied, or its dwell starts (R321). -/
  | vselAccept (vsel : Fin 8)
  /-- The 100 us VSEL dwell ends and the latest accepted value is applied (R322). -/
  | vselDwellEnd
  /-- Every 10 us the tracked IB target is recomputed (R324). -/
  | trackUpdate
  /-- A TRACK_IN edge is timestamped and a pulse period is completed (R326). -/
  | trackInEdge (level : Bool)
  /-- 100 us without a TRACK_IN edge holds the tracked target and sets TRACK_RANGE (R327). -/
  | trackTimeout
  /-- The IB reference moves toward the target in force at the slew rate (R330). -/
  | ibRefStep
  /-- An IB sample computes the voltage, VIN-draw and phase current-limit loops and delivers duty codes (R336). -/
  | ibSample (peaks : IbPeaks)
  /-- An IB sample not delivered within 240 ns is late (R337). -/
  | ibSampleLate
  /-- Every 100 us the IB phase shed fractions and share targets are set and a phase may be shed (R346). -/
  | ibShareUpdate
  /-- The IB falls below the reference and the hysteretic controller issues pulses in rotation (R351). -/
  | ibHysPulse
  /-- A phase's zero-current comparator fires and the phase goes to high impedance (R350). -/
  | ibZcd (z : ZcdFiring)
  /-- A short condition during IB soft start stops every phase for a retry, latches phases, or fails the IB (R356). -/
  | ibSsFault (ibUv : Nat) (ps : BitVec 16)
  /-- After 1 ms the IB soft start runs again from the IB reading (R356). -/
  | ibSsRetry (ibUv : Nat)
  /-- The next unadmitted enabled phase is tested and admitted or latched (R358). -/
  | phaseAdmitCheck (pass : Bool)
  /-- A phase at its limit with r below 0.80 for 10 us goes to high impedance, or latches after three retries (R361). -/
  | ibPhaseShort (ph : Fin 16)
  /-- After 1 ms a shorted phase rejoins in diode emulation (R361). -/
  | ibPhaseRetry (ph : Fin 16)
  /-- After 100 ms without a limit event a phase's retry count returns to 0 (R361). -/
  | ibPhaseRetryReset (ph : Fin 16)
  /-- A fault comparator high for 1 us latches the phase at once (R364). -/
  | stageFault (ph : Fin 16)
  /-- The IB above its over-voltage limit for 2 us stops every phase (R367). -/
  | ibOv
  /-- The IB falls below reference plus 50 mV and switching resumes with reseeded histories (R367). -/
  | ibOvResume (ibUv : Nat)
  /-- The IB below 1.600 V for 10 us in closed loop sets IB_LOW (R368). -/
  | ibLow
  /-- VIN above HIGH for 10 us sets VIN_HIGH (R369). -/
  | vinHigh
  /-- VIN below SHED for 50 us starts load shedding and broadcasts it (R370). -/
  | vinShed
  /-- The principal's VIN above RESTORE for 1 ms ends shedding by broadcast (R371). -/
  | vinRestore
  /-- VIN below STOP for 10 us starts an orderly stop into Off and broadcasts it (R372). -/
  | vinStop
  /-- Every 100 us all diode sites take a reading, substitute suspects, run comparators and tract controllers (R377). -/
  | siteReading (raws : List Int)
  /-- Front-end calibration completes, TCAL is recorded and CALDONE is set (R380). -/
  | thermalCalDone (tcal : Int) (bad : List Nat)
  /-- A write of 1 to a THM_SUSP bit returns the site from suspect (R387). -/
  | thmSuspClear (p : Port) (half : Fin 2) (m : Word)
  /-- Sites at or below RESTART for 100 ms restart the die from thermal shutdown (R398). -/
  | thermalRestart
  /-- Every 1 ms the temperature corrections of Benchmark and the oscillators are recomputed (R403). -/
  | refCorrectionUpdate
  /-- Every 2 us the Tally estimates power and capping sets budget, class budgets, ceilings, duties and intervals (R405). -/
  | tallyUpdate
  /-- Every 1 ms each class's Tally gain is reconciled against measured power (R408). -/
  | reconcile
  /-- Every 1 ms the budget trim is updated from measured power (R416). -/
  | capTrimUpdate
  /-- After 10 ms above or at or below SUST the die limit switches between PEAK and SUST (R414). -/
  | dieLimitSwitch
  /-- A domain off its effective grade starts a raise or lowering step, at most once per 8 us (R429). -/
  | gradeStepStart (d : Fin 32)
  /-- A grade acknowledgement completes the step, writes the new target on lowering, or is counted as stray (R431). -/
  | grdAck (d : Fin 32) (err : Bool)
  /-- A grade request unacknowledged for 2 us or refused is reissued once, then raises a grade-port fault (R44). -/
  | gradeAckTimeout (d : Fin 32)
  /-- A write of 1 to CAP_DGRADE.FAULT clears the grade-port fault and re-enables grade steps (R44). -/
  | gradeFaultClear (p : Port) (d : Fin 32)
  /-- Every 10 us each tract with lost cells updates its derating duty (R438). -/
  | derateUpdate
  /-- An accepted change of THROTTLE_N applies or removes the throttle pause demand (R444). -/
  | throttleN (active : Bool)
  /-- THROTTLE_N active for 10 s sets THR_STUCK (R445). -/
  | thrStuck
  /-- A write changing CAP_PKG on the principal applies at once and is broadcast in a CAP frame (R542). -/
  | capPkgWrite (p : Port) (v : Word)
  /-- A telemetry millisecond ends: energy is split, reports, watches and the settlement monitor are updated (R449). -/
  | msBoundary
  /-- A telemetry record write is issued to the ring after a measured millisecond, or dropped (R470). -/
  | tlmRecordIssue
  /-- A telemetry write response arrives, setting PUSH or counting a drop (R66). -/
  | tlmWriteResponse (ok : Bool)
  /-- A write of NRG_CLR bits schedules bucket clears at the next millisecond boundary (R459). -/
  | nrgClr (p : Port) (m : Word)
  /-- A write of 1 to an NRG_SFLAG bit ends a cell's derating and resets its count (R469). -/
  | sflagClear (p : Port) (k : Fin 8) (m : Word)
  /-- PMBus PAGE selects the die or a domain (R475). -/
  | page (v : PmbByte)
  /-- PMBus CLEAR_FAULTS clears the PMBus status bytes (R475). -/
  | clearFaults
  /-- PMBus CAPABILITY returns 0xA0 (R475). -/
  | capability
  /-- PMBus VOUT_MODE returns 0x14 (R475). -/
  | voutMode
  /-- PMBus STATUS_WORD returns the die or domain summary (R475). -/
  | statusWord
  /-- PMBus STATUS_IOUT returns phase limit or tract derating status (R475). -/
  | statusIout
  /-- PMBus STATUS_TEMPERATURE returns warning, throttle and shutdown status (R475). -/
  | statusTemperature
  /-- PMBus STATUS_CML returns communication fault status (R475). -/
  | statusCml
  /-- PMBus READ_VIN returns V_IN,meas on page 0 (R475). -/
  | readVin
  /-- PMBus READ_IIN returns I_in on page 0 (R475). -/
  | readIin
  /-- PMBus READ_VOUT returns the IB reading or the domain's present code (R475). -/
  | readVout
  /-- PMBus READ_IOUT returns I_tot or the domain's average current (R475). -/
  | readIout
  /-- PMBus READ_TEMPERATURE_1 returns the hottest site value (R475). -/
  | readTemperature1
  /-- PMBus READ_POUT returns measured core or domain power (R475). -/
  | readPout
  /-- PMBus READ_PIN returns input power on page 0 (R475). -/
  | readPin
  /-- PMBus PMBUS_REVISION returns 0x33 (R475). -/
  | pmbusRevision
  /-- PMBus MFR_ID returns LLYN (R475). -/
  | mfrId
  /-- PMBus MFR_MODEL returns PDX-8 (R475). -/
  | mfrModel
  /-- PMBus MFR_REVISION returns BLK_ID.RELEASE (R475). -/
  | mfrRevision
  /-- PMBus MFR_IBSEL_REQ writes an Ibsel request and doorbell to M7, or is discarded (R477). -/
  | mfrIbselReq (b : PmbBlock)
  /-- PMBus MFR_IBSEL_RSP returns the M7 response or BUSY (R477). -/
  | mfrIbselRsp
  /-- PMBus MFR_PARTITION selects a bucket for MFR_PART_ENERGY (R475). -/
  | mfrPartition (v : PmbByte)
  /-- PMBus MFR_PART_ENERGY returns the selected accumulator taken at one instant (R475). -/
  | mfrPartEnergy
  /-- A PMBus command code outside the table or not acknowledged on the page sets an invalid-command fault (R476). -/
  | pmbusInvalidCommand (f : PmbFault)
  /-- A converter result becomes available and goes to the IB stage or a user result register (R479). -/
  | conversionDone (k : Fin 2) (nv : Int) (refNv : Nat)
  /-- A trigger source fires for a converter sequence, or the trigger is lost (R489). -/
  | seqTrigger (src : TrigSrc)
  /-- ADC_TMR expires and triggers sequences with TSRC 0b001 (R489). -/
  | adcTimerExpiry
  /-- A sequence becomes due after its delay and starts at the next usable converter position (R491). -/
  | seqDue (k : Fin 2) (inj : Bool)
  /-- A write of 1 to ADC_SEQ GO triggers the regular sequence (R489). -/
  | adcSeqGo (p : Port) (k : Fin 2) (v : Word)
  /-- A write of 1 to ADC_INJ GO triggers the injected sequence (R489). -/
  | adcInjGo (p : Port) (k : Fin 2) (v : Word)
  /-- A write to ADC_CFG.REF selects the user reference, or is refused (R499). -/
  | adcRefWrite (p : Port) (v : Word)
  /-- A reference buffer powered for 20 us sets BM_RDY or ALT_RDY (R498). -/
  | refReady
  /-- ADC_CALCMD GO with STEP zero makes 64 conversions and holds m0 (R504). -/
  | adcCalZero (p : Port) (v : Word)
  /-- ADC_CALCMD GO with STEP full makes 64 conversions and computes gain and offset (R504). -/
  | adcCalFull (p : Port) (v : Word)
  /-- ADC_CALCMD GO with STEP restore resets the selected trims at once (R506). -/
  | adcCalRestore (p : Port) (v : Word)
  /-- A calibration step completes, storing trims or setting CAL_RANGE, and sets CAL_DONE (R505). -/
  | adcCalDone
  /-- A SYNC frame is received, its offset computed and the timestamp stepped or slewed (R526). -/
  | sync (lane : Lane) (w : Word64)
  /-- A SUM frame is received; a member adds its mantissas, forwards it and reports (R537). -/
  | sum (lane : Lane) (w : Word64)
  /-- A REPORT frame carrying a member's D and F reaches the principal (R538). -/
  | report (lane : Lane) (w : Word64)
  /-- A SHARE frame delivers die shares that take effect at the next Tally update (R413). -/
  | share (lane : Lane) (w : Word64)
  /-- A CAP frame sets CAP_PKG to the package cap received (R542). -/
  | cap (lane : Lane) (w : Word64)
  /-- An EPOCH frame stores an accepted epoch as pending or reports a refusal (R544). -/
  | epoch (lane : Lane) (w : Word64)
  /-- A REQ frame from a member reaches the principal, which handles it as its own cap write or epoch (R543). -/
  | req (lane : Lane) (w : Word64)
  /-- A FAULT frame sets REMOTE, shows the fault and writes a traverse field book entry (R548). -/
  | fault (lane : Lane) (w : Word64)
  /-- A SHED frame begins or ends load shedding or starts an orderly stop (R549). -/
  | shed (lane : Lane) (w : Word64)
  /-- A CLAIM frame is received; the die adds its bit and forwards it, or the returning claimant becomes principal (R533). -/
  | claim (lane : Lane) (w : Word64)
  /-- A STATE frame announces a die entering a state, setting aside its hops (R550). -/
  | state (lane : Lane) (w : Word64)
  /-- An ECHO frame is returned or completes a hop round trip (R521). -/
  | echo (lane : Lane) (w : Word64)
  /-- An ALIGN frame names the instant at which IB period counters are set to 0 (R523). -/
  | align (lane : Lane) (w : Word64)
  /-- A frame with a failed CRC or reserved TYPE is discarded and counted (R512). -/
  | badFrame (f : BadFrame)
  /-- At the SYNC_IN edge nearest the alignment instant the IB period counter is set to 0 and ALIGNED set (R523). -/
  | periodAlign
  /-- A receive lane receives 128 valid symbols with comma alignment and is up (R515). -/
  | laneUp (lane : Lane)
  /-- A lane silent for 1 us or with 4 CRC failures in 1 ms faults, breaking its hop and folding the ring (R515). -/
  | laneFault (lane : Lane)
  /-- Every 1 ms the dies of a broken hop drive idle symbols on it for 100 us (R518). -/
  | hopRetry
  /-- A broken hop whose lanes are up and ECHO exchanges succeed rejoins at the quiet window end (R518). -/
  | hopRejoin (lane : Lane)
  /-- The principal starts the ring once all hops are measured or 10 ms after plat lock (R522). -/
  | ringStart
  /-- At each 20 us boundary every die latches D and F and updates its envelope (R535). -/
  | sumLatch
  /-- 100 ns after the latch the principal sends the lap's SUM frame (R536). -/
  | sumSend
  /-- The lap completes on return and reports or after 2 us, and the principal computes and sends shares (R538). -/
  | lapComplete
  /-- A member with no frame from the principal for 10 us declares it lost (R532). -/
  | principalLost
  /-- A die of rank k sends its CLAIM (k - 1) us after declaring the principal lost (R533). -/
  | claimSend
  /-- A claim whose bitmap fell short is retried every 1 ms (R534). -/
  | claimRetry
  /-- The principal repeats the CAP frame every 1 ms (R542). -/
  | capRepeat
  /-- A write of TRV_EPOCH_GO submits an epoch, relayed by REQ on a member (R543). -/
  | epochGo (p : Port)
  /-- At an epoch's effective timestamp its cap becomes the package cap and shares are scaled (R546). -/
  | epochApply
  /-- A relayed epoch request unanswered for 100 us sets RELAY_TO (R545). -/
  | relayTimeout
  /-- The FAULT_N pulse timer expires and the pin is released unless HOLD is 1 (R570). -/
  | faultPulseEnd
  /-- A write of 0 to FLT_PIN.HOLD releases the pin at the end of any running pulse (R571). -/
  | holdRelease (p : Port)
  /-- A write of 1 to FLT_PIN.HOLD drives FAULT_N low without a pulse (R571). -/
  | holdAssert (p : Port)
  /-- A write of 1 to FLT_CTL.CLR clears every field book and the eviction log (R567). -/
  | fieldBookClear (p : Port)
  /-- FAULT_N reads opposite to the block's drive for 2 cycles and sets EXT_LOW or DRIVE (R573). -/
  | faultNMismatch (level : Bool)
  /-- A doorbell write checks the request header and makes the channel pending, replays, or answers at once (R591). -/
  | mbxBell (p : Port) (m : Fin 8)
  /-- Firmware acknowledges a pending request (R594). -/
  | mbxAck (m : Fin 8)
  /-- A channel still pending 20 us after its doorbell is answered BUSY by the guard (R594). -/
  | mbxGuardTimeout (m : Fin 8)
  /-- The responder posts ACCEPTED for a long command and sets MBX_DONE (R595). -/
  | mbxAccepted (m : Fin 8)
  /-- The responder writes the final response, moves the channel to done and sets MBX_DONE (R595). -/
  | mbxResponse (m : Fin 8)
  /-- A request with an opcode not in Ibsel, or not accepted on the channel, is answered UNSUPPORTED (R599). -/
  | unknownOpcode (m : Fin 8)
  /-- Ibsel GET_IDENTITY returns release, firmware version, die data and plat CRC (R599). -/
  | getIdentity (m : Fin 8)
  /-- Ibsel GET_UPTIME returns the timestamp and core reset count (R599). -/
  | getUptime (m : Fin 8)
  /-- Ibsel SET_DIE_LIMIT writes CAP_DIE sustained and peak limits (R599). -/
  | setDieLimit (m : Fin 8)
  /-- Ibsel SET_PKG_CAP sets the package cap, directly on the principal or by relay (R599). -/
  | setPkgCap (m : Fin 8)
  /-- Ibsel GET_CAP_STATE returns share, budget, estimate and capping status (R599). -/
  | getCapState (m : Fin 8)
  /-- Ibsel GET_CLASS returns a class's demand, budget, gain and state (R599). -/
  | getClass (m : Fin 8)
  /-- Ibsel DOM_ON switches a domain on and completes when it is On (R599). -/
  | domOn (m : Fin 8)
  /-- Ibsel DOM_OFF switches a domain off and completes in Retention or Off (R599). -/
  | domOff (m : Fin 8)
  /-- Ibsel SET_VOLTAGE writes a domain's commanded target (R599). -/
  | setVoltage (m : Fin 8)
  /-- Ibsel SET_GRADE writes a domain's requested grade and GCTL (R599). -/
  | setGrade (m : Fin 8)
  /-- Ibsel GET_DOMAIN returns a domain's state, grade, lift and currents (R599). -/
  | getDomain (m : Fin 8)
  /-- Ibsel TLM_CONFIG sets the telemetry ring and enable (R599). -/
  | tlmConfig (m : Fin 8)
  /-- Ibsel GET_ENERGY returns a bucket's accumulator taken at one instant (R599). -/
  | getEnergy (m : Fin 8)
  /-- Ibsel CLEAR_ENERGY writes NRG_CLR (R599). -/
  | clearEnergy (m : Fin 8)
  /-- Ibsel SET_PARTITIONS writes the partition enables (R599). -/
  | setPartitions (m : Fin 8)
  /-- Ibsel SET_WATCH configures a watch slot (R599). -/
  | setWatch (m : Fin 8)
  /-- Ibsel GET_WATCH returns a watch slot's minimum, station and time (R599). -/
  | getWatch (m : Fin 8)
  /-- Ibsel RETUNE opens a tract, writes a coefficient set and closes it (R599). -/
  | retune (m : Fin 8)
  /-- Ibsel READMIT_CELL clears a latched cell so it rejoins by pre-biased start (R599). -/
  | readmitCell (m : Fin 8)
  /-- Ibsel GET_TRACT returns a tract's loop and chain-gate state (R599). -/
  | getTract (m : Fin 8)
  /-- Ibsel SET_TRACT_LIMIT writes a tract's current limit and floor depth (R599). -/
  | setTractLimit (m : Fin 8)
  /-- Ibsel RESET_TRACT starts a tract reset (R599). -/
  | resetTract (m : Fin 8)
  /-- Ibsel SO_WINDOW registers the plan window while setting-out is disabled (R599). -/
  | soWindow (m : Fin 8)
  /-- Ibsel SO_ENABLE sets SO_CTL enable and counter clear (R599). -/
  | soEnable (m : Fin 8)
  /-- Ibsel SO_COUNTERS returns a sequencer's quality counters (R599). -/
  | soCounters (m : Fin 8)
  /-- Ibsel SO_TRACT_PATH writes a tract's path, feed-forward gain and engine step (R599). -/
  | soTractPath (m : Fin 8)
  /-- Ibsel GET_THERMAL returns thermal state and suspect sites (R599). -/
  | getThermal (m : Fin 8)
  /-- Ibsel GET_SITE returns a site's value, raw reading and duty (R599). -/
  | getSite (m : Fin 8)
  /-- Ibsel CLEAR_SITE clears a site's suspect mark (R599). -/
  | clearSite (m : Fin 8)
  /-- Ibsel GET_FAULTS returns the fault summary, last trigger, count and pin (R599). -/
  | getFaults (m : Fin 8)
  /-- Ibsel READ_BOOK returns a field book entry and its block's book register (R599). -/
  | readBook (m : Fin 8)
  /-- Ibsel RELEASE_PIN clears FLT_PIN.HOLD (R599). -/
  | releasePin (m : Fin 8)
  /-- Ibsel SET_SEVERITY writes the severity of a status bit (R599). -/
  | setSeverity (m : Fin 8)
  /-- Ibsel ADC_CALIBRATE runs a converter calibration step and returns the trims (R599). -/
  | adcCalibrate (m : Fin 8)
  /-- Ibsel ADC_SET_TRIM writes converter trims (R599). -/
  | adcSetTrim (m : Fin 8)
  /-- Ibsel ADC_GET_TRIM returns converter trims (R599). -/
  | adcGetTrim (m : Fin 8)
  /-- Ibsel PST_ENTER requests a low-power state and completes after the wake (R599). -/
  | pstEnter (m : Fin 8)
  /-- Ibsel PST_SET_WAKE writes wake sources and the wake timer (R599). -/
  | pstSetWake (m : Fin 8)
  /-- Ibsel PST_GET returns the power state and status (R599). -/
  | pstGet (m : Fin 8)
  /-- Ibsel MEM_STATUS returns a memory's owner, power and error state (R599). -/
  | memStatus (m : Fin 8)
  /-- Ibsel MEM_POWER sets a memory's power state (R599). -/
  | memPower (m : Fin 8)
  /-- Ibsel MEM_OWNER sets a memory's owner (R599). -/
  | memOwner (m : Fin 8)
  /-- Ibsel MEM_TEST sets the background test interval and enables (R599). -/
  | memTest (m : Fin 8)
  /-- Ibsel SUBMIT_EPOCH submits a cap epoch and returns its result (R599). -/
  | submitEpoch (m : Fin 8)
  /-- Ibsel GET_TRAVERSE returns ring state, sums and time offset (R599). -/
  | getTraverse (m : Fin 8)
  /-- Ibsel GET_TIME returns the timestamp (R599). -/
  | getTime (m : Fin 8)
  /-- A firmware write of BLK_WDT.KICK restarts the watchdog count (R600). -/
  | wdtKick
  /-- The watchdog count reaches 0 and resets the core (R601). -/
  | watchdogExpiry
  /-- A firmware write of BLK_CORE.CLK moves the core to the PLL clock if locked (R580). -/
  | coreClkSwitch (clk : Bool)
  /-- A core fetch or load meets an uncorrectable FW or DAT word and the core is reset (R581). -/
  | coreMemUncorr (dat : Bool) (addr : Nat)
  /-- A write of BLK_RST.CORE resets the core and answers its channels under R602 (R606). -/
  | blkRstCore (p : Port)
  /-- The core leaves reset within 2 us of its cause unless HOLD is 1 (R606). -/
  | coreResetExit
  /-- A write of BLK_RST.BLOCK starts a block reset, stopping every domain, or is refused (R607). -/
  | blkRstBlock (p : Port)
  /-- When every SS_DONE has cleared the block reset takes effect and aon_state reads 0b101 (R607). -/
  | blockResetEffect
  /-- A write of BLK_RST.IFACE starts an interface reset of mailboxes, enables and telemetry sequence (R604). -/
  | blkRstIface (p : Port)
  /-- The interface reset completes within 2 us and IFACE reads 0 (R605). -/
  | ifaceResetDone
  /-- A write of BLK_TRST.GO resets a tract's histories through internal open-hold, or is refused (R608). -/
  | blkTrstGo (p : Port) (t : Fin 64)
  /-- A write to MEM_OWNER hands a memory to a new owner once accesses drain, or is refused (R613). -/
  | memOwnerWrite (p : Port) (v : Word)
  /-- A write to MEM_PWR moves a memory between on, retention and off, or is refused (R615). -/
  | memPwrWrite (p : Port) (v : Word)
  /-- A memory finishes its return from retention or its zero fill from off (R615). -/
  | memPowerUpDone (k : Fin 6)
  /-- Each interval a 256-byte region of each enabled memory is saved, March-tested and restored, or skipped (R617). -/
  | memTestRegion (k : Fin 6) (idle : Bool) (fails : List (Nat × Ecc))
  /-- Benchmark calibration ends after 2 ms with its trim stored and a plat accepted (R621). -/
  | benchmarkCalDone (datumUv bandgapUv untrimmedUv : Nat)
  /-- A write of PLAT_LDATA_HI stores a whole FW or DAT word and advances WORD, or is refused (R626). -/
  | loaderWrite (p : Port) (v : Word)
  /-- A write of PLAT_CTL.GO starts check, apply and test of the plat, or is refused (R633). -/
  | platGo (p : Port)
  /-- Check, apply and test complete: the plat locks and the IB loop, traverse and rules start, or the load fails (R639). -/
  | platCheckDone
  /-- A write of 0 to BLK_CORE.HOLD after lock starts the firmware CRC check, or is refused (R640). -/
  | coreHoldClear (p : Port)
  /-- The firmware CRC completes and the core is released, or FW_CRC is set (R641). -/
  | fwCrcDone
  /-- When the previous ORDER group has reached SS_DONE or been passed over, the next group of START domains switches on (R642). -/
  | domainStartStep
  /-- The time source originates a SYNC frame at each timestamp that is a multiple of 5,000 ns plus 4,000 ns, writing its timestamp at the comma (R522). -/
  | syncSend
  /-- The 3 us quiet window after each 20,000 ns boundary ends and the frames a die held back (CAP, EPOCH, FAULT, CLAIM, STATE and others) are originated (R514). -/
  | quietWindowEnd
  /-- On a wake the fast oscillator reaches full operation, the management core starts executing at 400 MHz and a WAKEALL die sends its traverse wake burst (R305). -/
  | fastOscillatorStable
  deriving DecidableEq, Repr

end Sys2Proof
end

