-- ==== Sys2Proof/Decode.lean ====
section
/-!
DEFINITION. Commands spelt by a word: spec/opcode_table.json gives no row any bits, so no word spells a command. A command
comes to the block as a value of Instr in its queue.
-/

namespace Sys2Proof

/-- The command that a word spells by the bits of the opcode table: none, for the table gives no bits. -/
def decodeTableWord (_nbits _w : Nat) : Option Instr := none

end Sys2Proof
end

