-- ==== Sys2Proof/Config.lean ====
section
/-!
DEFINITION. What an instance fixes and the spec leaves open: constants with no body, so that no proof can see a value.
-/

namespace Sys2Proof.Config

/-- Which way a quotient is rounded whose rounding the spec does not state (site, dividend, divisor). -/
opaque roundsUp : Nat → Int → Int → Bool

/-- A natural number that the spec does not state, by the place that needs it and the operands there. -/
opaque openNat : Nat → List Int → Nat

end Sys2Proof.Config
end

