-- ==== Sys2Proof/Machine/RegMap.lean ====
section
/-!
DEFINITION. The register map of R647-R654: where each register of Tables 16.2-16.9 lies, which of its bits
carry which access code of Table 0.4, what it reads at reset, and where each field of the chapters' tables lies.
-/

namespace Sys2Proof.Machine

/-- A field of a register: the register's offset, the field's lowest bit and its width. -/
structure Fld where
  off : Nat
  lo : Nat
  width : Nat
  deriving DecidableEq, Repr

/-- A status bit of a register block: the block's position of R48 and the bit of XXX_STAT. -/
structure Ev where
  block : Nat
  bit : Nat
  deriving DecidableEq, Repr

/-- One row of Tables 16.3-16.9: the offset of its first register, its index ranges with their strides, the bits
of each access code, and the reset value of its first register. -/
structure RegRow where
  base : Nat
  count : Nat
  stride : Nat
  inner : Nat
  innerStride : Nat
  rw : Nat
  rwl : Nat
  w1c : Nat
  w1s : Nat
  reset : Nat
  deriving DecidableEq, Repr

/-! ### Offsets of the common registers, R648 and Table 16.2 -/

/-- Base of the BLK_ block, position 0 of R48. -/
abbrev BLK_BASE : Nat := 0x0
/-- Base of the PLAT_ block, position 1 of R48. -/
abbrev PLAT_BASE : Nat := 0x800
/-- Base of the CAD_ block, position 2 of R48. -/
abbrev CAD_BASE : Nat := 0x78000
/-- Base of the CEL_ block, position 3 of R48. -/
abbrev CEL_BASE : Nat := 0x10000
/-- Base of the STN_ block, position 4 of R48. -/
abbrev STN_BASE : Nat := 0x14000
/-- Base of the TRC_ block, position 5 of R48. -/
abbrev TRC_BASE : Nat := 0x20000
/-- Base of the SO_ block, position 6 of R48. -/
abbrev SO_BASE : Nat := 0x30000
/-- Base of the CG_ block, position 7 of R48. -/
abbrev CG_BASE : Nat := 0x38000
/-- Base of the ENV_ block, position 8 of R48. -/
abbrev ENV_BASE : Nat := 0x38800
/-- Base of the DOM_ block, position 9 of R48. -/
abbrev DOM_BASE : Nat := 0x40000
/-- Base of the PST_ block, position 10 of R48. -/
abbrev PST_BASE : Nat := 0x2000
/-- Base of the IBS_ block, position 11 of R48. -/
abbrev IBS_BASE : Nat := 0x48000
/-- Base of the THM_ block, position 12 of R48. -/
abbrev THM_BASE : Nat := 0x50000
/-- Base of the CAP_ block, position 13 of R48. -/
abbrev CAP_BASE : Nat := 0x58000
/-- Base of the NRG_ block, position 14 of R48. -/
abbrev NRG_BASE : Nat := 0x60000
/-- Base of the TLM_ block, position 15 of R48. -/
abbrev TLM_BASE : Nat := 0x64000
/-- Base of the ADC_ block, position 16 of R48. -/
abbrev ADC_BASE : Nat := 0x68000
/-- Base of the TRV_ block, position 17 of R48. -/
abbrev TRV_BASE : Nat := 0x70000
/-- Base of the FLT_ block, position 18 of R48. -/
abbrev FLT_BASE : Nat := 0x2800
/-- Base of the MBX_ block, position 19 of R48. -/
abbrev MBX_BASE : Nat := 0x1000
/-- Base of the MEM_ block, position 20 of R48. -/
abbrev MEM_BASE : Nat := 0x78800
/-- Base of the MON_ block, position 21 of R48. -/
abbrev MON_BASE : Nat := 0x2400

/-- The base of the register block at a position of R48 (Table 16.2). -/
def blockBase : Nat → Nat
  | 0 => 0x0
  | 1 => 0x800
  | 2 => 0x78000
  | 3 => 0x10000
  | 4 => 0x14000
  | 5 => 0x20000
  | 6 => 0x30000
  | 7 => 0x38000
  | 8 => 0x38800
  | 9 => 0x40000
  | 10 => 0x2000
  | 11 => 0x48000
  | 12 => 0x50000
  | 13 => 0x58000
  | 14 => 0x60000
  | 15 => 0x64000
  | 16 => 0x68000
  | 17 => 0x70000
  | 18 => 0x2800
  | 19 => 0x1000
  | 20 => 0x78800
  | 21 => 0x2400
  | _ => 0

/-- The reset value of the block's XXX_SEV (Table 16.2). -/
def sevReset : Nat → Nat
  | 0 => 0x6
  | 1 => 0x2FF
  | 2 => 0x5
  | 3 => 0x3A950
  | 4 => 0x49
  | 5 => 0xCE804
  | 6 => 0x154
  | 7 => 0x11
  | 8 => 0x44
  | 9 => 0x8
  | 10 => 0xD0
  | 11 => 0x38E9A44
  | 12 => 0x13E58
  | 13 => 0x1948
  | 14 => 0x108
  | 15 => 0x1
  | 16 => 0x900
  | 17 => 0x45124A
  | 18 => 0x60
  | 19 => 0x0
  | 20 => 0x28
  | 21 => 0x0
  | _ => 0

/-- The status bits of each block (the W1C bits of XXX_STAT). -/
def statMask : Nat → Nat
  | 0 => 0x7
  | 1 => 0x7F
  | 2 => 0x3
  | 3 => 0x1FF
  | 4 => 0xF
  | 5 => 0x3FF
  | 6 => 0x1FE
  | 7 => 0x7
  | 8 => 0xF
  | 9 => 0x3
  | 10 => 0xF
  | 11 => 0x1FFF
  | 12 => 0x1FF
  | 13 => 0x7F
  | 14 => 0x1F
  | 15 => 0x7
  | 16 => 0x1FF
  | 17 => 0xFFF
  | 18 => 0xF
  | 19 => 0x3
  | 20 => 0x1F
  | 21 => 0xFFFF
  | _ => 0

/-- The severity bits of each block (the RW bits of XXX_SEV): two for every status bit up to the highest. -/
def sevMask : Nat → Nat
  | 0 => 0x3F
  | 1 => 0x3FFF
  | 2 => 0xF
  | 3 => 0x3FFFF
  | 4 => 0xFF
  | 5 => 0xFFFFF
  | 6 => 0x3FFFF
  | 7 => 0x3F
  | 8 => 0xFF
  | 9 => 0xF
  | 10 => 0xFF
  | 11 => 0x3FFFFFF
  | 12 => 0x3FFFF
  | 13 => 0x3FFF
  | 14 => 0x3FF
  | 15 => 0x3F
  | 16 => 0x3FFFF
  | 17 => 0xFFFFFF
  | 18 => 0xFF
  | 19 => 0xF
  | 20 => 0x3FF
  | 21 => 0xFFFFFFFF
  | _ => 0

/-! ### Status bits -/

abbrev evBLK_RST_REFUSED : Ev := ⟨0, 2⟩
abbrev evBLK_CORE_RESET : Ev := ⟨0, 1⟩
abbrev evBLK_WDT : Ev := ⟨0, 0⟩
abbrev evPLAT_SEQ_REFUSED : Ev := ⟨1, 6⟩
abbrev evPLAT_DATUM_ABSENT : Ev := ⟨1, 5⟩
abbrev evPLAT_BM_RANGE : Ev := ⟨1, 4⟩
abbrev evPLAT_FW_CRC : Ev := ⟨1, 3⟩
abbrev evPLAT_INVALID : Ev := ⟨1, 2⟩
abbrev evPLAT_FORMAT : Ev := ⟨1, 1⟩
abbrev evPLAT_CRC : Ev := ⟨1, 0⟩
abbrev evCAD_LIMIT : Ev := ⟨2, 1⟩
abbrev evCAD_FW_DENIED : Ev := ⟨2, 0⟩
abbrev evCEL_DOM_OFF : Ev := ⟨3, 8⟩
abbrev evCEL_TRACT_LOST : Ev := ⟨3, 7⟩
abbrev evCEL_LATCHED : Ev := ⟨3, 6⟩
abbrev evCEL_OPEN : Ev := ⟨3, 5⟩
abbrev evCEL_SHORT_RUN : Ev := ⟨3, 4⟩
abbrev evCEL_SHORT_SS : Ev := ⟨3, 3⟩
abbrev evCEL_ZCD : Ev := ⟨3, 2⟩
abbrev evCEL_SHARE_SAT : Ev := ⟨3, 1⟩
abbrev evCEL_TGT_REFUSED : Ev := ⟨3, 0⟩
abbrev evSTN_CMP_STUCK : Ev := ⟨4, 3⟩
abbrev evSTN_SNAP_STORM : Ev := ⟨4, 2⟩
abbrev evSTN_CONSENSUS : Ev := ⟨4, 1⟩
abbrev evSTN_SUSPECT : Ev := ⟨4, 0⟩
abbrev evTRC_COEF_LOST : Ev := ⟨5, 9⟩
abbrev evTRC_FLOOR : Ev := ⟨5, 8⟩
abbrev evTRC_ENG_BOTH : Ev := ⟨5, 7⟩
abbrev evTRC_ENG_FAIL : Ev := ⟨5, 6⟩
abbrev evTRC_COEF_UNCORR : Ev := ⟨5, 5⟩
abbrev evTRC_COEF_CORR : Ev := ⟨5, 4⟩
abbrev evTRC_REFUSED : Ev := ⟨5, 3⟩
abbrev evTRC_HOLD_TIMEOUT : Ev := ⟨5, 2⟩
abbrev evTRC_RESIDUE : Ev := ⟨5, 1⟩
abbrev evTRC_LATE : Ev := ⟨5, 0⟩
abbrev evSO_LIFT_CLIP : Ev := ⟨6, 8⟩
abbrev evSO_QUEUE_OVF : Ev := ⟨6, 7⟩
abbrev evSO_FULL : Ev := ⟨6, 6⟩
abbrev evSO_STALE : Ev := ⟨6, 5⟩
abbrev evSO_MALFORMED : Ev := ⟨6, 4⟩
abbrev evSO_FETCH_TO : Ev := ⟨6, 3⟩
abbrev evSO_FETCH_ERR : Ev := ⟨6, 2⟩
abbrev evSO_WINDOW : Ev := ⟨6, 1⟩
abbrev evCG_INRUSH_SLOW : Ev := ⟨7, 2⟩
abbrev evCG_INRUSH_WAIT : Ev := ⟨7, 1⟩
abbrev evCG_REQ_OVF : Ev := ⟨7, 0⟩
abbrev evENV_BALLAST_SAT : Ev := ⟨8, 3⟩
abbrev evENV_BALLAST : Ev := ⟨8, 2⟩
abbrev evENV_HOLD : Ev := ⟨8, 1⟩
abbrev evENV_RISE_SLOW : Ev := ⟨8, 0⟩
abbrev evDOM_RET_LOW : Ev := ⟨9, 1⟩
abbrev evDOM_CMD_REFUSED : Ev := ⟨9, 0⟩
abbrev evPST_PLAT_LOST : Ev := ⟨10, 3⟩
abbrev evPST_WAKE_STUCK : Ev := ⟨10, 2⟩
abbrev evPST_ENTRY_ABORTED : Ev := ⟨10, 1⟩
abbrev evPST_ENTRY_REFUSED : Ev := ⟨10, 0⟩
abbrev evIBS_VIN_STOP : Ev := ⟨11, 12⟩
abbrev evIBS_VIN_SHED : Ev := ⟨11, 11⟩
abbrev evIBS_VIN_HIGH : Ev := ⟨11, 10⟩
abbrev evIBS_IB_FAIL : Ev := ⟨11, 9⟩
abbrev evIBS_IB_LOW : Ev := ⟨11, 8⟩
abbrev evIBS_IB_OV : Ev := ⟨11, 7⟩
abbrev evIBS_PH_HOT : Ev := ⟨11, 6⟩
abbrev evIBS_STAGE_FAULT : Ev := ⟨11, 5⟩
abbrev evIBS_PH_FAILED : Ev := ⟨11, 4⟩
abbrev evIBS_PH_SHORT : Ev := ⟨11, 3⟩
abbrev evIBS_LATE : Ev := ⟨11, 2⟩
abbrev evIBS_TRACK_RANGE : Ev := ⟨11, 1⟩
abbrev evIBS_TGT_CLIP : Ev := ⟨11, 0⟩
abbrev evTHM_CAL : Ev := ⟨12, 8⟩
abbrev evTHM_RESTARTED : Ev := ⟨12, 7⟩
abbrev evTHM_BACKUP : Ev := ⟨12, 6⟩
abbrev evTHM_SHUT : Ev := ⟨12, 5⟩
abbrev evTHM_CONSENSUS : Ev := ⟨12, 4⟩
abbrev evTHM_SUSPECT : Ev := ⟨12, 3⟩
abbrev evTHM_RATE : Ev := ⟨12, 2⟩
abbrev evTHM_THROT : Ev := ⟨12, 1⟩
abbrev evTHM_WARN : Ev := ⟨12, 0⟩
abbrev evCAP_DERATE : Ev := ⟨13, 6⟩
abbrev evCAP_GRADE_FAULT : Ev := ⟨13, 5⟩
abbrev evCAP_TALLY_DRIFT : Ev := ⟨13, 4⟩
abbrev evCAP_THR_STUCK : Ev := ⟨13, 3⟩
abbrev evCAP_PROMOTED : Ev := ⟨13, 2⟩
abbrev evCAP_UNATTAINABLE : Ev := ⟨13, 1⟩
abbrev evCAP_OVER : Ev := ⟨13, 0⟩
abbrev evNRG_LOST : Ev := ⟨14, 4⟩
abbrev evNRG_GAP : Ev := ⟨14, 3⟩
abbrev evNRG_NOMODEL : Ev := ⟨14, 2⟩
abbrev evNRG_SETTLE : Ev := ⟨14, 1⟩
abbrev evNRG_WRAP : Ev := ⟨14, 0⟩
abbrev evTLM_PMB_CML : Ev := ⟨15, 2⟩
abbrev evTLM_PUSH : Ev := ⟨15, 1⟩
abbrev evTLM_DROP : Ev := ⟨15, 0⟩
abbrev evADC_REFUSED : Ev := ⟨16, 8⟩
abbrev evADC_CAL_DONE : Ev := ⟨16, 7⟩
abbrev evADC_CAL_RANGE : Ev := ⟨16, 6⟩
abbrev evADC_CLOSURE : Ev := ⟨16, 5⟩
abbrev evADC_TRIG_LOST : Ev := ⟨16, 4⟩
abbrev evADC_INJ_DONE_B : Ev := ⟨16, 3⟩
abbrev evADC_INJ_DONE_A : Ev := ⟨16, 2⟩
abbrev evADC_SEQ_DONE_B : Ev := ⟨16, 1⟩
abbrev evADC_SEQ_DONE_A : Ev := ⟨16, 0⟩
abbrev evTRV_RELAY_TO : Ev := ⟨17, 11⟩
abbrev evTRV_REMOTE : Ev := ⟨17, 10⟩
abbrev evTRV_EPOCH_REFUSED : Ev := ⟨17, 9⟩
abbrev evTRV_EPOCH_LATE : Ev := ⟨17, 8⟩
abbrev evTRV_SUM_OVF : Ev := ⟨17, 7⟩
abbrev evTRV_TSYNC_LOST : Ev := ⟨17, 6⟩
abbrev evTRV_TAKEOVER : Ev := ⟨17, 5⟩
abbrev evTRV_PRINC_LOST : Ev := ⟨17, 4⟩
abbrev evTRV_CRC : Ev := ⟨17, 3⟩
abbrev evTRV_WRAP : Ev := ⟨17, 2⟩
abbrev evTRV_LANE_CCW : Ev := ⟨17, 1⟩
abbrev evTRV_LANE_CW : Ev := ⟨17, 0⟩
abbrev evFLT_BOOK_LOST : Ev := ⟨18, 3⟩
abbrev evFLT_DRIVE : Ev := ⟨18, 2⟩
abbrev evFLT_EXT_LOW : Ev := ⟨18, 1⟩
abbrev evFLT_ASSERTED : Ev := ⟨18, 0⟩
abbrev evMBX_PROTO : Ev := ⟨19, 1⟩
abbrev evMBX_GUARD : Ev := ⟨19, 0⟩
abbrev evMEM_REFUSED : Ev := ⟨20, 4⟩
abbrev evMEM_TEST_SKIP : Ev := ⟨20, 3⟩
abbrev evMEM_TEST_FAIL : Ev := ⟨20, 2⟩
abbrev evMEM_UNCORR : Ev := ⟨20, 1⟩
abbrev evMEM_CORR : Ev := ⟨20, 0⟩

/-! ### Offsets of the other registers, Tables 16.3-16.9 -/

abbrev BLK_ID : Nat := 0x10
abbrev BLK_RST : Nat := 0x14
abbrev BLK_TRST : Nat := 0x18
abbrev BLK_CORE : Nat := 0x1C
abbrev BLK_WDT : Nat := 0x20
abbrev PLAT_CTL : Nat := 0x810
abbrev PLAT_STATE : Nat := 0x814
abbrev PLAT_LADDR : Nat := 0x818
abbrev PLAT_LDATA_LO : Nat := 0x81C
abbrev PLAT_LDATA_HI : Nat := 0x820
abbrev PLAT_FWLEN : Nat := 0x824
abbrev PLAT_FWCRC : Nat := 0x828
abbrev PLAT_CRC : Nat := 0x82C
abbrev PLAT_BM : Nat := 0x830
abbrev PLAT_START : Nat := 0x834
abbrev PLAT_ERR : Nat := 0x838
abbrev MBX_DONE : Nat := 0x1010
abbrev MBX_DIEN : Nat := 0x1014
abbrev MBX_REQ (i j : Nat) : Nat := 0x1800 + 256 * i + 4 * j
abbrev MBX_RSP (i j : Nat) : Nat := 0x1840 + 256 * i + 4 * j
abbrev MBX_BELL (i : Nat) : Nat := 0x1880 + 256 * i
abbrev MBX_CST (i : Nat) : Nat := 0x1884 + 256 * i
abbrev PST_REQ : Nat := 0x2010
abbrev PST_STATE : Nat := 0x2014
abbrev PST_WAKE : Nat := 0x2018
abbrev PST_WTIMER : Nat := 0x201C
abbrev MON_ACTIVE : Nat := 0x2410
abbrev MON_RULE (i : Nat) : Nat := 0x2500 + 8 * i
abbrev MON_THR (i : Nat) : Nat := 0x2504 + 8 * i
abbrev MON_RVAL (i : Nat) : Nat := 0x2600 + 4 * i
abbrev FLT_CFG : Nat := 0x2810
abbrev FLT_PIN : Nat := 0x2814
abbrev FLT_LAST : Nat := 0x2818
abbrev FLT_SUM : Nat := 0x281C
abbrev FLT_COUNT : Nat := 0x2820
abbrev FLT_CTL : Nat := 0x2824
abbrev FLT_LOG : Nat := 0x2828
abbrev CEL_CTL : Nat := 0x10010
abbrev CEL_LL : Nat := 0x10014
abbrev CEL_SHARE_CFG : Nat := 0x10018
abbrev CEL_FAILED (i : Nat) : Nat := 0x10020 + 4 * i
abbrev CEL_DSTART (i : Nat) : Nat := 0x10100 + 4 * i
abbrev CEL_DSTOP (i : Nat) : Nat := 0x10180 + 4 * i
abbrev CEL_CFG (i : Nat) : Nat := 0x11000 + 16 * i
abbrev CEL_CSTAT (i : Nat) : Nat := 0x11004 + 16 * i
abbrev CEL_MEAS (i : Nat) : Nat := 0x11008 + 16 * i
abbrev CEL_TEMP (i : Nat) : Nat := 0x1100C + 16 * i
abbrev STN_THR (i : Nat) : Nat := 0x15000 + 16 * i
abbrev STN_EN (i : Nat) : Nat := 0x15004 + 16 * i
abbrev STN_SUSP (i : Nat) : Nat := 0x15008 + 16 * i
abbrev STN_MIN (i : Nat) : Nat := 0x1500C + 16 * i
abbrev STN_SNAP_CNT (i : Nat) : Nat := 0x16000 + 4 * i
abbrev STN_VAL (i : Nat) : Nat := 0x18000 + 4 * i
abbrev TRC_LATE_CNT : Nat := 0x20010
abbrev TRC_ENG : Nat := 0x20014
abbrev TRC_IBS : Nat := 0x20018
abbrev TRC_NORM : Nat := 0x2001C
abbrev TRC_CTL (i : Nat) : Nat := 0x21000 + 32 * i
abbrev TRC_TSTAT (i : Nat) : Nat := 0x21004 + 32 * i
abbrev TRC_LIM (i : Nat) : Nat := 0x21008 + 32 * i
abbrev TRC_FLOOR (i : Nat) : Nat := 0x2100C + 32 * i
abbrev TRC_DUTY (i : Nat) : Nat := 0x21010 + 32 * i
abbrev TRC_UOUT (i : Nat) : Nat := 0x21014 + 32 * i
abbrev TRC_IMEAS (i : Nat) : Nat := 0x21018 + 32 * i
abbrev TRC_OPEN (i : Nat) : Nat := 0x2101C + 32 * i
abbrev SO_CTL : Nat := 0x30010
abbrev SO_CFG : Nat := 0x30014
abbrev SO_WIN_BASE : Nat := 0x30018
abbrev SO_WIN_LIMIT : Nat := 0x3001C
abbrev SO_GEN : Nat := 0x30020
abbrev SO_PEG_DROP : Nat := 0x30024
abbrev SO_LOAD : Nat := 0x30028
abbrev SO_PEGMAP (i : Nat) : Nat := 0x30100 + 4 * i
abbrev SO_ACC_USED (i : Nat) : Nat := 0x30200 + 4 * i
abbrev SO_ACC_STALE (i : Nat) : Nat := 0x30240 + 4 * i
abbrev SO_TIME_EARLY (i : Nat) : Nat := 0x30280 + 4 * i
abbrev SO_TIME_SHORT (i : Nat) : Nat := 0x302C0 + 4 * i
abbrev SO_TIME_MISS (i : Nat) : Nat := 0x30300 + 4 * i
abbrev SO_DLIFT (i : Nat) : Nat := 0x30400 + 4 * i
abbrev SO_TRK_PATH (i : Nat) : Nat := 0x31000 + 16 * i
abbrev SO_TRK_FF (i : Nat) : Nat := 0x31004 + 16 * i
abbrev SO_TRK_STAT (i : Nat) : Nat := 0x31008 + 16 * i
abbrev CG_CFG : Nat := 0x38010
abbrev CG_INRUSH : Nat := 0x38014
abbrev CG_LINK_CNT : Nat := 0x38018
abbrev CG_STAG (i : Nat) : Nat := 0x38100 + 4 * i
abbrev ENV_CTL : Nat := 0x38810
abbrev ENV_CFG : Nat := 0x38814
abbrev ENV_PWR : Nat := 0x38818
abbrev ENV_OUT : Nat := 0x3881C
abbrev CG_TRK (i : Nat) : Nat := 0x39000 + 16 * i
abbrev CG_TSTAT (i : Nat) : Nat := 0x39004 + 16 * i
abbrev DOM_GCFG : Nat := 0x40010
abbrev DOM_MAP (i : Nat) : Nat := 0x40100 + 4 * i
abbrev DOM_CFG (i : Nat) : Nat := 0x40200 + 4 * i
abbrev DOM_CTL (i : Nat) : Nat := 0x40300 + 4 * i
abbrev DOM_VSET (i : Nat) : Nat := 0x40380 + 4 * i
abbrev DOM_DSTAT (i : Nat) : Nat := 0x40400 + 4 * i
abbrev IBS_CTL : Nat := 0x48010
abbrev IBS_STATE : Nat := 0x48014
abbrev IBS_TGT : Nat := 0x48018
abbrev IBS_MEAS : Nat := 0x4801C
abbrev IBS_VSEL (i : Nat) : Nat := 0x48020 + 4 * i
abbrev IBS_TRACK : Nat := 0x48040
abbrev IBS_SS : Nat := 0x48044
abbrev IBS_LIM : Nat := 0x48048
abbrev IBS_GAIN : Nat := 0x4804C
abbrev IBS_VDRAW : Nat := 0x48050
abbrev IBS_SHED : Nat := 0x48054
abbrev IBS_SHARE : Nat := 0x48058
abbrev IBS_HYS : Nat := 0x4805C
abbrev IBS_KA : Nat := 0x48060
abbrev IBS_VIN : Nat := 0x48064
abbrev IBS_OFS : Nat := 0x48068
abbrev IBS_LATE_CNT : Nat := 0x4806C
abbrev IBS_COEF (i : Nat) : Nat := 0x48080 + 4 * i
abbrev IBS_PCFG (i : Nat) : Nat := 0x48100 + 16 * i
abbrev IBS_PSTAT (i : Nat) : Nat := 0x48104 + 16 * i
abbrev IBS_PMEAS (i : Nat) : Nat := 0x48108 + 16 * i
abbrev THM_THR : Nat := 0x50010
abbrev THM_HYS : Nat := 0x50014
abbrev THM_TCFG : Nat := 0x50018
abbrev THM_RATE : Nat := 0x5001C
abbrev THM_CFG : Nat := 0x50020
abbrev THM_CAL : Nat := 0x50024
abbrev THM_STATE : Nat := 0x50028
abbrev THM_SUSP0 : Nat := 0x50030
abbrev THM_SUSP1 : Nat := 0x50034
abbrev THM_COMP (i : Nat) : Nat := 0x50040 + 4 * i
abbrev THM_SITE (i : Nat) : Nat := 0x51000 + 16 * i
abbrev THM_GRAD (i : Nat) : Nat := 0x51004 + 16 * i
abbrev THM_TDUTY (i : Nat) : Nat := 0x51008 + 16 * i
abbrev THM_RAW (i : Nat) : Nat := 0x5100C + 16 * i
abbrev CAP_CTL : Nat := 0x58010
abbrev CAP_PKG : Nat := 0x58014
abbrev CAP_DIE : Nat := 0x58018
abbrev CAP_SHARE : Nat := 0x5801C
abbrev CAP_EST : Nat := 0x58020
abbrev CAP_SHORT : Nat := 0x58024
abbrev CAP_PRIO : Nat := 0x58028
abbrev CAP_AGE : Nat := 0x5802C
abbrev CAP_TALLY : Nat := 0x58030
abbrev CAP_CFG : Nat := 0x58034
abbrev CAP_THR : Nat := 0x58038
abbrev CAP_GRD_STRAY : Nat := 0x5803C
abbrev CAP_CLS (i : Nat) : Nat := 0x58040 + 4 * i
abbrev CAP_CBUD (i : Nat) : Nat := 0x58050 + 4 * i
abbrev CAP_CGAIN (i : Nat) : Nat := 0x58060 + 4 * i
abbrev CAP_CSTATE (i : Nat) : Nat := 0x58070 + 4 * i
abbrev CAP_DGRADE (i : Nat) : Nat := 0x58100 + 4 * i
abbrev CAP_GTAB (i j : Nat) : Nat := 0x58200 + 64 * i + 4 * j
abbrev CAP_LEAK (i : Nat) : Nat := 0x58300 + 4 * i
abbrev CAP_WGT (i : Nat) : Nat := 0x58400 + 4 * i
abbrev NRG_CTL : Nat := 0x60010
abbrev NRG_CLR : Nat := 0x60014
abbrev NRG_EMS : Nat := 0x60018
abbrev NRG_SET : Nat := 0x6001C
abbrev NRG_PART_LO (i : Nat) : Nat := 0x60100 + 8 * i
abbrev NRG_PART_HI (i : Nat) : Nat := 0x60104 + 8 * i
abbrev NRG_DCUR (i : Nat) : Nat := 0x60200 + 4 * i
abbrev NRG_WATCH (i : Nat) : Nat := 0x60280 + 4 * i
abbrev NRG_WMIN (i : Nat) : Nat := 0x60300 + 16 * i
abbrev NRG_WTS_LO (i : Nat) : Nat := 0x60304 + 16 * i
abbrev NRG_WTS_HI (i : Nat) : Nat := 0x60308 + 16 * i
abbrev NRG_SFLAG (i : Nat) : Nat := 0x60400 + 4 * i
abbrev NRG_SBASE (i : Nat) : Nat := 0x61000 + 8 * i
abbrev NRG_SMEAS (i : Nat) : Nat := 0x61004 + 8 * i
abbrev TLM_CTL : Nat := 0x64010
abbrev TLM_BASE_LO : Nat := 0x64014
abbrev TLM_BASE_HI : Nat := 0x64018
abbrev TLM_COUNT : Nat := 0x6401C
abbrev TLM_SEQ : Nat := 0x64020
abbrev TLM_DROP : Nat := 0x64024
abbrev TLM_PMB : Nat := 0x64028
abbrev ADC_CFG : Nat := 0x68010
abbrev ADC_STATE : Nat := 0x68014
abbrev ADC_CLOSURE : Nat := 0x68018
abbrev ADC_CALCMD : Nat := 0x6801C
abbrev ADC_CALTGT : Nat := 0x68020
abbrev ADC_TMR : Nat := 0x68024
abbrev ADC_SEQ (i : Nat) : Nat := 0x68100 + 512 * i
abbrev ADC_INJ (i : Nat) : Nat := 0x68104 + 512 * i
abbrev ADC_SSTAT (i : Nat) : Nat := 0x68108 + 512 * i
abbrev ADC_TSTART (i : Nat) : Nat := 0x6810C + 512 * i
abbrev ADC_SLOT (i j : Nat) : Nat := 0x68140 + 512 * i + 4 * j
abbrev ADC_ISLOT (i j : Nat) : Nat := 0x68180 + 512 * i + 4 * j
abbrev ADC_RES (i j : Nat) : Nat := 0x68200 + 512 * i + 4 * j
abbrev ADC_IRES (i j : Nat) : Nat := 0x68240 + 512 * i + 4 * j
abbrev ADC_CAL (i j : Nat) : Nat := 0x68800 + 256 * i + 4 * j
abbrev TRV_CFG : Nat := 0x70010
abbrev TRV_STATE : Nat := 0x70014
abbrev TRV_HOP : Nat := 0x70018
abbrev TRV_ERR : Nat := 0x7001C
abbrev TRV_TOFS : Nat := 0x70020
abbrev TRV_PSUM : Nat := 0x70024
abbrev TRV_REMOTE : Nat := 0x70028
abbrev TRV_TIME_LO : Nat := 0x70030
abbrev TRV_TIME_HI : Nat := 0x70034
abbrev TRV_EPOCH_CAP : Nat := 0x70040
abbrev TRV_EPOCH_TS_LO : Nat := 0x70044
abbrev TRV_EPOCH_TS_HI : Nat := 0x70048
abbrev TRV_EPOCH_GO : Nat := 0x7004C
abbrev TRV_EPOCH_STAT : Nat := 0x70050
abbrev CAD_LOCK : Nat := 0x78010
abbrev CAD_SLEW : Nat := 0x78014
abbrev CAD_TRC : Nat := 0x78018
abbrev CAD_THM : Nat := 0x7801C
abbrev CAD_IB : Nat := 0x78020
abbrev CAD_IBPH : Nat := 0x78024
abbrev CAD_FWPERM : Nat := 0x78028
abbrev CAD_GRADE (i : Nat) : Nat := 0x78030 + 4 * i
abbrev CAD_DOM (i : Nat) : Nat := 0x78100 + 4 * i
abbrev MEM_OWNER : Nat := 0x78810
abbrev MEM_PWR : Nat := 0x78814
abbrev MEM_TEST : Nat := 0x78818
abbrev MEM_MSTAT (i : Nat) : Nat := 0x78820 + 4 * i

/-! ### Fields -/

abbrev fBLK_ID_PART : Fld := ⟨BLK_ID, 16, 16⟩
abbrev fBLK_ID_RELEASE : Fld := ⟨BLK_ID, 0, 16⟩
abbrev fBLK_RST_BLOCK : Fld := ⟨BLK_RST, 2, 1⟩
abbrev fBLK_RST_CORE : Fld := ⟨BLK_RST, 1, 1⟩
abbrev fBLK_RST_IFACE : Fld := ⟨BLK_RST, 0, 1⟩
abbrev fBLK_TRST_GO : Fld := ⟨BLK_TRST, 31, 1⟩
abbrev fBLK_TRST_BUSY : Fld := ⟨BLK_TRST, 30, 1⟩
abbrev fBLK_TRST_TRACT : Fld := ⟨BLK_TRST, 0, 6⟩
abbrev fBLK_CORE_RESETS : Fld := ⟨BLK_CORE, 24, 8⟩
abbrev fBLK_CORE_READY : Fld := ⟨BLK_CORE, 3, 1⟩
abbrev fBLK_CORE_HOLD : Fld := ⟨BLK_CORE, 2, 1⟩
abbrev fBLK_CORE_CLK : Fld := ⟨BLK_CORE, 1, 1⟩
abbrev fBLK_CORE_RUNNING : Fld := ⟨BLK_CORE, 0, 1⟩
abbrev fBLK_WDT_KICK : Fld := ⟨BLK_WDT, 31, 1⟩
abbrev fBLK_WDT_COUNT : Fld := ⟨BLK_WDT, 0, 14⟩
abbrev fPLAT_CTL_GO : Fld := ⟨PLAT_CTL, 0, 1⟩
abbrev fPLAT_STATE_PHASE : Fld := ⟨PLAT_STATE, 29, 3⟩
abbrev fPLAT_STATE_BMDONE : Fld := ⟨PLAT_STATE, 28, 1⟩
abbrev fPLAT_STATE_FWOK : Fld := ⟨PLAT_STATE, 27, 1⟩
abbrev fPLAT_STATE_STARTING : Fld := ⟨PLAT_STATE, 26, 1⟩
abbrev fPLAT_LADDR_MEM : Fld := ⟨PLAT_LADDR, 28, 1⟩
abbrev fPLAT_LADDR_WORD : Fld := ⟨PLAT_LADDR, 0, 16⟩
abbrev fPLAT_LDATA_LO_DATA : Fld := ⟨PLAT_LDATA_LO, 0, 32⟩
abbrev fPLAT_LDATA_HI_DATA : Fld := ⟨PLAT_LDATA_HI, 0, 32⟩
abbrev fPLAT_FWLEN_LEN : Fld := ⟨PLAT_FWLEN, 0, 20⟩
abbrev fPLAT_FWCRC_CRC : Fld := ⟨PLAT_FWCRC, 0, 32⟩
abbrev fPLAT_CRC_CRC : Fld := ⟨PLAT_CRC, 0, 32⟩
abbrev fPLAT_BM_DATUM : Fld := ⟨PLAT_BM, 16, 1⟩
abbrev fPLAT_BM_TRIM : Fld := ⟨PLAT_BM, 0, 10⟩
abbrev fPLAT_START_MASK : Fld := ⟨PLAT_START, 0, 32⟩
abbrev fPLAT_ERR_OFFSET : Fld := ⟨PLAT_ERR, 0, 32⟩
abbrev fMBX_DONE_DONE : Fld := ⟨MBX_DONE, 0, 8⟩
abbrev fMBX_DIEN_EN : Fld := ⟨MBX_DIEN, 0, 8⟩
abbrev fMBX_REQ_WORD (i j : Nat) : Fld := ⟨MBX_REQ i j, 0, 32⟩
abbrev fMBX_RSP_WORD (i j : Nat) : Fld := ⟨MBX_RSP i j, 0, 32⟩
abbrev fMBX_BELL_RING (i : Nat) : Fld := ⟨MBX_BELL i, 0, 1⟩
abbrev fMBX_CST_STATE (i : Nat) : Fld := ⟨MBX_CST i, 8, 3⟩
abbrev fMBX_CST_CODE (i : Nat) : Fld := ⟨MBX_CST i, 0, 3⟩
abbrev fPST_REQ_GO : Fld := ⟨PST_REQ, 3, 1⟩
abbrev fPST_REQ_TARGET : Fld := ⟨PST_REQ, 0, 3⟩
abbrev fPST_STATE_LASTWAKE : Fld := ⟨PST_STATE, 4, 4⟩
abbrev fPST_STATE_ENTERING : Fld := ⟨PST_STATE, 3, 1⟩
abbrev fPST_STATE_STATE : Fld := ⟨PST_STATE, 0, 3⟩
abbrev fPST_WAKE_MONUMENT_EN : Fld := ⟨PST_WAKE, 6, 1⟩
abbrev fPST_WAKE_PMBUS_EN : Fld := ⟨PST_WAKE, 5, 1⟩
abbrev fPST_WAKE_TRAVERSE_EN : Fld := ⟨PST_WAKE, 4, 1⟩
abbrev fPST_WAKE_DOORBELL_EN : Fld := ⟨PST_WAKE, 3, 1⟩
abbrev fPST_WAKE_TIMER_EN : Fld := ⟨PST_WAKE, 2, 1⟩
abbrev fPST_WAKE_WAKE_N_LEVEL : Fld := ⟨PST_WAKE, 1, 1⟩
abbrev fPST_WAKE_WAKE_N_EN : Fld := ⟨PST_WAKE, 0, 1⟩
abbrev fPST_WTIMER_COUNT : Fld := ⟨PST_WTIMER, 0, 32⟩
abbrev fMON_ACTIVE_ACT : Fld := ⟨MON_ACTIVE, 0, 16⟩
abbrev fMON_RULE_CH (i : Nat) : Fld := ⟨MON_RULE i, 28, 4⟩
abbrev fMON_RULE_CMP (i : Nat) : Fld := ⟨MON_RULE i, 27, 1⟩
abbrev fMON_RULE_ACT (i : Nat) : Fld := ⟨MON_RULE i, 24, 3⟩
abbrev fMON_RULE_STATES (i : Nat) : Fld := ⟨MON_RULE i, 19, 5⟩
abbrev fMON_RULE_FSHIFT (i : Nat) : Fld := ⟨MON_RULE i, 16, 3⟩
abbrev fMON_RULE_COUNT (i : Nat) : Fld := ⟨MON_RULE i, 8, 8⟩
abbrev fMON_RULE_HYST (i : Nat) : Fld := ⟨MON_RULE i, 0, 8⟩
abbrev fMON_THR_THR (i : Nat) : Fld := ⟨MON_THR i, 0, 16⟩
abbrev fMON_RVAL_Y (i : Nat) : Fld := ⟨MON_RVAL i, 0, 16⟩
abbrev fFLT_CFG_REMOTE : Fld := ⟨FLT_CFG, 16, 1⟩
abbrev fFLT_CFG_PULSE : Fld := ⟨FLT_CFG, 8, 8⟩
abbrev fFLT_CFG_PSEV : Fld := ⟨FLT_CFG, 0, 2⟩
abbrev fFLT_PIN_LEVEL : Fld := ⟨FLT_PIN, 3, 1⟩
abbrev fFLT_PIN_PULSE : Fld := ⟨FLT_PIN, 2, 1⟩
abbrev fFLT_PIN_DRIVE : Fld := ⟨FLT_PIN, 1, 1⟩
abbrev fFLT_PIN_HOLD : Fld := ⟨FLT_PIN, 0, 1⟩
abbrev fFLT_LAST_DIE : Fld := ⟨FLT_LAST, 29, 3⟩
abbrev fFLT_LAST_BLOCK : Fld := ⟨FLT_LAST, 24, 5⟩
abbrev fFLT_LAST_BIT : Fld := ⟨FLT_LAST, 19, 5⟩
abbrev fFLT_LAST_SEV : Fld := ⟨FLT_LAST, 17, 2⟩
abbrev fFLT_LAST_REMOTE : Fld := ⟨FLT_LAST, 16, 1⟩
abbrev fFLT_LAST_INDEX : Fld := ⟨FLT_LAST, 0, 16⟩
abbrev fFLT_SUM_ACTIVE : Fld := ⟨FLT_SUM, 0, 22⟩
abbrev fFLT_COUNT_COUNT : Fld := ⟨FLT_COUNT, 0, 32⟩
abbrev fFLT_CTL_CLR : Fld := ⟨FLT_CTL, 0, 1⟩
abbrev fFLT_LOG_WRAPPED : Fld := ⟨FLT_LOG, 31, 1⟩
abbrev fFLT_LOG_NEXT : Fld := ⟨FLT_LOG, 0, 13⟩
abbrev fCEL_CTL_DEADTIME : Fld := ⟨CEL_CTL, 0, 8⟩
abbrev fCEL_LL_EXIT : Fld := ⟨CEL_LL, 16, 8⟩
abbrev fCEL_LL_ENTRY : Fld := ⟨CEL_LL, 8, 8⟩
abbrev fCEL_LL_HBAND : Fld := ⟨CEL_LL, 0, 8⟩
abbrev fCEL_SHARE_CFG_MAXSHED : Fld := ⟨CEL_SHARE_CFG, 8, 8⟩
abbrev fCEL_SHARE_CFG_GAIN : Fld := ⟨CEL_SHARE_CFG, 0, 8⟩
abbrev fCEL_FAILED_FAILED (i : Nat) : Fld := ⟨CEL_FAILED i, 0, 32⟩
abbrev fCEL_DSTART_SLEW (i : Nat) : Fld := ⟨CEL_DSTART i, 19, 8⟩
abbrev fCEL_DSTART_RAMP (i : Nat) : Fld := ⟨CEL_DSTART i, 10, 9⟩
abbrev fCEL_DSTART_DELAY (i : Nat) : Fld := ⟨CEL_DSTART i, 0, 10⟩
abbrev fCEL_DSTOP_RAMP (i : Nat) : Fld := ⟨CEL_DSTOP i, 10, 9⟩
abbrev fCEL_DSTOP_DELAY (i : Nat) : Fld := ⟨CEL_DSTOP i, 0, 10⟩
abbrev fCEL_CFG_EN (i : Nat) : Fld := ⟨CEL_CFG i, 15, 1⟩
abbrev fCEL_CFG_OFFSET (i : Nat) : Fld := ⟨CEL_CFG i, 8, 6⟩
abbrev fCEL_CFG_APPLIED (i : Nat) : Fld := ⟨CEL_CFG i, 0, 6⟩
abbrev fCEL_CSTAT_MODE (i : Nat) : Fld := ⟨CEL_CSTAT i, 29, 3⟩
abbrev fCEL_CSTAT_RETRY (i : Nat) : Fld := ⟨CEL_CSTAT i, 27, 2⟩
abbrev fCEL_CSTAT_LIMIT (i : Nat) : Fld := ⟨CEL_CSTAT i, 26, 1⟩
abbrev fCEL_CSTAT_CAUSE (i : Nat) : Fld := ⟨CEL_CSTAT i, 25, 1⟩
abbrev fCEL_CSTAT_SS_DONE (i : Nat) : Fld := ⟨CEL_CSTAT i, 24, 1⟩
abbrev fCEL_CSTAT_PRESENT (i : Nat) : Fld := ⟨CEL_CSTAT i, 10, 10⟩
abbrev fCEL_CSTAT_TARGET (i : Nat) : Fld := ⟨CEL_CSTAT i, 0, 10⟩
abbrev fCEL_MEAS_IMAX (i : Nat) : Fld := ⟨CEL_MEAS i, 16, 16⟩
abbrev fCEL_MEAS_IAVG (i : Nat) : Fld := ⟨CEL_MEAS i, 0, 16⟩
abbrev fCEL_TEMP_SHED (i : Nat) : Fld := ⟨CEL_TEMP i, 16, 8⟩
abbrev fCEL_TEMP_TEST (i : Nat) : Fld := ⟨CEL_TEMP i, 0, 16⟩
abbrev fSTN_THR_THR (i : Nat) : Fld := ⟨STN_THR i, 0, 7⟩
abbrev fSTN_EN_EN (i : Nat) : Fld := ⟨STN_EN i, 0, 16⟩
abbrev fSTN_SUSP_SUSP (i : Nat) : Fld := ⟨STN_SUSP i, 0, 16⟩
abbrev fSTN_MIN_CODE (i : Nat) : Fld := ⟨STN_MIN i, 16, 10⟩
abbrev fSTN_MIN_IDX (i : Nat) : Fld := ⟨STN_MIN i, 0, 4⟩
abbrev fSTN_SNAP_CNT_COUNT (i : Nat) : Fld := ⟨STN_SNAP_CNT i, 0, 32⟩
abbrev fSTN_VAL_OVR (i : Nat) : Fld := ⟨STN_VAL i, 11, 1⟩
abbrev fSTN_VAL_UND (i : Nat) : Fld := ⟨STN_VAL i, 10, 1⟩
abbrev fSTN_VAL_CODE (i : Nat) : Fld := ⟨STN_VAL i, 0, 10⟩
abbrev fTRC_LATE_CNT_COUNT : Fld := ⟨TRC_LATE_CNT, 0, 32⟩
abbrev fTRC_ENG_STALLS : Fld := ⟨TRC_ENG, 16, 8⟩
abbrev fTRC_ENG_BOTH : Fld := ⟨TRC_ENG, 3, 1⟩
abbrev fTRC_ENG_FAILOVER : Fld := ⟨TRC_ENG, 2, 1⟩
abbrev fTRC_ENG_EAST_FAIL : Fld := ⟨TRC_ENG, 1, 1⟩
abbrev fTRC_ENG_WEST_FAIL : Fld := ⟨TRC_ENG, 0, 1⟩
abbrev fTRC_IBS_KS : Fld := ⟨TRC_IBS, 16, 16⟩
abbrev fTRC_IBS_FLOOR : Fld := ⟨TRC_IBS, 0, 11⟩
abbrev fTRC_NORM_VIB : Fld := ⟨TRC_NORM, 16, 11⟩
abbrev fTRC_NORM_K : Fld := ⟨TRC_NORM, 0, 16⟩
abbrev fTRC_CTL_SET (i : Nat) : Fld := ⟨TRC_CTL i, 0, 1⟩
abbrev fTRC_TSTAT_STATE (i : Nat) : Fld := ⟨TRC_TSTAT i, 29, 3⟩
abbrev fTRC_TSTAT_WIN (i : Nat) : Fld := ⟨TRC_TSTAT i, 27, 2⟩
abbrev fTRC_TSTAT_CLAMP (i : Nat) : Fld := ⟨TRC_TSTAT i, 26, 1⟩
abbrev fTRC_TSTAT_FROZEN (i : Nat) : Fld := ⟨TRC_TSTAT i, 25, 1⟩
abbrev fTRC_TSTAT_SET (i : Nat) : Fld := ⟨TRC_TSTAT i, 24, 1⟩
abbrev fTRC_TSTAT_RATE (i : Nat) : Fld := ⟨TRC_TSTAT i, 23, 1⟩
abbrev fTRC_TSTAT_LATE (i : Nat) : Fld := ⟨TRC_TSTAT i, 22, 1⟩
abbrev fTRC_TSTAT_ENGINE (i : Nat) : Fld := ⟨TRC_TSTAT i, 21, 1⟩
abbrev fTRC_TSTAT_LANE (i : Nat) : Fld := ⟨TRC_TSTAT i, 20, 1⟩
abbrev fTRC_TSTAT_PARITY (i : Nat) : Fld := ⟨TRC_TSTAT i, 19, 1⟩
abbrev fTRC_TSTAT_POS (i : Nat) : Fld := ⟨TRC_TSTAT i, 15, 4⟩
abbrev fTRC_TSTAT_AGE (i : Nat) : Fld := ⟨TRC_TSTAT i, 8, 7⟩
abbrev fTRC_LIM_KC (i : Nat) : Fld := ⟨TRC_LIM i, 16, 16⟩
abbrev fTRC_LIM_ILIM (i : Nat) : Fld := ⟨TRC_LIM i, 0, 9⟩
abbrev fTRC_FLOOR_DEPTH (i : Nat) : Fld := ⟨TRC_FLOOR i, 0, 8⟩
abbrev fTRC_DUTY_DUTY (i : Nat) : Fld := ⟨TRC_DUTY i, 0, 12⟩
abbrev fTRC_UOUT_U1 (i : Nat) : Fld := ⟨TRC_UOUT i, 0, 24⟩
abbrev fTRC_IMEAS_I (i : Nat) : Fld := ⟨TRC_IMEAS i, 0, 16⟩
abbrev fTRC_OPEN_CLOSE (i : Nat) : Fld := ⟨TRC_OPEN i, 1, 1⟩
abbrev fTRC_OPEN_OPEN (i : Nat) : Fld := ⟨TRC_OPEN i, 0, 1⟩
abbrev fSO_CTL_CLR : Fld := ⟨SO_CTL, 1, 1⟩
abbrev fSO_CTL_EN : Fld := ⟨SO_CTL, 0, 1⟩
abbrev fSO_CFG_GRACE : Fld := ⟨SO_CFG, 16, 8⟩
abbrev fSO_CFG_LIFT_MAX : Fld := ⟨SO_CFG, 0, 8⟩
abbrev fSO_WIN_BASE_ADDR : Fld := ⟨SO_WIN_BASE, 0, 32⟩
abbrev fSO_WIN_LIMIT_ADDR : Fld := ⟨SO_WIN_LIMIT, 0, 32⟩
abbrev fSO_GEN_VALID : Fld := ⟨SO_GEN, 16, 1⟩
abbrev fSO_GEN_GEN : Fld := ⟨SO_GEN, 0, 16⟩
abbrev fSO_PEG_DROP_COUNT : Fld := ⟨SO_PEG_DROP, 0, 32⟩
abbrev fSO_LOAD_RESIDENT : Fld := ⟨SO_LOAD, 16, 12⟩
abbrev fSO_LOAD_QUEUE : Fld := ⟨SO_LOAD, 8, 8⟩
abbrev fSO_LOAD_INFLIGHT : Fld := ⟨SO_LOAD, 0, 6⟩
abbrev fSO_PEGMAP_EN (i : Nat) : Fld := ⟨SO_PEGMAP i, 16, 1⟩
abbrev fSO_PEGMAP_BIAS (i : Nat) : Fld := ⟨SO_PEGMAP i, 0, 16⟩
abbrev fSO_ACC_USED_COUNT (i : Nat) : Fld := ⟨SO_ACC_USED i, 0, 32⟩
abbrev fSO_ACC_STALE_COUNT (i : Nat) : Fld := ⟨SO_ACC_STALE i, 0, 32⟩
abbrev fSO_TIME_EARLY_COUNT (i : Nat) : Fld := ⟨SO_TIME_EARLY i, 0, 32⟩
abbrev fSO_TIME_SHORT_COUNT (i : Nat) : Fld := ⟨SO_TIME_SHORT i, 0, 32⟩
abbrev fSO_TIME_MISS_COUNT (i : Nat) : Fld := ⟨SO_TIME_MISS i, 0, 32⟩
abbrev fSO_DLIFT_INST (i : Nat) : Fld := ⟨SO_DLIFT i, 16, 8⟩
abbrev fSO_DLIFT_LIFT (i : Nat) : Fld := ⟨SO_DLIFT i, 0, 8⟩
abbrev fSO_TRK_PATH_LPATH (i : Nat) : Fld := ⟨SO_TRK_PATH i, 16, 16⟩
abbrev fSO_TRK_PATH_RPATH (i : Nat) : Fld := ⟨SO_TRK_PATH i, 0, 16⟩
abbrev fSO_TRK_FF_KFF (i : Nat) : Fld := ⟨SO_TRK_FF i, 0, 16⟩
abbrev fSO_TRK_STAT_DI (i : Nat) : Fld := ⟨SO_TRK_STAT i, 16, 16⟩
abbrev fSO_TRK_STAT_FFPEND (i : Nat) : Fld := ⟨SO_TRK_STAT i, 0, 16⟩
abbrev fCG_CFG_QUIET : Fld := ⟨CG_CFG, 16, 8⟩
abbrev fCG_CFG_PSLOT : Fld := ⟨CG_CFG, 8, 8⟩
abbrev fCG_CFG_SPAN : Fld := ⟨CG_CFG, 0, 8⟩
abbrev fCG_INRUSH_INT : Fld := ⟨CG_INRUSH, 23, 9⟩
abbrev fCG_INRUSH_WAIT : Fld := ⟨CG_INRUSH, 8, 10⟩
abbrev fCG_INRUSH_THRESH : Fld := ⟨CG_INRUSH, 0, 8⟩
abbrev fCG_LINK_CNT_COUNT : Fld := ⟨CG_LINK_CNT, 0, 32⟩
abbrev fCG_STAG_OFFSET (i : Nat) : Fld := ⟨CG_STAG i, 0, 6⟩
abbrev fENV_CTL_BALLAST_EN : Fld := ⟨ENV_CTL, 1, 1⟩
abbrev fENV_CTL_EN : Fld := ⟨ENV_CTL, 0, 1⟩
abbrev fENV_CFG_BUNIT : Fld := ⟨ENV_CFG, 16, 8⟩
abbrev fENV_CFG_FALL : Fld := ⟨ENV_CFG, 8, 8⟩
abbrev fENV_CFG_RISE : Fld := ⟨ENV_CFG, 0, 8⟩
abbrev fENV_PWR_PENV : Fld := ⟨ENV_PWR, 16, 16⟩
abbrev fENV_PWR_AVG : Fld := ⟨ENV_PWR, 0, 16⟩
abbrev fENV_OUT_BALLAST : Fld := ⟨ENV_OUT, 4, 4⟩
abbrev fENV_OUT_STEP : Fld := ⟨ENV_OUT, 0, 3⟩
abbrev fCG_TRK_ISTEP (i : Nat) : Fld := ⟨CG_TRK i, 24, 8⟩
abbrev fCG_TRK_INTERVAL (i : Nat) : Fld := ⟨CG_TRK i, 0, 9⟩
abbrev fCG_TSTAT_PEND (i : Nat) : Fld := ⟨CG_TSTAT i, 24, 8⟩
abbrev fCG_TSTAT_BURST (i : Nat) : Fld := ⟨CG_TSTAT i, 23, 1⟩
abbrev fCG_TSTAT_HOLD (i : Nat) : Fld := ⟨CG_TSTAT i, 22, 1⟩
abbrev fCG_TSTAT_DUTY (i : Nat) : Fld := ⟨CG_TSTAT i, 17, 5⟩
abbrev fCG_TSTAT_FORCED (i : Nat) : Fld := ⟨CG_TSTAT i, 16, 1⟩
abbrev fCG_TSTAT_EVENT (i : Nat) : Fld := ⟨CG_TSTAT i, 15, 1⟩
abbrev fCG_TSTAT_IEFF (i : Nat) : Fld := ⟨CG_TSTAT i, 0, 9⟩
abbrev fDOM_GCFG_RSLEW : Fld := ⟨DOM_GCFG, 0, 8⟩
abbrev fDOM_MAP_DOM (i : Nat) : Fld := ⟨DOM_MAP i, 0, 8⟩
abbrev fDOM_CFG_ORDER (i : Nat) : Fld := ⟨DOM_CFG i, 21, 5⟩
abbrev fDOM_CFG_RETAIN (i : Nat) : Fld := ⟨DOM_CFG i, 20, 1⟩
abbrev fDOM_CFG_CLASS (i : Nat) : Fld := ⟨DOM_CFG i, 16, 2⟩
abbrev fDOM_CFG_RET (i : Nat) : Fld := ⟨DOM_CFG i, 0, 10⟩
abbrev fDOM_CTL_FULL (i : Nat) : Fld := ⟨DOM_CTL i, 2, 1⟩
abbrev fDOM_CTL_OFF (i : Nat) : Fld := ⟨DOM_CTL i, 1, 1⟩
abbrev fDOM_CTL_ON (i : Nat) : Fld := ⟨DOM_CTL i, 0, 1⟩
abbrev fDOM_VSET_CODE (i : Nat) : Fld := ⟨DOM_VSET i, 0, 10⟩
abbrev fDOM_DSTAT_STATE (i : Nat) : Fld := ⟨DOM_DSTAT i, 29, 3⟩
abbrev fDOM_DSTAT_NTRACT (i : Nat) : Fld := ⟨DOM_DSTAT i, 22, 7⟩
abbrev fDOM_DSTAT_STAGE (i : Nat) : Fld := ⟨DOM_DSTAT i, 19, 3⟩
abbrev fIBS_CTL_DE_EN : Fld := ⟨IBS_CTL, 3, 1⟩
abbrev fIBS_CTL_SHED_EN : Fld := ⟨IBS_CTL, 2, 1⟩
abbrev fIBS_CTL_SRC : Fld := ⟨IBS_CTL, 0, 2⟩
abbrev fIBS_STATE_MODE : Fld := ⟨IBS_STATE, 29, 3⟩
abbrev fIBS_STATE_NACT : Fld := ⟨IBS_STATE, 24, 5⟩
abbrev fIBS_STATE_NADM : Fld := ⟨IBS_STATE, 19, 5⟩
abbrev fIBS_STATE_SHED : Fld := ⟨IBS_STATE, 18, 1⟩
abbrev fIBS_STATE_TRACK_HOLD : Fld := ⟨IBS_STATE, 17, 1⟩
abbrev fIBS_STATE_DWELL : Fld := ⟨IBS_STATE, 16, 1⟩
abbrev fIBS_STATE_VSEL : Fld := ⟨IBS_STATE, 13, 3⟩
abbrev fIBS_STATE_ALIGNED : Fld := ⟨IBS_STATE, 12, 1⟩
abbrev fIBS_STATE_DE : Fld := ⟨IBS_STATE, 11, 1⟩
abbrev fIBS_TGT_REF : Fld := ⟨IBS_TGT, 16, 11⟩
abbrev fIBS_TGT_TARGET : Fld := ⟨IBS_TGT, 0, 11⟩
abbrev fIBS_MEAS_VIN : Fld := ⟨IBS_MEAS, 16, 16⟩
abbrev fIBS_MEAS_ITOT : Fld := ⟨IBS_MEAS, 0, 16⟩
abbrev fIBS_VSEL_CODE (i : Nat) : Fld := ⟨IBS_VSEL i, 0, 11⟩
abbrev fIBS_TRACK_GAIN : Fld := ⟨IBS_TRACK, 16, 16⟩
abbrev fIBS_TRACK_OFFSET : Fld := ⟨IBS_TRACK, 0, 11⟩
abbrev fIBS_SS_ADMIT : Fld := ⟨IBS_SS, 24, 8⟩
abbrev fIBS_SS_SLEW : Fld := ⟨IBS_SS, 16, 8⟩
abbrev fIBS_SS_RAMP : Fld := ⟨IBS_SS, 0, 16⟩
abbrev fIBS_LIM_ILIM : Fld := ⟨IBS_LIM, 24, 8⟩
abbrev fIBS_LIM_IPK : Fld := ⟨IBS_LIM, 16, 8⟩
abbrev fIBS_LIM_TMIN : Fld := ⟨IBS_LIM, 8, 8⟩
abbrev fIBS_LIM_DMAX : Fld := ⟨IBS_LIM, 0, 8⟩
abbrev fIBS_GAIN_KC : Fld := ⟨IBS_GAIN, 16, 16⟩
abbrev fIBS_GAIN_KV : Fld := ⟨IBS_GAIN, 0, 16⟩
abbrev fIBS_VDRAW_ILIM_IN : Fld := ⟨IBS_VDRAW, 0, 16⟩
abbrev fIBS_SHED_DROP : Fld := ⟨IBS_SHED, 24, 8⟩
abbrev fIBS_SHED_ADD : Fld := ⟨IBS_SHED, 16, 8⟩
abbrev fIBS_SHED_DE : Fld := ⟨IBS_SHED, 8, 8⟩
abbrev fIBS_SHED_MIN : Fld := ⟨IBS_SHED, 4, 4⟩
abbrev fIBS_SHED_NPH : Fld := ⟨IBS_SHED, 0, 4⟩
abbrev fIBS_SHARE_TRIP : Fld := ⟨IBS_SHARE, 24, 8⟩
abbrev fIBS_SHARE_HOT : Fld := ⟨IBS_SHARE, 16, 8⟩
abbrev fIBS_SHARE_MAXSHED : Fld := ⟨IBS_SHARE, 8, 8⟩
abbrev fIBS_SHARE_GAIN : Fld := ⟨IBS_SHARE, 0, 8⟩
abbrev fIBS_HYS_TON : Fld := ⟨IBS_HYS, 24, 8⟩
abbrev fIBS_HYS_BAND : Fld := ⟨IBS_HYS, 16, 8⟩
abbrev fIBS_HYS_VDS : Fld := ⟨IBS_HYS, 0, 11⟩
abbrev fIBS_KA_TON : Fld := ⟨IBS_KA, 24, 8⟩
abbrev fIBS_KA_BAND : Fld := ⟨IBS_KA, 16, 8⟩
abbrev fIBS_KA_VKA : Fld := ⟨IBS_KA, 0, 11⟩
abbrev fIBS_VIN_HIGH : Fld := ⟨IBS_VIN, 24, 8⟩
abbrev fIBS_VIN_RESTORE : Fld := ⟨IBS_VIN, 16, 8⟩
abbrev fIBS_VIN_SHED : Fld := ⟨IBS_VIN, 8, 8⟩
abbrev fIBS_VIN_STOP : Fld := ⟨IBS_VIN, 0, 8⟩
abbrev fIBS_OFS_DOFF : Fld := ⟨IBS_OFS, 0, 9⟩
abbrev fIBS_LATE_CNT_COUNT : Fld := ⟨IBS_LATE_CNT, 0, 32⟩
abbrev fIBS_COEF_COEF (i : Nat) : Fld := ⟨IBS_COEF i, 0, 20⟩
abbrev fIBS_PCFG_EN (i : Nat) : Fld := ⟨IBS_PCFG i, 0, 1⟩
abbrev fIBS_PSTAT_MODE (i : Nat) : Fld := ⟨IBS_PSTAT i, 29, 3⟩
abbrev fIBS_PSTAT_RETRY (i : Nat) : Fld := ⟨IBS_PSTAT i, 27, 2⟩
abbrev fIBS_PSTAT_LIMIT (i : Nat) : Fld := ⟨IBS_PSTAT i, 26, 1⟩
abbrev fIBS_PSTAT_CAUSE (i : Nat) : Fld := ⟨IBS_PSTAT i, 25, 1⟩
abbrev fIBS_PMEAS_TEMP (i : Nat) : Fld := ⟨IBS_PMEAS i, 16, 16⟩
abbrev fIBS_PMEAS_I (i : Nat) : Fld := ⟨IBS_PMEAS i, 0, 16⟩
abbrev fTHM_THR_SHUT : Fld := ⟨THM_THR, 24, 8⟩
abbrev fTHM_THR_THROT : Fld := ⟨THM_THR, 16, 8⟩
abbrev fTHM_THR_WARN : Fld := ⟨THM_THR, 8, 8⟩
abbrev fTHM_THR_RESTART : Fld := ⟨THM_THR, 0, 8⟩
abbrev fTHM_HYS_THROT : Fld := ⟨THM_HYS, 8, 8⟩
abbrev fTHM_HYS_WARN : Fld := ⟨THM_HYS, 0, 8⟩
abbrev fTHM_TCFG_NSTART : Fld := ⟨THM_TCFG, 16, 5⟩
abbrev fTHM_TCFG_UP : Fld := ⟨THM_TCFG, 8, 5⟩
abbrev fTHM_TCFG_DN : Fld := ⟨THM_TCFG, 0, 5⟩
abbrev fTHM_RATE_RATE : Fld := ⟨THM_RATE, 0, 8⟩
abbrev fTHM_CFG_LATCH : Fld := ⟨THM_CFG, 8, 1⟩
abbrev fTHM_CFG_DEV : Fld := ⟨THM_CFG, 0, 8⟩
abbrev fTHM_CAL_TCAL : Fld := ⟨THM_CAL, 16, 16⟩
abbrev fTHM_CAL_IDEAL : Fld := ⟨THM_CAL, 0, 16⟩
abbrev fTHM_STATE_SHUT : Fld := ⟨THM_STATE, 31, 1⟩
abbrev fTHM_STATE_LATCHED : Fld := ⟨THM_STATE, 30, 1⟩
abbrev fTHM_STATE_CALDONE : Fld := ⟨THM_STATE, 29, 1⟩
abbrev fTHM_STATE_COOL : Fld := ⟨THM_STATE, 22, 7⟩
abbrev fTHM_STATE_HSITE : Fld := ⟨THM_STATE, 16, 6⟩
abbrev fTHM_STATE_HVAL : Fld := ⟨THM_STATE, 0, 16⟩
abbrev fTHM_SUSP0_SUSP : Fld := ⟨THM_SUSP0, 0, 32⟩
abbrev fTHM_SUSP1_SUSP : Fld := ⟨THM_SUSP1, 0, 32⟩
abbrev fTHM_COMP_SITE (i : Nat) : Fld := ⟨THM_COMP i, 24, 6⟩
abbrev fTHM_COMP_CORR (i : Nat) : Fld := ⟨THM_COMP i, 0, 16⟩
abbrev fTHM_SITE_SUSP (i : Nat) : Fld := ⟨THM_SITE i, 31, 1⟩
abbrev fTHM_SITE_INVALID (i : Nat) : Fld := ⟨THM_SITE i, 30, 1⟩
abbrev fTHM_SITE_SHUT (i : Nat) : Fld := ⟨THM_SITE i, 29, 1⟩
abbrev fTHM_SITE_THROT (i : Nat) : Fld := ⟨THM_SITE i, 28, 1⟩
abbrev fTHM_SITE_WARN (i : Nat) : Fld := ⟨THM_SITE i, 27, 1⟩
abbrev fTHM_SITE_RATE (i : Nat) : Fld := ⟨THM_SITE i, 26, 1⟩
abbrev fTHM_SITE_VALUE (i : Nat) : Fld := ⟨THM_SITE i, 0, 16⟩
abbrev fTHM_GRAD_GRAD (i : Nat) : Fld := ⟨THM_GRAD i, 0, 16⟩
abbrev fTHM_TDUTY_N (i : Nat) : Fld := ⟨THM_TDUTY i, 0, 5⟩
abbrev fTHM_RAW_RATE (i : Nat) : Fld := ⟨THM_RAW i, 16, 16⟩
abbrev fTHM_RAW_RAW (i : Nat) : Fld := ⟨THM_RAW i, 0, 16⟩
abbrev fCAP_CTL_EN : Fld := ⟨CAP_CTL, 0, 1⟩
abbrev fCAP_PKG_CAP : Fld := ⟨CAP_PKG, 0, 20⟩
abbrev fCAP_DIE_PEAK : Fld := ⟨CAP_DIE, 16, 16⟩
abbrev fCAP_DIE_SUST : Fld := ⟨CAP_DIE, 0, 16⟩
abbrev fCAP_SHARE_BUDGET : Fld := ⟨CAP_SHARE, 16, 16⟩
abbrev fCAP_SHARE_SHARE : Fld := ⟨CAP_SHARE, 0, 16⟩
abbrev fCAP_EST_MEAS : Fld := ⟨CAP_EST, 16, 16⟩
abbrev fCAP_EST_EST : Fld := ⟨CAP_EST, 0, 16⟩
abbrev fCAP_SHORT_TRIM : Fld := ⟨CAP_SHORT, 16, 16⟩
abbrev fCAP_SHORT_SHORT : Fld := ⟨CAP_SHORT, 0, 16⟩
abbrev fCAP_PRIO_P2 : Fld := ⟨CAP_PRIO, 4, 2⟩
abbrev fCAP_PRIO_P1 : Fld := ⟨CAP_PRIO, 2, 2⟩
abbrev fCAP_PRIO_P0 : Fld := ⟨CAP_PRIO, 0, 2⟩
abbrev fCAP_AGE_SPACE : Fld := ⟨CAP_AGE, 24, 8⟩
abbrev fCAP_AGE_PROMO : Fld := ⟨CAP_AGE, 16, 8⟩
abbrev fCAP_AGE_STARVE : Fld := ⟨CAP_AGE, 0, 16⟩
abbrev fCAP_TALLY_VREF : Fld := ⟨CAP_TALLY, 16, 10⟩
abbrev fCAP_TALLY_WSHIFT : Fld := ⟨CAP_TALLY, 0, 4⟩
abbrev fCAP_CFG_HEADROOM : Fld := ⟨CAP_CFG, 8, 8⟩
abbrev fCAP_CFG_EFF : Fld := ⟨CAP_CFG, 0, 8⟩
abbrev fCAP_THR_NPIN : Fld := ⟨CAP_THR, 0, 5⟩
abbrev fCAP_GRD_STRAY_COUNT : Fld := ⟨CAP_GRD_STRAY, 0, 32⟩
abbrev fCAP_CLS_CGINT (i : Nat) : Fld := ⟨CAP_CLS i, 8, 9⟩
abbrev fCAP_CLS_FLOOR (i : Nat) : Fld := ⟨CAP_CLS i, 0, 8⟩
abbrev fCAP_CBUD_DEMAND (i : Nat) : Fld := ⟨CAP_CBUD i, 16, 16⟩
abbrev fCAP_CBUD_BUDGET (i : Nat) : Fld := ⟨CAP_CBUD i, 0, 16⟩
abbrev fCAP_CGAIN_GAIN (i : Nat) : Fld := ⟨CAP_CGAIN i, 0, 16⟩
abbrev fCAP_CSTATE_STARVE (i : Nat) : Fld := ⟨CAP_CSTATE i, 12, 12⟩
abbrev fCAP_CSTATE_PROMOTED (i : Nat) : Fld := ⟨CAP_CSTATE i, 11, 1⟩
abbrev fCAP_CSTATE_CAPPED (i : Nat) : Fld := ⟨CAP_CSTATE i, 10, 1⟩
abbrev fCAP_CSTATE_PAUSE (i : Nat) : Fld := ⟨CAP_CSTATE i, 4, 5⟩
abbrev fCAP_CSTATE_CEIL (i : Nat) : Fld := ⟨CAP_CSTATE i, 0, 4⟩
abbrev fCAP_DGRADE_GCTL (i : Nat) : Fld := ⟨CAP_DGRADE i, 31, 1⟩
abbrev fCAP_DGRADE_FAULT (i : Nat) : Fld := ⟨CAP_DGRADE i, 30, 1⟩
abbrev fCAP_DGRADE_PAUSE (i : Nat) : Fld := ⟨CAP_DGRADE i, 20, 5⟩
abbrev fCAP_DGRADE_NOW (i : Nat) : Fld := ⟨CAP_DGRADE i, 16, 4⟩
abbrev fCAP_DGRADE_EFF (i : Nat) : Fld := ⟨CAP_DGRADE i, 8, 4⟩
abbrev fCAP_DGRADE_REQ (i : Nat) : Fld := ⟨CAP_DGRADE i, 0, 4⟩
abbrev fCAP_GTAB_PF (i j : Nat) : Fld := ⟨CAP_GTAB i j, 16, 16⟩
abbrev fCAP_GTAB_VCODE (i j : Nat) : Fld := ⟨CAP_GTAB i j, 0, 10⟩
abbrev fCAP_LEAK_TDBL (i : Nat) : Fld := ⟨CAP_LEAK i, 16, 8⟩
abbrev fCAP_LEAK_L0 (i : Nat) : Fld := ⟨CAP_LEAK i, 0, 16⟩
abbrev fCAP_WGT_DOM (i : Nat) : Fld := ⟨CAP_WGT i, 16, 8⟩
abbrev fCAP_WGT_W (i : Nat) : Fld := ⟨CAP_WGT i, 0, 16⟩
abbrev fNRG_CTL_SETTLE_EN : Fld := ⟨NRG_CTL, 16, 1⟩
abbrev fNRG_CTL_PEN : Fld := ⟨NRG_CTL, 0, 16⟩
abbrev fNRG_CLR_CLR : Fld := ⟨NRG_CLR, 0, 17⟩
abbrev fNRG_EMS_EMS : Fld := ⟨NRG_EMS, 0, 32⟩
abbrev fNRG_SET_SDERATE : Fld := ⟨NRG_SET, 24, 8⟩
abbrev fNRG_SET_PERSIST : Fld := ⟨NRG_SET, 8, 8⟩
abbrev fNRG_SET_EXCESS : Fld := ⟨NRG_SET, 0, 8⟩
abbrev fNRG_PART_LO_LO (i : Nat) : Fld := ⟨NRG_PART_LO i, 0, 32⟩
abbrev fNRG_PART_HI_HI (i : Nat) : Fld := ⟨NRG_PART_HI i, 0, 32⟩
abbrev fNRG_DCUR_MAX (i : Nat) : Fld := ⟨NRG_DCUR i, 16, 16⟩
abbrev fNRG_DCUR_AVG (i : Nat) : Fld := ⟨NRG_DCUR i, 0, 16⟩
abbrev fNRG_WATCH_EN (i : Nat) : Fld := ⟨NRG_WATCH i, 8, 1⟩
abbrev fNRG_WATCH_DOM (i : Nat) : Fld := ⟨NRG_WATCH i, 0, 5⟩
abbrev fNRG_WMIN_NONE (i : Nat) : Fld := ⟨NRG_WMIN i, 31, 1⟩
abbrev fNRG_WMIN_STATION (i : Nat) : Fld := ⟨NRG_WMIN i, 16, 10⟩
abbrev fNRG_WMIN_CODE (i : Nat) : Fld := ⟨NRG_WMIN i, 0, 10⟩
abbrev fNRG_WTS_LO_TS (i : Nat) : Fld := ⟨NRG_WTS_LO i, 0, 32⟩
abbrev fNRG_WTS_HI_TS (i : Nat) : Fld := ⟨NRG_WTS_HI i, 0, 32⟩
abbrev fNRG_SFLAG_FLAG (i : Nat) : Fld := ⟨NRG_SFLAG i, 0, 32⟩
abbrev fNRG_SBASE_RBASE (i : Nat) : Fld := ⟨NRG_SBASE i, 0, 16⟩
abbrev fNRG_SMEAS_COUNT (i : Nat) : Fld := ⟨NRG_SMEAS i, 24, 8⟩
abbrev fNRG_SMEAS_QUAL (i : Nat) : Fld := ⟨NRG_SMEAS i, 23, 1⟩
abbrev fNRG_SMEAS_DERATED (i : Nat) : Fld := ⟨NRG_SMEAS i, 22, 1⟩
abbrev fNRG_SMEAS_RMEAS (i : Nat) : Fld := ⟨NRG_SMEAS i, 0, 16⟩
abbrev fTLM_CTL_EN : Fld := ⟨TLM_CTL, 0, 1⟩
abbrev fTLM_BASE_LO_ADDR : Fld := ⟨TLM_BASE_LO, 12, 20⟩
abbrev fTLM_BASE_HI_ADDR : Fld := ⟨TLM_BASE_HI, 0, 16⟩
abbrev fTLM_COUNT_N : Fld := ⟨TLM_COUNT, 0, 16⟩
abbrev fTLM_SEQ_SEQ : Fld := ⟨TLM_SEQ, 0, 32⟩
abbrev fTLM_DROP_COUNT : Fld := ⟨TLM_DROP, 0, 32⟩
abbrev fTLM_PMB_ADDR : Fld := ⟨TLM_PMB, 0, 7⟩
abbrev fADC_CFG_REF : Fld := ⟨ADC_CFG, 0, 2⟩
abbrev fADC_STATE_REF : Fld := ⟨ADC_STATE, 4, 2⟩
abbrev fADC_STATE_SERVICE : Fld := ⟨ADC_STATE, 3, 1⟩
abbrev fADC_STATE_CAL_BUSY : Fld := ⟨ADC_STATE, 2, 1⟩
abbrev fADC_STATE_ALT_RDY : Fld := ⟨ADC_STATE, 1, 1⟩
abbrev fADC_STATE_BM_RDY : Fld := ⟨ADC_STATE, 0, 1⟩
abbrev fADC_CLOSURE_CODE_B : Fld := ⟨ADC_CLOSURE, 16, 14⟩
abbrev fADC_CLOSURE_CODE_A : Fld := ⟨ADC_CLOSURE, 0, 14⟩
abbrev fADC_CALCMD_GO : Fld := ⟨ADC_CALCMD, 31, 1⟩
abbrev fADC_CALCMD_STEP : Fld := ⟨ADC_CALCMD, 8, 2⟩
abbrev fADC_CALCMD_CONV : Fld := ⟨ADC_CALCMD, 6, 2⟩
abbrev fADC_CALCMD_INDEX : Fld := ⟨ADC_CALCMD, 0, 6⟩
abbrev fADC_CALTGT_FULL : Fld := ⟨ADC_CALTGT, 16, 16⟩
abbrev fADC_CALTGT_ZERO : Fld := ⟨ADC_CALTGT, 0, 16⟩
abbrev fADC_TMR_PERIOD : Fld := ⟨ADC_TMR, 0, 16⟩
abbrev fADC_SEQ_GO (i : Nat) : Fld := ⟨ADC_SEQ i, 31, 1⟩
abbrev fADC_SEQ_DELAY (i : Nat) : Fld := ⟨ADC_SEQ i, 16, 8⟩
abbrev fADC_SEQ_TPH (i : Nat) : Fld := ⟨ADC_SEQ i, 11, 4⟩
abbrev fADC_SEQ_TSRC (i : Nat) : Fld := ⟨ADC_SEQ i, 8, 3⟩
abbrev fADC_SEQ_LEN (i : Nat) : Fld := ⟨ADC_SEQ i, 0, 4⟩
abbrev fADC_INJ_GO (i : Nat) : Fld := ⟨ADC_INJ i, 31, 1⟩
abbrev fADC_INJ_DELAY (i : Nat) : Fld := ⟨ADC_INJ i, 16, 8⟩
abbrev fADC_INJ_TPH (i : Nat) : Fld := ⟨ADC_INJ i, 11, 4⟩
abbrev fADC_INJ_TSRC (i : Nat) : Fld := ⟨ADC_INJ i, 8, 3⟩
abbrev fADC_INJ_LEN (i : Nat) : Fld := ⟨ADC_INJ i, 0, 2⟩
abbrev fADC_SSTAT_LOST (i : Nat) : Fld := ⟨ADC_SSTAT i, 24, 8⟩
abbrev fADC_SSTAT_RESTART (i : Nat) : Fld := ⟨ADC_SSTAT i, 16, 8⟩
abbrev fADC_SSTAT_RUN (i : Nat) : Fld := ⟨ADC_SSTAT i, 7, 1⟩
abbrev fADC_SSTAT_DUE (i : Nat) : Fld := ⟨ADC_SSTAT i, 6, 1⟩
abbrev fADC_SSTAT_IRUN (i : Nat) : Fld := ⟨ADC_SSTAT i, 5, 1⟩
abbrev fADC_SSTAT_IDUE (i : Nat) : Fld := ⟨ADC_SSTAT i, 4, 1⟩
abbrev fADC_SSTAT_SLOT (i : Nat) : Fld := ⟨ADC_SSTAT i, 0, 4⟩
abbrev fADC_TSTART_TS (i : Nat) : Fld := ⟨ADC_TSTART i, 0, 32⟩
abbrev fADC_SLOT_MODE (i j : Nat) : Fld := ⟨ADC_SLOT i j, 5, 1⟩
abbrev fADC_SLOT_CH (i j : Nat) : Fld := ⟨ADC_SLOT i j, 0, 5⟩
abbrev fADC_ISLOT_MODE (i j : Nat) : Fld := ⟨ADC_ISLOT i j, 5, 1⟩
abbrev fADC_ISLOT_CH (i j : Nat) : Fld := ⟨ADC_ISLOT i j, 0, 5⟩
abbrev fADC_RES_VALID (i j : Nat) : Fld := ⟨ADC_RES i j, 31, 1⟩
abbrev fADC_RES_REF (i j : Nat) : Fld := ⟨ADC_RES i j, 29, 2⟩
abbrev fADC_RES_COUNT (i j : Nat) : Fld := ⟨ADC_RES i j, 16, 8⟩
abbrev fADC_RES_CODE (i j : Nat) : Fld := ⟨ADC_RES i j, 0, 16⟩
abbrev fADC_IRES_VALID (i j : Nat) : Fld := ⟨ADC_IRES i j, 31, 1⟩
abbrev fADC_IRES_REF (i j : Nat) : Fld := ⟨ADC_IRES i j, 29, 2⟩
abbrev fADC_IRES_COUNT (i j : Nat) : Fld := ⟨ADC_IRES i j, 16, 8⟩
abbrev fADC_IRES_CODE (i j : Nat) : Fld := ⟨ADC_IRES i j, 0, 16⟩
abbrev fADC_CAL_GAIN (i j : Nat) : Fld := ⟨ADC_CAL i j, 16, 16⟩
abbrev fADC_CAL_OFFSET (i j : Nat) : Fld := ⟨ADC_CAL i j, 0, 16⟩
abbrev fTRV_CFG_WAKEALL : Fld := ⟨TRV_CFG, 16, 1⟩
abbrev fTRV_CFG_FSEV : Fld := ⟨TRV_CFG, 12, 2⟩
abbrev fTRV_CFG_PRINCIPAL : Fld := ⟨TRV_CFG, 8, 3⟩
abbrev fTRV_CFG_COUNT : Fld := ⟨TRV_CFG, 4, 3⟩
abbrev fTRV_CFG_INDEX : Fld := ⟨TRV_CFG, 0, 3⟩
abbrev fTRV_STATE_PRIN : Fld := ⟨TRV_STATE, 29, 3⟩
abbrev fTRV_STATE_ROLE : Fld := ⟨TRV_STATE, 28, 1⟩
abbrev fTRV_STATE_TSYNC : Fld := ⟨TRV_STATE, 27, 1⟩
abbrev fTRV_STATE_WRAPPED : Fld := ⟨TRV_STATE, 26, 1⟩
abbrev fTRV_STATE_OVF_F : Fld := ⟨TRV_STATE, 25, 1⟩
abbrev fTRV_STATE_OVF_D : Fld := ⟨TRV_STATE, 24, 1⟩
abbrev fTRV_STATE_LANES : Fld := ⟨TRV_STATE, 16, 4⟩
abbrev fTRV_STATE_EXP : Fld := ⟨TRV_STATE, 8, 5⟩
abbrev fTRV_STATE_MEMBERS : Fld := ⟨TRV_STATE, 0, 8⟩
abbrev fTRV_HOP_NEXT : Fld := ⟨TRV_HOP, 16, 16⟩
abbrev fTRV_HOP_PREV : Fld := ⟨TRV_HOP, 0, 16⟩
abbrev fTRV_ERR_CCW : Fld := ⟨TRV_ERR, 16, 16⟩
abbrev fTRV_ERR_CW : Fld := ⟨TRV_ERR, 0, 16⟩
abbrev fTRV_TOFS_OFS : Fld := ⟨TRV_TOFS, 0, 16⟩
abbrev fTRV_PSUM_SUMF : Fld := ⟨TRV_PSUM, 16, 16⟩
abbrev fTRV_PSUM_SUMD : Fld := ⟨TRV_PSUM, 0, 16⟩
abbrev fTRV_REMOTE_DIE : Fld := ⟨TRV_REMOTE, 29, 3⟩
abbrev fTRV_REMOTE_BLOCK : Fld := ⟨TRV_REMOTE, 24, 5⟩
abbrev fTRV_REMOTE_BIT : Fld := ⟨TRV_REMOTE, 19, 5⟩
abbrev fTRV_REMOTE_SEV : Fld := ⟨TRV_REMOTE, 17, 2⟩
abbrev fTRV_TIME_LO_TS : Fld := ⟨TRV_TIME_LO, 0, 32⟩
abbrev fTRV_TIME_HI_TS : Fld := ⟨TRV_TIME_HI, 0, 32⟩
abbrev fTRV_EPOCH_CAP_CAP : Fld := ⟨TRV_EPOCH_CAP, 0, 20⟩
abbrev fTRV_EPOCH_TS_LO_TS : Fld := ⟨TRV_EPOCH_TS_LO, 0, 32⟩
abbrev fTRV_EPOCH_TS_HI_TS : Fld := ⟨TRV_EPOCH_TS_HI, 0, 32⟩
abbrev fTRV_EPOCH_GO_GO : Fld := ⟨TRV_EPOCH_GO, 0, 1⟩
abbrev fTRV_EPOCH_STAT_PEND : Fld := ⟨TRV_EPOCH_STAT, 8, 3⟩
abbrev fTRV_EPOCH_STAT_RESULT : Fld := ⟨TRV_EPOCH_STAT, 0, 3⟩
abbrev fCAD_LOCK_LOCKED : Fld := ⟨CAD_LOCK, 0, 1⟩
abbrev fCAD_SLEW_SLEW : Fld := ⟨CAD_SLEW, 0, 8⟩
abbrev fCAD_TRC_ITRACT : Fld := ⟨CAD_TRC, 16, 9⟩
abbrev fCAD_TRC_DMAX : Fld := ⟨CAD_TRC, 0, 12⟩
abbrev fCAD_THM_SHUTCAP : Fld := ⟨CAD_THM, 0, 8⟩
abbrev fCAD_IB_IBMAX : Fld := ⟨CAD_IB, 16, 11⟩
abbrev fCAD_IB_IBMIN : Fld := ⟨CAD_IB, 0, 11⟩
abbrev fCAD_IBPH_IMAX : Fld := ⟨CAD_IBPH, 0, 8⟩
abbrev fCAD_FWPERM_COEF : Fld := ⟨CAD_FWPERM, 24, 1⟩
abbrev fCAD_FWPERM_BLOCKS : Fld := ⟨CAD_FWPERM, 3, 19⟩
abbrev fCAD_FWPERM_FIXED : Fld := ⟨CAD_FWPERM, 1, 2⟩
abbrev fCAD_FWPERM_BLK : Fld := ⟨CAD_FWPERM, 0, 1⟩
abbrev fCAD_GRADE_MAX0 (i : Nat) : Fld := ⟨CAD_GRADE i, 0, 4⟩
abbrev fCAD_GRADE_MAX1 (i : Nat) : Fld := ⟨CAD_GRADE i, 4, 4⟩
abbrev fCAD_GRADE_MAX2 (i : Nat) : Fld := ⟨CAD_GRADE i, 8, 4⟩
abbrev fCAD_GRADE_MAX3 (i : Nat) : Fld := ⟨CAD_GRADE i, 12, 4⟩
abbrev fCAD_GRADE_MAX4 (i : Nat) : Fld := ⟨CAD_GRADE i, 16, 4⟩
abbrev fCAD_GRADE_MAX5 (i : Nat) : Fld := ⟨CAD_GRADE i, 20, 4⟩
abbrev fCAD_GRADE_MAX6 (i : Nat) : Fld := ⟨CAD_GRADE i, 24, 4⟩
abbrev fCAD_GRADE_MAX7 (i : Nat) : Fld := ⟨CAD_GRADE i, 28, 4⟩
abbrev fCAD_DOM_VMAX (i : Nat) : Fld := ⟨CAD_DOM i, 16, 10⟩
abbrev fCAD_DOM_VMIN (i : Nat) : Fld := ⟨CAD_DOM i, 0, 10⟩
abbrev fMEM_OWNER_OWNER0 : Fld := ⟨MEM_OWNER, 0, 3⟩
abbrev fMEM_OWNER_OWNER1 : Fld := ⟨MEM_OWNER, 3, 3⟩
abbrev fMEM_OWNER_OWNER2 : Fld := ⟨MEM_OWNER, 6, 3⟩
abbrev fMEM_OWNER_OWNER3 : Fld := ⟨MEM_OWNER, 9, 3⟩
abbrev fMEM_OWNER_OWNER4 : Fld := ⟨MEM_OWNER, 12, 3⟩
abbrev fMEM_OWNER_OWNER5 : Fld := ⟨MEM_OWNER, 15, 3⟩
abbrev fMEM_PWR_PWR0 : Fld := ⟨MEM_PWR, 0, 2⟩
abbrev fMEM_PWR_PWR1 : Fld := ⟨MEM_PWR, 2, 2⟩
abbrev fMEM_PWR_PWR2 : Fld := ⟨MEM_PWR, 4, 2⟩
abbrev fMEM_PWR_PWR3 : Fld := ⟨MEM_PWR, 6, 2⟩
abbrev fMEM_PWR_PWR4 : Fld := ⟨MEM_PWR, 8, 2⟩
abbrev fMEM_PWR_PWR5 : Fld := ⟨MEM_PWR, 10, 2⟩
abbrev fMEM_TEST_EN : Fld := ⟨MEM_TEST, 8, 6⟩
abbrev fMEM_TEST_INTERVAL : Fld := ⟨MEM_TEST, 0, 8⟩
abbrev fMEM_MSTAT_CORR (i : Nat) : Fld := ⟨MEM_MSTAT i, 24, 8⟩
abbrev fMEM_MSTAT_UNCORR (i : Nat) : Fld := ⟨MEM_MSTAT i, 16, 8⟩
abbrev fMEM_MSTAT_NEXT (i : Nat) : Fld := ⟨MEM_MSTAT i, 0, 16⟩

/-! ### Rows, by 32 KB page -/

/-- The rows whose registers begin in page 0 of 32 KB. -/
def rowsPage0 : List RegRow := [
  ⟨0x10, 1, 4, 1, 4, 0x0, 0x0, 0x0, 0x0, 0x80201⟩,  -- BLK_ID
  ⟨0x14, 1, 4, 1, 4, 0x0, 0x0, 0x0, 0x7, 0x0⟩,  -- BLK_RST
  ⟨0x18, 1, 4, 1, 4, 0x3F, 0x0, 0x0, 0x80000000, 0x0⟩,  -- BLK_TRST
  ⟨0x1C, 1, 4, 1, 4, 0xE, 0x0, 0x0, 0x0, 0x4⟩,  -- BLK_CORE
  ⟨0x20, 1, 4, 1, 4, 0x0, 0x0, 0x0, 0x80000000, 0x2710⟩,  -- BLK_WDT
  ⟨0x810, 1, 4, 1, 4, 0x0, 0x0, 0x0, 0x1, 0x0⟩,  -- PLAT_CTL
  ⟨0x814, 1, 4, 1, 4, 0x0, 0x0, 0x0, 0x0, 0x0⟩,  -- PLAT_STATE
  ⟨0x818, 1, 4, 1, 4, 0x1000FFFF, 0x0, 0x0, 0x0, 0x0⟩,  -- PLAT_LADDR
  ⟨0x81C, 1, 4, 1, 4, 0xFFFFFFFF, 0x0, 0x0, 0x0, 0x0⟩,  -- PLAT_LDATA_LO
  ⟨0x820, 1, 4, 1, 4, 0xFFFFFFFF, 0x0, 0x0, 0x0, 0x0⟩,  -- PLAT_LDATA_HI
  ⟨0x824, 1, 4, 1, 4, 0xFFFFF, 0x0, 0x0, 0x0, 0x0⟩,  -- PLAT_FWLEN
  ⟨0x828, 1, 4, 1, 4, 0xFFFFFFFF, 0x0, 0x0, 0x0, 0x0⟩,  -- PLAT_FWCRC
  ⟨0x82C, 1, 4, 1, 4, 0x0, 0x0, 0x0, 0x0, 0x0⟩,  -- PLAT_CRC
  ⟨0x830, 1, 4, 1, 4, 0x0, 0x0, 0x0, 0x0, 0x0⟩,  -- PLAT_BM
  ⟨0x834, 1, 4, 1, 4, 0x0, 0x0, 0x0, 0x0, 0x0⟩,  -- PLAT_START
  ⟨0x838, 1, 4, 1, 4, 0x0, 0x0, 0x0, 0x0, 0x0⟩,  -- PLAT_ERR
  ⟨0x1010, 1, 4, 1, 4, 0x0, 0x0, 0xFF, 0x0, 0x0⟩,  -- MBX_DONE
  ⟨0x1014, 1, 4, 1, 4, 0xFF, 0x0, 0x0, 0x0, 0x0⟩,  -- MBX_DIEN
  ⟨0x1800, 8, 256, 16, 4, 0xFFFFFFFF, 0x0, 0x0, 0x0, 0x0⟩,  -- MBX_REQ
  ⟨0x1840, 8, 256, 16, 4, 0x0, 0x0, 0x0, 0x0, 0x0⟩,  -- MBX_RSP
  ⟨0x1880, 8, 256, 1, 4, 0x0, 0x0, 0x0, 0x1, 0x0⟩,  -- MBX_BELL
  ⟨0x1884, 8, 256, 1, 4, 0x0, 0x0, 0x0, 0x0, 0x0⟩,  -- MBX_CST
  ⟨0x2010, 1, 4, 1, 4, 0x7, 0x0, 0x0, 0x8, 0x0⟩,  -- PST_REQ
  ⟨0x2014, 1, 4, 1, 4, 0x0, 0x0, 0x0, 0x0, 0x5⟩,  -- PST_STATE
  ⟨0x2018, 1, 4, 1, 4, 0x7F, 0x0, 0x0, 0x0, 0x7B⟩,  -- PST_WAKE
  ⟨0x201C, 1, 4, 1, 4, 0xFFFFFFFF, 0x0, 0x0, 0x0, 0x0⟩,  -- PST_WTIMER
  ⟨0x2410, 1, 4, 1, 4, 0x0, 0x0, 0x0, 0x0, 0x0⟩,  -- MON_ACTIVE
  ⟨0x2500, 16, 8, 1, 4, 0x0, 0xFFFFFFFF, 0x0, 0x0, 0x0⟩,  -- MON_RULE
  ⟨0x2504, 16, 8, 1, 4, 0x0, 0xFFFF, 0x0, 0x0, 0x0⟩,  -- MON_THR
  ⟨0x2600, 16, 4, 1, 4, 0x0, 0x0, 0x0, 0x0, 0x0⟩,  -- MON_RVAL
  ⟨0x2810, 1, 4, 1, 4, 0x1FF03, 0x0, 0x0, 0x0, 0x502⟩,  -- FLT_CFG
  ⟨0x2814, 1, 4, 1, 4, 0x1, 0x0, 0x0, 0x0, 0x8⟩,  -- FLT_PIN
  ⟨0x2818, 1, 4, 1, 4, 0x0, 0x0, 0x0, 0x0, 0x0⟩,  -- FLT_LAST
  ⟨0x281C, 1, 4, 1, 4, 0x0, 0x0, 0x0, 0x0, 0x0⟩,  -- FLT_SUM
  ⟨0x2820, 1, 4, 1, 4, 0x0, 0x0, 0x0, 0x0, 0x0⟩,  -- FLT_COUNT
  ⟨0x2824, 1, 4, 1, 4, 0x0, 0x0, 0x0, 0x1, 0x0⟩,  -- FLT_CTL
  ⟨0x2828, 1, 4, 1, 4, 0x0, 0x0, 0x0, 0x0, 0x0⟩  -- FLT_LOG
  ]

/-- The rows whose registers begin in page 2 of 32 KB. -/
def rowsPage2 : List RegRow := [
  ⟨0x10010, 1, 4, 1, 4, 0x0, 0xFF, 0x0, 0x0, 0x1F⟩,  -- CEL_CTL
  ⟨0x10014, 1, 4, 1, 4, 0x0, 0xFFFFFF, 0x0, 0x0, 0x502808⟩,  -- CEL_LL
  ⟨0x10018, 1, 4, 1, 4, 0x0, 0xFFFF, 0x0, 0x0, 0x1E08⟩,  -- CEL_SHARE_CFG
  ⟨0x10020, 8, 4, 1, 4, 0x0, 0x0, 0x0, 0x0, 0x0⟩,  -- CEL_FAILED
  ⟨0x10100, 32, 4, 1, 4, 0x7FFFFFF, 0x0, 0x0, 0x0, 0x87D000⟩,  -- CEL_DSTART
  ⟨0x10180, 32, 4, 1, 4, 0x7FFFF, 0x0, 0x0, 0x0, 0x3E800⟩,  -- CEL_DSTOP
  ⟨0x11000, 256, 16, 1, 4, 0x3F00, 0x8000, 0x0, 0x0, 0x8000⟩,  -- CEL_CFG
  ⟨0x11004, 256, 16, 1, 4, 0x0, 0x0, 0x0, 0x0, 0x0⟩,  -- CEL_CSTAT
  ⟨0x11008, 256, 16, 1, 4, 0x0, 0x0, 0x0, 0x0, 0x0⟩,  -- CEL_MEAS
  ⟨0x1100C, 256, 16, 1, 4, 0x0, 0x0, 0x0, 0x0, 0x0⟩,  -- CEL_TEMP
  ⟨0x15000, 64, 16, 1, 4, 0x7F, 0x0, 0x0, 0x0, 0x18⟩,  -- STN_THR
  ⟨0x15004, 64, 16, 1, 4, 0x0, 0xFFFF, 0x0, 0x0, 0xFFFF⟩,  -- STN_EN
  ⟨0x15008, 64, 16, 1, 4, 0x0, 0x0, 0xFFFF, 0x0, 0x0⟩,  -- STN_SUSP
  ⟨0x1500C, 64, 16, 1, 4, 0x0, 0x0, 0x0, 0x0, 0x0⟩,  -- STN_MIN
  ⟨0x16000, 64, 4, 1, 4, 0x0, 0x0, 0x0, 0x0, 0x0⟩  -- STN_SNAP_CNT
  ]

/-- The rows whose registers begin in page 3 of 32 KB. -/
def rowsPage3 : List RegRow := [
  ⟨0x18000, 1024, 4, 1, 4, 0x0, 0x0, 0x0, 0x0, 0x0⟩  -- STN_VAL
  ]

/-- The rows whose registers begin in page 4 of 32 KB. -/
def rowsPage4 : List RegRow := [
  ⟨0x20010, 1, 4, 1, 4, 0x0, 0x0, 0x0, 0x0, 0x0⟩,  -- TRC_LATE_CNT
  ⟨0x20014, 1, 4, 1, 4, 0x0, 0x0, 0x0, 0x0, 0x0⟩,  -- TRC_ENG
  ⟨0x20018, 1, 4, 1, 4, 0x0, 0xFFFF07FF, 0x0, 0x0, 0x4000528⟩,  -- TRC_IBS
  ⟨0x2001C, 1, 4, 1, 4, 0x0, 0x0, 0x0, 0x0, 0x0⟩,  -- TRC_NORM
  ⟨0x21000, 64, 32, 1, 4, 0x1, 0x0, 0x0, 0x0, 0x0⟩,  -- TRC_CTL
  ⟨0x21004, 64, 32, 1, 4, 0x0, 0x0, 0x0, 0x0, 0xB8000000⟩,  -- TRC_TSTAT
  ⟨0x21008, 64, 32, 1, 4, 0xFFFF01FF, 0x0, 0x0, 0x0, 0x148012C⟩,  -- TRC_LIM
  ⟨0x2100C, 64, 32, 1, 4, 0xFF, 0x0, 0x0, 0x0, 0x30⟩,  -- TRC_FLOOR
  ⟨0x21010, 64, 32, 1, 4, 0x0, 0x0, 0x0, 0x0, 0x0⟩,  -- TRC_DUTY
  ⟨0x21014, 64, 32, 1, 4, 0x0, 0x0, 0x0, 0x0, 0x0⟩,  -- TRC_UOUT
  ⟨0x21018, 64, 32, 1, 4, 0x0, 0x0, 0x0, 0x0, 0x0⟩,  -- TRC_IMEAS
  ⟨0x2101C, 64, 32, 1, 4, 0x0, 0x0, 0x0, 0x3, 0x0⟩  -- TRC_OPEN
  ]

/-- The rows whose registers begin in page 6 of 32 KB. -/
def rowsPage6 : List RegRow := [
  ⟨0x30010, 1, 4, 1, 4, 0x1, 0x0, 0x0, 0x2, 0x0⟩,  -- SO_CTL
  ⟨0x30014, 1, 4, 1, 4, 0xFF00FF, 0x0, 0x0, 0x0, 0xA0030⟩,  -- SO_CFG
  ⟨0x30018, 1, 4, 1, 4, 0xFFFFFFFF, 0x0, 0x0, 0x0, 0x0⟩,  -- SO_WIN_BASE
  ⟨0x3001C, 1, 4, 1, 4, 0xFFFFFFFF, 0x0, 0x0, 0x0, 0x0⟩,  -- SO_WIN_LIMIT
  ⟨0x30020, 1, 4, 1, 4, 0x0, 0x0, 0x0, 0x0, 0x0⟩,  -- SO_GEN
  ⟨0x30024, 1, 4, 1, 4, 0x0, 0x0, 0x0, 0x0, 0x0⟩,  -- SO_PEG_DROP
  ⟨0x30028, 1, 4, 1, 4, 0x0, 0x0, 0x0, 0x0, 0x0⟩,  -- SO_LOAD
  ⟨0x30100, 16, 4, 1, 4, 0x0, 0x1FFFF, 0x0, 0x0, 0x0⟩,  -- SO_PEGMAP
  ⟨0x30200, 16, 4, 1, 4, 0x0, 0x0, 0x0, 0x0, 0x0⟩,  -- SO_ACC_USED
  ⟨0x30240, 16, 4, 1, 4, 0x0, 0x0, 0x0, 0x0, 0x0⟩,  -- SO_ACC_STALE
  ⟨0x30280, 16, 4, 1, 4, 0x0, 0x0, 0x0, 0x0, 0x0⟩,  -- SO_TIME_EARLY
  ⟨0x302C0, 16, 4, 1, 4, 0x0, 0x0, 0x0, 0x0, 0x0⟩,  -- SO_TIME_SHORT
  ⟨0x30300, 16, 4, 1, 4, 0x0, 0x0, 0x0, 0x0, 0x0⟩,  -- SO_TIME_MISS
  ⟨0x30400, 32, 4, 1, 4, 0x0, 0x0, 0x0, 0x0, 0x0⟩,  -- SO_DLIFT
  ⟨0x31000, 64, 16, 1, 4, 0xFFFFFFFF, 0x0, 0x0, 0x0, 0x0⟩,  -- SO_TRK_PATH
  ⟨0x31004, 64, 16, 1, 4, 0xFFFF, 0x0, 0x0, 0x0, 0x0⟩,  -- SO_TRK_FF
  ⟨0x31008, 64, 16, 1, 4, 0x0, 0x0, 0x0, 0x0, 0x0⟩  -- SO_TRK_STAT
  ]

/-- The rows whose registers begin in page 7 of 32 KB. -/
def rowsPage7 : List RegRow := [
  ⟨0x38010, 1, 4, 1, 4, 0x0, 0xFFFFFF, 0x0, 0x0, 0x402008⟩,  -- CG_CFG
  ⟨0x38014, 1, 4, 1, 4, 0x0, 0xFF83FFFF, 0x0, 0x0, 0x10003255⟩,  -- CG_INRUSH
  ⟨0x38018, 1, 4, 1, 4, 0x0, 0x0, 0x0, 0x0, 0x0⟩,  -- CG_LINK_CNT
  ⟨0x38100, 64, 4, 1, 4, 0x0, 0x3F, 0x0, 0x0, 0x0⟩,  -- CG_STAG
  ⟨0x38810, 1, 4, 1, 4, 0x0, 0x3, 0x0, 0x0, 0x3⟩,  -- ENV_CTL
  ⟨0x38814, 1, 4, 1, 4, 0x0, 0xFFFFFF, 0x0, 0x0, 0x80F0F⟩,  -- ENV_CFG
  ⟨0x38818, 1, 4, 1, 4, 0x0, 0x0, 0x0, 0x0, 0x0⟩,  -- ENV_PWR
  ⟨0x3881C, 1, 4, 1, 4, 0x0, 0x0, 0x0, 0x0, 0x0⟩,  -- ENV_OUT
  ⟨0x39000, 64, 16, 1, 4, 0xFF0001FF, 0x0, 0x0, 0x0, 0x8⟩,  -- CG_TRK
  ⟨0x39004, 64, 16, 1, 4, 0x0, 0x0, 0x0, 0x0, 0x10000⟩  -- CG_TSTAT
  ]

/-- The rows whose registers begin in page 8 of 32 KB. -/
def rowsPage8 : List RegRow := [
  ⟨0x40010, 1, 4, 1, 4, 0x0, 0xFF, 0x0, 0x0, 0x2⟩,  -- DOM_GCFG
  ⟨0x40100, 64, 4, 1, 4, 0x0, 0xFF, 0x0, 0x0, 0xFF⟩,  -- DOM_MAP
  ⟨0x40200, 32, 4, 1, 4, 0x0, 0x3F303FF, 0x0, 0x0, 0x100190⟩,  -- DOM_CFG
  ⟨0x40300, 32, 4, 1, 4, 0x0, 0x0, 0x0, 0x7, 0x0⟩,  -- DOM_CTL
  ⟨0x40380, 32, 4, 1, 4, 0x3FF, 0x0, 0x0, 0x0, 0x0⟩,  -- DOM_VSET
  ⟨0x40400, 32, 4, 1, 4, 0x0, 0x0, 0x0, 0x0, 0x0⟩  -- DOM_DSTAT
  ]

/-- The rows whose registers begin in page 9 of 32 KB. -/
def rowsPage9 : List RegRow := [
  ⟨0x48010, 1, 4, 1, 4, 0x0, 0xF, 0x0, 0x0, 0xC⟩,  -- IBS_CTL
  ⟨0x48014, 1, 4, 1, 4, 0x0, 0x0, 0x0, 0x0, 0x0⟩,  -- IBS_STATE
  ⟨0x48018, 1, 4, 1, 4, 0x0, 0x0, 0x0, 0x0, 0x0⟩,  -- IBS_TGT
  ⟨0x4801C, 1, 4, 1, 4, 0x0, 0x0, 0x0, 0x0, 0x0⟩,  -- IBS_MEAS
  ⟨0x48020, 8, 4, 1, 4, 0x0, 0x7FF, 0x0, 0x0, 0x0⟩,  -- IBS_VSEL
  ⟨0x48040, 1, 4, 1, 4, 0x0, 0xFFFF07FF, 0x0, 0x0, 0x70000000⟩,  -- IBS_TRACK
  ⟨0x48044, 1, 4, 1, 4, 0x0, 0xFFFFFFFF, 0x0, 0x0, 0xF0A01F4⟩,  -- IBS_SS
  ⟨0x48048, 1, 4, 1, 4, 0x0, 0xFFFFFFFF, 0x0, 0x0, 0x2D3C28FA⟩,  -- IBS_LIM
  ⟨0x4804C, 1, 4, 1, 4, 0x0, 0xFFFFFFFF, 0x0, 0x0, 0x400040⟩,  -- IBS_GAIN
  ⟨0x48050, 1, 4, 1, 4, 0x0, 0xFFFF, 0x0, 0x0, 0x140⟩,  -- IBS_VDRAW
  ⟨0x48054, 1, 4, 1, 4, 0x0, 0xFFFFFFFF, 0x0, 0x0, 0x14230522⟩,  -- IBS_SHED
  ⟨0x48058, 1, 4, 1, 4, 0x0, 0xFFFFFFFF, 0x0, 0x0, 0x87731908⟩,  -- IBS_SHARE
  ⟨0x4805C, 1, 4, 1, 4, 0x0, 0xFFFF07FF, 0x0, 0x0, 0x14140530⟩,  -- IBS_HYS
  ⟨0x48060, 1, 4, 1, 4, 0x0, 0xFFFF07FF, 0x0, 0x0, 0xC140530⟩,  -- IBS_KA
  ⟨0x48064, 1, 4, 1, 4, 0x0, 0xFFFFFFFF, 0x0, 0x0, 0x7A504C48⟩,  -- IBS_VIN
  ⟨0x48068, 1, 4, 1, 4, 0x0, 0x0, 0x0, 0x0, 0x0⟩,  -- IBS_OFS
  ⟨0x4806C, 1, 4, 1, 4, 0x0, 0x0, 0x0, 0x0, 0x0⟩,  -- IBS_LATE_CNT
  ⟨0x48080, 8, 4, 1, 4, 0x0, 0xFFFFF, 0x0, 0x0, 0x0⟩,  -- IBS_COEF
  ⟨0x48100, 16, 16, 1, 4, 0x0, 0x1, 0x0, 0x0, 0x1⟩,  -- IBS_PCFG
  ⟨0x48104, 16, 16, 1, 4, 0x0, 0x0, 0x0, 0x0, 0x20000000⟩,  -- IBS_PSTAT
  ⟨0x48108, 16, 16, 1, 4, 0x0, 0x0, 0x0, 0x0, 0x0⟩  -- IBS_PMEAS
  ]

/-- The rows whose registers begin in page 10 of 32 KB. -/
def rowsPage10 : List RegRow := [
  ⟨0x50010, 1, 4, 1, 4, 0x0, 0xFFFFFFFF, 0x0, 0x0, 0x7D695F5A⟩,  -- THM_THR
  ⟨0x50014, 1, 4, 1, 4, 0x0, 0xFFFF, 0x0, 0x0, 0x604⟩,  -- THM_HYS
  ⟨0x50018, 1, 4, 1, 4, 0x0, 0x1F1F1F, 0x0, 0x0, 0x80401⟩,  -- THM_TCFG
  ⟨0x5001C, 1, 4, 1, 4, 0x0, 0xFF, 0x0, 0x0, 0x19⟩,  -- THM_RATE
  ⟨0x50020, 1, 4, 1, 4, 0x0, 0x1FF, 0x0, 0x0, 0xC⟩,  -- THM_CFG
  ⟨0x50024, 1, 4, 1, 4, 0x0, 0x0, 0x0, 0x0, 0x4083⟩,  -- THM_CAL
  ⟨0x50028, 1, 4, 1, 4, 0x0, 0x0, 0x0, 0x0, 0x0⟩,  -- THM_STATE
  ⟨0x50030, 1, 4, 1, 4, 0x0, 0x0, 0xFFFFFFFF, 0x0, 0x0⟩,  -- THM_SUSP0
  ⟨0x50034, 1, 4, 1, 4, 0x0, 0x0, 0xFFFFFFFF, 0x0, 0x0⟩,  -- THM_SUSP1
  ⟨0x50040, 3, 4, 1, 4, 0x0, 0x0, 0x0, 0x0, 0x1B000000⟩,  -- THM_COMP
  ⟨0x51000, 64, 16, 1, 4, 0x0, 0x0, 0x0, 0x0, 0x0⟩,  -- THM_SITE
  ⟨0x51004, 64, 16, 1, 4, 0x0, 0xFFFF, 0x0, 0x0, 0x0⟩,  -- THM_GRAD
  ⟨0x51008, 64, 16, 1, 4, 0x0, 0x0, 0x0, 0x0, 0x0⟩,  -- THM_TDUTY
  ⟨0x5100C, 64, 16, 1, 4, 0x0, 0x0, 0x0, 0x0, 0x0⟩  -- THM_RAW
  ]

/-- The rows whose registers begin in page 11 of 32 KB. -/
def rowsPage11 : List RegRow := [
  ⟨0x58010, 1, 4, 1, 4, 0x0, 0x1, 0x0, 0x0, 0x1⟩,  -- CAP_CTL
  ⟨0x58014, 1, 4, 1, 4, 0xFFFFF, 0x0, 0x0, 0x0, 0x0⟩,  -- CAP_PKG
  ⟨0x58018, 1, 4, 1, 4, 0xFFFFFFFF, 0x0, 0x0, 0x0, 0x42E03B60⟩,  -- CAP_DIE
  ⟨0x5801C, 1, 4, 1, 4, 0x0, 0x0, 0x0, 0x0, 0x0⟩,  -- CAP_SHARE
  ⟨0x58020, 1, 4, 1, 4, 0x0, 0x0, 0x0, 0x0, 0x0⟩,  -- CAP_EST
  ⟨0x58024, 1, 4, 1, 4, 0x0, 0x0, 0x0, 0x0, 0x0⟩,  -- CAP_SHORT
  ⟨0x58028, 1, 4, 1, 4, 0x0, 0x3F, 0x0, 0x0, 0x6⟩,  -- CAP_PRIO
  ⟨0x5802C, 1, 4, 1, 4, 0x0, 0xFFFFFFFF, 0x0, 0x0, 0x321903E8⟩,  -- CAP_AGE
  ⟨0x58030, 1, 4, 1, 4, 0x0, 0x3FF000F, 0x0, 0x0, 0x2580004⟩,  -- CAP_TALLY
  ⟨0x58034, 1, 4, 1, 4, 0x0, 0xFFFF, 0x0, 0x0, 0x25A⟩,  -- CAP_CFG
  ⟨0x58038, 1, 4, 1, 4, 0x0, 0x1F, 0x0, 0x0, 0x10⟩,  -- CAP_THR
  ⟨0x5803C, 1, 4, 1, 4, 0x0, 0x0, 0x0, 0x0, 0x0⟩,  -- CAP_GRD_STRAY
  ⟨0x58040, 3, 4, 1, 4, 0x0, 0x1FFFF, 0x0, 0x0, 0x100A⟩,  -- CAP_CLS
  ⟨0x58050, 4, 4, 1, 4, 0x0, 0x0, 0x0, 0x0, 0x0⟩,  -- CAP_CBUD
  ⟨0x58060, 4, 4, 1, 4, 0x0, 0x0, 0x0, 0x0, 0x4000⟩,  -- CAP_CGAIN
  ⟨0x58070, 3, 4, 1, 4, 0x0, 0x0, 0x0, 0x0, 0xF⟩,  -- CAP_CSTATE
  ⟨0x58100, 32, 4, 1, 4, 0x8000000F, 0x0, 0x40000000, 0x0, 0x0⟩,  -- CAP_DGRADE
  ⟨0x58200, 4, 64, 16, 4, 0x0, 0xFFFF03FF, 0x0, 0x0, 0x0⟩,  -- CAP_GTAB
  ⟨0x58300, 32, 4, 1, 4, 0x0, 0xFFFFFF, 0x0, 0x0, 0x140000⟩,  -- CAP_LEAK
  ⟨0x58400, 64, 4, 1, 4, 0x0, 0xFFFFFF, 0x0, 0x0, 0xFF0000⟩  -- CAP_WGT
  ]

/-- The rows whose registers begin in page 12 of 32 KB. -/
def rowsPage12 : List RegRow := [
  ⟨0x60010, 1, 4, 1, 4, 0x1FFFF, 0x0, 0x0, 0x0, 0x1FFFF⟩,  -- NRG_CTL
  ⟨0x60014, 1, 4, 1, 4, 0x0, 0x0, 0x0, 0x1FFFF, 0x0⟩,  -- NRG_CLR
  ⟨0x60018, 1, 4, 1, 4, 0x0, 0x0, 0x0, 0x0, 0x0⟩,  -- NRG_EMS
  ⟨0x6001C, 1, 4, 1, 4, 0x0, 0xFF00FFFF, 0x0, 0x0, 0x1E00640C⟩,  -- NRG_SET
  ⟨0x60100, 17, 8, 1, 4, 0x0, 0x0, 0x0, 0x0, 0x0⟩,  -- NRG_PART_LO
  ⟨0x60104, 17, 8, 1, 4, 0x0, 0x0, 0x0, 0x0, 0x0⟩,  -- NRG_PART_HI
  ⟨0x60200, 32, 4, 1, 4, 0x0, 0x0, 0x0, 0x0, 0x0⟩,  -- NRG_DCUR
  ⟨0x60280, 8, 4, 1, 4, 0x11F, 0x0, 0x0, 0x0, 0x0⟩,  -- NRG_WATCH
  ⟨0x60300, 8, 16, 1, 4, 0x0, 0x0, 0x0, 0x0, 0x0⟩,  -- NRG_WMIN
  ⟨0x60304, 8, 16, 1, 4, 0x0, 0x0, 0x0, 0x0, 0x0⟩,  -- NRG_WTS_LO
  ⟨0x60308, 8, 16, 1, 4, 0x0, 0x0, 0x0, 0x0, 0x0⟩,  -- NRG_WTS_HI
  ⟨0x60400, 8, 4, 1, 4, 0x0, 0x0, 0xFFFFFFFF, 0x0, 0x0⟩,  -- NRG_SFLAG
  ⟨0x61000, 256, 8, 1, 4, 0x0, 0xFFFF, 0x0, 0x0, 0x0⟩,  -- NRG_SBASE
  ⟨0x61004, 256, 8, 1, 4, 0x0, 0x0, 0x0, 0x0, 0x0⟩,  -- NRG_SMEAS
  ⟨0x64010, 1, 4, 1, 4, 0x1, 0x0, 0x0, 0x0, 0x0⟩,  -- TLM_CTL
  ⟨0x64014, 1, 4, 1, 4, 0xFFFFF000, 0x0, 0x0, 0x0, 0x0⟩,  -- TLM_BASE_LO
  ⟨0x64018, 1, 4, 1, 4, 0xFFFF, 0x0, 0x0, 0x0, 0x0⟩,  -- TLM_BASE_HI
  ⟨0x6401C, 1, 4, 1, 4, 0xFFFF, 0x0, 0x0, 0x0, 0x1⟩,  -- TLM_COUNT
  ⟨0x64020, 1, 4, 1, 4, 0x0, 0x0, 0x0, 0x0, 0x0⟩,  -- TLM_SEQ
  ⟨0x64024, 1, 4, 1, 4, 0x0, 0x0, 0x0, 0x0, 0x0⟩,  -- TLM_DROP
  ⟨0x64028, 1, 4, 1, 4, 0x0, 0x7F, 0x0, 0x0, 0x40⟩  -- TLM_PMB
  ]

/-- The rows whose registers begin in page 13 of 32 KB. -/
def rowsPage13 : List RegRow := [
  ⟨0x68010, 1, 4, 1, 4, 0x3, 0x0, 0x0, 0x0, 0x0⟩,  -- ADC_CFG
  ⟨0x68014, 1, 4, 1, 4, 0x0, 0x0, 0x0, 0x0, 0x0⟩,  -- ADC_STATE
  ⟨0x68018, 1, 4, 1, 4, 0x0, 0x0, 0x0, 0x0, 0x0⟩,  -- ADC_CLOSURE
  ⟨0x6801C, 1, 4, 1, 4, 0x3FF, 0x0, 0x0, 0x80000000, 0x0⟩,  -- ADC_CALCMD
  ⟨0x68020, 1, 4, 1, 4, 0xFFFFFFFF, 0x0, 0x0, 0x0, 0x0⟩,  -- ADC_CALTGT
  ⟨0x68024, 1, 4, 1, 4, 0xFFFF, 0x0, 0x0, 0x0, 0x0⟩,  -- ADC_TMR
  ⟨0x68100, 2, 512, 1, 4, 0xFF7F0F, 0x0, 0x0, 0x80000000, 0x0⟩,  -- ADC_SEQ
  ⟨0x68104, 2, 512, 1, 4, 0xFF7F03, 0x0, 0x0, 0x80000000, 0x0⟩,  -- ADC_INJ
  ⟨0x68108, 2, 512, 1, 4, 0x0, 0x0, 0x0, 0x0, 0x0⟩,  -- ADC_SSTAT
  ⟨0x6810C, 2, 512, 1, 4, 0x0, 0x0, 0x0, 0x0, 0x0⟩,  -- ADC_TSTART
  ⟨0x68140, 2, 512, 16, 4, 0x3F, 0x0, 0x0, 0x0, 0x0⟩,  -- ADC_SLOT
  ⟨0x68180, 2, 512, 4, 4, 0x3F, 0x0, 0x0, 0x0, 0x0⟩,  -- ADC_ISLOT
  ⟨0x68200, 2, 512, 16, 4, 0x0, 0x0, 0x0, 0x0, 0x0⟩,  -- ADC_RES
  ⟨0x68240, 2, 512, 4, 4, 0x0, 0x0, 0x0, 0x0, 0x0⟩,  -- ADC_IRES
  ⟨0x68800, 2, 256, 48, 4, 0xFFFFFFFF, 0x0, 0x0, 0x0, 0x40000000⟩  -- ADC_CAL
  ]

/-- The rows whose registers begin in page 14 of 32 KB. -/
def rowsPage14 : List RegRow := [
  ⟨0x70010, 1, 4, 1, 4, 0x0, 0x13777, 0x0, 0x0, 0x12010⟩,  -- TRV_CFG
  ⟨0x70014, 1, 4, 1, 4, 0x0, 0x0, 0x0, 0x0, 0x0⟩,  -- TRV_STATE
  ⟨0x70018, 1, 4, 1, 4, 0x0, 0x0, 0x0, 0x0, 0x0⟩,  -- TRV_HOP
  ⟨0x7001C, 1, 4, 1, 4, 0x0, 0x0, 0x0, 0x0, 0x0⟩,  -- TRV_ERR
  ⟨0x70020, 1, 4, 1, 4, 0x0, 0x0, 0x0, 0x0, 0x0⟩,  -- TRV_TOFS
  ⟨0x70024, 1, 4, 1, 4, 0x0, 0x0, 0x0, 0x0, 0x0⟩,  -- TRV_PSUM
  ⟨0x70028, 1, 4, 1, 4, 0x0, 0x0, 0x0, 0x0, 0x0⟩,  -- TRV_REMOTE
  ⟨0x70030, 1, 4, 1, 4, 0x0, 0x0, 0x0, 0x0, 0x0⟩,  -- TRV_TIME_LO
  ⟨0x70034, 1, 4, 1, 4, 0x0, 0x0, 0x0, 0x0, 0x0⟩,  -- TRV_TIME_HI
  ⟨0x70040, 1, 4, 1, 4, 0xFFFFF, 0x0, 0x0, 0x0, 0x0⟩,  -- TRV_EPOCH_CAP
  ⟨0x70044, 1, 4, 1, 4, 0xFFFFFFFF, 0x0, 0x0, 0x0, 0x0⟩,  -- TRV_EPOCH_TS_LO
  ⟨0x70048, 1, 4, 1, 4, 0xFFFFFFFF, 0x0, 0x0, 0x0, 0x0⟩,  -- TRV_EPOCH_TS_HI
  ⟨0x7004C, 1, 4, 1, 4, 0x0, 0x0, 0x0, 0x1, 0x0⟩,  -- TRV_EPOCH_GO
  ⟨0x70050, 1, 4, 1, 4, 0x0, 0x0, 0x0, 0x0, 0x0⟩  -- TRV_EPOCH_STAT
  ]

/-- The rows whose registers begin in page 15 of 32 KB. -/
def rowsPage15 : List RegRow := [
  ⟨0x78010, 1, 4, 1, 4, 0x0, 0x0, 0x0, 0x0, 0x0⟩,  -- CAD_LOCK
  ⟨0x78014, 1, 4, 1, 4, 0x0, 0xFF, 0x0, 0x0, 0x1⟩,  -- CAD_SLEW
  ⟨0x78018, 1, 4, 1, 4, 0x0, 0x1FF0FFF, 0x0, 0x0, 0x12C0B33⟩,  -- CAD_TRC
  ⟨0x7801C, 1, 4, 1, 4, 0x0, 0xFF, 0x0, 0x0, 0x82⟩,  -- CAD_THM
  ⟨0x78020, 1, 4, 1, 4, 0x0, 0x7FF07FF, 0x0, 0x0, 0x6400500⟩,  -- CAD_IB
  ⟨0x78024, 1, 4, 1, 4, 0x0, 0xFF, 0x0, 0x0, 0x2D⟩,  -- CAD_IBPH
  ⟨0x78028, 1, 4, 1, 4, 0x0, 0x13FFFF9, 0x0, 0x0, 0x13FFFF9⟩,  -- CAD_FWPERM
  ⟨0x78030, 4, 4, 1, 4, 0x0, 0xFFFFFFFF, 0x0, 0x0, 0xFFFFFFFF⟩,  -- CAD_GRADE
  ⟨0x78100, 32, 4, 1, 4, 0x0, 0x3FF03FF, 0x0, 0x0, 0x3480168⟩,  -- CAD_DOM
  ⟨0x78810, 1, 4, 1, 4, 0x3FFFF, 0x0, 0x0, 0x0, 0x23440⟩,  -- MEM_OWNER
  ⟨0x78814, 1, 4, 1, 4, 0xFFF, 0x0, 0x0, 0x0, 0xAAA⟩,  -- MEM_PWR
  ⟨0x78818, 1, 4, 1, 4, 0x3FFF, 0x0, 0x0, 0x0, 0x3F01⟩,  -- MEM_TEST
  ⟨0x78820, 6, 4, 1, 4, 0x0, 0x0, 0x0, 0x0, 0x0⟩  -- MEM_MSTAT
  ]

/-- The rows whose registers may lie at an offset. STN_VAL (0x1_8000) fills a page of its own. -/
def rowsAt (off : Nat) : List RegRow :=
  match off / 0x8000 with
  | 0 => rowsPage0
  | 2 => rowsPage2
  | 3 => rowsPage3
  | 4 => rowsPage4
  | 6 => rowsPage6
  | 7 => rowsPage7
  | 8 => rowsPage8
  | 9 => rowsPage9
  | 10 => rowsPage10
  | 11 => rowsPage11
  | 12 => rowsPage12
  | 13 => rowsPage13
  | 14 => rowsPage14
  | 15 => rowsPage15
  | _ => []

/-- The index pair of an offset in a row, where the offset is one of the row's registers. -/
def RegRow.index? (r : RegRow) (off : Nat) : Option (Nat × Nat) :=
  let x := off - r.base
  let i := x / r.stride
  let j := x % r.stride / r.innerStride
  if r.base ≤ off ∧ x % r.stride % r.innerStride = 0 ∧ i < r.count ∧ j < r.inner then some (i, j) else none

/-- The row that holds an offset, with the index of the register in it (R649: no row, no register). -/
def findRow (off : Nat) : Option (RegRow × Nat × Nat) :=
  (rowsAt off).findSome? fun r => (r.index? off).map fun p => (r, p)

/-- The block whose common registers of R648 hold an offset, and which of the four it is. -/
def commonAt (off : Nat) : Option (Nat × Nat) :=
  (List.range 22).findSome? fun n =>
    let b := blockBase n
    if b ≤ off ∧ off < b + 16 ∧ (off - b) % 4 = 0 then some (n, (off - b) / 4) else none

/-- The register block that owns an offset, by the pages of Table 16.1 (R585 names blocks this way). -/
def blockOf (off : Nat) : Option Nat :=
  if off < 0x800 then some 0 else if off < 0x1000 then some 1 else if off < 0x2000 then some 19
  else if off < 0x2400 then some 10 else if off < 0x2800 then some 21 else if off < 0x3000 then some 18
  else if off < 0x10000 then none else if off < 0x14000 then some 3 else if off < 0x20000 then some 4
  else if off < 0x30000 then some 5 else if off < 0x38000 then some 6
  else if 0x38800 ≤ off ∧ off < 0x38900 then some 8 else if off < 0x40000 then some 7
  else if off < 0x48000 then some 9 else if off < 0x50000 then some 11 else if off < 0x58000 then some 12
  else if off < 0x60000 then some 13 else if off < 0x64000 then some 14 else if off < 0x68000 then some 15
  else if off < 0x70000 then some 16 else if off < 0x78000 then some 17 else if off < 0x78800 then some 2
  else if off < 0x80000 then some 20 else none

/-- The reset values that depend on the index: CEL_CFG, TRC_TSTAT (Table 3.1), CG_STAG (R251), DOM_CFG,
IBS_VSEL (Table 7.6) and THM_COMP. -/
def indexedReset (base i : Nat) : Option Nat :=
  if base = 0x11000 then some (0x8000 + 0x101 * (8 * (i % 4) + (i / 4) % 8))
  else if base = 0x21004 then
    some (0xB8000000 + 0x200000 * (i % 8 / 4) + 0x100000 * (i / 32) + 0x8000 * (4 * (i / 8 % 4) + i % 4))
  else if base = 0x38100 then some ((3 * (i / 8) + 5 * (i % 8)) % 8)
  else if base = 0x40200 then some (0x100190 + 0x200000 * i)
  else if base = 0x48020 then some ([1440, 1400, 1360, 1320, 1480, 1520, 1560, 1600].getD i 0)
  else if base = 0x50040 then some ([0x1B000000, 0x1C000000, 0x24000000].getD i 0)
  else none

/-- What each register reads at reset (Tables 16.2-16.9); an offset that is no register reads 0 (R56). -/
def resetVal (off : Nat) : Word :=
  match commonAt off with
  | some (n, 2) => BitVec.ofNat 32 (sevReset n)
  | some _ => 0
  | none =>
    match findRow off with
    | none => 0
    | some (r, i, _) => BitVec.ofNat 32 ((indexedReset r.base i).getD r.reset)

/-- Whether an offset is a register of R649, the coefficient window apart. -/
def isRegister (off : Nat) : Bool := (commonAt off).isSome || (findRow off).isSome

end Sys2Proof.Machine
end

