-- ==== Sys2Proof/Machine/Parts.lean ====
section
/-!
DEFINITION. The state of the block that stands behind its registers: counters, histories, timers and queues that
the rules of the spec give the block and that no register of its own shows. Every field is plain data. A field named
`…At` or `…Due` is an instant of the model's time (ns); `none` means that the timer does not run.
-/

namespace Sys2Proof.Machine

/-- A sparse table: keys strictly rising, no entry equal to what an unlisted key reads as. -/
abbrev Tbl (α : Type) := List (Nat × α)

/-- The outcome of the latest access on a register port: SLVERR or OKAY, and the data read (0 for a write). -/
structure BusResp where
  slverr : Bool := false
  data : Word := 0
  deriving DecidableEq, Repr

/-! ### Traverse (chapter 12) -/

/-- A frame that waits to leave on a lane: its word, when it arrived or was created, whether this die created it,
and the delay of the hop it arrived on (0.125 ns) for the delay field of a SYNC frame (R526). -/
structure TxEntry where
  word : Word64
  since : Nat
  own : Bool
  hop : Nat
  deriving DecidableEq, Repr

/-- One lane pair of the die: frames waiting to leave (R513), when the frame now leaving ends, the nine bytes of the latest
frame to leave after its comma (R510), the end of the latest wake burst (R551), and the instants of CRC failures counted for R515 on the receive lane of
the same name. -/
structure LaneHid where
  txq : List TxEntry := []
  busyUntil : Nat := 0
  wire : List Byte := []
  burst : Nat := 0
  crcAt : List Nat := []
  deriving DecidableEq, Repr

/-- One hop (R515-R521): broken, set aside, the ECHO exchanges done and their summed round trip (0.125 ns), when the
latest ECHO left and its number, and when the hop was last retried. -/
structure HopHid where
  broken : Bool := false
  aside : Bool := false
  echoDone : Nat := 0
  echoSum : Nat := 0
  echoAt : Option Nat := none
  echoNo : Nat := 0
  retryAt : Nat := 0
  deriving DecidableEq, Repr

/-- A pending cap epoch (R544): effective timestamp, cap, and its place in the order of acceptance (R547). -/
structure Epoch where
  ts : Nat
  cap : Nat
  order : Nat
  deriving DecidableEq, Repr

/-- A relayed request (R545): kind 0 cap write, 1 epoch; its fields; when it was sent; the mailbox channel that
waits for it, if one does. -/
structure Relay where
  kind : Nat
  cap : Nat
  ts36 : Nat
  sentAt : Nat
  chan : Option Nat
  deriving DecidableEq, Repr

/-- A power-sum lap in progress on the principal (R536-R538): its number, when SUM was sent, what came back, and the
reports by die (D and F mantissas). -/
structure Lap where
  no : Nat
  sentAt : Nat
  back : Option (Nat × Nat × Bool × Bool)
  reports : List (Nat × Nat × Nat)
  deriving DecidableEq, Repr

/-- The lap as a member sees it go by: its number, the lane on which SUM first came, the sums so far with their overflows, the
dies seen in it, and whether its shares have come (R534, R552). -/
structure RingLap where
  no : Nat
  lane : Nat
  sumD : Nat × Bool
  sumF : Nat × Bool
  dies : List Nat
  shared : Bool
  deriving DecidableEq, Repr

/-- The traverse logic of the die. -/
structure TrvHid where
  cw : LaneHid := {}
  ccw : LaneHid := {}
  nextHop : HopHid := {}
  prevHop : HopHid := {}
  held : List (Nat × Word64) := []
  seen : List (Nat × Word64) := []
  lockAt : Option Nat := none
  started : Bool := false
  alignAt : Option Nat := none
  okOffsets : Nat := 0
  slewLeft : Int := 0
  slewAt : Nat := 0
  syncNo : Nat := 0
  latched : Option (Nat × Nat) := none
  latchTs : Nat := 0
  lapNo : Nat := 0
  lap : Option Lap := none
  lastSumLap : Option Nat := none
  lowLaps : Nat := 0
  lastShares : Tbl Nat := []
  left : List Nat := []
  principalAt : Nat := 0
  lostAt : Option Nat := none
  lostDie : Nat := 0
  claimSent : Bool := false
  claimant : Option Nat := none
  claimRetryAt : Option Nat := none
  capSentAt : Nat := 0
  epochs : List Epoch := []
  epochOrder : Nat := 0
  relays : List Relay := []
  bcastAt : Tbl Nat := []
  gotShare : Bool := false
  waking : Bool := false
  princAway : Bool := false
  alignDue : Bool := false
  ring : Option RingLap := none
  claimBar : Bool := false
  deriving DecidableEq, Repr

/-! ### Mailboxes and the core (chapter 14) -/

/-- A long Ibsel command under way on a channel: its opcode, the unit it acts on, when it started, and whether its
action has started. `result` is what a relay answered: 0 done, 1 refused, 2 late, 3 timed out. -/
structure LongOp where
  op : Nat
  unit : Nat
  sinceAt : Nat
  started : Bool
  result : Option Nat := none
  deriving DecidableEq, Repr

/-- A mailbox channel behind MBX_CST: the last accepted SEQ and OPCODE (R592), the stored final response of that
request, when its doorbell rang and in which order (R594, R597), whether the guard answered, and a long command. -/
structure ChanHid where
  lastSeq : Option Nat := none
  lastOp : Nat := 0
  stored : Option (List Word) := none
  bellAt : Nat := 0
  order : Nat := 0
  guarded : Bool := false
  long : Option LongOp := none
  deriving DecidableEq, Repr

/-- The management core and the resets: when a core reset ends (R606), when an interface reset ends (R604), whether
a block reset is in progress (R607), sub-microseconds of the watchdog, whether the core waits (R295), the order given to the next doorbell, and
retunes whose channel an interface reset has emptied: the tract, and the writes still to make (R604). -/
structure CoreHid where
  exitDue : Option Nat := none
  ifaceDue : Option Nat := none
  blockReset : Bool := false
  wdtSub : Nat := 0
  waiting : Bool := false
  bells : Nat := 0
  orphans : List (Nat × List (Nat × Word)) := []
  deriving DecidableEq, Repr

/-! ### Boot, clocks and pins (chapters 1 and 15) -/

/-- Boot: the low word held by the loader (R626), the plat check in progress and its end (R638), the firmware CRC in
progress and its end (R641), Benchmark calibration and its end (R621), the trim of the trim area (R625), whether the
core has been released since the lock, and the domain-start sequence (R642): whether one is in progress, the domains still
to start and the group that is starting. -/
structure BootHid where
  ldLow : Word := 0
  ldHeld : Bool := false
  checkDue : Option Nat := none
  fwDue : Option Nat := none
  bmDue : Option Nat := none
  bmTrim : Word := 0
  released : Bool := false
  toStart : List Nat := []
  group : List Nat := []
  seq : Bool := false
  deriving DecidableEq, Repr

/-- Clocks (R17-R19): the PLL locked with lclk and gate_clk running, the reference lost, the fast oscillator stable, when
gate_clk started (R53), whether the period counter was aligned when the reference was lost (R332), the latest report of
SYNC_IN loss as its severity and instant, when the PLL is to return to SYNC_IN, and whether phase offsets slew back. -/
structure ClkHid where
  pll : Bool := false
  syncLost : Bool := false
  fastOsc : Bool := false
  gateAt : Nat := 0
  aligned : Bool := false
  report : Option (Nat × Nat) := none
  backAt : Option Nat := none
  slewing : Bool := false
  deriving DecidableEq, Repr

/-- Pins and host-die levels: aon_host_pwrgd, the wrapper instruction loaded and the one executed (0 BYPASS, 1 EXTEST, 2
INTEST, 3 MBIST; R81-R83), the levels of its serial port and what WSO shows (R81), WAKE_N active, the end of the FAULT_N pulse, aon_state as the port shows it and since when
(R50), whether a block reset has taken effect that aon_state does not show yet (R59, R607), when VBLK fell (R79), and whether FAULT_N
was low when last sampled while the block did not drive it (R573). -/
structure PinHid where
  hostPwrgd : Bool := true
  loaded : Nat := 0
  wrapper : Nat := 0
  port : WrapperPort := ⟨false, false, false, false, false, false, false, false⟩
  wso : Bool := false
  wakeN : Bool := false
  pulseDue : Nat := 0
  aonOut : Nat := 5
  aonAt : Nat := 0
  inReset : Bool := false
  fellAt : Nat := 0
  extLow : Bool := false
  deriving DecidableEq, Repr

/-- What happened to register bits at one instant: the bits of access W1C that hardware set, by register, and the bits that
host software wrote; each beside its instant + 1. Also, as instants + 1, the latest pin trigger, and the latest change of
PLAT_STATE.PHASE (R15, R16, R571, R633, R640). -/
structure CycHid where
  setAt : Nat := 0
  set : Tbl Word := []
  wroteAt : Nat := 0
  wrote : Tbl Word := []
  trigAt : Nat := 0
  phaseAt : Nat := 0
  deriving DecidableEq, Repr

/-- The memories: words with an uncorrectable error (memory, word index), power-up ends, consecutive skipped tests,
and when each memory's latest test interval began. -/
structure MemHid where
  bad : List (Nat × Nat) := []
  weak : List (Nat × Nat) := []
  upDue : Tbl Nat := []
  skips : Tbl Nat := []
  testAt : Tbl Nat := []
  beforeSleep : Option Nat := none
  deriving DecidableEq, Repr

/-! ### Cells, stations and tracts (chapters 2, 3 and 5) -/

/-- A cell. Currents in mA. `iSum`, `iCnt` gather the 100 us average of R105 and R141, `maxq` the falling candidates for
IMAX, `shed` is the shed fraction in 1/307,200, `target` its share target of R106, `trim` its sharing trim (R106) and `cut`
what the current limit takes off its duty code (R102); `isns`, `ended` are by phase its latest sensed current and whether
peak termination ended its conduction in the latest frame (R101); `lowOff` by phase the instant of the latest zero-current
detection (R113) and `zcdTimed` a stuck detector (R116). `rampFrom`, `rampSteps`: where a ramp began and its steps taken.
`okFrames` counts frames of operation without a short condition (R139), `idleWin` tells that the cell lacked a share target in
some frame since the latest share update (R141), `was` the earlier pairs of trim and cut with the instant to which each held,
`reach` by phase the conduction times at which peak termination falls in the periods of a frame, that of the last period
before it first (R101), and `bars` the phases that no header stage has admitted yet, one bit each (R287). -/
structure CellHid where
  stepDue : Nat := 0
  rampFrom : Nat := 0
  rampSteps : Nat := 0
  i1us : List Int := []
  maxq : List (Nat × Int) := []
  condCnt : Nat := 0
  hiccupDue : Option Nat := none
  okFrames : Nat := 0
  iSum : Int := 0
  iCnt : Nat := 0
  target : Int := 0
  openCond : Bool := false
  shed : Nat := 0
  satSince : Option Nat := none
  satOn : Bool := false
  rejoin : Bool := false
  trim : Int := 0
  cut : Nat := 0
  was : List (Nat × Int × Nat) := []
  idleWin : Bool := false
  reach0 : List Nat := []
  reach1 : List Nat := []
  bars : Nat := 0
  isns0 : Int := 0
  isns1 : Int := 0
  ended0 : Bool := false
  ended1 : Bool := false
  lowOff0 : Option Nat := none
  lowOff1 : Option Nat := none
  zcdTimed0 : Bool := false
  zcdTimed1 : Bool := false
  deriving DecidableEq, Repr

/-- A station: consecutive samples far from the median (R122), comparator tripped, disarmed, and consecutive samples
stuck tripped (R133); `low` is its latest reading in 1.25 mV steps where that is under range (R118). -/
structure StnHid where
  low : Nat := 0
  far : Nat := 0
  tripped : Bool := false
  disarmed : Bool := false
  stuck : Nat := 0
  deriving DecidableEq, Repr

/-- Feed-forward that waits for the computed samples of a tract: from which instant a slot takes it, the values for
consecutive samples, and the setting-out instance it belongs to (none for a link). -/
structure FfRun where
  startAt : Nat
  vals : List Int
  inst : Option Nat
  deriving DecidableEq, Repr

/-- A tract: loop histories (R155; u[n-1] is TRC_UOUT), w (R165), open-hold (R181-R193), snap (R127-R132), chain gate
(R33-R35, R248), currents of the latest frames in 0.1 A (R150), light load (R110-R115). `internal` is 0, or 1 during a
tract reset and 2 during a set switch. `ePrev` is the error of the frame before (R148), `duty` a delivered duty code and the
slot end from which it applies (R149), `dutyWas` the codes before it with the instant to which each applied, `samples` the samples
of its stations and `marked` the one of the latest suspect mark (R123), `pulseWas` the earlier values of `pulse` with the instant
to which each held (R112), `closeSet` the set that a CLOSE
selected (R188), `snapFrom` and `snapEnds` by phase when
the latest snap's conduction begins, ps (R90, R127), and ends, ns (R128), `lastSlot` a tract that was closed when a
failover began (Table 3.3). -/
structure TractHid where
  e0 : Int := 0
  ePrev : Int := 0
  duty : Option (Nat × Nat) := none
  dutyWas : List (Nat × Nat) := []
  samples : Nat := 0
  marked : Nat := 0
  closeSet : Nat := 0
  lastSlot : Bool := false
  e1 : Int := 0
  e2 : Int := 0
  e3 : Int := 0
  u2 : Int := 0
  u3 : Int := 0
  w : Int := 0
  sampled : Nat := 0
  ff : List FfRun := []
  staging : Option (List Word) := none
  enterAt : Nat := 0
  holdAt : Option Nat := none
  closeAt : Option Nat := none
  wasStopped : Bool := false
  internal : Nat := 0
  internalAt : Nat := 0
  trstAt : Nat := 0
  snapFrom : List Nat := []
  snapEnds : List Nat := []
  lockEnd : Nat := 0
  snapPause : Option Nat := none
  floorPause : List (Nat × Nat) := []
  floorOn : Bool := false
  snaps : List Nat := []
  storm : Bool := false
  consensus : Bool := false
  med : Nat := 0
  iHist : List Int := []
  light : Bool := false
  pulse : Bool := false
  pulseWas : List (Nat × Bool) := []
  reqs : List (Nat × Nat) := []
  lastLink : Option Nat := none
  dutyPause : Bool := false
  derate : Nat := 0
  derSum : Int := 0
  derCnt : Nat := 0
  failPause : Bool := false
  seeded : Bool := false
  lateLoss : Bool := false
  deriving DecidableEq, Repr

/-- What is common to the loops: the frame in progress, late samples by lane (frame numbers), residue failures by
engine (slot ends), engines found failed but not yet declared with the slot end at which they are, the failover in progress
(its t0 and the engine that failed), stall positions by frame and lane (R153), and k and V_IB,code before the latest
update, with its instant (R160). -/
structure LoopHid where
  frame : Nat := 0
  frameAt : Option Nat := none
  late : Tbl (List Nat) := []
  residue : Tbl (List Nat) := []
  failDue : List (Nat × Nat) := []
  failT0 : Option Nat := none
  failedEngine : Nat := 0
  stalls : List (Nat × Nat) := []
  normPrev : Nat × Nat := (0, 0)
  normAt : Nat := 0
  deriving DecidableEq, Repr

/-! ### Domains (chapter 6) -/

/-- Where a domain stands within its state of Table 6.1: at rest; in the header stages of a switch-on from Retention or
from Off (R287); slewing up after them (R288); in the delay or the ramp of soft start (R94); in hiccup (R137); slewing
to retention (R282); in the delay or the ramp of soft stop (R97). -/
inductive DomPhase where
  | rest
  | stagesRet
  | stagesOff
  | slewUp
  | startDelay
  | startRamp
  | hiccup
  | slewRet
  | stopDelay
  | stopRamp
  deriving DecidableEq, Repr

/-- A step of a domain's grade (R429-R433, R44): the grade it moves to, whether it raises the voltage first and the commanded
target that it raises to, whether the request is outstanding or reissued and when it was sent. -/
structure GradeStep where
  dest : Nat
  rising : Bool
  code : Nat
  sentAt : Option Nat
  reissued : Bool
  eff : Nat
  deriving DecidableEq, Repr

/-- A domain: what it is commanded to be (0 Off, 1 On, 2 Retention), the header stages, the delays and ramps, the
ramp's rate in mV/ms, the inrush wait (R261), the instances that ask for continuous conduction, the retention watch (R284), and its grade step. -/
structure DomHid where
  commanded : Nat := 0
  phase : DomPhase := .rest
  stagesRun : Nat := 0
  stageDue : Nat := 0
  stageOk : Bool := false
  waitFrom : Option Nat := none
  waitCheck : Nat := 0
  loaded : List Nat := []
  slow : Bool := false
  delayDue : Nat := 0
  rampAt : Nat := 0
  rate : Nat := 0
  full : Bool := false
  fresh : Bool := false
  lowFrom : Option Nat := none
  lowOn : Bool := false
  ccm : List Nat := []
  step : Option GradeStep := none
  stepAt : Nat := 0
  clip : Bool := false
  deriving DecidableEq, Repr

/-- The chain gate as a whole: when the stagger counter last started (R249), the pause slot last taken (R255), and the
forced pause around a gate_clk restart (R53). -/
structure CgHid where
  staggerAt : Nat := 0
  slotNo : Option Nat := none
  gateHold : Option Nat := none
  allForced : Bool := false
  deriving DecidableEq, Repr

/-- The input power envelope (R265-R272): the latest estimates of 1 ms, newest first, P_env once set, and how many
updates in a row gate_ballast has been 15, and whether it was above 0 when last looked at. -/
structure EnvHid where
  ests : List Nat := []
  penv : Option Nat := none
  satCnt : Nat := 0
  up : Bool := false
  deriving DecidableEq, Repr

/-! ### Setting-out (chapter 4) -/

/-- An instance of a plan index: its number, the sequencer, the instant of its announce; the fetch it waits for; when its
record became usable, the record's bytes and the stamp of its slot; whether it runs on plain feedback; the domains whose
lift has started with that lift, the domains left out by R227; its arrive, its duration from there, and its feed-forward by tract. -/
structure Inst where
  no : Nat
  idx : Nat
  seq : Nat
  annAt : Nat
  fetch : Option Nat := none
  ready : Nat := 0
  rcd : Option (List Byte) := none
  stamp : Nat := 0
  plain : Bool := false
  lifts : List (Nat × Nat) := []
  out : List Nat := []
  arrAt : Nat := 0
  dur : Nat := 2000
  ffs : List (Nat × Int) := []
  deriving DecidableEq, Repr

/-- A fetch: one header read and one record read for a plan index (R213-R216), its number, whether its record read waits
for its header read (R208), the GEN and COUNT its header read returned, and the bytes its record read returned. -/
structure Fetch where
  no : Nat
  idx : Nat
  seq : Nat
  mark : Nat
  held : Bool := false
  hdrIssued : Bool := false
  hdr : Option (Nat × Nat) := none
  recIssued : Bool := false
  rcd : Option (List Byte) := none
  deriving DecidableEq, Repr

/-- An arrive that waits for a header read: its instance, plan index and sequencer, and the GEN and slot stamp of the
record it used, where it used one (R222). -/
structure Arrive where
  inst : Nat
  idx : Nat
  seq : Nat
  used : Option (Nat × Nat)
  deriving DecidableEq, Repr

/-- A plan read in flight: its identifier, its byte address, whether it reads the header, the plan index and sequencer it is
for, the fetch it serves, the arrives attached to it, when it was issued, its place in the order of issue, and whether
its data is still wanted (R63, R216, R220). -/
structure PlanRead where
  rid : Nat
  addr : Nat
  header : Bool
  idx : Nat
  seq : Nat
  fetch : Option Nat
  arrives : List Arrive
  since : Nat
  order : Nat
  live : Bool
  deriving DecidableEq, Repr

/-- A transaction of the AXI4 initiator as its address channel shows it: identifier, 48-bit address, INCR beats of 16 bytes,
AxCACHE, AxPROT, AxQOS, whether it locks, and the write strobe of each beat (Table 1.10). -/
structure AxiRequest where
  id : Nat
  addr : Nat
  beats : Nat
  cache : BitVec 4
  prot : BitVec 3
  qos : BitVec 4
  lock : Bool
  strobe : Option (BitVec 16)
  deriving DecidableEq, Repr

/-- A plan read on the initiator (Table 1.10). -/
def PlanRead.request (r : PlanRead) : AxiRequest :=
  { id := r.rid, addr := r.addr % 2 ^ 48, beats := 2, cache := 0b0010#4, prot := 0b010#3, qos := 0xE#4, lock := false, strobe := none }

/-- The write of a telemetry record to an address (Table 1.10). -/
def recordRequest (addr : Nat) : AxiRequest :=
  { id := 0, addr := addr % 2 ^ 48, beats := 16, cache := 0b0011#4, prot := 0b010#3, qos := 0x4#4, lock := false, strobe := some 0xFFFF#16 }

/-- A slot of PLAN memory that holds a record: plan index, GEN, whether the record is usable, its stamp, and its place in
the order of use (R217, R218). -/
structure PlanSlot where
  idx : Nat := 0
  gen : Nat := 0
  usable : Bool := false
  stamp : Nat := 0
  used : Nat := 0
  deriving DecidableEq, Repr

/-- Setting-out: the latest accepted peg by sequencer as instants + 1 (R30), instances, fetches, those that wait for
identifiers (R214), arrives that wait for a header read (R222), reads in flight, the COUNT held (R208), and the slots. -/
structure SoHid where
  lastPeg : Tbl Nat := []
  awaiting : List Inst := []
  running : List Inst := []
  fetches : List Fetch := []
  queue : List Nat := []
  arrives : List Arrive := []
  reads : List PlanRead := []
  count : Nat := 0
  genOrder : Nat := 0
  slots : List (Nat × PlanSlot) := []
  next : Nat := 1
  deriving DecidableEq, Repr

/-! ### The IB stage (chapter 7) -/

/-- An IB phase: balancing trim (2^-16 of full duty), shed fraction (1/307,200) and share target (0.1 A), since when it
has been at its limit with r below 0.80 (R356, R361), its latest limit event, the end of its hiccup, whether it rejoins, its latest
delivered on-time code and when, the code it held at that moment (R338), its latest peak termination, the latest firing
of its zero-current comparator, its latest turn-on edge (R483), and its latest hysteretic pulse: start and on-time (R351). -/
structure PhaseHid where
  trim : Int := 0
  shed : Nat := 0
  target : Int := 0
  limSince : Option Nat := none
  okSince : Nat := 0
  retryDue : Option Nat := none
  rejoin : Bool := false
  hot : Bool := false
  duty : Nat := 0
  dutyAt : Nat := 0
  heldDuty : Nat := 0
  peakAt : Option Nat := none
  zcdAt : Option Nat := none
  edgeAt : Option Nat := none
  pulse : Option (Nat × Nat) := none
  deriving DecidableEq, Repr

/-- The IB stage. The reference in uV and when it last moved; histories; k_VIN; the latest codes of AIN16 and AIN17; VSEL
and tracking; how long VIN, the IB and the currents have met the conditions of R368-R372; soft start, with the IB reading and the instant it began at; hysteretic
pulses; keep-alive, with the values of IBS_KA that it took on entry (R353); admission; the grid of the IB periods; whether the converters serve a first IB sample, and when their service began (R318, R482, R484). -/
structure IbHid where
  refUv : Nat := 0
  refAt : Nat := 0
  ramping : Bool := false
  clip : Bool := false
  e0 : Int := 0
  e1 : Int := 0
  e2 : Int := 0
  e3 : Int := 0
  u1 : Int := 0
  u2 : Int := 0
  u3 : Int := 0
  w : Int := 0
  kvin : Nat := 16384
  code16 : Nat := 0
  codes16 : List (Nat × Nat) := []
  code17 : Nat := 0
  sampleAt : Nat := 0
  phases : Tbl PhaseHid := []
  vselForce : Nat := 0
  vselAt : Option Nat := none
  trkSum : Nat := 0
  trkCnt : Nat := 0
  trkEdge : Option Nat := none
  trkRise : Option Nat := none
  trkFall : Option Nat := none
  trkRuns : List (Nat × Nat × Nat) := []
  trkGood : Nat := 0
  trkTarget : Nat := 0
  highSince : Option Nat := none
  highOn : Bool := false
  shedSince : Option Nat := none
  restoreSince : Option Nat := none
  stopSince : Option Nat := none
  lowSince : Option Nat := none
  lowOn : Bool := false
  ovSince : Option Nat := none
  ov : Bool := false
  itots : List Int := []
  itotSum : Int := 0
  itotCnt : Nat := 0
  ssTries : Nat := 0
  ssFrom : Nat := 0
  ssAt : Nat := 0
  ssWait : Option Nat := none
  hysNext : Nat := 0
  hysWait : List Nat := []
  pulsing : Bool := false
  joins : List (Nat × Nat) := []
  kaPhase : Option Nat := none
  kaVka : Nat := 0
  kaTon : Nat := 0
  kaBand : Nat := 0
  admitAt : Nat := 0
  gridSet : Bool := false
  periodAt : Nat := 0
  svcOn : Bool := false
  svcAt : Nat := 0
  shift : Nat := 0
  shiftAt : Nat := 0
  deriving DecidableEq, Repr

/-! ### Converters (chapter 11) -/

/-- What a converter position of the IB service converts (Table 11.1). -/
inductive AdcUse where
  | ib
  | vin
  | current (p : Nat)
  | phaseTemp (p : Nat)
  | track
  | check
  | user
  deriving DecidableEq, Repr

/-- What a conversion is made for: a position of the IB service, the slot in turn of a sequence, a calibration step. -/
inductive ConvFor where
  | service (u : AdcUse)
  | slot (inj : Bool)
  | cal
  deriving DecidableEq, Repr

/-- A conversion in progress: its sampling instant, and what it is for. -/
structure Flight where
  at_ : Nat
  use : ConvFor
  deriving DecidableEq, Repr

/-- A converter: instants at which triggered sequences become due (R489), runs of each sequence, the injected slot in
progress, a regular slot aborted (R491), the next turn being the regular sequence's (R493), the conversion in progress and the
earliest start of the next one (R479), and a calibration step with its sum and count (R503, R504). -/
structure ConvHid where
  dueAt : List Nat := []
  idueAt : List Nat := []
  runs : Nat := 0
  iruns : Nat := 0
  islot : Nat := 0
  aborted : Bool := false
  regNext : Bool := false
  flight : Option Flight := none
  okAt : Nat := 0
  calOn : Bool := false
  calSum : Int := 0
  calCnt : Nat := 0
  deriving DecidableEq, Repr

/-- The converters: when the reference buffers were powered (R498), the next expiry of ADC_TMR, the closure check (R501, R656): the
latest millisecond seen, a boundary that waits for its IB period, the start of that period, converter A's code and whether the
latest check found a fault; a source of Table 11.2 that has been set in this cycle (R489); the step and index of a calibration in progress, the held m0 by converter and index, and a trim of the latest calibration out of range (R504, R505). -/
structure AdcHid where
  convs : Tbl ConvHid := []
  bmAt : Option Nat := none
  altAt : Option Nat := none
  tmrAt : Option Nat := none
  msNo : Nat := 0
  closeDue : Bool := false
  closeAt : Option Nat := none
  closA : Option Nat := none
  closeOn : Bool := false
  faultNew : Bool := false
  calStep : Nat := 0
  calIdx : Nat := 0
  held : Tbl (Option Int) := []
  calRange : Bool := false
  deriving DecidableEq, Repr

/-! ### Block power states (chapter 6) -/

/-- Entering and waking: the state requested, when step 1 ended, when the clocks are to stop (R53), when the commit window began, whether a wake is in
progress, when and from which state the latest wake or abort began (R302), whether aon_state waits for every commanded domain to be On, an entry into Off that R372 (`orderly`) or a Monument
rule (`forced`) makes without abort, WAKE_N's latest fall, a pending PMBus transaction, the wake timer, whether the retained
plat is to be checked (R310), and Monument: rules whose filter has begun, their runs, samples taken, the hottest site
value of the latest 16 samples, and whether the latest entry was aborted (R298). -/
structure PstHid where
  target : Nat := 0
  step1At : Nat := 0
  stopAt : Option Nat := none
  commitAt : Option Nat := none
  waking : Bool := false
  wokeAt : Option (Nat × Nat) := none
  toRun : Bool := false
  orderly : Bool := false
  wakeNFrom : Option Nat := none
  forced : Bool := false
  stuckOn : Bool := false
  pmbus : Bool := false
  timerAt : Option Nat := none
  offCheck : Bool := false
  monSeen : List Nat := []
  monRun : Tbl Nat := []
  monNo : Nat := 0
  monHot : List Int := []
  aborted : Bool := false
  deriving DecidableEq, Repr

/-! ### Thermal (chapter 8) -/

/-- A diode site: its latest values, newest first (R390), readings in a row beyond DEV (R384) and toward the end of a breach
(R391), whether it has had a value since calibration, whether it is not cross-checked (R386), and whether Monument's latest
reading of it was at or above SHUT (R401). -/
structure SiteHid where
  hist : List Int := []
  far : Nat := 0
  clearing : Nat := 0
  valued : Bool := false
  lone : Bool := false
  monHot : Bool := false
  deriving DecidableEq, Repr

/-- The sites; front ends with a trim out of range (R381) and TCAL as the trim area holds them (R380, R625); the site that
first reached SHUT in the latest reading (R393); and since when the restart condition has held (R397). -/
structure ThmHid where
  sites : Tbl SiteHid := []
  untrimmed : List Nat := []
  tcal : Option Int := none
  hotFirst : Option Nat := none
  coolFrom : Option Nat := none
  deriving DecidableEq, Repr

/-! ### Power capping (chapter 9) -/

/-- A class: since when its budget has been below 90 % of its demand (R421), when its latest promotion began (R424),
updates in a row over and within its budget (R440), reconciliations in a row beyond 10 % and TALLY_DRIFT in force (R409),
and the sums of a millisecond: voltage x current, leakage, and dynamic power before the gain (R408). -/
structure ClassHid where
  starveFrom : Option Nat := none
  promoAt : Option Nat := none
  overRun : Nat := 0
  withinRun : Nat := 0
  drift : Nat := 0
  driftOn : Bool := false
  vi : Int := 0
  lam : Nat := 0
  raw : Nat := 0
  deriving DecidableEq, Repr

/-- Capping: what stands behind the CAP_ registers. THROTTLE_N in force, since when, and reported stuck; classes in the
unattainable state (1); activity by counter and tag since the latest Tally update; a share that waits for the next one;
the sums for reconciliation and trim; the latest budget; the die limit and how long the estimate has been above or within
SUST; domains whose demand is limited (R437); and the latest demand and floor for the traverse, in 1/16 of 0.0625 W. -/
structure CapHid where
  throttle : Bool := false
  thrFrom : Option Nat := none
  thrOn : Bool := false
  unatt : Tbl Nat := []
  classes : Tbl ClassHid := []
  acts : Tbl Nat := []
  pendShare : Option Nat := none
  viCnt : Nat := 0
  recCnt : Nat := 0
  viDie : Int := 0
  viDieCnt : Nat := 0
  bSum : Nat := 0
  bCnt : Nat := 0
  lastB : Nat := 0
  sust : Bool := false
  aboveFrom : Option Nat := none
  withinFrom : Option Nat := none
  limited : List Nat := []
  demX : Nat := 0
  floorX : Nat := 0
  updates : Nat := 0
  deriving DecidableEq, Repr

/-! ### Energy, telemetry and PMBus (chapter 10) -/

/-- A cell in the settlement monitor over a millisecond: frames, sums of x (mA), y (1/12 of a code), x y and x x, the lowest
and highest current, and whether it has failed to qualify (R464, R465). -/
structure SettleHid where
  n : Nat := 0
  sx : Int := 0
  sy : Int := 0
  sxy : Int := 0
  sxx : Int := 0
  lo : Int := 0
  hi : Int := 0
  bad : Bool := false
  deriving DecidableEq, Repr

/-- A domain in a millisecond: the sum and the largest of its frame currents (R461), and the lowest reading while On, with
its station and the timestamp of its frame (R463). -/
structure DomMs where
  sum : Int := 0
  max : Option Int := none
  low : Option (Nat × Nat × Nat) := none
  deriving DecidableEq, Repr

/-- Energy and telemetry: PEN and the watch slots in force; modelled energy by bucket, voltage x current, frames, domains
and cells of the millisecond; the accumulators, the timestamps of the watched minima and the clears that wait (R454-R459, R463); what a record's
FLAGS gather; the number of the next record, the record to issue, and the writes outstanding with their addresses (R470,
R471). -/
structure NrgHid where
  pen : Nat := 65535
  watch : List (Nat × Nat) := []
  models : Tbl Nat := []
  vi : Int := 0
  frames : Nat := 0
  doms : Tbl DomMs := []
  cells : Tbl SettleHid := []
  acc : Tbl Nat := []
  wts : Tbl Nat := []
  clr : Nat := 0
  flags : Nat := 0
  msStart : Nat := 0
  msAt : Nat := 0
  nextSeq : Nat := 0
  record : Option (List Byte) := none
  writes : List (Nat × List Byte) := []
  deriving DecidableEq, Repr

/-- The PMBus target (R474-R477): PAGE, STATUS_CML, the bucket of MFR_PARTITION, whether M7 holds a request whose response
has not been read, whether the latest command was acknowledged, what it returned and the packet error code behind it
(R74), a transaction whose clock is stretched (R302); and the readings of the latest
millisecond that no register keeps: hottest site, measured die power, and by domain its code and highest site. -/
structure PmbHid where
  page : Nat := 0
  cml : Nat := 0
  bucket : Nat := 0
  busy : Bool := false
  acked : Bool := false
  reply : List Byte := []
  pec : Option Byte := none
  held : Option Instr := none
  hval : Int := 0
  meas : Nat := 0
  codes : Tbl Nat := []
  temps : Tbl Int := []
  flags : List (Nat × Nat) := []
  deriving DecidableEq, Repr

end Sys2Proof.Machine
end

