-- ==== Sys2Proof/Machine/State.lean ====
section
/-!
DEFINITION. The state of the block: the queue of waiting commands, the registers and memories of chapters 14 and 16,
and the counters, histories and timers behind them. State.reset is what power-on reset leaves (R79, R603).
-/

namespace Sys2Proof.Machine

/-- No command of this block stops it: every rule of the spec gives an effect, a refusal that sets a status bit, or no
effect at all. The one reason stands for an outcome that no meaning answers with; safe. -/
inductive Fault where
  /-- Raised by no command. Safe. -/
  | never
  deriving DecidableEq, Repr

/-- Why a command has no meaning here. -/
inductive Refusal where
  /-- Raised by an arm of `exec` whose command has no meaning yet. Safe: the model stops where the block goes on. -/
  | notModelled (mnemonic : String)
  deriving DecidableEq, Repr

/-- The block. -/
structure State where
  /-- Commands that wait, first in, first out. -/
  pending : List Instr := []
  /-- Time since power-on reset, ns. -/
  now : Nat := 0
  /-- Held in power-on reset (R79). -/
  por : Bool := true
  /-- The die's timestamp (R525). -/
  ts : Word64 := 0
  /-- Registers by offset; an unlisted register holds its reset value (Tables 16.2-16.9). -/
  regs : Tbl Word := []
  /-- The six memories of Table 14.9, byte by byte; an unlisted byte reads 0. -/
  fw : List Host.Cell := []
  dat : List Host.Cell := []
  coef : List Host.Cell := []
  plan : List Host.Cell := []
  book : List Host.Cell := []
  tele : List Host.Cell := []
  mem : MemHid := {}
  bus : BusResp := {}
  chans : Tbl ChanHid := []
  core : CoreHid := {}
  boot : BootHid := {}
  clk : ClkHid := {}
  pins : PinHid := {}
  trv : TrvHid := {}
  cells : Tbl CellHid := []
  stns : Tbl StnHid := []
  tracts : Tbl TractHid := []
  loops : LoopHid := {}
  doms : Tbl DomHid := []
  cg : CgHid := {}
  env : EnvHid := {}
  cap : CapHid := {}
  so : SoHid := {}
  pst : PstHid := {}
  ib : IbHid := {}
  adc : AdcHid := {}
  thm : ThmHid := {}
  nrg : NrgHid := {}
  pmb : PmbHid := {}
  cyc : CycHid := {}
  deriving DecidableEq, Repr

/-- The block right after power-on reset, still held in it: every register at its reset value, every memory zero. -/
def State.reset : State := {}

end Sys2Proof.Machine
end

