-- ==== Sys2Proof/Machine/Ops.lean ====
section
/-!
DEFINITION. The named operations of the model: sparse tables in canonical form, bit fields, exact arithmetic with the
roundings the spec names, registers by field, memories by byte and by word, and CRC-32C.
-/

namespace Sys2Proof.Machine

/-! ### Sparse tables -/

/-- What a table holds at a key: its entry, or what an unlisted key reads as. -/
def tblGet {α : Type} (d : Nat → α) : Tbl α → Nat → α
  | [], k => d k
  | (k', v) :: t, k => if k = k' then v else tblGet d t k

/-- A table without its entries for a key. -/
def tblErase {α : Type} (k : Nat) : Tbl α → Tbl α
  | [] => []
  | (k', v) :: t => if k = k' then tblErase k t else (k', v) :: tblErase k t

/-- A table with an entry put before the first larger key. -/
def tblInsert {α : Type} (k : Nat) (v : α) : Tbl α → Tbl α
  | [] => [(k, v)]
  | (k', v') :: t => if k < k' then (k, v) :: (k', v') :: t else (k', v') :: tblInsert k v t

/-- Store at a key; storing what an unlisted key reads as removes the entry, so equal tables are equal data. -/
def tblSet {α : Type} [DecidableEq α] (d : Nat → α) (t : Tbl α) (k : Nat) (v : α) : Tbl α :=
  if v = d k then tblErase k t else tblInsert k v (tblErase k t)

/-- The canonical form: keys strictly rising from `lo`, no entry equal to what an unlisted key reads as. -/
def tblWf {α : Type} [DecidableEq α] (d : Nat → α) : Nat → Tbl α → Bool
  | _, [] => true
  | lo, (k, v) :: t => decide (lo ≤ k) && decide (v ≠ d k) && tblWf d (k + 1) t

/-! ### Bits and numbers -/

/-- `w` bits of a word from bit `lo`. -/
def bitsAt (v : Word) (lo w : Nat) : Nat := v.toNat / 2 ^ lo % 2 ^ w

/-- The mask of `w` bits from bit `lo`. -/
def maskAt (lo w : Nat) : Word := BitVec.ofNat 32 ((2 ^ w - 1) * 2 ^ lo)

/-- A word with `w` bits from bit `lo` replaced. -/
def setBits (v : Word) (lo w x : Nat) : Word :=
  (v &&& ~~~(maskAt lo w)) ||| (BitVec.ofNat 32 (x % 2 ^ w * 2 ^ lo) &&& maskAt lo w)

/-- The two's-complement value of `w` bits. -/
def signed (w n : Nat) : Int := if n % 2 ^ w < 2 ^ (w - 1) then (n % 2 ^ w : Nat) else (n % 2 ^ w : Nat) - (2 ^ w : Nat)

/-- The `w` bits of a value in two's complement. -/
def unsigned (w : Nat) (x : Int) : Nat := (x % (2 ^ w : Nat)).toNat

/-- A quotient rounded half upward, for a positive divisor. -/
def roundHalfUp (a b : Int) : Int := (2 * a + b) / (2 * b)

/-- The same on natural numbers. -/
def roundN (a b : Nat) : Nat := (2 * a + b) / (2 * b)

/-- A quotient rounded up, for a positive divisor. -/
def ceilN (a b : Nat) : Nat := (a + b - 1) / b

/-- A quotient whose rounding the spec does not state: one of the two neighbouring whole numbers, by a constant of
the instance that no proof can see; exact where the division is exact. -/
def divOpen (site : Nat) (a b : Int) : Int :=
  if a % b = 0 then a / b else if Config.roundsUp site a b then a / b + 1 else a / b

/-- A value held between two bounds. -/
def clampI (lo hi x : Int) : Int := max lo (min hi x)

/-- A natural number held between two bounds. -/
def clampN (lo hi x : Nat) : Nat := max lo (min hi x)

/-- The magnitude of a difference of natural numbers. -/
def distN (a b : Nat) : Nat := max a b - min a b

/-- An integer as a natural number, negative values as 0. -/
def natOf (x : Int) : Nat := x.toNat

/-- Bit `n` of a natural number. -/
def bitN (v n : Nat) : Bool := v / 2 ^ n % 2 = 1

/-- A natural number with bit `n` set or cleared. -/
def setBitN (v n : Nat) (b : Bool) : Nat :=
  if bitN v n = b then v else if b then v + 2 ^ n else v - 2 ^ n

/-- The number 1 for true. -/
def b2n (b : Bool) : Nat := if b then 1 else 0

/-- Run a step of a state over a list of indexes, first to last. -/
def forEach {σ : Type} (l : List Nat) (f : Nat → σ → σ) (s : σ) : σ := l.foldl (fun s k => f k s) s

/-- The sum of a figure over a list of indexes. -/
def sumOver (l : List Nat) (f : Nat → Nat) : Nat := l.foldl (fun a k => a + f k) 0

/-- The sum of a signed figure over a list of indexes. -/
def sumOverI (l : List Nat) (f : Nat → Int) : Int := l.foldl (fun a k => a + f k) 0

/-- The largest figure over a list of indexes, 0 for none. -/
def maxOver (l : List Nat) (f : Nat → Nat) : Nat := l.foldl (fun a k => max a (f k)) 0

/-- Indexes 0 to n - 1. -/
def upTo (n : Nat) : List Nat := List.range n

/-! ### Registers -/

/-- The value of a register. -/
def State.reg (s : State) (off : Nat) : Word := tblGet resetVal s.regs off

/-- A register set by the block or by an accepted write. -/
def State.setReg (s : State) (off : Nat) (v : Word) : State := { s with regs := tblSet resetVal s.regs off v }

/-- The value of a field. -/
def State.get (s : State) (f : Fld) : Nat := bitsAt (s.reg f.off) f.lo f.width

/-- The value of a signed field. -/
def State.getI (s : State) (f : Fld) : Int := signed f.width (s.get f)

/-- Whether a one-bit field is 1. -/
def State.on (s : State) (f : Fld) : Bool := s.get f ≠ 0

/-- A field set, the rest of its register unchanged. -/
def State.put (s : State) (f : Fld) (n : Nat) : State := s.setReg f.off (setBits (s.reg f.off) f.lo f.width n)

/-- A signed field set. -/
def State.putI (s : State) (f : Fld) (x : Int) : State := s.put f (unsigned f.width x)

/-- A one-bit field set. -/
def State.putB (s : State) (f : Fld) (b : Bool) : State := s.put f (b2n b)

/-! ### The same cycle (R15, R16) -/

/-- Hardware sets bits of access W1C in a register at this instant. -/
def State.markSet (s : State) (off : Nat) (m : Word) : State :=
  let t := if s.cyc.setAt = s.now + 1 then s.cyc.set else []
  { s with cyc := { s.cyc with setAt := s.now + 1, set := tblSet (fun _ => 0) t off (tblGet (fun _ => 0) t off ||| m) } }

/-- The bits of a register that hardware has set at this instant: a write of 1 does not clear them (R15). -/
def State.freshBits (s : State) (off : Nat) : Word :=
  if s.cyc.setAt = s.now + 1 then tblGet (fun _ => 0) s.cyc.set off else 0

/-- Host software writes bits of access RW or W1S of a register at this instant. -/
def State.markWrote (s : State) (off : Nat) (m : Word) : State :=
  let t := if s.cyc.wroteAt = s.now + 1 then s.cyc.wrote else []
  { s with cyc := { s.cyc with wroteAt := s.now + 1, wrote := tblSet (fun _ => 0) t off (tblGet (fun _ => 0) t off ||| m) } }

/-- Host software has written a field at this instant. -/
def State.justWritten (s : State) (f : Fld) : Bool :=
  s.cyc.wroteAt = s.now + 1 && bitsAt (tblGet (fun _ => 0) s.cyc.wrote f.off) f.lo f.width ≠ 0

/-- Hardware changes a field that host software may write: a host write of the same cycle takes effect (R16). -/
def State.putHw (s : State) (f : Fld) (n : Nat) : State := if s.justWritten f then s else s.put f n

/-- The largest value of a field. -/
def Fld.top (f : Fld) : Nat := 2 ^ f.width - 1

/-- A field increased, saturating at its largest value. -/
def State.addSat (s : State) (f : Fld) (n : Nat) : State := s.put f (min f.top (s.get f + n))

/-- A status bit. -/
def State.stat (s : State) (e : Ev) : Bool := bitsAt (s.reg (blockBase e.block)) e.bit 1 ≠ 0

/-- The severity that a status bit's SEV field holds (R553, R555). -/
def State.sevOf (s : State) (e : Ev) : Nat := bitsAt (s.reg (blockBase e.block + 8)) (2 * e.bit) 2

/-- A register back at its reset value. -/
def State.resetReg (s : State) (off : Nat) : State := { s with regs := tblErase off s.regs }

/-- The registers that satisfy a test of their offset back at their reset values. -/
def State.resetRegs (s : State) (p : Nat → Bool) : State := { s with regs := s.regs.filter fun e => !p e.1 }

/-! ### Units behind the registers -/

/-- Mailbox channel `m`. -/
def State.chan (s : State) (m : Nat) : ChanHid := tblGet (fun _ => {}) s.chans m

/-- Mailbox channel `m` changed. -/
def State.updChan (s : State) (m : Nat) (f : ChanHid → ChanHid) : State :=
  { s with chans := tblSet (fun _ => {}) s.chans m (f (s.chan m)) }

/-- Cell `c`, station `n`, tract `t`, domain `d` behind their registers, and each of them changed. -/
def State.cell (s : State) (c : Nat) : CellHid := tblGet (fun _ => {}) s.cells c
def State.updCell (s : State) (c : Nat) (f : CellHid → CellHid) : State :=
  { s with cells := tblSet (fun _ => {}) s.cells c (f (s.cell c)) }
def State.stn (s : State) (n : Nat) : StnHid := tblGet (fun _ => {}) s.stns n
def State.updStn (s : State) (n : Nat) (f : StnHid → StnHid) : State :=
  { s with stns := tblSet (fun _ => {}) s.stns n (f (s.stn n)) }
def State.tract (s : State) (t : Nat) : TractHid := tblGet (fun _ => {}) s.tracts t
def State.updTract (s : State) (t : Nat) (f : TractHid → TractHid) : State :=
  { s with tracts := tblSet (fun _ => {}) s.tracts t (f (s.tract t)) }
def State.dom (s : State) (d : Nat) : DomHid := tblGet (fun _ => {}) s.doms d
def State.updDom (s : State) (d : Nat) (f : DomHid → DomHid) : State :=
  { s with doms := tblSet (fun _ => {}) s.doms d (f (s.dom d)) }

/-- The converters and one converter behind their registers, changed. -/
def State.updAdc (s : State) (f : AdcHid → AdcHid) : State := { s with adc := f s.adc }
def State.conv (s : State) (k : Nat) : ConvHid := tblGet (fun _ => {}) s.adc.convs k
def State.updConv (s : State) (k : Nat) (f : ConvHid → ConvHid) : State :=
  s.updAdc fun a => { a with convs := tblSet (fun _ => {}) a.convs k (f (s.conv k)) }

/-! ### Memories -/

/-- What a byte of a memory that nothing has written reads as: 0 (R615, R635). -/
def memDefault (_ : Nat) : Byte := 0

/-- A byte of a memory. -/
def memByte (m : List Host.Cell) (a : Nat) : Byte := tblGet memDefault m a

/-- A memory with one byte written. -/
def memPut (m : List Host.Cell) (a : Nat) (v : Byte) : List Host.Cell := tblSet memDefault m a v

/-- The canonical form of a memory. -/
def memWf (m : List Host.Cell) : Bool := tblWf memDefault 0 m

/-- `n` bytes of a memory as a little-endian number. -/
def memLE (m : List Host.Cell) (a : Nat) : Nat → Nat
  | 0 => 0
  | n + 1 => (memByte m a).toNat + 256 * memLE m (a + 1) n

/-- `n` bytes of a little-endian number written to a memory. -/
def memPutLE (m : List Host.Cell) (a x : Nat) : Nat → List Host.Cell
  | 0 => m
  | n + 1 => memPutLE (memPut m a (BitVec.ofNat 8 x)) (a + 1) (x / 256) n

/-- Bytes written to a memory from an address on. -/
def memPutBytes (m : List Host.Cell) (a : Nat) : List Byte → List Host.Cell
  | [] => m
  | b :: bs => memPutBytes (memPut m a b) (a + 1) bs

/-- `n` bytes of a memory. -/
def memBytes (m : List Host.Cell) (a n : Nat) : List Byte := (upTo n).map fun k => memByte m (a + k)

/-- The little-endian bytes of a number. -/
def leBytes (x : Nat) : Nat → List Byte
  | 0 => []
  | n + 1 => BitVec.ofNat 8 x :: leBytes (x / 256) n

/-- The number that little-endian bytes hold. -/
def leNat : List Byte → Nat
  | [] => 0
  | b :: bs => b.toNat + 256 * leNat bs

/-- The six memories by the codes of Table 14.9. -/
def State.memory (s : State) : Nat → List Host.Cell
  | 0 => s.fw
  | 1 => s.dat
  | 2 => s.coef
  | 3 => s.plan
  | 4 => s.book
  | _ => s.tele

/-- A memory replaced, by its code. -/
def State.setMemory (s : State) (k : Nat) (m : List Host.Cell) : State :=
  match k with
  | 0 => { s with fw := m }
  | 1 => { s with dat := m }
  | 2 => { s with coef := m }
  | 3 => { s with plan := m }
  | 4 => { s with book := m }
  | _ => { s with tele := m }

/-- Size in bytes of a memory (Table 14.9). -/
def memSize : Nat → Nat
  | 0 => 0x80000
  | 1 => 0x40000
  | 2 => 0x8000
  | 3 => 0x10000
  | 4 => 0x20000
  | _ => 0x10000

/-- The owner code of a memory in force (R613). -/
def State.memOwner (s : State) (k : Nat) : Nat := bitsAt (s.reg MEM_OWNER) (3 * k) 3

/-- The power code of a memory in force (R615): 0 off, 1 retention, 2 on. -/
def State.memPower (s : State) (k : Nat) : Nat := bitsAt (s.reg MEM_PWR) (2 * k) 2

/-- A memory on its way to on, after a delay (R615). -/
def State.powerUp (s : State) (k ns : Nat) : State :=
  { s with mem := { s.mem with upDue := tblSet (fun _ => 0) s.mem.upDue k (s.now + ns) } }

/-- The memories that Deep sleep put into retention come back (R616). -/
def State.restoreMems (s : State) : State :=
  match s.mem.beforeSleep with
  | none => s
  | some v =>
    let s1 := (upTo 6).foldl (fun s k => if v / 4 ^ k % 4 = 2 then s.powerUp k 10000 else s) s
    { s1 with mem := { s1.mem with beforeSleep := none } }

/-- The owner that a memory has by default (Table 14.9). -/
def defaultOwner : Nat → Nat
  | 2 => 1
  | 3 => 2
  | 4 => 3
  | 5 => 4
  | _ => 0

/-- Whether a memory's own function may use it: on, and owned by its default owner (R614). -/
def State.memUsable (s : State) (k : Nat) : Bool := s.memPower k = 2 && s.memOwner k = defaultOwner k

/-- Whether any 64-bit word of `n` bytes from an address has an uncorrectable error (R611). -/
def State.memBad (s : State) (k a n : Nat) : Bool :=
  s.mem.bad.any fun p => p.1 = k && a / 8 ≤ p.2 && p.2 ≤ (a + n - 1) / 8

/-- The first word with an uncorrectable error among `n` bytes from an address that have one. -/
def State.firstBad (s : State) (k a n : Nat) : Nat :=
  (s.mem.bad.filter fun p => p.1 = k && a / 8 ≤ p.2 && p.2 ≤ (a + n - 1) / 8).foldl (fun m p => min m p.2) ((a + n - 1) / 8)

/-- A word marked uncorrectable until it is written whole (R611). -/
def State.markBad (s : State) (k w : Nat) : State :=
  if s.mem.bad.contains (k, w) then s
  else { s with mem := { s.mem with bad := (k, w) :: s.mem.bad, weak := s.mem.weak.filter fun p => !(p.1 = k && p.2 = w) } }

/-- A word marked as one that reads corrected, until such a read has written it back or it is written otherwise (R611). What the block
writes to BOOK memory leaves the mark (DESIGN CHOICE, notes/assumptions/135.md). -/
def State.markWeak (s : State) (k w : Nat) : State :=
  if s.mem.bad.contains (k, w) || s.mem.weak.contains (k, w) then s else { s with mem := { s.mem with weak := (k, w) :: s.mem.weak } }

/-- The words that read corrected among `n` bytes of a memory from an address. -/
def State.weakIn (s : State) (k a n : Nat) : List (Nat × Nat) :=
  s.mem.weak.filter fun p => p.1 = k && a / 8 ≤ p.2 && p.2 ≤ (a + n - 1) / 8

/-- Words written back carry no correctable error any more: `n` bytes of a memory from an address. -/
def State.dropWeak (s : State) (k a n : Nat) : State :=
  { s with mem := { s.mem with weak := s.mem.weak.filter fun p => !(p.1 = k && a / 8 ≤ p.2 && p.2 ≤ (a + n - 1) / 8) } }

/-- A word written whole carries fresh check bits (R611). -/
def State.markGood (s : State) (k w : Nat) : State :=
  { s with mem := { s.mem with
      bad := s.mem.bad.filter fun p => !(p.1 = k && p.2 = w)
      weak := s.mem.weak.filter fun p => !(p.1 = k && p.2 = w) } }

/-- Every word of a memory carries valid check bits. -/
def State.markAllGood (s : State) (k : Nat) : State :=
  { s with mem := { s.mem with bad := s.mem.bad.filter fun p => p.1 ≠ k, weak := s.mem.weak.filter fun p => p.1 ≠ k } }

/-! ### CRC-32C (R632) -/

/-- One bit of the reflected CRC-32C register. -/
def crcBit (c : Word) : Word := if c &&& 1 = 1 then (c >>> 1) ^^^ 0x82F63B78#32 else c >>> 1

/-- One byte of CRC-32C. -/
def crcByte (c : Word) (b : Byte) : Word :=
  (List.range 8).foldl (fun c _ => crcBit c) (c ^^^ b.setWidth 32)

/-- CRC-32C of a byte string. -/
def crc32c (bs : List Byte) : Word := (bs.foldl crcByte 0xFFFFFFFF#32) ^^^ 0xFFFFFFFF#32

/-- One bit of the CRC-8 with polynomial x^8 + x^2 + x + 1, most significant bit first (R510; DESIGN CHOICE,
notes/assumptions/85.md: the spec gives no bit order). -/
def crc8Bit (c : Byte) : Byte := if c &&& 0x80 = 0x80 then (c <<< 1) ^^^ 0x07#8 else c <<< 1

/-- One byte of that CRC-8. -/
def crc8Byte (c b : Byte) : Byte := (List.range 8).foldl (fun c _ => crc8Bit c) (c ^^^ b)

/-- That CRC-8 of a byte string, from 0. -/
def crc8 (bs : List Byte) : Byte := bs.foldl crc8Byte 0

/-! ### The state of the block as a whole -/

/-- aon_state, as PST_STATE.STATE shows it: 0 Run, 1 Idle, 2 Sleep, 3 Deep sleep, 4 Off, 5 reset or boot (R47). -/
def State.aon (s : State) : Nat := s.get fPST_STATE_STATE

/-- Rule r of Monument is evaluated in the present state of the block: its ACT is 0b001 to 0b100, and its STATES names the
state (R313). -/
def State.ruleLive (s : State) (r : Nat) : Bool :=
  let act := s.get (fMON_RULE_ACT r)
  1 ≤ act && act ≤ 4 && s.aon ≤ 4 && bitN (s.get (fMON_RULE_STATES r)) s.aon

/-- The end of a running FAULT_N pulse as aon_state changes: in Off its cycles are those of the 32.768 kHz clock (R572). -/
def State.pulseEnd (s : State) (n : Nat) : Nat :=
  let left := s.pins.pulseDue - s.now
  if (s.aon = 4) = (n = 4) || left = 0 then s.pins.pulseDue
  else s.now + (if n = 4 then ceilN (125 * left) 2 else ceilN (2 * left) 125)

/-- aon_state changes; the rules of Monument that are not evaluated in the new state are released (R313). -/
def State.setAon (s : State) (n : Nat) : State :=
  let s1 := { s.put fPST_STATE_STATE n with pins := { s.pins with pulseDue := s.pulseEnd n } }
  let act := s.get fMON_ACTIVE_ACT
  { s1.put fMON_ACTIVE_ACT (sumOver (upTo 16) fun r => if bitN act r && s1.ruleLive r then 2 ^ r else 0) with
    pst := { s1.pst with monRun := s1.pst.monRun.filter fun e => s1.ruleLive e.1 } }

/-- Run or Idle. -/
def State.runOrIdle (s : State) : Bool := s.aon ≤ 1

/-- Sleep, Deep sleep or Off. -/
def State.asleep (s : State) : Bool := 2 ≤ s.aon && s.aon ≤ 4

/-- The core clock stands still: from step 4 of an entry into Sleep, Deep sleep or Off until the fast oscillator is stable again
(R297, R305). -/
def State.coreAsleep (s : State) : Bool :=
  !s.clk.fastOsc && (s.asleep || s.pst.waking || s.pst.commitAt.any fun a => a ≤ s.now)

/-- The plat is locked (R582). -/
def State.locked (s : State) : Bool := s.on fCAD_LOCK_LOCKED

/-- lclk and gate_clk run. -/
def State.lclk (s : State) : Bool := s.clk.pll

/-- The domain that a tract is mapped to, or 255 for none (DOM_MAP). -/
def State.domOf (s : State) (t : Nat) : Nat := s.get (fDOM_MAP_DOM t)

/-- The tracts of a domain. -/
def State.tractsOf (s : State) (d : Nat) : List Nat := (upTo 64).filter fun t => s.domOf t = d

/-- The cells of a domain. -/
def State.cellsOf (s : State) (d : Nat) : List Nat := (s.tractsOf d).flatMap fun t => [4 * t, 4 * t + 1, 4 * t + 2, 4 * t + 3]

/-- The state of a domain (Table 6.1): Unused where no tract is mapped to it (R276), else what DOM_DSTAT holds, Off
where it has never been switched. -/
def State.domState (s : State) (d : Nat) : Nat :=
  if 32 ≤ d || (s.tractsOf d).isEmpty then 0 else max 1 (s.get (fDOM_DSTAT_STATE d))

/-- DOM_DSTAT[d] as it reads (Table 6.12). -/
def State.dstatWord (s : State) (d : Nat) : Nat :=
  s.domState d * 2 ^ 29 + (s.tractsOf d).length * 2 ^ 22 + s.get (fDOM_DSTAT_STAGE d) * 2 ^ 19

/-- TRC_TSTAT.STATE of a tract (Table 3.6): 0 closed, 1 entering, 2 requested open-hold, 3 failover open-hold, 4 stopped,
5 idle, 6 internal open-hold. A tract that was closed when a failover began stays closed for the slot that ends at t0 + 80 ns
(Table 3.3). -/
def State.loopState (s : State) (t : Nat) : Nat :=
  let st := s.get (fTRC_TSTAT_STATE t)
  let last : Bool := match s.loops.failT0 with | none => false | some t0 => decide (s.now < t0 + 80)
  if st = 3 && (s.tract t).lastSlot && last then 0 else st

/-- A tract is stopped, or in the open-hold or the failover that a stopped tract may come back through: its cells are off
(R194, R658). -/
def State.stopped (s : State) (t : Nat) : Bool :=
  let st := s.get (fTRC_TSTAT_STATE t)
  st = 4 || ((st = 1 || st = 2 || st = 3) && (s.tract t).wasStopped)

/-- TRC_TSTAT[t] as it reads: AGE counts the open-hold in 2 us units (Table 3.6). -/
def State.tstatWord (s : State) (t : Nat) : Nat :=
  let age := match (s.tract t).holdAt with
    | none => 0
    | some t0 => min 127 ((s.now - t0) / 2000)
  (setBits (setBits (s.reg (TRC_TSTAT t)) 8 7 age) 29 3 (s.loopState t)).toNat

/-- The duty code of a tract in force: a delivered code applies from the end of its sample's slot (R149). -/
def State.dutyNow (s : State) (t : Nat) : Nat :=
  match (s.tract t).duty with
  | none => s.get (fTRC_DUTY_DUTY t)
  | some d => if d.1 ≤ s.now then d.2 else s.get (fTRC_DUTY_DUTY t)

/-- Earlier values of a figure, each with the instant (ns) to which it held, newest first: one more, and none from before the
latest two switching periods. -/
def keepWas {α : Type} (now : Nat) (old : α) (l : List (Nat × α)) : List (Nat × α) :=
  (now, old) :: l.filter fun e => now < e.1 + 16

/-- The value that a figure had at an instant (ps), from its earlier values and the present one. -/
def asOf {α : Type} (x : Nat) (l : List (Nat × α)) (v : α) : α := l.foldl (fun v e => if x < 1000 * e.1 then e.2 else v) v

/-- A duty code of a tract that applies from an instant on. -/
def State.setDuty (s : State) (t from_ code : Nat) : State :=
  (s.put (fTRC_DUTY_DUTY t) (s.dutyNow t)).updTract t fun h =>
    { h with
      duty := some (from_, code)
      dutyWas := match h.duty with
        | some d => if d.1 ≤ s.now then keepWas d.1 (s.get (fTRC_DUTY_DUTY t)) h.dutyWas else h.dutyWas
        | none => h.dutyWas }

/-- The duty code of a tract that was in force at an instant (ps). -/
def State.dutyAt (s : State) (t x : Nat) : Nat :=
  let h := s.tract t
  asOf x h.dutyWas (match h.duty with
    | none => s.get (fTRC_DUTY_DUTY t)
    | some d => if 1000 * d.1 ≤ x then d.2 else s.get (fTRC_DUTY_DUTY t))

/-- TRC_ENG as it reads: STALLS is the most stall positions of a lane slot of the last 1 ms (Table 3.5). -/
def State.engWord (s : State) : Word :=
  let recent := s.loops.stalls.filter fun e => s.loops.frame < e.1 / 4 + 25000
  setBits (s.reg TRC_ENG) 16 8 (min 255 (maxOver (recent.map fun e => e.2) id))

/-- The die index and count of TRV_CFG. -/
def State.dieIndex (s : State) : Nat := s.get fTRV_CFG_INDEX
def State.dieCount (s : State) : Nat := s.get fTRV_CFG_COUNT + 1

end Sys2Proof.Machine
end

