-- ==== Sys2Proof/Machine/Lanes.lean ====
section
/-!
DEFINITION. The transmit side of the traverse: frame words (R511), the order in which frames leave a lane (R513), the
quiet window (R514), and the folding of the ring at a broken or set-aside hop (R516, R517, R519).
-/

namespace Sys2Proof.Machine

/-- `w` bits of a frame word from bit `lo`. -/
def frameBits (w : Word64) (lo n : Nat) : Nat := w.toNat / 2 ^ lo % 2 ^ n

/-- TYPE of a frame word (R511). -/
def frameType (w : Word64) : Nat := frameBits w 60 4

/-- SRC of a frame word (R511). -/
def frameSrc (w : Word64) : Nat := frameBits w 57 3

/-- The frame word of a TYPE, a SRC and a body (R511). -/
def frameWord (ty src body : Nat) : Word64 :=
  BitVec.ofNat 64 (ty % 16 * 2 ^ 60 + src % 8 * 2 ^ 57 + body % 2 ^ 57)

/-- The priority of a frame in the order of R513, 0 first. -/
def framePrio (w : Word64) : Nat :=
  match frameType w with
  | 9 => 0
  | 2 | 3 | 4 => 1
  | 1 | 10 => 2
  | _ => 3

/-- A frame put behind those of its own and higher priority (R513). -/
def txInsert (e : TxEntry) : List TxEntry → List TxEntry
  | [] => [e]
  | f :: q => if framePrio e.word < framePrio f.word then e :: f :: q else f :: txInsert e q

/-- The lane state of a direction: 0 clockwise, 1 counter-clockwise. -/
def TrvHid.lane (h : TrvHid) (l : Nat) : LaneHid := if l = 0 then h.cw else h.ccw

/-- A direction's lane state changed. -/
def TrvHid.setLane (h : TrvHid) (l : Nat) (x : LaneHid) : TrvHid := if l = 0 then { h with cw := x } else { h with ccw := x }

/-- Whether a hop carries no frames: broken (R516) or set aside (R519). -/
def HopHid.closed (h : HopHid) : Bool := h.broken || h.aside

/-- The hop that a transmit direction uses: clockwise to the next die, counter-clockwise to the previous (R68). -/
def TrvHid.hopOf (h : TrvHid) (l : Nat) : HopHid := if l = 0 then h.nextHop else h.prevHop

/-- The lane on which a frame of a direction leaves, folded at a closed hop (R517); none where both hops are closed
or the transmit pairs are idle before plat lock (R71). -/
def State.outLane (s : State) (l : Nat) : Option Nat :=
  if !s.locked then none
  else if !(s.trv.hopOf l).closed then some l
  else if !(s.trv.hopOf (1 - l)).closed then some (1 - l)
  else none

/-- A frame joins the queue of its lane. -/
def State.enqueue (s : State) (l : Nat) (e : TxEntry) : State :=
  match s.outLane l with
  | none => s
  | some o =>
    let x := s.trv.lane o
    { s with trv := s.trv.setLane o { x with txq := txInsert e x.txq } }

/-- A transmit pair is driven: not at electrical idle (R71, R516, R519). -/
def State.driven (s : State) (l : Nat) : Bool := bitN (s.get fTRV_STATE_LANES) (2 * l + 1)

/-- A frame that leaves on one lane's own hop, folded or not, while its pair is driven: an ECHO (R71, R521). -/
def State.enqueueOn (s : State) (l : Nat) (w : Word64) (own : Bool) : State :=
  let x := s.trv.lane l
  if !s.driven l then s else
  { s with trv := s.trv.setLane l { x with txq := txInsert { word := w, since := s.now, own := own, hop := 0 } x.txq } }

/-- A frame that this die creates leaves on one lane (0 clockwise, 1 counter-clockwise), on both (2), or as an ECHO on one
lane's own hop (3, 4). -/
def State.transmit (s : State) (lanes : Nat) (w : Word64) : State :=
  let e : TxEntry := { word := w, since := s.now, own := true, hop := 0 }
  match lanes with
  | 2 => (s.enqueue 0 e).enqueue 1 e
  | 3 => s.enqueueOn 0 w true
  | 4 => s.enqueueOn 1 w true
  | l => s.enqueue l e

/-- In the 3 us after every timestamp that is a multiple of 20,000 ns (R514). -/
def State.quiet (s : State) : Bool := s.ts.toNat % 20000 < 3000

/-- A frame that this die originates: sent, or held back to the end of the quiet window (R514). -/
def State.originate (s : State) (lanes ty body : Nat) : State :=
  let w := frameWord ty s.dieIndex body
  if s.quiet && !(ty = 2 || ty = 3 || ty = 4 || ty = 9) then
    { s with trv := { s.trv with held := s.trv.held ++ [(lanes, w)] } }
  else s.transmit lanes w

/-- A SHED frame with its code, at the present timestamp (R549). -/
def State.sendShed (s : State) (code : Nat) : State := s.originate 2 9 (code * 2 ^ 32 + s.ts.toNat % 2 ^ 32)

/-- The frames held back leave in the order in which they were created (R514). -/
def State.releaseHeld (s : State) : State :=
  let h := s.trv.held
  h.foldl (fun s e => s.transmit e.1 e.2) { s with trv := { s.trv with held := [] } }

/-- The word that a frame carries when its comma leaves: a SYNC frame takes the timestamp, or gains the delay of the
hop it arrived on and its residence time in 0.125 ns units (R526). -/
def TxEntry.leaving (e : TxEntry) (now : Nat) (ts : Word64) : Word64 :=
  if frameType e.word ≠ 1 then e.word
  else if e.own then frameWord 1 (frameSrc e.word) (ts.toNat % 2 ^ 40 * 2 ^ 16)
  else
    let d := (frameBits e.word 0 16 + e.hop + 8 * (now - e.since)) % 2 ^ 16
    frameWord 1 (frameSrc e.word) (frameBits e.word 16 41 * 2 ^ 16 + d)

/-- The nine bytes of a frame behind its comma: the word, least significant byte first, and the CRC-8 over them (R510). -/
def frameBytes (w : Word64) : List Byte :=
  let bs := (upTo 8).map fun k => BitVec.ofNat 8 (frameBits w (8 * k) 8)
  bs ++ [crc8 bs]

/-- One lane at an instant: when no frame is leaving, the first waiting frame starts to leave, for 80 ns (R510). -/
def LaneHid.drain (x : LaneHid) (now : Nat) (ts : Word64) : LaneHid :=
  match x.txq with
  | [] => x
  | e :: q => if x.busyUntil ≤ now then { x with txq := q, busyUntil := now + 80, wire := frameBytes (e.leaving now ts) } else x

/-- A hop whose lane drains: an ECHO of this die that leaves starts its round trip (R521). -/
def HopHid.echoLeaves (h : HopHid) (x : LaneHid) (now : Nat) : HopHid :=
  match x.txq with
  | [] => h
  | e :: _ => if x.busyUntil ≤ now && e.own && frameType e.word = 12 then { h with echoAt := some now } else h

/-- Both lanes at the present instant. -/
def State.drainLanes (s : State) : State :=
  { s with trv := { s.trv with
      cw := s.trv.cw.drain s.now s.ts, ccw := s.trv.ccw.drain s.now s.ts
      nextHop := s.trv.nextHop.echoLeaves s.trv.cw s.now, prevHop := s.trv.prevHop.echoLeaves s.trv.ccw s.now } }

end Sys2Proof.Machine
end

