-- ==== Sys2Proof/Machine/Flags.lean ====
section
/-!
DEFINITION. Every status flag of the block is set here: an event sets its status bit, is broadcast, is recorded in its
block's field book and may trigger FAULT_N (R548, R553-R573). Also what reads of the summary registers show.
-/

namespace Sys2Proof.Machine

/-- DATA of a field book entry, by block and INDEX, as the registers show it at the event (Table 13.2). Events whose
figures no register holds give their DATA themselves. An energy event that is of no cell, a plat event
without a failing field and a memory event without a word have none of the figures that Table 13.2 names. -/
def State.evData (s : State) (block idx : Nat) : Nat :=
  match block with
  | 1 => Config.openNat 57 [idx, s.now]
  | 3 => s.get (fCEL_CSTAT_RETRY idx) * 2 ^ 16 + s.get (fCEL_MEAS_IAVG idx)
  | 5 => if idx = 0xFFFF then s.engWord.toNat else s.tstatWord idx
  | 8 => (s.reg ENV_PWR).toNat
  | 9 => s.dstatWord idx
  | 10 => (s.reg PST_STATE).toNat
  | 11 => if idx = 0xFFFF then (s.reg IBS_MEAS).toNat else (s.reg (IBS_PMEAS idx)).toNat
  | 12 => if idx = 0xFFFF then (s.reg THM_STATE).toNat else (s.reg (THM_RAW idx)).toNat
  | 13 => s.get fCAP_EST_EST * 2 ^ 16 + s.get fCAP_SHARE_BUDGET
  | 14 => Config.openNat 46 [idx, s.now]
  | 15 => (s.reg TLM_SEQ).toNat
  | 16 => s.get fADC_CLOSURE_CODE_B * 2 ^ 16 + s.get fADC_CLOSURE_CODE_A
  | 17 => (s.reg TRV_STATE).toNat
  | 19 => bitsAt (s.reg (MBX_REQ idx 0)) 0 16
  | 20 => Config.openNat 58 [idx, s.now]
  | 21 => (s.reg (MON_RVAL idx)).toNat
  | _ => 0

/-! ### Field books (R557-R567) -/

/-- XXX_BOOK of a block (Table 13.3). -/
def bookReg (block : Nat) : Nat := blockBase block + 12
def fBOOK_COUNT (block : Nat) : Fld := ⟨bookReg block, 16, 16⟩
def fBOOK_LOST (block : Nat) : Fld := ⟨bookReg block, 8, 8⟩
def fBOOK_FILL (block : Nat) : Fld := ⟨bookReg block, 4, 4⟩
def fBOOK_HEAD (block : Nat) : Fld := ⟨bookReg block, 0, 3⟩

/-- Byte address in BOOK memory of a slot of a block's field book (R564). -/
def bookSlot (block slot : Nat) : Nat := 256 * block + 16 * slot

/-- What a field book entry says of its event: status bit, severity, the block and die it names, INDEX and DATA. -/
structure Entry where
  bit : Nat
  sev : Nat
  block : Nat
  die : Nat
  idx : Nat
  data : Nat
  deriving DecidableEq, Repr

/-- The 16 bytes of an entry (Table 13.1). -/
def Entry.bytes (e : Entry) (ts : Word64) : List Byte :=
  leBytes ts.toNat 8 ++ [BitVec.ofNat 8 (e.bit % 32 + e.sev % 4 * 32), BitVec.ofNat 8 (e.block % 32 + e.die % 8 * 32)]
    ++ leBytes e.idx 2 ++ leBytes e.data 4

/-- How an event was recorded: written or merged; lost; or lost because a read-modify-write met a bad word. -/
inductive Recorded where
  | kept
  | lost
  | lostRmw (addr : Nat)
  deriving DecidableEq, Repr

/-- The old entry of a slot appended to the eviction log (R561, R564). -/
def State.evict (s : State) (block slot : Nat) : State :=
  let next := s.get fFLT_LOG_NEXT
  let a := 0x2000 + 16 * next
  let s1 := if s.memBad 4 a 16 then s else { s with book := memPutBytes s.book a (memBytes s.book (bookSlot block slot) 16) }
  let s2 := if next + 1 < 7680 then s1 else s1.putB fFLT_LOG_WRAPPED true
  s2.put fFLT_LOG_NEXT ((next + 1) % 7680)

/-- An event not recorded (R566): LOST of the block's XXX_BOOK increases. -/
def State.loseEvent (s : State) (book : Nat) : State := s.addSat (fBOOK_LOST book) 1

/-- An event recorded in a field book: merged into the newest entry (R559), or written as a new one (R561). -/
def State.record (s : State) (book : Nat) (wasSet : Bool) (e : Entry) : State × Recorded :=
  if !s.memUsable 4 then (s.loseEvent book, .lost)
  else
    let head := s.get (fBOOK_HEAD book)
    let fill := s.get (fBOOK_FILL book)
    let a := bookSlot book head
    if wasSet && 0 < fill && (memByte s.book (a + 8)).toNat % 32 = e.bit && memLE s.book (a + 10) 2 = e.idx then
      if s.memBad 4 (a + 8) 8 then (s.loseEvent book, .lostRmw (a + 8))
      else ({ s with book := memPut s.book (a + 8) (memByte s.book (a + 8) ||| 0x80) }, .kept)
    else
      let slot := if fill = 0 then head else (head + 1) % 8
      let b := bookSlot book slot
      if s.memBad 4 b 16 then (s.loseEvent book, .lost)
      else
        let s1 := if fill = 8 then s.evict book slot else s
        let s2 := { s1 with book := memPutBytes s1.book b (e.bytes s.ts) }
        let s3 := ((s2.put (fBOOK_HEAD book) slot).put (fBOOK_FILL book) (min 8 (fill + 1))).addSat (fBOOK_COUNT book) 1
        (s3, .kept)

/-- Every field book, the eviction log and every XXX_BOOK cleared (R567). -/
def State.clearBooks (s : State) : State :=
  let s1 := forEach (upTo 22) (fun n s => s.resetReg (bookReg n)) { s with book := [] }
  s1.resetReg FLT_LOG

/-! ### The fault pin (R568-R573) -/

/-- One aon_clk period in ns, times 64 (2.048 MHz, or 32.768 kHz in Off). -/
def State.aon64 (s : State) : Nat := if s.aon = 4 then 1953125 else 31250

/-- FAULT_N driven low while the pulse timer runs or HOLD is 1. Until the pin is sampled again its level follows a change of the drive:
low while driven, and low after the release where the pin was last sampled as held low outside (R570, R573; DEDUCED,
notes/assumptions/115.md). -/
def State.driveFault (s : State) : State :=
  let d := s.on fFLT_PIN_PULSE || s.on fFLT_PIN_HOLD
  (s.putB fFLT_PIN_DRIVE d).putB fFLT_PIN_LEVEL (if s.on fFLT_PIN_DRIVE = d then s.on fFLT_PIN_LEVEL else !d && !s.pins.extLow)

/-- A pin trigger: the pulse timer starts, HOLD sets, FLT_LAST and FLT_COUNT tell of it (R569). -/
def State.triggerPin (s : State) (remote : Bool) (e : Entry) : State :=
  let s1 := { s with cyc := { s.cyc with trigAt := s.now + 1 }, pins := { s.pins with pulseDue := s.now + ceilN (s.get fFLT_CFG_PULSE * s.aon64) 64 } }
  let s2 := ((s1.putB fFLT_PIN_PULSE true).putB fFLT_PIN_HOLD true).driveFault
  let s3 := s2.setReg FLT_LAST (BitVec.ofNat 32 (e.die % 8 * 2 ^ 29 + e.block % 32 * 2 ^ 24 + e.bit % 32 * 2 ^ 19
    + e.sev % 4 * 2 ^ 17 + b2n remote * 2 ^ 16 + e.idx % 2 ^ 16))
  s3.addSat fFLT_COUNT_COUNT 1

/-! ### Events (R554) -/

/-- A status bit that becomes set at a severity at or above TRV_CFG.FSEV is broadcast in a FAULT frame, a source bit
at most once per 1 ms (R548). -/
def State.broadcastFault (s : State) (e : Ev) (sev : Nat) : State :=
  let k := 32 * e.block + e.bit
  let last := tblGet (fun _ => 0) s.trv.bcastAt k
  if s.get fTRV_CFG_FSEV ≤ sev && (last = 0 || last + 999999 < s.now) then
    let s1 := s.originate 2 8 (e.block * 2 ^ 40 + e.bit * 2 ^ 35 + sev * 2 ^ 33 + s.ts.toNat % 2 ^ 32)
    { s1 with trv := { s1.trv with bcastAt := tblSet (fun _ => 0) s1.trv.bcastAt k (s.now + 1) } }
  else s

/-- A status bit set. -/
def State.setStat (s : State) (e : Ev) : State :=
  let m := BitVec.ofNat 32 (2 ^ e.bit)
  (s.setReg (blockBase e.block) (s.reg (blockBase e.block) ||| m)).markSet (blockBase e.block) m

/-- A status bit set, the event broadcast and recorded. -/
def State.note (s : State) (e : Ev) (idx data : Nat) : State × Recorded :=
  let was := s.stat e
  let sev := s.sevOf e
  let s1 := s.setStat e
  let s2 := if was then s1 else s1.broadcastFault e sev
  s2.record e.block was ⟨e.bit, sev, e.block, s.dieIndex, idx, data⟩

/-- The events that follow an unrecorded one: FLT_STAT.BOOK_LOST (R566), and where the lost write was a
read-modify-write of a bad BOOK word, an uncorrectable read counted (R611). -/
def State.afterRecord (p : State × Recorded) : State :=
  match p.2 with
  | .kept => p.1
  | .lost => (p.1.note evFLT_BOOK_LOST 0xFFFF 0).1
  | .lostRmw a =>
    let s1 := (p.1.note evFLT_BOOK_LOST 0xFFFF 0).1
    ((s1.addSat (fMEM_MSTAT_UNCORR 4) 1).note evMEM_UNCORR 4 (a / 8 * 8)).1

/-- The pin part of an event: a trigger where its severity is at or above FLT_CFG.PSEV, in any block but FLT_ (R568). -/
def State.pinPart (s : State) (remote : Bool) (e : Entry) : State :=
  if e.block ≠ 18 && s.get fFLT_CFG_PSEV ≤ e.sev then
    State.afterRecord ((s.triggerPin remote e).note evFLT_ASSERTED 0xFFFF 0)
  else s

/-- The uncorrectable read that a record has met is an event like any other, and may trigger the pin (R568, R611). DESIGN CHOICE (log
127): one met as a trigger itself is recorded triggers no more, so that the triggers end. -/
def State.rmwPin (s : State) : Recorded → State
  | .lostRmw a => s.pinPart false ⟨evMEM_UNCORR.bit, s.sevOf evMEM_UNCORR, evMEM_UNCORR.block, s.dieIndex, 4, a / 8 * 8⟩
  | _ => s

/-- An event with its INDEX and DATA: the one operation that sets a status bit (R554-R573). -/
def State.raiseD (s : State) (e : Ev) (idx data : Nat) : State :=
  let p := s.note e idx data
  ((State.afterRecord p).pinPart false ⟨e.bit, s.sevOf e, e.block, s.dieIndex, idx, data⟩).rmwPin p.2

/-- A read by the block itself of `n` bytes of a memory that is on: its first word with an uncorrectable error is counted and recorded
(R611). -/
def State.ownRead (s : State) (k a n : Nat) : State :=
  if s.memPower k = 2 && s.memBad k a n then (s.addSat (fMEM_MSTAT_UNCORR k) 1).raiseD evMEM_UNCORR k (8 * s.firstBad k a n) else s

/-- A read of `n` bytes of a memory that is on delivers corrected data for each word that has a correctable error: counted and recorded,
and the word written back (R611). -/
def State.corrects (s : State) (k a n : Nat) : State :=
  (if s.memPower k = 2 then s.weakIn k a n else []).foldl (fun s p => ((s.dropWeak k (8 * p.2) 8).addSat (fMEM_MSTAT_CORR k) 1).raiseD evMEM_CORR k (8 * p.2)) s

/-- An event whose DATA the registers hold. -/
def State.raise (s : State) (e : Ev) (idx : Nat) : State := s.raiseD e idx (s.evData e.block idx)

/-- An event raised only where a condition holds. -/
def State.raiseIf (s : State) (c : Bool) (e : Ev) (idx : Nat) : State := if c then s.raise e idx else s

/-- A remote fault received in a FAULT frame (R548, R560, R568). -/
def State.raiseRemote (s : State) (e : Entry) : State :=
  let was := s.stat evTRV_REMOTE
  let s1 := (s.setStat evTRV_REMOTE)
  let s2 := if was then s1 else s1.broadcastFault evTRV_REMOTE (s.sevOf evTRV_REMOTE)
  let p := s2.record 17 was e
  let s3 := State.afterRecord p
  let own : Entry := ⟨10, s.sevOf evTRV_REMOTE, 17, s.dieIndex, e.idx, e.data⟩
  let s4 := s3.pinPart false own
  let s5 := if s4.on fFLT_CFG_REMOTE && s4.get fFLT_CFG_PSEV ≤ e.sev then
      State.afterRecord ((s4.triggerPin true e).note evFLT_ASSERTED 0xFFFF 0)
    else s4
  s5.rmwPin p.2

/-! ### Interrupts and summaries (R48, R556, R595) -/

/-- Whether a block has a status bit set (FLT_SUM). -/
def State.anyStat (s : State) (block : Nat) : Bool := (s.reg (blockBase block)).toNat ≠ 0

/-- Line axi_irq[n]: high while a status bit of the block is set and enabled; for MBX_ also an enabled MBX_DONE bit. It is 0
while aon_host_pwrgd is low (R51). -/
def State.irq (s : State) (block : Nat) : Bool :=
  s.pins.hostPwrgd && (((s.reg (blockBase block)) &&& (s.reg (blockBase block + 4))).toNat ≠ 0
    || (block = 19 && (s.get fMBX_DONE_DONE &&& s.get fMBX_DIEN_EN) ≠ 0))

/-- FLT_SUM.ACTIVE: bit n where the block at position n has a status bit set. -/
def State.faultSum (s : State) : Nat := sumOver (upTo 22) fun n => b2n (s.anyStat n) * 2 ^ n

end Sys2Proof.Machine
end

