-- ==== Sys2Proof/Machine/IbPhases.lean ====
section
/-!
DEFINITION. The modes of the IB stage and of its phases (R317, R319, R351, R359), as the entry into a power state and the
stage itself (chapter 7) change them.
-/

namespace Sys2Proof.Machine

/-! ### Phases and modes (R317, R351, R359, R365) -/

/-- IBS_STATE.MODE: 0 stopped, 1 soft start, 2 hysteretic, 3 closed loop, 4 keep-alive. -/
def State.ibMode (s : State) : Nat := s.get fIBS_STATE_MODE

/-- IBS_PSTAT.MODE: 0 disabled, 1 not admitted, 2 active, 3 shed, 4 diode emulation, 5 hiccup, 6 shed by TRIP, 7 failed. -/
def State.pMode (s : State) (p : Nat) : Nat := s.get (fIBS_PSTAT_MODE p)
def State.setP (s : State) (p m : Nat) : State := s.put (fIBS_PSTAT_MODE p) m

/-- A phase behind its registers, and changed. -/
def State.phase (s : State) (p : Nat) : PhaseHid := tblGet (fun _ => {}) s.ib.phases p
def State.updPhase (s : State) (p : Nat) (f : PhaseHid → PhaseHid) : State :=
  { s with ib := { s.ib with phases := tblSet (fun _ => {}) s.ib.phases p (f (s.phase p)) } }

/-- The stage behind its registers changed. -/
def State.updIb (s : State) (f : IbHid → IbHid) : State := { s with ib := f s.ib }

/-- Admitted and unlatched. -/
def State.pAdmitted (s : State) (p : Nat) : Bool := 2 ≤ s.pMode p && s.pMode p ≤ 6

/-- Active: taking slots or pulses. -/
def State.pActive (s : State) (p : Nat) : Bool := s.pMode p = 2 || s.pMode p = 4

/-- The active phases, the admitted ones, and N_act. -/
def State.actives (s : State) : List Nat := (upTo 16).filter s.pActive
def State.admitted (s : State) : List Nat := (upTo 16).filter s.pAdmitted
def State.nAct (s : State) : Nat := s.actives.length

/-- IBS_STATE as it reads, with NACT and NADM counted. -/
def State.ibStateWord (s : State) : Nat :=
  (setBits (setBits (s.reg IBS_STATE) 24 5 s.nAct) 19 5 s.admitted.length).toNat

/-- The phases that take hysteretic pulses: the NPH lowest-numbered enabled, unlatched ones that are not shed by TRIP (R347),
or the keep-alive phase, until it is latched (R353, R365). -/
def State.hysPhases (s : State) : List Nat :=
  if s.ibMode = 4 then s.ib.kaPhase.toList.filter fun p => s.pMode p ≠ 7
  else ((upTo 16).filter fun p => s.on (fIBS_PCFG_EN p) && s.pMode p ≠ 7 && s.pMode p ≠ 6).take (max 1 (s.get fIBS_SHED_NPH))

/-- The modes of admitted phases outside closed loop: those that take pulses active, the others shed (R351). -/
def State.hysModes (s : State) : State :=
  let l := s.hysPhases
  forEach (upTo 16) (fun p s =>
    if !s.pAdmitted p then s else if l.contains p then s.setP p 2 else if s.pMode p = 6 then s else s.setP p 3) s

/-- The stage in a mode: its diode emulation, its pulses, the joining of phases and the wait for a first IB sample ended. -/
def State.setIbMode (s : State) (m : Nat) : State :=
  ((s.put fIBS_STATE_MODE m).putB fIBS_STATE_DE false).updIb fun h => { h with pulsing := false, joins := [], svcOn := false }

/-! ### Turn-on edges and outputs (R72, R333, R338, R350, R351, R360) -/

/-- IBS_OFS.DOFF (R333). -/
def State.dieOffset (s : State) : Nat := natOf (roundHalfUp (s.dieIndex * 500 : Nat) (s.dieCount : Nat))

/-- The first turn-on edge of a phase, ps: period start + DOFF x 250 ps + p x 125 ns, displaced while offsets slew back
after a loss of SYNC_IN, in 1/64 of a period (R19, R333). -/
def State.turnOnBase (s : State) (p : Nat) : Nat :=
  1000 * s.ib.periodAt + 250 * s.dieOffset + 125000 * p + 31250 * s.ib.shift

/-- The latest turn-on edge of a phase, ps; 0 before the first. -/
def State.turnOnPs (s : State) (p : Nat) : Nat :=
  let base := s.turnOnBase p
  let t := 1000 * s.now
  if t < base then (if 2000000 ≤ base && base - 2000000 ≤ t then base - 2000000 else 0) else t - (t - base) % 2000000

/-- The next turn-on edge of a phase, ns, rounded up. -/
def State.nextTurnOn (s : State) (p : Nat) : Nat :=
  let base := s.turnOnBase p
  let t := 1000 * s.now
  ceilN (if t < base then base else t + 2000000 - (t - base) % 2000000) 1000

/-- An instant lies at or after the latest turn-on edge of a phase. -/
def State.sinceTurnOn (s : State) (p : Nat) (o : Option Nat) : Bool :=
  match o with
  | none => false
  | some a => decide (s.turnOnPs p ≤ 1000 * a)

/-- The on-time code of a phase in its present period: the latest one delivered at its turn-on edge (R338). -/
def State.phaseCode (s : State) (p : Nat) : Nat :=
  let h := s.phase p
  if 1000 * h.dutyAt ≤ s.turnOnPs p then h.duty else h.heldDuty

/-- A duty code delivered to a phase. -/
def State.deliver (s : State) (p code : Nat) : State :=
  s.updPhase p fun h => { h with heldDuty := s.phaseCode p, duty := code, dutyAt := s.now }

/-- The enabled phase that admission checks next; outside closed loop the hysteretic ones wait for their first pulse (R358). -/
def State.toAdmit (s : State) : Option Nat :=
  (upTo 16).find? fun p => s.on (fIBS_PCFG_EN p) && s.pMode p = 1 && (s.ibMode = 3 || !s.hysPhases.contains p)

/-- BAND in uV and TON in ns of the mode: in keep-alive those of IBS_KA that it took on entry, else those of IBS_HYS (R351,
R353). -/
def State.hysBand (s : State) : Nat := 1000 * (if s.ibMode = 4 then s.ib.kaBand else s.get fIBS_HYS_BAND)
def State.hysTon (s : State) : Nat := 5 * (if s.ibMode = 4 then s.ib.kaTon else s.get fIBS_HYS_TON)

/-- The TON test pulse of an admission check goes out on a phase: it begins when the check is due (R358). -/
def State.underTest (s : State) (p : Nat) : Bool :=
  (s.ibMode = 2 || s.ibMode = 3) && s.toAdmit = some p && s.ib.admitAt ≤ s.now

/-- PWM_OUT[p]: 0 low, 1 high, 2 high impedance (R72). In closed loop the high side conducts from the turn-on edge for the
on-time, or until a peak termination (R360); the low side then conducts, in diode emulation until the zero-current comparator
fires. Outside closed loop, and in an admission check, a pulse is high for its on-time or until its peak termination, and low
until the comparator fires. A latched phase is off (R365). -/
def State.pwmOut (s : State) (p : Nat) : Nat :=
  let h := s.phase p
  let shot (at_ ton : Nat) : Nat := if s.now < at_ + ton && !(h.peakAt.any fun a => at_ ≤ a) then 1 else 0
  if s.por || s.ibMode = 0 || s.ib.ov || s.ib.ssWait.isSome || s.pMode p = 7 then 2
  else if s.underTest p then (if h.zcdAt.any fun a => s.ib.admitAt ≤ a then 2 else shot s.ib.admitAt s.hysTon)
  else if s.ibMode = 3 then
    if !s.pActive p || s.turnOnPs p = 0 then 2
    else if 1000 * s.now < s.turnOnPs p + 250 * s.phaseCode p && !s.sinceTurnOn p h.peakAt then 1
    else if s.pMode p = 4 && (s.phaseCode p = 0 || s.sinceTurnOn p h.zcdAt) then 2
    else 0
  else match h.pulse with
    | none => 2
    | some x => if !s.ib.hysWait.contains p then 2 else shot x.1 x.2

/-- Hysteretic mode (Table 7.1). -/
def State.ibHysteretic (s : State) : State := (s.setIbMode 2).hysModes

end Sys2Proof.Machine
end

