-- ==== Sys2Proof/Machine/IbTarget.lean ====
section
/-!
DEFINITION. The set-point of the IB stage (chapter 7): the target in force and the reference that moves toward it, and the
VSEL values and tracked targets that it is taken from (R320-R330, R352).
-/

namespace Sys2Proof.Machine

/-! ### Reference (R330, R352-R355) -/

/-- The reference in uV, shown in IBS_TGT.REF. -/
def State.setRef (s : State) (uv : Nat) : State :=
  (s.updIb fun h => { h with refUv := uv, refAt := s.now }).put fIBS_TGT_REF (natOf (divOpen 14 uv 1250))

/-- Where the reference heads: VDS in Deep sleep, the VKA taken on entry in keep-alive, else the target in force. -/
def State.refGoal (s : State) : Nat :=
  1250 * (if s.ibMode = 4 then s.ib.kaVka else if s.aon = 3 && !s.pst.waking then s.get fIBS_HYS_VDS else s.get fIBS_TGT_TARGET)

/-- How far the reference may have moved since it was last moved, uV: at SLEW, or at RAMP in soft start and on a wake. -/
def State.refTravel (s : State) : Nat :=
  (if s.ib.ramping then s.get fIBS_SS_RAMP else 100 * s.get fIBS_SS_SLEW) * (s.now - s.ib.refAt) / 1000

/-- The reference moves toward its goal; at the goal a ramp outside soft start ends. It rests while the stage is stopped or
waits for a retry. -/
def State.moveRef (s : State) : State :=
  if s.ibMode = 0 || s.ib.ssWait.isSome then s.updIb fun h => { h with refAt := s.now }
  else
    let g := s.refGoal
    let r := if s.ib.refUv < g then min g (s.ib.refUv + s.refTravel) else max g (s.ib.refUv - s.refTravel)
    let s1 := s.setRef r
    if r = g && s.ibMode ≠ 1 then s1.updIb fun h => { h with ramping := false } else s1

/-- The reference rises at IBS_SS.RAMP until it has reached its goal. -/
def State.ibRamp (s : State) : State := s.moveRef.updIb fun h => { h with ramping := true }

/-! ### Target (R320-R329) -/

/-- The target in force: the source value limited to the cadastre's range (R329). A new target replaces the previous one,
and the reference goes on from where it is at that moment (R330). -/
def State.setIbTarget (s : State) (code : Nat) : State :=
  let t := clampN (s.get fCAD_IB_IBMIN) (s.get fCAD_IB_IBMAX) code
  let clip : Bool := t ≠ code
  let s0 := if t = s.get fIBS_TGT_TARGET then s else s.moveRef
  let s1 := (s0.put fIBS_TGT_TARGET t).updIb fun h => { h with clip := clip }
  s1.raiseIf (clip && !s.ib.clip) evIBS_TGT_CLIP 0xFFFF

/-- The stored code of the VSEL value in force becomes the source value (R320). -/
def State.applyVsel (s : State) (v : Nat) : State :=
  let s1 := s.updIb fun h => { h with vselForce := v }
  if s.get fIBS_CTL_SRC = 0 then s1.setIbTarget (s.get (fIBS_VSEL_CODE v)) else s1

/-- A VSEL value that differs from the one in force is applied; where it changes the target, its dwell starts (R322). -/
def State.changeVsel (s : State) (v : Nat) : State :=
  let s1 := (s.applyVsel v).putB fIBS_STATE_DWELL false
  if s1.get fIBS_TGT_TARGET = s.get fIBS_TGT_TARGET then s1 else s1.updIb fun h => { h with vselAt := some s.now }

/-- The latest accepted VSEL value, where it differs from the one in force, is applied in Run and Idle: at once, or when the
dwell ends (R322, R328). -/
def State.offerVsel (s : State) : State :=
  let v := s.get fIBS_STATE_VSEL
  let free : Bool := match s.ib.vselAt with | none => true | some a => decide (a + 100000 ≤ s.now)
  if v = s.ib.vselForce || !s.runOrIdle then s
  else if free then s.changeVsel v
  else s.putB fIBS_STATE_DWELL true

/-- The target taken anew: the last tracked target while there is one, else the stored code of the VSEL value in force
(R320, R328, R329). -/
def State.refreshIb (s : State) : State :=
  if s.por then s
  else if 0 < s.ib.trkTarget then s.setIbTarget s.ib.trkTarget
  else s.applyVsel s.ib.vselForce

/-- IBS_CTL.SRC has been written: outside tracking no tracked target is held, and pulse tracking counts its time without
an edge from its start (R327; DESIGN CHOICE, notes/assumptions/107.md). -/
def State.chooseSource (s : State) (old : Nat) : State :=
  let src := s.get fIBS_CTL_SRC
  (s.updIb fun h =>
    { h with trkTarget := if src = 0 then 0 else h.trkTarget
             trkEdge := if src = 2 && old ≠ 2 then some s.now else h.trkEdge
             trkRise := if src = 2 && old ≠ 2 then none else h.trkRise
             trkFall := if src = 2 && old ≠ 2 then none else h.trkFall }).refreshIb

end Sys2Proof.Machine
end

