-- ==== Sys2Proof/Machine/Rails.lean ====
section
/-!
DEFINITION. What cells, tracts and domains share: health and ratings, current limit and current sharing, targets and the
lift in force, what follows when a domain changes its state, and the loss of cells (R91-R108, R142-R145, R177-R180,
R194, R229-R230, R274-R297, R657, R658).
-/

namespace Sys2Proof.Machine

/-! ### Health and ratings (R142-R145, R657) -/

/-- A cell's mode (Table 2.9): 0 off, 1 soft start, 2 continuous, 3 pulse skipping, 4 diode emulation, 5 hysteretic,
6 hiccup, 7 failed. -/
def State.mode (s : State) (c : Nat) : Nat := s.get (fCEL_CSTAT_MODE c)

/-- A cell may be driven: its tract is not stopped (R194, R658) and an engine is left (R199). -/
def State.drivable (s : State) (c : Nat) : Bool := !s.stopped (c / 4) && !s.on fTRC_ENG_BOTH

/-- A cell's mode set, unless it is latched (R140); a cell that may not be driven stays both off. -/
def State.setMode (s : State) (c m : Nat) : State :=
  if s.mode c = 7 then s else s.put (fCEL_CSTAT_MODE c) (if 1 ≤ m && m ≤ 5 && !s.drivable c then 0 else m)

/-- The cells of a tract. -/
def cellsIn (t : Nat) : List Nat := [4 * t, 4 * t + 1, 4 * t + 2, 4 * t + 3]

/-- Enabled and not latched. -/
def State.alive (s : State) (c : Nat) : Bool := s.on (fCEL_CFG_EN c) && s.mode c ≠ 7

/-- Enabled, not latched, not in hiccup, and its tract not stopped (R194, R658). -/
def State.healthy (s : State) (c : Nat) : Bool := s.alive c && s.mode c ≠ 6 && !s.stopped (c / 4)

/-- The healthy cells of a tract. -/
def State.healthyIn (s : State) (t : Nat) : List Nat := (cellsIn t).filter fun c => s.healthy c

/-- Ratings of Table 2.4 in 0.1 A. -/
def State.contRating (s : State) (t : Nat) : Nat := 50 * (s.healthyIn t).length
def State.peakRating (s : State) (t : Nat) : Nat := 75 * (s.healthyIn t).length

/-- A domain is On. -/
def State.isOn (s : State) (d : Nat) : Bool := s.domState d = 4

/-- The class of a domain (R277): 0 compute, 1 memory layer, 2 link, 3 uncore. -/
def State.classOf (s : State) (d : Nat) : Nat := if 32 ≤ d then 0 else s.get (fDOM_CFG_CLASS d)

/-- A domain in one of the states of Table 6.1. -/
def State.setDom (s : State) (d st : Nat) (ph : DomPhase) : State :=
  (s.put (fDOM_DSTAT_STATE d) st).updDom d fun h => { h with phase := ph }

/-- The soft start of a domain is under way, its hiccups included (R657). -/
def DomPhase.starting : DomPhase → Bool
  | .startDelay | .startRamp | .hiccup => true
  | _ => false

/-! ### Present code, ratio and current limit (R91, R100-R103) -/

/-- The present code of a tract. -/
def State.present (s : State) (t : Nat) : Nat := s.get (fCEL_CSTAT_PRESENT (4 * t))

/-- A station enabled and not suspect. -/
def State.usable (s : State) (n : Nat) : Bool :=
  bitN (s.get (fSTN_EN_EN (n / 16))) (n % 16) && !bitN (s.get (fSTN_SUSP_SUSP (n / 16))) (n % 16)

/-- The usable stations of a tract. -/
def State.usableIn (s : State) (t : Nat) : List Nat := ((upTo 16).map (16 * t + ·)).filter s.usable

/-- The least of a list of figures, `d` for none. -/
def leastOf (d : Nat) : List Nat → Nat
  | [] => d
  | x :: l => l.foldl min x

/-- A station's latest reading in 1.25 mV steps: its code, and under range, where the code stands at 240, the reading itself, as the
spec's example of a shorted rail takes it (R100, R118, Table 2.3; DEDUCED, notes/assumptions/118.md). -/
def State.reading (s : State) (n : Nat) : Nat := if s.on (fSTN_VAL_UND n) then (s.stn n).low else s.get (fSTN_VAL_CODE n)

/-- A tract's feedback as the ratio r and condition A take it: its code, or the lowest reading where it is under range as R94 has it
(DEDUCED, notes/assumptions/118.md). -/
def State.fedBack (s : State) (t : Nat) : Nat :=
  let v := s.get (fSTN_MIN_CODE t)
  if v = 240 then leastOf v ((s.usableIn t).map s.reading) else v

/-- The reading from which a cell's ratio r is taken: the lowest of its own usable stations, else the tract feedback. -/
def State.ratioCode (s : State) (c : Nat) : Nat :=
  leastOf (s.fedBack (c / 4)) (((upTo 4).map (4 * c + ·)).filter s.usable |>.map s.reading)

/-- I_lim of R100 for a reading and a target code: numerator and denominator in mA. -/
def foldBack (v t : Nat) : Int × Int :=
  if 4 * t ≤ 5 * v then (7500, 1)
  else if 5 * v ≤ t then (2000, 1)
  else (6000 * t + 5500 * (5 * v - t), 3 * t)

/-- I_lim of a cell in its domain's present conditions. -/
def State.ilim (s : State) (c : Nat) : Int × Int := foldBack (s.ratioCode c) (s.get (fCEL_CSTAT_TARGET c))

/-! ### Thermal sharing (R104-R107) -/

/-- The value of a diode site, 0.0625 degC. -/
def State.site (s : State) (t : Nat) : Int := s.getI (fTHM_SITE_VALUE t)

/-- Four times T_c of a cell in 0.0625 degC (R104). -/
def State.cellTemp4 (s : State) (c : Nat) : Int :=
  let t := c / 4
  let k := c % 4
  let row := t / 8
  let col := t % 8
  let own := s.site t
  let h := if k % 2 = 0 then (if col = 0 then own else s.site (t - 1)) else (if col = 7 then own else s.site (t + 1))
  let v := if k < 2 then (if row = 0 then own else s.site (t - 8)) else (if row = 7 then own else s.site (t + 8))
  2 * own + h + v

/-- The shed fraction of a cell in 1/307,200, from its estimate, the sum and number of the healthy ones (R105). -/
def State.shedOf (s : State) (t4 sum : Int) (n : Nat) : Nat :=
  natOf (min (s.get fCEL_SHARE_CFG_MAXSHED * 3072 : Nat) (max 0 ((s.get fCEL_SHARE_CFG_GAIN : Int) * (n * t4 - sum) * 12 / n)))

/-- The largest factor of at most 1, as a fraction, by which every shed fraction of a tract may be multiplied so that no
share exceeds its cell's I_lim (R107): `i` is the tract current in mA. A cell whose share grows as the fractions shrink
bounds no factor. -/
def State.shedFactor (s : State) (hs : List Nat) (shed : Nat → Nat) (i : Int) : Int × Int :=
  let tot := sumOver hs shed
  let n : Int := hs.length
  hs.foldl (fun (o : Int × Int) k =>
    let l := s.ilim k
    let grow : Int := l.1 * tot - l.2 * i * shed k
    let room : Int := 307200 * (n * l.1 - l.2 * i)
    if 0 < grow && room * o.2 < o.1 * grow then (max 0 room, grow) else o) (1, 1)

/-- A shed fraction reduced in that proportion; rounded down, so that no partner's share comes to exceed its limit (R107). -/
def State.reduceSheds (s : State) (hs : List Nat) (shed : Nat → Nat) (i : Int) (c : Nat) : Nat :=
  let f := s.shedFactor hs shed i
  natOf (shed c * f.1 / f.2)

/-- A share target of `a` / `b` mA in whole mA: the rounding is open, but for a target that it would lift above I_lim (R106,
R107). -/
def shareTarget (l : Int × Int) (a b : Int) : Int :=
  let x := divOpen 9 a b
  if l.1 < x * l.2 then a / b else x

/-- The shed fraction of a cell before R107: that of R105, a derated cell's at least SDERATE (R468). -/
def State.rawShed (s : State) (hs : List Nat) (c : Nat) : Nat :=
  max (s.shedOf (s.cellTemp4 c) (sumOverI hs s.cellTemp4) hs.length)
    (if s.on (fNRG_SMEAS_DERATED c) then 3072 * s.get fNRG_SET_SDERATE else 0)

/-- The shed fractions and share targets of a tract that carries `i` mA (R105-R107), with its temperature estimates. Healthy
cells alone have a fraction and a target; CEL_TEMP.SHED of another cell shows the fraction that its estimate would give it
(DESIGN CHOICE, notes/assumptions/93.md). -/
def State.setShares (s : State) (t : Nat) (i : Int) : State :=
  let hs := s.healthyIn t
  let shed (c : Nat) := s.reduceSheds hs (s.rawShed hs) i c
  let wt := sumOver hs fun c => 307200 - shed c
  (cellsIn t).foldl (fun (u : State) (c : Nat) =>
    let ok : Bool := hs.contains c
    let u1 := u.putI (fCEL_TEMP_TEST c) (divOpen 7 (s.cellTemp4 c) 4)
    (u1.put (fCEL_TEMP_SHED c) (natOf (divOpen 8 (shed c) 3072))).updCell c fun h =>
      { h with shed := if ok then shed c else 0, target := if ok && 0 < wt then shareTarget (s.ilim c) (i * (307200 - shed c)) wt else 0 }) s

/-- The shares of a tract set anew at once, from its latest current (R143, R137; notes/assumptions/94.md). -/
def State.reshare (s : State) (t : Nat) : State := s.setShares t (100 * s.getI (fTRC_IMEAS_I t))

/-! ### Idle loops and cells off -/

/-- Every cell of a domain both off, with SS_DONE clear; a cell that waits in a hiccup of its own goes on waiting with both
switches off (R137). -/
def State.cellsOff (s : State) (d : Nat) : State :=
  (s.cellsOf d).foldl (fun s c =>
    (if s.mode c = 6 && (s.cell c).hiccupDue.isSome then s else s.setMode c 0).putB (fCEL_CSTAT_SS_DONE c) false) s

/-- A tract's loop goes idle (Table 3.6): the open-hold it was in ends, and with it a tract reset in progress, whose BUSY
reads 1 for at most 1 us (R608). A stopped tract stays stopped, or in its open-hold (R658). -/
def State.idleLoop (s : State) (t : Nat) : State :=
  if s.stopped t then s
  else
    let s1 := if s.loopState t = 6 && (s.tract t).internal = 1 then s.putB fBLK_TRST_BUSY false else s
    (s1.put (fTRC_TSTAT_STATE t) 5).updTract t fun h =>
      { h with staging := none, holdAt := none, closeAt := none, internal := 0, lastSlot := false, floorOn := false }

/-- The loops of a domain's tracts idle. -/
def State.idleLoops (s : State) (d : Nat) : State := (s.tractsOf d).foldl (fun s t => s.idleLoop t) s

/-! ### Targets and the lift in force (R92, R93, R177, R178, R229, R230, R280) -/

/-- The instances with a lift on a domain, and the sum of their lifts. -/
def State.liftsOn (s : State) (d : Nat) : List Nat :=
  (s.so.awaiting ++ s.so.running).flatMap fun i => (i.lifts.filter fun e => e.1 = d).map fun e => e.2

/-- The slew interval of R93 of a domain in ns. -/
def State.slewNs (s : State) (d : Nat) : Nat := 8 * max (s.get (fCEL_DSTART_SLEW d)) (s.get fCAD_SLEW_SLEW)

/-- The slew interval of R282 in ns. -/
def State.retSlewNs (s : State) : Nat := 8 * max (s.get fDOM_GCFG_RSLEW) (s.get fCAD_SLEW_SLEW)

/-- The interval of the next step of a domain's cells outside ramps. -/
def State.stepIv (s : State) (d : Nat) : Nat :=
  match (s.dom d).phase with
  | .stagesRet | .slewUp | .slewRet => s.retSlewNs
  | _ => s.slewNs d

/-- The steps that the ramp of a domain has had time for (R94, R97). -/
def State.rampElapsed (s : State) (d : Nat) : Nat := (s.now - (s.dom d).rampAt) * (s.dom d).rate / 1250000

/-- A cell that has stood still takes the next instant of its cadence: steps that were not taken are not made up for (R178,
R184). -/
def State.recadence (s : State) (iv c : Nat) : State :=
  let d := s.domOf (c / 4)
  s.updCell c fun h =>
    { h with
      stepDue := if s.now < h.stepDue || iv = 0 then h.stepDue else h.stepDue + ((s.now - h.stepDue) / iv + 1) * iv
      rampSteps := max h.rampSteps (s.rampElapsed d) }

/-- The target of a cell. A cell that moves keeps its cadence, and one at rest takes the next instant of it (R178). -/
def State.aim (s : State) (iv code : Nat) (c : Nat) : State :=
  let s1 := if s.get (fCEL_CSTAT_PRESENT c) = s.get (fCEL_CSTAT_TARGET c) then s.recadence iv c else s
  s1.put (fCEL_CSTAT_TARGET c) code

/-- Thermal shutdown is in force. -/
def State.shut (s : State) : Bool := s.on fTHM_STATE_SHUT

/-- The domain heads for its target in force (Off and Retention apart, and not while switching off). -/
def State.headsUp (s : State) (d : Nat) : Bool :=
  let h := s.dom d
  s.domState d = 4 || (s.domState d = 3 && (h.phase ≠ .stagesRet || 0 < h.stagesRun))

/-- Every cell of a domain aims at the commanded target plus the lift in force (R230). -/
def State.retarget (s : State) (d : Nat) : State :=
  let iv := if s.domState d = 4 then s.slewNs d else s.retSlewNs
  if s.headsUp d then
    (s.cellsOf d).foldl (fun s c => s.aim iv (s.get (fDOM_VSET_CODE d) + s.get (fSO_DLIFT_LIFT d)) c) s
  else s

/-- The lift in force of a domain recomputed (R229, R280), with LIFT_CLIP for the plan index `idx` when a limit begins
to reduce it (R656). -/
def State.relift (s : State) (d idx data : Nat) : State :=
  let l := s.liftsOn d
  let sum := if s.isOn d then sumOver l id else 0
  let lim := min (s.get fSO_CFG_LIFT_MAX) (s.get (fCAD_DOM_VMAX d) - s.get (fDOM_VSET_CODE d))
  let clip : Bool := decide (lim < sum)
  let s1 := (s.put (fSO_DLIFT_LIFT d) (min sum lim)).put (fSO_DLIFT_INST d) (l.filter fun x => 0 < x).length
  let s2 := if clip && !(s.dom d).clip then s1.raiseD evSO_LIFT_CLIP idx data else s1
  (if clip = (s.dom d).clip then s2 else s2.updDom d fun h => { h with clip := clip }).retarget d

/-- Whether R92 accepts a target code for a domain. -/
def State.codeValid (s : State) (d code : Nat) : Bool :=
  360 ≤ code && code ≤ 840 && s.get (fCAD_DOM_VMIN d) ≤ code && code ≤ s.get (fCAD_DOM_VMAX d)

/-! ### Pulses in light load (R112, R115) -/

/-- A tract's decision whether its phases issue pulses, and until when it held another. -/
def State.setPulse (s : State) (t : Nat) (v : Bool) : State :=
  s.updTract t fun h => if h.pulse = v then h else { h with pulse := v, pulseWas := keepWas s.now h.pulse h.pulseWas }

/-- Whether the phases of a tract issue pulses, by its latest feedback and its present code: in light load while the feedback is at
or below the code (R112); in hysteretic mode from below the code until strictly above code + HBAND (R115; DESIGN CHOICE,
notes/assumptions/97.md). -/
def State.pulseNow (s : State) (t : Nat) : Bool :=
  let fb := s.get (fSTN_MIN_CODE t)
  let pc := s.present t
  if (cellsIn t).any fun c => s.mode c = 5 then decide (fb < pc) || ((s.tract t).pulse && decide (fb ≤ pc + s.get fCEL_LL_HBAND))
  else !(s.tract t).light || decide (fb ≤ pc)

/-- The decision taken anew, as a sample, a code step or a mode changes what it rests on. -/
def State.judgePulse (s : State) (t : Nat) : State := s.setPulse t (s.pulseNow t)

/-! ### A domain has changed its state -/

/-- The conditions of R286 that do not depend on the block's state. -/
def State.mayStart (s : State) (d : Nat) : Bool :=
  let st := s.domState d
  (st = 1 || st = 2 || st = 5) && !s.core.blockReset && s.codeValid d (s.get (fDOM_VSET_CODE d)) && (s.tractsOf d).any fun t => !(s.healthyIn t).isEmpty

/-- A domain that a wake need not wait for: not commanded On, On, unused, or unable to start. -/
def State.settled (s : State) (d : Nat) : Bool :=
  (s.dom d).commanded ≠ 1 || s.domState d = 4 || s.domState d = 0 || (s.domState d ≤ 2 && !s.mayStart d)

/-- lclk starts: the Benchmark buffer, and that of the selected reference, are powered. -/
def State.adcStart (s : State) : State :=
  s.updAdc fun a => { a with bmAt := some s.now, altAt := if s.get fADC_CFG_REF = 0 then none else some s.now }

/-- lclk stops: sequences end, and the references are not ready. -/
def State.adcStop (s : State) : State :=
  let s1 := (s.putB fADC_STATE_BM_RDY false).putB fADC_STATE_ALT_RDY false
  let end_ (s : State) (k : Nat) : State :=
    let s1 := s.put ⟨ADC_SSTAT k, 0, 8⟩ 0
    s1.updConv k fun c => { c with dueAt := [], idueAt := [], aborted := false, regNext := false, flight := none }
  (end_ (end_ s1 0) 1).updAdc fun a => { a with bmAt := none, altAt := none, closA := none }

/-- At entry to Run, or when ENV_CTL.EN becomes 1, P_env is set to the first A computed after it (R267). -/
def State.envelopeRestart (s : State) : State := { s with env := { s.env with penv := none } }

/-- aon_state enters Run: the envelope starts anew, and an accepted VSEL value is applied (Table 6.2, R267, R322, R328). -/
def State.enterRun (s : State) : State := (s.setAon 0).envelopeRestart.offerVsel

/-- aon_state reads Run when every domain commanded On is On, after a wake from Sleep or Deep sleep (R306). -/
def State.checkRun (s : State) : State :=
  if s.pst.toRun && s.lclk && (upTo 32).all s.settled then
    { s.enterRun with pst := { s.pst with toRun := false, waking := false } }
  else s

/-- The clocks of Table 6.2 stop, the core's among them, and the commit window begins, with the STATE frame just before (R297
steps 3 to 5, R550); the IB stage leaves closed loop as lclk stops (R319), and the uncore of a Sleep goes to hysteretic pulse
skipping on its lowest-numbered healthy cells (R115, R293). -/
def State.stopClocks (s : State) : State :=
  let hyst (s : State) (d : Nat) : State :=
    if s.isOn d && s.pst.target = 2 && s.classOf d = 3 then
      (s.tractsOf d).foldl (fun s t =>
        ((((cellsIn t).foldl (fun s c =>
          if s.mode c = 6 then s else s.setMode c (if (s.healthyIn t).head? = some c then 5 else 0)) s).setPulse t false).judgePulse t).idleLoop t) s
    else s
  let s0 := s.originate 2 11 s.pst.target
  let s1 := (upTo 32).foldl hyst s0
  let s2 := if s1.ibMode = 3 then s1.ibHysteretic else s1
  { s2.adcStop with clk := { s2.clk with pll := false, fastOsc := false }, env := { s2.env with ests := [] }, pst := { s2.pst with stopAt := none, commitAt := some s.now } }

/-- A domain that the state being entered holds in Retention is On (Table 6.3). -/
def State.toRetain (s : State) (d : Nat) : Bool :=
  s.isOn d && (s.pst.target = 3 || (s.pst.target = 2 && s.classOf d ≠ 3))

/-- Once no domain moves any more and each is in its column of Table 6.3, an entry holds every pause for 8 gate_clk cycles and then stops the clocks; with gate_clk
stopped already it stops them at once (R53, R297). -/
def State.checkEntry (s : State) : State :=
  let moving : Bool := (upTo 32).any fun d => s.domState d = 3 || s.domState d = 5 || s.toRetain d
  if s.on fPST_STATE_ENTERING && s.pst.commitAt.isNone && s.pst.stopAt.isNone && !moving then
    if s.lclk then { s with pst := { s.pst with stopAt := some (s.now + 8) } } else s.stopClocks
  else s

/-- The state of a domain has changed: its lift is taken anew (R280), and a wake or an entry may go on. -/
def State.domMoved (s : State) (d : Nat) : State := ((s.relift d 0xFFFF 0).checkRun).checkEntry

/-- A domain switched off at once: every cell both off, Off, the commanded state kept (R145). -/
def State.dropDomain (s : State) (d : Nat) : State :=
  ((((s.cellsOff d).idleLoops d).setDom d 1 .rest).updDom d fun h => { h with loaded := [], waitFrom := none, stagesRun := 0 }).domMoved d

/-! ### Loss of cells (R138, R143-R145, R657) -/

/-- In Retention, and for the uncore in Sleep, the lowest-numbered healthy cell of a tract carries the rail (R115,
R282). -/
def State.reseat (s : State) (t : Nat) : State :=
  let d := s.domOf t
  let m := if s.domState d = 2 then 4 else if s.domState d = 4 && s.aon = 2 then 5 else 0
  if m = 0 then s
  else match (s.healthyIn t).head? with
    | none => s
    | some c => s.setMode c m

/-- What follows when cell `c` stops being healthy: its partners take its share at once, TRACT_LOST, or the domain switched
off (R143-R145). In a soft start only latches count (R657): what follows for a tract that R194 stops during one waits until
it completes (DESIGN CHOICE, notes/assumptions/95.md). -/
def State.afterCellLoss (s : State) (c : Nat) : State :=
  let t := c / 4
  let d := s.domOf t
  let soft := (s.dom d).phase.starting
  let live (t : Nat) : Bool := (cellsIn t).any fun k => if soft then s.alive k else s.healthy k
  if 32 ≤ d then s
  else if live t then
    ((if soft && (s.healthyIn t).isEmpty && s.stopped t then s.updTract t fun h => { h with lateLoss := true } else s).reseat t).reshare t
  else if (s.tractsOf d).any live then s.raise evCEL_TRACT_LOST c
  else ((s.dropDomain d).raise evCEL_TRACT_LOST c).raise evCEL_DOM_OFF c

/-- Soft start has completed: what R144 and R145 give for the tracts that R194 stopped during it. -/
def State.lateLosses (s : State) (d : Nat) : State :=
  let lost := (s.tractsOf d).filter fun t => (s.tract t).lateLoss && (s.healthyIn t).isEmpty
  let s1 := (s.tractsOf d).foldl (fun s t => s.updTract t fun h => { h with lateLoss := false }) s
  if lost.isEmpty then s1
  else
    let off : Bool := (s1.tractsOf d).all fun t => (s1.healthyIn t).isEmpty
    let s2 := lost.foldl (fun s t => s.raise evCEL_TRACT_LOST (4 * t)) (if off then s1.dropDomain d else s1)
    s2.raiseIf off evCEL_DOM_OFF (4 * leastOf 0 lost)

/-- A cell latched (R138, R141): `opened` tells the cause, R141 or a short. A latch by R141 sets OPEN alone, not LATCHED as well
(DESIGN CHOICE, notes/assumptions/120.md). -/
def State.latch (s : State) (c : Nat) (opened : Bool) : State :=
  let s1 := (s.put (fCEL_CSTAT_MODE c) 7).putB (fCEL_CSTAT_CAUSE c) opened
  let s2 := s1.setReg (CEL_FAILED (c / 32)) (s1.reg (CEL_FAILED (c / 32)) ||| BitVec.ofNat 32 (2 ^ (c % 32)))
  s2.raise (if opened then evCEL_OPEN else evCEL_LATCHED) c

end Sys2Proof.Machine
end

