-- ==== Sys2Proof/Machine/Drive.lean ====
section
/-!
DEFINITION. cel_drv (Table 1.2): what the block drives on the two switches of each cell phase at an instant, from the duty codes,
modes, limits and detectors that the state holds (R20, R86-R90, R95, R101, R102, R109, R112-R116, R127, R128, R287, R294).
-/

namespace Sys2Proof.Machine

/-- The phase's offset in its 8 ns period, ps (R87). -/
def State.phaseOffsetPs (s : State) (c ph : Nat) : Nat := (125 * s.get (fCEL_CFG_APPLIED c) + 4000 * ph) % 8000

/-- Where an edge lies: with lclk stopped the fast oscillator places edges at a resolution of 2.5 ns (R294); to which of two
neighbouring points is open (notes/assumptions/119.md). -/
def State.edgePs (s : State) (x : Int) : Int := if s.lclk then x else 2500 * divOpen 37 x 2500

/-- A switching period of a phase: its number in the frame in progress (-1 for the last of the frame before), its start and
its end, ps. -/
structure Period where
  no : Int
  start : Int
  stop : Int
  deriving DecidableEq, Repr

/-- The period of a phase in which an instant (ps) lies (R86, R87, R294). -/
def State.periodAt (s : State) (c ph at_ : Nat) : Period :=
  let f : Int := 1000 * s.loops.frameAt.getD 0
  let o : Int := s.phaseOffsetPs c ph
  let k := ((at_ : Int) - f - o) / 8000
  let e (j : Int) : Int := f + s.edgePs (o + 8000 * j)
  let j := if e (k + 1) ≤ at_ then k + 1 else if e k ≤ at_ then k else k - 1
  { no := j, start := e j, stop := e (j + 1) }

/-- The duty code D of a cell for a period that begins at an instant (ps): its tract's, with its sharing trim, less what the
current limit takes off (R89, R102, R106, R149). -/
def State.cellDuty (s : State) (c x : Nat) : Nat :=
  let h := s.cell c
  let p := asOf x h.was (h.trim, h.cut)
  natOf (clampI 0 4095 ((s.dutyAt (c / 4) x : Int) + p.1)) - p.2

/-- The high-side on-time of a cell's phases in ps: D / 4,096 x 8 ns, on the fast oscillator between edges of its own, or 1.0 ns in
hysteretic pulse skipping (R89, R115, R294; notes/assumptions/119.md). -/
def State.onTimePs (s : State) (c x : Nat) : Nat :=
  if s.mode c = 5 then 1000 else (s.edgePs (s.cellDuty c x * 8000 / 4096 : Nat)).toNat

/-- An on-time below 100 ps gives no high-side pulse (R89). -/
def State.longEnough (s : State) (c x : Nat) : Bool := s.mode c = 5 || decide (100 * 4096 ≤ s.cellDuty c x * 8000)

/-- The dead time in ps (R90). -/
def State.deadPs (s : State) : Nat := s.get fCEL_CTL_DEADTIME * 1953 / 1000

/-- A phase's low side is timed (R116). -/
def CellHid.timed (h : CellHid) (ph : Nat) : Bool := if ph = 0 then h.zcdTimed0 else h.zcdTimed1

/-- When the high side of a phase ends in its period, ps from the period's start: after its on-time, or as its current reaches
0.8 x I_lim (R101). -/
def State.highEnds (s : State) (c ph : Nat) (p : Period) : Nat :=
  let h := s.cell c
  min (s.onTimePs c p.start.toNat) ((if ph = 0 then h.reach0 else h.reach1).getD (p.no + 1).toNat 8000)

/-- The timed end of the low side of a phase with a stuck detector, ps after its high side turned off:
0.9 x t_on x (V_IB - V_out) / V_out by the latest readings (R116). V_out is the lowest reading of the cell's own usable stations, as in
R100 (DESIGN CHOICE, notes/assumptions/104.md). -/
def State.timedLowPs (s : State) (c on : Nat) : Nat :=
  let vib := s.ib.code16 * 2400000
  let vout := max 1 (s.ratioCode c * 1250 * 16384)
  9 * on * (vib - vout) / (10 * vout)

/-- A phase issues its pulse in a period (R89, R112, R115): by the latest sample at the period's start. -/
def State.issuesPulse (s : State) (c : Nat) (p : Period) : Bool :=
  let x := p.start.toNat
  let h := s.tract (c / 4)
  s.longEnough c x && (s.mode c ≤ 2 || asOf x h.pulseWas h.pulse)

/-- When the low side of a phase turns off in a period, ps: a dead time before the period's end, in diode emulation at its
zero-current detection or at its timed end if that comes first (R90, R109, R113, R116). -/
def State.lowEnds (s : State) (c ph : Nat) (p : Period) (on : Nat) : Int :=
  let m := s.mode c
  let h := s.cell c
  let last := p.stop - s.deadPs
  let zcd : Int := match (if ph = 0 then h.lowOff0 else h.lowOff1) with
    | none => last
    | some a => if p.start ≤ 1000 * a then min last (1000 * a : Nat) else last
  if m = 2 || m = 3 then last
  else if h.timed ph then min last (p.start + on + s.timedLowPs c on)
  else zcd

/-- Whether the low side of a phase is on at an instant of a period, `x` ps after its start, with a pulse of `on` ps where there is one:
complementary to the high side in continuous conduction and pulse skipping, until zero current in diode emulation (R90,
R109, R112-R116). In continuous conduction it stays on through a period whose on-time is below 100 ps, but for the dead
time before the next one (DESIGN CHOICE, notes/assumptions/104.md). -/
def State.lowOn (s : State) (c ph at_ : Nat) (p : Period) (x on : Nat) : Bool :=
  if s.issuesPulse c p then s.deadPs + on ≤ x && decide ((at_ : Int) < s.lowEnds c ph p on)
  else s.mode c = 2 && decide ((at_ : Int) < p.stop - s.deadPs)

/-- What a phase is driven with outside snaps: 0 both off, 1 low side on, 2 high side on. A phase that no header stage has
admitted stays both off (R287). -/
def State.loopDrv (s : State) (c ph at_ : Nat) : Nat :=
  let m := s.mode c
  let p := s.periodAt c ph at_
  let x := ((at_ : Int) - p.start).toNat
  let on := s.highEnds c ph p
  if s.loops.frameAt.isNone || m = 0 || 6 ≤ m || bitN (s.cell c).bars ph then 0
  else if s.issuesPulse c p && x < on then 2
  else if s.lowOn c ph at_ p x on then 1
  else 0

/-- When a phase that a snap finds at an instant (ns) turns its high side on, ps: at once, but a dead time after its low side has
turned off where that is on, or turned off within a dead time (R90, R127). -/
def State.snapStart (s : State) (c ph at_ : Nat) : Nat :=
  let x := 1000 * at_
  let dead := s.deadPs
  let p := s.periodAt c ph x
  let e := (s.lowEnds c ph p (s.highEnds c ph p)).toNat
  if s.loopDrv c ph x = 1 then x + dead
  else if e ≤ x && x < e + dead && s.loopDrv c ph (e - 1) = 1 then e + dead
  else x

/-- cel_drv[c][ph] at an instant in ps: 0 both off, 1 low side on, 2 high side on (Table 1.2). In a snap the high side of every
phase of a healthy cell conducts until its phase's end, in whatever mode the cell is; then both are off until the phase's next
period (R127, R128; notes/assumptions/104.md). -/
def State.celDrv (s : State) (c ph at_ : Nat) : Nat :=
  let h := s.tract (c / 4)
  let k := 2 * (c % 4) + ph
  let snapEnd := 1000 * h.snapEnds.getD k 0
  if s.healthy c && decide (1000 * (h.lockEnd - 16) ≤ at_ ∧ at_ < snapEnd) then (if at_ < h.snapFrom.getD k 0 then 0 else 2)
  else if s.healthy c && decide ((s.periodAt c ph at_).start < snapEnd) then 0
  else s.loopDrv c ph at_

end Sys2Proof.Machine
end

