-- ==== Sys2Proof/Machine/Cells.lean ====
section
/-!
DEFINITION. Level 1 (chapter 2): station samples and tract feedback, cell currents and limits, sharing, light load,
snap, shorts and hiccup.
-/

namespace Sys2Proof.Machine

/-! ### One frame (R86, R117-R124, R150, R576) -/

/-- Insertion into a rising list. -/
def insertNat (x : Nat) : List Nat → List Nat
  | [] => [x]
  | y :: l => if x ≤ y then x :: y :: l else y :: insertNat x l

/-- A rising list of the same figures. -/
def sortNat (l : List Nat) : List Nat := l.foldr insertNat []

/-- The median of R121: the lower of the two middle values where the number is even. -/
def lowerMedian (l : List Nat) : Nat := (sortNat l).getD ((l.length - 1) / 2) 0

/-- A station's sample (R117, R118). -/
def State.sampleStation (s : State) (n uv : Nat) : State :=
  let code := if uv < 300000 then 240 else if 1100000 < uv then 880 else (uv + 624) / 1250
  (s.setReg (STN_VAL n) (BitVec.ofNat 32 (b2n (decide (1100000 < uv)) * 2048 + b2n (decide (uv < 300000)) * 1024 + code))).updStn n
    fun h => { h with low := if uv < 300000 then (uv + 624) / 1250 else 0 }

/-- The threshold code of a tract's comparators. -/
def State.threshold (s : State) (t : Nat) : Nat := s.present t - s.get (fSTN_THR_THR t)

/-- The tract feedback of the sample, with the station that gives it, and the median (R120, R121, R576). -/
def State.feedback (s : State) (t : Nat) : Option (Nat × Nat × Nat) :=
  let ns := s.usableIn t
  match ns with
  | [] => none
  | _ =>
    let code (n : Nat) := s.get (fSTN_VAL_CODE n)
    let med := lowerMedian (ns.map code)
    let v := if s.present t + 40 < med then med else leastOf 0 (ns.map code)
    some (v, ((ns.find? fun n => code n = v).getD (16 * t)) % 16, med)

/-- The stations of a tract in a frame: feedback, the error against the present code of this instant (R180; DESIGN CHOICE,
notes/assumptions/121.md), median, and the counts of R122 and R133. `tripped` lists the stations
of the die whose comparators are tripped at the sample. -/
def State.frameStations (s : State) (tripped : List Nat) (t : Nat) : State :=
  let p := s.feedback t
  let v := (p.map fun x => x.1).getD 0
  let med := (p.map fun x => x.2.2).getD 0
  let s1 := s.setReg (STN_MIN t) (BitVec.ofNat 32 (v * 2 ^ 16 + (p.map fun x => x.2.1).getD 0))
  let s2 := s1.updTract t fun h => { h with med := med, ePrev := h.e0, e0 := (s.present t : Int) - v, samples := h.samples + 1 }
  let far (n : Nat) : Bool := s.usable n && 32 < distN (s.get (fSTN_VAL_CODE n)) med
  let s3 := ((upTo 16).map (16 * t + ·)).foldl (fun s n => s.updStn n fun h =>
    let tr := tripped.contains n
    { h with
      far := if far n then min 25000 (h.far + 1) else 0
      tripped := tr
      stuck := if tr && s.threshold t + 16 ≤ s.get (fSTN_VAL_CODE n) then min 32 (h.stuck + 1) else 0 }) s2
  if ((upTo 16).map (16 * t + ·)).any fun n => (s3.stn n).far = 25000 then s3
  else s3.updTract t fun h => { h with consensus := false }

/-- The candidates for the highest average of the last 1 ms, with a new one: later and larger ones push out others. -/
def pushMax (now : Nat) (i : Int) (q : List (Nat × Int)) : List (Nat × Int) :=
  (q.filter fun e => i < e.2 && now < e.1 + 1000000) ++ [(now, i)]

/-- Whether a phase whose highest current in a frame was `pk` mA met the peak termination of R101: 0.8 x I_lim. -/
def peakReached (l : Int × Int) (pk : Int) : Bool := decide (4 * l.1 ≤ 5 * pk * l.2)

/-- The conduction times at which peak termination falls in the periods of the frame that begins, behind that of the last period
before it; nothing is kept where there is none. -/
def nextReach (old new : List Nat) : List Nat :=
  let l := old.getD 5 8000 :: new.take 5
  if l.all (8000 ≤ ·) then [] else l

/-- What the sense ports of a cell show: by phase the average current of the frame before and whether its high-side conduction
ended at 0.8 x I_lim, and when it will in the frame that begins (R20, R101). -/
def State.framePhases (s : State) (isns : List Int) (peaks : PhasePeaks) (c : Nat) : State :=
  let l := s.ilim c
  s.updCell c fun h =>
    { h with
      isns0 := isns.getD (2 * c) 0
      isns1 := isns.getD (2 * c + 1) 0
      ended0 := peakReached l (peaks.highest.getD (2 * c) 0)
      ended1 := peakReached l (peaks.highest.getD (2 * c + 1) 0)
      reach0 := nextReach h.reach0 (peaks.reach.getD (2 * c) [])
      reach1 := nextReach h.reach1 (peaks.reach.getD (2 * c + 1) []) }

/-- What the current limit takes off a cell's duty code in the periods that follow a sample: more while the average is above
I_lim, and no more than before once it is not (R102). By how much is a free value (notes/assumptions/96.md). -/
def nextCut (l : Int × Int) (i : Int) (old : Nat) : Nat :=
  if l.1 < i * l.2 then min 4095 (old + 1 + Config.openNat 62 [i, old]) else min old (Config.openNat 63 [i, old])

/-- A cell's trim and cut; a change applies from the next period on, so the ones before are kept (R89, R102, R106). -/
def CellHid.setDrive (h : CellHid) (now : Nat) (trim : Int) (cut : Nat) : CellHid :=
  if h.trim = trim && h.cut = cut then h else { h with trim := trim, cut := cut, was := keepWas now (h.trim, h.cut) h.was }

/-- A cell in a frame: `i` its average current of the frame before (mA); whether it is at its limit (R103), its
figures, the limit's hold on its duty (R102), and the count of condition B. -/
def State.frameCell (s : State) (i : Int) (c : Nat) : State :=
  let l := s.ilim c
  let atLimit : Bool := (s.cell c).ended0 || (s.cell c).ended1 || decide (l.1 - 100 * l.2 ≤ i * l.2)
  let low : Bool := 5 * s.ratioCode c < 4 * s.get (fCEL_CSTAT_TARGET c)
  let h := s.cell c
  let last := (i :: h.i1us).take 25
  let q := pushMax s.now i h.maxq
  let cnt := if atLimit && low && s.healthy c && s.mode c ≠ 0 then min 250 (h.condCnt + 1) else 0
  let s1 := (s.putB (fCEL_CSTAT_LIMIT c) atLimit).putI (fCEL_MEAS_IAVG c) (divOpen 4 (last.foldl (· + ·) 0) (10 * last.length))
  let s2 := s1.putI (fCEL_MEAS_IMAX c) (divOpen 5 ((q.head?.map fun e => e.2).getD i) 10)
  let works : Bool := 1 ≤ s.mode c && s.mode c ≤ 5
  s2.updCell c fun h =>
    { h.setDrive s.now h.trim (nextCut l i h.cut) with
      i1us := last
      maxq := q
      condCnt := cnt
      iSum := h.iSum + i
      iCnt := h.iCnt + 1
      idleWin := h.idleWin || !s.healthy c || h.target = 0
      okFrames := if works then min 2500000 (h.okFrames + 1) else h.okFrames }

/-- The mode that a tract's load and class call for (R96, R109): continuous, or its light-load mode. -/
def State.loadMode (s : State) (t : Nat) : Nat :=
  if !(s.tract t).light then 2 else if s.classOf (s.domOf t) = 1 then 4 else 3

/-- The cells of a tract that run in its load mode take it. -/
def State.applyLoadMode (s : State) (t : Nat) : State :=
  (cellsIn t).foldl (fun s c => if 2 ≤ s.mode c && s.mode c ≤ 4 && !(s.cell c).rejoin then s.setMode c (s.loadMode t) else s) s

/-- The sum of the newest `n` tract currents, 0.1 A. -/
def sumLast (l : List Int) (n : Nat) : Int := (l.take n).foldl (· + ·) 0

/-- A tract that R114 keeps in diode emulation: its domain is in Retention (R282, R294), or the block in Deep sleep. -/
def State.heldLight (s : State) (t : Nat) : Bool := s.domState (s.domOf t) = 2 || s.aon = 3

/-- Light load of a tract (R110-R112, R114, R115): entry by the 1 us average, exit by the 200 ns average, and whether
its phases issue pulses by the new sample. -/
def State.frameLight (s : State) (t : Nat) : State :=
  let h := s.tract t
  let n := (s.healthyIn t).length
  let d := s.domOf t
  let enter : Bool := 25 ≤ h.iHist.length && decide (sumLast h.iHist 25 * 10 < 25 * s.get fCEL_LL_ENTRY * n)
  let leave : Bool := 5 ≤ h.iHist.length && decide (5 * s.get fCEL_LL_EXIT * n < sumLast h.iHist 5 * 10)
  let light := s.heldLight t || (if h.light then !leave else enter && (s.dom d).ccm.isEmpty)
  let s1 := s.updTract t fun h => { h with light := light }
  (if s.isOn d then s1.applyLoadMode t else s1).judgePulse t

/-- A cell that rejoined by pre-biased start takes its normal mode once its current reaches its share target (R137). -/
def State.frameRejoin (s : State) (c : Nat) (i : Int) : State :=
  if (s.cell c).rejoin && s.mode c = 4 && (s.cell c).target ≤ i then
    (s.updCell c fun h => { h with rejoin := false }).setMode c (s.loadMode (c / 4))
  else s

/-- The currents of a tract in a frame: I[n] of R150, the 10 us sum of R438, and the windows of the averages. -/
def State.frameTract (s : State) (cells : List Int) (t : Nat) : State :=
  let mA := (cells.getD (4 * t) 0) + (cells.getD (4 * t + 1) 0) + (cells.getD (4 * t + 2) 0) + (cells.getD (4 * t + 3) 0)
  let i := (mA + 50) / 100
  let s1 := (s.putI (fTRC_IMEAS_I t) i).updTract t fun h =>
    { h with iHist := (i :: h.iHist).take 25, derSum := h.derSum + i, derCnt := h.derCnt + 1,
             snaps := h.snaps.filter fun a => s.now ≤ a + 100000,
             storm := h.storm && decide (256 < (h.snaps.filter fun a => s.now ≤ a + 100000).length) }
  s1.frameLight t

/-- The watch on a Retention rail: since when the feedback of a tract has lain more than 32 codes low (R284). -/
def State.frameRetention (s : State) (d : Nat) : State :=
  let low : Bool := s.domState d = 2 && (s.tractsOf d).any fun t => s.get (fSTN_MIN_CODE t) + 32 < s.get (fDOM_CFG_RET d)
  s.updDom d fun h => { h with lowFrom := if low then some (h.lowFrom.getD s.now) else none, lowOn := h.lowOn && low }

/-- Voltage x current of a tract in a frame, in 1.25 mV x 0.1 A (R408, R451). -/
def State.frameVI (s : State) (t : Nat) : Int := (s.tract t).med * s.getI (fTRC_IMEAS_I t)

/-- The mapped tracts. -/
def State.mapped (s : State) : List Nat := (upTo 64).filter fun t => s.domOf t < 32

/-- The class sums and the die sums of the Tally's checks (R408, R410). -/
def State.frameCap (s : State) : State :=
  let c := s.cap
  let cls := (upTo 4).foldl (fun tb k =>
    let x := sumOverI (s.mapped.filter fun t => s.classOf (s.domOf t) = k) s.frameVI
    let o : ClassHid := tblGet (fun _ => {}) tb k
    tblSet (fun _ => {}) tb k { o with vi := o.vi + x }) c.classes
  { s with cap := { c with classes := cls, viCnt := c.viCnt + 1, viDie := c.viDie + sumOverI s.mapped s.frameVI, viDieCnt := c.viDieCnt + 1 } }

/-- The lowest reading of a domain in a frame, with the lowest-numbered station that has it (R463). -/
def State.frameLow (s : State) (d : Nat) : Option (Nat × Nat) :=
  ((s.tractsOf d).flatMap s.usableIn).foldl (fun (o : Option (Nat × Nat)) n =>
    let v := s.get (fSTN_VAL_CODE n)
    match o with
    | none => some (v, n)
    | some m => if v < m.1 then some (v, n) else some m) none

/-- A domain in a frame: its current and, where it is watched and On, its lowest reading (R461, R463). -/
def State.frameDom (s : State) (d : Nat) (x : DomMs) : DomMs :=
  let i := sumOverI (s.tractsOf d) fun t => s.getI (fTRC_IMEAS_I t)
  let low := if s.isOn d && s.nrg.watch.any fun w => w.2 = d then
      match s.frameLow d, x.low with
      | some v, none => some (v.1, v.2, s.ts.toNat)
      | some v, some o => if v.1 < o.1 then some (v.1, v.2, s.ts.toNat) else some o
      | none, o => o
    else x.low
  { sum := x.sum + i, max := some (match x.max with | none => i | some m => max m i), low := low }

/-- A cell in a frame of the settlement monitor: `i` its average current in mA (R464, R465). -/
def State.frameSettle (s : State) (i : Int) (c : Nat) (x : SettleHid) : SettleHid :=
  let ns := ((upTo 4).map (4 * c + ·)).filter s.usable
  if ns.isEmpty || !s.healthy c || s.mode c ≠ 2 then { x with bad := true }
  else
    let y : Int := (12 * sumOver ns (fun n => s.get (fSTN_VAL_CODE n)) / ns.length : Nat)
    { x with n := x.n + 1, sx := x.sx + i, sy := x.sy + y, sxy := x.sxy + i * y, sxx := x.sxx + i * i,
             lo := if x.n = 0 then i else min x.lo i, hi := if x.n = 0 then i else max x.hi i }

/-- The sums of the telemetry millisecond (R449-R465). -/
def State.frameEnergy (s : State) (cells : List Int) : State :=
  let h := s.nrg
  let doms := (upTo 32).foldl (fun tb d =>
    if (s.tractsOf d).isEmpty then tb else tblSet (fun _ => {}) tb d (s.frameDom d (tblGet (fun _ => {}) tb d))) h.doms
  let cs := (upTo 256).foldl (fun tb c => tblSet (fun _ => {}) tb c (s.frameSettle (cells.getD c 0) c (tblGet (fun _ => {}) tb c))) h.cells
  { s with nrg := { h with vi := h.vi + sumOverI s.mapped s.frameVI, frames := h.frames + 1, doms := doms, cells := cs } }

/-- The currents of the 256 cells, each the sum of its two phases. -/
def cellSums (isns : List Int) : List Int := (upTo 256).map fun c => isns.getD (2 * c) 0 + isns.getD (2 * c + 1) 0

/-- The stations of a tract sample: in every frame, in Deep sleep one of every 25, but for a tract that a wake has taken out of
Retention (R294, Table 6.2); which of the 25 is the model's choice (notes/assumptions/98.md). -/
def State.samplesNow (s : State) (t : Nat) : Bool :=
  s.aon ≠ 3 || s.loops.frame % 25 = 0 || (s.lclk && s.domState (s.domOf t) ≠ 2)

/-- FRAME_START: every station is sampled, feedback and median are formed, and the currents of the frame before are
taken. `uv` holds 1,024 rail voltages, `isns` 512 average phase currents in mA, `peaks` the peaks of each phase, `tripped` the stations
whose comparators are tripped. -/
def execFrameStart (uv : List Nat) (isns : List Int) (peaks : PhasePeaks) (tripped : List Nat) (s : State) : Host.Outcome State Fault Refusal :=
  let due : Bool := match s.loops.frameAt with
    | none => true
    | some t => t + 40 ≤ s.now
  let cells := cellSums isns
  .next (if (s.lclk || s.aon = 2 || s.aon = 3) && due then
      let s0 := { s with loops := { s.loops with frame := s.loops.frame + 1, frameAt := some s.now } }
      let s1 := forEach (upTo 256) (fun c s => s.framePhases isns peaks c) s0
      let ts := (upTo 64).filter s1.samplesNow
      let ns := ts.flatMap fun t => (upTo 16).map (16 * t + ·)
      let s2 := forEach ts (fun t s => s.frameStations tripped t) (forEach ns (fun n s => s.sampleStation n (uv.getD n 0)) s1)
      let s3 := forEach (upTo 256) (fun c s => s.frameCell (cells.getD c 0) c) s2
      let s4 := forEach (upTo 64) (fun t s => s.frameTract cells t) s3
      let s5 := forEach (upTo 256) (fun c s => s.frameRejoin c (cells.getD c 0)) s4
      let s6 := forEach (upTo 32) (fun d s => s.frameRetention d) s5
      if s.lclk then (s6.frameCap).frameEnergy cells else s6
    else s)

/-! ### Suspect stations (R122-R125) -/

/-- DATA of a station event: the station's code and the tract median (Table 13.2). -/
def State.stnData (s : State) (code t : Nat) : Nat := code * 2 ^ 16 + (s.tract t).med

/-- The qualifying station farthest from the median, the lowest-numbered among equals (R123). -/
def State.farthest (s : State) (t : Nat) : Option Nat :=
  let dist (n : Nat) := distN (s.get (fSTN_VAL_CODE n)) (s.tract t).med
  ((s.usableIn t).filter fun n => (s.stn n).far = 25000).foldl
    (fun o n => match o with
      | none => some n
      | some m => if dist m < dist n then some n else some m) none

/-- STATION_SUSPECT: the farthest qualifying station is marked, at most one of a tract in one sample (R123), or CONSENSUS
begins where fewer than 4 would be left. CONSENSUS is an event of a tract: the station code in its DATA is that of STN_MIN
(DESIGN CHOICE, notes/assumptions/99.md). -/
def execStationSuspect (t : Fin 64) (s : State) : Host.Outcome State Fault Refusal :=
  .next (match s.farthest t with
    | none => s
    | some n =>
      let code := s.get (fSTN_VAL_CODE n)
      if (s.usableIn t).length ≤ 4 then
        if (s.tract t).consensus then s
        else (s.updTract t fun h => { h with consensus := true }).raiseD evSTN_CONSENSUS t (s.stnData (s.get (fSTN_MIN_CODE t)) t)
      else if (s.tract t).marked = (s.tract t).samples then s
      else
        let s1 := (s.put (fSTN_SUSP_SUSP t) (setBitN (s.get (fSTN_SUSP_SUSP t)) (n % 16) true)).markSet (STN_SUSP t) (BitVec.ofNat 32 (2 ^ (n % 16)))
        let s2 := (s1.updStn n fun h => { h with far := 0 }).updTract t fun h => { h with consensus := false, marked := h.samples }
        s2.raiseD evSTN_SUSPECT n (s.stnData code t))

/-- A write of 1 to bits of STN_SUSP: the stations rejoin and their comparators are re-armed (R125, R133). Written for a
station that is not suspect, it restarts that station's count of R122 too (DESIGN CHOICE, notes/assumptions/99.md). -/
def State.clearSuspects (s : State) (t m : Nat) : State :=
  let s1 := s.put (fSTN_SUSP_SUSP t) (s.get (fSTN_SUSP_SUSP t) &&& (65535 - m % 65536))
  (upTo 16).foldl (fun s k => if bitN m k then s.updStn (16 * t + k) fun h => { h with far := 0, disarmed := false, stuck := 0 } else s) s1

/-- CMP_STUCK: a comparator stuck tripped for 32 samples is disarmed (R133). -/
def execCmpStuck (stn : Fin 1024) (s : State) : Host.Outcome State Fault Refusal :=
  .next (if (s.stn stn).stuck = 32 && !(s.stn stn).disarmed then
      (s.updStn stn fun h => { h with disarmed := true }).raiseD evSTN_CMP_STUCK stn (s.stnData (s.get (fSTN_VAL_CODE stn)) (stn / 16))
    else s)

/-! ### Snap (R126-R132) -/

/-- An armed comparator (R126). -/
def State.armed (s : State) (n : Nat) : Bool :=
  s.usable n && !(s.stn n).disarmed && s.isOn (s.domOf (n / 16))

/-- The tract snaps: 8 ns of forced conduction of every phase from the trip on, a dead time kept (R90), or less where the phase's current reaches 0.8 x I_lim
after `reach` ns (R101, R128; phases in the order cell, phase), then 8 ns of lockout; its pause rises and its light load ends.
SNAP_STORM is an event of a tract: the station code in its DATA is that of STN_MIN (DESIGN CHOICE, notes/assumptions/99.md). -/
def State.snap (s : State) (t : Nat) (reach : List Nat) : State :=
  let s1 := (s.addSat (fSTN_SNAP_CNT_COUNT t) 1).updTract t fun h =>
    { h with snapFrom := (upTo 8).map fun k => s.snapStart (4 * t + k / 2) (k % 2) s.now
             snapEnds := (upTo 8).map fun k => s.now + min 8 (reach.getD k 8), lockEnd := s.now + 16, snapPause := some (s.now + 17),
             snaps := s.now :: h.snaps.filter fun a => s.now ≤ a + 100000,
             light := h.light && s.heldLight t }
  let s2 := (if s.isOn (s.domOf t) then s1.applyLoadMode t else s1).judgePulse t
  if 256 < (s2.tract t).snaps.length && !(s2.tract t).storm then
    (s2.updTract t fun h => { h with storm := true }).raiseD evSTN_SNAP_STORM t (s2.stnData (s.get (fSTN_MIN_CODE t)) t)
  else s2

/-- SNAP: an armed comparator trips while its tract is neither in a snap nor in its lockout (R127). Snap does not act on a
stopped tract (R658). -/
def execSnap (trip : Trip) (s : State) : Host.Outcome State Fault Refusal :=
  let t := trip.stn.val / 16
  let s1 := s.updStn trip.stn fun h => { h with tripped := true }
  .next (if s.armed trip.stn && (s.tract t).lockEnd ≤ s.now && !s.stopped t then s1.snap t trip.reach else s1)

/-- SNAP_LOCKOUT_END: the tract snaps again if a comparator is still tripped (R129). -/
def execSnapLockoutEnd (t : Fin 64) (m : Retrip) (s : State) : Host.Outcome State Fault Refusal :=
  let s1 := (upTo 16).foldl (fun s k => s.updStn (16 * t + k) fun h => { h with tripped := bitN m.tripped.toNat k }) s
  let again := (upTo 16).any fun k => bitN m.tripped.toNat k && s.armed (16 * t + k)
  .next (if 0 < (s.tract t).lockEnd && (s.tract t).lockEnd ≤ s.now && (s.tract t).snapPause.isSome then
      (if again && !s.stopped t then s1.snap t m.reach else s1)
    else s)

/-- SNAP_PAUSE_END: the snap pause falls 16 cycles after the edge that followed the latest snap start (R130). -/
def execSnapPauseEnd (t : Fin 64) (s : State) : Host.Outcome State Fault Refusal :=
  .next (match (s.tract t).snapPause with
    | none => s
    | some e => if e ≤ s.now then s.updTract t fun h => { h with snapPause := none } else s)

/-! ### Current sharing (R104-R108, R141) -/

/-- The duty trim of a cell after an update: it moves the cell's current toward its share target (R106); by how much is a free
value (notes/assumptions/96.md). -/
def nextTrim (target avg trim : Int) : Int :=
  let x : Int := Config.openNat 61 [target, avg, trim]
  clampI (-4095) 4095 (if avg < target then trim + x else if target < avg then trim - x else trim)

/-- SHARE_UPDATE for one tract: shares from its current, the duty trims, and the figures of R108 and R141. The current of the
tract is the sum of its cells' averages since the latest update, each rounded down to 1 mA, and R141 compares with the target
that this update sets, in a window through all of which the cell had a target (DESIGN CHOICE, notes/assumptions/94.md). -/
def State.shareTract (s : State) (t : Nat) : State :=
  let avg (c : Nat) : Int := let h := s.cell c; if h.iCnt = 0 then 0 else h.iSum / h.iCnt
  let s1 := s.setShares t (sumOverI (cellsIn t) avg)
  let one (s : State) (c : Nat) : State :=
    let ok : Bool := s.healthy c
    let sat : Bool := ok && (s.cell c).shed = s.get fCEL_SHARE_CFG_MAXSHED * 3072
    s.updCell c fun h =>
      { h.setDrive s.now (if ok then nextTrim h.target (avg c) h.trim else 0) h.cut with
               idleWin := false
               openCond := ok && !h.idleWin && s.mode c ≠ 0 && decide (1000 ≤ h.target) && 0 < h.iCnt && decide (10 * h.iSum < h.target * h.iCnt)
               satSince := if sat then (match h.satSince with | none => some s.now | some a => some a) else none
               satOn := h.satOn && sat
               iSum := 0
               iCnt := 0 }
  (cellsIn t).foldl one s1

/-- SHARE_UPDATE: every 100 us the shed fractions and share targets are set (R105-R107). -/
def execShareUpdate (s : State) : Host.Outcome State Fault Refusal :=
  .next (forEach (upTo 64) (fun t s => s.shareTract t) s)

/-- SHARE_SAT: a shed fraction at MAXSHED for 10 ms (R108); a new event only after it has fallen below (R656). -/
def execShareSat (c : Fin 256) (s : State) : Host.Outcome State Fault Refusal :=
  .next (match (s.cell c).satSince with
    | none => s
    | some a =>
      if a + 10000000 ≤ s.now && !(s.cell c).satOn then
        (s.updCell c fun h => { h with satOn := true }).raise evCEL_SHARE_SAT c
      else s)

/-! ### Zero-current detectors (R113, R116) -/

/-- ZCD_RISE: the low side of a phase in diode emulation turns off for the rest of its period (R109, R113); one whose low side
is timed no longer follows its detector (R116). -/
def execZcdRise (c : Fin 256) (ph : Fin 2) (s : State) : Host.Outcome State Fault Refusal :=
  .next (if (s.mode c = 1 || s.mode c = 4 || s.mode c = 5) && !(s.cell c).timed ph then
      s.updCell c fun h => if ph.val = 0 then { h with lowOff0 := some s.now } else { h with lowOff1 := some s.now }
    else s)

/-- A detector is stuck: at or below 0 A at every end of the low side, or high at every start of it above 0.1 A (R116). -/
def zcdStuckBy (per : List (Int × Bool × Int)) : Bool :=
  let l := per.take 16
  l.length = 16 && (l.all (fun x => x.1 ≤ 0) || l.all fun x => x.2.1 && 100 < x.2.2)

/-- ZCD_STUCK: in the latest 16 periods a phase read at or below 0 A at every end of its low side, or showed its
detector high at every start of it above 0.1 A; the low side is timed from now on (R116). -/
def execZcdStuck (c : Fin 256) (z : ZcdPeriods) (s : State) : Host.Outcome State Fault Refusal :=
  .next (if zcdStuckBy z.per && !(s.cell c).timed z.ph then
      (s.updCell c fun h => if z.ph.val = 0 then { h with zcdTimed0 := true } else { h with zcdTimed1 := true }).raise evCEL_ZCD c
    else s)

/-! ### Shorts, hiccup and retries (R135-R141) -/

/-- Every enabled cell of a domain that is not latched waits in hiccup for 1 ms; the domain then retries. Its 100 ms of R139
begin anew. -/
def State.hiccupDomain (s : State) (d : Nat) (fresh : Bool) : State :=
  let s1 := (s.cellsOf d).foldl (fun s c =>
    (if s.alive c then s.setMode c 6 else s).updCell c fun h => { h with condCnt := 0, hiccupDue := none, okFrames := 0 }) s
  s1.updDom d fun h => { h with phase := .hiccup, delayDue := s.now + 1000000, fresh := fresh }

/-- An attempt of soft start ended by cell `c` (R135, R138): hiccup, or after the third retry the latch of every cell
(condition A) or of those that met condition B; the remaining cells begin anew with a retry count of 0, a latched one keeps
its count (R138; DESIGN CHOICE, notes/assumptions/120.md). -/
def State.failAttempt (s : State) (d c : Nat) (byA : Bool) : State :=
  let met := (s.cellsOf d).filter fun k => s.alive k && (byA || (s.cell k).condCnt = 250)
  let last : Bool := 3 ≤ s.get (fCEL_CSTAT_RETRY c)
  let s1 := (s.hiccupDomain d false).raise evCEL_SHORT_SS c
  if !last then s1
  else
    let s2 := met.foldl (fun s k => (s.latch k false).afterCellLoss k) s1
    if (s2.cellsOf d).any s2.alive then
      ((s2.cellsOf d).foldl (fun s k => if s.alive k then s.put (fCEL_CSTAT_RETRY k) 0 else s) s2).updDom d fun h => { h with fresh := true }
    else s2

/-- The cell that stands for a tract in an event of condition A: its lowest-numbered enabled cell that is not latched (DESIGN
CHOICE, notes/assumptions/100.md). -/
def State.leadCell (s : State) (t : Nat) : Nat := ((cellsIn t).find? s.alive).getD (4 * t)

/-- SHORT_COND_A: at 1.5 ramp times a tract's feedback is below 0.20 of the target, a feedback under range counting as what its
stations read (R135; DEDUCED, notes/assumptions/118.md); the lowest-numbered such tract stands in the event. -/
def execShortCondA (d : Fin 32) (s : State) : Host.Outcome State Fault Refusal :=
  let h := s.dom d
  let bad := (s.tractsOf d).find? fun t =>
    let tgt := s.get (fCEL_CSTAT_TARGET (4 * t))
    decide (3 * (tgt - (s.cell (4 * t)).rampFrom) * 1250000 ≤ 2 * (s.now - h.rampAt) * h.rate)
      && decide (5 * s.fedBack t < tgt)
  .next (match bad with
    | none => s
    | some t => if h.phase = .startRamp then s.failAttempt d (s.leadCell t) true else s)

/-- SHORT_COND_B: a cell has been at its limit with r below 0.80 for 250 samples (R135, R136): in soft start its domain's
attempt ends; once soft start has completed it alone goes to hiccup; before the one and the other nothing is evaluated. -/
def execShortCondB (c : Fin 256) (s : State) : Host.Outcome State Fault Refusal :=
  let d := s.domOf (c / 4)
  .next (if (s.cell c).condCnt < 250 || !s.healthy c then s
    else if (s.dom d).phase.starting then s.failAttempt d c false
    else if !s.on (fCEL_CSTAT_SS_DONE c) then s
    else
      let last : Bool := 3 ≤ s.get (fCEL_CSTAT_RETRY c)
      let s1 := (s.setMode c 6).updCell c fun h => { h with condCnt := 0, hiccupDue := some (s.now + 1000000), rejoin := false, okFrames := 0 }
      let s2 := s1.raise evCEL_SHORT_RUN c
      (if last then (s2.updCell c fun h => { h with hiccupDue := none }).latch c false else s2).afterCellLoss c)

/-- The delay of soft start begins for a domain: its cells in soft start, but for one that waits in a hiccup of its own (R94,
R95, R137). -/
def State.beginDelay (s : State) (d : Nat) : State :=
  let s1 := (s.cellsOf d).foldl (fun s c =>
    if s.alive c && (s.cell c).hiccupDue.isNone then
      ((s.setMode c 1).putB (fCEL_CSTAT_SS_DONE c) false).updCell c fun h => { h with rejoin := false, bars := 0 }
    else s) s
  s1.updDom d fun h => { h with phase := .startDelay, delayDue := s.now + 1000 * s.get (fCEL_DSTART_DELAY d) }

/-- A cell of a domain finds its rail live and run by all cells: the domain is On, but not carried by one cell in Sleep (R115), or on
its way off, or has left Retention and the header stages have passed the cell's slots (R137, R287). -/
def State.railLive (s : State) (c : Nat) : Bool :=
  let d := s.domOf (c / 4)
  let h := s.dom d
  (s.isOn d && (s.lclk || !s.asleep)) || h.phase = .slewRet || h.phase = .stopDelay || h.phase = .stopRamp || h.phase = .slewUp
    || (h.phase = .stagesRet && decide (c % 4 + 4 < h.stagesRun))

/-- A cell joins its rail: by pre-biased start where that is live, with its share target set at once (R137); in diode
emulation with the others where the domain is in soft start (R95); else it stays off, in Sleep until the wake. A cell that may not
be driven stays off (R194, R199). -/
def State.prebias (s : State) (c : Nat) : State :=
  let d := s.domOf (c / 4)
  if s.railLive c then
    ((s.setMode c 4).updCell c fun h => { h with rejoin := s.drivable c, bars := 0 }).reshare (c / 4)
  else if (s.dom d).phase = .startDelay || (s.dom d).phase = .startRamp then s.setMode c 1
  else if s.isOn d then (s.setMode c 0).updCell c fun h => { h with rejoin := s.drivable c }
  else s.setMode c 0

/-- HICCUP_END: after 1 ms a domain retries its soft start, or a cell rejoins by pre-biased start (R137). -/
def execHiccupEnd (c : Fin 256) (s : State) : Host.Outcome State Fault Refusal :=
  let d := s.domOf (c / 4)
  let h := s.dom d
  .next (if d < 32 && h.phase = .hiccup then
      if h.delayDue ≤ s.now then
        let s1 := if h.fresh then s else (s.cellsOf d).foldl (fun s k => if s.alive k then s.addSat (fCEL_CSTAT_RETRY k) 1 else s) s
        (s1.updDom d fun h => { h with fresh := false }).beginDelay d
      else s
    else match (s.cell c).hiccupDue with
      | none => s
      | some e =>
        if e ≤ s.now && s.mode c = 6 then
          let s1 := (s.addSat (fCEL_CSTAT_RETRY c) 1).updCell c fun h => { h with hiccupDue := none, okFrames := 0, condCnt := 0 }
          s1.prebias c
        else s)

/-- RETRY_COUNT_RESET: 100 ms of operation, in frames of 40 ns, without a short condition (R139). -/
def execRetryCountReset (c : Fin 256) (s : State) : Host.Outcome State Fault Refusal :=
  .next (if s.healthy c && s.mode c ≠ 0 && 2500000 ≤ (s.cell c).okFrames && (s.cell c).condCnt < 250 then
      s.put (fCEL_CSTAT_RETRY c) 0
    else s)

/-- CELL_OPEN: a cell that delivers under 10 % of its share target over 100 us is latched at once (R141). -/
def execCellOpen (c : Fin 256) (s : State) : Host.Outcome State Fault Refusal :=
  .next (if (s.cell c).openCond && s.healthy c then
      ((s.updCell c fun h => { h with openCond := false }).latch c true).afterCellLoss c
    else s)

/-- A latched cell readmitted (Ibsel READMIT_CELL): the latch and the retry count clear, and it rejoins by pre-biased
start (Table 14.6, R140, R145). -/
def State.readmit (s : State) (c : Nat) : State :=
  let s1 := ((s.put (fCEL_CSTAT_MODE c) 0).put (fCEL_CSTAT_RETRY c) 0).putB (fCEL_CSTAT_CAUSE c) false
  let s2 := s1.setReg (CEL_FAILED (c / 32)) (s1.reg (CEL_FAILED (c / 32)) &&& ~~~(BitVec.ofNat 32 (2 ^ (c % 32))))
  s2.prebias c

/-- PHASE_OFFSET_STEP: every 1 us APPLIED moves one step toward the written OFFSET, the shorter way round (R88). -/
def execPhaseOffsetStep (c : Fin 256) (s : State) : Host.Outcome State Fault Refusal :=
  let a := s.get (fCEL_CFG_APPLIED c)
  let up := (s.get (fCEL_CFG_OFFSET c) + 64 - a) % 64
  .next (if up = 0 then s else s.put (fCEL_CFG_APPLIED c) (if up ≤ 32 then (a + 1) % 64 else (a + 63) % 64))

end Sys2Proof.Machine
end

