-- ==== Sys2Proof/Machine/Tracts.lean ====
section
/-!
DEFINITION. Level 2 (chapter 3): the arithmetic of a tract-sample, open-hold and coefficient change, set switches, late
samples, and engine failover.
-/

namespace Sys2Proof.Machine

/-! ### Loop arithmetic (R155-R165) -/

/-- Saturation to 48 bits (Table 3.2). -/
def sat48 (x : Int) : Int := clampI (-(2 ^ 47)) (2 ^ 47 - 1) x

/-- Saturation to 24 bits (R158). -/
def sat24 (x : Int) : Int := clampI (-(2 ^ 23)) (2 ^ 23 - 1) x

/-- A value reduced by `n` fractional bits, rounded half upward (R158). -/
def reduce (n : Nat) (x : Int) : Int := (x + 2 ^ (n - 1)) / 2 ^ n

/-- The address in COEF memory of word `j` of a set of a tract: the layout of the coefficient window. -/
def coefAddr (t set j : Nat) : Nat := 64 * t + 32 * set + 4 * j

/-- A word of a coefficient set. -/
def State.coefWord (s : State) (t set j : Nat) : Word := BitVec.ofNat 32 (memLE s.coef (coefAddr t set j) 4)

/-- A coefficient as stored, Q4.16 (Table 3.7). -/
def State.coefVal (s : State) (t set j : Nat) : Int := signed 20 (s.coefWord t set j).toNat

/-- The accumulator of the voltage loop (Table 3.2): saturation after every addition. -/
def accumulate (bs as es us : List Int) (ff : Int) : Int :=
  let terms := (List.zipWith (fun b e => b * e * 2 ^ 12) bs es) ++ (List.zipWith (fun a u => -(a * u)) as us)
  sat48 (terms.foldl (fun acc x => sat48 (acc + x)) 0 + ff * 2 ^ 16)

/-- The cadastre's maximum duty code. -/
def State.dmax (s : State) : Int := s.get fCAD_TRC_DMAX

/-- I_lim,eff of a tract, 0.1 A (R163). -/
def State.ilimEff (s : State) (t : Nat) : Int :=
  min (s.get (fTRC_LIM_ILIM t) : Nat) (min (s.get fCAD_TRC_ITRACT) (s.peakRating t))

/-- k and V_IB,code for a slot: an update applies from the first slot that begins after it (R160). -/
def State.normFor (s : State) (slot : Nat) : Nat × Nat :=
  if s.loops.normAt < slot || s.loops.normAt = 0 then (s.get fTRC_NORM_K, s.get fTRC_NORM_VIB) else s.loops.normPrev

/-- What one tract-sample computes: the three loop outputs, the winner (0 voltage, 1 current limit, 2 IB share), the
winning output, the duty code and whether it was clamped (R155-R166). -/
structure LoopOut where
  u : Int
  win : Nat
  out : Int
  duty : Int
  clamped : Bool
  deriving DecidableEq, Repr

/-- One tract-sample of tract `t` on set `set` with error `e`, current `i`, feed-forward `ff`, and k with V_IB,code in force. -/
def State.loopSample (s : State) (t set : Nat) (e i ff : Int) (norm : Nat × Nat) : LoopOut :=
  let h := s.tract t
  let three : Bool := (s.coefWord t set 0).toNat % 2 = 1
  let c (j : Nat) := s.coefVal t set j
  let u1 := s.getI (fTRC_UOUT_U1 t)
  let bs := [c 1, c 2, c 3] ++ if three then [c 4] else []
  let as := [c 5, c 6] ++ if three then [c 7] else []
  let u := sat24 (reduce 16 (accumulate bs as [e, h.e1, h.e2, h.e3] [u1, h.u2, h.u3] ff))
  let cl := sat24 (h.w + reduce 8 ((s.get (fTRC_LIM_KC t) : Int) * (s.ilimEff t - i)))
  let sl := sat24 (h.w + reduce 8 ((s.get fTRC_IBS_KS : Int) * ((norm.2 : Int) - s.get fTRC_IBS_FLOOR)))
  let out := min u (min cl sl)
  let win := if out = u then 0 else if out = cl then 1 else 2
  let d := reduce 14 (out * norm.1)
  { u := u, win := win, out := out, duty := clampI 0 s.dmax d, clamped := decide (d < 0) || decide (s.dmax < d) }

/-! ### Frames and slots (R147-R149) -/

/-- The first slot end at or after an instant; slots end 12 ns after a frame start (R148). -/
def State.slotEndFrom (s : State) (x : Nat) : Nat :=
  let f := (s.loops.frameAt.getD 0 + 12) % 40
  x + (f + 40 - x % 40) % 40

/-- The frame whose slot is in progress: a slot runs from 12 ns after its frame's start to 12 ns after the next (R148). -/
def State.slotFrame (s : State) : Nat :=
  if s.loops.frameAt.getD 0 + 12 ≤ s.now then s.loops.frame else s.loops.frame - 1

/-- The start of the slot in progress. -/
def State.slotStart (s : State) : Nat :=
  let a := s.loops.frameAt.getD 0 + 12
  if a ≤ s.now then a else a - 40

/-- Tract `t` computes in a frame: in every one at 25 MS/s, in those that PARITY names at 12.5 MS/s (R147, R191). -/
def State.computesIn (s : State) (t frame : Nat) : Bool :=
  s.get (fTRC_TSTAT_RATE t) = 0 || frame % 2 = s.get (fTRC_TSTAT_PARITY t)

/-- The first end of a slot of a tract at or after an instant (R182). -/
def State.tractSlotEndFrom (s : State) (t x : Nat) : Nat :=
  let e := s.slotEndFrom x
  let ends : Int := (s.loops.frame : Int) + ((e : Int) - s.loops.frameAt.getD 0 - 52) / 40
  if s.get (fTRC_TSTAT_RATE t) = 0 || ends % 2 = s.get (fTRC_TSTAT_PARITY t) then e else e + 40

/-- The error and the current of a tract in the readings of the slot in progress: those of its own frame, also once the next
frame's have been taken (R147-R150). -/
def State.slotInputs (s : State) (t : Nat) : Int × Int :=
  let h := s.tract t
  if s.slotFrame = s.loops.frame then (h.e0, h.iHist.headD 0) else (h.ePrev, (h.iHist.drop 1).headD 0)

/-- The duty of a tract is frozen: an open-hold has begun (R183). -/
def State.frozen (s : State) (t : Nat) : Bool :=
  let begun : Bool := match (s.tract t).holdAt with | none => false | some a => decide (a ≤ s.now)
  s.loopState t = 2 || s.loopState t = 3 || (s.loopState t = 6 && begun)

/-- The active set of a tract: 0 main, 1 fallback. -/
def State.setOf (s : State) (t : Nat) : Nat := s.get (fTRC_TSTAT_SET t)

/-- Neither engine, or this tract's engine, computes: its record in TRC_ENG. -/
def State.engineDead (s : State) (t : Nat) : Bool :=
  s.on fTRC_ENG_BOTH || (if s.get (fTRC_TSTAT_ENGINE t) = 0 then s.on fTRC_ENG_WEST_FAIL else s.on fTRC_ENG_EAST_FAIL)

/-- The feed-forward that falls in the sample whose slot starts at `at_`, summed and saturated (R233), and what stays. -/
def takeFf (at_ : Nat) (l : List FfRun) : Int × List FfRun :=
  let v := l.foldl (fun a r => if r.startAt ≤ at_ then a + r.vals.headD 0 else a) 0
  let rest := (l.map fun r => if r.startAt ≤ at_ then { r with vals := r.vals.drop 1 } else r).filter fun r => !r.vals.isEmpty
  (clampI (-32768) 32767 v, rest)

/-- SO_TRK_STAT.FFPEND and the run list of a tract. -/
def State.setFf (s : State) (t : Nat) (l : List FfRun) : State :=
  let s1 := s.updTract t fun h => { h with ff := l }
  s1.putI (fSO_TRK_STAT_FFPEND t) (clampI (-32768) 32767 (l.foldl (fun a r => a + r.vals.foldl (· + ·) 0) 0))

/-- Feed-forward added to a tract. -/
def State.addFf (s : State) (t : Nat) (r : FfRun) : State := s.setFf t ((s.tract t).ff ++ [r])

/-! ### Seeds (R172, R197) -/

/-- Histories at the start of a soft start or a switch-on from Retention: no error, u from the start voltage (R172). -/
def State.seedStart (s : State) (t code : Nat) : State :=
  let u := sat24 (roundHalfUp (code * 1250 * 4096) 1800000)
  (s.putI (fTRC_UOUT_U1 t) u).updTract t fun h =>
    { h with e1 := 0, e2 := 0, e3 := 0, u2 := u, u3 := u, w := clampI 0 s.dmax u }

/-- Histories seeded from a frozen duty code: the present error, and u = duty / k (R197). -/
def State.seedHeld (s : State) (t : Nat) (duty : Nat) : State :=
  let k := s.get fTRC_NORM_K
  let u : Int := if k = 0 then sat24 (Config.openNat 3 [duty] : Nat) else sat24 (roundHalfUp (duty * 16384) k)
  let h := s.tract t
  (s.putI (fTRC_UOUT_U1 t) u).updTract t fun x =>
    { x with e1 := h.e0, e2 := h.e0, e3 := h.e0, u2 := u, u3 := u, w := clampI 0 s.dmax u }

/-- The loop of a tract closes on a set: 25 MS/s on main, 12.5 MS/s on fallback (R191); its cells move on at their cadence
(R184), and slots before the one in progress ask for no sample. -/
def State.closeLoop (s : State) (t set : Nat) : State :=
  let s1 := ((s.put (fTRC_TSTAT_STATE t) 0).put (fTRC_TSTAT_SET t) set).put (fTRC_TSTAT_RATE t) set
  let s2 := s1.updTract t fun h =>
    { h with staging := none, holdAt := none, closeAt := none, wasStopped := false, internal := 0, lastSlot := false,
             sampled := max h.sampled (s.slotFrame - 1) }
  (cellsIn t).foldl (fun s c => s.recadence (s.stepIv (s.domOf t)) c) s2

/-! ### Stopping a tract (R194) -/

/-- A set of a tract reads without an uncorrectable error, its memory being in use by the engines (R193, R614). -/
def State.setReads (s : State) (t set : Nat) : Bool := s.memUsable 2 && !s.memBad 2 (coefAddr t set 0) 32

/-- A set found uncorrectable by a read. -/
def State.setFound (s : State) (t set : Nat) : State :=
  ((s.markBad 2 (coefAddr t set 0 / 8)).addSat (fMEM_MSTAT_UNCORR 2) 1).raiseD evMEM_UNCORR 2 (coefAddr t set 0)

/-- A tract stopped: its cells both off, one that waits in a hiccup of its own going on with that (R137, R194). -/
def State.haltTract (s : State) (t : Nat) : State :=
  let s1 := (cellsIn t).foldl (fun s c => if s.mode c = 6 then s else s.setMode c 0) s
  let s2 := ((s1.put (fTRC_TSTAT_STATE t) 4).put (fTRC_DUTY_DUTY t) 0).updTract t fun h =>
    { h with staging := none, holdAt := none, closeAt := none, internal := 0, wasStopped := false, lastSlot := false, duty := none, floorOn := false }
  s2.raise evTRC_COEF_LOST t

/-- Neither set of a tract can be read: its cells are off, and it counts as a tract with no healthy cell (R194). A tract that comes
back from stopped returns to it instead, with COEF_LOST set again and nothing else (R658). -/
def State.stopTract (s : State) (t : Nat) : State :=
  if s.stopped t then s.haltTract t else (s.haltTract t).afterCellLoss (4 * t)

/-! ### A tract-sample (R155-R171, R173-R175, R193) -/

/-- The lane that serves a tract: 2 x engine + lane. -/
def State.laneOf (s : State) (t : Nat) : Nat := 2 * s.get (fTRC_TSTAT_ENGINE t) + s.get (fTRC_TSTAT_LANE t)

/-- An engine is found failed at the end of a slot (R176). -/
def State.findFailed (s : State) (e slotEnd : Nat) : State :=
  if s.loops.failDue.any fun x => x.1 = e then s
  else { s with loops := { s.loops with failDue := (e, slotEnd) :: s.loops.failDue } }

/-- A late sample of frame `n`, whose slot ends at `slotEnd` (R173): counted, and by lane and engine toward R176; the output history
is held (Table 3.6). -/
def State.lateSample (s : State) (t n slotEnd : Nat) : State :=
  let lane := s.laneOf t
  let win := (n :: tblGet (fun _ => []) s.loops.late lane).filter fun k => n < k + 16
  let s1 := (s.putB (fTRC_TSTAT_LATE t) true).addSat fTRC_LATE_CNT_COUNT 1
  let s2 := { s1 with loops := { s1.loops with late := tblSet (fun _ => []) s1.loops.late lane win } }
  let s3 := if 8 ≤ win.length then s2.findFailed (s.get (fTRC_TSTAT_ENGINE t)) slotEnd else s2
  ((s3.putB (fTRC_TSTAT_FROZEN t) true).updTract t fun h => { h with sampled := n }).raise evTRC_LATE t

/-- A residue failure (R175): noted by its slot end; two at most 1 us apart fail the engine (R176). -/
def State.residueFail (s : State) (t : Nat) : State :=
  let e := s.get (fTRC_TSTAT_ENGINE t)
  let at_ := s.slotStart + 40
  let old := (tblGet (fun _ => []) s.loops.residue e).filter fun a => at_ ≤ a + 1000
  let s1 := { s with loops := { s.loops with residue := tblSet (fun _ => []) s.loops.residue e (at_ :: old) } }
  let s2 := if old.isEmpty then s1 else s1.findFailed e at_
  (s2.lateSample t s.slotFrame at_).raise evTRC_RESIDUE t

/-- The stall positions that a lane has taken in the slot in progress (R152). -/
def State.stallsOf (s : State) (lane : Nat) : Nat :=
  match s.loops.stalls.find? fun e => e.1 = s.slotFrame * 4 + lane with
  | none => 0
  | some e => e.2

/-- When the lane begins the sample of a tract in the slot in progress (R152). -/
def State.beginAt (s : State) (t : Nat) : Nat := s.slotStart + 2 * (s.get (fTRC_TSTAT_POS t) + s.stallsOf (s.laneOf t))

/-- The timing floor of R171 after a computed sample with error `e`: its feedback lies below present code - DEPTH. The pause is high
from the gate_clk edge after the duty's delivery until 16 cycles after the slot's end. -/
def State.timingFloor (s : State) (t win : Nat) (e : Int) : State :=
  let depth := s.get (fTRC_FLOOR_DEPTH t)
  let hit : Bool := win ≠ 0 && depth ≠ 0 && decide ((depth : Int) < e)
  let was := (s.tract t).floorOn
  let s1 := s.updTract t fun h => { h with floorOn := hit, floorPause := if hit then (s.beginAt t + 7, s.slotStart + 56) :: h.floorPause else h.floorPause }
  s1.raiseIf (hit && !was) evTRC_FLOOR t

/-- A set of a tract is three-pole/three-zero (Table 3.7). -/
def State.threePole (s : State) (t set : Nat) : Bool := (s.coefWord t set 0).toNat % 2 = 1

/-- A computed sample in closed loop: duty delivered for the periods from the slot's end on (R149), histories advanced; a
two-pole set keeps no third term (R155-R171). -/
def State.computeSample (s : State) (t : Nat) : State :=
  let h := s.tract t
  let x := s.slotInputs t
  let p := takeFf s.slotStart h.ff
  let ff := if s.on fTRC_ENG_FAILOVER && s.setOf t = 1 then 0 else p.1
  let o := s.loopSample t (s.setOf t) x.1 x.2 ff (s.normFor s.slotStart)
  let adv : Bool := o.win = 0 && !o.clamped
  let s1 := ((((s.setFf t p.2).put (fTRC_TSTAT_WIN t) o.win).putB (fTRC_TSTAT_CLAMP t) o.clamped).putB (fTRC_TSTAT_FROZEN t) (!adv)).putB (fTRC_TSTAT_LATE t) false
  let s2 := s1.setDuty t (s.slotStart + 40) (natOf o.duty)
  let s3 := if adv then (s2.putI (fTRC_UOUT_U1 t) o.u).updTract t fun x => { x with u2 := s.getI (fTRC_UOUT_U1 t), u3 := h.u2 } else s2
  let three := s.threePole t (s.setOf t)
  let s4 := s3.updTract t fun y =>
    { y with
      e1 := x.1
      e2 := h.e1
      e3 := if three then h.e2 else 0
      u3 := if three then y.u3 else 0
      w := clampI 0 s.dmax o.out
      sampled := s.slotFrame }
  s4.timingFloor t o.win x.1

/-- A computed sample in open-hold: only the error history advances, and feed-forward is lost (R183, R168, R162). No loop's output is
taken: WIN and CLAMP keep showing the latest sample that took one (DESIGN CHOICE, notes/assumptions/121.md), and the limit
loops do not act, so no timing floor is met (R171). -/
def State.heldSample (s : State) (t : Nat) : State :=
  let h := s.tract t
  let s1 := ((s.setFf t (takeFf s.slotStart h.ff).2).putB (fTRC_TSTAT_FROZEN t) true).putB (fTRC_TSTAT_LATE t) false
  s1.updTract t fun x =>
    { x with
      e1 := (s.slotInputs t).1
      e2 := h.e1
      e3 := if s.threePole t (s.setOf t) then h.e2 else 0
      sampled := s.slotFrame
      floorOn := false }

/-- A coefficient read of the active set with an uncorrectable error: the sample is not late and holds the histories, no new duty,
internal open-hold at the slot's end,
and a close on the other set to come; or the tract stops (R193, R194, R198). -/
def State.coefFails (s : State) (t : Nat) : State :=
  let other := 1 - s.setOf t
  let s0 := (s.putB (fTRC_TSTAT_LATE t) false).putB (fTRC_TSTAT_FROZEN t) true
  let s1 := (s0.updTract t fun h => { h with sampled := s.slotFrame }).raise evTRC_COEF_UNCORR t
  let oneEngine : Bool := s.on fTRC_ENG_WEST_FAIL || s.on fTRC_ENG_EAST_FAIL
  if (oneEngine && other = 0) || !s1.setReads t other then s1.stopTract t
  else (s1.put (fTRC_TSTAT_STATE t) 6).updTract t fun h => { h with internal := 2, internalAt := s.now, holdAt := some (s.slotStart + 40) }

/-- A corrected read of a coefficient set: one stall position of its lane for each of the reads (R153, R193). -/
def State.coefCorrected (s : State) (t set n : Nat) : State :=
  let key := s.slotFrame * 4 + s.laneOf t
  let old := s.loops.stalls.filter fun e => e.1 ≠ key && s.loops.frame < e.1 / 4 + 25000
  let s1 := { s with loops := { s.loops with stalls := (key, s.stallsOf (s.laneOf t) + n) :: old } }
  ((s1.addSat (fMEM_MSTAT_CORR 2) n).raiseD evMEM_CORR 2 (coefAddr t set 0)).raise evTRC_COEF_CORR t

/-- What the check code found in a read of a set is dealt with: corrections stall the lane, a bad word is marked. -/
def State.readSet (s : State) (t set : Nat) : Ecc → State
  | .clean => s
  | .corrected more => s.coefCorrected t set (more.val + 1)
  | .uncorrectable => s.setFound t set

/-- A tract asks for a sample of frame `n`: its loop is neither idle nor stopped, an engine serves it, and it computes in that
frame, for which it has no sample yet. -/
def State.wantsSample (s : State) (t n : Nat) : Bool :=
  s.loops.frameAt.isSome && (s.tract t).sampled < n && s.computesIn t n && !s.stopped t && s.loopState t ≠ 5

/-- TRACT_SAMPLE: the tract-sample of the slot in progress, once its lane has begun it (R152), with what the check code finds
in the active set and whether the residue check passes. A sample whose code would be delivered after the slot's end, 6 ns
after it begins, is late (R152, R173), as is one that fails the residue check (R175). -/
def execTractSample (t : Fin 64) (ecc : Ecc) (residueOk : Bool) (s : State) : Host.Outcome State Fault Refusal :=
  let set := s.setOf t
  .next (if !s.wantsSample t s.slotFrame || s.now < s.beginAt t || s.engineDead t then s
    else
      let s1 := if s.frozen t then s else s.readSet t set ecc
      if s.slotStart + 40 < s.beginAt t + 6 then s1.lateSample t s.slotFrame (s.slotStart + 40)
      else if !residueOk then s1.residueFail t
      else if s.frozen t then s1.heldSample t
      else if s1.setReads t set then s1.computeSample t else s1.coefFails t)

/-- TRACT_SAMPLE_LATE: at the end of a slot of the tract its sample has not been delivered (R173), whether or not the tract is in
open-hold (R168). -/
def execTractSampleLate (t : Fin 64) (s : State) : Host.Outcome State Fault Refusal :=
  let n := s.slotFrame - 1
  .next (if s.wantsSample t n && !s.on fTRC_ENG_BOTH then s.lateSample t n s.slotStart else s)

/-- FLOOR_PAUSE_END: the timing-floor pause falls 16 cycles after the slot of the last qualifying sample (R171). -/
def execFloorPauseEnd (t : Fin 64) (s : State) : Host.Outcome State Fault Refusal :=
  .next (s.updTract t fun h => { h with floorPause := h.floorPause.filter fun w => s.now < w.2 })

/-- NORM_UPDATE: every 1 us k is recomputed from the IB voltage averaged over the preceding 1 us, in uV (R160). -/
def execNormUpdate (uv : Nat) (s : State) : Host.Outcome State Fault Refusal :=
  let v := clampN 1500000 2200000 uv
  let s1 := { s with loops := { s.loops with normPrev := (s.get fTRC_NORM_K, s.get fTRC_NORM_VIB), normAt := s.now } }
  .next ((s1.put fTRC_NORM_K (roundN (1800000 * 16384) v)).put fTRC_NORM_VIB (natOf (divOpen 10 v 1250)))

/-! ### Open-hold (R181-R193, R658) -/

/-- The tracts that read entering or requested open-hold. -/
def State.holdsInUse (s : State) : Nat := ((upTo 64).filter fun t => s.loopState t = 1 || s.loopState t = 2).length

/-- A tract reset accepted at this instant: an OPEN write of the same cycle takes effect, and the reset is then refused
(R608). -/
def State.justReset (s : State) (t : Nat) : Bool :=
  s.loopState t = 6 && (s.tract t).internal = 1 && (s.tract t).trstAt = s.now + 1

/-- The tract reset of this instant refused. -/
def State.displaceReset (s : State) (t : Nat) : State :=
  ((s.putB fBLK_TRST_BUSY false).updTract t fun h => { h with internal := 0, holdAt := none, trstAt := 0 }).raise evBLK_RST_REFUSED 0xFFFF

/-- A write to TRC_OPEN[t]: bit 0 OPEN, bit 1 CLOSE (R181, R188, R201). CLOSE selects the set of TRC_CTL.SET as it is written; a
second CLOSE while one waits for its first closed slot is refused (DESIGN CHOICE, notes/assumptions/101.md). During thermal shutdown
no tract enters open-hold (R396). -/
def State.writeOpen (s : State) (t : Nat) (v : Word) : State :=
  let op : Bool := bitsAt v 0 1 = 1
  let cl : Bool := bitsAt v 1 1 = 1
  let st := s.loopState t
  let d := s.domOf t
  let moving : Bool := d < 32 && (s.domState d = 3 || s.domState d = 5)
  let fresh := s.justReset t
  if op then
    if cl || !(st = 0 || st = 4 || fresh) || moving || s.shut || s.on fTRC_ENG_FAILOVER || 8 ≤ s.holdsInUse then s.raise evTRC_REFUSED t
    else ((if fresh then s.displaceReset t else s).put (fTRC_TSTAT_STATE t) 1).updTract t fun h => { h with enterAt := s.now, wasStopped := decide (st = 4), closeAt := none }
  else if cl then
    let set := s.get (fTRC_CTL_SET t)
    let one : Bool := s.on fTRC_ENG_WEST_FAIL || s.on fTRC_ENG_EAST_FAIL
    if st ≠ 2 || (one && set = 0) || (s.tract t).closeAt.isSome then s.raise evTRC_REFUSED t
    else
      let ws := (s.tract t).staging.getD []
      let s1 := if s.memUsable 2 then
          let m := memPutBytes s.coef (coefAddr t 0 0) (ws.flatMap fun w => leBytes w.toNat 4)
          forEach (upTo 8) (fun k s => s.markGood 2 (coefAddr t 0 0 / 8 + k)) { s with coef := m }
        else s
      s1.updTract t fun h => { h with closeAt := some s.now, closeSet := set }
  else s

/-- The staging copy of a tract: both sets, one that reads with an uncorrectable error as zeros (R185). -/
def State.stagingOf (s : State) (t : Nat) : List Word :=
  (upTo 16).map fun k => if s.setReads t (k / 8) then s.coefWord t (k / 8) (k % 8) else 0

/-- OPEN_HOLD_BEGIN: requested open-hold begins at the end of the first slot that ends at least 100 ns after the OPEN
write (R182, R185, R658). -/
def execOpenHoldBegin (t : Fin 64) (s : State) : Host.Outcome State Fault Refusal :=
  .next (if s.loopState t = 1 && s.tractSlotEndFrom t ((s.tract t).enterAt + 100) ≤ s.now then
      let s1 := (s.put (fTRC_TSTAT_STATE t) 2).updTract t fun h => { h with staging := some (s.stagingOf t), holdAt := some s.now }
      if (s.tract t).wasStopped then (s1.put (fTRC_DUTY_DUTY t) 0).updTract t fun h => { h with duty := none } else s1
    else s)

/-- A stopped tract closes again: seeded from duty 0, its cells healthy, rejoining where the domain is On (R658); with the
domain Off or in Retention its loop is idle (Table 3.6). -/
def State.restartTract (s : State) (t set : Nat) : State :=
  let s0 := (s.seedHeld t 0).closeLoop t set
  let s1 := if s0.domState (s0.domOf t) ≤ 2 then s0.idleLoop t else s0
  (cellsIn t).foldl (fun s c => if s.alive c && s.mode c = 0 then s.prebias c else s) s1

/-- LOOP_CLOSE: the first closed sample, in the first slot that begins at least 100 ns after the CLOSE write (R188,
R658); `ecc` is what the read of the selected set finds. -/
def execLoopClose (t : Fin 64) (ecc : Ecc) (s : State) : Host.Outcome State Fault Refusal :=
  .next (match (s.tract t).closeAt with
    | none => s
    | some c =>
      if s.loopState t = 2 && s.slotEndFrom (c + 100) ≤ s.now then
        let set := (s.tract t).closeSet
        let s1 := s.readSet t set ecc
        if (s.tract t).wasStopped then
          (if s1.setReads t set then s1.restartTract t set else s1.stopTract t)
        else
          let s2 := s1.closeLoop t set
          if s1.setReads t set then s2 else s2.coefFails t
      else s)

/-- OPEN_HOLD_TIMEOUT: after 200 us with no CLOSE the staging copy is discarded and the loop closes on the set in force
before; a stopped tract returns to stopped (R189, R658). -/
def execOpenHoldTimeout (t : Fin 64) (s : State) : Host.Outcome State Fault Refusal :=
  .next (match (s.tract t).holdAt with
    | none => s
    | some a =>
      if s.loopState t = 2 && (s.tract t).closeAt.isNone && a + 200000 ≤ s.now then
        if (s.tract t).wasStopped then (s.stopTract t).raise evTRC_HOLD_TIMEOUT t
        else (s.closeLoop t (s.setOf t)).raise evTRC_HOLD_TIMEOUT t
      else s)

/-- SET_SWITCH_CLOSE: a tract in internal open-hold closes: after a set switch on its other set (R193), after a tract
reset on the set in force, at least 100 ns after its open-hold began (R608). -/
def execSetSwitchClose (t : Fin 64) (s : State) : Host.Outcome State Fault Refusal :=
  .next (if s.loopState t ≠ 6 then s
    else if (s.tract t).internal = 2 then
      let other := 1 - s.setOf t
      (if s.setReads t other then s.closeLoop t other else s.stopTract t)
    else if s.slotEndFrom ((s.tract t).internalAt + 100) ≤ s.now then
      let s1 := ((s.seedHeld t (s.dutyNow t)).putB (fTRC_TSTAT_LATE t) false).closeLoop t (s.setOf t)
      s1.putB fBLK_TRST_BUSY false
    else s)

/-- A tract reset (R608): refused unless the tract is closed, no failover runs and none is in progress. -/
def State.resetTract (s : State) (t : Nat) : State :=
  if s.loopState t ≠ 0 || s.on fTRC_ENG_FAILOVER || s.on fBLK_TRST_BUSY then s.raise evBLK_RST_REFUSED 0xFFFF
  else
    let s1 := ((s.put fBLK_TRST_TRACT t).putB fBLK_TRST_BUSY true).put (fTRC_TSTAT_STATE t) 6
    s1.updTract t fun h =>
      { h with internal := 1, internalAt := s.tractSlotEndFrom t s.now, holdAt := some (s.tractSlotEndFrom t s.now), trstAt := s.now + 1 }

/-- A word of a coefficient set as it is stored: word 0 holds ORDER, the others a sign-extended coefficient (Table 3.7). -/
def coefNorm (j : Nat) (v : Word) : Word := if j = 0 then v &&& 1 else BitVec.ofInt 32 (signed 20 v.toNat)

/-- An access through the coefficient window: the word read, or none where it completes with SLVERR (R186, R187). -/
def State.windowAccess (s : State) (core : Bool) (t set j : Nat) (wr : Option Word) : State × Option Word :=
  let barred : Bool := core && wr.isSome && !s.on fCAD_FWPERM_COEF
  let k := 8 * set + j
  match (s.tract t).staging with
  | none => (s.raiseIf wr.isSome evTRC_REFUSED t, none)
  | some ws =>
    if s.loopState t ≠ 2 || barred then (s.raiseIf wr.isSome evTRC_REFUSED t, none)
    else match wr with
      | none => (s, some (ws.getD k 0))
      | some v =>
        (s.updTract t fun h => { h with staging := some (ws.set k (coefNorm j v)) }, some 0)

/-! ### Failover (R176, R195-R199) -/

/-- The groups of Table 3.3: the failed engine's tracts in ascending number, then the survivor's, 8 at a time. -/
def failGroup (failed g : Nat) : List Nat :=
  let mine (e : Nat) := (upTo 64).filter fun t => t % 8 / 4 = e
  ((mine failed ++ mine (1 - failed)).drop (8 * g)).take 8

/-- A tract when a failover with that t0 begins (R190, R196, Table 3.3): its staging copy is dropped, and it is in failover
open-hold from t0 + 80 ns on, unless its loop is idle or stopped. Of the tracts that come back from stopped, one whose
CLOSE has been committed is carried through the sequence, and any other is stopped again (notes/assumptions/102.md). -/
def State.failTract (s : State) (t0 t : Nat) : State :=
  let h := s.tract t
  let st := s.loopState t
  let s1 := s.updTract t fun h =>
    { h with failPause := true, staging := none, seeded := false, closeAt := none, internal := 0, lastSlot := decide (st ≤ 1 && !h.wasStopped),
             holdAt := if st = 4 || st = 5 then none else some (h.holdAt.getD (t0 + 80)) }
  let s2 := (if st = 6 && h.internal = 1 then s1.putB fBLK_TRST_BUSY false else s1).raiseIf (st = 2) evTRC_REFUSED t
  if st = 4 || st = 5 then s2
  else if s.stopped t && h.closeAt.isNone then
    (s2.put (fTRC_TSTAT_STATE t) 4).updTract t fun h => { h with wasStopped := false, holdAt := none }
  else s2.put (fTRC_TSTAT_STATE t) 3

/-- With no engine left every cell of the die is both off, for good (R199). -/
def State.engineLess (s : State) : State :=
  let s1 := s.putB fTRC_ENG_BOTH true
  let s2 := forEach (upTo 256) (fun c s => (s.setMode c 0).updCell c fun h => { h with rejoin := false, hiccupDue := none }) s1
  ({ s2.putB fTRC_ENG_FAILOVER false with loops := { s2.loops with failT0 := none } }).raise evTRC_ENG_BOTH 0xFFFF

/-- ENGINE_FAIL: an engine found failed under R176 is declared so at the end of the slot that completed the condition: failover
begins (R196), or no engine is left (R199). -/
def execEngineFail (e : Fin 2) (s : State) : Host.Outcome State Fault Refusal :=
  let other : Bool := if e.val = 0 then s.on fTRC_ENG_EAST_FAIL else s.on fTRC_ENG_WEST_FAIL
  let already : Bool := if e.val = 0 then s.on fTRC_ENG_WEST_FAIL else s.on fTRC_ENG_EAST_FAIL
  .next (match s.loops.failDue.find? fun x => x.1 = e.val with
    | none => s
    | some x =>
      if already || s.now < x.2 then s
      else
        let s1 := s.putB (if e.val = 0 then fTRC_ENG_WEST_FAIL else fTRC_ENG_EAST_FAIL) true
        let s2 := { s1 with loops := { s1.loops with failDue := s1.loops.failDue.filter fun y => y.1 ≠ e.val } }
        if other then s2.engineLess
        else
          let t0 := x.2 - 40
          let s3 := (s2.putB fTRC_ENG_FAILOVER true).raise evTRC_ENG_FAIL 0xFFFF
          let s4 := forEach (upTo 64) (fun t s => s.failTract t0 t) s3
          { s4 with loops := { s4.loops with failT0 := some t0, failedEngine := e.val } })

/-- The schedule of a tract on the surviving engine: fallback set, 12.5 MS/s, the survivor's own tracts in even frames (R195). -/
def State.failSchedule (s : State) (failed t : Nat) : State :=
  let home := t % 8 / 4
  (((s.put (fTRC_TSTAT_ENGINE t) (1 - failed)).put (fTRC_TSTAT_PARITY t) (if home = failed then 1 else 0)).put (fTRC_TSTAT_SET t) 1).put
    (fTRC_TSTAT_RATE t) 1

/-- Every tract on the surviving engine: two-engine operation returns only after a block or power-on reset, also where a
failover was abandoned or the block has been in Off (R198, R396; DEDUCED, notes/assumptions/109.md). -/
def State.allOnSurvivor (s : State) (failed : Nat) : State := forEach (upTo 64) (fun t s => s.failSchedule failed t) s

/-- FAILOVER_SEED: a tract's fallback set is read and checked, and a tract, idle or not, whose set cannot be read stops (R194); its schedule moves to the surviving engine and its
histories are seeded (R195, R197, Table 3.3). -/
def execFailoverSeed (t : Fin 64) (ecc : Ecc) (s : State) : Host.Outcome State Fault Refusal :=
  .next (match s.loops.failT0 with
    | none => s
    | some t0 =>
      if t0 + 1000 ≤ s.now && !(s.tract t).seeded && s.on fTRC_ENG_FAILOVER then
        let s1 := (s.failSchedule s.loops.failedEngine t).updTract t fun h => { h with seeded := true, lastSlot := false }
        let s2 := s1.readSet t 1 ecc
        if s.loopState t = 4 || (s.loopState t ≠ 3 && 32 ≤ s.domOf t) then s2
        else if !s2.setReads t 1 then s2.stopTract t
        else if s.loopState t = 3 then s2.seedHeld t (s2.dutyNow t)
        else s2
      else s)

/-- A seeded tract of a group closes on its fallback set; one that comes back from stopped restarts (R658, Table 3.3). -/
def State.groupClose (s : State) (t : Nat) : State :=
  if s.loopState t = 3 && (s.tract t).seeded then
    if (s.tract t).wasStopped then s.restartTract t 1 else s.closeLoop t 1
  else s

/-- FAILOVER_GROUP_CLOSE: group g closes at t0 + 5 + 2g us on its fallback sets (Table 3.3). -/
def execFailoverGroupClose (g : Fin 8) (s : State) : Host.Outcome State Fault Refusal :=
  .next (match s.loops.failT0 with
    | none => s
    | some t0 =>
      if t0 + 5000 + 2000 * g.val ≤ s.now then (failGroup s.loops.failedEngine g.val).foldl (fun s t => s.groupClose t) s else s)

/-- FAILOVER_PAUSE_LIFT: the pause duty of group g is lifted at t0 + 9 + 2g us; after group 7 the failover is over. -/
def execFailoverPauseLift (g : Fin 8) (s : State) : Host.Outcome State Fault Refusal :=
  .next (match s.loops.failT0 with
    | none => s
    | some t0 =>
      if t0 + 9000 + 2000 * g.val ≤ s.now then
        let s1 := (failGroup s.loops.failedEngine g.val).foldl (fun s t => s.updTract t fun h => { h with failPause := false }) s
        if g.val = 7 then { s1.putB fTRC_ENG_FAILOVER false with loops := { s1.loops with failT0 := none } } else s1
      else s)

end Sys2Proof.Machine
end

