-- ==== Sys2Proof/Machine/ChainGate.lean ====
section
/-!
DEFINITION. The chain gate, pauses, inrush comparison and the input power envelope (chapter 5, R30-R40).
-/

namespace Sys2Proof.Machine

/-! ### Release intervals (R244-R247) -/

/-- CAP_STAT bit UNATTAINABLE in force for a class: its capping interval is 256 (R436); else CGINT while capped. -/
def State.capInterval (s : State) (d : Nat) : Nat :=
  let k := s.classOf d
  if 32 ≤ d || k = 3 then 0
  else if tblGet (fun _ => 0) s.cap.unatt k = 1 then 256
  else if s.on (fCAP_CSTATE_CAPPED k) then s.get (fCAP_CLS_CGINT k) else 0

/-- The inrush interval of a tract: CG_INRUSH.INT while any domain that switches on finds it loaded (R261, R264). -/
def State.inrushInterval (s : State) (t : Nat) : Nat :=
  if (upTo 32).any fun d => (s.dom d).loaded.contains t then s.get fCG_INRUSH_INT else 0

/-- The envelope interval of a step of ENV_OUT.STEP; HOLD has none (R268). -/
def envInterval : Nat → Nat
  | 0 => 0
  | 1 => 16
  | 2 => 32
  | 3 => 64
  | 4 => 128
  | _ => 256

/-- The envelope holds every link (R245). -/
def State.envHold (s : State) : Bool := s.get fENV_OUT_STEP = 6

/-- I_eff(t) of R244. -/
def State.ieff (s : State) (t : Nat) : Nat :=
  max (max (s.get (fCG_TRK_INTERVAL t)) (s.inrushInterval t)) (max (s.capInterval (s.domOf t)) (envInterval (s.get fENV_OUT_STEP)))

/-! ### Pauses (R254-R259) -/

/-- VIN load shedding is in force (R370). -/
def State.shedding (s : State) : Bool := s.on fIBS_STATE_SHED

/-- The pause duty demanded of a tract by the sources of Table 5.2 (R254). -/
def State.dutyDemand (s : State) (t : Nat) : Nat :=
  let d := s.domOf t
  let cap := if d < 32 then s.get (fCAP_DGRADE_PAUSE d) else 0
  let thr := if s.cap.throttle then s.get fCAP_THR_NPIN else 0
  let fail := if (s.tract t).failPause then 16 else 0
  let shed := if s.shedding then 16 else 0
  min 31 (max (max (max cap (s.tract t).derate) (max thr (s.get (fTHM_TDUTY_N t)))) (max fail shed))


/-- A forced pause of Table 5.3 is high on a tract. -/
def State.forcedPause (s : State) (t : Nat) : Bool :=
  let restart : Bool := match s.cg.gateHold with | none => false | some a => s.now < a
  !s.pins.hostPwrgd || !s.lclk || restart || !s.locked || !s.isOn (s.domOf t) || s.core.blockReset || s.shut || s.cg.allForced || s.pst.stopAt.isSome

/-- An event pause of Table 5.3 is high on a tract (R130, R171). -/
def State.eventPause (s : State) (t : Nat) : Bool := (s.tract t).snapPause.isSome || (s.tract t).floorPause.any fun w => w.1 ≤ s.now

/-- gate_pause[t] (R259). -/
def State.gatePause (s : State) (t : Nat) : Bool := (s.tract t).dutyPause || s.eventPause t || s.forcedPause t

/-- CG_TSTAT[t] as it reads (Table 5.5): before the plat is locked or while gate_clk does not run no interval is in force, and IEFF
reads 0 (R59, notes/assumptions/105.md). -/
def State.cgWord (s : State) (t : Nat) : Nat :=
  s.get (fCG_TSTAT_PEND t) * 2 ^ 24 + s.get (fCG_TSTAT_BURST t) * 2 ^ 23 + b2n s.envHold * 2 ^ 22
    + s.get (fCG_TSTAT_DUTY t) * 2 ^ 17 + b2n (s.forcedPause t) * 2 ^ 16 + b2n (s.eventPause t) * 2 ^ 15
    + (if s.lclk && s.locked then s.ieff t % 512 else 0)

/-- Reversal of five bits (R256). -/
def rev5 (n : Nat) : Nat :=
  n % 2 * 16 + n / 2 % 2 * 8 + n / 4 % 2 * 4 + n / 8 % 2 * 2 + n / 16 % 2

/-- gate_clk cycles since the stagger counter last started (R249, R255). -/
def State.gateCycles (s : State) : Nat := s.now - s.cg.staggerAt

/-- PAUSE_SLOT: at a slot boundary each tract takes the duty now demanded and the level of its duty pause (R255-R257). -/
def execPauseSlot (s : State) : Host.Outcome State Fault Refusal :=
  let no := s.gateCycles / (max 1 (s.get fCG_CFG_PSLOT))
  .next (if s.lclk && s.cg.slotNo ≠ some no then
      forEach (upTo 64) (fun t s =>
        let n := s.dutyDemand t
        (s.put (fCG_TSTAT_DUTY t) n).updTract t fun h =>
          { h with dutyPause := decide (rev5 ((no % 32 + 4 * s.get (fCG_STAG_OFFSET t)) % 32) < n) })
        { s with cg := { s.cg with slotNo := some no } }
    else s)

/-! ### Requests and links (R30-R40, R248-R253) -/

/-- The host die's ports are sampled: gate_clk runs and aon_host_pwrgd is high (R31, R51). -/
def State.gateLive (s : State) : Bool := s.lclk && s.pins.hostPwrgd

/-- The quiet time of R248 has passed since a tract's previous link, or it has issued none. -/
def State.quietTract (s : State) (t : Nat) : Bool :=
  match (s.tract t).lastLink with
  | none => true
  | some a => decide (a + s.get fCG_CFG_QUIET < s.now)

/-- GATE_REQ: new start requests join the pending count, which saturates at 255 (R33, R34, R248). -/
def execGateReq (t : Fin 64) (n : Fin 8) (s : State) : Host.Outcome State Fault Refusal :=
  let old := s.get (fCG_TSTAT_PEND t)
  let add := min n.val (255 - old)
  .next (if !s.gateLive || n.val = 0 then s
    else
      let s1 := s.put (fCG_TSTAT_PEND t) (old + add)
      let s2 := if 0 < add then s1.updTract t fun h => { h with reqs := h.reqs ++ [(s.now, add)] } else s1
      let s3 := if old = 0 && s.quietTract t then s2.putB (fCG_TSTAT_BURST t) true else s2
      if add < n.val then s3.raiseD evCG_REQ_OVF t (s3.cgWord t) else s3)

/-- The oldest request granted. -/
def dropReq : List (Nat × Nat) → List (Nat × Nat)
  | [] => []
  | (a, n) :: l => if n ≤ 1 then l else (a, n - 1) :: l

/-- The feed-forward of one link, rounded to nearest with ties away from zero (R252). -/
def roundAway (a b : Int) : Int := if 0 ≤ a then (2 * a + b) / (2 * b) else -((2 * -a + b) / (2 * b))

/-- The conditions of R35, R245 and R250 for a link on a tract. -/
def State.linkDue (s : State) (t : Nat) : Bool :=
  let h := s.tract t
  let aged : Bool := match h.reqs with | [] => false | r :: _ => decide (r.1 + 2 ≤ s.now)
  let elapsed : Bool := match h.lastLink with | none => true | some a => decide (a + s.ieff t ≤ s.now)
  let span := max 1 (s.get fCG_CFG_SPAN)
  let slot : Bool := !s.on (fCG_TSTAT_BURST t) || decide (s.gateCycles % span = s.get (fCG_STAG_OFFSET t) % span)
  s.gateLive && 0 < s.get (fCG_TSTAT_PEND t) && !s.gatePause t && !s.envHold && aged && elapsed && slot

/-- GATE_LINK: a link granted where it is due, with its feed-forward to the tract's loop (R35, R252, R253). -/
def execGateLink (t : Fin 64) (s : State) : Host.Outcome State Fault Refusal :=
  .next (if s.linkDue t then
      let s1 := (s.put (fCG_TSTAT_PEND t) (s.get (fCG_TSTAT_PEND t) - 1)).putB (fCG_TSTAT_BURST t) false
      let s2 := (s1.addSat fCG_LINK_CNT_COUNT 1).updTract t fun h => { h with reqs := dropReq h.reqs, lastLink := some s.now }
      let istep := s.get (fCG_TRK_ISTEP t)
      if istep = 0 then s2
      else s2.addFf t { startAt := s.now + 10, vals := [roundAway (istep * s.getI (fSO_TRK_FF_KFF t)) 64], inst := none }
    else s)

/-- A forced pause has ended on tracts: those with a pending count make a burst start (R248, R292). -/
def State.forcedEnds (s : State) (ts : List Nat) : State :=
  ts.foldl (fun s t => if 0 < s.get (fCG_TSTAT_PEND t) then s.putB (fCG_TSTAT_BURST t) true else s) s

/-! ### Inrush staging (R260-R264) -/

/-- The tracts that share a grid edge with a tract. -/
def gridNeighbours (t : Nat) : List Nat :=
  (if 8 ≤ t then [t - 8] else []) ++ (if t < 56 then [t + 8] else []) ++ (if t % 8 = 0 then [] else [t - 1])
    ++ (if t % 8 = 7 then [] else [t + 1])

/-- The neighbours of a domain: tracts outside it that share a grid edge with one of its own. -/
def State.neighbours (s : State) (d : Nat) : List Nat :=
  (upTo 64).filter fun t => s.domOf t ≠ d && (gridNeighbours t).any fun k => s.domOf k = d

/-- A neighbour above CG_INRUSH.THRESH % of its continuous rating, by the mean of its latest 25 tract currents; one with
no healthy cell is never loaded (R260). -/
def State.isLoaded (s : State) (t : Nat) : Bool :=
  let l := (s.tract t).iHist.take 25
  !(s.healthyIn t).isEmpty && decide (((s.get fCG_INRUSH_THRESH * s.contRating t * l.length : Nat) : Int) < 100 * sumLast l 25)

/-- Header stages may be under way: in a switch-on, or in a ramp that reversed a soft stop before they were all run (R287,
R291). -/
def DomPhase.staging : DomPhase → Bool
  | .stagesRet | .stagesOff | .startRamp => true
  | _ => false

/-- The next header stage of a domain is due and not yet compared. -/
def State.stageWaits (s : State) (d : Nat) : Bool :=
  let h := s.dom d
  h.phase.staging && h.stagesRun < 8 && !h.stageOk && h.stageDue ≤ s.now

/-- INRUSH_COMPARE: before a header stage the neighbours are compared; a loaded one makes the stage wait (R260-R262). -/
def execInrushCompare (d : Fin 32) (s : State) : Host.Outcome State Fault Refusal :=
  let h := s.dom d
  let ready : Bool := match h.waitFrom with | none => true | some _ => decide (h.waitCheck ≤ s.now)
  .next (if s.stageWaits d && ready then
      let l := (s.neighbours d).filter s.isLoaded
      match l with
      | [] => s.updDom d fun h => { h with stageOk := true, loaded := [], waitFrom := none, slow := false }
      | t :: _ =>
        let s1 := s.updDom d fun h => { h with loaded := l, waitCheck := s.now + 1000, waitFrom := some (h.waitFrom.getD s.now) }
        if h.waitFrom.isNone then s1.raiseD evCG_INRUSH_WAIT t (s1.cgWord t) else s1
    else s)

/-- INRUSH_WAIT_EXPIRY: a stage has waited CG_INRUSH.WAIT us; it proceeds at quarter speed (R262, R263). -/
def execInrushWaitExpiry (d : Fin 32) (s : State) : Host.Outcome State Fault Refusal :=
  let h := s.dom d
  .next (match h.waitFrom with
    | none => s
    | some a =>
      if s.stageWaits d && a + 1000 * s.get fCG_INRUSH_WAIT ≤ s.now then
        let t := h.loaded.headD 0xFFFF
        let s1 := s.updDom d fun h => { h with stageOk := true, loaded := [], waitFrom := none, slow := true }
        s1.raiseD evCG_INRUSH_SLOW t (s1.cgWord t)
      else s)

/-! ### The input power envelope (R265-R272) -/

/-- Power figures are kept in 1/capScale of 0.0625 W. -/
def capScale : Nat := 16

/-- A figure in 1/(500 capScale) of 0.0625 W shown in 0.0625 W units. -/
def showPower (site : Nat) (x : Nat) : Nat := min 65535 (natOf (divOpen site x (500 * capScale)))

/-- Capping holds one of its actuators engaged (R271): a class capped (its ceiling, pause duty or interval acts), a tract
derated, or THROTTLE_N in force. -/
def State.cappingActs (s : State) : Bool :=
  (upTo 3).any (fun k => s.on (fCAP_CSTATE_CAPPED k)) || s.cap.throttle || (upTo 64).any fun t => (s.tract t).derate ≠ 0

/-- Any diode site at or above its throttle threshold, or thermal shutdown (R271). -/
def State.hot (s : State) : Bool := s.shut || (upTo 64).any fun t => decide (16 * (s.get fTHM_THR_THROT : Int) ≤ s.site t)

/-- gate_ballast is 0 whatever R270 gives (R271). -/
def State.ballastBarred (s : State) : Bool :=
  !s.on fENV_CTL_BALLAST_EN || s.aon ≠ 0 || s.shedding || s.cg.allForced || s.hot || s.cappingActs

/-- ENV_OUT as it reads: gate_ballast is 0 at any moment at which R271 says so (R267, R271). -/
def State.envOutWord (s : State) : Word :=
  if s.ballastBarred || !s.on fENV_CTL_EN then setBits (s.reg ENV_OUT) 4 4 0 else s.reg ENV_OUT

/-- gate_ballast. -/
def State.ballast (s : State) : Nat := bitsAt s.envOutWord 4 4

/-- ENV_STAT.BALLAST is set when gate_ballast rises from 0, by an update or as R271 stops barring it (R272). -/
def State.watchBallast (s : State) : State :=
  let up : Bool := s.get fENV_OUT_BALLAST ≠ 0 && decide (0 < s.ballast)
  if up = s.env.up then s else ({ s with env := { s.env with up := up } }).raiseIf up evENV_BALLAST 0xFFFF

/-- The envelope at a die-share update: A, P_env, the rise ladder and ballast demand, which holds until the next (R265-R272). -/
def State.envelopeUpdate (s : State) : State :=
  let l := s.env.ests
  let a := if l.isEmpty then 0 else natOf (divOpen 11 (500 * sumOver l id : Nat) l.length)
  let dR := 1520 * capScale * s.get fENV_CFG_RISE
  let dF := 1520 * capScale * s.get fENV_CFG_FALL
  let en := s.on fENV_CTL_EN
  let p := match s.env.penv with
    | none => a
    | some p => min (max a (p - dF)) (p + dR)
  let step0 := s.get fENV_OUT_STEP
  let step := if !en then 0 else if p < a then min 6 (step0 + 1) else step0 - 1
  let unit := max 1 (s.get fENV_CFG_BUNIT) * 16 * 500 * capScale
  let bal := if !en || p ≤ a then 0 else min 15 (ceilN (p - a) unit)
  let sat := if bal = 15 && !s.ballastBarred then min 50 (s.env.satCnt + 1) else 0
  let s1 := { s with env := { s.env with penv := if en then some p else none, satCnt := sat } }
  let s2 := ((s1.put fENV_PWR_AVG (showPower 12 a)).put fENV_PWR_PENV (showPower 13 (if en then p else 0)))
  let s3 := (s2.put fENV_OUT_STEP step).put fENV_OUT_BALLAST bal
  let s4 := s3.raiseIf (step0 = 0 && 0 < step) evENV_RISE_SLOW 0xFFFF
  let s5 := s4.raiseIf (step0 ≠ 6 && step = 6) evENV_HOLD 0xFFFF
  s5.watchBallast.raiseIf (sat = 50 && s.env.satCnt < 50) evENV_BALLAST_SAT 0xFFFF

end Sys2Proof.Machine
end

