-- ==== Sys2Proof/Machine/Domains.lean ====
section
/-!
DEFINITION. Domains (chapter 6) with their targets, lifts, soft start, soft stop and retention (R91-R98, R177-R180,
R229-R230, R274-R292).
-/

namespace Sys2Proof.Machine

/-! ### Commanded targets (R92, R177, R278) -/

/-- A commanded target accepted for a domain (R177, R278). -/
def State.setTarget (s : State) (d code : Nat) : State :=
  ((s.put (fDOM_VSET_CODE d) code).relift d 0xFFFF 0).retarget d

/-- A write of a commanded target: accepted, or refused under R92 and R586 with CODE unchanged (R278). -/
def State.commandTarget (s : State) (d code : Nat) : State :=
  if s.codeValid d code then s.setTarget d code
  else
    let s1 := s.raiseD evCEL_TGT_REFUSED d (code * 2 ^ 16 + s.get (fDOM_VSET_CODE d))
    if s.get (fCAD_DOM_VMIN d) ≤ code && code ≤ s.get (fCAD_DOM_VMAX d) then s1
    else s1.raiseD evCAD_LIMIT 0xFFFF (DOM_VSET d)

/-! ### Becoming On, in Retention and Off -/

/-- A domain becomes On (R288, R290, R292): SS_DONE for every cell, modes by class and load, forced pauses fall, and the losses that
waited for it follow (R145, R657). -/
def State.becomeOn (s : State) (d : Nat) : State :=
  let s1 := s.setDom d 4 .rest
  let s2 := (s1.cellsOf d).foldl (fun s c =>
    let s1 := s.putB (fCEL_CSTAT_SS_DONE c) true
    let s2 := s1.updCell c fun h => { h with bars := 0 }
    if s2.alive c && s2.mode c ≠ 6 && !(s2.cell c).rejoin then s2.setMode c (s2.loadMode (c / 4)) else s2) s1
  ((s2.forcedEnds (s2.tractsOf d)).domMoved d).lateLosses d

/-- A domain enters Retention: in each tract the lowest-numbered healthy cell in diode emulation, the others off but for a cell
in a hiccup of its own (R137, R282); the tract is in its light-load mode (R114, R294). -/
def State.becomeRetained (s : State) (d : Nat) : State :=
  let keep (s : State) (t : Nat) : State :=
    let k := (s.healthyIn t).head?
    let s1 := (cellsIn t).foldl (fun s c =>
      (if s.mode c = 6 then s else s.setMode c (if k = some c then 4 else 0)).updCell c fun h => { h with rejoin := false, bars := 0 }) s
    (s1.updTract t fun h => { h with light := true }).judgePulse t
  let s1 := (s.tractsOf d).foldl keep s
  (((s1.idleLoops d).setDom d 2 .rest).updDom d fun h => { h with stagesRun := 0, lowFrom := none, lowOn := false }).domMoved d

/-- A domain's stop has ended (R97, R283). -/
def State.becomeOff (s : State) (d : Nat) : State :=
  s.dropDomain d

/-- The present code of every cell of a domain equals its target (R179). -/
def State.slewComplete (s : State) (d : Nat) : Bool :=
  (s.cellsOf d).all fun c => s.get (fCEL_CSTAT_PRESENT c) = s.get (fCEL_CSTAT_TARGET c)

/-! ### Grades (R426-R433) -/

/-- The cadastre's maximum grade of a domain. -/
def State.gradeMax (s : State) (d : Nat) : Nat := bitsAt (s.reg (CAD_GRADE (d / 8))) (4 * (d % 8)) 4

/-- The effective grade of a domain (R428, R446). -/
def State.effGrade (s : State) (d : Nat) : Nat :=
  let k := s.classOf d
  let held := if s.on (fCAP_DGRADE_FAULT d) then s.get (fCAP_DGRADE_NOW d) else 15
  let ceil := if k < 3 then s.get (fCAP_CSTATE_CEIL k) else 15
  if s.on fIBS_STATE_SHED then 0
  else min (min (s.get (fCAP_DGRADE_REQ d)) (s.gradeMax d)) (min ceil held)

/-- The voltage code and the power factor of a grade of a domain's class. -/
def State.gradeCode (s : State) (d g : Nat) : Nat := s.get (fCAP_GTAB_VCODE (s.classOf d) g)
def State.gradePf (s : State) (d g : Nat) : Nat := s.get (fCAP_GTAB_PF (s.classOf d) g)

/-- A grade step commands the voltage of a grade; a host write of DOM_VSET of the same cycle takes effect instead (R16, R427). -/
def State.gradeTarget (s : State) (d g : Nat) : State :=
  if s.justWritten (fDOM_VSET_CODE d) then s else s.commandTarget d (s.gradeCode d g)

/-- A raise step whose grd_req has not yet been issued is abandoned when the effective grade has changed during it (R432); one
that timed out and waits for its reissue has been issued (R44, R45). -/
def State.abandonRaise (s : State) (d : Nat) : State :=
  match (s.dom d).step with
  | none => s
  | some g =>
    if g.rising && g.sentAt.isNone && !g.reissued && s.effGrade d ≠ g.eff then
      (s.gradeTarget d (s.get (fCAP_DGRADE_NOW d))).updDom d fun h => { h with step := none, stepAt := s.now }
    else s

/-- grd_req of a raise step whose domain has slewed to the step's code, held back while aon_host_pwrgd is low (R51, R430). -/
def State.requestRaise (s : State) (d : Nat) : State :=
  let s1 := s.abandonRaise d
  match (s1.dom d).step with
  | none => s1
  | some g =>
    if g.rising && g.sentAt.isNone && s.gateLive && (g.reissued || s1.get (fDOM_VSET_CODE d) = g.code) then
      s1.updDom d fun h => { h with step := some { g with sentAt := some s.now } }
    else s1

/-- The cells of a domain aim at a code. -/
def State.aimAll (s : State) (d iv code : Nat) : State := (s.cellsOf d).foldl (fun s c => s.aim iv code c) s

/-- A domain in Switching off: forced pauses high, its lift gone, no wait of a header stage (R280, R281). -/
def State.beginOff (s : State) (d : Nat) (ph : DomPhase) : State :=
  ((s.setDom d 5 ph).relift d 0xFFFF 0).updDom d fun h => { h with loaded := [], waitFrom := none, stageOk := false, slow := false }

/-- The slew to the retention code (R282, R289). -/
def State.beginRetention (s : State) (d : Nat) : State :=
  let s1 := s.beginOff d .slewRet
  let s2 := (s1.cellsOf d).foldl (fun s c => s.putB (fCEL_CSTAT_SS_DONE c) false) s1
  let s3 := s2.aimAll d s2.retSlewNs (s2.get (fDOM_CFG_RET d))
  if s3.slewComplete d then s3.becomeRetained d else s3

/-- A domain switched on during an entry takes its column of Table 6.3 once it is On (R293, R297). -/
def State.toColumn (s : State) (d : Nat) : State :=
  if s.on fPST_STATE_ENTERING && s.pst.commitAt.isNone && s.toRetain d then s.beginRetention d else s

/-- What completes when the present codes of a domain have reached their target: soft start (R96), the switch-on from
Retention (R288), retention (R282), the soft stop (R97), a raise of a grade whose target was not replaced on the way (R179, R430). -/
def State.afterStep (s : State) (d : Nat) : State :=
  if !s.slewComplete d then s
  else
    let h := s.dom d
    match h.phase with
    | .startRamp => if h.stagesRun < 8 then s else ((s.becomeOn d).requestRaise d).toColumn d
    | .slewUp => ((s.becomeOn d).requestRaise d).toColumn d
    | .slewRet => s.becomeRetained d
    | .stopRamp => s.becomeOff d
    | .rest => s.requestRaise d
    | _ => s

/-- A commanded target written, with what completes where the present codes equal it already (R179). -/
def State.writeTarget (s : State) (d code : Nat) : State := (s.commandTarget d code).afterStep d

/-! ### Switching off (R281-R283, R289, R291) -/

/-- A ramp begins: the present codes move from where they are at the rate of mV/ms in force then (R94, R97, R98). A RAMP written
while a ramp runs applies from the next one (DESIGN CHOICE, notes/assumptions/103.md). -/
def State.beginRamp (s : State) (d : Nat) (ph : DomPhase) : State :=
  let rate := if ph = .stopRamp then s.get (fCEL_DSTOP_RAMP d) else s.get (fCEL_DSTART_RAMP d)
  let s1 := (s.cellsOf d).foldl (fun s c =>
    s.updCell c fun h => { h with rampFrom := s.get (fCEL_CSTAT_PRESENT c), rampSteps := 0 }) s
  s1.updDom d fun h => { h with phase := ph, rampAt := s.now, rate := max 1 rate }

/-- The stop ramp toward 0.300 V (R97); a domain already there stops at once. -/
def State.beginStopRamp (s : State) (d : Nat) : State :=
  let down (s : State) (c : Nat) : State := s.put (fCEL_CSTAT_TARGET c) (min 240 (s.get (fCEL_CSTAT_PRESENT c)))
  (((s.cellsOf d).foldl down s).beginRamp d .stopRamp).afterStep d

/-- The soft stop of R97 with its delay. -/
def State.beginStop (s : State) (d : Nat) : State :=
  (s.beginOff d .stopDelay).updDom d fun h => { h with delayDue := s.now + 1000 * s.get (fCEL_DSTOP_DELAY d) }

/-- A domain switched off by OFF, with FULL or without, or by the block itself (R281-R283, R291, R293). -/
def State.switchOff (s : State) (d : Nat) (full : Bool) : State :=
  let h := s.dom d
  match h.phase with
  | .startDelay | .startRamp | .hiccup => (s.beginOff d .stopRamp).beginStopRamp d
  | .stagesOff => s.beginStop d
  | _ => if full || !s.on (fDOM_CFG_RETAIN d) then s.beginStop d else s.beginRetention d

/-- A command refused under R276. -/
def State.refuseDom (s : State) (d : Nat) : State := s.raise evDOM_CMD_REFUSED d

/-- A write of OFF, FULL or both to DOM_CTL (R281, R283). -/
def State.offCommand (s : State) (d : Nat) (off full : Bool) : State :=
  let st := s.domState d
  if st = 2 && full then (s.updDom d fun h => { h with commanded := 0 }).beginStop d
  else if off && (st = 3 || st = 4) then
    let s1 := s.switchOff d full
    s1.updDom d fun h => { h with commanded := if s1.domState d = 2 || (s1.dom d).phase = .slewRet then 2 else 0 }
  else s.refuseDom d

/-! ### Switching on (R286-R291) -/

/-- The start voltage of R94 of a tract: its feedback, or 0 where that is under range. -/
def State.startCode (s : State) (t : Nat) : Nat :=
  let fb := s.get (fSTN_MIN_CODE t)
  let und : Bool := (s.usableIn t).any fun n => s.get (fSTN_VAL_CODE n) = 240 && s.on (fSTN_VAL_UND n)
  if fb = 240 && und then 0 else fb

/-- The present codes of a domain held at the start voltages of its tracts (R290). -/
def State.holdStart (s : State) (d : Nat) : State :=
  (s.cellsOf d).foldl (fun s c => s.put (fCEL_CSTAT_PRESENT c) (s.startCode (c / 4))) s

/-- A soft stop reversed by ON (R98, R291): the ramp turns upward at once from the present codes, and header stages not yet run
follow. A loop that rests closes, seeded from the present code (R172). -/
def State.reverseStop (s : State) (d : Nat) : State :=
  let s0 := s.setDom d 3 .startRamp
  let s1 := (s0.cellsOf d).foldl (fun s c =>
    if s.alive c && s.mode c ≠ 6 && (8 ≤ (s0.dom d).stagesRun || s.mode c ≠ 0) then s.setMode c 1 else s) s0
  let s2 := (s1.tractsOf d).foldl (fun s t => if s.loopState t = 5 then (s.seedStart t (s.present t)).closeLoop t (s.setOf t) else s) s1
  ((s2.retarget d).beginRamp d .startRamp).afterStep d

/-- A switch-on accepted; a cell that carries the rail of a domain in Retention has joined it already, the phases of the others wait for
their header stages: from Off, from Retention, or as a reversal of Switching off (R287, R288, R290, R291). -/
def State.switchOn (s : State) (d : Nat) : State :=
  let h := s.dom d
  let fresh (ph : DomPhase) (s : State) : State :=
    (((s.cellsOf d).foldl (fun s c => s.updCell c fun h => { h with bars := if s.mode c = 4 then 0 else 3 }) s).setDom d 3 ph).updDom d fun h => { h with stagesRun := 0, stageDue := s.now, stageOk := false, waitFrom := none, slow := false }
  match s.domState d with
  | 2 => fresh .stagesRet s
  | 5 =>
    let due (s : State) : State := s.updDom d fun h => { h with stageOk := false, waitFrom := none, stageDue := max s.now h.stageDue }
    if h.phase = .slewRet then
      if h.stagesRun < 8 then (due (s.setDom d 3 .stagesRet)).retarget d
      else ((s.setDom d 3 .slewUp).retarget d).afterStep d
    else due (s.reverseStop d)
  | _ => fresh .stagesOff (s.holdStart d)

/-- An ON accepted during an entry leaves the domain where it is: its column of Table 6.3 is Unpowered, or Retention, where it is or
is going; or its clocks are about to stop, and it follows at the wake (R293, R297, R306; notes/assumptions/123.md). -/
def State.onWaits (s : State) (d : Nat) : Bool :=
  s.on fPST_STATE_ENTERING && (s.pst.target = 4 || s.pst.stopAt.isSome || s.pst.commitAt.isSome
    || ((s.pst.target = 3 || s.classOf d ≠ 3) && (s.domState d = 2 || (s.dom d).phase = .slewRet)))

/-- A write of ON to DOM_CTL (R286), refused during thermal shutdown (R396). -/
def State.onCommand (s : State) (d : Nat) : State :=
  if s.mayStart d && s.runOrIdle && !s.shut then
    let s1 := s.updDom d fun h => { h with commanded := 1 }
    if s.onWaits d then s1 else s1.switchOn d
  else s.refuseDom d

/-- A write to DOM_CTL. -/
def State.writeDomCtl (s : State) (d : Nat) (v : Word) : State :=
  let on : Bool := bitsAt v 0 1 = 1
  let off : Bool := bitsAt v 1 1 = 1
  let full : Bool := bitsAt v 2 1 = 1
  if !on && !off && !full then s
  else if s.domState d = 0 || (on && (off || full)) then s.refuseDom d
  else if on then s.onCommand d
  else s.offCommand d off full

/-! ### Header stages, ramps and slews -/

/-- Stage `k` admits phase k / 4 of cell k mod 4 in each tract of a domain; the slot of a cell that is not healthy is skipped
(R287, R288, R290). -/
def State.stageAdmits (s : State) (d k : Nat) : State :=
  (s.tractsOf d).foldl (fun s t =>
    let c := 4 * t + k % 4
    let m := match (s.dom d).phase with
      | .stagesOff => 4
      | .startRamp => 1
      | _ => s.loadMode t
    if s.healthy c then (if s.mode c = 0 then s.setMode c m else s).updCell c fun h => { h with bars := setBitN h.bars (k / 4) false }
    else s) s

/-- HEADER_STAGE: the next stage of a switch-on, due and cleared by the inrush comparison, admits its phase slot in every
tract (R287, R288, R290, R263). -/
def execHeaderStage (d : Fin 32) (s : State) : Host.Outcome State Fault Refusal :=
  let h := s.dom d
  let dd := d.val
  .next (if h.phase.staging && h.stagesRun < 8 && h.stageOk && h.stageDue ≤ s.now then
      let k := h.stagesRun
      let s0 := s.put (fDOM_DSTAT_STAGE dd) k
      let s1 := if k = 0 && h.phase = .stagesRet then
          (s0.tractsOf dd).foldl (fun s t =>
            if s.stopped t then s
            else (s.seedStart t (s.get (fDOM_CFG_RET dd))).closeLoop t (s.setOf t)) s0
        else s0
      let s2 := (s1.stageAdmits dd k).updDom dd fun h =>
        { h with stagesRun := k + 1, stageOk := false, stageDue := s.now + (if h.slow then 2000 else 500), slow := false }
      let s3 := if k = 0 then s2.retarget dd else s2
      if k < 7 then s3
      else match h.phase with
        | .stagesRet => (s3.updDom dd fun h => { h with phase := .slewUp }).afterStep dd
        | .startRamp => s3.afterStep dd
        | _ => s3.beginDelay dd
    else s)

/-- SOFT_START_DELAY_END: the ramp begins from the start voltage, with the loop histories of R172 (R94). -/
def execSoftStartDelayEnd (d : Fin 32) (s : State) : Host.Outcome State Fault Refusal :=
  let h := s.dom d
  .next (if h.phase = .startDelay && h.delayDue ≤ s.now then
      let s1 := s.holdStart d
      let s2 := (s1.tractsOf d).foldl (fun s t =>
        if s.stopped t then s else (s.seedStart t (s.startCode t)).closeLoop t (s.setOf t)) s1
      ((s2.retarget d).beginRamp d .startRamp).afterStep d
    else s)

/-- SOFT_STOP_DELAY_END: the stop ramp begins (R97). -/
def execSoftStopDelayEnd (d : Fin 32) (s : State) : Host.Outcome State Fault Refusal :=
  let h := s.dom d
  .next (if h.phase = .stopDelay && h.delayDue ≤ s.now then s.beginStopRamp d else s)

/-- When the present code of a cell may move next: at the end of the ramp's k-th step, or at its cadence (R93, R94, R97,
R178). -/
def State.stepAt (s : State) (c : Nat) : Nat :=
  let h := s.dom (s.domOf (c / 4))
  match h.phase with
  | .startRamp | .stopRamp => h.rampAt + ceilN (((s.cell c).rampSteps + 1) * 1250000) (max 1 h.rate)
  | _ => (s.cell c).stepDue

/-- The present codes of a domain move in its state (R93, R290), open-hold of the cell's tract apart (R184). -/
def State.moves (s : State) (c : Nat) : Bool :=
  let d := s.domOf (c / 4)
  let h := s.dom d
  let live : Bool := match h.phase with
    | .rest => s.domState d = 4
    | .stagesRet => 0 < h.stagesRun
    | .slewUp | .slewRet | .startRamp | .stopRamp => true
    | _ => false
  d < 32 && live && !s.frozen (c / 4)

/-- PRESENT_CODE_STEP: the present code of a cell moves one code toward its target at its step time. -/
def execPresentCodeStep (c : Fin 256) (s : State) : Host.Outcome State Fault Refusal :=
  let cc := c.val
  let d := s.domOf (cc / 4)
  let p := s.get (fCEL_CSTAT_PRESENT cc)
  let tgt := s.get (fCEL_CSTAT_TARGET cc)
  .next (if s.moves cc && p ≠ tgt && s.stepAt cc ≤ s.now then
      let s1 := s.put (fCEL_CSTAT_PRESENT cc) (if p < tgt then p + 1 else p - 1)
      let iv := s.stepIv d
      ((s1.updCell cc fun h =>
        { h with stepDue := if s.now < h.stepDue + iv then h.stepDue + iv else s.now + iv, rampSteps := h.rampSteps + 1 }).judgePulse (cc / 4)).afterStep d
    else s)

/-- RET_LOW: a Retention rail more than 32 codes low for 1 ms (R284); a new event only after it has recovered (R656). -/
def execRetLow (d : Fin 32) (s : State) : Host.Outcome State Fault Refusal :=
  .next (match (s.dom d).lowFrom with
    | none => s
    | some a =>
      if a + 1000000 ≤ s.now && !(s.dom d).lowOn then (s.updDom d fun h => { h with lowOn := true }).raise evDOM_RET_LOW d
      else s)

end Sys2Proof.Machine
end

