-- ==== Sys2Proof/Machine/SettingOut.lean ====
section
/-!
DEFINITION. Setting-out (chapter 4, R28-R31, R51, R52, R62-R65): pegs, plan fetches, instances, lifts, feed-forward and
the quality counters.
-/

namespace Sys2Proof.Machine

/-! ### Records (Table 4.2, R211) -/

/-- A little-endian number in a record or header. -/
def le (b : List Byte) (lo n : Nat) : Nat := leNat ((b.drop lo).take n)

/-- A byte of a record. -/
def byteOf (b : List Byte) (k : Nat) : Nat := (b.getD k 0).toNat

/-- DMASK bit of a domain, DI of a class, LEAD, PROFILE, RISE, the flags NOFF, NOLIFT and RETURN, and DURATION. -/
def rDomain (b : List Byte) (d : Nat) : Bool := bitN (le b 4 4) d
def rDelta (b : List Byte) (k : Nat) : Int := signed 16 (le b (8 + 2 * k) 2)
def rLead (b : List Byte) : Nat := 16 * le b 16 2
def rProfile (b : List Byte) : Nat := byteOf b 18 / 64
def rRise (b : List Byte) : Nat := byteOf b 18 % 64
def rNoff (b : List Byte) : Bool := bitN (byteOf b 19) 2
def rNolift (b : List Byte) : Bool := bitN (byteOf b 19) 1
def rReturn (b : List Byte) : Bool := bitN (byteOf b 19) 0
def rDuration (b : List Byte) : Nat := le b 20 4

/-- A record malformed under R211 for a peg_mark. -/
def malformed (b : List Byte) (mark : Nat) : Bool :=
  le b 28 4 ≠ (crc32c (b.take 28)).toNat || le b 2 2 ≠ mark || !bitN (byteOf b 19) 7 || byteOf b 19 / 8 % 16 ≠ 0
    || rProfile b = 3 || le b 24 4 ≠ 0

/-- GEN of a record or header. -/
def genOf (b : List Byte) : Nat := le b 0 2

/-- DATA of a setting-out event: sequencer and GEN of the record, 0 for none (Table 13.2). -/
def soData (seq gen : Nat) : Nat := seq * 2 ^ 16 + gen

/-- GEN of an instance's record, 0 for none. -/
def Inst.gen (i : Inst) : Nat := match i.rcd with | none => 0 | some b => genOf b

/-! ### Lifts and requests of an instance (R226-R231, R235-R237) -/

/-- The tracts of the masked domains of a class (N_k of R226). -/
def State.classCount (s : State) (b : List Byte) (k : Nat) : Nat :=
  sumOver (upTo 32) fun d => if rDomain b d && s.classOf d = k then (s.tractsOf d).length else 0

/-- The current step of each tract of a domain for a record, 0.25 A units (R226). -/
def State.deltaOf (s : State) (b : List Byte) (d : Nat) : Int :=
  let k := s.classOf d
  let n := s.classCount b k
  if rDomain b d && 0 < n then roundAway (rDelta b k) n else 0

/-- The domains a record masks that have tracts. -/
def State.maskedBy (s : State) (b : List Byte) : List Nat :=
  (upTo 32).filter fun d => rDomain b d && !(s.tractsOf d).isEmpty

/-- lift_t of R228 in codes: the quotient is exact, in 1/t_rise of 0.25 uV, and rounded up. -/
def State.liftOf (s : State) (b : List Byte) (d t : Nat) : Nat :=
  let di := s.deltaOf b d
  if di ≤ 0 || rNolift b || (rProfile b = 2 && rRise b = 0) then 0
  else
    let rise := if rProfile b = 0 then 40 else max (8 * rRise b) 40
    let num := di.toNat * (s.get (fSO_TRK_PATH_RPATH t) * rise + 100 * s.get (fSO_TRK_PATH_LPATH t))
    ceilN num (4 * 1250 * rise)

/-- L_d of R229. -/
def State.liftDom (s : State) (b : List Byte) (d : Nat) : Nat := maxOver (s.tractsOf d) fun t => s.liftOf b d t

/-- The start S of an instance's lift in a domain (R231). -/
def State.liftStart (s : State) (i : Inst) (b : List Byte) (d : Nat) : Nat :=
  max (i.annAt + rLead b - (s.liftDom b d + 1) * s.slewNs d) i.ready

/-- A continuous-conduction request of instance `no` for a domain (R111, R114). -/
def State.requestCcm (s : State) (d no : Nat) : State :=
  let s1 := s.updDom d fun h => { h with ccm := if h.ccm.contains no then h.ccm else no :: h.ccm }
  (s1.tractsOf d).foldl (fun s t =>
    if s.heldLight t then s else ((s.updTract t fun h => { h with light := false }).applyLoadMode t).judgePulse t) s1

/-- An instance's lift and request start in a domain, or the domain is left out because it is not On (R227, R231). -/
def State.startLift (s : State) (i : Inst) (b : List Byte) (d : Nat) : State × Inst :=
  if (i.lifts.any fun e => e.1 = d) || i.out.contains d then (s, i)
  else if !s.isOn d then (s, { i with out := d :: i.out })
  else
    let i1 := { i with lifts := (d, s.liftDom b d) :: i.lifts }
    (if 0 < rDelta b (s.classOf d) then s.requestCcm d i.no else s, i1)

/-- An instance put back in its place among the awaiting or running ones. -/
def State.putInst (s : State) (i : Inst) : State :=
  let f (l : List Inst) := l.map fun j => if j.no = i.no then i else j
  { s with so := { s.so with awaiting := f s.so.awaiting, running := f s.so.running } }

/-- An instance removed. -/
def State.dropInst (s : State) (no : Nat) : State :=
  let f (l : List Inst) := l.filter fun j => j.no ≠ no
  { s with so := { s.so with awaiting := f s.so.awaiting, running := f s.so.running } }

/-- The lifts in force of some domains taken anew for the event of an instance. -/
def State.reliftAll (s : State) (ds : List Nat) (i : Inst) : State :=
  ds.foldl (fun s d => s.relift d i.idx (soData i.seq i.gen)) s

/-- An instance's lifts start in those of its domains where `due` says so. -/
def State.startLifts (s : State) (i : Inst) (b : List Byte) (due : Nat → Bool) : State × Inst :=
  let ds := (s.maskedBy b).filter due
  let p := ds.foldl (fun (p : State × Inst) d => p.1.startLift p.2 b d) (s, i)
  let s1 := p.1.putInst p.2
  (s1.reliftAll (ds.filter fun d => !(i.lifts.any fun e => e.1 = d)) p.2, p.2)

/-- Lifts withdrawn, requests released and feed-forward not yet injected cancelled (R223, R236, R237, R241). -/
def State.withdraw (s : State) (i : Inst) (cancel : Bool) : State :=
  let ds := i.lifts.map fun e => e.1
  let s1 := (s.putInst { i with lifts := [] }).reliftAll ds i
  let s2 := ds.foldl (fun s d => s.updDom d fun h => { h with ccm := h.ccm.filter fun n => n ≠ i.no }) s1
  if cancel then i.ffs.foldl (fun s e => s.setFf e.1 ((s.tract e.1).ff.filter fun r => r.inst ≠ some i.no)) s2 else s2

/-- Feed-forward of an instance injected with a sign by its profile (R232, R236). -/
def State.inject (s : State) (i : Inst) (b : List Byte) (sign : Int) : State :=
  if rNoff b || rProfile b = 2 then s
  else
    let n := if rProfile b = 1 then max 1 (ceilN (8 * rRise b) 40) else 1
    i.ffs.foldl (fun s e =>
      let v := sign * e.2
      let q := if 0 ≤ v then v / n else -(-v / n)
      if v = 0 then s
      else s.addFf e.1 { startAt := s.now + 10, vals := (v - (n - 1 : Nat) * q) :: List.replicate (n - 1) q, inst := some i.no }) s

/-- A running instance ends, at its time or early (R205, R236, R239). -/
def State.endInst (s : State) (i : Inst) : State :=
  let s1 := s.withdraw i false
  let s2 := match i.rcd with
    | none => s1
    | some b => if rReturn b && !i.plain then s1.inject i b (-1) else s1
  s2.dropInst i.no

/-- The mark of an instance runs on plain feedback from now on (R206). -/
def State.runPlain (s : State) (i : Inst) : State :=
  let s1 := s.withdraw i true
  s1.putInst { i with plain := true, lifts := [], rcd := none, fetch := none }

/-- The instance with a number. -/
def State.instNo (s : State) (no : Nat) : Option Inst := (s.so.awaiting ++ s.so.running).find? fun i => i.no = no

/-! ### PLAN memory (R213, R217, R218) -/

/-- The slot that holds a usable record of a plan index of the generation held (R213). -/
def State.hitSlot (s : State) (idx : Nat) : Option (Nat × PlanSlot) :=
  if s.on fSO_GEN_VALID then s.so.slots.find? fun e => e.2.idx = idx && e.2.usable && e.2.gen = s.get fSO_GEN_GEN else none

/-- A plan index is pinned by an awaiting or running instance. -/
def State.pinned (s : State) (idx : Nat) : Bool := (s.so.awaiting ++ s.so.running).any fun i => i.idx = idx

/-- A slot of PLAN memory set. -/
def State.putSlot (s : State) (k : Nat) (x : PlanSlot) : State := { s with so := { s.so with slots := tblSet (fun _ => {}) s.so.slots k x } }

/-- A resident record made unusable (R223, R225). -/
def State.spoil (s : State) (idx stamp : Nat) : State :=
  match s.so.slots.find? fun e => e.2.idx = idx && e.2.stamp = stamp with
  | none => s
  | some e => if stamp = 0 then s else s.putSlot e.1 { e.2 with usable := false }

/-- Every slot of PLAN memory holds a record, and each is pinned (R217). -/
def State.allPinned (s : State) : Bool := decide (2048 ≤ (s.so.slots.filter fun e => e.2.stamp ≠ 0 && s.pinned e.2.idx).length)

/-- The slot that a fetched record takes: a free one, or the least recently used unpinned one (R217). -/
def State.slotFor (s : State) : Option Nat :=
  match (upTo 2048).find? fun k => (tblGet (fun _ => {}) s.so.slots k : PlanSlot).stamp = 0 with
  | some k => some k
  | none =>
    ((s.so.slots.filter fun e => !s.pinned e.2.idx).foldl
      (fun (o : Option (Nat × PlanSlot)) e => match o with
        | none => some e
        | some m => if e.2.used < m.2.used then some e else some m) none).map fun e => e.1

/-- Usable records of PLAN memory, as SO_LOAD.RESIDENT shows them. -/
def State.resident (s : State) : Nat :=
  (s.so.slots.filter fun e => e.2.usable && s.on fSO_GEN_VALID && e.2.gen = s.get fSO_GEN_GEN).length

/-- SO_LOAD as it reads. -/
def State.soLoadWord (s : State) : Nat := s.resident * 2 ^ 16 + s.so.queue.length * 2 ^ 8 + s.so.reads.length

/-- SO_TRK_STAT[t] as it reads: DI sums the current steps of the running instances. -/
def State.soTrkWord (s : State) (t : Nat) : Nat :=
  let d := s.domOf t
  let di := s.so.running.foldl (fun (a : Int) i => match i.rcd with
    | none => a
    | some b => if d < 32 then a + s.deltaOf b d else a) 0
  unsigned 16 (clampI (-32768) 32767 di) * 2 ^ 16 + s.get (fSO_TRK_STAT_FFPEND t)

/-! ### Fetches and reads (R208, R213-R216, R220-R225) -/

/-- The record read of a fetch may be issued: it is not held, or its header read has completed (R208). -/
def Fetch.recordReady (f : Fetch) : Bool := !f.recIssued && (!f.held || f.hdr.isSome)

/-- Reads that wait for nothing but an identifier: the header re-read of the arrives that wait, and those of started
fetches. -/
def State.idsWanted (s : State) : Nat :=
  b2n (!s.so.arrives.isEmpty) +
    (s.so.fetches.filter fun f => !s.so.queue.contains f.no).foldl (fun a f => a + b2n (!f.hdrIssued) + b2n f.recordReady) 0

/-- Identifiers neither in flight nor wanted by a read that waits for nothing else. -/
def State.freeIds (s : State) : Nat := 32 - s.so.reads.length - s.idsWanted

/-- A fetch leaves the queue, or never joins it: its record read is held for its header read while no header read has
completed since EN was set (R208). -/
def State.startFetch (s : State) (no : Nat) : State :=
  { s with so := { s.so with
    queue := s.so.queue.filter fun n => n ≠ no
    fetches := s.so.fetches.map fun f => if f.no = no then { f with held := !s.on fSO_GEN_VALID } else f } }

/-- Fetches that wait leave the queue in order, each once an identifier is free for one of its reads (R213, R214, R225;
DESIGN CHOICE, notes/assumptions/106.md). -/
def State.pump (s : State) : State :=
  (upTo 32).foldl (fun s _ => match s.so.queue with
    | [] => s
    | no :: _ => if 1 ≤ s.freeIds then s.startFetch no else s) s

/-- A fetch ends without a record for its instance, which runs on plain feedback. Its header read, where it is in flight,
still gives SO_GEN and COUNT (R220). -/
def State.failFetch (s : State) (f : Fetch) : State :=
  let s1 := { s with so := { s.so with
    fetches := s.so.fetches.filter fun g => g.no ≠ f.no
    queue := s.so.queue.filter fun n => n ≠ f.no
    reads := s.so.reads.map fun r => if r.fetch = some f.no then { r with fetch := none, live := r.live && r.header } else r } }
  match (s1.so.awaiting.find? fun i => i.fetch = some f.no) with
  | none => s1
  | some i => s1.runPlain i

/-- A fetch updated in its place. -/
def State.putFetch (s : State) (f : Fetch) : State :=
  { s with so := { s.so with fetches := s.so.fetches.map fun g => if g.no = f.no then f else g } }

/-- The address of the window's base, its limit, and of the record of a plan index (R207, R209). -/
def State.winBase (s : State) : Nat := s.get fSO_WIN_BASE_ADDR * 2 ^ 16
def State.winLimit (s : State) : Nat := s.get fSO_WIN_LIMIT_ADDR * 2 ^ 16
def State.recordAddr (s : State) (idx : Nat) : Nat := s.winBase + 32 + 32 * idx

/-- A read of 32 bytes lies in the window. -/
def State.inWindow (s : State) (a : Nat) : Bool := s.winBase ≤ a && a + 32 ≤ s.winLimit

/-- The lowest identifier not in flight. -/
def State.freeRid (s : State) : Nat := ((upTo 32).find? fun k => !(s.so.reads.any fun r => r.rid = k)).getD 0

/-- A plan read issued for a plan index and sequencer; a header read takes the arrives that wait (R222). -/
def State.issueRead (s : State) (header : Bool) (fetch : Option Nat) (idx seq : Nat) : State :=
  let r : PlanRead := { rid := s.freeRid, addr := if header then s.winBase else s.recordAddr idx, header := header,
                        idx := idx, seq := seq, fetch := fetch, arrives := if header then s.so.arrives else [],
                        since := s.now, order := s.so.next, live := true }
  { s with so := { s.so with reads := s.so.reads ++ [r], next := s.so.next + 1, arrives := if header then [] else s.so.arrives } }

/-- A fetch started and with a read that may be issued: its header, or its record once that is not held for the header. -/
def State.issuable (s : State) (f : Fetch) : Bool := !s.so.queue.contains f.no && (!f.hdrIssued || f.recordReady)

/-- The COUNT that tests the record read of a fetch: that of its own header read where it is held for it, else that of the
most recently completed one (R208). -/
def State.countFor (s : State) (f : Fetch) : Nat := if f.held then (f.hdr.map fun h => h.2).getD 0 else s.so.count

/-- The next read of a fetch issued, or its record read refused at the window or COUNT (R208, R213). -/
def State.issueFetch (s : State) (f : Fetch) : State :=
  if !f.hdrIssued then
    if s.inWindow s.winBase then (s.putFetch { f with hdrIssued := true }).issueRead true (some f.no) f.idx f.seq
    else (s.failFetch f).raiseD evSO_WINDOW f.idx (soData f.seq 0)
  else if s.inWindow (s.recordAddr f.idx) && f.idx < s.countFor f then
    (s.putFetch { f with recIssued := true }).issueRead false (some f.no) f.idx f.seq
  else (s.failFetch f).raiseD evSO_WINDOW f.idx (soData f.seq 0)

/-- The header re-read of the arrives that wait (R222, R225). -/
def State.issueReread (s : State) : State :=
  match s.so.arrives with
  | [] => s
  | a :: _ => s.issueRead true none a.idx a.seq

/-- FETCH_ISSUE: the next waiting read takes the lowest identifier not in flight, a header re-read first (R213, R222,
R225). -/
def execFetchIssue (s : State) : Host.Outcome State Fault Refusal :=
  .next (if !s.pins.hostPwrgd || 32 ≤ s.so.reads.length then s
    else if !s.so.arrives.isEmpty && s.inWindow s.winBase then s.issueReread.pump
    else match s.so.fetches.find? s.issuable with
      | none => s
      | some f => (s.issueFetch f).pump)

/-- A record accepted: stored in PLAN memory, and usable by the instance that waits for it (R215, R217, R218). Where every
slot has been pinned since its announce it is used and not kept (DESIGN CHOICE, notes/assumptions/106.md). -/
def State.acceptRecord (s : State) (f : Fetch) (b : List Byte) : State :=
  let s1 := { s with so := { s.so with fetches := s.so.fetches.filter fun g => g.no ≠ f.no } }
  let st := s1.so.next
  let s2 : State := match s1.slotFor with
    | none => s1
    | some k =>
      let s2 : State := { s1 with plan := memPutBytes s1.plan (32 * k) b, so := { s1.so with next := st + 1 } }
      let s3 := (upTo 4).foldl (fun s j => s.markGood 3 (4 * k + j)) s2
      s3.putSlot k { idx := f.idx, gen := genOf b, usable := true, stamp := st, used := st }
  match s2.so.awaiting.find? fun i => i.fetch = some f.no with
  | none => s2
  | some i => s2.putInst { i with fetch := none, ready := s.now, rcd := some b, stamp := st }

/-- Both reads of a fetch have completed: the record is checked, its form first, then its generation (R211, R215, R221). That a
malformed record waits for the header read, and that its form goes before a generation that is stale or 0, is the model's
choice (DESIGN CHOICE, notes/assumptions/122.md). -/
def State.judgeFetch (s : State) (f : Fetch) : State :=
  match f.hdr, f.rcd with
  | some h, some b =>
    if malformed b f.mark then (s.failFetch f).raiseD evSO_MALFORMED f.idx (soData f.seq (genOf b))
    else if h.1 = 0 then s.failFetch f
    else if genOf b ≠ h.1 then
      ((s.failFetch f).addSat (fSO_ACC_STALE_COUNT f.seq) 1).raiseD evSO_STALE f.idx (soData f.seq (genOf b))
    else if s.memUsable 3 then s.acceptRecord f b
    else (s.failFetch f).raiseD evSO_FETCH_ERR f.idx (soData f.seq (genOf b))
  | _, _ => s

/-- An arrive whose header read failed (R225). -/
def State.failArrive (s : State) (ev : Ev) (a : Arrive) : State :=
  match a.used with
  | none => s
  | some u =>
    let s1 := s.spoil a.idx u.2
    let s2 := match s1.so.running.find? fun i => i.no = a.inst with
      | none => s1
      | some i => s1.runPlain i
    s2.raiseD ev a.idx (soData a.seq u.1)

/-- An arrive whose header read returned a GEN (R223, R224). -/
def State.judgeArrive (s : State) (gen : Nat) (a : Arrive) : State :=
  match a.used with
  | none => s
  | some u =>
    if gen = u.1 then s.addSat (fSO_ACC_USED_COUNT a.seq) 1
    else
      let s1 := s.spoil a.idx u.2
      let s2 := match s1.so.running.find? fun i => i.no = a.inst with
        | none => s1
        | some i => s1.runPlain i
      (s2.addSat (fSO_ACC_STALE_COUNT a.seq) 1).raiseD evSO_STALE a.idx (soData a.seq u.1)

/-- What a failed read brings: its fetch fails and its arrives are unconfirmed (R65, R216, R225). -/
def State.failRead (s : State) (ev : Ev) (r : PlanRead) : State :=
  let s1 := match r.fetch with
    | none => s
    | some n => match s.so.fetches.find? fun f => f.no = n with
      | none => s
      | some f => (s.failFetch f).raiseD ev f.idx (soData f.seq 0)
  let s2 := r.arrives.foldl (fun s a => s.failArrive ev a) s1
  if r.fetch.isNone && !(r.arrives.any fun a => a.used.isSome) then s2.raiseD ev r.idx (soData r.seq 0) else s2

/-- An identifier returned. -/
def State.freeRead (s : State) (rid : Nat) : State :=
  { s with so := { s.so with reads := s.so.reads.filter fun r => r.rid ≠ rid } }

/-- A header read completes (R220): SO_GEN, COUNT, its arrives and its fetch. -/
def State.headerDone (s : State) (r : PlanRead) (b : List Byte) : State :=
  let newer : Bool := s.so.genOrder < r.order
  let s1 := if newer then (s.put fSO_GEN_GEN (genOf b)) else s
  let s2 := (s1.putB fSO_GEN_VALID true)
  let s3 := { s2 with so := { s2.so with count := le b 4 4, genOrder := max s.so.genOrder r.order } }
  let s4 := r.arrives.foldl (fun s a => s.judgeArrive (genOf b) a) s3
  match r.fetch with
  | none => s4
  | some n => match s4.so.fetches.find? fun f => f.no = n with
    | none => s4
    | some f =>
      let f1 := { f with hdr := some (genOf b, le b 4 4) }
      (s4.putFetch f1).judgeFetch f1

/-- A plan read completes on the bus with `b`, or with an error response; data no longer wanted is discarded (R216). -/
def State.readDone (s : State) (r : PlanRead) (ok : Bool) (b : List Byte) : State :=
  let s1 := s.freeRead r.rid
  (if !r.live then s1
   else if !ok then s1.failRead evSO_FETCH_ERR r
   else if r.header then s1.headerDone r b
   else match r.fetch with
    | none => s1
    | some n => match s1.so.fetches.find? fun f => f.no = n with
      | none => s1
      | some f => (s1.putFetch { f with rcd := some b }).judgeFetch { f with rcd := some b }).pump

/-- The read in flight with an identifier. -/
def State.readNo (s : State) (rid : Nat) : Option PlanRead := s.so.reads.find? fun r => r.rid = rid

/-- HEADER_READ_DONE: the header read of a fetch completes. -/
def execHeaderReadDone (rid : Fin 32) (ok : Bool) (bytes : List Byte) (s : State) : Host.Outcome State Fault Refusal :=
  .next (match s.readNo rid with
    | none => s
    | some r => if r.header then s.readDone r ok bytes else s)

/-- RECORD_READ_DONE: a record read completes; with its header read done too, the record is accepted or discarded. -/
def execRecordReadDone (rid : Fin 32) (ok : Bool) (bytes : List Byte) (s : State) : Host.Outcome State Fault Refusal :=
  .next (match s.readNo rid with
    | none => s
    | some r => if r.header then s else s.readDone r ok bytes)

/-- REREAD_DONE: the header re-read of an arrive completes (R222-R225). -/
def execRereadDone (rid : Fin 32) (ok : Bool) (bytes : List Byte) (s : State) : Host.Outcome State Fault Refusal :=
  .next (match s.readNo rid with
    | none => s
    | some r => if r.header && r.fetch.isNone then s.readDone r ok bytes else s)

/-- FETCH_TIMEOUT: a read not completed 10 us after its handshake fails; its identifier stays in use (R216, R225). -/
def execFetchTimeout (rid : Fin 32) (s : State) : Host.Outcome State Fault Refusal :=
  .next (match s.readNo rid with
    | none => s
    | some r =>
      if r.live && r.since + 10000 ≤ s.now then
        let s1 := { s with so := { s.so with reads := s.so.reads.map fun (q : PlanRead) => if q.rid = r.rid then { q with live := false, arrives := [] } else q } }
        (s1.failRead evSO_FETCH_TO r).pump
      else s)

/-- Plan reads in flight abandoned: failed fetches, and arrives unconfirmed (R52, R62). -/
def State.abandonReads (s : State) : State :=
  let rs := s.so.reads
  let s1 := { s with so := { s.so with reads := [] } }
  (rs.foldl (fun s r => if r.live then s.failRead evSO_FETCH_ERR r else s) s1).pump

/-- Fetches and the header re-read of the arrives that wait would need a read while aon_host_pwrgd is low: they fail at once, the
re-read with one entry where no arrive of it used a record (R52, R225). -/
def State.failWaiting (s : State) : State :=
  let fs := s.so.fetches
  let l := s.so.arrives
  let s1 := fs.foldl (fun s f => (s.failFetch f).raiseD evSO_FETCH_ERR f.idx (soData f.seq 0)) s
  let s2 := l.foldl (fun s a => s.failArrive evSO_FETCH_ERR a) { s1 with so := { s1.so with arrives := [] } }
  match l with
  | [] => s2
  | a :: _ => if l.any fun a => a.used.isSome then s2 else s2.raiseD evSO_FETCH_ERR a.idx (soData a.seq 0)

/-! ### Pegs (R30, R31, R202-R205) -/

/-- A peg at the port: none where it is not seen, dropped or ignored, else its plan index. -/
def State.takePeg (s : State) (q mark : Nat) : State × Option Nat :=
  let last := tblGet (fun _ => 0) s.so.lastPeg q
  if !s.gateLive then (s, none)
  else if !s.runOrIdle || (0 < last && s.now + 1 < last + 10) then (s.addSat fSO_PEG_DROP_COUNT 1, none)
  else
    let s1 := { s with so := { s.so with lastPeg := tblSet (fun _ => 0) s.so.lastPeg q (s.now + 1) } }
    if !s1.on fSO_CTL_EN then (s1, none)
    else if !s1.on (fSO_PEGMAP_EN q) then (s1.addSat fSO_PEG_DROP_COUNT 1, none)
    else (s1, some ((s1.get (fSO_PEGMAP_BIAS q) + mark) % 65536))

/-- A hit on a resident record that reads without error: the instance may use it (R213, Table 14.10). For R217 a record is used as
it is accepted and as an announce hits it, at no other event (DESIGN CHOICE, notes/assumptions/122.md). -/
def State.hit (s : State) (i : Inst) (k : Nat) (x : PlanSlot) : State :=
  let s1 := { s with so := { s.so with awaiting := s.so.awaiting ++ [i], next := s.so.next + 1 } }
  if s.memUsable 3 && !s.memBad 3 (32 * k) 32 then
    ((s1.corrects 3 (32 * k) 32).putSlot k { x with used := s1.so.next }).putInst { i with ready := s.now, rcd := some (memBytes s.plan (32 * k) 32), stamp := x.stamp }
  else
    let s2 := (s1.putSlot k { x with usable := false }).putInst { i with plain := true }
    let s3 := if s.memUsable 3 then (s2.addSat (fMEM_MSTAT_UNCORR 3) 1).raiseD evMEM_UNCORR 3 (32 * k) else s2
    s3.raiseD evSO_FETCH_ERR i.idx (soData i.seq x.gen)

/-- A miss: a fetch starts or waits, or the mark runs on plain feedback (R213, R214, R217). -/
def State.miss (s : State) (i : Inst) (mark : Nat) : State :=
  let no := s.so.next
  let opened (i : Inst) (s : State) : State := { s with so := { s.so with awaiting := s.so.awaiting ++ [i] } }
  if s.allPinned then (opened { i with plain := true } s).raiseD evSO_FULL i.idx (soData i.seq 0)
  else
    let f : Fetch := { no := no, idx := i.idx, seq := i.seq, mark := mark }
    let waits : State :=
      let s1 := opened { i with fetch := some no } s
      { s1 with so := { s1.so with fetches := s1.so.fetches ++ [f], queue := s1.so.queue ++ [no], next := no + 1 } }
    if s.so.queue.isEmpty && 1 ≤ s.freeIds then waits.startFetch no
    else if s.so.queue.length < 64 then waits
    else (s.addSat fSO_PEG_DROP_COUNT 1).raiseD evSO_QUEUE_OVF i.idx (soData i.seq 0)

/-- ANNOUNCE: an announce peg opens an awaiting instance, or merges into one (R204, R213). -/
def execAnnounce (q : Fin 16) (mark : Fin 65536) (s : State) : Host.Outcome State Fault Refusal :=
  let p := s.takePeg q mark
  .next (match p.2 with
    | none => p.1
    | some idx =>
      let s1 := p.1
      if s1.so.awaiting.any fun i => i.idx = idx then s1
      else
        let i : Inst := { no := s1.so.next, idx := idx, seq := q, annAt := s.now }
        let s2 := { s1 with so := { s1.so with next := s1.so.next + 1 } }
        match s2.hitSlot idx with
        | some e => s2.hit i e.1 e.2
        | none => s2.miss i mark)

/-- The arrive, a peg of sequencer `q`, of an instance with an accepted and current record (R232, R235). -/
def State.arriveOn (s : State) (q : Nat) (i : Inst) (b : List Byte) : State :=
  let p := s.startLifts i b fun _ => true
  let short : Bool := p.2.lifts.any fun e => 0 < e.2 && !p.1.slewComplete e.1
  let s1 := if short then p.1.addSat (fSO_TIME_SHORT_COUNT q) 1 else p.1
  let ds := (s1.maskedBy b).filter fun d => !p.2.out.contains d
  let ffs := ds.flatMap fun d => (s1.tractsOf d).map fun t =>
    (t, clampI (-32768) 32767 (roundAway (s1.deltaOf b d * s1.getI (fSO_TRK_FF_KFF t)) 64))
  let i1 := { p.2 with ffs := ffs }
  (s1.putInst i1).inject i1 b 1

/-- ARRIVE: an arrive peg turns the awaiting instance of its plan index into a running one, which lasts max(DURATION,
2,000) ns of its record, and waits for a header read (R205, R222, R234-R236); without one it is counted as early and has
no other effect (R205). The re-read of an arrive counted early under R234 for a record of another generation judges no
record: it counts neither as used nor as stale and leaves the slot as it is (DESIGN CHOICE, notes/assumptions/122.md). -/
def execArrive (q : Fin 16) (mark : Fin 65536) (s : State) : Host.Outcome State Fault Refusal :=
  let p := s.takePeg q mark
  .next (match p.2 with
    | none => p.1
    | some idx =>
      let s1 := p.1
      let reread (inst : Nat) (used : Option (Nat × Nat)) (s : State) : State :=
        { s with so := { s.so with arrives := s.so.arrives ++ [{ inst := inst, idx := idx, seq := q, used := used }] } }
      match s1.so.awaiting.find? fun i => i.idx = idx with
      | none => s1.addSat (fSO_TIME_EARLY_COUNT q) 1
      | some i =>
        let s2 := match s1.so.running.find? fun j => j.idx = idx with
          | none => s1
          | some j => s1.endInst j
        let i1 := { i with arrAt := s.now, dur := max (match i.rcd with | some b => rDuration b | none => 0) 2000 }
        let s3 := { s2 with so := { s2.so with awaiting := s2.so.awaiting.filter fun j => j.no ≠ i.no, running := s2.so.running ++ [i1] } }
        match i.rcd with
        | none =>
          if i.plain then reread i.no none s3
          else reread i.no none ((s3.runPlain i1).addSat (fSO_TIME_EARLY_COUNT q) 1)
        | some b =>
          if genOf b = s3.get fSO_GEN_GEN then reread i.no (some (genOf b, i.stamp)) (s3.arriveOn q i1 b)
          else reread i.no none ((s3.runPlain i1).addSat (fSO_TIME_EARLY_COUNT q) 1))

/-! ### Times of an instance -/

/-- LIFT_START: the awaiting instance of a plan index starts its lift in every domain whose time S has come (R231). -/
def execLiftStart (idx : Fin 65536) (s : State) : Host.Outcome State Fault Refusal :=
  .next (match s.so.awaiting.find? fun i => i.idx = idx.val with
    | none => s
    | some i => match i.rcd with
      | none => s
      | some b => (s.startLifts i b fun d => decide (s.liftStart i b d ≤ s.now)).1)

/-- STEP_END: a running instance ends at its arrive plus max(DURATION, 2,000) ns (R236). -/
def execStepEnd (idx : Fin 65536) (s : State) : Host.Outcome State Fault Refusal :=
  .next (match s.so.running.find? fun i => i.idx = idx.val with
    | none => s
    | some i =>
      if i.arrAt + i.dur ≤ s.now then s.endInst i else s)

/-- MARK_MISS: an awaiting instance with no arrive by P plus GRACE closes as missed (R238). -/
def execMarkMiss (idx : Fin 65536) (s : State) : Host.Outcome State Fault Refusal :=
  .next (match s.so.awaiting.find? fun i => i.idx = idx.val with
    | none => s
    | some i => match i.rcd with
      | none => s
      | some b =>
        if i.annAt + rLead b + 1000 * s.get fSO_CFG_GRACE ≤ s.now then
          ((s.withdraw i true).dropInst i.no).addSat (fSO_TIME_MISS_COUNT i.seq) 1
        else s)

/-! ### Enable, disable, counters (R209, R240, R241, R614) -/

/-- Setting-out closes: every instance without counting, feed-forward of setting-out not yet injected cancelled (that of
links stays, R252), every resident record unusable, reads in flight discarded (R241). -/
def State.soDisable (s : State) : State :=
  let is := s.so.awaiting ++ s.so.running
  let s1 := is.foldl (fun s i => (s.withdraw i true).dropInst i.no) s
  let own (s : State) (t : Nat) : State :=
    if (s.tract t).ff.any fun r => r.inst.isSome then s.setFf t ((s.tract t).ff.filter fun r => r.inst.isNone) else s
  let s2 := ((upTo 64).foldl own s1).putB fSO_GEN_VALID false
  { s2 with so := { s2.so with
    fetches := [], queue := [], arrives := []
    reads := s2.so.reads.map fun r => { r with live := false, fetch := none, arrives := [] }
    slots := s2.so.slots.map fun e => (e.1, { e.2 with usable := false }) } }

/-- What a block reset and an entry to Off leave of setting-out: the reads in flight, whose data is discarded and whose
identifiers stay in use until they complete (R216, R241). -/
def SoHid.closed (h : SoHid) : SoHid :=
  { reads := h.reads.map fun r => { r with live := false, fetch := none, arrives := [] }, next := h.next }

/-- Setting-out closed by the block itself: EN reads 0 until host software sets it again (R241, R308, R396). -/
def State.soClose (s : State) : State := (s.putHw fSO_CTL_EN 0).soDisable

/-- The counters of Table 4.3 and SO_PEG_DROP cleared (R240). -/
def State.soClear (s : State) : State :=
  let s1 := forEach (upTo 16) (fun q s =>
    ((((s.put (fSO_ACC_USED_COUNT q) 0).put (fSO_ACC_STALE_COUNT q) 0).put (fSO_TIME_EARLY_COUNT q) 0).put (fSO_TIME_SHORT_COUNT q) 0).put (fSO_TIME_MISS_COUNT q) 0) s
  s1.put fSO_PEG_DROP_COUNT 0

/-- A write to SO_CTL: EN set or refused, EN cleared, and CLR (R209, R240, R241, R614); EN stays 0 during thermal shutdown (R396). -/
def State.writeSoCtl (s : State) (en clr : Bool) : State :=
  let s1 := if clr then s.soClear else s
  let was := s1.on fSO_CTL_EN
  if en && !was && s1.shut then s1
  else if en && !was then
    let bad : Bool := s1.winLimit ≤ s1.winBase
    let s2 := if bad then s1.raiseD evSO_WINDOW 0xFFFF 0 else s1
    let s3 := if s1.memUsable 3 then s2 else s2.raise evMEM_REFUSED 3
    if bad || !s1.memUsable 3 then s3 else s3.putB fSO_CTL_EN true
  else if !en && was then (s1.putB fSO_CTL_EN false).soDisable
  else s1

end Sys2Proof.Machine
end

