-- ==== Sys2Proof/Machine/Ib.lean ====
section
/-!
DEFINITION. The IB stage (chapter 7): set-point, tracking, closed loop, thermal balancing and shedding of phases,
hysteretic control, soft start and admission, faults, and VIN disturbances.
-/

namespace Sys2Proof.Machine

/-! ### VSEL and tracking (R320-R328) -/

/-- IB_REF_STEP: the reference moves toward its goal at SLEW, or at RAMP in soft start and on a wake (R330, R352-R355). -/
def execIbRefStep (s : State) : Host.Outcome State Fault Refusal :=
  .next (if s.ibMode = 0 || s.ib.ssWait.isSome || (s.refTravel = 0 && s.ib.refUv ≠ s.refGoal) then s else s.moveRef)

/-- VSEL_ACCEPT: a value read the same in 4 cycles is accepted; applied at once, after the dwell, or, outside Run and Idle,
when the block is back in Run (R321, R322, R328). -/
def execVselAccept (vsel : Fin 8) (s : State) : Host.Outcome State Fault Refusal :=
  .next (if s.por then s else (s.put fIBS_STATE_VSEL vsel.val).offerVsel)

/-- VSEL_DWELL_END: 100 us after the latest change the latest accepted value is applied, if it differs (R322). -/
def execVselDwellEnd (s : State) : Host.Outcome State Fault Refusal :=
  .next (match s.ib.vselAt with
    | none => s
    | some a =>
      if s.on fIBS_STATE_DWELL && a + 100000 ≤ s.now then
        if s.get fIBS_STATE_VSEL = s.ib.vselForce || !s.runOrIdle then s.putB fIBS_STATE_DWELL false
        else s.changeVsel (s.get fIBS_STATE_VSEL)
      else s)

/-- OFFSET + GAIN x V_track / 1.25 mV for V_track = num / den uV, rounded half upward and limited (R324). -/
def State.trackCode (s : State) (num den : Nat) : Nat :=
  let x := s.getI fIBS_TRACK_OFFSET * 16384 * 1250 * den + (s.get fIBS_TRACK_GAIN * num : Nat)
  natOf (clampI 1200 1680 (roundHalfUp x (16384 * 1250 * den)))

/-- The sum of high / period over pulse periods, as a fraction. -/
def dutySum : List (Nat × Nat × Nat) → Nat × Nat
  | [] => (0, 1)
  | (_, h, p) :: l => let r := dutySum l; (h * r.2 + r.1 * p, p * r.2)

/-- TRACK_UPDATE: every 10 us, in Run and Idle, the tracked target is recomputed (R324-R328). -/
def execTrackUpdate (s : State) : Host.Outcome State Fault Refusal :=
  let src := s.get fIBS_CTL_SRC
  let s0 := s.updIb fun h => { h with trkSum := 0, trkCnt := 0 }
  let keep (c : Nat) (s : State) : State := (s.setIbTarget c).updIb fun h => { h with trkTarget := c }
  .next (if src = 0 then s
    else if !s.runOrIdle then s0
    else if src = 1 then
      if s.ib.trkCnt = 0 then s0 else keep (s.trackCode (s.ib.trkSum * 1200000) (16384 * s.ib.trkCnt)) s0
    else if s.on fIBS_STATE_TRACK_HOLD then s0
    else
      let recent := s.ib.trkRuns.filter fun r => s.now ≤ r.1 + 10000
      let use := if recent.isEmpty then s.ib.trkRuns.take 1 else recent
      if use.isEmpty then s0
      else let d := dutySum use; keep (s.trackCode (d.1 * 1200000) (d.2 * use.length)) s0)

/-- The tracked target is held (R327). -/
def State.holdTrack (s : State) : State :=
  let s1 := (s.putB fIBS_STATE_TRACK_HOLD true).updIb fun h => { h with trkGood := 0 }
  s1.raiseIf (!s.on fIBS_STATE_TRACK_HOLD) evIBS_TRACK_RANGE 0xFFFF

/-- A pulse period completed at a rising edge, in 2.5 ns ticks (R326, R327). -/
def State.trackPeriod (s : State) (rise fall : Nat) : State :=
  let t (x : Nat) := x * 2 / 5
  let p := t s.now - t rise
  if 200 ≤ p && p ≤ 40000 then
    let n := min 8 (s.ib.trkGood + 1)
    let s1 := s.updIb fun h =>
      { h with trkGood := n, trkRuns := (s.now, t fall - t rise, p) :: h.trkRuns.filter fun r => s.now ≤ r.1 + 10000 }
    if n = 8 then s1.putB fIBS_STATE_TRACK_HOLD false else s1
  else s.holdTrack

/-- TRACK_IN_EDGE: an edge of TRACK_IN to `level` is timestamped; a rising one completes a period (R326, R327). -/
def execTrackInEdge (level : Bool) (s : State) : Host.Outcome State Fault Refusal :=
  let s1 := s.updIb fun h => if level then { h with trkEdge := some s.now, trkRise := some s.now, trkFall := none }
    else { h with trkEdge := some s.now, trkFall := some s.now }
  .next (if s.get fIBS_CTL_SRC ≠ 2 then s
    else if level then
      match s.ib.trkRise, s.ib.trkFall with
      | some r, some f => s1.trackPeriod r f
      | _, _ => s1
    else s1)

/-- TRACK_TIMEOUT: 100 us without a TRACK_IN edge hold the tracked target (R327). -/
def execTrackTimeout (s : State) : Host.Outcome State Fault Refusal :=
  .next (if s.get fIBS_CTL_SRC = 2 && s.ib.trkEdge.getD 0 + 100000 ≤ s.now && !s.on fIBS_STATE_TRACK_HOLD then s.holdTrack else s)

/-! ### Readings (R339, R340, R343, R360) -/

/-- The IB reading in uV as a fraction of 16,384. -/
def State.ibUvNum (s : State) : Nat := s.ib.code16 * 2400000

/-- The error in 0.25 mV, rounded half upward from the conversion and held to 16 bits (R339). -/
def State.ibError (s : State) : Int :=
  clampI (-32768) 32767 (roundHalfUp ((s.ib.refUv * 16384 : Nat) - (s.ibUvNum : Int)) (250 * 16384))

/-- The fold factor f of R360 as a fraction: 1.25 r held to 0.25 ... 1. -/
def State.ibFold (s : State) : Nat × Nat :=
  let num := 5 * s.ibUvNum
  let den := 4 * 16384 * s.ib.refUv
  if den = 0 || den ≤ num then (1, 1) else if 4 * num ≤ den then (1, 4) else (num, den)

/-- A phase current in 0.1 A at which the peak comparator sees IPK x f (R360). -/
def State.ibPeaks (s : State) (i : Nat) : Bool := decide (10 * s.get fIBS_LIM_IPK * s.ibFold.1 ≤ i * s.ibFold.2)

/-- r below 0.80. -/
def State.ibFolded (s : State) : Bool := decide (5 * s.ibUvNum < 4 * 16384 * s.ib.refUv)

/-- The total current of the active phases, 0.1 A. -/
def State.ibTotal (s : State) : Int := sumOverI s.actives fun p => s.getI (fIBS_PMEAS_I p)

/-- The IB duty limit in units of w, 2^-16 of full duty. -/
def State.ibDmax (s : State) : Int := divOpen 15 (s.get fIBS_LIM_DMAX * 65536 : Nat) 2000

/-! ### Closed loop (R318, R319, R336-R344, R349, R350) -/

/-- Closed loop may run: lclk, the plat locked, Benchmark ready, Run, Idle or the boot state, an engine alive, and no
thermal shutdown or IB failure (Table 7.1, R486). -/
def State.ibMayClose (s : State) : Bool :=
  s.lclk && s.locked && s.on fADC_STATE_BM_RDY && (s.runOrIdle || s.aon = 5) && !s.on fTRC_ENG_BOTH && !s.shut
    && (s.ibMode = 2 || s.ibMode = 3)

/-- Histories seeded for entry to closed loop (R318). -/
def State.ibSeed (s : State) : State :=
  let e := s.ibError
  let u := sat24 (roundHalfUp (s.ib.refUv * 65536 : Nat) 48000000)
  s.updIb fun h => { h with e1 := e, e2 := e, e3 := e, u1 := u, u2 := u, u3 := u, w := clampI 0 s.ibDmax u }

/-- Entry to closed loop: every admitted, unlatched phase that is not shed by TRIP becomes active, and the means of R348 and
R349 start anew (R318, R347, R351). -/
def State.ibClose (s : State) : State :=
  let s1 := (upTo 16).foldl (fun s p => if s.pAdmitted p && s.pMode p ≠ 6 then (s.setP p 2).updPhase p fun h => { h with trim := 0, limSince := none } else s) s
  ((s1.setIbMode 3).updIb fun h => { h with hysWait := [], lowSince := none, svcAt := if s.ib.svcOn then h.svcAt else s.now, itots := [], itotSum := 0, itotCnt := 0 }).ibSeed

/-- A coefficient of IBS_COEF (Table 3.7). -/
def State.ibCoef (s : State) (j : Nat) : Int := signed 20 (s.get (fIBS_COEF_COEF j))

/-- The accumulator of the IB voltage loop: 28 fractional bits; a product with u has 32 and is reduced by 4 bits. -/
def ibAccumulate (bs as es us : List Int) : Int :=
  let terms := (List.zipWith (fun b e => b * e * 2 ^ 12) bs es) ++ (List.zipWith (fun a u => divOpen 16 (-(a * u)) 16) as us)
  terms.foldl (fun acc x => sat48 (acc + x)) 0

/-- The mode in which a phase joins: diode emulation where that is in force (R350). -/
def State.joinMode (s : State) : Nat := if s.on fIBS_STATE_DE then 4 else 2

/-- A phase is in diode emulation, or would join in it: a shed one with the others (R350), one in hiccup always (R361). -/
def State.emulates (s : State) (p : Nat) : Bool :=
  s.pMode p = 4 || s.pMode p = 5 || (!s.pActive p && s.joinMode = 4)

/-- The on-time code of a phase from its winner, and whether the clamp at DMAX limited it (R342, R344). -/
def State.ibDuty (s : State) (p : Nat) (win : Int) : Nat × Bool :=
  let raw := roundHalfUp (win * s.ib.kvin * 8000) (16384 * 65536)
  let top := 4 * s.get fIBS_LIM_DMAX
  let d := natOf (clampI 0 (top : Nat) raw)
  (if 0 < d && d < 4 * s.get fIBS_LIM_TMIN then (if s.emulates p then 0 else 4 * s.get fIBS_LIM_TMIN) else d, decide ((top : Int) < raw))

/-- The coolest shed phase that no addition waits for. -/
def State.coolestShed (s : State) : Option Nat :=
  ((upTo 16).filter fun p => s.pMode p = 3 && !(s.ib.joins.any fun j => j.1 = p)).foldl (fun (o : Option Nat) p => match o with
    | none => some p
    | some q => if s.getI (fIBS_PMEAS_TEMP p) < s.getI (fIBS_PMEAS_TEMP q) then some p else some q) none

/-- Phases added at once at a high total current, coolest first; each joins at its next turn-on edge (R349). -/
def State.ibAdd (s : State) (avg2 : Int) (tot : Int) : State :=
  let add := 10 * s.get fIBS_SHED_ADD
  let n := s.nAct + s.ib.joins.length
  if 0 < add && decide (((2 * n * add : Nat) : Int) < avg2) then
    let want := natOf ((tot + add - 1) / add) - n
    (List.range want).foldl (fun s _ =>
      match s.coolestShed with
      | none => s
      | some p => s.updIb fun h => { h with joins := h.joins ++ [(p, s.nextTurnOn p)] }) s
  else s

/-- Added phases whose turn-on edge has come are active, their trim 0 (R341, R349). -/
def State.ibJoin (s : State) : State :=
  match s.ib.joins.filter fun j => j.2 ≤ s.now with
  | [] => s
  | l =>
    l.foldl (fun s j => if s.pMode j.1 = 3 then (s.setP j.1 s.joinMode).updPhase j.1 fun h => { h with trim := 0 } else s)
      (s.updIb fun h => { h with joins := h.joins.filter fun j => s.now < j.2 })

/-- Diode emulation at light load (R350). -/
def State.ibDiode (s : State) (avg2 tot : Int) : State :=
  let de := 10 * s.get fIBS_SHED_DE
  if s.on fIBS_STATE_DE then
    if (2 * de : Nat) < tot then
      s.actives.foldl (fun s p => if (s.phase p).rejoin then s else s.setP p 2)
        (s.putB fIBS_STATE_DE false)
    else s
  else if s.on fIBS_CTL_DE_EN && s.nAct = s.get fIBS_SHED_MIN && avg2 < (2 * de : Nat) then
    s.actives.foldl (fun s p => s.setP p 4) (s.putB fIBS_STATE_DE true)
  else s

/-- A phase in a sample, `highest` its highest current since the previous one in 0.1 A: at its limit or not, its peak comparator
having fired or its current being within 1 A of ILIM_eff (R360, R361). A phase that is not active carries no current. -/
def State.ibLimit (s : State) (highest : Nat) (p : Nat) : State :=
  let f := s.ibFold
  let peak : Bool := s.ibPeaks highest
  let at_ : Bool := s.pActive p && (peak || ((s.phase p).peakAt.any fun a => s.ib.sampleAt < a) || decide ((10 * s.get fIBS_LIM_ILIM * f.1 : Nat) ≤ (s.getI (fIBS_PMEAS_I p) + 10) * f.2))
  let bad : Bool := at_ && s.ibFolded
  (s.putB (fIBS_PSTAT_LIMIT p) at_).updPhase p fun h =>
    { h with limSince := if bad then some (h.limSince.getD s.now) else none, okSince := if at_ then s.now else h.okSince,
             peakAt := if peak && s.pActive p then some s.now else h.peakAt }

/-- The winners of the 16 phases in a sample (R336, R340, R342): which phase, whether c_p won, its code, and whether that was
clamped. -/
def State.ibPhases (s : State) (u v : Int) : List (Nat × Bool × Nat × Bool) :=
  let f := s.ibFold
  (upTo 16).map fun p =>
    let c := sat24 (s.ib.w + roundHalfUp ((s.get fIBS_GAIN_KC : Int) * ((10 * s.get fIBS_LIM_ILIM * f.1 : Nat) - s.getI (fIBS_PMEAS_I p) * f.2)) (256 * f.2))
    let x := u + (s.phase p).trim
    let win := min x (min c v)
    (p, decide (win ≠ x ∧ win = c), s.ibDuty p win)

/-- V_IB,meas in uV as a fraction: the mean of the AIN16 conversions of the preceding 1 us, the latest one where there is
none, limited to 1.500-2.200 V (R160, R340). -/
def State.ibMean (s : State) : Nat × Nat :=
  let recent := s.ib.codes16.filter fun c => s.now < c.1 + 1000
  let l := if recent.isEmpty then [s.ib.code16] else recent.map fun c => c.2
  let den := 16384 * l.length
  (clampN (1500000 * den) (2200000 * den) (2400000 * sumOver l id), den)

/-- One computed IB sample: the voltage loop, the VIN-draw loop and the 16 current-limit loops (R336). Its codes are delivered to
every phase, for one that joins takes the latest at its turn-on edge (R338); whether the output history advances is decided by
the active ones (R344). -/
def State.ibCompute (s : State) : State :=
  let h := s.ib
  let e := s.ibError
  let three : Bool := s.get (fIBS_COEF_COEF 0) % 2 = 1
  let bs := [s.ibCoef 1, s.ibCoef 2, s.ibCoef 3] ++ if three then [s.ibCoef 4] else []
  let as := [s.ibCoef 5, s.ibCoef 6] ++ if three then [s.ibCoef 7] else []
  let u := sat24 (reduce 12 (ibAccumulate bs as [e, h.e1, h.e2, h.e3] [h.u1, h.u2, h.u3]))
  let tot := s.ibTotal
  let m := s.ibMean
  let num : Int := (16384 * m.1 : Nat) * tot
  let den : Nat := max 1 (72000000 * h.code17 * m.2)
  let v := sat24 (h.w + roundHalfUp ((s.get fIBS_GAIN_KV : Int) * ((s.get fIBS_VDRAW_ILIM_IN * den : Nat) - num)) (256 * den))
  let ws := s.ibPhases u v
  let acts := ws.filter fun x => s.pActive x.1
  let capped := (acts.filter fun x => x.2.1).length
  let adv : Bool := decide (u ≤ v) && decide (2 * capped < acts.length) && !(acts.any fun x => x.2.2.2)
  let s1 := ws.foldl (fun s x => s.deliver x.1 x.2.2.1) s
  let s2 := s1.updIb fun h =>
    { h with e0 := e, e1 := e, e2 := h.e1, e3 := h.e2, w := clampI 0 s.ibDmax (min u v),
             u1 := if adv then u else h.u1, u2 := if adv then h.u1 else h.u2, u3 := if adv then h.u2 else h.u3 }
  let avg2 := tot + (h.itots.head?.getD tot)
  let s3 := (s2.updIb fun h => { h with itots := [tot], itotSum := h.itotSum + tot, itotCnt := h.itotCnt + 1, sampleAt := s.now })
  ((s3.put fIBS_MEAS_ITOT (natOf tot)).ibAdd avg2 tot).ibDiode avg2 tot

/-- IB_SAMPLE: the voltage loop, the VIN-draw loop and the phase current-limit loops on the latest conversions (R335-R344,
R349, R350). `peaks` are the highest currents of the phases since the previous sample. -/
def execIbSample (peaks : IbPeaks) (s : State) : Host.Outcome State Fault Refusal :=
  .next (if s.ibMode = 3 && s.on fTRC_ENG_BOTH then s.ibHysteretic
    else if !s.ibMayClose || s.ib.ov then s
    else
      let s1 := if s.ibMode = 2 then s.ibClose else s
      (forEach (upTo 16) (fun p s => s.ibLimit (peaks.highest.getD p 0) p) s1).ibCompute)

/-- IB_SAMPLE_LATE: a sample not delivered within 240 ns (R337). -/
def execIbSampleLate (s : State) : Host.Outcome State Fault Refusal :=
  .next (if s.ibMode = 3 then (s.addSat fIBS_LATE_CNT_COUNT 1).raise evIBS_LATE 0xFFFF else s)

/-! ### Conversions of the IB service (R335, R341, R343, R369-R372) -/

/-- Since when a condition on successive readings has held. -/
def since (now : Nat) (c : Bool) (o : Option Nat) : Option Nat := if c then some (o.getD now) else none

/-- How long the IB, read as num / den uV, has been above its over-voltage limit (R367). -/
def State.noteOver (s : State) (num den : Nat) : State :=
  let high : Bool := s.ibMode ≠ 0 && decide (min (s.ib.refUv + 150000) 2200000 * den < num)
  s.updIb fun h => { h with ovSince := since s.now high h.ovSince }

/-- A reading of AIN16: the IB, and how long it has been low (R368). -/
def State.ibReading (s : State) (code : Nat) : State :=
  let low : Bool := s.ibMode = 3 && decide (code * 2400000 < 1600000 * 16384)
  (s.noteOver (code * 2400000) 16384).updIb fun h =>
    { h with code16 := code, codes16 := (s.now, code) :: h.codes16.filter (fun c => s.now < c.1 + 1000), lowSince := since s.now low h.lowSince, lowOn := h.lowOn && low }

/-- A reading of AIN17: k_VIN, V_IN,meas, and how long VIN has been beyond its thresholds (R343, R369-R372). -/
def State.vinReading (s : State) (code : Nat) : State :=
  let lim := clampN (34 * 16384) (62 * 16384) (code * 72)
  let mv := code * 72000
  let th (f : Fld) := s.get f * 500 * 16384
  let high : Bool := decide (th fIBS_VIN_HIGH < mv)
  (s.put fIBS_MEAS_VIN (natOf (divOpen 17 (code * 7200 : Nat) 16384))).updIb fun h =>
    { h with code17 := code, kvin := roundN (48 * 16384 * 16384) lim,
             highSince := since s.now high h.highSince, highOn := h.highOn && high,
             shedSince := since s.now (decide (mv < th fIBS_VIN_SHED)) h.shedSince,
             restoreSince := since s.now (decide (th fIBS_VIN_RESTORE < mv)) h.restoreSince,
             stopSince := since s.now (decide (mv < th fIBS_VIN_STOP)) h.stopSince }

/-- A reading of a phase current: I_p, its balancing trim, and the end of a rejoin (R341, R361). -/
def State.currentReading (s : State) (p : Nat) (code : Int) : State :=
  let i := divOpen 18 (code * 4800) 16384
  let s1 := s.putI (fIBS_PMEAS_I p) i
  let s2 := if s.pActive p then s1.updPhase p fun h => { h with trim := clampI (-1024) 1024 (h.trim + (h.target - i)) } else s1
  if (s2.phase p).rejoin && (s2.phase p).target ≤ i then
    (s2.updPhase p fun h => { h with rejoin := false }).setP p (if s2.on fIBS_STATE_DE then 4 else 2)
  else s2

/-- A reading of a phase temperature. -/
def State.phaseTempReading (s : State) (p code : Nat) : State :=
  s.putI (fIBS_PMEAS_TEMP p) (divOpen 19 ((code * 19200 : Nat) - (85196800 : Int)) 49152)

/-! ### Thermal balancing and shedding (R346-R348) -/

/-- The hottest active phase. -/
def State.hottest (s : State) : Option Nat :=
  s.actives.foldl (fun (o : Option Nat) p => match o with
    | none => some p
    | some q => if s.getI (fIBS_PMEAS_TEMP q) < s.getI (fIBS_PMEAS_TEMP p) then some p else some q) none

/-- One phase at a share update: its shed fraction and HOT; a shed phase at TRIP stays shed, and one shed by TRIP until it
reads below TRIP - 15 degrees (R346, R347). -/
def State.sharePhase (s : State) (sum : Int) (n : Nat) (p : Nat) : State :=
  let t := s.getI (fIBS_PMEAS_TEMP p)
  let maxs := s.get fIBS_SHARE_MAXSHED * 3072
  let hot : Bool := decide ((16 * s.get fIBS_SHARE_HOT : Nat) ≤ t) && s.pAdmitted p
  let raw := natOf (min (maxs : Int) (max 0 ((s.get fIBS_SHARE_GAIN : Int) * (n * t - sum) * 48 / max 1 n)))
  let s1 := s.updPhase p fun h => { h with shed := if !s.pActive p then 0 else if hot then maxs else raw, hot := hot }
  let s2 := s1.raiseIf (hot && !(s.phase p).hot) evIBS_PH_HOT p
  if s.pMode p = 3 && decide ((16 * s.get fIBS_SHARE_TRIP : Nat) ≤ t) then s2.setP p 6
  else if s.pMode p = 6 && t < 16 * ((s.get fIBS_SHARE_TRIP : Int) - 15) then s2.setP p 3
  else s2

/-- IB_SHARE_UPDATE: every 100 us shed fractions and share targets are set, and the hottest active phase is shed, where it is
at TRIP or at light load: at most one phase (R346-R348). -/
def execIbShareUpdate (s : State) : Host.Outcome State Fault Refusal :=
  .next (if s.ibMode ≠ 3 then s
    else
      let l := s.actives
      let sum := sumOverI l fun p => s.getI (fIBS_PMEAS_TEMP p)
      let s1 := forEach (upTo 16) (fun p s => s.sharePhase sum l.length p) s
      let avg := s.ib.itotSum
      let cnt := s.ib.itotCnt
      let light : Bool := s.on fIBS_CTL_SHED_EN && 0 < cnt && s.get fIBS_SHED_MIN < s1.nAct
        && decide (avg < (cnt * (s1.nAct - 1) * 10 * s.get fIBS_SHED_DROP : Nat))
      let s2 := match s1.hottest with
        | some p =>
          if decide ((16 * s1.get fIBS_SHARE_TRIP : Nat) ≤ s1.getI (fIBS_PMEAS_TEMP p)) then s1.setP p 6
          else if light then s1.setP p 3
          else s1
        | none => s1
      let l2 := s2.actives
      let tot := s2.ibTotal
      let wt := sumOver l2 fun p => 307200 - (s2.phase p).shed
      let s3 := l2.foldl (fun s p => s.updPhase p fun h => { h with target := if wt = 0 then 0 else divOpen 20 (tot * (307200 - h.shed : Nat)) wt }) s2
      s3.updIb fun h => { h with itotSum := 0, itotCnt := 0 })

/-! ### Hysteretic control and keep-alive (R351, R353, R359) -/

/-- The next of the hysteretic phases in rotation. -/
def State.nextHys (s : State) : Option Nat :=
  let l := s.hysPhases
  match l.find? fun p => s.ib.hysNext ≤ p with
  | some p => some p
  | none => l.head?

/-- A hysteretic pulse of TON to a phase, which it admits (R351, R358). -/
def State.hysPulse (s : State) (p : Nat) : State :=
  ((s.setP p 2).updPhase p fun h => { h with pulse := some (s.now, s.hysTon) }).updIb fun h =>
    { h with hysNext := p + 1, hysWait := p :: h.hysWait }

/-- The hysteretic controller may issue pulses: in soft start, hysteretic control and keep-alive, no wait or over-voltage in
force (R351, R356, R367). -/
def State.hysActs (s : State) : Bool := (s.ibMode = 1 || s.ibMode = 2 || s.ibMode = 4) && s.ib.ssWait.isNone && !s.ib.ov

/-- The next pulse, to the next phase in rotation, unless its zero-current comparator has yet to fire (R351). -/
def State.nextPulse (s : State) : State :=
  match s.nextHys with
  | none => s
  | some p => if s.ib.hysWait.contains p then s else s.hysPulse p

/-- IB_HYS_PULSE: the IB has fallen below the reference, and pulses are issued until it exceeds the reference plus BAND (R351,
R353, R358). -/
def execIbHysPulse (s : State) : Host.Outcome State Fault Refusal :=
  .next (if s.hysActs then (s.updIb fun h => { h with pulsing := true }).nextPulse else s)

/-- IB_ZCD: a comparator on the current of a phase fires, which one being told by that current: at IPK x f the peak comparator,
which ends the high side in any mode (R360; DEDUCED, notes/assumptions/108.md), else the zero-current comparator: the low side ends and the phase goes to high impedance until its next
turn-on, as `State.pwmOut` shows, and it may take a hysteretic pulse again. Pulses go on with the next phase until the IB
exceeds the reference plus BAND (R350, R351). -/
def execIbZcd (z : ZcdFiring) (s : State) : Host.Outcome State Fault Refusal :=
  let s1 := ((s.noteOver z.ibUv 1).updPhase z.ph fun h => { h with zcdAt := some s.now }).updIb fun h =>
    { h with hysWait := h.hysWait.filter fun p => p ≠ z.ph.val, pulsing := h.pulsing && decide (z.ibUv ≤ s.ib.refUv + s.hysBand) }
  .next (if s.ibPeaks z.amps10 then
      let s2 := s.noteOver z.ibUv 1
      if s.pwmOut z.ph = 1 then s2.updPhase z.ph fun h => { h with peakAt := some s.now } else s2
    else if s.hysActs && s1.ib.pulsing then s1.nextPulse else s1)

/-- Keep-alive: the reference at VKA and the phase that is the lowest-numbered admitted, unlatched one now, with the values of
IBS_KA as they stand on entry, which Monument holds from then on; `off` drops the other admissions (R309, R353, R359). -/
def State.keepAlive (s : State) (off : Bool) : State :=
  if s.ibMode = 0 then s
  else
    let k := s.admitted.head?
    let s0 := if s.ibMode = 4 then s else s.updIb fun h =>
      { h with kaVka := s.get fIBS_KA_VKA, kaTon := s.get fIBS_KA_TON, kaBand := s.get fIBS_KA_BAND }
    let s1 := ((s0.setIbMode 4).updIb fun h => { h with kaPhase := k, ramping := false, ssWait := none, ssTries := 0 })
    let s2 := if off then
        (upTo 16).foldl (fun s p => if s.pAdmitted p && k ≠ some p then s.setP p 1 else s) s1
      else s1
    (s2.setRef (1250 * s2.ib.kaVka)).hysModes

/-- The stage comes back from keep-alive: the reference rises from VKA to the target at RAMP, and admission follows (R354, R398). -/
def State.leaveKeepAlive (s : State) : State :=
  if s.ibMode = 4 then (((s.moveRef).ibHysteretic).ibRamp).updIb fun h => { h with admitAt := s.now + 10000 * s.get fIBS_SS_ADMIT } else s

/-! ### Soft start, admission, failure (R355-R359, R363, R364) -/

/-- No phase has been seen at its limit. -/
def State.clearLimits (s : State) : State := forEach (upTo 16) (fun p s => s.updPhase p fun h => { h with limSince := none }) s

/-- Soft start from an IB reading (R355). -/
def State.ibSoftStart (s : State) (ibUv : Nat) : State :=
  (((((s.clearLimits).setIbMode 1).setRef ibUv).ibRamp).updIb fun h => { h with ssWait := none, hysWait := [], ssFrom := ibUv, ssAt := s.now }).hysModes

/-- Soft start ends at a Monument sample whose IB reading is at or above the target, with the reference there;
at a cold start Benchmark then calibrates for 2 ms (R355, R620, R621). -/
def State.ibSoftStartEnd (s : State) (ibMv : Nat) : State :=
  let g := 1250 * s.get fIBS_TGT_TARGET
  if s.ibMode = 1 && s.ib.ssWait.isNone && g ≤ s.ib.refUv && g ≤ 1000 * ibMv then
    let s1 := (s.ibHysteretic).updIb fun h => { h with ramping := false, ssTries := 0, admitAt := s.now + 10000 * s.get fIBS_SS_ADMIT }
    if s.on fPLAT_STATE_BMDONE || s.boot.bmDue.isSome then s1 else { s1 with boot := { s1.boot with bmDue := some (s.now + 2000000) } }
  else s

/-- Every cell off and every domain Off at once, commanded states kept (R363, R395). -/
def State.allOff (s : State) : State :=
  let s1 := forEach (upTo 256) (fun c s => if s.get (fCEL_CSTAT_MODE c) = 0 then s else s.setMode c 0) s
  (upTo 32).foldl (fun s d => if s.domState d ≤ 1 then s else s.dropDomain d) s1

/-- An IB failure (R363): the stage stopped, every admission lost, every cell and domain off, aon_state 0b101. -/
def State.ibFail (s : State) : State :=
  let s1 := (upTo 16).foldl (fun s p => if s.pAdmitted p then s.setP p 1 else s) (s.setIbMode 0)
  let s2 := (s1.updIb fun h => { h with ssWait := none, ramping := false, hysWait := [] }).allOff
  let s3 := { s2 with pst := { s2.pst with commitAt := none, stopAt := none, forced := false } }
  ((s3.setAon 5).putB fPST_STATE_ENTERING false).raise evIBS_IB_FAIL 0xFFFF

/-- An IB event of Table 11.2 is being set, in closed loop: it may trigger injected sequences in this cycle (R489). -/
def State.noteIbFault (s : State) (e : Ev) : State :=
  if s.ibMode = 3 && !s.stat e then s.updAdc fun a => { a with faultNew := true } else s

/-- A phase latched with its cause (R356, R358, R361, R364). -/
def State.latchPhase (s : State) (p cause : Nat) (ev : Ev) : State :=
  let s1 := (s.setP p 7).put (fIBS_PSTAT_CAUSE p) cause
  (s1.updPhase p fun h => { h with limSince := none, retryDue := none, rejoin := false }).raise ev p

/-- Condition B on a phase: at its limit with r below 0.80 at every observation of 10 us and more (R356). -/
def State.ibCondB (s : State) (p : Nat) : Bool :=
  s.pActive p && (s.phase p).limSince.any fun a => a + 10000 ≤ s.now

/-- What an observation during soft start shows: since when each active phase has been at its limit with the IB below 0.80 of the
reference. -/
def State.noteLimits (s : State) (ibUv : Nat) (ps : BitVec 16) : State :=
  forEach (upTo 16) (fun p s =>
    s.updPhase p fun h => { h with limSince := since s.now (s.pActive p && bitN ps.toNat p && decide (5 * ibUv < 4 * s.ib.refUv)) h.limSince }) s

/-- Condition A on the IB: below 0.20 of the target at 1.5 ramp times after the ramp's start (R356). -/
def State.ibCondA (s : State) (ibUv : Nat) : Bool :=
  let tgt := 1250 * s.get fIBS_TGT_TARGET
  decide (5 * ibUv < tgt) && decide (3000 * (tgt - s.ib.ssFrom) ≤ 2 * (s.now - s.ib.ssAt) * s.get fIBS_SS_RAMP)

/-- IB_SS_FAULT: an observation during soft start: the IB is at `ibUv` and the phases `ps` are at their limit (R360). Where the IB
meets condition A, or phases condition B, having been at their limit with r below 0.80 throughout 10 us: a retry after 1 ms;
after the third, an IB failure, or the latch of those phases with the soft start going on (R356). -/
def execIbSsFault (ibUv : Nat) (ps : BitVec 16) (s : State) : Host.Outcome State Fault Refusal :=
  let s1 := s.noteLimits ibUv ps
  let condA := s.ibCondA ibUv
  let bad := (upTo 16).filter s1.ibCondB
  .next (if s.ibMode ≠ 1 || s.ib.ssWait.isSome then s
    else if !condA && bad.isEmpty then s1
    else if s.ib.ssTries < 3 then
      s1.clearLimits.updIb fun h => { h with ssTries := h.ssTries + 1, ssWait := some (s.now + 1000000), hysWait := [] }
    else if condA then s1.clearLimits.ibFail
    else (bad.foldl (fun s p => s.latchPhase p 0 evIBS_PH_FAILED) s1).hysModes)

/-- IB_SS_RETRY: after 1 ms the soft start runs again from the IB reading (R356, R362). -/
def execIbSsRetry (ibUv : Nat) (s : State) : Host.Outcome State Fault Refusal :=
  .next (match s.ib.ssWait with
    | none => s
    | some a => if a ≤ s.now && s.ibMode = 1 then s.ibSoftStart ibUv else s)

/-- PHASE_ADMIT_CHECK: the test of the next enabled phase not yet admitted ends, whose TON test pulse began when the check was
due; the next one is due ADMIT x 10 us after that (R358). -/
def execPhaseAdmitCheck (pass : Bool) (s : State) : Host.Outcome State Fault Refusal :=
  .next (match s.toAdmit with
    | none => s
    | some p =>
      if s.underTest p && s.ib.admitAt + s.hysTon ≤ s.now then
        let s1 := s.updIb fun h => { h with admitAt := s.now - s.hysTon + 10000 * s.get fIBS_SS_ADMIT }
        if pass then (s1.setP p (if s.ibMode = 3 then s.joinMode else 3)).updPhase p fun h => { h with trim := 0 }
        else (s1.noteIbFault evIBS_STAGE_FAULT).latchPhase p 1 evIBS_STAGE_FAULT
      else s)

/-- STAGE_FAULT: a fault comparator high for 1 us latches an admitted phase at once (R364). -/
def execStageFault (ph : Fin 16) (s : State) : Host.Outcome State Fault Refusal :=
  .next (if s.pAdmitted ph then
      let s1 := (s.noteIbFault evIBS_STAGE_FAULT).latchPhase ph 1 evIBS_STAGE_FAULT
      if s1.ibMode = 3 then s1 else s1.hysModes
    else s)

/-! ### Over-current and over-voltage (R361, R362, R367, R368) -/

/-- IB_PHASE_SHORT: a phase at its limit with r below 0.80 throughout 10 us; where no active phase is left and none in hiccup was
stopped more than 10 us before, a short of the IB (R361, R362). -/
def execIbPhaseShort (ph : Fin 16) (s : State) : Host.Outcome State Fault Refusal :=
  let p := ph.val
  .next (match (s.phase p).limSince with
    | none => s
    | some a =>
      if s.ibMode = 3 && a + 10000 ≤ s.now && s.pActive p then
        let s1 := ((s.noteIbFault evIBS_PH_SHORT).setP p 5).updPhase p fun h => { h with limSince := none, retryDue := some (s.now + 1000000), rejoin := false }
        let s2 := s1.raise evIBS_PH_SHORT p
        let s3 := if s.get (fIBS_PSTAT_RETRY p) = 3 then s2.latchPhase p 0 evIBS_PH_FAILED else s2
        let together : Bool := (upTo 16).all fun q => (s3.phase q).retryDue.all fun b => s.now + 990000 ≤ b
        if s3.actives.isEmpty && together then
          let s4 := (upTo 16).foldl (fun s q => s.updPhase q fun h => { h with retryDue := none }) (s3.setIbMode 1)
          s4.updIb fun h => { h with ssTries := 0, ssWait := some (s.now + 1000000), hysWait := [] }
        else s3
      else s)

/-- IB_PHASE_RETRY: after 1 ms a phase in hiccup rejoins in diode emulation (R361). -/
def execIbPhaseRetry (ph : Fin 16) (s : State) : Host.Outcome State Fault Refusal :=
  .next (match (s.phase ph).retryDue with
    | none => s
    | some a =>
      if a ≤ s.now && s.pMode ph = 5 && s.ibMode = 3 then
        ((s.setP ph 4).addSat (fIBS_PSTAT_RETRY ph) 1).updPhase ph fun h => { h with retryDue := none, rejoin := true, okSince := s.now, trim := 0 }
      else s)

/-- IB_PHASE_RETRY_RESET: 100 ms without a limit event, whether the phase is active or has been shed since (R361). -/
def execIbPhaseRetryReset (ph : Fin 16) (s : State) : Host.Outcome State Fault Refusal :=
  .next (if s.pAdmitted ph && s.pMode ph ≠ 5 && (s.phase ph).okSince + 100000000 ≤ s.now then s.put (fIBS_PSTAT_RETRY ph) 0 else s)

/-- IB_OV: the IB above the reference plus 150 mV, or above 2.200 V, for 2 us: every phase goes to high impedance (R367). -/
def execIbOv (s : State) : Host.Outcome State Fault Refusal :=
  .next (match s.ib.ovSince with
    | none => s
    | some a =>
      if s.ibMode = 0 || s.ib.ov || s.now < a + 2000 then s else ((s.noteIbFault evIBS_IB_OV).updIb fun h => { h with ov := true }).raise evIBS_IB_OV 0xFFFF)

/-- IB_OV_RESUME: with the IB below the reference plus 50 mV, switching resumes; in closed loop the histories are
reseeded (R367). -/
def execIbOvResume (ibUv : Nat) (s : State) : Host.Outcome State Fault Refusal :=
  .next (if s.ib.ov && ibUv < s.ib.refUv + 50000 then
      let s1 := s.updIb fun h => { h with ov := false, ovSince := none, code16 := min 16383 ((2 * ibUv * 16384 + 2399999) / 4800000) }
      if s.ibMode = 3 then s1.ibSeed else s1
    else s)

/-- IB_LOW: the IB below 1.600 V for 10 us in closed loop (R368). -/
def execIbLow (s : State) : Host.Outcome State Fault Refusal :=
  .next (match s.ib.lowSince with
    | none => s
    | some a =>
      if s.ibMode = 3 && a + 10000 ≤ s.now && !s.ib.lowOn then (s.updIb fun h => { h with lowOn := true }).raise evIBS_IB_LOW 0xFFFF
      else s)

/-! ### VIN disturbances (R369-R372) -/

/-- The principal of the package. -/
def State.isPrincipal (s : State) : Bool := s.on fTRV_STATE_ROLE

/-- VIN_HIGH: VIN above HIGH for 10 us (R369). -/
def execVinHigh (s : State) : Host.Outcome State Fault Refusal :=
  .next (match s.ib.highSince with
    | none => s
    | some a => if a + 10000 ≤ s.now && !s.ib.highOn then (s.updIb fun h => { h with highOn := true }).raise evIBS_VIN_HIGH 0xFFFF else s)

/-- Load shedding begins (R370). -/
def State.beginShedding (s : State) : State :=
  if s.shedding then s else (s.putB fIBS_STATE_SHED true).raise evIBS_VIN_SHED 0xFFFF

/-- Load shedding ends (R371). -/
def State.endShedding (s : State) : State := s.putB fIBS_STATE_SHED false

/-- VIN_SHED: every VIN conversion of 50 us below SHED: load shedding, broadcast (R370, R549). -/
def execVinShed (s : State) : Host.Outcome State Fault Refusal :=
  .next (match s.ib.shedSince with
    | none => s
    | some a => if a + 50000 ≤ s.now && !s.shedding then s.beginShedding.sendShed 1 else s)

/-- VIN_RESTORE: the principal's VIN above RESTORE for 1 ms: the end of load shedding, broadcast (R371, R549). -/
def execVinRestore (s : State) : Host.Outcome State Fault Refusal :=
  .next (match s.ib.restoreSince with
    | none => s
    | some a => if a + 1000000 ≤ s.now && s.shedding && s.isPrincipal then s.endShedding.sendShed 2 else s)

/-- The orderly stop of R372: forced pauses at once, the cells off and Off entered 2 us later without the checks of
R296 and without abort. -/
def State.orderlyStop (s : State) : State :=
  if s.aon = 4 || s.pst.orderly then s
  else
    let s1 := { s with cg := { s.cg with allForced := true }, pst := { s.pst with target := 4, orderly := true, commitAt := some (s.now + 2000) } }
    ((s1.soClose).putB fPST_STATE_ENTERING true).raise evIBS_VIN_STOP 0xFFFF

/-- VIN_STOP: every VIN conversion of 10 us below STOP: an orderly stop, broadcast (R372, R549). -/
def execVinStop (s : State) : Host.Outcome State Fault Refusal :=
  .next (match s.ib.stopSince with
    | none => s
    | some a => if a + 10000 ≤ s.now && !s.pst.orderly && s.aon ≠ 4 then s.orderlyStop.sendShed 3 else s)

end Sys2Proof.Machine
end

