-- ==== Sys2Proof/Machine/Thermal.lean ====
section
/-!
DEFINITION. Thermal sensing and protection (chapter 8): site readings and their substitution, the cross-check, comparators
and tract controllers, thermal shutdown with its backup and restart, and the temperature corrections.
-/

namespace Sys2Proof.Machine

/-! ### Sites (R376-R387) -/

/-- A diode site behind its registers, and changed. -/
def State.siteH (s : State) (t : Nat) : SiteHid := tblGet (fun _ => {}) s.thm.sites t
def State.updSite (s : State) (t : Nat) (f : SiteHid → SiteHid) : State :=
  { s with thm := { s.thm with sites := tblSet (fun _ => {}) s.thm.sites t (f (s.siteH t)) } }

/-- The suspect mark of a site. -/
def State.suspect (s : State) (t : Nat) : Bool :=
  if t < 32 then bitN (s.get fTHM_SUSP0_SUSP) t else bitN (s.get fTHM_SUSP1_SUSP) (t - 32)

/-- The suspect mark of a site set or cleared, in THM_SUSP and THM_SITE. -/
def State.setSuspect (s : State) (t : Nat) (b : Bool) : State :=
  let s1 := s.putB (fTHM_SITE_SUSP t) b
  let s2 := if t < 32 then s1.put fTHM_SUSP0_SUSP (setBitN (s.get fTHM_SUSP0_SUSP) t b)
    else s1.put fTHM_SUSP1_SUSP (setBitN (s.get fTHM_SUSP1_SUSP) (t - 32) b)
  if b then s2.markSet (if t < 32 then THM_SUSP0 else THM_SUSP1) (BitVec.ofNat 32 (2 ^ (t % 32))) else s2

/-- Neither suspect nor invalid. -/
def State.siteUsable (s : State) (t : Nat) : Bool := !s.suspect t && !s.on (fTHM_SITE_INVALID t)

/-- The front end's own reading of a site. -/
def State.siteRaw (s : State) (t : Nat) : Int := s.getI (fTHM_RAW_RAW t)

/-- The usable neighbours of a site (R383). -/
def State.usableNear (s : State) (t : Nat) : List Nat := (gridNeighbours t).filter s.siteUsable

/-- The highest of some readings. -/
def State.maxRaw (s : State) : List Nat → Option Int
  | [] => none
  | t :: l => some (match s.maxRaw l with | none => s.siteRaw t | some x => max (s.siteRaw t) x)

/-- The site value of a reading: its own, or what stands in for a suspect or invalid site (R378, R384). -/
def State.substitute (s : State) (t : Nat) : Int :=
  if s.siteUsable t then s.siteRaw t
  else match s.maxRaw (s.usableNear t) with
    | some x => x
    | none => match s.maxRaw ((upTo 64).filter s.siteUsable) with
      | some x => x
      | none => if (s.siteH t).valued then s.site t else 16 * s.get fTHM_THR_THROT

/-- T = q dV / (n k ln 8) - 273.15 degC in 0.0625 degC, for a voltage difference in nV and n = THM_CAL.IDEAL, rounded to the nearest
unit with ties to the lower one, in 16 bits signed (R376, R377). q / k is exact in SI; ln 8 is taken to 21 digits (DEDUCED,
notes/assumptions/84.md). The third bias current leaves nothing of the lead resistance in the difference. -/
def State.diodeTemp (s : State) (dv : Int) : Int :=
  let den : Int := 5 * (max 1 (s.get fTHM_CAL_IDEAL) : Nat) * (1380649 * 207944154167983592825)
  let num : Int := 5 * 16 * 16384 * dv * (16021766340 * 10 ^ 11) - 21852 * (den / 5)
  clampI (-32768) 32767 (-((den - 2 * num) / (2 * den)))

/-- A raw reading taken: out of range, or from a front end out of trim, it makes the site invalid (R378, R381, R387). -/
def State.takeRaw (s : State) (t : Nat) (raw : Int) : State :=
  (s.putI (fTHM_RAW_RAW t) raw).putB (fTHM_SITE_INVALID t)
    (decide (raw < -640) || decide (3200 < raw) || s.thm.untrimmed.contains t)

/-- 4 x (V[m] - (V[m-2] + V[m-3]) / 2), in 0.0625 degC/ms; undefined until V[m-3] exists (R382, R390). -/
def rateOf (v : Int) : List Int → Option Int
  | [_, b, c] => some (4 * v - 2 * (b + c))
  | _ => none

/-- The rate of a site in the reading whose value has been stored. -/
def State.siteRate (s : State) (t : Nat) : Option Int :=
  match (s.siteH t).hist with
  | [v, a, b, c] => rateOf v [a, b, c]
  | _ => none

/-- The rate of a site in the present reading; the spec leaves it undefined until enough values exist (R382): it is free
there, for the register and for the controller alike. -/
def State.rateNow (s : State) (t : Nat) : Int :=
  (s.siteRate t).getD ((Config.openNat 60 [t, s.now] % 65536 : Nat) - 32768)

/-- The value of a site in a reading stored, with its history and its rate. -/
def State.storeValue (s : State) (t : Nat) (v : Int) : State :=
  let s1 := (s.putI (fTHM_SITE_VALUE t) v).updSite t fun h =>
    { h with hist := (v :: h.hist).take 4, valued := h.valued || s.on fTHM_STATE_CALDONE }
  s1.putI (fTHM_RAW_RATE t) (s1.rateNow t)

/-- The hottest site value and the lowest-numbered site that has it, shown in THM_STATE. -/
def State.showHottest (s : State) : State :=
  let h := (upTo 64).foldl (fun b t => if s.site b < s.site t then t else b) 0
  (s.put fTHM_STATE_HSITE h).putI fTHM_STATE_HVAL (s.site h)

/-- In Deep sleep the sites' histories and counts end: after the wake they start anew (R382). -/
def State.restartSites (s : State) : State :=
  let one (p : Nat × SiteHid) : Nat × SiteHid := (p.1, { p.2 with hist := [], far := 0, clearing := 0 })
  { s with thm := { s.thm with hotFirst := none, sites := (s.thm.sites.map one).filter fun p => p.2 ≠ {} } }

/-! ### The cross-check (R383-R386, R394) -/

/-- The expectation of a site with two or more usable neighbours: their median, the lower of two middle values, plus GRAD
(R383). -/
def State.expectation (s : State) (t : Nat) : Option Int :=
  let l := s.usableNear t
  if l.length < 2 then none
  else some ((lowerMedian (l.map fun k => natOf (s.siteRaw k + 32768)) : Int) - 32768 + s.getI (fTHM_GRAD_GRAD t))

/-- How far a usable, cross-checked site lies from its expectation, where that is more than DEV. -/
def State.beyond (s : State) (t : Nat) : Option Nat :=
  if !s.siteUsable t then none
  else match s.expectation t with
    | none => none
    | some e => let d := (s.siteRaw t - e).natAbs; if 16 * s.get fTHM_CFG_DEV < d then some d else none

/-- SHUT in force, 0.0625 degC: the lower of THM_THR.SHUT and the cadastre's cap (Table 8.1). -/
def State.shutCode (s : State) : Int := 16 * min (s.get fTHM_THR_SHUT) (s.get fCAD_THM_SHUTCAP)

/-- A site marked suspect. -/
def State.markSuspect (s : State) (t : Nat) : State :=
  ((s.setSuspect t true).updSite t fun h => { h with far := 0 }).raise evTHM_SUSPECT t

/-- The sites that R394 marks in a reading. -/
def State.markedAtOnce (s : State) : List Nat := (upTo 64).filter fun t => (s.beyond t).isSome && s.shutCode ≤ s.siteRaw t

/-- The cross-check of a reading: CONSENSUS where it cannot be made, which ends only with two or more usable neighbours (R386,
R656), the counts of R384, and the marks. -/
def State.crossCheck (s : State) (now : List Nat) : State :=
  let none_ : Bool := !(upTo 64).any s.siteUsable
  let lone (t : Nat) : Bool :=
    (s.expectation t).isNone && (s.siteUsable t || none_ || (s.siteH t).lone)
  let far (t : Nat) : Nat := if (s.beyond t).isSome then min 10 ((s.siteH t).far + 1) else 0
  let s1 := forEach (upTo 64) (fun t a =>
    (a.updSite t fun h => { h with far := far t, lone := lone t }).raiseIf (lone t && !(s.siteH t).lone) evTHM_CONSENSUS t) s
  if now.isEmpty then
    let pick := ((upTo 64).filter fun t => far t = 10).foldl (fun (o : Option Nat) t => match o with
      | none => some t
      | some u => if (s.beyond u).getD 0 < (s.beyond t).getD 0 then some t else some u) none
    match pick with
    | none => s1
    | some t => s1.markSuspect t
  else now.foldl (fun s t => s.markSuspect t) s1

/-! ### Comparators, rate of rise and the tract controller (R388-R392) -/

/-- A comparator with hysteresis. -/
def compare (was : Bool) (v thr hys : Int) : Bool := if was then decide (thr - hys ≤ v) else decide (thr ≤ v)

/-- The comparators, the breach and the controller of one site in a reading. -/
def State.controlSite (s : State) (t : Nat) : State :=
  let v := s.site t
  let throt : Int := 16 * s.get fTHM_THR_THROT
  let thys : Int := 16 * s.get fTHM_HYS_THROT
  let lim : Int := 16 * s.get fTHM_RATE_RATE
  let warn := compare (s.on (fTHM_SITE_WARN t)) v (16 * s.get fTHM_THR_WARN) (16 * s.get fTHM_HYS_WARN)
  let hot := compare (s.on (fTHM_SITE_THROT t)) v throt thys
  let rate := s.rateNow t
  let high : Bool := decide (lim < rate)
  let low : Bool := decide (2 * rate ≤ lim)
  let was := s.on (fTHM_SITE_RATE t)
  let clearing := if high || !was then 0 else if low then (s.siteH t).clearing + 1 else 0
  let breach : Bool := high || (was && clearing < 10)
  let n := s.get (fTHM_TDUTY_N t)
  let duty :=
    if throt ≤ v || high then (if n = 0 then s.get fTHM_TCFG_NSTART else min 31 (n + s.get fTHM_TCFG_UP))
    else if v < throt - thys && !breach then n - s.get fTHM_TCFG_DN
    else n
  let s1 := ((s.putB (fTHM_SITE_WARN t) warn).putB (fTHM_SITE_THROT t) hot).putB (fTHM_SITE_RATE t) breach
  let s2 := (s1.put (fTHM_TDUTY_N t) duty).updSite t fun h => { h with clearing := if breach then clearing else 0 }
  let s3 := s2.raiseIf (warn && !s.on (fTHM_SITE_WARN t)) evTHM_WARN t
  let s4 := s3.raiseIf (hot && !s.on (fTHM_SITE_THROT t)) evTHM_THROT t
  s4.raiseIf (breach && !was) evTHM_RATE t

/-! ### Thermal shutdown (R393-R396, R399-R401) -/

/-- A tract's open-hold abandoned: the staging copy is discarded, and a tract that was stopped is stopped again (R396). -/
def State.abandonHold (s : State) (t : Nat) : State :=
  let st := s.loopState t
  let s1 := (s.updTract t fun h => { h with staging := none, holdAt := none, closeAt := none, internal := 0, failPause := false, seeded := false })
  let s2 := s1.raiseIf (st = 1 || st = 2) evTRC_REFUSED t
  if st = 1 || st = 2 || st = 3 || st = 6 then s2.put (fTRC_TSTAT_STATE t) (if (s.tract t).wasStopped then 4 else 5) else s2

/-- Thermal shutdown begins, for a site that reached SHUT (R395, R396, R399, R400); from Deep sleep the memories leave retention
(R616). -/
def State.beginShutdown (s : State) (t : Nat) : State :=
  let s1 := (s.putB fTHM_STATE_SHUT true).putB fTHM_STATE_LATCHED (s.on fTHM_CFG_LATCH)
  let s2 := forEach (upTo 64) (fun t s => s.abandonHold t) s1
  let s2' := if s.on fTRC_ENG_FAILOVER then s2.allOnSurvivor s.loops.failedEngine else s2
  let s3 := ({ s2' with loops := { s2'.loops with failT0 := none } }.putB fTRC_ENG_FAILOVER false).putB fBLK_TRST_BUSY false
  let s4 := ((s3.allOff).keepAlive false).soClose
  let s5 := s.boot.toStart.foldl (fun s d => s.updDom d fun h => { h with commanded := 1 }) s4
  let s5' := if s.aon = 3 then s5.restoreMems else s5
  let s6 := { s5' with boot := { s5'.boot with group := [] }, thm := { s5'.thm with coolFrom := none } }
  let s7 := if s.aon = 4 || s.pst.orderly then s6
    else
      let p := { s6.pst with commitAt := none, stopAt := none, forced := false, toRun := false, waking := s.pst.waking || s.asleep }
      ({ s6 with pst := p }.setAon 5).putB fPST_STATE_ENTERING false
  s7.raise evTHM_SHUT t

/-- Thermal shutdown ends: in Off it only ends, elsewhere the die restarts, with the domains commanded On and those of PLAT_START that
were still to be switched on; one that had cut short the IB's soft start at boot returns to that step, from VKA (R398, R400,
R620). -/
def State.endShutdown (s : State) : State :=
  let s1 := ((s.putB fTHM_STATE_SHUT false).put fTHM_STATE_COOL 0)
  let s2 := forEach (upTo 64) (fun t s => s.putB (fTHM_SITE_SHUT t) false) s1
  let s3 := { s2 with thm := { s2.thm with coolFrom := none, hotFirst := none } }
  if s.aon = 4 then s3
  else
    let s4 := if s.ibMode = 4 && !s.on fPLAT_STATE_BMDONE && s.boot.bmDue.isNone then
        (s3.updIb fun h => { h with ssTries := 0 }).ibSoftStart (1250 * s.ib.kaVka)
      else s3.leaveKeepAlive
    let back := (upTo 32).filter fun d => ((s.dom d).commanded = 1 || s.boot.toStart.contains d) && s.domState d ≠ 0
    let s5 := if s.boot.released then { s4 with boot := { s4.boot with toStart := back, group := [], seq := true } } else s4
    s5.raise evTHM_RESTARTED 0xFFFF

/-- How long the restart condition has held after a reading, in THM_STATE.COOL: `hot` tells a reading above RESTART
(R397). -/
def State.cool (s : State) (hot : Bool) : State :=
  let from_ := if hot then none else some (s.thm.coolFrom.getD s.now)
  let s1 := { s with thm := { s.thm with coolFrom := from_ } }
  s1.put fTHM_STATE_COOL (match from_ with | none => 0 | some a => min 127 ((s.now - a) / 1000000))

/-- The restart condition in a reading of all sites (R397). -/
def State.coolAll (s : State) : State :=
  s.cool ((upTo 64).any fun t => s.siteUsable t && decide ((16 * s.get fTHM_THR_RESTART : Nat) < s.siteRaw t))

/-- Shutdown judged by a reading; sites that R394 marked in it do not count (R393, R394). -/
def State.judgeShutdown (s : State) (now : List Nat) : State :=
  let hot := (upTo 64).filter fun t => s.shutCode ≤ s.site t && !now.contains t
  let s1 := { s with thm := { s.thm with hotFirst := hot.head? } }
  if s.shut then s1.coolAll
  else match s.thm.hotFirst with
    | none => s1
    | some t =>
      if hot.isEmpty then s1
      else ((t :: hot).foldl (fun s k => s.putB (fTHM_SITE_SHUT k) true) s1).beginShutdown t

/-- SITE_READING: every 100 us all 64 sites take a reading; `raws` are the voltage differences of their diodes, in nV, as the front
ends' trims leave them (R376-R394, R397). Before CALDONE the comparators do not act, but the restart condition of a shutdown that
Monument began is counted. -/
def execSiteReading (raws : List Int) (s : State) : Host.Outcome State Fault Refusal :=
  .next (if s.por || s.aon = 3 || s.aon = 4 then s
    else
      let s1 := forEach (upTo 64) (fun t s => s.takeRaw t (s.diodeTemp (raws.getD t 0))) s
      let s2 := forEach (upTo 64) (fun t s => s.storeValue t (s1.substitute t)) s1
      let now := s2.markedAtOnce
      let s3 := (s2.showHottest).crossCheck now
      if s.on fTHM_STATE_CALDONE then (forEach (upTo 64) (fun t s => s.controlSite t) s3).judgeShutdown now
      else if s.shut then s3.coolAll
      else s3)

/-- Monument's reading of a site: the backup of thermal shutdown, the reading itself in Deep sleep and Off, and there the
restart condition (R382, R397, R400, R401). -/
def State.monumentSite (s : State) (raw : Int) (t : Nat) : State :=
  let deep : Bool := s.aon = 3 || s.aon = 4
  let s1 := if deep then s.takeRaw t raw else s
  let v := if deep then raw else s1.site t
  let hot : Bool := !s1.on (fTHM_SITE_INVALID t) && decide (s1.shutCode ≤ v)
  let s2 := s1.updSite t fun h => { h with monHot := hot }
  let s3 := if s2.shut then
      (if s.aon = 4 then
        let above : Bool := s2.siteUsable t && decide ((16 * s.get fTHM_THR_RESTART : Nat) < raw)
        if above || t < 16 then s2.cool above else s2
       else s2)
    else if hot && (s.siteH t).monHot then ((s2.putB (fTHM_SITE_SHUT t) true).beginShutdown t).raise evTHM_BACKUP t
    else s2
  s3

/-- THERMAL_RESTART: the restart condition has held for 100 ms with LATCH 0, now and all through the shutdown (R397-R400). -/
def execThermalRestart (s : State) : Host.Outcome State Fault Refusal :=
  .next (match s.thm.coolFrom with
    | none => s
    | some a => if s.shut && a + 100000000 ≤ s.now && !s.on fTHM_STATE_LATCHED && !s.on fTHM_CFG_LATCH then s.endShutdown else s)

/-! ### Calibration and corrections (R380, R381, R387, R402, R403) -/

/-- TCAL and CALDONE from the trim area (R380, R624). -/
def State.restoreTcal (s : State) : State :=
  match s.thm.tcal with
  | none => s
  | some x => (s.putI fTHM_CAL_TCAL x).putB fTHM_STATE_CALDONE true

/-- THERMAL_CAL_DONE: at a cold start, after Benchmark's own calibration, the front ends are calibrated: `tcal` is the
voltage difference of the diode of site 27, in nV, which gives its junction temperature (R376), `bad` the front ends with a trim out of range (R380, R381). -/
def execThermalCalDone (tcal : Int) (bad : List Nat) (s : State) : Host.Outcome State Fault Refusal :=
  .next (if s.por || s.thm.tcal.isSome || !s.on fPLAT_STATE_BMDONE then s
    else
      let s1 := { s with thm := { s.thm with tcal := some (s.diodeTemp tcal), untrimmed := (upTo 64).filter bad.contains } }
      let s2 := forEach (upTo 64) (fun t s => s.updSite t fun h => { h with valued := false }) s1.restoreTcal
      ((upTo 64).filter bad.contains).foldl (fun s t => (s.putB (fTHM_SITE_INVALID t) true).raise evTHM_CAL t) s2)

/-- A write of 1 to suspect marks: those sites return, their counts from zero (R387). -/
def State.clearSuspectSites (s : State) (half : Nat) (m : Nat) : State :=
  (upTo 32).foldl (fun s k =>
    if bitN m k && s.suspect (32 * half + k) then (s.setSuspect (32 * half + k) false).updSite (32 * half + k) fun h => { h with far := 0 }
    else s) s

/-- A characterisation constant of R402, which the spec does not give: constant `j` of item `i`. -/
def corrConst (j i : Nat) : Int := (Config.openNat (30 + j) [i] : Int) - Config.openNat (32 + j) [i]

/-- The correction of an item in ppm for a difference from TCAL: c1 x dT + c2 x dT^2 (R402). -/
def corrTarget (i : Nat) (dT : Int) : Int := divOpen 21 (corrConst 0 i * dT + corrConst 1 i * dT * dT) 1000000

/-- A correction recomputed from a temperature: it moves by at most 100 ppm (R403). In Off TCAL is that of the trim area (R625). -/
def State.correct (s : State) (i : Nat) (temp : Int) : State :=
  let old := s.getI (fTHM_COMP_CORR i)
  let tcal := if s.aon = 4 then s.thm.tcal.getD 0 else s.getI fTHM_CAL_TCAL
  let want := clampI (-32768) 32767 (corrTarget i (temp - tcal))
  s.putI (fTHM_COMP_CORR i) (clampI (old - 100) (old + 100) want)

/-- REF_CORRECTION_UPDATE: every 1 ms the three corrections are recomputed (R402, R403). -/
def execRefCorrectionUpdate (s : State) : Host.Outcome State Fault Refusal :=
  .next (if s.on fTHM_STATE_CALDONE && s.aon ≠ 4 then
      forEach (upTo 3) (fun i s => s.correct i (s.site (s.get (fTHM_COMP_SITE i)))) s
    else s)

end Sys2Proof.Machine
end

