-- ==== Sys2Proof/Machine/Capping.lean ====
section
/-!
DEFINITION. Power capping (chapter 9, R39-R46): the Tally, reconciliation, the die budget and its classes, ageing, ceilings
and pauses, grades, derating, and THROTTLE_N.

Powers are whole numbers of 1/powScale of 0.0625 W, a unit so small that the products of R405 and R406 are exact in it.
-/

namespace Sys2Proof.Machine

/-! ### The Tally (R405-R407) -/

/-- The reference voltage code. -/
def State.vref (s : State) : Nat := max 1 (s.get fCAP_TALLY_VREF)

/-- Units of power in 0.0625 W. -/
def State.powScale (s : State) : Nat := 2 ^ 152 * 2000000 * s.vref ^ 2

/-- A power in 0.0625 W as a 16-bit field shows it; the spec does not state the rounding. -/
def State.showPow (s : State) (site x : Nat) : Nat := min 65535 (natOf (divOpen site x s.powScale))

/-- A power in 1/capScale of 0.0625 W. -/
def State.toX (s : State) (site x : Nat) : Nat := natOf (divOpen site (capScale * x : Nat) s.powScale)

/-- The present code of a domain. -/
def State.domCode (s : State) (d : Nat) : Nat := ((s.tractsOf d).head?.map fun t => s.present t).getD 0

/-- The highest site value among a domain's tracts. -/
def State.domTemp (s : State) (d : Nat) : Int :=
  match s.tractsOf d with
  | [] => 0
  | t :: l => l.foldl (fun a k => max a (s.site k)) (s.site t)

/-- The counts of an activity counter with a tag since the latest Tally update (R40). -/
def State.count (s : State) (c tag : Nat) : Nat := tblGet (fun _ => 0) s.cap.acts (16 * c + tag)

/-- The counters assigned to a domain. -/
def State.countersOf (s : State) (d : Nat) : List Nat := (upTo 64).filter fun c => s.get (fCAP_WGT_DOM c) = d

/-- The weighted counts of a domain. -/
def State.weighted (s : State) (d : Nat) : Nat :=
  sumOver (s.countersOf d) fun c => s.get (fCAP_WGT_W c) * sumOver (upTo 16) (s.count c)

/-- 2^24 x 2^(m/n) for m < n, to within 10 ppm. -/
def exp2Series (m n : Nat) : Nat :=
  let c (k i : Nat) := k * m ^ i * n ^ (6 - i)
  (c 16777216 0 + c 11629080 1 + c 4030332 2 + c 931204 3 + c 161365 4 + c 22370 5 + c 2584 6) / n ^ 6

/-- 2^152 x 10^6 x 2^((T - 85 degC) / TDBL) as the block evaluates it: within 0.1 % of that figure, by an error that the spec
leaves open (R406). -/
def leakFactor (temp : Int) (tdbl : Nat) : Nat :=
  let n := 16 * max 1 tdbl
  let q := (temp - 1360) / n
  let p := exp2Series (((temp - 1360) % n).toNat) n * 2 ^ (q + 128).toNat
  p * (999020 + Config.openNat 41 [temp, tdbl] % 1961)

/-- A domain in a Tally period: its class, its dynamic power before the gain and with it, its leakage for each code of
voltage, its present code, grade, requested grade and capping pause duty. -/
structure DomPow where
  dom : Nat
  cls : Nat
  raw : Nat
  dyn : Nat
  leak1 : Nat
  code : Nat
  grade : Nat
  req : Nat
  duty : Nat
  deriving DecidableEq, Repr

/-- Leakage in the period, and the estimate of the domain. -/
def DomPow.leak (p : DomPow) : Nat := p.leak1 * p.code
def DomPow.est (p : DomPow) : Nat := p.dyn + p.leak

/-- A domain in the present period; with a reference voltage of 0 the spec states no power. -/
def State.domPow (s : State) (d : Nat) : DomPow :=
  let k := s.classOf d
  let v := s.domCode d
  let x := v ^ 2 * s.weighted d * 2 ^ s.get fCAP_TALLY_WSHIFT
  let zero : Bool := s.get fCAP_TALLY_VREF = 0
  let l0 := s.get (fCAP_LEAK_L0 d)
  { dom := d, cls := k, code := v,
    raw := if zero then Config.openNat 42 [d, s.now] else 2 ^ 152 * x,
    dyn := if zero then Config.openNat 43 [d, s.now] else s.get (fCAP_CGAIN_GAIN k) * x * 2 ^ 138,
    leak1 := if l0 = 0 then 0 else if zero then Config.openNat 44 [d, s.now]
             else l0 * s.vref * 2 * leakFactor (s.domTemp d) (s.get (fCAP_LEAK_TDBL d)),
    grade := s.get (fCAP_DGRADE_NOW d), req := s.get (fCAP_DGRADE_REQ d), duty := s.get (fCAP_DGRADE_PAUSE d) }

/-- The domains that the Tally estimates: neither Off nor Unused. -/
def State.domPows (s : State) : List DomPow := ((upTo 32).filter fun d => 2 ≤ s.domState d).map s.domPow

/-- The estimate of a class. -/
def classEst (ps : List DomPow) (k : Nat) : Nat := (ps.filter fun p => p.cls = k).foldl (fun a p => a + p.est) 0

/-- A domain's power at a grade and a capping pause duty: dynamic power by the ratio of power factors and free slots, leakage
by the ratio of voltage codes (R418, R434). A power factor of 0 at the present grade gives no ratio. -/
def State.powAt (s : State) (p : DomPow) (g n : Nat) : Nat :=
  let f := s.gradePf p.dom p.grade
  let dyn := if p.dyn = 0 then 0
    else if f = 0 then Config.openNat 45 [p.dom, g, n, s.now]
    else p.dyn * s.gradePf p.dom g * (32 - n) / (f * (32 - p.duty))
  dyn + p.leak1 * s.gradeCode p.dom g

/-- P_k(g, n), with each domain at the lower of its request and g. -/
def State.classAt (s : State) (ps : List DomPow) (k g n : Nat) : Nat :=
  (ps.filter fun p => p.cls = k).foldl (fun a p => a + s.powAt p (min p.req g) n) 0

/-- P_k(NOW, n). -/
def State.classNow (s : State) (ps : List DomPow) (k n : Nat) : Nat :=
  (ps.filter fun p => p.cls = k).foldl (fun a p => a + s.powAt p p.grade n) 0

/-- A class behind its registers, and changed. -/
def State.cls (s : State) (k : Nat) : ClassHid := tblGet (fun _ => {}) s.cap.classes k
def State.updCap (s : State) (f : CapHid → CapHid) : State := { s with cap := f s.cap }
def State.updCls (s : State) (k : Nat) (f : ClassHid → ClassHid) : State :=
  s.updCap fun c => { c with classes := tblSet (fun _ => {}) c.classes k (f (tblGet (fun _ => {}) c.classes k)) }

/-! ### The die budget and its classes (R411-R420) -/

/-- The die limit in force (R414). -/
def State.dieLimit (s : State) : Nat := if s.cap.sust then s.get fCAP_DIE_SUST else s.get fCAP_DIE_PEAK

/-- A share received takes effect at the next Tally update (R413). -/
def State.takeShare (s : State) (n : Nat) : State :=
  { s with cap := { s.cap with pendShare := some n }, trv := { s.trv with gotShare := true } }

/-- The share in force; before the first one arrives the die's limit stands for it. -/
def State.shareInForce (s : State) : Nat :=
  if s.trv.gotShare then s.cap.pendShare.getD (s.get fCAP_SHARE_SHARE) else s.dieLimit

/-- The demand and the floor of the die latched for the power sums (R412). -/
def State.demandX (s : State) : Nat := s.cap.demX
def State.floorX (s : State) : Nat := s.cap.floorX

/-- The die budget B (R415). -/
def State.budget (s : State) : Nat :=
  let k := s.powScale
  let ib := s.admitted.length * 9 * s.get fTRC_NORM_VIB * s.get fCAP_CFG_EFF * (k / 1000)
  min (min (s.shareInForce * k) (s.dieLimit * k)) ib - s.get fCAP_SHORT_TRIM * k

/-- The rating that limits a domain's demand (R437). -/
def State.demandLimit (s : State) (p : DomPow) : Nat :=
  s.gradeCode p.dom p.req * sumOver (s.tractsOf p.dom) s.contRating * (s.powScale / 500)

/-- A domain's demand before its limit (R418). -/
def State.demandRaw (s : State) (p : DomPow) : Nat := s.powAt p p.req 0

/-- The demand of a class. -/
def State.classDemand (s : State) (ps : List DomPow) (k : Nat) : Nat :=
  (ps.filter fun p => p.cls = k).foldl (fun a p => a + min (s.demandRaw p) (s.demandLimit p)) 0

/-- The allocation of R420: budgets by class for an available budget, demands and floors, in an order. -/
def allocate (order : List Nat) (a : Int) (dem flr : List Nat) : List Nat :=
  let sumFloor := flr.foldl (· + ·) 0
  if a ≤ 0 then [0, 0, 0]
  else if a.toNat < sumFloor then flr.map fun f => a.toNat * f / sumFloor
  else (order.foldl (fun (r : Nat × List Nat) k =>
    let give := min r.1 (dem.getD k 0 - r.2.getD k 0)
    (r.1 - give, r.2.set k (r.2.getD k 0 + give))) (a.toNat - sumFloor, flr)).2

/-- A promotion of a class is in force (R422). -/
def State.promoted (s : State) (k : Nat) : Bool :=
  match (s.cls k).promoAt with
  | none => false
  | some a => decide (s.now < a + 10000 * s.get fCAP_AGE_PROMO)

/-- The order of allocation: promoted classes first (R420, R423). -/
def State.classOrder (s : State) : List Nat :=
  let l := [s.get fCAP_PRIO_P0, s.get fCAP_PRIO_P1, s.get fCAP_PRIO_P2]
  (l.filter s.promoted) ++ (l.filter fun k => !s.promoted k)

/-- Budgets below 90 % of demand run the starvation timers (R421). -/
def State.starve (s : State) (dem bud : List Nat) : State :=
  (upTo 3).foldl (fun s k => s.updCls k fun h =>
    { h with starveFrom := if 10 * bud.getD k 0 < 9 * dem.getD k 0 then some (h.starveFrom.getD s.now) else none }) s

/-- A class whose timer exceeds STARVE and whose latest promotion began SPACE ago (R422, R424). -/
def State.mayPromote (s : State) (k : Nat) : Bool :=
  let h := s.cls k
  let long : Bool := match h.starveFrom with | none => false | some a => decide (a + 1000 * s.get fCAP_AGE_STARVE < s.now)
  let free : Bool := match h.promoAt with | none => true | some a => decide (a + 100000 * s.get fCAP_AGE_SPACE ≤ s.now)
  long && free

/-- Ageing at an update: promotions of the classes that would starve on without one, the budgets that follow, and the timers, which run
or return to 0 by those budgets (R421-R424). -/
def State.age (s : State) (a : Int) (dem flr : List Nat) : State × List Nat :=
  let old := allocate s.classOrder a dem flr
  let up := (upTo 3).filter fun k => s.mayPromote k && decide (10 * old.getD k 0 < 9 * dem.getD k 0)
  let s2 := up.foldl (fun s k => s.updCls k fun h => { h with promoAt := some s.now, starveFrom := none }) s
  let bud := allocate s2.classOrder a dem flr
  let s3 := s2.starve dem bud
  (up.foldl (fun s k => s.raiseIf (s.on fCAP_CTL_EN) evCAP_PROMOTED k) s3, bud)

/-! ### Ceiling, pause, interval and the bottom of the ladder (R434-R436, R440, R448) -/

/-- The highest grade at which a class fits its budget without pauses, G0 if none. -/
def State.fitGrade (s : State) (ps : List DomPow) (k bud : Nat) : Nat :=
  ((upTo 16).filter fun g => decide (s.classAt ps k g 0 ≤ bud)).foldl max 0

/-- The ceiling of a class at an update (R434). -/
def State.nextCeil (s : State) (ps : List DomPow) (k bud : Nat) : Nat :=
  let c := s.get (fCAP_CSTATE_CEIL k)
  let g := s.fitGrade ps k bud
  if g < c then g
  else if c < 15 && decide (100 * s.classAt ps k (c + 1) 0 ≤ bud * (100 - s.get fCAP_CFG_HEADROOM)) then c + 1
  else c

/-- The smallest pause duty at which a class fits its budget at its present grades, 31 if none (R435). -/
def State.fitDuty (s : State) (ps : List DomPow) (k bud : Nat) : Nat :=
  ((upTo 32).find? fun n => decide (s.classNow ps k n ≤ bud)).getD 31

/-- Whether the class is in the unattainable state. -/
def State.isUnatt (s : State) (k : Nat) : Bool := tblGet (fun _ => 0) s.cap.unatt k = 1

/-- One capped class at an update: ceiling, duty, capped, and the unattainable state (R434-R436, R440, R448). -/
def State.controlClass (s : State) (ps : List DomPow) (bud : List Nat) (k : Nat) : State :=
  let b := bud.getD k 0
  let mine := (upTo 32).filter fun d => s.classOf d = k && s.domState d ≠ 0
  let en := s.on fCAP_CTL_EN
  let was := s.isUnatt k
  let ceil := if !en then 15 else if was then 0 else s.nextCeil ps k b
  let duty := if !en then 0 else if was then 31 else s.fitDuty ps k b
  let capped : Bool := en && (0 < duty || mine.any fun d => decide (ceil < s.get (fCAP_DGRADE_REQ d)))
  let above : Bool := decide (b < classEst ps k)
  let bottom : Bool := en && duty = 31 && (mine.all fun d => s.get (fCAP_DGRADE_NOW d) = 0) && above
  let h := s.cls k
  let n := if bottom then min 3 (h.overRun + 1) else 0
  let m := if above then 0 else min 3 (h.withinRun + 1)
  let now : Bool := en && (if was then decide (m < 3) else decide (n = 3))
  let s1 := ((s.put (fCAP_CSTATE_CEIL k) ceil).put (fCAP_CSTATE_PAUSE k) duty).putB (fCAP_CSTATE_CAPPED k) capped
  let s2 := (s1.updCls k fun h => { h with overRun := n, withinRun := m }).updCap fun c =>
    { c with unatt := tblSet (fun _ => 0) c.unatt k (b2n now) }
  let s3 := (s2.putB (fCAP_CSTATE_PROMOTED k) (s2.promoted k)).put (fCAP_CSTATE_STARVE k)
    (match h.starveFrom with | none => 0 | some a => min 4095 ((s.now - a) / 1000))
  let s4 := mine.foldl (fun s d => s.put (fCAP_DGRADE_PAUSE d) duty) s3
  s4.raiseIf (now && !was) evCAP_UNATTAINABLE k

/-! ### TALLY_UPDATE -/

/-- The modelled energy of each bucket in the period: G x V^2 x W x count, a unit common to all buckets (R454, R455). -/
def State.addModels (s : State) (ps : List DomPow) : State :=
  let one (tb : Tbl Nat) (p : DomPow) : Tbl Nat :=
    (s.countersOf p.dom).foldl (fun tb c => (upTo 16).foldl (fun tb tag =>
      let b := if bitN s.nrg.pen tag then tag else 16
      let x := s.get (fCAP_CGAIN_GAIN p.cls) * p.code ^ 2 * s.get (fCAP_WGT_W c) * s.count c tag
      tblSet (fun _ => 0) tb b (tblGet (fun _ => 0) tb b + x)) tb) tb
  { s with nrg := { s.nrg with models := ps.foldl one s.nrg.models } }

/-- The sums for reconciliation in the period: leakage and dynamic power before the gain, by class (R408). -/
def State.addSums (s : State) (ps : List DomPow) : State :=
  let s1 := ps.foldl (fun s p => s.updCls p.cls fun h => { h with lam := h.lam + p.leak, raw := h.raw + p.raw }) s
  s1.updCap fun c => { c with recCnt := c.recCnt + 1 }

/-- The estimates of the period, in the registers and for the envelope (R407, R265). -/
def State.takeEstimate (s : State) (ps : List DomPow) (est : Nat) : State :=
  let s1 := ((s.addModels ps).addSums ps).put fCAP_EST_EST (s.showPow 22 est)
  let above : Bool := decide (s.get fCAP_DIE_SUST * s.powScale < est)
  let s2 := s1.updCap fun c =>
    { c with acts := [], aboveFrom := if above then some (c.aboveFrom.getD s.now) else none,
             withinFrom := if above then none else some (c.withinFrom.getD s.now) }
  { s2 with env := { s2.env with ests := (s.toX 23 est :: s2.env.ests).take 500 } }

/-- The budget of the period: a share that waited takes effect, and a budget that falls below the estimate is a cap-over
event (R413, R415, R439). -/
def State.takeBudget (s : State) (est : Nat) : State :=
  let s1 := match s.cap.pendShare with
    | none => s
    | some n => (s.put fCAP_SHARE_SHARE n).updCap fun c => { c with pendShare := none }
  let b := s1.budget
  let s2 := (s1.put fCAP_SHARE_BUDGET (s1.showPow 24 b)).updCap fun c => { c with lastB := b, bSum := c.bSum + b, bCnt := c.bCnt + 1 }
  s2.raiseIf (s.on fCAP_CTL_EN && decide (b < est) && decide (b < s.cap.lastB)) evCAP_OVER 0xFFFF

/-- Demands limited by ratings begin to be so (R437, R656). -/
def State.noteDerate (s : State) (ps : List DomPow) : State :=
  let lim := (ps.filter fun p => p.cls < 3 && decide (s.demandLimit p < s.demandRaw p)).map fun p => p.dom
  let s1 := s.updCap fun c => { c with limited := lim }
  (lim.filter fun d => !s.cap.limited.contains d).foldl (fun s' d => s'.raiseIf (s.on fCAP_CTL_EN) evCAP_DERATE (s.classOf d)) s1

/-- The shares of the classes shown (R420). -/
def State.showClasses (s : State) (dem bud : List Nat) (unc : Nat) : State :=
  let s1 := (upTo 3).foldl (fun s k =>
    (s.put (fCAP_CBUD_DEMAND k) (s.showPow 25 (dem.getD k 0))).put (fCAP_CBUD_BUDGET k) (s.showPow 26 (bud.getD k 0))) s
  (s1.put (fCAP_CBUD_DEMAND 3) (s.showPow 27 unc)).put (fCAP_CBUD_BUDGET 3) (s.showPow 27 unc)

/-- One Tally update (R405-R440). -/
def State.tally (s : State) : State :=
  let ps := s.domPows
  let est := ps.foldl (fun a p => a + p.est) 0
  let unc := classEst ps 3
  let s2 := ((s.takeEstimate ps est).takeBudget est).noteDerate ps
  let dem := (upTo 3).map (s2.classDemand ps)
  let flr := (upTo 3).map fun k => s2.get (fCAP_CLS_FLOOR k) * dem.getD k 0 / 100
  let r := s2.age ((s2.cap.lastB : Int) - unc) dem flr
  let tot := dem.foldl (· + ·) 0 + unc
  let s3 := (r.1.showClasses dem r.2 unc).updCap fun c =>
    { c with demX := s2.toX 28 (min tot (s2.dieLimit * s2.powScale)), floorX := s2.toX 29 (unc + flr.foldl (· + ·) 0), updates := c.updates + 1 }
  let s4 := (upTo 3).foldl (fun s k => s.controlClass ps r.2 k) s3
  let short := if (upTo 3).any s4.isUnatt then s4.showPow 30 (est - s4.cap.lastB) else 0
  (upTo 32).foldl (fun s d => s.abandonRaise d) (s4.put fCAP_SHORT_SHORT short)

/-- TALLY_UPDATE: every 2 us, while lclk runs. -/
def execTallyUpdate (s : State) : Host.Outcome State Fault Refusal := .next (if s.lclk then s.tally else s)

/-- ACTIVITY_INCREMENT: an increment of a counter, with its tag, in one gate_clk cycle (R31, R39, R40). -/
def execActivityIncrement (c : Fin 64) (n tag : Fin 16) (s : State) : Host.Outcome State Fault Refusal :=
  let k := 16 * c.val + tag.val
  .next (if s.gateLive then s.updCap fun h => { h with acts := tblSet (fun _ => 0) h.acts k (s.count c tag + n.val) } else s)

/-! ### Reconciliation and trim (R408-R410, R416) -/

/-- One class at a reconciliation; the figures of the millisecond are sums over frames and over updates (R408, R409). -/
def State.reconcile (s : State) (k : Nat) : State :=
  let h := s.cls k
  let n : Int := s.cap.recCnt
  let f : Int := 500 * s.cap.viCnt
  let g : Int := s.get (fCAP_CGAIN_GAIN k)
  -- all times n x f: M, leakage, dynamic power before the gain, class estimate
  let m := h.vi * s.powScale * n
  let lam := h.lam * f
  let raw := h.raw * f
  let est := 16384 * lam + g * raw
  let enough : Bool := decide (0 < raw) && decide ((80 * s.powScale : Nat) * n * f ≤ raw)
  let g4 := clampI 8192 32768 (if enough then roundHalfUp (3 * g * raw + 16384 * (m - lam)) (4 * raw) else g)
  let out : Bool := enough && (decide (2 * (m - lam) < raw) || decide (2 * raw < m - lam))
  let far : Bool := decide (m * 16384 < 10 * ((m * 16384 - est).natAbs : Int))
  let run := if far then min 8 (h.drift + 1) else 0
  let drift : Bool := out || run = 8
  let s1 := (s.put (fCAP_CGAIN_GAIN k) (if enough then natOf g4 else s.get (fCAP_CGAIN_GAIN k))).updCls k fun h =>
    { h with drift := run, driftOn := drift, vi := 0, lam := 0, raw := 0 }
  s1.raiseIf (drift && !h.driftOn && s.on fCAP_CTL_EN) evCAP_TALLY_DRIFT k

/-- The core power of a millisecond shown in CAP_EST.MEAS: voltage x current summed over its frames (R410). -/
def State.showMeas (s : State) (vi : Int) (frames : Nat) : State :=
  if frames = 0 then s else s.put fCAP_EST_MEAS (min 65535 (natOf (divOpen 33 vi (500 * frames : Nat))))

/-- RECONCILE: every 1 ms each class's gain is reconciled with what was measured, and the measured power of all mapped tracts is
shown (R408-R410). -/
def execReconcile (s0 : State) : Host.Outcome State Fault Refusal :=
  let s := s0.showMeas ((upTo 4).foldl (fun a k => a + (s0.cls k).vi) 0) s0.cap.viCnt
  .next (if s.cap.recCnt = 0 || s.cap.viCnt = 0 then s
    else (forEach (upTo 4) (fun k s => s.reconcile k) s).updCap fun c => { c with recCnt := 0, viCnt := 0 })

/-- CAP_TRIM_UPDATE: every 1 ms the measured core power is shown and the trim follows it (R410, R416). -/
def execCapTrimUpdate (s : State) : Host.Outcome State Fault Refusal :=
  let c := s.cap
  let f : Int := 500 * c.viDieCnt
  let kn : Int := s.powScale * c.bCnt
  .next (if c.viDieCnt = 0 || c.bCnt = 0 then s.showMeas c.viDie c.viDieCnt
    else
      let num := 2 * s.get fCAP_SHORT_TRIM * f * kn + c.viDie * kn - c.bSum * f
      let t := min (max 0 (divOpen 31 num (2 * f * kn))) (divOpen 32 c.bSum (20 * kn))
      let s1 := (s.showMeas c.viDie c.viDieCnt).put fCAP_SHORT_TRIM (min 65535 (natOf t))
      s1.updCap fun c => { c with viDie := 0, viDieCnt := 0, bSum := 0, bCnt := 0 })

/-- DIE_LIMIT_SWITCH: 10 ms above SUST, or 10 ms at or below it (R414). -/
def execDieLimitSwitch (s : State) : Host.Outcome State Fault Refusal :=
  let due (o : Option Nat) : Bool := match o with | none => false | some a => decide (a + 10000000 ≤ s.now)
  .next (if s.cap.sust then (if due s.cap.withinFrom then s.updCap fun c => { c with sust := false, aboveFrom := none } else s)
    else if due s.cap.aboveFrom then s.updCap fun c => { c with sust := true, withinFrom := none } else s)

/-! ### Grades (R41-R46, R427-R433) -/

/-- GRADE_STEP_START: a domain whose present grade differs from its effective grade starts a step (R429-R431); a raise whose
domain has no slew to wait for is requested at once. -/
def execGradeStepStart (d : Fin 32) (s : State) : Host.Outcome State Fault Refusal :=
  let dd := d.val
  let now_ := s.get (fCAP_DGRADE_NOW dd)
  let eff := s.effGrade dd
  .next (if !s.gateLive || !s.on (fCAP_DGRADE_GCTL dd) || s.on (fCAP_DGRADE_FAULT dd) || s.domState dd = 0 then s
    else match (s.dom dd).step with
      | some g =>
        let reached : Bool := !s.headsUp dd || (s.slewComplete dd && decide (s.get (fDOM_VSET_CODE dd) = g.code))
        let s1 := s.abandonRaise dd
        if (s1.dom dd).step.isSome && g.sentAt.isNone && (!g.rising || g.reissued || reached) then
          s.updDom dd fun h => { h with step := some { g with sentAt := some s.now } }
        else s1
      | none =>
        if eff = now_ || s.now < (s.dom dd).stepAt then s
        else if now_ < eff then
          let s1 := s.gradeTarget dd (now_ + 1)
          (s1.updDom dd fun h => { h with step := some ⟨now_ + 1, true, s1.get (fDOM_VSET_CODE dd), none, false, eff⟩, stepAt := s.now + 8000 }).afterStep dd
        else s.updDom dd fun h => { h with step := some ⟨now_ - 1, false, 0, some s.now, false, eff⟩, stepAt := s.now + 8000 })

/-- A request that timed out or was refused is reissued once, then reported as a grade-port fault (R44); with aon_host_pwrgd low
the reissue waits (R51). With CAP_CTL.EN = 0 the domain holds its fault and no capping event is recorded (R448). -/
def State.gradeFails (s : State) (d : Nat) (g : GradeStep) : State :=
  if g.reissued then
    (((s.updDom d fun h => { h with step := none }).putB (fCAP_DGRADE_FAULT d) true).markSet (CAP_DGRADE d) 0x40000000#32).raiseIf (s.on fCAP_CTL_EN) evCAP_GRADE_FAULT d
  else s.updDom d fun h => { h with step := some { g with reissued := true, sentAt := if s.gateLive then some s.now else none } }

/-- GRD_ACK: an acknowledgement completes the step or tells of a refusal; one without a request is stray (R46, R430-R433). -/
def execGrdAck (d : Fin 32) (err : Bool) (s : State) : Host.Outcome State Fault Refusal :=
  let dd := d.val
  .next (if !s.gateLive then s
    else match (s.dom dd).step with
      | none => s.addSat fCAP_GRD_STRAY_COUNT 1
      | some g =>
        if g.sentAt.isNone then s.addSat fCAP_GRD_STRAY_COUNT 1
        else if err then s.gradeFails dd g
        else
          let s1 := (s.put (fCAP_DGRADE_NOW dd) g.dest).updDom dd fun h => { h with step := none }
          if g.rising then s1 else (s1.gradeTarget dd g.dest).afterStep dd)

/-- GRADE_ACK_TIMEOUT: 2 us without an acknowledgement (R44). -/
def execGradeAckTimeout (d : Fin 32) (s : State) : Host.Outcome State Fault Refusal :=
  .next (match (s.dom d).step with
    | none => s
    | some g => match g.sentAt with
      | none => s
      | some a => if a + 2000 ≤ s.now then s.gradeFails d g else s)

/-! ### Derating and THROTTLE_N (R438, R444, R445) -/

/-- The derating duty of one tract. -/
def State.derateTract (s : State) (t : Nat) : State :=
  let h := s.tract t
  let r : Int := s.contRating t
  let full : Bool := (s.healthyIn t).length = 4
  let n := if full then 0
    else if h.derCnt = 0 then h.derate
    else if r * h.derCnt < h.derSum then min 31 (h.derate + 4)
    else if 10 * h.derSum < 9 * r * h.derCnt then h.derate - 1
    else h.derate
  s.updTract t fun h => { h with derate := n, derSum := 0, derCnt := 0 }

/-- DERATE_UPDATE: every 10 us the derating duty of each tract that has lost cells. -/
def execDerateUpdate (s : State) : Host.Outcome State Fault Refusal := .next (forEach (upTo 64) (fun t s => s.derateTract t) s)

/-- THROTTLE_N: a level accepted after 4 equal readings (R444). The level is followed through power-on reset, and R445 counts from the
release of that. -/
def execThrottleN (active : Bool) (s : State) : Host.Outcome State Fault Refusal :=
  .next (if active = s.cap.throttle then s
    else s.updCap fun c => { c with throttle := active, thrFrom := if active && !s.por then some s.now else none, thrOn := false })

/-- THR_STUCK: THROTTLE_N active for 10 s without a break (R445); with CAP_CTL.EN = 0 no capping event is recorded (R448). -/
def execThrStuck (s : State) : Host.Outcome State Fault Refusal :=
  .next (match s.cap.thrFrom with
    | none => s
    | some a => if a + 10000000000 ≤ s.now && !s.cap.thrOn then (s.updCap fun c => { c with thrOn := true }).raiseIf (s.on fCAP_CTL_EN) evCAP_THR_STUCK 0xFFFF else s)

end Sys2Proof.Machine
end

