-- ==== Sys2Proof/Machine/Adc.lean ====
section
/-!
DEFINITION. The converters (chapter 11): codes and trims, the positions of the IB service, user sequences with their triggers,
references, the closure check and system calibration.
-/

namespace Sys2Proof.Machine

/-! ### Codes (R480, R507) -/

/-- Whether a channel converts signed: AIN0-AIN15 in current mode (Table 1.12). -/
def signedMode (ch : Nat) (temp : Bool) : Bool := ch < 16 && !temp

/-- A code held to its range. -/
def codeRange (sgn : Bool) (x : Int) : Int := if sgn then clampI (-8192) 8191 x else clampI 0 16383 x

/-- The raw code of an input voltage against a full scale, both in nV: the nearest code, the lower of two equally near (R480).
A full scale of 0 gives no code. -/
def rawCode (k : Nat) (sgn : Bool) (nv : Int) (refNv : Nat) : Int :=
  if refNv = 0 then codeRange sgn (Config.openNat 47 [k, nv])
  else codeRange sgn (-(roundHalfUp (-(nv * 16384)) (if sgn then 2 * refNv else refNv : Nat)))

/-- The index of a channel and mode in ADC_CAL. -/
def calIndex (ch : Nat) (temp : Bool) : Nat := if temp && ch < 16 then 32 + ch else ch

/-- A raw code trimmed (R507). -/
def State.trimmed (s : State) (k ch : Nat) (temp : Bool) (raw : Int) : Int :=
  let m := calIndex ch temp
  codeRange (signedMode ch temp)
    (roundHalfUp ((raw - s.getI (fADC_CAL_OFFSET k m)) * (s.get (fADC_CAL_GAIN k m) : Int)) 16384)

/-- The trimmed code of a conversion against Benchmark. -/
def State.benchCode (s : State) (k ch : Nat) (temp : Bool) (nv : Int) (refNv : Nat) : Int :=
  s.trimmed k ch temp (rawCode k (signedMode ch temp) nv refNv)

/-! ### The clock and the references (R481, R486, R497, R498) -/

/-- REF_READY: a buffer has been powered for 20 us (R498). -/
def execRefReady (s : State) : Host.Outcome State Fault Refusal :=
  let ready (o : Option Nat) : Bool := match o with
    | none => false
    | some a => decide (a + 20000 ≤ s.now)
  let s1 := if ready s.adc.bmAt then s.putB fADC_STATE_BM_RDY true else s
  .next (if ready s.adc.altAt then s1.putB fADC_STATE_ALT_RDY true else s1)

/-! ### Sequences (R488-R495) -/

/-- Whether a sequence is running or due. -/
def State.seqBusy (s : State) (k : Nat) (inj : Bool) : Bool :=
  if inj then s.on (fADC_SSTAT_IRUN k) || s.on (fADC_SSTAT_IDUE k) else s.on (fADC_SSTAT_RUN k) || s.on (fADC_SSTAT_DUE k)

/-- Whether any user sequence is running or due. -/
def State.anySeqBusy (s : State) : Bool := s.seqBusy 0 false || s.seqBusy 0 true || s.seqBusy 1 false || s.seqBusy 1 true

/-- The IB service runs (R482): in closed loop, which begins at the instant of its first IB sample, the first of R335 at which
closed loop may be entered (R318, R486; DEDUCED, notes/assumptions/124.md). -/
def State.service (s : State) : Bool := s.lclk && (s.ibMode = 3 || (s.ib.svcOn && s.ibMayClose))

/-- The sequence whose slot a converter takes next: the injected one first, but the regular one after an injected sequence
has ended (R492, R493). -/
def State.nextSeq (s : State) (k : Nat) : Option Bool :=
  if (s.conv k).regNext && s.seqBusy k false then some false
  else if s.seqBusy k true then some true
  else if s.seqBusy k false then some false
  else none

/-- A sequence starts: VALID clears in its result registers (R494). -/
def State.beginSeq (s : State) (k : Nat) (inj : Bool) : State :=
  if inj then
    let s1 := (s.putB (fADC_SSTAT_IDUE k) false).putB (fADC_SSTAT_IRUN k) true
    let s2 := (upTo 4).foldl (fun s j => s.putB (fADC_IRES_VALID k j) false) s1
    s2.updConv k fun c =>
      { c with iruns := (c.iruns + 1) % 256, islot := 0, aborted := false }
  else
    let s1 := ((s.putB (fADC_SSTAT_DUE k) false).putB (fADC_SSTAT_RUN k) true).put (fADC_SSTAT_SLOT k) 0
    let s2 := (upTo 16).foldl (fun s i => s.putB (fADC_RES_VALID k i) false) s1
    s2.updConv k fun c => { c with runs := (c.runs + 1) % 256 }

/-- A conversion starts: it tracks its input for 40 ns up to its sampling instant `at_`, and the next one may start 200 ns after
it did (R479). -/
def State.startConv (s : State) (k at_ : Nat) (u : ConvFor) : State :=
  s.updConv k fun c => { c with flight := some ⟨at_, u⟩, okAt := at_ + 160 }

/-- A free position or moment is used: by a calibration step, else by the slot in turn, whose sequence starts with its first one
(R492-R494, R503). A moment that no regular slot uses after an injected sequence has ended leaves R493 no more to hold. -/
def State.startUser (s : State) (k at_ : Nat) : State :=
  if (s.conv k).calOn then (if (s.conv k).calCnt < 64 then s.startConv k at_ .cal else s)
  else match s.nextSeq k with
    | some false => (if s.on (fADC_SSTAT_RUN k) then s else s.beginSeq k false).startConv k at_ (.slot false)
    | some true =>
      ((if s.on (fADC_SSTAT_IRUN k) then s else s.beginSeq k true).updConv k fun c => { c with regNext := false }).startConv k at_ (.slot true)
    | none => if (s.conv k).regNext then s.updConv k fun c => { c with regNext := false } else s

/-- A due injected sequence starts outside the IB service, where R493 does not keep its turn from it; a regular conversion in
progress is aborted (R491). -/
def State.cutIn (s : State) (k : Nat) : State :=
  if s.on (fADC_SSTAT_IDUE k) && s.nextSeq k = some true && !(s.conv k).calOn then
    let cut : Bool := (s.conv k).flight.any fun f => f.use = .slot false
    (s.beginSeq k true).updConv k fun c => { c with aborted := cut, flight := if cut then none else c.flight }
  else s

/-- What a converter does at an instant outside the IB service, when every moment is free (R487, R491): the next conversion starts
as soon as the converter can, one whose result was not taken at its instant being lost. -/
def State.convFree (s : State) (k : Nat) : State :=
  let s1 := s.cutIn k
  let c := s1.conv k
  if c.okAt ≤ s1.now && !(c.flight.any fun f => s1.now ≤ f.at_ + 160) then s1.startUser k (s1.now + 40) else s1

/-- A sequence becomes due; one that is running or due already stays as it is. -/
def State.becomeDue (s : State) (k : Nat) (inj : Bool) : State :=
  if s.seqBusy k inj then s else s.putB (if inj then fADC_SSTAT_IDUE k else fADC_SSTAT_DUE k) true

/-- A trigger of a sequence: lost under R490 or R503, else due after its delay (R489). -/
def State.trigger (s : State) (k : Nat) (inj : Bool) : State :=
  let delay := 8 * s.get (if inj then fADC_INJ_DELAY k else fADC_SEQ_DELAY k)
  if !s.lclk then s
  else if s.seqBusy k inj || !s.on fADC_STATE_BM_RDY || (s.get fADC_CFG_REF ≠ 0 && !s.on fADC_STATE_ALT_RDY) || (s.conv k).calOn then
    (s.addSat (fADC_SSTAT_LOST k) 1).raise evADC_TRIG_LOST 0
  else if delay = 0 then s.becomeDue k inj
  else s.updConv k fun c =>
    if inj then { c with idueAt := c.idueAt ++ [s.now + delay] } else { c with dueAt := c.dueAt ++ [s.now + delay] }

/-- Every sequence with a trigger source that fires, A before B and regular before injected. -/
def State.triggerAll (s : State) (reg inj : Nat → Bool) : State :=
  let one (s : State) (k : Nat) : State :=
    let s1 := if reg k then s.trigger k false else s
    if inj k then s1.trigger k true else s1
  one (one s 0) 1

/-- SEQ_TRIGGER: an event of Table 11.2 fires. Periods and turn-on edges exist only in closed loop, an edge only of an
active phase; an IB fault fires in the cycle in which its bit of IBS_STAT sets, in closed loop. -/
def execSeqTrigger (src : TrigSrc) (s : State) : Host.Outcome State Fault Refusal :=
  .next (match src with
    | .ibPeriod =>
      if s.ibMode = 3 then s.triggerAll (fun k => s.get (fADC_SEQ_TSRC k) = 2) (fun k => s.get (fADC_INJ_TSRC k) = 2) else s
    | .turnOn p =>
      if s.ibMode = 3 && s.pActive p then
        s.triggerAll (fun k => s.get (fADC_SEQ_TSRC k) = 3 && s.get (fADC_SEQ_TPH k) = p.val)
          (fun k => s.get (fADC_INJ_TSRC k) = 3 && s.get (fADC_INJ_TPH k) = p.val)
      else s
    | .ibFault =>
      if s.adc.faultNew then
        (s.updAdc fun a => { a with faultNew := false }).triggerAll (fun _ => false) (fun k => s.get (fADC_INJ_TSRC k) = 4)
      else s)

/-- ADC_TIMER_EXPIRY: the timer expires and starts its next period. -/
def execAdcTimerExpiry (s : State) : Host.Outcome State Fault Refusal :=
  .next (match s.adc.tmrAt with
    | none => s
    | some a =>
      if a ≤ s.now then
        let s1 := s.updAdc fun h => { h with tmrAt := some (a + 1000 * s.get fADC_TMR_PERIOD) }
        s1.triggerAll (fun k => s.get (fADC_SEQ_TSRC k) = 1) (fun k => s.get (fADC_INJ_TSRC k) = 1)
      else s)

/-- SEQ_DUE: the delay of a triggered sequence has passed. -/
def execSeqDue (k : Fin 2) (inj : Bool) (s : State) : Host.Outcome State Fault Refusal :=
  let c := s.conv k
  .next (match (if inj then c.idueAt else c.dueAt) with
    | [] => s
    | a :: l =>
      if a ≤ s.now then
        (s.updConv k fun c => if inj then { c with idueAt := l } else { c with dueAt := l }).becomeDue k inj
      else s)

/-- The result of a user slot (R494, R500). -/
def State.userCode (s : State) (k ch : Nat) (temp : Bool) (nv : Int) (refNv : Nat) : Int :=
  let raw := rawCode k (signedMode ch temp) nv refNv
  if s.get fADC_CFG_REF = 0 then s.trimmed k ch temp raw else raw

/-- A result word of a sequence's run (Table 11.5). -/
def resWord (ref count : Nat) (code : Int) : Word :=
  BitVec.ofNat 32 (2 ^ 31 + ref * 2 ^ 29 + count % 256 * 2 ^ 16 + unsigned 16 code)

/-- A result of the regular sequence; after the last slot the sequence is done. -/
def State.regResult (s : State) (k : Nat) (nv : Int) (refNv : Nat) : State :=
  let i := s.get (fADC_SSTAT_SLOT k)
  let ch := s.get (fADC_SLOT_CH k i)
  let code := s.userCode k ch (s.on (fADC_SLOT_MODE k i)) nv refNv
  let s2 := (s.setReg (ADC_RES k i) (resWord (s.get fADC_CFG_REF) (s.conv k).runs code)).updConv k fun c => { c with regNext := false }
  if i < s.get (fADC_SEQ_LEN k) then s2.put (fADC_SSTAT_SLOT k) (i + 1)
  else
    ((s2.putB (fADC_SSTAT_RUN k) false).put (fADC_SSTAT_SLOT k) 0).raise (if k = 0 then evADC_SEQ_DONE_A else evADC_SEQ_DONE_B) 0

/-- A result of the injected sequence. -/
def State.injResult (s : State) (k : Nat) (nv : Int) (refNv : Nat) : State :=
  let j := (s.conv k).islot
  let ch := s.get (fADC_ISLOT_CH k j)
  let code := s.userCode k ch (s.on (fADC_ISLOT_MODE k j)) nv refNv
  let s1 := s.setReg (ADC_IRES k j) (resWord (s.get fADC_CFG_REF) (s.conv k).iruns code)
  if j < s.get (fADC_INJ_LEN k) then s1.updConv k fun c => { c with islot := j + 1 }
  else
    let s2 := s1.putB (fADC_SSTAT_IRUN k) false
    let s3 := if (s.conv k).aborted then s2.addSat (fADC_SSTAT_RESTART k) 1 else s2
    let s4 := s3.updConv k fun c => { c with islot := 0, aborted := false, regNext := true }
    s4.raise (if k = 0 then evADC_INJ_DONE_A else evADC_INJ_DONE_B) 0

/-! ### Calibration (R503-R506) -/

/-- A conversion of a calibration step, of 64. -/
def State.calResult (s : State) (k : Nat) (nv : Int) (refNv : Nat) : State :=
  let ch := if s.adc.calIdx < 32 then s.adc.calIdx else s.adc.calIdx - 32
  let raw := rawCode k (signedMode ch (32 ≤ s.adc.calIdx)) nv refNv
  s.updConv k fun c => if c.calCnt < 64 then { c with calSum := c.calSum + raw, calCnt := c.calCnt + 1 } else c

/-- The trims of a full step: G and OFFSET where R505 stores them. -/
def trimsOf (zero full m0 m1 : Int) : Option (Nat × Int) :=
  if m0 < m1 then
    let g := roundHalfUp ((full - zero) * 16384) (m1 - m0)
    if 14746 ≤ g ∧ g ≤ 18022 then
      let off := m0 - roundHalfUp (zero * 16384) g
      if -512 ≤ off ∧ off ≤ 512 then some (g.toNat, off) else none
    else none
  else none

/-- The mean of a converter's 64 conversions ends its part of the step. -/
def State.calEnd (s : State) (k : Nat) : State :=
  let c := s.conv k
  let m := s.adc.calIdx
  let key := 64 * k + m
  let mean := roundHalfUp c.calSum 64
  let s1 := s.updConv k fun c => { c with calOn := false, calSum := 0, calCnt := 0 }
  if !c.calOn then s
  else if s.adc.calStep = 1 then s1.updAdc fun a => { a with held := tblSet (fun _ => none) a.held key (some mean) }
  else
    let m0 := (tblGet (fun _ => none) s.adc.held key).getD 0
    let s2 := s1.updAdc fun a => { a with held := tblSet (fun _ => none) a.held key none }
    match trimsOf (s.getI fADC_CALTGT_ZERO) (s.getI fADC_CALTGT_FULL) m0 mean with
    | some (g, off) => (s2.put (fADC_CAL_GAIN k m) g).putI (fADC_CAL_OFFSET k m) off
    | none => (s2.updAdc fun a => { a with calRange := true }).raise evADC_CAL_RANGE 0

/-- ADC_CAL_DONE: every converter of the step has made its 64 conversions (R504, R505). -/
def execAdcCalDone (s : State) : Host.Outcome State Fault Refusal :=
  let full (k : Nat) : Bool := !(s.conv k).calOn || (s.conv k).calCnt = 64
  .next (if s.on fADC_STATE_CAL_BUSY && full 0 && full 1 then
      (((s.calEnd 0).calEnd 1).putB fADC_STATE_CAL_BUSY false).raise evADC_CAL_DONE 0
    else s)

/-- The converters that ADC_CALCMD selects, and whether the step can run on one: a full-scale step needs its m0 (R504). -/
def State.calSel (s : State) : List Nat := (upTo 2).filter fun k => bitN (s.get fADC_CALCMD_CONV) k
def State.calAble (s : State) (k : Nat) : Bool :=
  s.get fADC_CALCMD_STEP ≠ 2 || (tblGet (fun _ => none) s.adc.held (64 * k + s.get fADC_CALCMD_INDEX)).isSome

/-- A write of GO has no effect: CONV is 0 or a sequence is active on a selected converter, whatever STEP is (R503); a step cannot
start: no converter that can run it (R504), or a calibration in progress (DEDUCED, notes/assumptions/66.md). -/
def State.calBarred (s : State) : Bool :=
  s.calSel.isEmpty || (s.calSel.any fun k => s.seqBusy k false || s.seqBusy k true)
    || (s.get fADC_CALCMD_STEP ≠ 0 && (!s.calSel.any s.calAble || s.on fADC_STATE_CAL_BUSY))

/-- A step that nothing bars, the fields being stored (R503-R506). -/
def State.calGo (s : State) : State :=
  let step := s.get fADC_CALCMD_STEP
  let m := s.get fADC_CALCMD_INDEX
  if step = 3 then
    ((s.calSel.foldl (fun s k => s.setReg (ADC_CAL k m) 0x40000000) s).updAdc fun a => { a with calRange := false }).raise evADC_CAL_DONE 0
  else
    let run := s.calSel.filter s.calAble
    let s1 := s.raiseIf (run.length < s.calSel.length) evADC_REFUSED 0
    let s2 := run.foldl (fun s k => s.updConv k fun c => { c with calOn := true, calSum := 0, calCnt := 0 }) s1
    (s2.updAdc fun a => { a with calStep := step, calIdx := m, calRange := false }).putB fADC_STATE_CAL_BUSY true

/-! ### The IB service (R482-R485) and the closure check (R501, R502) -/

/-- The start of the IB period that an instant lies in, on the grid that runs both ways from a period start. -/
def State.periodOf (s : State) (at_ : Nat) : Nat :=
  let a := s.ib.periodAt
  at_ - (if a ≤ at_ then (at_ - a) % 2000 else (2000 - (a - at_) % 2000) % 2000)

/-- The number of the period of an instant since the service began (R484). -/
def State.periodNo (s : State) (at_ : Nat) : Nat := (s.periodOf at_ - s.periodOf s.ib.svcAt) / 2000

/-- The first IB period that begins at or after a millisecond boundary (R501): `at_` is an instant in the period. -/
def State.closurePeriod (s : State) (at_ : Nat) : Bool := s.adc.closeAt = some (s.periodOf at_)

/-- The held current at the n-th position of the period of an instant: the phases of the parity of the period before, in
ascending number; one without a turn-on edge in that period leaves the position free (R483). -/
def State.heldCurrent (s : State) (at_ n : Nat) : AdcUse :=
  let no := s.periodNo at_
  let p := 2 * n + (no + 1) % 2
  let start := s.periodOf at_
  if 0 < no && (s.phase p).edgeAt.any fun e => start ≤ e + 2000 && e < start then .current p else .user

/-- What a converter converts at an instant while the service runs (Table 11.1); none at an instant that is no position. -/
def State.position (s : State) (k at_ : Nat) : Option AdcUse :=
  let chk : AdcUse := if s.closurePeriod at_ then .check else .user
  let off := at_ - s.periodOf at_
  if k = 0 then
    match off with
    | 0 | 1000 => some .ib
    | 200 => some (s.heldCurrent at_ 0)
    | 600 => some (s.heldCurrent at_ 2)
    | 1200 => some (s.heldCurrent at_ 4)
    | 1600 => some (s.heldCurrent at_ 6)
    | 400 | 800 => some .user
    | 1400 => some chk
    | 1800 => some (if s.periodNo at_ % 50 < 16 then .phaseTemp (s.periodNo at_ % 50) else .user)
    | _ => none
  else
    match off with
    | 100 | 1100 => some .vin
    | 300 => some (s.heldCurrent at_ 1)
    | 700 => some (s.heldCurrent at_ 3)
    | 1300 => some (s.heldCurrent at_ 5)
    | 1700 => some (s.heldCurrent at_ 7)
    | 500 | 1500 => some .ib
    | 900 => some (if s.get fIBS_CTL_SRC = 1 then .track else .user)
    | 1900 => some chk
    | _ => none

/-- The end of a closure check: both codes, and a fault where they come to differ by more than 8 (R502, R656). -/
def State.closureEnd (s : State) (a b : Nat) : State :=
  let s1 := s.setReg ADC_CLOSURE (BitVec.ofNat 32 (b * 2 ^ 16 + a))
  let out (c : Nat) : Nat := b2n (c < 8028 || 8356 < c)
  let far : Bool := decide (8 < distN a b)
  (s1.updAdc fun h => { h with closeOn := far }).raiseIf (far && !s.adc.closeOn) evADC_CLOSURE (out a + 2 * out b)

/-- A conversion of the service: to the IB stage only (R485). -/
def State.serviceConversion (s : State) (k : Nat) (nv : Int) (refNv : Nat) (u : AdcUse) : State :=
  let code (ch : Nat) (temp : Bool) : Int := s.benchCode k ch temp nv refNv
  match u with
  | .ib => s.ibReading (natOf (code 16 false))
  | .vin => s.vinReading (natOf (code 17 false))
  | .current p => s.currentReading p (code p false)
  | .phaseTemp p => s.phaseTempReading p (natOf (code p true))
  | .track => s.updIb fun h => { h with trkSum := h.trkSum + natOf (code 19 false), trkCnt := h.trkCnt + 1 }
  | .check =>
    let c := natOf (code 31 false)
    if k = 0 then s.updAdc fun a => { a with closA := some c }
    else match s.adc.closA with
      | none => s
      | some a => (s.updAdc fun h => { h with closA := none }).closureEnd a c
  | .user => s

/-- The result of a conversion. -/
def State.convResult (s : State) (k : Nat) (nv : Int) (refNv : Nat) (u : ConvFor) : State :=
  match u with
  | .service u => s.serviceConversion k nv refNv u
  | .cal => if (s.conv k).calOn then s.calResult k nv refNv else s
  | .slot true => s.injResult k nv refNv
  | .slot false => s.regResult k nv refNv

/-- CONVERSION_DONE: from 160 ns after its sampling instant, the result of the conversion in progress on converter `k` is
available: the input was `nv`, the full scale of the reference `refNv`. Outside the IB service the next conversion starts at
once (R479-R494). -/
def execConversionDone (k : Fin 2) (nv : Int) (refNv : Nat) (s : State) : Host.Outcome State Fault Refusal :=
  .next (match (s.conv k).flight with
    | none => s
    | some f =>
      if !s.lclk || s.now < f.at_ + 160 then s
      else
        let s1 := (s.updConv k fun c => { c with flight := none }).convResult k nv refNv f.use
        if s1.service then s1 else s1.convFree k)

/-! ### The converters in a cycle -/

/-- The turn-on edges of this cycle (R338, R483). -/
def State.noteEdges (s : State) : State :=
  if s.ibMode = 3 then
    forEach (upTo 16) (fun p s =>
      if s.pActive p && 0 < s.phaseCode p && 1000 * s.now < s.turnOnPs p + 1000 then s.updPhase p fun h => { h with edgeAt := some s.now }
      else s) s
  else s

/-- A millisecond boundary of the timestamp, and the first IB period that begins at or after it (R449, R501). -/
def State.noteMs (s : State) : State :=
  let n := s.ts.toNat / 1000000
  let due : Bool := s.adc.closeDue || decide (s.adc.msNo < n)
  let start : Bool := s.periodOf s.now = s.now
  s.updAdc fun a => { a with msNo := n, closeDue := due && !start, closeAt := if due && start then some s.now else a.closeAt }

/-- The service begins at the first instant of R335 at which closed loop may be entered and the converter of that position can
start; it ends where closed loop may not be entered any more (R318, R479, R486). -/
def State.serviceTick (s : State) : State :=
  let off := s.now - s.periodOf s.now
  let k := off / 500 % 2
  if s.ib.svcOn then (if s.ibMode = 2 && !s.ibMayClose then s.updIb fun h => { h with svcOn := false } else s)
  else if s.ibMode = 2 && off % 500 = 0 && s.ibMayClose && (s.conv k).okAt + 40 ≤ s.now then
    s.updIb fun h => { h with svcOn := true, svcAt := s.now }
  else s

/-- One converter in a cycle: the conversion of its position in the IB service, no IB reading before Benchmark is ready (R486); else
what its sequences and calibration need. The timestamp of a regular sequence's first sampling instant is shown (R494). -/
def State.convTick (s : State) (k : Nat) : State :=
  let s1 := if !s.service then s.convFree k
    else match s.position k s.now with
      | none => s
      | some u =>
        if s.now < (s.conv k).okAt + 40 || (u = .ib && !s.on fADC_STATE_BM_RDY) then s
        else if u = .user then s.startUser k s.now
        else s.startConv k s.now (.service u)
  if (s1.conv k).flight = some ⟨s.now, .slot false⟩ && s1.get (fADC_SSTAT_SLOT k) = 0 then
    s1.setReg (ADC_TSTART k) (BitVec.ofNat 32 s.ts.toNat)
  else s1

/-- The converters in a cycle; a source of Table 11.2 that was set in the one before is past. -/
def State.adcTick (s : State) : State :=
  let s1 := s.noteMs.updAdc fun a => { a with faultNew := false }
  if !s1.lclk then s1 else ((s1.noteEdges).serviceTick.convTick 0).convTick 1

/-! ### Register writes (R495, R499) -/

/-- A write of ADC_SEQ or ADC_INJ: `v` the word with its GO bit, refused where the sequence is busy; GO triggers in any case. -/
def State.writeSeq (s : State) (k : Nat) (inj : Bool) (v : Word) : State :=
  let src := bitsAt v 8 3
  let stored := setBits (setBits v 31 1 0) 8 3 (if src ≤ (if inj then 4 else 3) then src else 0)
  let s1 := if s.seqBusy k inj then s.raise evADC_REFUSED 0 else s.setReg (if inj then ADC_INJ k else ADC_SEQ k) stored
  if bitsAt v 31 1 = 1 then s1.trigger k inj else s1

/-- A write of a slot. -/
def State.writeSlot (s : State) (k : Nat) (inj : Bool) (i : Nat) (v : Word) : State :=
  if s.seqBusy k inj then s.raise evADC_REFUSED 0
  else s.setReg (if inj then ADC_ISLOT k i else ADC_SLOT k i) (if bitsAt v 0 5 < 16 then v else setBits v 5 1 0)

/-- A write of ADC_CFG.REF (R496-R499); `absent` tells that Benchmark's latest calibration found DATUM_IN absent. -/
def State.writeRef (s : State) (absent : Bool) (ref : Nat) : State :=
  let r := if ref = 3 then 0 else ref
  if s.anySeqBusy || (r = 1 && absent) then s.raise evADC_REFUSED 0
  else if r = s.get fADC_CFG_REF then s
  else
    let s1 := ((s.put fADC_CFG_REF r).put fADC_STATE_REF r).putB fADC_STATE_ALT_RDY false
    s1.updAdc fun a => { a with altAt := if r ≠ 0 && s.lclk then some s.now else none }

/-- A write of ADC_CALCMD, `w` what the register would store: one whose GO is refused has no effect (R503). -/
def State.writeCal (s : State) (go : Bool) (w : Word) : State :=
  let s1 := s.setReg ADC_CALCMD w
  if !go then s1
  else if s1.calBarred then s.raise evADC_REFUSED 0
  else if s1.get fADC_CALCMD_STEP = 0 then s1 else s1.calGo

/-- A write of ADC_TMR: the period is counted from the write. -/
def State.writeTimer (s : State) (n : Nat) : State :=
  (s.put fADC_TMR_PERIOD n).updAdc fun a => { a with tmrAt := if n = 0 then none else some (s.now + 1000 * n) }

end Sys2Proof.Machine
end

