-- ==== Sys2Proof/Machine/Power.lean ====
section
/-!
DEFINITION. Block power states and Monument (chapter 6, R293-R315): requests, entry and its abort, wake events, waking, Off,
and the 16 rules.
-/

namespace Sys2Proof.Machine

/-- The power-state logic behind its registers, changed. -/
def State.updPst (s : State) (f : PstHid → PstHid) : State := { s with pst := f s.pst }

/-! ### Monument rules as conditions (R303, R313, R315, Tables 6.4 and 6.8) -/

/-- Rule `r` is triggered now. -/
def State.ruleOn (s : State) (r : Nat) : Bool := bitN (s.get fMON_ACTIVE_ACT) r

/-- A triggered rule with an action. -/
def State.ruleActs (s : State) (act : Nat) : Bool := (upTo 16).any fun r => s.ruleOn r && s.get (fMON_RULE_ACT r) = act

/-- A rule that could wake the block from Off. -/
def State.ruleInOff (s : State) : Bool :=
  (upTo 16).any fun r => s.get (fMON_RULE_ACT r) = 2 && bitN (s.get (fMON_RULE_STATES r)) 4 && s.get (fMON_RULE_CH r) ≤ 5

/-- An enabled level-type wake event of Table 6.4 that is active, by its code in LASTWAKE; the lowest one (R301). -/
def State.levelEvent (s : State) : Option Nat :=
  if s.on fPST_WAKE_WAKE_N_EN && s.on fPST_WAKE_WAKE_N_LEVEL && s.pins.wakeN then some 1
  else if s.on fPST_WAKE_PMBUS_EN && s.pst.pmbus then some 5
  else if s.on fPST_WAKE_MONUMENT_EN && s.ruleActs 2 then some 6
  else none

/-- A source of Table 6.4 is enabled. -/
def State.wakeEnabled (s : State) : Nat → Bool
  | 1 => s.on fPST_WAKE_WAKE_N_EN
  | 2 => s.on fPST_WAKE_TIMER_EN
  | 3 => s.on fPST_WAKE_DOORBELL_EN
  | 4 => s.on fPST_WAKE_TRAVERSE_EN
  | 5 => s.on fPST_WAKE_PMBUS_EN
  | 6 => s.on fPST_WAKE_MONUMENT_EN
  | _ => false

/-- Whether a source ends a state (Table 6.4). -/
def wakeEnds (st code : Nat) : Bool :=
  match st with
  | 2 => true
  | 3 => code ≠ 5
  | 4 => code = 1 || code = 6
  | _ => false

/-- Whether a source is of the level type. -/
def State.isLevel (s : State) (code : Nat) : Bool := code = 5 || code = 6 || (code = 1 && s.on fPST_WAKE_WAKE_N_LEVEL)

/-! ### Waking (R305, R306, R550, R551) -/

/-- The core runs its next instruction: the block leaves Idle (R295). -/
def State.coreWake (s : State) : State :=
  let s1 := { s with core := { s.core with waiting := false } }
  if s.aon = 1 then s1.enterRun else s1

/-- The core at a wake: it starts at 400 MHz, and the watchdog counts from 10,000 us anew (R580, R600). -/
def State.coreAtWake (s : State) : State :=
  { (s.putB fBLK_CORE_CLK false).put fBLK_WDT_COUNT 10000 with core := { s.core with waiting := false, wdtSub := 0 } }

/-- A wake from Sleep or Deep sleep begins (R305, R352, R580, R600). -/
def State.beginWake (s : State) (code : Nat) : State :=
  let s1 := (s.moveRef.put fPST_STATE_LASTWAKE code).updPst fun p =>
    { p with waking := true, wokeAt := some (s.now, s.aon), toRun := true, timerAt := none, monSeen := [] }
  let s2 := s1.coreAtWake
  let s3 := { s2 with trv := { s2.trv with waking := s2.trv.waking || s2.on fTRV_CFG_WAKEALL } }
  if s.aon = 3 then (s3.restoreMems).ibRamp else s3

/-- A wake from Off begins: the retained plat is to be checked, the IB rises again, the trims return (R310, R354, R380,
R460, R624). The VSEL value in force, or the tracked target, stays (R322, R328). -/
def State.beginOffWake (s : State) (code : Nat) : State :=
  let s1 := (s.moveRef.put fPST_STATE_LASTWAKE code).setAon 5
  let s2 := s1.updPst fun p => { p with waking := true, wokeAt := some (s.now, 4), offCheck := true, timerAt := none, monSeen := [] }
  let s3 := (s2.setReg PLAT_BM s2.boot.bmTrim).putB fPLAT_STATE_BMDONE true
  let s4 := ((s3.put fPLAT_STATE_PHASE 2).restoreTcal).setReg MEM_PWR 0x005
  let s5 := (upTo 6).foldl (fun s k => s.powerUp k (if k ≤ 1 then 10000 else 100000)) s4
  (s5.refreshIb.leaveKeepAlive).raise evNRG_LOST 0xFFFF

/-- The domains commanded On that are not, switch on; those of the uncore that are in hysteretic mode close their loops
(R306), their cells in normal operation or, where a pre-biased start was cut short, in that again (R137). -/
def State.resumeDomains (s : State) : State :=
  let one (s : State) (d : Nat) : State :=
    if (s.dom d).commanded ≠ 1 || s.shut then s
    else if s.isOn d then
      let s1 := (s.tractsOf d).foldl (fun s t =>
        if s.loopState t = 5 then (s.seedStart t (s.get (fCEL_CSTAT_TARGET (4 * t)))).closeLoop t (s.setOf t) else s) s
      (s1.cellsOf d).foldl (fun s c =>
        if s.alive c && s.mode c ≠ 6 then s.setMode c (if (s.cell c).rejoin then 4 else s.loadMode (c / 4)) else s) s1
    else if s.mayStart d then s.switchOn d else s
  (upTo 32).foldl one s

/-- An entry aborted by an event of any source: the block returns to Run, at once where lclk still runs, and the forced pauses held
for the stop of gate_clk end; else over a wake (R248, R298, R302, R305). -/
def State.abortEntry (s : State) (code : Nat) : State :=
  let s1 := ((s.put fPST_STATE_LASTWAKE code).putB fPST_STATE_ENTERING false).raise evPST_ENTRY_ABORTED 0xFFFF
  let s2 := s1.updPst fun p =>
    { p with commitAt := none, stopAt := none, forced := false, aborted := true, wokeAt := some (s.now, 2) }
  let s3 := { s2 with core := { s2.core with waiting := false } }
  if s.lclk then
    ((if s.aon = 1 then s3.enterRun else s3).forcedEnds ((upTo 64).filter fun t => s.forcedPause t && !s3.forcedPause t)).resumeDomains
  else s3.coreAtWake.updPst fun p => { p with waking := true, toRun := true }

/-- The commit window of the entry has begun. -/
def State.inCommit (s : State) : Bool :=
  match s.pst.commitAt with | none => false | some a => decide (a ≤ s.now)

/-- A source that coincides with the one that has just ended a state or an entry: LASTWAKE names the lowest code (R302). -/
def State.coincide (s : State) (code : Nat) : State :=
  match s.pst.wokeAt with
  | none => s
  | some (t, st) => if t = s.now && wakeEnds st code && code < s.get fPST_STATE_LASTWAKE then s.put fPST_STATE_LASTWAKE code else s

/-- An enabled wake event occurs (R298-R301, R400). Any of them aborts an entry, whatever state it would end; of the edge type only
WAKE_N, on an entry into Off, still does so inside the commit window. -/
def State.wakeEvent (s : State) (code : Nat) : State :=
  if s.on fPST_STATE_ENTERING then
    if s.pst.orderly || s.pst.forced then s
    else if s.inCommit && !s.isLevel code && !(s.pst.target = 4 && code = 1) then s
    else s.abortEntry code
  else if !wakeEnds s.aon code || s.pst.waking then s.coincide code
  else if s.aon = 4 then (if s.shut then s else s.beginOffWake code)
  else s.beginWake code

/-- A wake event of a source, where PST_WAKE enables it. -/
def State.wakeBy (s : State) (code : Nat) : State := if s.wakeEnabled code then s.wakeEvent code else s

/-- WAKE_N has been held low for 2 cycles of the 32.768 kHz aon_clk (R301). -/
def State.wakeHeld (s : State) : Bool :=
  s.pins.wakeN && (match s.pst.wakeNFrom with | none => false | some a => decide (a + 61036 ≤ s.now))

/-- In Off the wake-pin latch ends the state, whatever WAKE_N's type (R301). -/
def State.wakeLatch (s : State) : State := if s.aon = 4 && s.wakeHeld then s.wakeBy 1 else s

/-- A level-type event that is active acts, also one that a write has just enabled; WAKE_N acts whatever its type on an entry
into Off (R300), and in Off through its latch (R301). -/
def State.recheckLevels (s : State) : State :=
  if s.on fPST_STATE_ENTERING then
    if s.pst.target = 4 && s.pins.wakeN && s.on fPST_WAKE_WAKE_N_EN then s.wakeEvent 1
    else match s.levelEvent with
      | none => s
      | some c => s.wakeEvent c
  else if s.aon = 4 then
    (if s.on fPST_WAKE_MONUMENT_EN && s.ruleActs 2 then s.wakeLatch.wakeEvent 6 else s.wakeLatch)
  else if s.asleep && !s.pst.waking then
    match s.levelEvent with
    | none => s
    | some c => s.wakeEvent c
  else s

/-- WAKE_N becomes active or inactive; in Off its latch takes 2 aon_clk cycles to catch it. The level is followed through
power-on reset, and R304 counts from the release of that (R298-R304). -/
def execWakeN (active : Bool) (s : State) : Host.Outcome State Fault Refusal :=
  .next (
    let s1 := { s with pins := { s.pins with wakeN := active } }
    let s2 := s1.updPst fun p =>
      { p with wakeNFrom := if active then some (p.wakeNFrom.getD s.now) else none, stuckOn := p.stuckOn && active }
    if s.por then s2
    else if active && !s.pins.wakeN && s.aon ≠ 4 then s2.wakeBy 1
    else s2)

/-- WAKE_STUCK: WAKE_N active for 1 s without a break (R304). -/
def execWakeStuck (s : State) : Host.Outcome State Fault Refusal :=
  .next (match s.pst.wakeNFrom with
    | none => s
    | some a =>
      if a + 1000000000 ≤ s.now && !s.pst.stuckOn then (s.updPst fun p => { p with stuckOn := true }).raise evPST_WAKE_STUCK 0xFFFF else s)

/-- WAKE_TIMER: the wake timer expires (Table 6.4). -/
def execWakeTimer (s : State) : Host.Outcome State Fault Refusal :=
  .next (match s.pst.timerAt with
    | none => s
    | some a => if a ≤ s.now then (s.updPst fun p => { p with timerAt := none }).wakeBy 2 else s)

/-- The target's answer on the bus: whether it acknowledged, the bytes it returned, and their packet error code. -/
def State.pmbAnswer (s : State) (ack : Bool) (bs : List Byte) (pec : Option Byte) : State :=
  { s with pmb := { s.pmb with acked := ack, reply := bs, pec := pec } }

/-- PMBUS_ADDRESS_MATCH: the target acknowledges its address in Run, Idle, Sleep and the boot state, and the transaction is
pending; in Deep sleep and Off it recognises no address (R75, R302, Tables 6.2 and 6.4). -/
def execPmbusAddressMatch (s : State) : Host.Outcome State Fault Refusal :=
  .next (if s.por || s.aon = 3 || s.aon = 4 then s.pmbAnswer false [] none
    else ((s.pmbAnswer true [] none).updPst fun p => { p with pmbus := true }).wakeBy 5)

/-- TRAVERSE_WAKE: 1 us of line activity on a receive lane, in Sleep or Deep sleep or on the way there; a die that it wakes
will send its own burst (R298, R551). -/
def execTraverseWake (s : State) : Host.Outcome State Fault Refusal :=
  .next (if s.aon = 2 || s.aon = 3 || s.on fPST_STATE_ENTERING then
      let s1 := s.wakeBy 4
      if s1.pst.waking && !s.pst.waking then { s1 with trv := { s1.trv with waking := true } } else s1
    else s)

/-- The wake frame: a 2 us burst on every transmit pair (R551). -/
def State.wakeFrame (s : State) : State :=
  let b (x : LaneHid) : LaneHid := { x with burst := s.now + 2000, busyUntil := max x.busyUntil (s.now + 2000) }
  { s with trv := { s.trv with waking := false, cw := b s.trv.cw, ccw := b s.trv.ccw } }

/-- FAST_OSCILLATOR_STABLE: on a wake the fast oscillator reaches full operation: the core executes, and a wake burst leaves
on every transmit pair (R305, R551). -/
def execFastOscillatorStable (s : State) : Host.Outcome State Fault Refusal :=
  .next (if s.por || s.clk.fastOsc || !(s.pst.waking || s.aon = 5) then s
    else
      let s1 := { s with clk := { s.clk with fastOsc := true }, core := { s.core with waiting := false } }
      if s1.trv.waking then s1.wakeFrame else s1)

/-- Shared time is to be found anew after lclk has stood still (R530). -/
def State.clockBack (s : State) : State :=
  { s.putB fTRV_STATE_TSYNC false with trv := { s.trv with okOffsets := 0, slewLeft := 0 } }

/-- PLL_LOCK: lclk and gate_clk start; on a wake the STATE frame names Run, lagging domains switch on, and tracts of
domains that stayed On make burst starts where requests wait; on a wake from Off it follows the start of the core (R53,
R248, R249, R305, R306, R331, R481, R498, R530, R550, R620). -/
def execPllLock (s : State) : Host.Outcome State Fault Refusal :=
  .next (if s.por || s.lclk || !(s.pst.waking || s.aon = 5) || (s.pst.waking && (!s.clk.fastOsc || s.pst.offCheck)) then s
    else
      let s0 := { s with clk := { s.clk with pll := true, gateAt := s.now }, cg := { s.cg with gateHold := some (s.now + 16), staggerAt := s.now, slotNo := none } }
      let s1 := (s0.updIb fun h => if h.gridSet then h else { h with gridSet := true, periodAt := s.now }).adcStart.clockBack
      if s.aon = 5 then (if s.pst.waking then s1.originate 2 11 0 else s1).updPst fun p => { p with waking := false }
      else
        let s2 := (s1.originate 2 11 0).resumeDomains
        (s2.forcedEnds ((upTo 64).filter fun t => s2.isOn (s2.domOf t))).checkRun)

/-! ### Requests and entry (R296, R297, R299) -/

/-- Step 2 of R297: a domain takes its column of Table 6.3. -/
def State.enterColumn (s : State) (target d : Nat) : State :=
  let st := s.domState d
  if target = 4 then (if 2 ≤ st then s.beginStop d else s)
  else if s.toRetain d then s.beginRetention d
  else s

/-- Steps 1 and 2 of an entry, and the later ones as soon as no domain moves. -/
def State.beginEntry (s : State) (target : Nat) (forced : Bool) : State :=
  let s1 := (s.soClose).updPst fun p =>
    { p with target := target, forced := forced, commitAt := none, stopAt := none, step1At := s.now, aborted := false,
             waking := false, toRun := false }
  let s2 := (upTo 32).foldl (fun s d => s.enterColumn target d) (s1.putB fPST_STATE_ENTERING false)
  (s2.putB fPST_STATE_ENTERING true).checkEntry

/-- The cases in which R296 refuses a request. -/
def State.refusesEntry (s : State) (target : Nat) : Bool :=
  !s.runOrIdle || !(target = 2 || target = 3 || target = 4) || s.on fPST_STATE_ENTERING
    || (s.on fPST_WAKE_WAKE_N_EN && s.pins.wakeN) || s.levelEvent.isSome || s.ruleActs 3
    || (upTo 32).any (fun d => s.domState d = 3 || s.domState d = 5)
    || (upTo 64).any (fun t => s.loopState t = 1 || s.loopState t = 2)
    || s.on fTRC_ENG_FAILOVER
    || (target = 4 && !s.on fPST_WAKE_WAKE_N_EN && !(s.on fPST_WAKE_MONUMENT_EN && s.ruleInOff))

/-- A request for a state (R296). -/
def State.requestState (s : State) (target : Nat) : State :=
  if s.refusesEntry target then s.raise evPST_ENTRY_REFUSED 0xFFFF else s.beginEntry target false

/-- Four aon_clk cycles, rounded up to whole ns. -/
def commitNs : Nat := 1954

/-- Whether a register keeps its contents through Off (R309, R572); the IB stage, thermal shutdown and the corrections of Table 8.2
stay in force, so what shows them stays with them (R353, R400, R403). -/
def keptInOff (off : Nat) : Bool :=
  (0x2000 ≤ off && off < 0x3000) || off = IBS_STATE || off = IBS_TGT || ((upTo 3).any fun i => off = THM_COMP i)
    || (upTo 16).any fun p => off = IBS_PSTAT p

/-- What stays of a latched cell and of a derated one: its failed mode and cause, its mark and frozen COUNT (R140, R469). -/
def State.keepCell (s old : State) (c : Nat) : State :=
  let s1 := if old.mode c = 7 then (s.put (fCEL_CSTAT_MODE c) 7).put (fCEL_CSTAT_CAUSE c) (old.get (fCEL_CSTAT_CAUSE c)) else s
  if old.on (fNRG_SMEAS_DERATED c) then
    (s1.putB (fNRG_SMEAS_DERATED c) true).put (fNRG_SMEAS_COUNT c) (old.get (fNRG_SMEAS_COUNT c))
  else s1

/-- The marks that only a write, a close or a reset ends: latched and derated cells, stopped tracts, suspect stations, suspect and
invalid sites (R125, R140, R194, R387, R469). -/
def State.keepMarks (s old : State) : State :=
  let keep (off : Nat) (s : State) : State := s.setReg off (old.reg off)
  let s1 := forEach (upTo 256) (fun c s => s.keepCell old c) s
  let s2 := forEach (upTo 8) (fun k s => keep (NRG_SFLAG k) (keep (CEL_FAILED k) s)) s1
  let s3 := forEach (upTo 64) (fun t s =>
    let s1 := if old.stopped t then s.put (fTRC_TSTAT_STATE t) 4 else s
    ((keep (STN_SUSP t) s1).putB (fTHM_SITE_SUSP t) (old.on (fTHM_SITE_SUSP t))).putB (fTHM_SITE_INVALID t) (old.on (fTHM_SITE_INVALID t))) s2
  keep THM_SUSP0 (keep THM_SUSP1 s3)

/-- What stays of failed engines: the record in TRC_ENG, and one engine's schedule for every tract (R198). -/
def State.keepEngines (s old : State) : State :=
  let w := old.on fTRC_ENG_WEST_FAIL
  let e := old.on fTRC_ENG_EAST_FAIL
  let s1 := ((s.putB fTRC_ENG_WEST_FAIL w).putB fTRC_ENG_EAST_FAIL e).putB fTRC_ENG_BOTH (old.on fTRC_ENG_BOTH)
  if w || e then { s1.allOnSurvivor (if w then 0 else 1) with loops := { s1.loops with failedEngine := if w then 0 else 1 } } else s1

/-- Off (R309, R353, R567): domains and cells off, keep-alive, registers and memories lost as the rule says; the commanded
states, the trims, what Monument holds, and the marks, disarmed comparators and engine failures that only a reset or a command of
their own ends stay (R133, R140, R194, R198; DEDUCED, notes/assumptions/109.md). -/
def State.enterOff (s : State) : State :=
  let s1 := (s.allOff).keepAlive true
  let thm := s1.reg THM_STATE &&& 0xC0000000#32
  let vin := s1.reg IBS_BASE &&& 0x1000#32
  let s2 := (s1.clearBooks).resetRegs fun off => !keptInOff off
  let s3 := ((s2.setReg THM_STATE thm).setReg IBS_BASE vin).setReg MEM_PWR 0x005
  let s4 := (s3.keepMarks s).keepEngines s
  let stn (p : Nat × StnHid) : Nat × StnHid := (p.1, { disarmed := p.2.disarmed })
  let dom (p : Nat × DomHid) : Nat × DomHid := (p.1, { commanded := p.2.commanded })
  { s4 with
    coef := [], plan := [], book := [], tele := []
    mem := { bad := s4.mem.bad.filter fun p => p.1 ≤ 1, weak := s4.mem.weak.filter fun p => p.1 ≤ 1 }
    chans := [], core := {}, clk := { syncLost := s4.clk.syncLost, report := s4.clk.report }
    boot := { bmTrim := s4.boot.bmTrim }
    trv := {}, cells := [], stns := (s4.stns.map stn).filter fun p => p.2 ≠ {}
    adc := { msNo := s4.adc.msNo }, tracts := [], loops := { failedEngine := s4.loops.failedEngine }, env := {}, so := s.so.closed, nrg := {}, pmb := {}
    doms := (s4.doms.map dom).filter fun p => p.2 ≠ {}
    cg := {}
    cap := { throttle := s4.cap.throttle, thrFrom := s4.cap.thrFrom, thrOn := s4.cap.thrOn }
    thm := { untrimmed := s4.thm.untrimmed, tcal := s4.thm.tcal } }

/-- Deep sleep puts every memory that is on into retention (R616). -/
def State.retainMems (s : State) : State :=
  let v := (s.reg MEM_PWR).toNat % 4096
  let w := sumOver (upTo 6) fun k => (if v / 4 ^ k % 4 = 2 then 1 else v / 4 ^ k % 4) * 4 ^ k
  { s.setReg MEM_PWR (BitVec.ofNat 32 w) with mem := { s.mem with beforeSleep := some v, upDue := [] } }

/-- The new state is taken: ENTERING ends, the clocks of Table 6.2 are stopped, the wake timer starts. -/
def State.commitEntry (s : State) : State :=
  let t := s.pst.target
  let s1 := (s.moveRef.putB fPST_STATE_ENTERING false).setAon t
  let count := s.get fPST_WTIMER_COUNT
  let timer := if s.on fPST_WAKE_TIMER_EN && 0 < count && t ≠ 4 then some (s.now + ceilN (count * 31250) 64) else none
  let s2 := s1.updPst fun p => { p with commitAt := none, orderly := false, forced := false, waking := false, toRun := false, timerAt := timer }
  let s3 := { s2.adcStop with clk := { s2.clk with pll := false, fastOsc := false } }
  let s4 := match t with
    | 3 => (s3.restartSites.retainMems).updIb fun h => { h with ramping := false, refAt := s.now }
    | 4 => s3.enterOff
    | _ => s3
  s4.recheckLevels

/-- ENTRY_COMMIT: at the end of the commit window, or 2 us after an orderly stop began, the new state is taken (R297, R372). -/
def execEntryCommit (s : State) : Host.Outcome State Fault Refusal :=
  .next (match s.pst.commitAt with
    | none => s
    | some a =>
      if s.on fPST_STATE_ENTERING && (if s.pst.orderly then a else a + commitNs) ≤ s.now then s.commitEntry else s)

/-- CORE_WAIT: the core executes its wait instruction (R295). -/
def execCoreWait (s : State) : Host.Outcome State Fault Refusal :=
  .next (if s.on fBLK_CORE_RUNNING && !s.coreAsleep then
      let s1 := { s with core := { s.core with waiting := true } }
      if s.aon = 0 && !s.on fPST_STATE_ENTERING then s1.setAon 1 else s1
    else s)

/-! ### Monument (R311-R315) -/

/-- The value of a rule's channel in a sample; none for a reserved one (Table 6.7). -/
def State.monChannel (s : State) (vblkMv ibMv : Nat) (hot : Int) : Nat → Option Int
  | 0 => some vblkMv
  | 1 => some ibMv
  | 2 => some (if s.pins.wakeN then 1000 else 0)
  | 3 => some (if s.cap.throttle then 1000 else 0)
  | 4 => some hot
  | 5 => some (s.pst.monHot.foldl max hot)
  | _ => none

/-- One rule in a sample (R312-R314). -/
def State.sampleRule (s : State) (x : Option Int) (r : Nat) : State :=
  let fresh : Bool := !s.pst.monSeen.contains r
  let old := s.getI (fMON_RVAL_Y r)
  let v := x.getD 0
  let y := if fresh then v else old + (v - old) / 2 ^ s.get (fMON_RULE_FSHIFT r)
  let s1 := (s.putI (fMON_RVAL_Y r) y).updPst fun p => { p with monSeen := if fresh then r :: p.monSeen else p.monSeen }
  let thr := s.getI (fMON_THR_THR r)
  let hyst : Int := s.get (fMON_RULE_HYST r)
  let cmp := s.on (fMON_RULE_CMP r)
  let was := s.ruleOn r
  let live : Bool := s.ruleLive r && x.isSome
  let hit : Bool := if was then (if cmp then decide (y ≤ thr - hyst) else decide (thr + hyst ≤ y))
    else if cmp then decide (thr < y) else decide (y < thr)
  let run := if live && hit then tblGet (fun _ => 0) s.pst.monRun r + 1 else 0
  let flip : Bool := max 1 (s.get (fMON_RULE_COUNT r)) ≤ run
  let now_ : Bool := live && (if flip then !was else was)
  let s2 := (s1.put fMON_ACTIVE_ACT (setBitN (s1.get fMON_ACTIVE_ACT) r now_)).updPst fun p =>
    { p with monRun := tblSet (fun _ => 0) p.monRun r (if flip then 0 else run) }
  if now_ && !was then s2.raise ⟨21, r⟩ r else s2

/-- The actions of the rules triggered after a sample (R314, R315): entry into Off goes before a wake. -/
def State.ruleActions (s : State) : State :=
  if s.ruleActs 4 && s.aon ≤ 3 && !s.pst.forced && !s.pst.orderly then s.beginEntry 4 true
  else if s.ruleActs 2 then s.wakeBy 6
  else s

/-- MONUMENT_SAMPLE: every 16 aon_clk cycles; `raws` are the voltage differences of the diodes of the four sites of the sample, in nV
(R311-R315, R355, R376, R401, R403). -/
def execMonumentSample (vblkMv ibMv : Nat) (raws : List Int) (s : State) : Host.Outcome State Fault Refusal :=
  .next (if s.por then s
    else
      let k := s.pst.monNo % 16
      let site (j : Nat) := 16 * j + k
      let s1 := (upTo 4).foldl (fun s j => s.monumentSite (s.diodeTemp (raws.getD j 0)) (site j)) s
      let deep : Bool := s.aon = 3 || s.aon = 4
      let val (j : Nat) : Int := if deep then s1.siteRaw (site j) else s1.site (site j)
      let hot := (upTo 4).foldl (fun a j => max a (val j)) (val 0)
      let s2 := (s1.updPst fun p => { p with monNo := p.monNo + 1, monHot := (hot :: p.monHot).take 16 }).ibSoftStartEnd ibMv
      let s3 := if s2.locked || s2.aon ≤ 4 then
          (upTo 16).foldl (fun s r => s.sampleRule (s2.monChannel vblkMv ibMv hot (s.get (fMON_RULE_CH r))) r) s2
        else s2
      let s4 := if s3.aon = 4 then
          (upTo 3).foldl (fun s i => if s.get (fTHM_COMP_SITE i) % 16 = k then s.correct i (s.substitute (s.get (fTHM_COMP_SITE i))) else s) s3
        else s3
      (s4.ruleActions).recheckLevels)

end Sys2Proof.Machine
end

