-- ==== Sys2Proof/Machine/Energy.lean ====
section
/-!
DEFINITION. Energy attribution and telemetry (chapter 10): the telemetry millisecond with the split of its energy, domain
currents, watched minima and the settlement monitor; and the telemetry record with its writes.
-/

namespace Sys2Proof.Machine

/-- Energy and telemetry changed. -/
def State.updNrg (s : State) (f : NrgHid → NrgHid) : State := { s with nrg := f s.nrg }

/-! ### The millisecond (R449-R451) -/

/-- The number of the millisecond that the timestamp lies in. -/
def State.msNow (s : State) : Nat := s.ts.toNat / 1000000

/-- lclk has run, and the plat has been locked, throughout the millisecond that began at `nrg.msAt` (R450). -/
def State.msMeasured (s : State) : Bool :=
  s.lclk && decide (s.clk.gateAt ≤ s.nrg.msAt) && s.locked
    && (match s.trv.lockAt with | none => false | some a => decide (a ≤ s.nrg.msAt))

/-- E_ms in nJ: 1.25 mV x 0.1 A x 40 ns is 1/200 nJ (R451). -/
def State.emsNow (s : State) : Nat := natOf (roundHalfUp s.nrg.vi 200)

/-! ### The split (R454-R460) -/

/-- Whether bucket `a` comes before bucket `b` in descending order of their fractions, the lower bucket first among equals. -/
def before (frac : Nat → Nat) (a b : Nat) : Bool := decide (frac b < frac a) || (frac a = frac b && decide (a < b))

/-- The increment of a bucket: the floor of its part, and 1 nJ of the remainder where its turn comes (R456). -/
def increment (e : Nat) (m : Nat → Nat) (b : Nat) : Nat :=
  let tot := sumOver (upTo 17) m
  if tot = 0 then (if b = 16 then e else 0)
  else
    let rest := e - sumOver (upTo 17) fun k => e * m k / tot
    let rank := ((upTo 17).filter fun k => before (fun k => e * m k % tot) k b).length
    e * m b / tot + (if rank < rest then 1 else 0)

/-- An accumulator. -/
def State.acc (s : State) (b : Nat) : Nat := tblGet (fun _ => 0) s.nrg.acc b

/-- An accumulator set; its low half reads in NRG_PART_LO. -/
def State.setAcc (s : State) (b x : Nat) : State :=
  (s.updNrg fun h => { h with acc := tblSet (fun _ => 0) h.acc b x }).setReg (NRG_PART_LO b) (BitVec.ofNat 32 x)

/-- An increment added, or standing alone where NRG_CLR asked for it; a wrap is reported (R457, R459). -/
def State.addAcc (s : State) (x b : Nat) : State :=
  let sum := (if bitN s.nrg.clr b then 0 else s.acc b) + x
  (s.setAcc b (sum % 2 ^ 64)).raiseIf (decide (2 ^ 64 ≤ sum)) evNRG_WRAP 0xFFFF

/-- Whether an increment of the millisecond wraps an accumulator. -/
def State.wraps (s : State) (inc : Nat → Nat) : Bool :=
  (upTo 17).any fun b => decide (2 ^ 64 ≤ (if bitN s.nrg.clr b then 0 else s.acc b) + inc b)

/-- The energy of the millisecond divided among the buckets (R456-R459). -/
def State.split (s : State) : State :=
  let m (b : Nat) := tblGet (fun _ => 0) s.nrg.models b
  let e := s.emsNow
  let s1 := s.put fNRG_EMS_EMS (min (2 ^ 32 - 1) e)
  let s2 := forEach (upTo 17) (fun b s => s.addAcc (increment e m b) b) s1
  s2.raiseIf (sumOver (upTo 17) m = 0) evNRG_NOMODEL 0xFFFF

/-! ### Reports (R461-R463) -/

/-- A domain in the millisecond. -/
def State.domMs (s : State) (d : Nat) : DomMs := tblGet (fun _ => {}) s.nrg.doms d

/-- NRG_DCUR of a domain (R461). -/
def State.showCurrent (s : State) (d : Nat) : State :=
  let x := s.domMs d
  if (s.tractsOf d).isEmpty || s.nrg.frames = 0 then s.setReg (NRG_DCUR d) 0
  else (s.putI (fNRG_DCUR_AVG d) (roundHalfUp x.sum s.nrg.frames)).putI (fNRG_DCUR_MAX d) (x.max.getD 0)

/-- NRG_WMIN and NRG_WTS of a slot (R463). -/
def State.showWatch (s : State) (w : Nat) : State :=
  match s.nrg.watch.find? fun p => p.1 = w with
  | none => s
  | some p =>
    match (s.domMs p.2).low with
    | none => s.putB (fNRG_WMIN_NONE w) true
    | some (v, n, t) =>
      let s1 := s.setReg (NRG_WMIN w) (BitVec.ofNat 32 (n * 2 ^ 16 + v))
      (s1.updNrg fun h => { h with wts := tblSet (fun _ => 0) h.wts w t }).setReg (NRG_WTS_LO w) (BitVec.ofNat 32 t)

/-! ### The settlement monitor (R464-R469) -/

/-- A cell in the settlement monitor. -/
def State.settle (s : State) (c : Nat) : SettleHid := tblGet (fun _ => {}) s.nrg.cells c

/-- The conditions of R464. -/
def State.qualifies (s : State) (c : Nat) : Bool :=
  let x := s.settle c
  !x.bad && 0 < x.n && decide (1000 ≤ x.hi - x.lo)

/-- R_meas in uOhm: minus the least-squares slope of 1/12 codes against mA (R465). -/
def SettleHid.slope (x : SettleHid) : Nat :=
  natOf (min 65535 (divOpen 34 (-((x.n * x.sxy - x.sx * x.sy) * 1250000)) (12 * (x.n * x.sxx - x.sx * x.sx))))

/-- A cell by its row and column in the 16 x 16 grid of the 2 x 2 blocks of the tracts (R466). -/
def gridCell (row col : Nat) : Nat := 4 * (8 * (row / 2) + col / 2) + 2 * (row % 2) + col % 2

/-- Row and column of a cell. -/
def cellRow (c : Nat) : Nat := 2 * (c / 32) + c % 4 / 2
def cellCol (c : Nat) : Nat := 2 * (c / 4 % 8) + c % 2

/-- The cells that share an edge with a cell. -/
def cellNeighbours (c : Nat) : List Nat :=
  let r := cellRow c
  let k := cellCol c
  (if 0 < r then [gridCell (r - 1) k] else []) ++ (if r < 15 then [gridCell (r + 1) k] else [])
    ++ (if 0 < k then [gridCell r (k - 1)] else []) ++ (if k < 15 then [gridCell r (k + 1)] else [])

/-- R_ref of a cell (R466); none where both references are left out. -/
def State.settleRef (s : State) (c : Nat) : Option Nat :=
  let near := ((cellNeighbours c).filter s.qualifies).map fun k => (s.settle k).slope
  let base := s.get (fNRG_SBASE_RBASE c)
  if near.length < 2 then (if base = 0 then none else some base)
  else some (max base (lowerMedian near))

/-- A cell derated (R468). -/
def State.derateCell (s : State) (c rm rr : Nat) : State :=
  let s1 := s.putB (fNRG_SMEAS_DERATED c) true
  let m := BitVec.ofNat 32 (2 ^ (c % 32))
  let s2 := (s1.setReg (NRG_SFLAG (c / 32)) (s1.reg (NRG_SFLAG (c / 32)) ||| m)).markSet (NRG_SFLAG (c / 32)) m
  s2.raiseD evNRG_SETTLE c (rm * 2 ^ 16 + rr)

/-- The verdict of a millisecond on a cell: `old` is the block as the millisecond left it (R466-R469). -/
def State.judgeCell (old : State) (c : Nat) (s : State) : State :=
  match (if old.qualifies c then old.settleRef c else none) with
  | none => s.putB (fNRG_SMEAS_QUAL c) false
  | some rr =>
    let rm := (old.settle c).slope
    let s1 := (s.putB (fNRG_SMEAS_QUAL c) true).put (fNRG_SMEAS_RMEAS c) rm
    if !s.on fNRG_CTL_SETTLE_EN || s.on (fNRG_SMEAS_DERATED c) then s1
    else
      let excess : Bool := decide (1000 * s.get fNRG_SET_EXCESS + 5 * rr ≤ 5 * rm)
      let n := if excess then min 255 (s.get (fNRG_SMEAS_COUNT c) + 1) else 0
      let s2 := s1.put (fNRG_SMEAS_COUNT c) n
      if excess && s.get fNRG_SET_PERSIST ≤ n then s2.derateCell c rm rr else s2

/-- A write of 1 to bits of NRG_SFLAG: derating ends and COUNT returns to 0 (R469). -/
def State.clearSflag (s : State) (k m : Nat) : State :=
  let s1 := s.setReg (NRG_SFLAG k) (s.reg (NRG_SFLAG k) &&& ~~~(BitVec.ofNat 32 m))
  (upTo 32).foldl (fun a j =>
    if bitN m j && bitN (s.reg (NRG_SFLAG k)).toNat j then
      (a.putB (fNRG_SMEAS_DERATED (32 * k + j)) false).put (fNRG_SMEAS_COUNT (32 * k + j)) 0
    else a) s1

/-! ### The telemetry record (R470-R473, Table 10.2) -/

/-- The conditions that FLAGS gathers over a millisecond: shutdown, UNATTAINABLE, load shedding. -/
def State.flagsNow (s : State) : Nat :=
  b2n s.shut + 2 * b2n (s.stat evCAP_UNATTAINABLE) + 4 * b2n (s.on fIBS_STATE_SHED)

/-- The conditions gathered at an instant. -/
def State.gatherFlags (s : State) : State :=
  let f := s.nrg.flags ||| s.flagsNow
  if f = s.nrg.flags then s else s.updNrg fun h => { h with flags := f }

/-- A domain's field of the record, in 0.5 A. -/
def State.dcurField (s : State) (d : Nat) : Nat :=
  let f (x : Int) : Nat := natOf (min 4095 (roundHalfUp x 5))
  f (s.getI (fNRG_DCUR_AVG d)) + f (s.getI (fNRG_DCUR_MAX d)) * 2 ^ 12

/-- A slot's field of the record; `start` is the timestamp of the millisecond's start. -/
def State.watchField (s : State) (start w : Nat) : Nat :=
  if (s.nrg.watch.any fun p => p.1 = w) && !s.on (fNRG_WMIN_NONE w) then
    let t := tblGet (fun _ => 0) s.nrg.wts w
    s.get (fNRG_WMIN_CODE w) + s.get (fNRG_WMIN_STATION w) * 2 ^ 10 + (t - start) % 2 ^ 20 * 2 ^ 20
  else 2 ^ 40 - 1

/-- The 256 bytes of the record, its SEQ still 0. -/
def State.recordBytes (s : State) (start : Nat) (nomodel wrap : Bool) : List Byte :=
  let die := s.dieIndex % 8 + 8 * b2n s.isPrincipal + 16 * ((s.dieCount - 1) % 8)
  let flags := s.nrg.flags % 8 + 8 * b2n (s.on fTRC_ENG_EAST_FAIL || s.on fTRC_ENG_WEST_FAIL) + 16 * b2n nomodel + 32 * b2n wrap
  leBytes 1 2 ++ leBytes die 1 ++ leBytes flags 1 ++ leBytes 0 4 ++ leBytes start 8 ++ leBytes (s.get fNRG_EMS_EMS) 4
    ++ leBytes (s.get fCAP_SHARE_BUDGET) 2 ++ leBytes (natOf (clampI 0 255 (s.getI fTHM_STATE_HVAL / 16))) 1
    ++ leBytes (s.aon % 8) 1
    ++ (upTo 16).flatMap (fun p => leBytes (s.acc p) 6)
    ++ (upTo 32).flatMap (fun d => leBytes (s.dcurField d) 3)
    ++ (upTo 8).flatMap (fun w => leBytes (s.watchField start w) 5)

/-- PEN and the watch slots as written take effect, and the sums of a new millisecond begin (R455, R462). -/
def State.openMs (s : State) : State :=
  let slots := ((upTo 8).filter fun w => s.on (fNRG_WATCH_EN w)).map fun w => (w, s.get (fNRG_WATCH_DOM w))
  s.updNrg fun h =>
    { h with pen := s.get fNRG_CTL_PEN, watch := slots, models := [], vi := 0, frames := 0, doms := [], cells := [],
             clr := 0, flags := 0, msStart := s.msNow, msAt := s.now }

/-- What STATUS_IOUT (0x7B) and STATUS_TEMPERATURE (0x7D) of a PMBus page tell of is present: for the die a phase at its limit or
failed, for a domain derating of a tract in force; a warning, a throttle or a shutdown at a site (Table 10.3). -/
def State.statusNow (s : State) (cmd page : Nat) : Bool :=
  let tracts := if page = 0 then upTo 64 else s.tractsOf (page - 1)
  if cmd = 0x7D then tracts.any fun t => s.on (fTHM_SITE_WARN t) || s.on (fTHM_SITE_THROT t) || s.on (fTHM_SITE_SHUT t)
  else if page = 0 then (upTo 16).any fun p => s.on (fIBS_PSTAT_LIMIT p) || s.pMode p = 7
  else tracts.any fun t => 0 < (s.tract t).derate

/-- The status bytes of a PMBus page keep what is present now until CLEAR_FAULTS. DESIGN CHOICE (log 128): they take it at each of their
reads and at the end of each telemetry millisecond. -/
def State.keepStatus (s : State) (page : Nat) : State :=
  let new := ([0x7B, 0x7D].filter fun c => s.statusNow c page && !s.pmb.flags.contains (c, page)).map fun c => (c, page)
  { s with pmb := { s.pmb with flags := s.pmb.flags ++ new } }

/-- The readings that the PMBus target takes from the millisecond (R475). -/
def State.snapshot (s0 : State) : State :=
  let s := forEach (upTo 33) (fun p s => s.keepStatus p) s0
  let code (tb : Tbl Nat) (d : Nat) := tblSet (fun _ => 0) tb d (s.domCode d)
  let temp (tb : Tbl Int) (d : Nat) := tblSet (fun _ => 0) tb d (s.domTemp d)
  { s with pmb := { s.pmb with
      hval := s.getI fTHM_STATE_HVAL, meas := s.get fCAP_EST_MEAS
      codes := (upTo 32).foldl code s.pmb.codes, temps := (upTo 32).foldl temp s.pmb.temps } }

/-- What a measured millisecond leaves (R451-R473). -/
def State.closeMs (s : State) : State :=
  let m (b : Nat) := tblGet (fun _ => 0) s.nrg.models b
  let nomodel : Bool := sumOver (upTo 17) m = 0
  let wrap := s.wraps (increment s.emsNow m)
  let s1 := s.split
  let s2 := forEach (upTo 32) (fun d s => s.showCurrent d) s1
  let s3 := forEach (upTo 8) (fun w s => s.showWatch w) s2
  let s4 := forEach (upTo 256) (fun c a => State.judgeCell s c a) s3
  if s4.on fTLM_CTL_EN then
    let r := s4.recordBytes (1000000 * s4.nrg.msStart) nomodel wrap
    s4.snapshot.updNrg fun h => { h with record := some r }
  else s4.snapshot

/-- What a millisecond that is not measured leaves: only the clears that wait (R450, R459). -/
def State.skipMs (s : State) : State :=
  let s1 := (upTo 17).foldl (fun a b => if bitN s.nrg.clr b then a.setAcc b 0 else a) s
  s1.raise evNRG_GAP 0xFFFF

/-- MS_BOUNDARY: the timestamp has reached a multiple of 1,000,000 (R449). In power-on reset and in Off there is no energy
logic to act. -/
def execMsBoundary (s : State) : Host.Outcome State Fault Refusal :=
  .next (if s.por || s.aon = 4 || s.msNow = s.nrg.msStart then s
    else (if s.msMeasured then s.closeMs else s.skipMs).openMs)

/-- A record dropped (R471). -/
def State.dropRecord (s : State) : State := (s.addSat fTLM_DROP_COUNT 1).raise evTLM_DROP 0xFFFF

/-- A record with its sequence number. -/
def withSeq (r : List Byte) (n : Nat) : List Byte := r.take 4 ++ leBytes n 4 ++ r.drop 8

/-- A record kept in its slot of TELE (R612). -/
def State.keepRecord (s : State) (r : List Byte) (n : Nat) : State :=
  if s.memUsable 5 then
    let a := 256 * (n % 256)
    (upTo 32).foldl (fun s k => s.markGood 5 (a / 8 + k)) { s with tele := memPutBytes s.tele a r }
  else s

/-- The address that a record of a sequence number is written to (R470). -/
def State.tlmAddr (s : State) (n : Nat) : Nat :=
  s.get fTLM_BASE_HI_ADDR * 2 ^ 32 + s.get fTLM_BASE_LO_ADDR * 2 ^ 12 + 256 * (n % max 1 (s.get fTLM_COUNT_N))

/-- The initiator's transactions in flight: plan reads, and writes of telemetry records (R63). -/
def State.axiReads (s : State) : List AxiRequest := s.so.reads.map PlanRead.request
def State.axiWrites (s : State) : List AxiRequest := s.nrg.writes.map fun w => recordRequest w.1

/-- TLM_RECORD_ISSUE: within 40 us of the boundary the record takes its number and its write is issued, or it is dropped:
two writes outstanding, TELE not usable, or the initiator held still (R470, R471, R612, R614, R51). -/
def execTlmRecordIssue (s : State) : Host.Outcome State Fault Refusal :=
  .next (match s.nrg.record with
    | none => s
    | some r =>
      let n := s.nrg.nextSeq
      let bytes := withSeq r n
      let s1 := ((s.updNrg fun h => { h with record := none, nextSeq := (n + 1) % 2 ^ 32 }).put fTLM_SEQ_SEQ n).keepRecord bytes n
      if 2 ≤ s.nrg.writes.length || !s.memUsable 5 || !s.pins.hostPwrgd then s1.dropRecord
      else s1.updNrg fun h => { h with writes := h.writes ++ [(s.tlmAddr n, bytes)] })

/-- TLM_WRITE_RESPONSE: the oldest write outstanding is answered (R66, R471). -/
def execTlmWriteResponse (ok : Bool) (s : State) : Host.Outcome State Fault Refusal :=
  .next (match s.nrg.writes with
    | [] => s
    | _ :: l =>
      let s1 := s.updNrg fun h => { h with writes := l }
      if ok then s1.raise evTLM_PUSH 0xFFFF else s1.dropRecord)

/-- The writes outstanding abandoned (R52, R62). -/
def State.abandonWrites (s : State) : State :=
  let s1 := s.updNrg fun h => { h with writes := [] }
  s.nrg.writes.foldl (fun s _ => s.dropRecord) s1

/-- A write of NRG_CLR: the clears wait for the next boundary (R459). -/
def State.askClear (s : State) (m : Nat) : State := s.updNrg fun h => { h with clr := h.clr ||| (m % 2 ^ 17) }

end Sys2Proof.Machine
end

