-- ==== Sys2Proof/Machine/Traverse.lean ====
section
/-!
DEFINITION. The traverse (chapter 12): arriving frames, lanes and hops, shared time, the principal and its takeover,
power-sum laps and die shares, package caps and epochs.
-/

namespace Sys2Proof.Machine

/-! ### The ring (R515-R520) -/

/-- The traverse logic changed. -/
def State.updTrv (s : State) (f : TrvHid → TrvHid) : State := { s with trv := f s.trv }

/-- The index of the principal in force. -/
def State.principal (s : State) : Nat := s.get fTRV_STATE_PRIN

/-- The neighbours of this die (R68). -/
def State.nextDie (s : State) : Nat := (s.dieIndex + 1) % s.dieCount
def State.prevDie (s : State) : Nat := (s.dieIndex + s.dieCount - 1) % s.dieCount

/-- The number of a lane: 0 clockwise, 1 counter-clockwise. -/
def laneNum : Lane → Nat
  | .cw => 0
  | .ccw => 1

/-- The hop on which a receive lane arrives: clockwise from the previous die, counter-clockwise from the next (R68). -/
def TrvHid.rxHop (h : TrvHid) (l : Nat) : HopHid := if l = 0 then h.prevHop else h.nextHop

/-- The same hop changed. -/
def TrvHid.setRxHop (h : TrvHid) (l : Nat) (x : HopHid) : TrvHid :=
  if l = 0 then { h with prevHop := x } else { h with nextHop := x }

/-- TRV_STATE.WRAPPED: a hop is broken or set aside. -/
def State.showWrap (s : State) : State := s.putB fTRV_STATE_WRAPPED (s.trv.nextHop.closed || s.trv.prevHop.closed)

/-- A lane bit of TRV_STATE.LANES: 0 clockwise receive, 1 clockwise transmit, 2 and 3 the same counter-clockwise. -/
def State.setLaneBit (s : State) (k : Nat) (b : Bool) : State :=
  s.put fTRV_STATE_LANES (setBitN (s.get fTRV_STATE_LANES) k b)

/-- Half the mean round trip of the hop that a receive lane arrives on, 0.125 ns (R521). -/
def State.hopDelay (s : State) (l : Nat) : Nat :=
  natOf (divOpen 1 (s.get (if l = 0 then fTRV_HOP_PREV else fTRV_HOP_NEXT)) 2)

/-- A frame of another die travels on, in the direction of the lane on which it arrived, folded at a closed hop (R517);
the delay of that hop and the residence time go into a SYNC frame (R526). -/
def State.forward (s : State) (l : Nat) (w : Word64) : State :=
  s.enqueue l { word := w, since := s.now, own := false, hop := s.hopDelay l }

/-- A frame sent on both lanes is removed by the die that would pass it back to its source (R520), on the lane on which it
would leave, folded or not. -/
def State.forwardBoth (s : State) (l : Nat) (w : Word64) : State :=
  match s.outLane l with
  | none => s
  | some o => if (if o = 0 then s.nextDie else s.prevDie) = frameSrc w then s else s.forward l w

/-- A copy of a frame that was acted on within 3 us (R520). -/
def State.isCopy (s : State) (w : Word64) : Bool := s.trv.seen.any fun e => e.2 = w && s.now ≤ e.1 + 3000

/-- A first copy remembered; copies are told for 3 us. -/
def State.remember (s : State) (w : Word64) : State :=
  s.updTrv fun h => { h with seen := (s.now, w) :: h.seen.filter fun e => s.now ≤ e.1 + 3000 }

/-- A frame from the principal has arrived: it is not lost, or no longer (R532). -/
def State.heard (s : State) (w : Word64) : State :=
  if frameSrc w = s.principal then s.updTrv fun h =>
    { h with principalAt := s.now, lostAt := none, claimSent := false, claimRetryAt := none, claimant := none, claimBar := false }
  else s

/-- A die listens to the ring: the plat is locked and its clocks run. -/
def State.listening (s : State) : Bool := s.locked && !s.asleep

/-- A clockwise frame of this die is back from its whole lap and removed: on the clockwise lane, or on the other where the ring is
folded at this die's counter-clockwise hop; back from the one side of a folded ring it goes on to the other side (R517). -/
def State.home (l : Nat) (w : Word64) (own : State → State) (s : State) : State :=
  if l = 0 || s.trv.prevHop.closed then own s else s.forward l w

/-- The arrival of a frame of a TYPE that other dies see too: `act` on the first copy, `pass` on every copy; a frame back at its
source has `own`. A broken hop brings none (R516); one set aside does, the STATE frame that
ends it first (R519). -/
def State.arrive (s : State) (l ty : Nat) (w : Word64) (own act pass : State → State) : State :=
  if !s.listening || frameType w ≠ ty || (s.trv.rxHop l).broken then s
  else if frameSrc w = s.dieIndex then own s
  else
    let s1 := s.heard w
    if s1.isCopy w then pass s1 else pass (act (s1.remember w))

/-! ### Shared time (R525-R530) -/

/-- The die that sends SYNC (R530): the principal with synchronised time, from the start of the ring on; while the principal has
left Run, and until it sends SYNC again, the lowest-indexed other die in Run, as the STATE frames tell. DESIGN CHOICE (log 126):
a die in Idle counts as in Run here, and so does a principal that starts up: no frame tells the other dies of either. -/
def State.isTimeSource (s : State) : Bool :=
  if s.isPrincipal then s.listening && (s.runOrIdle || s.aon = 5) && s.on fTRV_STATE_TSYNC
  else s.runOrIdle && s.trv.princAway && (upTo s.dieIndex).all fun d => d = s.principal || s.trv.left.contains d

/-- The timestamp stepped by whole ns; an instant that it steps back over comes again, its latch and its SYNC with it (R527,
R535). -/
def State.stepTime (s : State) (ns : Int) : State :=
  let ts := s.ts + BitVec.ofInt 64 ns
  { s with ts := ts, trv := { s.trv with latchTs := min s.trv.latchTs ts.toNat, syncNo := min s.trv.syncNo ((ts.toNat + 1000) / 5000) } }

/-- An offset of the die's timestamp, 0.125 ns units, acted on (R527). -/
def State.takeOffset (s : State) (o : Int) : State :=
  let ns := roundHalfUp o 8
  let s := s.putI fTRV_TOFS_OFS ns
  let step (s : State) : State := s.stepTime ns
  if s.on fTRV_STATE_TSYNC then
    if o.natAbs ≤ 8 then s
    else if o.natAbs ≤ 400 then s.updTrv fun h => { h with slewLeft := ns }
    else
      let s1 := (s.putB fTRV_STATE_TSYNC false).raise evTRV_TSYNC_LOST 0xFFFF
      step (s1.updTrv fun h => { h with okOffsets := 0, slewLeft := 0 })
  else
    let n := if o.natAbs ≤ 16 then s.trv.okOffsets + 1 else 0
    (step (s.updTrv fun h => { h with okOffsets := n })).putB fTRV_STATE_TSYNC (3 ≤ n)

/-- A carried timestamp widened by the upper bits of the die's own (R526). -/
def State.widen (s : State) (n low : Nat) : Nat := s.ts.toNat / 2 ^ n * 2 ^ n + low

/-- SYNC: forwarded, then taken as an offset by every die that is not the time source (R526, R527). -/
def execSync (lane : Lane) (w : Word64) (s : State) : Host.Outcome State Fault Refusal :=
  let l := laneNum lane
  .next (s.arrive l 1 w (State.home l w id)
    (fun s0 =>
      let s := s0.updTrv fun h => { h with princAway := frameSrc w ≠ s0.principal }
      if s.isTimeSource then s
      else
        let carried : Int := (s.widen 40 (frameBits w 16 40) : Nat)
        s.takeOffset (8 * (carried - s.ts.toNat) + frameBits w 0 16))
    (fun s => s.forward l w))

/-- The alignment instant of a new ALIGN frame: a multiple of 2,000 ns at least 20 us after the frame leaves the quiet
window (R523). -/
def State.alignInstant (s : State) : Nat := (s.ts.toNat + 24000 + 1999) / 2000 * 2000

/-- An ALIGN frame sent, which this die follows too (R523). -/
def State.sendAlign (s : State) : State :=
  let t := s.alignInstant
  (s.updTrv fun h => { h with alignAt := some t }).originate 2 13 (t % 2 ^ 40)

/-- SYNC_SEND: the time source originates a SYNC frame at each timestamp that is a multiple of 5,000 ns plus 4,000 ns; behind the
first one of a ring start goes the ALIGN frame (R522). -/
def execSyncSend (s : State) : Host.Outcome State Fault Refusal :=
  let k := (s.ts.toNat + 1000) / 5000
  .next (if s.isTimeSource && s.trv.started && s.trv.syncNo < k then
      let s1 := (s.updTrv fun h => { h with syncNo := k, alignDue := false }).originate 0 1 0
      if s.trv.alignDue then s1.sendAlign else s1
    else s)

/-- ALIGN: the alignment instant is noted (R523). -/
def execAlign (lane : Lane) (w : Word64) (s : State) : Host.Outcome State Fault Refusal :=
  let l := laneNum lane
  .next (s.arrive l 13 w id
    (fun s => s.updTrv fun h => { h with alignAt := some (s.widen 40 (frameBits w 0 40)) })
    (fun s => s.forwardBoth l w))

/-- PERIOD_ALIGN: at the SYNC_IN edge nearest the alignment instant the IB period counter becomes 0 (R523). -/
def execPeriodAlign (s : State) : Host.Outcome State Fault Refusal :=
  .next (match s.trv.alignAt with
    | none => s
    | some t =>
      if s.locked && t ≤ s.ts.toNat + 5 then
        let apart : Bool := s.clk.syncLost || s.clk.slewing
        ({ s with ib := { s.ib with periodAt := s.now }, trv := { s.trv with alignAt := none },
                  clk := { s.clk with aligned := apart } }).putB fIBS_STATE_ALIGNED (!apart)
      else s)

/-! ### Lanes and hops (R515-R521) -/

/-- The next ECHO of a hop is sent, after the quiet window: on the transmit lane of the hop that a receive lane arrives on
(R514, R521). -/
def State.sendEcho (s : State) (l : Nat) : State :=
  let h := s.trv.rxHop l
  let no := (h.echoNo + 1) % 2 ^ 16
  (s.updTrv fun t => t.setRxHop l { h with echoNo := no, echoAt := none }).originate (3 + (1 - l)) 12 no

/-- ECHO: another die's is returned on the other lane; this die's own completes a round trip, and after 64 the mean
shows in TRV_HOP (R521). -/
def execEcho (lane : Lane) (w : Word64) (s : State) : Host.Outcome State Fault Refusal :=
  let l := laneNum lane
  let h := s.trv.rxHop l
  .next (if !s.listening || frameType w ≠ 12 then s
    else if frameSrc w ≠ s.dieIndex then
      (s.heard w).enqueueOn (1 - l) w false
    else match h.echoAt with
      | none => s
      | some t0 =>
        if frameBits w 0 16 ≠ h.echoNo || 64 ≤ h.echoDone then s
        else
          let n := h.echoDone + 1
          let sum := h.echoSum + 8 * (s.now - t0)
          let s1 := s.updTrv fun t => t.setRxHop l { h with echoDone := n, echoSum := sum, echoAt := none }
          if n < 64 then s1.sendEcho l
          else s1.put (if l = 0 then fTRV_HOP_PREV else fTRV_HOP_NEXT) (min 65535 (natOf (divOpen 2 sum 64))))

/-- LANE_UP: a receive lane has comma alignment; its hop's ECHO exchanges begin (R515, R521). -/
def execLaneUp (lane : Lane) (s : State) : Host.Outcome State Fault Refusal :=
  let l := laneNum lane
  .next (if s.listening then
      let h := s.trv.rxHop l
      let s1 := (s.setLaneBit (2 * l) true).updTrv fun t => t.setRxHop l { h with echoDone := 0, echoSum := 0 }
      s1.sendEcho l
    else s)

/-- The frames that wait on a lane leave the way that is open to its direction now; an ECHO is of its own hop alone (R71, R517,
R521). -/
def State.reroute (s : State) (l : Nat) : State :=
  let q := (s.trv.lane l).txq.filter fun e => frameType e.word ≠ 12
  let s1 := s.updTrv fun t => t.setLane l { t.lane l with txq := [] }
  q.foldl (fun s e => s.enqueue l e) s1

/-- A transmit pair goes to electrical idle, and the ECHO frames that wait for it, held back or not, are lost with it (R71,
R516). -/
def State.hushLane (s : State) (l : Nat) : State :=
  (s.setLaneBit (2 * l + 1) false).updTrv fun t =>
    { t.setLane l { t.lane l with txq := (t.lane l).txq.filter fun e => frameType e.word ≠ 12 } with
      held := t.held.filter fun e => e.1 ≠ 3 + l }

/-- A hop broken: both of its lanes fall silent and the ring folds (R516, R517). -/
def State.breakHop (s : State) (l : Nat) : State :=
  let s1 := s.updTrv fun t => t.setRxHop l { t.rxHop l with broken := true, echoDone := 0, echoSum := 0, echoAt := none, retryAt := s.now }
  ((((s1.setLaneBit (2 * l) false).hushLane (1 - l)).showWrap).reroute (1 - l)).raise evTRV_WRAP 0xFFFF

/-- The lane that came up in a retry of a broken hop is down again: its ECHO exchanges begin anew, and the transmit pair is driven
only to the end of the 100 us (R518). -/
def State.retryFails (s : State) (l : Nat) : State :=
  let h := s.trv.rxHop l
  let s1 := (s.updTrv fun t => t.setRxHop l { h with echoDone := 0, echoSum := 0, echoAt := none }).setLaneBit (2 * l) false
  if s.now < h.retryAt + 100000 then s1 else s1.hushLane (1 - l)

/-- The event of a lane fault (R515). -/
def State.raiseLane (s : State) (l : Nat) : State :=
  if l = 0 then s.raise evTRV_LANE_CW s.prevDie else s.raise evTRV_LANE_CCW s.nextDie

/-- A lane fault (R515, R516): of a lane in use its hop breaks; of one that came up on a broken hop the retry fails, and one that is
down already has none; the lane of a hop set aside is down without one (R519). -/
def State.laneFault (s : State) (l : Nat) : State :=
  if (s.trv.rxHop l).broken then
    if bitN (s.get fTRV_STATE_LANES) (2 * l) then (s.raiseLane l).retryFails l else s
  else if (s.trv.rxHop l).aside then s.setLaneBit (2 * l) false
  else (s.raiseLane l).breakHop l

/-- LANE_FAULT: a receive lane has been silent for 1 us (R515). -/
def execLaneFault (lane : Lane) (s : State) : Host.Outcome State Fault Refusal :=
  .next (if s.listening then s.laneFault (laneNum lane) else s)

/-- BAD_FRAME: a frame is discarded and counted for its lane (R512); 4 CRC failures within 1 ms are a lane fault, in which a
reserved TYPE does not count (R515). -/
def execBadFrame (f : BadFrame) (s : State) : Host.Outcome State Fault Refusal :=
  let l := laneNum f.lane
  let x := s.trv.lane l
  let at_ := s.now :: x.crcAt.filter fun a => s.now < a + 1000000
  .next (if s.listening then
      let s1 := (s.addSat (if l = 0 then fTRV_ERR_CW else fTRV_ERR_CCW) 1).raise evTRV_CRC (if l = 0 then s.prevDie else s.nextDie)
      if f.crcFailed then
        let s2 := s1.updTrv fun t => t.setLane l { t.lane l with crcAt := if 4 ≤ at_.length then [] else at_ }
        if 4 ≤ at_.length then s2.laneFault l else s2
      else s1
    else s)

/-- HOP_RETRY: every 1 ms the broken hops are driven with idle symbols for 100 us (R518). -/
def execHopRetry (s : State) : Host.Outcome State Fault Refusal :=
  let one (l : Nat) (s : State) : State :=
    let h := s.trv.rxHop l
    if h.broken && h.retryAt + 1000000 ≤ s.now then
      (s.setLaneBit (2 * (1 - l) + 1) true).updTrv fun t => t.setRxHop l { h with retryAt := s.now }
    else s
  .next (if s.listening then one 1 (one 0 s) else s)

/-- The 100 us of idle symbols on a broken hop end, its lane still not up (R518). -/
def State.endHopRetry (s : State) : State :=
  let one (l : Nat) (s : State) : State :=
    let h := s.trv.rxHop l
    if h.broken && h.retryAt + 100000 = s.now && !bitN (s.get fTRV_STATE_LANES) (2 * l) then s.hushLane (1 - l) else s
  one 1 (one 0 s)

/-- The quiet window ends: 3,000 ns after its boundary, or 3,001 where the timestamp has just advanced by 2 (R514, R527). -/
def State.quietEnds (s : State) : Bool := s.ts.toNat % 20000 = 3000 || s.ts.toNat % 20000 = 3001

/-- HOP_REJOIN: a broken hop whose lane is up and whose 64 ECHO exchanges succeeded rejoins at the end of the quiet
window. The clockwise hop is the one to the next die (R518). -/
def execHopRejoin (lane : Lane) (s : State) : Host.Outcome State Fault Refusal :=
  let l := 1 - laneNum lane
  let h := s.trv.rxHop l
  .next (if s.listening && h.broken && 64 ≤ h.echoDone && bitN (s.get fTRV_STATE_LANES) (2 * l) && s.quietEnds then
      ((s.updTrv fun t => t.setRxHop l { h with broken := false }).setLaneBit (2 * (1 - l) + 1) true).showWrap
    else s)

/-- What plat lock starts on the traverse: idle symbols on both transmit pairs, the principal as configured, and this
die a member until the ring starts (R521, R531). -/
def State.startTraverse (s : State) : State :=
  let s1 := s.updTrv fun h => { h with lockAt := some s.now, principalAt := s.now }
  ((s1.setLaneBit 1 true).setLaneBit 3 true).put fTRV_STATE_PRIN (s.get fTRV_CFG_PRINCIPAL)

/-- RING_START: the principal starts the ring once every hop is measured or 10 ms after its lock; SYNC, ALIGN and the laps follow
in this order (R522, R531). It takes its time from a die that has sent SYNC in its absence (R530). A die that was in the ring before
a block reset, or has heard the principal in force, joins as a member. -/
def execRingStart (s : State) : Host.Outcome State Fault Refusal :=
  let ready := (64 ≤ s.trv.nextHop.echoDone && 64 ≤ s.trv.prevHop.echoDone)
    || (match s.trv.lockAt with | none => false | some t => t + 10000000 ≤ s.now)
  .next (if s.listening && s.dieIndex = s.get fTRV_CFG_PRINCIPAL && !s.trv.started && ready then
      let s1 := s.updTrv fun h => 
        { h with started := true, syncNo := (s.ts.toNat + 1000) / 5000, latchTs := s.ts.toNat, latched := none, alignDue := true }
      let s2 := ((s1.put fTRV_STATE_PRIN s.dieIndex).putB fTRV_STATE_ROLE true).put fTRV_STATE_EXP 2
      s2.putB fTRV_STATE_TSYNC (s.on fTRV_STATE_TSYNC || !s.trv.princAway)
    else s)

/-! ### Power sums and die shares (R535-R541) -/

/-- The mantissa of a power figure given in 1/capScale of 0.0625 W (R535). -/
def mantissa (x e : Nat) : Nat := min 65535 (roundN x (capScale * 2 ^ e))

/-- SUM_LATCH: at each timestamp that is a multiple of 20,000 ns a die in Run latches D and F, and its input power
envelope updates (R535, R265). A die in Idle counts as in Run (log 126). -/
def execSumLatch (s : State) : Host.Outcome State Fault Refusal :=
  .next (if s.locked && s.trv.latchTs / 20000 < s.ts.toNat / 20000 then
      let s1 := s.updTrv fun h => { h with lastSumLap := none, ring := none, latchTs := s.ts.toNat, latched := if s.runOrIdle then some (s.demandX, s.floorX) else none }
      s1.envelopeUpdate
    else s)

/-- SUM_SEND: 100 ns after the latch the principal sends the lap's SUM frame (R536). -/
def execSumSend (s : State) : Host.Outcome State Fault Refusal :=
  .next (match s.trv.latched, s.trv.lap with
    | some (d, f), none =>
      if s.listening && s.isPrincipal && s.trv.started && s.trv.latchTs + 100 ≤ s.ts.toNat then
        let e := s.get fTRV_STATE_EXP
        let no := (s.trv.lapNo + 1) % 16
        let s1 := s.updTrv fun h => { h with lapNo := no, lastSumLap := some no, lap := some { no := no, sentAt := s.now, back := none, reports := [] } }
        s1.originate 0 2 (e * 2 ^ 52 + no * 2 ^ 48 + mantissa d e * 2 ^ 16 + mantissa f e)
      else s
    | _, _ => s)

/-- A sum with a mantissa added, and its OVF bit (R537). -/
def addSum (sum m : Nat) (ovf : Bool) : Nat × Bool := (min 65535 (sum + m), ovf || decide (65535 < sum + m))

/-- The lap shown by TRV_STATE.MEMBERS, OVF_D, OVF_F and TRV_PSUM on a member: the sums and the dies that it has seen (R552). -/
def State.showLap (s : State) (r : RingLap) : State :=
  let s1 := ((s.putB fTRV_STATE_OVF_D r.sumD.2).putB fTRV_STATE_OVF_F r.sumF.2).put fTRV_STATE_MEMBERS
    (sumOver (upTo 8) fun k => b2n (r.dies.contains k) * 2 ^ k)
  (s1.put fTRV_PSUM_SUMD r.sumD.1).put fTRV_PSUM_SUMF r.sumF.1

/-- A SUM frame at a member: a member in Run with synchronised time adds its mantissas once a lap, the frame goes on, and a REPORT
follows (R522, R537). The first one of a lap is noted for the lap's members and sums; a die in Idle counts as in Run (log 126). -/
def State.passSum (s : State) (l : Nat) (w : Word64) : State :=
  let e := frameBits w 52 5
  let no := frameBits w 48 4
  let d0 := (frameBits w 16 16, decide (frameBits w 33 1 = 1))
  let f0 := (frameBits w 0 16, decide (frameBits w 32 1 = 1))
  let note (s : State) (sd sf : Nat × Bool) (dies : List Nat) : State :=
    if s.trv.ring.any fun r => r.no = no then s
    else s.updTrv fun h => { h with ring := some { no := no, lane := l, sumD := sd, sumF := sf, dies := dies, shared := false } }
  match s.trv.latched with
  | none => (note s d0 f0 [frameSrc w]).forward l w
  | some (d, f) =>
    if !s.runOrIdle || !s.on fTRV_STATE_TSYNC || s.trv.lastSumLap = some no then (note s d0 f0 [frameSrc w]).forward l w
    else
      let sd := addSum d0.1 (mantissa d e) d0.2
      let sf := addSum f0.1 (mantissa f e) f0.2
      let body := e * 2 ^ 52 + no * 2 ^ 48 + b2n sd.2 * 2 ^ 33 + b2n sf.2 * 2 ^ 32 + sd.1 * 2 ^ 16 + sf.1
      let s1 := (note s sd sf [frameSrc w, s.dieIndex]).updTrv fun h => { h with lastSumLap := some no }
      let s2 := s1.forward l (frameWord 2 (frameSrc w) body)
      (s2.put fTRV_STATE_EXP e).originate 0 3 (no * 2 ^ 48 + mantissa d e * 2 ^ 16 + mantissa f e)

/-- Whether a die whose REPORT first came on a lane adds to SUM only after this one: SUM goes clockwise from the principal, and from
the far end of a folded ring back through it to its other side (R517, R537). -/
def State.addsLater (s : State) (r : RingLap) (die l : Nat) : Bool :=
  let place (k : Nat) := (k + s.dieCount - s.principal) % s.dieCount
  if r.lane = 0 then l ≠ 0 || place s.dieIndex < place die else l = 0

/-- A REPORT noted on a member: its die is in the lap, and its mantissas count in the lap's sums (R552). -/
def State.noteReport (s : State) (l : Nat) (w : Word64) : State :=
  match s.trv.ring with
  | none => s
  | some r =>
    if r.no ≠ frameBits w 48 4 || r.dies.contains (frameSrc w) then s
    else
      let later := s.addsLater r (frameSrc w) l
      let r1 := { r with
        dies := r.dies ++ [frameSrc w]
        sumD := if later then addSum r.sumD.1 (frameBits w 16 16) r.sumD.2 else r.sumD
        sumF := if later then addSum r.sumF.1 (frameBits w 0 16) r.sumF.2 else r.sumF }
      let s1 := s.updTrv fun h => { h with ring := some r1 }
      if r.shared then s1.showLap r1 else s1

/-- A SHARE frame noted on a member: it ends the lap, and tells what each die of the lap was sent (R539, R552). -/
def State.noteShares (s : State) (w : Word64) : State :=
  let base := frameBits w 54 3
  let slot (k : Nat) := frameBits w (16 * k) 16
  match s.trv.ring with
  | none => s
  | some r =>
    if r.no ≠ frameBits w 48 4 then s
    else
      let sent (t : Tbl Nat) (k : Nat) : Tbl Nat :=
        if base + k < s.dieCount && (slot k ≠ 0 || r.dies.contains (base + k)) then tblSet (fun _ => 0) t (base + k) (slot k) else t
      (s.updTrv fun h => { h with ring := some { r with shared := true }, lastShares := (upTo 3).foldl sent h.lastShares }).showLap r

/-- A frame that only a principal sends names the principal in force; from a claimant it ends a takeover (R534). -/
def State.follow (s : State) (src : Nat) : State :=
  if s.principal = src then s.updTrv fun h => { h with started := true }
  else
    let taken : Bool := s.trv.claimant = some src
    let s1 := ((s.put fTRV_STATE_PRIN src).putB fTRV_STATE_ROLE false).updTrv fun h =>
      { h with started := true, lostAt := none, claimSent := false, claimRetryAt := none, claimant := none, claimBar := false, principalAt := s.now, lap := none, lastSumLap := none, ring := none }
    s1.raiseIf taken evTRV_TAKEOVER 0xFFFF

/-- SUM: back at the principal it completes the sums of the lap; a member adds its own (R537, R538). -/
def execSum (lane : Lane) (w : Word64) (s : State) : Host.Outcome State Fault Refusal :=
  let l := laneNum lane
  .next (s.arrive l 2 w
    (State.home l w fun s => match s.trv.lap with
      | none => s
      | some p =>
        if p.no = frameBits w 48 4 && p.back.isNone then
          s.updTrv fun h => { h with lap := some { p with back := some (frameBits w 16 16, frameBits w 0 16, frameBits w 33 1 = 1, frameBits w 32 1 = 1) } }
        else s)
    (fun s => s.follow (frameSrc w))
    (fun s => s.passSum l w))

/-- REPORT: the principal notes the mantissas of a die of the lap in progress, a member what it tells of the lap (R538, R552). -/
def execReport (lane : Lane) (w : Word64) (s : State) : Host.Outcome State Fault Refusal :=
  let l := laneNum lane
  .next (s.arrive l 3 w (State.home l w id)
    (fun s => match s.trv.lap with
      | none => if s.isPrincipal then s else s.noteReport l w
      | some p =>
        if s.isPrincipal && p.no = frameBits w 48 4 && !(p.reports.any fun r => r.1 = frameSrc w) then
          s.updTrv fun h => { h with lap := some { p with reports := p.reports ++ [(frameSrc w, frameBits w 16 16, frameBits w 0 16)] } }
        else s)
    (fun s => s.forward l w))

/-- A die's share from the lap's figures, all in 0.0625 W: cap, sums, the die's own demand and floor (R413, R539). -/
def shareOf (cap sumD sumF n d f : Nat) (ovf : Bool) : Nat :=
  let q (a b : Int) (base : Int) : Nat := natOf (clampI 0 65535 (roundHalfUp (base * b + a) b))
  if ovf || cap < sumF then (if sumF = 0 then Config.openNat 1 [cap, d, f] % 65536 else q (cap * f) sumF 0)
  else if sumD ≤ cap then q ((cap : Int) - sumD) n d
  else if sumD = sumF then Config.openNat 2 [cap, d, f] % 65536
  else q (((cap : Int) - sumF) * ((d : Int) - f)) ((sumD : Int) - sumF) f

/-- The exponent of the next lap, and the count of laps low without a break (R541). -/
def nextExp (e low sumD sumF : Nat) (ovf : Bool) : Nat × Nat :=
  if ovf then (min 31 (e + 1), 0)
  else if sumD < 16384 ∧ sumF < 16384 then (if low + 1 < 64 then (e, low + 1) else (e - 1, 0))
  else (e, 0)

/-- The SHARE frames of a lap: the shares of three dies each, on both lanes (R540). -/
def State.sendShares (s : State) (no : Nat) (share : Nat → Nat) : State :=
  forEach (upTo (ceilN s.dieCount 3)) (fun k s =>
    let b := 3 * k
    s.originate 2 4 (b * 2 ^ 54 + no * 2 ^ 48 + share (b + 2) * 2 ^ 32 + share (b + 1) * 2 ^ 16 + share b)) s

/-- The share that stands for the limit of the die that takes it, where the package has no cap (R413): the principal does not know the
limits of the other dies. -/
def ownLimitShare : Nat := 65535

/-- The largest die limit that CAP_DIE holds, 1,070 W (R414): what a share of ownLimitShare may have left in force. -/
def topDieLimit : Nat := 17120

/-- A lap completed: shares computed and sent, the exponent of the next lap fixed (R538-R541). The principal's own figures are its
latch, rounded half upward to 0.0625 W; where SUM has not returned, the sums are those of the figures that have come. -/
def State.completeLap (s : State) (p : Lap) (d f : Nat) : State :=
  let e := s.get fTRV_STATE_EXP
  let me := s.dieIndex
  let figs := (me, roundN d capScale, roundN f capScale) :: p.reports.map fun r => (r.1, r.2.1 * 2 ^ e, r.2.2 * 2 ^ e)
  let mantD := p.reports.foldl (fun a r => a + r.2.1) (mantissa d e)
  let mantF := p.reports.foldl (fun a r => a + r.2.2) (mantissa f e)
  let back := p.back.getD (min 65535 mantD, min 65535 mantF, decide (65535 < mantD), decide (65535 < mantF))
  let ovfD := back.2.2.1
  let ovfF := back.2.2.2
  let sumD := back.1 * 2 ^ e
  let sumF := if ovfF then figs.foldl (fun a r => a + r.2.2) 0 else back.2.1 * 2 ^ e
  let present (k : Nat) := figs.any fun r => r.1 = k
  let cap := s.get fCAP_PKG_CAP
  let gone := s.trv.lastShares.foldl (fun a r => if present r.1 || s.trv.left.contains r.1 then a else a + r.2) 0
  let c := cap - gone
  let share (k : Nat) : Nat := match figs.find? fun r => r.1 = k with
    | none => 0
    | some r => if cap = 0 then ownLimitShare else shareOf c sumD sumF s.dieCount r.2.1 r.2.2 (ovfD || ovfF)
  let joined := p.reports.any fun r => !bitN (s.get fTRV_STATE_MEMBERS) r.1
  let nx := nextExp e s.trv.lowLaps back.1 back.2.1 (ovfD || ovfF)
  let s1 := ((s.putB fTRV_STATE_OVF_D ovfD).putB fTRV_STATE_OVF_F ovfF).put fTRV_STATE_MEMBERS (sumOver (upTo 8) fun k => b2n (present k) * 2 ^ k)
  let s2 := (s1.put fTRV_PSUM_SUMD back.1).put fTRV_PSUM_SUMF back.2.1
  let shares := figs.foldl (fun t r => tblSet (fun _ => 0) t r.1 (if cap = 0 then topDieLimit else share r.1)) s.trv.lastShares
  let s3 := s2.updTrv fun h => { h with lap := none, latched := none, lowLaps := nx.2, lastShares := shares, left := h.left.filter fun k => !present k }
  let s4 := (s3.sendShares p.no share).takeShare (if cap = 0 then s.dieLimit else share me)
  let s5 := (s4.put fTRV_STATE_EXP nx.1).raiseIf (ovfD || ovfF) evTRV_SUM_OVF 0xFFFF
  if joined && s5.isTimeSource then s5.sendAlign else s5

/-- LAP_COMPLETE: SUM and every report are back, or 2 us have passed since SUM was sent (R538). -/
def execLapComplete (s : State) : Host.Outcome State Fault Refusal :=
  .next (match s.trv.lap, s.trv.latched with
    | some p, some (d, f) =>
      let all := (upTo s.dieCount).all fun k => k = s.dieIndex || s.trv.left.contains k || p.reports.any fun r => r.1 = k
      if s.isPrincipal && ((p.back.isSome && all) || p.sentAt + 2000 ≤ s.now) then s.completeLap p d f else s
    | _, _ => s)

/-- SHARE: a die of the lap takes its share; it acts from the next Tally update (R413, R524, R540). DESIGN CHOICE (log 69): without a
package cap the share of 65,535 stands for the die's own limit, and a share of 0 is none: the slot of a die whose report the
principal has not counted (R539). Every member keeps what the dies of the lap were sent, for the case that it becomes principal. -/
def execShare (lane : Lane) (w : Word64) (s : State) : Host.Outcome State Fault Refusal :=
  let l := laneNum lane
  let base := frameBits w 54 3
  .next (s.arrive l 4 w id
    (fun s0 =>
      let s := (s0.follow (frameSrc w)).noteShares w
      let k := s.dieIndex
      let x := frameBits w (16 * (k - base)) 16
      if base ≤ k && k < base + 3 && x ≠ 0 && s.trv.lastSumLap = some (frameBits w 48 4) then
        s.takeShare (if s.get fCAP_PKG_CAP = 0 && x = ownLimitShare then s.dieLimit else x)
      else s)
    (fun s => s.forwardBoth l w))

/-! ### Package caps and epochs (R542-R547) -/

/-- The package cap set on the principal: a change is broadcast at once in a CAP frame (R542). -/
def State.setPkgCap (s : State) (cap : Nat) : State :=
  let s1 := s.put fCAP_PKG_CAP cap
  if s.isPrincipal && s.get fCAP_PKG_CAP ≠ cap then
    (s1.updTrv fun h => { h with capSentAt := s.now }).originate 2 5 cap
  else s1

/-- The package cap of a relayed request made the principal's, and broadcast; a host write of CAP_PKG in the same cycle stands (R16,
R542, R543). -/
def State.changeCap (s : State) (cap : Nat) : State :=
  let s1 := s.putHw fCAP_PKG_CAP cap
  s1.originate 2 5 (s1.get fCAP_PKG_CAP)

/-- The answer to a relayed request noted on the mailbox channel that waits for it. -/
def State.answerRelay (s : State) (r : Relay) (result : Nat) : State :=
  match r.chan with
  | none => s
  | some m => s.updChan m fun c => { c with long := c.long.map fun o => { o with result := some result } }

/-- A relayed request answered and forgotten. -/
def State.closeRelay (s : State) (r : Relay) (result : Nat) : State :=
  (s.updTrv fun h => { h with relays := h.relays.filter fun x => x ≠ r }).answerRelay r result

/-- CAP: every die's CAP_PKG reads the cap received; a relayed cap write that it carries is complete (R534, R542). -/
def execCap (lane : Lane) (w : Word64) (s : State) : Host.Outcome State Fault Refusal :=
  let l := laneNum lane
  let cap := frameBits w 0 20
  .next (s.arrive l 5 w id
    (fun s =>
      let s1 := s.putHw fCAP_PKG_CAP cap
      let s2 := match s1.trv.relays.find? fun r => r.kind = 0 && r.cap = cap with
        | none => s1
        | some r => s1.closeRelay r 0
      s2.follow (frameSrc w))
    (fun s => s.forwardBoth l w))

/-- CAP_REPEAT: the principal repeats the CAP frame every 1 ms (R542). -/
def execCapRepeat (s : State) : Host.Outcome State Fault Refusal :=
  .next (if s.listening && s.isPrincipal && s.trv.capSentAt + 1000000 ≤ s.now then
      (s.updTrv fun h => { h with capSentAt := s.now }).originate 2 5 (s.get fCAP_PKG_CAP)
    else s)

/-- TRV_EPOCH_STAT.PEND shows the pending epochs. -/
def State.showPend (s : State) : State := s.put fTRV_EPOCH_STAT_PEND (min 4 s.trv.epochs.length)

/-- An epoch stored as pending (R544). -/
def State.addEpoch (s : State) (ts cap : Nat) : State :=
  (s.updTrv fun h => { h with epochs := h.epochs ++ [{ ts := ts, cap := cap, order := h.epochOrder }], epochOrder := h.epochOrder + 1 }).showPend

/-- 36 carried bits as the smallest timestamp, at or after the die's own minus 1 ms, whose low bits match (R544). -/
def State.resolve36 (s : State) (low : Nat) : Nat :=
  let base := s.ts.toNat - 1000000
  let x := base / 2 ^ 36 * 2 ^ 36 + low
  if base ≤ x then x else x + 2 ^ 36

/-- An epoch request at the principal: refused, or accepted, moved if late, stored and broadcast (R544). Answers the
result code of TRV_EPOCH_STAT. -/
def State.takeEpoch (s : State) (cap ts : Nat) (relayed : Bool) : State × Nat :=
  let now := s.ts.toNat
  if now + 60000000000 < ts || 4 ≤ s.trv.epochs.length then
    let s1 := if relayed then s.originate 2 6 (2 ^ 56 + cap * 2 ^ 36 + ts % 2 ^ 36) else s
    (s1.raise evTRV_EPOCH_REFUSED 0xFFFF, 2)
  else
    let late := ts < now + 10000
    let t := if late then now + 10000 else ts
    let s1 := (s.addEpoch t cap).originate 2 6 (cap * 2 ^ 36 + t % 2 ^ 36)
    (s1.raiseIf late evTRV_EPOCH_LATE 0xFFFF, if late then 3 else 1)

/-- An epoch submitted on this die: handled by the principal, relayed by a member (R543). -/
def State.submitEpoch (s : State) (cap ts : Nat) (chan : Option Nat) : State :=
  if s.isPrincipal then
    let p := s.takeEpoch cap ts false
    p.1.put fTRV_EPOCH_STAT_RESULT p.2
  else
    let s1 := (s.put fTRV_EPOCH_STAT_RESULT 0).updTrv fun h =>
      { h with relays := h.relays ++ [{ kind := 1, cap := cap, ts36 := ts % 2 ^ 36, sentAt := s.now, chan := chan }] }
    s1.originate 0 7 (2 ^ 56 + cap * 2 ^ 36 + ts % 2 ^ 36)

/-- A package cap written by a relayed request: on the principal at once, on a member by a REQ frame (R543). -/
def State.submitCap (s : State) (cap : Nat) (chan : Option Nat) : State :=
  if s.isPrincipal then s.setPkgCap cap
  else
    let s1 := s.updTrv fun h =>
      { h with relays := h.relays ++ [{ kind := 0, cap := cap, ts36 := 0, sentAt := s.now, chan := chan }] }
    s1.originate 0 7 (cap * 2 ^ 36)

/-- A relayed epoch that an EPOCH frame names: the same cap and timestamp, or the same cap moved later (R544, R545). -/
def State.namedRelay (s : State) (refuse : Bool) (cap ts36 : Nat) : Option Relay :=
  s.trv.relays.find? fun r => r.kind = 1 && r.cap = cap && (r.ts36 = ts36 || (!refuse && s.resolve36 r.ts36 < s.resolve36 ts36))

/-- EPOCH: an accepted epoch is stored as pending; the die that relayed it learns the result (R544, R545). -/
def execEpoch (lane : Lane) (w : Word64) (s : State) : Host.Outcome State Fault Refusal :=
  let l := laneNum lane
  let refuse : Bool := frameBits w 56 1 = 1
  let cap := frameBits w 36 20
  let ts36 := frameBits w 0 36
  .next (s.arrive l 6 w id
    (fun s =>
      let s1 := if refuse then s else s.addEpoch (s.resolve36 ts36) cap
      match s.namedRelay refuse cap ts36 with
      | none => s1
      | some r =>
        let code := if refuse then 2 else if r.ts36 = ts36 then 1 else 3
        (s1.put fTRV_EPOCH_STAT_RESULT code).closeRelay r (if refuse then 1 else if code = 1 then 0 else 2))
    (fun s => s.forwardBoth l w))

/-- REQ: the principal removes it and handles the request as its own; others pass it on (R543). -/
def execReq (lane : Lane) (w : Word64) (s : State) : Host.Outcome State Fault Refusal :=
  let l := laneNum lane
  let cap := frameBits w 36 20
  .next (s.arrive l 7 w (State.home l w id)
    (fun s =>
      if !s.isPrincipal then s
      else if frameBits w 56 1 = 0 then s.changeCap cap
      else (s.takeEpoch cap (s.resolve36 (frameBits w 0 36)) true).1)
    (fun s => if s.isPrincipal then s else s.forward l w))

/-- The pending epoch that applies next: the earliest timestamp, and of equal ones the one accepted later (R547). -/
def earliest : List Epoch → Option Epoch
  | [] => none
  | e :: l => match earliest l with
    | none => some e
    | some f => if f.ts < e.ts ∨ (f.ts = e.ts ∧ e.order < f.order) then some f else some e

/-- EPOCH_APPLY: at its effective timestamp an epoch's cap becomes the package cap, unless a host write of CAP_PKG in the same cycle
stands (R16); a lower cap scales the share (R546). Other epochs with the same timestamp, accepted earlier, do not apply (R547). -/
def execEpochApply (s : State) : Host.Outcome State Fault Refusal :=
  .next (match earliest s.trv.epochs with
    | none => s
    | some e =>
      if e.ts ≤ s.ts.toNat then
        let old := s.get fCAP_PKG_CAP
        let s1 := (s.updTrv fun h => { h with epochs := h.epochs.filter fun x => x.ts ≠ e.ts }).showPend
        let s2 := if e.cap ≠ 0 ∧ e.cap < old then s1.takeShare (natOf (divOpen 3 (s.shareInForce * e.cap) old)) else s1
        s2.putHw fCAP_PKG_CAP e.cap
      else s)

/-- RELAY_TIMEOUT: a relayed request unanswered for 100 us (R545). -/
def execRelayTimeout (s : State) : Host.Outcome State Fault Refusal :=
  .next (match s.trv.relays.find? fun r => r.sentAt + 100000 ≤ s.now with
    | none => s
    | some r =>
      let s1 := if r.kind = 1 then s.put fTRV_EPOCH_STAT_RESULT 4 else s
      (s1.raise evTRV_RELAY_TO 0xFFFF).closeRelay r 3)

/-! ### Takeover (R532-R534) -/

/-- PRINCIPAL_LOST: a member in Run with no frame from the principal for 10 us, which has not announced leaving (R532). -/
def execPrincipalLost (s : State) : Host.Outcome State Fault Refusal :=
  .next (if s.listening && s.runOrIdle && !s.isPrincipal && s.trv.started && s.trv.lostAt.isNone
      && s.trv.principalAt + 10000 ≤ s.now && !s.trv.left.contains s.principal then
      (s.updTrv fun h => { h with lostAt := some s.now, lostDie := s.principal, claimSent := false }).raise evTRV_PRINC_LOST 0xFFFF
    else s)

/-- The rank of a die for a lost principal (R533). -/
def State.rankOf (s : State) (lost die : Nat) : Nat := (die + s.dieCount - lost) % s.dieCount

/-- The rank of this die for the principal that it has declared lost. -/
def State.rank (s : State) : Nat := s.rankOf s.trv.lostDie s.dieIndex

/-- A CLAIM frame of this die (R533). -/
def State.sendClaim (s : State) : State :=
  (s.updTrv fun h => { h with claimSent := true, claimRetryAt := none }).originate 0 10
    (s.trv.lostDie * 2 ^ 54 + 2 ^ s.dieIndex)

/-- CLAIM_SEND: a die of rank k claims (k - 1) us after it declared the principal lost, unless its claim is dropped (R533). -/
def execClaimSend (s : State) : Host.Outcome State Fault Refusal :=
  .next (match s.trv.lostAt with
    | none => s
    | some t =>
      if s.listening && !s.trv.claimSent && !s.trv.claimBar && s.trv.claimRetryAt.isNone
        && t + (s.rank - 1) * 1000 ≤ s.now then s.sendClaim else s)

/-- CLAIM_RETRY: a claim whose bitmap fell short is sent again every 1 ms (R534). -/
def execClaimRetry (s : State) : Host.Outcome State Fault Refusal :=
  .next (match s.trv.lostAt, s.trv.claimRetryAt with
    | some _, some t => if s.listening && t ≤ s.now then s.sendClaim else s
    | _, _ => s)

/-- A claimant becomes principal: it sends SYNC and CAP and takes over the pending epochs it holds (R534). -/
def State.takeOver (s : State) : State :=
  let s1 := s.updTrv fun h =>
    { h with lostAt := none, claimSent := false, claimRetryAt := none, started := true, capSentAt := s.now, lap := none,
             latched := none, claimant := none, claimBar := false, ring := none, princAway := false, syncNo := (s.ts.toNat + 1000) / 5000 }
  let s2 := (s1.put fTRV_STATE_PRIN s.dieIndex).putB fTRV_STATE_ROLE true
  let s3 := (s2.originate 0 1 0).originate 2 5 (s.get fCAP_PKG_CAP)
  s3.raise evTRV_TAKEOVER 0xFFFF

/-- CLAIM: another die's gains this die's bit and goes on; it drops a claim not yet sent, and one of a lower rank bars one that this
die would make later; this die's own, back from
the ring, makes it principal where the bitmap holds every die of the last lap but the lost one (R533, R534). -/
def execClaim (lane : Lane) (w : Word64) (s : State) : Host.Outcome State Fault Refusal :=
  let l := laneNum lane
  let bits := frameBits w 0 8
  let lost := frameBits w 54 3
  let w' := frameWord 10 (frameSrc w) (lost * 2 ^ 54 + setBitN bits s.dieIndex true)
  .next (s.arrive l 10 w
    (State.home l w fun s =>
      if !s.trv.claimSent || s.trv.lostAt.isNone then s
      else if (upTo 8).all fun k => !bitN (s.get fTRV_STATE_MEMBERS) k || k = lost || bitN bits k then s.takeOver
      else s.updTrv fun h => { h with claimSent := false, claimRetryAt := some (s.now + 1000000) })
    (fun s => s.updTrv fun h =>
      { h with claimant := some (frameSrc w), claimBar := h.claimBar || h.lostAt.isSome || decide (s.rankOf lost (frameSrc w) < s.rankOf lost s.dieIndex) })
    (fun s => s.forward l w'))

/-! ### Broadcasts (R548-R550) -/

/-- FAULT: REMOTE sets, TRV_REMOTE shows the frame, and an entry is written; nothing else (R548, R560). -/
def execFault (lane : Lane) (w : Word64) (s : State) : Host.Outcome State Fault Refusal :=
  let l := laneNum lane
  let blk := frameBits w 40 5
  let bit := frameBits w 35 5
  let sev := frameBits w 33 2
  let die := frameSrc w
  .next (s.arrive l 8 w id
    (fun s =>
      let s1 := s.setReg TRV_REMOTE (BitVec.ofNat 32 (die * 2 ^ 29 + blk * 2 ^ 24 + bit * 2 ^ 19 + sev * 2 ^ 17))
      s1.raiseRemote ⟨bit, sev, blk, die, die, frameBits w 0 32⟩)
    (fun s => s.forwardBoth l w))

/-- SHED: load shedding begins, ends at the principal's word, or the die stops in order (R549). -/
def execShed (lane : Lane) (w : Word64) (s : State) : Host.Outcome State Fault Refusal :=
  let l := laneNum lane
  let code := frameBits w 32 2
  .next (s.arrive l 9 w id
    (fun s =>
      if code = 1 then s.beginShedding
      else if code = 3 then s.orderlyStop
      else if code = 2 && frameSrc w = s.principal then s.endShedding
      else s)
    (fun s => s.forwardBoth l w))

/-- A neighbour's hop set aside, its transmit pair idle and its waiting frames folded, or taken back (R517, R519). -/
def State.setAside (s : State) (die : Nat) (b : Bool) : State :=
  let tx (h : HopHid) (l : Nat) (s : State) : State :=
    if h.broken then s else if b then (s.setLaneBit (2 * l + 1) false).reroute l else s.setLaneBit (2 * l + 1) true
  let s1 := if die = s.nextDie then tx s.trv.nextHop 0 (s.updTrv fun h => { h with nextHop := { h.nextHop with aside := b } }) else s
  let s2 := if die = s.prevDie then tx s.trv.prevHop 1 (s1.updTrv fun h => { h with prevHop := { h.prevHop with aside := b } }) else s1
  s2.showWrap

/-- STATE: a die announces the state it enters; one that leaves Run is not counted as absent (R519, R550). -/
def execState (lane : Lane) (w : Word64) (s : State) : Host.Outcome State Fault Refusal :=
  let l := laneNum lane
  let st := frameBits w 0 3
  let die := frameSrc w
  .next (s.arrive l 11 w id
    (fun s =>
      let s1 := s.updTrv fun h =>
        { h with left := if st = 0 then h.left.filter fun k => k ≠ die else if h.left.contains die then h.left else die :: h.left,
                 princAway := h.princAway || (die = s.principal && st ≠ 0) }
      if st = 0 then s1.setAside die false else if 2 ≤ st && st ≤ 4 then s1.setAside die true else s1)
    (fun s => s.forwardBoth l w))

/-- QUIET_WINDOW_END: the frames held back are originated (R514). -/
def execQuietWindowEnd (s : State) : Host.Outcome State Fault Refusal :=
  .next (if s.quiet then s else s.releaseHeld)

end Sys2Proof.Machine
end

