-- ==== Sys2Proof/Machine/Mailbox.lean ====
section
/-!
DEFINITION. The mailbox channels (R588-R597), the watchdog and the core resets (R580, R581, R600-R606).
-/

namespace Sys2Proof.Machine

/-! ### Ports -/

/-- A port makes accesses: the AXI4-Lite target while the host die is powered, the core while it runs (R51, R79, R579). -/
def State.portOpen (s : State) (core : Bool) : Bool :=
  !s.por && (if core then s.on fBLK_CORE_RUNNING && !s.coreAsleep && !s.core.waiting else s.pins.hostPwrgd)

/-- A write that firmware makes to a register of block `n` at an offset, where the cadastre permits it (R585). -/
def State.permitted (s : State) (n off : Nat) (f : State → State) : State :=
  if bitN (s.reg CAD_FWPERM).toNat n then f s else s.raiseD evCAD_FW_DENIED 0xFFFF off

/-! ### Channels -/

/-- Channel states of MBX_CST (Table 14.13): 0 idle, 1 pending, 2 acknowledged, 3 accepted, 4 done. -/
def State.chanState (s : State) (m : Nat) : Nat := s.get (fMBX_CST_STATE m)

/-- The request header of a channel (Table 14.3). -/
def State.reqOp (s : State) (m : Nat) : Nat := bitsAt (s.reg (MBX_REQ m 0)) 0 16
def State.reqSeq (s : State) (m : Nat) : Nat := bitsAt (s.reg (MBX_REQ m 0)) 16 16
def State.reqLen (s : State) (m : Nat) : Nat := bitsAt (s.reg (MBX_REQ m 1)) 0 8

/-- `n` argument bytes of a request from byte `k` of its arguments, little-endian (Table 14.3). -/
def State.arg (s : State) (m k n : Nat) : Nat :=
  leNat ((upTo n).map fun b =>
    BitVec.ofNat 8 (bitsAt (s.reg (MBX_REQ m (2 + (k + b) / 4))) (8 * ((k + b) % 4)) 8))

/-- The response words of a channel. -/
def State.rspWords (s : State) (m : Nat) : List Word := (upTo 16).map fun j => s.reg (MBX_RSP m j)

/-- Response words written from word `j` on. -/
def State.putRsp (s : State) (m j : Nat) : List Word → State
  | [] => s
  | w :: ws => (s.setReg (MBX_RSP m j) w).putRsp m (j + 1) ws

/-- Bytes packed into words, little-endian, padded with 0. -/
def packWords (bs : List Byte) (n : Nat) : List Word :=
  (upTo n).map fun j => BitVec.ofNat 32 (leNat ((bs.drop (4 * j)).take 4))

/-- MBX_DONE bit m set; no event (R595). -/
def State.setDone (s : State) (m : Nat) : State :=
  (s.put fMBX_DONE_DONE (setBitN (s.get fMBX_DONE_DONE) m true)).markSet MBX_DONE (BitVec.ofNat 32 (2 ^ m))

/-- The channel moved to accepted, or to done, with a status over the response words given (R595, Table 14.4). BUSY and the
header answers leave SEQ unaccepted; a final response to an accepted SEQ is stored for a replay (R592). -/
def State.conclude (s : State) (m : Nat) (acc : Bool) (status detail : Nat) (words : List Word) : State :=
  let s1 := s.setReg (MBX_CST m) (BitVec.ofNat 32 ((if acc then 3 else 4) * 256 + status))
  let accepts := !(status = 1 || (status = 4 && (detail = 2 || detail = 3)))
  let wasAccepted := s.chanState m = 3
  let s2 := s1.updChan m fun c =>
    { c with
      lastSeq := if accepts then some (s.reqSeq m) else c.lastSeq
      lastOp := if accepts then s.reqOp m else c.lastOp
      stored := if acc then none else if accepts || wasAccepted then some words else c.stored
      long := if acc then c.long else none }
  s2.setDone m

/-- A response written and the channel moved to accepted (status 7) or done. -/
def State.post (s : State) (m status detail : Nat) (result : List Byte) : State :=
  let hdr := [s.reg (MBX_REQ m 0), BitVec.ofNat 32 (status + detail * 256 + result.length * 65536)]
  let words := hdr ++ packWords result 14
  (s.putRsp m 0 words).conclude m (status = 7) status detail words

/-- A firmware write of a response word, of a channel that waits for one (R594, R595). -/
def State.fwRsp (s : State) (m j : Nat) (v : Word) : State :=
  if 1 ≤ s.chanState m && s.chanState m ≤ 3 then s.setReg (MBX_RSP m j) v else s

/-- A firmware write of MBX_CST: it acknowledges, accepts or answers a request under way; any other has no effect (R594, R595). -/
def State.fwState (s : State) (m : Nat) (v : Word) : State :=
  let cur := s.chanState m
  let st := bitsAt v 8 3
  let code := bitsAt v 0 3
  let detail := bitsAt (s.reg (MBX_RSP m 1)) 8 8
  if cur = 1 && st = 2 then s.put (fMBX_CST_STATE m) 2
  else if (cur = 1 || cur = 2) && st = 3 then s.conclude m true code detail (s.rspWords m)
  else if 1 ≤ cur && cur ≤ 3 && st = 4 then s.conclude m false code detail (s.rspWords m)
  else s

/-- The core cannot answer: held in reset, or not ready (R594). -/
def State.coreDown (s : State) : Bool := !s.on fBLK_CORE_RUNNING || !s.on fBLK_CORE_READY

/-- A request started by a doorbell: the header check of R592 and the guard of R594. -/
def State.startRequest (s : State) (m : Nat) : State :=
  let c := s.chan m
  let seq := s.reqSeq m
  let replay := c.lastSeq = some seq && c.lastOp = s.reqOp m && c.stored.isSome
  let fresh := match c.lastSeq with
    | none => true
    | some q => seq = (q + 1) % 65536
  if replay then
    let ws := c.stored.getD []
    ((s.putRsp m 0 ws).setReg (MBX_CST m) (BitVec.ofNat 32 (4 * 256 + bitsAt (ws.getD 1 0) 0 3))).setDone m
  else if !fresh then s.post m 4 2 []
  else if 56 < s.reqLen m || bitsAt (s.reg (MBX_REQ m 1)) 8 24 ≠ 0 then s.post m 4 3 []
  else
    let s1 := (s.updChan m fun c => { c with bellAt := s.now, order := s.core.bells, guarded := false, long := none }).put (fMBX_CST_STATE m) 1
    let s2 := { s1 with core := { s1.core with bells := s1.core.bells + 1 } }
    if s.coreDown then s2.post m 1 1 [] else s2

/-- A doorbell rung by the requester of a channel in idle or done: it wakes the core from Idle and is a wake event, whatever its
header (R295, R591, Table 6.4). In any other state it sets PROTO and nothing else (R593). In the cycle of an interface reset it
is lost (R604). -/
def State.ring (s : State) (m : Nat) : State :=
  if s.core.ifaceDue = some (s.now + 2000) then s
  else if s.chanState m = 0 || s.chanState m = 4 then ((s.coreWake).wakeBy 3).startRequest m
  else s.raise evMBX_PROTO m

/-- MBX_ACK: firmware acknowledges a pending request, up to and in the cycle of the 20 us deadline (R594). -/
def execMbxAck (m : Fin 8) (s : State) : Host.Outcome State Fault Refusal :=
  .next (if s.chanState m = 1 && !s.coreDown && !s.coreAsleep && s.now ≤ (s.chan m).bellAt + 20000 then
      s.coreWake.permitted 19 (MBX_CST m) fun s => s.put (fMBX_CST_STATE m) 2
    else s)

/-- MBX_GUARD_TIMEOUT: a channel still pending 20 us after its doorbell is answered BUSY by the guard; in the cycle of the deadline itself an
acknowledgement still prevails, so the guard answers when that cycle is over (R594). -/
def execMbxGuardTimeout (m : Fin 8) (s : State) : Host.Outcome State Fault Refusal :=
  .next (if s.chanState m = 1 && (s.chan m).bellAt + 20000 < s.now then (s.post m 1 1 []).raise evMBX_GUARD m else s)

/-! ### Core resets -/

/-- What a core reset leaves of a channel (R602). -/
def State.chanAtReset (s : State) (m : Nat) : State :=
  if s.chanState m = 1 || s.chanState m = 2 || s.chanState m = 3 then s.post m 1 1 [] else s

/-- Requests relayed to the principal for a channel that is no longer waiting: what answers them later concerns no channel (R602, R604). -/
def State.detachRelays (s : State) : State :=
  s.updTrv fun h => { h with relays := h.relays.map fun r => { r with chan := none } }

/-- A core reset (R602, R606): READY clears, the channels are answered, and the core leaves reset within 2 us unless it
is held. -/
def State.coreReset (s : State) (byWdt : Bool) : State :=
  let s1 := forEach (upTo 8) (fun m s => s.chanAtReset m) s.detachRelays
  let s2 := ((s1.putB fBLK_CORE_READY false).putB fBLK_CORE_RUNNING false).putB fBLK_CORE_CLK false
  let s3 := (s2.addSat fBLK_CORE_RESETS 1).putB fBLK_RST_CORE true
  let s4 := { s3 with core := { s3.core with exitDue := some (s.now + 2000), waiting := false, orphans := [] } }
  if byWdt then s4.raise evBLK_WDT 0xFFFF else s4.raise evBLK_CORE_RESET 0xFFFF

/-- CORE_RESET_EXIT: the core leaves reset within 2 us of its cause unless HOLD is 1 (R606); it starts at 400 MHz, the block leaves
Idle, and the watchdog counts from 10,000 us (R580, R600). -/
def execCoreResetExit (s : State) : Host.Outcome State Fault Refusal :=
  .next (match s.core.exitDue with
    | none => s
    | some t =>
      let s1 := s.putB fBLK_RST_CORE false
      if s.on fBLK_CORE_HOLD then { s1 with core := { s1.core with exitDue := none } }
      else if t ≤ s.now + 2000 then
        let s2 := (s1.putB fBLK_CORE_RUNNING true).put fBLK_WDT_COUNT 10000
        ({ s2 with core := { s2.core with exitDue := none, wdtSub := 0 } }).coreWake
      else s)

/-- WDT_KICK: a firmware write of BLK_WDT.KICK restarts the count (R600). -/
def execWdtKick (s : State) : Host.Outcome State Fault Refusal :=
  .next (if s.portOpen true then
      s.permitted 0 BLK_WDT fun s => { s.put fBLK_WDT_COUNT 10000 with core := { s.core with wdtSub := 0 } }
    else s)

/-- WATCHDOG_EXPIRY: the count has reached 0 (R601). -/
def execWatchdogExpiry (s : State) : Host.Outcome State Fault Refusal :=
  .next (if s.on fBLK_CORE_RUNNING && s.runOrIdle && s.get fBLK_WDT_COUNT = 0 then s.coreReset true else s)

/-- CORE_CLK_SWITCH: a firmware write of BLK_CORE.CLK; 1 has no effect while the PLL is not locked (R580). -/
def execCoreClkSwitch (clk : Bool) (s : State) : Host.Outcome State Fault Refusal :=
  .next (if s.portOpen true then s.permitted 0 BLK_CORE fun s => s.putB fBLK_CORE_CLK (clk && s.clk.pll) else s)

/-- CORE_MEM_UNCORR: a core fetch from FW or load from DAT meets an uncorrectable word: counted, recorded, and the core
is reset (R581, R611). -/
def execCoreMemUncorr (dat : Bool) (addr : Nat) (s : State) : Host.Outcome State Fault Refusal :=
  let k := if dat then 1 else 0
  .next (if s.on fBLK_CORE_RUNNING && s.memUsable k && addr < memSize k then
      let s1 := (s.markBad k (addr / 8)).addSat (fMEM_MSTAT_UNCORR k) 1
      (s1.raiseD evMEM_UNCORR k (addr / 8 * 8)).coreReset false
    else s)

/-- One nanosecond of the watchdog: the count falls once a microsecond while the core runs in Run or Idle (R600). -/
def State.wdtTick (s : State) : State :=
  if s.on fBLK_CORE_RUNNING && s.runOrIdle then
    if s.core.wdtSub + 1 < 1000 then { s with core := { s.core with wdtSub := s.core.wdtSub + 1 } }
    else
      let s1 := s.put fBLK_WDT_COUNT (s.get fBLK_WDT_COUNT - 1)
      { s1 with core := { s1.core with wdtSub := 0 } }
  else s

/-- The writes that finish a RETUNE once its tract is in open-hold: the eight words of the set, then CLOSE (Table 14.6, R186-R188). -/
def State.retuneWrites (s : State) (m : Nat) : List (Nat × Word) :=
  let t := s.arg m 0 1
  let win := 0x28000 + 64 * t + 32 * s.arg m 1 1
  ((win, BitVec.ofNat 32 (s.arg m 2 1)) :: (upTo 7).map fun k => (win + 4 + 4 * k, BitVec.ofNat 32 (s.arg m (3 + 4 * k) 4)))
    ++ [(TRC_OPEN t, 2)]

/-- A retune under way on a channel is remembered, for its writes run on after an interface reset (R604). -/
def State.orphan (s : State) (m : Nat) : State :=
  match (s.chan m).long with
  | none => s
  | some o =>
    if o.op = 0x0501 && o.started && o.result.isNone then
      { s with core := { s.core with orphans := s.core.orphans ++ [(o.unit, s.retuneWrites m)] } }
    else s

/-- An interface reset (R604): request and response areas 0, channels idle with no history, MBX_DONE and every XXX_IEN
clear, telemetry sequence numbers restarted; hardware actions under way run on and post no response. -/
def State.ifaceReset (s : State) : State :=
  let s0 := forEach (upTo 8) (fun m s => s.orphan m) s.detachRelays
  let s1 := s0.resetRegs fun o => decide (0x1800 ≤ o ∧ o < 0x2000)
  let s2 := forEach (upTo 22) (fun n s => s.resetReg (blockBase n + 4)) { s1 with chans := [] }
  let s3 := ((s2.resetReg MBX_DONE).resetReg TLM_SEQ)
  let s4 := { s3 with pmb := { s3.pmb with busy := false }, nrg := { s3.nrg with nextSeq := 0 }, core := { s3.core with ifaceDue := some (s.now + 2000) } }
  s4.putB fBLK_RST_IFACE true

/-- IFACE_RESET_DONE: BLK_RST.IFACE reads 0 again within 2 us (R604, R605). -/
def execIfaceResetDone (s : State) : Host.Outcome State Fault Refusal :=
  .next (match s.core.ifaceDue with
    | none => s
    | some _ =>
      let s1 := s.putB fBLK_RST_IFACE false
      { s1 with core := { s1.core with ifaceDue := none } })

end Sys2Proof.Machine
end

