-- ==== Sys2Proof/Machine/Pmbus.lean ====
section
/-!
DEFINITION. The PMBus target (R474-R477, Table 10.3). A command is one transaction: `pmb.acked` tells whether it was
acknowledged, its answer goes to `pmb.reply`, and the packet error code that ends the answer to `pmb.pec` (R74).
-/

namespace Sys2Proof.Machine

/-- The PMBus target changed. -/
def State.updPmb (s : State) (f : PmbHid → PmbHid) : State := { s with pmb := f s.pmb }

/-- The target's 7-bit address (R474). -/
def State.pmbAddr (s : State) : Nat := (s.get fTLM_PMB_ADDR + s.dieIndex) % 128

/-- The target takes part in a transaction: in Run, Idle and Sleep (R75), and while the block boots. -/
def State.pmbAwake (s : State) : Bool := !s.por && !(s.aon = 3 || s.aon = 4)

/-- The packet error code of a transaction's bytes (R74; PRESUMED SMBus, notes/assumptions/111.md). -/
def pecOf (bs : List Byte) : Byte := crc8 bs

/-- The address byte of a transaction: the 7-bit address and the direction, 1 for a read. -/
def State.addrByte (s : State) (dir : Nat) : Byte := BitVec.ofNat 8 (2 * s.pmbAddr + dir)

/-- The packet error code behind a command's answer. -/
def State.replyPec (s : State) (code : Nat) : Byte :=
  pecOf ([s.addrByte 0, BitVec.ofNat 8 code, s.addrByte 1] ++ s.pmb.reply)

/-- The clock of the transaction that has woken the block from Sleep is stretched (R302). -/
def State.stretching (s : State) : Bool := s.aon = 2 && s.pst.waking && s.pst.pmbus

/-- A transaction served: its answer, if any, ends with its packet error code; the pending match of Table 6.4 is over. -/
def State.pmbServe (s : State) (code : Nat) (f : State → State) : State :=
  let s1 := (f (s.pmbAnswer true [] none)).updPst fun p => { p with pmbus := false }
  if s1.pmb.reply = [] then s1 else s1.updPmb fun p => { p with pec := some (s1.replyPec code) }

/-- A transaction `i`: not acknowledged in Deep sleep and Off (R75); held until Run while it stretches the clock (R302); else
served. -/
def State.pmbus (s : State) (i : Instr) (code : Nat) (f : State → State) : State :=
  if s.por then s
  else if !s.pmbAwake then s.pmbAnswer false [] none
  else if s.stretching then (if s.pmb.held.isSome then s else s.updPmb fun p => { p with held := some i })
  else s.pmbServe code f

/-- An answer. -/
def State.answer (s : State) (bs : List Byte) : State := s.updPmb fun p => { p with reply := bs }

/-- An answer of `n` bytes, low byte first. -/
def State.answerN (s : State) (n x : Nat) : State := s.answer (leBytes x n)

/-- Bits of STATUS_CML: 7 invalid command, 6 invalid data, 5 PEC failure, 1 other (R476, R477, Table 10.3). -/
def State.setCml (s : State) (k : Nat) : State := s.updPmb fun p => { p with cml := setBitN p.cml k true }

/-- A command that is not acknowledged at its command byte (R476). -/
def State.notAcked (s : State) : State :=
  ((s.setCml 7).updPmb fun p => { p with acked := false }).raise evTLM_PMB_CML 0xFFFF

/-- Data that is not acknowledged. -/
def State.badData (s : State) : State := (s.setCml 6).updPmb fun p => { p with acked := false }

/-- The domain that PAGE selects; none for the die's page. -/
def State.pageDom (s : State) : Option Nat := if s.pmb.page = 0 then none else some (s.pmb.page - 1)

/-- A figure num/den in LINEAR11: a mantissa of 11 bits and an exponent of 5. The format does not say which of the exponents
that hold the figure is used, nor how the mantissa is rounded: both are open. -/
def State.linear11 (s : State) (cmd : Nat) (num den : Int) : Nat :=
  let at_ (e : Nat) : Int := if e < 16 then divOpen 35 (num * 2 ^ (16 - e)) den else divOpen 35 num (den * 2 ^ (e - 16))
  let fits (e : Nat) : Bool := decide (-1024 ≤ at_ e) && decide (at_ e ≤ 1023)
  let want := Config.openNat 52 [cmd, num, den, s.now] % 32
  let e : Nat := match (upTo 32).find? fun e => want ≤ e && fits e with
    | some e => e
    | none => 31
  unsigned 5 ((e : Int) - 16) * 2 ^ 11 + unsigned 11 (clampI (-1024) 1023 (at_ e))

/-- A word in LINEAR11, or one that the spec leaves open where the figure has no value. -/
def State.answerLinear (s : State) (cmd : Nat) (x : Option (Int × Int)) : State :=
  match x with
  | some (a, b) => s.answerN 2 (s.linear11 cmd a b)
  | none => s.answerN 2 (Config.openNat 53 [cmd, s.now])

/-- I_in of R340 as a fraction in A; none where VIN reads 0. -/
def State.inputCurrent (s : State) : Option (Int × Int) :=
  let m := s.ibMean
  if s.ib.code17 = 0 then none else some ((16384 * m.1 : Nat) * s.ibTotal, (720000000 * s.ib.code17 * m.2 : Nat))

/-- V_IN,meas as a fraction in V: the reading of AIN17 times 60. -/
def State.inputVoltage (s : State) : Int × Int := (72 * s.ib.code17, 16384)

/-- The mapped state of the page's domain: the present code of the latest millisecond. -/
def State.pageCode (s : State) (d : Nat) : Nat := tblGet (fun _ => 0) s.pmb.codes d

/-- A transaction that writes: with a packet error code that fails it is discarded (R74, R476). -/
def State.written (s : State) (code : Nat) (data : List Byte) (pec : Option Byte) (f : State → State) : State :=
  match pec with
  | none => f s
  | some b =>
    if b = pecOf ([s.addrByte 0, BitVec.ofNat 8 code] ++ data) then f s else (s.setCml 5).raise evTLM_PMB_CML 0xFFFF

/-! ### Pages and status -/

/-- PAGE: read, or written with a value of 0 to 32. -/
def execPage (v : PmbByte) (s : State) : Host.Outcome State Fault Refusal :=
  .next (s.pmbus (.page v) 0x00 fun s => match v.byte with
    | none => s.answerN 1 s.pmb.page
    | some b => s.written 0x00 [b] v.pec fun s =>
      if b.toNat ≤ 32 then s.updPmb fun p => { p with page := b.toNat } else s.badData)

/-- CLEAR_FAULTS clears the PMBus status bytes only; what is still present shows again. One whose packet error code fails is
PMBUS_INVALID_COMMAND. -/
def execClearFaults (s : State) : Host.Outcome State Fault Refusal :=
  .next (s.pmbus .clearFaults 0x03 fun s => s.updPmb fun p => { p with cml := 0, flags := [] })

/-- CAPABILITY. -/
def execCapability (s : State) : Host.Outcome State Fault Refusal := .next (s.pmbus .capability 0x19 fun s => s.answerN 1 0xA0)

/-- VOUT_MODE: linear, exponent -12. -/
def execVoutMode (s : State) : Host.Outcome State Fault Refusal := .next (s.pmbus .voutMode 0x20 fun s => s.answerN 1 0x14)

/-- Whether a status byte of the present page has something to tell. -/
def State.flagged (s : State) (cmd : Nat) : Bool := s.pmb.flags.contains (cmd, s.pmb.page)

/-- STATUS_WORD: the summary of the page's other two. The spec does not lay out its bits: which of them are set is open, and none is
where there is nothing to tell (log 128). -/
def execStatusWord (s : State) : Host.Outcome State Fault Refusal :=
  .next (s.pmbus .statusWord 0x79 fun s0 =>
    let s := s0.keepStatus s0.pmb.page
    s.answerN 2 (if s.flagged 0x7B || s.flagged 0x7D then 1 + Config.openNat 54 [s.pmb.page, s.now] % 65535 else 0))

/-- A status byte whose bits the spec does not lay out: which of them are set is open, and none is where there is nothing to tell
(log 128). -/
def State.answerStatus (s0 : State) (cmd : Nat) : State :=
  let s := s0.keepStatus s0.pmb.page
  s.answerN 1 (if s.flagged cmd then 1 + Config.openNat 55 [cmd, s.pmb.page, s.now] % 255 else 0)

/-- STATUS_IOUT: a phase at its limit or failed; for a domain, derating of a tract in force. -/
def execStatusIout (s : State) : Host.Outcome State Fault Refusal := .next (s.pmbus .statusIout 0x7B fun s => s.answerStatus 0x7B)

/-- STATUS_TEMPERATURE: warning, throttle, shutdown. -/
def execStatusTemperature (s : State) : Host.Outcome State Fault Refusal :=
  .next (s.pmbus .statusTemperature 0x7D fun s => s.answerStatus 0x7D)

/-- STATUS_CML. -/
def execStatusCml (s : State) : Host.Outcome State Fault Refusal := .next (s.pmbus .statusCml 0x7E fun s => s.answerN 1 s.pmb.cml)

/-! ### Readings -/

/-- READ_VIN, on page 0 only. -/
def execReadVin (s : State) : Host.Outcome State Fault Refusal :=
  .next (s.pmbus .readVin 0x88 fun s => if s.pmb.page = 0 then s.answerLinear 0x88 (some s.inputVoltage) else s.notAcked)

/-- READ_IIN, on page 0 only. -/
def execReadIin (s : State) : Host.Outcome State Fault Refusal :=
  .next (s.pmbus .readIin 0x89 fun s => if s.pmb.page = 0 then s.answerLinear 0x89 s.inputCurrent else s.notAcked)

/-- READ_VOUT: the IB reading, or the domain's present code, in 1/4096 V. -/
def execReadVout (s : State) : Host.Outcome State Fault Refusal :=
  .next (s.pmbus .readVout 0x8B fun s => s.answerN 2 (natOf (match s.pageDom with
    | none => divOpen 36 (s.ib.code16 * 24 * 4096 : Nat) 163840
    | some d => divOpen 36 (s.pageCode d * 4096 : Nat) 800)))

/-- READ_IOUT: I_tot, or the domain's average current. -/
def execReadIout (s : State) : Host.Outcome State Fault Refusal :=
  .next (s.pmbus .readIout 0x8C fun s => s.answerLinear 0x8C (some (match s.pageDom with
    | none => (s.ibTotal, 10)
    | some d => (s.getI (fNRG_DCUR_AVG d), 10))))

/-- READ_TEMPERATURE_1: the hottest site, of the die or of the domain's tracts. A domain without tracts has none. -/
def execReadTemperature1 (s : State) : Host.Outcome State Fault Refusal :=
  .next (s.pmbus .readTemperature1 0x8D fun s => s.answerLinear 0x8D (match s.pageDom with
    | none => some (s.pmb.hval, 16)
    | some d => if (s.tractsOf d).isEmpty then none else some (tblGet (fun _ => 0) s.pmb.temps d, 16)))

/-- READ_POUT: the measured die power, or present voltage times average current. -/
def execReadPout (s : State) : Host.Outcome State Fault Refusal :=
  .next (s.pmbus .readPout 0x96 fun s => s.answerLinear 0x96 (some (match s.pageDom with
    | none => (s.pmb.meas, 16)
    | some d => (s.pageCode d * s.getI (fNRG_DCUR_AVG d), 8000))))

/-- READ_PIN, on page 0 only. -/
def execReadPin (s : State) : Host.Outcome State Fault Refusal :=
  .next (s.pmbus .readPin 0x97 fun s =>
    if s.pmb.page = 0 then
      s.answerLinear 0x97 (s.inputCurrent.map fun c => (c.1 * s.inputVoltage.1, c.2 * s.inputVoltage.2))
    else s.notAcked)

/-! ### Identity -/

/-- A block read: its length, then its bytes. -/
def State.answerBlock (s : State) (bs : List Byte) : State := s.answer (BitVec.ofNat 8 bs.length :: bs)

/-- PMBUS_REVISION. -/
def execPmbusRevision (s : State) : Host.Outcome State Fault Refusal := .next (s.pmbus .pmbusRevision 0x98 fun s => s.answerN 1 0x33)

/-- MFR_ID: "LLYN". -/
def execMfrId (s : State) : Host.Outcome State Fault Refusal :=
  .next (s.pmbus .mfrId 0x99 fun s => s.answerBlock [0x4C, 0x4C, 0x59, 0x4E])

/-- MFR_MODEL: "PDX-8". -/
def execMfrModel (s : State) : Host.Outcome State Fault Refusal :=
  .next (s.pmbus .mfrModel 0x9A fun s => s.answerBlock [0x50, 0x44, 0x58, 0x2D, 0x38])

/-- MFR_REVISION: BLK_ID.RELEASE, low byte first. -/
def execMfrRevision (s : State) : Host.Outcome State Fault Refusal :=
  .next (s.pmbus .mfrRevision 0x9B fun s => s.answerBlock [0x01, 0x02])

/-! ### Ibsel and partitions -/

/-- Bytes written to a request area from its byte 0 on; bytes beyond them keep their values. -/
def State.writeRequest (s : State) (m : Nat) (bs : List Byte) : State :=
  let old := (upTo 16).flatMap fun j => leBytes (s.reg (MBX_REQ m j)).toNat 4
  let all := bs ++ old.drop bs.length
  (upTo 16).foldl (fun s j => s.setReg (MBX_REQ m j) (BitVec.ofNat 32 (leNat ((all.drop (4 * j)).take 4)))) s

/-- MFR_IBSEL_REQ: a request and doorbell for M7, unless M7 holds one whose response has not been read (R477). -/
def execMfrIbselReq (b : PmbBlock) (s : State) : Host.Outcome State Fault Refusal :=
  .next (s.pmbus (.mfrIbselReq b) 0xD0 fun s => s.written 0xD0 (BitVec.ofNat 8 b.bytes.length :: b.bytes) b.pec fun s =>
    if s.pmb.busy then (s.setCml 1).raise evTLM_PMB_CML 0xFFFF
    else if b.bytes.isEmpty || 64 < b.bytes.length then s.badData
    else ((s.writeRequest 7 b.bytes).updPmb fun p => { p with busy := true }).ring 7)

/-- MFR_IBSEL_RSP: the response of M7, or BUSY until there is one (R477). -/
def execMfrIbselRsp (s : State) : Host.Outcome State Fault Refusal :=
  .next (s.pmbus .mfrIbselRsp 0xD1 fun s =>
    let st := s.chanState 7
    if st = 1 || st = 2 then s.answerBlock [1]
    else
      let s1 := s.answerBlock ((s.rspWords 7).flatMap fun w => leBytes w.toNat 4)
      if st = 3 then s1 else s1.updPmb fun p => { p with busy := false })

/-- MFR_PARTITION: the bucket of MFR_PART_ENERGY, 0 to 16. -/
def execMfrPartition (v : PmbByte) (s : State) : Host.Outcome State Fault Refusal :=
  .next (s.pmbus (.mfrPartition v) 0xD2 fun s => match v.byte with
    | none => s.answerN 1 s.pmb.bucket
    | some b => s.written 0xD2 [b] v.pec fun s =>
      if b.toNat ≤ 16 then s.updPmb fun p => { p with bucket := b.toNat } else s.badData)

/-- MFR_PART_ENERGY: the accumulator of the selected bucket. -/
def execMfrPartEnergy (s : State) : Host.Outcome State Fault Refusal :=
  .next (s.pmbus .mfrPartEnergy 0xD3 fun s => s.answerBlock (leBytes (s.acc s.pmb.bucket) 8))

/-- The codes of Table 10.3. -/
def pmbCodes : List Nat :=
  [0x00, 0x03, 0x19, 0x20, 0x79, 0x7B, 0x7D, 0x7E, 0x88, 0x89, 0x8B, 0x8C, 0x8D, 0x96, 0x97, 0x98, 0x99, 0x9A, 0x9B, 0xD0, 0xD1, 0xD2, 0xD3]

/-- PMBUS_INVALID_COMMAND: a code outside Table 10.3 or not acknowledged on the page, or a transaction whose PEC fails
(R476). -/
def execPmbusInvalidCommand (f : PmbFault) (s : State) : Host.Outcome State Fault Refusal :=
  .next (s.pmbus (.pmbusInvalidCommand f) 0 fun s => match f with
    | .pec => (s.setCml 5).raise evTLM_PMB_CML 0xFFFF
    | .command code =>
      let c := code.toNat
      if !pmbCodes.contains c || (s.pmb.page ≠ 0 && (c = 0x88 || c = 0x89 || c = 0x97)) then s.notAcked else s)

end Sys2Proof.Machine
end

