-- ==== Sys2Proof/Machine/Bus.lean ====
section
/-!
DEFINITION. Reads on the two register ports (R12-R15, R54-R62, R579, R647-R653): which accesses answer, what each
register reads as, the read-only windows, and the capture pairs.
-/

namespace Sys2Proof.Machine

/-! ### Access codes (Table 0.4, R648, R654) -/

/-- The bits of each access code of a register. -/
structure Access where
  rw : Word
  rwl : Word
  w1c : Word
  w1s : Word
  deriving DecidableEq, Repr

/-- The access codes of the register at an offset; none at an unassigned offset. -/
def accessOf (off : Nat) : Option Access :=
  match commonAt off with
  | some (n, 0) => some ⟨0, 0, BitVec.ofNat 32 (statMask n), 0⟩
  | some (n, 1) => some ⟨BitVec.ofNat 32 (statMask n), 0, 0, 0⟩
  | some (n, 2) => some ⟨BitVec.ofNat 32 (sevMask n), 0, 0, 0⟩
  | some _ => some ⟨0, 0, 0, 0⟩
  | none => (findRow off).map fun p =>
      ⟨BitVec.ofNat 32 p.1.rw, BitVec.ofNat 32 p.1.rwl, BitVec.ofNat 32 p.1.w1c, BitVec.ofNat 32 p.1.w1s⟩

/-- The index of an offset in an array of registers; none where it is no register of the array. -/
def arrayIx (base stride count off : Nat) : Option Nat :=
  if base ≤ off ∧ (off - base) % stride = 0 ∧ (off - base) / stride < count then some ((off - base) / stride) else none

/-! ### Which accesses answer -/

/-- The offset answers in the present state of the block (R60, R61); from the effect of a block reset until aon_state reads
0b101 only the pages up to 0x0_2FFF do (R59). -/
def State.offAnswers (s : State) (off : Nat) : Bool :=
  !(s.aon = 4 || ((s.aon = 2 || s.aon = 3 || s.pins.inReset) && 0x3000 ≤ off))

/-- The access completes with SLVERR and no effect (R55, R60, R61, R650). -/
def State.slverr (s : State) : State := { s with bus := { slverr := true, data := 0 } }

/-- The access completes with OKAY. -/
def State.okay (s : State) (data : Word) : State := { s with bus := { slverr := false, data := data } }

/-! ### What registers read as -/

/-- A register as it reads: those that show a computed figure, else what it holds. -/
def State.readReg (s : State) (off : Nat) : Word :=
  if off = FLT_SUM then BitVec.ofNat 32 s.faultSum
  else if off = IBS_STATE then BitVec.ofNat 32 s.ibStateWord
  else if off = IBS_OFS then BitVec.ofNat 32 s.dieOffset
  else if off = SO_LOAD then BitVec.ofNat 32 s.soLoadWord
  else if off = ENV_OUT then s.envOutWord
  else if off = TRC_ENG then s.engWord
  else if off = ADC_STATE then setBits (s.reg off) 3 1 (b2n s.service)
  else if off = TRV_TIME_LO then s.ts.setWidth 32
  else match arrayIx (TRC_TSTAT 0) 32 64 off with
    | some t => BitVec.ofNat 32 (s.tstatWord t)
    | none => match arrayIx (CG_TSTAT 0) 16 64 off with
      | some t => BitVec.ofNat 32 (s.cgWord t)
      | none => match arrayIx (SO_TRK_STAT 0) 16 64 off with
        | some t => BitVec.ofNat 32 (s.soTrkWord t)
        | none => match arrayIx (DOM_DSTAT 0) 4 32 off with
          | some d => BitVec.ofNat 32 (s.dstatWord d)
          | none => match arrayIx (CAP_DGRADE 0) 4 32 off with
            | some d => setBits (s.reg off) 8 4 (s.effGrade d)
            | none => match arrayIx (TRC_DUTY 0) 32 64 off with
              | some t => BitVec.ofNat 32 (s.dutyNow t)
              | none => s.reg off

/-- What a read of a capture pair's LO register copies for its HI register (R458, R652). -/
def State.capture (s : State) (off : Nat) : State :=
  if off = TRV_TIME_LO then s.setReg TRV_TIME_HI ((s.ts >>> 32).setWidth 32)
  else match arrayIx (NRG_PART_LO 0) 8 17 off with
    | some b => s.setReg (NRG_PART_HI b) (BitVec.ofNat 32 (s.acc b / 2 ^ 32))
    | none => match arrayIx (NRG_WTS_LO 0) 16 8 off with
      | some w => s.setReg (NRG_WTS_HI w) (BitVec.ofNat 32 (tblGet (fun _ => 0) s.nrg.wts w / 2 ^ 32))
      | none => s

/-! ### The windows (R564, R565, R612, R653) -/

/-- The byte address in BOOK memory of an offset of the book and log windows; none where the offset reads 0. -/
def bookAddr (x : Nat) : Option Nat :=
  if x < 0x2000 then (if x / 256 < 22 ∧ x % 256 < 128 then some x else none)
  else if x < 0x2000 + 16 * 7680 then some x else none

/-- A window read of memory `k` at byte `a`: SLVERR while the memory is not on and for a word with an uncorrectable error,
which is counted, as a corrected one is (R565, R611, R653). -/
def State.windowRead (s : State) (k a : Nat) : State :=
  if s.memPower k ≠ 2 then s.slverr
  else if s.memBad k a 4 then (((s.addSat (fMEM_MSTAT_UNCORR k) 1).raiseD evMEM_UNCORR k (a / 8 * 8))).slverr
  else (s.corrects k a 4).okay (BitVec.ofNat 32 (memLE (s.memory k) a 4))

/-- A read in the read-only pages from 0x8_0000. -/
def State.readWindow (s : State) (off : Nat) : State :=
  if off < 0xA0000 then
    match bookAddr (off - 0x80000) with
    | some a => s.windowRead 4 a
    | none => if s.memPower 4 ≠ 2 then s.slverr else s.okay 0
  else if off < 0xB0000 then s.windowRead 5 (off - 0xA0000)
  else s.okay 0

/-- The tract, set and word of an offset of the coefficient window (Table 3.4). -/
def coefWindow (off : Nat) : Option (Nat × Nat × Nat) :=
  if 0x28000 ≤ off ∧ off < 0x29000 then
    some ((off - 0x28000) / 64, (off - 0x28000) / 32 % 2, (off - 0x28000) / 4 % 8) else none

/-- An access through the coefficient window, by the host or the core (R186, R187). -/
def State.coefAccess (s : State) (core : Bool) (off t set j : Nat) (wr : Option Word) : State :=
  let denied : Bool := core && wr.isSome && !s.on fCAD_FWPERM_COEF
  let s0 := if denied then s.raiseD evCAD_FW_DENIED 0xFFFF off else s
  let p := s0.windowAccess core t set j wr
  match p.2 with
  | none => p.1.slverr
  | some w => p.1.okay (if wr.isSome then 0 else w)

/-! ### A read -/

/-- A read on a port (R54-R61, R650). -/
def State.busRead (s : State) (core : Bool) (off : Nat) : State :=
  if !s.portOpen core then s
  else if !s.offAnswers off || off % 4 ≠ 0 then s.slverr
  else if 0xC0000 ≤ off then s.okay 0
  else if 0x80000 ≤ off then s.readWindow off
  else match coefWindow off with
    | some (t, set, j) => s.coefAccess core off t set j none
    | none => if isRegister off then (s.capture off).okay (s.readReg off) else s.okay 0

/-- CAPTURE_READ: a read on a port, which captures the upper half where it is of a capture pair (R652). -/
def execCaptureRead (p : Port) (off : Nat) (s : State) : Host.Outcome State Fault Refusal :=
  .next (s.busRead (p = .core) (off % 2 ^ 20))

end Sys2Proof.Machine
end

