-- ==== Sys2Proof/Machine/Block.lean ====
section
/-!
DEFINITION. The block as a whole: power-on reset, block reset, host power and AXI reset, the reference clock, the test
wrapper, Benchmark calibration, the memories' ownership, power and background test, and the loader port (chapters 1, 14, 15).
-/

namespace Sys2Proof.Machine

/-! ### Boot state and memories changed -/

def State.updBoot (s : State) (f : BootHid → BootHid) : State := { s with boot := f s.boot }
def State.updMem (s : State) (f : MemHid → MemHid) : State := { s with mem := f s.mem }

/-- PLAT_STATE.PHASE changed; a write that depends on it sees the change from the next cycle on (R633, R640). -/
def State.setPhase (s : State) (n : Nat) : State :=
  { s.put fPLAT_STATE_PHASE n with cyc := { s.cyc with phaseAt := s.now + 1 } }

/-- PHASE as a write of this cycle finds it: `n`, and not only since this cycle. -/
def State.phaseStood (s : State) (n : Nat) : Bool := s.get fPLAT_STATE_PHASE = n && s.cyc.phaseAt ≠ s.now + 1

/-! ### Power-on reset (R79, R603, R620) -/

/-- POWER_ON_RESET: VBLK below 1.40 V resets everything; the levels of pins and of host-die ports are not the block's. -/
def execPowerOnReset (s : State) : Host.Outcome State Fault Refusal :=
  .next { State.reset with
    pending := s.pending
    now := s.now
    pins := { hostPwrgd := s.pins.hostPwrgd, wakeN := s.pins.wakeN, loaded := s.pins.loaded, wrapper := s.pins.wrapper, port := s.pins.port, wso := s.pins.wso
              aonAt := s.now, fellAt := s.now, extLow := s.pins.extLow }
    cap := { throttle := s.cap.throttle }
    clk := { syncLost := s.clk.syncLost, backAt := s.clk.backAt } }

/-- VBLK has been above 1.50 V for 100 us: it rose at `riseAt`, after it had fallen (R79). -/
def State.porOver (s : State) (riseAt : Nat) : Bool := s.por && s.pins.fellAt ≤ riseAt && riseAt + 100000 ≤ s.now

/-- POR_RELEASE: 100 us after VBLK first rose above 1.50 V Monument starts, aon_state reads 0b101 and the IB soft-starts from
its reading to the stored value of the accepted VSEL setting; a pin that has been held active counts as active from now on (R79,
R304, R323, R355, R445, R620). -/
def execPorRelease (rise : VblkRise) (vsel : Fin 8) (s : State) : Host.Outcome State Fault Refusal :=
  .next (if s.porOver rise.riseAt then
      let s1 := { s with por := false, pst := { s.pst with wakeNFrom := if s.pins.wakeN then some s.now else none }, cap := { s.cap with thrFrom := if s.cap.throttle then some s.now else none } }
      ((s1.put fIBS_STATE_VSEL vsel.val).applyVsel vsel.val).ibSoftStart rise.ibUv
    else s)

/-! ### Block reset (R49, R603, R607, R624, R655) -/

/-- A block reset begins: every domain stops under R97 with its stop delay skipped. -/
def State.beginBlockReset (s : State) : State :=
  if s.core.blockReset then s
  else
    let s1 := { s with core := { s.core with blockReset := true } }.putB fBLK_RST_BLOCK true
    let stop (s : State) (d : Nat) : State :=
      if s.domState d ≤ 1 || (s.dom d).phase = .stopRamp then s else (s.beginOff d .stopRamp).beginStopRamp d
    (upTo 32).foldl stop s1

/-- A host write of BLK_RST.BLOCK, refused with a compute domain moving or On, or outside Run and Idle. -/
def State.requestBlockReset (s : State) : State :=
  let busy (d : Nat) : Bool := s.classOf d = 0 && (s.domState d = 3 || s.domState d = 4 || s.domState d = 5)
  if (upTo 32).any busy || !s.runOrIdle then s.raise evBLK_RST_REFUSED 0xFFFF else s.beginBlockReset

/-- AON_RST_REQ: a synchronised rise of aon_rst_req, never refused. -/
def execAonRstReq (s : State) : Host.Outcome State Fault Refusal := .next (if s.por then s else s.beginBlockReset)

/-- What a block reset makes of an IB phase: its admission is kept, a latch is not (Table 14.8). -/
def phaseAfterReset (m : Nat) : Nat := if m = 7 ∨ m = 0 then 1 else m

/-- The IB stage kept up under Monument through a block reset: hysteretic, in its soft start with the retries that has left, or back from
keep-alive; after an IB failure it soft-starts anew. The reference goes on from where it is (R330, R359). `old` is the block
before the reset. -/
def State.ibAfterReset (s old : State) : State :=
  let o := old.moveRef
  let soft : Bool := old.ibMode = 1
  let s1 := (upTo 16).foldl (fun s p => s.setP p (phaseAfterReset (old.pMode p))) s
  let s2 := (s1.setReg IBS_TGT (o.reg IBS_TGT)).put fIBS_STATE_VSEL (old.get fIBS_STATE_VSEL)
  let s3 := (s2.put fIBS_STATE_MODE old.ibMode).updIb fun _ =>
    { refUv := o.ib.refUv, refAt := o.ib.refAt, ramping := o.ib.ramping
      vselForce := old.ib.vselForce, code16 := old.ib.code16, code17 := old.ib.code17, codes16 := old.ib.codes16
      shift := old.ib.shift, shiftAt := old.ib.shiftAt, admitAt := max old.ib.admitAt old.now, gridSet := old.ib.gridSet, periodAt := old.ib.periodAt
      kaPhase := old.ib.kaPhase, kaVka := old.ib.kaVka, kaTon := old.ib.kaTon, kaBand := old.ib.kaBand
      ssTries := if soft then old.ib.ssTries else 0, ssWait := old.ib.ssWait, ssFrom := old.ib.ssFrom, ssAt := old.ib.ssAt }
  let s4 := s3.applyVsel old.ib.vselForce
  match old.ibMode with
  | 0 => s4.ibSoftStart (Config.openNat 56 [old.now])
  | 4 => s4.leaveKeepAlive
  | 1 => s4.hysModes
  | _ => s4.ibHysteretic

/-- The reset of Table 14.8 in the block scope: the PST_ and MON_ pages, the calibration trims, the timestamp, the clocks and
the levels of pins are kept. -/
def State.blockReset (s : State) : State :=
  let cal : Bool := s.on fPLAT_STATE_BMDONE || s.aon = 4
  let s1 := s.clearBooks.resetRegs fun off => !(0x2000 ≤ off && off < 0x2800)
  let s2 : State := { s1 with
    fw := [], dat := [], coef := [], plan := [], book := [], tele := []
    mem := {}, chans := [], core := {}
    boot := { bmTrim := s.boot.bmTrim, bmDue := s.boot.bmDue }
    pins := { s.pins with pulseDue := 0, inReset := s.pins.aonOut ≠ 5 }
    trv := { started := s.trv.started }, cells := [], stns := [], tracts := [], loops := {}, doms := []
    cg := { staggerAt := s.cg.staggerAt, gateHold := s.cg.gateHold }
    env := {}, so := s.so.closed, nrg := {}, pmb := {}
    cap := { throttle := s.cap.throttle, thrFrom := s.cap.thrFrom, thrOn := s.cap.thrOn }
    pst := {
      wakeNFrom := s.pst.wakeNFrom, stuckOn := s.pst.stuckOn, pmbus := s.pst.pmbus
      monRun := s.pst.monRun, monNo := s.pst.monNo, monHot := s.pst.monHot, monSeen := s.pst.monSeen }
    adc := { bmAt := s.adc.bmAt, msNo := s.adc.msNo }
    thm := { untrimmed := s.thm.untrimmed, tcal := s.thm.tcal } }
  let s3 := (s2.putB fADC_STATE_BM_RDY (s.on fADC_STATE_BM_RDY)).restoreTcal
  let s4 := if cal then
      ((s3.setReg PLAT_BM s.boot.bmTrim).putB fPLAT_STATE_BMDONE true).setPhase 1
    else s3
  ((s4.ibAfterReset s).setAon 5).putB fPST_STATE_ENTERING false

/-- BLOCK_RESET_EFFECT: every SS_DONE has cleared; the reset takes effect, and aon_state goes to 0b101 (R50, R59, R607). -/
def execBlockResetEffect (s : State) : Host.Outcome State Fault Refusal :=
  .next (if s.core.blockReset && (upTo 256).all fun c => !s.on (fCEL_CSTAT_SS_DONE c) then s.blockReset else s)

/-! ### The host die and the AXI interfaces (R51, R52, R62, R655) -/

/-- HOST_PWRGD_FALL: outstanding transactions are abandoned; plan reads in flight are failed fetches. -/
def execHostPwrgdFall (s : State) : Host.Outcome State Fault Refusal :=
  let s1 := { s with pins := { s.pins with hostPwrgd := false } }
  .next (if s.por || !s.pins.hostPwrgd then s1 else ({ s1 with bus := {} }.abandonReads).failWaiting.abandonWrites)

/-- HOST_PWRGD_RISE: the ports from the host die are served again; a tract whose forced pause ends with a pending count
makes a burst start (R51, R248). -/
def execHostPwrgdRise (s : State) : Host.Outcome State Fault Refusal :=
  let s1 := { s with pins := { s.pins with hostPwrgd := true } }
  .next (if s.pins.hostPwrgd then s else s1.forcedEnds ((upTo 64).filter fun t => !s1.forcedPause t))

/-- AXI_RESET: axi_aresetn resets the state of both AXI interfaces only. -/
def execAxiReset (s : State) : Host.Outcome State Fault Refusal :=
  .next (if s.por then s else { s with bus := {} }.abandonReads.abandonWrites)

/-! ### The reference clock (R18, R19, R332) -/

/-- SYNC_IN_LOSS: the PLL moves to the internal fast oscillator, the die loses its phase relation to the others, and the
loss is reported at severity degrading, code 2; no status bit of the spec carries the report (R18; DESIGN CHOICE,
notes/assumptions/34.md). SYNC_IN lost again before the PLL is back on it starts the 100 us anew (R19). -/
def execSyncInLoss (s : State) : Host.Outcome State Fault Refusal :=
  .next (if s.clk.syncLost then { s with clk := { s.clk with backAt := none } }
    else
      let c := { s.clk with
        syncLost := true, aligned := s.clk.aligned || s.on fIBS_STATE_ALIGNED, report := some (2, s.now), backAt := none, slewing := false }
      { s with clk := c }.putB fIBS_STATE_ALIGNED false)

/-- The next boundary of the IB periods, this instant included (R331). -/
def State.nextPeriod (s : State) : Nat :=
  s.ib.periodAt + ceilN (s.now - s.ib.periodAt) 2000 * 2000

/-- The PLL returns to SYNC_IN at an IB period boundary: the offsets of the cells and of the IB phases stand apart from their
programmed values by amounts that the spec does not state, and slew back (R19; DESIGN CHOICE, notes/assumptions/110.md). -/
def State.syncBack (s : State) : State :=
  match s.clk.backAt with
  | none => s
  | some a =>
    if a ≤ s.now then
      let s1 : State := { s with
        clk := { s.clk with syncLost := false, backAt := none, slewing := true }
        ib := { s.ib with shift := Config.openNat 65 [s.now] % 64, shiftAt := s.now } }
      forEach (upTo 256) (fun c s => s.put (fCEL_CFG_APPLIED c) ((s.get (fCEL_CFG_OFFSET c) + Config.openNat 64 [s.now]) % 64)) s1
    else s

/-- While offsets slew back, those of the IB phases move by 1/64 period per 1 us, the shorter way; once every offset stands at
its programmed value, a die that was aligned is so again (R19, R332). The cells' offsets move by PHASE_OFFSET_STEP. -/
def State.slewBack (s : State) : State :=
  if !s.clk.slewing then s
  else
    let due : Bool := s.ib.shift ≠ 0 && s.ib.shiftAt + 1000 ≤ s.now
    let s1 := if due then
        s.updIb fun h => { h with shift := if h.shift ≤ 32 then h.shift - 1 else (h.shift + 1) % 64, shiftAt := s.now }
      else s
    if s1.ib.shift = 0 && (upTo 256).all fun c => s1.get (fCEL_CFG_APPLIED c) = s1.get (fCEL_CFG_OFFSET c) then
      let s2 := { s1 with clk := { s1.clk with slewing := false, aligned := false } }
      if s.clk.aligned then s2.putB fIBS_STATE_ALIGNED true else s2
    else s1

/-- SYNC_IN_RETURN: SYNC_IN has been present for 100 us; the PLL returns to it at the next IB period boundary (R19). -/
def execSyncInReturn (s : State) : Host.Outcome State Fault Refusal :=
  .next (if !s.clk.syncLost || s.clk.backAt.isSome then s
    else { s with clk := { s.clk with backAt := some s.nextPeriod } }.syncBack)

/-! ### The test wrapper (R81-R83) -/

/-- An instruction loaded through the serial port: WRSTN low holds the wrapper in reset, with WS_BYPASS loaded (PRESUMED,
notes/assumptions/33.md), and WS_BYPASS is executed whatever is loaded while aon_test_en is low. What WSO shows is open. -/
def State.wrap (s : State) (p : WrapperPort) (n : Nat) : State :=
  let m := if p.wrstn then n else 0
  { s with pins := { s.pins with
      loaded := m, wrapper := if p.testEn then m else 0, port := p, wso := decide (Config.openNat 66 [s.now, m] % 2 = 1) } }

/-- WS_BYPASS, WS_EXTEST, WS_INTEST and WS_MBIST. -/
def execWsBypass (port : WrapperPort) (s : State) : Host.Outcome State Fault Refusal := .next (s.wrap port 0)
def execWsExtest (port : WrapperPort) (s : State) : Host.Outcome State Fault Refusal := .next (s.wrap port 1)
def execWsIntest (port : WrapperPort) (s : State) : Host.Outcome State Fault Refusal := .next (s.wrap port 2)
def execWsMbist (port : WrapperPort) (s : State) : Host.Outcome State Fault Refusal := .next (s.wrap port 3)

/-! ### Benchmark calibration (R85, R621-R623) -/

/-- The trim of Benchmark in steps of 50 uV before saturation. -/
def benchTrim (datumUv bandgapUv untrimmedUv : Nat) : Int :=
  roundHalfUp ((if 1140000 ≤ datumUv ∧ datumUv ≤ 1260000 then (datumUv : Int) else bandgapUv) - untrimmedUv) 50

/-- BENCHMARK_CAL_DONE: 2 ms after the IB soft start ended Benchmark is trimmed, and the block accepts a plat. -/
def execBenchmarkCalDone (datumUv bandgapUv untrimmedUv : Nat) (s : State) : Host.Outcome State Fault Refusal :=
  .next (match s.boot.bmDue with
    | none => s
    | some a =>
      if a ≤ s.now then
        let present : Bool := 1140000 ≤ datumUv && datumUv ≤ 1260000
        let x := benchTrim datumUv bandgapUv untrimmedUv
        let t := clampI (-512) 511 x
        let w := BitVec.ofNat 32 (b2n present * 2 ^ 16 + unsigned 10 t)
        let s1 := (s.updBoot fun b => { b with bmDue := none, bmTrim := w }).setReg PLAT_BM w
        let s2 := (s1.putB fPLAT_STATE_BMDONE true).setPhase 1
        let s3 := s2.raiseIf (!present) evPLAT_DATUM_ABSENT 0xFFFF
        s3.raiseIf (t ≠ x) evPLAT_BM_RANGE 0xFFFF
      else s)

/-! ### Memory ownership (R613, R628, Table 14.9) -/

/-- Whether an owner code is permitted for a memory in the present state. -/
def State.ownerAllowed (s : State) (k o : Nat) : Bool :=
  match k with
  | 0 | 1 => o = 0 || (o = 5 && s.on fBLK_CORE_HOLD)
  | 2 => o = 1 || (o = 5 && !s.locked)
  | 3 => o = 2 || (o = 0 && !s.on fSO_CTL_EN)
  | 4 => o = 3 || o = 0
  | _ => o = 4 || o = 0

/-- The owner field of a memory set. -/
def State.setOwner (s : State) (k o : Nat) : State := s.setReg MEM_OWNER (setBits (s.reg MEM_OWNER) (3 * k) 3 o)

/-- An owner asked for by a write; a field written as it is changes nothing. -/
def State.giveMem (s : State) (k o : Nat) : State :=
  if o = s.memOwner k then s
  else if s.ownerAllowed k o then s.setOwner k o
  else s.raise evMEM_REFUSED k

/-- A write of MEM_OWNER, field by field. -/
def State.writeOwners (s : State) (v : Word) : State := forEach (upTo 6) (fun k s => s.giveMem k (bitsAt v (3 * k) 3)) s

/-! ### Memory power (R615, R616) -/

/-- Whether a memory may leave on. -/
def State.mayUnpower (s : State) (k : Nat) : Bool :=
  match k with
  | 0 | 1 => s.on fBLK_CORE_HOLD
  | 2 => (upTo 32).all fun d => s.domState d ≤ 1
  | 3 => !s.on fSO_CTL_EN
  | _ => true

/-- The power field of a memory set. -/
def State.setPower (s : State) (k x : Nat) : State := s.setReg MEM_PWR (setBits (s.reg MEM_PWR) (2 * k) 2 x)

/-- The contents of a memory lost: it reads zero, with valid check bits, once it is on again. -/
def State.loseMem (s : State) (k : Nat) : State := (s.setMemory k []).markAllGood k

/-- A power state asked for by a write; a field written as it is changes nothing. -/
def State.powerMem (s : State) (k x : Nat) : State :=
  let cur := s.memPower k
  if x = cur then s
  else if x = 3 || (cur = 2 && !s.mayUnpower k) then s.raise evMEM_REFUSED k
  else if x = 2 then (if tblGet (fun _ => 0) s.mem.upDue k = 0 then s.powerUp k (if cur = 1 then 10000 else 100000) else s)
  else
    let s1 := (s.updMem fun m => { m with upDue := tblSet (fun _ => 0) m.upDue k 0 }).setPower k x
    if x = 0 then s1.loseMem k else s1

/-- A write of MEM_PWR, field by field. -/
def State.writePowers (s : State) (v : Word) : State := forEach (upTo 6) (fun k s => s.powerMem k (bitsAt v (2 * k) 2)) s

/-- MEM_POWER_UP_DONE: a memory is on, within 10 us from retention or, filled with zero words, within 100 us from off. -/
def execMemPowerUpDone (k : Fin 6) (s : State) : Host.Outcome State Fault Refusal :=
  .next (if tblGet (fun _ => 0) s.mem.upDue k = 0 then s
    else (s.updMem fun m => { m with upDue := tblSet (fun _ => 0) m.upDue k 0 }).setPower k 2)

/-! ### Background test (R617, R618) -/

/-- What a word whose cells have failed the march reads as once its saved contents are restored: as saved, corrected, or uncorrectable
(R611, R618). The errors of a coefficient set come with its reads. -/
def State.defect (s : State) (k w : Nat) : Ecc → State
  | .clean => s
  | .corrected _ => if k = 2 then s else s.markWeak k w
  | .uncorrectable => s.markBad k w

/-- MEM_TEST_REGION: the next region of a memory is tested, or skipped for want of idle cycles; `fails` are the words of the
region that fail the march, each with what the check code finds in it afterwards. Contents stay as they were saved. -/
def execMemTestRegion (k : Fin 6) (idle : Bool) (fails : List (Nat × Ecc)) (s : State) : Host.Outcome State Fault Refusal :=
  let due := tblGet (fun _ => 0) s.mem.testAt k + 1000000 * s.get fMEM_TEST_INTERVAL
  .next (if s.runOrIdle && bitN (s.get fMEM_TEST_EN) k && s.memPower k = 2 && due ≤ s.now then
      let s1 := s.updMem fun m => { m with testAt := tblSet (fun _ => 0) m.testAt k s.now }
      let n := tblGet (fun _ => 0) s.mem.skips k
      if idle then
        let r := s.get (fMEM_MSTAT_NEXT k)
        let s2 := s1.updMem fun m => { m with skips := tblSet (fun _ => 0) m.skips k 0 }
        let bad := fails.filter fun f => f.1 < 32
        let s3 := bad.foldl (fun s f => (s.defect k (32 * r + f.1) f.2).raiseD evMEM_TEST_FAIL k (256 * r + 8 * f.1)) s2
        s3.put (fMEM_MSTAT_NEXT k) ((r + 1) % (memSize k / 256))
      else
        let s2 := s1.updMem fun m => { m with skips := tblSet (fun _ => 0) m.skips k (min 16 (n + 1)) }
        s2.raiseIf (n = 15) evMEM_TEST_SKIP k
    else s)

/-! ### The loader port (R625-R627) -/

/-- The cases of R627. -/
def State.loaderRefuses (s : State) (k w : Nat) : Bool :=
  s.memOwner k ≠ 5 || decide (memSize k ≤ 8 * w)
    || (k = 1 && ((0x6600 ≤ w && w < 0x6800) || (0x6800 ≤ w && s.locked)))

/-- A write of PLAT_LDATA_LO: the low half is held. -/
def State.loadLow (s : State) (v : Word) : State :=
  (s.setReg PLAT_LDATA_LO v).updBoot fun b => { b with ldLow := v, ldHeld := true }

/-- A write of PLAT_LDATA_HI: the whole word is stored with fresh check bits and WORD advances, or the write is refused. -/
def State.loadHigh (s : State) (v : Word) : State :=
  let k := s.get fPLAT_LADDR_MEM
  let w := s.get fPLAT_LADDR_WORD
  let low : Word := if s.boot.ldHeld then s.boot.ldLow else 0
  let s1 := s.updBoot fun b => { b with ldLow := 0, ldHeld := false }
  if s.loaderRefuses k w then s1.raise evPLAT_SEQ_REFUSED 0xFFFF
  else
    let s2 := s1.setReg PLAT_LDATA_HI v
    let s3 := if s.memPower k = 2 then
        (s2.setMemory k (memPutLE (s2.memory k) (8 * w) (low.toNat + 2 ^ 32 * v.toNat) 8)).markGood k w
      else s2
    s3.put fPLAT_LADDR_WORD ((w + 1) % 65536)

/-! ### PLAT_CTL.GO and BLK_CORE (R580, R602, R606, R633, R640) -/

/-- A write of 1 to PLAT_CTL.GO. -/
def State.platGo (s : State) : State :=
  if s.phaseStood 1 || s.get fPLAT_STATE_PHASE = 5 then
    (s.put fPLAT_STATE_PHASE 2).updBoot fun b => { b with checkDue := some (s.now + 1500000) }
  else s.raise evPLAT_SEQ_REFUSED 0xFFFF

/-- A host write of BLK_CORE.HOLD: 0 starts the firmware check, 1 holds the core in reset. -/
def State.writeCoreHold (s : State) (hold : Bool) : State :=
  if s.on fBLK_CORE_HOLD then
    if hold then s.updBoot fun b => { b with fwDue := none }
    else if !s.phaseStood 4 then s.raise evPLAT_SEQ_REFUSED 0xFFFF
    else if s.boot.fwDue.isSome then s
    else s.updBoot fun b => { b with fwDue := some (s.now + 200000) }
  else if hold then (s.putB fBLK_CORE_HOLD true).coreReset false
  else s

/-- A firmware write of BLK_CORE: READY and CLK; CLK cannot be 1 while the PLL is not locked. -/
def State.writeCoreOwn (s : State) (v : Word) : State :=
  (s.putB fBLK_CORE_READY (bitsAt v 3 1 = 1)).putB fBLK_CORE_CLK (bitsAt v 1 1 = 1 && s.clk.pll)

end Sys2Proof.Machine
end

