-- ==== Sys2Proof/Machine/FaultPin.lean ====
section
/-!
DEFINITION. The events of the fault pin (chapter 13): the end of its pulse, and its level sampled against the drive.
-/

namespace Sys2Proof.Machine

/-- FAULT_PULSE_END: the pulse timer expires and the pin is released unless HOLD is 1 (R570). -/
def execFaultPulseEnd (s : State) : Host.Outcome State Fault Refusal :=
  .next (if s.on fFLT_PIN_PULSE && s.pins.pulseDue ≤ s.now then (s.putB fFLT_PIN_PULSE false).driveFault else s)

/-- FAULT_N_MISMATCH: for 2 cycles the pin has read `level`, which while the block does not drive it is what others make of it; the event is the beginning of a level against the block's drive
(R573, R656). -/
def execFaultNMismatch (level : Bool) (s : State) : Host.Outcome State Fault Refusal :=
  let drive := s.on fFLT_PIN_DRIVE
  let s1 := { s.putB fFLT_PIN_LEVEL level with pins := { s.pins with extLow := if drive then s.pins.extLow else !level } }
  .next (if level = drive && s.on fFLT_PIN_LEVEL ≠ level then
      (if drive then s1.raise evFLT_DRIVE 0xFFFF else s1.raise evFLT_EXT_LOW 0xFFFF)
    else s1)

/-- A write of FLT_PIN.HOLD: 0 releases the pin at the end of any pulse, 1 drives it low without one (R571). -/
def State.writeHold (s : State) (b : Bool) : State := (s.putB fFLT_PIN_HOLD (b || s.cyc.trigAt = s.now + 1)).driveFault

end Sys2Proof.Machine
end

