-- ==== Sys2Proof/Machine/Writes.lean ====
section
/-!
DEFINITION. Writes on the two register ports (R13-R16, R54-R62, R579-R589, R593, R638, R647-R653): which fields take a write, what
is stored, and what a write does; and the commands that are writes of one register.
-/

namespace Sys2Proof.Machine

/-! ### What is stored -/

/-- A field whose written value is limited to a range, in each register of an array. -/
structure Clamp where
  base : Nat
  count : Nat
  stride : Nat
  lo : Nat
  width : Nat
  least : Nat
  most : Nat
  deriving DecidableEq, Repr

/-- The limits of the first half of the register map: PLAT_, MON_, FLT_, CEL_, STN_, SO_, CG_, ENV_ and DOM_. -/
def clamps1 : List Clamp := [
  ⟨PLAT_FWLEN, 1, 4, 0, 20, 4, 524288⟩,
  ⟨MON_RULE 0, 16, 8, 8, 8, 1, 255⟩,
  ⟨FLT_CFG, 1, 4, 8, 8, 5, 255⟩,
  ⟨CEL_CTL, 1, 4, 0, 8, 10, 102⟩,
  ⟨CEL_SHARE_CFG, 1, 4, 8, 8, 0, 30⟩,
  ⟨CEL_DSTART 0, 32, 4, 10, 9, 5, 500⟩,
  ⟨CEL_DSTART 0, 32, 4, 19, 8, 1, 255⟩,
  ⟨CEL_DSTOP 0, 32, 4, 10, 9, 5, 500⟩,
  ⟨STN_THR 0, 64, 16, 0, 7, 8, 64⟩,
  ⟨SO_CFG, 1, 4, 16, 8, 1, 255⟩,
  ⟨CG_CFG, 1, 4, 8, 8, 8, 255⟩,
  ⟨CG_CFG, 1, 4, 0, 8, 1, 255⟩,
  ⟨CG_INRUSH, 1, 4, 23, 9, 2, 256⟩,
  ⟨CG_TRK 0, 64, 16, 0, 9, 2, 256⟩,
  ⟨ENV_CFG, 1, 4, 16, 8, 1, 255⟩,
  ⟨ENV_CFG, 1, 4, 8, 8, 1, 100⟩,
  ⟨ENV_CFG, 1, 4, 0, 8, 1, 100⟩,
  ⟨DOM_GCFG, 1, 4, 0, 8, 1, 255⟩]

/-- The limits of the second half: IBS_, THM_, CAP_, NRG_, TLM_, ADC_ and MEM_. -/
def clamps2 : List Clamp := [
  ⟨IBS_VSEL 0, 8, 4, 0, 11, 1200, 1680⟩,
  ⟨IBS_SS, 1, 4, 24, 8, 1, 255⟩,
  ⟨IBS_SS, 1, 4, 16, 8, 1, 255⟩,
  ⟨IBS_SS, 1, 4, 0, 16, 50, 2000⟩,
  ⟨IBS_LIM, 1, 4, 8, 8, 30, 255⟩,
  ⟨IBS_SHED, 1, 4, 4, 4, 1, 15⟩,
  ⟨IBS_SHED, 1, 4, 0, 4, 1, 15⟩,
  ⟨IBS_SHARE, 1, 4, 8, 8, 0, 30⟩,
  ⟨THM_TCFG, 1, 4, 16, 5, 1, 31⟩,
  ⟨THM_TCFG, 1, 4, 0, 5, 1, 31⟩,
  ⟨THM_RATE, 1, 4, 0, 8, 1, 255⟩,
  ⟨THM_CFG, 1, 4, 0, 8, 4, 255⟩,
  ⟨CAP_DIE, 1, 4, 0, 16, 0, 15200⟩,
  ⟨CAP_DIE, 1, 4, 16, 16, 0, 17120⟩,
  ⟨CAP_AGE, 1, 4, 16, 8, 1, 255⟩,
  ⟨CAP_CFG, 1, 4, 0, 8, 0, 100⟩,
  ⟨CAP_CLS 0, 3, 4, 0, 8, 0, 100⟩,
  ⟨CAP_LEAK 0, 32, 4, 16, 8, 1, 255⟩,
  ⟨NRG_SET, 1, 4, 24, 8, 0, 50⟩,
  ⟨NRG_SET, 1, 4, 8, 8, 1, 255⟩,
  ⟨NRG_SET, 1, 4, 0, 8, 1, 255⟩,
  ⟨TLM_COUNT, 1, 4, 0, 16, 1, 65535⟩,
  ⟨ADC_CALCMD, 1, 4, 0, 6, 0, 47⟩,
  ⟨MEM_TEST, 1, 4, 0, 8, 1, 255⟩]

/-- A word limited by one entry. -/
def Clamp.apply (c : Clamp) (off : Nat) (v : Word) : Word :=
  if (arrayIx c.base c.stride c.count off).isSome then setBits v c.lo c.width (clampN c.least c.most (bitsAt v c.lo c.width)) else v

/-- A word for a register, each field limited on its own. -/
def limitFields (off : Nat) (v : Word) : Word := (clamps1 ++ clamps2).foldl (fun w c => c.apply off w) v

/-- The form in which a word of IBS_COEF is stored: its SIGN bits show the sign of COEF (Table 3.7). -/
def coefForm (off : Nat) (v : Word) : Word :=
  if IBS_COEF 0 ≤ off && off ≤ IBS_COEF 7 then coefNorm ((off - IBS_COEF 0) / 4) v else v

/-- Limits in which a field depends on another of the same write (Table 2.7, R324, R366, R349, R417, R436). -/
def limitPairs (imax off : Nat) (v : Word) : Word :=
  if off = CEL_LL then setBits v 16 8 (max (bitsAt v 16 8) (min 255 (bitsAt v 8 8 + 20)))
  else if off = IBS_CTL then (if bitsAt v 0 2 = 3 then setBits v 0 2 0 else v)
  else if off = IBS_LIM then
    let i := min imax (bitsAt v 24 8)
    setBits (setBits v 24 8 i) 16 8 (max (bitsAt v 16 8) (min 255 (i + 5)))
  else if off = IBS_SHED then setBits v 16 8 (max (bitsAt v 16 8) (min 255 (bitsAt v 24 8 + 5)))
  else if off = CAP_DIE then setBits v 16 16 (max (bitsAt v 16 16) (bitsAt v 0 16))
  else match arrayIx (CAP_CLS 0) 4 3 off with
    | some _ =>
      let g := bitsAt v 8 9
      setBits v 8 9 (if g = 1 then 2 else min 256 g)
    | none => v

/-- What a write stores in a register. -/
def State.limited (s : State) (off : Nat) (v : Word) : Word :=
  coefForm off (limitPairs (s.get fCAD_IBPH_IMAX) off (limitFields off v))

/-! ### What writes do, by block -/

/-- A write in the BLK_ page; `core` tells the firmware port (R580, R600, R604-R608, R640). -/
def State.storeBlk (s : State) (core : Bool) (off : Nat) (v : Word) : State :=
  if off = BLK_RST then
    let s1 := if bitsAt v 1 1 = 1 then s.coreReset false else s
    let s2 := if bitsAt v 2 1 = 1 && !core then s1.requestBlockReset else s1
    if bitsAt v 0 1 = 1 && !core then s2.ifaceReset else s2
  else if off = BLK_TRST then
    if bitsAt v 31 1 = 1 then s.resetTract (bitsAt v 0 6) else s.put fBLK_TRST_TRACT (bitsAt v 0 6)
  else if off = BLK_CORE then (if core then s.writeCoreOwn v else s.writeCoreHold (bitsAt v 2 1 = 1))
  else if off = BLK_WDT then
    (if core && bitsAt v 31 1 = 1 then { s.put fBLK_WDT_COUNT 10000 with core := { s.core with wdtSub := 0 } } else s)
  else s

/-- A write in the PLAT_ page (R626, R633); `w` is what the register would store. -/
def State.storePlat (s : State) (off : Nat) (w v : Word) : State :=
  if off = PLAT_CTL then (if bitsAt v 0 1 = 1 then s.platGo else s)
  else if off = PLAT_LDATA_LO then s.loadLow v
  else if off = PLAT_LDATA_HI then s.loadHigh v
  else s.setReg off w

/-- A write in the MBX_ page (Table 14.2, R589, R591, R593, R595). -/
def State.storeMbx (s : State) (core : Bool) (off : Nat) (w v : Word) : State :=
  if off < 0x1800 then s.setReg off w
  else
    let m := (off - 0x1800) / 256
    let x := off % 256
    let j := x % 64 / 4
    if x < 0x40 then
      (if core then s
       else if m = 7 then s.raise evMBX_PROTO m
       else if 1 ≤ s.chanState m && s.chanState m ≤ 3 then s
       else s.setReg off v)
    else if x < 0x80 then (if core then s.fwRsp m j v else s)
    else if x = 0x80 then
      (if core then s else if m = 7 then s.raise evMBX_PROTO m else if bitsAt v 0 1 = 0 then s else s.ring m)
    else if core then s.fwState m v
    else s

/-- A write in the PST_, MON_ and FLT_ pages (R296, R301, R567, R571). -/
def State.storeAon (s : State) (off : Nat) (w v : Word) : State :=
  if off = PST_REQ then
    let s1 := s.put fPST_REQ_TARGET (bitsAt v 0 3)
    if bitsAt v 3 1 = 1 then s1.requestState (bitsAt v 0 3) else s1
  else if off = PST_WAKE then (s.setReg off w).recheckLevels
  else if off = FLT_PIN then s.writeHold (bitsAt v 0 1 = 1)
  else if off = FLT_CTL then (if bitsAt v 0 1 = 1 then s.clearBooks else s)
  else s.setReg off w

/-- A write in the CEL_, STN_ and TRC_ pages (R125, R181, R188). -/
def State.storeTract (s : State) (off : Nat) (w v : Word) : State :=
  match arrayIx (STN_SUSP 0) 16 64 off with
  | some t => s.clearSuspects t (bitsAt v 0 16)
  | none => match arrayIx (TRC_OPEN 0) 32 64 off with
    | some t => s.writeOpen t v
    | none => s.setReg off w

/-- A write in the SO_ page (R209, R240, R241, R229). -/
def State.storeSo (s : State) (off : Nat) (w v : Word) : State :=
  if off = SO_CTL then s.writeSoCtl (bitsAt v 0 1 = 1) (bitsAt v 1 1 = 1)
  else if off = SO_WIN_BASE || off = SO_WIN_LIMIT then (if s.on fSO_CTL_EN then s else s.setReg off w)
  else if off = SO_CFG then (upTo 32).foldl (fun s d => s.relift d 0xFFFF 0) (s.setReg off w)
  else s.setReg off w

/-- A write in the CG_, ENV_ and DOM_ pages (R266, R278, R281-R286). -/
def State.storeDom (s : State) (off : Nat) (w v : Word) : State :=
  if off = ENV_CTL then
    let s1 := s.setReg off w
    if s1.on fENV_CTL_EN && !s.on fENV_CTL_EN then s1.envelopeRestart else s1
  else match arrayIx (DOM_CTL 0) 4 32 off with
    | some d => s.writeDomCtl d v
    | none => match arrayIx (DOM_VSET 0) 4 32 off with
      | some d => s.writeTarget d (bitsAt v 0 10)
      | none => s.setReg off w

/-- A write in the IBS_ page; `v` is what was written (R320, R329, R366, Table 7.7). -/
def State.storeIbs (s : State) (off : Nat) (w v : Word) : State :=
  let s1 := s.setReg off w
  if off = IBS_LIM then
    (if s.get fCAD_IBPH_IMAX < bitsAt v 24 8 then s1.raiseD evCAD_LIMIT 0xFFFF off else s1)
  else if off = IBS_CTL then s1.chooseSource (s.get fIBS_CTL_SRC)
  else if IBS_VSEL 0 ≤ off && off ≤ IBS_VSEL 7 then s1.refreshIb
  else match arrayIx (IBS_PCFG 0) 16 16 off with
    | some p =>
      if s.pMode p = 7 then s1
      else if bitsAt w 0 1 = 0 then s1.setP p 0
      else if s.pMode p = 0 then (s1.setP p 1).updIb fun h => { h with admitAt := max h.admitAt s.now }
      else s1
    | none => s1

/-- A write in the THM_, CAP_, NRG_ and TLM_ pages (R44, R387, R399, R428, R432, R459, R469, R472, R542). -/
def State.storeCap (s : State) (off : Nat) (w v : Word) : State :=
  if off = THM_SUSP0 then s.clearSuspectSites 0 v.toNat
  else if off = THM_SUSP1 then s.clearSuspectSites 1 v.toNat
  else if off = THM_CFG then
    (let s1 := s.setReg off w
     if s.shut && s1.on fTHM_CFG_LATCH then s1.putB fTHM_STATE_LATCHED true else s1)
  else if off = CAP_PKG then (if s.isPrincipal then s.setPkgCap (bitsAt v 0 20) else s)
  else if off = NRG_CLR then s.askClear (bitsAt v 0 17)
  else if off = TLM_BASE_LO || off = TLM_BASE_HI || off = TLM_COUNT then (if s.on fTLM_CTL_EN then s else s.setReg off w)
  else match arrayIx (CAP_DGRADE 0) 4 32 off with
    | some d =>
      let req := min (bitsAt v 0 4) (s.gradeMax d)
      let s1 := (s.put (fCAP_DGRADE_REQ d) req).putB (fCAP_DGRADE_GCTL d) (bitsAt v 31 1 = 1)
      let s2 := if bitsAt v 30 1 = 1 then s1.putB (fCAP_DGRADE_FAULT d) false else s1
      let s3 := s2.abandonRaise d
      if s.gradeMax d < bitsAt v 0 4 then s3.raiseD evCAD_LIMIT 0xFFFF off else s3
    | none => match arrayIx (NRG_SFLAG 0) 4 8 off with
      | some k => s.clearSflag k v.toNat
      | none => s.setReg off w

/-- Benchmark's latest calibration found DATUM_IN absent (R85, R499). -/
def State.datumAbsent (s : State) : Bool := s.on fPLAT_STATE_BMDONE && !s.on fPLAT_BM_DATUM

/-- A write in the ADC_ page (R489-R506). -/
def State.storeAdc (s : State) (off : Nat) (w v : Word) : State :=
  if off = ADC_CFG then s.writeRef s.datumAbsent (bitsAt v 0 2)
  else if off = ADC_TMR then s.writeTimer (bitsAt v 0 16)
  else if off = ADC_CALCMD then s.writeCal (bitsAt v 31 1 = 1) w
  else match arrayIx (ADC_SEQ 0) 512 2 off with
    | some k => s.writeSeq k false (v &&& 0x80FF7F0F#32)
    | none => match arrayIx (ADC_INJ 0) 512 2 off with
      | some k => s.writeSeq k true (v &&& 0x80FF7F03#32)
      | none =>
        let k := (off - 0x68000) / 512 % 2
        let x := (off - 0x68100) % 512
        if 0x68100 ≤ off && off < 0x68500 && 0x40 ≤ x && x < 0x80 then s.writeSlot k false ((x - 0x40) / 4) (v &&& 0x3F#32)
        else if 0x68100 ≤ off && off < 0x68500 && 0x80 ≤ x && x < 0x90 then s.writeSlot k true ((x - 0x80) / 4) (v &&& 0x3F#32)
        else s.setReg off w

/-- A write in the TRV_, CAD_ and MEM_ pages (R329, R543, R613, R615). -/
def State.storeTrv (s : State) (off : Nat) (w v : Word) : State :=
  if off = TRV_EPOCH_GO then
    (if bitsAt v 0 1 = 1 then
      s.submitEpoch (s.get fTRV_EPOCH_CAP_CAP) (s.get fTRV_EPOCH_TS_HI_TS * 2 ^ 32 + s.get fTRV_EPOCH_TS_LO_TS) none
     else s)
  else if off = CAD_IB then (s.setReg off w).refreshIb
  else if off = MEM_OWNER then s.writeOwners v
  else if off = MEM_PWR then s.writePowers v
  else s.setReg off w

/-- A write of `v` to a register of block `n` that is none of the common ones: what it does, `w` being what is stored. -/
def State.storeIn (s : State) (core : Bool) (n off : Nat) (w v : Word) : State :=
  match n with
  | 0 => s.storeBlk core off v
  | 1 => s.storePlat off w v
  | 19 => s.storeMbx core off w v
  | 10 | 18 | 21 => s.storeAon off w v
  | 3 | 4 | 5 => s.storeTract off w v
  | 6 => s.storeSo off w v
  | 7 | 8 | 9 => s.storeDom off w v
  | 11 => s.storeIbs off w v
  | 12 | 13 | 14 | 15 => s.storeCap off w v
  | 16 => s.storeAdc off w v
  | _ => s.storeTrv off w v

/-- A write of RW or W1S bits by host software is noted, for hardware changes and firmware writes of the same cycle give way to it (R16, R651). -/
def State.hostMark (s : State) (core : Bool) (off : Nat) (m : Word) : State := if core || m = 0 then s else s.markWrote off m

/-- What a firmware write brings: bits that host software has written at the same instant stand, for the core port is served first and
the host's write last (R651). The bits of BLK_CORE belong to one port each (Table 14.12). -/
def State.firmwareWord (s : State) (core : Bool) (off : Nat) (a : Access) (v : Word) : Word :=
  if core && off ≠ BLK_CORE && s.cyc.wroteAt = s.now + 1 then
    let m := tblGet (fun _ => 0) s.cyc.wrote off &&& (a.rw ||| a.rwl)
    (v &&& ~~~m) ||| (s.reg off &&& m)
  else v

/-- A write of `v` to a register, `mask` being the RW and RWL bits that take it (Table 0.4). A bit of access W1C that hardware
has set in the same cycle stays 1 (R15). -/
def State.storeReg (s : State) (core : Bool) (off : Nat) (a : Access) (mask v : Word) : State :=
  let v' := v &&& ~~~(a.w1c &&& s.freshBits off)
  let new := (s.reg off &&& ~~~mask) ||| (v &&& mask)
  let w := (if mask = 0 then new else s.limited off new) &&& ~~~(v' &&& a.w1c)
  if (commonAt off).isSome then (if mask = 0 && a.w1c = 0 then s else (s.hostMark core off mask).setReg off w)
  else if mask = 0 && a.w1c = 0 && a.w1s = 0 && !(core && blockOf off = some 19) then s
  else match blockOf off with
    | none => s
    | some n => (s.hostMark core off (mask ||| a.w1s)).storeIn core n off w v'

/-! ### A write on a port -/

/-- The plat is being checked or applied (R638). -/
def State.platBusy (s : State) : Bool := s.get fPLAT_STATE_PHASE = 2 || s.get fPLAT_STATE_PHASE = 3

/-- A write of a register by an access that answers (R585, R638, R651, Table 0.4). -/
def State.writeReg (s : State) (core : Bool) (off : Nat) (v : Word) : State :=
  match accessOf off with
  | none => s
  | some a =>
    if core && !(match blockOf off with | none => true | some n => bitN (s.reg CAD_FWPERM).toNat n) then
      s.raiseD evCAD_FW_DENIED 0xFFFF off
    else
      let mask := a.rw ||| (if s.locked || s.platBusy then 0 else a.rwl)
      let s1 := if a.rwl ≠ 0 && s.platBusy then s.raise evPLAT_SEQ_REFUSED 0xFFFF else s
      s1.storeReg core off a mask (s.firmwareWord core off a v)

/-- A write on a port (R54-R61). -/
def State.busWrite (s : State) (core : Bool) (off : Nat) (strb : BitVec 4) (v : Word) : State :=
  if !s.portOpen core then s
  else if !s.offAnswers off || off % 4 ≠ 0 || strb ≠ 0xF#4 then s.slverr
  else if 0x80000 ≤ off then s.okay 0
  else match coefWindow off with
    | some (t, set, j) => s.coefAccess core off t set j (some v)
    | none => (s.writeReg core off v).okay 0

/-- A whole-word write on a port, as the commands that name one register make it. -/
def State.portWrite (s : State) (p : Port) (off : Nat) (v : Word) : Host.Outcome State Fault Refusal :=
  .next (s.busWrite (p = .core) off 0xF#4 v)

/-- REGISTER_WRITE. -/
def execRegisterWrite (p : Port) (off : Nat) (strb : BitVec 4) (v : Word) (s : State) : Host.Outcome State Fault Refusal :=
  .next (s.busWrite (p = .core) (off % 2 ^ 20) strb v)

/-! ### Commands that are writes of one register -/

/-- A word with one bit. -/
def bitWord (n : Nat) (b : Bool) : Word := if b then BitVec.ofNat 32 (2 ^ n) else 0

/-- SO_CTL_EN_SET, SO_CTL_EN_CLEAR and SO_CTL_CLR: writes of SO_CTL (R209, R240, R241). -/
def execSoCtlEnSet (p : Port) (clr : Bool) (s : State) : Host.Outcome State Fault Refusal :=
  s.portWrite p SO_CTL (bitWord 0 true ||| bitWord 1 clr)
def execSoCtlEnClear (p : Port) (clr : Bool) (s : State) : Host.Outcome State Fault Refusal :=
  s.portWrite p SO_CTL (bitWord 1 clr)
def execSoCtlClr (p : Port) (en : Bool) (s : State) : Host.Outcome State Fault Refusal :=
  s.portWrite p SO_CTL (bitWord 0 en ||| bitWord 1 true)

/-- STN_SUSP_CLEAR: a write of 1 to bits of STN_SUSP (R125). -/
def execStnSuspClear (p : Port) (t : Fin 64) (m : BitVec 16) (s : State) : Host.Outcome State Fault Refusal :=
  s.portWrite p (STN_SUSP t) (m.setWidth 32)

/-- TRC_OPEN: a write of TRC_OPEN with bit 0 (R181). -/
def execTrcOpen (p : Port) (t : Fin 64) (v : Word) (s : State) : Host.Outcome State Fault Refusal :=
  s.portWrite p (TRC_OPEN t) (v ||| 1)

/-- COEF_WINDOW_ACCESS: a read or a write of a word of the coefficient window (R186, R187). -/
def execCoefWindowAccess (p : Port) (t : Fin 64) (set : Fin 2) (j : Fin 8) (wr : Option Word) (s : State) :
    Host.Outcome State Fault Refusal :=
  let off := 0x28000 + 64 * t.val + 32 * set.val + 4 * j.val
  match wr with
  | none => .next (s.busRead (p = .core) off)
  | some v => s.portWrite p off v

/-- TRC_CLOSE: a write of TRC_OPEN with bit 1 alone (R188). -/
def execTrcClose (p : Port) (t : Fin 64) (s : State) : Host.Outcome State Fault Refusal := s.portWrite p (TRC_OPEN t) 2

/-- DOM_CTL_ON, DOM_CTL_OFF and DOM_CTL_FULL: writes of DOM_CTL (R281, R283, R286). -/
def execDomCtlOn (p : Port) (d : Fin 32) (s : State) : Host.Outcome State Fault Refusal := s.portWrite p (DOM_CTL d) 1
def execDomCtlOff (p : Port) (d : Fin 32) (full : Bool) (s : State) : Host.Outcome State Fault Refusal :=
  s.portWrite p (DOM_CTL d) (bitWord 1 true ||| bitWord 2 full)
def execDomCtlFull (p : Port) (d : Fin 32) (s : State) : Host.Outcome State Fault Refusal := s.portWrite p (DOM_CTL d) 4

/-- DOM_VSET_WRITE (R278). -/
def execDomVsetWrite (p : Port) (d : Fin 32) (v : Word) (s : State) : Host.Outcome State Fault Refusal := s.portWrite p (DOM_VSET d) v

/-- PST_REQ_GO (R296). -/
def execPstReqGo (p : Port) (target : Fin 8) (s : State) : Host.Outcome State Fault Refusal :=
  s.portWrite p PST_REQ (BitVec.ofNat 32 (target.val + 8))

/-- THM_SUSP_CLEAR (R387). -/
def execThmSuspClear (p : Port) (half : Fin 2) (m : Word) (s : State) : Host.Outcome State Fault Refusal :=
  s.portWrite p (THM_SUSP0 + 4 * half.val) m

/-- GRADE_FAULT_CLEAR: a write of 1 to FAULT that leaves REQ and GCTL as they are (R44). -/
def execGradeFaultClear (p : Port) (d : Fin 32) (s : State) : Host.Outcome State Fault Refusal :=
  s.portWrite p (CAP_DGRADE d) ((s.reg (CAP_DGRADE d) &&& 0x8000000F#32) ||| 0x40000000#32)

/-- CAP_PKG_WRITE (R542). -/
def execCapPkgWrite (p : Port) (v : Word) (s : State) : Host.Outcome State Fault Refusal := s.portWrite p CAP_PKG v

/-- NRG_CLR (R459). -/
def execNrgClr (p : Port) (m : Word) (s : State) : Host.Outcome State Fault Refusal := s.portWrite p NRG_CLR m

/-- SFLAG_CLEAR (R469). -/
def execSflagClear (p : Port) (k : Fin 8) (m : Word) (s : State) : Host.Outcome State Fault Refusal := s.portWrite p (NRG_SFLAG k) m

/-- ADC_SEQ_GO and ADC_INJ_GO: writes of ADC_SEQ and ADC_INJ with GO (R489, R495). -/
def execAdcSeqGo (p : Port) (k : Fin 2) (v : Word) (s : State) : Host.Outcome State Fault Refusal :=
  s.portWrite p (ADC_SEQ k) (v ||| 0x80000000#32)
def execAdcInjGo (p : Port) (k : Fin 2) (v : Word) (s : State) : Host.Outcome State Fault Refusal :=
  s.portWrite p (ADC_INJ k) (v ||| 0x80000000#32)

/-- ADC_REF_WRITE (R499). -/
def execAdcRefWrite (p : Port) (v : Word) (s : State) : Host.Outcome State Fault Refusal := s.portWrite p ADC_CFG v

/-- A write of ADC_CALCMD with GO and a step. -/
def State.calWrite (s : State) (p : Port) (v : Word) (step : Nat) : Host.Outcome State Fault Refusal :=
  s.portWrite p ADC_CALCMD (setBits v 8 2 step ||| 0x80000000#32)

/-- ADC_CAL_ZERO, ADC_CAL_FULL and ADC_CAL_RESTORE (R504-R506). -/
def execAdcCalZero (p : Port) (v : Word) (s : State) : Host.Outcome State Fault Refusal := s.calWrite p v 1
def execAdcCalFull (p : Port) (v : Word) (s : State) : Host.Outcome State Fault Refusal := s.calWrite p v 2
def execAdcCalRestore (p : Port) (v : Word) (s : State) : Host.Outcome State Fault Refusal := s.calWrite p v 3

/-- EPOCH_GO (R543). -/
def execEpochGo (p : Port) (s : State) : Host.Outcome State Fault Refusal := s.portWrite p TRV_EPOCH_GO 1

/-- HOLD_RELEASE and HOLD_ASSERT: writes of FLT_PIN.HOLD (R571). -/
def execHoldRelease (p : Port) (s : State) : Host.Outcome State Fault Refusal := s.portWrite p FLT_PIN 0
def execHoldAssert (p : Port) (s : State) : Host.Outcome State Fault Refusal := s.portWrite p FLT_PIN 1

/-- FIELD_BOOK_CLEAR (R567). -/
def execFieldBookClear (p : Port) (s : State) : Host.Outcome State Fault Refusal := s.portWrite p FLT_CTL 1

/-- MBX_BELL (R589, R591, R593). -/
def execMbxBell (p : Port) (m : Fin 8) (s : State) : Host.Outcome State Fault Refusal := s.portWrite p (MBX_BELL m) 1

/-- BLK_RST_CORE, BLK_RST_BLOCK and BLK_RST_IFACE: writes of BLK_RST (R604, R606, R607). -/
def execBlkRstCore (p : Port) (s : State) : Host.Outcome State Fault Refusal := s.portWrite p BLK_RST 2
def execBlkRstBlock (p : Port) (s : State) : Host.Outcome State Fault Refusal := s.portWrite p BLK_RST 4
def execBlkRstIface (p : Port) (s : State) : Host.Outcome State Fault Refusal := s.portWrite p BLK_RST 1

/-- BLK_TRST_GO (R608). -/
def execBlkTrstGo (p : Port) (t : Fin 64) (s : State) : Host.Outcome State Fault Refusal :=
  s.portWrite p BLK_TRST (BitVec.ofNat 32 (2 ^ 31 + t.val))

/-- MEM_OWNER_WRITE and MEM_PWR_WRITE (R613, R615). -/
def execMemOwnerWrite (p : Port) (v : Word) (s : State) : Host.Outcome State Fault Refusal := s.portWrite p MEM_OWNER v
def execMemPwrWrite (p : Port) (v : Word) (s : State) : Host.Outcome State Fault Refusal := s.portWrite p MEM_PWR v

/-- LOADER_WRITE: a write of PLAT_LDATA_HI (R626, R627). -/
def execLoaderWrite (p : Port) (v : Word) (s : State) : Host.Outcome State Fault Refusal := s.portWrite p PLAT_LDATA_HI v

/-- PLAT_GO (R633). -/
def execPlatGo (p : Port) (s : State) : Host.Outcome State Fault Refusal := s.portWrite p PLAT_CTL 1

/-- CORE_HOLD_CLEAR: a write of 0 to BLK_CORE.HOLD that leaves the rest (R640). -/
def execCoreHoldClear (p : Port) (s : State) : Host.Outcome State Fault Refusal :=
  s.portWrite p BLK_CORE (s.reg BLK_CORE &&& 0xFFFFFFFB#32)

end Sys2Proof.Machine
end

