-- ==== Sys2Proof/Machine/Boot.lean ====
section
/-!
DEFINITION. The plat and the firmware (chapter 15): check, apply, test and lock of the plat image, the firmware check, and the
start of domains in plat order; the check of the retained plat on a wake from Off.
-/

namespace Sys2Proof.Machine

/-! ### The image (R629-R632) -/

/-- DAT byte at which the image begins. -/
def platBase : Nat := 0x34000

/-- A 32-bit word and a byte of the image at a byte offset. -/
def State.imgWord (s : State) (k : Nat) : Nat := memLE s.dat (platBase + k) 4
def State.imgByte (s : State) (k : Nat) : Nat := (memByte s.dat (platBase + k)).toNat

/-- LENGTH as the header gives it. -/
def State.imgLen (s : State) : Nat := s.imgWord 8

/-- A record of the image: where its header word lies, and what it holds. -/
inductive PlatRec where
  | reg (hdr off stride count : Nat)
  | coef (hdr set tract : Nat)
  | start (hdr mask : Nat)
  deriving DecidableEq, Repr

/-- Whether a REG record may name a register (R631). -/
def nameable (off : Nat) : Bool :=
  match accessOf off, blockOf off with
  | some a, some n => (a.rw ||| a.rwl) ≠ 0 && a.w1c = 0 && a.w1s = 0 && !(n = 0 || n = 1 || n = 19)
  | _, _ => false

/-- The first failing byte among those of a field list: offset and whether the field there fails. -/
def firstFail : List (Nat × Bool) → Option Nat
  | [] => none
  | (o, bad) :: l =>
    match firstFail l with
    | none => if bad then some o else none
    | some r => if bad then some (min o r) else some r

/-- What fails in the header of the image (R634): MAGIC and FORMAT byte by byte, and the upper byte of RELEASE. -/
def State.headerFail (s : State) : Option Nat :=
  let want := leBytes 0x54414C50 4 ++ leBytes 1 2
  firstFail (((upTo 6).map fun k => (k, decide (s.imgByte k ≠ (want.getD k 0).toNat))) ++ [(7, decide (s.imgByte 7 ≠ s.get fBLK_ID_RELEASE / 256))])

/-- What fails in a REG record at a position (R630, R631). -/
def State.regFail (s : State) (pos : Nat) : Option Nat :=
  let h := s.imgWord pos
  let o := s.imgWord (pos + 4)
  let count := h % 65536
  let stride := o / 2 ^ 20 % 256
  let off := o % 2 ^ 20
  let named : Bool := (upTo count).all fun k => nameable (off + 4 * stride * k)
  firstFail [(pos, count = 0 || 4096 < count), (pos + 2, h / 2 ^ 16 % 256 ≠ 0), (pos + 4, stride ≠ 0 && !named),
    (pos + 6, stride = 0), (pos + 7, o / 2 ^ 28 ≠ 0)]

/-- What fails in the header word of another record: `b0` and `b1` are the largest values of its two
low bytes. -/
def State.wordFail (s : State) (pos b0 b1 : Nat) : Option Nat :=
  let h := s.imgWord pos
  firstFail [(pos, b0 < h % 256), (pos + 1, b1 < h / 2 ^ 8 % 256), (pos + 2, h / 2 ^ 16 % 256 ≠ 0)]

/-- The outcome of reading the records: the first failing byte, or the records with the offset of END. -/
inductive PlatRead where
  | bad (off : Nat)
  | good (recs : List PlatRec) (endAt : Nat)
  deriving DecidableEq, Repr

/-- The records from a position on, `lim` being LENGTH - 4 (R630, R634). -/
def State.readRecs (s : State) (lim : Nat) : Nat → Nat → Bool → List PlatRec → PlatRead
  | 0, _, _, _ => .bad lim
  | fuel + 1, pos, started, acc =>
    if lim < pos + 4 then .bad lim
    else
      let ty := s.imgWord pos / 2 ^ 24
      let len := if ty = 1 then 8 + 4 * (s.imgWord pos % 65536) else if ty = 2 then 36 else if ty = 3 then 8 else 4
      let fail := if ty = 1 then (if pos + 8 ≤ lim then s.regFail pos else s.wordFail pos 255 255)
        else if ty = 2 then s.wordFail pos 63 1
        else if ty = 3 then (if started then some pos else s.wordFail pos 0 0)
        else if ty = 0x7F then s.wordFail pos 0 0
        else some (pos + 3)
      match fail with
      | some o => .bad (min o lim)
      | none =>
        if lim < pos + len then .bad lim
        else
          let h := s.imgWord pos
          match ty with
          | 1 =>
            let o := s.imgWord (pos + 4)
            s.readRecs lim fuel (pos + len) started (acc ++ [.reg pos (o % 2 ^ 20) (o / 2 ^ 20 % 256) (h % 65536)])
          | 2 => s.readRecs lim fuel (pos + len) started (acc ++ [.coef pos (h / 256 % 2) (h % 64)])
          | 3 => s.readRecs lim fuel (pos + len) true (acc ++ [.start pos (s.imgWord (pos + 4))])
          | _ => if pos + 4 = lim then .good acc pos else .bad (pos + 4)

/-- The outcome of the check (R634, R637). -/
inductive PlatCheck where
  | crc
  | format (off : Nat)
  | good (recs : List PlatRec) (endAt : Nat)
  deriving DecidableEq, Repr

/-- The image checked: length and CRC first, then its form. -/
def State.checkImage (s : State) : PlatCheck :=
  let n := s.imgLen
  if s.memPower 1 ≠ 2 || n % 4 ≠ 0 || n < 32 || 49152 < n || s.memBad 1 platBase n then .crc
  else if (crc32c (memBytes s.dat platBase (n - 4))).toNat ≠ s.imgWord (n - 4) then .crc
  else match s.headerFail with
    | some o => .format o
    | none => match s.readRecs (n - 4) (n / 4) 16 false [] with
      | .bad o => .format o
      | .good recs e => .good recs e

/-! ### Apply (R635) -/

/-- Every register that a REG record may name back at its reset value, bits that show the form of a word (IBS_COEF) following it,
and COEF memory zero. -/
def State.platReset (s : State) : State :=
  let back (s : State) (p : Nat × Word) : State :=
    match accessOf p.1 with
    | some a =>
      let m := a.rw ||| a.rwl
      if nameable p.1 then s.setReg p.1 (coefForm p.1 ((s.reg p.1 &&& ~~~m) ||| (resetVal p.1 &&& m))) else s
    | none => s
  let s1 := s.regs.foldl back s
  let s2 := ({ s1 with coef := [] }.markAllGood 2).updMem fun m => { m with upDue := [] }
  let s3 := (s2.writeHold false).put fADC_STATE_REF 0
  let s4 := (s3.putB fADC_STATE_ALT_RDY false).updAdc fun a => { a with altAt := none, tmrAt := none }
  let s5 := (upTo 16).foldl (fun s p => if s.pMode p = 0 then s.setP p 1 else s) s4
  s5.refreshIb

/-- One data word of a REG record written as host software before the lock would write it. -/
def State.platWrite (s : State) (off : Nat) (v : Word) : State :=
  match accessOf off with
  | none => s
  | some a => s.storeReg false off a (a.rw ||| a.rwl) v

/-- The data words of a record whose registers satisfy a test. -/
def State.applyReg (s : State) (p : Nat → Bool) (hdr off stride count : Nat) : State :=
  (upTo count).foldl (fun s k =>
    let o := off + 4 * stride * k
    if p o then s.platWrite o (BitVec.ofNat 32 (s.imgWord (hdr + 8 + 4 * k))) else s) s

/-- A coefficient set written to COEF memory. -/
def State.applyCoef (s : State) (hdr set tract : Nat) : State :=
  let w (j : Nat) := coefNorm j (BitVec.ofNat 32 (s.imgWord (hdr + 4 + 4 * j)))
  { s with coef := memPutBytes s.coef (coefAddr tract set 0) ((upTo 8).flatMap fun j => leBytes (w j).toNat 4) }

/-- A register of the cadastre. -/
def isCad (off : Nat) : Bool := CAD_BASE ≤ off && off < MEM_BASE

/-- The image applied: the cadastre first, then the rest in image order. -/
def State.applyPlat (s : State) (recs : List PlatRec) : State :=
  let cad (s : State) (r : PlatRec) : State :=
    match r with
    | .reg h o st n => s.applyReg isCad h o st n
    | _ => s
  let rest (s : State) (r : PlatRec) : State :=
    match r with
    | .reg h o st n => s.applyReg (fun o => !isCad o) h o st n
    | .coef h set t => s.applyCoef h set t
    | .start _ _ => s
  recs.foldl rest (recs.foldl cad s.platReset)

/-! ### Tests (R636, R637) -/

/-- A test that fails: the registers and the coefficient sets (2 x tract + set) that its condition involves. -/
structure PlatFail where
  regs : List Nat
  sets : List Nat
  deriving DecidableEq, Repr

/-- A condition of plat load: fails or not, and what it involves. -/
def failsOn (bad : Bool) (regs : List Nat) (sets : List Nat := []) : List PlatFail := if bad then [⟨regs, sets⟩] else []

/-- The cadastre's own ranges (R583). -/
def State.failCad (s : State) : List PlatFail :=
  let dom (d : Nat) := failsOn
    (!(360 ≤ s.get (fCAD_DOM_VMIN d) && s.get (fCAD_DOM_VMIN d) ≤ s.get (fCAD_DOM_VMAX d) && s.get (fCAD_DOM_VMAX d) ≤ 840)) [CAD_DOM d]
  (upTo 32).flatMap dom
    ++ failsOn (s.get fCAD_SLEW_SLEW = 0) [CAD_SLEW]
    ++ failsOn (300 < s.get fCAD_TRC_ITRACT || s.get fCAD_TRC_DMAX < 2048 || 3276 < s.get fCAD_TRC_DMAX) [CAD_TRC]
    ++ failsOn (130 < s.get fCAD_THM_SHUTCAP) [CAD_THM]
    ++ failsOn (!(1200 ≤ s.get fCAD_IB_IBMIN && s.get fCAD_IB_IBMIN ≤ s.get fCAD_IB_IBMAX && s.get fCAD_IB_IBMAX ≤ 1680)) [CAD_IB]
    ++ failsOn (s.get fCAD_IBPH_IMAX < 10 || 45 < s.get fCAD_IBPH_IMAX) [CAD_IBPH]

/-- Domains and tracts: maps, retention codes, stations and coefficient sets (R134, R274, R285, R636). -/
def State.failTracts (s : State) : List PlatFail :=
  let zero (t set : Nat) : Bool := (upTo 7).all fun j => s.coefWord t set (j + 1) = 0
  let tract (t : Nat) : List PlatFail :=
    let m := s.domOf t
    failsOn (32 ≤ m && m ≤ 254) [DOM_MAP t]
      ++ (if m < 32 then
          failsOn (((upTo 16).filter fun k => bitN (s.get (fSTN_EN_EN t)) k).length < 4) [STN_EN t, DOM_MAP t]
            ++ failsOn (zero t 0) [DOM_MAP t] [2 * t] ++ failsOn (zero t 1) [DOM_MAP t] [2 * t + 1]
         else [])
  let dom (d : Nat) := failsOn
    (s.get (fDOM_CFG_RET d) < 360 || 840 < s.get (fDOM_CFG_RET d) || s.get (fDOM_CFG_RET d) < s.get (fCAD_DOM_VMIN d)) [DOM_CFG d, CAD_DOM d]
  (upTo 64).flatMap tract ++ (upTo 32).flatMap dom

/-- The grade tables of classes with a mapped domain (R426). -/
def State.failGrades (s : State) : List PlatFail :=
  let cls (k : Nat) : List PlatFail :=
    let ds := (upTo 32).filter fun d => !(s.tractsOf d).isEmpty && s.classOf d = k
    let who := ds.map DOM_CFG ++ (ds.flatMap s.tractsOf).map DOM_MAP
    let v (g : Nat) := s.get (fCAP_GTAB_VCODE k g)
    let f (g : Nat) := s.get (fCAP_GTAB_PF k g)
    if ds.isEmpty then []
    else (upTo 16).flatMap (fun g => failsOn (v g < 360 || 840 < v g) (CAP_GTAB k g :: who))
      ++ (upTo 15).flatMap (fun g => failsOn (v (g + 1) < v g || f (g + 1) < f g) (CAP_GTAB k g :: CAP_GTAB k (g + 1) :: who))
      ++ failsOn (f 15 = 0) (CAP_GTAB k 15 :: who)
  (upTo 4).flatMap cls

/-- The die's place in the ring, the IB stage, the thermal thresholds and the priorities (R4, R345, R374, R389, R425). -/
def State.failRest (s : State) : List PlatFail :=
  let warn : Int := s.get fTHM_THR_WARN
  let prio := [s.get fCAP_PRIO_P0, s.get fCAP_PRIO_P1, s.get fCAP_PRIO_P2]
  failsOn (s.get fTRV_CFG_COUNT = 0 || s.get fTRV_CFG_COUNT < s.get fTRV_CFG_INDEX || s.get fTRV_CFG_COUNT < s.get fTRV_CFG_PRINCIPAL) [TRV_CFG]
    ++ failsOn ((upTo 8).all fun j => s.get (fIBS_COEF_COEF j) = 0) ((upTo 8).map IBS_COEF)
    ++ failsOn (!(s.get fIBS_VIN_STOP < s.get fIBS_VIN_SHED && s.get fIBS_VIN_SHED < s.get fIBS_VIN_RESTORE
        && s.get fIBS_VIN_RESTORE < s.get fIBS_VIN_HIGH)) [IBS_VIN]
    ++ failsOn (warn - s.get fTHM_HYS_WARN ≤ s.get fTHM_THR_RESTART) [THM_THR, THM_HYS]
    ++ failsOn (s.get fTHM_THR_THROT ≤ s.get fTHM_THR_WARN) [THM_THR]
    ++ failsOn (min (s.get fTHM_THR_SHUT) (s.get fCAD_THM_SHUTCAP) ≤ s.get fTHM_THR_THROT) [THM_THR, CAD_THM]
    ++ failsOn (!((upTo 3).all prio.contains)) [CAP_PRIO]

/-- Every test that fails after the apply step. -/
def State.platFails (s : State) : List PlatFail := s.failCad ++ s.failTracts ++ s.failGrades ++ s.failRest

/-- The image words that write something a failing test involves. -/
def PlatRec.wrote (f : PlatFail) : PlatRec → List Nat
  | .reg h o st n => ((upTo n).filter fun k => f.regs.contains (o + 4 * st * k)).map fun k => h + 8 + 4 * k
  | .coef h set t => if f.sets.contains (2 * t + set) then [h + 4] else []
  | .start _ _ => []

/-- PLAT_ERR of failing tests: the smallest over the tests of the earliest word that wrote what they involve. -/
def platErr (recs : List PlatRec) (endAt : Nat) (fs : List PlatFail) : Nat :=
  let one (f : PlatFail) : Nat := (recs.flatMap (PlatRec.wrote f)).foldl min endAt
  fs.foldl (fun a f => min a (one f)) endAt

/-! ### The lock (R639) -/

/-- The domains of the START record, 0 for none. -/
def startMask : List PlatRec → Nat
  | [] => 0
  | .start _ m :: _ => m
  | _ :: l => startMask l

/-- The plat, whose CRC is `crc`, locks, and what starts from the lock starts. -/
def State.lockPlat (s : State) (recs : List PlatRec) (crc : Nat) : State :=
  let s1 := (s.putB fCAD_LOCK_LOCKED true).setPhase 4
  let s2 := (s1.put fPLAT_CRC_CRC crc).put fPLAT_START_MASK (startMask recs)
  let s3 := { s2.refreshIb with cg := { s2.cg with staggerAt := s.now, slotNo := none }, pst := { s2.pst with monSeen := [] } }
  s3.startTraverse

/-- A failed check, apply or test (R637): the block stays in its pre-plat state. -/
def State.platFailed (s : State) (e : Ev) (off : Nat) : State :=
  ((s.put fPLAT_ERR_OFFSET off).put fPLAT_STATE_PHASE 5).raiseD e 0xFFFF off

/-- Check, apply and test: what they leave, and whether the plat locked. -/
def State.loadPlat (s : State) : State × Bool :=
  let s0 := s.corrects 1 platBase (min 49152 s.imgLen)
  match s.checkImage with
  | .crc =>
    let s1 := if s.imgLen ≤ 49152 then s0.ownRead 1 platBase (max 32 s.imgLen) else s0
    (s1.platFailed evPLAT_CRC 0xFFFFFFFF, false)
  | .format o => (s0.platFailed evPLAT_FORMAT o, false)
  | .good recs e =>
    let s1 := s0.applyPlat recs
    match s1.platFails with
    | [] => (s1.lockPlat recs (s.imgWord (s.imgLen - 4)), true)
    | fs => (s1.platReset.platFailed evPLAT_INVALID (platErr recs e fs), false)

/-- PLAT_CHECK_DONE: check, apply and test complete, within 1.5 ms (R634-R639). -/
def execPlatCheckDone (s : State) : Host.Outcome State Fault Refusal :=
  .next (if s.boot.checkDue.isSome then ((s.updBoot fun b => { b with checkDue := none }).loadPlat).1 else s)

/-! ### Domain start (R642-R644) -/

/-- Domains can start: thermal shutdown is not in force, and the IB is up with lclk running (R398). -/
def State.canStart (s : State) : Bool := !s.shut && !s.core.blockReset && s.lclk && (s.ibMode = 2 || s.ibMode = 3) && !s.ib.ramping

/-- A START domain switched on, or passed over (R643). -/
def State.startDomain (s : State) (d : Nat) : State :=
  if s.isOn d then s
  else if s.mayStart d then (s.updDom d fun h => { h with commanded := 1 }).switchOn d
  else (s.updDom d fun h => { h with commanded := 0 }).refuseDom d

/-- The end of the sequence: aon_state reads Run. -/
def State.endStart (s : State) : State :=
  let s1 := (s.updBoot fun b => { b with seq := false, group := [] }).putB fPLAT_STATE_STARTING false
  if s1.aon = 5 then { s1 with pst := { s1.pst with waking := false, toRun := false } }.enterRun else s1

/-- The next step of the sequence, once every domain of the previous one has left Switching on. -/
def State.startStep (s : State) : State :=
  if !s.boot.seq || !s.canStart || s.boot.group.any fun d => s.domState d = 3 then s
  else match s.boot.toStart with
    | [] => s.endStart
    | d0 :: l =>
      let o := (d0 :: l).foldl (fun a d => min a (s.get (fDOM_CFG_ORDER d))) (s.get (fDOM_CFG_ORDER d0))
      let g := (d0 :: l).filter fun d => s.get (fDOM_CFG_ORDER d) = o
      let s1 := s.updBoot fun b => { b with group := g, toStart := (d0 :: l).filter fun d => s.get (fDOM_CFG_ORDER d) ≠ o }
      g.foldl (fun s d => s.startDomain d) s1

/-- DOMAIN_START_STEP. -/
def execDomainStartStep (s : State) : Host.Outcome State Fault Refusal := .next s.startStep

/-! ### Firmware (R640, R641, R628) -/

/-- The core released: it runs at 400 MHz, with FW and DAT its own. -/
def State.releaseCore (s : State) : State :=
  let s1 := ((s.putB fPLAT_STATE_FWOK true).putB fBLK_CORE_HOLD false).putB fBLK_CORE_RUNNING true
  let s2 := ((s1.putB fBLK_CORE_CLK false).put fBLK_WDT_COUNT 10000).setOwner 0 0
  ({ s2.setOwner 1 0 with core := { s2.core with exitDue := none, wdtSub := 0 } }).coreWake

/-- The firmware bytes can be read and their CRC is the expected one. -/
def State.fwGood (s : State) : Bool :=
  let n := s.get fPLAT_FWLEN_LEN
  s.memPower 0 = 2 && !s.memBad 0 0 n && crc32c (memBytes s.fw 0 n) = s.reg PLAT_FWCRC

/-- FW_CRC_DONE: the firmware CRC completes, within 200 us, a word that it cannot read being counted (R611); at the first release after a lock the domains of PLAT_START start. -/
def execFwCrcDone (s : State) : Host.Outcome State Fault Refusal :=
  .next (if s.boot.fwDue.isNone then s
    else
      let s1 := (s.updBoot fun b => { b with fwDue := none }).corrects 0 0 (s.get fPLAT_FWLEN_LEN)
      if !s.fwGood then (s1.ownRead 0 0 (s.get fPLAT_FWLEN_LEN)).raiseD evPLAT_FW_CRC 0xFFFF 0xFFFFFFFF
      else
        let s2 := s1.releaseCore
        if s.boot.released then s2
        else
          let l := (upTo 32).filter fun d => bitN (s.get fPLAT_START_MASK) d
          ((s2.updBoot fun b => { b with released := true, seq := true, toStart := l, group := [] }).putB fPLAT_STATE_STARTING true).startStep)

/-! ### The wake from Off (R310) -/

/-- OFF_WAKE_PLAT_CHECK: the retained image is checked and applied once DAT is on and the fast oscillator is stable (R305); the core runs again and the domains
commanded On return in plat order, or PLAT_LOST is set. DEDUCED (log 126): the wake frame of R551 leaves here, where the plat has told
WAKEALL and the transmit pairs are driven (R71). -/
def execOffWakePlatCheck (s : State) : Host.Outcome State Fault Refusal :=
  .next (if !s.pst.offCheck || s.memPower 1 ≠ 2 || !s.clk.fastOsc then s
    else
      let s1 := { s with pst := { s.pst with offCheck := false } }
      let p := s1.loadPlat
      if p.2 then
        let l := (upTo 32).filter fun d => (s.dom d).commanded = 1 && p.1.domState d ≠ 0
        let s2 := if p.1.on fTRV_CFG_WAKEALL then p.1.wakeFrame else p.1
        (s2.releaseCore).updBoot fun b => { b with released := true, seq := true, toStart := l, group := [] }
      else
        let s2 : State := { s1 with pst := { s1.pst with waking := false } }
        (s2.setPhase 1).raise evPST_PLAT_LOST 0xFFFF)

end Sys2Proof.Machine
end

