-- ==== Sys2Proof/Machine/Ibsel.lean ====
section
/-!
DEFINITION. Ibsel (R590, R595-R599, Tables 14.4-14.6): what firmware does for each command that a mailbox channel holds,
and the two ways in which it answers.
-/

namespace Sys2Proof.Machine

/-! ### Answers -/

/-- The answer to a command: status (Table 14.4), detail (Table 14.5) and result bytes. -/
structure Ans where
  status : Nat
  detail : Nat
  bytes : List Byte := []
  deriving DecidableEq, Repr

/-- The answers that commands give: performed; refused or reduced by the cadastre; refused by a block rule; an argument
length or a unit number that is not valid; a group or an opcode that is not accepted; a step that did not answer in time. -/
def Ans.ok (b : List Byte) : Ans := ⟨0, 0, b⟩
def Ans.bounds (b : List Byte) : Ans := ⟨2, 6, b⟩
def Ans.refused : Ans := ⟨3, 7, []⟩
def Ans.badLength : Ans := ⟨4, 3, []⟩
def Ans.badIndex : Ans := ⟨4, 8, []⟩
def Ans.unknown : Ans := ⟨5, 4, []⟩
def Ans.barred : Ans := ⟨5, 5, []⟩
def Ans.late : Ans := ⟨6, 9, []⟩

/-- An answer posted on a channel. -/
def State.reply (s : State) (m : Nat) (a : Ans) : State := s.post m a.status a.detail a.bytes

/-! ### What firmware reads and writes -/

/-- The cadastre lets firmware write an offset (R585). -/
def State.fwMay (s : State) (off : Nat) : Bool :=
  (match blockOf off with | none => true | some n => bitN (s.reg CAD_FWPERM).toNat n)
    && ((coefWindow off).isNone || s.on fCAD_FWPERM_COEF)

/-- A register write by firmware; the outcome of the latest access on a port stays what it was. -/
def State.fwStore (s : State) (off : Nat) (v : Word) : State := { s.busWrite true off 0xF#4 v with bus := s.bus }

/-- Register writes by firmware in order, and whether the cadastre permits them all. -/
def State.fwStores (s : State) (ws : List (Nat × Word)) : State × Bool :=
  (ws.foldl (fun s w => s.fwStore w.1 w.2) s, ws.all fun w => s.fwMay w.1)

/-- A command that makes writes and answers with what is then stored. -/
def State.fwDo (s : State) (ws : List (Nat × Word)) (result : State → List Byte) : State × Ans :=
  let p := s.fwStores ws
  (p.1, if p.2 then .ok (result p.1) else .bounds (result p.1))

/-- The same where a block rule refuses the writes, or a limit of the cadastre acts on them. -/
def State.fwJudged (s : State) (ws : List (Nat × Word)) (refused limited : Bool) (result : State → List Byte) : State × Ans :=
  let p := s.fwStores ws
  (p.1, if !p.2 || limited then .bounds (result p.1) else if refused then .refused else .ok (result p.1))

/-- The low bytes of a register as it reads, and the bytes of a field. -/
def State.rd (s : State) (off n : Nat) : List Byte := leBytes (s.readReg off).toNat n
def State.fd (s : State) (f : Fld) (n : Nat) : List Byte := leBytes (s.get f) n

/-- A number as a register word. -/
def asWord (n : Nat) : Word := BitVec.ofNat 32 n

/-! ### Which commands there are, and who may send them -/

/-- Argument bytes of each opcode of Table 14.6; none for an opcode that is not in it. -/
def argLen : Nat → Option Nat
  | 0x0101 | 0x0102 | 0x0203 | 0x0701 | 0x0801 | 0x0803 | 0x0A03 | 0x0C02 | 0x0C03 => some 0
  | 0x0204 | 0x0301 | 0x0305 | 0x0402 | 0x0406 | 0x0503 | 0x0505 | 0x0603 | 0x0702 | 0x0703 | 0x0A01 | 0x0B01 => some 1
  | 0x0302 | 0x0404 | 0x0502 | 0x0602 | 0x0802 | 0x0903 | 0x0B02 | 0x0B03 | 0x0B04 => some 2
  | 0x0303 | 0x0304 | 0x0405 | 0x0804 => some 3
  | 0x0201 | 0x0202 | 0x0403 | 0x0504 => some 4
  | 0x0A02 => some 5
  | 0x0902 => some 6
  | 0x0901 => some 7
  | 0x0604 => some 8
  | 0x0401 => some 11
  | 0x0C01 => some 12
  | 0x0601 => some 16
  | 0x0501 => some 31
  | _ => none

/-- The class of a command (Table 14.6): long, or simple. -/
def State.isLong (s : State) (op : Nat) : Bool :=
  match op with
  | 0x0301 | 0x0302 | 0x0501 | 0x0502 | 0x0901 | 0x0A01 | 0x0B02 => true
  | 0x0202 | 0x0C01 => !s.isPrincipal
  | _ => false

/-- Whether a command writes (R597 orders those). -/
def opWrites : Nat → Bool
  | 0x0201 | 0x0202 | 0x0301 | 0x0302 | 0x0303 | 0x0304 | 0x0401 | 0x0403 | 0x0404 | 0x0405 | 0x0501 | 0x0502 | 0x0504 | 0x0505
  | 0x0601 | 0x0602 | 0x0604 | 0x0703 | 0x0803 | 0x0804 | 0x0901 | 0x0902 | 0x0A01 | 0x0A02 | 0x0B02 | 0x0B03 | 0x0B04 | 0x0C01 => true
  | _ => false

/-- Whether a channel accepts the group of an opcode (R590). -/
def groupOn (m op : Nat) : Bool :=
  let g := op / 256
  if g = 0x0A then m = 0 else if g = 0x0B then m = 0 else !(m = 7 && (g = 5 || g = 6))

/-- A request whose writes have not begun: acknowledged, or accepted and not started. -/
def State.unstarted (s : State) (m : Nat) : Bool :=
  s.chanState m = 2 || (s.chanState m = 3 && ((s.chan m).long.any fun o => !o.started))

/-- No acknowledged request of an earlier doorbell still has writes to make (R597). -/
def State.inTurn (s : State) (m : Nat) : Bool :=
  (upTo 8).all fun k => k = m || !s.unstarted k || !opWrites (s.reqOp k) || (s.chan m).order ≤ (s.chan k).order

/-- Firmware runs and serves a request of a channel for an opcode. -/
def State.serves (s : State) (m op : Nat) : Bool :=
  !s.coreDown && !s.coreAsleep && s.reqOp m = op && groupOn m op && (argLen op).isSome && (!opWrites op || s.inTurn m)

/-! ### Groups 0x01-0x04: identity, capping, domains, energy and telemetry -/

/-- GET_IDENTITY. -/
def State.opIdentity (s : State) : State × Ans :=
  (s, .ok (s.fd fBLK_ID_RELEASE 2 ++ leBytes (Config.openNat 59 []) 4 ++ leBytes s.dieIndex 1 ++ leBytes s.dieCount 1
    ++ leBytes s.principal 1 ++ [0] ++ s.rd PLAT_CRC 4))

/-- GET_UPTIME. -/
def State.opUptime (s : State) : State × Ans := (s.capture TRV_TIME_LO, .ok (leBytes s.ts.toNat 8 ++ s.fd fBLK_CORE_RESETS 1))

/-- SET_DIE_LIMIT. -/
def State.opDieLimit (s : State) (m : Nat) : State × Ans :=
  s.fwDo [(CAP_DIE, asWord (s.arg m 2 2 * 2 ^ 16 + s.arg m 0 2))] fun s => s.rd CAP_DIE 4

/-- SET_PKG_CAP on the principal. -/
def State.opPkgCap (s : State) (m : Nat) : State × Ans := s.fwDo [(CAP_PKG, asWord (s.arg m 0 4))] fun s => s.rd CAP_PKG 4

/-- GET_CAP_STATE. -/
def State.opCapState (s : State) : State × Ans :=
  (s, .ok (s.rd CAP_SHARE 4 ++ s.rd CAP_EST 4 ++ s.rd CAP_SHORT 4 ++ s.rd CAP_BASE 4))

/-- GET_CLASS. -/
def State.opClass (s : State) (m : Nat) : State × Ans :=
  let k := s.arg m 0 1
  (s, if 4 ≤ k then .badIndex else
    .ok (s.fd (fCAP_CBUD_DEMAND k) 2 ++ s.fd (fCAP_CBUD_BUDGET k) 2 ++ s.fd (fCAP_CGAIN_GAIN k) 2 ++ s.rd (CAP_CSTATE k) 4))

/-- SET_VOLTAGE. -/
def State.opVoltage (s : State) (m : Nat) : State × Ans :=
  let d := s.arg m 0 1
  if 32 ≤ d then (s, .badIndex)
  else s.fwJudged [(DOM_VSET d, asWord (s.arg m 1 2))] false (!s.codeValid d (s.arg m 1 2 % 1024)) fun s => s.fd (fDOM_VSET_CODE d) 2

/-- SET_GRADE. -/
def State.opGrade (s : State) (m : Nat) : State × Ans :=
  let d := s.arg m 0 1
  let g := s.arg m 1 1 % 16
  if 32 ≤ d then (s, .badIndex)
  else s.fwJudged [(CAP_DGRADE d, asWord (b2n (s.arg m 2 1 ≠ 0) * 2 ^ 31 + g))] false (decide (s.gradeMax d < g))
    fun s => s.fd (fCAP_DGRADE_REQ d) 1 ++ leBytes (s.effGrade d) 1

/-- GET_DOMAIN. -/
def State.opDomain (s : State) (m : Nat) : State × Ans :=
  let d := s.arg m 0 1
  (s, if 32 ≤ d then .badIndex else
    .ok (s.rd (DOM_DSTAT d) 4 ++ s.rd (CAP_DGRADE d) 4 ++ s.fd (fSO_DLIFT_LIFT d) 1 ++ s.rd (NRG_DCUR d) 4))

/-- TLM_CONFIG; BASE and COUNT do not change while EN is 1 (R470). -/
def State.opTlmConfig (s : State) (m : Nat) : State × Ans :=
  let lo := asWord (s.arg m 0 4 / 4096 * 4096)
  let hi := asWord (s.arg m 4 2)
  let n := asWord (max 1 (s.arg m 8 2))
  let refused : Bool := s.on fTLM_CTL_EN && !(s.reg TLM_BASE_LO = lo && s.reg TLM_BASE_HI = hi && s.reg TLM_COUNT = n)
  let ring := [(TLM_BASE_LO, lo), (TLM_BASE_HI, hi), (TLM_COUNT, n)]
  if refused then s.fwJudged ring true false fun _ => []
  else s.fwDo (ring ++ [(TLM_CTL, asWord (b2n (s.arg m 10 1 ≠ 0)))]) fun s => s.rd TLM_SEQ 4

/-- GET_ENERGY; the read of the lower half captures the upper (R458). -/
def State.opEnergy (s : State) (m : Nat) : State × Ans :=
  let b := s.arg m 0 1
  if 17 ≤ b then (s, .badIndex) else (s.capture (NRG_PART_LO b), .ok (leBytes (s.acc b) 8))

/-- CLEAR_ENERGY. -/
def State.opClearEnergy (s : State) (m : Nat) : State × Ans := s.fwDo [(NRG_CLR, asWord (s.arg m 0 4))] fun _ => []

/-- SET_PARTITIONS. -/
def State.opPartitions (s : State) (m : Nat) : State × Ans :=
  s.fwDo [(NRG_CTL, setBits (s.reg NRG_CTL) 0 16 (s.arg m 0 2))] fun s => s.fd fNRG_CTL_PEN 2

/-- SET_WATCH. -/
def State.opSetWatch (s : State) (m : Nat) : State × Ans :=
  let w := s.arg m 0 1
  let d := s.arg m 1 1
  if 8 ≤ w || 32 ≤ d then (s, .badIndex) else s.fwDo [(NRG_WATCH w, asWord (d + 256 * b2n (s.arg m 2 1 ≠ 0)))] fun _ => []

/-- GET_WATCH; the read of the lower half of the timestamp captures the upper (R652). -/
def State.opGetWatch (s : State) (m : Nat) : State × Ans :=
  let w := s.arg m 0 1
  if 8 ≤ w then (s, .badIndex)
  else (s.capture (NRG_WTS_LO w),
    .ok (s.fd (fNRG_WMIN_CODE w) 2 ++ s.fd (fNRG_WMIN_STATION w) 2 ++ leBytes (tblGet (fun _ => 0) s.nrg.wts w) 8))

/-! ### Groups 0x05 and 0x06: tracts and setting-out -/

/-- GET_TRACT. -/
def State.opTract (s : State) (m : Nat) : State × Ans :=
  let t := s.arg m 0 1
  (s, if 64 ≤ t then .badIndex else
    .ok (s.rd (TRC_TSTAT t) 4 ++ leBytes (s.dutyNow t) 2 ++ s.fd (fSTN_MIN_CODE t) 2 ++ s.fd (fTRC_IMEAS_I t) 2 ++ s.rd (CG_TSTAT t) 4))

/-- SET_TRACT_LIMIT. -/
def State.opTractLimit (s : State) (m : Nat) : State × Ans :=
  let t := s.arg m 0 1
  if 64 ≤ t then (s, .badIndex)
  else s.fwDo [(TRC_LIM t, setBits (s.reg (TRC_LIM t)) 0 9 (s.arg m 1 2)), (TRC_FLOOR t, setBits (s.reg (TRC_FLOOR t)) 0 8 (s.arg m 3 1))]
    fun s => s.fd (fTRC_LIM_ILIM t) 2 ++ s.fd (fTRC_FLOOR_DEPTH t) 1

/-- RESET_TRACT. -/
def State.opResetTract (s : State) (m : Nat) : State × Ans :=
  let t := s.arg m 0 1
  if 64 ≤ t then (s, .badIndex)
  else
    let refused : Bool := s.loopState t ≠ 0 || s.on fTRC_ENG_FAILOVER || s.on fBLK_TRST_BUSY
    s.fwJudged [(BLK_TRST, asWord (2 ^ 31 + t))] refused false fun s => leBytes (s.loopState t) 1

/-- SO_WINDOW; the window does not change while EN is 1 (R209). -/
def State.opSoWindow (s : State) (m : Nat) : State × Ans :=
  s.fwJudged [(SO_WIN_BASE, asWord (s.arg m 0 8 / 65536)), (SO_WIN_LIMIT, asWord (s.arg m 8 8 / 65536))] (s.on fSO_CTL_EN) false fun _ => []

/-- SO_ENABLE; STATE where a write of 1 to EN leaves it 0 (R209, R614). -/
def State.opSoEnable (s : State) (m : Nat) : State × Ans :=
  let en : Bool := s.arg m 0 1 ≠ 0
  let p := s.fwStores [(SO_CTL, bitWord 0 en ||| bitWord 1 (s.arg m 1 1 ≠ 0))]
  let b := p.1.fd fSO_GEN_GEN 2 ++ p.1.fd fSO_GEN_VALID 1
  (p.1, if !p.2 then .bounds b else if en && !p.1.on fSO_CTL_EN then .refused else .ok b)

/-- SO_COUNTERS. -/
def State.opSoCounters (s : State) (m : Nat) : State × Ans :=
  let q := s.arg m 0 1
  (s, if 16 ≤ q then .badIndex else
    .ok (s.rd (SO_ACC_USED q) 4 ++ s.rd (SO_ACC_STALE q) 4 ++ s.rd (SO_TIME_EARLY q) 4 ++ s.rd (SO_TIME_SHORT q) 4
      ++ s.rd (SO_TIME_MISS q) 4 ++ s.rd SO_PEG_DROP 4))

/-- SO_TRACT_PATH. -/
def State.opSoTractPath (s : State) (m : Nat) : State × Ans :=
  let t := s.arg m 0 1
  if 64 ≤ t then (s, .badIndex)
  else s.fwDo [(SO_TRK_PATH t, asWord (s.arg m 3 2 * 2 ^ 16 + s.arg m 1 2)), (SO_TRK_FF t, asWord (s.arg m 5 2)),
    (CG_TRK t, setBits (s.reg (CG_TRK t)) 24 8 (s.arg m 7 1))] fun _ => []

/-! ### Groups 0x07-0x09: thermal, faults and converters -/

/-- GET_THERMAL. -/
def State.opThermal (s : State) : State × Ans := (s, .ok (s.rd THM_STATE 4 ++ s.rd THM_SUSP0 4 ++ s.rd THM_SUSP1 4))

/-- GET_SITE. -/
def State.opSite (s : State) (m : Nat) : State × Ans :=
  let t := s.arg m 0 1
  (s, if 64 ≤ t then .badIndex else .ok (s.rd (THM_SITE t) 4 ++ s.rd (THM_RAW t) 4 ++ s.fd (fTHM_TDUTY_N t) 1))

/-- CLEAR_SITE. -/
def State.opClearSite (s : State) (m : Nat) : State × Ans :=
  let t := s.arg m 0 1
  if 64 ≤ t then (s, .badIndex) else s.fwDo [(THM_SUSP0 + 4 * (t / 32), asWord (2 ^ (t % 32)))] fun _ => []

/-- GET_FAULTS. -/
def State.opFaults (s : State) : State × Ans := (s, .ok (s.rd FLT_SUM 4 ++ s.rd FLT_LAST 4 ++ s.rd FLT_COUNT 4 ++ s.rd FLT_PIN 1))

/-- READ_BOOK: a slot of a block's field book; STATE while BOOK is not on, or where the slot reads with an uncorrectable
error, which is counted (R611). -/
def State.opReadBook (s : State) (m : Nat) : State × Ans :=
  let n := s.arg m 0 1
  let k := s.arg m 1 1
  let a := bookSlot n k
  if 22 ≤ n || 8 ≤ k then (s, .badIndex)
  else if s.memPower 4 ≠ 2 then (s, .refused)
  else if s.memBad 4 a 16 then ((s.addSat (fMEM_MSTAT_UNCORR 4) 1).raiseD evMEM_UNCORR 4 (if s.memBad 4 a 8 then a else a + 8), .refused)
  else (s.corrects 4 a 16, .ok (memBytes s.book a 16 ++ s.rd (bookReg n) 4))

/-- RELEASE_PIN. -/
def State.opReleasePin (s : State) : State × Ans := s.fwDo [(FLT_PIN, 0)] fun s => s.rd FLT_PIN 1

/-- SET_SEVERITY of a status bit that the block has. -/
def State.opSeverity (s : State) (m : Nat) : State × Ans :=
  let n := s.arg m 0 1
  let b := s.arg m 1 1
  let r := blockBase n + 8
  if 22 ≤ n || !bitN (statMask n) b then (s, .badIndex) else s.fwDo [(r, setBits (s.reg r) (2 * b) 2 (s.arg m 2 1))] fun _ => []

/-- ADC_SET_TRIM. -/
def State.opSetTrim (s : State) (m : Nat) : State × Ans :=
  let k := s.arg m 0 1
  let i := s.arg m 1 1
  if 2 ≤ k || 48 ≤ i then (s, .badIndex) else s.fwDo [(ADC_CAL k i, asWord (s.arg m 2 2 * 2 ^ 16 + s.arg m 4 2))] fun _ => []

/-- The trims of a converter at an index, gain before offset. -/
def State.trimBytes (s : State) (k i : Nat) : List Byte := s.fd (fADC_CAL_GAIN k i) 2 ++ s.fd (fADC_CAL_OFFSET k i) 2

/-- ADC_GET_TRIM. -/
def State.opGetTrim (s : State) (m : Nat) : State × Ans :=
  let k := s.arg m 0 1
  let i := s.arg m 1 1
  (s, if 2 ≤ k || 48 ≤ i then .badIndex else .ok (s.trimBytes k i))

/-! ### Groups 0x0A-0x0C: power states, memories and the traverse -/

/-- PST_SET_WAKE. -/
def State.opSetWake (s : State) (m : Nat) : State × Ans :=
  s.fwDo [(PST_WAKE, asWord (s.arg m 0 1 % 128)), (PST_WTIMER, asWord (s.arg m 1 4))] fun _ => []

/-- PST_GET. -/
def State.opPstGet (s : State) : State × Ans := (s, .ok (s.rd PST_STATE 4 ++ s.rd PST_BASE 4))

/-- MEM_STATUS. -/
def State.opMemStatus (s : State) (m : Nat) : State × Ans :=
  let k := s.arg m 0 1
  (s, if 6 ≤ k then .badIndex else .ok (leBytes (s.memOwner k) 1 ++ leBytes (s.memPower k) 1 ++ s.rd (MEM_MSTAT k) 4))

/-- MEM_OWNER (R613). -/
def State.opMemOwner (s : State) (m : Nat) : State × Ans :=
  let k := s.arg m 0 1
  let o := s.arg m 1 1 % 8
  if 6 ≤ k then (s, .badIndex)
  else s.fwJudged [(MEM_OWNER, setBits (s.reg MEM_OWNER) (3 * k) 3 o)] (o ≠ s.memOwner k && !s.ownerAllowed k o) false
    fun s => leBytes (s.memOwner k) 1

/-- MEM_TEST. -/
def State.opMemTest (s : State) (m : Nat) : State × Ans :=
  s.fwDo [(MEM_TEST, asWord (s.arg m 1 1 % 64 * 256 + s.arg m 0 1))] fun _ => []

/-- The registers of an epoch, written before GO (R543). -/
def State.epochWrites (s : State) (m : Nat) : List (Nat × Word) :=
  [(TRV_EPOCH_CAP, asWord (s.arg m 0 4)), (TRV_EPOCH_TS_LO, asWord (s.arg m 4 4)), (TRV_EPOCH_TS_HI, asWord (s.arg m 8 4))]

/-- SUBMIT_EPOCH on the principal. -/
def State.opEpoch (s : State) (m : Nat) : State × Ans :=
  let p := s.fwStores (s.epochWrites m ++ [(TRV_EPOCH_GO, 1)])
  let b := p.1.fd fTRV_EPOCH_STAT_RESULT 1
  (p.1, if !p.2 then .bounds b else if p.1.get fTRV_EPOCH_STAT_RESULT = 2 then .refused else .ok b)

/-- GET_TRAVERSE. -/
def State.opTraverse (s : State) : State × Ans := (s, .ok (s.rd TRV_STATE 4 ++ s.rd TRV_PSUM 4 ++ s.rd TRV_TOFS 2))

/-- GET_TIME. -/
def State.opTime (s : State) : State × Ans := (s.capture TRV_TIME_LO, .ok (leBytes s.ts.toNat 8))

/-- What firmware does for a simple command. -/
def State.simple (s : State) (m op : Nat) : State × Ans :=
  match op with
  | 0x0101 => s.opIdentity
  | 0x0102 => s.opUptime
  | 0x0201 => s.opDieLimit m
  | 0x0202 => s.opPkgCap m
  | 0x0203 => s.opCapState
  | 0x0204 => s.opClass m
  | 0x0303 => s.opVoltage m
  | 0x0304 => s.opGrade m
  | 0x0305 => s.opDomain m
  | 0x0401 => s.opTlmConfig m
  | 0x0402 => s.opEnergy m
  | 0x0403 => s.opClearEnergy m
  | 0x0404 => s.opPartitions m
  | 0x0405 => s.opSetWatch m
  | 0x0406 => s.opGetWatch m
  | 0x0503 => s.opTract m
  | 0x0504 => s.opTractLimit m
  | 0x0505 => s.opResetTract m
  | 0x0601 => s.opSoWindow m
  | 0x0602 => s.opSoEnable m
  | 0x0603 => s.opSoCounters m
  | 0x0604 => s.opSoTractPath m
  | 0x0701 => s.opThermal
  | 0x0702 => s.opSite m
  | 0x0703 => s.opClearSite m
  | 0x0801 => s.opFaults
  | 0x0802 => s.opReadBook m
  | 0x0803 => s.opReleasePin
  | 0x0804 => s.opSeverity m
  | 0x0902 => s.opSetTrim m
  | 0x0903 => s.opGetTrim m
  | 0x0A02 => s.opSetWake m
  | 0x0A03 => s.opPstGet
  | 0x0B01 => s.opMemStatus m
  | 0x0B03 => s.opMemOwner m
  | 0x0B04 => s.opMemTest m
  | 0x0C01 => s.opEpoch m
  | 0x0C02 => s.opTraverse
  | 0x0C03 => s.opTime
  | _ => (s, .unknown)

/-! ### Long commands: how each begins -/

/-- A long command begun, or answered at once. -/
abbrev Begun := State × Option Ans

/-- Writes that a block rule or the cadastre may refuse, as the beginning of a long command. -/
def State.beginWith (s : State) (ws : List (Nat × Word)) (refused : Bool) : Begun :=
  let p := s.fwStores ws
  (p.1, if !p.2 then some (.bounds []) else if refused then some .refused else none)

/-- SET_PKG_CAP on a member: a REQ frame to the principal (R543). -/
def State.longPkgCap (s : State) (m : Nat) : Begun :=
  if s.fwMay CAP_PKG then (s.submitCap (s.arg m 0 4 % 2 ^ 20) (some m), none) else s.beginWith [(CAP_PKG, asWord (s.arg m 0 4))] false

/-- DOM_ON. -/
def State.longDomOn (s : State) (m : Nat) : Begun :=
  let d := s.arg m 0 1
  s.beginWith [(DOM_CTL d, 1)] (s.domState d = 0 || !(s.mayStart d && s.runOrIdle && !s.shut))

/-- DOM_OFF. -/
def State.longDomOff (s : State) (m : Nat) : Begun :=
  let d := s.arg m 0 1
  let full : Bool := s.arg m 1 1 ≠ 0
  let st := s.domState d
  s.beginWith [(DOM_CTL d, bitWord 1 true ||| bitWord 2 full)] !((st = 2 && full) || st = 3 || st = 4)

/-- RETUNE: the tract is opened; BOUNDS where the coefficient window is withheld (R187). -/
def State.longRetune (s : State) (m : Nat) : Begun :=
  let t := s.arg m 0 1
  if !s.fwMay (0x28000 + 64 * t) then (s, some (.bounds []))
  else
    let r := s.beginWith [(TRC_OPEN t, 1)] false
    (r.1, if r.2.isSome then r.2 else if r.1.loopState t = 1 && s.loopState t ≠ 1 then none else some .refused)

/-- READMIT_CELL of a latched cell. -/
def State.longReadmit (s : State) (m : Nat) : Begun :=
  let c := s.arg m 0 2
  if s.mode c ≠ 7 then (s, some .refused)
  else
    let s1 := s.readmit c
    (s1, if s.isOn (s.domOf (c / 4)) then none else some (.ok (leBytes (s1.mode c) 1)))

/-- ADC_CALIBRATE. -/
def State.longCalibrate (s : State) (m : Nat) : Begun :=
  let w := asWord (s.arg m 2 1 * 256 + s.arg m 0 1 * 64 + s.arg m 1 1)
  let probe := s.setReg ADC_CALCMD w
  s.beginWith [(ADC_CALTGT, asWord (s.arg m 5 2 * 2 ^ 16 + s.arg m 3 2)), (ADC_CALCMD, w ||| 0x80000000#32)]
    (probe.calBarred || (s.arg m 2 1 = 2 && !probe.calSel.all probe.calAble))

/-- MEM_POWER (R615). -/
def State.longMemPower (s : State) (m : Nat) : Begun :=
  let k := s.arg m 0 1
  let x := s.arg m 1 1 % 4
  let cur := s.memPower k
  s.beginWith [(MEM_PWR, setBits (s.reg MEM_PWR) (2 * k) 2 x)] (x ≠ cur && (x = 3 || (cur = 2 && !s.mayUnpower k)))

/-- SUBMIT_EPOCH on a member: the registers written, and a REQ frame to the principal (R543, R545). -/
def State.longEpoch (s : State) (m : Nat) : Begun :=
  let r := s.beginWith (s.epochWrites m) false
  if r.2.isSome then r else (r.1.submitEpoch (s.arg m 0 4 % 2 ^ 20) (s.arg m 4 8) (some m), none)

/-- PST_ENTER: a write of PST_REQ with GO. -/
def State.longPstEnter (s : State) (m : Nat) : Begun :=
  let x := s.arg m 0 1 % 8
  s.beginWith [(PST_REQ, asWord (8 + x))] (s.refusesEntry x)

/-- How a long command begins. -/
def State.longBegin (s : State) (m op : Nat) : Begun :=
  match op with
  | 0x0202 => s.longPkgCap m
  | 0x0301 => s.longDomOn m
  | 0x0302 => s.longDomOff m
  | 0x0501 => s.longRetune m
  | 0x0502 => s.longReadmit m
  | 0x0901 => s.longCalibrate m
  | 0x0A01 => s.longPstEnter m
  | 0x0B02 => s.longMemPower m
  | 0x0C01 => s.longEpoch m
  | _ => (s, some .unknown)

/-- Whether the arguments of a long command name units in range (R598). -/
def State.longInRange (s : State) (m op : Nat) : Bool :=
  match op with
  | 0x0301 | 0x0302 => s.arg m 0 1 < 32
  | 0x0501 => s.arg m 0 1 < 64 && s.arg m 1 1 < 2
  | 0x0502 => s.arg m 0 2 < 256
  | 0x0901 => s.arg m 0 1 < 4 && s.arg m 1 1 < 48 && 1 ≤ s.arg m 2 1 && s.arg m 2 1 ≤ 3
  | 0x0B02 => s.arg m 0 1 < 6
  | _ => true

/-- The unit that a long command acts on. -/
def State.longUnit (s : State) (m op : Nat) : Nat := if op = 0x0502 then s.arg m 0 2 else s.arg m 0 1

/-- A long command noted on its channel. -/
def State.noteLong (s : State) (m : Nat) (started : Bool) : State :=
  let op := s.reqOp m
  s.updChan m fun c => { c with long := some { op := op, unit := s.longUnit m op, sinceAt := s.now, started := started } }

/-- What answers a long command before anything is done. -/
def State.longCheck (s : State) (m op : Nat) : Option Ans :=
  if argLen op ≠ some (s.reqLen m) then some .badLength else if s.longInRange m op then none else some .badIndex

/-- A long command, begun from an acknowledged request: answered at once, or posted as ACCEPTED and begun. PST_ENTER is
accepted before the write, whose refusal or denial is its final answer. -/
def State.startLong (s : State) (m op : Nat) : State :=
  match s.longCheck m op with
  | some a => s.reply m a
  | none =>
    if op = 0x0A01 then
      let r := ((s.noteLong m true).post m 7 0 []).longBegin m op
      match r.2 with | none => r.1 | some a => r.1.reply m a
    else
      let s1 := s.noteLong m true
      let r := s1.longBegin m op
      match r.2 with | none => r.1.post m 7 0 [] | some a => r.1.reply m a

/-- A long command that was accepted before it began. -/
def State.startAccepted (s : State) (m op : Nat) : State :=
  let r := (s.noteLong m true).longBegin m op
  match r.2 with | none => r.1 | some a => r.1.reply m a

/-! ### Long commands: how each ends -/

/-- A result, TIMEOUT once the bound has passed, or nothing yet. -/
def State.endBy (s : State) (o : LongOp) (bound : Nat) (a : Option Ans) : Option Ans :=
  if a.isSome then a else if o.sinceAt + bound ≤ s.now then some .late else none

/-- DOM_ON: On, or switched off meanwhile. -/
def State.endDomOn (s : State) (o : LongOp) : Option Ans :=
  let st := s.domState o.unit
  s.endBy o 250000000 (if st = 4 then some (.ok (leBytes st 1)) else if st = 3 then none else some .refused)

/-- DOM_OFF: in Retention or Off, or switched on meanwhile. -/
def State.endDomOff (s : State) (o : LongOp) : Option Ans :=
  let st := s.domState o.unit
  s.endBy o 250000000 (if st = 1 || st = 2 then some (.ok (leBytes st 1)) else if st = 5 then none else some .refused)

/-- RETUNE: its CLOSE has been written and the tract is in no open-hold; TIMEOUT where the open-hold ended without it. -/
def State.endRetune (s : State) (o : LongOp) : Option Ans :=
  let st := s.loopState o.unit
  if st = 1 || st = 2 || st = 3 || st = 6 then none else if o.result.isSome then some (.ok (leBytes st 1)) else some .late

/-- READMIT_CELL: at its share target, latched again, or off with its domain. -/
def State.endReadmit (s : State) (o : LongOp) : Option Ans :=
  let m := s.mode o.unit
  s.endBy o 5000000 (if m = 7 || (!(s.cell o.unit).rejoin && m ≠ 6) then some (.ok (leBytes m 1)) else none)

/-- ADC_CALIBRATE: the step is done. -/
def State.endCalibrate (s : State) (m : Nat) (o : LongOp) : Option Ans :=
  let i := s.arg m 1 1
  s.endBy o 250000 (if s.on fADC_STATE_CAL_BUSY then none else if s.adc.calRange then some .refused
    else some (.ok (s.trimBytes 0 i ++ s.trimBytes 1 i)))

/-- PST_ENTER: after the wake, or an abort. -/
def State.endPstEnter (s : State) : Option Ans :=
  if s.on fPST_STATE_ENTERING || !s.runOrIdle then none
  else some (if s.pst.aborted then .refused else .ok (s.fd fPST_STATE_LASTWAKE 1 ++ s.fd fPST_STATE_STATE 1))

/-- MEM_POWER: the state asked for is in force. -/
def State.endMemPower (s : State) (m : Nat) (o : LongOp) : Option Ans :=
  let x := s.arg m 1 1 % 4
  s.endBy o 200000 (if s.memPower o.unit = x then some (.ok (leBytes x 1)) else none)

/-- A relayed command: the principal's answer, or its loss (R545). -/
def State.endRelay (s : State) (o : LongOp) : Option Ans :=
  match o.result with
  | none => none
  | some 3 => some .late
  | some 1 => some .refused
  | some r => some (.ok (if o.op = 0x0202 then s.rd CAP_PKG 4 else [if r = 2 then 3 else 1]))

/-- The final answer of a long command, once there is one. -/
def State.longEnd (s : State) (m : Nat) (o : LongOp) : Option Ans :=
  match o.op with
  | 0x0301 => s.endDomOn o
  | 0x0302 => s.endDomOff o
  | 0x0501 => s.endRetune o
  | 0x0502 => s.endReadmit o
  | 0x0901 => s.endCalibrate m o
  | 0x0A01 => s.endPstEnter
  | 0x0B02 => s.endMemPower m o
  | _ => s.endRelay o

/-- The window writes and the CLOSE of a RETUNE, made once its tract is in open-hold. -/
def State.finishRetune (s : State) (m : Nat) (o : LongOp) : State :=
  if s.loopState o.unit = 2 && (s.tract o.unit).staging.isSome && o.result.isNone then
    let p := s.fwStores (s.retuneWrites m)
    p.1.updChan m fun c => { c with long := c.long.map fun o => { o with result := some 1 } }
  else s

/-- The next step of a long command that has begun: a RETUNE makes its writes, and a command whose end has come answers. -/
def State.continueLong (s : State) (m : Nat) (o : LongOp) : State :=
  if o.op = 0x0501 && o.result.isNone && s.loopState o.unit = 2 then s.finishRetune m o
  else match s.longEnd m o with
    | none => s
    | some a => s.reply m a

/-- Retunes whose channel an interface reset has emptied make their writes too (R604). -/
def State.finishOrphans (s : State) : State :=
  let due := s.core.orphans.filter fun e => s.loopState e.1 = 2 && (s.tract e.1).staging.isSome
  let s1 := { s with core := { s.core with orphans := s.core.orphans.filter fun e => s.loopState e.1 = 1 || (s.loopState e.1 = 2 && (s.tract e.1).staging.isNone) } }
  due.foldl (fun s e => (s.fwStores e.2).1) s1

/-! ### Serving a channel -/

/-- What firmware does next for the request of a channel that it serves. -/
def State.serve (s : State) (m op : Nat) : State :=
  if s.chanState m = 2 then
    if s.isLong op then s.startLong m op
    else if argLen op ≠ some (s.reqLen m) then s.reply m .badLength
    else
      let p := s.simple m op
      p.1.reply m p.2
  else if s.chanState m = 3 then
    match (s.chan m).long with
    | none => s
    | some o => if o.op ≠ op then s else if o.started then s.continueLong m o else s.startAccepted m op
  else s

/-- Firmware serves an acknowledged or accepted request of a channel for an opcode, out of Idle (R295). -/
def State.perform (s : State) (m op : Nat) : State := if s.serves m op then s.coreWake.serve m op else s

/-- A row of Table 14.6 as a command of the block: firmware serves the channel, where it holds that command. -/
def State.row (s : State) (m : Fin 8) (op : Nat) : Host.Outcome State Fault Refusal := .next (s.perform m op)

/-- MBX_ACCEPTED: ACCEPTED is posted for a long command before it begins (R595). -/
def execMbxAccepted (m : Fin 8) (s : State) : Host.Outcome State Fault Refusal :=
  let op := s.reqOp m
  .next (if s.chanState m = 2 && s.serves m op && s.isLong op && (s.longCheck m op).isNone then (s.noteLong m false).post m 7 0 [] else s)

/-- MBX_RESPONSE: the final response of the request that the channel holds, once its command can give it (R595). -/
def execMbxResponse (m : Fin 8) (s : State) : Host.Outcome State Fault Refusal :=
  let op := s.reqOp m
  .next (if s.chanState m = 2 && s.isLong op && (s.longCheck m op).isNone then s else s.perform m op)

/-- UNKNOWN_OPCODE: UNSUPPORTED, for an opcode that Ibsel lacks or a group that the channel does not accept (R590, R599). -/
def execUnknownOpcode (m : Fin 8) (s : State) : Host.Outcome State Fault Refusal :=
  let op := s.reqOp m
  .next (if s.chanState m = 2 && !s.coreDown && !s.coreAsleep then
      if (argLen op).isNone then s.reply m .unknown else if groupOn m op then s else s.reply m .barred
    else s)

/-! ### The rows of Table 14.6 -/

/-- The commands of Ibsel, by their opcodes (R599). -/
def execGetIdentity (m : Fin 8) (s : State) : Host.Outcome State Fault Refusal := s.row m 0x0101
def execGetUptime (m : Fin 8) (s : State) : Host.Outcome State Fault Refusal := s.row m 0x0102
def execSetDieLimit (m : Fin 8) (s : State) : Host.Outcome State Fault Refusal := s.row m 0x0201
def execSetPkgCap (m : Fin 8) (s : State) : Host.Outcome State Fault Refusal := s.row m 0x0202
def execGetCapState (m : Fin 8) (s : State) : Host.Outcome State Fault Refusal := s.row m 0x0203
def execGetClass (m : Fin 8) (s : State) : Host.Outcome State Fault Refusal := s.row m 0x0204
def execDomOn (m : Fin 8) (s : State) : Host.Outcome State Fault Refusal := s.row m 0x0301
def execDomOff (m : Fin 8) (s : State) : Host.Outcome State Fault Refusal := s.row m 0x0302
def execSetVoltage (m : Fin 8) (s : State) : Host.Outcome State Fault Refusal := s.row m 0x0303
def execSetGrade (m : Fin 8) (s : State) : Host.Outcome State Fault Refusal := s.row m 0x0304
def execGetDomain (m : Fin 8) (s : State) : Host.Outcome State Fault Refusal := s.row m 0x0305
def execTlmConfig (m : Fin 8) (s : State) : Host.Outcome State Fault Refusal := s.row m 0x0401
def execGetEnergy (m : Fin 8) (s : State) : Host.Outcome State Fault Refusal := s.row m 0x0402
def execClearEnergy (m : Fin 8) (s : State) : Host.Outcome State Fault Refusal := s.row m 0x0403
def execSetPartitions (m : Fin 8) (s : State) : Host.Outcome State Fault Refusal := s.row m 0x0404
def execSetWatch (m : Fin 8) (s : State) : Host.Outcome State Fault Refusal := s.row m 0x0405
def execGetWatch (m : Fin 8) (s : State) : Host.Outcome State Fault Refusal := s.row m 0x0406
def execRetune (m : Fin 8) (s : State) : Host.Outcome State Fault Refusal := s.row m 0x0501
def execReadmitCell (m : Fin 8) (s : State) : Host.Outcome State Fault Refusal := s.row m 0x0502
def execGetTract (m : Fin 8) (s : State) : Host.Outcome State Fault Refusal := s.row m 0x0503
def execSetTractLimit (m : Fin 8) (s : State) : Host.Outcome State Fault Refusal := s.row m 0x0504
def execResetTract (m : Fin 8) (s : State) : Host.Outcome State Fault Refusal := s.row m 0x0505
def execSoWindow (m : Fin 8) (s : State) : Host.Outcome State Fault Refusal := s.row m 0x0601
def execSoEnable (m : Fin 8) (s : State) : Host.Outcome State Fault Refusal := s.row m 0x0602
def execSoCounters (m : Fin 8) (s : State) : Host.Outcome State Fault Refusal := s.row m 0x0603
def execSoTractPath (m : Fin 8) (s : State) : Host.Outcome State Fault Refusal := s.row m 0x0604
def execGetThermal (m : Fin 8) (s : State) : Host.Outcome State Fault Refusal := s.row m 0x0701
def execGetSite (m : Fin 8) (s : State) : Host.Outcome State Fault Refusal := s.row m 0x0702
def execClearSite (m : Fin 8) (s : State) : Host.Outcome State Fault Refusal := s.row m 0x0703
def execGetFaults (m : Fin 8) (s : State) : Host.Outcome State Fault Refusal := s.row m 0x0801
def execReadBook (m : Fin 8) (s : State) : Host.Outcome State Fault Refusal := s.row m 0x0802
def execReleasePin (m : Fin 8) (s : State) : Host.Outcome State Fault Refusal := s.row m 0x0803
def execSetSeverity (m : Fin 8) (s : State) : Host.Outcome State Fault Refusal := s.row m 0x0804
def execAdcCalibrate (m : Fin 8) (s : State) : Host.Outcome State Fault Refusal := s.row m 0x0901
def execAdcSetTrim (m : Fin 8) (s : State) : Host.Outcome State Fault Refusal := s.row m 0x0902
def execAdcGetTrim (m : Fin 8) (s : State) : Host.Outcome State Fault Refusal := s.row m 0x0903
def execPstEnter (m : Fin 8) (s : State) : Host.Outcome State Fault Refusal := s.row m 0x0A01
def execPstSetWake (m : Fin 8) (s : State) : Host.Outcome State Fault Refusal := s.row m 0x0A02
def execPstGet (m : Fin 8) (s : State) : Host.Outcome State Fault Refusal := s.row m 0x0A03
def execMemStatus (m : Fin 8) (s : State) : Host.Outcome State Fault Refusal := s.row m 0x0B01
def execMemPower (m : Fin 8) (s : State) : Host.Outcome State Fault Refusal := s.row m 0x0B02
def execMemOwner (m : Fin 8) (s : State) : Host.Outcome State Fault Refusal := s.row m 0x0B03
def execMemTest (m : Fin 8) (s : State) : Host.Outcome State Fault Refusal := s.row m 0x0B04
def execSubmitEpoch (m : Fin 8) (s : State) : Host.Outcome State Fault Refusal := s.row m 0x0C01
def execGetTraverse (m : Fin 8) (s : State) : Host.Outcome State Fault Refusal := s.row m 0x0C02
def execGetTime (m : Fin 8) (s : State) : Host.Outcome State Fault Refusal := s.row m 0x0C03

end Sys2Proof.Machine
end

