-- ==== Sys2Proof/Machine/Dispatch.lean ====
section
/-! DEFINITION. One arm per command: its meaning, by one direct call. -/

namespace Sys2Proof.Machine

def exec (i : Instr) (s : State) : Host.Outcome State Fault Refusal :=
  match i with
  | .registerWrite p off strb v => Sys2Proof.Machine.execRegisterWrite p off strb v s
  | .captureRead p off => Sys2Proof.Machine.execCaptureRead p off s
  | .powerOnReset => Sys2Proof.Machine.execPowerOnReset s
  | .porRelease rise vsel => Sys2Proof.Machine.execPorRelease rise vsel s
  | .aonRstReq => Sys2Proof.Machine.execAonRstReq s
  | .hostPwrgdFall => Sys2Proof.Machine.execHostPwrgdFall s
  | .hostPwrgdRise => Sys2Proof.Machine.execHostPwrgdRise s
  | .axiReset => Sys2Proof.Machine.execAxiReset s
  | .syncInLoss => Sys2Proof.Machine.execSyncInLoss s
  | .syncInReturn => Sys2Proof.Machine.execSyncInReturn s
  | .pllLock => Sys2Proof.Machine.execPllLock s
  | .wsBypass port => Sys2Proof.Machine.execWsBypass port s
  | .wsExtest port => Sys2Proof.Machine.execWsExtest port s
  | .wsIntest port => Sys2Proof.Machine.execWsIntest port s
  | .wsMbist port => Sys2Proof.Machine.execWsMbist port s
  | .announce q mark => Sys2Proof.Machine.execAnnounce q mark s
  | .arrive q mark => Sys2Proof.Machine.execArrive q mark s
  | .fetchIssue => Sys2Proof.Machine.execFetchIssue s
  | .headerReadDone rid ok bytes => Sys2Proof.Machine.execHeaderReadDone rid ok bytes s
  | .recordReadDone rid ok bytes => Sys2Proof.Machine.execRecordReadDone rid ok bytes s
  | .rereadDone rid ok bytes => Sys2Proof.Machine.execRereadDone rid ok bytes s
  | .fetchTimeout rid => Sys2Proof.Machine.execFetchTimeout rid s
  | .liftStart idx => Sys2Proof.Machine.execLiftStart idx s
  | .stepEnd idx => Sys2Proof.Machine.execStepEnd idx s
  | .markMiss idx => Sys2Proof.Machine.execMarkMiss idx s
  | .soCtlEnSet p clr => Sys2Proof.Machine.execSoCtlEnSet p clr s
  | .soCtlEnClear p clr => Sys2Proof.Machine.execSoCtlEnClear p clr s
  | .soCtlClr p en => Sys2Proof.Machine.execSoCtlClr p en s
  | .gateReq t n => Sys2Proof.Machine.execGateReq t n s
  | .gateLink t => Sys2Proof.Machine.execGateLink t s
  | .activityIncrement c n tag => Sys2Proof.Machine.execActivityIncrement c n tag s
  | .pauseSlot => Sys2Proof.Machine.execPauseSlot s
  | .frameStart uv isns peaks tripped => Sys2Proof.Machine.execFrameStart uv isns peaks tripped s
  | .stationSuspect t => Sys2Proof.Machine.execStationSuspect t s
  | .stnSuspClear p t m => Sys2Proof.Machine.execStnSuspClear p t m s
  | .tractSample t ecc residueOk => Sys2Proof.Machine.execTractSample t ecc residueOk s
  | .tractSampleLate t => Sys2Proof.Machine.execTractSampleLate t s
  | .floorPauseEnd t => Sys2Proof.Machine.execFloorPauseEnd t s
  | .normUpdate uv => Sys2Proof.Machine.execNormUpdate uv s
  | .presentCodeStep c => Sys2Proof.Machine.execPresentCodeStep c s
  | .softStartDelayEnd d => Sys2Proof.Machine.execSoftStartDelayEnd d s
  | .softStopDelayEnd d => Sys2Proof.Machine.execSoftStopDelayEnd d s
  | .phaseOffsetStep c => Sys2Proof.Machine.execPhaseOffsetStep c s
  | .shareUpdate => Sys2Proof.Machine.execShareUpdate s
  | .shareSat c => Sys2Proof.Machine.execShareSat c s
  | .zcdRise c ph => Sys2Proof.Machine.execZcdRise c ph s
  | .zcdStuck c z => Sys2Proof.Machine.execZcdStuck c z s
  | .snap trip => Sys2Proof.Machine.execSnap trip s
  | .snapLockoutEnd t m => Sys2Proof.Machine.execSnapLockoutEnd t m s
  | .snapPauseEnd t => Sys2Proof.Machine.execSnapPauseEnd t s
  | .cmpStuck stn => Sys2Proof.Machine.execCmpStuck stn s
  | .shortCondA d => Sys2Proof.Machine.execShortCondA d s
  | .shortCondB c => Sys2Proof.Machine.execShortCondB c s
  | .hiccupEnd c => Sys2Proof.Machine.execHiccupEnd c s
  | .retryCountReset c => Sys2Proof.Machine.execRetryCountReset c s
  | .cellOpen c => Sys2Proof.Machine.execCellOpen c s
  | .trcOpen p t v => Sys2Proof.Machine.execTrcOpen p t v s
  | .openHoldBegin t => Sys2Proof.Machine.execOpenHoldBegin t s
  | .coefWindowAccess p t set j wr => Sys2Proof.Machine.execCoefWindowAccess p t set j wr s
  | .trcClose p t => Sys2Proof.Machine.execTrcClose p t s
  | .loopClose t ecc => Sys2Proof.Machine.execLoopClose t ecc s
  | .openHoldTimeout t => Sys2Proof.Machine.execOpenHoldTimeout t s
  | .setSwitchClose t => Sys2Proof.Machine.execSetSwitchClose t s
  | .engineFail e => Sys2Proof.Machine.execEngineFail e s
  | .failoverSeed t ecc => Sys2Proof.Machine.execFailoverSeed t ecc s
  | .failoverGroupClose g => Sys2Proof.Machine.execFailoverGroupClose g s
  | .failoverPauseLift g => Sys2Proof.Machine.execFailoverPauseLift g s
  | .inrushCompare d => Sys2Proof.Machine.execInrushCompare d s
  | .inrushWaitExpiry d => Sys2Proof.Machine.execInrushWaitExpiry d s
  | .headerStage d => Sys2Proof.Machine.execHeaderStage d s
  | .domCtlOn p d => Sys2Proof.Machine.execDomCtlOn p d s
  | .domCtlOff p d full => Sys2Proof.Machine.execDomCtlOff p d full s
  | .domCtlFull p d => Sys2Proof.Machine.execDomCtlFull p d s
  | .domVsetWrite p d v => Sys2Proof.Machine.execDomVsetWrite p d v s
  | .retLow d => Sys2Proof.Machine.execRetLow d s
  | .pstReqGo p target => Sys2Proof.Machine.execPstReqGo p target s
  | .entryCommit => Sys2Proof.Machine.execEntryCommit s
  | .coreWait => Sys2Proof.Machine.execCoreWait s
  | .wakeN active => Sys2Proof.Machine.execWakeN active s
  | .wakeTimer => Sys2Proof.Machine.execWakeTimer s
  | .wakeStuck => Sys2Proof.Machine.execWakeStuck s
  | .pmbusAddressMatch => Sys2Proof.Machine.execPmbusAddressMatch s
  | .traverseWake => Sys2Proof.Machine.execTraverseWake s
  | .offWakePlatCheck => Sys2Proof.Machine.execOffWakePlatCheck s
  | .monumentSample vblkMv ibMv raws => Sys2Proof.Machine.execMonumentSample vblkMv ibMv raws s
  | .vselAccept vsel => Sys2Proof.Machine.execVselAccept vsel s
  | .vselDwellEnd => Sys2Proof.Machine.execVselDwellEnd s
  | .trackUpdate => Sys2Proof.Machine.execTrackUpdate s
  | .trackInEdge level => Sys2Proof.Machine.execTrackInEdge level s
  | .trackTimeout => Sys2Proof.Machine.execTrackTimeout s
  | .ibRefStep => Sys2Proof.Machine.execIbRefStep s
  | .ibSample peaks => Sys2Proof.Machine.execIbSample peaks s
  | .ibSampleLate => Sys2Proof.Machine.execIbSampleLate s
  | .ibShareUpdate => Sys2Proof.Machine.execIbShareUpdate s
  | .ibHysPulse => Sys2Proof.Machine.execIbHysPulse s
  | .ibZcd z => Sys2Proof.Machine.execIbZcd z s
  | .ibSsFault ibUv ps => Sys2Proof.Machine.execIbSsFault ibUv ps s
  | .ibSsRetry ibUv => Sys2Proof.Machine.execIbSsRetry ibUv s
  | .phaseAdmitCheck pass => Sys2Proof.Machine.execPhaseAdmitCheck pass s
  | .ibPhaseShort ph => Sys2Proof.Machine.execIbPhaseShort ph s
  | .ibPhaseRetry ph => Sys2Proof.Machine.execIbPhaseRetry ph s
  | .ibPhaseRetryReset ph => Sys2Proof.Machine.execIbPhaseRetryReset ph s
  | .stageFault ph => Sys2Proof.Machine.execStageFault ph s
  | .ibOv => Sys2Proof.Machine.execIbOv s
  | .ibOvResume ibUv => Sys2Proof.Machine.execIbOvResume ibUv s
  | .ibLow => Sys2Proof.Machine.execIbLow s
  | .vinHigh => Sys2Proof.Machine.execVinHigh s
  | .vinShed => Sys2Proof.Machine.execVinShed s
  | .vinRestore => Sys2Proof.Machine.execVinRestore s
  | .vinStop => Sys2Proof.Machine.execVinStop s
  | .siteReading raws => Sys2Proof.Machine.execSiteReading raws s
  | .thermalCalDone tcal bad => Sys2Proof.Machine.execThermalCalDone tcal bad s
  | .thmSuspClear p half m => Sys2Proof.Machine.execThmSuspClear p half m s
  | .thermalRestart => Sys2Proof.Machine.execThermalRestart s
  | .refCorrectionUpdate => Sys2Proof.Machine.execRefCorrectionUpdate s
  | .tallyUpdate => Sys2Proof.Machine.execTallyUpdate s
  | .reconcile => Sys2Proof.Machine.execReconcile s
  | .capTrimUpdate => Sys2Proof.Machine.execCapTrimUpdate s
  | .dieLimitSwitch => Sys2Proof.Machine.execDieLimitSwitch s
  | .gradeStepStart d => Sys2Proof.Machine.execGradeStepStart d s
  | .grdAck d err => Sys2Proof.Machine.execGrdAck d err s
  | .gradeAckTimeout d => Sys2Proof.Machine.execGradeAckTimeout d s
  | .gradeFaultClear p d => Sys2Proof.Machine.execGradeFaultClear p d s
  | .derateUpdate => Sys2Proof.Machine.execDerateUpdate s
  | .throttleN active => Sys2Proof.Machine.execThrottleN active s
  | .thrStuck => Sys2Proof.Machine.execThrStuck s
  | .capPkgWrite p v => Sys2Proof.Machine.execCapPkgWrite p v s
  | .msBoundary => Sys2Proof.Machine.execMsBoundary s
  | .tlmRecordIssue => Sys2Proof.Machine.execTlmRecordIssue s
  | .tlmWriteResponse ok => Sys2Proof.Machine.execTlmWriteResponse ok s
  | .nrgClr p m => Sys2Proof.Machine.execNrgClr p m s
  | .sflagClear p k m => Sys2Proof.Machine.execSflagClear p k m s
  | .page v => Sys2Proof.Machine.execPage v s
  | .clearFaults => Sys2Proof.Machine.execClearFaults s
  | .capability => Sys2Proof.Machine.execCapability s
  | .voutMode => Sys2Proof.Machine.execVoutMode s
  | .statusWord => Sys2Proof.Machine.execStatusWord s
  | .statusIout => Sys2Proof.Machine.execStatusIout s
  | .statusTemperature => Sys2Proof.Machine.execStatusTemperature s
  | .statusCml => Sys2Proof.Machine.execStatusCml s
  | .readVin => Sys2Proof.Machine.execReadVin s
  | .readIin => Sys2Proof.Machine.execReadIin s
  | .readVout => Sys2Proof.Machine.execReadVout s
  | .readIout => Sys2Proof.Machine.execReadIout s
  | .readTemperature1 => Sys2Proof.Machine.execReadTemperature1 s
  | .readPout => Sys2Proof.Machine.execReadPout s
  | .readPin => Sys2Proof.Machine.execReadPin s
  | .pmbusRevision => Sys2Proof.Machine.execPmbusRevision s
  | .mfrId => Sys2Proof.Machine.execMfrId s
  | .mfrModel => Sys2Proof.Machine.execMfrModel s
  | .mfrRevision => Sys2Proof.Machine.execMfrRevision s
  | .mfrIbselReq b => Sys2Proof.Machine.execMfrIbselReq b s
  | .mfrIbselRsp => Sys2Proof.Machine.execMfrIbselRsp s
  | .mfrPartition v => Sys2Proof.Machine.execMfrPartition v s
  | .mfrPartEnergy => Sys2Proof.Machine.execMfrPartEnergy s
  | .pmbusInvalidCommand f => Sys2Proof.Machine.execPmbusInvalidCommand f s
  | .conversionDone k nv refNv => Sys2Proof.Machine.execConversionDone k nv refNv s
  | .seqTrigger src => Sys2Proof.Machine.execSeqTrigger src s
  | .adcTimerExpiry => Sys2Proof.Machine.execAdcTimerExpiry s
  | .seqDue k inj => Sys2Proof.Machine.execSeqDue k inj s
  | .adcSeqGo p k v => Sys2Proof.Machine.execAdcSeqGo p k v s
  | .adcInjGo p k v => Sys2Proof.Machine.execAdcInjGo p k v s
  | .adcRefWrite p v => Sys2Proof.Machine.execAdcRefWrite p v s
  | .refReady => Sys2Proof.Machine.execRefReady s
  | .adcCalZero p v => Sys2Proof.Machine.execAdcCalZero p v s
  | .adcCalFull p v => Sys2Proof.Machine.execAdcCalFull p v s
  | .adcCalRestore p v => Sys2Proof.Machine.execAdcCalRestore p v s
  | .adcCalDone => Sys2Proof.Machine.execAdcCalDone s
  | .sync lane w => Sys2Proof.Machine.execSync lane w s
  | .sum lane w => Sys2Proof.Machine.execSum lane w s
  | .report lane w => Sys2Proof.Machine.execReport lane w s
  | .share lane w => Sys2Proof.Machine.execShare lane w s
  | .cap lane w => Sys2Proof.Machine.execCap lane w s
  | .epoch lane w => Sys2Proof.Machine.execEpoch lane w s
  | .req lane w => Sys2Proof.Machine.execReq lane w s
  | .fault lane w => Sys2Proof.Machine.execFault lane w s
  | .shed lane w => Sys2Proof.Machine.execShed lane w s
  | .claim lane w => Sys2Proof.Machine.execClaim lane w s
  | .state lane w => Sys2Proof.Machine.execState lane w s
  | .echo lane w => Sys2Proof.Machine.execEcho lane w s
  | .align lane w => Sys2Proof.Machine.execAlign lane w s
  | .badFrame f => Sys2Proof.Machine.execBadFrame f s
  | .periodAlign => Sys2Proof.Machine.execPeriodAlign s
  | .laneUp lane => Sys2Proof.Machine.execLaneUp lane s
  | .laneFault lane => Sys2Proof.Machine.execLaneFault lane s
  | .hopRetry => Sys2Proof.Machine.execHopRetry s
  | .hopRejoin lane => Sys2Proof.Machine.execHopRejoin lane s
  | .ringStart => Sys2Proof.Machine.execRingStart s
  | .sumLatch => Sys2Proof.Machine.execSumLatch s
  | .sumSend => Sys2Proof.Machine.execSumSend s
  | .lapComplete => Sys2Proof.Machine.execLapComplete s
  | .principalLost => Sys2Proof.Machine.execPrincipalLost s
  | .claimSend => Sys2Proof.Machine.execClaimSend s
  | .claimRetry => Sys2Proof.Machine.execClaimRetry s
  | .capRepeat => Sys2Proof.Machine.execCapRepeat s
  | .epochGo p => Sys2Proof.Machine.execEpochGo p s
  | .epochApply => Sys2Proof.Machine.execEpochApply s
  | .relayTimeout => Sys2Proof.Machine.execRelayTimeout s
  | .faultPulseEnd => Sys2Proof.Machine.execFaultPulseEnd s
  | .holdRelease p => Sys2Proof.Machine.execHoldRelease p s
  | .holdAssert p => Sys2Proof.Machine.execHoldAssert p s
  | .fieldBookClear p => Sys2Proof.Machine.execFieldBookClear p s
  | .faultNMismatch level => Sys2Proof.Machine.execFaultNMismatch level s
  | .mbxBell p m => Sys2Proof.Machine.execMbxBell p m s
  | .mbxAck m => Sys2Proof.Machine.execMbxAck m s
  | .mbxGuardTimeout m => Sys2Proof.Machine.execMbxGuardTimeout m s
  | .mbxAccepted m => Sys2Proof.Machine.execMbxAccepted m s
  | .mbxResponse m => Sys2Proof.Machine.execMbxResponse m s
  | .unknownOpcode m => Sys2Proof.Machine.execUnknownOpcode m s
  | .getIdentity m => Sys2Proof.Machine.execGetIdentity m s
  | .getUptime m => Sys2Proof.Machine.execGetUptime m s
  | .setDieLimit m => Sys2Proof.Machine.execSetDieLimit m s
  | .setPkgCap m => Sys2Proof.Machine.execSetPkgCap m s
  | .getCapState m => Sys2Proof.Machine.execGetCapState m s
  | .getClass m => Sys2Proof.Machine.execGetClass m s
  | .domOn m => Sys2Proof.Machine.execDomOn m s
  | .domOff m => Sys2Proof.Machine.execDomOff m s
  | .setVoltage m => Sys2Proof.Machine.execSetVoltage m s
  | .setGrade m => Sys2Proof.Machine.execSetGrade m s
  | .getDomain m => Sys2Proof.Machine.execGetDomain m s
  | .tlmConfig m => Sys2Proof.Machine.execTlmConfig m s
  | .getEnergy m => Sys2Proof.Machine.execGetEnergy m s
  | .clearEnergy m => Sys2Proof.Machine.execClearEnergy m s
  | .setPartitions m => Sys2Proof.Machine.execSetPartitions m s
  | .setWatch m => Sys2Proof.Machine.execSetWatch m s
  | .getWatch m => Sys2Proof.Machine.execGetWatch m s
  | .retune m => Sys2Proof.Machine.execRetune m s
  | .readmitCell m => Sys2Proof.Machine.execReadmitCell m s
  | .getTract m => Sys2Proof.Machine.execGetTract m s
  | .setTractLimit m => Sys2Proof.Machine.execSetTractLimit m s
  | .resetTract m => Sys2Proof.Machine.execResetTract m s
  | .soWindow m => Sys2Proof.Machine.execSoWindow m s
  | .soEnable m => Sys2Proof.Machine.execSoEnable m s
  | .soCounters m => Sys2Proof.Machine.execSoCounters m s
  | .soTractPath m => Sys2Proof.Machine.execSoTractPath m s
  | .getThermal m => Sys2Proof.Machine.execGetThermal m s
  | .getSite m => Sys2Proof.Machine.execGetSite m s
  | .clearSite m => Sys2Proof.Machine.execClearSite m s
  | .getFaults m => Sys2Proof.Machine.execGetFaults m s
  | .readBook m => Sys2Proof.Machine.execReadBook m s
  | .releasePin m => Sys2Proof.Machine.execReleasePin m s
  | .setSeverity m => Sys2Proof.Machine.execSetSeverity m s
  | .adcCalibrate m => Sys2Proof.Machine.execAdcCalibrate m s
  | .adcSetTrim m => Sys2Proof.Machine.execAdcSetTrim m s
  | .adcGetTrim m => Sys2Proof.Machine.execAdcGetTrim m s
  | .pstEnter m => Sys2Proof.Machine.execPstEnter m s
  | .pstSetWake m => Sys2Proof.Machine.execPstSetWake m s
  | .pstGet m => Sys2Proof.Machine.execPstGet m s
  | .memStatus m => Sys2Proof.Machine.execMemStatus m s
  | .memPower m => Sys2Proof.Machine.execMemPower m s
  | .memOwner m => Sys2Proof.Machine.execMemOwner m s
  | .memTest m => Sys2Proof.Machine.execMemTest m s
  | .submitEpoch m => Sys2Proof.Machine.execSubmitEpoch m s
  | .getTraverse m => Sys2Proof.Machine.execGetTraverse m s
  | .getTime m => Sys2Proof.Machine.execGetTime m s
  | .wdtKick => Sys2Proof.Machine.execWdtKick s
  | .watchdogExpiry => Sys2Proof.Machine.execWatchdogExpiry s
  | .coreClkSwitch clk => Sys2Proof.Machine.execCoreClkSwitch clk s
  | .coreMemUncorr dat addr => Sys2Proof.Machine.execCoreMemUncorr dat addr s
  | .blkRstCore p => Sys2Proof.Machine.execBlkRstCore p s
  | .coreResetExit => Sys2Proof.Machine.execCoreResetExit s
  | .blkRstBlock p => Sys2Proof.Machine.execBlkRstBlock p s
  | .blockResetEffect => Sys2Proof.Machine.execBlockResetEffect s
  | .blkRstIface p => Sys2Proof.Machine.execBlkRstIface p s
  | .ifaceResetDone => Sys2Proof.Machine.execIfaceResetDone s
  | .blkTrstGo p t => Sys2Proof.Machine.execBlkTrstGo p t s
  | .memOwnerWrite p v => Sys2Proof.Machine.execMemOwnerWrite p v s
  | .memPwrWrite p v => Sys2Proof.Machine.execMemPwrWrite p v s
  | .memPowerUpDone k => Sys2Proof.Machine.execMemPowerUpDone k s
  | .memTestRegion k idle fails => Sys2Proof.Machine.execMemTestRegion k idle fails s
  | .benchmarkCalDone datumUv bandgapUv untrimmedUv => Sys2Proof.Machine.execBenchmarkCalDone datumUv bandgapUv untrimmedUv s
  | .loaderWrite p v => Sys2Proof.Machine.execLoaderWrite p v s
  | .platGo p => Sys2Proof.Machine.execPlatGo p s
  | .platCheckDone => Sys2Proof.Machine.execPlatCheckDone s
  | .coreHoldClear p => Sys2Proof.Machine.execCoreHoldClear p s
  | .fwCrcDone => Sys2Proof.Machine.execFwCrcDone s
  | .domainStartStep => Sys2Proof.Machine.execDomainStartStep s
  | .syncSend => Sys2Proof.Machine.execSyncSend s
  | .quietWindowEnd => Sys2Proof.Machine.execQuietWindowEnd s
  | .fastOscillatorStable => Sys2Proof.Machine.execFastOscillatorStable s

end Sys2Proof.Machine
end

