-- ==== Sys2Proof/Machine/Clock.lean ====
section
/-!
DEFINITION. One nanosecond of the block's own clock: what step does while no command waits (R19, R50, R53, R272, R301, R302,
R349, R470, R479-R494, R501, R510, R518, R525, R527, R600).
-/

namespace Sys2Proof.Machine

/-- How far the timestamp advances in this cycle: 1, or 0 or 2 in one cycle per 1 us while an offset is being removed (R527). -/
def State.tsStep (s : State) : Nat :=
  if s.trv.slewLeft = 0 || s.now < s.trv.slewAt then 1 else if 0 < s.trv.slewLeft then 2 else 0

/-- The timestamp after one cycle, and the offset still to be removed (R525, R527). -/
def State.tickTs (s : State) : State :=
  let n := s.tsStep
  let s1 := { s with ts := s.ts + BitVec.ofNat 64 n }
  if n = 1 then s1
  else s1.updTrv fun h => { h with slewLeft := if n = 2 then h.slewLeft - 1 else h.slewLeft + 1, slewAt := s.now + 1000 }

/-- aon_state follows PST_STATE.STATE once its value has stood for 2 aon_clk cycles; once it shows a block reset, every page
answers again (R50, R59). -/
def State.showAon (s : State) : State :=
  if s.pins.aonOut ≠ s.aon && s.pins.aonAt + (if s.pins.aonOut = 4 then 61036 else 977) ≤ s.now then
    { s with pins := { s.pins with aonOut := s.aon, aonAt := s.now, inReset := s.pins.inReset && s.aon ≠ 5 } }
  else s

/-- The clocks stop 8 gate_clk cycles after the last domain of an entry came to rest (R53, R297). -/
def State.stopDue (s : State) : State :=
  match s.pst.stopAt with
  | none => s
  | some a => if s.on fPST_STATE_ENTERING && a ≤ s.now then s.stopClocks else s

/-- A PMBus transaction whose clock was stretched goes on (R302). -/
def State.resumePmb (s : State) : State :=
  match s.pmb.held with
  | none => s
  | some i =>
    if s.stretching then s
    else
      let s1 := s.updPmb fun p => { p with held := none }
      match exec i s1 with
      | .next t => t
      | _ => s1

/-- What the block's own timers bring about in a cycle, besides time, the timestamp and the lanes. -/
def State.tickTimers (s : State) : State :=
  ((((((s.wdtTick.finishOrphans).ibJoin).syncBack.slewBack).wakeLatch.stopDue).watchBallast).showAon).resumePmb

/-- One nanosecond with no command: time, the timestamp, the lanes, the timers, and the conditions that a telemetry record
gathers. In power-on reset time alone passes (R79). -/
def State.tick (s : State) : State :=
  let s0 := { s with now := s.now + 1 }
  if s.por then s0 else ((s0.tickTs.drainLanes.endHopRetry).adcTick.tickTimers).gatherFlags

end Sys2Proof.Machine
end

