-- ==== Sys2Proof/WellFormed.lean ====
section
/-!
DEFINITION. Which values a command may carry: an offset of the 1 MB space (R54), the 32 bytes of a plan read (R207), a
reading of every station, cell and site, an address of the memory (Table 14.9). The other operand types admit no other value.
-/

namespace Sys2Proof

/-- A command carries values that the block can see. -/
def Instr.wf : Instr → Bool
  | .registerWrite _ off _ _ => off < 0x100000
  | .captureRead _ off => off < 0x100000
  | .headerReadDone _ ok bytes => !ok || bytes.length = 32
  | .recordReadDone _ ok bytes => !ok || bytes.length = 32
  | .rereadDone _ ok bytes => !ok || bytes.length = 32
  | .frameStart uv isns peaks tripped => uv.length = 1024 && isns.length = 512 && peaks.highest.length = 512 && peaks.reach.length = 512 && tripped.all (· < 1024)
  | .zcdStuck _ z => z.per.length = 16
  | .snap x => x.reach.length = 8
  | .snapLockoutEnd _ x => x.reach.length = 8
  | .monumentSample _ _ raws => raws.length = 4
  | .ibSample peaks => peaks.highest.length = 16
  | .siteReading raws => raws.length = 64
  | .thermalCalDone _ bad => bad.all (· < 64)
  | .mfrIbselReq b => b.bytes.length ≤ 64
  | .coreMemUncorr dat addr => addr < (if dat then 0x40000 else 0x80000)
  | .memTestRegion _ _ fails => fails.all fun f => f.1 < 32
  | .powerOnReset | .porRelease _ _ | .aonRstReq | .hostPwrgdFall | .hostPwrgdRise | .axiReset | .syncInLoss | .syncInReturn | .pllLock | .wsBypass _
  | .wsExtest _ | .wsIntest _ | .wsMbist _ | .announce _ _ | .arrive _ _ | .fetchIssue | .fetchTimeout _ | .liftStart _ | .stepEnd _ | .markMiss _
  | .soCtlEnSet _ _ | .soCtlEnClear _ _ | .soCtlClr _ _ | .gateReq _ _ | .gateLink _ | .activityIncrement _ _ _ | .pauseSlot | .stationSuspect _
  | .stnSuspClear _ _ _ | .tractSample _ _ _ | .tractSampleLate _ | .floorPauseEnd _ | .normUpdate _ | .presentCodeStep _ | .softStartDelayEnd _
  | .softStopDelayEnd _ | .phaseOffsetStep _ | .shareUpdate | .shareSat _ | .zcdRise _ _ | .snapPauseEnd _ | .cmpStuck _ | .shortCondA _
  | .shortCondB _ | .hiccupEnd _ | .retryCountReset _ | .cellOpen _ | .trcOpen _ _ _ | .openHoldBegin _ | .coefWindowAccess _ _ _ _ _ | .trcClose _ _
  | .loopClose _ _ | .openHoldTimeout _ | .setSwitchClose _ | .engineFail _ | .failoverSeed _ _ | .failoverGroupClose _ | .failoverPauseLift _
  | .inrushCompare _ | .inrushWaitExpiry _ | .headerStage _ | .domCtlOn _ _ | .domCtlOff _ _ _ | .domCtlFull _ _ | .domVsetWrite _ _ _ | .retLow _
  | .pstReqGo _ _ | .entryCommit | .coreWait | .wakeN _ | .wakeTimer | .wakeStuck | .pmbusAddressMatch | .traverseWake | .offWakePlatCheck
  | .vselAccept _ | .vselDwellEnd | .trackUpdate | .trackInEdge _ | .trackTimeout | .ibRefStep | .ibSampleLate | .ibShareUpdate | .ibHysPulse
  | .ibZcd _ | .ibSsFault _ _ | .ibSsRetry _ | .phaseAdmitCheck _ | .ibPhaseShort _ | .ibPhaseRetry _ | .ibPhaseRetryReset _ | .stageFault _ | .ibOv
  | .ibOvResume _ | .ibLow | .vinHigh | .vinShed | .vinRestore | .vinStop | .thmSuspClear _ _ _ | .thermalRestart | .refCorrectionUpdate
  | .tallyUpdate | .reconcile | .capTrimUpdate | .dieLimitSwitch | .gradeStepStart _ | .grdAck _ _ | .gradeAckTimeout _ | .gradeFaultClear _ _
  | .derateUpdate | .throttleN _ | .thrStuck | .capPkgWrite _ _ | .msBoundary | .tlmRecordIssue | .tlmWriteResponse _ | .nrgClr _ _
  | .sflagClear _ _ _ | .page _ | .clearFaults | .capability | .voutMode | .statusWord | .statusIout | .statusTemperature | .statusCml | .readVin
  | .readIin | .readVout | .readIout | .readTemperature1 | .readPout | .readPin | .pmbusRevision | .mfrId | .mfrModel | .mfrRevision | .mfrIbselRsp
  | .mfrPartition _ | .mfrPartEnergy | .pmbusInvalidCommand _ | .conversionDone _ _ _ | .seqTrigger _ | .adcTimerExpiry | .seqDue _ _
  | .adcSeqGo _ _ _ | .adcInjGo _ _ _ | .adcRefWrite _ _ | .refReady | .adcCalZero _ _ | .adcCalFull _ _ | .adcCalRestore _ _ | .adcCalDone
  | .sync _ _ | .sum _ _ | .report _ _ | .share _ _ | .cap _ _ | .epoch _ _ | .req _ _ | .fault _ _ | .shed _ _ | .claim _ _ | .state _ _ | .echo _ _
  | .align _ _ | .badFrame _ | .periodAlign | .laneUp _ | .laneFault _ | .hopRetry | .hopRejoin _ | .ringStart | .sumLatch | .sumSend | .lapComplete
  | .principalLost | .claimSend | .claimRetry | .capRepeat | .epochGo _ | .epochApply | .relayTimeout | .faultPulseEnd | .holdRelease _
  | .holdAssert _ | .fieldBookClear _ | .faultNMismatch _ | .mbxBell _ _ | .mbxAck _ | .mbxGuardTimeout _ | .mbxAccepted _ | .mbxResponse _
  | .unknownOpcode _ | .getIdentity _ | .getUptime _ | .setDieLimit _ | .setPkgCap _ | .getCapState _ | .getClass _ | .domOn _ | .domOff _
  | .setVoltage _ | .setGrade _ | .getDomain _ | .tlmConfig _ | .getEnergy _ | .clearEnergy _ | .setPartitions _ | .setWatch _ | .getWatch _
  | .retune _ | .readmitCell _ | .getTract _ | .setTractLimit _ | .resetTract _ | .soWindow _ | .soEnable _ | .soCounters _ | .soTractPath _
  | .getThermal _ | .getSite _ | .clearSite _ | .getFaults _ | .readBook _ | .releasePin _ | .setSeverity _ | .adcCalibrate _ | .adcSetTrim _
  | .adcGetTrim _ | .pstEnter _ | .pstSetWake _ | .pstGet _ | .memStatus _ | .memPower _ | .memOwner _ | .memTest _ | .submitEpoch _ | .getTraverse _
  | .getTime _ | .wdtKick | .watchdogExpiry | .coreClkSwitch _ | .blkRstCore _ | .coreResetExit | .blkRstBlock _ | .blockResetEffect | .blkRstIface _
  | .ifaceResetDone | .blkTrstGo _ _ | .memOwnerWrite _ _ | .memPwrWrite _ _ | .memPowerUpDone _ | .benchmarkCalDone _ _ _ | .loaderWrite _ _
  | .platGo _ | .platCheckDone | .coreHoldClear _ | .fwCrcDone | .domainStartStep | .syncSend | .quietWindowEnd | .fastOscillatorStable => true

end Sys2Proof
end

