-- ==== Sys2Proof/Safety.lean ====
section
/-!
DEFINITION. What the statements about the block speak of: the canonical form of its tables and memories, and a command that
runs, and what changes beside its effect.
-/

namespace Sys2Proof.Machine

/-- Every sparse table and every memory is in its canonical form: keys strictly rising, no entry equal to what an unlisted
key reads as. Two states that satisfy this and read alike are the same data. -/
def State.wf (s : State) : Prop :=
  tblWf resetVal 0 s.regs = true ∧
  (memWf s.fw = true ∧ memWf s.dat = true ∧ memWf s.coef = true ∧ memWf s.plan = true ∧ memWf s.book = true ∧ memWf s.tele = true) ∧
  tblWf (fun _ => ({} : ChanHid)) 0 s.chans = true ∧
  tblWf (fun _ => ({} : CellHid)) 0 s.cells = true ∧
  tblWf (fun _ => ({} : StnHid)) 0 s.stns = true ∧
  tblWf (fun _ => ({} : TractHid)) 0 s.tracts = true ∧
  tblWf (fun _ => ({} : DomHid)) 0 s.doms = true

/-- A command that runs to a next state of which `post` holds. -/
def Runs (c : Instr) (s : State) (post : State → Prop) : Prop := ∃ t, exec c s = .next t ∧ post t

/-- A command that runs to a given state, but for the note of which bits were set or written at this instant. -/
def Ends (c : Instr) (s u : State) : Prop := Runs c s fun t => t = { u with cyc := t.cyc }

/-- An access of a port to an offset is served: the port is open, the offset answers in the present state of the block, and the
cadastre does not withhold the write from firmware, nor does host software write at the same instant (R60, R61, R579, R585, R651). -/
def Served (p : Port) (off : Nat) (s : State) : Prop :=
  s.portOpen (p = .core) = true ∧ s.offAnswers off = true ∧ (p = .core → s.fwMay off = true ∧ s.cyc.wroteAt ≠ s.now + 1)

/-- Nothing but registers changes (and the note of which bits were set or written at this instant), and of the registers only
those listed. -/
def OnlyRegs (s t : State) (offs : List Nat) : Prop :=
  (∃ r c, t = { s with regs := r, cyc := c }) ∧ ∀ o, o ∉ offs → t.reg o = s.reg o

/-- The registers that an event of a block may change: the status and the field book of the block, those of the FLT_ and MEM_
blocks, and what tells of the pin and of evictions (R554, R561, R566, R569, R611). -/
def eventRegs (block : Nat) : List Nat :=
  [blockBase block, bookReg block, blockBase 18, bookReg 18, blockBase 20, bookReg 20, FLT_LOG, FLT_PIN, FLT_LAST, FLT_COUNT, MEM_MSTAT 4]

/-- Nothing but what events touch changes (registers, BOOK memory, frames to send, the pin, and the note of which bits were set
at this instant), and of the registers only those listed. -/
def OnlyEvents (s t : State) (offs : List Nat) : Prop :=
  (∃ r b v p c, t = { s with regs := r, book := b, trv := v, pins := p, cyc := c }) ∧ ∀ o, o ∉ offs → t.reg o = s.reg o

/-- The state in which a PMBus transaction is over, acknowledged or not, with no answer (R475). -/
def State.pmbOver (s : State) (ack : Bool) : State :=
  { s with pmb := { s.pmb with acked := ack, reply := [], pec := none }, pst := { s.pst with pmbus := false } }

/-- The target with an answer to a command code, and the packet error code that ends it (R74, R475). -/
def State.pmbReply (s : State) (code : Nat) (bs : List Byte) : PmbHid :=
  { s.pmb with acked := true, reply := bs, pec := some (pecOf ([s.addrByte 0, BitVec.ofNat 8 code, s.addrByte 1] ++ bs)) }

/-- A PMBus command that is acknowledged, returns bytes with their packet error code, and changes nothing else (R475). -/
def Answered (i : Instr) (s : State) (code : Nat) (bs : List Byte) : Prop :=
  exec i s = .next { s.pmbOver true with pmb := s.pmbReply code bs }

/-- A status byte or word of the present page read (R475, Table 10.3): `n` bytes, all 0 exactly where none of the conditions that it
tells of has been kept since CLEAR_FAULTS or is present now; those present now are kept. -/
def StatusRead (i : Instr) (s : State) (code n : Nat) (cmds : List Nat) : Prop :=
  Runs i s fun u => u = { s.pmbOver true with pmb := { s.pmbReply code u.pmb.reply with flags := u.pmb.flags } } ∧ u.pmb.reply.length = n ∧
    (∀ c p, (c, p) ∈ u.pmb.flags ↔ (c, p) ∈ s.pmb.flags ∨ (p = s.pmb.page ∧ (c = 0x7B ∨ c = 0x7D) ∧ s.statusNow c p = true)) ∧
    (u.pmb.reply = List.replicate n 0#8 ↔ ∀ c ∈ cmds, (c, s.pmb.page) ∉ u.pmb.flags)

/-- A PMBus transaction that changed nothing outside the target but what an event of the TLM_ block touches. -/
def PmbOnly (s t : State) : Prop :=
  OnlyEvents { s with pst := { s.pst with pmbus := false } } t (eventRegs 15)

/-- Bytes that hold the figure num/den in LINEAR11 to within one step of the exponent used, where the format can hold it; which
exponent, and which way the mantissa is rounded, the spec leaves open. -/
def Linear11 (bs : List Byte) (num den : Int) : Prop :=
  bs.length = 2 ∧ (0 < den → -(1024 * 2 ^ 15 * den) ≤ num → num ≤ 1023 * 2 ^ 15 * den →
    ∃ (k : Nat) (m : Int), k < 32 ∧ -1024 ≤ m ∧ m ≤ 1023 ∧
      bs = leBytes (unsigned 5 ((k : Int) - 16) * 2 ^ 11 + unsigned 11 m) 2 ∧
      m * 2 ^ k * den < num * 2 ^ 16 + 2 ^ k * den ∧ num * 2 ^ 16 < m * 2 ^ k * den + 2 ^ k * den)

/-- A peg of a sequencer is accepted and acted on: it is seen, 10 ns after the latest accepted one of its sequencer, in Run or
Idle, with setting-out and the sequencer enabled (R30, R31, R202). -/
def PegTaken (s : State) (q : Nat) : Prop :=
  s.gateLive = true ∧ s.runOrIdle = true ∧
  (tblGet (fun _ => 0) s.so.lastPeg q = 0 ∨ tblGet (fun _ => 0) s.so.lastPeg q + 9 ≤ s.now) ∧
  s.on fSO_CTL_EN = true ∧ s.on (fSO_PEGMAP_EN q) = true

/-- The plan index of a peg (R203). -/
def pegIndex (s : State) (q mark : Nat) : Nat := (s.get (fSO_PEGMAP_BIAS q) + mark) % 65536

/-- The state with the instant of a peg noted as the latest accepted one of its sequencer (R30). -/
def pegNoted (s : State) (q : Nat) : State :=
  { s with so := { s.so with lastPeg := tblSet (fun _ => 0) s.so.lastPeg q (s.now + 1) } }

/-- What lifts, requests and feed-forward of setting-out may change: the part of setting-out, the targets of cells and their
modes, the history of domains, cells and tracts, and what events touch (R111, R223, R229, R230, R232, R237). -/
def LiftOnly (s t : State) (offs : List Nat) : Prop :=
  OnlyEvents { s with so := t.so, doms := t.doms, cells := t.cells, tracts := t.tracts } t
    (offs ++ (upTo 32).map SO_DLIFT ++ (upTo 256).map CEL_CSTAT ++ (upTo 64).map SO_TRK_STAT ++ eventRegs 6)

/-- The lift in force of a domain that is On: the sum of the lifts of its instances, held to its two limits (R229, R280). -/
def LiftStands (t : State) (d : Nat) : Prop :=
  t.get (fSO_DLIFT_LIFT d) = min (sumOver (t.liftsOn d) id) (min (t.get fSO_CFG_LIFT_MAX) (t.get (fCAD_DOM_VMAX d) - t.get (fDOM_VSET_CODE d)))

/-- A first copy of a frame of a TYPE from another die arrives on a lane in use, at a die that listens (R511, R515, R519, R520). -/
def Arrives (s : State) (ty : Nat) (lane : Lane) (w : Word64) : Prop :=
  s.listening = true ∧ frameType w = ty ∧ (s.trv.rxHop (laneNum lane)).broken = false ∧ frameSrc w ≠ s.dieIndex ∧ s.isCopy w = false

/-- A frame waits to leave in the direction of the lane on which it came, on whichever lane is open to that direction (R517). -/
def Passed (s t : State) (lane : Lane) (w : Word64) : Prop :=
  ∀ o, s.outLane (laneNum lane) = some o →
    (⟨w, s.now, false, s.hopDelay (laneNum lane)⟩ : TxEntry) ∈ (t.trv.lane o).txq

/-- A frame sent on both lanes is passed on in the same way, unless the die at the other end of that lane is its source (R520). -/
def PassedBoth (s t : State) (lane : Lane) (w : Word64) : Prop :=
  ∀ o, s.outLane (laneNum lane) = some o → (if o = 0 then s.nextDie else s.prevDie) ≠ frameSrc w →
    (⟨w, s.now, false, s.hopDelay (laneNum lane)⟩ : TxEntry) ∈ (t.trv.lane o).txq

/-- What posting an answer leaves on a channel: state, code, MBX_DONE bit, header and result words (R595, Tables 14.3, 14.4). -/
def Posted (s t : State) (m status detail : Nat) (bytes : List Byte) : Prop :=
  t.chanState m = (if status = 7 then 3 else 4) ∧ t.get (fMBX_CST_CODE m) = status ∧ bitN (t.get fMBX_DONE_DONE) m = true ∧
  t.reg (MBX_RSP m 0) = s.reg (MBX_REQ m 0) ∧
  t.reg (MBX_RSP m 1) = BitVec.ofNat 32 (status + detail * 256 + bytes.length * 65536) ∧
  ∀ j, j < 14 → t.reg (MBX_RSP m (2 + j)) = BitVec.ofNat 32 (leNat ((bytes.drop (4 * j)).take 4))

/-- The registers that an answer on a channel may change. -/
def rspRegs (m : Nat) : List Nat := [MBX_CST m, MBX_DONE] ++ (upTo 16).map (MBX_RSP m)

/-- An answer posted, and nothing else changed. -/
def Answers (s t : State) (m status detail : Nat) (bytes : List Byte) : Prop :=
  Posted s t m status detail bytes ∧ OnlyRegs { s with chans := t.chans } t (rspRegs m)

/-- Firmware runs and serves, on a channel that is acknowledged, a request for an opcode with the length of its arguments, at an instant
at which host software writes no register (R651). -/
def Holds (s : State) (m op len : Nat) : Prop :=
  s.por = false ∧ s.serves m op = true ∧ s.chanState m = 2 ∧ s.reqLen m = len ∧ s.cyc.wroteAt ≠ s.now + 1

/-- A simple command that only reads: it answers OK with bytes of the state, and changes nothing but the channel. -/
def Gives (c : Instr) (s : State) (m op len : Nat) (ok : Prop) (bytes : State → List Byte) : Prop :=
  Holds s m op len → ok → Runs c s fun t => Answers s.coreWake t m 0 0 (bytes s.coreWake)

/-- A simple command whose number is out of range: it answers ARG with detail 8. -/
def Bounces (c : Instr) (s : State) (m op len : Nat) (bad : Prop) : Prop :=
  Holds s m op len → bad → Runs c s fun t => Answers s.coreWake t m 4 8 []

/-- A simple command that writes registers (R598): it makes the writes and answers OK with what is then stored, or BOUNDS with
detail 6 where the cadastre withholds one of them from firmware. -/
def Stores (c : Instr) (s : State) (m op len : Nat) (ok : Prop) (ws : List (Nat × Word)) (bytes : State → List Byte) : Prop :=
  Holds s m op len → ok →
    ((∀ w ∈ ws, s.fwMay w.1 = true) → Runs c s fun t =>
      Answers (s.coreWake.fwStores ws).1 t m 0 0 (bytes (s.coreWake.fwStores ws).1)) ∧
    ((∃ w ∈ ws, s.fwMay w.1 = false) → Runs c s fun t =>
      Answers (s.coreWake.fwStores ws).1 t m 2 6 (bytes (s.coreWake.fwStores ws).1))

/-- A long command that begins by writing registers: ACCEPTED once its writes are made, and its channel waits for its end. -/
def Begins (c : Instr) (s : State) (m op len unit : Nat) (ok : Prop) (ws : List (Nat × Word)) (post : State → Prop) : Prop :=
  Holds s m op len → ok → (∀ w ∈ ws, s.fwMay w.1 = true) → Runs c s fun t =>
    Posted s t m 7 0 [] ∧ (∃ o, (t.chan m).long = some o ∧ o.op = op ∧ o.unit = unit ∧ o.sinceAt = s.now ∧ o.started = true) ∧ post t

/-- A long command that a block rule refuses: REFUSED with detail 7. -/
def Refuses (c : Instr) (s : State) (m op len : Nat) (bad : Prop) : Prop :=
  Holds s m op len → bad → Runs c s fun t => Posted s t m 3 7 []

end Sys2Proof.Machine
end

