-- ==== Sys2Proof/Certificates/Slice0/Obligations.lean ====
section
/-!
DEFINITION. The statements about the block, for the provers. `Runs c s post` says that command `c` completes from state `s` in a
state of which `post` holds; `OnlyRegs` and `OnlyEvents` say what else may have changed.
-/

open Sys2Proof Sys2Proof.Machine

/-- A step runs the command at the front of the queue. Rests on 95_what_each_step_holds.md. -/
def Obligations.StepRunsFrontCommand : Prop :=
  ∀ (c : Instr) (s : State), step { s with pending := c :: s.pending } = exec c s

/-- With no command waiting a step is one nanosecond of the clock of the block. Rests on R525, R79. -/
def Obligations.EmptyQueueIsOneNanosecond : Prop :=
  ∀ s : State, s.pending = [] → s.core.orphans = [] → s.pmb.held = none →
    ∃ t, step s = .next t ∧ t.pending = [] ∧ t.now = s.now + 1 ∧
      (s.por = true → t = { s with now := s.now + 1 }) ∧
      (s.por = false → s.trv.slewLeft = 0 → t.ts = s.ts + 1)

/-- Every command ends in a next state that has the same waiting commands and the same time. Rests on
95_what_each_step_holds.md. -/
def Obligations.EveryCommandRunsAndKeepsQueueAndTime : Prop :=
  ∀ (c : Instr) (s : State), Runs c s fun t => t.pending = s.pending ∧ t.now = s.now

/-- Every step keeps every table and memory in canonical form. Rests on R603, R615, R635. -/
def Obligations.StepKeepsCanonicalForm : Prop :=
  ∀ s t : State, s.wf → step s = .next t → t.wf

/-- What power-on reset leaves. Rests on R79, R603, R606, R648. -/
def Obligations.ResetLeaves : Prop :=
  State.reset.wf ∧ State.reset.por = true ∧ State.reset.pending = [] ∧ (∀ off, State.reset.reg off = resetVal off) ∧
    State.reset.aon = 5 ∧ State.reset.locked = false ∧ State.reset.on fBLK_CORE_HOLD = true ∧
    State.reset.on fSO_CTL_EN = false ∧ (∀ n, n < 22 → State.reset.reg (blockBase n) = 0) ∧
    (∀ k a, memByte (State.reset.memory k) a = 0)

/-- A write with a partial strobe or an unaligned address changes nothing. Rule: R55. -/
def Obligations.RefusedWritesChangeNothing : Prop :=
  ∀ (p : Port) (off : Nat) (strb : BitVec 4) (v : Word) (s : State),
    off < 2 ^ 20 → s.portOpen (p = .core) = true → (strb ≠ 0xF#4 ∨ off % 4 ≠ 0) →
    exec (.registerWrite p off strb v) s = .next { s with bus := { slverr := true, data := 0 } }

/-- An access to an unassigned offset completes with OKAY, reads 0 and writes nothing. Rule: R56. -/
def Obligations.UnassignedOffsets : Prop :=
  ∀ (p : Port) (off : Nat) (v : Word) (s : State),
    off < 2 ^ 20 → off % 4 = 0 → s.portOpen (p = .core) = true → s.offAnswers off = true →
    (0xC0000 ≤ off ∨ (off < 0x80000 ∧ isRegister off = false ∧ coefWindow off = none)) →
    exec (.registerWrite p off 0xF#4 v) s = .next { s with bus := { slverr := false, data := 0 } } ∧
    exec (.captureRead p off) s = .next { s with bus := { slverr := false, data := 0 } }

/-- In Sleep and Deep sleep only the always-on pages answer, in Off none does. Rests on R60, R61. -/
def Obligations.SleepAndOffAccesses : Prop :=
  ∀ (off : Nat) (strb : BitVec 4) (v : Word) (s : State),
    off < 2 ^ 20 → s.por = false → s.pins.hostPwrgd = true →
    (s.aon = 4 ∨ ((s.aon = 2 ∨ s.aon = 3) ∧ 0x3000 ≤ off)) →
    exec (.registerWrite .host off strb v) s = .next { s with bus := { slverr := true, data := 0 } } ∧
    exec (.captureRead .host off) s = .next { s with bus := { slverr := true, data := 0 } }

/-- What a write does to XXX_STAT, XXX_IEN, XXX_SEV and XXX_BOOK of a block. Rests on R13, R15, R553, R648, R651. -/
def Obligations.CommonRegisterWrites : Prop :=
  ∀ (p : Port) (n : Nat) (v : Word) (s : State), n < 22 →
    (Served p (blockBase n) s →
      exec (.registerWrite p (blockBase n) 0xF#4 v) s =
        .next ((s.setReg (blockBase n) (s.reg (blockBase n) &&& ~~~(v &&& ~~~(s.freshBits (blockBase n)) &&& BitVec.ofNat 32 (statMask n)))).okay 0)) ∧
    (Served p (blockBase n + 4) s →
      exec (.registerWrite p (blockBase n + 4) 0xF#4 v) s =
        .next (((s.hostMark (p = .core) (blockBase n + 4) (BitVec.ofNat 32 (statMask n))).setReg (blockBase n + 4) ((s.reg (blockBase n + 4) &&& ~~~(BitVec.ofNat 32 (statMask n)))
          ||| (v &&& BitVec.ofNat 32 (statMask n)))).okay 0)) ∧
    (Served p (blockBase n + 8) s →
      exec (.registerWrite p (blockBase n + 8) 0xF#4 v) s =
        .next (((s.hostMark (p = .core) (blockBase n + 8) (BitVec.ofNat 32 (sevMask n))).setReg (blockBase n + 8) ((s.reg (blockBase n + 8) &&& ~~~(BitVec.ofNat 32 (sevMask n)))
          ||| (v &&& BitVec.ofNat 32 (sevMask n)))).okay 0)) ∧
    (Served p (blockBase n + 12) s → exec (.registerWrite p (blockBase n + 12) 0xF#4 v) s = .next (s.okay 0)) ∧
    (∀ w : Word, Served .host (blockBase n + 4) s → s.portOpen true = true → s.fwMay (blockBase n + 4) = true →
      Runs (.registerWrite .host (blockBase n + 4) 0xF#4 v) s fun s1 =>
      Runs (.registerWrite .core (blockBase n + 4) 0xF#4 w) s1 fun t => t.reg (blockBase n + 4) = s1.reg (blockBase n + 4) ∧
        OnlyRegs { s1 with bus := { slverr := false, data := 0 } } t [])

/-- No register read has a side effect except that of a capture pair. Rule: R652. -/
def Obligations.ReadsHaveNoSideEffect : Prop :=
  ∀ (p : Port) (off : Nat) (s : State), off < 0x80000 → off % 4 = 0 → s.portOpen (p = .core) = true → s.offAnswers off = true →
    isRegister off = true → coefWindow off = none →
    ((off ≠ TRV_TIME_LO ∧ (∀ b, b < 17 → off ≠ NRG_PART_LO b) ∧ (∀ w, w < 8 → off ≠ NRG_WTS_LO w)) →
      exec (.captureRead p off) s = .next { s with bus := { slverr := false, data := s.readReg off } }) ∧
    (off = TRV_TIME_LO → Runs (.captureRead p off) s fun t =>
      t.bus.data = s.ts.setWidth 32 ∧ t.reg TRV_TIME_HI = (s.ts >>> 32).setWidth 32 ∧
      OnlyRegs { s with bus := t.bus } t [TRV_TIME_HI]) ∧
    (∀ b, b < 17 → off = NRG_PART_LO b → Runs (.captureRead p off) s fun t =>
      t.bus.data = s.reg off ∧ t.reg (NRG_PART_HI b) = BitVec.ofNat 32 (s.acc b / 2 ^ 32) ∧
      OnlyRegs { s with bus := t.bus } t [NRG_PART_HI b]) ∧
    (∀ w, w < 8 → off = NRG_WTS_LO w → Runs (.captureRead p off) s fun t =>
      t.bus.data = s.reg off ∧ t.reg (NRG_WTS_HI w) = BitVec.ofNat 32 (tblGet (fun _ => 0) s.nrg.wts w / 2 ^ 32) ∧
      OnlyRegs { s with bus := t.bus } t [NRG_WTS_HI w])

/-- A write that no access code lets take effect completes with OKAY. Rests on R14. -/
def Obligations.WriteWithoutEffectAnswersOkay : Prop :=
  ∀ (off : Nat) (v : Word) (s : State), off < 0x80000 → off % 4 = 0 → Served .host off s → coefWindow off = none →
    accessOf off = some ⟨0, 0, 0, 0⟩ →
    exec (.registerWrite .host off 0xF#4 v) s = .next { s with bus := { slverr := false, data := 0 } }

/-- A firmware write that CAD_FWPERM withholds has no effect but the event that tells of it. Rests on R585, R554. -/
def Obligations.FirmwareWriteDenied : Prop :=
  ∀ (off n : Nat) (v : Word) (s : State), off < 0x80000 → off % 4 = 0 → s.portOpen true = true → s.offAnswers off = true →
    coefWindow off = none → (accessOf off).isSome = true → blockOf off = some n → bitN (s.reg CAD_FWPERM).toNat n = false →
    Runs (.registerWrite .core off 0xF#4 v) s fun t =>
      t.bus = { slverr := false, data := 0 } ∧ t.stat evCAD_FW_DENIED = true ∧ OnlyEvents { s with bus := t.bus } t (eventRegs 2)

/-- Host software cannot set the timestamp, nor can firmware. Rests on R525. -/
def Obligations.HostCannotSetTimestamp : Prop :=
  ∀ (p : Port) (off : Nat) (strb : BitVec 4) (v : Word) (s t : State),
    exec (.registerWrite p off strb v) s = .next t → t.ts = s.ts

/-- An event sets its status bit and, at or above PSEV, triggers the pin. Rests on R554, R555, R568, R569. -/
def Obligations.EventSetsItsBit : Prop :=
  ∀ (s : State) (e : Ev) (idx data : Nat), e.block < 22 → e.bit < 32 →
    (s.raiseD e idx data).stat e = true ∧ (∀ f : Ev, s.stat f = true → (s.raiseD e idx data).stat f = true) ∧
    ((e.block ≠ 18 ∧ s.get fFLT_CFG_PSEV ≤ s.sevOf e) →
      (s.raiseD e idx data).on fFLT_PIN_HOLD = true ∧ (s.raiseD e idx data).on fFLT_PIN_PULSE = true ∧
      (s.raiseD e idx data).on fFLT_PIN_DRIVE = true) ∧
    ((∀ a, (s.note e idx data).2 ≠ .lostRmw a) → e.block ≠ 18 → s.get fFLT_CFG_PSEV ≤ s.sevOf e →
      (s.raiseD e idx data).get fFLT_COUNT_COUNT = min (2 ^ 32 - 1) (s.get fFLT_COUNT_COUNT + 1) ∧
      (s.raiseD e idx data).get fFLT_LAST_DIE = s.dieIndex % 8 ∧ (s.raiseD e idx data).get fFLT_LAST_BLOCK = e.block ∧
      (s.raiseD e idx data).get fFLT_LAST_BIT = e.bit ∧ (s.raiseD e idx data).get fFLT_LAST_SEV = s.sevOf e ∧
      (s.raiseD e idx data).get fFLT_LAST_INDEX = idx % 65536) ∧
    (∀ a, (s.note e idx data).2 = .lostRmw a → s.get fFLT_CFG_PSEV ≤ s.sevOf evMEM_UNCORR →
      (s.raiseD e idx data).on fFLT_PIN_HOLD = true ∧ (s.raiseD e idx data).on fFLT_PIN_DRIVE = true ∧
      (s.raiseD e idx data).get fFLT_LAST_BLOCK = 20 ∧ (s.raiseD e idx data).get fFLT_LAST_SEV = s.sevOf evMEM_UNCORR) ∧
    ((∀ a, (s.note e idx data).2 ≠ .lostRmw a) → (e.block = 18 ∨ s.sevOf e < s.get fFLT_CFG_PSEV) →
      (s.raiseD e idx data).reg FLT_PIN = s.reg FLT_PIN ∧ (s.raiseD e idx data).reg FLT_LAST = s.reg FLT_LAST ∧
      (s.raiseD e idx data).reg FLT_COUNT = s.reg FLT_COUNT) ∧
    OnlyEvents s (s.raiseD e idx data) (eventRegs e.block)

/-- Where a new field book entry goes, and what becomes of the entry it replaces. Rule: R561. -/
def Obligations.FieldBookRing : Prop :=
  ∀ (s : State) (n : Nat) (was : Bool) (e : Entry) (slot : Nat), n < 22 → s.memUsable 4 = true →
    slot = (if s.get (fBOOK_FILL n) = 0 then s.get (fBOOK_HEAD n) else (s.get (fBOOK_HEAD n) + 1) % 8) →
    (was = true → 0 < s.get (fBOOK_FILL n) →
      ¬((memByte s.book (bookSlot n (s.get (fBOOK_HEAD n)) + 8)).toNat % 32 = e.bit ∧
        memLE s.book (bookSlot n (s.get (fBOOK_HEAD n)) + 10) 2 = e.idx)) →
    s.memBad 4 (bookSlot n slot) 16 = false → s.memBad 4 (0x2000 + 16 * s.get fFLT_LOG_NEXT) 16 = false →
    (s.record n was e).1.get (fBOOK_HEAD n) = slot ∧
    (s.record n was e).1.get (fBOOK_FILL n) = min 8 (s.get (fBOOK_FILL n) + 1) ∧
    memBytes (s.record n was e).1.book (bookSlot n slot) 16 = e.bytes s.ts ∧
    (s.get (fBOOK_FILL n) = 8 →
      memBytes (s.record n was e).1.book (0x2000 + 16 * s.get fFLT_LOG_NEXT) 16 = memBytes s.book (bookSlot n slot) 16 ∧
      (s.record n was e).1.get fFLT_LOG_NEXT = (s.get fFLT_LOG_NEXT + 1) % 7680) ∧
    (∀ k, k < 8 → k ≠ slot → memBytes (s.record n was e).1.book (bookSlot n k) 16 = memBytes s.book (bookSlot n k) 16)

/-- What ends a pulse, what a write of HOLD does, and what a pin read against the drive reports. Rests on R567, R570,
R571, R573, R656. -/
def Obligations.FaultPinCommands : Prop :=
  ∀ (p : Port) (s : State) (level : Bool),
    (s.on fFLT_PIN_PULSE = true → s.pins.pulseDue ≤ s.now →
      Runs .faultPulseEnd s fun t => t.on fFLT_PIN_PULSE = false ∧ t.on fFLT_PIN_DRIVE = s.on fFLT_PIN_HOLD ∧
        t.on fFLT_PIN_HOLD = s.on fFLT_PIN_HOLD ∧
        t.on fFLT_PIN_LEVEL = (if s.on fFLT_PIN_DRIVE = s.on fFLT_PIN_HOLD then s.on fFLT_PIN_LEVEL else !s.on fFLT_PIN_HOLD && !s.pins.extLow) ∧
        OnlyRegs s t [FLT_PIN]) ∧
    (Served p FLT_PIN s →
      Runs (.holdRelease p) s (fun t => t.on fFLT_PIN_HOLD = decide (s.cyc.trigAt = s.now + 1) ∧
        t.on fFLT_PIN_DRIVE = (s.on fFLT_PIN_PULSE || t.on fFLT_PIN_HOLD) ∧
        t.on fFLT_PIN_LEVEL = (if s.on fFLT_PIN_DRIVE = t.on fFLT_PIN_DRIVE then s.on fFLT_PIN_LEVEL else !t.on fFLT_PIN_DRIVE && !s.pins.extLow) ∧
        t.on fFLT_PIN_PULSE = s.on fFLT_PIN_PULSE ∧ OnlyRegs { s with bus := { slverr := false, data := 0 } } t [FLT_PIN]) ∧
      Runs (.holdAssert p) s (fun t => t.on fFLT_PIN_HOLD = true ∧ t.on fFLT_PIN_DRIVE = true ∧
        t.on fFLT_PIN_LEVEL = (s.on fFLT_PIN_DRIVE && s.on fFLT_PIN_LEVEL) ∧
        t.on fFLT_PIN_PULSE = s.on fFLT_PIN_PULSE ∧ OnlyRegs { s with bus := { slverr := false, data := 0 } } t [FLT_PIN])) ∧
    (level = s.on fFLT_PIN_DRIVE → s.on fFLT_PIN_LEVEL ≠ level →
      Runs (.faultNMismatch level) s fun t => t.on fFLT_PIN_LEVEL = level ∧
        t.stat (if level then evFLT_DRIVE else evFLT_EXT_LOW) = true ∧ (s.on fFLT_PIN_DRIVE = false → t.pins.extLow = true) ∧ OnlyEvents s t (eventRegs 18)) ∧
    (level ≠ s.on fFLT_PIN_DRIVE ∨ s.on fFLT_PIN_LEVEL = level → exec (.faultNMismatch level) s = .next
      { s.putB fFLT_PIN_LEVEL level with pins := { s.pins with extLow := if s.on fFLT_PIN_DRIVE then s.pins.extLow else !level } }) ∧
    (Served p FLT_CTL s → Runs (.fieldBookClear p) s fun t => t.book = [] ∧ (∀ n, n < 22 → t.reg (bookReg n) = 0) ∧ t.reg FLT_LOG = 0 ∧
      OnlyRegs { s with bus := { slverr := false, data := 0 }, book := [] } t (FLT_LOG :: (upTo 22).map bookReg))

/-- Power-on reset resets everything but pin levels, and its release after 100 us starts the IB soft start. Rests on
01_block_boundary.md, R79, R355. -/
def Obligations.PowerOnReset : Prop :=
  ∀ (s : State) (rise uv : Nat) (v : Fin 8),
    exec .powerOnReset s = .next { State.reset with
      pending := s.pending, now := s.now
      pins := { hostPwrgd := s.pins.hostPwrgd, wakeN := s.pins.wakeN, loaded := s.pins.loaded, wrapper := s.pins.wrapper, port := s.pins.port, wso := s.pins.wso
                aonAt := s.now, fellAt := s.now, extLow := s.pins.extLow }
      cap := { throttle := s.cap.throttle }, clk := { syncLost := s.clk.syncLost, backAt := s.clk.backAt } } ∧
    Runs .powerOnReset s (fun t => t.por = true ∧ t.ts = 0 ∧ (∀ o, t.reg o = resetVal o) ∧ ∀ k a, memByte (t.memory k) a = 0) ∧
    (s.por = true → s.pins.fellAt ≤ rise → rise + 100000 ≤ s.now → Runs (.porRelease ⟨rise, uv⟩ v) s fun t =>
      t.por = false ∧ t.get fIBS_STATE_VSEL = v.val ∧ t.ibMode = 1 ∧
      (s.get fIBS_CTL_SRC = 0 → t.get fIBS_TGT_TARGET =
        clampN (s.get fCAD_IB_IBMIN) (s.get fCAD_IB_IBMAX) (s.get (fIBS_VSEL_CODE v.val)) % 2048) ∧
      t.ib.refUv = uv ∧ t.ib.ramping = true ∧ t.ib.vselForce = v.val ∧
      OnlyEvents { s with por := false, ib := t.ib, pst := { s.pst with wakeNFrom := if s.pins.wakeN then some s.now else none }
                          cap := { s.cap with thrFrom := if s.cap.throttle then some s.now else none } } t
        (eventRegs 11 ++ [IBS_STATE, IBS_TGT] ++ (upTo 16).map IBS_PSTAT)) ∧
    (s.por = false ∨ rise < s.pins.fellAt ∨ s.now < rise + 100000 → exec (.porRelease ⟨rise, uv⟩ v) s = .next s)

/-- The test wrapper, the host power pin, the reference clock and the clocks that start. Rests on 01_block_boundary.md,
06_domains_and_power_states.md, R83, R551. -/
def Obligations.PinsAndReference : Prop :=
  ∀ (s : State) (b : WrapperPort),
    Runs (.wsBypass b) s (fun t => t = { s with pins := { s.pins with loaded := 0, wrapper := 0, port := b, wso := t.pins.wso } }) ∧
    (b.wrstn = false → ∀ i ∈ [Instr.wsExtest b, Instr.wsIntest b, Instr.wsMbist b], Runs i s fun t =>
      t = { s with pins := { s.pins with loaded := 0, wrapper := 0, port := b, wso := t.pins.wso } }) ∧
    (b.wrstn = true →
      Runs (.wsExtest b) s (fun t => t = { s with pins := { s.pins with loaded := 1, wrapper := if b.testEn then 1 else 0, port := b, wso := t.pins.wso } }) ∧
      Runs (.wsIntest b) s (fun t => t = { s with pins := { s.pins with loaded := 2, wrapper := if b.testEn then 2 else 0, port := b, wso := t.pins.wso } }) ∧
      Runs (.wsMbist b) s fun t => t = { s with pins := { s.pins with loaded := 3, wrapper := if b.testEn then 3 else 0, port := b, wso := t.pins.wso } }) ∧
    (s.pins.hostPwrgd = true → exec .hostPwrgdRise s = .next s) ∧
    (s.pins.hostPwrgd = false → Runs .hostPwrgdRise s fun t =>
      (∀ k, k < 64 → t.on (fCG_TSTAT_BURST k) = (s.on (fCG_TSTAT_BURST k) || (decide (0 < s.get (fCG_TSTAT_PEND k)) && !t.forcedPause k))) ∧
      OnlyRegs { s with pins := { s.pins with hostPwrgd := true } } t ((upTo 64).map CG_TSTAT)) ∧
    (s.clk.syncLost = false → exec .syncInLoss s = .next (({ s with clk := { s.clk with
        syncLost := true, aligned := s.clk.aligned || s.on fIBS_STATE_ALIGNED, report := some (2, s.now), backAt := none, slewing := false } } : State).putB
      fIBS_STATE_ALIGNED false)) ∧
    (s.clk.syncLost = true → exec .syncInLoss s = .next { s with clk := { s.clk with backAt := none } }) ∧
    (s.clk.syncLost = true → s.clk.backAt = none →
      (s.now < s.nextPeriod → exec .syncInReturn s = .next { s with clk := { s.clk with backAt := some s.nextPeriod } }) ∧
      (s.nextPeriod ≤ s.now → Runs .syncInReturn s fun t => (∀ c, c < 256 → t.get (fCEL_CFG_OFFSET c) = s.get (fCEL_CFG_OFFSET c)) ∧
        OnlyRegs { s with clk := { s.clk with syncLost := false, backAt := none, slewing := true }, ib := { s.ib with shift := t.ib.shift, shiftAt := s.now } } t
          ((upTo 256).map CEL_CFG))) ∧
    (s.por = false → s.clk.pll = false → s.aon = 5 → (s.pst.waking = true → s.clk.fastOsc = true ∧ s.pst.offCheck = false) → Runs .pllLock s fun t =>
      t.on fTRV_STATE_TSYNC = false ∧ t.adc.bmAt = some s.now ∧
      OnlyRegs { s with
        clk := { s.clk with pll := true, gateAt := s.now }
        cg := { s.cg with gateHold := some (s.now + 16), staggerAt := s.now, slotNo := none }
        ib := if s.ib.gridSet then s.ib else { s.ib with gridSet := true, periodAt := s.now }
        adc := { s.adc with bmAt := some s.now, altAt := if s.get fADC_CFG_REF = 0 then none else some s.now }
        trv := t.trv, pst := { s.pst with waking := false } } t [TRV_STATE] ∧
      (s.pst.waking = false → t.trv = { s.trv with okOffsets := 0, slewLeft := 0 }) ∧
      (s.pst.waking = true → s.quiet = false → ∀ l k, l < 2 → s.outLane l = some k → ∃ e ∈ (t.trv.lane k).txq, e.word = frameWord 11 s.dieIndex 0)) ∧
    (s.por = false → s.clk.pll = false → s.pst.waking = true → s.clk.fastOsc = true → s.pst.offCheck = false → (s.aon = 2 ∨ s.aon = 3) → Runs .pllLock s fun t =>
      t.clk = { s.clk with pll := true, gateAt := s.now } ∧ t.cg.gateHold = some (s.now + 16) ∧ t.adc.bmAt = some s.now ∧
      t.on fTRV_STATE_TSYNC = false ∧
      (s.quiet = false → ∀ l k, l < 2 → s.outLane l = some k → ∃ e ∈ (t.trv.lane k).txq, e.word = frameWord 11 s.dieIndex 0) ∧
      (s.pst.toRun = true → (∀ d, d < 32 → (s.dom d).commanded ≠ 1) → t.aon = 0)) ∧
    (s.por = false → s.clk.fastOsc = false → (s.pst.waking = true ∨ s.aon = 5) →
      (s.trv.waking = false → exec .fastOscillatorStable s = .next { s with
        clk := { s.clk with fastOsc := true }, core := { s.core with waiting := false } }) ∧
      (s.trv.waking = true → Runs .fastOscillatorStable s fun t => t.trv.cw.burst = s.now + 2000 ∧ t.trv.ccw.burst = s.now + 2000 ∧
        s.now + 2000 ≤ t.trv.cw.busyUntil ∧ s.now + 2000 ≤ t.trv.ccw.busyUntil ∧
        t = { s with clk := { s.clk with fastOsc := true }, core := { s.core with waiting := false }
                     trv := { s.trv with waking := false, cw := { s.trv.cw with burst := t.trv.cw.burst, busyUntil := t.trv.cw.busyUntil }
                                         ccw := { s.trv.ccw with burst := t.trv.ccw.burst, busyUntil := t.trv.ccw.busyUntil } } }))

/-- When a block reset is refused, how it begins and what it leaves. Rests on 01_block_boundary.md,
14_mailboxes_and_firmware.md. -/
def Obligations.BlockReset : Prop :=
  ∀ s : State,
    (s.por = false → s.core.blockReset = false → Runs .aonRstReq s fun t => t.core.blockReset = true ∧ t.on fBLK_RST_BLOCK = true ∧
      (∀ d, d < 32 → 2 ≤ s.domState d → (∃ c, c ∈ s.cellsOf d ∧ 240 < s.get (fCEL_CSTAT_PRESENT c)) →
        t.domState d = 5 ∧ (t.dom d).phase = .stopRamp) ∧
      (∀ d, d < 32 → 2 ≤ s.domState d → (∀ c, c ∈ s.cellsOf d → s.get (fCEL_CSTAT_PRESENT c) ≤ 240) → t.domState d = 1) ∧
      ((∀ d, d < 32 → s.domState d ≤ 1) → t = { s with core := { s.core with blockReset := true } }.putB fBLK_RST_BLOCK true)) ∧
    (Served .host BLK_RST s → s.core.blockReset = false → s.runOrIdle = true →
      (∀ d, d < 32 → s.classOf d = 0 → s.domState d ≠ 3 ∧ s.domState d ≠ 4 ∧ s.domState d ≠ 5) →
      Runs (.blkRstBlock .host) s fun t => t.core.blockReset = true ∧ t.on fBLK_RST_BLOCK = true ∧ t.bus = { slverr := false, data := 0 } ∧
        (∀ d, d < 32 → 2 ≤ s.domState d → (∃ c, c ∈ s.cellsOf d ∧ 240 < s.get (fCEL_CSTAT_PRESENT c)) →
          t.domState d = 5 ∧ (t.dom d).phase = .stopRamp) ∧
        ∀ d, d < 32 → 2 ≤ s.domState d → (∀ c, c ∈ s.cellsOf d → s.get (fCEL_CSTAT_PRESENT c) ≤ 240) → t.domState d = 1) ∧
    (Served .host BLK_RST s →
      (s.runOrIdle = false ∨ ∃ d, d < 32 ∧ s.classOf d = 0 ∧ (s.domState d = 3 ∨ s.domState d = 4 ∨ s.domState d = 5)) →
      Ends (.blkRstBlock .host) s ((s.raise evBLK_RST_REFUSED 0xFFFF).okay 0)) ∧
    (Served .core BLK_RST s → exec (.blkRstBlock .core) s = .next (s.okay 0)) ∧
    (s.core.blockReset = true → (∀ c, c < 256 → s.on (fCEL_CSTAT_SS_DONE c) = false) →
      Runs .blockResetEffect s fun t => t.aon = 5 ∧ t.core.blockReset = false ∧ t.on fBLK_CORE_HOLD = true ∧ t.locked = false ∧ t.ts = s.ts ∧
        t.fw = [] ∧ t.dat = [] ∧ t.coef = [] ∧ t.plan = [] ∧ t.tele = [] ∧ t.chans = [] ∧ t.doms = [] ∧ t.cells = [] ∧ t.tracts = [] ∧ t.trv.started = s.trv.started ∧
        t.boot.bmTrim = s.boot.bmTrim ∧ t.thm.tcal = s.thm.tcal ∧ t.so = s.so.closed ∧ t.pins.inReset = decide (s.pins.aonOut ≠ 5) ∧
        (∀ o, o ∉ eventRegs 11 ++ [bookReg 10, bookReg 21, MON_ACTIVE, PST_STATE, PLAT_BM, PLAT_STATE, ADC_STATE, THM_CAL, THM_STATE, IBS_STATE, IBS_TGT]
            ++ (upTo 16).map IBS_PSTAT →
          t.reg o = if 0x2000 ≤ o ∧ o < 0x2800 then s.reg o else resetVal o))

/-- What a core reset does to the core and to its channels. Rests on R601, R602, R606. -/
def Obligations.CoreReset : Prop :=
  ∀ (s : State) (byWdt : Bool),
    (s.coreReset byWdt).on fBLK_CORE_READY = false ∧ (s.coreReset byWdt).on fBLK_CORE_RUNNING = false ∧
    (s.coreReset byWdt).on fBLK_CORE_CLK = false ∧ (s.coreReset byWdt).on fBLK_RST_CORE = true ∧
    (s.coreReset byWdt).get fBLK_CORE_RESETS = min 255 (s.get fBLK_CORE_RESETS + 1) ∧
    (s.coreReset byWdt).core.exitDue = some (s.now + 2000) ∧
    (s.coreReset byWdt).stat (if byWdt then evBLK_WDT else evBLK_CORE_RESET) = true ∧
    (∀ m, m < 8 → 1 ≤ s.chanState m → s.chanState m ≤ 3 →
      (s.coreReset byWdt).chanState m = 4 ∧ (s.coreReset byWdt).get (fMBX_CST_CODE m) = 1) ∧
    (∀ m, m < 8 → (s.chanState m = 0 ∨ 4 ≤ s.chanState m) → (s.coreReset byWdt).reg (MBX_CST m) = s.reg (MBX_CST m) ∧
      (s.coreReset byWdt).chan m = s.chan m) ∧
    OnlyEvents { s with core := (s.coreReset byWdt).core, chans := (s.coreReset byWdt).chans, trv := s.detachRelays.trv } (s.coreReset byWdt)
      (eventRegs 0 ++ [BLK_CORE, BLK_RST, MBX_DONE] ++ (upTo 8).flatMap fun m => MBX_CST m :: (upTo 16).map (MBX_RSP m))

/-- Commands of the management core: resets and their end, watchdog, clock and hold. Rests on R580, R581, R585, R600,
R601, R606, R640, R641. -/
def Obligations.CoreCommands : Prop :=
  ∀ (s : State) (p : Port) (dat clk : Bool) (addr : Nat),
    (Served p BLK_RST s → Ends (.blkRstCore p) s ((s.coreReset false).okay 0)) ∧
    (s.on fBLK_CORE_RUNNING = true → s.runOrIdle = true → s.get fBLK_WDT_COUNT = 0 → exec .watchdogExpiry s = .next (s.coreReset true)) ∧
    (s.on fBLK_CORE_RUNNING = true → s.memUsable (if dat then 1 else 0) = true → addr < memSize (if dat then 1 else 0) →
      exec (.coreMemUncorr dat addr) s =
        .next (((((s.markBad (if dat then 1 else 0) (addr / 8)).addSat (fMEM_MSTAT_UNCORR (if dat then 1 else 0)) 1).raiseD evMEM_UNCORR
          (if dat then 1 else 0) (addr / 8 * 8))).coreReset false)) ∧
    (∀ a, s.core.exitDue = some a → a ≤ s.now + 2000 → s.on fBLK_CORE_HOLD = false → s.aon = 1 → Runs .coreResetExit s fun t =>
      t.aon = 0 ∧ t.on fBLK_RST_CORE = false ∧ t.on fBLK_CORE_RUNNING = true ∧ t.core.waiting = false) ∧
    (∀ a, s.core.exitDue = some a → a ≤ s.now + 2000 → s.on fBLK_CORE_HOLD = false → s.aon ≠ 1 → Runs .coreResetExit s fun t =>
      t.on fBLK_RST_CORE = false ∧ t.on fBLK_CORE_RUNNING = true ∧ t.get fBLK_WDT_COUNT = 10000 ∧ t.core.exitDue = none ∧
      OnlyRegs { s with core := { s.core with exitDue := none, wdtSub := 0, waiting := false } } t [BLK_RST, BLK_CORE, BLK_WDT]) ∧
    (∀ a, s.core.exitDue = some a → s.on fBLK_CORE_HOLD = true → Runs .coreResetExit s fun t =>
      t.on fBLK_RST_CORE = false ∧ t.on fBLK_CORE_RUNNING = s.on fBLK_CORE_RUNNING ∧ OnlyRegs { s with core := { s.core with exitDue := none } } t [BLK_RST]) ∧
    (s.portOpen true = true → bitN (s.reg CAD_FWPERM).toNat 0 = true → Runs .wdtKick s fun t => t.get fBLK_WDT_COUNT = 10000 ∧
      OnlyRegs { s with core := { s.core with wdtSub := 0 } } t [BLK_WDT]) ∧
    (s.portOpen true = true → bitN (s.reg CAD_FWPERM).toNat 0 = true →
      exec (.coreClkSwitch clk) s = .next (s.putB fBLK_CORE_CLK (clk && s.clk.pll))) ∧
    (s.portOpen true = true → bitN (s.reg CAD_FWPERM).toNat 0 = false → Runs .wdtKick s fun t => t.get fBLK_WDT_COUNT = s.get fBLK_WDT_COUNT ∧
      t = s.raiseD evCAD_FW_DENIED 0xFFFF BLK_WDT ∧ exec (.coreClkSwitch clk) s = .next (s.raiseD evCAD_FW_DENIED 0xFFFF BLK_CORE)) ∧
    (Served .host BLK_CORE s → s.on fBLK_CORE_HOLD = true →
      (s.get fPLAT_STATE_PHASE = 4 → s.cyc.phaseAt ≠ s.now + 1 → s.boot.fwDue = none →
        Ends (.coreHoldClear .host) s (({ s with boot := { s.boot with fwDue := some (s.now + 200000) } } : State).okay 0)) ∧
      (s.get fPLAT_STATE_PHASE ≠ 4 ∨ s.cyc.phaseAt = s.now + 1 → Ends (.coreHoldClear .host) s ((s.raise evPLAT_SEQ_REFUSED 0xFFFF).okay 0)))

/-- An interface reset empties the mailboxes and the enables, and ends. Rests on 14_mailboxes_and_firmware.md, R605. -/
def Obligations.InterfaceReset : Prop :=
  ∀ (s : State) (m : Fin 8),
    (Served .host BLK_RST s → Runs (.blkRstIface .host) s fun t =>
      (∀ o, 0x1800 ≤ o → o < 0x2000 → t.reg o = 0) ∧ (∀ m, t.chan m = {}) ∧ (∀ m, m < 8 → t.chanState m = 0) ∧ t.reg MBX_DONE = 0 ∧
      (∀ n, n < 22 → t.reg (blockBase n + 4) = 0 ∧ t.irq n = false) ∧ t.reg TLM_SEQ = 0 ∧ t.on fBLK_RST_IFACE = true ∧
      (∀ o, (o < 0x1800 ∨ 0x2000 ≤ o) → o ∉ [BLK_RST, MBX_DONE, TLM_SEQ] ++ (upTo 22).map (fun n => blockBase n + 4) → t.reg o = s.reg o) ∧
      t = { s with regs := t.regs, chans := t.chans, core := { s.core with ifaceDue := some (s.now + 2000), orphans := t.core.orphans }
                   trv := s.detachRelays.trv, nrg := { s.nrg with nextSeq := 0 }, pmb := { s.pmb with busy := false }, bus := { slverr := false, data := 0 }, cyc := t.cyc }) ∧
    (Served .core BLK_RST s → exec (.blkRstIface .core) s = .next (s.okay 0)) ∧
    (Served .host (MBX_BELL m) s → m.val ≠ 7 → s.core.ifaceDue = some (s.now + 2000) → Ends (.mbxBell .host m) s (s.okay 0)) ∧
    (∀ a, s.core.ifaceDue = some a → Runs .ifaceResetDone s fun t =>
      t.on fBLK_RST_IFACE = false ∧ OnlyRegs { s with core := { s.core with ifaceDue := none } } t [BLK_RST])

/-- Ownership, power, background test and windows of the six memories. Rests on 14_mailboxes_and_firmware.md. -/
def Obligations.MemoryCommands : Prop :=
  ∀ (p : Port) (s : State) (k : Fin 6) (x : Nat) (fails : List (Nat × Ecc)) (a : Nat),
    (Served p MEM_OWNER s → x < 8 → x ≠ s.memOwner k →
      (s.ownerAllowed k x = true → Ends (.memOwnerWrite p (setBits (s.reg MEM_OWNER) (3 * k) 3 x)) s
        ((s.setReg MEM_OWNER (setBits (s.reg MEM_OWNER) (3 * k) 3 x)).okay 0)) ∧
      (s.ownerAllowed k x = false → Ends (.memOwnerWrite p (setBits (s.reg MEM_OWNER) (3 * k) 3 x)) s
        ((s.raise evMEM_REFUSED k).okay 0))) ∧
    (Served p MEM_PWR s → x < 4 → x ≠ s.memPower k →
      ((x = 3 ∨ (s.memPower k = 2 ∧ s.mayUnpower k = false)) → Ends (.memPwrWrite p (setBits (s.reg MEM_PWR) (2 * k) 2 x)) s
        ((s.raise evMEM_REFUSED k).okay 0)) ∧
      (x = 2 → tblGet (fun _ => 0) s.mem.upDue k = 0 → Ends (.memPwrWrite p (setBits (s.reg MEM_PWR) (2 * k) 2 x)) s
        ((s.updMem fun m => { m with upDue := tblSet (fun _ => 0) m.upDue k (s.now + if s.memPower k = 1 then 10000 else 100000) }).okay 0)) ∧
      (x = 2 → tblGet (fun _ => 0) s.mem.upDue k ≠ 0 → Ends (.memPwrWrite p (setBits (s.reg MEM_PWR) (2 * k) 2 x)) s (s.okay 0)) ∧
      (x ≤ 1 → (s.memPower k = 2 → s.mayUnpower k = true) → Runs (.memPwrWrite p (setBits (s.reg MEM_PWR) (2 * k) 2 x)) s fun t =>
        t.memPower k = x ∧ (x = 1 → t.memory k = s.memory k) ∧ (x = 0 → t.memory k = [] ∧ ∀ a n, t.memBad k a n = false ∧ t.weakIn k a n = []) ∧
        (∀ j, j < 6 → j ≠ k.val → t.memory j = s.memory j ∧ t.memPower j = s.memPower j ∧ ∀ a n, t.memBad j a n = s.memBad j a n ∧ t.weakIn j a n = s.weakIn j a n) ∧
        (∀ o, o ≠ MEM_PWR → t.reg o = s.reg o) ∧
        t = { s with regs := t.regs, fw := t.fw, dat := t.dat, coef := t.coef, plan := t.plan, book := t.book, tele := t.tele
                     mem := { s.mem with upDue := tblSet (fun _ => 0) s.mem.upDue k 0, bad := t.mem.bad, weak := t.mem.weak }, bus := { slverr := false, data := 0 }, cyc := t.cyc })) ∧
    (tblGet (fun _ => 0) s.mem.upDue k ≠ 0 → Runs (.memPowerUpDone k) s fun t =>
      t.memPower k = 2 ∧ OnlyRegs { s with mem := { s.mem with upDue := tblSet (fun _ => 0) s.mem.upDue k 0 } } t [MEM_PWR]) ∧
    (s.runOrIdle = true → bitN (s.get fMEM_TEST_EN) k = true → s.memPower k = 2 →
      tblGet (fun _ => 0) s.mem.testAt k + 1000000 * s.get fMEM_TEST_INTERVAL ≤ s.now →
      Runs (.memTestRegion k true fails) s (fun t =>
        t.get (fMEM_MSTAT_NEXT k) = (s.get (fMEM_MSTAT_NEXT k) + 1) % (memSize k / 256) ∧
        (∀ f, f ∈ fails → f.1 < 32 → t.stat evMEM_TEST_FAIL = true ∧
          (f.2 = .uncorrectable → (k.val, 32 * s.get (fMEM_MSTAT_NEXT k) + f.1) ∈ t.mem.bad) ∧
          (∀ n, f.2 = .corrected n → k.val ≠ 2 → (k.val, 32 * s.get (fMEM_MSTAT_NEXT k) + f.1) ∈ t.mem.weak ∨
            (k.val, 32 * s.get (fMEM_MSTAT_NEXT k) + f.1) ∈ t.mem.bad)) ∧
        ((∀ f, f ∈ fails → 32 ≤ f.1) → OnlyRegs { s with mem := t.mem } t [MEM_MSTAT k]) ∧
        OnlyEvents { s with mem := { s.mem with testAt := tblSet (fun _ => 0) s.mem.testAt k s.now, skips := tblSet (fun _ => 0) s.mem.skips k 0
                                                bad := t.mem.bad, weak := t.mem.weak } } t
          (MEM_MSTAT k :: eventRegs 20)) ∧
      Runs (.memTestRegion k false fails) s (fun t =>
        (tblGet (fun _ => 0) s.mem.skips k = 15 → t.stat evMEM_TEST_SKIP = true) ∧
        (tblGet (fun _ => 0) s.mem.skips k ≠ 15 → t = { s with mem := t.mem }) ∧
        OnlyEvents { s with mem := { s.mem with testAt := tblSet (fun _ => 0) s.mem.testAt k s.now
                                                skips := tblSet (fun _ => 0) s.mem.skips k (min 16 (tblGet (fun _ => 0) s.mem.skips k + 1)) } } t
          (eventRegs 20))) ∧
    (s.portOpen (p = .core) = true → s.memPower 5 = 2 → a < 0x10000 → a % 4 = 0 → s.offAnswers (0xA0000 + a) = true →
      (s.memBad 5 a 4 = false → s.weakIn 5 a 4 = [] → exec (.captureRead p (0xA0000 + a)) s =
        .next { s with bus := { slverr := false, data := BitVec.ofNat 32 (memLE s.tele a 4) } }) ∧
      (s.memBad 5 a 4 = false → s.weakIn 5 a 4 ≠ [] → Runs (.captureRead p (0xA0000 + a)) s fun t =>
        t.bus = { slverr := false, data := BitVec.ofNat 32 (memLE s.tele a 4) } ∧ t.stat evMEM_CORR = true ∧ t.weakIn 5 a 4 = [] ∧
        OnlyEvents { s with bus := t.bus, mem := { s.mem with weak := t.mem.weak } } t (MEM_MSTAT 5 :: eventRegs 20)) ∧
      (s.memBad 5 a 4 = true → Runs (.captureRead p (0xA0000 + a)) s fun t =>
        t.bus = { slverr := true, data := 0 } ∧ t.stat evMEM_UNCORR = true ∧
        OnlyEvents { s with bus := t.bus } t (MEM_MSTAT 5 :: eventRegs 20)))

/-- A write of PLAT_LDATA_HI stores the whole word and moves WORD on, or is refused. Rests on R626, R627. -/
def Obligations.LoaderPort : Prop :=
  ∀ (p : Port) (s : State) (v : Word), Served p PLAT_LDATA_HI s →
    (s.loaderRefuses (s.get fPLAT_LADDR_MEM) (s.get fPLAT_LADDR_WORD) = false → s.memPower (s.get fPLAT_LADDR_MEM) = 2 →
      Runs (.loaderWrite p v) s fun t =>
        memLE (t.memory (s.get fPLAT_LADDR_MEM)) (8 * s.get fPLAT_LADDR_WORD) 8 =
          (if s.boot.ldHeld then s.boot.ldLow.toNat else 0) + 2 ^ 32 * v.toNat ∧
        (∀ j a, j < 6 → (j ≠ s.get fPLAT_LADDR_MEM ∨ a < 8 * s.get fPLAT_LADDR_WORD ∨ 8 * s.get fPLAT_LADDR_WORD + 8 ≤ a) →
          memByte (t.memory j) a = memByte (s.memory j) a) ∧
        t.memBad (s.get fPLAT_LADDR_MEM) (8 * s.get fPLAT_LADDR_WORD) 8 = false ∧
        t.weakIn (s.get fPLAT_LADDR_MEM) (8 * s.get fPLAT_LADDR_WORD) 8 = [] ∧
        t.get fPLAT_LADDR_WORD = (s.get fPLAT_LADDR_WORD + 1) % 65536 ∧
        (∀ o, o ∉ [PLAT_LADDR, PLAT_LDATA_HI] → t.reg o = s.reg o) ∧
        t = { s with regs := t.regs, fw := t.fw, dat := t.dat, coef := t.coef, plan := t.plan, book := t.book, tele := t.tele
                     mem := { s.mem with bad := t.mem.bad, weak := t.mem.weak }, boot := { s.boot with ldLow := 0, ldHeld := false }
                     bus := { slverr := false, data := 0 }, cyc := t.cyc }) ∧
    (s.loaderRefuses (s.get fPLAT_LADDR_MEM) (s.get fPLAT_LADDR_WORD) = true →
      Ends (.loaderWrite p v) s
        (((s.updBoot fun b => { b with ldLow := 0, ldHeld := false }).raise evPLAT_SEQ_REFUSED 0xFFFF).okay 0)) ∧
    (s.loaderRefuses (s.get fPLAT_LADDR_MEM) (s.get fPLAT_LADDR_WORD) = true ↔
      (s.memOwner (s.get fPLAT_LADDR_MEM) ≠ 5 ∨ memSize (s.get fPLAT_LADDR_MEM) ≤ 8 * s.get fPLAT_LADDR_WORD ∨
        (s.get fPLAT_LADDR_MEM = 1 ∧ 0x6600 ≤ s.get fPLAT_LADDR_WORD ∧
          (s.get fPLAT_LADDR_WORD < 0x6800 ∨ s.locked = true))))

/-- Loading the plat: GO, and what its completion leaves. Rests on 15_boot_and_plat.md. -/
def Obligations.PlatLoad : Prop :=
  ∀ (p : Port) (s u : State),
    (Served p PLAT_CTL s →
      ((s.get fPLAT_STATE_PHASE = 1 ∧ s.cyc.phaseAt ≠ s.now + 1 ∨ s.get fPLAT_STATE_PHASE = 5) → Runs (.platGo p) s fun t =>
        t.get fPLAT_STATE_PHASE = 2 ∧
        OnlyRegs { s with boot := { s.boot with checkDue := some (s.now + 1500000) }, bus := { slverr := false, data := 0 } } t [PLAT_STATE]) ∧
      (¬(s.get fPLAT_STATE_PHASE = 1 ∧ s.cyc.phaseAt ≠ s.now + 1 ∨ s.get fPLAT_STATE_PHASE = 5) →
        Ends (.platGo p) s ((s.raise evPLAT_SEQ_REFUSED 0xFFFF).okay 0))) ∧
    (s.boot.checkDue.isSome = true → u = s.updBoot (fun b => { b with checkDue := none }) →
      (s.memPower 1 = 2 → s.weakIn 1 platBase (min 49152 s.imgLen) ≠ [] → Runs .platCheckDone s fun t => t.stat evMEM_CORR = true) ∧
      (s.weakIn 1 platBase (min 49152 s.imgLen) = [] →
      (u.checkImage = .crc → Runs .platCheckDone s fun t => t.get fPLAT_STATE_PHASE = 5 ∧ t.reg PLAT_ERR = 0xFFFFFFFF#32 ∧
        t.stat evPLAT_CRC = true ∧
        OnlyEvents u t ([PLAT_STATE, PLAT_ERR, MEM_MSTAT 1] ++ eventRegs 1)) ∧
      (∀ o, u.checkImage = .format o → Runs .platCheckDone s fun t => t.get fPLAT_STATE_PHASE = 5 ∧ t.get fPLAT_ERR_OFFSET = o % 2 ^ 32 ∧
        t.stat evPLAT_FORMAT = true ∧ OnlyEvents u t ([PLAT_STATE, PLAT_ERR] ++ eventRegs 1)) ∧
      (∀ rs e, u.checkImage = .good rs e → (u.applyPlat rs).platFails = [] → Runs .platCheckDone s fun t =>
        t.locked = true ∧ t.get fPLAT_STATE_PHASE = 4 ∧ t.get fPLAT_CRC_CRC = s.imgWord (s.imgLen - 4) % 2 ^ 32 ∧
        t.get fPLAT_START_MASK = startMask rs % 2 ^ 32 ∧ t.cg.staggerAt = s.now ∧ t.trv.lockAt = some s.now) ∧
      (∀ rs e f fs, u.checkImage = .good rs e → (u.applyPlat rs).platFails = f :: fs → Runs .platCheckDone s fun t =>
        t.get fPLAT_STATE_PHASE = 5 ∧ t.stat evPLAT_INVALID = true ∧ t.get fPLAT_ERR_OFFSET = platErr rs e (f :: fs) % 2 ^ 32 ∧
        t.coef = [] ∧ t.locked = s.locked)))

/-- The firmware check, the start of domains in plat order, and the wake from Off. Rests on 15_boot_and_plat.md,
06_domains_and_power_states.md. -/
def Obligations.FirmwareAndStart : Prop :=
  ∀ s : State,
    (s.boot.fwDue.isSome = true → s.memPower 0 = 2 → s.weakIn 0 0 (s.get fPLAT_FWLEN_LEN) ≠ [] → Runs .fwCrcDone s fun t => t.stat evMEM_CORR = true) ∧
    (s.boot.fwDue.isSome = true → s.weakIn 0 0 (s.get fPLAT_FWLEN_LEN) = [] →
      (s.fwGood = false → exec .fwCrcDone s = .next (((s.updBoot fun b => { b with fwDue := none }).ownRead 0 0 (s.get fPLAT_FWLEN_LEN)).raiseD evPLAT_FW_CRC 0xFFFF 0xFFFFFFFF)) ∧
      (s.fwGood = true → s.boot.released = true → s.aon ≠ 1 → Runs .fwCrcDone s fun t => t.on fPLAT_STATE_FWOK = true ∧ t.on fBLK_CORE_HOLD = false ∧
        t.on fBLK_CORE_RUNNING = true ∧ t.on fBLK_CORE_CLK = false ∧ t.get fBLK_WDT_COUNT = 10000 ∧ t.memOwner 0 = 0 ∧ t.memOwner 1 = 0 ∧
        OnlyRegs { s with boot := { s.boot with fwDue := none }, core := { s.core with exitDue := none, wdtSub := 0, waiting := false } } t
          [PLAT_STATE, BLK_CORE, BLK_WDT, MEM_OWNER]) ∧
      (s.fwGood = true → s.boot.released = false → s.aon ≠ 1 → Runs .fwCrcDone s fun t => ∃ u : State, t = u.startStep ∧
        u.on fPLAT_STATE_FWOK = true ∧ u.on fBLK_CORE_HOLD = false ∧
        u.on fBLK_CORE_RUNNING = true ∧ u.on fBLK_CORE_CLK = false ∧ u.get fBLK_WDT_COUNT = 10000 ∧ u.memOwner 0 = 0 ∧ u.memOwner 1 = 0 ∧
        u.on fPLAT_STATE_STARTING = true ∧
        OnlyRegs { s with
          boot := { s.boot with fwDue := none, released := true, seq := true, group := []
                                toStart := (upTo 32).filter fun d => bitN (s.get fPLAT_START_MASK) d }
          core := { s.core with exitDue := none, wdtSub := 0, waiting := false } } u [PLAT_STATE, BLK_CORE, BLK_WDT, MEM_OWNER])) ∧
    (s.boot.seq = true → (s.canStart = false ∨ ∃ d, d ∈ s.boot.group ∧ s.domState d = 3) → exec .domainStartStep s = .next s) ∧
    (s.boot.seq = true → s.canStart = true → (∀ d, d ∈ s.boot.group → s.domState d ≠ 3) →
      (s.boot.toStart = [] → s.aon ≠ 5 → Runs .domainStartStep s fun t => t.on fPLAT_STATE_STARTING = false ∧
        OnlyRegs { s with boot := { s.boot with seq := false, group := [] } } t [PLAT_STATE]) ∧
      (s.boot.toStart = [] → s.aon = 5 → Runs .domainStartStep s fun t => t.boot.seq = false ∧ t.on fPLAT_STATE_STARTING = false ∧
        t.aon = 0 ∧ t.env.penv = none ∧ t.pst.waking = false) ∧
      (s.boot.toStart ≠ [] → ∃ o, (∃ d, d ∈ s.boot.toStart ∧ s.get (fDOM_CFG_ORDER d) = o) ∧
        (∀ d, d ∈ s.boot.toStart → o ≤ s.get (fDOM_CFG_ORDER d)) ∧ Runs .domainStartStep s fun t =>
          t.boot = { s.boot with group := s.boot.toStart.filter (fun d => s.get (fDOM_CFG_ORDER d) = o)
                                 toStart := s.boot.toStart.filter (fun d => s.get (fDOM_CFG_ORDER d) ≠ o) }) ∧
      (∀ d, d < 32 → s.boot.toStart = [d] → s.domState d = 1 →
        (s.mayStart d = true → Runs .domainStartStep s fun t => t.domState d = 3 ∧ (t.dom d).commanded = 1 ∧ (t.dom d).phase = .stagesOff) ∧
        (s.mayStart d = false → Runs .domainStartStep s fun t => t.domState d = 1 ∧ (t.dom d).commanded = 0 ∧ t.stat evDOM_CMD_REFUSED = true))) ∧
    (s.pst.offCheck = true → s.memPower 1 = 2 → s.clk.fastOsc = true → s.weakIn 1 platBase (min 49152 s.imgLen) = [] →
      (({ s with pst := { s.pst with offCheck := false } } : State).loadPlat.2 = false → Runs .offWakePlatCheck s fun t =>
        t.get fPLAT_STATE_PHASE = 1 ∧ t.stat evPST_PLAT_LOST = true ∧
        OnlyEvents { s with pst := { s.pst with offCheck := false, waking := false } } t ([PLAT_STATE] ++ eventRegs 10)) ∧
      (({ s with pst := { s.pst with offCheck := false } } : State).loadPlat.2 = true → Runs .offWakePlatCheck s fun t =>
        t.locked = true ∧ t.get fPLAT_STATE_PHASE = 4 ∧ t.on fPLAT_STATE_FWOK = true ∧ t.on fBLK_CORE_RUNNING = true ∧ t.on fBLK_CORE_HOLD = false ∧
        t.boot.seq = true ∧ t.boot.released = true ∧ (t.on fTRV_CFG_WAKEALL = true → t.trv.cw.burst = s.now + 2000 ∧ t.trv.ccw.burst = s.now + 2000) ∧ ∀ d, d ∈ t.boot.toStart ↔ d < 32 ∧ (s.dom d).commanded = 1 ∧ t.domState d ≠ 0))

/-- Benchmark and thermal calibration, and the temperature corrections. Rests on 08_thermal.md, 15_boot_and_plat.md. -/
def Obligations.Calibrations : Prop :=
  ∀ (s : State) (datum gap raw : Nat) (tcal : Int) (bad : List Nat),
    (∀ a, s.boot.bmDue = some a → a ≤ s.now → Runs (.benchmarkCalDone datum gap raw) s fun t =>
      t.on fPLAT_STATE_BMDONE = true ∧ t.get fPLAT_STATE_PHASE = 1 ∧
      t.on fPLAT_BM_DATUM = decide (1140000 ≤ datum ∧ datum ≤ 1260000) ∧
      t.getI fPLAT_BM_TRIM = clampI (-512) 511
        (roundHalfUp ((if 1140000 ≤ datum ∧ datum ≤ 1260000 then (datum : Int) else gap) - raw) 50) ∧
      (¬(1140000 ≤ datum ∧ datum ≤ 1260000) → t.stat evPLAT_DATUM_ABSENT = true) ∧
      ((benchTrim datum gap raw < -512 ∨ 511 < benchTrim datum gap raw) → t.stat evPLAT_BM_RANGE = true) ∧
      OnlyEvents { s with boot := { s.boot with bmDue := none, bmTrim := t.reg PLAT_BM } } t ([PLAT_BM, PLAT_STATE] ++ eventRegs 1)) ∧
    (s.por = false → s.thm.tcal = none → s.on fPLAT_STATE_BMDONE = true →
      Runs (.thermalCalDone tcal bad) s fun t => t.getI fTHM_CAL_TCAL = s.diodeTemp tcal ∧ t.on fTHM_STATE_CALDONE = true ∧
        (∀ k, k < 64 → k ∈ bad → t.on (fTHM_SITE_INVALID k) = true ∧ t.stat evTHM_CAL = true) ∧
        OnlyEvents { s with thm := { s.thm with tcal := some (s.diodeTemp tcal), untrimmed := (upTo 64).filter bad.contains, sites := t.thm.sites } } t ([THM_CAL, THM_STATE] ++ (upTo 64).map THM_SITE ++ eventRegs 12)) ∧
    (s.on fTHM_STATE_CALDONE = true → s.aon ≠ 4 → Runs .refCorrectionUpdate s fun t =>
      (∀ i, i < 3 → t.getI (fTHM_COMP_CORR i) = clampI (s.getI (fTHM_COMP_CORR i) - 100) (s.getI (fTHM_COMP_CORR i) + 100)
        (clampI (-32768) 32767 (corrTarget i (s.getI (fTHM_SITE_VALUE (s.get (fTHM_COMP_SITE i))) - s.getI fTHM_CAL_TCAL))) ∧
        s.getI (fTHM_COMP_CORR i) - 100 ≤ t.getI (fTHM_COMP_CORR i) ∧
        t.getI (fTHM_COMP_CORR i) ≤ s.getI (fTHM_COMP_CORR i) + 100) ∧
      OnlyRegs s t ((upTo 3).map THM_COMP))

/-- A peg less than 10 ns after the previous accepted one is dropped and counted. Rule: R30. -/
def Obligations.PegSpacing : Prop :=
  ∀ (s : State) (q : Fin 16) (mark : Fin 65536) (a : Nat), s.gateLive = true → tblGet (fun _ => 0) s.so.lastPeg q = a + 1 →
    (s.now < a + 10 →
      exec (.announce q mark) s = .next (s.addSat fSO_PEG_DROP_COUNT 1) ∧
      exec (.arrive q mark) s = .next (s.addSat fSO_PEG_DROP_COUNT 1)) ∧
    (s.now = a + 10 → s.runOrIdle = true →
      tblGet (fun _ => 0) (s.takePeg q mark).1.so.lastPeg q = s.now + 1 ∧
      (∀ r, r ≠ q.val → tblGet (fun _ => 0) (s.takePeg q mark).1.so.lastPeg r = tblGet (fun _ => 0) s.so.lastPeg r) ∧
      (s.on (fSO_PEGMAP_EN q) = true → (s.takePeg q mark).1.reg SO_PEG_DROP = s.reg SO_PEG_DROP) ∧
      (s.on fSO_CTL_EN = true → s.on (fSO_PEGMAP_EN q) = true →
        (s.takePeg q mark).2 = some ((s.get (fSO_PEGMAP_BIAS q) + mark.val) % 65536)))

/-- What an accepted announce and an accepted arrive do. Rests on 04_setting_out.md. -/
def Obligations.PegsOpenAndStartInstances : Prop :=
  ∀ (s u : State) (q : Fin 16) (mark : Fin 65536) (idx : Nat), PegTaken s q → idx = pegIndex s q mark → u = pegNoted s q →
    ((∃ i, i ∈ s.so.awaiting ∧ i.idx = idx) → exec (.announce q mark) s = .next u) ∧
    ((∀ i, i ∈ s.so.awaiting → i.idx ≠ idx) → ∀ k x, s.hitSlot idx = some (k, x) →
      s.memUsable 3 = true → s.memBad 3 (32 * k) 32 = false → s.weakIn 3 (32 * k) 32 = [] → Runs (.announce q mark) s fun t =>
        ({ no := s.so.next, idx := idx, seq := q, annAt := s.now, ready := s.now, rcd := some (memBytes s.plan (32 * k) 32), stamp := x.stamp } : Inst)
          ∈ t.so.awaiting ∧
        (∀ i, i ∈ s.so.awaiting → i.no ≠ s.so.next → i ∈ t.so.awaiting) ∧
        t = { u with so := { u.so with awaiting := t.so.awaiting, running := t.so.running, next := s.so.next + 2
                                       slots := tblSet (fun _ => {}) s.so.slots k { x with used := s.so.next + 2 } } }) ∧
    ((∀ i, i ∈ s.so.awaiting → i.idx ≠ idx) → s.hitSlot idx = none → s.allPinned = false →
      (s.so.queue = [] → 1 ≤ s.freeIds → Runs (.announce q mark) s fun t =>
        (∃ f, f ∈ t.so.fetches ∧ f.no = s.so.next + 1 ∧ f.idx = idx ∧ f.seq = q.val ∧ f.mark = mark.val ∧ f.held = !s.on fSO_GEN_VALID ∧
          f.hdrIssued = false ∧ f.recIssued = false) ∧ t.so.fetches.length = s.so.fetches.length + 1 ∧
        t = { u with so := { u.so with next := s.so.next + 2, fetches := t.so.fetches
                                       awaiting := s.so.awaiting ++ [{ no := s.so.next, idx := idx, seq := q, annAt := s.now, fetch := some (s.so.next + 1) }] } }) ∧
      ((s.so.queue ≠ [] ∨ s.freeIds = 0) → s.so.queue.length < 64 → exec (.announce q mark) s = .next
        { u with so := { u.so with next := s.so.next + 2, queue := s.so.queue ++ [s.so.next + 1]
                                   fetches := s.so.fetches ++ [{ no := s.so.next + 1, idx := idx, seq := q, mark := mark }]
                                   awaiting := s.so.awaiting ++ [{ no := s.so.next, idx := idx, seq := q, annAt := s.now, fetch := some (s.so.next + 1) }] } }) ∧
      (64 ≤ s.so.queue.length → exec (.announce q mark) s = .next
        (({ u with so := { u.so with next := s.so.next + 1 } } : State).addSat fSO_PEG_DROP_COUNT 1 |>.raiseD evSO_QUEUE_OVF idx (soData q 0)))) ∧
    ((∀ i, i ∈ s.so.awaiting → i.idx ≠ idx) → s.hitSlot idx = none → s.allPinned = true → exec (.announce q mark) s = .next
      (({ u with so := { u.so with next := s.so.next + 1
                                   awaiting := s.so.awaiting ++ [{ no := s.so.next, idx := idx, seq := q, annAt := s.now, plain := true }] } } :
        State).raiseD evSO_FULL idx (soData q 0))) ∧
    ((∀ i, i ∈ s.so.awaiting → i.idx ≠ idx) → exec (.arrive q mark) s = .next (u.addSat (fSO_TIME_EARLY_COUNT q) 1)) ∧
    (∀ i b, s.so.awaiting.find? (fun i => i.idx = idx) = some i → i.rcd = some b → genOf b = s.get fSO_GEN_GEN →
      Runs (.arrive q mark) s fun t =>
        (∃ j, j ∈ t.so.running ∧ j.no = i.no ∧ j.idx = idx ∧ j.arrAt = s.now ∧ j.dur = max (rDuration b) 2000 ∧ j.rcd = some b ∧
          ∀ d, d ∈ s.maskedBy b → s.isOn d = true → d ∉ i.out → ∃ e, e ∈ j.lifts ∧ e.1 = d) ∧
        (∀ j, j ∈ t.so.awaiting → j.no ≠ i.no) ∧
        t.so.arrives = s.so.arrives ++ [{ inst := i.no, idx := idx, seq := q, used := some (genOf b, i.stamp) }] ∧
        LiftOnly s t [SO_TIME_SHORT q]) ∧
    (∀ i, s.so.awaiting.find? (fun i => i.idx = idx) = some i → (∀ b, i.rcd = some b → genOf b ≠ s.get fSO_GEN_GEN) →
      i.rcd.isSome = true ∨ i.plain = false → Runs (.arrive q mark) s fun t =>
        (∃ j, j ∈ t.so.running ∧ j.no = i.no ∧ j.plain = true ∧ j.rcd = none ∧ j.lifts = [] ∧ j.arrAt = s.now) ∧ (∀ j, j ∈ t.so.awaiting → j.no ≠ i.no) ∧
        t.so.arrives = s.so.arrives ++ [{ inst := i.no, idx := idx, seq := q, used := none }] ∧
        t.get (fSO_TIME_EARLY_COUNT q) = min (2 ^ 32 - 1) (s.get (fSO_TIME_EARLY_COUNT q) + 1) ∧ LiftOnly s t [SO_TIME_EARLY q]) ∧
    (∀ i, s.so.awaiting.find? (fun i => i.idx = idx) = some i → i.rcd = none → i.plain = true → (∀ j, j ∈ s.so.running → j.idx ≠ idx) →
      exec (.arrive q mark) s = .next { u with so := { u.so with
        awaiting := s.so.awaiting.filter fun j => j.no ≠ i.no, running := s.so.running ++ [{ i with arrAt := s.now, dur := 2000 }]
        arrives := s.so.arrives ++ [{ inst := i.no, idx := idx, seq := q, used := none }] } })

/-- The start of a lift, the end of a step, a missed mark, and SO_CTL. Rests on 04_setting_out.md. -/
def Obligations.InstanceTimes : Prop :=
  ∀ (s : State) (p : Port) (idx : Fin 65536) (en : Bool),
    (∀ i b d, s.so.awaiting.find? (fun i => i.idx = idx.val) = some i → i.rcd = some b → d ∈ s.maskedBy b → s.liftStart i b d ≤ s.now →
      s.isOn d = true → (∀ e, e ∈ i.lifts → e.1 ≠ d) → d ∉ i.out → Runs (.liftStart idx) s fun t =>
        (∃ j, j ∈ t.so.awaiting ∧ j.no = i.no ∧ (d, s.liftDom b d) ∈ j.lifts) ∧
        (0 < rDelta b (s.classOf d) → i.no ∈ (t.dom d).ccm) ∧ LiftStands t d ∧ LiftOnly s t []) ∧
    (∀ i, s.so.running.find? (fun i => i.idx = idx.val) = some i → i.arrAt + i.dur ≤ s.now → Runs (.stepEnd idx) s fun t =>
      (∀ j, j ∈ t.so.running → j.no ≠ i.no) ∧ (∀ j, j ∈ s.so.running → j.no ≠ i.no → j ∈ t.so.running) ∧
      (∀ e, e ∈ i.lifts → i.no ∉ (t.dom e.1).ccm) ∧ (∀ e, e ∈ i.lifts → e.1 < 32 → s.isOn e.1 = true → LiftStands t e.1) ∧ LiftOnly s t []) ∧
    (∀ i b, s.so.awaiting.find? (fun i => i.idx = idx.val) = some i → i.rcd = some b → i.annAt + rLead b + 1000 * s.get fSO_CFG_GRACE ≤ s.now →
      i.seq < 16 → Runs (.markMiss idx) s fun t => (∀ j, j ∈ t.so.awaiting → j.no ≠ i.no) ∧ (∀ e, e ∈ i.lifts → i.no ∉ (t.dom e.1).ccm) ∧
        (∀ e, e ∈ i.lifts → e.1 < 32 → s.isOn e.1 = true → LiftStands t e.1) ∧
        t.get (fSO_TIME_MISS_COUNT i.seq) = min (2 ^ 32 - 1) (s.get (fSO_TIME_MISS_COUNT i.seq) + 1) ∧ LiftOnly s t [SO_TIME_MISS i.seq]) ∧
    (Served p SO_CTL s →
      (s.on fSO_CTL_EN = false → s.shut = true → Ends (.soCtlEnSet p false) s (s.okay 0)) ∧
      (s.on fSO_CTL_EN = false → s.shut = false →
        (s.winBase < s.winLimit → s.memUsable 3 = true → Ends (.soCtlEnSet p false) s ((s.putB fSO_CTL_EN true).okay 0)) ∧
        (s.winLimit ≤ s.winBase → s.memUsable 3 = true → Ends (.soCtlEnSet p false) s ((s.raiseD evSO_WINDOW 0xFFFF 0).okay 0)) ∧
        (s.winBase < s.winLimit → s.memUsable 3 = false → Ends (.soCtlEnSet p false) s ((s.raise evMEM_REFUSED 3).okay 0))) ∧
      (s.on fSO_CTL_EN = true → Runs (.soCtlEnClear p false) s fun t => t.on fSO_CTL_EN = false ∧ t.on fSO_GEN_VALID = false ∧
        t.so.awaiting = [] ∧ t.so.running = [] ∧ t.so.fetches = [] ∧ t.so.queue = [] ∧ t.so.arrives = [] ∧
        (∀ r, r ∈ t.so.reads → r.live = false) ∧ t.so.reads.map (·.rid) = s.so.reads.map (·.rid) ∧ (∀ e, e ∈ t.so.slots → e.2.usable = false) ∧
        LiftOnly { s with bus := { slverr := false, data := 0 } } t [SO_CTL, SO_GEN]) ∧
      Runs (.soCtlClr p en) s (fun t => t.get fSO_PEG_DROP_COUNT = 0 ∧ (∀ q, q < 16 →
        t.get (fSO_ACC_USED_COUNT q) = 0 ∧ t.get (fSO_ACC_STALE_COUNT q) = 0 ∧ t.get (fSO_TIME_EARLY_COUNT q) = 0 ∧
        t.get (fSO_TIME_SHORT_COUNT q) = 0 ∧ t.get (fSO_TIME_MISS_COUNT q) = 0) ∧
        (en = s.on fSO_CTL_EN → OnlyRegs { s with bus := { slverr := false, data := 0 } } t
          (SO_PEG_DROP :: (upTo 16).flatMap fun q => [SO_ACC_USED q, SO_ACC_STALE q, SO_TIME_EARLY q, SO_TIME_SHORT q, SO_TIME_MISS q]))))

/-- Issue, completion, failure and abandonment of plan reads. Rests on 01_block_boundary.md, 04_setting_out.md. -/
def Obligations.PlanReads : Prop :=
  ∀ (s : State) (rid : Fin 32) (b : List Byte) (r : PlanRead) (f : Fetch),
    (s.pins.hostPwrgd = true → s.so.reads.length < 32 →
      (∀ a l, s.so.arrives = a :: l → s.inWindow s.winBase = true → Runs .fetchIssue s fun t =>
        t.so.reads = s.so.reads ++ [{ rid := s.freeRid, addr := s.winBase, header := true, idx := a.idx, seq := a.seq, fetch := none, arrives := s.so.arrives,
                                      since := s.now, order := s.so.next, live := true }] ∧
        t = { s with so := { s.so with reads := t.so.reads, arrives := [], next := s.so.next + 1, fetches := t.so.fetches, queue := t.so.queue } } ∧
        (s.so.queue = [] → t.so.fetches = s.so.fetches ∧ t.so.queue = [])) ∧
      (s.so.arrives = [] → s.so.fetches.find? s.issuable = some f → s.so.queue = [] →
        (f.hdrIssued = false → s.inWindow s.winBase = true → exec .fetchIssue s = .next { s with so := { s.so with
          fetches := s.so.fetches.map fun g => if g.no = f.no then { f with hdrIssued := true } else g
          reads := s.so.reads ++ [{ rid := s.freeRid, addr := s.winBase, header := true, idx := f.idx, seq := f.seq, fetch := some f.no, arrives := [],
                                    since := s.now, order := s.so.next, live := true }]
          next := s.so.next + 1 } }) ∧
        (f.hdrIssued = true → s.inWindow (s.recordAddr f.idx) = true → f.idx < s.countFor f → exec .fetchIssue s = .next { s with so := { s.so with
          fetches := s.so.fetches.map fun g => if g.no = f.no then { f with recIssued := true } else g
          reads := s.so.reads ++ [{ rid := s.freeRid, addr := s.recordAddr f.idx, header := false, idx := f.idx, seq := f.seq, fetch := some f.no, arrives := [],
                                    since := s.now, order := s.so.next, live := true }]
          next := s.so.next + 1 } }) ∧
        ((f.hdrIssued = false ∧ s.inWindow s.winBase = false ∨ f.hdrIssued = true ∧ (s.inWindow (s.recordAddr f.idx) = false ∨ s.countFor f ≤ f.idx)) →
          Runs .fetchIssue s fun t => t.stat evSO_WINDOW = true ∧ (∀ g, g ∈ t.so.fetches → g.no ≠ f.no) ∧ LiftOnly s t []))) ∧
    (s.readNo rid = some r → r.live = true → b.length = 32 →
      (r.header = true → Runs (.headerReadDone rid true b) s fun t =>
        t.get fSO_GEN_GEN = (if s.so.genOrder < r.order then genOf b else s.get fSO_GEN_GEN) ∧ t.on fSO_GEN_VALID = true ∧
        t.so.count = le b 4 4 ∧ (∀ q, q ∈ t.so.reads → q.rid ≠ rid.val) ∧
        (r.fetch = none → r.arrives = [] → OnlyRegs { s with so := t.so } t [SO_GEN])) ∧
      (r.header = true → r.fetch = some f.no → s.so.fetches.find? (fun g => g.no = f.no) = some f → Runs (.headerReadDone rid false b) s fun t =>
        t.stat evSO_FETCH_ERR = true ∧ (∀ g, g ∈ t.so.fetches → g.no ≠ f.no) ∧ (∀ q, q ∈ t.so.reads → q.rid ≠ rid.val) ∧ t.reg SO_GEN = s.reg SO_GEN) ∧
      (r.header = false → r.fetch = some f.no → s.so.fetches.find? (fun g => g.no = f.no) = some f → Runs (.recordReadDone rid false b) s fun t =>
        t.stat evSO_FETCH_ERR = true ∧ (∀ g, g ∈ t.so.fetches → g.no ≠ f.no) ∧ (∀ q, q ∈ t.so.reads → q.rid ≠ rid.val) ∧ t.plan = s.plan) ∧
      (r.header = false → r.fetch = some f.no → s.so.fetches.find? (fun g => g.no = f.no) = some f → ∀ g c, f.hdr = some (g, c) →
        (malformed b f.mark = true → Runs (.recordReadDone rid true b) s fun t =>
          t.stat evSO_MALFORMED = true ∧ (∀ g, g ∈ t.so.fetches → g.no ≠ f.no) ∧ t.plan = s.plan) ∧
        (malformed b f.mark = false → g ≠ 0 → genOf b ≠ g → f.seq < 16 → Runs (.recordReadDone rid true b) s fun t =>
          t.stat evSO_STALE = true ∧ t.get (fSO_ACC_STALE_COUNT f.seq) = min (2 ^ 32 - 1) (s.get (fSO_ACC_STALE_COUNT f.seq) + 1) ∧
          (∀ g, g ∈ t.so.fetches → g.no ≠ f.no) ∧ t.plan = s.plan) ∧
        (malformed b f.mark = false → genOf b = g → g ≠ 0 → s.memUsable 3 = true → Runs (.recordReadDone rid true b) s fun t =>
          (∀ g, g ∈ t.so.fetches → g.no ≠ f.no) ∧ (∀ q, q ∈ t.so.reads → q.rid ≠ rid.val) ∧
          ((∃ i, i ∈ s.so.awaiting ∧ i.fetch = some f.no) →
            ∃ i, i ∈ t.so.awaiting ∧ i.rcd = some b ∧ i.ready = s.now ∧ i.fetch = none) ∧
          t = { s with so := t.so, plan := t.plan, mem := t.mem })) ∧
      (∀ a g z, r.header = true → r.fetch = none → r.arrives = [a] → a.used = some (g, z) → a.seq < 16 →
        (genOf b = g → Runs (.rereadDone rid true b) s fun t =>
          t.get (fSO_ACC_USED_COUNT a.seq) = min (2 ^ 32 - 1) (s.get (fSO_ACC_USED_COUNT a.seq) + 1) ∧
          OnlyRegs { s with so := t.so } t [SO_GEN, SO_ACC_USED a.seq]) ∧
        (genOf b ≠ g → Runs (.rereadDone rid true b) s fun t =>
          t.get (fSO_ACC_STALE_COUNT a.seq) = min (2 ^ 32 - 1) (s.get (fSO_ACC_STALE_COUNT a.seq) + 1) ∧ t.stat evSO_STALE = true ∧
          (∀ i, i ∈ t.so.running → i.no = a.inst → i.plain = true) ∧ LiftOnly s t [SO_GEN, SO_ACC_STALE a.seq]))) ∧
    (s.readNo rid = some r → r.live = true → r.since + 10000 ≤ s.now → r.fetch = some f.no → s.so.fetches.find? (fun g => g.no = f.no) = some f →
      Runs (.fetchTimeout rid) s fun t => t.stat evSO_FETCH_TO = true ∧ (∀ g, g ∈ t.so.fetches → g.no ≠ f.no) ∧
        (∃ q, q ∈ t.so.reads ∧ q.rid = rid.val ∧ q.live = false) ∧ t.so.reads.length = s.so.reads.length ∧ LiftOnly s t []) ∧
    (s.por = false → s.pins.hostPwrgd = true →
      Runs .hostPwrgdFall s (fun t => t.pins.hostPwrgd = false ∧ t.bus = {} ∧ t.so.reads = [] ∧ t.so.fetches = [] ∧
        t.so.arrives = [] ∧ t.nrg.writes = [] ∧ (s.so.fetches ≠ [] → t.stat evSO_FETCH_ERR = true) ∧
        LiftOnly { s with pins := { s.pins with hostPwrgd := false }, bus := {}, nrg := { s.nrg with writes := [] } } t [TLM_DROP]) ∧
      (s.so.reads = [] → s.so.fetches = [] → s.so.queue = [] → s.so.arrives = [] → s.nrg.writes = [] →
        exec .hostPwrgdFall s = .next { s with pins := { s.pins with hostPwrgd := false }, bus := {} })) ∧
    (s.por = false → Runs .axiReset s (fun t => t.bus = {} ∧ t.so.reads = [] ∧ t.nrg.writes = [] ∧
      (∀ g, g ∈ t.so.fetches → ∃ e, e ∈ s.so.fetches ∧ e.no = g.no) ∧
      t.get fTLM_DROP_COUNT = min (2 ^ 32 - 1) (s.get fTLM_DROP_COUNT + s.nrg.writes.length) ∧
      LiftOnly { s with bus := {}, nrg := { s.nrg with writes := [] } } t [TLM_DROP]) ∧
      (s.so.reads = [] → s.so.queue = [] → s.nrg.writes = [] → exec .axiReset s = .next { s with bus := {} }))

/-- Start requests join the pending count, which saturates at 255. Rule: R34. -/
def Obligations.StartRequests : Prop :=
  ∀ (s : State) (t : Fin 64) (n : Fin 8),
    (s.gateLive = true → n.val ≠ 0 → Runs (.gateReq t n) s fun u =>
      u.get (fCG_TSTAT_PEND t) = min 255 (s.get (fCG_TSTAT_PEND t) + n.val) ∧
      (255 < s.get (fCG_TSTAT_PEND t) + n.val → u.stat evCG_REQ_OVF = true) ∧
      (s.get (fCG_TSTAT_PEND t) + n.val ≤ 255 → OnlyRegs { s with tracts := u.tracts } u [CG_TSTAT t]) ∧
      OnlyEvents { s with tracts := u.tracts } u ([CG_TSTAT t] ++ eventRegs 7) ∧
      u.tract t = { s.tract t with reqs := if s.get (fCG_TSTAT_PEND t) = 255 then (s.tract t).reqs
        else (s.tract t).reqs ++ [(s.now, min n.val (255 - s.get (fCG_TSTAT_PEND t)))] } ∧
      u.get (fCG_TSTAT_DUTY t) = s.get (fCG_TSTAT_DUTY t) ∧
      u.on (fCG_TSTAT_BURST t) = (s.on (fCG_TSTAT_BURST t) || (s.get (fCG_TSTAT_PEND t) = 0 && s.quietTract t)) ∧
      ∀ k, k ≠ t.val → u.tract k = s.tract k) ∧
    ((s.gateLive = false ∨ n.val = 0) → exec (.gateReq t n) s = .next s)

/-- Links, pause slots and inrush comparison. Rests on 05_chain_gate_and_envelope.md. -/
def Obligations.LinksAndPauses : Prop :=
  ∀ (s : State) (t : Fin 64) (d : Fin 32),
    (s.linkDue t = true ↔ s.gateLive = true ∧ 0 < s.get (fCG_TSTAT_PEND t) ∧ s.gatePause t = false ∧ s.envHold = false ∧
      (∃ r, (s.tract t).reqs.head? = some r ∧ r.1 + 2 ≤ s.now) ∧ (∀ a, (s.tract t).lastLink = some a → a + s.ieff t ≤ s.now) ∧
      (s.on (fCG_TSTAT_BURST t) = true → s.gateCycles % max 1 (s.get fCG_CFG_SPAN) = s.get (fCG_STAG_OFFSET t) % max 1 (s.get fCG_CFG_SPAN))) ∧
    (s.linkDue t = true → Runs (.gateLink t) s fun u =>
      u.get (fCG_TSTAT_PEND t) = s.get (fCG_TSTAT_PEND t) - 1 ∧ u.on (fCG_TSTAT_BURST t) = false ∧
      u.get fCG_LINK_CNT_COUNT = min (2 ^ 32 - 1) (s.get fCG_LINK_CNT_COUNT + 1) ∧
      u.tract t = { s.tract t with lastLink := some s.now, reqs := dropReq (s.tract t).reqs, ff := (u.tract t).ff } ∧
      (s.get (fCG_TRK_ISTEP t) = 0 → (u.tract t).ff = (s.tract t).ff ∧ u.reg (SO_TRK_STAT t) = s.reg (SO_TRK_STAT t)) ∧
      (s.get (fCG_TRK_ISTEP t) ≠ 0 → (u.tract t).ff = (s.tract t).ff ++
        [{ startAt := s.now + 10, vals := [roundAway (s.get (fCG_TRK_ISTEP t) * s.getI (fSO_TRK_FF_KFF t)) 64], inst := none }]) ∧
      OnlyRegs { s with tracts := u.tracts } u [CG_TSTAT t, CG_LINK_CNT, SO_TRK_STAT t] ∧ ∀ k, k ≠ t.val → u.tract k = s.tract k) ∧
    ((s.gatePause t = true ∨ s.envHold = true ∨ s.get (fCG_TSTAT_PEND t) = 0) → exec (.gateLink t) s = .next s) ∧
    (s.lclk = true → s.cg.slotNo ≠ some (s.gateCycles / max 1 (s.get fCG_CFG_PSLOT)) → Runs .pauseSlot s fun u =>
      (∀ k, k < 64 → u.get (fCG_TSTAT_DUTY k) = s.dutyDemand k ∧
        u.tract k = { s.tract k with
          dutyPause := decide (rev5 ((s.gateCycles / max 1 (s.get fCG_CFG_PSLOT) % 32 + 4 * s.get (fCG_STAG_OFFSET k)) % 32) < s.dutyDemand k) }) ∧
      OnlyRegs { s with tracts := u.tracts, cg := { s.cg with slotNo := some (s.gateCycles / max 1 (s.get fCG_CFG_PSLOT)) } } u ((upTo 64).map CG_TSTAT)) ∧
    (s.stageWaits d = true → (∀ a, (s.dom d).waitFrom = some a → (s.dom d).waitCheck ≤ s.now) →
      ((s.neighbours d).filter s.isLoaded = [] → exec (.inrushCompare d) s =
        .next (s.updDom d fun h => { h with stageOk := true, loaded := [], waitFrom := none, slow := false })) ∧
      ((s.neighbours d).filter s.isLoaded ≠ [] → Runs (.inrushCompare d) s fun u =>
        u.dom d = { s.dom d with loaded := (s.neighbours d).filter s.isLoaded, waitCheck := s.now + 1000
                                 waitFrom := some ((s.dom d).waitFrom.getD s.now) } ∧
        ((s.dom d).waitFrom = none → u.stat evCG_INRUSH_WAIT = true) ∧
        (∀ k, k ≠ d.val → u.dom k = s.dom k) ∧ OnlyEvents { s with doms := u.doms } u (eventRegs 7))) ∧
    (∀ a, s.stageWaits d = true → (s.dom d).waitFrom = some a → a + 1000 * s.get fCG_INRUSH_WAIT ≤ s.now →
      Runs (.inrushWaitExpiry d) s fun u => u.dom d = { s.dom d with stageOk := true, loaded := [], waitFrom := none, slow := true } ∧
        u.stat evCG_INRUSH_SLOW = true ∧ (∀ k, k ≠ d.val → u.dom k = s.dom k) ∧ OnlyEvents { s with doms := u.doms } u (eventRegs 7))

/-- A frame: every station sampled, every tract fed back. Rests on 02_regulator_cells.md. -/
def Obligations.StationFrames : Prop :=
  ∀ (s : State) (uv : List Nat) (isns : List Int) (peaks : PhasePeaks) (tripped : List Nat) (t : Fin 64) (n : Fin 1024) (p : Port) (m : BitVec 16),
    ((s.lclk = true ∨ s.aon = 2 ∨ s.aon = 3) → (∀ a, s.loops.frameAt = some a → a + 40 ≤ s.now) →
      Runs (.frameStart uv isns peaks tripped) s fun u =>
        u.loops = { s.loops with frame := s.loops.frame + 1, frameAt := some s.now } ∧
        (∀ k, k < 1024 → (s.aon ≠ 3 ∨ (s.loops.frame + 1) % 25 = 0 ∨ (s.lclk = true ∧ s.domState (s.domOf (k / 16)) ≠ 2)) →
          u.get (fSTN_VAL_CODE k) = (if uv.getD k 0 < 300000 then 240 else if 1100000 < uv.getD k 0 then 880 else (uv.getD k 0 + 624) / 1250) ∧
          u.on (fSTN_VAL_OVR k) = decide (1100000 < uv.getD k 0) ∧ u.on (fSTN_VAL_UND k) = decide (uv.getD k 0 < 300000)) ∧
        (∀ k f, k < 64 → (s.aon ≠ 3 ∨ (s.loops.frame + 1) % 25 = 0 ∨ (s.lclk = true ∧ s.domState (s.domOf k) ≠ 2)) → u.feedback k = some f →
          u.get (fSTN_MIN_CODE k) = f.1 ∧ u.get (fSTN_MIN_IDX k) = f.2.1) ∧
        (s.aon = 3 → (s.loops.frame + 1) % 25 ≠ 0 → ∀ t, t < 64 → (s.lclk = false ∨ s.domState (s.domOf t) = 2) →
          u.reg (STN_MIN t) = s.reg (STN_MIN t) ∧ (u.tract t).samples = (s.tract t).samples ∧
          ∀ k, k < 16 → u.reg (STN_VAL (16 * t + k)) = s.reg (STN_VAL (16 * t + k))) ∧
        (∀ k, k < 64 → (u.tract k).iHist.head? = some ((sumOverI (upTo 8) (fun j => isns.getD (8 * k + j) 0) + 50) / 100)) ∧
        (∀ k, k < 256 → (u.cell k).isns0 = isns.getD (2 * k) 0 ∧ (u.cell k).isns1 = isns.getD (2 * k + 1) 0) ∧
        (s.lclk = false → u.cap = s.cap ∧ u.nrg = s.nrg) ∧
        OnlyRegs { s with loops := u.loops, stns := u.stns, cells := u.cells, tracts := u.tracts, doms := u.doms, cap := u.cap, nrg := u.nrg } u
          ((upTo 1024).map STN_VAL ++ (upTo 64).map STN_MIN ++ (upTo 256).map CEL_CSTAT ++ (upTo 256).map CEL_MEAS ++ (upTo 64).map TRC_IMEAS)) ∧
    (∀ k, s.farthest t = some k →
      (4 < (s.usableIn t).length → (s.tract t).marked ≠ (s.tract t).samples → Runs (.stationSuspect t) s fun u =>
        u.usable k = false ∧ (∀ j, j < 1024 → j ≠ k → u.usable j = s.usable j) ∧ (u.stn k).far = 0 ∧
        u.stat evSTN_SUSPECT = true ∧ (∀ j, j ≠ k → u.stn j = s.stn j) ∧
        u.tract t = { s.tract t with consensus := false, marked := (s.tract t).samples } ∧ (∀ j, j ≠ t.val → u.tract j = s.tract j) ∧
        OnlyEvents { s with stns := u.stns, tracts := u.tracts } u ([STN_SUSP t] ++ eventRegs 4)) ∧
      (4 < (s.usableIn t).length → (s.tract t).marked = (s.tract t).samples → exec (.stationSuspect t) s = .next s) ∧
      ((s.usableIn t).length ≤ 4 → (s.tract t).consensus = false → Runs (.stationSuspect t) s fun u =>
        u.stat evSTN_CONSENSUS = true ∧ u.tract t = { s.tract t with consensus := true } ∧ (∀ j, j ≠ t.val → u.tract j = s.tract j) ∧
        OnlyEvents { s with tracts := u.tracts } u (eventRegs 4))) ∧
    (Served p (STN_SUSP t) s → Runs (.stnSuspClear p t m) s fun u => (∀ k, k < 16 →
        bitN (u.get (fSTN_SUSP_SUSP t)) k = (bitN (s.get (fSTN_SUSP_SUSP t)) k && !(bitN m.toNat k && !(s.freshBits (STN_SUSP t)).getLsbD k)) ∧
        (bitN m.toNat k = true → (s.freshBits (STN_SUSP t)).getLsbD k = false →
          u.stn (16 * t + k) = { s.stn (16 * t + k) with far := 0, disarmed := false, stuck := 0 }) ∧
        ((bitN m.toNat k = false ∨ (s.freshBits (STN_SUSP t)).getLsbD k = true) → u.stn (16 * t + k) = s.stn (16 * t + k))) ∧
      OnlyRegs { s with stns := u.stns, bus := { slverr := false, data := 0 } } u [STN_SUSP t]) ∧
    ((s.stn n).stuck = 32 → (s.stn n).disarmed = false → Runs (.cmpStuck n) s fun u => u.armed n = false ∧ u.stat evSTN_CMP_STUCK = true ∧
      u.stn n = { s.stn n with disarmed := true } ∧
      (∀ k, k ≠ n.val → u.stn k = s.stn k) ∧ OnlyEvents { s with stns := u.stns } u (eventRegs 4))

/-- A snap, its lockout and its pause. Rests on 02_regulator_cells.md. -/
def Obligations.Snap : Prop :=
  ∀ (s : State) (n : Fin 1024) (t : Fin 64) (m : BitVec 16) (reach : List Nat),
    (s.armed n = true → (s.tract (n / 16)).lockEnd ≤ s.now → s.stopped (n / 16) = false → Runs (.snap ⟨n, reach⟩) s fun u =>
      (u.tract (n / 16)).snapFrom = (upTo 8).map (fun k => s.snapStart (4 * (n / 16) + k / 2) (k % 2) s.now) ∧
      (u.tract (n / 16)).light = ((s.tract (n / 16)).light && s.heldLight (n / 16)) ∧
      (u.tract (n / 16)).snapEnds = (upTo 8).map (fun k => s.now + min 8 (reach.getD k 8)) ∧
      (u.tract (n / 16)).lockEnd = s.now + 16 ∧ (u.tract (n / 16)).snapPause = some (s.now + 17) ∧
      u.gatePause (n / 16) = true ∧ (u.stn n).tripped = true ∧ (∀ k, k ≠ n.val → u.stn k = s.stn k) ∧
      u.get (fSTN_SNAP_CNT_COUNT (n / 16)) = min (2 ^ 32 - 1) (s.get (fSTN_SNAP_CNT_COUNT (n / 16)) + 1) ∧
      (∀ k, k ≠ n.val / 16 → u.tract k = s.tract k) ∧
      OnlyEvents { s with stns := u.stns, tracts := u.tracts } u ([STN_SNAP_CNT (n / 16)] ++ (cellsIn (n / 16)).map CEL_CSTAT ++ eventRegs 4)) ∧
    ((s.armed n = false ∨ s.now < (s.tract (n / 16)).lockEnd ∨ s.stopped (n / 16) = true) →
      exec (.snap ⟨n, reach⟩) s = .next (s.updStn n fun h => { h with tripped := true })) ∧
    (0 < (s.tract t).lockEnd → (s.tract t).lockEnd ≤ s.now → (s.tract t).snapPause.isSome = true →
      ((∃ k, k < 16 ∧ bitN m.toNat k = true ∧ s.armed (16 * t + k) = true) → s.stopped t = false → Runs (.snapLockoutEnd t ⟨m, reach⟩) s fun u =>
        (u.tract t).snapEnds = (upTo 8).map (fun k => s.now + min 8 (reach.getD k 8)) ∧
        (u.tract t).lockEnd = s.now + 16 ∧ (u.tract t).snapPause = some (s.now + 17) ∧
        u.get (fSTN_SNAP_CNT_COUNT t) = min (2 ^ 32 - 1) (s.get (fSTN_SNAP_CNT_COUNT t) + 1) ∧
        (∀ k, k < 16 → u.stn (16 * t + k) = { s.stn (16 * t + k) with tripped := bitN m.toNat k }) ∧ (∀ k, k ≠ t.val → u.tract k = s.tract k) ∧
        OnlyEvents { s with stns := u.stns, tracts := u.tracts } u ([STN_SNAP_CNT t] ++ (cellsIn t).map CEL_CSTAT ++ eventRegs 4)) ∧
      ((∀ k, k < 16 → bitN m.toNat k = true → s.armed (16 * t + k) = false) → Runs (.snapLockoutEnd t ⟨m, reach⟩) s fun u =>
        u = { s with stns := u.stns } ∧ (∀ k, k < 16 → u.stn (16 * t + k) = { s.stn (16 * t + k) with tripped := bitN m.toNat k }) ∧
        ∀ k, k / 16 ≠ t.val → u.stn k = s.stn k)) ∧
    (∀ e, (s.tract t).snapPause = some e → e ≤ s.now →
      exec (.snapPauseEnd t) s = .next (s.updTract t fun h => { h with snapPause := none }))

/-- Shorts in soft start and in operation, hiccup, and the retry count. Rests on 02_regulator_cells.md. -/
def Obligations.Hiccup : Prop :=
  ∀ (s : State) (d : Fin 32) (c : Fin 256),
    ((s.dom d).phase = .startRamp → (∃ t, t ∈ s.tractsOf d ∧
        3 * (s.get (fCEL_CSTAT_TARGET (4 * t)) - (s.cell (4 * t)).rampFrom) * 1250000 ≤ 2 * (s.now - (s.dom d).rampAt) * (s.dom d).rate ∧
        5 * s.fedBack t < s.get (fCEL_CSTAT_TARGET (4 * t))) →
      ((∀ k, k ∈ s.cellsOf d → s.get (fCEL_CSTAT_RETRY k) < 3) → Runs (.shortCondA d) s fun u =>
        (∀ k, k ∈ s.cellsOf d → (u.mode k = if s.alive k then 6 else s.mode k) ∧
          u.cell k = { s.cell k with condCnt := 0, hiccupDue := none, okFrames := 0 }) ∧
        u.dom d = { s.dom d with phase := .hiccup, delayDue := s.now + 1000000, fresh := false } ∧
        u.stat evCEL_SHORT_SS = true ∧ OnlyEvents { s with cells := u.cells, doms := u.doms } u ((s.cellsOf d).map CEL_CSTAT ++ eventRegs 3)) ∧
      ((∀ t, t ∈ s.tractsOf d → s.get (fCEL_CSTAT_RETRY (s.leadCell t)) = 3) → (∃ k, k ∈ s.cellsOf d ∧ s.alive k = true) → Runs (.shortCondA d) s fun u =>
        (∀ k, k ∈ s.cellsOf d → s.alive k = true → u.mode k = 7 ∧ u.on (fCEL_CSTAT_CAUSE k) = false) ∧ u.domState d = 1 ∧
        u.stat evCEL_SHORT_SS = true ∧ u.stat evCEL_LATCHED = true ∧ u.stat evCEL_DOM_OFF = true)) ∧
    (250 ≤ (s.cell c).condCnt → s.healthy c = true → s.domOf (c / 4) < 32 → (s.dom (s.domOf (c / 4))).phase.starting = true →
      s.get (fCEL_CSTAT_RETRY c) < 3 → Runs (.shortCondB c) s fun u =>
        (∀ k, k ∈ s.cellsOf (s.domOf (c / 4)) → u.mode k = if s.alive k then 6 else s.mode k) ∧
        u.dom (s.domOf (c / 4)) = { s.dom (s.domOf (c / 4)) with phase := .hiccup, delayDue := s.now + 1000000, fresh := false } ∧
        u.stat evCEL_SHORT_SS = true ∧
        OnlyEvents { s with cells := u.cells, doms := u.doms } u ((s.cellsOf (s.domOf (c / 4))).map CEL_CSTAT ++ eventRegs 3)) ∧
    (250 ≤ (s.cell c).condCnt → s.healthy c = true → (s.dom (s.domOf (c / 4))).phase.starting = false → s.on (fCEL_CSTAT_SS_DONE c) = true →
        (∃ k, k ∈ cellsIn (c / 4) ∧ k ≠ c.val ∧ s.healthy k = true) →
      (s.get (fCEL_CSTAT_RETRY c) < 3 → Runs (.shortCondB c) s fun u => u.mode c = 6 ∧ (u.cell c).hiccupDue = some (s.now + 1000000) ∧
        u.stat evCEL_SHORT_RUN = true ∧
        OnlyEvents { s with cells := u.cells } u ((cellsIn (c / 4)).map CEL_CSTAT ++ (cellsIn (c / 4)).map CEL_TEMP ++ eventRegs 3)) ∧
      (s.get (fCEL_CSTAT_RETRY c) = 3 → Runs (.shortCondB c) s fun u => u.mode c = 7 ∧ u.on (fCEL_CSTAT_CAUSE c) = false ∧
        (u.reg (CEL_FAILED (c / 32))).getLsbD (c % 32) = true ∧ u.stat evCEL_SHORT_RUN = true ∧ u.stat evCEL_LATCHED = true ∧
        OnlyEvents { s with cells := u.cells } u
          (CEL_FAILED (c / 32) :: (cellsIn (c / 4)).map CEL_CSTAT ++ (cellsIn (c / 4)).map CEL_TEMP ++ eventRegs 3))) ∧
    (s.domOf (c / 4) < 32 → (s.dom (s.domOf (c / 4))).phase = .hiccup → (s.dom (s.domOf (c / 4))).delayDue ≤ s.now → Runs (.hiccupEnd c) s fun u =>
      u.dom (s.domOf (c / 4)) = { s.dom (s.domOf (c / 4)) with
        phase := .startDelay, fresh := false, delayDue := s.now + 1000 * s.get (fCEL_DSTART_DELAY (s.domOf (c / 4))) } ∧
      (∀ k, k ∈ s.cellsOf (s.domOf (c / 4)) → s.alive k = true → (s.cell k).hiccupDue = none →
        u.mode k = (if s.drivable k then 1 else 0) ∧ u.on (fCEL_CSTAT_SS_DONE k) = false ∧
        u.get (fCEL_CSTAT_RETRY k) = (if (s.dom (s.domOf (c / 4))).fresh then s.get (fCEL_CSTAT_RETRY k) else min 3 (s.get (fCEL_CSTAT_RETRY k) + 1))) ∧
      OnlyRegs { s with cells := u.cells, doms := u.doms } u ((s.cellsOf (s.domOf (c / 4))).map CEL_CSTAT)) ∧
    (∀ e, (s.dom (s.domOf (c / 4))).phase ≠ .hiccup → (s.cell c).hiccupDue = some e → e ≤ s.now → s.mode c = 6 → Runs (.hiccupEnd c) s fun u =>
      u.mode c = (if s.drivable c then (if s.railLive c then 4
        else if (s.dom (s.domOf (c / 4))).phase = .startDelay ∨ (s.dom (s.domOf (c / 4))).phase = .startRamp then 1 else 0) else 0) ∧
      u.get (fCEL_CSTAT_RETRY c) = min 3 (s.get (fCEL_CSTAT_RETRY c) + 1) ∧ (u.cell c).hiccupDue = none ∧ (u.cell c).condCnt = 0 ∧
      (s.railLive c = true ∨ s.isOn (s.domOf (c / 4)) = true → (u.cell c).rejoin = s.drivable c) ∧
      OnlyRegs { s with cells := u.cells } u (CEL_CSTAT c :: (cellsIn (c / 4)).map CEL_TEMP) ∧ ∀ k, k / 4 ≠ c.val / 4 → u.cell k = s.cell k) ∧
    (s.healthy c = true → s.mode c ≠ 0 → 2500000 ≤ (s.cell c).okFrames → (s.cell c).condCnt < 250 →
      exec (.retryCountReset c) s = .next (s.put (fCEL_CSTAT_RETRY c) 0))

/-- Open cells, zero-current detectors, thermal shares, and the phase offset. Rests on 02_regulator_cells.md. -/
def Obligations.CellsShareAndFail : Prop :=
  ∀ (s : State) (c : Fin 256) (ph : Fin 2) (per : List (Int × Bool × Int)),
    ((s.cell c).openCond = true → s.healthy c = true → Runs (.cellOpen c) s fun u => u.mode c = 7 ∧ u.on (fCEL_CSTAT_CAUSE c) = true ∧
      (u.reg (CEL_FAILED (c / 32))).getLsbD (c % 32) = true ∧ u.stat evCEL_OPEN = true ∧
      ((∃ k, k ∈ cellsIn (c / 4) ∧ k ≠ c.val ∧ s.healthy k = true) → OnlyEvents { s with cells := u.cells } u
        (CEL_FAILED (c / 32) :: (cellsIn (c / 4)).map CEL_CSTAT ++ (cellsIn (c / 4)).map CEL_TEMP ++ eventRegs 3))) ∧
    ((s.mode c = 1 ∨ s.mode c = 4 ∨ s.mode c = 5) → (s.cell c).timed ph = false → exec (.zcdRise c ph) s =
      .next (s.updCell c fun h => if ph.val = 0 then { h with lowOff0 := some s.now } else { h with lowOff1 := some s.now })) ∧
    (16 ≤ per.length → ((∀ x, x ∈ per.take 16 → x.1 ≤ 0) ∨ ∀ x, x ∈ per.take 16 → x.2.1 = true ∧ 100 < x.2.2) → (s.cell c).timed ph = false →
      exec (.zcdStuck c ⟨ph, per⟩) s =
        .next ((s.updCell c fun h => if ph.val = 0 then { h with zcdTimed0 := true } else { h with zcdTimed1 := true }).raise evCEL_ZCD c)) ∧
    ((per.length < 16 ∨ (s.cell c).timed ph = true) → exec (.zcdStuck c ⟨ph, per⟩) s = .next s) ∧
    Runs .shareUpdate s (fun u => (∀ k, k < 256 → (s.healthy k = false → (u.cell k).shed = 0 ∧ (u.cell k).target = 0 ∧ (u.cell k).trim = 0) ∧
        (s.on (fNRG_SMEAS_DERATED k) = false → (u.cell k).shed ≤ 3072 * s.get fCEL_SHARE_CFG_MAXSHED) ∧ (u.cell k).iSum = 0 ∧ (u.cell k).iCnt = 0) ∧
      OnlyRegs { s with cells := u.cells } u ((upTo 256).map CEL_TEMP)) ∧
    (∀ a, (s.cell c).satSince = some a → a + 10000000 ≤ s.now → (s.cell c).satOn = false →
      exec (.shareSat c) s = .next ((s.updCell c fun h => { h with satOn := true }).raise evCEL_SHARE_SAT c)) ∧
    (s.get (fCEL_CFG_APPLIED c) ≠ s.get (fCEL_CFG_OFFSET c) → Runs (.phaseOffsetStep c) s fun u =>
      u.get (fCEL_CFG_APPLIED c) = (if (s.get (fCEL_CFG_OFFSET c) + 64 - s.get (fCEL_CFG_APPLIED c)) % 64 ≤ 32
        then (s.get (fCEL_CFG_APPLIED c) + 1) % 64 else (s.get (fCEL_CFG_APPLIED c) + 63) % 64) ∧
      u.get (fCEL_CFG_OFFSET c) = s.get (fCEL_CFG_OFFSET c) ∧ u.on (fCEL_CFG_EN c) = s.on (fCEL_CFG_EN c) ∧ OnlyRegs s u [CEL_CFG c])

/-- What a late tract-sample does. Rule: R173. -/
def Obligations.LateSample : Prop :=
  ∀ (s : State) (t : Fin 64), s.loops.frameAt.isSome = true → (s.tract t).sampled < s.slotFrame - 1 → s.computesIn t (s.slotFrame - 1) = true →
    s.stopped t = false → s.loopState t ≠ 5 → s.on fTRC_ENG_BOTH = false → Runs (.tractSampleLate t) s fun u =>
      u.reg (TRC_DUTY t) = s.reg (TRC_DUTY t) ∧ u.reg (TRC_UOUT t) = s.reg (TRC_UOUT t) ∧
      u.tract t = { s.tract t with sampled := s.slotFrame - 1 } ∧ (∀ k, k ≠ t.val → u.tract k = s.tract k) ∧
      u.on (fTRC_TSTAT_LATE t) = true ∧ u.on (fTRC_TSTAT_FROZEN t) = true ∧ u.loopState t = s.loopState t ∧ u.stat evTRC_LATE = true ∧
      u.get fTRC_LATE_CNT_COUNT = min (2 ^ 32 - 1) (s.get fTRC_LATE_CNT_COUNT + 1) ∧
      OnlyEvents { s with tracts := u.tracts, loops := u.loops } u ([TRC_TSTAT t, TRC_LATE_CNT] ++ eventRegs 5)

/-- A computed sample, one in open-hold, one with a residue or coefficient failure. Rests on 03_tract_loops.md. -/
def Obligations.TractSamples : Prop :=
  ∀ (s : State) (t : Fin 64) (ecc : Ecc) (uv : Nat),
    (s.wantsSample t s.slotFrame = true ↔ s.loops.frameAt.isSome = true ∧ (s.tract t).sampled < s.slotFrame ∧
      (s.get (fTRC_TSTAT_RATE t) = 0 ∨ s.slotFrame % 2 = s.get (fTRC_TSTAT_PARITY t)) ∧ s.stopped t = false ∧ s.loopState t ≠ 5) ∧
    (s.wantsSample t s.slotFrame = true → s.beginAt t ≤ s.now → s.engineDead t = false →
      (s.beginAt t + 6 ≤ s.slotStart + 40 →
        (s.frozen t = false → s.setReads t (s.setOf t) = true → ecc ≠ .uncorrectable → ∀ o : LoopOut,
          o = s.loopSample t (s.setOf t) (s.slotInputs t).1 (s.slotInputs t).2
              (if s.on fTRC_ENG_FAILOVER && s.setOf t = 1 then 0 else (takeFf s.slotStart (s.tract t).ff).1) (s.normFor s.slotStart) →
          Runs (.tractSample t ecc true) s fun u =>
            (u.tract t).duty = some (s.slotStart + 40, natOf o.duty) ∧ natOf o.duty ≤ s.get fCAD_TRC_DMAX ∧ u.dutyNow t = (if s.slotStart + 40 ≤ s.now then natOf o.duty else s.dutyNow t) ∧
            u.get (fTRC_TSTAT_WIN t) = o.win ∧ u.on (fTRC_TSTAT_CLAMP t) = o.clamped ∧
            u.on (fTRC_TSTAT_FROZEN t) = !(o.win = 0 && !o.clamped) ∧ u.on (fTRC_TSTAT_LATE t) = false ∧
            u.getI (fTRC_UOUT_U1 t) = (if o.win = 0 ∧ o.clamped = false then o.u else s.getI (fTRC_UOUT_U1 t)) ∧
            (u.tract t).w = clampI 0 s.dmax o.out ∧ (u.tract t).e1 = (s.slotInputs t).1 ∧ (u.tract t).e2 = (s.tract t).e1 ∧
            (u.tract t).u2 = (if o.win = 0 ∧ o.clamped = false then s.getI (fTRC_UOUT_U1 t) else (s.tract t).u2) ∧
            (u.tract t).ff = (takeFf s.slotStart (s.tract t).ff).2 ∧ (u.tract t).sampled = s.slotFrame ∧ (∀ k, k ≠ t.val → u.tract k = s.tract k) ∧
            (∀ hit : Bool, hit = decide (o.win ≠ 0 ∧ s.get (fTRC_FLOOR_DEPTH t) ≠ 0 ∧ (s.get (fTRC_FLOOR_DEPTH t) : Int) < (s.slotInputs t).1) →
              (u.tract t).floorOn = hit ∧ (hit = true → (s.tract t).floorOn = false → u.stat evTRC_FLOOR = true) ∧
              (u.tract t).floorPause = if hit then (u.beginAt t + 7, s.slotStart + 56) :: (s.tract t).floorPause else (s.tract t).floorPause) ∧
            OnlyEvents { s with tracts := u.tracts, loops := { s.loops with stalls := u.loops.stalls } } u
              ([TRC_TSTAT t, TRC_DUTY t, TRC_UOUT t, SO_TRK_STAT t, MEM_MSTAT 2] ++ eventRegs 5)) ∧
        (s.frozen t = true → Runs (.tractSample t ecc true) s fun u =>
          u.tract t = { s.tract t with ff := (takeFf s.slotStart (s.tract t).ff).2, e1 := (s.slotInputs t).1, e2 := (s.tract t).e1, e3 := (u.tract t).e3
                                       sampled := s.slotFrame, floorOn := false } ∧
          (s.threePole t (s.setOf t) = true → (u.tract t).e3 = (s.tract t).e2) ∧
          u.on (fTRC_TSTAT_FROZEN t) = true ∧ u.on (fTRC_TSTAT_LATE t) = false ∧
          OnlyRegs { s with tracts := u.tracts } u [TRC_TSTAT t, SO_TRK_STAT t] ∧ ∀ k, k ≠ t.val → u.tract k = s.tract k) ∧
        ((s.frozen t = true ∨ ecc = .clean) → Runs (.tractSample t ecc false) s fun u => u.stat evTRC_RESIDUE = true ∧ u.stat evTRC_LATE = true ∧
          u.on (fTRC_TSTAT_LATE t) = true ∧ u.on (fTRC_TSTAT_FROZEN t) = true ∧ u.tract t = { s.tract t with sampled := s.slotFrame } ∧
          OnlyEvents { s with tracts := u.tracts, loops := u.loops } u ([TRC_TSTAT t, TRC_LATE_CNT] ++ eventRegs 5)) ∧
        (s.frozen t = false → s.setReads t (1 - s.setOf t) = true → s.on fTRC_ENG_WEST_FAIL = false → s.on fTRC_ENG_EAST_FAIL = false →
          Runs (.tractSample t .uncorrectable true) s fun u => u.loopState t = 6 ∧ u.on (fTRC_TSTAT_LATE t) = false ∧ u.on (fTRC_TSTAT_FROZEN t) = true ∧
            u.tract t = { s.tract t with sampled := s.slotFrame, holdAt := some (s.slotStart + 40), internal := 2, internalAt := s.now } ∧
            u.stat evTRC_COEF_UNCORR = true ∧ u.stat evMEM_UNCORR = true ∧
            OnlyEvents { s with tracts := u.tracts, mem := u.mem } u ([TRC_TSTAT t, MEM_MSTAT 2] ++ eventRegs 5)) ∧
        (s.frozen t = false → s.setReads t (1 - s.setOf t) = false → Runs (.tractSample t .uncorrectable true) s fun u => u.loopState t = 4 ∧
          u.get (fTRC_DUTY_DUTY t) = 0 ∧ u.stat evTRC_COEF_LOST = true ∧ u.healthyIn t = [])) ∧
      (s.slotStart + 40 < s.beginAt t + 6 → ecc = .clean → ∀ ok, Runs (.tractSample t ecc ok) s fun u => u.on (fTRC_TSTAT_LATE t) = true ∧
        u.stat evTRC_LATE = true ∧ u.reg (TRC_DUTY t) = s.reg (TRC_DUTY t) ∧ u.tract t = { s.tract t with sampled := s.slotFrame } ∧
        OnlyEvents { s with tracts := u.tracts, loops := u.loops } u ([TRC_TSTAT t, TRC_LATE_CNT] ++ eventRegs 5))) ∧
    exec (.floorPauseEnd t) s = .next (s.updTract t fun h => { h with floorPause := h.floorPause.filter fun w => s.now < w.2 }) ∧
    Runs (.normUpdate uv) s (fun u => u.get fTRC_NORM_K = roundN (1800000 * 16384) (clampN 1500000 2200000 uv) ∧
      (u.get fTRC_NORM_VIB - 1) * 1250 < clampN 1500000 2200000 uv ∧ clampN 1500000 2200000 uv < (u.get fTRC_NORM_VIB + 1) * 1250 ∧
      OnlyRegs { s with loops := { s.loops with normPrev := (s.get fTRC_NORM_K, s.get fTRC_NORM_VIB), normAt := s.now } } u [TRC_NORM])

/-- OPEN, the coefficient window, CLOSE, and the ways an open-hold ends. Rests on 03_tract_loops.md,
14_mailboxes_and_firmware.md. -/
def Obligations.OpenHold : Prop :=
  ∀ (s : State) (p : Port) (t : Fin 64) (v : Word) (set : Fin 2) (j : Fin 8) (c : Nat) (ecc : Ecc),
    (Served p (TRC_OPEN t) s →
      (v.getLsbD 1 = false →
        ((s.loopState t = 0 ∨ s.loopState t = 4) → (s.domOf t < 32 → s.domState (s.domOf t) ≠ 3 ∧ s.domState (s.domOf t) ≠ 5) →
          s.shut = false → s.on fTRC_ENG_FAILOVER = false → s.holdsInUse < 8 → Runs (.trcOpen p t v) s fun u => u.loopState t = 1 ∧
            u.tract t = { s.tract t with enterAt := s.now, wasStopped := decide (s.loopState t = 4), closeAt := none } ∧
            (∀ k, k ≠ t.val → u.tract k = s.tract k) ∧
            OnlyRegs { s with tracts := u.tracts, bus := { slverr := false, data := 0 } } u [TRC_TSTAT t]) ∧
        ((s.shut = true ∨ s.on fTRC_ENG_FAILOVER = true ∨ 8 ≤ s.holdsInUse ∨ (s.loopState t ≠ 0 ∧ s.loopState t ≠ 4 ∧ s.justReset t = false) ∨
            (s.domOf t < 32 ∧ (s.domState (s.domOf t) = 3 ∨ s.domState (s.domOf t) = 5))) →
          Ends (.trcOpen p t v) s ((s.raise evTRC_REFUSED t).okay 0))) ∧
      (v.getLsbD 1 = true → Ends (.trcOpen p t v) s ((s.raise evTRC_REFUSED t).okay 0))) ∧
    (s.loopState t = 1 → s.tractSlotEndFrom t ((s.tract t).enterAt + 100) ≤ s.now → Runs (.openHoldBegin t) s fun u =>
      u.loopState t = 2 ∧
      (∃ ws, u.tract t = { s.tract t with staging := some ws, holdAt := some s.now, duty := if (s.tract t).wasStopped then none else (s.tract t).duty } ∧
        ws.length = 16 ∧ ∀ a b, a < 2 → b < 8 → ws.getD (8 * a + b) 0 = if s.setReads t a then s.coefWord t a b else 0) ∧
      (∀ k, k ≠ t.val → u.tract k = s.tract k) ∧ OnlyRegs { s with tracts := u.tracts } u [TRC_TSTAT t, TRC_DUTY t] ∧
      ((s.tract t).wasStopped = false → u.reg (TRC_DUTY t) = s.reg (TRC_DUTY t)) ∧ ((s.tract t).wasStopped = true → u.dutyNow t = 0)) ∧
    (∀ ws, Served .host 0x28000 s → (s.tract t).staging = some ws → s.loopState t = 2 → ws.length = 16 →
      exec (.coefWindowAccess .host t set j none) s = .next (s.okay (ws.getD (8 * set + j) 0)) ∧
      exec (.coefWindowAccess .host t set j (some v)) s =
        .next ((s.updTract t fun h => { h with staging := some (ws.set (8 * set + j) (coefNorm j v)) }).okay 0)) ∧
    (Served .host 0x28000 s → s.loopState t ≠ 2 → exec (.coefWindowAccess .host t set j none) s = .next { s with bus := { slverr := true, data := 0 } } ∧
      Runs (.coefWindowAccess .host t set j (some v)) s fun u => u.bus.slverr = true ∧ u.stat evTRC_REFUSED = true ∧
        OnlyEvents { s with bus := u.bus } u (eventRegs 5)) ∧
    (Served p (TRC_OPEN t) s → s.on fTRC_ENG_WEST_FAIL = false → s.on fTRC_ENG_EAST_FAIL = false →
      (∀ ws, s.loopState t = 2 → (s.tract t).closeAt = none → (s.tract t).staging = some ws → ws.length = 16 → s.memUsable 2 = true →
        Runs (.trcClose p t) s fun u =>
          u.tract t = { s.tract t with closeAt := some s.now, closeSet := s.get (fTRC_CTL_SET t) } ∧ (∀ k, k ≠ t.val → u.tract k = s.tract k) ∧
          (∀ k, k < 16 → memLE u.coef (64 * t + 4 * k) 4 = (ws.getD k 0).toNat) ∧
          (∀ a, (a < 64 * t.val ∨ 64 * t.val + 64 ≤ a) → memByte u.coef a = memByte s.coef a) ∧ u.memBad 2 (64 * t) 64 = false ∧
          u = { s with tracts := u.tracts, coef := u.coef, mem := u.mem, bus := { slverr := false, data := 0 }, cyc := u.cyc }) ∧
      ((s.loopState t ≠ 2 ∨ (s.tract t).closeAt.isSome = true) → Ends (.trcClose p t) s ((s.raise evTRC_REFUSED t).okay 0))) ∧
    ((s.tract t).closeAt = some c → s.loopState t = 2 → s.slotEndFrom (c + 100) ≤ s.now → ecc = .clean → (s.tract t).closeSet ≤ 1 →
      s.setReads t (s.tract t).closeSet = true →
      ((s.tract t).wasStopped = false → Runs (.loopClose t ecc) s fun u => u.loopState t = 0 ∧ u.setOf t = (s.tract t).closeSet ∧
        u.get (fTRC_TSTAT_RATE t) = (s.tract t).closeSet ∧ (u.tract t).staging = none ∧ (u.tract t).closeAt = none ∧ (u.tract t).holdAt = none ∧
        (∀ k, k ≠ t.val → u.tract k = s.tract k) ∧ OnlyRegs { s with tracts := u.tracts, cells := u.cells } u [TRC_TSTAT t]) ∧
      ((s.tract t).wasStopped = true → s.domOf t < 32 → s.isOn (s.domOf t) = true → s.on fTRC_ENG_BOTH = false → Runs (.loopClose t ecc) s fun u =>
        u.loopState t = 0 ∧ u.stopped t = false ∧ u.setOf t = (s.tract t).closeSet ∧
        ∀ k, k ∈ cellsIn t → s.alive k = true → s.mode k = 0 → u.mode k = 4)) ∧
    ((s.tract t).holdAt = some c → s.loopState t = 2 → (s.tract t).closeAt = none → c + 200000 ≤ s.now →
      ((s.tract t).wasStopped = false → Runs (.openHoldTimeout t) s fun u => u.loopState t = 0 ∧ u.setOf t = s.setOf t ∧ (u.tract t).staging = none ∧
        u.stat evTRC_HOLD_TIMEOUT = true ∧ (∀ k, k ≠ t.val → u.tract k = s.tract k) ∧
        OnlyEvents { s with tracts := u.tracts, cells := u.cells } u ([TRC_TSTAT t] ++ eventRegs 5)) ∧
      ((s.tract t).wasStopped = true → Runs (.openHoldTimeout t) s fun u => u.loopState t = 4 ∧ (u.tract t).staging = none ∧
        u.stat evTRC_HOLD_TIMEOUT = true ∧ u.stat evTRC_COEF_LOST = true ∧ u.stat evCEL_TRACT_LOST = s.stat evCEL_TRACT_LOST ∧
        (∀ k, k ≠ t.val → u.tract k = s.tract k) ∧
        OnlyEvents { s with tracts := u.tracts, cells := u.cells } u ([TRC_TSTAT t, TRC_DUTY t] ++ (cellsIn t).map CEL_CSTAT ++ eventRegs 5))) ∧
    (s.loopState t = 6 →
      ((s.tract t).internal = 2 → s.setReads t (1 - s.setOf t) = true → Runs (.setSwitchClose t) s fun u => u.loopState t = 0 ∧
        u.setOf t = 1 - s.setOf t ∧ (∀ k, k ≠ t.val → u.tract k = s.tract k) ∧ OnlyRegs { s with tracts := u.tracts, cells := u.cells } u [TRC_TSTAT t]) ∧
      ((s.tract t).internal ≠ 2 → s.slotEndFrom ((s.tract t).internalAt + 100) ≤ s.now → Runs (.setSwitchClose t) s fun u => u.loopState t = 0 ∧
        u.setOf t = s.setOf t ∧ u.on fBLK_TRST_BUSY = false ∧ u.on (fTRC_TSTAT_LATE t) = false ∧ (u.tract t).e1 = (s.tract t).e0 ∧
        (∀ k, k ≠ t.val → u.tract k = s.tract k) ∧ OnlyRegs { s with tracts := u.tracts, cells := u.cells } u [TRC_TSTAT t, TRC_UOUT t, BLK_TRST])) ∧
    (Served p BLK_TRST s →
      (s.loopState t = 0 → s.on fTRC_ENG_FAILOVER = false → s.on fBLK_TRST_BUSY = false → Runs (.blkTrstGo p t) s fun u =>
        u.loopState t = 6 ∧ u.on fBLK_TRST_BUSY = true ∧ u.get fBLK_TRST_TRACT = t ∧
        u.tract t = { s.tract t with internal := 1, internalAt := s.tractSlotEndFrom t s.now, holdAt := some (s.tractSlotEndFrom t s.now), trstAt := s.now + 1 } ∧
        (∀ k, k ≠ t.val → u.tract k = s.tract k) ∧
        OnlyRegs { s with tracts := u.tracts, bus := { slverr := false, data := 0 } } u [TRC_TSTAT t, BLK_TRST]) ∧
      (s.on fBLK_TRST_BUSY = true → Runs (.blkTrstGo p t) s fun u => u.stat evBLK_RST_REFUSED = true ∧
        OnlyEvents { s with bus := { slverr := false, data := 0 } } u (eventRegs 0)))

/-- An engine failure, the failover of all tracts, and the loss of both engines. Rests on 03_tract_loops.md. -/
def Obligations.Failover : Prop :=
  ∀ (s : State) (e : Fin 2) (t : Fin 64) (g : Fin 8) (ecc : Ecc) (t0 : Nat),
    (∀ z, s.loops.failDue.find? (fun x => x.1 = e.val) = some z →
      (s.now < z.2 → exec (.engineFail e) s = .next s) ∧
      (z.2 ≤ s.now → s.on fTRC_ENG_WEST_FAIL = false → s.on fTRC_ENG_EAST_FAIL = false → Runs (.engineFail e) s fun u =>
        u.on (if e.val = 0 then fTRC_ENG_WEST_FAIL else fTRC_ENG_EAST_FAIL) = true ∧ u.on fTRC_ENG_FAILOVER = true ∧
        u.loops = { s.loops with failT0 := some (z.2 - 40), failedEngine := e, failDue := s.loops.failDue.filter fun y => y.1 ≠ e.val } ∧
        u.stat evTRC_ENG_FAIL = true ∧
        (∀ k, k < 64 → (u.tract k).failPause = true ∧ (u.tract k).staging = none ∧ (u.tract k).seeded = false ∧
          (s.loopState k ≠ 4 → s.loopState k ≠ 5 → s.stopped k = false →
            u.get (fTRC_TSTAT_STATE k) = 3 ∧ (u.tract k).holdAt = some ((s.tract k).holdAt.getD (z.2 - 40 + 80))) ∧
          (s.loopState k = 4 ∨ s.loopState k = 5 → u.get (fTRC_TSTAT_STATE k) = s.get (fTRC_TSTAT_STATE k))) ∧
        OnlyEvents { s with tracts := u.tracts, loops := u.loops } u ([TRC_ENG, BLK_TRST] ++ (upTo 64).map TRC_TSTAT ++ eventRegs 5)) ∧
      (z.2 ≤ s.now → s.on (if e.val = 0 then fTRC_ENG_WEST_FAIL else fTRC_ENG_EAST_FAIL) = false →
        s.on (if e.val = 0 then fTRC_ENG_EAST_FAIL else fTRC_ENG_WEST_FAIL) = true → Runs (.engineFail e) s fun u =>
        u.on fTRC_ENG_BOTH = true ∧ u.on fTRC_ENG_FAILOVER = false ∧ u.stat evTRC_ENG_BOTH = true ∧
        (∀ c, c < 256 → (u.mode c = if s.mode c = 7 then 7 else 0) ∧ (u.cell c).rejoin = false ∧ (u.cell c).hiccupDue = none) ∧
        OnlyEvents { s with cells := u.cells, loops := { s.loops with failT0 := none, failDue := s.loops.failDue.filter fun y => y.1 ≠ e.val } } u
          ([TRC_ENG] ++ (upTo 256).map CEL_CSTAT ++ eventRegs 5))) ∧
    (s.loops.failT0 = some t0 →
      (t0 + 1000 ≤ s.now → (s.tract t).seeded = false → s.on fTRC_ENG_FAILOVER = true → s.loops.failedEngine ≤ 1 → s.loopState t = 3 →
        ecc = .clean → s.setReads t 1 = true → s.get fTRC_NORM_K ≠ 0 → Runs (.failoverSeed t ecc) s fun u =>
          u.get (fTRC_TSTAT_ENGINE t) = 1 - s.loops.failedEngine ∧ u.setOf t = 1 ∧ u.get (fTRC_TSTAT_RATE t) = 1 ∧
          u.get (fTRC_TSTAT_PARITY t) = (if t.val % 8 / 4 = s.loops.failedEngine then 1 else 0) ∧
          u.getI (fTRC_UOUT_U1 t) = sat24 (roundHalfUp (s.dutyNow t * 16384) (s.get fTRC_NORM_K)) ∧
          u.tract t = { s.tract t with seeded := true, lastSlot := false, e1 := (s.tract t).e0, e2 := (s.tract t).e0, e3 := (s.tract t).e0
                                       u2 := u.getI (fTRC_UOUT_U1 t), u3 := u.getI (fTRC_UOUT_U1 t), w := clampI 0 s.dmax (u.getI (fTRC_UOUT_U1 t)) } ∧
          OnlyRegs { s with tracts := u.tracts } u [TRC_TSTAT t, TRC_UOUT t] ∧ ∀ k, k ≠ t.val → u.tract k = s.tract k) ∧
      (t0 + 1000 ≤ s.now → (s.tract t).seeded = false → s.on fTRC_ENG_FAILOVER = true → s.domOf t < 32 → s.loopState t ≠ 4 →
        ecc = .clean → s.setReads t 1 = false → Runs (.failoverSeed t ecc) s fun u => u.loopState t = 4 ∧ u.stat evTRC_COEF_LOST = true) ∧
      (t0 + 5000 + 2000 * g.val ≤ s.now → Runs (.failoverGroupClose g) s fun u =>
        (∀ k, k ∈ failGroup s.loops.failedEngine g → s.loopState k = 3 → (s.tract k).seeded = true → (s.tract k).wasStopped = false →
          u.loopState k = 0 ∧ u.setOf k = 1 ∧ u.get (fTRC_TSTAT_RATE k) = 1) ∧
        (∀ k, k ∉ failGroup s.loops.failedEngine g → u.tract k = s.tract k) ∧
        ((∀ k, k ∈ failGroup s.loops.failedEngine g → (s.tract k).wasStopped = false) →
          OnlyRegs { s with tracts := u.tracts, cells := u.cells } u ((failGroup s.loops.failedEngine g).map TRC_TSTAT))) ∧
      (t0 + 9000 + 2000 * g.val ≤ s.now → Runs (.failoverPauseLift g) s fun u =>
        (∀ k, k ∈ failGroup s.loops.failedEngine g → u.tract k = { s.tract k with failPause := false }) ∧
        (∀ k, k ∉ failGroup s.loops.failedEngine g → u.tract k = s.tract k) ∧
        u.on fTRC_ENG_FAILOVER = (if g.val = 7 then false else s.on fTRC_ENG_FAILOVER) ∧
        OnlyRegs { s with tracts := u.tracts, loops := if g.val = 7 then { s.loops with failT0 := none } else s.loops } u [TRC_ENG]))

/-- A write of DOM_VSET: a new target, or refused with the field unchanged. Rests on 03_tract_loops.md,
06_domains_and_power_states.md. -/
def Obligations.TargetWrite : Prop :=
  ∀ (s : State) (p : Port) (d : Fin 32) (v : Word), Served p (DOM_VSET d) s →
    (s.codeValid d (v.toNat % 1024) = true ↔ 360 ≤ v.toNat % 1024 ∧ v.toNat % 1024 ≤ 840 ∧ s.get (fCAD_DOM_VMIN d) ≤ v.toNat % 1024 ∧
      v.toNat % 1024 ≤ s.get (fCAD_DOM_VMAX d)) ∧
    (s.codeValid d (v.toNat % 1024) = true → (s.dom d).step = none → Runs (.domVsetWrite p d v) s fun u => u.get (fDOM_VSET_CODE d) = v.toNat % 1024 ∧
      (s.isOn d = true → ∀ c, c ∈ s.cellsOf d → u.get (fCEL_CSTAT_TARGET c) = v.toNat % 1024 + u.get (fSO_DLIFT_LIFT d)) ∧
      (∀ c, c < 256 → u.get (fCEL_CSTAT_PRESENT c) = s.get (fCEL_CSTAT_PRESENT c)) ∧ u.bus = { slverr := false, data := 0 } ∧
      ((s.dom d).phase = .rest → OnlyEvents { s with cells := u.cells, doms := u.doms, bus := u.bus } u
        ([DOM_VSET d, SO_DLIFT d] ++ (s.cellsOf d).map CEL_CSTAT ++ eventRegs 6))) ∧
    (s.codeValid d (v.toNat % 1024) = false → Runs (.domVsetWrite p d v) s fun u => u.reg (DOM_VSET d) = s.reg (DOM_VSET d) ∧
      u.stat evCEL_TGT_REFUSED = true ∧
      ((v.toNat % 1024 < s.get (fCAD_DOM_VMIN d) ∨ s.get (fCAD_DOM_VMAX d) < v.toNat % 1024) → u.stat evCAD_LIMIT = true) ∧
      (s.slewComplete d = false → OnlyEvents { s with bus := { slverr := false, data := 0 } } u (eventRegs 3 ++ eventRegs 2)))

/-- ON, OFF and FULL: accepted, or refused with DOM_CMD_REFUSED. Rests on 06_domains_and_power_states.md. -/
def Obligations.DomainCommands : Prop :=
  ∀ (s : State) (p : Port) (d : Fin 32) (full : Bool), Served p (DOM_CTL d) s →
    (s.on fPST_STATE_ENTERING = false → s.onWaits d = false) ∧
    (s.mayStart d = true → s.runOrIdle = true → s.shut = false → s.onWaits d = true → Runs (.domCtlOn p d) s fun u =>
      u.dom d = { s.dom d with commanded := 1 } ∧ (∀ k, k ≠ d.val → u.dom k = s.dom k) ∧
      OnlyRegs { s with doms := u.doms, bus := { slverr := false, data := 0 } } u []) ∧
    (s.mayStart d = true → s.runOrIdle = true → s.shut = false → s.onWaits d = false →
      (s.domState d = 1 → Runs (.domCtlOn p d) s fun u => u.domState d = 3 ∧ (∀ k, k ≠ d.val → u.dom k = s.dom k) ∧
        u.dom d = { s.dom d with phase := .stagesOff, commanded := 1, stagesRun := 0, stageDue := s.now, stageOk := false, waitFrom := none, slow := false } ∧
        (∀ c, c ∈ s.cellsOf d → u.get (fCEL_CSTAT_PRESENT c) = s.startCode (c / 4) ∧ (u.cell c).bars = if s.mode c = 4 then 0 else 3) ∧
        OnlyRegs { s with doms := u.doms, cells := u.cells, bus := { slverr := false, data := 0 } } u ([DOM_DSTAT d] ++ (s.cellsOf d).map CEL_CSTAT)) ∧
      (s.domState d = 2 → Runs (.domCtlOn p d) s fun u => u.domState d = 3 ∧ (∀ k, k ≠ d.val → u.dom k = s.dom k) ∧
        u.dom d = { s.dom d with phase := .stagesRet, commanded := 1, stagesRun := 0, stageDue := s.now, stageOk := false, waitFrom := none, slow := false } ∧
        (∀ c, c ∈ s.cellsOf d → (u.cell c).bars = if s.mode c = 4 then 0 else 3) ∧
        OnlyRegs { s with doms := u.doms, cells := u.cells, bus := { slverr := false, data := 0 } } u [DOM_DSTAT d]) ∧
      (s.domState d = 5 → (s.dom d).phase = .stopRamp → Runs (.domCtlOn p d) s fun u => (u.dom d).commanded = 1 ∧
        (u.domState d = 4 ∨ (u.domState d = 3 ∧ (u.dom d).phase = .startRamp ∧ (u.dom d).rampAt = s.now) ∨
          (s.on fPST_STATE_ENTERING = true ∧ (u.domState d = 5 ∨ u.domState d = 2)) ∨
          (u.domState d = 1 ∧ ∃ t, t ∈ s.tractsOf d ∧ (s.tract t).lateLoss = true)))) ∧
    ((s.mayStart d = false ∨ s.runOrIdle = false ∨ s.shut = true) → Ends (.domCtlOn p d) s ((s.raise evDOM_CMD_REFUSED d).okay 0)) ∧
    (s.domState d = 4 → (s.dom d).phase = .rest →
      ((full = true ∨ s.on (fDOM_CFG_RETAIN d) = false) → Runs (.domCtlOff p d full) s fun u => u.domState d = 5 ∧ (u.dom d).phase = .stopDelay ∧
        (u.dom d).delayDue = s.now + 1000 * s.get (fCEL_DSTOP_DELAY d) ∧ (u.dom d).commanded = 0 ∧ u.get (fSO_DLIFT_LIFT d) = 0 ∧
        (∀ k, k ≠ d.val → u.dom k = s.dom k) ∧
        OnlyRegs { s with doms := u.doms, bus := { slverr := false, data := 0 } } u [DOM_DSTAT d, SO_DLIFT d]) ∧
      (full = false → s.on (fDOM_CFG_RETAIN d) = true → Runs (.domCtlOff p d full) s fun u => (u.dom d).commanded = 2 ∧
        ((u.domState d = 5 ∧ (u.dom d).phase = .slewRet) ∨ u.domState d = 2) ∧ u.get (fDOM_VSET_CODE d) = s.get (fDOM_VSET_CODE d) ∧
        ∀ c, c ∈ s.cellsOf d → u.get (fCEL_CSTAT_TARGET c) = s.get (fDOM_CFG_RET d) ∧ u.on (fCEL_CSTAT_SS_DONE c) = false)) ∧
    (s.domState d = 3 → ((s.dom d).phase = .startDelay ∨ (s.dom d).phase = .startRamp) → Runs (.domCtlOff p d full) s fun u =>
      (u.dom d).commanded = 0 ∧ (u.domState d = 1 ∨ (u.domState d = 5 ∧ (u.dom d).phase = .stopRamp ∧ (u.dom d).rampAt = s.now))) ∧
    ((s.domState d = 0 ∨ s.domState d = 1 ∨ s.domState d = 5) → Ends (.domCtlOff p d full) s ((s.raise evDOM_CMD_REFUSED d).okay 0)) ∧
    (s.domState d = 2 → Runs (.domCtlFull p d) s fun u => u.domState d = 5 ∧ (u.dom d).phase = .stopDelay ∧ (u.dom d).commanded = 0 ∧
      (u.dom d).delayDue = s.now + 1000 * s.get (fCEL_DSTOP_DELAY d) ∧ (∀ k, k ≠ d.val → u.dom k = s.dom k) ∧
      OnlyRegs { s with doms := u.doms, bus := { slverr := false, data := 0 } } u [DOM_DSTAT d, SO_DLIFT d]) ∧
    (s.domState d ≠ 2 → Ends (.domCtlFull p d) s ((s.raise evDOM_CMD_REFUSED d).okay 0))

/-- Header stages, the ends of the delays, single code steps, and the Retention watch. Rests on 02_regulator_cells.md,
06_domains_and_power_states.md. -/
def Obligations.RampsAndStages : Prop :=
  ∀ (s : State) (d : Fin 32) (c : Fin 256),
    (((s.dom d).phase = .stagesRet ∨ (s.dom d).phase = .stagesOff) → (s.dom d).stagesRun < 8 → (s.dom d).stageOk = true → (s.dom d).stageDue ≤ s.now →
      ((s.dom d).stagesRun < 7 → Runs (.headerStage d) s fun u =>
        u.dom d = { s.dom d with stagesRun := (s.dom d).stagesRun + 1, stageOk := false, slow := false
                                 stageDue := s.now + if (s.dom d).slow then 2000 else 500 } ∧
        u.get (fDOM_DSTAT_STAGE d) = (s.dom d).stagesRun ∧
        (∀ t, t ∈ s.tractsOf d → s.on fTRC_ENG_BOTH = false → s.healthy (4 * t + (s.dom d).stagesRun % 4) = true →
          s.mode (4 * t + (s.dom d).stagesRun % 4) = 0 → u.mode (4 * t + (s.dom d).stagesRun % 4) = if (s.dom d).phase = .stagesOff then 4 else s.loadMode t) ∧
        (∀ t, t ∈ s.tractsOf d → s.healthy (4 * t + (s.dom d).stagesRun % 4) = true →
          (u.cell (4 * t + (s.dom d).stagesRun % 4)).bars = setBitN (s.cell (4 * t + (s.dom d).stagesRun % 4)).bars ((s.dom d).stagesRun / 4) false) ∧
        ((s.dom d).phase = .stagesOff → OnlyRegs { s with doms := u.doms, cells := u.cells } u
          ([DOM_DSTAT d] ++ if (s.dom d).stagesRun = 0 then (s.cellsOf d).map CEL_CSTAT else (s.tractsOf d).map fun t => CEL_CSTAT (4 * t + (s.dom d).stagesRun % 4)))) ∧
      ((s.dom d).stagesRun = 7 → (s.dom d).phase = .stagesOff → Runs (.headerStage d) s fun u => (u.dom d).phase = .startDelay ∧
        (u.dom d).delayDue = s.now + 1000 * s.get (fCEL_DSTART_DELAY d) ∧ (u.dom d).stagesRun = 8 ∧
        (∀ k, k ∈ s.cellsOf d → s.alive k = true → (s.cell k).hiccupDue = none →
          u.mode k = (if s.drivable k then 1 else 0) ∧ u.on (fCEL_CSTAT_SS_DONE k) = false) ∧
        OnlyRegs { s with cells := u.cells, doms := u.doms } u ([DOM_DSTAT d] ++ (s.cellsOf d).map CEL_CSTAT))) ∧
    ((s.dom d).phase = .startDelay → (s.dom d).delayDue ≤ s.now → Runs (.softStartDelayEnd d) s fun u =>
      (∀ k, k ∈ s.cellsOf d → u.get (fCEL_CSTAT_PRESENT k) = s.startCode (k / 4)) ∧
      (((u.dom d).phase = .startRamp ∧ (u.dom d).rampAt = s.now ∧ (u.dom d).rate = max 1 (s.get (fCEL_DSTART_RAMP d)) ∧
          ∀ t, t ∈ s.tractsOf d → s.stopped t = false → u.loopState t = 0) ∨ (u.domState d = 4 ∧ (u.dom d).phase = .rest) ∨
        (s.on fPST_STATE_ENTERING = true ∧ (u.domState d = 5 ∨ u.domState d = 2)) ∨
        (u.domState d = 1 ∧ ∃ t, t ∈ s.tractsOf d ∧ (s.tract t).lateLoss = true))) ∧
    ((s.dom d).phase = .stopDelay → (s.dom d).delayDue ≤ s.now →
      ((∃ k, k ∈ s.cellsOf d ∧ 240 < s.get (fCEL_CSTAT_PRESENT k)) → Runs (.softStopDelayEnd d) s fun u =>
        u.dom d = { s.dom d with phase := .stopRamp, rampAt := s.now, rate := max 1 (s.get (fCEL_DSTOP_RAMP d)) } ∧
        (∀ k, k ∈ s.cellsOf d → u.get (fCEL_CSTAT_TARGET k) = min 240 (s.get (fCEL_CSTAT_PRESENT k))) ∧ (∀ k, k ≠ d.val → u.dom k = s.dom k) ∧
        OnlyRegs { s with cells := u.cells, doms := u.doms } u ((s.cellsOf d).map CEL_CSTAT)) ∧
      (s.cellsOf d ≠ [] → (∀ k, k ∈ s.cellsOf d → s.get (fCEL_CSTAT_PRESENT k) ≤ 240) → Runs (.softStopDelayEnd d) s fun u => u.domState d = 1 ∧
        ∀ k, k ∈ s.cellsOf d → u.mode k = if s.mode k = 7 then 7 else if s.mode k = 6 ∧ (s.cell k).hiccupDue.isSome = true then 6 else 0)) ∧
    (s.moves c = true → s.get (fCEL_CSTAT_PRESENT c) ≠ s.get (fCEL_CSTAT_TARGET c) → s.stepAt c ≤ s.now → Runs (.presentCodeStep c) s fun u =>
      u.get (fCEL_CSTAT_PRESENT c) = (if s.get (fCEL_CSTAT_PRESENT c) < s.get (fCEL_CSTAT_TARGET c) then s.get (fCEL_CSTAT_PRESENT c) + 1
        else s.get (fCEL_CSTAT_PRESENT c) - 1) ∧ ∀ k, k < 256 → k ≠ c.val → u.get (fCEL_CSTAT_PRESENT k) = s.get (fCEL_CSTAT_PRESENT k)) ∧
    (s.now < s.stepAt c → exec (.presentCodeStep c) s = .next s) ∧
    (∀ a, (s.dom d).lowFrom = some a → a + 1000000 ≤ s.now → (s.dom d).lowOn = false →
      exec (.retLow d) s = .next ((s.updDom d fun h => { h with lowOn := true }).raise evDOM_RET_LOW d))

/-- A request for a power state, the commit, and the wait of the core. Rests on 06_domains_and_power_states.md. -/
def Obligations.EntryIntoStates : Prop :=
  ∀ (s : State) (p : Port) (target : Fin 8) (a : Nat),
    (Served p PST_REQ s →
      ((target.val ≠ 2 ∧ target.val ≠ 3 ∧ target.val ≠ 4) ∨ 1 < s.aon ∨ s.on fPST_STATE_ENTERING = true ∨
          (∃ d, d < 32 ∧ (s.domState d = 3 ∨ s.domState d = 5)) ∨ s.on fTRC_ENG_FAILOVER = true ∨
          (s.on fPST_WAKE_WAKE_N_EN = true ∧ s.pins.wakeN = true) → Runs (.pstReqGo p target) s fun u => u.stat evPST_ENTRY_REFUSED = true ∧
        u.reg PST_STATE = s.reg PST_STATE ∧ OnlyEvents { s with bus := { slverr := false, data := 0 } } u ([PST_REQ] ++ eventRegs 10)) ∧
      ((s.put fPST_REQ_TARGET target).refusesEntry target = false → Runs (.pstReqGo p target) s fun u => u.on fPST_STATE_ENTERING = true ∧
        u.get fPST_REQ_TARGET = target ∧ u.pst.target = target ∧ u.pst.forced = false ∧ u.on fSO_CTL_EN = false ∧ u.so.awaiting = [] ∧
        (∀ d, d < 32 → s.classOf d ≠ 3 → u.domState d ≠ 4) ∧
        (s.lclk = true → (∀ d, d < 32 → u.domState d ≠ 3 ∧ u.domState d ≠ 5) → u.pst.stopAt = some (s.now + 8)))) ∧
    (s.pst.commitAt = some a → s.on fPST_STATE_ENTERING = true → s.pst.orderly = false → a + 1954 ≤ s.now →
      ((s.pst.target = 2 ∨ s.pst.target = 3) → Runs .entryCommit s fun u => u.aon = s.pst.target ∧ u.on fPST_STATE_ENTERING = false ∧
        u.lclk = false ∧ u.clk.fastOsc = false ∧ u.pst.commitAt = none) ∧
      (s.pst.target = 4 → s.pins.wakeN = false → s.levelEvent = none → Runs .entryCommit s fun u => u.aon = 4 ∧ u.lclk = false ∧
        (∀ o, keptInOff o = false → o ∉ [THM_STATE, IBS_BASE, MEM_PWR, TRC_ENG, THM_SUSP0, THM_SUSP1] ++ (upTo 256).map CEL_CSTAT ++
            (upTo 256).map NRG_SMEAS ++ (upTo 8).map NRG_SFLAG ++ (upTo 8).map CEL_FAILED ++ (upTo 64).map STN_SUSP ++ (upTo 64).map THM_SITE ++
            (upTo 64).map TRC_TSTAT → u.reg o = resetVal o) ∧
        u.fw = s.fw ∧ u.dat = s.dat ∧ u.coef = [] ∧ u.plan = [] ∧ u.book = [] ∧ u.tele = [])) ∧
    (s.on fBLK_CORE_RUNNING = true → s.coreAsleep = false → Runs .coreWait s fun u => u.core = { s.core with waiting := true } ∧
      u.aon = (if s.aon = 0 ∧ s.on fPST_STATE_ENTERING = false then 1 else s.aon) ∧
      OnlyRegs { s with core := u.core } u [PST_STATE, MON_ACTIVE])

/-- What wakes the block from Sleep and Deep sleep, and Monument samples. Rests on 06_domains_and_power_states.md. -/
def Obligations.WakeEvents : Prop :=
  ∀ (s : State) (vb ib : Nat) (raws : List Int) (a r : Nat),
    (s.por = false → (s.aon = 2 ∨ s.aon = 3) → s.on fPST_STATE_ENTERING = false → s.pst.waking = false →
      (s.pins.wakeN = false → s.on fPST_WAKE_WAKE_N_EN = true → Runs (.wakeN true) s fun u => u.get fPST_STATE_LASTWAKE = 1 ∧ u.pst.waking = true ∧
        u.pst.toRun = true ∧ u.pins.wakeN = true ∧ u.core.waiting = false ∧ u.on fBLK_CORE_CLK = false ∧ u.get fBLK_WDT_COUNT = 10000 ∧ u.aon = s.aon) ∧
      (s.pst.timerAt = some a → a ≤ s.now → s.on fPST_WAKE_TIMER_EN = true → Runs .wakeTimer s fun u => u.get fPST_STATE_LASTWAKE = 2 ∧
        u.pst.waking = true ∧ u.pst.toRun = true ∧ u.pst.timerAt = none ∧ u.core.waiting = false ∧ u.on fBLK_CORE_CLK = false ∧ u.get fBLK_WDT_COUNT = 10000 ∧ u.aon = s.aon) ∧
      (s.aon = 2 → s.on fPST_WAKE_PMBUS_EN = true → Runs .pmbusAddressMatch s fun u => u.get fPST_STATE_LASTWAKE = 5 ∧ u.pst.waking = true ∧
        u.pst.toRun = true ∧ u.pst.pmbus = true ∧ u.pmb.acked = true ∧ u.core.waiting = false ∧ u.on fBLK_CORE_CLK = false ∧ u.get fBLK_WDT_COUNT = 10000 ∧ u.aon = s.aon) ∧
      (s.on fPST_WAKE_TRAVERSE_EN = true → Runs .traverseWake s fun u => u.get fPST_STATE_LASTWAKE = 4 ∧ u.pst.waking = true ∧ u.trv.waking = true ∧
        u.pst.toRun = true ∧ u.core.waiting = false ∧ u.on fBLK_CORE_CLK = false ∧ u.get fBLK_WDT_COUNT = 10000 ∧ u.aon = s.aon)) ∧
    (s.por = false → s.aon ≤ 1 → s.on fPST_STATE_ENTERING = true → s.pst.orderly = false → s.pst.forced = false → s.inCommit = false →
      s.pins.wakeN = false → s.on fPST_WAKE_WAKE_N_EN = true → Runs (.wakeN true) s fun u => u.on fPST_STATE_ENTERING = false ∧
        u.get fPST_STATE_LASTWAKE = 1 ∧ u.stat evPST_ENTRY_ABORTED = true ∧ u.pst.commitAt = none ∧ u.pst.stopAt = none) ∧
    (s.por = false → s.aon ≤ 1 → s.on fPST_STATE_ENTERING = false → (∀ z, s.pst.wokeAt = some z → z.1 ≠ s.now) →
      exec (.wakeN true) s = .next (({ s with pins := { s.pins with wakeN := true } } : State).updPst fun h =>
        { h with wakeNFrom := some (h.wakeNFrom.getD s.now) }) ∧
      exec .pmbusAddressMatch s = .next ((s.pmbAnswer true [] none).updPst fun h => { h with pmbus := true })) ∧
    (s.aon = 3 → exec .pmbusAddressMatch s = .next (s.pmbAnswer false [] none)) ∧
    (s.pst.wakeNFrom = some a → a + 1000000000 ≤ s.now → s.pst.stuckOn = false →
      exec .wakeStuck s = .next ((s.updPst fun h => { h with stuckOn := true }).raise evPST_WAKE_STUCK 0xFFFF)) ∧
    (s.por = false → s.locked = true → Runs (.monumentSample vb ib raws) s fun u => u.pst.monNo = s.pst.monNo + 1 ∧
      (r < 16 → s.get (fMON_RULE_CH r) = 0 → vb < 32768 →
        u.getI (fMON_RVAL_Y r) = (if s.pst.monSeen.contains r then
          s.getI (fMON_RVAL_Y r) + ((vb : Int) - s.getI (fMON_RVAL_Y r)) / 2 ^ s.get (fMON_RULE_FSHIFT r) else (vb : Int)) ∧
        (s.pst.monSeen.contains r = false → s.on (fMON_RULE_CMP r) = true → s.get (fMON_RULE_COUNT r) ≤ 1 → s.ruleLive r = true → s.ruleOn r = false →
          s.getI (fMON_THR_THR r) < vb → u.stat ⟨21, r⟩ = true)))

/-- VSEL, tracking and the reference of the IB stage. Rests on 07_intermediate_bus_stage.md. -/
def Obligations.IbReference : Prop :=
  ∀ (s : State) (v : Fin 8) (a r f : Nat),
    (s.por = false →
      ((s.runOrIdle = false ∨ v.val = s.ib.vselForce) → exec (.vselAccept v) s = .next (s.put fIBS_STATE_VSEL v)) ∧
      (s.runOrIdle = true → v.val ≠ s.ib.vselForce → (∀ b, s.ib.vselAt = some b → b + 100000 ≤ s.now) → Runs (.vselAccept v) s fun u =>
        u.get fIBS_STATE_VSEL = v ∧ u.ib.vselForce = v ∧ u.on fIBS_STATE_DWELL = false ∧
        u.ib.vselAt = (if u.get fIBS_TGT_TARGET = s.get fIBS_TGT_TARGET then s.ib.vselAt else some s.now) ∧
        (s.get fIBS_CTL_SRC = 0 → u.get fIBS_TGT_TARGET = clampN (s.get fCAD_IB_IBMIN) (s.get fCAD_IB_IBMAX) (s.get (fIBS_VSEL_CODE v))) ∧
        (s.get fIBS_CTL_SRC ≠ 0 → u.reg IBS_TGT = s.reg IBS_TGT) ∧ OnlyEvents { s with ib := u.ib } u ([IBS_STATE, IBS_TGT] ++ eventRegs 11)) ∧
      (s.runOrIdle = true → v.val ≠ s.ib.vselForce → s.ib.vselAt = some a → s.now < a + 100000 →
        exec (.vselAccept v) s = .next ((s.put fIBS_STATE_VSEL v).putB fIBS_STATE_DWELL true))) ∧
    (s.on fIBS_STATE_DWELL = true → s.ib.vselAt = some a → a + 100000 ≤ s.now →
      (s.runOrIdle = true → s.get fIBS_STATE_VSEL ≠ s.ib.vselForce → Runs .vselDwellEnd s fun u => u.ib.vselForce = s.get fIBS_STATE_VSEL ∧
        u.ib.vselAt = (if u.get fIBS_TGT_TARGET = s.get fIBS_TGT_TARGET then s.ib.vselAt else some s.now) ∧ u.on fIBS_STATE_DWELL = false ∧
        (s.get fIBS_CTL_SRC = 0 → u.get fIBS_TGT_TARGET = clampN (s.get fCAD_IB_IBMIN) (s.get fCAD_IB_IBMAX) (s.get (fIBS_VSEL_CODE (s.get fIBS_STATE_VSEL)))) ∧
        OnlyEvents { s with ib := u.ib } u ([IBS_STATE, IBS_TGT] ++ eventRegs 11)) ∧
      ((s.runOrIdle = false ∨ s.get fIBS_STATE_VSEL = s.ib.vselForce) → exec .vselDwellEnd s = .next (s.putB fIBS_STATE_DWELL false))) ∧
    (s.get fIBS_CTL_SRC = 1 → s.runOrIdle = true → 0 < s.ib.trkCnt → Runs .trackUpdate s fun u =>
      u.ib.trkTarget = s.trackCode (s.ib.trkSum * 1200000) (16384 * s.ib.trkCnt) ∧ 1200 ≤ u.ib.trkTarget ∧ u.ib.trkTarget ≤ 1680 ∧
      u.get fIBS_TGT_TARGET = clampN (s.get fCAD_IB_IBMIN) (s.get fCAD_IB_IBMAX) u.ib.trkTarget ∧ u.ib.trkCnt = 0 ∧ u.ib.trkSum = 0 ∧
      OnlyEvents { s with ib := u.ib } u ([IBS_TGT] ++ eventRegs 11)) ∧
    (s.get fIBS_CTL_SRC = 2 →
      (exec (.trackInEdge false) s = .next (s.updIb fun h => { h with trkEdge := some s.now, trkFall := some s.now })) ∧
      ((s.ib.trkRise = none ∨ s.ib.trkFall = none) → exec (.trackInEdge true) s =
        .next (s.updIb fun h => { h with trkEdge := some s.now, trkRise := some s.now, trkFall := none })) ∧
      (s.ib.trkRise = some r → s.ib.trkFall = some f →
        (200 ≤ s.now * 2 / 5 - r * 2 / 5 → s.now * 2 / 5 - r * 2 / 5 ≤ 40000 → Runs (.trackInEdge true) s fun u =>
          u.ib = { s.ib with trkEdge := some s.now, trkRise := some s.now, trkFall := none, trkGood := min 8 (s.ib.trkGood + 1), trkRuns := u.ib.trkRuns } ∧
          u.ib.trkRuns.head? = some (s.now, f * 2 / 5 - r * 2 / 5, s.now * 2 / 5 - r * 2 / 5) ∧
          u.on fIBS_STATE_TRACK_HOLD = (s.on fIBS_STATE_TRACK_HOLD && decide (s.ib.trkGood < 7)) ∧ OnlyRegs { s with ib := u.ib } u [IBS_STATE]) ∧
        ((s.now * 2 / 5 - r * 2 / 5 < 200 ∨ 40000 < s.now * 2 / 5 - r * 2 / 5) → Runs (.trackInEdge true) s fun u =>
          u.ib = { s.ib with trkEdge := some s.now, trkRise := some s.now, trkFall := none, trkGood := 0 } ∧
          u.on fIBS_STATE_TRACK_HOLD = true ∧ (s.on fIBS_STATE_TRACK_HOLD = false → u.stat evIBS_TRACK_RANGE = true) ∧
          OnlyEvents { s with ib := u.ib } u ([IBS_STATE] ++ eventRegs 11))) ∧
      (s.ib.trkEdge.getD 0 + 100000 ≤ s.now → s.on fIBS_STATE_TRACK_HOLD = false → Runs .trackTimeout s fun u =>
        u.on fIBS_STATE_TRACK_HOLD = true ∧ u.stat evIBS_TRACK_RANGE = true ∧
        OnlyEvents { s with ib := { s.ib with trkGood := 0 } } u ([IBS_STATE] ++ eventRegs 11))) ∧
    (s.ibMode ≠ 0 → s.ib.ssWait = none → ∀ d, d = (if s.ib.ramping then s.get fIBS_SS_RAMP else 100 * s.get fIBS_SS_SLEW) * (s.now - s.ib.refAt) / 1000 →
      0 < d → Runs .ibRefStep s fun u =>
        u.ib = { s.ib with refUv := u.ib.refUv, refAt := s.now, ramping := s.ib.ramping && !(u.ib.refUv = s.refGoal && s.ibMode ≠ 1) } ∧
        (s.ib.refUv < s.refGoal → u.ib.refUv = min s.refGoal (s.ib.refUv + d)) ∧ (s.refGoal ≤ s.ib.refUv → u.ib.refUv = max s.refGoal (s.ib.refUv - d)) ∧
        OnlyRegs { s with ib := u.ib } u [IBS_TGT])

/-- The IB loop, hysteretic pulses, sharing and admission. Rests on 07_intermediate_bus_stage.md. -/
def Obligations.IbLoop : Prop :=
  ∀ (s : State) (peaks : IbPeaks) (ph : Fin 16) (p uv i : Nat) (pass : Bool),
    (s.ibMayClose = true → s.ib.ov = false →
      (s.ibMode = 2 → Runs (.ibSample peaks) s fun u => u.ibMode = 3 ∧ u.ib.sampleAt = s.now ∧ u.ib.svcAt = (if s.ib.svcOn then s.ib.svcAt else s.now) ∧
        (∀ k, k < 16 → s.pAdmitted k = true → s.pMode k ≠ 6 → u.pActive k = true) ∧ u.ib.refUv = s.ib.refUv ∧
        OnlyRegs { s with ib := u.ib } u ([IBS_STATE, IBS_MEAS] ++ (upTo 16).map IBS_PSTAT)) ∧
      (s.ibMode = 3 → Runs (.ibSample peaks) s fun u => u.ibMode = 3 ∧ u.ib.sampleAt = s.now ∧ u.ib.e1 = s.ibError ∧ u.ib.e2 = s.ib.e1 ∧ u.ib.e3 = s.ib.e2 ∧
        u.ib.itots = [s.ibTotal] ∧ u.ib.itotCnt = s.ib.itotCnt + 1 ∧ u.ib.refUv = s.ib.refUv ∧
        (∀ k, k < 16 → (u.phase k).dutyAt = s.now ∧ (u.phase k).heldDuty = s.phaseCode k) ∧
        OnlyRegs { s with ib := u.ib } u ([IBS_STATE, IBS_MEAS] ++ (upTo 16).map IBS_PSTAT))) ∧
    (s.ibMode = 3 → s.on fTRC_ENG_BOTH = true → Runs (.ibSample peaks) s fun u => u.ibMode = 2 ∧ u.on fIBS_STATE_DE = false ∧
      (∀ k, k < 16 → s.pAdmitted k = true → u.pMode k = if u.hysPhases.contains k then 2 else if s.pMode k = 6 then 6 else 3) ∧
      OnlyRegs { s with ib := { s.ib with pulsing := false, joins := [], svcOn := false } } u ([IBS_STATE] ++ (upTo 16).map IBS_PSTAT)) ∧
    (s.ibMode = 3 → Runs .ibSampleLate s fun u => u.get fIBS_LATE_CNT_COUNT = min fIBS_LATE_CNT_COUNT.top (s.get fIBS_LATE_CNT_COUNT + 1) ∧
      u.stat evIBS_LATE = true ∧ OnlyEvents s u ([IBS_LATE_CNT] ++ eventRegs 11)) ∧
    (s.ibMode = 3 → Runs .ibShareUpdate s fun u => u.ib.itotCnt = 0 ∧ u.ib.itotSum = 0 ∧ (∀ k, k < 16 → (u.phase k).shed ≤ 3072 * s.get fIBS_SHARE_MAXSHED) ∧
      (∀ k, s.hottest = some k → (16 * s.get fIBS_SHARE_TRIP : Nat) ≤ s.getI (fIBS_PMEAS_TEMP k) → u.pMode k = 6) ∧
      (∀ j, j < 16 → s.hottest ≠ some j → u.pActive j = s.pActive j) ∧ OnlyEvents { s with ib := u.ib } u ((upTo 16).map IBS_PSTAT ++ eventRegs 11)) ∧
    ((s.ibMode = 1 ∨ s.ibMode = 2 ∨ s.ibMode = 4) → s.ib.ssWait = none → s.ib.ov = false →
      (s.nextHys = some p → p ∉ s.ib.hysWait → Runs .ibHysPulse s fun u => u.pMode p = 2 ∧
        (u.phase p).pulse = some (s.now, s.hysTon) ∧
        u.ib = { s.ib with pulsing := true, hysNext := p + 1, hysWait := p :: s.ib.hysWait, phases := u.ib.phases } ∧ (∀ k, k ≠ p → u.phase k = s.phase k) ∧
        OnlyRegs { s with ib := u.ib } u [IBS_PSTAT p]) ∧
      (s.nextHys = some p → s.ib.pulsing = true → (p = ph.val ∨ p ∉ s.ib.hysWait) → uv ≤ s.ib.refUv + s.hysBand → s.ibPeaks i = false → Runs (.ibZcd ⟨ph, uv, i⟩) s fun u =>
        u.pMode p = 2 ∧ (u.phase p).pulse = some (s.now, s.hysTon) ∧ (u.phase ph).zcdAt = some s.now ∧ u.ib.pulsing = true ∧ p ∈ u.ib.hysWait ∧
        (p ≠ ph.val → ph.val ∉ u.ib.hysWait) ∧ OnlyRegs { s with ib := u.ib } u [IBS_PSTAT p])) ∧
    (s.ibPeaks i = true → Runs (.ibZcd ⟨ph, uv, i⟩) s fun u => u = { s with ib := u.ib } ∧ (∀ k, k ≠ ph.val → u.phase k = s.phase k) ∧
      u.phase ph = { s.phase ph with peakAt := if s.pwmOut ph = 1 then some s.now else (s.phase ph).peakAt } ∧
      u.ib = { s.ib with phases := u.ib.phases, ovSince := u.ib.ovSince }) ∧
    (s.ibPeaks i = false → (s.ib.pulsing = false ∨ s.ib.refUv + s.hysBand < uv) → Runs (.ibZcd ⟨ph, uv, i⟩) s fun u => (u.phase ph).zcdAt = some s.now ∧ u.ib.pulsing = false ∧
      u.ib.hysWait = (s.ib.hysWait.filter fun p => p ≠ ph.val) ∧ u.ib.refUv = s.ib.refUv ∧ (∀ k, k ≠ ph.val → u.phase k = s.phase k) ∧
      (s.ibMode ≠ 0 → (s.ib.refUv + 150000 < uv ∨ 2200000 < uv) → u.ib.ovSince.isSome = true) ∧
      (uv ≤ s.ib.refUv + 150000 → uv ≤ 2200000 → u.ib.ovSince = none) ∧ u = { s with ib := u.ib }) ∧
    (s.underTest p = true ↔ (s.ibMode = 2 ∨ s.ibMode = 3) ∧ s.toAdmit = some p ∧ s.ib.admitAt ≤ s.now) ∧
    (s.now < s.ib.admitAt + s.hysTon → exec (.phaseAdmitCheck pass) s = .next s) ∧
    (s.underTest p = true → s.ib.admitAt + s.hysTon ≤ s.now →
      (pass = true → Runs (.phaseAdmitCheck pass) s fun u => u.pMode p = (if s.ibMode = 3 then (if s.on fIBS_STATE_DE then 4 else 2) else 3) ∧
        u.phase p = { s.phase p with trim := 0 } ∧ u.ib = { s.ib with admitAt := s.now - s.hysTon + 10000 * s.get fIBS_SS_ADMIT, phases := u.ib.phases } ∧
        OnlyRegs { s with ib := u.ib } u [IBS_PSTAT p]) ∧
      (pass = false → Runs (.phaseAdmitCheck pass) s fun u => u.pMode p = 7 ∧ u.get (fIBS_PSTAT_CAUSE p) = 1 ∧ u.stat evIBS_STAGE_FAULT = true ∧
        u.ib.admitAt = s.now - s.hysTon + 10000 * s.get fIBS_SS_ADMIT ∧ u.adc = (s.noteIbFault evIBS_STAGE_FAULT).adc ∧
        OnlyEvents { s with ib := u.ib, adc := u.adc } u ([IBS_PSTAT p] ++ eventRegs 11)))

/-- Faults of the IB stage and disturbances of its input. Rests on 07_intermediate_bus_stage.md. -/
def Obligations.IbFaults : Prop :=
  ∀ (s : State) (ps : BitVec 16) (ph : Fin 16) (uv a : Nat),
    (s.ibCondA uv = true ↔ 5 * uv < 1250 * s.get fIBS_TGT_TARGET ∧
      3000 * (1250 * s.get fIBS_TGT_TARGET - s.ib.ssFrom) ≤ 2 * (s.now - s.ib.ssAt) * s.get fIBS_SS_RAMP) ∧
    (∀ e, s.noteIbFault e = (if s.ibMode = 3 ∧ s.stat e = false then { s with adc := { s.adc with faultNew := true } } else s)) ∧
    (s.ibMode = 1 → s.ib.ssWait = none → s.ibCondA uv = false →
      (∀ k b, k < 16 → (s.pActive k = true ∧ bitN ps.toNat k = true ∧ 5 * uv < 4 * s.ib.refUv) → (s.phase k).limSince = some b → s.now < b + 10000) → Runs (.ibSsFault uv ps) s fun u =>
        (∀ k, k < 16 → u.phase k = { s.phase k with limSince := if (s.pActive k = true ∧ bitN ps.toNat k = true ∧ 5 * uv < 4 * s.ib.refUv) then some ((s.phase k).limSince.getD s.now) else none }) ∧
        u = { s with ib := { s.ib with phases := u.ib.phases } }) ∧
    (s.ibMode = 1 → s.ib.ssWait = none → (s.ibCondA uv = true ∨
        ∃ k b, k < 16 ∧ (s.pActive k = true ∧ bitN ps.toNat k = true ∧ 5 * uv < 4 * s.ib.refUv) ∧ (s.phase k).limSince = some b ∧ b + 10000 ≤ s.now) →
      (s.ib.ssTries < 3 → Runs (.ibSsFault uv ps) s fun u => u = { s with ib := u.ib } ∧ (∀ k, k < 16 → (u.phase k).limSince = none) ∧
        u.ib = { s.ib with ssTries := s.ib.ssTries + 1, ssWait := some (s.now + 1000000), hysWait := [], phases := u.ib.phases }) ∧
      (3 ≤ s.ib.ssTries → s.ibCondA uv = true → Runs (.ibSsFault uv ps) s fun u => u.ibMode = 0 ∧ u.aon = 5 ∧ u.stat evIBS_IB_FAIL = true ∧
        u.on fPST_STATE_ENTERING = false ∧ u.admitted = [] ∧ ∀ d, d < 32 → u.domState d ≤ 1) ∧
      (3 ≤ s.ib.ssTries → s.ibCondA uv = false → Runs (.ibSsFault uv ps) s fun u => u.ibMode = 1 ∧ (∀ k b, k < 16 → (s.pActive k = true ∧ bitN ps.toNat k = true ∧ 5 * uv < 4 * s.ib.refUv) → (s.phase k).limSince = some b → b + 10000 ≤ s.now →
          u.pMode k = 7) ∧
        OnlyEvents { s with ib := u.ib } u ((upTo 16).map IBS_PSTAT ++ eventRegs 11))) ∧
    (s.ib.ssWait = some a → a ≤ s.now → s.ibMode = 1 → Runs (.ibSsRetry uv) s fun u => u.ib.ssWait = none ∧ u.ibMode = 1 ∧
      u.ib.ssFrom = uv ∧ u.ib.ssAt = s.now ∧ u.ib.ramping = true ∧ u.ib.ssTries = s.ib.ssTries ∧
      OnlyRegs { s with ib := u.ib } u ([IBS_STATE, IBS_TGT] ++ (upTo 16).map IBS_PSTAT)) ∧
    ((s.phase ph).limSince = some a → s.ibMode = 3 → a + 10000 ≤ s.now → s.pActive ph = true → (∃ q, q < 16 ∧ q ≠ ph.val ∧ s.pActive q = true) →
      (s.get (fIBS_PSTAT_RETRY ph) < 3 → Runs (.ibPhaseShort ph) s fun u => u.pMode ph = 5 ∧
        u.phase ph = { s.phase ph with limSince := none, retryDue := some (s.now + 1000000), rejoin := false } ∧ (∀ k, k ≠ ph.val → u.phase k = s.phase k) ∧
        u.stat evIBS_PH_SHORT = true ∧ u.adc = (s.noteIbFault evIBS_PH_SHORT).adc ∧
        OnlyEvents { s with ib := u.ib, adc := u.adc } u ([IBS_PSTAT ph] ++ eventRegs 11)) ∧
      (s.get (fIBS_PSTAT_RETRY ph) = 3 → Runs (.ibPhaseShort ph) s fun u => u.pMode ph = 7 ∧ u.get (fIBS_PSTAT_CAUSE ph) = 0 ∧
        u.stat evIBS_PH_SHORT = true ∧ u.stat evIBS_PH_FAILED = true ∧ OnlyEvents { s with ib := u.ib, adc := u.adc } u ([IBS_PSTAT ph] ++ eventRegs 11))) ∧
    ((s.phase ph).retryDue = some a → a ≤ s.now → s.pMode ph = 5 → s.ibMode = 3 → Runs (.ibPhaseRetry ph) s fun u => u.pMode ph = 4 ∧
      u.get (fIBS_PSTAT_RETRY ph) = min 3 (s.get (fIBS_PSTAT_RETRY ph) + 1) ∧
      u.phase ph = { s.phase ph with retryDue := none, rejoin := true, okSince := s.now, trim := 0 } ∧ (∀ k, k ≠ ph.val → u.phase k = s.phase k) ∧
      OnlyRegs { s with ib := u.ib } u [IBS_PSTAT ph]) ∧
    (s.pAdmitted ph = true → s.pMode ph ≠ 5 → (s.phase ph).okSince + 100000000 ≤ s.now → exec (.ibPhaseRetryReset ph) s = .next (s.put (fIBS_PSTAT_RETRY ph) 0)) ∧
    (s.pAdmitted ph = true → Runs (.stageFault ph) s fun u => u.pMode ph = 7 ∧ u.get (fIBS_PSTAT_CAUSE ph) = 1 ∧ u.stat evIBS_STAGE_FAULT = true ∧
      u.adc = (s.noteIbFault evIBS_STAGE_FAULT).adc ∧ OnlyEvents { s with ib := u.ib, adc := u.adc } u ((upTo 16).map IBS_PSTAT ++ eventRegs 11)) ∧
    (s.ib.ovSince = some a → s.ibMode ≠ 0 → s.ib.ov = false → a + 2000 ≤ s.now →
      exec .ibOv s = .next (((s.noteIbFault evIBS_IB_OV).updIb fun h => { h with ov := true }).raise evIBS_IB_OV 0xFFFF)) ∧
    (s.ib.ov = true → uv < s.ib.refUv + 50000 → Runs (.ibOvResume uv) s fun u => u.ib.ov = false ∧ u = { s with ib := u.ib } ∧
      u.ib.refUv = s.ib.refUv ∧ (s.ibMode = 3 → u.ib.e1 = u.ibError ∧ u.ib.e2 = u.ibError ∧ u.ib.e3 = u.ibError ∧ u.ib.u2 = u.ib.u1 ∧ u.ib.u3 = u.ib.u1)) ∧
    (s.ib.lowSince = some a → s.ibMode = 3 → a + 10000 ≤ s.now → s.ib.lowOn = false →
      exec .ibLow s = .next ((s.updIb fun h => { h with lowOn := true }).raise evIBS_IB_LOW 0xFFFF)) ∧
    (s.ib.highSince = some a → a + 10000 ≤ s.now → s.ib.highOn = false →
      exec .vinHigh s = .next ((s.updIb fun h => { h with highOn := true }).raise evIBS_VIN_HIGH 0xFFFF)) ∧
    (s.ib.shedSince = some a → a + 50000 ≤ s.now → s.shedding = false → Runs .vinShed s fun u => u.shedding = true ∧ u.stat evIBS_VIN_SHED = true ∧
      (∀ d, d < 32 → u.effGrade d = 0) ∧ OnlyEvents s u ([IBS_STATE] ++ eventRegs 11)) ∧
    (s.ib.restoreSince = some a → a + 1000000 ≤ s.now → s.shedding = true →
      (s.isPrincipal = true → Runs .vinRestore s fun u => u.shedding = false ∧ OnlyRegs { s with trv := u.trv } u [IBS_STATE]) ∧
      (s.isPrincipal = false → exec .vinRestore s = .next s)) ∧
    (s.ib.stopSince = some a → a + 10000 ≤ s.now → s.pst.orderly = false → s.aon ≠ 4 → Runs .vinStop s fun u =>
      u.pst = { s.pst with target := 4, orderly := true, commitAt := some (s.now + 2000) } ∧
      u.cg.allForced = true ∧ u.on fPST_STATE_ENTERING = true ∧ u.on fSO_CTL_EN = false ∧ u.so.awaiting = [] ∧ u.stat evIBS_VIN_STOP = true)

/-- A reading of the sites, the return of suspect sites, and the thermal restart. Rests on 08_thermal.md. -/
def Obligations.ThermalSites : Prop :=
  ∀ (s : State) (raws : List Int) (p : Port) (half : Fin 2) (m : Word) (a : Nat),
    (s.por = false → s.aon ≠ 3 → s.aon ≠ 4 → Runs (.siteReading raws) s fun u =>
      (∀ k, k < 64 → u.on (fTHM_SITE_INVALID k) = (decide (s.diodeTemp (raws.getD k 0) < -640) || decide (3200 < s.diodeTemp (raws.getD k 0)) || s.thm.untrimmed.contains k)) ∧
      (∀ k, k < 64 → u.siteRaw k = s.diodeTemp (raws.getD k 0) ∧ (s.suspect k = false → u.on (fTHM_SITE_INVALID k) = false →
        u.site k = s.diodeTemp (raws.getD k 0))) ∧
      (s.on fTHM_STATE_CALDONE = true → ∀ k, k < 64 → u.on (fTHM_SITE_WARN k) =
        compare (s.on (fTHM_SITE_WARN k)) (u.site k) (16 * s.get fTHM_THR_WARN) (16 * s.get fTHM_HYS_WARN)) ∧
      (s.shut = false → s.thm.hotFirst = none → u.shut = false) ∧
      (s.shut = false → s.on fTHM_STATE_CALDONE = true → s.thm.hotFirst.isSome = true →
        (∃ k, k < 64 ∧ s.shutCode ≤ u.site k ∧ u.suspect k = s.suspect k) → u.shut = true) ∧
      u.thm.tcal = s.thm.tcal ∧ u.cap = s.cap ∧ u.nrg = s.nrg ∧
      ((s.shut = true ∨ s.thm.hotFirst = none) → OnlyEvents { s with thm := u.thm } u
        ([THM_STATE, THM_SUSP0, THM_SUSP1] ++ (upTo 64).map THM_SITE ++ (upTo 64).map THM_RAW ++ (upTo 64).map THM_TDUTY ++ eventRegs 12))) ∧
    (Served p (THM_SUSP0 + 4 * half) s → Runs (.thmSuspClear p half m) s fun u =>
      (∀ k, k < 32 → u.suspect (32 * half + k) =
          (s.suspect (32 * half + k) && !(m.getLsbD k && !(s.freshBits (THM_SUSP0 + 4 * half)).getLsbD k)) ∧
        (m.getLsbD k = true → (s.freshBits (THM_SUSP0 + 4 * half)).getLsbD k = false → s.suspect (32 * half + k) = true →
          (u.siteH (32 * half + k)).far = 0)) ∧
      (∀ k, k < 32 → u.suspect (32 * (1 - half.val) + k) = s.suspect (32 * (1 - half.val) + k)) ∧
      OnlyRegs { s with thm := { s.thm with sites := u.thm.sites }, bus := { slverr := false, data := 0 } } u ([THM_SUSP0, THM_SUSP1] ++ (upTo 64).map THM_SITE)) ∧
    (s.thm.coolFrom = some a →
      (s.shut = true → a + 100000000 ≤ s.now → s.on fTHM_STATE_LATCHED = false → s.on fTHM_CFG_LATCH = false → Runs .thermalRestart s fun u => u.shut = false ∧
        (∀ k, k < 64 → u.on (fTHM_SITE_SHUT k) = false) ∧ u.get fTHM_STATE_COOL = 0 ∧
        (s.aon = 4 → OnlyRegs { s with thm := { s.thm with coolFrom := none, hotFirst := none } } u (THM_STATE :: (upTo 64).map THM_SITE)) ∧
        (s.aon ≠ 4 → u.stat evTHM_RESTARTED = true ∧ u.thm = { s.thm with coolFrom := none, hotFirst := none } ∧ u.doms = s.doms ∧
          (s.boot.released = true → u.boot = { s.boot with
            seq := true, group := [], toStart := (upTo 32).filter fun d => ((s.dom d).commanded = 1 || s.boot.toStart.contains d) && s.domState d ≠ 0 }) ∧
          (s.boot.released = false → u.boot = s.boot))) ∧
      (s.shut = false ∨ s.now < a + 100000000 ∨ s.on fTHM_STATE_LATCHED = true ∨ s.on fTHM_CFG_LATCH = true → exec .thermalRestart s = .next s))

/-- The Tally, reconciliation, the trim, the die limit, derating, THROTTLE_N and the package cap. Rests on
09_power_capping.md, R438. -/
def Obligations.Capping : Prop :=
  ∀ (s : State) (c : Fin 64) (n tag : Fin 16) (active : Bool) (p : Port) (v : Word) (a : Nat),
    (s.lclk = true → Runs .tallyUpdate s fun u =>
      u.get fCAP_EST_EST = s.showPow 22 (s.domPows.foldl (fun a p => a + p.est) 0) ∧ u.cap.acts = [] ∧ u.cap.updates = s.cap.updates + 1 ∧
      (∀ b, s.cap.pendShare = some b → u.get fCAP_SHARE_SHARE = b % 65536 ∧ u.cap.pendShare = none) ∧
      (s.on fCAP_CTL_EN = false → ∀ k, k < 3 → u.get (fCAP_CSTATE_CEIL k) = 15 ∧ u.get (fCAP_CSTATE_PAUSE k) = 0 ∧ u.on (fCAP_CSTATE_CAPPED k) = false ∧
        ∀ d, d < 32 → s.classOf d = k → s.domState d ≠ 0 → u.get (fCAP_DGRADE_PAUSE d) = 0)) ∧
    (s.lclk = false → exec .tallyUpdate s = .next s) ∧
    (s.gateLive = true → Runs (.activityIncrement c n tag) s fun u => u = { s with cap := { s.cap with acts := u.cap.acts } } ∧
      ∀ k, tblGet (fun _ => 0) u.cap.acts k = tblGet (fun _ => 0) s.cap.acts k + (if k = 16 * c.val + tag.val then n.val else 0)) ∧
    (s.gateLive = false → exec (.activityIncrement c n tag) s = .next s) ∧
    (s.cap.recCnt ≠ 0 → s.cap.viCnt ≠ 0 → Runs .reconcile s fun u => u.cap.recCnt = 0 ∧ u.cap.viCnt = 0 ∧
      u.get fCAP_EST_MEAS = min 65535 (natOf (divOpen 33 ((upTo 4).foldl (fun a k => a + (s.cls k).vi) 0) (500 * s.cap.viCnt : Nat))) ∧
      (∀ k, k < 4 → (u.get (fCAP_CGAIN_GAIN k) = s.get (fCAP_CGAIN_GAIN k) ∨
          (8192 ≤ u.get (fCAP_CGAIN_GAIN k) ∧ u.get (fCAP_CGAIN_GAIN k) ≤ 32768)) ∧ (u.cls k).vi = 0 ∧ (u.cls k).lam = 0 ∧ (u.cls k).raw = 0) ∧
      OnlyEvents { s with cap := { s.cap with classes := u.cap.classes, recCnt := 0, viCnt := 0 } } u (CAP_EST :: (upTo 4).map CAP_CGAIN ++ eventRegs 13)) ∧
    (s.cap.viCnt = 0 → exec .reconcile s = .next s) ∧
    (s.cap.viDieCnt ≠ 0 → s.cap.bCnt ≠ 0 → Runs .capTrimUpdate s fun u =>
      u.get fCAP_SHORT_TRIM * (20 * (s.powScale * s.cap.bCnt)) ≤ s.cap.bSum + 20 * (s.powScale * s.cap.bCnt) ∧
      OnlyRegs { s with cap := { s.cap with viDie := 0, viDieCnt := 0, bSum := 0, bCnt := 0 } } u [CAP_EST, CAP_SHORT]) ∧
    (s.cap.sust = false → s.cap.aboveFrom = some a →
      (a + 10000000 ≤ s.now → Runs .dieLimitSwitch s fun u => u.dieLimit = s.get fCAP_DIE_SUST ∧
        u = { s with cap := { s.cap with sust := true, withinFrom := none } }) ∧
      (s.now < a + 10000000 → exec .dieLimitSwitch s = .next s)) ∧
    (s.cap.sust = true → s.cap.withinFrom = some a →
      (a + 10000000 ≤ s.now → Runs .dieLimitSwitch s fun u => u.dieLimit = s.get fCAP_DIE_PEAK ∧
        u = { s with cap := { s.cap with sust := false, aboveFrom := none } }) ∧
      (s.now < a + 10000000 → exec .dieLimitSwitch s = .next s)) ∧
    Runs .derateUpdate s (fun u => u = { s with tracts := u.tracts } ∧ ∀ t, t < 64 →
      u.tract t = { s.tract t with derSum := 0, derCnt := 0, derate := (u.tract t).derate } ∧
      ((s.healthyIn t).length = 4 → (u.tract t).derate = 0) ∧
      ((s.healthyIn t).length ≠ 4 → (s.tract t).derCnt ≠ 0 →
        ((s.contRating t : Int) * (s.tract t).derCnt < (s.tract t).derSum → (u.tract t).derate = min 31 ((s.tract t).derate + 4)) ∧
        (10 * (s.tract t).derSum < 9 * (s.contRating t : Int) * (s.tract t).derCnt → (s.tract t).derSum ≤ (s.contRating t : Int) * (s.tract t).derCnt →
          (u.tract t).derate = (s.tract t).derate - 1) ∧
        ((s.tract t).derSum ≤ (s.contRating t : Int) * (s.tract t).derCnt → 9 * (s.contRating t : Int) * (s.tract t).derCnt ≤ 10 * (s.tract t).derSum →
          (u.tract t).derate = (s.tract t).derate))) ∧
    (active ≠ s.cap.throttle → exec (.throttleN active) s = .next { s with cap := { s.cap with
      throttle := active, thrFrom := if active = true ∧ s.por = false then some s.now else none, thrOn := false } }) ∧
    (active = s.cap.throttle → exec (.throttleN active) s = .next s) ∧
    (s.cap.thrFrom = some a →
      (a + 10000000000 ≤ s.now → s.cap.thrOn = false → Runs .thrStuck s fun u => u.stat evCAP_THR_STUCK = (s.stat evCAP_THR_STUCK || s.on fCAP_CTL_EN) ∧
        OnlyEvents { s with cap := { s.cap with thrOn := true } } u (eventRegs 13)) ∧
      (s.now < a + 10000000000 ∨ s.cap.thrOn = true → exec .thrStuck s = .next s)) ∧
    (Served p CAP_PKG s →
      (s.isPrincipal = true → Runs (.capPkgWrite p v) s fun u => u.get fCAP_PKG_CAP = v.toNat % 2 ^ 20 ∧
        OnlyRegs { s with trv := u.trv, bus := { slverr := false, data := 0 } } u [CAP_PKG]) ∧
      (s.isPrincipal = false → Ends (.capPkgWrite p v) s (s.okay 0)))

/-- Grade steps, their acknowledgements, timeouts and faults. Rests on 09_power_capping.md, R44, R433. -/
def Obligations.Grades : Prop :=
  ∀ (s : State) (d : Fin 32) (p : Port) (g : GradeStep) (a : Nat) (err : Bool),
    (s.gateLive = false → exec (.gradeStepStart d) s = .next s ∧ exec (.grdAck d err) s = .next s) ∧
    (s.on (fCAP_DGRADE_FAULT d) = true → exec (.gradeStepStart d) s = .next s) ∧
    (s.gateLive = true → s.on (fCAP_DGRADE_GCTL d) = true → s.on (fCAP_DGRADE_FAULT d) = false → s.domState d ≠ 0 →
      ((s.dom d).step = none → (s.dom d).stepAt ≤ s.now →
        (s.effGrade d < s.get (fCAP_DGRADE_NOW d) → Runs (.gradeStepStart d) s fun u =>
          u.dom d = { s.dom d with step := some ⟨s.get (fCAP_DGRADE_NOW d) - 1, false, 0, some s.now, false, s.effGrade d⟩, stepAt := s.now + 8000 } ∧
          u = { s with doms := u.doms } ∧ ∀ k, k ≠ d.val → u.dom k = s.dom k) ∧
        (s.get (fCAP_DGRADE_NOW d) < s.effGrade d → s.codeValid d (s.gradeCode d (s.get (fCAP_DGRADE_NOW d) + 1)) = true →
            s.justWritten (fDOM_VSET_CODE d) = false →
          Runs (.gradeStepStart d) s fun u => u.get (fDOM_VSET_CODE d) = s.gradeCode d (s.get (fCAP_DGRADE_NOW d) + 1) ∧
            u.get (fCAP_DGRADE_NOW d) = s.get (fCAP_DGRADE_NOW d) ∧
            (∃ h, (u.dom d).step = some h ∧ h.dest = s.get (fCAP_DGRADE_NOW d) + 1 ∧ h.rising = true ∧
              h.code = s.gradeCode d (s.get (fCAP_DGRADE_NOW d) + 1) ∧ h.reissued = false ∧ h.eff = s.effGrade d) ∧
            (s.isOn d = true → (s.dom d).phase = .rest → LiftOnly s u [DOM_VSET d])) ∧
        (s.get (fCAP_DGRADE_NOW d) = s.effGrade d → exec (.gradeStepStart d) s = .next s)) ∧
      ((s.dom d).step = some g → g.sentAt = none → g.rising = true →
        ((g.reissued = true ∨ (s.slewComplete d = true ∧ s.get (fDOM_VSET_CODE d) = g.code ∧ g.eff = s.effGrade d)) →
          Runs (.gradeStepStart d) s fun u => u.dom d = { s.dom d with step := some { g with sentAt := some s.now } } ∧
            u = { s with doms := u.doms } ∧ ∀ k, k ≠ d.val → u.dom k = s.dom k) ∧
        (g.reissued = false → g.eff ≠ s.effGrade d → Runs (.gradeStepStart d) s fun u => (u.dom d).step = none ∧
          (s.codeValid d (s.gradeCode d (s.get (fCAP_DGRADE_NOW d))) = true → s.justWritten (fDOM_VSET_CODE d) = false →
            u.get (fDOM_VSET_CODE d) = s.gradeCode d (s.get (fCAP_DGRADE_NOW d)))))) ∧
    (s.gateLive = true →
      ((s.dom d).step = some g → g.sentAt.isSome = true →
        (g.rising = true → Runs (.grdAck d false) s fun u =>
          u.get (fCAP_DGRADE_NOW d) = g.dest % 16 ∧ u.dom d = { s.dom d with step := none } ∧ OnlyRegs { s with doms := u.doms } u [CAP_DGRADE d]) ∧
        (g.rising = false → s.codeValid d (s.gradeCode d g.dest) = true → s.justWritten (fDOM_VSET_CODE d) = false → Runs (.grdAck d false) s fun u =>
          u.get (fCAP_DGRADE_NOW d) = g.dest % 16 ∧ (u.dom d).step = none ∧ u.get (fDOM_VSET_CODE d) = s.gradeCode d g.dest ∧
          (s.isOn d = true → (s.dom d).phase = .rest → LiftOnly s u [DOM_VSET d, CAP_DGRADE d])) ∧
        (g.reissued = false → Runs (.grdAck d true) s fun u => u.dom d = { s.dom d with step := some { g with reissued := true, sentAt := some s.now } } ∧
          u = { s with doms := u.doms }) ∧
        (g.reissued = true → Runs (.grdAck d true) s fun u => (u.dom d).step = none ∧ u.on (fCAP_DGRADE_FAULT d) = true ∧
          u.stat evCAP_GRADE_FAULT = (s.stat evCAP_GRADE_FAULT || s.on fCAP_CTL_EN) ∧ OnlyEvents { s with doms := u.doms } u ([CAP_DGRADE d] ++ eventRegs 13))) ∧
      ((s.dom d).step = none → Runs (.grdAck d err) s fun u => u.get fCAP_GRD_STRAY_COUNT = min (2 ^ 32 - 1) (s.get fCAP_GRD_STRAY_COUNT + 1) ∧
        OnlyRegs s u [CAP_GRD_STRAY])) ∧
    ((s.dom d).step = some g → g.sentAt = some a →
      (s.now < a + 2000 → exec (.gradeAckTimeout d) s = .next s) ∧
      (a + 2000 ≤ s.now → g.reissued = false → Runs (.gradeAckTimeout d) s fun u => u.dom d = { s.dom d with
          step := some { g with reissued := true, sentAt := if s.gateLive then some s.now else none } } ∧
        u = { s with doms := u.doms }) ∧
      (a + 2000 ≤ s.now → g.reissued = true → Runs (.gradeAckTimeout d) s fun u => (u.dom d).step = none ∧ u.on (fCAP_DGRADE_FAULT d) = true ∧
        u.stat evCAP_GRADE_FAULT = (s.stat evCAP_GRADE_FAULT || s.on fCAP_CTL_EN) ∧ OnlyEvents { s with doms := u.doms } u ([CAP_DGRADE d] ++ eventRegs 13))) ∧
    (Served p (CAP_DGRADE d) s → s.get (fCAP_DGRADE_REQ d) ≤ s.gradeMax d → Runs (.gradeFaultClear p d) s fun u =>
      u.on (fCAP_DGRADE_FAULT d) = (s.on (fCAP_DGRADE_FAULT d) && (s.freshBits (CAP_DGRADE d)).getLsbD 30) ∧
      u.get (fCAP_DGRADE_REQ d) = s.get (fCAP_DGRADE_REQ d) ∧ u.on (fCAP_DGRADE_GCTL d) = s.on (fCAP_DGRADE_GCTL d) ∧
      u.get (fCAP_DGRADE_NOW d) = s.get (fCAP_DGRADE_NOW d) ∧ u.bus = { slverr := false, data := 0 } ∧
      ((s.dom d).step = none → OnlyRegs { s with bus := { slverr := false, data := 0 } } u [CAP_DGRADE d]))

/-- The millisecond divides its energy without loss; records, their numbers and their responses. Rests on
10_energy_and_telemetry.md. -/
def Obligations.EnergyAndTelemetry : Prop :=
  (∀ (e : Nat) (m : Nat → Nat), sumOver (upTo 17) (increment e m) = e) ∧
  ∀ (s : State) (p : Port) (ok : Bool) (m : Word) (k : Fin 8) (r : List Byte) (w : Nat × List Byte) (ws : List (Nat × List Byte)),
    (s.por = false → s.aon ≠ 4 → s.msNow ≠ s.nrg.msStart →
      (s.msMeasured = true → Runs .msBoundary s fun u =>
        (∀ b, b < 17 → u.acc b =
          ((if bitN s.nrg.clr b then 0 else s.acc b) + increment s.emsNow (fun j => tblGet (fun _ => 0) s.nrg.models j) b) % 2 ^ 64 ∧
          (2 ^ 64 ≤ (if bitN s.nrg.clr b then 0 else s.acc b) + increment s.emsNow (fun j => tblGet (fun _ => 0) s.nrg.models j) b →
            u.stat evNRG_WRAP = true)) ∧
        u.get fNRG_EMS_EMS = min (2 ^ 32 - 1) s.emsNow ∧ u.nrg.msStart = s.msNow ∧ u.nrg.clr = 0 ∧ u.nrg.models = [] ∧ u.nrg.vi = 0 ∧
        u.nrg.pen = s.get fNRG_CTL_PEN ∧ (∀ f, f ∈ s.pmb.flags → f ∈ u.pmb.flags) ∧ (∀ d, d < 32 → s.tractsOf d = [] → u.reg (NRG_DCUR d) = 0) ∧
        (s.nrg.models = [] → u.stat evNRG_NOMODEL = true) ∧ (s.on fTLM_CTL_EN = false → u.nrg.record = s.nrg.record) ∧
        OnlyEvents { s with nrg := u.nrg, pmb := u.pmb } u ([NRG_EMS] ++ (upTo 17).map NRG_PART_LO ++ (upTo 32).map NRG_DCUR ++ (upTo 8).map NRG_WMIN ++
          (upTo 8).map NRG_WTS_LO ++ (upTo 256).map NRG_SMEAS ++ (upTo 8).map NRG_SFLAG ++ eventRegs 14)) ∧
      (s.msMeasured = false → Runs .msBoundary s fun u =>
        (∀ b, b < 17 → u.acc b = if bitN s.nrg.clr b then 0 else s.acc b) ∧ u.stat evNRG_GAP = true ∧ u.nrg.msStart = s.msNow ∧
        u.nrg.clr = 0 ∧ u.nrg.record = s.nrg.record ∧
        OnlyEvents { s with nrg := u.nrg } u ((upTo 17).map NRG_PART_LO ++ eventRegs 14))) ∧
    (s.por = true ∨ s.aon = 4 ∨ s.msNow = s.nrg.msStart → exec .msBoundary s = .next s) ∧
    (s.nrg.record = none → exec .tlmRecordIssue s = .next s) ∧
    (s.nrg.record = some r → r.length = 256 →
      (s.nrg.writes.length < 2 → s.memUsable 5 = true → s.pins.hostPwrgd = true → Runs .tlmRecordIssue s fun u =>
        u.get fTLM_SEQ_SEQ = s.nrg.nextSeq % 2 ^ 32 ∧
        (∀ j, j < 256 → memByte u.tele (256 * (s.nrg.nextSeq % 256) + j) = (withSeq r s.nrg.nextSeq).getD j 0) ∧
        OnlyRegs { s with tele := u.tele, mem := u.mem, nrg := { s.nrg with
          record := none, nextSeq := (s.nrg.nextSeq + 1) % 2 ^ 32, writes := s.nrg.writes ++ [(s.tlmAddr s.nrg.nextSeq, withSeq r s.nrg.nextSeq)] } } u [TLM_SEQ]) ∧
      ((2 ≤ s.nrg.writes.length ∨ s.memUsable 5 = false ∨ s.pins.hostPwrgd = false) → Runs .tlmRecordIssue s fun u =>
        u.nrg = { s.nrg with record := none, nextSeq := (s.nrg.nextSeq + 1) % 2 ^ 32 } ∧ u.get fTLM_SEQ_SEQ = s.nrg.nextSeq % 2 ^ 32 ∧
        u.stat evTLM_DROP = true ∧ u.get fTLM_DROP_COUNT = min (2 ^ 32 - 1) (s.get fTLM_DROP_COUNT + 1) ∧
        (s.memUsable 5 = false → u.tele = s.tele) ∧
        OnlyEvents { s with nrg := u.nrg, tele := u.tele, mem := u.mem } u ([TLM_SEQ, TLM_DROP] ++ eventRegs 15))) ∧
    (s.nrg.writes = [] → exec (.tlmWriteResponse ok) s = .next s) ∧
    (s.nrg.writes = w :: ws →
      Runs (.tlmWriteResponse true) s (fun u => u.stat evTLM_PUSH = true ∧
        OnlyEvents { s with nrg := { s.nrg with writes := ws } } u (eventRegs 15)) ∧
      Runs (.tlmWriteResponse false) s (fun u => u.stat evTLM_DROP = true ∧
        u.get fTLM_DROP_COUNT = min (2 ^ 32 - 1) (s.get fTLM_DROP_COUNT + 1) ∧
        OnlyEvents { s with nrg := { s.nrg with writes := ws } } u ([TLM_DROP] ++ eventRegs 15))) ∧
    (Served p NRG_CLR s → Ends (.nrgClr p m) s { s with nrg := { s.nrg with clr := s.nrg.clr ||| m.toNat % 2 ^ 17 }, bus := { slverr := false, data := 0 } }) ∧
    (Served p (NRG_SFLAG k) s → Runs (.sflagClear p k m) s fun u =>
      u.reg (NRG_SFLAG k) = s.reg (NRG_SFLAG k) &&& ~~~(m &&& ~~~(s.freshBits (NRG_SFLAG k))) ∧
      (∀ j, j < 32 →
        (m.getLsbD j = true → (s.freshBits (NRG_SFLAG k)).getLsbD j = false → (s.reg (NRG_SFLAG k)).getLsbD j = true →
          u.on (fNRG_SMEAS_DERATED (32 * k + j)) = false ∧ u.get (fNRG_SMEAS_COUNT (32 * k + j)) = 0 ∧
          u.get (fNRG_SMEAS_RMEAS (32 * k + j)) = s.get (fNRG_SMEAS_RMEAS (32 * k + j))) ∧
        ((m.getLsbD j = false ∨ (s.freshBits (NRG_SFLAG k)).getLsbD j = true ∨ (s.reg (NRG_SFLAG k)).getLsbD j = false) →
          u.reg (NRG_SMEAS (32 * k + j)) = s.reg (NRG_SMEAS (32 * k + j)))) ∧
      OnlyRegs { s with bus := { slverr := false, data := 0 } } u ([NRG_SFLAG k] ++ (upTo 32).map fun j => NRG_SMEAS (32 * k + j)))

/-- The PMBus commands answer as Table 10.3 says. Rests on 10_energy_and_telemetry.md. -/
def Obligations.PmbusCommands : Prop :=
  ∀ (s : State) (b : Byte) (d : Nat) (bytes : List Byte) (c : Byte) (x : Option Byte),
    (s.por = false → (s.aon = 3 ∨ s.aon = 4) → exec .capability s = .next { s with pmb := { s.pmb with acked := false, reply := [], pec := none } }) ∧
    (s.pmbAwake = true → s.stretching = true → s.pmb.held = none →
      exec .capability s = .next { s with pmb := { s.pmb with held := some .capability } }) ∧
    (s.pmbAwake = true → s.stretching = false →
    (Answered .capability s 0x19 [0xA0#8]) ∧ (Answered .voutMode s 0x20 [0x14#8]) ∧
    (Answered (.page ⟨none, x⟩) s 0x00 [BitVec.ofNat 8 s.pmb.page]) ∧
    (x = none ∨ x = some (pecOf [s.addrByte 0, 0x00#8, b]) →
      (b.toNat ≤ 32 → exec (.page ⟨some b, x⟩) s = .next { (s.pmbOver true) with pmb := { (s.pmbOver true).pmb with page := b.toNat } }) ∧
      (32 < b.toNat → exec (.page ⟨some b, x⟩) s = .next { (s.pmbOver false) with pmb := { (s.pmbOver false).pmb with cml := setBitN s.pmb.cml 6 true } })) ∧
    (x = none ∨ x = some (pecOf [s.addrByte 0, 0xD2#8, b]) →
      (b.toNat ≤ 16 → exec (.mfrPartition ⟨some b, x⟩) s = .next { (s.pmbOver true) with pmb := { (s.pmbOver true).pmb with bucket := b.toNat } }) ∧
      (16 < b.toNat → exec (.mfrPartition ⟨some b, x⟩) s = .next { (s.pmbOver false) with pmb := { (s.pmbOver false).pmb with cml := setBitN s.pmb.cml 6 true } })) ∧
    (exec .clearFaults s = .next { (s.pmbOver true) with pmb := { (s.pmbOver true).pmb with cml := 0, flags := [] } }) ∧
    (x ≠ none → x ≠ some (pecOf [s.addrByte 0, 0x00#8, b]) → Runs (.page ⟨some b, x⟩) s fun u =>
      PmbOnly { s with pmb := { (s.pmbOver true).pmb with cml := setBitN s.pmb.cml 5 true } } u ∧ u.stat evTLM_PMB_CML = true) ∧
    (StatusRead .statusWord s 0x79 2 [0x7B, 0x7D]) ∧ (StatusRead .statusIout s 0x7B 1 [0x7B]) ∧ (StatusRead .statusTemperature s 0x7D 1 [0x7D]) ∧
    (s.statusNow 0x7B 0 = true ↔ ∃ p, p < 16 ∧ (s.on (fIBS_PSTAT_LIMIT p) = true ∨ s.pMode p = 7)) ∧
    (s.statusNow 0x7B (d + 1) = true ↔ ∃ t, t < 64 ∧ s.domOf t = d ∧ 0 < (s.tract t).derate) ∧
    (∀ g, s.statusNow 0x7D g = true ↔ ∃ t, t < 64 ∧ (g = 0 ∨ g = s.domOf t + 1) ∧
      (s.on (fTHM_SITE_WARN t) = true ∨ s.on (fTHM_SITE_THROT t) = true ∨ s.on (fTHM_SITE_SHUT t) = true)) ∧
    (Answered .statusCml s 0x7E [BitVec.ofNat 8 s.pmb.cml]) ∧
    (s.pmb.page = 0 →
      (∃ r, Answered .readVin s 0x88 r ∧ Linear11 r (72 * s.ib.code17) 16384) ∧
      (∃ r, Answered .readIin s 0x89 r ∧ r.length = 2 ∧
        (s.ib.code17 ≠ 0 → Linear11 r ((16384 * s.ibMean.1 : Nat) * s.ibTotal) (720000000 * s.ib.code17 * s.ibMean.2))) ∧
      (∃ r, Answered .readPin s 0x97 r ∧ r.length = 2 ∧
        (s.ib.code17 ≠ 0 → Linear11 r ((16384 * s.ibMean.1 : Nat) * s.ibTotal * (72 * s.ib.code17)) (720000000 * s.ib.code17 * s.ibMean.2 * 16384))) ∧
      (∃ r, Answered .readIout s 0x8C r ∧ Linear11 r s.ibTotal 10) ∧
      (∃ r, Answered .readTemperature1 s 0x8D r ∧ Linear11 r s.pmb.hval 16) ∧
      (∃ r, Answered .readPout s 0x96 r ∧ Linear11 r s.pmb.meas 16) ∧
      (s.ib.code16 < 65536 → ∃ r, Answered .readVout s 0x8B r ∧ r.length = 2 ∧
        leNat r * 163840 < s.ib.code16 * 98304 + 163840 ∧ s.ib.code16 * 98304 < leNat r * 163840 + 163840)) ∧
    (s.pmb.page = d + 1 →
      (∃ r, Answered .readIout s 0x8C r ∧ Linear11 r (s.getI (fNRG_DCUR_AVG d)) 10) ∧
      (s.tractsOf d ≠ [] → ∃ r, Answered .readTemperature1 s 0x8D r ∧ Linear11 r (tblGet (fun _ => 0) s.pmb.temps d) 16) ∧
      (∃ r, Answered .readPout s 0x96 r ∧ Linear11 r (s.pageCode d * s.getI (fNRG_DCUR_AVG d)) 8000) ∧
      (s.pageCode d < 1024 → ∃ r, Answered .readVout s 0x8B r ∧ r.length = 2 ∧
        leNat r * 800 < s.pageCode d * 4096 + 800 ∧ s.pageCode d * 4096 < leNat r * 800 + 800) ∧
      ∀ i ∈ [Instr.readVin, Instr.readIin, Instr.readPin], Runs i s fun u => u.stat evTLM_PMB_CML = true ∧
        PmbOnly { s with pmb := { (s.pmbOver false).pmb with cml := setBitN s.pmb.cml 7 true } } u) ∧
    (Answered .pmbusRevision s 0x98 [0x33#8]) ∧
    (Answered .mfrId s 0x99 [4#8, 0x4C#8, 0x4C#8, 0x59#8, 0x4E#8]) ∧
    (Answered .mfrModel s 0x9A [5#8, 0x50#8, 0x44#8, 0x58#8, 0x2D#8, 0x38#8]) ∧
    (Answered .mfrRevision s 0x9B [2#8, 0x01#8, 0x02#8]) ∧
    (s.pmb.busy = false → 0 < bytes.length → bytes.length ≤ 64 → (s.chanState 7 = 0 ∨ s.chanState 7 = 4) →
      (x = none ∨ x = some (pecOf ([s.addrByte 0, 0xD0#8, BitVec.ofNat 8 bytes.length] ++ bytes))) → Runs (.mfrIbselReq ⟨bytes, x⟩) s fun u =>
        u.pmb = { (s.pmbOver true).pmb with busy := true } ∧
        (s.core.ifaceDue ≠ some (s.now + 2000) → u.chanState 7 = 1 ∨ u.chanState 7 = 4) ∧
        ∀ j, j < bytes.length → bitsAt (u.reg (MBX_REQ 7 (j / 4))) (8 * (j % 4)) 8 = (bytes.getD j 0).toNat) ∧
    (s.pmb.busy = true → Runs (.mfrIbselReq ⟨bytes, none⟩) s fun u => u.stat evTLM_PMB_CML = true ∧
      PmbOnly { s with pmb := { (s.pmbOver true).pmb with cml := setBitN s.pmb.cml 1 true } } u) ∧
    ((s.chanState 7 = 1 ∨ s.chanState 7 = 2) → Answered .mfrIbselRsp s 0xD1 [1#8, 1#8]) ∧
    ((s.chanState 7 = 0 ∨ s.chanState 7 = 4) →
      exec .mfrIbselRsp s = .next { (s.pmbOver true) with pmb := { s.pmbReply 0xD1 (64#8 :: (s.rspWords 7).flatMap fun w => leBytes w.toNat 4) with busy := false } }) ∧
    (Answered (.mfrPartition ⟨none, x⟩) s 0xD2 [BitVec.ofNat 8 s.pmb.bucket]) ∧
    (Answered .mfrPartEnergy s 0xD3 (8#8 :: leBytes (s.acc s.pmb.bucket) 8)) ∧
    (Runs (.pmbusInvalidCommand .pec) s fun u => u.stat evTLM_PMB_CML = true ∧
      PmbOnly { s with pmb := { (s.pmbOver true).pmb with cml := setBitN s.pmb.cml 5 true } } u) ∧
    (c.toNat ∉ pmbCodes → Runs (.pmbusInvalidCommand (.command c)) s fun u => u.stat evTLM_PMB_CML = true ∧
      PmbOnly { s with pmb := { (s.pmbOver false).pmb with cml := setBitN s.pmb.cml 7 true } } u))

/-- Conversions of the service and of user sequences, their triggers, delays and register writes. Rests on
11_converters.md. -/
def Obligations.Converters : Prop :=
  ∀ (s : State) (k : Fin 2) (nv : Int) (refNv a : Nat) (l : List Nat) (p : Port) (v : Word), s.lclk = true →
    ((s.conv k).flight = none → exec (.conversionDone k nv refNv) s = .next s) ∧
    (∀ use, (s.conv k).flight = some ⟨a, use⟩ → s.now < a + 160 → exec (.conversionDone k nv refNv) s = .next s) ∧
    (s.ibMode = 3 → a + 160 ≤ s.now →
      ((s.conv k).flight = some ⟨a, .service .ib⟩ → Runs (.conversionDone k nv refNv) s fun u =>
        u.ib.code16 = natOf (s.benchCode k 16 false nv refNv) ∧ (u.conv k).flight = none ∧ u = { s with ib := u.ib, adc := u.adc }) ∧
      ((s.conv k).flight = some ⟨a, .service .vin⟩ → Runs (.conversionDone k nv refNv) s fun u =>
        u.ib.code17 = natOf (s.benchCode k 17 false nv refNv) ∧ OnlyRegs { s with ib := u.ib, adc := u.adc } u [IBS_MEAS])) ∧
    ((s.conv k).flight = some ⟨a, .slot false⟩ → a + 160 ≤ s.now → s.on (fADC_SSTAT_RUN k) = true → s.on (fADC_SSTAT_DUE k) = false →
      Runs (.conversionDone k nv refNv) s fun u =>
        u.reg (ADC_RES k (s.get (fADC_SSTAT_SLOT k))) = resWord (s.get fADC_CFG_REF) (s.conv k).runs
          (s.userCode k (s.get (fADC_SLOT_CH k (s.get (fADC_SSTAT_SLOT k)))) (s.on (fADC_SLOT_MODE k (s.get (fADC_SSTAT_SLOT k)))) nv refNv) ∧
        (s.get (fADC_SSTAT_SLOT k) < s.get (fADC_SEQ_LEN k) →
          u.get (fADC_SSTAT_SLOT k) = s.get (fADC_SSTAT_SLOT k) + 1 ∧ u.on (fADC_SSTAT_RUN k) = true) ∧
        (s.get (fADC_SEQ_LEN k) ≤ s.get (fADC_SSTAT_SLOT k) →
          u.on (fADC_SSTAT_RUN k) = false ∧ u.stat (if k = 0 then evADC_SEQ_DONE_A else evADC_SEQ_DONE_B) = true) ∧
        OnlyEvents { s with adc := u.adc } u ([ADC_SSTAT k, ADC_TSTART k, ADC_RES k (s.get (fADC_SSTAT_SLOT k))] ++ (upTo 4).map (ADC_IRES k) ++ eventRegs 16)) ∧
    (s.ibMode = 3 → s.get (fADC_SEQ_TSRC k) = 2 → s.get (fADC_SEQ_TSRC (1 - k)) ≠ 2 → s.get (fADC_INJ_TSRC 0) ≠ 2 → s.get (fADC_INJ_TSRC 1) ≠ 2 →
      (s.seqBusy k false = true → Runs (.seqTrigger .ibPeriod) s fun u => u.get (fADC_SSTAT_LOST k) = min 255 (s.get (fADC_SSTAT_LOST k) + 1) ∧
        u.stat evADC_TRIG_LOST = true ∧ OnlyEvents s u ([ADC_SSTAT k] ++ eventRegs 16)) ∧
      (s.seqBusy k false = false → s.on fADC_STATE_BM_RDY = true → (s.get fADC_CFG_REF = 0 ∨ s.on fADC_STATE_ALT_RDY = true) →
          (s.conv k).calOn = false →
        (s.get (fADC_SEQ_DELAY k) ≠ 0 → Runs (.seqTrigger .ibPeriod) s fun u =>
          u.conv k = { s.conv k with dueAt := (s.conv k).dueAt ++ [s.now + 8 * s.get (fADC_SEQ_DELAY k)] } ∧ u = { s with adc := u.adc }) ∧
        (s.get (fADC_SEQ_DELAY k) = 0 → Runs (.seqTrigger .ibPeriod) s fun u =>
          u.on (fADC_SSTAT_DUE k) = true ∧ OnlyRegs s u [ADC_SSTAT k]))) ∧
    (s.adc.faultNew = false → exec (.seqTrigger .ibFault) s = .next s) ∧
    (s.adc.faultNew = true → s.get (fADC_INJ_TSRC k) = 4 → s.get (fADC_INJ_TSRC (1 - k)) ≠ 4 → s.seqBusy k true = false →
        s.on fADC_STATE_BM_RDY = true → (s.get fADC_CFG_REF = 0 ∨ s.on fADC_STATE_ALT_RDY = true) → (s.conv k).calOn = false →
        s.get (fADC_INJ_DELAY k) ≠ 0 →
      Runs (.seqTrigger .ibFault) s fun u =>
        u.conv k = { s.conv k with idueAt := (s.conv k).idueAt ++ [s.now + 8 * s.get (fADC_INJ_DELAY k)] } ∧ u = { s with adc := u.adc }) ∧
    (s.adc.tmrAt = some a → a ≤ s.now →
      Runs .adcTimerExpiry s (fun u => u.adc.tmrAt = some (a + 1000 * s.get fADC_TMR_PERIOD) ∧
        OnlyEvents { s with adc := u.adc } u ([ADC_SSTAT 0, ADC_SSTAT 1] ++ (upTo 2).flatMap (fun j => (upTo 16).map (ADC_RES j)) ++
          (upTo 2).flatMap (fun j => (upTo 4).map (ADC_IRES j)) ++ eventRegs 16)) ∧
      (s.get (fADC_SEQ_TSRC k) = 1 → s.get (fADC_SEQ_TSRC (1 - k)) ≠ 1 → s.get (fADC_INJ_TSRC 0) ≠ 1 → s.get (fADC_INJ_TSRC 1) ≠ 1 →
        s.seqBusy k false = true → Runs .adcTimerExpiry s fun u => u.get (fADC_SSTAT_LOST k) = min 255 (s.get (fADC_SSTAT_LOST k) + 1) ∧
          u.stat evADC_TRIG_LOST = true ∧ OnlyEvents { s with adc := u.adc } u ([ADC_SSTAT k] ++ eventRegs 16))) ∧
    ((s.conv k).dueAt = a :: l → a ≤ s.now → Runs (.seqDue k false) s fun u =>
      (u.conv k).dueAt = l ∧ u.seqBusy k false = true ∧
      (s.seqBusy k false = false → u.on (fADC_SSTAT_DUE k) = true ∧ OnlyRegs { s with adc := u.adc } u [ADC_SSTAT k])) ∧
    ((s.conv k).idueAt = a :: l → a ≤ s.now → Runs (.seqDue k true) s fun u => (u.conv k).idueAt = l ∧ u.seqBusy k true = true) ∧
    (Served p (ADC_SEQ k) s →
      (s.seqBusy k false = true → Runs (.adcSeqGo p k v) s fun u => u.stat evADC_REFUSED = true ∧ u.stat evADC_TRIG_LOST = true ∧
        u.get (fADC_SSTAT_LOST k) = min 255 (s.get (fADC_SSTAT_LOST k) + 1) ∧
        OnlyEvents { s with bus := { slverr := false, data := 0 } } u ([ADC_SSTAT k] ++ eventRegs 16)) ∧
      (s.seqBusy k false = false → s.on fADC_STATE_BM_RDY = true → (s.get fADC_CFG_REF = 0 ∨ s.on fADC_STATE_ALT_RDY = true) →
          (s.conv k).calOn = false → Runs (.adcSeqGo p k v) s fun u =>
        u.get (fADC_SEQ_LEN k) = bitsAt v 0 4 ∧ u.get (fADC_SEQ_TPH k) = bitsAt v 11 4 ∧ u.get (fADC_SEQ_DELAY k) = bitsAt v 16 8 ∧
        u.get (fADC_SEQ_TSRC k) = (if bitsAt v 8 3 ≤ 3 then bitsAt v 8 3 else 0) ∧ u.on (fADC_SEQ_GO k) = false ∧
        (bitsAt v 16 8 = 0 → u.seqBusy k false = true) ∧
        (bitsAt v 16 8 ≠ 0 → (u.conv k).dueAt = (s.conv k).dueAt ++ [s.now + 8 * bitsAt v 16 8] ∧
          OnlyRegs { s with adc := u.adc, bus := { slverr := false, data := 0 } } u [ADC_SEQ k]))) ∧
    (Served p (ADC_INJ k) s → s.seqBusy k true = false → s.on fADC_STATE_BM_RDY = true → (s.get fADC_CFG_REF = 0 ∨ s.on fADC_STATE_ALT_RDY = true) →
        (s.conv k).calOn = false → Runs (.adcInjGo p k v) s fun u =>
      u.get (fADC_INJ_LEN k) = bitsAt v 0 2 ∧ u.get (fADC_INJ_TPH k) = bitsAt v 11 4 ∧ u.get (fADC_INJ_DELAY k) = bitsAt v 16 8 ∧
      u.get (fADC_INJ_TSRC k) = (if bitsAt v 8 3 ≤ 4 then bitsAt v 8 3 else 0) ∧ u.on (fADC_INJ_GO k) = false ∧
      (bitsAt v 16 8 = 0 → u.seqBusy k true = true) ∧
      (bitsAt v 16 8 ≠ 0 → (u.conv k).idueAt = (s.conv k).idueAt ++ [s.now + 8 * bitsAt v 16 8])) ∧
    (Served p ADC_CFG s →
      ((s.anySeqBusy = true ∨ (bitsAt v 0 2 = 1 ∧ s.datumAbsent = true)) → Runs (.adcRefWrite p v) s fun u =>
        u.stat evADC_REFUSED = true ∧ u.get fADC_CFG_REF = s.get fADC_CFG_REF ∧ OnlyEvents { s with bus := { slverr := false, data := 0 } } u (eventRegs 16)) ∧
      (s.anySeqBusy = false → bitsAt v 0 2 ≠ 3 → (bitsAt v 0 2 ≠ 1 ∨ s.datumAbsent = false) → bitsAt v 0 2 ≠ s.get fADC_CFG_REF →
        Runs (.adcRefWrite p v) s fun u => u.get fADC_CFG_REF = bitsAt v 0 2 ∧ u.get fADC_STATE_REF = bitsAt v 0 2 ∧
          u.on fADC_STATE_ALT_RDY = false ∧
          OnlyRegs { s with adc := { s.adc with altAt := if bitsAt v 0 2 = 0 then none else some s.now }, bus := { slverr := false, data := 0 } } u [ADC_CFG, ADC_STATE])) ∧
    (s.adc.bmAt = some a → a + 20000 ≤ s.now → Runs .refReady s fun u => u.on fADC_STATE_BM_RDY = true ∧ OnlyRegs s u [ADC_STATE]) ∧
    (s.adc.altAt = some a → a + 20000 ≤ s.now → Runs .refReady s fun u => u.on fADC_STATE_ALT_RDY = true ∧ OnlyRegs s u [ADC_STATE])

/-- System calibration of the converters: its start, its refusal, its conversions and its end. Rests on
11_converters.md. -/
def Obligations.Calibration : Prop :=
  ∀ (s : State) (k : Fin 2) (nv : Int) (refNv a : Nat) (p : Port) (v : Word),
    (Served p ADC_CALCMD s → s.on fADC_STATE_CAL_BUSY = false → bitsAt v 6 2 ≠ 0 →
        (∀ j, j < 2 → bitN (bitsAt v 6 2) j = true → s.seqBusy j false = false ∧ s.seqBusy j true = false) →
      (Runs (.adcCalZero p v) s fun u => u.on fADC_STATE_CAL_BUSY = true ∧ u.adc.calStep = 1 ∧ u.adc.calIdx = min 47 (bitsAt v 0 6) ∧
        (∀ j, j < 2 → u.conv j = if bitN (bitsAt v 6 2) j then { s.conv j with calOn := true, calSum := 0, calCnt := 0 } else s.conv j) ∧
        OnlyRegs { s with adc := u.adc, bus := { slverr := false, data := 0 } } u [ADC_CALCMD, ADC_STATE]) ∧
      ((∀ j, j < 2 → bitN (bitsAt v 6 2) j = true → (tblGet (fun _ => none) s.adc.held (64 * j + min 47 (bitsAt v 0 6))).isSome = true) →
        Runs (.adcCalFull p v) s fun u => u.on fADC_STATE_CAL_BUSY = true ∧ u.adc.calStep = 2 ∧ u.adc.calIdx = min 47 (bitsAt v 0 6) ∧
          (∀ j, j < 2 → u.conv j = if bitN (bitsAt v 6 2) j then { s.conv j with calOn := true, calSum := 0, calCnt := 0 } else s.conv j) ∧
          OnlyRegs { s with adc := u.adc, bus := { slverr := false, data := 0 } } u [ADC_CALCMD, ADC_STATE]) ∧
      ((∀ j, j < 2 → tblGet (fun _ => none) s.adc.held (64 * j + min 47 (bitsAt v 0 6)) = none) → Runs (.adcCalFull p v) s fun u =>
        u.stat evADC_REFUSED = true ∧ OnlyEvents { s with bus := { slverr := false, data := 0 } } u (eventRegs 16)) ∧
      (Runs (.adcCalRestore p v) s fun u => u.stat evADC_CAL_DONE = true ∧
        (∀ j, j < 2 → bitN (bitsAt v 6 2) j = true →
          u.get (fADC_CAL_GAIN j (min 47 (bitsAt v 0 6))) = 16384 ∧ u.getI (fADC_CAL_OFFSET j (min 47 (bitsAt v 0 6))) = 0) ∧
        OnlyEvents { s with adc := u.adc, bus := { slverr := false, data := 0 } } u
          ([ADC_CALCMD, ADC_CAL 0 (min 47 (bitsAt v 0 6)), ADC_CAL 1 (min 47 (bitsAt v 0 6))] ++ eventRegs 16))) ∧
    (Served p ADC_CALCMD s → (s.on fADC_STATE_CAL_BUSY = true ∨ bitsAt v 6 2 = 0) →
      ∀ i ∈ [Instr.adcCalZero p v, Instr.adcCalFull p v, Instr.adcCalRestore p v], Runs i s fun u =>
        u.stat evADC_REFUSED = true ∧ OnlyEvents { s with bus := { slverr := false, data := 0 } } u (eventRegs 16)) ∧
    (s.lclk = true → (s.conv k).flight = some ⟨a, .cal⟩ → a + 160 ≤ s.now → (s.conv k).calOn = true → (s.conv k).calCnt < 64 → s.adc.calIdx < 32 →
      Runs (.conversionDone k nv refNv) s fun u => (u.conv k).calCnt = (s.conv k).calCnt + 1 ∧
        (u.conv k).calSum = (s.conv k).calSum + rawCode k (decide (s.adc.calIdx < 16)) nv refNv ∧ u = { s with adc := u.adc }) ∧
    (s.on fADC_STATE_CAL_BUSY = true → s.adc.calIdx < 48 → (s.conv k).calOn = true → (s.conv (1 - k)).calOn = false →
      ((s.conv k).calCnt ≠ 64 → exec .adcCalDone s = .next s) ∧
      ((s.conv k).calCnt = 64 → Runs .adcCalDone s fun u => u.on fADC_STATE_CAL_BUSY = false ∧ u.stat evADC_CAL_DONE = true ∧
        (u.conv k).calOn = false ∧
        (s.adc.calStep = 1 → tblGet (fun _ => none) u.adc.held (64 * k + s.adc.calIdx) = some (roundHalfUp (s.conv k).calSum 64)) ∧
        (s.adc.calStep ≠ 1 → tblGet (fun _ => none) u.adc.held (64 * k + s.adc.calIdx) = none ∧
          (∀ g off, trimsOf (s.getI fADC_CALTGT_ZERO) (s.getI fADC_CALTGT_FULL)
              ((tblGet (fun _ => none) s.adc.held (64 * k + s.adc.calIdx)).getD 0) (roundHalfUp (s.conv k).calSum 64) = some (g, off) →
            u.get (fADC_CAL_GAIN k s.adc.calIdx) = g ∧ u.getI (fADC_CAL_OFFSET k s.adc.calIdx) = off) ∧
          (trimsOf (s.getI fADC_CALTGT_ZERO) (s.getI fADC_CALTGT_FULL)
              ((tblGet (fun _ => none) s.adc.held (64 * k + s.adc.calIdx)).getD 0) (roundHalfUp (s.conv k).calSum 64) = none →
            u.stat evADC_CAL_RANGE = true ∧ u.reg (ADC_CAL k s.adc.calIdx) = s.reg (ADC_CAL k s.adc.calIdx)))))

/-- What a die does with each TYPE of frame that arrives on the traverse. Rests on 12_traverse.md. -/
def Obligations.TraverseFrames : Prop :=
  ∀ (s : State) (lane : Lane) (w : Word64) (p : Lap) (o : Int) (t0 d f e no x : Nat) (r : RingLap),
    (Arrives s 1 lane w → s.isPrincipal = false → frameSrc w = s.principal →
        o = 8 * ((s.widen 40 (frameBits w 16 40) : Nat) - (s.ts.toNat : Int)) + (frameBits w 0 16 : Nat) →
      Runs (.sync lane w) s fun u => Passed s u lane w ∧
        (s.on fTRV_STATE_TSYNC = true → o.natAbs ≤ 8 → u.ts = s.ts ∧ u.trv.slewLeft = s.trv.slewLeft ∧
          u.getI fTRV_TOFS_OFS = roundHalfUp o 8 ∧ OnlyRegs { s with trv := u.trv } u [TRV_TOFS]) ∧
        (s.on fTRV_STATE_TSYNC = true → 8 < o.natAbs → o.natAbs ≤ 400 → u.ts = s.ts ∧ u.trv.slewLeft = roundHalfUp o 8 ∧
          u.getI fTRV_TOFS_OFS = roundHalfUp o 8 ∧ OnlyRegs { s with trv := u.trv } u [TRV_TOFS]) ∧
        (s.on fTRV_STATE_TSYNC = true → 400 < o.natAbs → u.ts = s.ts + BitVec.ofInt 64 (roundHalfUp o 8) ∧
          u.trv.latchTs = min s.trv.latchTs u.ts.toNat ∧ u.on fTRV_STATE_TSYNC = false ∧ u.stat evTRV_TSYNC_LOST = true) ∧
        (s.on fTRV_STATE_TSYNC = false → u.ts = s.ts + BitVec.ofInt 64 (roundHalfUp o 8) ∧
          u.trv.okOffsets = (if o.natAbs ≤ 16 then s.trv.okOffsets + 1 else 0) ∧ u.on fTRV_STATE_TSYNC = decide (3 ≤ u.trv.okOffsets) ∧
          OnlyRegs { s with trv := u.trv, ts := u.ts } u [TRV_TOFS, TRV_STATE])) ∧
    (Arrives s 2 lane w → Runs (.sum lane w) s fun u => u.principal = frameSrc w ∧ u.trv.started = true ∧
      (frameSrc w ≠ s.principal → u.isPrincipal = false) ∧ (s.trv.latched = none → Passed s u lane w) ∧
      (s.trv.latched = some (d, f) → s.runOrIdle = true → s.on fTRV_STATE_TSYNC = true → frameSrc w = s.principal →
          e = frameBits w 52 5 → no = frameBits w 48 4 → s.trv.lastSumLap ≠ some no → u.get fTRV_STATE_EXP = e ∧ u.trv.lastSumLap = some no ∧
        Passed s u lane (frameWord 2 (frameSrc w) (e * 2 ^ 52 + no * 2 ^ 48 +
          b2n (decide (frameBits w 33 1 = 1 ∨ 65535 < frameBits w 16 16 + mantissa d e)) * 2 ^ 33 +
          b2n (decide (frameBits w 32 1 = 1 ∨ 65535 < frameBits w 0 16 + mantissa f e)) * 2 ^ 32 +
          min 65535 (frameBits w 16 16 + mantissa d e) * 2 ^ 16 + min 65535 (frameBits w 0 16 + mantissa f e)))) ∧
      OnlyEvents { s with trv := u.trv } u ([TRV_STATE] ++ eventRegs 17)) ∧
    (s.listening = true → frameType w = 2 → (s.trv.rxHop (laneNum lane)).broken = false → frameSrc w = s.dieIndex → lane = .ccw →
      s.trv.prevHop.closed = false → Runs (.sum lane w) s fun u => Passed s u lane w ∧ u = { s with trv := u.trv }) ∧
    (s.listening = true → frameType w = 2 → (s.trv.rxHop (laneNum lane)).broken = false → frameSrc w = s.dieIndex →
        (lane = .cw ∨ s.trv.prevHop.closed = true) → s.trv.lap = some p → p.no = frameBits w 48 4 → p.back = none →
      exec (.sum lane w) s = .next { s with trv := { s.trv with
        lap := some { p with back := some (frameBits w 16 16, frameBits w 0 16, frameBits w 33 1 = 1, frameBits w 32 1 = 1) } } }) ∧
    (Arrives s 3 lane w → Runs (.report lane w) s fun u => Passed s u lane w ∧ OnlyRegs { s with trv := u.trv } u [TRV_STATE, TRV_PSUM] ∧
      (s.isPrincipal = true → u = { s with trv := u.trv }) ∧
      (s.isPrincipal = false → s.trv.lap = none → s.trv.ring = some r → r.no = frameBits w 48 4 → frameSrc w ∉ r.dies →
        ∃ r', u.trv.ring = some r' ∧ r'.dies = r.dies ++ [frameSrc w] ∧
          (r.shared = true → u.get fTRV_PSUM_SUMD = r'.sumD.1 % 65536 ∧ u.get fTRV_PSUM_SUMF = r'.sumF.1 % 65536 ∧
            ∀ k, k < 8 → bitN (u.get fTRV_STATE_MEMBERS) k = r'.dies.contains k)) ∧
      (s.isPrincipal = true → s.trv.lap = some p → p.no = frameBits w 48 4 → (∀ r ∈ p.reports, r.1 ≠ frameSrc w) →
        u.trv.lap = some { p with reports := p.reports ++ [(frameSrc w, frameBits w 16 16, frameBits w 0 16)] })) ∧
    (Arrives s 4 lane w → Runs (.share lane w) s fun u => PassedBoth s u lane w ∧ u.principal = frameSrc w ∧
      OnlyEvents { s with trv := u.trv, cap := u.cap } u ([TRV_STATE, TRV_PSUM] ++ eventRegs 17) ∧
      (frameBits w 54 3 ≤ s.dieIndex → s.dieIndex < frameBits w 54 3 + 3 → x = frameBits w (16 * (s.dieIndex - frameBits w 54 3)) 16 → frameSrc w = s.principal →
        (x ≠ 0 → s.trv.lastSumLap = some (frameBits w 48 4) → u.trv.gotShare = true ∧
          u.cap = { s.cap with pendShare := some (if s.get fCAP_PKG_CAP = 0 ∧ x = 65535 then s.dieLimit else x) }) ∧
        ((x = 0 ∨ s.trv.lastSumLap ≠ some (frameBits w 48 4)) → u.cap = s.cap))) ∧
    (Arrives s 5 lane w → s.trv.relays = [] → frameSrc w = s.principal → Runs (.cap lane w) s fun u =>
      u.get fCAP_PKG_CAP = (if s.justWritten fCAP_PKG_CAP then s.get fCAP_PKG_CAP else frameBits w 0 20) ∧ PassedBoth s u lane w ∧ OnlyRegs { s with trv := u.trv } u [CAP_PKG]) ∧
    (Arrives s 6 lane w → s.trv.relays = [] → Runs (.epoch lane w) s fun u => PassedBoth s u lane w ∧
      OnlyRegs { s with trv := u.trv } u [TRV_EPOCH_STAT] ∧
      (frameBits w 56 1 = 1 → u.trv.epochs = s.trv.epochs) ∧
      (frameBits w 56 1 = 0 → u.get fTRV_EPOCH_STAT_PEND = min 4 (s.trv.epochs.length + 1) ∧
        u.trv.epochs = s.trv.epochs ++ [⟨s.resolve36 (frameBits w 0 36), frameBits w 36 20, s.trv.epochOrder⟩])) ∧
    (Arrives s 7 lane w →
      (s.isPrincipal = false → Runs (.req lane w) s fun u => Passed s u lane w ∧ u = { s with trv := u.trv }) ∧
      (s.isPrincipal = true → frameBits w 56 1 = 0 → Runs (.req lane w) s fun u =>
        u.get fCAP_PKG_CAP = (if s.justWritten fCAP_PKG_CAP then s.get fCAP_PKG_CAP else frameBits w 36 20) ∧
        OnlyRegs { s with trv := u.trv } u [CAP_PKG]) ∧
      (s.isPrincipal = true → frameBits w 56 1 = 1 → s.trv.epochs.length < 4 → s.ts.toNat + 10000 ≤ s.resolve36 (frameBits w 0 36) →
          s.resolve36 (frameBits w 0 36) ≤ s.ts.toNat + 60000000000 →
        Runs (.req lane w) s fun u =>
          u.trv.epochs = s.trv.epochs ++ [⟨s.resolve36 (frameBits w 0 36), frameBits w 36 20, s.trv.epochOrder⟩])) ∧
    (Arrives s 8 lane w → Runs (.fault lane w) s fun u => u.stat evTRV_REMOTE = true ∧ PassedBoth s u lane w ∧
      u.reg TRV_REMOTE = BitVec.ofNat 32 (frameSrc w * 2 ^ 29 + frameBits w 40 5 * 2 ^ 24 + frameBits w 35 5 * 2 ^ 19 + frameBits w 33 2 * 2 ^ 17) ∧
      OnlyEvents { s with trv := u.trv } u ([TRV_REMOTE] ++ eventRegs 17)) ∧
    (Arrives s 9 lane w → Runs (.shed lane w) s fun u => PassedBoth s u lane w ∧
      (frameBits w 32 2 = 1 → u.on fIBS_STATE_SHED = true) ∧
      (frameBits w 32 2 = 2 → frameSrc w = s.principal → u.on fIBS_STATE_SHED = false) ∧
      (frameBits w 32 2 = 2 → frameSrc w ≠ s.principal → u = { s with trv := u.trv }) ∧
      (frameBits w 32 2 = 3 → s.aon ≠ 4 → s.pst.orderly = false →
        u.pst.orderly = true ∧ u.pst.target = 4 ∧ u.on fPST_STATE_ENTERING = true ∧ u.stat evIBS_VIN_STOP = true)) ∧
    (Arrives s 10 lane w → Runs (.claim lane w) s fun u => u.trv.claimant = some (frameSrc w) ∧ u = { s with trv := u.trv } ∧
      (frameSrc w ≠ s.principal → (s.trv.lostAt.isSome = true ∨ s.rankOf (frameBits w 54 3) (frameSrc w) < s.rankOf (frameBits w 54 3) s.dieIndex) →
        u.trv.claimBar = true) ∧
      Passed s u lane (frameWord 10 (frameSrc w) (frameBits w 54 3 * 2 ^ 54 + setBitN (frameBits w 0 8) s.dieIndex true))) ∧
    (s.listening = true → frameType w = 10 → (s.trv.rxHop (laneNum lane)).broken = false → frameSrc w = s.dieIndex → (lane = .cw ∨ s.trv.prevHop.closed = true) →
        s.trv.claimSent = true → s.trv.lostAt.isSome = true →
      ((∀ k, k < 8 → bitN (s.get fTRV_STATE_MEMBERS) k = true → k ≠ frameBits w 54 3 → bitN (frameBits w 0 8) k = true) →
        Runs (.claim lane w) s fun u => u.isPrincipal = true ∧ u.principal = s.dieIndex ∧ u.stat evTRV_TAKEOVER = true) ∧
      ((∃ k, k < 8 ∧ bitN (s.get fTRV_STATE_MEMBERS) k = true ∧ k ≠ frameBits w 54 3 ∧ bitN (frameBits w 0 8) k = false) →
        Runs (.claim lane w) s fun u => u = { s with trv := { s.trv with claimSent := false, claimRetryAt := some (s.now + 1000000) } })) ∧
    (Arrives s 11 lane w → Runs (.state lane w) s fun u =>
      (frameBits w 0 3 = 1 → PassedBoth s u lane w) ∧
      (frameBits w 0 3 = 0 → frameSrc w ∉ u.trv.left) ∧ (frameBits w 0 3 ≠ 0 → frameSrc w ∈ u.trv.left) ∧
      (2 ≤ frameBits w 0 3 → frameBits w 0 3 ≤ 4 → (frameSrc w = s.nextDie → u.trv.nextHop.aside = true ∧ u.on fTRV_STATE_WRAPPED = true ∧
          (s.trv.nextHop.broken = false → bitN (u.get fTRV_STATE_LANES) 1 = false)) ∧
        (frameSrc w = s.prevDie → u.trv.prevHop.aside = true ∧ u.on fTRV_STATE_WRAPPED = true)) ∧
      (frameBits w 0 3 = 0 → (frameSrc w = s.nextDie → u.trv.nextHop.aside = false) ∧ (frameSrc w = s.prevDie → u.trv.prevHop.aside = false)) ∧
      OnlyRegs { s with trv := u.trv } u [TRV_STATE]) ∧
    (s.listening = true → frameType w = 12 →
      (frameSrc w ≠ s.dieIndex → Runs (.echo lane w) s fun u => u = { s with trv := u.trv } ∧
        (s.driven (1 - laneNum lane) = true → (⟨w, s.now, false, 0⟩ : TxEntry) ∈ (u.trv.lane (1 - laneNum lane)).txq)) ∧
      (frameSrc w = s.dieIndex → (s.trv.rxHop (laneNum lane)).echoAt = some t0 → frameBits w 0 16 = (s.trv.rxHop (laneNum lane)).echoNo →
          (s.trv.rxHop (laneNum lane)).echoDone < 64 →
        Runs (.echo lane w) s fun u => (u.trv.rxHop (laneNum lane)).echoDone = (s.trv.rxHop (laneNum lane)).echoDone + 1 ∧
          (u.trv.rxHop (laneNum lane)).echoSum = (s.trv.rxHop (laneNum lane)).echoSum + 8 * (s.now - t0) ∧ (u.trv.rxHop (laneNum lane)).echoAt = none ∧
          OnlyRegs { s with trv := u.trv } u [TRV_HOP])) ∧
    (Arrives s 13 lane w → Runs (.align lane w) s fun u => u.trv.alignAt = some (s.widen 40 (frameBits w 0 40)) ∧
      PassedBoth s u lane w ∧ u = { s with trv := u.trv }) ∧
    (s.listening = true → Runs (.badFrame ⟨lane, false⟩) s fun u => u.stat evTRV_CRC = true ∧
      (lane = .cw → u.get fTRV_ERR_CW = min 65535 (s.get fTRV_ERR_CW + 1)) ∧
      (lane = .ccw → u.get fTRV_ERR_CCW = min 65535 (s.get fTRV_ERR_CCW + 1)) ∧
      u.trv.nextHop = s.trv.nextHop ∧ u.trv.prevHop = s.trv.prevHop ∧ (u.trv.lane (laneNum lane)).crcAt = (s.trv.lane (laneNum lane)).crcAt ∧
      OnlyEvents { s with trv := u.trv } u ([TRV_ERR] ++ eventRegs 17)) ∧
    (s.listening = true → Runs (.badFrame ⟨lane, true⟩) s fun u => u.stat evTRV_CRC = true ∧
      (lane = .cw → u.get fTRV_ERR_CW = min 65535 (s.get fTRV_ERR_CW + 1)) ∧
      (lane = .ccw → u.get fTRV_ERR_CCW = min 65535 (s.get fTRV_ERR_CCW + 1)) ∧
      (((s.trv.lane (laneNum lane)).crcAt.filter fun a => s.now < a + 1000000).length < 3 →
        u.trv.nextHop = s.trv.nextHop ∧ u.trv.prevHop = s.trv.prevHop) ∧
      (3 ≤ ((s.trv.lane (laneNum lane)).crcAt.filter fun a => s.now < a + 1000000).length → (s.trv.rxHop (laneNum lane)).closed = false →
        (u.trv.rxHop (laneNum lane)).broken = true ∧ u.on fTRV_STATE_WRAPPED = true ∧ u.stat evTRV_WRAP = true ∧
        u.stat (if lane = .cw then evTRV_LANE_CW else evTRV_LANE_CCW) = true) ∧
      OnlyEvents { s with trv := u.trv } u ([TRV_ERR, TRV_STATE] ++ eventRegs 17))

/-- What the traverse does by itself: ring, time, laps, takeover, caps, epochs and relays. Rests on 12_traverse.md. -/
def Obligations.TraverseRing : Prop :=
  ∀ (s : State) (lane : Lane) (p : Port) (t d f lo o : Nat) (lap : Lap) (back : Nat × Nat × Bool × Bool) (e : Epoch) (r : Relay),
    (s.trv.alignAt = some t → s.locked = true → t ≤ s.ts.toNat + 5 → Runs .periodAlign s fun u => u.on fIBS_STATE_ALIGNED = !(s.clk.syncLost || s.clk.slewing) ∧
      OnlyRegs { s with ib := { s.ib with periodAt := s.now }, trv := { s.trv with alignAt := none },
                        clk := { s.clk with aligned := s.clk.syncLost || s.clk.slewing } } u [IBS_STATE]) ∧
    (s.listening = true → Runs (.laneUp lane) s fun u => bitN (u.get fTRV_STATE_LANES) (2 * laneNum lane) = true ∧
      (u.trv.rxHop (laneNum lane)).echoDone = 0 ∧ (u.trv.rxHop (laneNum lane)).echoAt = none ∧
      (s.quiet = true → (4 - laneNum lane, frameWord 12 s.dieIndex (((s.trv.rxHop (laneNum lane)).echoNo + 1) % 2 ^ 16)) ∈ u.trv.held) ∧
      (s.quiet = false → s.driven (1 - laneNum lane) = true → (⟨frameWord 12 s.dieIndex (((s.trv.rxHop (laneNum lane)).echoNo + 1) % 2 ^ 16), s.now, true, 0⟩ : TxEntry) ∈ (u.trv.lane (1 - laneNum lane)).txq) ∧
      OnlyRegs { s with trv := u.trv } u [TRV_STATE]) ∧
    (s.listening = true → (s.trv.rxHop (laneNum lane)).closed = false → Runs (.laneFault lane) s fun u =>
      (u.trv.rxHop (laneNum lane)).broken = true ∧ u.on fTRV_STATE_WRAPPED = true ∧ u.stat evTRV_WRAP = true ∧
      (u.trv.lane (1 - laneNum lane)).txq = [] ∧ bitN (u.get fTRV_STATE_LANES) (2 * (1 - laneNum lane) + 1) = false ∧
      u.stat (if lane = .cw then evTRV_LANE_CW else evTRV_LANE_CCW) = true ∧
      OnlyEvents { s with trv := u.trv } u ([TRV_STATE] ++ eventRegs 17)) ∧
    ((s.trv.rxHop (laneNum lane)).broken = true →
      (bitN (s.get fTRV_STATE_LANES) (2 * laneNum lane) = false → exec (.laneFault lane) s = .next s) ∧
      (s.listening = true → bitN (s.get fTRV_STATE_LANES) (2 * laneNum lane) = true → Runs (.laneFault lane) s fun u =>
        bitN (u.get fTRV_STATE_LANES) (2 * laneNum lane) = false ∧ (u.trv.rxHop (laneNum lane)).broken = true ∧
        (u.trv.rxHop (laneNum lane)).echoDone = 0 ∧ u.stat (if lane = .cw then evTRV_LANE_CW else evTRV_LANE_CCW) = true ∧
        OnlyEvents { s with trv := u.trv } u ([TRV_STATE] ++ eventRegs 17))) ∧
    (s.listening = true → (s.trv.rxHop (laneNum lane)).broken = false → (s.trv.rxHop (laneNum lane)).aside = true →
      exec (.laneFault lane) s = .next (s.setLaneBit (2 * laneNum lane) false)) ∧
    (s.listening = true → (s.trv.rxHop (laneNum lane)).broken = true → (s.trv.rxHop (laneNum lane)).retryAt + 1000000 ≤ s.now →
      Runs .hopRetry s fun u => (u.trv.rxHop (laneNum lane)).retryAt = s.now ∧
        bitN (u.get fTRV_STATE_LANES) (2 * (1 - laneNum lane) + 1) = true ∧ OnlyRegs { s with trv := u.trv } u [TRV_STATE]) ∧
    (s.listening = true → (s.ts.toNat % 20000 = 3000 ∨ s.ts.toNat % 20000 = 3001) → (s.trv.rxHop (1 - laneNum lane)).broken = true → 64 ≤ (s.trv.rxHop (1 - laneNum lane)).echoDone →
        bitN (s.get fTRV_STATE_LANES) (2 * (1 - laneNum lane)) = true →
      Runs (.hopRejoin lane) s fun u => (u.trv.rxHop (1 - laneNum lane)).broken = false ∧
        u.on fTRV_STATE_WRAPPED = (u.trv.nextHop.closed || u.trv.prevHop.closed) ∧ OnlyRegs { s with trv := u.trv } u [TRV_STATE]) ∧
    (s.listening = true → s.dieIndex = s.get fTRV_CFG_PRINCIPAL → s.trv.started = false →
        ((64 ≤ s.trv.nextHop.echoDone ∧ 64 ≤ s.trv.prevHop.echoDone) ∨ (s.trv.lockAt = some t ∧ t + 10000000 ≤ s.now)) →
      Runs .ringStart s fun u => u.trv.started = true ∧ u.isPrincipal = true ∧ u.principal = s.dieIndex ∧ u.on fTRV_STATE_TSYNC = (s.on fTRV_STATE_TSYNC || !s.trv.princAway) ∧
        u.get fTRV_STATE_EXP = 2 ∧
        u.trv = { s.trv with started := true, syncNo := (s.ts.toNat + 1000) / 5000, latchTs := s.ts.toNat, latched := none, alignDue := true } ∧
        OnlyRegs { s with trv := u.trv } u [TRV_STATE]) ∧
    (s.locked = true → s.trv.latchTs / 20000 < s.ts.toNat / 20000 → Runs .sumLatch s fun u => u.trv.latchTs = s.ts.toNat ∧
      u.trv.latched = (if s.runOrIdle = true then some (s.demandX, s.floorX) else none) ∧ u.trv.lastSumLap = none ∧ u.trv.ring = none) ∧
    (s.trv.latched = some (d, f) → s.trv.lap = none → s.listening = true → s.isPrincipal = true → s.trv.started = true →
        s.trv.latchTs + 100 ≤ s.ts.toNat → Runs .sumSend s fun u =>
      u.trv.lap = some ⟨(s.trv.lapNo + 1) % 16, s.now, none, []⟩ ∧ u.trv.lapNo = (s.trv.lapNo + 1) % 16 ∧ u = { s with trv := u.trv } ∧
      (s.outLane 0 = some o → (⟨frameWord 2 s.dieIndex (s.get fTRV_STATE_EXP * 2 ^ 52 + (s.trv.lapNo + 1) % 16 * 2 ^ 48 +
        mantissa d (s.get fTRV_STATE_EXP) * 2 ^ 16 + mantissa f (s.get fTRV_STATE_EXP)), s.now, true, 0⟩ : TxEntry) ∈ (u.trv.lane o).txq)) ∧
    (s.trv.lap = some lap → s.trv.latched = some (d, f) → s.isPrincipal = true → lap.sentAt + 2000 ≤ s.now → Runs .lapComplete s fun u =>
      u.trv.lap = none ∧ u.trv.latched = none ∧
      (∀ k, k < 8 → bitN (u.get fTRV_STATE_MEMBERS) k = (decide (k = s.dieIndex) || lap.reports.any fun x => x.1 = k)) ∧
      (s.get fCAP_PKG_CAP = 0 → u.cap.pendShare = some s.dieLimit) ∧
      (s.get fCAP_PKG_CAP ≠ 0 → s.trv.lastShares = [] → lap.back = some back → back.2.2.1 = false → back.2.2.2 = false →
        u.cap.pendShare = some (shareOf (s.get fCAP_PKG_CAP) (back.1 * 2 ^ s.get fTRV_STATE_EXP) (back.2.1 * 2 ^ s.get fTRV_STATE_EXP) s.dieCount
          (roundN d capScale) (roundN f capScale) false)) ∧
      (lap.back = some back → back.1 < 65536 → back.2.1 < 65536 → u.get fTRV_PSUM_SUMD = back.1 ∧ u.get fTRV_PSUM_SUMF = back.2.1 ∧
        u.get fTRV_STATE_EXP = (nextExp (s.get fTRV_STATE_EXP) s.trv.lowLaps back.1 back.2.1 (back.2.2.1 || back.2.2.2)).1 ∧
        (back.2.2.1 = true ∨ back.2.2.2 = true → u.stat evTRV_SUM_OVF = true))) ∧
    (s.listening = true → s.runOrIdle = true → s.isPrincipal = false → s.trv.started = true → s.trv.lostAt = none →
        s.trv.principalAt + 10000 ≤ s.now → s.principal ∉ s.trv.left → Runs .principalLost s fun u =>
      u.trv.lostAt = some s.now ∧ u.trv.lostDie = s.principal ∧ u.trv.claimSent = false ∧ u.stat evTRV_PRINC_LOST = true ∧
      OnlyEvents { s with trv := u.trv } u (eventRegs 17)) ∧
    (s.listening = true → s.trv.lostAt = some lo → s.trv.claimSent = false → s.trv.claimBar = false → s.trv.claimRetryAt = none →
        lo + (s.rank - 1) * 1000 ≤ s.now → Runs .claimSend s fun u => u.trv.claimSent = true ∧ u = { s with trv := u.trv } ∧
      (s.quiet = false → s.outLane 0 = some o →
        (⟨frameWord 10 s.dieIndex (s.trv.lostDie * 2 ^ 54 + 2 ^ s.dieIndex), s.now, true, 0⟩ : TxEntry) ∈ (u.trv.lane o).txq)) ∧
    (s.trv.claimBar = true → exec .claimSend s = .next s) ∧
    (s.listening = true → s.trv.lostAt = some lo → s.trv.claimRetryAt = some t → t ≤ s.now → Runs .claimRetry s fun u =>
      u.trv.claimSent = true ∧ u.trv.claimRetryAt = none ∧ u = { s with trv := u.trv }) ∧
    (s.listening = true → s.isPrincipal = true → s.trv.capSentAt + 1000000 ≤ s.now → Runs .capRepeat s fun u =>
      u.trv.capSentAt = s.now ∧ u = { s with trv := u.trv } ∧ (s.quiet = false → s.outLane 0 = some o →
        (⟨frameWord 5 s.dieIndex (s.get fCAP_PKG_CAP), s.now, true, 0⟩ : TxEntry) ∈ (u.trv.lane o).txq)) ∧
    (Served p TRV_EPOCH_GO s → t = s.get fTRV_EPOCH_TS_HI_TS * 2 ^ 32 + s.get fTRV_EPOCH_TS_LO_TS → Runs (.epochGo p) s fun u =>
      OnlyEvents { s with trv := u.trv, bus := { slverr := false, data := 0 } } u ([TRV_EPOCH_STAT] ++ eventRegs 17) ∧
      (s.isPrincipal = true → (s.ts.toNat + 60000000000 < t ∨ 4 ≤ s.trv.epochs.length) → u.get fTRV_EPOCH_STAT_RESULT = 2 ∧
        u.stat evTRV_EPOCH_REFUSED = true ∧ u.trv.epochs = s.trv.epochs) ∧
      (s.isPrincipal = true → s.ts.toNat + 10000 ≤ t → t ≤ s.ts.toNat + 60000000000 → s.trv.epochs.length < 4 →
        u.get fTRV_EPOCH_STAT_RESULT = 1 ∧ u.trv.epochs = s.trv.epochs ++ [⟨t, s.get fTRV_EPOCH_CAP_CAP, s.trv.epochOrder⟩]) ∧
      (s.isPrincipal = true → t < s.ts.toNat + 10000 → s.trv.epochs.length < 4 → u.get fTRV_EPOCH_STAT_RESULT = 3 ∧
        u.stat evTRV_EPOCH_LATE = true ∧
        u.trv.epochs = s.trv.epochs ++ [⟨s.ts.toNat + 10000, s.get fTRV_EPOCH_CAP_CAP, s.trv.epochOrder⟩]) ∧
      (s.isPrincipal = false → u.get fTRV_EPOCH_STAT_RESULT = 0 ∧
        u.trv.relays = s.trv.relays ++ [⟨1, s.get fTRV_EPOCH_CAP_CAP, t % 2 ^ 36, s.now, none⟩])) ∧
    (e ∈ s.trv.epochs → (∀ x ∈ s.trv.epochs, x = e ∨ e.ts < x.ts ∨ (e.ts = x.ts ∧ x.order < e.order)) → e.ts ≤ s.ts.toNat →
      Runs .epochApply s fun u => u.get fCAP_PKG_CAP = (if s.justWritten fCAP_PKG_CAP then s.get fCAP_PKG_CAP else e.cap % 2 ^ 20) ∧
        u.trv.epochs = (s.trv.epochs.filter fun x => x.ts ≠ e.ts) ∧
        ((e.cap = 0 ∨ s.get fCAP_PKG_CAP ≤ e.cap) → u.cap = s.cap) ∧
        (e.cap ≠ 0 → e.cap < s.get fCAP_PKG_CAP → ∃ n, u.cap = { s.cap with pendShare := some n } ∧
          n * s.get fCAP_PKG_CAP < s.shareInForce * e.cap + s.get fCAP_PKG_CAP ∧
          s.shareInForce * e.cap < n * s.get fCAP_PKG_CAP + s.get fCAP_PKG_CAP) ∧
        OnlyRegs { s with trv := u.trv, cap := u.cap } u [CAP_PKG, TRV_EPOCH_STAT]) ∧
    (s.trv.relays = [r] → r.sentAt + 100000 ≤ s.now → Runs .relayTimeout s fun u => u.trv.relays = [] ∧ u.stat evTRV_RELAY_TO = true ∧
      (r.kind = 1 → u.get fTRV_EPOCH_STAT_RESULT = 4) ∧
      OnlyEvents { s with trv := u.trv, chans := u.chans } u ([TRV_EPOCH_STAT] ++ eventRegs 17)) ∧
    (s.isTimeSource = true → s.trv.started = true → s.trv.syncNo < (s.ts.toNat + 1000) / 5000 → Runs .syncSend s fun u =>
      u.trv.syncNo = (s.ts.toNat + 1000) / 5000 ∧ u = { s with trv := u.trv } ∧ u.trv.alignDue = false ∧
      (s.trv.alignDue = true → ∃ a, u.trv.alignAt = some a ∧ a % 2000 = 0 ∧ s.ts.toNat + 20000 ≤ a) ∧ (s.quiet = false → s.outLane 0 = some o →
        (⟨frameWord 1 s.dieIndex 0, s.now, true, 0⟩ : TxEntry) ∈ (u.trv.lane o).txq)) ∧
    (s.quiet = true → exec .quietWindowEnd s = .next s) ∧
    (s.quiet = false → Runs .quietWindowEnd s fun u => u.trv.held = [] ∧ u = { s with trv := u.trv } ∧
      (∀ x ∈ s.trv.held, ∀ k, k < 2 → x.1 = 3 + k → s.driven k = true → (⟨x.2, s.now, true, 0⟩ : TxEntry) ∈ (u.trv.lane k).txq) ∧
      ∀ x ∈ s.trv.held, ∀ k o', k < 2 → (x.1 = k ∨ x.1 = 2) → s.outLane k = some o' →
        (⟨x.2, s.now, true, 0⟩ : TxEntry) ∈ (u.trv.lane o').txq)

/-- Doorbells, acknowledgement, the guard, and the reads of Ibsel. Rests on 14_mailboxes_and_firmware.md. -/
def Obligations.Mailboxes : Prop :=
  ∀ (s : State) (m : Fin 8) (q : Nat) (ws : List Word),
    (Served .host (MBX_BELL m) s → m ≠ 7 → s.core.ifaceDue = some (s.now + 2000) →
      Ends (.mbxBell .host m) s { s with bus := { slverr := false, data := 0 } }) ∧
    (Served .host (MBX_BELL m) s → s.core.ifaceDue ≠ some (s.now + 2000) →
      (m = 7 → Runs (.mbxBell .host m) s fun u => u.stat evMBX_PROTO = true ∧
        OnlyEvents { s with bus := { slverr := false, data := 0 } } u (eventRegs 19)) ∧
      (m ≠ 7 → ((1 ≤ s.chanState m ∧ s.chanState m ≤ 3) ∨ 5 ≤ s.chanState m) → Runs (.mbxBell .host m) s fun u =>
        u.stat evMBX_PROTO = true ∧ OnlyEvents { s with bus := { slverr := false, data := 0 } } u (eventRegs 19)) ∧
      (m ≠ 7 → (s.chanState m = 0 ∨ s.chanState m = 4) →
        ((s.chan m).lastSeq = some (s.reqSeq m) → (s.chan m).lastOp = s.reqOp m → (s.chan m).stored = some ws → ws.length = 16 →
          Runs (.mbxBell .host m) s fun u => u.chanState m = 4 ∧ bitN (u.get fMBX_DONE_DONE) m = true ∧
            (∀ j, j < 16 → u.reg (MBX_RSP m j) = ws.getD j 0) ∧
            (s.aon = 0 → s.on fPST_STATE_ENTERING = false →
              OnlyRegs { s with bus := { slverr := false, data := 0 }, core := { s.core with waiting := false } } u (PST_STATE :: rspRegs m))) ∧
        ((s.chan m).lastSeq = some q → s.reqSeq m ≠ q → s.reqSeq m ≠ (q + 1) % 65536 → Runs (.mbxBell .host m) s fun u =>
          Posted s u m 4 2 []) ∧
        ((s.chan m).lastSeq = none → 56 < s.reqLen m → Runs (.mbxBell .host m) s fun u => Posted s u m 4 3 []) ∧
        ((s.chan m).lastSeq = none → s.reqLen m ≤ 56 → bitsAt (s.reg (MBX_REQ m 1)) 8 24 = 0 →
          (s.coreDown = true → Runs (.mbxBell .host m) s fun u => Posted s u m 1 1 []) ∧
          (s.coreDown = false → Runs (.mbxBell .host m) s fun u => u.chanState m = 1 ∧ (u.chan m).bellAt = s.now ∧
            (u.chan m).order = s.core.bells ∧ u.core.bells = s.core.bells + 1)))) ∧
    ((s.chan m).bellAt + 20000 < s.now → exec (.mbxAck m) s = .next s) ∧
    (s.now ≤ (s.chan m).bellAt + 20000 → exec (.mbxGuardTimeout m) s = .next s) ∧
    (s.chanState m = 1 → s.coreDown = false → s.coreAsleep = false → s.now ≤ (s.chan m).bellAt + 20000 → bitN (s.reg CAD_FWPERM).toNat 19 = true → Runs (.mbxAck m) s fun u =>
      u.chanState m = 2 ∧ OnlyRegs s.coreWake u [MBX_CST m]) ∧
    (s.chanState m = 1 → s.coreDown = false → s.coreAsleep = false → s.now ≤ (s.chan m).bellAt + 20000 → bitN (s.reg CAD_FWPERM).toNat 19 = false → Runs (.mbxAck m) s fun u =>
      u.chanState m = 1 ∧ u.stat evCAD_FW_DENIED = true) ∧
    (s.chanState m = 1 → (s.chan m).bellAt + 20000 < s.now → Runs (.mbxGuardTimeout m) s fun u => Posted s u m 1 1 [] ∧ u.stat evMBX_GUARD = true) ∧
    (s.chanState m ≠ 1 → exec (.mbxAck m) s = .next s ∧ exec (.mbxGuardTimeout m) s = .next s) ∧
    (s.chanState m = 2 → s.serves m (s.reqOp m) = true → s.isLong (s.reqOp m) = true → s.longCheck m (s.reqOp m) = none →
      Runs (.mbxAccepted m) s fun u => Answers s u m 7 0 [] ∧
        (u.chan m).long = some { op := s.reqOp m, unit := s.longUnit m (s.reqOp m), sinceAt := s.now, started := false, result := none }) ∧
    (Holds s m 0x0C03 0 → s.reqOp m = 0x0C03 → Runs (.mbxResponse m) s fun u =>
      Posted s u m 0 0 (leBytes s.ts.toNat 8) ∧ u.reg TRV_TIME_HI = (s.ts >>> 32).setWidth 32) ∧
    (s.chanState m = 2 → s.coreDown = false → s.coreAsleep = false →
      (argLen (s.reqOp m) = none → Runs (.unknownOpcode m) s fun u => Answers s u m 5 4 []) ∧
      (argLen (s.reqOp m) ≠ none → groupOn m (s.reqOp m) = false → Runs (.unknownOpcode m) s fun u => Answers s u m 5 5 [])) ∧
    Gives (.getIdentity m) s m 0x0101 0 True (fun w => w.fd fBLK_ID_RELEASE 2 ++ leBytes (Config.openNat 59 []) 4 ++
      leBytes w.dieIndex 1 ++ leBytes w.dieCount 1 ++ leBytes w.principal 1 ++ [0#8] ++ w.rd PLAT_CRC 4) ∧
    (Holds s m 0x0102 0 → Runs (.getUptime m) s fun u => Posted s u m 0 0 (leBytes s.ts.toNat 8 ++ s.fd fBLK_CORE_RESETS 1) ∧
      u.reg TRV_TIME_HI = (s.ts >>> 32).setWidth 32) ∧
    (Holds s m 0x0C03 0 → Runs (.getTime m) s fun u => Posted s u m 0 0 (leBytes s.ts.toNat 8) ∧ u.reg TRV_TIME_HI = (s.ts >>> 32).setWidth 32) ∧
    Gives (.getCapState m) s m 0x0203 0 True (fun w => w.rd CAP_SHARE 4 ++ w.rd CAP_EST 4 ++ w.rd CAP_SHORT 4 ++ w.rd CAP_BASE 4) ∧
    Gives (.getClass m) s m 0x0204 1 (s.arg m 0 1 < 4) (fun w => w.fd (fCAP_CBUD_DEMAND (w.arg m 0 1)) 2 ++ w.fd (fCAP_CBUD_BUDGET (w.arg m 0 1)) 2 ++
      w.fd (fCAP_CGAIN_GAIN (w.arg m 0 1)) 2 ++ w.rd (CAP_CSTATE (w.arg m 0 1)) 4) ∧
    Bounces (.getClass m) s m 0x0204 1 (4 ≤ s.arg m 0 1) ∧
    Gives (.getDomain m) s m 0x0305 1 (s.arg m 0 1 < 32) (fun w => w.rd (DOM_DSTAT (w.arg m 0 1)) 4 ++ w.rd (CAP_DGRADE (w.arg m 0 1)) 4 ++
      w.fd (fSO_DLIFT_LIFT (w.arg m 0 1)) 1 ++ w.rd (NRG_DCUR (w.arg m 0 1)) 4) ∧
    Bounces (.getDomain m) s m 0x0305 1 (32 ≤ s.arg m 0 1) ∧
    (Holds s m 0x0402 1 → s.arg m 0 1 < 17 → Runs (.getEnergy m) s fun u => Posted s u m 0 0 (leBytes (s.acc (s.arg m 0 1)) 8) ∧
      u.reg (NRG_PART_HI (s.arg m 0 1)) = BitVec.ofNat 32 (s.acc (s.arg m 0 1) / 2 ^ 32)) ∧
    Bounces (.getEnergy m) s m 0x0402 1 (17 ≤ s.arg m 0 1) ∧
    (Holds s m 0x0406 1 → s.arg m 0 1 < 8 → Runs (.getWatch m) s fun u => Posted s u m 0 0 (s.fd (fNRG_WMIN_CODE (s.arg m 0 1)) 2 ++
      s.fd (fNRG_WMIN_STATION (s.arg m 0 1)) 2 ++ leBytes (tblGet (fun _ => 0) s.nrg.wts (s.arg m 0 1)) 8)) ∧
    Bounces (.getWatch m) s m 0x0406 1 (8 ≤ s.arg m 0 1) ∧
    (m ≠ 7 → Gives (.getTract m) s m 0x0503 1 (s.arg m 0 1 < 64) (fun w => w.rd (TRC_TSTAT (w.arg m 0 1)) 4 ++ leBytes (w.dutyNow (w.arg m 0 1)) 2 ++
      w.fd (fSTN_MIN_CODE (w.arg m 0 1)) 2 ++ w.fd (fTRC_IMEAS_I (w.arg m 0 1)) 2 ++ w.rd (CG_TSTAT (w.arg m 0 1)) 4)) ∧
    (m ≠ 7 → Gives (.soCounters m) s m 0x0603 1 (s.arg m 0 1 < 16) (fun w => w.rd (SO_ACC_USED (w.arg m 0 1)) 4 ++ w.rd (SO_ACC_STALE (w.arg m 0 1)) 4 ++
      w.rd (SO_TIME_EARLY (w.arg m 0 1)) 4 ++ w.rd (SO_TIME_SHORT (w.arg m 0 1)) 4 ++ w.rd (SO_TIME_MISS (w.arg m 0 1)) 4 ++ w.rd SO_PEG_DROP 4)) ∧
    Gives (.getThermal m) s m 0x0701 0 True (fun w => w.rd THM_STATE 4 ++ w.rd THM_SUSP0 4 ++ w.rd THM_SUSP1 4) ∧
    Gives (.getSite m) s m 0x0702 1 (s.arg m 0 1 < 64) (fun w => w.rd (THM_SITE (w.arg m 0 1)) 4 ++ w.rd (THM_RAW (w.arg m 0 1)) 4 ++ w.fd (fTHM_TDUTY_N (w.arg m 0 1)) 1) ∧
    Gives (.getFaults m) s m 0x0801 0 True (fun w => w.rd FLT_SUM 4 ++ w.rd FLT_LAST 4 ++ w.rd FLT_COUNT 4 ++ w.rd FLT_PIN 1) ∧
    Gives (.readBook m) s m 0x0802 2 (s.arg m 0 1 < 22 ∧ s.arg m 1 1 < 8 ∧ s.memPower 4 = 2 ∧ s.memBad 4 (bookSlot (s.arg m 0 1) (s.arg m 1 1)) 16 = false ∧ s.weakIn 4 (bookSlot (s.arg m 0 1) (s.arg m 1 1)) 16 = [])
      (fun w => memBytes w.book (bookSlot (w.arg m 0 1) (w.arg m 1 1)) 16 ++ w.rd (bookReg (w.arg m 0 1)) 4) ∧
    Gives (.adcGetTrim m) s m 0x0903 2 (s.arg m 0 1 < 2 ∧ s.arg m 1 1 < 48) (fun w => w.fd (fADC_CAL_GAIN (w.arg m 0 1) (w.arg m 1 1)) 2 ++
      w.fd (fADC_CAL_OFFSET (w.arg m 0 1) (w.arg m 1 1)) 2) ∧
    (m = 0 → Gives (.pstGet m) s m 0x0A03 0 True (fun w => w.rd PST_STATE 4 ++ w.rd PST_BASE 4)) ∧
    (m = 0 → Gives (.memStatus m) s m 0x0B01 1 (s.arg m 0 1 < 6) (fun w => leBytes (w.memOwner (w.arg m 0 1)) 1 ++ leBytes (w.memPower (w.arg m 0 1)) 1 ++
      w.rd (MEM_MSTAT (w.arg m 0 1)) 4)) ∧
    Gives (.getTraverse m) s m 0x0C02 0 True (fun w => w.rd TRV_STATE 4 ++ w.rd TRV_PSUM 4 ++ w.rd TRV_TOFS 2)

/-- The Ibsel commands that write: the same writes as software, the status of the owning rule. Rests on
14_mailboxes_and_firmware.md, 12_traverse.md. -/
def Obligations.IbselWrites : Prop :=
  ∀ (s : State) (m : Fin 8) (d t k i x : Nat), d = s.arg m 0 1 → t = s.arg m 0 1 → k = s.arg m 0 1 → i = s.arg m 1 1 → x = s.arg m 1 1 % 4 →
    Stores (.setDieLimit m) s m 0x0201 4 True [(CAP_DIE, asWord (s.arg m 2 2 * 2 ^ 16 + s.arg m 0 2))] (fun w => w.rd CAP_DIE 4) ∧
    Stores (.setPkgCap m) s m 0x0202 4 (s.isPrincipal = true) [(CAP_PKG, asWord (s.arg m 0 4))] (fun w => w.rd CAP_PKG 4) ∧
    Stores (.setVoltage m) s m 0x0303 3 (d < 32 ∧ s.codeValid d (s.arg m 1 2 % 1024) = true) [(DOM_VSET d, asWord (s.arg m 1 2))]
      (fun w => w.fd (fDOM_VSET_CODE d) 2) ∧
    Bounces (.setVoltage m) s m 0x0303 3 (32 ≤ d) ∧
    (Holds s m 0x0303 3 → d < 32 → s.codeValid d (s.arg m 1 2 % 1024) = false → s.fwMay (DOM_VSET d) = true → Runs (.setVoltage m) s fun u =>
      Posted s u m 2 6 (s.fd (fDOM_VSET_CODE d) 2) ∧ u.reg (DOM_VSET d) = s.reg (DOM_VSET d)) ∧
    Stores (.setGrade m) s m 0x0304 3 (d < 32 ∧ s.arg m 1 1 % 16 ≤ s.gradeMax d)
      [(CAP_DGRADE d, asWord (b2n (s.arg m 2 1 ≠ 0) * 2 ^ 31 + s.arg m 1 1 % 16))] (fun w => w.fd (fCAP_DGRADE_REQ d) 1 ++ leBytes (w.effGrade d) 1) ∧
    Stores (.tlmConfig m) s m 0x0401 11 (s.on fTLM_CTL_EN = false)
      [(TLM_BASE_LO, asWord (s.arg m 0 4 / 4096 * 4096)), (TLM_BASE_HI, asWord (s.arg m 4 2)), (TLM_COUNT, asWord (max 1 (s.arg m 8 2))),
        (TLM_CTL, asWord (b2n (s.arg m 10 1 ≠ 0)))] (fun w => w.rd TLM_SEQ 4) ∧
    Stores (.clearEnergy m) s m 0x0403 4 True [(NRG_CLR, asWord (s.arg m 0 4))] (fun _ => []) ∧
    Stores (.setPartitions m) s m 0x0404 2 True [(NRG_CTL, setBits (s.reg NRG_CTL) 0 16 (s.arg m 0 2))] (fun w => w.fd fNRG_CTL_PEN 2) ∧
    Stores (.setWatch m) s m 0x0405 3 (k < 8 ∧ i < 32) [(NRG_WATCH k, asWord (i + 256 * b2n (s.arg m 2 1 ≠ 0)))] (fun _ => []) ∧
    Bounces (.setWatch m) s m 0x0405 3 (8 ≤ k ∨ 32 ≤ i) ∧
    Stores (.setTractLimit m) s m 0x0504 4 (t < 64) [(TRC_LIM t, setBits (s.reg (TRC_LIM t)) 0 9 (s.arg m 1 2)),
      (TRC_FLOOR t, setBits (s.reg (TRC_FLOOR t)) 0 8 (s.arg m 3 1))] (fun w => w.fd (fTRC_LIM_ILIM t) 2 ++ w.fd (fTRC_FLOOR_DEPTH t) 1) ∧
    Stores (.resetTract m) s m 0x0505 1 (t < 64 ∧ s.loopState t = 0 ∧ s.on fTRC_ENG_FAILOVER = false ∧ s.on fBLK_TRST_BUSY = false)
      [(BLK_TRST, asWord (2 ^ 31 + t))] (fun w => leBytes (w.loopState t) 1) ∧
    Refuses (.resetTract m) s m 0x0505 1 (t < 64 ∧ s.loopState t ≠ 0 ∧ s.fwMay BLK_TRST = true) ∧
    Stores (.soWindow m) s m 0x0601 16 (s.on fSO_CTL_EN = false) [(SO_WIN_BASE, asWord (s.arg m 0 8 / 65536)), (SO_WIN_LIMIT, asWord (s.arg m 8 8 / 65536))]
      (fun _ => []) ∧
    Stores (.soEnable m) s m 0x0602 2 (s.arg m 0 1 = 0) [(SO_CTL, bitWord 0 false ||| bitWord 1 (s.arg m 1 1 ≠ 0))]
      (fun w => w.fd fSO_GEN_GEN 2 ++ w.fd fSO_GEN_VALID 1) ∧
    Stores (.soTractPath m) s m 0x0604 8 (t < 64) [(SO_TRK_PATH t, asWord (s.arg m 3 2 * 2 ^ 16 + s.arg m 1 2)), (SO_TRK_FF t, asWord (s.arg m 5 2)),
      (CG_TRK t, setBits (s.reg (CG_TRK t)) 24 8 (s.arg m 7 1))] (fun _ => []) ∧
    Stores (.clearSite m) s m 0x0703 1 (t < 64) [(THM_SUSP0 + 4 * (t / 32), asWord (2 ^ (t % 32)))] (fun _ => []) ∧
    Stores (.releasePin m) s m 0x0803 0 True [(FLT_PIN, 0)] (fun w => w.rd FLT_PIN 1) ∧
    Stores (.setSeverity m) s m 0x0804 3 (k < 22 ∧ bitN (statMask k) i = true) [(blockBase k + 8, setBits (s.reg (blockBase k + 8)) (2 * i) 2 (s.arg m 2 1))]
      (fun _ => []) ∧
    Bounces (.setSeverity m) s m 0x0804 3 (22 ≤ k ∨ bitN (statMask k) i = false) ∧
    Stores (.adcSetTrim m) s m 0x0902 6 (k < 2 ∧ i < 48) [(ADC_CAL k i, asWord (s.arg m 2 2 * 2 ^ 16 + s.arg m 4 2))] (fun _ => []) ∧
    Stores (.pstSetWake m) s m 0x0A02 5 True [(PST_WAKE, asWord (s.arg m 0 1 % 128)), (PST_WTIMER, asWord (s.arg m 1 4))] (fun _ => []) ∧
    Stores (.memOwner m) s m 0x0B03 2 (k < 6 ∧ s.ownerAllowed k (i % 8) = true) [(MEM_OWNER, setBits (s.reg MEM_OWNER) (3 * k) 3 (i % 8))]
      (fun w => leBytes (w.memOwner k) 1) ∧
    Refuses (.memOwner m) s m 0x0B03 2 (k < 6 ∧ i % 8 ≠ s.memOwner k ∧ s.ownerAllowed k (i % 8) = false ∧ s.fwMay MEM_OWNER = true) ∧
    Stores (.memTest m) s m 0x0B04 2 True [(MEM_TEST, asWord (s.arg m 1 1 % 64 * 256 + s.arg m 0 1))] (fun _ => []) ∧
    (Holds s m 0x0C01 12 → s.isPrincipal = true → s.trv.epochs.length < 4 → s.ts.toNat + 10000 ≤ s.arg m 4 8 →
        s.arg m 4 8 ≤ s.ts.toNat + 60000000000 → s.fwMay TRV_EPOCH_GO = true → Runs (.submitEpoch m) s fun u =>
      Posted s u m 0 0 [1#8] ∧ u.trv.epochs = s.trv.epochs ++ [⟨s.arg m 4 8, s.arg m 0 4 % 2 ^ 20, s.trv.epochOrder⟩]) ∧
    Begins (.submitEpoch m) s m 0x0C01 12 (s.arg m 0 1) (s.isPrincipal = false) [(TRV_EPOCH_GO, 1)] (fun u => u.get fTRV_EPOCH_STAT_RESULT = 0 ∧
      u.trv.relays = s.trv.relays ++ [⟨1, s.arg m 0 4 % 2 ^ 20, s.arg m 4 8 % 2 ^ 36, s.now, some m⟩]) ∧
    Begins (.setPkgCap m) s m 0x0202 4 (s.arg m 0 1) (s.isPrincipal = false) [(CAP_PKG, 0)] (fun u =>
      u.trv.relays = s.trv.relays ++ [⟨0, s.arg m 0 4 % 2 ^ 20, 0, s.now, some m⟩] ∧ u.get fCAP_PKG_CAP = s.get fCAP_PKG_CAP) ∧
    Begins (.domOn m) s m 0x0301 1 d (d < 32 ∧ s.domState d = 1 ∧ s.mayStart d = true ∧ s.runOrIdle = true ∧ s.shut = false ∧ s.onWaits d = false) [(DOM_CTL d, 1)] (fun u => u.domState d = 3) ∧
    Refuses (.domOn m) s m 0x0301 1 (d < 32 ∧ s.mayStart d = false ∧ s.fwMay (DOM_CTL d) = true) ∧
    Begins (.domOff m) s m 0x0302 2 d (d < 32 ∧ s.domState d = 4 ∧ (s.dom d).phase = .rest ∧ (i ≠ 0 ∨ s.on (fDOM_CFG_RETAIN d) = false)) [(DOM_CTL d, 2)]
      (fun u => u.domState d = 5 ∧ (u.dom d).commanded = 0) ∧
    (m ≠ 7 → Begins (.retune m) s m 0x0501 31 t (t < 64 ∧ i < 2 ∧ s.loopState t = 0 ∧ s.shut = false ∧ s.on fTRC_ENG_FAILOVER = false ∧ s.holdsInUse < 8 ∧
        (s.domOf t < 32 → s.domState (s.domOf t) ≠ 3 ∧ s.domState (s.domOf t) ≠ 5)) [(0x28000 + 64 * t, 0), (TRC_OPEN t, 1)]
      (fun u => u.loopState t = 1 ∧ (u.tract t).enterAt = s.now)) ∧
    (m ≠ 7 → Begins (.readmitCell m) s m 0x0502 2 (s.arg m 0 2) (s.arg m 0 2 < 256 ∧ s.mode (s.arg m 0 2) = 7 ∧ s.isOn (s.domOf (s.arg m 0 2 / 4)) = true) []
      (fun u => u.mode (s.arg m 0 2) ≠ 7)) ∧
    (m ≠ 7 → Refuses (.readmitCell m) s m 0x0502 2 (s.arg m 0 2 < 256 ∧ s.mode (s.arg m 0 2) ≠ 7)) ∧
    Begins (.adcCalibrate m) s m 0x0901 7 k (1 ≤ k ∧ k < 4 ∧ i < 48 ∧ s.arg m 2 1 = 1 ∧ s.on fADC_STATE_CAL_BUSY = false ∧ s.anySeqBusy = false)
      [(ADC_CALTGT, 0), (ADC_CALCMD, 0)] (fun u => u.on fADC_STATE_CAL_BUSY = true ∧ u.adc.calStep = 1 ∧ u.adc.calIdx = i) ∧
    (m = 0 → Begins (.pstEnter m) s m 0x0A01 1 k (s.coreWake.refusesEntry (k % 8) = false) [(PST_REQ, 0)] (fun u => u.pst.target = k % 8)) ∧
    (m = 0 → Begins (.memPower m) s m 0x0B02 2 k (k < 6 ∧ s.memPower k = 2 ∧ s.mayUnpower k = true ∧ x = 1) [(MEM_PWR, 0)]
      (fun u => u.memPower k = 1 ∧ ∀ j, j < 6 → j ≠ k → u.memPower j = s.memPower j))
end

