-- ==== Sys2Proof/Laws/Tables.lean ====
section
/-!
SUPPORT. The sparse tables: what a lookup answers after a store, and that stores keep the canonical form.
-/

namespace Sys2Proof.Machine

theorem tblGet_erase {α : Type} (d : Nat → α) (k k' : Nat) (t : Tbl α) :
    tblGet d (tblErase k t) k' = if k' = k then d k else tblGet d t k' := by
  induction t with
  | nil => by_cases h : k' = k <;> simp [tblErase, tblGet, h]
  | cons p t ih =>
    obtain ⟨q, v⟩ := p
    by_cases h : k = q
    · subst h
      by_cases h' : k' = k
      · subst h'
        simpa [tblErase] using ih
      · simp [tblErase, tblGet, ih, h']
    · by_cases h' : k' = q
      · subst h'
        simp [tblErase, tblGet, h, Ne.symm h]
      · simp [tblErase, tblGet, h, h', ih]

theorem tblGet_insert {α : Type} (d : Nat → α) (k k' : Nat) (v : α) (t : Tbl α)
    (h : tblGet d t k = d k) (hk : ∀ w, (k, w) ∉ t) :
    tblGet d (tblInsert k v t) k' = if k' = k then v else tblGet d t k' := by
  induction t with
  | nil => by_cases h' : k' = k <;> simp [tblInsert, tblGet, h']
  | cons p t ih =>
    obtain ⟨q, x⟩ := p
    have hq : k ≠ q := fun e => hk x (by simp [e])
    by_cases hlt : k < q
    · simp [tblInsert, hlt, tblGet]
    · have ih' := ih (by simpa [tblGet, hq] using h) (fun w hw => hk w (by simp [hw]))
      by_cases h' : k' = q
      · subst h'
        simp [tblInsert, hlt, tblGet, Ne.symm hq]
      · simp [tblInsert, hlt, tblGet, h', ih']

theorem not_mem_erase {α : Type} (k : Nat) (t : Tbl α) (w : α) : (k, w) ∉ tblErase k t := by
  induction t with
  | nil => simp [tblErase]
  | cons p t ih =>
    obtain ⟨q, v⟩ := p
    by_cases h : k = q <;> simp [tblErase, h, ih]
    subst h; exact ih

/-- A lookup after a store: the value stored at its key, what was there at every other. -/
theorem tblGet_set {α : Type} [DecidableEq α] (d : Nat → α) (t : Tbl α) (k k' : Nat) (v : α) :
    tblGet d (tblSet d t k v) k' = if k' = k then v else tblGet d t k' := by
  unfold tblSet
  split
  · rename_i hv
    rw [tblGet_erase, hv]
  · rw [tblGet_insert d k k' v _ (by simp [tblGet_erase]) (fun w => not_mem_erase k t w), tblGet_erase]
    by_cases h : k' = k <;> simp [h]

@[simp] theorem tblGet_set_same {α : Type} [DecidableEq α] (d : Nat → α) (t : Tbl α) (k : Nat) (v : α) :
    tblGet d (tblSet d t k v) k = v := by simp [tblGet_set]

theorem tblGet_set_ne {α : Type} [DecidableEq α] (d : Nat → α) (t : Tbl α) (k k' : Nat) (v : α) (h : k' ≠ k) :
    tblGet d (tblSet d t k v) k' = tblGet d t k' := by simp [tblGet_set, h]

/-! ### The canonical form -/

theorem tblWf_mono {α : Type} [DecidableEq α] (d : Nat → α) (t : Tbl α) (lo lo' : Nat) (hl : lo ≤ lo') (h : tblWf d lo' t = true) :
    tblWf d lo t = true := by
  cases t with
  | nil => rfl
  | cons p t =>
    obtain ⟨q, v⟩ := p
    simp only [tblWf, Bool.and_eq_true, decide_eq_true_eq] at h ⊢
    exact ⟨⟨by omega, h.1.2⟩, h.2⟩

theorem tblWf_erase {α : Type} [DecidableEq α] (d : Nat → α) (k : Nat) (t : Tbl α) (lo : Nat) (h : tblWf d lo t = true) :
    tblWf d lo (tblErase k t) = true := by
  induction t generalizing lo with
  | nil => rfl
  | cons p t ih =>
    obtain ⟨q, v⟩ := p
    simp only [tblWf, Bool.and_eq_true, decide_eq_true_eq] at h
    by_cases e : k = q
    · simp only [tblErase, if_pos e]
      exact tblWf_mono d _ lo (q + 1) (by omega) (ih _ h.2)
    · simp only [tblErase, if_neg e, tblWf, Bool.and_eq_true, decide_eq_true_eq]
      exact ⟨h.1, ih _ h.2⟩

theorem tblWf_insert {α : Type} [DecidableEq α] (d : Nat → α) (k : Nat) (v : α) (t : Tbl α) (lo : Nat)
    (hk : ∀ w, (k, w) ∉ t) (hlo : lo ≤ k) (hv : v ≠ d k) (h : tblWf d lo t = true) : tblWf d lo (tblInsert k v t) = true := by
  induction t generalizing lo with
  | nil => simp [tblInsert, tblWf, hlo, hv]
  | cons p t ih =>
    obtain ⟨q, x⟩ := p
    have hq : k ≠ q := fun e => hk x (by simp [e])
    simp only [tblWf, Bool.and_eq_true, decide_eq_true_eq] at h
    by_cases hlt : k < q
    · simp only [tblInsert, if_pos hlt, tblWf, Bool.and_eq_true, decide_eq_true_eq]
      exact ⟨⟨hlo, hv⟩, ⟨by omega, h.1.2⟩, h.2⟩
    · simp only [tblInsert, if_neg hlt, tblWf, Bool.and_eq_true, decide_eq_true_eq]
      exact ⟨h.1, ih _ (fun w hw => hk w (by simp [hw])) (by omega) h.2⟩

/-- A store keeps the canonical form. -/
theorem tblWf_set {α : Type} [DecidableEq α] (d : Nat → α) (t : Tbl α) (k : Nat) (v : α) (h : tblWf d 0 t = true) :
    tblWf d 0 (tblSet d t k v) = true := by
  unfold tblSet
  split
  · exact tblWf_erase d k t 0 h
  · rename_i hv
    exact tblWf_insert d k v _ 0 (fun w => not_mem_erase k t w) (Nat.zero_le _) hv (tblWf_erase d k t 0 h)

/-- Dropping entries keeps the canonical form. -/
theorem tblWf_filter {α : Type} [DecidableEq α] (d : Nat → α) (p : Nat × α → Bool) (t : Tbl α) (lo : Nat) (h : tblWf d lo t = true) :
    tblWf d lo (t.filter p) = true := by
  induction t generalizing lo with
  | nil => rfl
  | cons e t ih =>
    obtain ⟨q, v⟩ := e
    simp only [tblWf, Bool.and_eq_true, decide_eq_true_eq] at h
    by_cases c : p (q, v) = true
    · simp only [List.filter_cons_of_pos c, tblWf, Bool.and_eq_true, decide_eq_true_eq]
      exact ⟨h.1, ih _ h.2⟩
    · rw [List.filter_cons_of_neg c]
      exact tblWf_mono d _ lo (q + 1) (by omega) (ih _ h.2)

/-! ### Memories -/

/-- A byte after a byte is written. -/
theorem memByte_put (m : List Host.Cell) (a b : Nat) (v : Byte) : memByte (memPut m a v) b = if b = a then v else memByte m b :=
  tblGet_set memDefault m a b v

/-- Writing a byte keeps the canonical form of a memory. -/
theorem memWf_put (m : List Host.Cell) (a : Nat) (v : Byte) (h : memWf m = true) : memWf (memPut m a v) = true :=
  tblWf_set memDefault m a v h

/-- Writing bytes in a row keeps the canonical form of a memory. -/
theorem memWf_putBytes (m : List Host.Cell) (a : Nat) (bs : List Byte) (h : memWf m = true) : memWf (memPutBytes m a bs) = true := by
  induction bs generalizing m a with
  | nil => exact h
  | cons b bs ih => exact ih _ _ (memWf_put m a b h)

/-- Writing a number keeps the canonical form of a memory. -/
theorem memWf_putLE (m : List Host.Cell) (a x n : Nat) (h : memWf m = true) : memWf (memPutLE m a x n) = true := by
  induction n generalizing m a x with
  | zero => exact h
  | succ n ih => exact ih _ _ _ (memWf_put m a _ h)

/-- A byte outside the bytes written is unchanged. -/
theorem memByte_putBytes_out (m : List Host.Cell) (a b : Nat) (bs : List Byte) (h : b < a ∨ a + bs.length ≤ b) :
    memByte (memPutBytes m a bs) b = memByte m b := by
  induction bs generalizing m a with
  | nil => rfl
  | cons c bs ih =>
    simp only [List.length_cons] at h
    rw [memPutBytes, ih _ _ (by omega), memByte_put, if_neg (by omega)]

end Sys2Proof.Machine
end

