-- ==== Sys2Proof/Laws/Registers.lean ====
section
/-!
SUPPORT. Registers and their fields: what a register and a field hold after a store to a register, to the field, or to
another field of the same register.
-/

namespace Sys2Proof.Machine

/-! ### Bits -/

theorem testBit_bitsAt (v : Word) (lo w i : Nat) : (bitsAt v lo w).testBit i = (decide (i < w) && v.getLsbD (lo + i)) := by
  unfold bitsAt
  rw [Nat.testBit_mod_two_pow, Nat.testBit_div_two_pow, BitVec.testBit_toNat]
  congr 2
  omega

theorem getLsbD_maskAt (lo w j : Nat) : (maskAt lo w).getLsbD j = (decide (j < 32) && (decide (lo ≤ j) && decide (j - lo < w))) := by
  unfold maskAt
  rw [BitVec.getLsbD_ofNat, Nat.testBit_mul_two_pow, Nat.testBit_two_pow_sub_one]

theorem getLsbD_setBits (v : Word) (lo w x j : Nat) :
    (setBits v lo w x).getLsbD j =
      if j < 32 ∧ lo ≤ j ∧ j - lo < w then x.testBit (j - lo) else v.getLsbD j := by
  unfold setBits
  simp only [BitVec.getLsbD_or, BitVec.getLsbD_and, BitVec.getLsbD_not, getLsbD_maskAt, BitVec.getLsbD_ofNat, Nat.testBit_mul_two_pow,
    Nat.testBit_mod_two_pow]
  by_cases h : j < 32
  · by_cases h1 : lo ≤ j
    · by_cases h2 : j - lo < w
      · simp [h, h1, h2]
      · simp [h, h1, h2]
    · simp [h, h1]
  · have : v.getLsbD j = false := BitVec.getLsbD_of_ge v j (by omega)
    simp [h, this]

/-- A field of a word after the same field was set. -/
theorem bitsAt_setBits (v : Word) (lo w x : Nat) (h : lo + w ≤ 32) : bitsAt (setBits v lo w x) lo w = x % 2 ^ w := by
  apply Nat.eq_of_testBit_eq
  intro i
  rw [testBit_bitsAt, getLsbD_setBits, Nat.testBit_mod_two_pow]
  by_cases hi : i < w
  · have : lo + i < 32 ∧ lo ≤ lo + i ∧ lo + i - lo < w := by omega
    simp [hi, this]
  · simp [hi]

/-- A field of a word after a field apart from it was set. -/
theorem bitsAt_setBits_apart (v : Word) (lo w lo' w' x : Nat) (h : lo' + w' ≤ lo ∨ lo + w ≤ lo') :
    bitsAt (setBits v lo w x) lo' w' = bitsAt v lo' w' := by
  apply Nat.eq_of_testBit_eq
  intro i
  rw [testBit_bitsAt, testBit_bitsAt, getLsbD_setBits]
  by_cases hi : i < w'
  · have : ¬ (lo' + i < 32 ∧ lo ≤ lo' + i ∧ lo' + i - lo < w) := by omega
    simp [hi, this]
  · simp [hi]

/-! ### Registers -/

theorem reg_setReg (s : State) (o o' : Nat) (v : Word) : (s.setReg o v).reg o' = if o' = o then v else s.reg o' :=
  tblGet_set resetVal s.regs o o' v

@[simp] theorem reg_setReg_same (s : State) (o : Nat) (v : Word) : (s.setReg o v).reg o = v := by simp [reg_setReg]

theorem reg_setReg_ne (s : State) (o o' : Nat) (v : Word) (h : o' ≠ o) : (s.setReg o v).reg o' = s.reg o' := by simp [reg_setReg, h]

/-- A register other than the field's keeps its value when a field is set. -/
theorem reg_put_ne (s : State) (f : Fld) (o n : Nat) (h : o ≠ f.off) : (s.put f n).reg o = s.reg o := reg_setReg_ne _ _ _ _ h

/-- A field after it was set. -/
theorem get_put (s : State) (f : Fld) (n : Nat) (h : f.lo + f.width ≤ 32) : (s.put f n).get f = n % 2 ^ f.width := by
  simp only [State.get, State.put, reg_setReg_same]
  exact bitsAt_setBits _ _ _ _ h

/-- A field of another register after a field was set. -/
theorem get_put_reg (s : State) (f g : Fld) (n : Nat) (h : g.off ≠ f.off) : (s.put f n).get g = s.get g := by
  simp only [State.get, reg_put_ne s f g.off n h]

/-- A field of the same register, apart from the one that was set. -/
theorem get_put_apart (s : State) (f g : Fld) (n : Nat) (ho : g.off = f.off) (h : g.lo + g.width ≤ f.lo ∨ f.lo + f.width ≤ g.lo) :
    (s.put f n).get g = s.get g := by
  simp only [State.get, State.put, ho, reg_setReg_same]
  exact bitsAt_setBits_apart _ _ _ _ _ _ h

/-- A field that the store of a register sets. -/
theorem get_setReg (s : State) (o : Nat) (v : Word) (f : Fld) : (s.setReg o v).get f = if f.off = o then bitsAt v f.lo f.width else s.get f := by
  simp only [State.get, reg_setReg]
  split <;> rfl

end Sys2Proof.Machine
end

