-- ==== Sys2Proof/Laws/State.lean ====
section
/-!
SUPPORT. The state: each field after each update of another, true by computation.
-/

namespace Sys2Proof.Machine

/-! ### setReg -/

@[simp] theorem State.setReg_pending (s : State) (o : Nat) (v : Word) : (s.setReg o v).pending = s.pending := rfl
@[simp] theorem State.setReg_now (s : State) (o : Nat) (v : Word) : (s.setReg o v).now = s.now := rfl
@[simp] theorem State.setReg_por (s : State) (o : Nat) (v : Word) : (s.setReg o v).por = s.por := rfl
@[simp] theorem State.setReg_ts (s : State) (o : Nat) (v : Word) : (s.setReg o v).ts = s.ts := rfl
@[simp] theorem State.setReg_fw (s : State) (o : Nat) (v : Word) : (s.setReg o v).fw = s.fw := rfl
@[simp] theorem State.setReg_dat (s : State) (o : Nat) (v : Word) : (s.setReg o v).dat = s.dat := rfl
@[simp] theorem State.setReg_coef (s : State) (o : Nat) (v : Word) : (s.setReg o v).coef = s.coef := rfl
@[simp] theorem State.setReg_plan (s : State) (o : Nat) (v : Word) : (s.setReg o v).plan = s.plan := rfl
@[simp] theorem State.setReg_book (s : State) (o : Nat) (v : Word) : (s.setReg o v).book = s.book := rfl
@[simp] theorem State.setReg_tele (s : State) (o : Nat) (v : Word) : (s.setReg o v).tele = s.tele := rfl
@[simp] theorem State.setReg_mem (s : State) (o : Nat) (v : Word) : (s.setReg o v).mem = s.mem := rfl
@[simp] theorem State.setReg_bus (s : State) (o : Nat) (v : Word) : (s.setReg o v).bus = s.bus := rfl
@[simp] theorem State.setReg_chans (s : State) (o : Nat) (v : Word) : (s.setReg o v).chans = s.chans := rfl
@[simp] theorem State.setReg_core (s : State) (o : Nat) (v : Word) : (s.setReg o v).core = s.core := rfl
@[simp] theorem State.setReg_boot (s : State) (o : Nat) (v : Word) : (s.setReg o v).boot = s.boot := rfl
@[simp] theorem State.setReg_clk (s : State) (o : Nat) (v : Word) : (s.setReg o v).clk = s.clk := rfl
@[simp] theorem State.setReg_pins (s : State) (o : Nat) (v : Word) : (s.setReg o v).pins = s.pins := rfl
@[simp] theorem State.setReg_trv (s : State) (o : Nat) (v : Word) : (s.setReg o v).trv = s.trv := rfl
@[simp] theorem State.setReg_cells (s : State) (o : Nat) (v : Word) : (s.setReg o v).cells = s.cells := rfl
@[simp] theorem State.setReg_stns (s : State) (o : Nat) (v : Word) : (s.setReg o v).stns = s.stns := rfl
@[simp] theorem State.setReg_tracts (s : State) (o : Nat) (v : Word) : (s.setReg o v).tracts = s.tracts := rfl
@[simp] theorem State.setReg_loops (s : State) (o : Nat) (v : Word) : (s.setReg o v).loops = s.loops := rfl
@[simp] theorem State.setReg_doms (s : State) (o : Nat) (v : Word) : (s.setReg o v).doms = s.doms := rfl
@[simp] theorem State.setReg_cg (s : State) (o : Nat) (v : Word) : (s.setReg o v).cg = s.cg := rfl
@[simp] theorem State.setReg_env (s : State) (o : Nat) (v : Word) : (s.setReg o v).env = s.env := rfl
@[simp] theorem State.setReg_cap (s : State) (o : Nat) (v : Word) : (s.setReg o v).cap = s.cap := rfl
@[simp] theorem State.setReg_so (s : State) (o : Nat) (v : Word) : (s.setReg o v).so = s.so := rfl
@[simp] theorem State.setReg_pst (s : State) (o : Nat) (v : Word) : (s.setReg o v).pst = s.pst := rfl
@[simp] theorem State.setReg_ib (s : State) (o : Nat) (v : Word) : (s.setReg o v).ib = s.ib := rfl
@[simp] theorem State.setReg_adc (s : State) (o : Nat) (v : Word) : (s.setReg o v).adc = s.adc := rfl
@[simp] theorem State.setReg_thm (s : State) (o : Nat) (v : Word) : (s.setReg o v).thm = s.thm := rfl
@[simp] theorem State.setReg_nrg (s : State) (o : Nat) (v : Word) : (s.setReg o v).nrg = s.nrg := rfl
@[simp] theorem State.setReg_pmb (s : State) (o : Nat) (v : Word) : (s.setReg o v).pmb = s.pmb := rfl
@[simp] theorem State.setReg_cyc (s : State) (o : Nat) (v : Word) : (s.setReg o v).cyc = s.cyc := rfl

/-! ### put -/

@[simp] theorem State.put_pending (s : State) (f : Fld) (n : Nat) : (s.put f n).pending = s.pending := rfl
@[simp] theorem State.put_now (s : State) (f : Fld) (n : Nat) : (s.put f n).now = s.now := rfl
@[simp] theorem State.put_por (s : State) (f : Fld) (n : Nat) : (s.put f n).por = s.por := rfl
@[simp] theorem State.put_ts (s : State) (f : Fld) (n : Nat) : (s.put f n).ts = s.ts := rfl
@[simp] theorem State.put_fw (s : State) (f : Fld) (n : Nat) : (s.put f n).fw = s.fw := rfl
@[simp] theorem State.put_dat (s : State) (f : Fld) (n : Nat) : (s.put f n).dat = s.dat := rfl
@[simp] theorem State.put_coef (s : State) (f : Fld) (n : Nat) : (s.put f n).coef = s.coef := rfl
@[simp] theorem State.put_plan (s : State) (f : Fld) (n : Nat) : (s.put f n).plan = s.plan := rfl
@[simp] theorem State.put_book (s : State) (f : Fld) (n : Nat) : (s.put f n).book = s.book := rfl
@[simp] theorem State.put_tele (s : State) (f : Fld) (n : Nat) : (s.put f n).tele = s.tele := rfl
@[simp] theorem State.put_mem (s : State) (f : Fld) (n : Nat) : (s.put f n).mem = s.mem := rfl
@[simp] theorem State.put_bus (s : State) (f : Fld) (n : Nat) : (s.put f n).bus = s.bus := rfl
@[simp] theorem State.put_chans (s : State) (f : Fld) (n : Nat) : (s.put f n).chans = s.chans := rfl
@[simp] theorem State.put_core (s : State) (f : Fld) (n : Nat) : (s.put f n).core = s.core := rfl
@[simp] theorem State.put_boot (s : State) (f : Fld) (n : Nat) : (s.put f n).boot = s.boot := rfl
@[simp] theorem State.put_clk (s : State) (f : Fld) (n : Nat) : (s.put f n).clk = s.clk := rfl
@[simp] theorem State.put_pins (s : State) (f : Fld) (n : Nat) : (s.put f n).pins = s.pins := rfl
@[simp] theorem State.put_trv (s : State) (f : Fld) (n : Nat) : (s.put f n).trv = s.trv := rfl
@[simp] theorem State.put_cells (s : State) (f : Fld) (n : Nat) : (s.put f n).cells = s.cells := rfl
@[simp] theorem State.put_stns (s : State) (f : Fld) (n : Nat) : (s.put f n).stns = s.stns := rfl
@[simp] theorem State.put_tracts (s : State) (f : Fld) (n : Nat) : (s.put f n).tracts = s.tracts := rfl
@[simp] theorem State.put_loops (s : State) (f : Fld) (n : Nat) : (s.put f n).loops = s.loops := rfl
@[simp] theorem State.put_doms (s : State) (f : Fld) (n : Nat) : (s.put f n).doms = s.doms := rfl
@[simp] theorem State.put_cg (s : State) (f : Fld) (n : Nat) : (s.put f n).cg = s.cg := rfl
@[simp] theorem State.put_env (s : State) (f : Fld) (n : Nat) : (s.put f n).env = s.env := rfl
@[simp] theorem State.put_cap (s : State) (f : Fld) (n : Nat) : (s.put f n).cap = s.cap := rfl
@[simp] theorem State.put_so (s : State) (f : Fld) (n : Nat) : (s.put f n).so = s.so := rfl
@[simp] theorem State.put_pst (s : State) (f : Fld) (n : Nat) : (s.put f n).pst = s.pst := rfl
@[simp] theorem State.put_ib (s : State) (f : Fld) (n : Nat) : (s.put f n).ib = s.ib := rfl
@[simp] theorem State.put_adc (s : State) (f : Fld) (n : Nat) : (s.put f n).adc = s.adc := rfl
@[simp] theorem State.put_thm (s : State) (f : Fld) (n : Nat) : (s.put f n).thm = s.thm := rfl
@[simp] theorem State.put_nrg (s : State) (f : Fld) (n : Nat) : (s.put f n).nrg = s.nrg := rfl
@[simp] theorem State.put_pmb (s : State) (f : Fld) (n : Nat) : (s.put f n).pmb = s.pmb := rfl
@[simp] theorem State.put_cyc (s : State) (f : Fld) (n : Nat) : (s.put f n).cyc = s.cyc := rfl

/-! ### putI -/

@[simp] theorem State.putI_pending (s : State) (f : Fld) (x : Int) : (s.putI f x).pending = s.pending := rfl
@[simp] theorem State.putI_now (s : State) (f : Fld) (x : Int) : (s.putI f x).now = s.now := rfl
@[simp] theorem State.putI_por (s : State) (f : Fld) (x : Int) : (s.putI f x).por = s.por := rfl
@[simp] theorem State.putI_ts (s : State) (f : Fld) (x : Int) : (s.putI f x).ts = s.ts := rfl
@[simp] theorem State.putI_fw (s : State) (f : Fld) (x : Int) : (s.putI f x).fw = s.fw := rfl
@[simp] theorem State.putI_dat (s : State) (f : Fld) (x : Int) : (s.putI f x).dat = s.dat := rfl
@[simp] theorem State.putI_coef (s : State) (f : Fld) (x : Int) : (s.putI f x).coef = s.coef := rfl
@[simp] theorem State.putI_plan (s : State) (f : Fld) (x : Int) : (s.putI f x).plan = s.plan := rfl
@[simp] theorem State.putI_book (s : State) (f : Fld) (x : Int) : (s.putI f x).book = s.book := rfl
@[simp] theorem State.putI_tele (s : State) (f : Fld) (x : Int) : (s.putI f x).tele = s.tele := rfl
@[simp] theorem State.putI_mem (s : State) (f : Fld) (x : Int) : (s.putI f x).mem = s.mem := rfl
@[simp] theorem State.putI_bus (s : State) (f : Fld) (x : Int) : (s.putI f x).bus = s.bus := rfl
@[simp] theorem State.putI_chans (s : State) (f : Fld) (x : Int) : (s.putI f x).chans = s.chans := rfl
@[simp] theorem State.putI_core (s : State) (f : Fld) (x : Int) : (s.putI f x).core = s.core := rfl
@[simp] theorem State.putI_boot (s : State) (f : Fld) (x : Int) : (s.putI f x).boot = s.boot := rfl
@[simp] theorem State.putI_clk (s : State) (f : Fld) (x : Int) : (s.putI f x).clk = s.clk := rfl
@[simp] theorem State.putI_pins (s : State) (f : Fld) (x : Int) : (s.putI f x).pins = s.pins := rfl
@[simp] theorem State.putI_trv (s : State) (f : Fld) (x : Int) : (s.putI f x).trv = s.trv := rfl
@[simp] theorem State.putI_cells (s : State) (f : Fld) (x : Int) : (s.putI f x).cells = s.cells := rfl
@[simp] theorem State.putI_stns (s : State) (f : Fld) (x : Int) : (s.putI f x).stns = s.stns := rfl
@[simp] theorem State.putI_tracts (s : State) (f : Fld) (x : Int) : (s.putI f x).tracts = s.tracts := rfl
@[simp] theorem State.putI_loops (s : State) (f : Fld) (x : Int) : (s.putI f x).loops = s.loops := rfl
@[simp] theorem State.putI_doms (s : State) (f : Fld) (x : Int) : (s.putI f x).doms = s.doms := rfl
@[simp] theorem State.putI_cg (s : State) (f : Fld) (x : Int) : (s.putI f x).cg = s.cg := rfl
@[simp] theorem State.putI_env (s : State) (f : Fld) (x : Int) : (s.putI f x).env = s.env := rfl
@[simp] theorem State.putI_cap (s : State) (f : Fld) (x : Int) : (s.putI f x).cap = s.cap := rfl
@[simp] theorem State.putI_so (s : State) (f : Fld) (x : Int) : (s.putI f x).so = s.so := rfl
@[simp] theorem State.putI_pst (s : State) (f : Fld) (x : Int) : (s.putI f x).pst = s.pst := rfl
@[simp] theorem State.putI_ib (s : State) (f : Fld) (x : Int) : (s.putI f x).ib = s.ib := rfl
@[simp] theorem State.putI_adc (s : State) (f : Fld) (x : Int) : (s.putI f x).adc = s.adc := rfl
@[simp] theorem State.putI_thm (s : State) (f : Fld) (x : Int) : (s.putI f x).thm = s.thm := rfl
@[simp] theorem State.putI_nrg (s : State) (f : Fld) (x : Int) : (s.putI f x).nrg = s.nrg := rfl
@[simp] theorem State.putI_pmb (s : State) (f : Fld) (x : Int) : (s.putI f x).pmb = s.pmb := rfl
@[simp] theorem State.putI_cyc (s : State) (f : Fld) (x : Int) : (s.putI f x).cyc = s.cyc := rfl

/-! ### putB -/

@[simp] theorem State.putB_pending (s : State) (f : Fld) (b : Bool) : (s.putB f b).pending = s.pending := rfl
@[simp] theorem State.putB_now (s : State) (f : Fld) (b : Bool) : (s.putB f b).now = s.now := rfl
@[simp] theorem State.putB_por (s : State) (f : Fld) (b : Bool) : (s.putB f b).por = s.por := rfl
@[simp] theorem State.putB_ts (s : State) (f : Fld) (b : Bool) : (s.putB f b).ts = s.ts := rfl
@[simp] theorem State.putB_fw (s : State) (f : Fld) (b : Bool) : (s.putB f b).fw = s.fw := rfl
@[simp] theorem State.putB_dat (s : State) (f : Fld) (b : Bool) : (s.putB f b).dat = s.dat := rfl
@[simp] theorem State.putB_coef (s : State) (f : Fld) (b : Bool) : (s.putB f b).coef = s.coef := rfl
@[simp] theorem State.putB_plan (s : State) (f : Fld) (b : Bool) : (s.putB f b).plan = s.plan := rfl
@[simp] theorem State.putB_book (s : State) (f : Fld) (b : Bool) : (s.putB f b).book = s.book := rfl
@[simp] theorem State.putB_tele (s : State) (f : Fld) (b : Bool) : (s.putB f b).tele = s.tele := rfl
@[simp] theorem State.putB_mem (s : State) (f : Fld) (b : Bool) : (s.putB f b).mem = s.mem := rfl
@[simp] theorem State.putB_bus (s : State) (f : Fld) (b : Bool) : (s.putB f b).bus = s.bus := rfl
@[simp] theorem State.putB_chans (s : State) (f : Fld) (b : Bool) : (s.putB f b).chans = s.chans := rfl
@[simp] theorem State.putB_core (s : State) (f : Fld) (b : Bool) : (s.putB f b).core = s.core := rfl
@[simp] theorem State.putB_boot (s : State) (f : Fld) (b : Bool) : (s.putB f b).boot = s.boot := rfl
@[simp] theorem State.putB_clk (s : State) (f : Fld) (b : Bool) : (s.putB f b).clk = s.clk := rfl
@[simp] theorem State.putB_pins (s : State) (f : Fld) (b : Bool) : (s.putB f b).pins = s.pins := rfl
@[simp] theorem State.putB_trv (s : State) (f : Fld) (b : Bool) : (s.putB f b).trv = s.trv := rfl
@[simp] theorem State.putB_cells (s : State) (f : Fld) (b : Bool) : (s.putB f b).cells = s.cells := rfl
@[simp] theorem State.putB_stns (s : State) (f : Fld) (b : Bool) : (s.putB f b).stns = s.stns := rfl
@[simp] theorem State.putB_tracts (s : State) (f : Fld) (b : Bool) : (s.putB f b).tracts = s.tracts := rfl
@[simp] theorem State.putB_loops (s : State) (f : Fld) (b : Bool) : (s.putB f b).loops = s.loops := rfl
@[simp] theorem State.putB_doms (s : State) (f : Fld) (b : Bool) : (s.putB f b).doms = s.doms := rfl
@[simp] theorem State.putB_cg (s : State) (f : Fld) (b : Bool) : (s.putB f b).cg = s.cg := rfl
@[simp] theorem State.putB_env (s : State) (f : Fld) (b : Bool) : (s.putB f b).env = s.env := rfl
@[simp] theorem State.putB_cap (s : State) (f : Fld) (b : Bool) : (s.putB f b).cap = s.cap := rfl
@[simp] theorem State.putB_so (s : State) (f : Fld) (b : Bool) : (s.putB f b).so = s.so := rfl
@[simp] theorem State.putB_pst (s : State) (f : Fld) (b : Bool) : (s.putB f b).pst = s.pst := rfl
@[simp] theorem State.putB_ib (s : State) (f : Fld) (b : Bool) : (s.putB f b).ib = s.ib := rfl
@[simp] theorem State.putB_adc (s : State) (f : Fld) (b : Bool) : (s.putB f b).adc = s.adc := rfl
@[simp] theorem State.putB_thm (s : State) (f : Fld) (b : Bool) : (s.putB f b).thm = s.thm := rfl
@[simp] theorem State.putB_nrg (s : State) (f : Fld) (b : Bool) : (s.putB f b).nrg = s.nrg := rfl
@[simp] theorem State.putB_pmb (s : State) (f : Fld) (b : Bool) : (s.putB f b).pmb = s.pmb := rfl
@[simp] theorem State.putB_cyc (s : State) (f : Fld) (b : Bool) : (s.putB f b).cyc = s.cyc := rfl

/-! ### addSat -/

@[simp] theorem State.addSat_pending (s : State) (f : Fld) (n : Nat) : (s.addSat f n).pending = s.pending := rfl
@[simp] theorem State.addSat_now (s : State) (f : Fld) (n : Nat) : (s.addSat f n).now = s.now := rfl
@[simp] theorem State.addSat_por (s : State) (f : Fld) (n : Nat) : (s.addSat f n).por = s.por := rfl
@[simp] theorem State.addSat_ts (s : State) (f : Fld) (n : Nat) : (s.addSat f n).ts = s.ts := rfl
@[simp] theorem State.addSat_fw (s : State) (f : Fld) (n : Nat) : (s.addSat f n).fw = s.fw := rfl
@[simp] theorem State.addSat_dat (s : State) (f : Fld) (n : Nat) : (s.addSat f n).dat = s.dat := rfl
@[simp] theorem State.addSat_coef (s : State) (f : Fld) (n : Nat) : (s.addSat f n).coef = s.coef := rfl
@[simp] theorem State.addSat_plan (s : State) (f : Fld) (n : Nat) : (s.addSat f n).plan = s.plan := rfl
@[simp] theorem State.addSat_book (s : State) (f : Fld) (n : Nat) : (s.addSat f n).book = s.book := rfl
@[simp] theorem State.addSat_tele (s : State) (f : Fld) (n : Nat) : (s.addSat f n).tele = s.tele := rfl
@[simp] theorem State.addSat_mem (s : State) (f : Fld) (n : Nat) : (s.addSat f n).mem = s.mem := rfl
@[simp] theorem State.addSat_bus (s : State) (f : Fld) (n : Nat) : (s.addSat f n).bus = s.bus := rfl
@[simp] theorem State.addSat_chans (s : State) (f : Fld) (n : Nat) : (s.addSat f n).chans = s.chans := rfl
@[simp] theorem State.addSat_core (s : State) (f : Fld) (n : Nat) : (s.addSat f n).core = s.core := rfl
@[simp] theorem State.addSat_boot (s : State) (f : Fld) (n : Nat) : (s.addSat f n).boot = s.boot := rfl
@[simp] theorem State.addSat_clk (s : State) (f : Fld) (n : Nat) : (s.addSat f n).clk = s.clk := rfl
@[simp] theorem State.addSat_pins (s : State) (f : Fld) (n : Nat) : (s.addSat f n).pins = s.pins := rfl
@[simp] theorem State.addSat_trv (s : State) (f : Fld) (n : Nat) : (s.addSat f n).trv = s.trv := rfl
@[simp] theorem State.addSat_cells (s : State) (f : Fld) (n : Nat) : (s.addSat f n).cells = s.cells := rfl
@[simp] theorem State.addSat_stns (s : State) (f : Fld) (n : Nat) : (s.addSat f n).stns = s.stns := rfl
@[simp] theorem State.addSat_tracts (s : State) (f : Fld) (n : Nat) : (s.addSat f n).tracts = s.tracts := rfl
@[simp] theorem State.addSat_loops (s : State) (f : Fld) (n : Nat) : (s.addSat f n).loops = s.loops := rfl
@[simp] theorem State.addSat_doms (s : State) (f : Fld) (n : Nat) : (s.addSat f n).doms = s.doms := rfl
@[simp] theorem State.addSat_cg (s : State) (f : Fld) (n : Nat) : (s.addSat f n).cg = s.cg := rfl
@[simp] theorem State.addSat_env (s : State) (f : Fld) (n : Nat) : (s.addSat f n).env = s.env := rfl
@[simp] theorem State.addSat_cap (s : State) (f : Fld) (n : Nat) : (s.addSat f n).cap = s.cap := rfl
@[simp] theorem State.addSat_so (s : State) (f : Fld) (n : Nat) : (s.addSat f n).so = s.so := rfl
@[simp] theorem State.addSat_pst (s : State) (f : Fld) (n : Nat) : (s.addSat f n).pst = s.pst := rfl
@[simp] theorem State.addSat_ib (s : State) (f : Fld) (n : Nat) : (s.addSat f n).ib = s.ib := rfl
@[simp] theorem State.addSat_adc (s : State) (f : Fld) (n : Nat) : (s.addSat f n).adc = s.adc := rfl
@[simp] theorem State.addSat_thm (s : State) (f : Fld) (n : Nat) : (s.addSat f n).thm = s.thm := rfl
@[simp] theorem State.addSat_nrg (s : State) (f : Fld) (n : Nat) : (s.addSat f n).nrg = s.nrg := rfl
@[simp] theorem State.addSat_pmb (s : State) (f : Fld) (n : Nat) : (s.addSat f n).pmb = s.pmb := rfl
@[simp] theorem State.addSat_cyc (s : State) (f : Fld) (n : Nat) : (s.addSat f n).cyc = s.cyc := rfl

/-! ### resetReg -/

@[simp] theorem State.resetReg_pending (s : State) (o : Nat) : (s.resetReg o).pending = s.pending := rfl
@[simp] theorem State.resetReg_now (s : State) (o : Nat) : (s.resetReg o).now = s.now := rfl
@[simp] theorem State.resetReg_por (s : State) (o : Nat) : (s.resetReg o).por = s.por := rfl
@[simp] theorem State.resetReg_ts (s : State) (o : Nat) : (s.resetReg o).ts = s.ts := rfl
@[simp] theorem State.resetReg_fw (s : State) (o : Nat) : (s.resetReg o).fw = s.fw := rfl
@[simp] theorem State.resetReg_dat (s : State) (o : Nat) : (s.resetReg o).dat = s.dat := rfl
@[simp] theorem State.resetReg_coef (s : State) (o : Nat) : (s.resetReg o).coef = s.coef := rfl
@[simp] theorem State.resetReg_plan (s : State) (o : Nat) : (s.resetReg o).plan = s.plan := rfl
@[simp] theorem State.resetReg_book (s : State) (o : Nat) : (s.resetReg o).book = s.book := rfl
@[simp] theorem State.resetReg_tele (s : State) (o : Nat) : (s.resetReg o).tele = s.tele := rfl
@[simp] theorem State.resetReg_mem (s : State) (o : Nat) : (s.resetReg o).mem = s.mem := rfl
@[simp] theorem State.resetReg_bus (s : State) (o : Nat) : (s.resetReg o).bus = s.bus := rfl
@[simp] theorem State.resetReg_chans (s : State) (o : Nat) : (s.resetReg o).chans = s.chans := rfl
@[simp] theorem State.resetReg_core (s : State) (o : Nat) : (s.resetReg o).core = s.core := rfl
@[simp] theorem State.resetReg_boot (s : State) (o : Nat) : (s.resetReg o).boot = s.boot := rfl
@[simp] theorem State.resetReg_clk (s : State) (o : Nat) : (s.resetReg o).clk = s.clk := rfl
@[simp] theorem State.resetReg_pins (s : State) (o : Nat) : (s.resetReg o).pins = s.pins := rfl
@[simp] theorem State.resetReg_trv (s : State) (o : Nat) : (s.resetReg o).trv = s.trv := rfl
@[simp] theorem State.resetReg_cells (s : State) (o : Nat) : (s.resetReg o).cells = s.cells := rfl
@[simp] theorem State.resetReg_stns (s : State) (o : Nat) : (s.resetReg o).stns = s.stns := rfl
@[simp] theorem State.resetReg_tracts (s : State) (o : Nat) : (s.resetReg o).tracts = s.tracts := rfl
@[simp] theorem State.resetReg_loops (s : State) (o : Nat) : (s.resetReg o).loops = s.loops := rfl
@[simp] theorem State.resetReg_doms (s : State) (o : Nat) : (s.resetReg o).doms = s.doms := rfl
@[simp] theorem State.resetReg_cg (s : State) (o : Nat) : (s.resetReg o).cg = s.cg := rfl
@[simp] theorem State.resetReg_env (s : State) (o : Nat) : (s.resetReg o).env = s.env := rfl
@[simp] theorem State.resetReg_cap (s : State) (o : Nat) : (s.resetReg o).cap = s.cap := rfl
@[simp] theorem State.resetReg_so (s : State) (o : Nat) : (s.resetReg o).so = s.so := rfl
@[simp] theorem State.resetReg_pst (s : State) (o : Nat) : (s.resetReg o).pst = s.pst := rfl
@[simp] theorem State.resetReg_ib (s : State) (o : Nat) : (s.resetReg o).ib = s.ib := rfl
@[simp] theorem State.resetReg_adc (s : State) (o : Nat) : (s.resetReg o).adc = s.adc := rfl
@[simp] theorem State.resetReg_thm (s : State) (o : Nat) : (s.resetReg o).thm = s.thm := rfl
@[simp] theorem State.resetReg_nrg (s : State) (o : Nat) : (s.resetReg o).nrg = s.nrg := rfl
@[simp] theorem State.resetReg_pmb (s : State) (o : Nat) : (s.resetReg o).pmb = s.pmb := rfl
@[simp] theorem State.resetReg_cyc (s : State) (o : Nat) : (s.resetReg o).cyc = s.cyc := rfl

/-! ### resetRegs -/

@[simp] theorem State.resetRegs_pending (s : State) (p : Nat → Bool) : (s.resetRegs p).pending = s.pending := rfl
@[simp] theorem State.resetRegs_now (s : State) (p : Nat → Bool) : (s.resetRegs p).now = s.now := rfl
@[simp] theorem State.resetRegs_por (s : State) (p : Nat → Bool) : (s.resetRegs p).por = s.por := rfl
@[simp] theorem State.resetRegs_ts (s : State) (p : Nat → Bool) : (s.resetRegs p).ts = s.ts := rfl
@[simp] theorem State.resetRegs_fw (s : State) (p : Nat → Bool) : (s.resetRegs p).fw = s.fw := rfl
@[simp] theorem State.resetRegs_dat (s : State) (p : Nat → Bool) : (s.resetRegs p).dat = s.dat := rfl
@[simp] theorem State.resetRegs_coef (s : State) (p : Nat → Bool) : (s.resetRegs p).coef = s.coef := rfl
@[simp] theorem State.resetRegs_plan (s : State) (p : Nat → Bool) : (s.resetRegs p).plan = s.plan := rfl
@[simp] theorem State.resetRegs_book (s : State) (p : Nat → Bool) : (s.resetRegs p).book = s.book := rfl
@[simp] theorem State.resetRegs_tele (s : State) (p : Nat → Bool) : (s.resetRegs p).tele = s.tele := rfl
@[simp] theorem State.resetRegs_mem (s : State) (p : Nat → Bool) : (s.resetRegs p).mem = s.mem := rfl
@[simp] theorem State.resetRegs_bus (s : State) (p : Nat → Bool) : (s.resetRegs p).bus = s.bus := rfl
@[simp] theorem State.resetRegs_chans (s : State) (p : Nat → Bool) : (s.resetRegs p).chans = s.chans := rfl
@[simp] theorem State.resetRegs_core (s : State) (p : Nat → Bool) : (s.resetRegs p).core = s.core := rfl
@[simp] theorem State.resetRegs_boot (s : State) (p : Nat → Bool) : (s.resetRegs p).boot = s.boot := rfl
@[simp] theorem State.resetRegs_clk (s : State) (p : Nat → Bool) : (s.resetRegs p).clk = s.clk := rfl
@[simp] theorem State.resetRegs_pins (s : State) (p : Nat → Bool) : (s.resetRegs p).pins = s.pins := rfl
@[simp] theorem State.resetRegs_trv (s : State) (p : Nat → Bool) : (s.resetRegs p).trv = s.trv := rfl
@[simp] theorem State.resetRegs_cells (s : State) (p : Nat → Bool) : (s.resetRegs p).cells = s.cells := rfl
@[simp] theorem State.resetRegs_stns (s : State) (p : Nat → Bool) : (s.resetRegs p).stns = s.stns := rfl
@[simp] theorem State.resetRegs_tracts (s : State) (p : Nat → Bool) : (s.resetRegs p).tracts = s.tracts := rfl
@[simp] theorem State.resetRegs_loops (s : State) (p : Nat → Bool) : (s.resetRegs p).loops = s.loops := rfl
@[simp] theorem State.resetRegs_doms (s : State) (p : Nat → Bool) : (s.resetRegs p).doms = s.doms := rfl
@[simp] theorem State.resetRegs_cg (s : State) (p : Nat → Bool) : (s.resetRegs p).cg = s.cg := rfl
@[simp] theorem State.resetRegs_env (s : State) (p : Nat → Bool) : (s.resetRegs p).env = s.env := rfl
@[simp] theorem State.resetRegs_cap (s : State) (p : Nat → Bool) : (s.resetRegs p).cap = s.cap := rfl
@[simp] theorem State.resetRegs_so (s : State) (p : Nat → Bool) : (s.resetRegs p).so = s.so := rfl
@[simp] theorem State.resetRegs_pst (s : State) (p : Nat → Bool) : (s.resetRegs p).pst = s.pst := rfl
@[simp] theorem State.resetRegs_ib (s : State) (p : Nat → Bool) : (s.resetRegs p).ib = s.ib := rfl
@[simp] theorem State.resetRegs_adc (s : State) (p : Nat → Bool) : (s.resetRegs p).adc = s.adc := rfl
@[simp] theorem State.resetRegs_thm (s : State) (p : Nat → Bool) : (s.resetRegs p).thm = s.thm := rfl
@[simp] theorem State.resetRegs_nrg (s : State) (p : Nat → Bool) : (s.resetRegs p).nrg = s.nrg := rfl
@[simp] theorem State.resetRegs_pmb (s : State) (p : Nat → Bool) : (s.resetRegs p).pmb = s.pmb := rfl
@[simp] theorem State.resetRegs_cyc (s : State) (p : Nat → Bool) : (s.resetRegs p).cyc = s.cyc := rfl

/-! ### markSet -/

@[simp] theorem State.markSet_pending (s : State) (o : Nat) (m : Word) : (s.markSet o m).pending = s.pending := rfl
@[simp] theorem State.markSet_now (s : State) (o : Nat) (m : Word) : (s.markSet o m).now = s.now := rfl
@[simp] theorem State.markSet_por (s : State) (o : Nat) (m : Word) : (s.markSet o m).por = s.por := rfl
@[simp] theorem State.markSet_ts (s : State) (o : Nat) (m : Word) : (s.markSet o m).ts = s.ts := rfl
@[simp] theorem State.markSet_regs (s : State) (o : Nat) (m : Word) : (s.markSet o m).regs = s.regs := rfl
@[simp] theorem State.markSet_fw (s : State) (o : Nat) (m : Word) : (s.markSet o m).fw = s.fw := rfl
@[simp] theorem State.markSet_dat (s : State) (o : Nat) (m : Word) : (s.markSet o m).dat = s.dat := rfl
@[simp] theorem State.markSet_coef (s : State) (o : Nat) (m : Word) : (s.markSet o m).coef = s.coef := rfl
@[simp] theorem State.markSet_plan (s : State) (o : Nat) (m : Word) : (s.markSet o m).plan = s.plan := rfl
@[simp] theorem State.markSet_book (s : State) (o : Nat) (m : Word) : (s.markSet o m).book = s.book := rfl
@[simp] theorem State.markSet_tele (s : State) (o : Nat) (m : Word) : (s.markSet o m).tele = s.tele := rfl
@[simp] theorem State.markSet_mem (s : State) (o : Nat) (m : Word) : (s.markSet o m).mem = s.mem := rfl
@[simp] theorem State.markSet_bus (s : State) (o : Nat) (m : Word) : (s.markSet o m).bus = s.bus := rfl
@[simp] theorem State.markSet_chans (s : State) (o : Nat) (m : Word) : (s.markSet o m).chans = s.chans := rfl
@[simp] theorem State.markSet_core (s : State) (o : Nat) (m : Word) : (s.markSet o m).core = s.core := rfl
@[simp] theorem State.markSet_boot (s : State) (o : Nat) (m : Word) : (s.markSet o m).boot = s.boot := rfl
@[simp] theorem State.markSet_clk (s : State) (o : Nat) (m : Word) : (s.markSet o m).clk = s.clk := rfl
@[simp] theorem State.markSet_pins (s : State) (o : Nat) (m : Word) : (s.markSet o m).pins = s.pins := rfl
@[simp] theorem State.markSet_trv (s : State) (o : Nat) (m : Word) : (s.markSet o m).trv = s.trv := rfl
@[simp] theorem State.markSet_cells (s : State) (o : Nat) (m : Word) : (s.markSet o m).cells = s.cells := rfl
@[simp] theorem State.markSet_stns (s : State) (o : Nat) (m : Word) : (s.markSet o m).stns = s.stns := rfl
@[simp] theorem State.markSet_tracts (s : State) (o : Nat) (m : Word) : (s.markSet o m).tracts = s.tracts := rfl
@[simp] theorem State.markSet_loops (s : State) (o : Nat) (m : Word) : (s.markSet o m).loops = s.loops := rfl
@[simp] theorem State.markSet_doms (s : State) (o : Nat) (m : Word) : (s.markSet o m).doms = s.doms := rfl
@[simp] theorem State.markSet_cg (s : State) (o : Nat) (m : Word) : (s.markSet o m).cg = s.cg := rfl
@[simp] theorem State.markSet_env (s : State) (o : Nat) (m : Word) : (s.markSet o m).env = s.env := rfl
@[simp] theorem State.markSet_cap (s : State) (o : Nat) (m : Word) : (s.markSet o m).cap = s.cap := rfl
@[simp] theorem State.markSet_so (s : State) (o : Nat) (m : Word) : (s.markSet o m).so = s.so := rfl
@[simp] theorem State.markSet_pst (s : State) (o : Nat) (m : Word) : (s.markSet o m).pst = s.pst := rfl
@[simp] theorem State.markSet_ib (s : State) (o : Nat) (m : Word) : (s.markSet o m).ib = s.ib := rfl
@[simp] theorem State.markSet_adc (s : State) (o : Nat) (m : Word) : (s.markSet o m).adc = s.adc := rfl
@[simp] theorem State.markSet_thm (s : State) (o : Nat) (m : Word) : (s.markSet o m).thm = s.thm := rfl
@[simp] theorem State.markSet_nrg (s : State) (o : Nat) (m : Word) : (s.markSet o m).nrg = s.nrg := rfl
@[simp] theorem State.markSet_pmb (s : State) (o : Nat) (m : Word) : (s.markSet o m).pmb = s.pmb := rfl

/-! ### markWrote -/

@[simp] theorem State.markWrote_pending (s : State) (o : Nat) (m : Word) : (s.markWrote o m).pending = s.pending := rfl
@[simp] theorem State.markWrote_now (s : State) (o : Nat) (m : Word) : (s.markWrote o m).now = s.now := rfl
@[simp] theorem State.markWrote_por (s : State) (o : Nat) (m : Word) : (s.markWrote o m).por = s.por := rfl
@[simp] theorem State.markWrote_ts (s : State) (o : Nat) (m : Word) : (s.markWrote o m).ts = s.ts := rfl
@[simp] theorem State.markWrote_regs (s : State) (o : Nat) (m : Word) : (s.markWrote o m).regs = s.regs := rfl
@[simp] theorem State.markWrote_fw (s : State) (o : Nat) (m : Word) : (s.markWrote o m).fw = s.fw := rfl
@[simp] theorem State.markWrote_dat (s : State) (o : Nat) (m : Word) : (s.markWrote o m).dat = s.dat := rfl
@[simp] theorem State.markWrote_coef (s : State) (o : Nat) (m : Word) : (s.markWrote o m).coef = s.coef := rfl
@[simp] theorem State.markWrote_plan (s : State) (o : Nat) (m : Word) : (s.markWrote o m).plan = s.plan := rfl
@[simp] theorem State.markWrote_book (s : State) (o : Nat) (m : Word) : (s.markWrote o m).book = s.book := rfl
@[simp] theorem State.markWrote_tele (s : State) (o : Nat) (m : Word) : (s.markWrote o m).tele = s.tele := rfl
@[simp] theorem State.markWrote_mem (s : State) (o : Nat) (m : Word) : (s.markWrote o m).mem = s.mem := rfl
@[simp] theorem State.markWrote_bus (s : State) (o : Nat) (m : Word) : (s.markWrote o m).bus = s.bus := rfl
@[simp] theorem State.markWrote_chans (s : State) (o : Nat) (m : Word) : (s.markWrote o m).chans = s.chans := rfl
@[simp] theorem State.markWrote_core (s : State) (o : Nat) (m : Word) : (s.markWrote o m).core = s.core := rfl
@[simp] theorem State.markWrote_boot (s : State) (o : Nat) (m : Word) : (s.markWrote o m).boot = s.boot := rfl
@[simp] theorem State.markWrote_clk (s : State) (o : Nat) (m : Word) : (s.markWrote o m).clk = s.clk := rfl
@[simp] theorem State.markWrote_pins (s : State) (o : Nat) (m : Word) : (s.markWrote o m).pins = s.pins := rfl
@[simp] theorem State.markWrote_trv (s : State) (o : Nat) (m : Word) : (s.markWrote o m).trv = s.trv := rfl
@[simp] theorem State.markWrote_cells (s : State) (o : Nat) (m : Word) : (s.markWrote o m).cells = s.cells := rfl
@[simp] theorem State.markWrote_stns (s : State) (o : Nat) (m : Word) : (s.markWrote o m).stns = s.stns := rfl
@[simp] theorem State.markWrote_tracts (s : State) (o : Nat) (m : Word) : (s.markWrote o m).tracts = s.tracts := rfl
@[simp] theorem State.markWrote_loops (s : State) (o : Nat) (m : Word) : (s.markWrote o m).loops = s.loops := rfl
@[simp] theorem State.markWrote_doms (s : State) (o : Nat) (m : Word) : (s.markWrote o m).doms = s.doms := rfl
@[simp] theorem State.markWrote_cg (s : State) (o : Nat) (m : Word) : (s.markWrote o m).cg = s.cg := rfl
@[simp] theorem State.markWrote_env (s : State) (o : Nat) (m : Word) : (s.markWrote o m).env = s.env := rfl
@[simp] theorem State.markWrote_cap (s : State) (o : Nat) (m : Word) : (s.markWrote o m).cap = s.cap := rfl
@[simp] theorem State.markWrote_so (s : State) (o : Nat) (m : Word) : (s.markWrote o m).so = s.so := rfl
@[simp] theorem State.markWrote_pst (s : State) (o : Nat) (m : Word) : (s.markWrote o m).pst = s.pst := rfl
@[simp] theorem State.markWrote_ib (s : State) (o : Nat) (m : Word) : (s.markWrote o m).ib = s.ib := rfl
@[simp] theorem State.markWrote_adc (s : State) (o : Nat) (m : Word) : (s.markWrote o m).adc = s.adc := rfl
@[simp] theorem State.markWrote_thm (s : State) (o : Nat) (m : Word) : (s.markWrote o m).thm = s.thm := rfl
@[simp] theorem State.markWrote_nrg (s : State) (o : Nat) (m : Word) : (s.markWrote o m).nrg = s.nrg := rfl
@[simp] theorem State.markWrote_pmb (s : State) (o : Nat) (m : Word) : (s.markWrote o m).pmb = s.pmb := rfl

/-! ### updChan -/

@[simp] theorem State.updChan_pending (s : State) (m : Nat) (f : ChanHid → ChanHid) : (s.updChan m f).pending = s.pending := rfl
@[simp] theorem State.updChan_now (s : State) (m : Nat) (f : ChanHid → ChanHid) : (s.updChan m f).now = s.now := rfl
@[simp] theorem State.updChan_por (s : State) (m : Nat) (f : ChanHid → ChanHid) : (s.updChan m f).por = s.por := rfl
@[simp] theorem State.updChan_ts (s : State) (m : Nat) (f : ChanHid → ChanHid) : (s.updChan m f).ts = s.ts := rfl
@[simp] theorem State.updChan_regs (s : State) (m : Nat) (f : ChanHid → ChanHid) : (s.updChan m f).regs = s.regs := rfl
@[simp] theorem State.updChan_fw (s : State) (m : Nat) (f : ChanHid → ChanHid) : (s.updChan m f).fw = s.fw := rfl
@[simp] theorem State.updChan_dat (s : State) (m : Nat) (f : ChanHid → ChanHid) : (s.updChan m f).dat = s.dat := rfl
@[simp] theorem State.updChan_coef (s : State) (m : Nat) (f : ChanHid → ChanHid) : (s.updChan m f).coef = s.coef := rfl
@[simp] theorem State.updChan_plan (s : State) (m : Nat) (f : ChanHid → ChanHid) : (s.updChan m f).plan = s.plan := rfl
@[simp] theorem State.updChan_book (s : State) (m : Nat) (f : ChanHid → ChanHid) : (s.updChan m f).book = s.book := rfl
@[simp] theorem State.updChan_tele (s : State) (m : Nat) (f : ChanHid → ChanHid) : (s.updChan m f).tele = s.tele := rfl
@[simp] theorem State.updChan_mem (s : State) (m : Nat) (f : ChanHid → ChanHid) : (s.updChan m f).mem = s.mem := rfl
@[simp] theorem State.updChan_bus (s : State) (m : Nat) (f : ChanHid → ChanHid) : (s.updChan m f).bus = s.bus := rfl
@[simp] theorem State.updChan_core (s : State) (m : Nat) (f : ChanHid → ChanHid) : (s.updChan m f).core = s.core := rfl
@[simp] theorem State.updChan_boot (s : State) (m : Nat) (f : ChanHid → ChanHid) : (s.updChan m f).boot = s.boot := rfl
@[simp] theorem State.updChan_clk (s : State) (m : Nat) (f : ChanHid → ChanHid) : (s.updChan m f).clk = s.clk := rfl
@[simp] theorem State.updChan_pins (s : State) (m : Nat) (f : ChanHid → ChanHid) : (s.updChan m f).pins = s.pins := rfl
@[simp] theorem State.updChan_trv (s : State) (m : Nat) (f : ChanHid → ChanHid) : (s.updChan m f).trv = s.trv := rfl
@[simp] theorem State.updChan_cells (s : State) (m : Nat) (f : ChanHid → ChanHid) : (s.updChan m f).cells = s.cells := rfl
@[simp] theorem State.updChan_stns (s : State) (m : Nat) (f : ChanHid → ChanHid) : (s.updChan m f).stns = s.stns := rfl
@[simp] theorem State.updChan_tracts (s : State) (m : Nat) (f : ChanHid → ChanHid) : (s.updChan m f).tracts = s.tracts := rfl
@[simp] theorem State.updChan_loops (s : State) (m : Nat) (f : ChanHid → ChanHid) : (s.updChan m f).loops = s.loops := rfl
@[simp] theorem State.updChan_doms (s : State) (m : Nat) (f : ChanHid → ChanHid) : (s.updChan m f).doms = s.doms := rfl
@[simp] theorem State.updChan_cg (s : State) (m : Nat) (f : ChanHid → ChanHid) : (s.updChan m f).cg = s.cg := rfl
@[simp] theorem State.updChan_env (s : State) (m : Nat) (f : ChanHid → ChanHid) : (s.updChan m f).env = s.env := rfl
@[simp] theorem State.updChan_cap (s : State) (m : Nat) (f : ChanHid → ChanHid) : (s.updChan m f).cap = s.cap := rfl
@[simp] theorem State.updChan_so (s : State) (m : Nat) (f : ChanHid → ChanHid) : (s.updChan m f).so = s.so := rfl
@[simp] theorem State.updChan_pst (s : State) (m : Nat) (f : ChanHid → ChanHid) : (s.updChan m f).pst = s.pst := rfl
@[simp] theorem State.updChan_ib (s : State) (m : Nat) (f : ChanHid → ChanHid) : (s.updChan m f).ib = s.ib := rfl
@[simp] theorem State.updChan_adc (s : State) (m : Nat) (f : ChanHid → ChanHid) : (s.updChan m f).adc = s.adc := rfl
@[simp] theorem State.updChan_thm (s : State) (m : Nat) (f : ChanHid → ChanHid) : (s.updChan m f).thm = s.thm := rfl
@[simp] theorem State.updChan_nrg (s : State) (m : Nat) (f : ChanHid → ChanHid) : (s.updChan m f).nrg = s.nrg := rfl
@[simp] theorem State.updChan_pmb (s : State) (m : Nat) (f : ChanHid → ChanHid) : (s.updChan m f).pmb = s.pmb := rfl
@[simp] theorem State.updChan_cyc (s : State) (m : Nat) (f : ChanHid → ChanHid) : (s.updChan m f).cyc = s.cyc := rfl

/-! ### updCell -/

@[simp] theorem State.updCell_pending (s : State) (c : Nat) (f : CellHid → CellHid) : (s.updCell c f).pending = s.pending := rfl
@[simp] theorem State.updCell_now (s : State) (c : Nat) (f : CellHid → CellHid) : (s.updCell c f).now = s.now := rfl
@[simp] theorem State.updCell_por (s : State) (c : Nat) (f : CellHid → CellHid) : (s.updCell c f).por = s.por := rfl
@[simp] theorem State.updCell_ts (s : State) (c : Nat) (f : CellHid → CellHid) : (s.updCell c f).ts = s.ts := rfl
@[simp] theorem State.updCell_regs (s : State) (c : Nat) (f : CellHid → CellHid) : (s.updCell c f).regs = s.regs := rfl
@[simp] theorem State.updCell_fw (s : State) (c : Nat) (f : CellHid → CellHid) : (s.updCell c f).fw = s.fw := rfl
@[simp] theorem State.updCell_dat (s : State) (c : Nat) (f : CellHid → CellHid) : (s.updCell c f).dat = s.dat := rfl
@[simp] theorem State.updCell_coef (s : State) (c : Nat) (f : CellHid → CellHid) : (s.updCell c f).coef = s.coef := rfl
@[simp] theorem State.updCell_plan (s : State) (c : Nat) (f : CellHid → CellHid) : (s.updCell c f).plan = s.plan := rfl
@[simp] theorem State.updCell_book (s : State) (c : Nat) (f : CellHid → CellHid) : (s.updCell c f).book = s.book := rfl
@[simp] theorem State.updCell_tele (s : State) (c : Nat) (f : CellHid → CellHid) : (s.updCell c f).tele = s.tele := rfl
@[simp] theorem State.updCell_mem (s : State) (c : Nat) (f : CellHid → CellHid) : (s.updCell c f).mem = s.mem := rfl
@[simp] theorem State.updCell_bus (s : State) (c : Nat) (f : CellHid → CellHid) : (s.updCell c f).bus = s.bus := rfl
@[simp] theorem State.updCell_chans (s : State) (c : Nat) (f : CellHid → CellHid) : (s.updCell c f).chans = s.chans := rfl
@[simp] theorem State.updCell_core (s : State) (c : Nat) (f : CellHid → CellHid) : (s.updCell c f).core = s.core := rfl
@[simp] theorem State.updCell_boot (s : State) (c : Nat) (f : CellHid → CellHid) : (s.updCell c f).boot = s.boot := rfl
@[simp] theorem State.updCell_clk (s : State) (c : Nat) (f : CellHid → CellHid) : (s.updCell c f).clk = s.clk := rfl
@[simp] theorem State.updCell_pins (s : State) (c : Nat) (f : CellHid → CellHid) : (s.updCell c f).pins = s.pins := rfl
@[simp] theorem State.updCell_trv (s : State) (c : Nat) (f : CellHid → CellHid) : (s.updCell c f).trv = s.trv := rfl
@[simp] theorem State.updCell_stns (s : State) (c : Nat) (f : CellHid → CellHid) : (s.updCell c f).stns = s.stns := rfl
@[simp] theorem State.updCell_tracts (s : State) (c : Nat) (f : CellHid → CellHid) : (s.updCell c f).tracts = s.tracts := rfl
@[simp] theorem State.updCell_loops (s : State) (c : Nat) (f : CellHid → CellHid) : (s.updCell c f).loops = s.loops := rfl
@[simp] theorem State.updCell_doms (s : State) (c : Nat) (f : CellHid → CellHid) : (s.updCell c f).doms = s.doms := rfl
@[simp] theorem State.updCell_cg (s : State) (c : Nat) (f : CellHid → CellHid) : (s.updCell c f).cg = s.cg := rfl
@[simp] theorem State.updCell_env (s : State) (c : Nat) (f : CellHid → CellHid) : (s.updCell c f).env = s.env := rfl
@[simp] theorem State.updCell_cap (s : State) (c : Nat) (f : CellHid → CellHid) : (s.updCell c f).cap = s.cap := rfl
@[simp] theorem State.updCell_so (s : State) (c : Nat) (f : CellHid → CellHid) : (s.updCell c f).so = s.so := rfl
@[simp] theorem State.updCell_pst (s : State) (c : Nat) (f : CellHid → CellHid) : (s.updCell c f).pst = s.pst := rfl
@[simp] theorem State.updCell_ib (s : State) (c : Nat) (f : CellHid → CellHid) : (s.updCell c f).ib = s.ib := rfl
@[simp] theorem State.updCell_adc (s : State) (c : Nat) (f : CellHid → CellHid) : (s.updCell c f).adc = s.adc := rfl
@[simp] theorem State.updCell_thm (s : State) (c : Nat) (f : CellHid → CellHid) : (s.updCell c f).thm = s.thm := rfl
@[simp] theorem State.updCell_nrg (s : State) (c : Nat) (f : CellHid → CellHid) : (s.updCell c f).nrg = s.nrg := rfl
@[simp] theorem State.updCell_pmb (s : State) (c : Nat) (f : CellHid → CellHid) : (s.updCell c f).pmb = s.pmb := rfl
@[simp] theorem State.updCell_cyc (s : State) (c : Nat) (f : CellHid → CellHid) : (s.updCell c f).cyc = s.cyc := rfl

/-! ### updStn -/

@[simp] theorem State.updStn_pending (s : State) (n : Nat) (f : StnHid → StnHid) : (s.updStn n f).pending = s.pending := rfl
@[simp] theorem State.updStn_now (s : State) (n : Nat) (f : StnHid → StnHid) : (s.updStn n f).now = s.now := rfl
@[simp] theorem State.updStn_por (s : State) (n : Nat) (f : StnHid → StnHid) : (s.updStn n f).por = s.por := rfl
@[simp] theorem State.updStn_ts (s : State) (n : Nat) (f : StnHid → StnHid) : (s.updStn n f).ts = s.ts := rfl
@[simp] theorem State.updStn_regs (s : State) (n : Nat) (f : StnHid → StnHid) : (s.updStn n f).regs = s.regs := rfl
@[simp] theorem State.updStn_fw (s : State) (n : Nat) (f : StnHid → StnHid) : (s.updStn n f).fw = s.fw := rfl
@[simp] theorem State.updStn_dat (s : State) (n : Nat) (f : StnHid → StnHid) : (s.updStn n f).dat = s.dat := rfl
@[simp] theorem State.updStn_coef (s : State) (n : Nat) (f : StnHid → StnHid) : (s.updStn n f).coef = s.coef := rfl
@[simp] theorem State.updStn_plan (s : State) (n : Nat) (f : StnHid → StnHid) : (s.updStn n f).plan = s.plan := rfl
@[simp] theorem State.updStn_book (s : State) (n : Nat) (f : StnHid → StnHid) : (s.updStn n f).book = s.book := rfl
@[simp] theorem State.updStn_tele (s : State) (n : Nat) (f : StnHid → StnHid) : (s.updStn n f).tele = s.tele := rfl
@[simp] theorem State.updStn_mem (s : State) (n : Nat) (f : StnHid → StnHid) : (s.updStn n f).mem = s.mem := rfl
@[simp] theorem State.updStn_bus (s : State) (n : Nat) (f : StnHid → StnHid) : (s.updStn n f).bus = s.bus := rfl
@[simp] theorem State.updStn_chans (s : State) (n : Nat) (f : StnHid → StnHid) : (s.updStn n f).chans = s.chans := rfl
@[simp] theorem State.updStn_core (s : State) (n : Nat) (f : StnHid → StnHid) : (s.updStn n f).core = s.core := rfl
@[simp] theorem State.updStn_boot (s : State) (n : Nat) (f : StnHid → StnHid) : (s.updStn n f).boot = s.boot := rfl
@[simp] theorem State.updStn_clk (s : State) (n : Nat) (f : StnHid → StnHid) : (s.updStn n f).clk = s.clk := rfl
@[simp] theorem State.updStn_pins (s : State) (n : Nat) (f : StnHid → StnHid) : (s.updStn n f).pins = s.pins := rfl
@[simp] theorem State.updStn_trv (s : State) (n : Nat) (f : StnHid → StnHid) : (s.updStn n f).trv = s.trv := rfl
@[simp] theorem State.updStn_cells (s : State) (n : Nat) (f : StnHid → StnHid) : (s.updStn n f).cells = s.cells := rfl
@[simp] theorem State.updStn_tracts (s : State) (n : Nat) (f : StnHid → StnHid) : (s.updStn n f).tracts = s.tracts := rfl
@[simp] theorem State.updStn_loops (s : State) (n : Nat) (f : StnHid → StnHid) : (s.updStn n f).loops = s.loops := rfl
@[simp] theorem State.updStn_doms (s : State) (n : Nat) (f : StnHid → StnHid) : (s.updStn n f).doms = s.doms := rfl
@[simp] theorem State.updStn_cg (s : State) (n : Nat) (f : StnHid → StnHid) : (s.updStn n f).cg = s.cg := rfl
@[simp] theorem State.updStn_env (s : State) (n : Nat) (f : StnHid → StnHid) : (s.updStn n f).env = s.env := rfl
@[simp] theorem State.updStn_cap (s : State) (n : Nat) (f : StnHid → StnHid) : (s.updStn n f).cap = s.cap := rfl
@[simp] theorem State.updStn_so (s : State) (n : Nat) (f : StnHid → StnHid) : (s.updStn n f).so = s.so := rfl
@[simp] theorem State.updStn_pst (s : State) (n : Nat) (f : StnHid → StnHid) : (s.updStn n f).pst = s.pst := rfl
@[simp] theorem State.updStn_ib (s : State) (n : Nat) (f : StnHid → StnHid) : (s.updStn n f).ib = s.ib := rfl
@[simp] theorem State.updStn_adc (s : State) (n : Nat) (f : StnHid → StnHid) : (s.updStn n f).adc = s.adc := rfl
@[simp] theorem State.updStn_thm (s : State) (n : Nat) (f : StnHid → StnHid) : (s.updStn n f).thm = s.thm := rfl
@[simp] theorem State.updStn_nrg (s : State) (n : Nat) (f : StnHid → StnHid) : (s.updStn n f).nrg = s.nrg := rfl
@[simp] theorem State.updStn_pmb (s : State) (n : Nat) (f : StnHid → StnHid) : (s.updStn n f).pmb = s.pmb := rfl
@[simp] theorem State.updStn_cyc (s : State) (n : Nat) (f : StnHid → StnHid) : (s.updStn n f).cyc = s.cyc := rfl

/-! ### updTract -/

@[simp] theorem State.updTract_pending (s : State) (t : Nat) (f : TractHid → TractHid) : (s.updTract t f).pending = s.pending := rfl
@[simp] theorem State.updTract_now (s : State) (t : Nat) (f : TractHid → TractHid) : (s.updTract t f).now = s.now := rfl
@[simp] theorem State.updTract_por (s : State) (t : Nat) (f : TractHid → TractHid) : (s.updTract t f).por = s.por := rfl
@[simp] theorem State.updTract_ts (s : State) (t : Nat) (f : TractHid → TractHid) : (s.updTract t f).ts = s.ts := rfl
@[simp] theorem State.updTract_regs (s : State) (t : Nat) (f : TractHid → TractHid) : (s.updTract t f).regs = s.regs := rfl
@[simp] theorem State.updTract_fw (s : State) (t : Nat) (f : TractHid → TractHid) : (s.updTract t f).fw = s.fw := rfl
@[simp] theorem State.updTract_dat (s : State) (t : Nat) (f : TractHid → TractHid) : (s.updTract t f).dat = s.dat := rfl
@[simp] theorem State.updTract_coef (s : State) (t : Nat) (f : TractHid → TractHid) : (s.updTract t f).coef = s.coef := rfl
@[simp] theorem State.updTract_plan (s : State) (t : Nat) (f : TractHid → TractHid) : (s.updTract t f).plan = s.plan := rfl
@[simp] theorem State.updTract_book (s : State) (t : Nat) (f : TractHid → TractHid) : (s.updTract t f).book = s.book := rfl
@[simp] theorem State.updTract_tele (s : State) (t : Nat) (f : TractHid → TractHid) : (s.updTract t f).tele = s.tele := rfl
@[simp] theorem State.updTract_mem (s : State) (t : Nat) (f : TractHid → TractHid) : (s.updTract t f).mem = s.mem := rfl
@[simp] theorem State.updTract_bus (s : State) (t : Nat) (f : TractHid → TractHid) : (s.updTract t f).bus = s.bus := rfl
@[simp] theorem State.updTract_chans (s : State) (t : Nat) (f : TractHid → TractHid) : (s.updTract t f).chans = s.chans := rfl
@[simp] theorem State.updTract_core (s : State) (t : Nat) (f : TractHid → TractHid) : (s.updTract t f).core = s.core := rfl
@[simp] theorem State.updTract_boot (s : State) (t : Nat) (f : TractHid → TractHid) : (s.updTract t f).boot = s.boot := rfl
@[simp] theorem State.updTract_clk (s : State) (t : Nat) (f : TractHid → TractHid) : (s.updTract t f).clk = s.clk := rfl
@[simp] theorem State.updTract_pins (s : State) (t : Nat) (f : TractHid → TractHid) : (s.updTract t f).pins = s.pins := rfl
@[simp] theorem State.updTract_trv (s : State) (t : Nat) (f : TractHid → TractHid) : (s.updTract t f).trv = s.trv := rfl
@[simp] theorem State.updTract_cells (s : State) (t : Nat) (f : TractHid → TractHid) : (s.updTract t f).cells = s.cells := rfl
@[simp] theorem State.updTract_stns (s : State) (t : Nat) (f : TractHid → TractHid) : (s.updTract t f).stns = s.stns := rfl
@[simp] theorem State.updTract_loops (s : State) (t : Nat) (f : TractHid → TractHid) : (s.updTract t f).loops = s.loops := rfl
@[simp] theorem State.updTract_doms (s : State) (t : Nat) (f : TractHid → TractHid) : (s.updTract t f).doms = s.doms := rfl
@[simp] theorem State.updTract_cg (s : State) (t : Nat) (f : TractHid → TractHid) : (s.updTract t f).cg = s.cg := rfl
@[simp] theorem State.updTract_env (s : State) (t : Nat) (f : TractHid → TractHid) : (s.updTract t f).env = s.env := rfl
@[simp] theorem State.updTract_cap (s : State) (t : Nat) (f : TractHid → TractHid) : (s.updTract t f).cap = s.cap := rfl
@[simp] theorem State.updTract_so (s : State) (t : Nat) (f : TractHid → TractHid) : (s.updTract t f).so = s.so := rfl
@[simp] theorem State.updTract_pst (s : State) (t : Nat) (f : TractHid → TractHid) : (s.updTract t f).pst = s.pst := rfl
@[simp] theorem State.updTract_ib (s : State) (t : Nat) (f : TractHid → TractHid) : (s.updTract t f).ib = s.ib := rfl
@[simp] theorem State.updTract_adc (s : State) (t : Nat) (f : TractHid → TractHid) : (s.updTract t f).adc = s.adc := rfl
@[simp] theorem State.updTract_thm (s : State) (t : Nat) (f : TractHid → TractHid) : (s.updTract t f).thm = s.thm := rfl
@[simp] theorem State.updTract_nrg (s : State) (t : Nat) (f : TractHid → TractHid) : (s.updTract t f).nrg = s.nrg := rfl
@[simp] theorem State.updTract_pmb (s : State) (t : Nat) (f : TractHid → TractHid) : (s.updTract t f).pmb = s.pmb := rfl
@[simp] theorem State.updTract_cyc (s : State) (t : Nat) (f : TractHid → TractHid) : (s.updTract t f).cyc = s.cyc := rfl

/-! ### updDom -/

@[simp] theorem State.updDom_pending (s : State) (d : Nat) (f : DomHid → DomHid) : (s.updDom d f).pending = s.pending := rfl
@[simp] theorem State.updDom_now (s : State) (d : Nat) (f : DomHid → DomHid) : (s.updDom d f).now = s.now := rfl
@[simp] theorem State.updDom_por (s : State) (d : Nat) (f : DomHid → DomHid) : (s.updDom d f).por = s.por := rfl
@[simp] theorem State.updDom_ts (s : State) (d : Nat) (f : DomHid → DomHid) : (s.updDom d f).ts = s.ts := rfl
@[simp] theorem State.updDom_regs (s : State) (d : Nat) (f : DomHid → DomHid) : (s.updDom d f).regs = s.regs := rfl
@[simp] theorem State.updDom_fw (s : State) (d : Nat) (f : DomHid → DomHid) : (s.updDom d f).fw = s.fw := rfl
@[simp] theorem State.updDom_dat (s : State) (d : Nat) (f : DomHid → DomHid) : (s.updDom d f).dat = s.dat := rfl
@[simp] theorem State.updDom_coef (s : State) (d : Nat) (f : DomHid → DomHid) : (s.updDom d f).coef = s.coef := rfl
@[simp] theorem State.updDom_plan (s : State) (d : Nat) (f : DomHid → DomHid) : (s.updDom d f).plan = s.plan := rfl
@[simp] theorem State.updDom_book (s : State) (d : Nat) (f : DomHid → DomHid) : (s.updDom d f).book = s.book := rfl
@[simp] theorem State.updDom_tele (s : State) (d : Nat) (f : DomHid → DomHid) : (s.updDom d f).tele = s.tele := rfl
@[simp] theorem State.updDom_mem (s : State) (d : Nat) (f : DomHid → DomHid) : (s.updDom d f).mem = s.mem := rfl
@[simp] theorem State.updDom_bus (s : State) (d : Nat) (f : DomHid → DomHid) : (s.updDom d f).bus = s.bus := rfl
@[simp] theorem State.updDom_chans (s : State) (d : Nat) (f : DomHid → DomHid) : (s.updDom d f).chans = s.chans := rfl
@[simp] theorem State.updDom_core (s : State) (d : Nat) (f : DomHid → DomHid) : (s.updDom d f).core = s.core := rfl
@[simp] theorem State.updDom_boot (s : State) (d : Nat) (f : DomHid → DomHid) : (s.updDom d f).boot = s.boot := rfl
@[simp] theorem State.updDom_clk (s : State) (d : Nat) (f : DomHid → DomHid) : (s.updDom d f).clk = s.clk := rfl
@[simp] theorem State.updDom_pins (s : State) (d : Nat) (f : DomHid → DomHid) : (s.updDom d f).pins = s.pins := rfl
@[simp] theorem State.updDom_trv (s : State) (d : Nat) (f : DomHid → DomHid) : (s.updDom d f).trv = s.trv := rfl
@[simp] theorem State.updDom_cells (s : State) (d : Nat) (f : DomHid → DomHid) : (s.updDom d f).cells = s.cells := rfl
@[simp] theorem State.updDom_stns (s : State) (d : Nat) (f : DomHid → DomHid) : (s.updDom d f).stns = s.stns := rfl
@[simp] theorem State.updDom_tracts (s : State) (d : Nat) (f : DomHid → DomHid) : (s.updDom d f).tracts = s.tracts := rfl
@[simp] theorem State.updDom_loops (s : State) (d : Nat) (f : DomHid → DomHid) : (s.updDom d f).loops = s.loops := rfl
@[simp] theorem State.updDom_cg (s : State) (d : Nat) (f : DomHid → DomHid) : (s.updDom d f).cg = s.cg := rfl
@[simp] theorem State.updDom_env (s : State) (d : Nat) (f : DomHid → DomHid) : (s.updDom d f).env = s.env := rfl
@[simp] theorem State.updDom_cap (s : State) (d : Nat) (f : DomHid → DomHid) : (s.updDom d f).cap = s.cap := rfl
@[simp] theorem State.updDom_so (s : State) (d : Nat) (f : DomHid → DomHid) : (s.updDom d f).so = s.so := rfl
@[simp] theorem State.updDom_pst (s : State) (d : Nat) (f : DomHid → DomHid) : (s.updDom d f).pst = s.pst := rfl
@[simp] theorem State.updDom_ib (s : State) (d : Nat) (f : DomHid → DomHid) : (s.updDom d f).ib = s.ib := rfl
@[simp] theorem State.updDom_adc (s : State) (d : Nat) (f : DomHid → DomHid) : (s.updDom d f).adc = s.adc := rfl
@[simp] theorem State.updDom_thm (s : State) (d : Nat) (f : DomHid → DomHid) : (s.updDom d f).thm = s.thm := rfl
@[simp] theorem State.updDom_nrg (s : State) (d : Nat) (f : DomHid → DomHid) : (s.updDom d f).nrg = s.nrg := rfl
@[simp] theorem State.updDom_pmb (s : State) (d : Nat) (f : DomHid → DomHid) : (s.updDom d f).pmb = s.pmb := rfl
@[simp] theorem State.updDom_cyc (s : State) (d : Nat) (f : DomHid → DomHid) : (s.updDom d f).cyc = s.cyc := rfl

/-! ### updAdc -/

@[simp] theorem State.updAdc_pending (s : State) (f : AdcHid → AdcHid) : (s.updAdc f).pending = s.pending := rfl
@[simp] theorem State.updAdc_now (s : State) (f : AdcHid → AdcHid) : (s.updAdc f).now = s.now := rfl
@[simp] theorem State.updAdc_por (s : State) (f : AdcHid → AdcHid) : (s.updAdc f).por = s.por := rfl
@[simp] theorem State.updAdc_ts (s : State) (f : AdcHid → AdcHid) : (s.updAdc f).ts = s.ts := rfl
@[simp] theorem State.updAdc_regs (s : State) (f : AdcHid → AdcHid) : (s.updAdc f).regs = s.regs := rfl
@[simp] theorem State.updAdc_fw (s : State) (f : AdcHid → AdcHid) : (s.updAdc f).fw = s.fw := rfl
@[simp] theorem State.updAdc_dat (s : State) (f : AdcHid → AdcHid) : (s.updAdc f).dat = s.dat := rfl
@[simp] theorem State.updAdc_coef (s : State) (f : AdcHid → AdcHid) : (s.updAdc f).coef = s.coef := rfl
@[simp] theorem State.updAdc_plan (s : State) (f : AdcHid → AdcHid) : (s.updAdc f).plan = s.plan := rfl
@[simp] theorem State.updAdc_book (s : State) (f : AdcHid → AdcHid) : (s.updAdc f).book = s.book := rfl
@[simp] theorem State.updAdc_tele (s : State) (f : AdcHid → AdcHid) : (s.updAdc f).tele = s.tele := rfl
@[simp] theorem State.updAdc_mem (s : State) (f : AdcHid → AdcHid) : (s.updAdc f).mem = s.mem := rfl
@[simp] theorem State.updAdc_bus (s : State) (f : AdcHid → AdcHid) : (s.updAdc f).bus = s.bus := rfl
@[simp] theorem State.updAdc_chans (s : State) (f : AdcHid → AdcHid) : (s.updAdc f).chans = s.chans := rfl
@[simp] theorem State.updAdc_core (s : State) (f : AdcHid → AdcHid) : (s.updAdc f).core = s.core := rfl
@[simp] theorem State.updAdc_boot (s : State) (f : AdcHid → AdcHid) : (s.updAdc f).boot = s.boot := rfl
@[simp] theorem State.updAdc_clk (s : State) (f : AdcHid → AdcHid) : (s.updAdc f).clk = s.clk := rfl
@[simp] theorem State.updAdc_pins (s : State) (f : AdcHid → AdcHid) : (s.updAdc f).pins = s.pins := rfl
@[simp] theorem State.updAdc_trv (s : State) (f : AdcHid → AdcHid) : (s.updAdc f).trv = s.trv := rfl
@[simp] theorem State.updAdc_cells (s : State) (f : AdcHid → AdcHid) : (s.updAdc f).cells = s.cells := rfl
@[simp] theorem State.updAdc_stns (s : State) (f : AdcHid → AdcHid) : (s.updAdc f).stns = s.stns := rfl
@[simp] theorem State.updAdc_tracts (s : State) (f : AdcHid → AdcHid) : (s.updAdc f).tracts = s.tracts := rfl
@[simp] theorem State.updAdc_loops (s : State) (f : AdcHid → AdcHid) : (s.updAdc f).loops = s.loops := rfl
@[simp] theorem State.updAdc_doms (s : State) (f : AdcHid → AdcHid) : (s.updAdc f).doms = s.doms := rfl
@[simp] theorem State.updAdc_cg (s : State) (f : AdcHid → AdcHid) : (s.updAdc f).cg = s.cg := rfl
@[simp] theorem State.updAdc_env (s : State) (f : AdcHid → AdcHid) : (s.updAdc f).env = s.env := rfl
@[simp] theorem State.updAdc_cap (s : State) (f : AdcHid → AdcHid) : (s.updAdc f).cap = s.cap := rfl
@[simp] theorem State.updAdc_so (s : State) (f : AdcHid → AdcHid) : (s.updAdc f).so = s.so := rfl
@[simp] theorem State.updAdc_pst (s : State) (f : AdcHid → AdcHid) : (s.updAdc f).pst = s.pst := rfl
@[simp] theorem State.updAdc_ib (s : State) (f : AdcHid → AdcHid) : (s.updAdc f).ib = s.ib := rfl
@[simp] theorem State.updAdc_thm (s : State) (f : AdcHid → AdcHid) : (s.updAdc f).thm = s.thm := rfl
@[simp] theorem State.updAdc_nrg (s : State) (f : AdcHid → AdcHid) : (s.updAdc f).nrg = s.nrg := rfl
@[simp] theorem State.updAdc_pmb (s : State) (f : AdcHid → AdcHid) : (s.updAdc f).pmb = s.pmb := rfl
@[simp] theorem State.updAdc_cyc (s : State) (f : AdcHid → AdcHid) : (s.updAdc f).cyc = s.cyc := rfl

/-! ### updConv -/

@[simp] theorem State.updConv_pending (s : State) (k : Nat) (f : ConvHid → ConvHid) : (s.updConv k f).pending = s.pending := rfl
@[simp] theorem State.updConv_now (s : State) (k : Nat) (f : ConvHid → ConvHid) : (s.updConv k f).now = s.now := rfl
@[simp] theorem State.updConv_por (s : State) (k : Nat) (f : ConvHid → ConvHid) : (s.updConv k f).por = s.por := rfl
@[simp] theorem State.updConv_ts (s : State) (k : Nat) (f : ConvHid → ConvHid) : (s.updConv k f).ts = s.ts := rfl
@[simp] theorem State.updConv_regs (s : State) (k : Nat) (f : ConvHid → ConvHid) : (s.updConv k f).regs = s.regs := rfl
@[simp] theorem State.updConv_fw (s : State) (k : Nat) (f : ConvHid → ConvHid) : (s.updConv k f).fw = s.fw := rfl
@[simp] theorem State.updConv_dat (s : State) (k : Nat) (f : ConvHid → ConvHid) : (s.updConv k f).dat = s.dat := rfl
@[simp] theorem State.updConv_coef (s : State) (k : Nat) (f : ConvHid → ConvHid) : (s.updConv k f).coef = s.coef := rfl
@[simp] theorem State.updConv_plan (s : State) (k : Nat) (f : ConvHid → ConvHid) : (s.updConv k f).plan = s.plan := rfl
@[simp] theorem State.updConv_book (s : State) (k : Nat) (f : ConvHid → ConvHid) : (s.updConv k f).book = s.book := rfl
@[simp] theorem State.updConv_tele (s : State) (k : Nat) (f : ConvHid → ConvHid) : (s.updConv k f).tele = s.tele := rfl
@[simp] theorem State.updConv_mem (s : State) (k : Nat) (f : ConvHid → ConvHid) : (s.updConv k f).mem = s.mem := rfl
@[simp] theorem State.updConv_bus (s : State) (k : Nat) (f : ConvHid → ConvHid) : (s.updConv k f).bus = s.bus := rfl
@[simp] theorem State.updConv_chans (s : State) (k : Nat) (f : ConvHid → ConvHid) : (s.updConv k f).chans = s.chans := rfl
@[simp] theorem State.updConv_core (s : State) (k : Nat) (f : ConvHid → ConvHid) : (s.updConv k f).core = s.core := rfl
@[simp] theorem State.updConv_boot (s : State) (k : Nat) (f : ConvHid → ConvHid) : (s.updConv k f).boot = s.boot := rfl
@[simp] theorem State.updConv_clk (s : State) (k : Nat) (f : ConvHid → ConvHid) : (s.updConv k f).clk = s.clk := rfl
@[simp] theorem State.updConv_pins (s : State) (k : Nat) (f : ConvHid → ConvHid) : (s.updConv k f).pins = s.pins := rfl
@[simp] theorem State.updConv_trv (s : State) (k : Nat) (f : ConvHid → ConvHid) : (s.updConv k f).trv = s.trv := rfl
@[simp] theorem State.updConv_cells (s : State) (k : Nat) (f : ConvHid → ConvHid) : (s.updConv k f).cells = s.cells := rfl
@[simp] theorem State.updConv_stns (s : State) (k : Nat) (f : ConvHid → ConvHid) : (s.updConv k f).stns = s.stns := rfl
@[simp] theorem State.updConv_tracts (s : State) (k : Nat) (f : ConvHid → ConvHid) : (s.updConv k f).tracts = s.tracts := rfl
@[simp] theorem State.updConv_loops (s : State) (k : Nat) (f : ConvHid → ConvHid) : (s.updConv k f).loops = s.loops := rfl
@[simp] theorem State.updConv_doms (s : State) (k : Nat) (f : ConvHid → ConvHid) : (s.updConv k f).doms = s.doms := rfl
@[simp] theorem State.updConv_cg (s : State) (k : Nat) (f : ConvHid → ConvHid) : (s.updConv k f).cg = s.cg := rfl
@[simp] theorem State.updConv_env (s : State) (k : Nat) (f : ConvHid → ConvHid) : (s.updConv k f).env = s.env := rfl
@[simp] theorem State.updConv_cap (s : State) (k : Nat) (f : ConvHid → ConvHid) : (s.updConv k f).cap = s.cap := rfl
@[simp] theorem State.updConv_so (s : State) (k : Nat) (f : ConvHid → ConvHid) : (s.updConv k f).so = s.so := rfl
@[simp] theorem State.updConv_pst (s : State) (k : Nat) (f : ConvHid → ConvHid) : (s.updConv k f).pst = s.pst := rfl
@[simp] theorem State.updConv_ib (s : State) (k : Nat) (f : ConvHid → ConvHid) : (s.updConv k f).ib = s.ib := rfl
@[simp] theorem State.updConv_thm (s : State) (k : Nat) (f : ConvHid → ConvHid) : (s.updConv k f).thm = s.thm := rfl
@[simp] theorem State.updConv_nrg (s : State) (k : Nat) (f : ConvHid → ConvHid) : (s.updConv k f).nrg = s.nrg := rfl
@[simp] theorem State.updConv_pmb (s : State) (k : Nat) (f : ConvHid → ConvHid) : (s.updConv k f).pmb = s.pmb := rfl
@[simp] theorem State.updConv_cyc (s : State) (k : Nat) (f : ConvHid → ConvHid) : (s.updConv k f).cyc = s.cyc := rfl

/-! ### updIb -/

@[simp] theorem State.updIb_pending (s : State) (f : IbHid → IbHid) : (s.updIb f).pending = s.pending := rfl
@[simp] theorem State.updIb_now (s : State) (f : IbHid → IbHid) : (s.updIb f).now = s.now := rfl
@[simp] theorem State.updIb_por (s : State) (f : IbHid → IbHid) : (s.updIb f).por = s.por := rfl
@[simp] theorem State.updIb_ts (s : State) (f : IbHid → IbHid) : (s.updIb f).ts = s.ts := rfl
@[simp] theorem State.updIb_regs (s : State) (f : IbHid → IbHid) : (s.updIb f).regs = s.regs := rfl
@[simp] theorem State.updIb_fw (s : State) (f : IbHid → IbHid) : (s.updIb f).fw = s.fw := rfl
@[simp] theorem State.updIb_dat (s : State) (f : IbHid → IbHid) : (s.updIb f).dat = s.dat := rfl
@[simp] theorem State.updIb_coef (s : State) (f : IbHid → IbHid) : (s.updIb f).coef = s.coef := rfl
@[simp] theorem State.updIb_plan (s : State) (f : IbHid → IbHid) : (s.updIb f).plan = s.plan := rfl
@[simp] theorem State.updIb_book (s : State) (f : IbHid → IbHid) : (s.updIb f).book = s.book := rfl
@[simp] theorem State.updIb_tele (s : State) (f : IbHid → IbHid) : (s.updIb f).tele = s.tele := rfl
@[simp] theorem State.updIb_mem (s : State) (f : IbHid → IbHid) : (s.updIb f).mem = s.mem := rfl
@[simp] theorem State.updIb_bus (s : State) (f : IbHid → IbHid) : (s.updIb f).bus = s.bus := rfl
@[simp] theorem State.updIb_chans (s : State) (f : IbHid → IbHid) : (s.updIb f).chans = s.chans := rfl
@[simp] theorem State.updIb_core (s : State) (f : IbHid → IbHid) : (s.updIb f).core = s.core := rfl
@[simp] theorem State.updIb_boot (s : State) (f : IbHid → IbHid) : (s.updIb f).boot = s.boot := rfl
@[simp] theorem State.updIb_clk (s : State) (f : IbHid → IbHid) : (s.updIb f).clk = s.clk := rfl
@[simp] theorem State.updIb_pins (s : State) (f : IbHid → IbHid) : (s.updIb f).pins = s.pins := rfl
@[simp] theorem State.updIb_trv (s : State) (f : IbHid → IbHid) : (s.updIb f).trv = s.trv := rfl
@[simp] theorem State.updIb_cells (s : State) (f : IbHid → IbHid) : (s.updIb f).cells = s.cells := rfl
@[simp] theorem State.updIb_stns (s : State) (f : IbHid → IbHid) : (s.updIb f).stns = s.stns := rfl
@[simp] theorem State.updIb_tracts (s : State) (f : IbHid → IbHid) : (s.updIb f).tracts = s.tracts := rfl
@[simp] theorem State.updIb_loops (s : State) (f : IbHid → IbHid) : (s.updIb f).loops = s.loops := rfl
@[simp] theorem State.updIb_doms (s : State) (f : IbHid → IbHid) : (s.updIb f).doms = s.doms := rfl
@[simp] theorem State.updIb_cg (s : State) (f : IbHid → IbHid) : (s.updIb f).cg = s.cg := rfl
@[simp] theorem State.updIb_env (s : State) (f : IbHid → IbHid) : (s.updIb f).env = s.env := rfl
@[simp] theorem State.updIb_cap (s : State) (f : IbHid → IbHid) : (s.updIb f).cap = s.cap := rfl
@[simp] theorem State.updIb_so (s : State) (f : IbHid → IbHid) : (s.updIb f).so = s.so := rfl
@[simp] theorem State.updIb_pst (s : State) (f : IbHid → IbHid) : (s.updIb f).pst = s.pst := rfl
@[simp] theorem State.updIb_adc (s : State) (f : IbHid → IbHid) : (s.updIb f).adc = s.adc := rfl
@[simp] theorem State.updIb_thm (s : State) (f : IbHid → IbHid) : (s.updIb f).thm = s.thm := rfl
@[simp] theorem State.updIb_nrg (s : State) (f : IbHid → IbHid) : (s.updIb f).nrg = s.nrg := rfl
@[simp] theorem State.updIb_pmb (s : State) (f : IbHid → IbHid) : (s.updIb f).pmb = s.pmb := rfl
@[simp] theorem State.updIb_cyc (s : State) (f : IbHid → IbHid) : (s.updIb f).cyc = s.cyc := rfl

/-! ### updPhase -/

@[simp] theorem State.updPhase_pending (s : State) (p : Nat) (f : PhaseHid → PhaseHid) : (s.updPhase p f).pending = s.pending := rfl
@[simp] theorem State.updPhase_now (s : State) (p : Nat) (f : PhaseHid → PhaseHid) : (s.updPhase p f).now = s.now := rfl
@[simp] theorem State.updPhase_por (s : State) (p : Nat) (f : PhaseHid → PhaseHid) : (s.updPhase p f).por = s.por := rfl
@[simp] theorem State.updPhase_ts (s : State) (p : Nat) (f : PhaseHid → PhaseHid) : (s.updPhase p f).ts = s.ts := rfl
@[simp] theorem State.updPhase_regs (s : State) (p : Nat) (f : PhaseHid → PhaseHid) : (s.updPhase p f).regs = s.regs := rfl
@[simp] theorem State.updPhase_fw (s : State) (p : Nat) (f : PhaseHid → PhaseHid) : (s.updPhase p f).fw = s.fw := rfl
@[simp] theorem State.updPhase_dat (s : State) (p : Nat) (f : PhaseHid → PhaseHid) : (s.updPhase p f).dat = s.dat := rfl
@[simp] theorem State.updPhase_coef (s : State) (p : Nat) (f : PhaseHid → PhaseHid) : (s.updPhase p f).coef = s.coef := rfl
@[simp] theorem State.updPhase_plan (s : State) (p : Nat) (f : PhaseHid → PhaseHid) : (s.updPhase p f).plan = s.plan := rfl
@[simp] theorem State.updPhase_book (s : State) (p : Nat) (f : PhaseHid → PhaseHid) : (s.updPhase p f).book = s.book := rfl
@[simp] theorem State.updPhase_tele (s : State) (p : Nat) (f : PhaseHid → PhaseHid) : (s.updPhase p f).tele = s.tele := rfl
@[simp] theorem State.updPhase_mem (s : State) (p : Nat) (f : PhaseHid → PhaseHid) : (s.updPhase p f).mem = s.mem := rfl
@[simp] theorem State.updPhase_bus (s : State) (p : Nat) (f : PhaseHid → PhaseHid) : (s.updPhase p f).bus = s.bus := rfl
@[simp] theorem State.updPhase_chans (s : State) (p : Nat) (f : PhaseHid → PhaseHid) : (s.updPhase p f).chans = s.chans := rfl
@[simp] theorem State.updPhase_core (s : State) (p : Nat) (f : PhaseHid → PhaseHid) : (s.updPhase p f).core = s.core := rfl
@[simp] theorem State.updPhase_boot (s : State) (p : Nat) (f : PhaseHid → PhaseHid) : (s.updPhase p f).boot = s.boot := rfl
@[simp] theorem State.updPhase_clk (s : State) (p : Nat) (f : PhaseHid → PhaseHid) : (s.updPhase p f).clk = s.clk := rfl
@[simp] theorem State.updPhase_pins (s : State) (p : Nat) (f : PhaseHid → PhaseHid) : (s.updPhase p f).pins = s.pins := rfl
@[simp] theorem State.updPhase_trv (s : State) (p : Nat) (f : PhaseHid → PhaseHid) : (s.updPhase p f).trv = s.trv := rfl
@[simp] theorem State.updPhase_cells (s : State) (p : Nat) (f : PhaseHid → PhaseHid) : (s.updPhase p f).cells = s.cells := rfl
@[simp] theorem State.updPhase_stns (s : State) (p : Nat) (f : PhaseHid → PhaseHid) : (s.updPhase p f).stns = s.stns := rfl
@[simp] theorem State.updPhase_tracts (s : State) (p : Nat) (f : PhaseHid → PhaseHid) : (s.updPhase p f).tracts = s.tracts := rfl
@[simp] theorem State.updPhase_loops (s : State) (p : Nat) (f : PhaseHid → PhaseHid) : (s.updPhase p f).loops = s.loops := rfl
@[simp] theorem State.updPhase_doms (s : State) (p : Nat) (f : PhaseHid → PhaseHid) : (s.updPhase p f).doms = s.doms := rfl
@[simp] theorem State.updPhase_cg (s : State) (p : Nat) (f : PhaseHid → PhaseHid) : (s.updPhase p f).cg = s.cg := rfl
@[simp] theorem State.updPhase_env (s : State) (p : Nat) (f : PhaseHid → PhaseHid) : (s.updPhase p f).env = s.env := rfl
@[simp] theorem State.updPhase_cap (s : State) (p : Nat) (f : PhaseHid → PhaseHid) : (s.updPhase p f).cap = s.cap := rfl
@[simp] theorem State.updPhase_so (s : State) (p : Nat) (f : PhaseHid → PhaseHid) : (s.updPhase p f).so = s.so := rfl
@[simp] theorem State.updPhase_pst (s : State) (p : Nat) (f : PhaseHid → PhaseHid) : (s.updPhase p f).pst = s.pst := rfl
@[simp] theorem State.updPhase_adc (s : State) (p : Nat) (f : PhaseHid → PhaseHid) : (s.updPhase p f).adc = s.adc := rfl
@[simp] theorem State.updPhase_thm (s : State) (p : Nat) (f : PhaseHid → PhaseHid) : (s.updPhase p f).thm = s.thm := rfl
@[simp] theorem State.updPhase_nrg (s : State) (p : Nat) (f : PhaseHid → PhaseHid) : (s.updPhase p f).nrg = s.nrg := rfl
@[simp] theorem State.updPhase_pmb (s : State) (p : Nat) (f : PhaseHid → PhaseHid) : (s.updPhase p f).pmb = s.pmb := rfl
@[simp] theorem State.updPhase_cyc (s : State) (p : Nat) (f : PhaseHid → PhaseHid) : (s.updPhase p f).cyc = s.cyc := rfl

/-! ### updSite -/

@[simp] theorem State.updSite_pending (s : State) (t : Nat) (f : SiteHid → SiteHid) : (s.updSite t f).pending = s.pending := rfl
@[simp] theorem State.updSite_now (s : State) (t : Nat) (f : SiteHid → SiteHid) : (s.updSite t f).now = s.now := rfl
@[simp] theorem State.updSite_por (s : State) (t : Nat) (f : SiteHid → SiteHid) : (s.updSite t f).por = s.por := rfl
@[simp] theorem State.updSite_ts (s : State) (t : Nat) (f : SiteHid → SiteHid) : (s.updSite t f).ts = s.ts := rfl
@[simp] theorem State.updSite_regs (s : State) (t : Nat) (f : SiteHid → SiteHid) : (s.updSite t f).regs = s.regs := rfl
@[simp] theorem State.updSite_fw (s : State) (t : Nat) (f : SiteHid → SiteHid) : (s.updSite t f).fw = s.fw := rfl
@[simp] theorem State.updSite_dat (s : State) (t : Nat) (f : SiteHid → SiteHid) : (s.updSite t f).dat = s.dat := rfl
@[simp] theorem State.updSite_coef (s : State) (t : Nat) (f : SiteHid → SiteHid) : (s.updSite t f).coef = s.coef := rfl
@[simp] theorem State.updSite_plan (s : State) (t : Nat) (f : SiteHid → SiteHid) : (s.updSite t f).plan = s.plan := rfl
@[simp] theorem State.updSite_book (s : State) (t : Nat) (f : SiteHid → SiteHid) : (s.updSite t f).book = s.book := rfl
@[simp] theorem State.updSite_tele (s : State) (t : Nat) (f : SiteHid → SiteHid) : (s.updSite t f).tele = s.tele := rfl
@[simp] theorem State.updSite_mem (s : State) (t : Nat) (f : SiteHid → SiteHid) : (s.updSite t f).mem = s.mem := rfl
@[simp] theorem State.updSite_bus (s : State) (t : Nat) (f : SiteHid → SiteHid) : (s.updSite t f).bus = s.bus := rfl
@[simp] theorem State.updSite_chans (s : State) (t : Nat) (f : SiteHid → SiteHid) : (s.updSite t f).chans = s.chans := rfl
@[simp] theorem State.updSite_core (s : State) (t : Nat) (f : SiteHid → SiteHid) : (s.updSite t f).core = s.core := rfl
@[simp] theorem State.updSite_boot (s : State) (t : Nat) (f : SiteHid → SiteHid) : (s.updSite t f).boot = s.boot := rfl
@[simp] theorem State.updSite_clk (s : State) (t : Nat) (f : SiteHid → SiteHid) : (s.updSite t f).clk = s.clk := rfl
@[simp] theorem State.updSite_pins (s : State) (t : Nat) (f : SiteHid → SiteHid) : (s.updSite t f).pins = s.pins := rfl
@[simp] theorem State.updSite_trv (s : State) (t : Nat) (f : SiteHid → SiteHid) : (s.updSite t f).trv = s.trv := rfl
@[simp] theorem State.updSite_cells (s : State) (t : Nat) (f : SiteHid → SiteHid) : (s.updSite t f).cells = s.cells := rfl
@[simp] theorem State.updSite_stns (s : State) (t : Nat) (f : SiteHid → SiteHid) : (s.updSite t f).stns = s.stns := rfl
@[simp] theorem State.updSite_tracts (s : State) (t : Nat) (f : SiteHid → SiteHid) : (s.updSite t f).tracts = s.tracts := rfl
@[simp] theorem State.updSite_loops (s : State) (t : Nat) (f : SiteHid → SiteHid) : (s.updSite t f).loops = s.loops := rfl
@[simp] theorem State.updSite_doms (s : State) (t : Nat) (f : SiteHid → SiteHid) : (s.updSite t f).doms = s.doms := rfl
@[simp] theorem State.updSite_cg (s : State) (t : Nat) (f : SiteHid → SiteHid) : (s.updSite t f).cg = s.cg := rfl
@[simp] theorem State.updSite_env (s : State) (t : Nat) (f : SiteHid → SiteHid) : (s.updSite t f).env = s.env := rfl
@[simp] theorem State.updSite_cap (s : State) (t : Nat) (f : SiteHid → SiteHid) : (s.updSite t f).cap = s.cap := rfl
@[simp] theorem State.updSite_so (s : State) (t : Nat) (f : SiteHid → SiteHid) : (s.updSite t f).so = s.so := rfl
@[simp] theorem State.updSite_pst (s : State) (t : Nat) (f : SiteHid → SiteHid) : (s.updSite t f).pst = s.pst := rfl
@[simp] theorem State.updSite_ib (s : State) (t : Nat) (f : SiteHid → SiteHid) : (s.updSite t f).ib = s.ib := rfl
@[simp] theorem State.updSite_adc (s : State) (t : Nat) (f : SiteHid → SiteHid) : (s.updSite t f).adc = s.adc := rfl
@[simp] theorem State.updSite_nrg (s : State) (t : Nat) (f : SiteHid → SiteHid) : (s.updSite t f).nrg = s.nrg := rfl
@[simp] theorem State.updSite_pmb (s : State) (t : Nat) (f : SiteHid → SiteHid) : (s.updSite t f).pmb = s.pmb := rfl
@[simp] theorem State.updSite_cyc (s : State) (t : Nat) (f : SiteHid → SiteHid) : (s.updSite t f).cyc = s.cyc := rfl

/-! ### updCap -/

@[simp] theorem State.updCap_pending (s : State) (f : CapHid → CapHid) : (s.updCap f).pending = s.pending := rfl
@[simp] theorem State.updCap_now (s : State) (f : CapHid → CapHid) : (s.updCap f).now = s.now := rfl
@[simp] theorem State.updCap_por (s : State) (f : CapHid → CapHid) : (s.updCap f).por = s.por := rfl
@[simp] theorem State.updCap_ts (s : State) (f : CapHid → CapHid) : (s.updCap f).ts = s.ts := rfl
@[simp] theorem State.updCap_regs (s : State) (f : CapHid → CapHid) : (s.updCap f).regs = s.regs := rfl
@[simp] theorem State.updCap_fw (s : State) (f : CapHid → CapHid) : (s.updCap f).fw = s.fw := rfl
@[simp] theorem State.updCap_dat (s : State) (f : CapHid → CapHid) : (s.updCap f).dat = s.dat := rfl
@[simp] theorem State.updCap_coef (s : State) (f : CapHid → CapHid) : (s.updCap f).coef = s.coef := rfl
@[simp] theorem State.updCap_plan (s : State) (f : CapHid → CapHid) : (s.updCap f).plan = s.plan := rfl
@[simp] theorem State.updCap_book (s : State) (f : CapHid → CapHid) : (s.updCap f).book = s.book := rfl
@[simp] theorem State.updCap_tele (s : State) (f : CapHid → CapHid) : (s.updCap f).tele = s.tele := rfl
@[simp] theorem State.updCap_mem (s : State) (f : CapHid → CapHid) : (s.updCap f).mem = s.mem := rfl
@[simp] theorem State.updCap_bus (s : State) (f : CapHid → CapHid) : (s.updCap f).bus = s.bus := rfl
@[simp] theorem State.updCap_chans (s : State) (f : CapHid → CapHid) : (s.updCap f).chans = s.chans := rfl
@[simp] theorem State.updCap_core (s : State) (f : CapHid → CapHid) : (s.updCap f).core = s.core := rfl
@[simp] theorem State.updCap_boot (s : State) (f : CapHid → CapHid) : (s.updCap f).boot = s.boot := rfl
@[simp] theorem State.updCap_clk (s : State) (f : CapHid → CapHid) : (s.updCap f).clk = s.clk := rfl
@[simp] theorem State.updCap_pins (s : State) (f : CapHid → CapHid) : (s.updCap f).pins = s.pins := rfl
@[simp] theorem State.updCap_trv (s : State) (f : CapHid → CapHid) : (s.updCap f).trv = s.trv := rfl
@[simp] theorem State.updCap_cells (s : State) (f : CapHid → CapHid) : (s.updCap f).cells = s.cells := rfl
@[simp] theorem State.updCap_stns (s : State) (f : CapHid → CapHid) : (s.updCap f).stns = s.stns := rfl
@[simp] theorem State.updCap_tracts (s : State) (f : CapHid → CapHid) : (s.updCap f).tracts = s.tracts := rfl
@[simp] theorem State.updCap_loops (s : State) (f : CapHid → CapHid) : (s.updCap f).loops = s.loops := rfl
@[simp] theorem State.updCap_doms (s : State) (f : CapHid → CapHid) : (s.updCap f).doms = s.doms := rfl
@[simp] theorem State.updCap_cg (s : State) (f : CapHid → CapHid) : (s.updCap f).cg = s.cg := rfl
@[simp] theorem State.updCap_env (s : State) (f : CapHid → CapHid) : (s.updCap f).env = s.env := rfl
@[simp] theorem State.updCap_so (s : State) (f : CapHid → CapHid) : (s.updCap f).so = s.so := rfl
@[simp] theorem State.updCap_pst (s : State) (f : CapHid → CapHid) : (s.updCap f).pst = s.pst := rfl
@[simp] theorem State.updCap_ib (s : State) (f : CapHid → CapHid) : (s.updCap f).ib = s.ib := rfl
@[simp] theorem State.updCap_adc (s : State) (f : CapHid → CapHid) : (s.updCap f).adc = s.adc := rfl
@[simp] theorem State.updCap_thm (s : State) (f : CapHid → CapHid) : (s.updCap f).thm = s.thm := rfl
@[simp] theorem State.updCap_nrg (s : State) (f : CapHid → CapHid) : (s.updCap f).nrg = s.nrg := rfl
@[simp] theorem State.updCap_pmb (s : State) (f : CapHid → CapHid) : (s.updCap f).pmb = s.pmb := rfl
@[simp] theorem State.updCap_cyc (s : State) (f : CapHid → CapHid) : (s.updCap f).cyc = s.cyc := rfl

/-! ### updPst -/

@[simp] theorem State.updPst_pending (s : State) (f : PstHid → PstHid) : (s.updPst f).pending = s.pending := rfl
@[simp] theorem State.updPst_now (s : State) (f : PstHid → PstHid) : (s.updPst f).now = s.now := rfl
@[simp] theorem State.updPst_por (s : State) (f : PstHid → PstHid) : (s.updPst f).por = s.por := rfl
@[simp] theorem State.updPst_ts (s : State) (f : PstHid → PstHid) : (s.updPst f).ts = s.ts := rfl
@[simp] theorem State.updPst_regs (s : State) (f : PstHid → PstHid) : (s.updPst f).regs = s.regs := rfl
@[simp] theorem State.updPst_fw (s : State) (f : PstHid → PstHid) : (s.updPst f).fw = s.fw := rfl
@[simp] theorem State.updPst_dat (s : State) (f : PstHid → PstHid) : (s.updPst f).dat = s.dat := rfl
@[simp] theorem State.updPst_coef (s : State) (f : PstHid → PstHid) : (s.updPst f).coef = s.coef := rfl
@[simp] theorem State.updPst_plan (s : State) (f : PstHid → PstHid) : (s.updPst f).plan = s.plan := rfl
@[simp] theorem State.updPst_book (s : State) (f : PstHid → PstHid) : (s.updPst f).book = s.book := rfl
@[simp] theorem State.updPst_tele (s : State) (f : PstHid → PstHid) : (s.updPst f).tele = s.tele := rfl
@[simp] theorem State.updPst_mem (s : State) (f : PstHid → PstHid) : (s.updPst f).mem = s.mem := rfl
@[simp] theorem State.updPst_bus (s : State) (f : PstHid → PstHid) : (s.updPst f).bus = s.bus := rfl
@[simp] theorem State.updPst_chans (s : State) (f : PstHid → PstHid) : (s.updPst f).chans = s.chans := rfl
@[simp] theorem State.updPst_core (s : State) (f : PstHid → PstHid) : (s.updPst f).core = s.core := rfl
@[simp] theorem State.updPst_boot (s : State) (f : PstHid → PstHid) : (s.updPst f).boot = s.boot := rfl
@[simp] theorem State.updPst_clk (s : State) (f : PstHid → PstHid) : (s.updPst f).clk = s.clk := rfl
@[simp] theorem State.updPst_pins (s : State) (f : PstHid → PstHid) : (s.updPst f).pins = s.pins := rfl
@[simp] theorem State.updPst_trv (s : State) (f : PstHid → PstHid) : (s.updPst f).trv = s.trv := rfl
@[simp] theorem State.updPst_cells (s : State) (f : PstHid → PstHid) : (s.updPst f).cells = s.cells := rfl
@[simp] theorem State.updPst_stns (s : State) (f : PstHid → PstHid) : (s.updPst f).stns = s.stns := rfl
@[simp] theorem State.updPst_tracts (s : State) (f : PstHid → PstHid) : (s.updPst f).tracts = s.tracts := rfl
@[simp] theorem State.updPst_loops (s : State) (f : PstHid → PstHid) : (s.updPst f).loops = s.loops := rfl
@[simp] theorem State.updPst_doms (s : State) (f : PstHid → PstHid) : (s.updPst f).doms = s.doms := rfl
@[simp] theorem State.updPst_cg (s : State) (f : PstHid → PstHid) : (s.updPst f).cg = s.cg := rfl
@[simp] theorem State.updPst_env (s : State) (f : PstHid → PstHid) : (s.updPst f).env = s.env := rfl
@[simp] theorem State.updPst_cap (s : State) (f : PstHid → PstHid) : (s.updPst f).cap = s.cap := rfl
@[simp] theorem State.updPst_so (s : State) (f : PstHid → PstHid) : (s.updPst f).so = s.so := rfl
@[simp] theorem State.updPst_ib (s : State) (f : PstHid → PstHid) : (s.updPst f).ib = s.ib := rfl
@[simp] theorem State.updPst_adc (s : State) (f : PstHid → PstHid) : (s.updPst f).adc = s.adc := rfl
@[simp] theorem State.updPst_thm (s : State) (f : PstHid → PstHid) : (s.updPst f).thm = s.thm := rfl
@[simp] theorem State.updPst_nrg (s : State) (f : PstHid → PstHid) : (s.updPst f).nrg = s.nrg := rfl
@[simp] theorem State.updPst_pmb (s : State) (f : PstHid → PstHid) : (s.updPst f).pmb = s.pmb := rfl
@[simp] theorem State.updPst_cyc (s : State) (f : PstHid → PstHid) : (s.updPst f).cyc = s.cyc := rfl

/-! ### updNrg -/

@[simp] theorem State.updNrg_pending (s : State) (f : NrgHid → NrgHid) : (s.updNrg f).pending = s.pending := rfl
@[simp] theorem State.updNrg_now (s : State) (f : NrgHid → NrgHid) : (s.updNrg f).now = s.now := rfl
@[simp] theorem State.updNrg_por (s : State) (f : NrgHid → NrgHid) : (s.updNrg f).por = s.por := rfl
@[simp] theorem State.updNrg_ts (s : State) (f : NrgHid → NrgHid) : (s.updNrg f).ts = s.ts := rfl
@[simp] theorem State.updNrg_regs (s : State) (f : NrgHid → NrgHid) : (s.updNrg f).regs = s.regs := rfl
@[simp] theorem State.updNrg_fw (s : State) (f : NrgHid → NrgHid) : (s.updNrg f).fw = s.fw := rfl
@[simp] theorem State.updNrg_dat (s : State) (f : NrgHid → NrgHid) : (s.updNrg f).dat = s.dat := rfl
@[simp] theorem State.updNrg_coef (s : State) (f : NrgHid → NrgHid) : (s.updNrg f).coef = s.coef := rfl
@[simp] theorem State.updNrg_plan (s : State) (f : NrgHid → NrgHid) : (s.updNrg f).plan = s.plan := rfl
@[simp] theorem State.updNrg_book (s : State) (f : NrgHid → NrgHid) : (s.updNrg f).book = s.book := rfl
@[simp] theorem State.updNrg_tele (s : State) (f : NrgHid → NrgHid) : (s.updNrg f).tele = s.tele := rfl
@[simp] theorem State.updNrg_mem (s : State) (f : NrgHid → NrgHid) : (s.updNrg f).mem = s.mem := rfl
@[simp] theorem State.updNrg_bus (s : State) (f : NrgHid → NrgHid) : (s.updNrg f).bus = s.bus := rfl
@[simp] theorem State.updNrg_chans (s : State) (f : NrgHid → NrgHid) : (s.updNrg f).chans = s.chans := rfl
@[simp] theorem State.updNrg_core (s : State) (f : NrgHid → NrgHid) : (s.updNrg f).core = s.core := rfl
@[simp] theorem State.updNrg_boot (s : State) (f : NrgHid → NrgHid) : (s.updNrg f).boot = s.boot := rfl
@[simp] theorem State.updNrg_clk (s : State) (f : NrgHid → NrgHid) : (s.updNrg f).clk = s.clk := rfl
@[simp] theorem State.updNrg_pins (s : State) (f : NrgHid → NrgHid) : (s.updNrg f).pins = s.pins := rfl
@[simp] theorem State.updNrg_trv (s : State) (f : NrgHid → NrgHid) : (s.updNrg f).trv = s.trv := rfl
@[simp] theorem State.updNrg_cells (s : State) (f : NrgHid → NrgHid) : (s.updNrg f).cells = s.cells := rfl
@[simp] theorem State.updNrg_stns (s : State) (f : NrgHid → NrgHid) : (s.updNrg f).stns = s.stns := rfl
@[simp] theorem State.updNrg_tracts (s : State) (f : NrgHid → NrgHid) : (s.updNrg f).tracts = s.tracts := rfl
@[simp] theorem State.updNrg_loops (s : State) (f : NrgHid → NrgHid) : (s.updNrg f).loops = s.loops := rfl
@[simp] theorem State.updNrg_doms (s : State) (f : NrgHid → NrgHid) : (s.updNrg f).doms = s.doms := rfl
@[simp] theorem State.updNrg_cg (s : State) (f : NrgHid → NrgHid) : (s.updNrg f).cg = s.cg := rfl
@[simp] theorem State.updNrg_env (s : State) (f : NrgHid → NrgHid) : (s.updNrg f).env = s.env := rfl
@[simp] theorem State.updNrg_cap (s : State) (f : NrgHid → NrgHid) : (s.updNrg f).cap = s.cap := rfl
@[simp] theorem State.updNrg_so (s : State) (f : NrgHid → NrgHid) : (s.updNrg f).so = s.so := rfl
@[simp] theorem State.updNrg_pst (s : State) (f : NrgHid → NrgHid) : (s.updNrg f).pst = s.pst := rfl
@[simp] theorem State.updNrg_ib (s : State) (f : NrgHid → NrgHid) : (s.updNrg f).ib = s.ib := rfl
@[simp] theorem State.updNrg_adc (s : State) (f : NrgHid → NrgHid) : (s.updNrg f).adc = s.adc := rfl
@[simp] theorem State.updNrg_thm (s : State) (f : NrgHid → NrgHid) : (s.updNrg f).thm = s.thm := rfl
@[simp] theorem State.updNrg_pmb (s : State) (f : NrgHid → NrgHid) : (s.updNrg f).pmb = s.pmb := rfl
@[simp] theorem State.updNrg_cyc (s : State) (f : NrgHid → NrgHid) : (s.updNrg f).cyc = s.cyc := rfl

/-! ### updTrv -/

@[simp] theorem State.updTrv_pending (s : State) (f : TrvHid → TrvHid) : (s.updTrv f).pending = s.pending := rfl
@[simp] theorem State.updTrv_now (s : State) (f : TrvHid → TrvHid) : (s.updTrv f).now = s.now := rfl
@[simp] theorem State.updTrv_por (s : State) (f : TrvHid → TrvHid) : (s.updTrv f).por = s.por := rfl
@[simp] theorem State.updTrv_ts (s : State) (f : TrvHid → TrvHid) : (s.updTrv f).ts = s.ts := rfl
@[simp] theorem State.updTrv_regs (s : State) (f : TrvHid → TrvHid) : (s.updTrv f).regs = s.regs := rfl
@[simp] theorem State.updTrv_fw (s : State) (f : TrvHid → TrvHid) : (s.updTrv f).fw = s.fw := rfl
@[simp] theorem State.updTrv_dat (s : State) (f : TrvHid → TrvHid) : (s.updTrv f).dat = s.dat := rfl
@[simp] theorem State.updTrv_coef (s : State) (f : TrvHid → TrvHid) : (s.updTrv f).coef = s.coef := rfl
@[simp] theorem State.updTrv_plan (s : State) (f : TrvHid → TrvHid) : (s.updTrv f).plan = s.plan := rfl
@[simp] theorem State.updTrv_book (s : State) (f : TrvHid → TrvHid) : (s.updTrv f).book = s.book := rfl
@[simp] theorem State.updTrv_tele (s : State) (f : TrvHid → TrvHid) : (s.updTrv f).tele = s.tele := rfl
@[simp] theorem State.updTrv_mem (s : State) (f : TrvHid → TrvHid) : (s.updTrv f).mem = s.mem := rfl
@[simp] theorem State.updTrv_bus (s : State) (f : TrvHid → TrvHid) : (s.updTrv f).bus = s.bus := rfl
@[simp] theorem State.updTrv_chans (s : State) (f : TrvHid → TrvHid) : (s.updTrv f).chans = s.chans := rfl
@[simp] theorem State.updTrv_core (s : State) (f : TrvHid → TrvHid) : (s.updTrv f).core = s.core := rfl
@[simp] theorem State.updTrv_boot (s : State) (f : TrvHid → TrvHid) : (s.updTrv f).boot = s.boot := rfl
@[simp] theorem State.updTrv_clk (s : State) (f : TrvHid → TrvHid) : (s.updTrv f).clk = s.clk := rfl
@[simp] theorem State.updTrv_pins (s : State) (f : TrvHid → TrvHid) : (s.updTrv f).pins = s.pins := rfl
@[simp] theorem State.updTrv_cells (s : State) (f : TrvHid → TrvHid) : (s.updTrv f).cells = s.cells := rfl
@[simp] theorem State.updTrv_stns (s : State) (f : TrvHid → TrvHid) : (s.updTrv f).stns = s.stns := rfl
@[simp] theorem State.updTrv_tracts (s : State) (f : TrvHid → TrvHid) : (s.updTrv f).tracts = s.tracts := rfl
@[simp] theorem State.updTrv_loops (s : State) (f : TrvHid → TrvHid) : (s.updTrv f).loops = s.loops := rfl
@[simp] theorem State.updTrv_doms (s : State) (f : TrvHid → TrvHid) : (s.updTrv f).doms = s.doms := rfl
@[simp] theorem State.updTrv_cg (s : State) (f : TrvHid → TrvHid) : (s.updTrv f).cg = s.cg := rfl
@[simp] theorem State.updTrv_env (s : State) (f : TrvHid → TrvHid) : (s.updTrv f).env = s.env := rfl
@[simp] theorem State.updTrv_cap (s : State) (f : TrvHid → TrvHid) : (s.updTrv f).cap = s.cap := rfl
@[simp] theorem State.updTrv_so (s : State) (f : TrvHid → TrvHid) : (s.updTrv f).so = s.so := rfl
@[simp] theorem State.updTrv_pst (s : State) (f : TrvHid → TrvHid) : (s.updTrv f).pst = s.pst := rfl
@[simp] theorem State.updTrv_ib (s : State) (f : TrvHid → TrvHid) : (s.updTrv f).ib = s.ib := rfl
@[simp] theorem State.updTrv_adc (s : State) (f : TrvHid → TrvHid) : (s.updTrv f).adc = s.adc := rfl
@[simp] theorem State.updTrv_thm (s : State) (f : TrvHid → TrvHid) : (s.updTrv f).thm = s.thm := rfl
@[simp] theorem State.updTrv_nrg (s : State) (f : TrvHid → TrvHid) : (s.updTrv f).nrg = s.nrg := rfl
@[simp] theorem State.updTrv_pmb (s : State) (f : TrvHid → TrvHid) : (s.updTrv f).pmb = s.pmb := rfl
@[simp] theorem State.updTrv_cyc (s : State) (f : TrvHid → TrvHid) : (s.updTrv f).cyc = s.cyc := rfl

/-! ### updPmb -/

@[simp] theorem State.updPmb_pending (s : State) (f : PmbHid → PmbHid) : (s.updPmb f).pending = s.pending := rfl
@[simp] theorem State.updPmb_now (s : State) (f : PmbHid → PmbHid) : (s.updPmb f).now = s.now := rfl
@[simp] theorem State.updPmb_por (s : State) (f : PmbHid → PmbHid) : (s.updPmb f).por = s.por := rfl
@[simp] theorem State.updPmb_ts (s : State) (f : PmbHid → PmbHid) : (s.updPmb f).ts = s.ts := rfl
@[simp] theorem State.updPmb_regs (s : State) (f : PmbHid → PmbHid) : (s.updPmb f).regs = s.regs := rfl
@[simp] theorem State.updPmb_fw (s : State) (f : PmbHid → PmbHid) : (s.updPmb f).fw = s.fw := rfl
@[simp] theorem State.updPmb_dat (s : State) (f : PmbHid → PmbHid) : (s.updPmb f).dat = s.dat := rfl
@[simp] theorem State.updPmb_coef (s : State) (f : PmbHid → PmbHid) : (s.updPmb f).coef = s.coef := rfl
@[simp] theorem State.updPmb_plan (s : State) (f : PmbHid → PmbHid) : (s.updPmb f).plan = s.plan := rfl
@[simp] theorem State.updPmb_book (s : State) (f : PmbHid → PmbHid) : (s.updPmb f).book = s.book := rfl
@[simp] theorem State.updPmb_tele (s : State) (f : PmbHid → PmbHid) : (s.updPmb f).tele = s.tele := rfl
@[simp] theorem State.updPmb_mem (s : State) (f : PmbHid → PmbHid) : (s.updPmb f).mem = s.mem := rfl
@[simp] theorem State.updPmb_bus (s : State) (f : PmbHid → PmbHid) : (s.updPmb f).bus = s.bus := rfl
@[simp] theorem State.updPmb_chans (s : State) (f : PmbHid → PmbHid) : (s.updPmb f).chans = s.chans := rfl
@[simp] theorem State.updPmb_core (s : State) (f : PmbHid → PmbHid) : (s.updPmb f).core = s.core := rfl
@[simp] theorem State.updPmb_boot (s : State) (f : PmbHid → PmbHid) : (s.updPmb f).boot = s.boot := rfl
@[simp] theorem State.updPmb_clk (s : State) (f : PmbHid → PmbHid) : (s.updPmb f).clk = s.clk := rfl
@[simp] theorem State.updPmb_pins (s : State) (f : PmbHid → PmbHid) : (s.updPmb f).pins = s.pins := rfl
@[simp] theorem State.updPmb_trv (s : State) (f : PmbHid → PmbHid) : (s.updPmb f).trv = s.trv := rfl
@[simp] theorem State.updPmb_cells (s : State) (f : PmbHid → PmbHid) : (s.updPmb f).cells = s.cells := rfl
@[simp] theorem State.updPmb_stns (s : State) (f : PmbHid → PmbHid) : (s.updPmb f).stns = s.stns := rfl
@[simp] theorem State.updPmb_tracts (s : State) (f : PmbHid → PmbHid) : (s.updPmb f).tracts = s.tracts := rfl
@[simp] theorem State.updPmb_loops (s : State) (f : PmbHid → PmbHid) : (s.updPmb f).loops = s.loops := rfl
@[simp] theorem State.updPmb_doms (s : State) (f : PmbHid → PmbHid) : (s.updPmb f).doms = s.doms := rfl
@[simp] theorem State.updPmb_cg (s : State) (f : PmbHid → PmbHid) : (s.updPmb f).cg = s.cg := rfl
@[simp] theorem State.updPmb_env (s : State) (f : PmbHid → PmbHid) : (s.updPmb f).env = s.env := rfl
@[simp] theorem State.updPmb_cap (s : State) (f : PmbHid → PmbHid) : (s.updPmb f).cap = s.cap := rfl
@[simp] theorem State.updPmb_so (s : State) (f : PmbHid → PmbHid) : (s.updPmb f).so = s.so := rfl
@[simp] theorem State.updPmb_pst (s : State) (f : PmbHid → PmbHid) : (s.updPmb f).pst = s.pst := rfl
@[simp] theorem State.updPmb_ib (s : State) (f : PmbHid → PmbHid) : (s.updPmb f).ib = s.ib := rfl
@[simp] theorem State.updPmb_adc (s : State) (f : PmbHid → PmbHid) : (s.updPmb f).adc = s.adc := rfl
@[simp] theorem State.updPmb_thm (s : State) (f : PmbHid → PmbHid) : (s.updPmb f).thm = s.thm := rfl
@[simp] theorem State.updPmb_nrg (s : State) (f : PmbHid → PmbHid) : (s.updPmb f).nrg = s.nrg := rfl
@[simp] theorem State.updPmb_cyc (s : State) (f : PmbHid → PmbHid) : (s.updPmb f).cyc = s.cyc := rfl

/-! ### updBoot -/

@[simp] theorem State.updBoot_pending (s : State) (f : BootHid → BootHid) : (s.updBoot f).pending = s.pending := rfl
@[simp] theorem State.updBoot_now (s : State) (f : BootHid → BootHid) : (s.updBoot f).now = s.now := rfl
@[simp] theorem State.updBoot_por (s : State) (f : BootHid → BootHid) : (s.updBoot f).por = s.por := rfl
@[simp] theorem State.updBoot_ts (s : State) (f : BootHid → BootHid) : (s.updBoot f).ts = s.ts := rfl
@[simp] theorem State.updBoot_regs (s : State) (f : BootHid → BootHid) : (s.updBoot f).regs = s.regs := rfl
@[simp] theorem State.updBoot_fw (s : State) (f : BootHid → BootHid) : (s.updBoot f).fw = s.fw := rfl
@[simp] theorem State.updBoot_dat (s : State) (f : BootHid → BootHid) : (s.updBoot f).dat = s.dat := rfl
@[simp] theorem State.updBoot_coef (s : State) (f : BootHid → BootHid) : (s.updBoot f).coef = s.coef := rfl
@[simp] theorem State.updBoot_plan (s : State) (f : BootHid → BootHid) : (s.updBoot f).plan = s.plan := rfl
@[simp] theorem State.updBoot_book (s : State) (f : BootHid → BootHid) : (s.updBoot f).book = s.book := rfl
@[simp] theorem State.updBoot_tele (s : State) (f : BootHid → BootHid) : (s.updBoot f).tele = s.tele := rfl
@[simp] theorem State.updBoot_mem (s : State) (f : BootHid → BootHid) : (s.updBoot f).mem = s.mem := rfl
@[simp] theorem State.updBoot_bus (s : State) (f : BootHid → BootHid) : (s.updBoot f).bus = s.bus := rfl
@[simp] theorem State.updBoot_chans (s : State) (f : BootHid → BootHid) : (s.updBoot f).chans = s.chans := rfl
@[simp] theorem State.updBoot_core (s : State) (f : BootHid → BootHid) : (s.updBoot f).core = s.core := rfl
@[simp] theorem State.updBoot_clk (s : State) (f : BootHid → BootHid) : (s.updBoot f).clk = s.clk := rfl
@[simp] theorem State.updBoot_pins (s : State) (f : BootHid → BootHid) : (s.updBoot f).pins = s.pins := rfl
@[simp] theorem State.updBoot_trv (s : State) (f : BootHid → BootHid) : (s.updBoot f).trv = s.trv := rfl
@[simp] theorem State.updBoot_cells (s : State) (f : BootHid → BootHid) : (s.updBoot f).cells = s.cells := rfl
@[simp] theorem State.updBoot_stns (s : State) (f : BootHid → BootHid) : (s.updBoot f).stns = s.stns := rfl
@[simp] theorem State.updBoot_tracts (s : State) (f : BootHid → BootHid) : (s.updBoot f).tracts = s.tracts := rfl
@[simp] theorem State.updBoot_loops (s : State) (f : BootHid → BootHid) : (s.updBoot f).loops = s.loops := rfl
@[simp] theorem State.updBoot_doms (s : State) (f : BootHid → BootHid) : (s.updBoot f).doms = s.doms := rfl
@[simp] theorem State.updBoot_cg (s : State) (f : BootHid → BootHid) : (s.updBoot f).cg = s.cg := rfl
@[simp] theorem State.updBoot_env (s : State) (f : BootHid → BootHid) : (s.updBoot f).env = s.env := rfl
@[simp] theorem State.updBoot_cap (s : State) (f : BootHid → BootHid) : (s.updBoot f).cap = s.cap := rfl
@[simp] theorem State.updBoot_so (s : State) (f : BootHid → BootHid) : (s.updBoot f).so = s.so := rfl
@[simp] theorem State.updBoot_pst (s : State) (f : BootHid → BootHid) : (s.updBoot f).pst = s.pst := rfl
@[simp] theorem State.updBoot_ib (s : State) (f : BootHid → BootHid) : (s.updBoot f).ib = s.ib := rfl
@[simp] theorem State.updBoot_adc (s : State) (f : BootHid → BootHid) : (s.updBoot f).adc = s.adc := rfl
@[simp] theorem State.updBoot_thm (s : State) (f : BootHid → BootHid) : (s.updBoot f).thm = s.thm := rfl
@[simp] theorem State.updBoot_nrg (s : State) (f : BootHid → BootHid) : (s.updBoot f).nrg = s.nrg := rfl
@[simp] theorem State.updBoot_pmb (s : State) (f : BootHid → BootHid) : (s.updBoot f).pmb = s.pmb := rfl
@[simp] theorem State.updBoot_cyc (s : State) (f : BootHid → BootHid) : (s.updBoot f).cyc = s.cyc := rfl

/-! ### updMem -/

@[simp] theorem State.updMem_pending (s : State) (f : MemHid → MemHid) : (s.updMem f).pending = s.pending := rfl
@[simp] theorem State.updMem_now (s : State) (f : MemHid → MemHid) : (s.updMem f).now = s.now := rfl
@[simp] theorem State.updMem_por (s : State) (f : MemHid → MemHid) : (s.updMem f).por = s.por := rfl
@[simp] theorem State.updMem_ts (s : State) (f : MemHid → MemHid) : (s.updMem f).ts = s.ts := rfl
@[simp] theorem State.updMem_regs (s : State) (f : MemHid → MemHid) : (s.updMem f).regs = s.regs := rfl
@[simp] theorem State.updMem_fw (s : State) (f : MemHid → MemHid) : (s.updMem f).fw = s.fw := rfl
@[simp] theorem State.updMem_dat (s : State) (f : MemHid → MemHid) : (s.updMem f).dat = s.dat := rfl
@[simp] theorem State.updMem_coef (s : State) (f : MemHid → MemHid) : (s.updMem f).coef = s.coef := rfl
@[simp] theorem State.updMem_plan (s : State) (f : MemHid → MemHid) : (s.updMem f).plan = s.plan := rfl
@[simp] theorem State.updMem_book (s : State) (f : MemHid → MemHid) : (s.updMem f).book = s.book := rfl
@[simp] theorem State.updMem_tele (s : State) (f : MemHid → MemHid) : (s.updMem f).tele = s.tele := rfl
@[simp] theorem State.updMem_bus (s : State) (f : MemHid → MemHid) : (s.updMem f).bus = s.bus := rfl
@[simp] theorem State.updMem_chans (s : State) (f : MemHid → MemHid) : (s.updMem f).chans = s.chans := rfl
@[simp] theorem State.updMem_core (s : State) (f : MemHid → MemHid) : (s.updMem f).core = s.core := rfl
@[simp] theorem State.updMem_boot (s : State) (f : MemHid → MemHid) : (s.updMem f).boot = s.boot := rfl
@[simp] theorem State.updMem_clk (s : State) (f : MemHid → MemHid) : (s.updMem f).clk = s.clk := rfl
@[simp] theorem State.updMem_pins (s : State) (f : MemHid → MemHid) : (s.updMem f).pins = s.pins := rfl
@[simp] theorem State.updMem_trv (s : State) (f : MemHid → MemHid) : (s.updMem f).trv = s.trv := rfl
@[simp] theorem State.updMem_cells (s : State) (f : MemHid → MemHid) : (s.updMem f).cells = s.cells := rfl
@[simp] theorem State.updMem_stns (s : State) (f : MemHid → MemHid) : (s.updMem f).stns = s.stns := rfl
@[simp] theorem State.updMem_tracts (s : State) (f : MemHid → MemHid) : (s.updMem f).tracts = s.tracts := rfl
@[simp] theorem State.updMem_loops (s : State) (f : MemHid → MemHid) : (s.updMem f).loops = s.loops := rfl
@[simp] theorem State.updMem_doms (s : State) (f : MemHid → MemHid) : (s.updMem f).doms = s.doms := rfl
@[simp] theorem State.updMem_cg (s : State) (f : MemHid → MemHid) : (s.updMem f).cg = s.cg := rfl
@[simp] theorem State.updMem_env (s : State) (f : MemHid → MemHid) : (s.updMem f).env = s.env := rfl
@[simp] theorem State.updMem_cap (s : State) (f : MemHid → MemHid) : (s.updMem f).cap = s.cap := rfl
@[simp] theorem State.updMem_so (s : State) (f : MemHid → MemHid) : (s.updMem f).so = s.so := rfl
@[simp] theorem State.updMem_pst (s : State) (f : MemHid → MemHid) : (s.updMem f).pst = s.pst := rfl
@[simp] theorem State.updMem_ib (s : State) (f : MemHid → MemHid) : (s.updMem f).ib = s.ib := rfl
@[simp] theorem State.updMem_adc (s : State) (f : MemHid → MemHid) : (s.updMem f).adc = s.adc := rfl
@[simp] theorem State.updMem_thm (s : State) (f : MemHid → MemHid) : (s.updMem f).thm = s.thm := rfl
@[simp] theorem State.updMem_nrg (s : State) (f : MemHid → MemHid) : (s.updMem f).nrg = s.nrg := rfl
@[simp] theorem State.updMem_pmb (s : State) (f : MemHid → MemHid) : (s.updMem f).pmb = s.pmb := rfl
@[simp] theorem State.updMem_cyc (s : State) (f : MemHid → MemHid) : (s.updMem f).cyc = s.cyc := rfl

end Sys2Proof.Machine
end

