-- ==== Sys2Proof/Laws/Events.lean ====
section
/-!
SUPPORT. Events: raising one changes registers, BOOK memory, the traverse and the pins, and nothing else.
-/

namespace Sys2Proof.Machine

/-- A state that differs from another in registers, BOOK memory, the traverse, the pins and the note of the instant at most. -/
def EvOnly (s t : State) : Prop := ∃ r b v p c, t = { s with regs := r, book := b, trv := v, pins := p, cyc := c }

theorem EvOnly.refl (s : State) : EvOnly s s := ⟨s.regs, s.book, s.trv, s.pins, s.cyc, rfl⟩

theorem EvOnly.trans {s t u : State} (h : EvOnly s t) (k : EvOnly t u) : EvOnly s u := by
  obtain ⟨r, b, v, p, c, rfl⟩ := h
  obtain ⟨r', b', v', p', c', rfl⟩ := k
  exact ⟨r', b', v', p', c', rfl⟩

theorem EvOnly.setReg {s t : State} (h : EvOnly s t) (o : Nat) (v : Word) : EvOnly s (t.setReg o v) :=
  h.trans ⟨_, _, _, _, _, rfl⟩

theorem EvOnly.put {s t : State} (h : EvOnly s t) (f : Fld) (n : Nat) : EvOnly s (t.put f n) := h.trans ⟨_, _, _, _, _, rfl⟩

theorem EvOnly.putB {s t : State} (h : EvOnly s t) (f : Fld) (b : Bool) : EvOnly s (t.putB f b) := h.trans ⟨_, _, _, _, _, rfl⟩

theorem EvOnly.addSat {s t : State} (h : EvOnly s t) (f : Fld) (n : Nat) : EvOnly s (t.addSat f n) := h.trans ⟨_, _, _, _, _, rfl⟩

theorem EvOnly.book {s t : State} (h : EvOnly s t) (b : List Host.Cell) : EvOnly s { t with book := b } := h.trans ⟨_, _, _, _, _, rfl⟩

theorem EvOnly.trv {s t : State} (h : EvOnly s t) (v : TrvHid) : EvOnly s { t with trv := v } := h.trans ⟨_, _, _, _, _, rfl⟩

theorem EvOnly.cyc {s t : State} (h : EvOnly s t) (c : CycHid) : EvOnly s { t with cyc := c } := h.trans ⟨_, _, _, _, _, rfl⟩

theorem EvOnly.markSet {s t : State} (h : EvOnly s t) (o : Nat) (m : Word) : EvOnly s (t.markSet o m) := h.cyc _

theorem EvOnly.pins {s t : State} (h : EvOnly s t) (p : PinHid) : EvOnly s { t with pins := p } := h.trans ⟨_, _, _, _, _, rfl⟩

theorem evOnly_enqueue (s : State) (l : Nat) (e : TxEntry) : EvOnly s (s.enqueue l e) := by
  unfold State.enqueue
  split
  · exact .refl s
  · exact (EvOnly.refl s).trv _

theorem evOnly_enqueueOn (s : State) (l : Nat) (w : Word64) (b : Bool) : EvOnly s (s.enqueueOn l w b) := by
  unfold State.enqueueOn
  dsimp only
  split
  · exact .refl s
  · exact (EvOnly.refl s).trv _

theorem evOnly_transmit (s : State) (l : Nat) (w : Word64) : EvOnly s (s.transmit l w) := by
  unfold State.transmit
  dsimp only
  split
  · exact (evOnly_enqueue s 0 _).trans (evOnly_enqueue _ 1 _)
  · exact evOnly_enqueueOn s 0 w true
  · exact evOnly_enqueueOn s 1 w true
  · exact evOnly_enqueue s _ _

theorem evOnly_originate (s : State) (l ty body : Nat) : EvOnly s (s.originate l ty body) := by
  unfold State.originate
  dsimp only
  split
  · exact (EvOnly.refl s).trv _
  · exact evOnly_transmit s _ _

theorem evOnly_broadcastFault (s : State) (e : Ev) (sev : Nat) : EvOnly s (s.broadcastFault e sev) := by
  unfold State.broadcastFault
  dsimp only
  split
  · exact (evOnly_originate s _ _ _).trv _
  · exact .refl s

theorem evOnly_evict (s : State) (b k : Nat) : EvOnly s (s.evict b k) := by
  unfold State.evict
  dsimp only
  apply EvOnly.put
  have h : EvOnly s (if s.memBad 4 (0x2000 + 16 * s.get fFLT_LOG_NEXT) 16 = true then s else
      { s with book := memPutBytes s.book (0x2000 + 16 * s.get fFLT_LOG_NEXT) (memBytes s.book (bookSlot b k) 16) }) := by
    split
    · exact .refl s
    · exact (EvOnly.refl s).book _
  split
  · exact h
  · exact h.putB _ _

theorem evOnly_record (s : State) (b : Nat) (w : Bool) (e : Entry) : EvOnly s (s.record b w e).1 := by
  have hl : EvOnly s (s.loseEvent b) := (EvOnly.refl s).addSat _ _
  have he : ∀ k, EvOnly s (if s.get (fBOOK_FILL b) = 8 then s.evict b k else s) := by
    intro k
    split
    · exact evOnly_evict s b k
    · exact .refl s
  unfold State.record
  dsimp only
  repeat' split
  all_goals first
    | exact hl
    | exact (EvOnly.refl s).book _
    | exact ((((EvOnly.refl s).book _).put _ _).put _ _).addSat _ _
    | exact ((((evOnly_evict s b _).book _).put _ _).put _ _).addSat _ _

theorem evOnly_note (s : State) (e : Ev) (i d : Nat) : EvOnly s (s.note e i d).1 := by
  have h : EvOnly s (s.setStat e) := ((EvOnly.refl s).setReg _ _).markSet _ _
  have h2 : EvOnly s (if s.stat e = true then s.setStat e else (s.setStat e).broadcastFault e (s.sevOf e)) := by
    split
    · exact h
    · exact h.trans (evOnly_broadcastFault _ _ _)
  unfold State.note
  exact h2.trans (evOnly_record _ _ _ _)

theorem evOnly_afterRecord {s : State} {p : State × Recorded} (h : EvOnly s p.1) : EvOnly s (State.afterRecord p) := by
  unfold State.afterRecord
  split
  · exact h
  · exact h.trans (evOnly_note _ _ _ _)
  · exact ((h.trans (evOnly_note _ _ _ _)).addSat _ _).trans (evOnly_note _ _ _ _)

theorem evOnly_driveFault (s : State) : EvOnly s s.driveFault := ((EvOnly.refl s).putB _ _).putB _ _

theorem evOnly_triggerPin (s : State) (r : Bool) (e : Entry) : EvOnly s (s.triggerPin r e) := by
  unfold State.triggerPin
  have hp : EvOnly s { s with
      cyc := { s.cyc with trigAt := s.now + 1 }
      pins := { s.pins with pulseDue := s.now + ceilN (s.get fFLT_CFG_PULSE * s.aon64) 64 } } := ⟨_, _, _, _, _, rfl⟩
  exact ((((hp.putB _ _).putB _ _).trans (evOnly_driveFault _)).setReg _ _).addSat _ _

theorem evOnly_pinPart (s : State) (r : Bool) (e : Entry) : EvOnly s (s.pinPart r e) := by
  unfold State.pinPart
  split
  · exact evOnly_afterRecord ((evOnly_triggerPin s r e).trans (evOnly_note _ _ _ _))
  · exact .refl s

theorem evOnly_rmwPin (s : State) (r : Recorded) : EvOnly s (s.rmwPin r) := by
  unfold State.rmwPin
  split
  · exact evOnly_pinPart _ _ _
  · exact .refl s

/-- Everything that raising an event can change: registers, BOOK memory, the traverse and the pins. -/
theorem evOnly_raiseD (s : State) (e : Ev) (i d : Nat) : EvOnly s (s.raiseD e i d) :=
  ((evOnly_afterRecord (evOnly_note s e i d)).trans (evOnly_pinPart _ _ _)).trans (evOnly_rmwPin _ _)

theorem evOnly_raise (s : State) (e : Ev) (i : Nat) : EvOnly s (s.raise e i) := evOnly_raiseD _ _ _ _

theorem evOnly_raiseIf (s : State) (c : Bool) (e : Ev) (i : Nat) : EvOnly s (s.raiseIf c e i) := by
  unfold State.raiseIf
  split
  · exact evOnly_raise s e i
  · exact .refl s

theorem EvOnly.pending_eq {s t : State} (h : EvOnly s t) : t.pending = s.pending := by obtain ⟨r, b, v, p, c, rfl⟩ := h; rfl
theorem EvOnly.now_eq {s t : State} (h : EvOnly s t) : t.now = s.now := by obtain ⟨r, b, v, p, c, rfl⟩ := h; rfl
theorem EvOnly.por_eq {s t : State} (h : EvOnly s t) : t.por = s.por := by obtain ⟨r, b, v, p, c, rfl⟩ := h; rfl
theorem EvOnly.ts_eq {s t : State} (h : EvOnly s t) : t.ts = s.ts := by obtain ⟨r, b, v, p, c, rfl⟩ := h; rfl
theorem EvOnly.fw_eq {s t : State} (h : EvOnly s t) : t.fw = s.fw := by obtain ⟨r, b, v, p, c, rfl⟩ := h; rfl
theorem EvOnly.dat_eq {s t : State} (h : EvOnly s t) : t.dat = s.dat := by obtain ⟨r, b, v, p, c, rfl⟩ := h; rfl
theorem EvOnly.coef_eq {s t : State} (h : EvOnly s t) : t.coef = s.coef := by obtain ⟨r, b, v, p, c, rfl⟩ := h; rfl
theorem EvOnly.plan_eq {s t : State} (h : EvOnly s t) : t.plan = s.plan := by obtain ⟨r, b, v, p, c, rfl⟩ := h; rfl
theorem EvOnly.tele_eq {s t : State} (h : EvOnly s t) : t.tele = s.tele := by obtain ⟨r, b, v, p, c, rfl⟩ := h; rfl
theorem EvOnly.mem_eq {s t : State} (h : EvOnly s t) : t.mem = s.mem := by obtain ⟨r, b, v, p, c, rfl⟩ := h; rfl
theorem EvOnly.bus_eq {s t : State} (h : EvOnly s t) : t.bus = s.bus := by obtain ⟨r, b, v, p, c, rfl⟩ := h; rfl
theorem EvOnly.chans_eq {s t : State} (h : EvOnly s t) : t.chans = s.chans := by obtain ⟨r, b, v, p, c, rfl⟩ := h; rfl
theorem EvOnly.core_eq {s t : State} (h : EvOnly s t) : t.core = s.core := by obtain ⟨r, b, v, p, c, rfl⟩ := h; rfl
theorem EvOnly.boot_eq {s t : State} (h : EvOnly s t) : t.boot = s.boot := by obtain ⟨r, b, v, p, c, rfl⟩ := h; rfl
theorem EvOnly.clk_eq {s t : State} (h : EvOnly s t) : t.clk = s.clk := by obtain ⟨r, b, v, p, c, rfl⟩ := h; rfl
theorem EvOnly.cells_eq {s t : State} (h : EvOnly s t) : t.cells = s.cells := by obtain ⟨r, b, v, p, c, rfl⟩ := h; rfl
theorem EvOnly.stns_eq {s t : State} (h : EvOnly s t) : t.stns = s.stns := by obtain ⟨r, b, v, p, c, rfl⟩ := h; rfl
theorem EvOnly.tracts_eq {s t : State} (h : EvOnly s t) : t.tracts = s.tracts := by obtain ⟨r, b, v, p, c, rfl⟩ := h; rfl
theorem EvOnly.loops_eq {s t : State} (h : EvOnly s t) : t.loops = s.loops := by obtain ⟨r, b, v, p, c, rfl⟩ := h; rfl
theorem EvOnly.doms_eq {s t : State} (h : EvOnly s t) : t.doms = s.doms := by obtain ⟨r, b, v, p, c, rfl⟩ := h; rfl
theorem EvOnly.cg_eq {s t : State} (h : EvOnly s t) : t.cg = s.cg := by obtain ⟨r, b, v, p, c, rfl⟩ := h; rfl
theorem EvOnly.env_eq {s t : State} (h : EvOnly s t) : t.env = s.env := by obtain ⟨r, b, v, p, c, rfl⟩ := h; rfl
theorem EvOnly.cap_eq {s t : State} (h : EvOnly s t) : t.cap = s.cap := by obtain ⟨r, b, v, p, c, rfl⟩ := h; rfl
theorem EvOnly.so_eq {s t : State} (h : EvOnly s t) : t.so = s.so := by obtain ⟨r, b, v, p, c, rfl⟩ := h; rfl
theorem EvOnly.pst_eq {s t : State} (h : EvOnly s t) : t.pst = s.pst := by obtain ⟨r, b, v, p, c, rfl⟩ := h; rfl
theorem EvOnly.ib_eq {s t : State} (h : EvOnly s t) : t.ib = s.ib := by obtain ⟨r, b, v, p, c, rfl⟩ := h; rfl
theorem EvOnly.adc_eq {s t : State} (h : EvOnly s t) : t.adc = s.adc := by obtain ⟨r, b, v, p, c, rfl⟩ := h; rfl
theorem EvOnly.thm_eq {s t : State} (h : EvOnly s t) : t.thm = s.thm := by obtain ⟨r, b, v, p, c, rfl⟩ := h; rfl
theorem EvOnly.nrg_eq {s t : State} (h : EvOnly s t) : t.nrg = s.nrg := by obtain ⟨r, b, v, p, c, rfl⟩ := h; rfl
theorem EvOnly.pmb_eq {s t : State} (h : EvOnly s t) : t.pmb = s.pmb := by obtain ⟨r, b, v, p, c, rfl⟩ := h; rfl

@[simp] theorem State.raiseD_pending (s : State) (e : Ev) (i d : Nat) : (s.raiseD e i d).pending = s.pending := (evOnly_raiseD s e i d).pending_eq
@[simp] theorem State.raiseD_now (s : State) (e : Ev) (i d : Nat) : (s.raiseD e i d).now = s.now := (evOnly_raiseD s e i d).now_eq
@[simp] theorem State.raiseD_por (s : State) (e : Ev) (i d : Nat) : (s.raiseD e i d).por = s.por := (evOnly_raiseD s e i d).por_eq
@[simp] theorem State.raiseD_ts (s : State) (e : Ev) (i d : Nat) : (s.raiseD e i d).ts = s.ts := (evOnly_raiseD s e i d).ts_eq
@[simp] theorem State.raiseD_fw (s : State) (e : Ev) (i d : Nat) : (s.raiseD e i d).fw = s.fw := (evOnly_raiseD s e i d).fw_eq
@[simp] theorem State.raiseD_dat (s : State) (e : Ev) (i d : Nat) : (s.raiseD e i d).dat = s.dat := (evOnly_raiseD s e i d).dat_eq
@[simp] theorem State.raiseD_coef (s : State) (e : Ev) (i d : Nat) : (s.raiseD e i d).coef = s.coef := (evOnly_raiseD s e i d).coef_eq
@[simp] theorem State.raiseD_plan (s : State) (e : Ev) (i d : Nat) : (s.raiseD e i d).plan = s.plan := (evOnly_raiseD s e i d).plan_eq
@[simp] theorem State.raiseD_tele (s : State) (e : Ev) (i d : Nat) : (s.raiseD e i d).tele = s.tele := (evOnly_raiseD s e i d).tele_eq
@[simp] theorem State.raiseD_mem (s : State) (e : Ev) (i d : Nat) : (s.raiseD e i d).mem = s.mem := (evOnly_raiseD s e i d).mem_eq
@[simp] theorem State.raiseD_bus (s : State) (e : Ev) (i d : Nat) : (s.raiseD e i d).bus = s.bus := (evOnly_raiseD s e i d).bus_eq
@[simp] theorem State.raiseD_chans (s : State) (e : Ev) (i d : Nat) : (s.raiseD e i d).chans = s.chans := (evOnly_raiseD s e i d).chans_eq
@[simp] theorem State.raiseD_core (s : State) (e : Ev) (i d : Nat) : (s.raiseD e i d).core = s.core := (evOnly_raiseD s e i d).core_eq
@[simp] theorem State.raiseD_boot (s : State) (e : Ev) (i d : Nat) : (s.raiseD e i d).boot = s.boot := (evOnly_raiseD s e i d).boot_eq
@[simp] theorem State.raiseD_clk (s : State) (e : Ev) (i d : Nat) : (s.raiseD e i d).clk = s.clk := (evOnly_raiseD s e i d).clk_eq
@[simp] theorem State.raiseD_cells (s : State) (e : Ev) (i d : Nat) : (s.raiseD e i d).cells = s.cells := (evOnly_raiseD s e i d).cells_eq
@[simp] theorem State.raiseD_stns (s : State) (e : Ev) (i d : Nat) : (s.raiseD e i d).stns = s.stns := (evOnly_raiseD s e i d).stns_eq
@[simp] theorem State.raiseD_tracts (s : State) (e : Ev) (i d : Nat) : (s.raiseD e i d).tracts = s.tracts := (evOnly_raiseD s e i d).tracts_eq
@[simp] theorem State.raiseD_loops (s : State) (e : Ev) (i d : Nat) : (s.raiseD e i d).loops = s.loops := (evOnly_raiseD s e i d).loops_eq
@[simp] theorem State.raiseD_doms (s : State) (e : Ev) (i d : Nat) : (s.raiseD e i d).doms = s.doms := (evOnly_raiseD s e i d).doms_eq
@[simp] theorem State.raiseD_cg (s : State) (e : Ev) (i d : Nat) : (s.raiseD e i d).cg = s.cg := (evOnly_raiseD s e i d).cg_eq
@[simp] theorem State.raiseD_env (s : State) (e : Ev) (i d : Nat) : (s.raiseD e i d).env = s.env := (evOnly_raiseD s e i d).env_eq
@[simp] theorem State.raiseD_cap (s : State) (e : Ev) (i d : Nat) : (s.raiseD e i d).cap = s.cap := (evOnly_raiseD s e i d).cap_eq
@[simp] theorem State.raiseD_so (s : State) (e : Ev) (i d : Nat) : (s.raiseD e i d).so = s.so := (evOnly_raiseD s e i d).so_eq
@[simp] theorem State.raiseD_pst (s : State) (e : Ev) (i d : Nat) : (s.raiseD e i d).pst = s.pst := (evOnly_raiseD s e i d).pst_eq
@[simp] theorem State.raiseD_ib (s : State) (e : Ev) (i d : Nat) : (s.raiseD e i d).ib = s.ib := (evOnly_raiseD s e i d).ib_eq
@[simp] theorem State.raiseD_adc (s : State) (e : Ev) (i d : Nat) : (s.raiseD e i d).adc = s.adc := (evOnly_raiseD s e i d).adc_eq
@[simp] theorem State.raiseD_thm (s : State) (e : Ev) (i d : Nat) : (s.raiseD e i d).thm = s.thm := (evOnly_raiseD s e i d).thm_eq
@[simp] theorem State.raiseD_nrg (s : State) (e : Ev) (i d : Nat) : (s.raiseD e i d).nrg = s.nrg := (evOnly_raiseD s e i d).nrg_eq
@[simp] theorem State.raiseD_pmb (s : State) (e : Ev) (i d : Nat) : (s.raiseD e i d).pmb = s.pmb := (evOnly_raiseD s e i d).pmb_eq

@[simp] theorem State.raise_pending (s : State) (e : Ev) (i : Nat) : (s.raise e i).pending = s.pending := (evOnly_raise s e i).pending_eq
@[simp] theorem State.raise_now (s : State) (e : Ev) (i : Nat) : (s.raise e i).now = s.now := (evOnly_raise s e i).now_eq
@[simp] theorem State.raise_por (s : State) (e : Ev) (i : Nat) : (s.raise e i).por = s.por := (evOnly_raise s e i).por_eq
@[simp] theorem State.raise_ts (s : State) (e : Ev) (i : Nat) : (s.raise e i).ts = s.ts := (evOnly_raise s e i).ts_eq
@[simp] theorem State.raise_fw (s : State) (e : Ev) (i : Nat) : (s.raise e i).fw = s.fw := (evOnly_raise s e i).fw_eq
@[simp] theorem State.raise_dat (s : State) (e : Ev) (i : Nat) : (s.raise e i).dat = s.dat := (evOnly_raise s e i).dat_eq
@[simp] theorem State.raise_coef (s : State) (e : Ev) (i : Nat) : (s.raise e i).coef = s.coef := (evOnly_raise s e i).coef_eq
@[simp] theorem State.raise_plan (s : State) (e : Ev) (i : Nat) : (s.raise e i).plan = s.plan := (evOnly_raise s e i).plan_eq
@[simp] theorem State.raise_tele (s : State) (e : Ev) (i : Nat) : (s.raise e i).tele = s.tele := (evOnly_raise s e i).tele_eq
@[simp] theorem State.raise_mem (s : State) (e : Ev) (i : Nat) : (s.raise e i).mem = s.mem := (evOnly_raise s e i).mem_eq
@[simp] theorem State.raise_bus (s : State) (e : Ev) (i : Nat) : (s.raise e i).bus = s.bus := (evOnly_raise s e i).bus_eq
@[simp] theorem State.raise_chans (s : State) (e : Ev) (i : Nat) : (s.raise e i).chans = s.chans := (evOnly_raise s e i).chans_eq
@[simp] theorem State.raise_core (s : State) (e : Ev) (i : Nat) : (s.raise e i).core = s.core := (evOnly_raise s e i).core_eq
@[simp] theorem State.raise_boot (s : State) (e : Ev) (i : Nat) : (s.raise e i).boot = s.boot := (evOnly_raise s e i).boot_eq
@[simp] theorem State.raise_clk (s : State) (e : Ev) (i : Nat) : (s.raise e i).clk = s.clk := (evOnly_raise s e i).clk_eq
@[simp] theorem State.raise_cells (s : State) (e : Ev) (i : Nat) : (s.raise e i).cells = s.cells := (evOnly_raise s e i).cells_eq
@[simp] theorem State.raise_stns (s : State) (e : Ev) (i : Nat) : (s.raise e i).stns = s.stns := (evOnly_raise s e i).stns_eq
@[simp] theorem State.raise_tracts (s : State) (e : Ev) (i : Nat) : (s.raise e i).tracts = s.tracts := (evOnly_raise s e i).tracts_eq
@[simp] theorem State.raise_loops (s : State) (e : Ev) (i : Nat) : (s.raise e i).loops = s.loops := (evOnly_raise s e i).loops_eq
@[simp] theorem State.raise_doms (s : State) (e : Ev) (i : Nat) : (s.raise e i).doms = s.doms := (evOnly_raise s e i).doms_eq
@[simp] theorem State.raise_cg (s : State) (e : Ev) (i : Nat) : (s.raise e i).cg = s.cg := (evOnly_raise s e i).cg_eq
@[simp] theorem State.raise_env (s : State) (e : Ev) (i : Nat) : (s.raise e i).env = s.env := (evOnly_raise s e i).env_eq
@[simp] theorem State.raise_cap (s : State) (e : Ev) (i : Nat) : (s.raise e i).cap = s.cap := (evOnly_raise s e i).cap_eq
@[simp] theorem State.raise_so (s : State) (e : Ev) (i : Nat) : (s.raise e i).so = s.so := (evOnly_raise s e i).so_eq
@[simp] theorem State.raise_pst (s : State) (e : Ev) (i : Nat) : (s.raise e i).pst = s.pst := (evOnly_raise s e i).pst_eq
@[simp] theorem State.raise_ib (s : State) (e : Ev) (i : Nat) : (s.raise e i).ib = s.ib := (evOnly_raise s e i).ib_eq
@[simp] theorem State.raise_adc (s : State) (e : Ev) (i : Nat) : (s.raise e i).adc = s.adc := (evOnly_raise s e i).adc_eq
@[simp] theorem State.raise_thm (s : State) (e : Ev) (i : Nat) : (s.raise e i).thm = s.thm := (evOnly_raise s e i).thm_eq
@[simp] theorem State.raise_nrg (s : State) (e : Ev) (i : Nat) : (s.raise e i).nrg = s.nrg := (evOnly_raise s e i).nrg_eq
@[simp] theorem State.raise_pmb (s : State) (e : Ev) (i : Nat) : (s.raise e i).pmb = s.pmb := (evOnly_raise s e i).pmb_eq

@[simp] theorem State.raiseIf_pending (s : State) (c : Bool) (e : Ev) (i : Nat) : (s.raiseIf c e i).pending = s.pending := (evOnly_raiseIf s c e i).pending_eq
@[simp] theorem State.raiseIf_now (s : State) (c : Bool) (e : Ev) (i : Nat) : (s.raiseIf c e i).now = s.now := (evOnly_raiseIf s c e i).now_eq
@[simp] theorem State.raiseIf_por (s : State) (c : Bool) (e : Ev) (i : Nat) : (s.raiseIf c e i).por = s.por := (evOnly_raiseIf s c e i).por_eq
@[simp] theorem State.raiseIf_ts (s : State) (c : Bool) (e : Ev) (i : Nat) : (s.raiseIf c e i).ts = s.ts := (evOnly_raiseIf s c e i).ts_eq
@[simp] theorem State.raiseIf_fw (s : State) (c : Bool) (e : Ev) (i : Nat) : (s.raiseIf c e i).fw = s.fw := (evOnly_raiseIf s c e i).fw_eq
@[simp] theorem State.raiseIf_dat (s : State) (c : Bool) (e : Ev) (i : Nat) : (s.raiseIf c e i).dat = s.dat := (evOnly_raiseIf s c e i).dat_eq
@[simp] theorem State.raiseIf_coef (s : State) (c : Bool) (e : Ev) (i : Nat) : (s.raiseIf c e i).coef = s.coef := (evOnly_raiseIf s c e i).coef_eq
@[simp] theorem State.raiseIf_plan (s : State) (c : Bool) (e : Ev) (i : Nat) : (s.raiseIf c e i).plan = s.plan := (evOnly_raiseIf s c e i).plan_eq
@[simp] theorem State.raiseIf_tele (s : State) (c : Bool) (e : Ev) (i : Nat) : (s.raiseIf c e i).tele = s.tele := (evOnly_raiseIf s c e i).tele_eq
@[simp] theorem State.raiseIf_mem (s : State) (c : Bool) (e : Ev) (i : Nat) : (s.raiseIf c e i).mem = s.mem := (evOnly_raiseIf s c e i).mem_eq
@[simp] theorem State.raiseIf_bus (s : State) (c : Bool) (e : Ev) (i : Nat) : (s.raiseIf c e i).bus = s.bus := (evOnly_raiseIf s c e i).bus_eq
@[simp] theorem State.raiseIf_chans (s : State) (c : Bool) (e : Ev) (i : Nat) : (s.raiseIf c e i).chans = s.chans := (evOnly_raiseIf s c e i).chans_eq
@[simp] theorem State.raiseIf_core (s : State) (c : Bool) (e : Ev) (i : Nat) : (s.raiseIf c e i).core = s.core := (evOnly_raiseIf s c e i).core_eq
@[simp] theorem State.raiseIf_boot (s : State) (c : Bool) (e : Ev) (i : Nat) : (s.raiseIf c e i).boot = s.boot := (evOnly_raiseIf s c e i).boot_eq
@[simp] theorem State.raiseIf_clk (s : State) (c : Bool) (e : Ev) (i : Nat) : (s.raiseIf c e i).clk = s.clk := (evOnly_raiseIf s c e i).clk_eq
@[simp] theorem State.raiseIf_cells (s : State) (c : Bool) (e : Ev) (i : Nat) : (s.raiseIf c e i).cells = s.cells := (evOnly_raiseIf s c e i).cells_eq
@[simp] theorem State.raiseIf_stns (s : State) (c : Bool) (e : Ev) (i : Nat) : (s.raiseIf c e i).stns = s.stns := (evOnly_raiseIf s c e i).stns_eq
@[simp] theorem State.raiseIf_tracts (s : State) (c : Bool) (e : Ev) (i : Nat) : (s.raiseIf c e i).tracts = s.tracts := (evOnly_raiseIf s c e i).tracts_eq
@[simp] theorem State.raiseIf_loops (s : State) (c : Bool) (e : Ev) (i : Nat) : (s.raiseIf c e i).loops = s.loops := (evOnly_raiseIf s c e i).loops_eq
@[simp] theorem State.raiseIf_doms (s : State) (c : Bool) (e : Ev) (i : Nat) : (s.raiseIf c e i).doms = s.doms := (evOnly_raiseIf s c e i).doms_eq
@[simp] theorem State.raiseIf_cg (s : State) (c : Bool) (e : Ev) (i : Nat) : (s.raiseIf c e i).cg = s.cg := (evOnly_raiseIf s c e i).cg_eq
@[simp] theorem State.raiseIf_env (s : State) (c : Bool) (e : Ev) (i : Nat) : (s.raiseIf c e i).env = s.env := (evOnly_raiseIf s c e i).env_eq
@[simp] theorem State.raiseIf_cap (s : State) (c : Bool) (e : Ev) (i : Nat) : (s.raiseIf c e i).cap = s.cap := (evOnly_raiseIf s c e i).cap_eq
@[simp] theorem State.raiseIf_so (s : State) (c : Bool) (e : Ev) (i : Nat) : (s.raiseIf c e i).so = s.so := (evOnly_raiseIf s c e i).so_eq
@[simp] theorem State.raiseIf_pst (s : State) (c : Bool) (e : Ev) (i : Nat) : (s.raiseIf c e i).pst = s.pst := (evOnly_raiseIf s c e i).pst_eq
@[simp] theorem State.raiseIf_ib (s : State) (c : Bool) (e : Ev) (i : Nat) : (s.raiseIf c e i).ib = s.ib := (evOnly_raiseIf s c e i).ib_eq
@[simp] theorem State.raiseIf_adc (s : State) (c : Bool) (e : Ev) (i : Nat) : (s.raiseIf c e i).adc = s.adc := (evOnly_raiseIf s c e i).adc_eq
@[simp] theorem State.raiseIf_thm (s : State) (c : Bool) (e : Ev) (i : Nat) : (s.raiseIf c e i).thm = s.thm := (evOnly_raiseIf s c e i).thm_eq
@[simp] theorem State.raiseIf_nrg (s : State) (c : Bool) (e : Ev) (i : Nat) : (s.raiseIf c e i).nrg = s.nrg := (evOnly_raiseIf s c e i).nrg_eq
@[simp] theorem State.raiseIf_pmb (s : State) (c : Bool) (e : Ev) (i : Nat) : (s.raiseIf c e i).pmb = s.pmb := (evOnly_raiseIf s c e i).pmb_eq

@[simp] theorem State.originate_pending (s : State) (l ty body : Nat) : (s.originate l ty body).pending = s.pending := (evOnly_originate s l ty body).pending_eq
@[simp] theorem State.originate_now (s : State) (l ty body : Nat) : (s.originate l ty body).now = s.now := (evOnly_originate s l ty body).now_eq
@[simp] theorem State.originate_por (s : State) (l ty body : Nat) : (s.originate l ty body).por = s.por := (evOnly_originate s l ty body).por_eq
@[simp] theorem State.originate_ts (s : State) (l ty body : Nat) : (s.originate l ty body).ts = s.ts := (evOnly_originate s l ty body).ts_eq
@[simp] theorem State.originate_fw (s : State) (l ty body : Nat) : (s.originate l ty body).fw = s.fw := (evOnly_originate s l ty body).fw_eq
@[simp] theorem State.originate_dat (s : State) (l ty body : Nat) : (s.originate l ty body).dat = s.dat := (evOnly_originate s l ty body).dat_eq
@[simp] theorem State.originate_coef (s : State) (l ty body : Nat) : (s.originate l ty body).coef = s.coef := (evOnly_originate s l ty body).coef_eq
@[simp] theorem State.originate_plan (s : State) (l ty body : Nat) : (s.originate l ty body).plan = s.plan := (evOnly_originate s l ty body).plan_eq
@[simp] theorem State.originate_tele (s : State) (l ty body : Nat) : (s.originate l ty body).tele = s.tele := (evOnly_originate s l ty body).tele_eq
@[simp] theorem State.originate_mem (s : State) (l ty body : Nat) : (s.originate l ty body).mem = s.mem := (evOnly_originate s l ty body).mem_eq
@[simp] theorem State.originate_bus (s : State) (l ty body : Nat) : (s.originate l ty body).bus = s.bus := (evOnly_originate s l ty body).bus_eq
@[simp] theorem State.originate_chans (s : State) (l ty body : Nat) : (s.originate l ty body).chans = s.chans := (evOnly_originate s l ty body).chans_eq
@[simp] theorem State.originate_core (s : State) (l ty body : Nat) : (s.originate l ty body).core = s.core := (evOnly_originate s l ty body).core_eq
@[simp] theorem State.originate_boot (s : State) (l ty body : Nat) : (s.originate l ty body).boot = s.boot := (evOnly_originate s l ty body).boot_eq
@[simp] theorem State.originate_clk (s : State) (l ty body : Nat) : (s.originate l ty body).clk = s.clk := (evOnly_originate s l ty body).clk_eq
@[simp] theorem State.originate_cells (s : State) (l ty body : Nat) : (s.originate l ty body).cells = s.cells := (evOnly_originate s l ty body).cells_eq
@[simp] theorem State.originate_stns (s : State) (l ty body : Nat) : (s.originate l ty body).stns = s.stns := (evOnly_originate s l ty body).stns_eq
@[simp] theorem State.originate_tracts (s : State) (l ty body : Nat) : (s.originate l ty body).tracts = s.tracts := (evOnly_originate s l ty body).tracts_eq
@[simp] theorem State.originate_loops (s : State) (l ty body : Nat) : (s.originate l ty body).loops = s.loops := (evOnly_originate s l ty body).loops_eq
@[simp] theorem State.originate_doms (s : State) (l ty body : Nat) : (s.originate l ty body).doms = s.doms := (evOnly_originate s l ty body).doms_eq
@[simp] theorem State.originate_cg (s : State) (l ty body : Nat) : (s.originate l ty body).cg = s.cg := (evOnly_originate s l ty body).cg_eq
@[simp] theorem State.originate_env (s : State) (l ty body : Nat) : (s.originate l ty body).env = s.env := (evOnly_originate s l ty body).env_eq
@[simp] theorem State.originate_cap (s : State) (l ty body : Nat) : (s.originate l ty body).cap = s.cap := (evOnly_originate s l ty body).cap_eq
@[simp] theorem State.originate_so (s : State) (l ty body : Nat) : (s.originate l ty body).so = s.so := (evOnly_originate s l ty body).so_eq
@[simp] theorem State.originate_pst (s : State) (l ty body : Nat) : (s.originate l ty body).pst = s.pst := (evOnly_originate s l ty body).pst_eq
@[simp] theorem State.originate_ib (s : State) (l ty body : Nat) : (s.originate l ty body).ib = s.ib := (evOnly_originate s l ty body).ib_eq
@[simp] theorem State.originate_adc (s : State) (l ty body : Nat) : (s.originate l ty body).adc = s.adc := (evOnly_originate s l ty body).adc_eq
@[simp] theorem State.originate_thm (s : State) (l ty body : Nat) : (s.originate l ty body).thm = s.thm := (evOnly_originate s l ty body).thm_eq
@[simp] theorem State.originate_nrg (s : State) (l ty body : Nat) : (s.originate l ty body).nrg = s.nrg := (evOnly_originate s l ty body).nrg_eq
@[simp] theorem State.originate_pmb (s : State) (l ty body : Nat) : (s.originate l ty body).pmb = s.pmb := (evOnly_originate s l ty body).pmb_eq

end Sys2Proof.Machine
end

