-- ==== Sys2Proof/Laws/EventRegs.lean ====
section
/-!
SUPPORT. Which registers an event changes: those of eventRegs and no other; a status bit that an event sets stays set.
-/

namespace Sys2Proof.Machine

/-- Every register outside a list reads the same in two states. -/
def SameRegs (s t : State) (l : List Nat) : Prop := ∀ o, o ∉ l → t.reg o = s.reg o

theorem SameRegs.refl (s : State) (l : List Nat) : SameRegs s s l := fun _ _ => rfl

theorem SameRegs.trans {s t u : State} {l : List Nat} (h : SameRegs s t l) (k : SameRegs t u l) : SameRegs s u l :=
  fun o ho => (k o ho).trans (h o ho)

theorem SameRegs.mono {s t : State} {l m : List Nat} (h : SameRegs s t l) (hs : l ⊆ m) : SameRegs s t m :=
  fun o ho => h o fun hm => ho (hs hm)

theorem SameRegs.setReg {s t : State} {l : List Nat} (h : SameRegs s t l) {o : Nat} (v : Word) (ho : o ∈ l) :
    SameRegs s (t.setReg o v) l := fun x hx => by
  rw [reg_setReg_ne _ _ _ _ (by rintro rfl; exact hx ho)]
  exact h x hx

theorem SameRegs.put {s t : State} {l : List Nat} (h : SameRegs s t l) {f : Fld} (n : Nat) (ho : f.off ∈ l) :
    SameRegs s (t.put f n) l := h.setReg _ ho

theorem SameRegs.putB {s t : State} {l : List Nat} (h : SameRegs s t l) {f : Fld} (b : Bool) (ho : f.off ∈ l) :
    SameRegs s (t.putB f b) l := h.setReg _ ho

theorem SameRegs.addSat {s t : State} {l : List Nat} (h : SameRegs s t l) {f : Fld} (n : Nat) (ho : f.off ∈ l) :
    SameRegs s (t.addSat f n) l := h.setReg _ ho

theorem SameRegs.ofRegs {s t u : State} {l : List Nat} (h : SameRegs s t l) (e : u.regs = t.regs) : SameRegs s u l :=
  fun o ho => by
    have : u.reg o = t.reg o := by unfold State.reg; rw [e]
    rw [this]; exact h o ho

theorem regs_enqueue (s : State) (l : Nat) (e : TxEntry) : (s.enqueue l e).regs = s.regs := by
  unfold State.enqueue; split <;> rfl

theorem regs_enqueueOn (s : State) (l : Nat) (w : Word64) (b : Bool) : (s.enqueueOn l w b).regs = s.regs := by
  unfold State.enqueueOn; dsimp only; split <;> rfl

theorem regs_transmit (s : State) (l : Nat) (w : Word64) : (s.transmit l w).regs = s.regs := by
  unfold State.transmit
  dsimp only
  split
  · rw [regs_enqueue, regs_enqueue]
  · exact regs_enqueueOn _ _ _ _
  · exact regs_enqueueOn _ _ _ _
  · rw [regs_enqueue]

theorem regs_originate (s : State) (l ty body : Nat) : (s.originate l ty body).regs = s.regs := by
  unfold State.originate
  dsimp only
  split
  · rfl
  · exact regs_transmit _ _ _

theorem regs_broadcastFault (s : State) (e : Ev) (sev : Nat) : (s.broadcastFault e sev).regs = s.regs := by
  unfold State.broadcastFault
  dsimp only
  split
  · exact regs_originate _ _ _ _
  · rfl

theorem sameRegs_evict (s : State) (b k : Nat) : SameRegs s (s.evict b k) [FLT_LOG] := by
  unfold State.evict
  dsimp only
  have h : SameRegs s (if s.memBad 4 (0x2000 + 16 * s.get fFLT_LOG_NEXT) 16 = true then s else
      { s with book := memPutBytes s.book (0x2000 + 16 * s.get fFLT_LOG_NEXT) (memBytes s.book (bookSlot b k) 16) }) [FLT_LOG] := by
    split
    · exact .refl s _
    · exact (SameRegs.refl s _).ofRegs rfl
  refine SameRegs.put ?_ _ (by simp)
  split
  · exact h
  · exact h.putB _ (by simp)

theorem sameRegs_record (s : State) (b : Nat) (w : Bool) (e : Entry) : SameRegs s (s.record b w e).1 [bookReg b, FLT_LOG] := by
  have hl : SameRegs s (s.loseEvent b) [bookReg b, FLT_LOG] := (SameRegs.refl s _).addSat _ (by simp [fBOOK_LOST])
  have key : ∀ (u : State) (bk : List Host.Cell) (slot fill : Nat), SameRegs s u [bookReg b, FLT_LOG] →
      SameRegs s (((({ u with book := bk } : State).put (fBOOK_HEAD b) slot).put (fBOOK_FILL b) fill).addSat (fBOOK_COUNT b) 1) [bookReg b, FLT_LOG] := by
    intro u bk slot fill h
    exact (((h.ofRegs (u := { u with book := bk }) rfl).put _ (by simp [fBOOK_HEAD])).put _ (by simp [fBOOK_FILL])).addSat _ (by simp [fBOOK_COUNT])
  unfold State.record
  dsimp only
  repeat' split
  all_goals first
    | exact hl
    | exact (SameRegs.refl s _).ofRegs rfl
    | exact key _ _ _ _ (.refl s _)
    | exact key _ _ _ _ ((sameRegs_evict s b _).mono (by simp))

theorem sameRegs_note (s : State) (e : Ev) (i d : Nat) : SameRegs s (s.note e i d).1 [blockBase e.block, bookReg e.block, FLT_LOG] := by
  have h : SameRegs s (s.setStat e) [blockBase e.block, bookReg e.block, FLT_LOG] := ((SameRegs.refl s _).setReg _ (by simp)).ofRegs rfl
  have h2 : SameRegs s (if s.stat e = true then s.setStat e else (s.setStat e).broadcastFault e (s.sevOf e)) [blockBase e.block, bookReg e.block, FLT_LOG] := by
    split
    · exact h
    · exact h.ofRegs (regs_broadcastFault _ _ _)
  unfold State.note
  exact h2.trans ((sameRegs_record _ _ _ _).mono (by simp))

/-- The registers of the events that follow others: BOOK_LOST, ASSERTED and UNCORR of BOOK memory. -/
def tailRegs : List Nat := [blockBase 18, bookReg 18, blockBase 20, bookReg 20, FLT_LOG, MEM_MSTAT 4]

theorem sameRegs_afterRecord {s : State} {p : State × Recorded} {l : List Nat} (h : SameRegs s p.1 l) (hl : tailRegs ⊆ l) :
    SameRegs s (State.afterRecord p) l := by
  have hn : ∀ u, SameRegs u (u.note evFLT_BOOK_LOST 0xFFFF 0).1 l := fun u =>
    (sameRegs_note u _ _ _).mono fun x hx => hl (by revert hx; simp only [tailRegs, List.mem_cons, List.not_mem_nil]; tauto)
  unfold State.afterRecord
  split
  · exact h
  · exact h.trans (hn _)
  · refine SameRegs.trans (SameRegs.addSat (f := fMEM_MSTAT_UNCORR 4) (h.trans (hn _)) 1 (hl (by simp [tailRegs]))) ?_
    exact (sameRegs_note _ _ _ _).mono fun x hx => hl (by revert hx; simp only [tailRegs, List.mem_cons, List.not_mem_nil]; tauto)

theorem sameRegs_triggerPin (s : State) (r : Bool) (e : Entry) : SameRegs s (s.triggerPin r e) [FLT_PIN, FLT_LAST, FLT_COUNT] := by
  unfold State.triggerPin State.driveFault
  dsimp only
  refine SameRegs.addSat (SameRegs.setReg (SameRegs.putB (SameRegs.putB (SameRegs.putB (SameRegs.putB ?_ _ ?_) _ ?_) _ ?_) _ ?_) _ ?_) _ ?_
  · exact (SameRegs.refl s _).ofRegs rfl
  all_goals simp

theorem sameRegs_pinPart (s : State) (r : Bool) (e : Entry) : SameRegs s (s.pinPart r e) (tailRegs ++ [FLT_PIN, FLT_LAST, FLT_COUNT]) := by
  unfold State.pinPart
  split
  · refine sameRegs_afterRecord ?_ (by simp)
    exact ((sameRegs_triggerPin s r e).mono (by simp)).trans ((sameRegs_note _ _ _ _).mono (by simp [tailRegs]))
  · exact .refl s _

theorem sameRegs_rmwPin (s : State) (r : Recorded) : SameRegs s (s.rmwPin r) (tailRegs ++ [FLT_PIN, FLT_LAST, FLT_COUNT]) := by
  unfold State.rmwPin
  split
  · exact sameRegs_pinPart _ _ _
  · exact .refl s _

/-- An event changes no register outside eventRegs. -/
theorem sameRegs_raiseD (s : State) (e : Ev) (i d : Nat) : SameRegs s (s.raiseD e i d) (eventRegs e.block) := by
  have h1 : [blockBase e.block, bookReg e.block, FLT_LOG] ⊆ eventRegs e.block := by
    intro x; simp only [eventRegs, List.mem_cons, List.not_mem_nil]; tauto
  have h2 : tailRegs ⊆ eventRegs e.block := by
    intro x; simp only [eventRegs, tailRegs, List.mem_cons, List.not_mem_nil]; tauto
  have h3 : tailRegs ++ [FLT_PIN, FLT_LAST, FLT_COUNT] ⊆ eventRegs e.block := by
    intro x; simp only [eventRegs, tailRegs, List.mem_append, List.mem_cons, List.not_mem_nil]; tauto
  exact ((sameRegs_afterRecord ((sameRegs_note s e i d).mono h1) h2).trans ((sameRegs_pinPart _ _ _).mono h3)).trans
    ((sameRegs_rmwPin _ _).mono h3)

theorem sameRegs_raise (s : State) (e : Ev) (i : Nat) : SameRegs s (s.raise e i) (eventRegs e.block) := sameRegs_raiseD _ _ _ _

theorem sameRegs_raiseIf (s : State) (c : Bool) (e : Ev) (i : Nat) : SameRegs s (s.raiseIf c e i) (eventRegs e.block) := by
  unfold State.raiseIf
  split
  · exact sameRegs_raise _ _ _
  · exact .refl s _

theorem get_sameRegs {s t : State} {l : List Nat} (h : SameRegs s t l) (f : Fld) (hf : f.off ∉ l) : t.get f = s.get f := by
  unfold State.get; rw [h _ hf]

/-! ### Status bits stay set -/

theorem blockBase_mod (n : Nat) : blockBase n % 1024 = 0 := by
  unfold blockBase
  split <;> rfl

theorem stat_of_reg {s t : State} (e : Ev) (h : t.reg (blockBase e.block) = s.reg (blockBase e.block)) : t.stat e = s.stat e := by
  unfold State.stat; rw [h]

theorem stat_sameRegs {s t : State} {l : List Nat} (e : Ev) (h : SameRegs s t l) (hl : ∀ x ∈ l, x % 1024 ≠ 0) : t.stat e = s.stat e :=
  stat_of_reg e (h _ fun hm => hl _ hm (blockBase_mod _))

theorem bitsAt_or_bit (v : Word) (b : Nat) (hb : b < 32) : bitsAt (v ||| BitVec.ofNat 32 (2 ^ b)) b 1 ≠ 0 := by
  intro h
  have := testBit_bitsAt (v ||| BitVec.ofNat 32 (2 ^ b)) b 1 0
  rw [h, Nat.add_zero, BitVec.getLsbD_or, BitVec.getLsbD_ofNat, Nat.testBit_two_pow_self, decide_eq_true hb] at this
  simp at this

theorem bitsAt_or_keeps (v w : Word) (b : Nat) (h : bitsAt v b 1 ≠ 0) : bitsAt (v ||| w) b 1 ≠ 0 := by
  have hv : v.getLsbD b = true := by
    by_contra hc
    apply h
    apply Nat.eq_of_testBit_eq
    intro i
    rw [testBit_bitsAt]
    by_cases hi : i < 1
    · have : i = 0 := by omega
      subst this
      simpa using hc
    · simp [hi]
  intro hz
  have := testBit_bitsAt (v ||| w) b 1 0
  rw [hz] at this
  simp [BitVec.getLsbD_or, hv] at this

@[simp] theorem State.markSet_reg (s : State) (o : Nat) (m : Word) (x : Nat) : (s.markSet o m).reg x = s.reg x := rfl

theorem stat_setStat_same (s : State) (e : Ev) (hb : e.bit < 32) : (s.setStat e).stat e = true := by
  unfold State.stat State.setStat
  simp only [State.markSet_reg, reg_setReg_same]
  simpa using bitsAt_or_bit _ _ hb

theorem stat_setStat_keeps (s : State) (e f : Ev) (h : s.stat f = true) : (s.setStat e).stat f = true := by
  unfold State.stat State.setStat at *
  simp only [State.markSet_reg, reg_setReg]
  split
  · rename_i hb
    rw [← hb]
    simpa using bitsAt_or_keeps _ _ _ (by simpa using h)
  · exact h

theorem stat_record (s : State) (b : Nat) (w : Bool) (e : Entry) (f : Ev) : (s.record b w e).1.stat f = s.stat f :=
  stat_sameRegs f (sameRegs_record s b w e) (by
    intro x hx
    have := blockBase_mod b
    simp only [List.mem_cons, List.not_mem_nil, or_false] at hx
    rcases hx with rfl | rfl
    · unfold bookReg; omega
    · decide)

theorem stat_broadcastFault (s : State) (e f : Ev) (sev : Nat) : (s.broadcastFault e sev).stat f = s.stat f :=
  stat_of_reg f (by unfold State.reg; rw [regs_broadcastFault])

theorem stat_note_keeps (s : State) (e f : Ev) (i d : Nat) (h : s.stat f = true) : (s.note e i d).1.stat f = true := by
  unfold State.note
  dsimp only
  rw [stat_record]
  split
  · exact stat_setStat_keeps _ _ _ h
  · rw [stat_broadcastFault]; exact stat_setStat_keeps _ _ _ h

theorem stat_note_same (s : State) (e : Ev) (i d : Nat) (hb : e.bit < 32) : (s.note e i d).1.stat e = true := by
  unfold State.note
  dsimp only
  rw [stat_record]
  split
  · exact stat_setStat_same _ _ hb
  · rw [stat_broadcastFault]; exact stat_setStat_same _ _ hb

theorem stat_addSat (s : State) (g : Fld) (n : Nat) (f : Ev) (hg : g.off % 1024 ≠ 0) : (s.addSat g n).stat f = s.stat f :=
  stat_sameRegs (l := [g.off]) f ((SameRegs.refl s _).addSat _ (by simp)) (by simpa using hg)

theorem stat_afterRecord_keeps (p : State × Recorded) (f : Ev) (h : p.1.stat f = true) : (State.afterRecord p).stat f = true := by
  unfold State.afterRecord
  split
  · exact h
  · exact stat_note_keeps _ _ _ _ _ h
  · exact stat_note_keeps _ _ _ _ _ (by rw [stat_addSat _ _ _ _ (by decide)]; exact stat_note_keeps _ _ _ _ _ h)

theorem stat_pinPart_keeps (s : State) (r : Bool) (x : Entry) (f : Ev) (h : s.stat f = true) : (s.pinPart r x).stat f = true := by
  unfold State.pinPart
  split
  · apply stat_afterRecord_keeps
    apply stat_note_keeps
    rw [stat_sameRegs f (sameRegs_triggerPin s r x) (by decide)]
    exact h
  · exact h

theorem stat_rmwPin_keeps (s : State) (r : Recorded) (f : Ev) (h : s.stat f = true) : (s.rmwPin r).stat f = true := by
  unfold State.rmwPin
  split
  · exact stat_pinPart_keeps _ _ _ _ h
  · exact h

/-- An event clears no status bit. -/
theorem stat_raiseD_keeps (s : State) (e f : Ev) (i d : Nat) (h : s.stat f = true) : (s.raiseD e i d).stat f = true :=
  stat_rmwPin_keeps _ _ _ (stat_pinPart_keeps _ _ _ _ (stat_afterRecord_keeps _ _ (stat_note_keeps _ _ _ _ _ h)))

/-- An event sets its status bit. -/
theorem stat_raiseD_same (s : State) (e : Ev) (i d : Nat) (hb : e.bit < 32) : (s.raiseD e i d).stat e = true :=
  stat_rmwPin_keeps _ _ _ (stat_pinPart_keeps _ _ _ _ (stat_afterRecord_keeps _ _ (stat_note_same _ _ _ _ hb)))

theorem stat_raise_same (s : State) (e : Ev) (i : Nat) (hb : e.bit < 32) : (s.raise e i).stat e = true := stat_raiseD_same _ _ _ _ hb

theorem stat_raise_keeps (s : State) (e f : Ev) (i : Nat) (h : s.stat f = true) : (s.raise e i).stat f = true := stat_raiseD_keeps _ _ _ _ _ h

/-- What an event may change, as OnlyEvents says it. -/
theorem onlyEvents_raiseD (s : State) (e : Ev) (i d : Nat) : OnlyEvents s (s.raiseD e i d) (eventRegs e.block) :=
  ⟨evOnly_raiseD s e i d, sameRegs_raiseD s e i d⟩

theorem onlyEvents_raise (s : State) (e : Ev) (i : Nat) : OnlyEvents s (s.raise e i) (eventRegs e.block) := onlyEvents_raiseD _ _ _ _

end Sys2Proof.Machine
end

