-- ==== Sys2Proof/Laws/Ports.lean ====
section
/-!
SUPPORT. A whole-word write on a port that is served (R54-R61, R585): it stores, and the access completes with OKAY.
-/

namespace Sys2Proof.Machine

/-- A served write of a register with no RWL bit: what it stores, and OKAY. -/
theorem portWrite_served (s : State) (p : Port) (off : Nat) (v : Word) (a : Access) (hs : Served p off s) (h4 : off % 4 = 0)
    (hlt : off < 0x80000) (hc : coefWindow off = none) (ha : accessOf off = some a) (hl : a.rwl = 0) :
    s.portWrite p off v = .next ((s.storeReg (p = .core) off a a.rw v).okay 0) := by
  obtain ⟨h1, h2, h3⟩ := hs
  have hw : s.busWrite (p = .core) off 0xF#4 v = (s.writeReg (p = .core) off v).okay 0 := by
    unfold State.busWrite
    simp [h1, h2, h4, hc, Nat.not_le.mpr hlt]
  unfold State.portWrite
  rw [hw]
  congr 2
  unfold State.writeReg
  rw [ha]
  dsimp only
  cases p with
  | host => simp [hl, State.firmwareWord]
  | core =>
    obtain ⟨this, h5⟩ := h3 rfl
    have hv : s.firmwareWord true off a v = v := by simp [State.firmwareWord, h5]
    unfold State.fwMay at this
    rw [hc] at this
    simp only [Option.isNone_none, Bool.true_or, Bool.and_true] at this
    rcases hb : blockOf off with _ | n <;> simp_all

/-- The bits that a write of `v` brings: of access W1C, those that hardware set in the same cycle are left out (R15). -/
def State.writeBits (s : State) (a : Access) (off : Nat) (v : Word) : Word := v &&& ~~~(a.w1c &&& s.freshBits off)

/-- The same, down to what the page of the register does: its first word is what the register stores. -/
theorem portWrite_in (s : State) (p : Port) (off : Nat) (v : Word) (n : Nat) (a : Access) (hs : Served p off s) (h4 : off % 4 = 0)
    (hlt : off < 0x80000) (hc : coefWindow off = none) (ha : accessOf off = some a) (hl : a.rwl = 0) (hcm : commonAt off = none)
    (hb : blockOf off = some n) (hk : ¬(a.rw = 0 ∧ a.w1c = 0 ∧ a.w1s = 0)) :
    s.portWrite p off v = .next (((s.hostMark (p = .core) off (a.rw ||| a.w1s)).storeIn (p = .core) n off
      ((if a.rw = 0 then (s.reg off &&& ~~~a.rw) ||| (v &&& a.rw) else s.limited off ((s.reg off &&& ~~~a.rw) ||| (v &&& a.rw)))
        &&& ~~~(s.writeBits a off v &&& a.w1c)) (s.writeBits a off v)).okay 0) := by
  rw [portWrite_served s p off v a hs h4 hlt hc ha hl]
  congr 2
  unfold State.storeReg
  simp only [hcm, hb, Option.isSome_none, Bool.false_eq_true, if_false]
  rw [if_neg]
  · simp [State.writeBits]
  · intro h
    simp only [Bool.and_eq_true, decide_eq_true_eq] at h
    exact hk ⟨h.1.1.1, h.1.1.2, h.1.2⟩

end Sys2Proof.Machine
end

