-- ==== Sys2Proof/Laws/Fields.lean ====
section
/-!
SUPPORT. Fields and one-bit fields after each kind of store, stated so that `simp (disch := decide)` decides which field is
which; and registers after stores and events.
-/

namespace Sys2Proof.Machine

theorem b2n_bit (b : Bool) : decide (b2n b % 2 ^ 1 ≠ 0) = b := by cases b <;> rfl

theorem on_putB_same (s : State) (f : Fld) (b : Bool) (h : f.lo + f.width ≤ 32) (hw : f.width = 1) : (s.putB f b).on f = b := by
  unfold State.on State.putB
  rw [get_put _ _ _ h, hw]
  exact b2n_bit b

theorem get_putB_apart (s : State) (f g : Fld) (b : Bool) (ho : g.off = f.off) (h : g.lo + g.width ≤ f.lo ∨ f.lo + f.width ≤ g.lo) :
    (s.putB f b).get g = s.get g := get_put_apart _ _ _ _ ho h

theorem get_putB_reg (s : State) (f g : Fld) (b : Bool) (h : g.off ≠ f.off) : (s.putB f b).get g = s.get g := get_put_reg _ _ _ _ h

theorem on_putB_apart (s : State) (f g : Fld) (b : Bool) (ho : g.off = f.off) (h : g.lo + g.width ≤ f.lo ∨ f.lo + f.width ≤ g.lo) :
    (s.putB f b).on g = s.on g := by unfold State.on; rw [get_putB_apart _ _ _ _ ho h]

theorem on_putB_reg (s : State) (f g : Fld) (b : Bool) (h : g.off ≠ f.off) : (s.putB f b).on g = s.on g := by
  unfold State.on; rw [get_putB_reg _ _ _ _ h]

theorem on_put_apart (s : State) (f g : Fld) (n : Nat) (ho : g.off = f.off) (h : g.lo + g.width ≤ f.lo ∨ f.lo + f.width ≤ g.lo) :
    (s.put f n).on g = s.on g := by unfold State.on; rw [get_put_apart _ _ _ _ ho h]

theorem on_put_reg (s : State) (f g : Fld) (n : Nat) (h : g.off ≠ f.off) : (s.put f n).on g = s.on g := by
  unfold State.on; rw [get_put_reg _ _ _ _ h]

theorem reg_putB_ne (s : State) (f : Fld) (o : Nat) (b : Bool) (h : o ≠ f.off) : (s.putB f b).reg o = s.reg o := reg_put_ne _ _ _ _ h

theorem reg_addSat_ne (s : State) (f : Fld) (o n : Nat) (h : o ≠ f.off) : (s.addSat f n).reg o = s.reg o := reg_put_ne _ _ _ _ h

theorem get_addSat (s : State) (f : Fld) (n : Nat) (h : f.lo + f.width ≤ 32) : (s.addSat f n).get f = min f.top (s.get f + n) := by
  unfold State.addSat
  rw [get_put _ _ _ h]
  apply Nat.mod_eq_of_lt
  have : 0 < 2 ^ f.width := Nat.two_pow_pos _
  unfold Fld.top
  omega

theorem get_addSat_apart (s : State) (f g : Fld) (n : Nat) (ho : g.off = f.off) (h : g.lo + g.width ≤ f.lo ∨ f.lo + f.width ≤ g.lo) :
    (s.addSat f n).get g = s.get g := get_put_apart _ _ _ _ ho h

theorem get_addSat_reg (s : State) (f g : Fld) (n : Nat) (h : g.off ≠ f.off) : (s.addSat f n).get g = s.get g := get_put_reg _ _ _ _ h

theorem on_addSat_apart (s : State) (f g : Fld) (n : Nat) (ho : g.off = f.off) (h : g.lo + g.width ≤ f.lo ∨ f.lo + f.width ≤ g.lo) :
    (s.addSat f n).on g = s.on g := by unfold State.on; rw [get_addSat_apart _ _ _ _ ho h]

theorem on_addSat_reg (s : State) (f g : Fld) (n : Nat) (h : g.off ≠ f.off) : (s.addSat f n).on g = s.on g := by
  unfold State.on; rw [get_addSat_reg _ _ _ _ h]

theorem get_setReg_ne (s : State) (o : Nat) (v : Word) (f : Fld) (h : f.off ≠ o) : (s.setReg o v).get f = s.get f := by
  rw [get_setReg, if_neg h]

theorem on_setReg_ne (s : State) (o : Nat) (v : Word) (f : Fld) (h : f.off ≠ o) : (s.setReg o v).on f = s.on f := by
  unfold State.on; rw [get_setReg_ne _ _ _ _ h]

/-- A field that no event of a block touches. -/
theorem get_raiseD (s : State) (e : Ev) (i d : Nat) (f : Fld) (h : f.off ∉ eventRegs e.block) : (s.raiseD e i d).get f = s.get f :=
  get_sameRegs (sameRegs_raiseD s e i d) f h

theorem get_raise (s : State) (e : Ev) (i : Nat) (f : Fld) (h : f.off ∉ eventRegs e.block) : (s.raise e i).get f = s.get f :=
  get_raiseD _ _ _ _ _ h

theorem on_raise (s : State) (e : Ev) (i : Nat) (f : Fld) (h : f.off ∉ eventRegs e.block) : (s.raise e i).on f = s.on f := by
  unfold State.on; rw [get_raise _ _ _ _ h]

theorem on_raiseD (s : State) (e : Ev) (i d : Nat) (f : Fld) (h : f.off ∉ eventRegs e.block) : (s.raiseD e i d).on f = s.on f := by
  unfold State.on; rw [get_raiseD _ _ _ _ _ h]

theorem reg_raise (s : State) (e : Ev) (i o : Nat) (h : o ∉ eventRegs e.block) : (s.raise e i).reg o = s.reg o := sameRegs_raise s e i o h

theorem reg_raiseD (s : State) (e : Ev) (i d o : Nat) (h : o ∉ eventRegs e.block) : (s.raiseD e i d).reg o = s.reg o := sameRegs_raiseD s e i d o h

/-! ### Fields after an access completes -/

@[simp] theorem get_okay (s : State) (v : Word) (f : Fld) : (s.okay v).get f = s.get f := rfl
@[simp] theorem on_okay (s : State) (v : Word) (f : Fld) : (s.okay v).on f = s.on f := rfl
@[simp] theorem reg_okay (s : State) (v : Word) (o : Nat) : (s.okay v).reg o = s.reg o := rfl
@[simp] theorem stat_okay (s : State) (v : Word) (e : Ev) : (s.okay v).stat e = s.stat e := rfl

end Sys2Proof.Machine
end

