-- ==== Sys2Proof/Tests/Slice0.lean ====
section
/-!
SUPPORT. Tests of the model: small states, ill-formed commands, the worked examples of the spec, single steps, and for each
statement of Certificates/Slice0/Obligations.lean states and operands that meet its hypotheses.
-/

open Sys2Proof Sys2Proof.Machine

namespace Sys2Proof.Tests

set_option Elab.async false

/-! ### States to start from -/

/-- A state with registers set, each to a word other than its reset value. -/
def sets (s : State) (l : List (Nat × Nat)) : State :=
  { s with regs := l.foldl (fun t e => tblInsert e.1 (BitVec.ofNat 32 e.2) (tblErase e.1 t)) s.regs }

/-- A state with fields set, one after the other. -/
def puts (s : State) (l : List (Fld × Nat)) : State := l.foldl (fun s e => s.put e.1 e.2) s

/-- Locked and in Run, the IB stage closed, plat and firmware loaded, the core running and ready, lclk running, 10 s in. -/
def awake : State :=
  sets { State.reset with por := false, now := 10 ^ 10, ts := 1000000#64, clk := { pll := true, fastOsc := true } }
    [(BLK_CORE, 9), (PLAT_STATE, 0x80000000), (PST_STATE, 0), (IBS_STATE, 0x40000000), (CAD_LOCK, 1)]

/-- Awake, with domains 1 (tracts 0 and 1), 2 (tract 2) and 3 (tract 3) of classes 1, 2 and 3, all Off. -/
def mapped : State :=
  sets awake [(DOM_MAP 0, 1), (DOM_MAP 1, 1), (DOM_MAP 2, 2), (DOM_MAP 3, 3), (DOM_CFG 1, 0x310190), (DOM_CFG 2, 0x520190), (DOM_CFG 3, 0x730190)]

/-- Domain 1 in a state of Table 6.1. -/
def dom1 (x : Nat) : State := (sets mapped [(DOM_DSTAT 1, x * 2 ^ 29)]).updDom 1 fun h => { h with commanded := if x = 4 then 1 else 0 }

/-- A plat image of some words after MAGIC, FORMAT and RELEASE, with its CRC, in DAT. -/
def withPlat (s : State) (ws : List Nat) : State :=
  let b := ([0x54414C50, 0x02010001] ++ ws).flatMap fun w => leBytes w 4
  { s with dat := memPutBytes [] platBase (b ++ leBytes (crc32c b).toNat 4) }

/-- A plat that sets one coefficient of the IB loop and starts domain 1. -/
def goodPlat : List Nat := [44, 0, 0x01000001, 0x100000 + IBS_COEF 1, 0x10, 0x03000000, 2, 0x7F000000]

/-- A plan record (Table 4.2). -/
def planRec (gen mark dmask : Nat) (di : List Nat) (lead rise flags dur : Nat) : List Byte :=
  let b := leBytes gen 2 ++ leBytes mark 2 ++ leBytes dmask 4 ++ di.flatMap (fun x => leBytes x 2) ++ leBytes lead 2 ++ leBytes rise 1
    ++ leBytes flags 1 ++ leBytes dur 4 ++ leBytes 0 4
  b ++ leBytes (crc32c b).toNat 4

/-- A step of 10 A in domain 1 for plan index 7, GEN 5. -/
def rec7 : List Byte := planRec 5 7 2 [0, 40, 0, 0] 100 0x41 0x80 3000

/-- Domain 1 On, setting-out enabled with a window, sequencers 0 and 15 mapped, GEN 5 valid. -/
def soOn : State :=
  sets (dom1 4) [(SO_CTL, 1), (SO_WIN_BASE, 1), (SO_WIN_LIMIT, 16), (SO_GEN, 0x10005), (SO_PEGMAP 0, 0x10000), (SO_PEGMAP 15, 0x10000)]

/-- An awaiting instance of plan index 7. -/
def inst7 : Inst := { no := 1, idx := 7, seq := 0, annAt := 10 ^ 10 - 3000, ready := 10 ^ 10 - 2000, rcd := some rec7, stamp := 9 }

/-- Instances awaiting and running. -/
def withInsts (s : State) (aw run : List Inst) : State := { s with so := { s.so with awaiting := aw, running := run, next := 50 } }

/-- A fetch of plan index 7 and a read that serves it. -/
def fetch7 : Fetch := { no := 3, idx := 7, seq := 0, mark := 7 }
def read7 : PlanRead := { rid := 4, addr := 0x10000, idx := 7, seq := 0, header := false, fetch := some 3, arrives := [], since := 10 ^ 10 - 10000, order := 20, live := true }
def withReads (s : State) (fs : List Fetch) (rs : List PlanRead) : State := { s with so := { s.so with fetches := fs, reads := rs, next := 50 } }

/-- Domain 1 in soft-start ramp, the target code of its cells 600. -/
def ramp1 : State :=
  (sets (dom1 3) ((List.range 8).map fun c => (CEL_CSTAT c, 0x20000258))).updDom 1 fun h => { h with commanded := 1, phase := .startRamp, rampAt := 0 }

/-- Domain 1 On with its cells in continuous conduction at code 600 and its loops closed. -/
def on1 : State :=
  sets (dom1 4) (((List.range 8).map fun c => (CEL_CSTAT c, 0x41096258)) ++ [(TRC_TSTAT 0, 0x18000000), (TRC_TSTAT 1, 0x18008000)])

/-- Domain 1 On, a frame in progress, coefficients in COEF, no sample of it taken yet. -/
def loop1 : State :=
  let s := sets on1 [(TRC_NORM, 1440 * 2 ^ 16 + 16384), (TRC_DUTY 0, 1200)]
  let co := [1, 0x20000, 0xFFFF0, 0x4000, 0, 0x8000, 0xFC000, 0].flatMap fun w => leBytes w 4
  { s with loops := { s.loops with frame := 5, frameAt := some (10 ^ 10 - 30) }, coef := memPutBytes (memPutBytes [] 0 co) 32 co }

/-- Tract 0 of `loop1` in a state of its loop. -/
def hold0 (x : Nat) (f : TractHid → TractHid) : State := (loop1.put (fTRC_TSTAT_STATE 0) x).updTract 0 f

/-- The IB stage in a mode of IBS_STATE, its phases 0 to 3 enabled and in a mode of IBS_PSTAT, the others disabled. -/
def ibAt (m ph : Nat) (f : IbHid → IbHid) : State :=
  let s := sets awake ([(IBS_STATE, m * 2 ^ 29), (ADC_STATE, 1)] ++ ((List.range 12).flatMap fun p => [(IBS_PCFG (p + 4), 0), (IBS_PSTAT (p + 4), 0)])
    ++ (List.range 4).flatMap fun p => if ph = 1 then [] else [(IBS_PSTAT p, ph * 2 ^ 29)])
  { s with ib := f { s.ib with refUv := 1800000, phases := [], code16 := 12288, kvin := 16384 } }

/-- Domain 2 On under grade control at code 600: its grade in force and the grade asked for, and its step; VCODE of its
class is 560 + 10 per grade. -/
def graded (now req : Nat) (g : Option GradeStep) : State :=
  (sets mapped ([(DOM_DSTAT 2, 0x80000000), (CAP_DGRADE 2, 0x80000000 + now * 2 ^ 16 + req), (DOM_VSET 2, 600)]
    ++ (List.range 16).map fun k => (CAP_GTAB 2 k, 560 + 10 * k))).updDom 2 fun h => { h with step := g }

/-- Domain 1 On in a ring of four dies; this one has index 1, the principal index 0. -/
def ring : State :=
  let s := sets on1 [(TRV_CFG, 0x12031), (TRV_STATE, 0x0800020F)]
  { s with ts := 1010000#64, trv := { s.trv with started := true, lockAt := some 0 } }

/-- The ring seen from its principal, index 1. -/
def prin : State := sets ring [(TRV_STATE, 0x3800020F)]

/-- A ring state with its traverse logic changed. -/
def trvd (s : State) (f : TrvHid → TrvHid) : State := { s with trv := f s.trv }

/-- A request that firmware has acknowledged on a channel: its opcode and its argument bytes. -/
def req (s : State) (m op : Nat) (args : List Nat) : State :=
  let w (j : Nat) : Nat := leNat ((List.range 4).map fun k => BitVec.ofNat 8 (args.getD (4 * j + k) 0))
  sets s ([(MBX_REQ m 0, op + 5 * 2 ^ 16), (MBX_REQ m 1, args.length)] ++ (List.range ((args.length + 3) / 4)).map (fun j => (MBX_REQ m (2 + j), w j)) ++ [(MBX_CST m, 2 * 2 ^ 8)])

/-! ### Ill-formed commands, refused by each check of WellFormed -/

theorem test_wf_registerWrite : (Instr.registerWrite .host 0x100000 0xF 0).wf = false ∧ (Instr.registerWrite .host 0xFFFFC 0xF 0).wf = true := by decide
theorem test_wf_captureRead : (Instr.captureRead .core 0x100000).wf = false ∧ (Instr.captureRead .core 0xFFFFF).wf = true := by decide
theorem test_wf_headerReadDone : (Instr.headerReadDone 0 true (List.replicate 31 0)).wf = false ∧ (Instr.headerReadDone 0 false []).wf = true := by decide
theorem test_wf_recordReadDone : (Instr.recordReadDone 0 true (List.replicate 33 0)).wf = false ∧ (Instr.recordReadDone 0 true (List.replicate 32 0)).wf = true := by decide
theorem test_wf_rereadDone : (Instr.rereadDone 31 true []).wf = false ∧ (Instr.rereadDone 31 true (List.replicate 32 0)).wf = true := by decide
theorem test_wf_frameStart : (Instr.frameStart [] (List.replicate 512 0) ⟨[], []⟩ []).wf = false ∧
    (Instr.frameStart [] [] ⟨List.replicate 512 0, List.replicate 512 []⟩ []).wf = false := by decide
theorem test_wf_ibSample : (Instr.ibSample ⟨List.replicate 15 0⟩).wf = false ∧ (Instr.ibSample ⟨List.replicate 16 0⟩).wf = true := by decide
theorem test_wf_monumentSample : (Instr.monumentSample 0 0 [0, 0, 0]).wf = false ∧ (Instr.monumentSample 0 0 [0, 0, 0, 0]).wf = true := by decide
theorem test_wf_siteReading : (Instr.siteReading (List.replicate 63 0)).wf = false ∧ (Instr.siteReading (List.replicate 64 0)).wf = true := by decide
theorem test_wf_thermalCalDone : (Instr.thermalCalDone 0 [64]).wf = false ∧ (Instr.thermalCalDone 0 [63]).wf = true := by decide
theorem test_wf_mfrIbselReq : (Instr.mfrIbselReq ⟨List.replicate 65 0, none⟩).wf = false ∧ (Instr.mfrIbselReq ⟨List.replicate 64 0, none⟩).wf = true := by decide
theorem test_wf_coreMemUncorr : (Instr.coreMemUncorr true 0x40000).wf = false ∧ (Instr.coreMemUncorr false 0x7FFFF).wf = true := by decide
theorem test_wf_memTestRegion : (Instr.memTestRegion 0 true [(32, .clean)]).wf = false ∧ (Instr.memTestRegion 0 true [(31, .clean)]).wf = true := by decide

/-! ### The spec's worked examples -/

/-- T18 at the first closed sample of its retune (03_tract_loops.md, Worked example: retuning T18). -/
def retuned : State :=
  let co := [0, 0x127, 0xFFFFFE6A, 0x8A, 0, 0xFFFEB333, 0x4CCD, 0].flatMap fun w => leBytes w 4
  let s := puts { awake with coef := memPutBytes [] (64 * 18) co } [(fTRC_NORM_K, 16756), (fTRC_NORM_VIB, 1408), (fTRC_LIM_ILIM 18, 260),
    (fTRC_UOUT_U1 18, 1706), (fTRC_IMEAS_I 18, 174)]
  s.updTract 18 fun h => { h with e1 := 6, e2 := 4, u2 := 1705, w := 1706 }

/-- The voltage loop wins with 1,736, and its duty code is 1,775. -/
theorem test_retune_t18 : retuned.loopSample 18 0 8 174 0 (16756, 1408) = { u := 1736, win := 0, out := 1736, duty := 1775, clamped := false } := by
  decide +kernel

/-- k is 16,756 and V_IB,meas is code 1,408 at 1.760 V. -/
theorem test_normalise_t18 :
    (match execNormUpdate 1760000 awake with | .next t => (t.get fTRC_NORM_K, t.get fTRC_NORM_VIB) | _ => (0, 0)) = (16756, 1408) := by
  decide +kernel

/-- The sites about T9 (02_regulator_cells.md, Worked example: shares in T9). -/
def t9 : State :=
  sets awake ([(9, 88), (8, 92), (10, 86), (1, 90), (17, 84)].map fun (e : Nat × Nat) => (THM_SITE e.1, 16 * e.2))

/-- T_c of C36 to C39 in 1/64 degC, and the 3 % that C36 alone sheds (in 1/307,200). -/
theorem test_shares_t9 :
    (cellsIn 9).map t9.cellTemp4 = [5728, 5632, 5632, 5536] ∧
    ((cellsIn 9).map fun c => t9.shedOf (t9.cellTemp4 c) (sumOverI (cellsIn 9) t9.cellTemp4) 4) = [9216, 0, 0, 0] := by decide +kernel

/-- The record of mark 0x0214 (04_setting_out.md, Worked example: a collective phase across four dies). -/
def rec214 : List Byte := planRec 0x31 0x214 (2 ^ 28) [0, 0, 160, 0] 250 0x48 0x81 6000

/-- Domain 28 of that example: T56 to T59, link class. -/
def dom28 : State :=
  sets awake ([(DOM_CFG 28, 0x03A20190)] ++ [56, 57, 58, 59].flatMap fun t =>
    [(DOM_MAP t, 28), (SO_TRK_PATH t, 80 * 2 ^ 16 + 450), (SO_TRK_FF t, 227)])

/-- The current step of each tract is 40 units, and the lift 5 codes. -/
theorem test_lift_28 : malformed rec214 0x214 = false ∧ dom28.deltaOf rec214 28 = 40 ∧ dom28.liftDom rec214 28 = 5 := by decide +kernel

/-- The budgets of R420 in 1/16 W: compute 480 W, memory layer 120 W, link 60 W (09_power_capping.md, Worked example: cutting
the die limit during a matrix phase). -/
theorem test_allocate : allocate [2, 1, 0] (660 * 16) [11200, 1920, 960] [1120, 192, 96] = [7680, 1920, 960] := by decide

/-- The grade table of that example, for domain 1 of class compute. -/
def grades : State :=
  sets awake ([(DOM_MAP 0, 1), (DOM_CFG 1, 0x300190)] ++
    ([(12, 680, 26000), (11, 664, 23600), (10, 648, 21400), (9, 632, 19300), (8, 616, 17000)] : List (Nat × Nat × Nat)).map
      fun e => (CAP_GTAB 0 e.1, e.2.2 * 2 ^ 16 + e.2.1))

/-- Compute at a grade: 630 W dynamic at G12 and 70 W of leakage at its code, in units that make both whole. -/
def compute12 : DomPow := { dom := 1, cls := 0, raw := 0, dyn := 630 * 680, leak1 := 70, code := 680, grade := 12, req := 12, duty := 0 }

/-- At a budget of 480 W the ceiling falls to G8, and G12 needs a pause duty of 12. -/
theorem test_ceiling : grades.fitGrade [compute12] 0 (480 * 680) = 8 ∧ grades.fitDuty [compute12] 0 (480 * 680) = 12 := by decide +kernel

/-- One millisecond on three partitions (10_energy_and_telemetry.md): the increments of buckets 2, 5 and 9 and of any other. -/
theorem test_increment :
    [0, 2, 5, 9, 16].map (increment 695300000 fun b => if b = 2 then 389100000 else if b = 5 then 201700000 else if b = 9 then 13200000 else 0)
      = [0, 447915944, 232188758, 15195298, 0] := by decide +kernel

/-- Trimming the VIN divider (11_converters.md): the trims of AIN17, and the trimmed code of 10,963. -/
theorem test_trim : trimsOf 9102 13653 9140 13697 = some (16362, 26) ∧ (sets awake [(ADC_CAL 0 17, 0x3FEA001A)]).trimmed 0 17 false 10963 = 10922 := by
  decide +kernel

/-- The sum overflows halfway round (12_traverse.md): the shares of laps L and L + 1, and E. -/
theorem test_ring_shares :
    [shareOf 64000 65535 11200 8 11200 1600 true, shareOf 64000 65535 11200 8 3200 800 true,
     shareOf 64000 73600 11200 8 11200 1600 false, shareOf 64000 73600 11200 8 3200 800 false] = [9143, 4571, 9723, 2831] ∧
    nextExp 0 0 65535 11200 true = (1, 0) ∧ nextExp 1 0 36800 5600 false = (1, 0) := by decide

/-- The sag of 07_intermediate_bus_stage.md: an on-time code of 304 becomes 394 at k_VIN = 21,255. -/
theorem test_sag : (ibAt 3 2 fun h => { h with kvin := 21255 }).ibDuty 0 (304 * 65536 / 8000) = 394 := by decide +kernel

/-- T21 of 08_thermal.md before the third reading of its rise. -/
def rising : State :=
  forEach (upTo 64) (fun t s => s.updSite t fun h => { h with hist := if t = 21 then [1376, 1328, 1280] else [1280, 1280, 1280], valued := true })
    (awake.putB fTHM_STATE_CALDONE true)

/-- 89.0 degC there: 30 degC/ms is a breach, and n_th becomes 8. -/
theorem test_rate_breach :
    let s := rising.putI (fTHM_SITE_VALUE 21) 1424 |>.updSite 21 fun h => { h with hist := [1424, 1376, 1328, 1280] }
    s.siteRate 21 = some 480 ∧ (s.controlSite 21).get (fTHM_TDUTY_N 21) = 8 ∧ (s.controlSite 21).on (fTHM_SITE_RATE 21) = true := by decide +kernel

/-- Die 2 when C37 fails its last retry (13_faults.md, Worked example: a cell that will not stay up). -/
def c37 : State :=
  let s := sets { on1 with ts := 5003040000#64 } [(DOM_MAP 9, 1), (TRV_CFG, 0x12032), (CEL_CSTAT 37, 0), (CEL_MEAS 37, 210)]
  ((s.put (fCEL_CSTAT_RETRY 37) 3).putB (fCEL_CSTAT_SS_DONE 37) true).updCell 37 fun h => { h with condCnt := 250 }

/-- The entry of LATCHED in slot 1, and CEL_BOOK (16_register_map.md, Worked example: from a fault to its entry). -/
theorem test_fault_entry :
    (match execShortCondB 37 c37 with
      | .next t => ((t.reg (blockBase 3 + 12)).toNat, (List.range 4).map fun k => memLE t.book (0x310 + 4 * k) 4)
      | _ => (0, [])) = (0x00020021, [0x2A345500, 1, 0x00254346, 0x000300D2]) := by decide +kernel

/-- TRC_TSTAT[9] at reset, of the same example. -/
theorem test_tstat9 : State.reset.reg (TRC_TSTAT 9) = 0xB8028000#32 := by decide +kernel

/-- The phase offsets of T5 at reset (02_regulator_cells.md, the example of C20 to C23). -/
theorem test_offsets_t5 : (cellsIn 5).map (fun c => State.reset.get (fCEL_CFG_OFFSET c)) = [5, 13, 21, 29] := by decide +kernel

/-- MON_RULE 0x017A0714 of the example of R315. -/
theorem test_mon_rule :
    (let s := sets awake [(MON_RULE 0, 0x017A0714)]
     [s.get (fMON_RULE_CH 0), s.get (fMON_RULE_CMP 0), s.get (fMON_RULE_ACT 0), s.get (fMON_RULE_STATES 0), s.get (fMON_RULE_FSHIFT 0),
      s.get (fMON_RULE_COUNT 0), s.get (fMON_RULE_HYST 0)]) = [0, 0, 1, 15, 2, 7, 20] := by decide +kernel

/-- The request of 14_mailboxes_and_firmware.md's SET_GRADE: three request words, the answer's words 1 and 2, and REQ. -/
def setGrade2 : State := sets (graded 5 5 none) [(MBX_REQ 0 0, 0x00410304), (MBX_REQ 0 1, 3), (MBX_REQ 0 2, 0x00010902), (MBX_CST 0, 512)]

theorem test_set_grade :
    (match execSetGrade 0 setGrade2 with
      | .next t => [(t.reg (MBX_RSP 0 1)).toNat, (t.reg (MBX_RSP 0 2)).toNat, t.get (fCAP_DGRADE_REQ 2)]
      | _ => []) = [0x00020000, 0x00000909, 9] := by decide +kernel

/-! ### One step of the queue -/

/-- The command in front runs and leaves the queue; a queue that is empty is one nanosecond. -/
theorem test_step_front :
    (match step { awake with pending := [.wdtKick, .wakeTimer] } with | .next t => (t.pending, t.now) | _ => ([], 0)) = ([.wakeTimer], 10 ^ 10) := by
  decide +kernel

theorem test_step_idle : (match step awake with | .next t => (t.now, t.ts) | _ => (0, 0)) = (10 ^ 10 + 1, 1000001#64) := by decide +kernel

/-! ### States that meet the hypotheses of each statement

One theorem for each statement of Certificates/Slice0/Obligations.lean that has hypotheses, with a state and operands for each
of its clauses. -/

theorem next_of {o : Host.Outcome State Fault Refusal} (h : (match o with | .next _ => true | _ => false) = true) : ∃ t, o = .next t := by
  cases o <;> simp_all

theorem not_lost_of {r : Recorded} (h : (match r with | .lostRmw _ => false | _ => true) = true) : ∀ a, r ≠ .lostRmw a := by
  intro a e; subst e; cases h

theorem no_lim_of {s : State} {q : Nat → Prop} (h : ∀ k, k < 16 → (s.phase k).limSince = none) :
    ∀ k a, k < 16 → q k → (s.phase k).limSince = some a → s.now < a + 10000 := fun k a hk _ e => by rw [h k hk] at e; cases e

theorem witness_StepKeepsCanonicalForm :
    (∃ s t : State, s.pending = [.wdtKick] ∧ s.wf ∧ step s = .next t) ∧ (∃ s t : State, s.pending = [] ∧ s.wf ∧ step s = .next t) := by
  obtain ⟨t, h⟩ := next_of (o := step { mapped with pending := [.wdtKick] }) (by decide +kernel)
  obtain ⟨u, k⟩ := next_of (o := step mapped) (by decide +kernel)
  exact ⟨⟨_, t, rfl, by unfold State.wf; decide +kernel, h⟩, ⟨_, u, rfl, by unfold State.wf; decide +kernel, k⟩⟩

theorem witness_HostCannotSetTimestamp : ∃ (v : Word) (s t : State), exec (.registerWrite .host TRV_TIME_LO 0xF v) s = .next t := by
  obtain ⟨t, h⟩ := next_of (o := execRegisterWrite .host TRV_TIME_LO 0xF 5 awake) (by decide +kernel)
  exact ⟨5, awake, t, h⟩

theorem witness_ResetLeaves : ∃ n : Nat, n < 22 := ⟨21, by decide⟩

theorem witness_EmptyQueueIsOneNanosecond :
    ∃ (s : State), s.pending = [] ∧ s.core.orphans = [] ∧ s.pmb.held = none :=
  ⟨awake, by decide +kernel⟩

theorem witness_RefusedWritesChangeNothing :
    ∃ (p : Port) (off : Nat) (strb : BitVec 4) (s : State), off < 2 ^ 20 ∧ s.portOpen (p = .core) = true ∧ (strb ≠ 0xF#4 ∨ off % 4 ≠ 0) :=
  ⟨.host, 0, 0#4, awake, by decide +kernel⟩

theorem witness_UnassignedOffsets :
    ∃ (p : Port) (off : Nat) (s : State), off < 2 ^ 20 ∧ off % 4 = 0 ∧ s.portOpen (p = .core) = true ∧ s.offAnswers off = true ∧ (0xC0000 ≤ off ∨ (off < 0x80000 ∧ isRegister off = false ∧ coefWindow off = none)) :=
  ⟨.host, 0xC0000, awake, by decide +kernel⟩

theorem witness_SleepAndOffAccesses :
    ∃ (off : Nat) (s : State), off < 2 ^ 20 ∧ s.por = false ∧ s.pins.hostPwrgd = true ∧ (s.aon = 4 ∨ ((s.aon = 2 ∨ s.aon = 3) ∧ 0x3000 ≤ off)) :=
  ⟨0, awake.put fPST_STATE_STATE 4, by decide +kernel⟩

theorem witness_CommonRegisterWrites :
    (∃ (p : Port) (n : Nat) (s : State), n < 22 ∧ Served p (blockBase n) s) ∧
    (∃ (p : Port) (n : Nat) (s : State), n < 22 ∧ Served p (blockBase n + 4) s) ∧
    (∃ (p : Port) (n : Nat) (s : State), n < 22 ∧ Served p (blockBase n + 8) s) ∧
    (∃ (p : Port) (n : Nat) (s : State), n < 22 ∧ Served p (blockBase n + 12) s) ∧
    (∃ (n : Nat) (s : State), n < 22 ∧ Served .host (blockBase n + 4) s ∧ s.portOpen true = true ∧ s.fwMay (blockBase n + 4) = true) :=
  ⟨⟨.host, (0:Nat), awake, by unfold Served; decide +kernel⟩,
   ⟨.host, (0:Nat), awake, by unfold Served; decide +kernel⟩,
   ⟨.host, (0:Nat), awake, by unfold Served; decide +kernel⟩,
   ⟨.host, (0:Nat), awake, by unfold Served; decide +kernel⟩,
   ⟨(0:Nat), awake, by unfold Served; decide +kernel⟩⟩

theorem witness_ReadsHaveNoSideEffect :
    (∃ (p : Port) (off : Nat) (s : State), off < 0x80000 ∧ off % 4 = 0 ∧ s.portOpen (p = .core) = true ∧ s.offAnswers off = true ∧ isRegister off = true ∧ coefWindow off = none ∧ (off ≠ TRV_TIME_LO ∧ (∀ b, b < 17 → off ≠ NRG_PART_LO b) ∧ (∀ w, w < 8 → off ≠ NRG_WTS_LO w))) ∧
    (∃ (p : Port) (off : Nat) (s : State), off < 0x80000 ∧ off % 4 = 0 ∧ s.portOpen (p = .core) = true ∧ s.offAnswers off = true ∧ isRegister off = true ∧ coefWindow off = none ∧ off = TRV_TIME_LO) ∧
    (∃ (p : Port) (off : Nat) (s : State) (b : _), off < 0x80000 ∧ off % 4 = 0 ∧ s.portOpen (p = .core) = true ∧ s.offAnswers off = true ∧ isRegister off = true ∧ coefWindow off = none ∧ b < 17 ∧ off = NRG_PART_LO b) ∧
    (∃ (p : Port) (off : Nat) (s : State) (w : _), off < 0x80000 ∧ off % 4 = 0 ∧ s.portOpen (p = .core) = true ∧ s.offAnswers off = true ∧ isRegister off = true ∧ coefWindow off = none ∧ w < 8 ∧ off = NRG_WTS_LO w) :=
  ⟨⟨.host, BLK_ID, awake, by decide +kernel⟩,
   ⟨.host, TRV_TIME_LO, awake, by decide +kernel⟩,
   ⟨.host, NRG_PART_LO 0, awake, (0:Nat), by decide +kernel⟩,
   ⟨.host, NRG_WTS_LO 7, awake, 7, by decide +kernel⟩⟩

theorem witness_WriteWithoutEffectAnswersOkay :
    ∃ (off : Nat) (s : State), off < 0x80000 ∧ off % 4 = 0 ∧ Served .host off s ∧ coefWindow off = none ∧ accessOf off = some ⟨0, 0, 0, 0⟩ :=
  ⟨BLK_ID, awake, by unfold Served; decide +kernel⟩

theorem witness_FirmwareWriteDenied :
    ∃ (off n : Nat) (s : State), off < 0x80000 ∧ off % 4 = 0 ∧ s.portOpen true = true ∧ s.offAnswers off = true ∧ coefWindow off = none ∧ (accessOf off).isSome = true ∧ blockOf off = some n ∧ bitN (s.reg CAD_FWPERM).toNat n = false :=
  ⟨CEL_CTL, (3:Nat), awake.put fCAD_FWPERM_BLOCKS 0, by decide +kernel⟩

theorem witness_EventSetsItsBit :
    (∃ (s : State) (e f : Ev), e.block < 22 ∧ e.bit < 32 ∧ s.stat f = true) ∧
    (∃ (s : State) (e : Ev), e.block < 22 ∧ e.bit < 32 ∧ e.block ≠ 18 ∧ s.get fFLT_CFG_PSEV ≤ s.sevOf e) ∧
    (∃ (s : State) (e : Ev) (idx data : Nat), e.block < 22 ∧ e.bit < 32 ∧ (∀ a, (s.note e idx data).2 ≠ .lostRmw a) ∧ e.block ≠ 18 ∧ s.get fFLT_CFG_PSEV ≤ s.sevOf e) ∧
    (∃ (s : State) (e : Ev) (idx data : Nat) (a : _), e.block < 22 ∧ e.bit < 32 ∧ (s.note e idx data).2 = .lostRmw a ∧ s.get fFLT_CFG_PSEV ≤ s.sevOf evMEM_UNCORR) ∧
    (∃ (s : State) (e : Ev) (idx data : Nat), e.block < 22 ∧ e.bit < 32 ∧ (∀ a, (s.note e idx data).2 ≠ .lostRmw a) ∧ (e.block = 18 ∨ s.sevOf e < s.get fFLT_CFG_PSEV)) :=
  ⟨⟨((awake.raise evCEL_DOM_OFF 3).raise evCEL_DOM_OFF 4), evCEL_DOM_OFF, evCEL_DOM_OFF, by decide +kernel⟩,
   ⟨awake, evCEL_DOM_OFF, by decide +kernel⟩,
   ⟨awake, evCEL_DOM_OFF, 0, 0, by decide +kernel, by decide +kernel, not_lost_of (by decide +kernel), by decide +kernel, by decide +kernel⟩,
   ⟨{ awake.raise evCEL_DOM_OFF 3 with mem := { awake.mem with bad := (List.range 700).map fun k => (4, k) } }, evCEL_DOM_OFF, 3, 0, (match ((({ awake.raise evCEL_DOM_OFF 3 with mem := { awake.mem with bad := (List.range 700).map fun k => (4, k) } } : State).note (evCEL_DOM_OFF : Ev) (3 : Nat) (0 : Nat)).2) with | .lostRmw a => a | _ => 0), by decide +kernel⟩,
   ⟨awake, evFLT_DRIVE, 0, 0, by decide +kernel, by decide +kernel, not_lost_of (by decide +kernel), by decide +kernel⟩⟩

theorem witness_FieldBookRing :
    (∃ (s : State) (n slot : Nat), n < 22 ∧ s.memUsable 4 = true ∧ slot = (if s.get (fBOOK_FILL n) = 0 then s.get (fBOOK_HEAD n) else (s.get (fBOOK_HEAD n) + 1) % 8) ∧ s.memBad 4 (bookSlot n slot) 16 = false ∧ s.memBad 4 (0x2000 + 16 * s.get fFLT_LOG_NEXT) 16 = false ∧ s.get (fBOOK_FILL n) = 8) ∧
    (∃ (s : State) (n slot : Nat) (k : _), n < 22 ∧ s.memUsable 4 = true ∧ slot = (if s.get (fBOOK_FILL n) = 0 then s.get (fBOOK_HEAD n) else (s.get (fBOOK_HEAD n) + 1) % 8) ∧ s.memBad 4 (bookSlot n slot) 16 = false ∧ s.memBad 4 (0x2000 + 16 * s.get fFLT_LOG_NEXT) 16 = false ∧ k < 8 ∧ k ≠ slot) :=
  ⟨⟨(List.range 12).foldl (fun s k => s.raise evCEL_DOM_OFF k) awake, 3, (4:Nat), by decide +kernel⟩,
   ⟨awake, (0:Nat), (0:Nat), (1:Nat), by decide +kernel⟩⟩

theorem witness_FaultPinCommands :
    (∃ (s : State), s.on fFLT_PIN_PULSE = true ∧ s.pins.pulseDue ≤ s.now) ∧
    (∃ (p : Port) (s : State), Served p FLT_PIN s) ∧
    (∃ (s : State) (level : Bool), level = s.on fFLT_PIN_DRIVE ∧ s.on fFLT_PIN_LEVEL ≠ level) ∧
    (∃ (s : State) (level : Bool), (level ≠ s.on fFLT_PIN_DRIVE ∨ s.on fFLT_PIN_LEVEL = level)) ∧
    (∃ (p : Port) (s : State), Served p FLT_CTL s) :=
  ⟨⟨{ (awake.raise evTRC_ENG_BOTH 1) with now := 10^11 }, by decide +kernel⟩,
   ⟨.host, awake, by unfold Served; decide +kernel⟩,
   ⟨awake, false, by decide +kernel⟩,
   ⟨awake, true, by decide +kernel⟩,
   ⟨.host, awake, by unfold Served; decide +kernel⟩⟩

theorem witness_PowerOnReset :
    (∃ (s : State) (rise : Nat), s.por = true ∧ s.pins.fellAt ≤ rise ∧ rise + 100000 ≤ s.now) ∧
    (∃ (s : State) (rise : Nat), (s.por = false ∨ rise < s.pins.fellAt ∨ s.now < rise + 100000)) :=
  ⟨⟨{ State.reset with now := 10^10 }, 0, by decide +kernel⟩,
   ⟨awake, 0, by decide +kernel⟩⟩

theorem witness_PinsAndReference :
    (∃ (b : WrapperPort), b.wrstn = false) ∧
    (∃ (b : WrapperPort), b.wrstn = true) ∧
    (∃ (s : State), s.pins.hostPwrgd = true) ∧
    (∃ (s : State), s.pins.hostPwrgd = false) ∧
    (∃ (s : State), s.clk.syncLost = false) ∧
    (∃ (s : State), s.clk.syncLost = true ∧ s.clk.backAt = none ∧ s.now < s.nextPeriod) ∧
    (∃ (s : State), s.clk.syncLost = true ∧ s.clk.backAt = none ∧ s.nextPeriod ≤ s.now) ∧
    (∃ (s : State), s.por = false ∧ s.clk.pll = false ∧ s.aon = 5 ∧ (s.pst.waking = true → s.clk.fastOsc = true ∧ s.pst.offCheck = false)) ∧
    (∃ (s : State), s.por = false ∧ s.clk.pll = false ∧ s.pst.waking = true ∧ s.clk.fastOsc = true ∧ s.pst.offCheck = false ∧ (s.aon = 2 ∨ s.aon = 3)) ∧
    (∃ (s : State), s.por = false ∧ s.clk.fastOsc = false ∧ (s.pst.waking = true ∨ s.aon = 5) ∧ s.trv.waking = false) ∧
    (∃ (s : State), s.por = false ∧ s.clk.fastOsc = false ∧ (s.pst.waking = true ∨ s.aon = 5) ∧ s.trv.waking = true) :=
  ⟨⟨⟨false, false, false, false, false, false, false, false⟩, by decide +kernel⟩,
   ⟨⟨true, true, true, true, true, true, true, true⟩, by decide +kernel⟩,
   ⟨awake, by decide +kernel⟩,
   ⟨{ (on1.put (fCG_TSTAT_PEND 0) 3) with pins := { on1.pins with hostPwrgd := false } }, by decide +kernel⟩,
   ⟨awake, by decide +kernel⟩,
   ⟨{ awake with clk := { awake.clk with syncLost := true }, ib := { awake.ib with gridSet := true, periodAt := 10^10 - 500 } }, by decide +kernel⟩,
   ⟨{ awake with clk := { awake.clk with syncLost := true, aligned := true } }, by decide +kernel⟩,
   ⟨{ awake with clk := { pll := false, fastOsc := false, aligned := true } }.put fPST_STATE_STATE 5, by decide +kernel⟩,
   ⟨{ (awake.put fPST_STATE_STATE 2) with clk := { pll := false, fastOsc := true }, pst := { awake.pst with waking := true, toRun := true } }, by decide +kernel⟩,
   ⟨{ awake with clk := { pll := false, fastOsc := false, aligned := true } }.put fPST_STATE_STATE 5, by decide +kernel⟩,
   ⟨{ (awake.putB fIBS_STATE_ALIGNED true) with clk := { pll := false, fastOsc := false }, pst := { awake.pst with waking := true }, trv := { awake.trv with waking := true } }, by decide +kernel⟩⟩

theorem witness_BlockReset :
    (∃ (s : State), s.por = false ∧ s.core.blockReset = false) ∧
    (∃ (s : State), Served .host BLK_RST s ∧ s.core.blockReset = false ∧ s.runOrIdle = true ∧ (∀ d, d < 32 → s.classOf d = 0 → s.domState d ≠ 3 ∧ s.domState d ≠ 4 ∧ s.domState d ≠ 5)) ∧
    (∃ (s : State), Served .host BLK_RST s ∧ (s.runOrIdle = false ∨ ∃ d, d < 32 ∧ s.classOf d = 0 ∧ (s.domState d = 3 ∨ s.domState d = 4 ∨ s.domState d = 5))) ∧
    (∃ (s : State), Served .core BLK_RST s) ∧
    (∃ (s : State), s.core.blockReset = true ∧ (∀ c, c < 256 → s.on (fCEL_CSTAT_SS_DONE c) = false)) :=
  ⟨⟨awake, by decide +kernel⟩,
   ⟨awake, by unfold Served; decide +kernel⟩,
   ⟨(dom1 4).put (fDOM_CFG_CLASS 1) 0, by unfold Served; decide +kernel⟩,
   ⟨awake, by unfold Served; decide +kernel⟩,
   ⟨{ awake with core := { awake.core with blockReset := true } }, by decide +kernel⟩⟩

theorem witness_CoreReset :
    (∃ (s : State) (m : _), m < 8 ∧ 1 ≤ s.chanState m ∧ s.chanState m ≤ 3) ∧
    (∃ (s : State) (m : _), m < 8 ∧ (s.chanState m = 0 ∨ 4 ≤ s.chanState m)) :=
  ⟨⟨puts awake [(fMBX_CST_STATE 0, 1),(fMBX_CST_STATE 1, 2),(fMBX_CST_STATE 2, 3),(fMBX_CST_STATE 3, 4),(fMBX_CST_STATE 7, 5)], (0:Nat), by decide +kernel⟩,
   ⟨awake, (0:Nat), by decide +kernel⟩⟩

theorem witness_CoreCommands :
    (∃ (s : State) (p : Port), Served p BLK_RST s) ∧
    (∃ (s : State), s.on fBLK_CORE_RUNNING = true ∧ s.runOrIdle = true ∧ s.get fBLK_WDT_COUNT = 0) ∧
    (∃ (s : State) (dat : Bool) (addr : Nat), s.on fBLK_CORE_RUNNING = true ∧ s.memUsable (if dat then 1 else 0) = true ∧ addr < memSize (if dat then 1 else 0)) ∧
    (∃ (s : State) (a : _), s.core.exitDue = some a ∧ a ≤ s.now + 2000 ∧ s.on fBLK_CORE_HOLD = false ∧ s.aon = 1) ∧
    (∃ (s : State) (a : _), s.core.exitDue = some a ∧ a ≤ s.now + 2000 ∧ s.on fBLK_CORE_HOLD = false ∧ s.aon ≠ 1) ∧
    (∃ (s : State) (a : _), s.core.exitDue = some a ∧ s.on fBLK_CORE_HOLD = true) ∧
    (∃ (s : State), s.portOpen true = true ∧ bitN (s.reg CAD_FWPERM).toNat 0 = true) ∧
    (∃ (s : State), s.portOpen true = true ∧ bitN (s.reg CAD_FWPERM).toNat 0 = false) ∧
    (∃ (s : State), Served .host BLK_CORE s ∧ s.on fBLK_CORE_HOLD = true ∧ s.get fPLAT_STATE_PHASE = 4 ∧ s.cyc.phaseAt ≠ s.now + 1 ∧ s.boot.fwDue = none) ∧
    (∃ (s : State), Served .host BLK_CORE s ∧ s.on fBLK_CORE_HOLD = true ∧ (s.get fPLAT_STATE_PHASE ≠ 4 ∨ s.cyc.phaseAt = s.now + 1)) :=
  ⟨⟨awake, .host, by unfold Served; decide +kernel⟩,
   ⟨awake.put fBLK_WDT_COUNT 0, by decide +kernel⟩,
   ⟨awake, false, 0, by decide +kernel⟩,
   ⟨{ awake.put fPST_STATE_STATE 1 with core := { awake.core with exitDue := some (10^10+2000), waiting := true } }, (({ awake.put fPST_STATE_STATE 1 with core := { awake.core with exitDue := some (10^10+2000), waiting := true } } : State).core.exitDue).get (by decide +kernel), by decide +kernel⟩,
   ⟨{ awake with core := { awake.core with exitDue := some (10^10+2000) } }, (({ awake with core := { awake.core with exitDue := some (10^10+2000) } } : State).core.exitDue).get (by decide +kernel), by decide +kernel⟩,
   ⟨{ awake.put fBLK_CORE_HOLD 1 with core := { awake.core with exitDue := some (10^10+2000) } }, (({ awake.put fBLK_CORE_HOLD 1 with core := { awake.core with exitDue := some (10^10+2000) } } : State).core.exitDue).get (by decide +kernel), by decide +kernel⟩,
   ⟨awake, by decide +kernel⟩,
   ⟨awake.setReg CAD_FWPERM 0, by decide +kernel⟩,
   ⟨{ awake.put fBLK_CORE_HOLD 1 with core := { awake.core with exitDue := some (10^10+2000) } }, by unfold Served; decide +kernel⟩,
   ⟨(awake.put fBLK_CORE_HOLD 1).put fPLAT_STATE_PHASE 3, by unfold Served; decide +kernel⟩⟩

theorem witness_InterfaceReset :
    (∃ (s : State), Served .host BLK_RST s) ∧
    (∃ (s : State), Served .core BLK_RST s) ∧
    (∃ (s : State) (m : Fin 8), Served .host (MBX_BELL m) s ∧ m.val ≠ 7 ∧ s.core.ifaceDue = some (s.now + 2000)) ∧
    (∃ (s : State) (a : _), s.core.ifaceDue = some a) :=
  ⟨⟨awake, by unfold Served; decide +kernel⟩,
   ⟨awake, by unfold Served; decide +kernel⟩,
   ⟨{ awake with core := { awake.core with ifaceDue := some (10^10+2000) } }.putB fBLK_RST_IFACE true, 0, by unfold Served; decide +kernel⟩,
   ⟨{ awake with core := { awake.core with ifaceDue := some (10^10+2000) } }.putB fBLK_RST_IFACE true, (({ awake with core := { awake.core with ifaceDue := some (10^10+2000) } }.putB fBLK_RST_IFACE true : State).core.ifaceDue).get (by decide +kernel), by decide +kernel⟩⟩

theorem witness_MemoryCommands :
    (∃ (p : Port) (s : State) (k : Fin 6) (x : Nat), Served p MEM_OWNER s ∧ x < 8 ∧ x ≠ s.memOwner k ∧ s.ownerAllowed k x = true) ∧
    (∃ (p : Port) (s : State) (k : Fin 6) (x : Nat), Served p MEM_OWNER s ∧ x < 8 ∧ x ≠ s.memOwner k ∧ s.ownerAllowed k x = false) ∧
    (∃ (p : Port) (s : State) (k : Fin 6) (x : Nat), Served p MEM_PWR s ∧ x < 4 ∧ x ≠ s.memPower k ∧ (x = 3 ∨ (s.memPower k = 2 ∧ s.mayUnpower k = false))) ∧
    (∃ (p : Port) (s : State) (k : Fin 6) (x : Nat), Served p MEM_PWR s ∧ x < 4 ∧ x ≠ s.memPower k ∧ x = 2 ∧ (tblGet (fun _ => 0) s.mem.upDue k = 0)) ∧
    (∃ (p : Port) (s : State) (k : Fin 6) (x : Nat), Served p MEM_PWR s ∧ x < 4 ∧ x ≠ s.memPower k ∧ x = 2 ∧ (tblGet (fun _ => 0) s.mem.upDue k ≠ 0)) ∧
    (∃ (p : Port) (s : State) (k : Fin 6) (x : Nat), Served p MEM_PWR s ∧ x < 4 ∧ x ≠ s.memPower k ∧ x ≤ 1 ∧ (s.memPower k = 2 → s.mayUnpower k = true)) ∧
    (∃ (s : State) (k : Fin 6), s.runOrIdle = true ∧ bitN (s.get fMEM_TEST_EN) k = true ∧ s.memPower k = 2 ∧ (tblGet (fun _ => 0) s.mem.testAt k + 1000000 * s.get fMEM_TEST_INTERVAL ≤ s.now)) ∧
    (∃ (p : Port) (s : State) (a : Nat), s.portOpen (p = .core) = true ∧ s.memPower 5 = 2 ∧ a < 0x10000 ∧ a % 4 = 0 ∧ s.offAnswers (0xA0000 + a) = true ∧ s.memBad 5 a 4 = false ∧ s.weakIn 5 a 4 = []) ∧
    (∃ (p : Port) (s : State) (a : Nat), s.portOpen (p = .core) = true ∧ s.memPower 5 = 2 ∧ a < 0x10000 ∧ a % 4 = 0 ∧ s.offAnswers (0xA0000 + a) = true ∧ s.memBad 5 a 4 = false ∧ s.weakIn 5 a 4 ≠ []) ∧
    (∃ (p : Port) (s : State) (a : Nat), s.portOpen (p = .core) = true ∧ s.memPower 5 = 2 ∧ a < 0x10000 ∧ a % 4 = 0 ∧ s.offAnswers (0xA0000 + a) = true ∧ s.memBad 5 a 4 = true) :=
  ⟨⟨.host, awake, 3, (0:Nat), by unfold Served; decide +kernel⟩,
   ⟨.host, awake, 0, (1:Nat), by unfold Served; decide +kernel⟩,
   ⟨.host, awake, 0, (0:Nat), by unfold Served; decide +kernel⟩,
   ⟨.host, awake.put fMEM_PWR_PWR0 0, 0, (2:Nat), by unfold Served; decide +kernel⟩,
   ⟨.host, { (awake.put fMEM_PWR_PWR2 0) with mem := { awake.mem with upDue := [(2,5)] } }, 2, (2:Nat), by unfold Served; decide +kernel⟩,
   ⟨.host, awake, 2, (0:Nat), by unfold Served; decide +kernel⟩,
   ⟨awake, 0, by decide +kernel⟩,
   ⟨.host, awake, 0, by decide +kernel⟩,
   ⟨.host, { awake with tele := memPutBytes [] 16 (leBytes 0x123456789 8), mem := { awake.mem with weak := [(0,0),(1,0x6800),(3,0),(4,17),(4,0),(5,2)] } }, 16, by decide +kernel⟩,
   ⟨.host, { awake with mem := { awake.mem with bad := [(5,2)] } }, 16, by decide +kernel⟩⟩

theorem witness_LoaderPort :
    (∃ (p : Port) (s : State), Served p PLAT_LDATA_HI s ∧ s.loaderRefuses (s.get fPLAT_LADDR_MEM) (s.get fPLAT_LADDR_WORD) = false ∧ s.memPower (s.get fPLAT_LADDR_MEM) = 2) ∧
    (∃ (p : Port) (s : State), Served p PLAT_LDATA_HI s ∧ s.loaderRefuses (s.get fPLAT_LADDR_MEM) (s.get fPLAT_LADDR_WORD) = true) :=
  ⟨⟨.host, sets awake [(MEM_OWNER, 0x2DB6D)], by unfold Served; decide +kernel⟩,
   ⟨.host, awake, by unfold Served; decide +kernel⟩⟩

theorem witness_PlatLoad :
    (∃ (p : Port) (s : State), Served p PLAT_CTL s ∧ (s.get fPLAT_STATE_PHASE = 1 ∧ s.cyc.phaseAt ≠ s.now + 1 ∨ s.get fPLAT_STATE_PHASE = 5)) ∧
    (∃ (p : Port) (s : State), Served p PLAT_CTL s ∧ (¬(s.get fPLAT_STATE_PHASE = 1 ∧ s.cyc.phaseAt ≠ s.now + 1 ∨ s.get fPLAT_STATE_PHASE = 5))) ∧
    (∃ (s : State), s.boot.checkDue.isSome = true ∧ s.memPower 1 = 2 ∧ s.weakIn 1 platBase (min 49152 s.imgLen) ≠ []) ∧
    (∃ (s u : State), s.boot.checkDue.isSome = true ∧ (u = s.updBoot (fun b => { b with checkDue := none })) ∧ s.weakIn 1 platBase (min 49152 s.imgLen) = [] ∧ u.checkImage = .crc) ∧
    (∃ (s u : State) (o : _), s.boot.checkDue.isSome = true ∧ (u = s.updBoot (fun b => { b with checkDue := none })) ∧ s.weakIn 1 platBase (min 49152 s.imgLen) = [] ∧ u.checkImage = .format o) ∧
    (∃ (s u : State) (rs e : _), s.boot.checkDue.isSome = true ∧ (u = s.updBoot (fun b => { b with checkDue := none })) ∧ s.weakIn 1 platBase (min 49152 s.imgLen) = [] ∧ u.checkImage = .good rs e ∧ (u.applyPlat rs).platFails = []) ∧
    (∃ (s u : State) (rs e f fs : _), s.boot.checkDue.isSome = true ∧ (u = s.updBoot (fun b => { b with checkDue := none })) ∧ s.weakIn 1 platBase (min 49152 s.imgLen) = [] ∧ u.checkImage = .good rs e ∧ (u.applyPlat rs).platFails = f :: fs) :=
  ⟨⟨.host, awake.put fPLAT_STATE_PHASE 1, by unfold Served; decide +kernel⟩,
   ⟨.host, awake, by unfold Served; decide +kernel⟩,
   ⟨{ withPlat ({ awake.put fCAD_LOCK_LOCKED 0 with boot := { awake.boot with checkDue := some 5 } }) goodPlat with mem := { awake.mem with weak := [(0,0),(1,0x6800),(3,0),(4,17),(4,0),(5,2)] } }, by decide +kernel⟩,
   ⟨{ awake.put fCAD_LOCK_LOCKED 0 with boot := { awake.boot with checkDue := some 5 } }, ({ awake.put fCAD_LOCK_LOCKED 0 with boot := { awake.boot with checkDue := some 5 } } : State).updBoot (fun b => { b with checkDue := none }), by decide +kernel⟩,
   ⟨withPlat ({ awake.put fCAD_LOCK_LOCKED 0 with boot := { awake.boot with checkDue := some 5 } }) [24+8, 0, 0x05000001, 0,0], (withPlat ({ awake.put fCAD_LOCK_LOCKED 0 with boot := { awake.boot with checkDue := some 5 } }) [24+8, 0, 0x05000001, 0,0] : State).updBoot (fun b => { b with checkDue := none }), (match (((withPlat ({ awake.put fCAD_LOCK_LOCKED 0 with boot := { awake.boot with checkDue := some 5 } }) [24+8, 0, 0x05000001, 0,0] : State).updBoot (fun b => { b with checkDue := none }) : State).checkImage) with | .format o => o | _ => 0), by decide +kernel⟩,
   ⟨withPlat ({ awake.put fCAD_LOCK_LOCKED 0 with boot := { awake.boot with checkDue := some 5 } }) goodPlat, (withPlat ({ awake.put fCAD_LOCK_LOCKED 0 with boot := { awake.boot with checkDue := some 5 } }) goodPlat : State).updBoot (fun b => { b with checkDue := none }), (match (((withPlat ({ awake.put fCAD_LOCK_LOCKED 0 with boot := { awake.boot with checkDue := some 5 } }) goodPlat : State).updBoot (fun b => { b with checkDue := none }) : State).checkImage) with | .good a _ => a | _ => []), (match (((withPlat ({ awake.put fCAD_LOCK_LOCKED 0 with boot := { awake.boot with checkDue := some 5 } }) goodPlat : State).updBoot (fun b => { b with checkDue := none }) : State).checkImage) with | .good _ b => b | _ => 0), by decide +kernel⟩,
   ⟨withPlat ({ awake.put fCAD_LOCK_LOCKED 0 with boot := { awake.boot with checkDue := some 5 } }) [44, 0, 0x01000001, 0x100000 + IBS_COEF 0, 0, 0x03000000, 2, 0x7F000000], (withPlat ({ awake.put fCAD_LOCK_LOCKED 0 with boot := { awake.boot with checkDue := some 5 } }) [44, 0, 0x01000001, 0x100000 + IBS_COEF 0, 0, 0x03000000, 2, 0x7F000000] : State).updBoot (fun b => { b with checkDue := none }), (match (((withPlat ({ awake.put fCAD_LOCK_LOCKED 0 with boot := { awake.boot with checkDue := some 5 } }) [44, 0, 0x01000001, 0x100000 + IBS_COEF 0, 0, 0x03000000, 2, 0x7F000000] : State).updBoot (fun b => { b with checkDue := none }) : State).checkImage) with | .good a _ => a | _ => []), (match (((withPlat ({ awake.put fCAD_LOCK_LOCKED 0 with boot := { awake.boot with checkDue := some 5 } }) [44, 0, 0x01000001, 0x100000 + IBS_COEF 0, 0, 0x03000000, 2, 0x7F000000] : State).updBoot (fun b => { b with checkDue := none }) : State).checkImage) with | .good _ b => b | _ => 0), ((((withPlat ({ awake.put fCAD_LOCK_LOCKED 0 with boot := { awake.boot with checkDue := some 5 } }) [44, 0, 0x01000001, 0x100000 + IBS_COEF 0, 0, 0x03000000, 2, 0x7F000000] : State).updBoot (fun b => { b with checkDue := none }) : State).applyPlat (match (((withPlat ({ awake.put fCAD_LOCK_LOCKED 0 with boot := { awake.boot with checkDue := some 5 } }) [44, 0, 0x01000001, 0x100000 + IBS_COEF 0, 0, 0x03000000, 2, 0x7F000000] : State).updBoot (fun b => { b with checkDue := none }) : State).checkImage) with | .good a _ => a | _ => [])).platFails).head (by decide +kernel), ((((withPlat ({ awake.put fCAD_LOCK_LOCKED 0 with boot := { awake.boot with checkDue := some 5 } }) [44, 0, 0x01000001, 0x100000 + IBS_COEF 0, 0, 0x03000000, 2, 0x7F000000] : State).updBoot (fun b => { b with checkDue := none }) : State).applyPlat (match (((withPlat ({ awake.put fCAD_LOCK_LOCKED 0 with boot := { awake.boot with checkDue := some 5 } }) [44, 0, 0x01000001, 0x100000 + IBS_COEF 0, 0, 0x03000000, 2, 0x7F000000] : State).updBoot (fun b => { b with checkDue := none }) : State).checkImage) with | .good a _ => a | _ => [])).platFails).tail, by decide +kernel⟩⟩

theorem witness_FirmwareAndStart :
    (∃ (s : State), s.boot.fwDue.isSome = true ∧ s.memPower 0 = 2 ∧ s.weakIn 0 0 (s.get fPLAT_FWLEN_LEN) ≠ []) ∧
    (∃ (s : State), s.boot.fwDue.isSome = true ∧ s.weakIn 0 0 (s.get fPLAT_FWLEN_LEN) = [] ∧ s.fwGood = false) ∧
    (∃ (s : State), s.boot.fwDue.isSome = true ∧ s.weakIn 0 0 (s.get fPLAT_FWLEN_LEN) = [] ∧ s.fwGood = true ∧ s.boot.released = true ∧ s.aon ≠ 1) ∧
    (∃ (s : State), s.boot.fwDue.isSome = true ∧ s.weakIn 0 0 (s.get fPLAT_FWLEN_LEN) = [] ∧ s.fwGood = true ∧ s.boot.released = false ∧ s.aon ≠ 1) ∧
    (∃ (s : State), s.boot.seq = true ∧ (s.canStart = false ∨ ∃ d, d ∈ s.boot.group ∧ s.domState d = 3)) ∧
    (∃ (s : State), s.boot.seq = true ∧ s.canStart = true ∧ (∀ d, d ∈ s.boot.group → s.domState d ≠ 3) ∧ s.boot.toStart = [] ∧ s.aon ≠ 5) ∧
    (∃ (s : State), s.boot.seq = true ∧ s.canStart = true ∧ (∀ d, d ∈ s.boot.group → s.domState d ≠ 3) ∧ s.boot.toStart = [] ∧ s.aon = 5) ∧
    (∃ (s : State), s.boot.seq = true ∧ s.canStart = true ∧ (∀ d, d ∈ s.boot.group → s.domState d ≠ 3) ∧ s.boot.toStart ≠ []) ∧
    (∃ (s : State) (d : _), s.boot.seq = true ∧ s.canStart = true ∧ (∀ d, d ∈ s.boot.group → s.domState d ≠ 3) ∧ d < 32 ∧ s.boot.toStart = [d] ∧ s.domState d = 1 ∧ s.mayStart d = true) ∧
    (∃ (s : State) (d : _), s.boot.seq = true ∧ s.canStart = true ∧ (∀ d, d ∈ s.boot.group → s.domState d ≠ 3) ∧ d < 32 ∧ s.boot.toStart = [d] ∧ s.domState d = 1 ∧ s.mayStart d = false) ∧
    (∃ (s : State), s.pst.offCheck = true ∧ s.memPower 1 = 2 ∧ s.clk.fastOsc = true ∧ s.weakIn 1 platBase (min 49152 s.imgLen) = [] ∧ ({ s with pst := { s.pst with offCheck := false } } : State).loadPlat.2 = false) ∧
    (∃ (s : State), s.pst.offCheck = true ∧ s.memPower 1 = 2 ∧ s.clk.fastOsc = true ∧ s.weakIn 1 platBase (min 49152 s.imgLen) = [] ∧ ({ s with pst := { s.pst with offCheck := false } } : State).loadPlat.2 = true) :=
  ⟨⟨{ ({ (awake.put fBLK_CORE_HOLD 1).put fBLK_CORE_RUNNING 0 with boot := { awake.boot with fwDue := some 5 } }).put fPLAT_FWLEN_LEN 8 with mem := { awake.mem with weak := [(0,0),(1,0x6800),(3,0),(4,17),(4,0),(5,2)] } }, by decide +kernel⟩,
   ⟨({ (awake.put fBLK_CORE_HOLD 1).put fBLK_CORE_RUNNING 0 with boot := { awake.boot with fwDue := some 5 } }).put fPLAT_FWLEN_LEN 8, by decide +kernel⟩,
   ⟨{ (({ (awake.put fBLK_CORE_HOLD 1).put fBLK_CORE_RUNNING 0 with boot := { awake.boot with fwDue := some 5 } }).put fPLAT_FWLEN_LEN 8).setReg PLAT_FWCRC (crc32c (leBytes 0 8)) with boot := { awake.boot with fwDue := some 5, released := true } }, by decide +kernel⟩,
   ⟨{ (awake.put fBLK_CORE_HOLD 1).put fBLK_CORE_RUNNING 0 with boot := { awake.boot with fwDue := some 5 } }, by decide +kernel⟩,
   ⟨{ mapped with boot := { awake.boot with seq := true }, ib := { mapped.ib with ramping := true } }, by decide +kernel⟩,
   ⟨{ mapped with boot := { awake.boot with seq := true } }, by decide +kernel⟩,
   ⟨({ mapped with boot := { awake.boot with seq := true } }).put fPST_STATE_STATE 5, by decide +kernel⟩,
   ⟨{ mapped with boot := { awake.boot with seq := true, toStart := [1,2,3] } }, by decide +kernel⟩,
   ⟨{ (mapped.put (fDOM_VSET_CODE 1) 600) with boot := { awake.boot with seq := true, toStart := [1] } }, (({ (mapped.put (fDOM_VSET_CODE 1) 600) with boot := { awake.boot with seq := true, toStart := [1] } } : State).boot.toStart).head (by decide +kernel), by decide +kernel⟩,
   ⟨{ mapped with boot := { awake.boot with seq := true, toStart := [1] } }, (({ mapped with boot := { awake.boot with seq := true, toStart := [1] } } : State).boot.toStart).head (by decide +kernel), by decide +kernel⟩,
   ⟨{ (awake.put fCAD_LOCK_LOCKED 0) with pst := { awake.pst with offCheck := true } }, by decide +kernel⟩,
   ⟨withPlat ({ (awake.put fCAD_LOCK_LOCKED 0) with pst := { awake.pst with offCheck := true } }) goodPlat, by decide +kernel⟩⟩

theorem witness_Calibrations :
    (∃ (s : State) (a : _), s.boot.bmDue = some a ∧ a ≤ s.now) ∧
    (∃ (s : State), s.por = false ∧ s.thm.tcal = none ∧ s.on fPLAT_STATE_BMDONE = true) ∧
    (∃ (s : State), s.on fTHM_STATE_CALDONE = true ∧ s.aon ≠ 4) :=
  ⟨⟨{ awake with boot := { awake.boot with bmDue := some (10^10) } }, (({ awake with boot := { awake.boot with bmDue := some (10^10) } } : State).boot.bmDue).get (by decide +kernel), by decide +kernel⟩,
   ⟨awake.putB fPLAT_STATE_BMDONE true, by decide +kernel⟩,
   ⟨awake.putB fTHM_STATE_CALDONE true, by decide +kernel⟩⟩

theorem witness_PegSpacing :
    (∃ (s : State) (q : Fin 16) (a : Nat), s.gateLive = true ∧ (tblGet (fun _ => 0) s.so.lastPeg q = a + 1) ∧ s.now < a + 10) ∧
    (∃ (s : State) (q : Fin 16) (a : Nat) (r : _), s.gateLive = true ∧ (tblGet (fun _ => 0) s.so.lastPeg q = a + 1) ∧ s.now = a + 10 ∧ s.runOrIdle = true ∧ r ≠ q.val) ∧
    (∃ (s : State) (q : Fin 16) (a : Nat), s.gateLive = true ∧ (tblGet (fun _ => 0) s.so.lastPeg q = a + 1) ∧ s.now = a + 10 ∧ s.runOrIdle = true ∧ s.on fSO_CTL_EN = true ∧ s.on (fSO_PEGMAP_EN q) = true) :=
  ⟨⟨{ soOn with so := { soOn.so with lastPeg := [(0, 10^10-9+1),(3,4)] } }, 0, 10^10-9, by decide +kernel⟩,
   ⟨{ soOn with so := { soOn.so with lastPeg := [(0, 10^10-10+1),(15,10^10-10+1)] } }, 0, 10^10-10, 15, by decide +kernel⟩,
   ⟨{ soOn with so := { soOn.so with lastPeg := [(0, 10^10-10+1),(15,10^10-10+1)] } }, 0, 10^10-10, by decide +kernel⟩⟩

theorem witness_PegsOpenAndStartInstances :
    (∃ (s : State) (q : Fin 16) (mark : Fin 65536) (idx : Nat), PegTaken s q ∧ idx = pegIndex s q mark ∧ (∃ i, i ∈ s.so.awaiting ∧ i.idx = idx)) ∧
    (∃ (s : State) (q : Fin 16) (mark : Fin 65536) (idx : Nat) (k x : _), PegTaken s q ∧ idx = pegIndex s q mark ∧ (∀ i, i ∈ s.so.awaiting → i.idx ≠ idx) ∧ s.hitSlot idx = some (k, x) ∧ s.memUsable 3 = true ∧ s.memBad 3 (32 * k) 32 = false ∧ s.weakIn 3 (32 * k) 32 = []) ∧
    (∃ (s : State) (q : Fin 16) (mark : Fin 65536) (idx : Nat), PegTaken s q ∧ idx = pegIndex s q mark ∧ (∀ i, i ∈ s.so.awaiting → i.idx ≠ idx) ∧ s.hitSlot idx = none ∧ s.allPinned = false ∧ s.so.queue = [] ∧ 1 ≤ s.freeIds) ∧
    (∃ (s : State) (q : Fin 16) (mark : Fin 65536) (idx : Nat), PegTaken s q ∧ idx = pegIndex s q mark ∧ (∀ i, i ∈ s.so.awaiting → i.idx ≠ idx) ∧ s.hitSlot idx = none ∧ s.allPinned = false ∧ (s.so.queue ≠ [] ∨ s.freeIds = 0) ∧ s.so.queue.length < 64) ∧
    (∃ (s : State) (q : Fin 16) (mark : Fin 65536) (idx : Nat), PegTaken s q ∧ idx = pegIndex s q mark ∧ (∀ i, i ∈ s.so.awaiting → i.idx ≠ idx) ∧ s.hitSlot idx = none ∧ s.allPinned = false ∧ 64 ≤ s.so.queue.length) ∧
    (∃ (s : State) (q : Fin 16) (mark : Fin 65536) (idx : Nat), PegTaken s q ∧ idx = pegIndex s q mark ∧ (∀ i, i ∈ s.so.awaiting → i.idx ≠ idx) ∧ s.hitSlot idx = none ∧ s.allPinned = true) ∧
    (∃ (s : State) (q : Fin 16) (mark : Fin 65536) (idx : Nat) (i b : _), PegTaken s q ∧ idx = pegIndex s q mark ∧ (s.so.awaiting.find? (fun i => i.idx = idx) = some i) ∧ i.rcd = some b ∧ genOf b = s.get fSO_GEN_GEN) ∧
    (∃ (s : State) (q : Fin 16) (mark : Fin 65536) (idx : Nat) (i : _), PegTaken s q ∧ idx = pegIndex s q mark ∧ (s.so.awaiting.find? (fun i => i.idx = idx) = some i) ∧ (∀ b, i.rcd = some b → genOf b ≠ s.get fSO_GEN_GEN) ∧ (i.rcd.isSome = true ∨ i.plain = false)) ∧
    (∃ (s : State) (q : Fin 16) (mark : Fin 65536) (idx : Nat) (i : _), PegTaken s q ∧ idx = pegIndex s q mark ∧ (s.so.awaiting.find? (fun i => i.idx = idx) = some i) ∧ i.rcd = none ∧ i.plain = true ∧ (∀ j, j ∈ s.so.running → j.idx ≠ idx)) :=
  ⟨⟨withInsts soOn [inst7] [], 0, 7, pegIndex (withInsts soOn [inst7] [] : State) (0 : Fin 16) (7 : Fin 65536), by unfold PegTaken; decide +kernel⟩,
   ⟨{ soOn with plan := memPutBytes [] 0 rec7, so := { soOn.so with slots := [(0, { idx := 7, gen := 5, usable := true, stamp := 4, used := 4 })] } }, 0, 7, pegIndex ({ soOn with plan := memPutBytes [] 0 rec7, so := { soOn.so with slots := [(0, { idx := 7, gen := 5, usable := true, stamp := 4, used := 4 })] } } : State) (0 : Fin 16) (7 : Fin 65536), ((({ soOn with plan := memPutBytes [] 0 rec7, so := { soOn.so with slots := [(0, { idx := 7, gen := 5, usable := true, stamp := 4, used := 4 })] } } : State).hitSlot (pegIndex ({ soOn with plan := memPutBytes [] 0 rec7, so := { soOn.so with slots := [(0, { idx := 7, gen := 5, usable := true, stamp := 4, used := 4 })] } } : State) (0 : Fin 16) (7 : Fin 65536) : Nat)).get (by decide +kernel)).1, ((({ soOn with plan := memPutBytes [] 0 rec7, so := { soOn.so with slots := [(0, { idx := 7, gen := 5, usable := true, stamp := 4, used := 4 })] } } : State).hitSlot (pegIndex ({ soOn with plan := memPutBytes [] 0 rec7, so := { soOn.so with slots := [(0, { idx := 7, gen := 5, usable := true, stamp := 4, used := 4 })] } } : State) (0 : Fin 16) (7 : Fin 65536) : Nat)).get (by decide +kernel)).2, by unfold PegTaken; decide +kernel⟩,
   ⟨soOn, 0, 7, pegIndex (soOn : State) (0 : Fin 16) (7 : Fin 65536), by unfold PegTaken; decide +kernel⟩,
   ⟨{ soOn with so := { soOn.so with queue := [9], next := 50 } }, 0, 7, pegIndex ({ soOn with so := { soOn.so with queue := [9], next := 50 } } : State) (0 : Fin 16) (7 : Fin 65536), by unfold PegTaken; decide +kernel⟩,
   ⟨{ soOn with so := { soOn.so with queue := List.replicate 64 9, next := 50 } }, 0, 7, pegIndex ({ soOn with so := { soOn.so with queue := List.replicate 64 9, next := 50 } } : State) (0 : Fin 16) (7 : Fin 65536), by unfold PegTaken; decide +kernel⟩,
   ⟨{ soOn with so := { soOn.so with next := 50, slots := (List.range 2048).map fun k => (k, { idx := 100, gen := 5, usable := true, stamp := 4, used := 4 }), awaiting := [{ inst7 with idx := 100 }] } }, 0, 7, pegIndex ({ soOn with so := { soOn.so with next := 50, slots := (List.range 2048).map fun k => (k, { idx := 100, gen := 5, usable := true, stamp := 4, used := 4 }), awaiting := [{ inst7 with idx := 100 }] } } : State) (0 : Fin 16) (7 : Fin 65536), by unfold PegTaken; decide +kernel⟩,
   ⟨withInsts soOn [inst7] [], 0, 7, pegIndex (withInsts soOn [inst7] [] : State) (0 : Fin 16) (7 : Fin 65536), ((withInsts soOn [inst7] [] : State).so.awaiting.find? (fun i => i.idx = (pegIndex (withInsts soOn [inst7] [] : State) (0 : Fin 16) (7 : Fin 65536) : Nat))).get (by decide +kernel), ((((withInsts soOn [inst7] [] : State).so.awaiting.find? (fun i => i.idx = (pegIndex (withInsts soOn [inst7] [] : State) (0 : Fin 16) (7 : Fin 65536) : Nat))).get (by decide +kernel)).rcd).get (by decide +kernel), by unfold PegTaken; decide +kernel⟩,
   ⟨withInsts soOn [{ inst7 with rcd := none, fetch := some 3 }] [], 0, 7, pegIndex (withInsts soOn [{ inst7 with rcd := none, fetch := some 3 }] [] : State) (0 : Fin 16) (7 : Fin 65536), ((withInsts soOn [{ inst7 with rcd := none, fetch := some 3 }] [] : State).so.awaiting.find? (fun i => i.idx = (pegIndex (withInsts soOn [{ inst7 with rcd := none, fetch := some 3 }] [] : State) (0 : Fin 16) (7 : Fin 65536) : Nat))).get (by decide +kernel), by unfold PegTaken; decide +kernel⟩,
   ⟨withInsts soOn [{ inst7 with rcd := none, plain := true }] [], 0, 7, pegIndex (withInsts soOn [{ inst7 with rcd := none, plain := true }] [] : State) (0 : Fin 16) (7 : Fin 65536), ((withInsts soOn [{ inst7 with rcd := none, plain := true }] [] : State).so.awaiting.find? (fun i => i.idx = (pegIndex (withInsts soOn [{ inst7 with rcd := none, plain := true }] [] : State) (0 : Fin 16) (7 : Fin 65536) : Nat))).get (by decide +kernel), by unfold PegTaken; decide +kernel⟩⟩

theorem witness_InstanceTimes :
    (∃ (s : State) (idx : Fin 65536) (i b d : _), (s.so.awaiting.find? (fun i => i.idx = idx.val) = some i) ∧ i.rcd = some b ∧ d ∈ s.maskedBy b ∧ s.liftStart i b d ≤ s.now ∧ s.isOn d = true ∧ (∀ e, e ∈ i.lifts → e.1 ≠ d) ∧ d ∉ i.out) ∧
    (∃ (s : State) (idx : Fin 65536) (i : _), (s.so.running.find? (fun i => i.idx = idx.val) = some i) ∧ i.arrAt + i.dur ≤ s.now) ∧
    (∃ (s : State) (idx : Fin 65536) (i b : _), (s.so.awaiting.find? (fun i => i.idx = idx.val) = some i) ∧ i.rcd = some b ∧ i.annAt + rLead b + 1000 * s.get fSO_CFG_GRACE ≤ s.now ∧ i.seq < 16) ∧
    (∃ (s : State) (p : Port), Served p SO_CTL s ∧ s.on fSO_CTL_EN = false ∧ s.shut = true) ∧
    (∃ (s : State) (p : Port), Served p SO_CTL s ∧ s.on fSO_CTL_EN = false ∧ s.shut = false ∧ s.winBase < s.winLimit ∧ s.memUsable 3 = true) ∧
    (∃ (s : State) (p : Port), Served p SO_CTL s ∧ s.on fSO_CTL_EN = false ∧ s.shut = false ∧ s.winLimit ≤ s.winBase ∧ s.memUsable 3 = true) ∧
    (∃ (s : State) (p : Port), Served p SO_CTL s ∧ s.on fSO_CTL_EN = false ∧ s.shut = false ∧ s.winBase < s.winLimit ∧ s.memUsable 3 = false) ∧
    (∃ (s : State) (p : Port), Served p SO_CTL s ∧ s.on fSO_CTL_EN = true) :=
  ⟨⟨withInsts soOn [inst7] [], 7, ((withInsts soOn [inst7] [] : State).so.awaiting.find? (fun i => i.idx = (7 : Fin 65536).val)).get (by decide +kernel), ((((withInsts soOn [inst7] [] : State).so.awaiting.find? (fun i => i.idx = (7 : Fin 65536).val)).get (by decide +kernel)).rcd).get (by decide +kernel), (1:Nat), by decide +kernel⟩,
   ⟨withInsts (soOn.updDom 1 fun h => { h with ccm := [1] }) [] [{ inst7 with lifts := [(1,3)], arrAt := 10^10-2000 }, { inst7 with no := 2, idx := 8 }], 7, ((withInsts (soOn.updDom 1 fun h => { h with ccm := [1] }) [] [{ inst7 with lifts := [(1,3)], arrAt := 10^10-2000 }, { inst7 with no := 2, idx := 8 }] : State).so.running.find? (fun i => i.idx = (7 : Fin 65536).val)).get (by decide +kernel), by decide +kernel⟩,
   ⟨withInsts soOn [{ inst7 with annAt := 10^10-1600-655350, lifts := [(1,3)] }] [], 7, ((withInsts soOn [{ inst7 with annAt := 10^10-1600-655350, lifts := [(1,3)] }] [] : State).so.awaiting.find? (fun i => i.idx = (7 : Fin 65536).val)).get (by decide +kernel), ((((withInsts soOn [{ inst7 with annAt := 10^10-1600-655350, lifts := [(1,3)] }] [] : State).so.awaiting.find? (fun i => i.idx = (7 : Fin 65536).val)).get (by decide +kernel)).rcd).get (by decide +kernel), by decide +kernel⟩,
   ⟨(soOn.put fSO_CTL_EN 0).putB fTHM_STATE_SHUT true, .host, by unfold Served; decide +kernel⟩,
   ⟨withInsts ((soOn.put fSO_CTL_EN 0).put fSO_WIN_LIMIT_ADDR 2) [] [], .host, by unfold Served; decide +kernel⟩,
   ⟨((soOn.put fSO_CTL_EN 0).put fSO_WIN_LIMIT_ADDR 1), .host, by unfold Served; decide +kernel⟩,
   ⟨(soOn.put fSO_CTL_EN 0).put fMEM_PWR_PWR3 0, .host, by unfold Served; decide +kernel⟩,
   ⟨withInsts soOn [inst7] [], .host, by unfold Served; decide +kernel⟩⟩

theorem witness_PlanReads :
    (∃ (s : State) (a l : _), s.pins.hostPwrgd = true ∧ s.so.reads.length < 32 ∧ s.so.arrives = a :: l ∧ s.inWindow s.winBase = true) ∧
    (∃ (s : State) (f : Fetch), s.pins.hostPwrgd = true ∧ s.so.reads.length < 32 ∧ s.so.arrives = [] ∧ s.so.fetches.find? s.issuable = some f ∧ s.so.queue = [] ∧ f.hdrIssued = false ∧ s.inWindow s.winBase = true) ∧
    (∃ (s : State) (f : Fetch), s.pins.hostPwrgd = true ∧ s.so.reads.length < 32 ∧ s.so.arrives = [] ∧ s.so.fetches.find? s.issuable = some f ∧ s.so.queue = [] ∧ f.hdrIssued = true ∧ s.inWindow (s.recordAddr f.idx) = true ∧ f.idx < s.countFor f) ∧
    (∃ (s : State) (f : Fetch), s.pins.hostPwrgd = true ∧ s.so.reads.length < 32 ∧ s.so.arrives = [] ∧ s.so.fetches.find? s.issuable = some f ∧ s.so.queue = [] ∧ (f.hdrIssued = false ∧ s.inWindow s.winBase = false ∨ f.hdrIssued = true ∧ (s.inWindow (s.recordAddr f.idx) = false ∨ s.countFor f ≤ f.idx))) ∧
    (∃ (s : State) (rid : Fin 32) (b : List Byte) (r : PlanRead) (f : Fetch), s.readNo rid = some r ∧ r.live = true ∧ b.length = 32 ∧ r.header = true ∧ r.fetch = some f.no ∧ (s.so.fetches.find? (fun g => g.no = f.no) = some f)) ∧
    (∃ (s : State) (rid : Fin 32) (b : List Byte) (r : PlanRead) (f : Fetch) (g c : _), s.readNo rid = some r ∧ r.live = true ∧ b.length = 32 ∧ r.header = false ∧ r.fetch = some f.no ∧ (s.so.fetches.find? (fun g => g.no = f.no) = some f) ∧ f.hdr = some (g, c) ∧ malformed b f.mark = true) ∧
    (∃ (s : State) (rid : Fin 32) (b : List Byte) (r : PlanRead) (f : Fetch) (g c : _), s.readNo rid = some r ∧ r.live = true ∧ b.length = 32 ∧ r.header = false ∧ r.fetch = some f.no ∧ (s.so.fetches.find? (fun g => g.no = f.no) = some f) ∧ f.hdr = some (g, c) ∧ malformed b f.mark = false ∧ g ≠ 0 ∧ genOf b ≠ g ∧ f.seq < 16) ∧
    (∃ (s : State) (rid : Fin 32) (b : List Byte) (r : PlanRead) (f : Fetch) (g c : _), s.readNo rid = some r ∧ r.live = true ∧ b.length = 32 ∧ r.header = false ∧ r.fetch = some f.no ∧ (s.so.fetches.find? (fun g => g.no = f.no) = some f) ∧ f.hdr = some (g, c) ∧ malformed b f.mark = false ∧ genOf b = g ∧ g ≠ 0 ∧ s.memUsable 3 = true) ∧
    (∃ (s : State) (rid : Fin 32) (b : List Byte) (r : PlanRead) (a g z : _), s.readNo rid = some r ∧ r.live = true ∧ b.length = 32 ∧ r.header = true ∧ r.fetch = none ∧ r.arrives = [a] ∧ a.used = some (g, z) ∧ a.seq < 16 ∧ genOf b = g) ∧
    (∃ (s : State) (rid : Fin 32) (b : List Byte) (r : PlanRead) (a g z : _), s.readNo rid = some r ∧ r.live = true ∧ b.length = 32 ∧ r.header = true ∧ r.fetch = none ∧ r.arrives = [a] ∧ a.used = some (g, z) ∧ a.seq < 16 ∧ genOf b ≠ g) ∧
    (∃ (s : State) (rid : Fin 32) (r : PlanRead) (f : Fetch), s.readNo rid = some r ∧ r.live = true ∧ r.since + 10000 ≤ s.now ∧ r.fetch = some f.no ∧ (s.so.fetches.find? (fun g => g.no = f.no) = some f)) ∧
    (∃ (s : State), s.por = false ∧ s.pins.hostPwrgd = true ∧ s.so.reads = [] ∧ s.so.fetches = [] ∧ s.so.queue = [] ∧ s.so.arrives = [] ∧ s.nrg.writes = []) :=
  ⟨⟨{ withReads soOn [] [] with so := { soOn.so with arrives := [{inst:=1,idx:=7,seq:=0,used:=some (5,4)}] } }, (({ withReads soOn [] [] with so := { soOn.so with arrives := [{inst:=1,idx:=7,seq:=0,used:=some (5,4)}] } } : State).so.arrives).head (by decide +kernel), (({ withReads soOn [] [] with so := { soOn.so with arrives := [{inst:=1,idx:=7,seq:=0,used:=some (5,4)}] } } : State).so.arrives).tail, by decide +kernel⟩,
   ⟨withReads (withInsts soOn [{ inst7 with rcd := none, fetch := some 3 }] []) [fetch7] [], ((((withReads (withInsts soOn [{ inst7 with rcd := none, fetch := some 3 }] []) [fetch7] [] : State).readNo (4 : Fin 32)).bind fun r => (withReads (withInsts soOn [{ inst7 with rcd := none, fetch := some 3 }] []) [fetch7] [] : State).so.fetches.find? fun g => r.fetch = some g.no).orElse (fun _ => (withReads (withInsts soOn [{ inst7 with rcd := none, fetch := some 3 }] []) [fetch7] [] : State).so.fetches.find? (withReads (withInsts soOn [{ inst7 with rcd := none, fetch := some 3 }] []) [fetch7] [] : State).issuable)).getD fetch7, by decide +kernel⟩,
   ⟨(withReads soOn [{ fetch7 with hdrIssued := true }] []).put fSO_GEN_GEN 5 |> fun s => { s with so := { s.so with count := 100 } }, (((withReads soOn [{ fetch7 with hdrIssued := true }] []).put fSO_GEN_GEN 5 |> fun s => { s with so := { s.so with count := 100 } } : State).so.fetches.find? ((withReads soOn [{ fetch7 with hdrIssued := true }] []).put fSO_GEN_GEN 5 |> fun s => { s with so := { s.so with count := 100 } } : State).issuable).get (by decide +kernel), by decide +kernel⟩,
   ⟨withReads (withInsts soOn [{ inst7 with rcd := none, fetch := some 3 }] []) [{ fetch7 with hdrIssued := true }] [{ read7 with header := true }], ((((withReads (withInsts soOn [{ inst7 with rcd := none, fetch := some 3 }] []) [{ fetch7 with hdrIssued := true }] [{ read7 with header := true }] : State).readNo (4 : Fin 32)).bind fun r => (withReads (withInsts soOn [{ inst7 with rcd := none, fetch := some 3 }] []) [{ fetch7 with hdrIssued := true }] [{ read7 with header := true }] : State).so.fetches.find? fun g => r.fetch = some g.no).orElse (fun _ => (withReads (withInsts soOn [{ inst7 with rcd := none, fetch := some 3 }] []) [{ fetch7 with hdrIssued := true }] [{ read7 with header := true }] : State).so.fetches.find? (withReads (withInsts soOn [{ inst7 with rcd := none, fetch := some 3 }] []) [{ fetch7 with hdrIssued := true }] [{ read7 with header := true }] : State).issuable)).getD fetch7, by decide +kernel⟩,
   ⟨withReads (withInsts soOn [{ inst7 with rcd := none, fetch := some 3 }] []) [{ fetch7 with hdrIssued := true }] [{ read7 with header := true }], 4, rec7, ((withReads (withInsts soOn [{ inst7 with rcd := none, fetch := some 3 }] []) [{ fetch7 with hdrIssued := true }] [{ read7 with header := true }] : State).readNo (4 : Fin 32)).get (by decide +kernel), ((((withReads (withInsts soOn [{ inst7 with rcd := none, fetch := some 3 }] []) [{ fetch7 with hdrIssued := true }] [{ read7 with header := true }] : State).readNo (4 : Fin 32)).bind fun r => (withReads (withInsts soOn [{ inst7 with rcd := none, fetch := some 3 }] []) [{ fetch7 with hdrIssued := true }] [{ read7 with header := true }] : State).so.fetches.find? fun g => r.fetch = some g.no).orElse (fun _ => (withReads (withInsts soOn [{ inst7 with rcd := none, fetch := some 3 }] []) [{ fetch7 with hdrIssued := true }] [{ read7 with header := true }] : State).so.fetches.find? (withReads (withInsts soOn [{ inst7 with rcd := none, fetch := some 3 }] []) [{ fetch7 with hdrIssued := true }] [{ read7 with header := true }] : State).issuable)).getD fetch7, by decide +kernel⟩,
   ⟨withReads (withInsts soOn [{ inst7 with rcd := none, fetch := some 3 }] []) [{ fetch7 with hdrIssued := true, recIssued := true, hdr := some (5, 100) }] [read7], 4, (leBytes 5 2 ++ leBytes 0 2 ++ leBytes 100 4 ++ List.replicate 24 0#8), ((withReads (withInsts soOn [{ inst7 with rcd := none, fetch := some 3 }] []) [{ fetch7 with hdrIssued := true, recIssued := true, hdr := some (5, 100) }] [read7] : State).readNo (4 : Fin 32)).get (by decide +kernel), ((((withReads (withInsts soOn [{ inst7 with rcd := none, fetch := some 3 }] []) [{ fetch7 with hdrIssued := true, recIssued := true, hdr := some (5, 100) }] [read7] : State).readNo (4 : Fin 32)).bind fun r => (withReads (withInsts soOn [{ inst7 with rcd := none, fetch := some 3 }] []) [{ fetch7 with hdrIssued := true, recIssued := true, hdr := some (5, 100) }] [read7] : State).so.fetches.find? fun g => r.fetch = some g.no).orElse (fun _ => (withReads (withInsts soOn [{ inst7 with rcd := none, fetch := some 3 }] []) [{ fetch7 with hdrIssued := true, recIssued := true, hdr := some (5, 100) }] [read7] : State).so.fetches.find? (withReads (withInsts soOn [{ inst7 with rcd := none, fetch := some 3 }] []) [{ fetch7 with hdrIssued := true, recIssued := true, hdr := some (5, 100) }] [read7] : State).issuable)).getD fetch7, (((((((withReads (withInsts soOn [{ inst7 with rcd := none, fetch := some 3 }] []) [{ fetch7 with hdrIssued := true, recIssued := true, hdr := some (5, 100) }] [read7] : State).readNo (4 : Fin 32)).bind fun r => (withReads (withInsts soOn [{ inst7 with rcd := none, fetch := some 3 }] []) [{ fetch7 with hdrIssued := true, recIssued := true, hdr := some (5, 100) }] [read7] : State).so.fetches.find? fun g => r.fetch = some g.no).orElse (fun _ => (withReads (withInsts soOn [{ inst7 with rcd := none, fetch := some 3 }] []) [{ fetch7 with hdrIssued := true, recIssued := true, hdr := some (5, 100) }] [read7] : State).so.fetches.find? (withReads (withInsts soOn [{ inst7 with rcd := none, fetch := some 3 }] []) [{ fetch7 with hdrIssued := true, recIssued := true, hdr := some (5, 100) }] [read7] : State).issuable)).getD fetch7 : Fetch).hdr).get (by decide +kernel)).1, (((((((withReads (withInsts soOn [{ inst7 with rcd := none, fetch := some 3 }] []) [{ fetch7 with hdrIssued := true, recIssued := true, hdr := some (5, 100) }] [read7] : State).readNo (4 : Fin 32)).bind fun r => (withReads (withInsts soOn [{ inst7 with rcd := none, fetch := some 3 }] []) [{ fetch7 with hdrIssued := true, recIssued := true, hdr := some (5, 100) }] [read7] : State).so.fetches.find? fun g => r.fetch = some g.no).orElse (fun _ => (withReads (withInsts soOn [{ inst7 with rcd := none, fetch := some 3 }] []) [{ fetch7 with hdrIssued := true, recIssued := true, hdr := some (5, 100) }] [read7] : State).so.fetches.find? (withReads (withInsts soOn [{ inst7 with rcd := none, fetch := some 3 }] []) [{ fetch7 with hdrIssued := true, recIssued := true, hdr := some (5, 100) }] [read7] : State).issuable)).getD fetch7 : Fetch).hdr).get (by decide +kernel)).2, by decide +kernel⟩,
   ⟨withReads (withInsts soOn [{ inst7 with rcd := none, fetch := some 3 }] []) [{ fetch7 with hdrIssued := true, recIssued := true, hdr := some (5, 100) }] [read7], 4, planRec 6 7 2 [0,40,0,0] 0 0 0x80 0, ((withReads (withInsts soOn [{ inst7 with rcd := none, fetch := some 3 }] []) [{ fetch7 with hdrIssued := true, recIssued := true, hdr := some (5, 100) }] [read7] : State).readNo (4 : Fin 32)).get (by decide +kernel), ((((withReads (withInsts soOn [{ inst7 with rcd := none, fetch := some 3 }] []) [{ fetch7 with hdrIssued := true, recIssued := true, hdr := some (5, 100) }] [read7] : State).readNo (4 : Fin 32)).bind fun r => (withReads (withInsts soOn [{ inst7 with rcd := none, fetch := some 3 }] []) [{ fetch7 with hdrIssued := true, recIssued := true, hdr := some (5, 100) }] [read7] : State).so.fetches.find? fun g => r.fetch = some g.no).orElse (fun _ => (withReads (withInsts soOn [{ inst7 with rcd := none, fetch := some 3 }] []) [{ fetch7 with hdrIssued := true, recIssued := true, hdr := some (5, 100) }] [read7] : State).so.fetches.find? (withReads (withInsts soOn [{ inst7 with rcd := none, fetch := some 3 }] []) [{ fetch7 with hdrIssued := true, recIssued := true, hdr := some (5, 100) }] [read7] : State).issuable)).getD fetch7, (((((((withReads (withInsts soOn [{ inst7 with rcd := none, fetch := some 3 }] []) [{ fetch7 with hdrIssued := true, recIssued := true, hdr := some (5, 100) }] [read7] : State).readNo (4 : Fin 32)).bind fun r => (withReads (withInsts soOn [{ inst7 with rcd := none, fetch := some 3 }] []) [{ fetch7 with hdrIssued := true, recIssued := true, hdr := some (5, 100) }] [read7] : State).so.fetches.find? fun g => r.fetch = some g.no).orElse (fun _ => (withReads (withInsts soOn [{ inst7 with rcd := none, fetch := some 3 }] []) [{ fetch7 with hdrIssued := true, recIssued := true, hdr := some (5, 100) }] [read7] : State).so.fetches.find? (withReads (withInsts soOn [{ inst7 with rcd := none, fetch := some 3 }] []) [{ fetch7 with hdrIssued := true, recIssued := true, hdr := some (5, 100) }] [read7] : State).issuable)).getD fetch7 : Fetch).hdr).get (by decide +kernel)).1, (((((((withReads (withInsts soOn [{ inst7 with rcd := none, fetch := some 3 }] []) [{ fetch7 with hdrIssued := true, recIssued := true, hdr := some (5, 100) }] [read7] : State).readNo (4 : Fin 32)).bind fun r => (withReads (withInsts soOn [{ inst7 with rcd := none, fetch := some 3 }] []) [{ fetch7 with hdrIssued := true, recIssued := true, hdr := some (5, 100) }] [read7] : State).so.fetches.find? fun g => r.fetch = some g.no).orElse (fun _ => (withReads (withInsts soOn [{ inst7 with rcd := none, fetch := some 3 }] []) [{ fetch7 with hdrIssued := true, recIssued := true, hdr := some (5, 100) }] [read7] : State).so.fetches.find? (withReads (withInsts soOn [{ inst7 with rcd := none, fetch := some 3 }] []) [{ fetch7 with hdrIssued := true, recIssued := true, hdr := some (5, 100) }] [read7] : State).issuable)).getD fetch7 : Fetch).hdr).get (by decide +kernel)).2, by decide +kernel⟩,
   ⟨withReads (withInsts soOn [{ inst7 with rcd := none, fetch := some 3 }] []) [{ fetch7 with hdrIssued := true, recIssued := true, hdr := some (5, 100) }] [read7], 4, rec7, ((withReads (withInsts soOn [{ inst7 with rcd := none, fetch := some 3 }] []) [{ fetch7 with hdrIssued := true, recIssued := true, hdr := some (5, 100) }] [read7] : State).readNo (4 : Fin 32)).get (by decide +kernel), ((((withReads (withInsts soOn [{ inst7 with rcd := none, fetch := some 3 }] []) [{ fetch7 with hdrIssued := true, recIssued := true, hdr := some (5, 100) }] [read7] : State).readNo (4 : Fin 32)).bind fun r => (withReads (withInsts soOn [{ inst7 with rcd := none, fetch := some 3 }] []) [{ fetch7 with hdrIssued := true, recIssued := true, hdr := some (5, 100) }] [read7] : State).so.fetches.find? fun g => r.fetch = some g.no).orElse (fun _ => (withReads (withInsts soOn [{ inst7 with rcd := none, fetch := some 3 }] []) [{ fetch7 with hdrIssued := true, recIssued := true, hdr := some (5, 100) }] [read7] : State).so.fetches.find? (withReads (withInsts soOn [{ inst7 with rcd := none, fetch := some 3 }] []) [{ fetch7 with hdrIssued := true, recIssued := true, hdr := some (5, 100) }] [read7] : State).issuable)).getD fetch7, (((((((withReads (withInsts soOn [{ inst7 with rcd := none, fetch := some 3 }] []) [{ fetch7 with hdrIssued := true, recIssued := true, hdr := some (5, 100) }] [read7] : State).readNo (4 : Fin 32)).bind fun r => (withReads (withInsts soOn [{ inst7 with rcd := none, fetch := some 3 }] []) [{ fetch7 with hdrIssued := true, recIssued := true, hdr := some (5, 100) }] [read7] : State).so.fetches.find? fun g => r.fetch = some g.no).orElse (fun _ => (withReads (withInsts soOn [{ inst7 with rcd := none, fetch := some 3 }] []) [{ fetch7 with hdrIssued := true, recIssued := true, hdr := some (5, 100) }] [read7] : State).so.fetches.find? (withReads (withInsts soOn [{ inst7 with rcd := none, fetch := some 3 }] []) [{ fetch7 with hdrIssued := true, recIssued := true, hdr := some (5, 100) }] [read7] : State).issuable)).getD fetch7 : Fetch).hdr).get (by decide +kernel)).1, (((((((withReads (withInsts soOn [{ inst7 with rcd := none, fetch := some 3 }] []) [{ fetch7 with hdrIssued := true, recIssued := true, hdr := some (5, 100) }] [read7] : State).readNo (4 : Fin 32)).bind fun r => (withReads (withInsts soOn [{ inst7 with rcd := none, fetch := some 3 }] []) [{ fetch7 with hdrIssued := true, recIssued := true, hdr := some (5, 100) }] [read7] : State).so.fetches.find? fun g => r.fetch = some g.no).orElse (fun _ => (withReads (withInsts soOn [{ inst7 with rcd := none, fetch := some 3 }] []) [{ fetch7 with hdrIssued := true, recIssued := true, hdr := some (5, 100) }] [read7] : State).so.fetches.find? (withReads (withInsts soOn [{ inst7 with rcd := none, fetch := some 3 }] []) [{ fetch7 with hdrIssued := true, recIssued := true, hdr := some (5, 100) }] [read7] : State).issuable)).getD fetch7 : Fetch).hdr).get (by decide +kernel)).2, by decide +kernel⟩,
   ⟨withReads (withInsts soOn [] [inst7]) [] [{ read7 with header := true, fetch := none, arrives := [{inst:=1,idx:=7,seq:=0,used:=some (5,4)}] }], 4, rec7, ((withReads (withInsts soOn [] [inst7]) [] [{ read7 with header := true, fetch := none, arrives := [{inst:=1,idx:=7,seq:=0,used:=some (5,4)}] }] : State).readNo (4 : Fin 32)).get (by decide +kernel), ((((withReads (withInsts soOn [] [inst7]) [] [{ read7 with header := true, fetch := none, arrives := [{inst:=1,idx:=7,seq:=0,used:=some (5,4)}] }] : State).readNo (4 : Fin 32)).get (by decide +kernel) : PlanRead).arrives).head (by decide +kernel), (((((((withReads (withInsts soOn [] [inst7]) [] [{ read7 with header := true, fetch := none, arrives := [{inst:=1,idx:=7,seq:=0,used:=some (5,4)}] }] : State).readNo (4 : Fin 32)).get (by decide +kernel) : PlanRead).arrives).head (by decide +kernel)).used).get (by decide +kernel)).1, (((((((withReads (withInsts soOn [] [inst7]) [] [{ read7 with header := true, fetch := none, arrives := [{inst:=1,idx:=7,seq:=0,used:=some (5,4)}] }] : State).readNo (4 : Fin 32)).get (by decide +kernel) : PlanRead).arrives).head (by decide +kernel)).used).get (by decide +kernel)).2, by decide +kernel⟩,
   ⟨withReads (withInsts soOn [] [inst7]) [] [{ read7 with header := true, fetch := none, arrives := [{inst:=1,idx:=7,seq:=0,used:=some (5,4)}] }], 4, planRec 6 7 2 [0,40,0,0] 0 0 0x80 0, ((withReads (withInsts soOn [] [inst7]) [] [{ read7 with header := true, fetch := none, arrives := [{inst:=1,idx:=7,seq:=0,used:=some (5,4)}] }] : State).readNo (4 : Fin 32)).get (by decide +kernel), ((((withReads (withInsts soOn [] [inst7]) [] [{ read7 with header := true, fetch := none, arrives := [{inst:=1,idx:=7,seq:=0,used:=some (5,4)}] }] : State).readNo (4 : Fin 32)).get (by decide +kernel) : PlanRead).arrives).head (by decide +kernel), (((((((withReads (withInsts soOn [] [inst7]) [] [{ read7 with header := true, fetch := none, arrives := [{inst:=1,idx:=7,seq:=0,used:=some (5,4)}] }] : State).readNo (4 : Fin 32)).get (by decide +kernel) : PlanRead).arrives).head (by decide +kernel)).used).get (by decide +kernel)).1, (((((((withReads (withInsts soOn [] [inst7]) [] [{ read7 with header := true, fetch := none, arrives := [{inst:=1,idx:=7,seq:=0,used:=some (5,4)}] }] : State).readNo (4 : Fin 32)).get (by decide +kernel) : PlanRead).arrives).head (by decide +kernel)).used).get (by decide +kernel)).2, by decide +kernel⟩,
   ⟨withReads (withInsts soOn [{ inst7 with rcd := none, fetch := some 3 }] []) [{ fetch7 with hdrIssued := true, recIssued := true, hdr := some (5, 100) }] [read7], 4, ((withReads (withInsts soOn [{ inst7 with rcd := none, fetch := some 3 }] []) [{ fetch7 with hdrIssued := true, recIssued := true, hdr := some (5, 100) }] [read7] : State).readNo (4 : Fin 32)).get (by decide +kernel), ((((withReads (withInsts soOn [{ inst7 with rcd := none, fetch := some 3 }] []) [{ fetch7 with hdrIssued := true, recIssued := true, hdr := some (5, 100) }] [read7] : State).readNo (4 : Fin 32)).bind fun r => (withReads (withInsts soOn [{ inst7 with rcd := none, fetch := some 3 }] []) [{ fetch7 with hdrIssued := true, recIssued := true, hdr := some (5, 100) }] [read7] : State).so.fetches.find? fun g => r.fetch = some g.no).orElse (fun _ => (withReads (withInsts soOn [{ inst7 with rcd := none, fetch := some 3 }] []) [{ fetch7 with hdrIssued := true, recIssued := true, hdr := some (5, 100) }] [read7] : State).so.fetches.find? (withReads (withInsts soOn [{ inst7 with rcd := none, fetch := some 3 }] []) [{ fetch7 with hdrIssued := true, recIssued := true, hdr := some (5, 100) }] [read7] : State).issuable)).getD fetch7, by decide +kernel⟩,
   ⟨awake, by decide +kernel⟩⟩

theorem witness_StartRequests :
    (∃ (s : State) (n : Fin 8), s.gateLive = true ∧ n.val ≠ 0) ∧
    (∃ (s : State) (n : Fin 8), (s.gateLive = false ∨ n.val = 0)) :=
  ⟨⟨awake, (1:Fin 8), by decide +kernel⟩,
   ⟨awake, (0:Fin 8), by decide +kernel⟩⟩

theorem witness_LinksAndPauses :
    (∃ (s : State) (t : Fin 64), s.linkDue t = true) ∧
    (∃ (s : State) (t : Fin 64), (s.gatePause t = true ∨ s.envHold = true ∨ s.get (fCG_TSTAT_PEND t) = 0)) ∧
    (∃ (s : State), s.lclk = true ∧ s.cg.slotNo ≠ some (s.gateCycles / max 1 (s.get fCG_CFG_PSLOT))) ∧
    (∃ (s : State) (d : Fin 32), s.stageWaits d = true ∧ (∀ a, (s.dom d).waitFrom = some a → (s.dom d).waitCheck ≤ s.now) ∧ (s.neighbours d).filter s.isLoaded = []) ∧
    (∃ (s : State) (d : Fin 32), s.stageWaits d = true ∧ (∀ a, (s.dom d).waitFrom = some a → (s.dom d).waitCheck ≤ s.now) ∧ (s.neighbours d).filter s.isLoaded ≠ []) ∧
    (∃ (s : State) (d : Fin 32) (a : _), s.stageWaits d = true ∧ (s.dom d).waitFrom = some a ∧ a + 1000 * s.get fCG_INRUSH_WAIT ≤ s.now) :=
  ⟨⟨(on1.put (fCG_TSTAT_PEND 0) 3).updTract 0 fun h => { h with reqs := [(10^10-2,3)] }, 0, by decide +kernel⟩,
   ⟨(on1.put (fCG_TSTAT_PEND 0) 3).updTract 0 fun h => { h with reqs := [(10^10-2,3)] }, 63, by decide +kernel⟩,
   ⟨(on1.put (fCG_TSTAT_PEND 0) 3).updTract 0 fun h => { h with reqs := [(10^10-2,3)] }, by decide +kernel⟩,
   ⟨((dom1 3).updDom 1 fun h => { h with commanded := 1, phase := .stagesOff, stageDue := 10^10 }), 1, by decide +kernel⟩,
   ⟨((((dom1 3).updDom 1 fun h => { h with commanded := 1, phase := .stagesOff, stageDue := 10^10 }).put (fDOM_DSTAT_STATE 2) 4).updTract 2 fun h => { h with iHist := List.replicate 25 300 }), 1, by decide +kernel⟩,
   ⟨((((dom1 3).updDom 1 fun h => { h with commanded := 1, phase := .stagesOff, stageDue := 10^10 }).put (fDOM_DSTAT_STATE 2) 4).updTract 2 fun h => { h with iHist := List.replicate 25 300 }).updDom 1 fun h => { h with waitFrom := some (10^10 - 1000000), waitCheck := 10^10 }, 1, (((((((dom1 3).updDom 1 fun h => { h with commanded := 1, phase := .stagesOff, stageDue := 10^10 }).put (fDOM_DSTAT_STATE 2) 4).updTract 2 fun h => { h with iHist := List.replicate 25 300 }).updDom 1 fun h => { h with waitFrom := some (10^10 - 1000000), waitCheck := 10^10 } : State).dom (1 : Fin 32)).waitFrom).get (by decide +kernel), by decide +kernel⟩⟩

theorem witness_StationFrames :
    (∃ (s : State), (s.lclk = true ∨ s.aon = 2 ∨ s.aon = 3) ∧ (∀ a, s.loops.frameAt = some a → a + 40 ≤ s.now)) ∧
    (∃ (s : State) (t : Fin 64) (k : _), s.farthest t = some k ∧ 4 < (s.usableIn t).length ∧ (s.tract t).marked ≠ (s.tract t).samples) ∧
    (∃ (s : State) (t : Fin 64) (k : _), s.farthest t = some k ∧ 4 < (s.usableIn t).length ∧ (s.tract t).marked = (s.tract t).samples) ∧
    (∃ (s : State) (t : Fin 64) (k : _), s.farthest t = some k ∧ (s.usableIn t).length ≤ 4 ∧ (s.tract t).consensus = false) ∧
    (∃ (s : State) (t : Fin 64) (p : Port), Served p (STN_SUSP t) s) ∧
    (∃ (s : State) (n : Fin 1024), (s.stn n).stuck = 32 ∧ (s.stn n).disarmed = false) :=
  ⟨⟨on1, by decide +kernel⟩,
   ⟨(((on1.updStn 5 fun h => { h with far := 25000 })).updTract 0 fun h => { h with marked := 9 }), 0, (((((on1.updStn 5 fun h => { h with far := 25000 })).updTract 0 fun h => { h with marked := 9 }) : State).farthest (0 : Fin 64)).get (by decide +kernel), by decide +kernel⟩,
   ⟨(on1.updStn 5 fun h => { h with far := 25000 }), 0, (((on1.updStn 5 fun h => { h with far := 25000 }) : State).farthest (0 : Fin 64)).get (by decide +kernel), by decide +kernel⟩,
   ⟨(on1.updStn 5 fun h => { h with far := 25000 }).put (fSTN_SUSP_SUSP 0) 0xFF8E, 0, (((on1.updStn 5 fun h => { h with far := 25000 }).put (fSTN_SUSP_SUSP 0) 0xFF8E : State).farthest (0 : Fin 64)).get (by decide +kernel), by decide +kernel⟩,
   ⟨on1, 0, .host, by unfold Served; decide +kernel⟩,
   ⟨on1.updStn 0 fun h => { h with stuck := 32 }, 0, by decide +kernel⟩⟩

theorem witness_Snap :
    (∃ (s : State) (n : Fin 1024), s.armed n = true ∧ (s.tract (n / 16)).lockEnd ≤ s.now ∧ s.stopped (n / 16) = false) ∧
    (∃ (s : State) (n : Fin 1024), (s.armed n = false ∨ s.now < (s.tract (n / 16)).lockEnd ∨ s.stopped (n / 16) = true)) ∧
    (∃ (s : State) (t : Fin 64) (m : BitVec 16), 0 < (s.tract t).lockEnd ∧ (s.tract t).lockEnd ≤ s.now ∧ (s.tract t).snapPause.isSome = true ∧ (∃ k, k < 16 ∧ bitN m.toNat k = true ∧ s.armed (16 * t + k) = true) ∧ s.stopped t = false) ∧
    (∃ (s : State) (t : Fin 64) (m : BitVec 16), 0 < (s.tract t).lockEnd ∧ (s.tract t).lockEnd ≤ s.now ∧ (s.tract t).snapPause.isSome = true ∧ (∀ k, k < 16 → bitN m.toNat k = true → s.armed (16 * t + k) = false)) ∧
    (∃ (s : State) (t : Fin 64) (e : _), (s.tract t).snapPause = some e ∧ e ≤ s.now) :=
  ⟨⟨on1, 0, by decide +kernel⟩,
   ⟨on1, 1023, by decide +kernel⟩,
   ⟨(on1.updTract 0 fun h => { h with lockEnd := 10^10, snapPause := some 10 }), 0, 0xFFFF#16, by decide +kernel⟩,
   ⟨(on1.updTract 0 fun h => { h with lockEnd := 10^10, snapPause := some 10 }), 0, 0, by decide +kernel⟩,
   ⟨(on1.updTract 0 fun h => { h with lockEnd := 10^10, snapPause := some 10 }), 0, ((((on1.updTract 0 fun h => { h with lockEnd := 10^10, snapPause := some 10 }) : State).tract (0 : Fin 64)).snapPause).get (by decide +kernel), by decide +kernel⟩⟩

theorem witness_Hiccup :
    (∃ (s : State) (d : Fin 32), (s.dom d).phase = .startRamp ∧ (∃ t, t ∈ s.tractsOf d ∧ 3 * (s.get (fCEL_CSTAT_TARGET (4 * t)) - (s.cell (4 * t)).rampFrom) * 1250000 ≤ 2 * (s.now - (s.dom d).rampAt) * (s.dom d).rate ∧ 5 * s.fedBack t < s.get (fCEL_CSTAT_TARGET (4 * t))) ∧ (∀ k, k ∈ s.cellsOf d → s.get (fCEL_CSTAT_RETRY k) < 3)) ∧
    (∃ (s : State) (d : Fin 32), (s.dom d).phase = .startRamp ∧ (∃ t, t ∈ s.tractsOf d ∧ 3 * (s.get (fCEL_CSTAT_TARGET (4 * t)) - (s.cell (4 * t)).rampFrom) * 1250000 ≤ 2 * (s.now - (s.dom d).rampAt) * (s.dom d).rate ∧ 5 * s.fedBack t < s.get (fCEL_CSTAT_TARGET (4 * t))) ∧ (∀ t, t ∈ s.tractsOf d → s.get (fCEL_CSTAT_RETRY (s.leadCell t)) = 3) ∧ (∃ k, k ∈ s.cellsOf d ∧ s.alive k = true)) ∧
    (∃ (s : State) (c : Fin 256), 250 ≤ (s.cell c).condCnt ∧ s.healthy c = true ∧ s.domOf (c / 4) < 32 ∧ (s.dom (s.domOf (c / 4))).phase.starting = true ∧ s.get (fCEL_CSTAT_RETRY c) < 3) ∧
    (∃ (s : State) (c : Fin 256), 250 ≤ (s.cell c).condCnt ∧ s.healthy c = true ∧ (s.dom (s.domOf (c / 4))).phase.starting = false ∧ s.on (fCEL_CSTAT_SS_DONE c) = true ∧ (∃ k, k ∈ cellsIn (c / 4) ∧ k ≠ c.val ∧ s.healthy k = true) ∧ s.get (fCEL_CSTAT_RETRY c) < 3) ∧
    (∃ (s : State) (c : Fin 256), 250 ≤ (s.cell c).condCnt ∧ s.healthy c = true ∧ (s.dom (s.domOf (c / 4))).phase.starting = false ∧ s.on (fCEL_CSTAT_SS_DONE c) = true ∧ (∃ k, k ∈ cellsIn (c / 4) ∧ k ≠ c.val ∧ s.healthy k = true) ∧ s.get (fCEL_CSTAT_RETRY c) = 3) ∧
    (∃ (s : State) (c : Fin 256), s.domOf (c / 4) < 32 ∧ (s.dom (s.domOf (c / 4))).phase = .hiccup ∧ (s.dom (s.domOf (c / 4))).delayDue ≤ s.now) ∧
    (∃ (s : State) (c : Fin 256) (e : _), (s.dom (s.domOf (c / 4))).phase ≠ .hiccup ∧ (s.cell c).hiccupDue = some e ∧ e ≤ s.now ∧ s.mode c = 6) ∧
    (∃ (s : State) (c : Fin 256), s.healthy c = true ∧ s.mode c ≠ 0 ∧ 2500000 ≤ (s.cell c).okFrames ∧ (s.cell c).condCnt < 250) :=
  ⟨⟨(ramp1.updDom 1 fun h => { h with rate := 1000 }), 1, by decide +kernel⟩,
   ⟨(puts (ramp1.updDom 1 fun h => { h with rate := 1000 }) ((List.range 8).map fun c => (fCEL_CSTAT_RETRY c, 3))), 1, by decide +kernel⟩,
   ⟨(ramp1.updCell 0 fun h => { h with condCnt := 250 }), 0, by decide +kernel⟩,
   ⟨on1.updCell 0 fun h => { h with condCnt := 250 }, 0, by decide +kernel⟩,
   ⟨(on1.put (fCEL_CSTAT_RETRY 0) 3).updCell 0 fun h => { h with condCnt := 250 }, 0, by decide +kernel⟩,
   ⟨ramp1.updDom 1 fun h => { h with phase := .hiccup, delayDue := 10^10 }, 0, by decide +kernel⟩,
   ⟨(on1.put (fCEL_CSTAT_MODE 0) 6).updCell 0 fun h => { h with hiccupDue := some (10^10) }, 0, ((((on1.put (fCEL_CSTAT_MODE 0) 6).updCell 0 fun h => { h with hiccupDue := some (10^10) } : State).cell (0 : Fin 256)).hiccupDue).get (by decide +kernel), by decide +kernel⟩,
   ⟨(on1.put (fCEL_CSTAT_RETRY 0) 3).updCell 0 fun h => { h with okFrames := 2500000 }, 0, by decide +kernel⟩⟩

theorem witness_CellsShareAndFail :
    (∃ (s : State) (c : Fin 256), (s.cell c).openCond = true ∧ s.healthy c = true) ∧
    (∃ (s : State) (c : Fin 256) (ph : Fin 2), (s.mode c = 1 ∨ s.mode c = 4 ∨ s.mode c = 5) ∧ (s.cell c).timed ph = false) ∧
    (∃ (s : State) (c : Fin 256) (ph : Fin 2) (per : List (Int × Bool × Int)), 16 ≤ per.length ∧ ((∀ x, x ∈ per.take 16 → x.1 ≤ 0) ∨ ∀ x, x ∈ per.take 16 → x.2.1 = true ∧ 100 < x.2.2) ∧ (s.cell c).timed ph = false) ∧
    (∃ (s : State) (c : Fin 256) (ph : Fin 2) (per : List (Int × Bool × Int)), (per.length < 16 ∨ (s.cell c).timed ph = true)) ∧
    (∃ (s : State) (c : Fin 256) (a : _), (s.cell c).satSince = some a ∧ a + 10000000 ≤ s.now ∧ (s.cell c).satOn = false) ∧
    (∃ (s : State) (c : Fin 256), s.get (fCEL_CFG_APPLIED c) ≠ s.get (fCEL_CFG_OFFSET c)) :=
  ⟨⟨on1.updCell 0 fun h => { h with openCond := true }, 0, by decide +kernel⟩,
   ⟨puts on1 [(fCEL_CSTAT_MODE 0, 4),(fCEL_CSTAT_MODE 255,1)], 0, 0, by decide +kernel⟩,
   ⟨on1, 0, 0, List.replicate 16 (0,true,0), by decide +kernel⟩,
   ⟨on1, 0, 0, [], by decide +kernel⟩,
   ⟨on1.updCell 0 fun h => { h with satSince := some (10^10-10^7) }, 0, (((on1.updCell 0 fun h => { h with satSince := some (10^10-10^7) } : State).cell (0 : Fin 256)).satSince).get (by decide +kernel), by decide +kernel⟩,
   ⟨(on1.put (fCEL_CFG_OFFSET 0) 32), 0, by decide +kernel⟩⟩

theorem witness_LateSample :
    ∃ (s : State) (t : Fin 64), s.loops.frameAt.isSome = true ∧ (s.tract t).sampled < s.slotFrame - 1 ∧ s.computesIn t (s.slotFrame - 1) = true ∧ s.stopped t = false ∧ s.loopState t ≠ 5 ∧ s.on fTRC_ENG_BOTH = false :=
  ⟨loop1, 0, by decide +kernel⟩

theorem witness_TractSamples :
    (∃ (s : State) (t : Fin 64) (ecc : Ecc), s.wantsSample t s.slotFrame = true ∧ s.beginAt t ≤ s.now ∧ s.engineDead t = false ∧ s.beginAt t + 6 ≤ s.slotStart + 40 ∧ s.frozen t = false ∧ s.setReads t (s.setOf t) = true ∧ ecc ≠ .uncorrectable) ∧
    (∃ (s : State) (t : Fin 64), s.wantsSample t s.slotFrame = true ∧ s.beginAt t ≤ s.now ∧ s.engineDead t = false ∧ s.beginAt t + 6 ≤ s.slotStart + 40 ∧ s.frozen t = true) ∧
    (∃ (s : State) (t : Fin 64) (ecc : Ecc), s.wantsSample t s.slotFrame = true ∧ s.beginAt t ≤ s.now ∧ s.engineDead t = false ∧ s.beginAt t + 6 ≤ s.slotStart + 40 ∧ (s.frozen t = true ∨ ecc = .clean)) ∧
    (∃ (s : State) (t : Fin 64), s.wantsSample t s.slotFrame = true ∧ s.beginAt t ≤ s.now ∧ s.engineDead t = false ∧ s.beginAt t + 6 ≤ s.slotStart + 40 ∧ s.frozen t = false ∧ s.setReads t (1 - s.setOf t) = true ∧ s.on fTRC_ENG_WEST_FAIL = false ∧ s.on fTRC_ENG_EAST_FAIL = false) ∧
    (∃ (s : State) (t : Fin 64), s.wantsSample t s.slotFrame = true ∧ s.beginAt t ≤ s.now ∧ s.engineDead t = false ∧ s.beginAt t + 6 ≤ s.slotStart + 40 ∧ s.frozen t = false ∧ s.setReads t (1 - s.setOf t) = false) ∧
    (∃ (s : State) (t : Fin 64), s.wantsSample t s.slotFrame = true ∧ s.beginAt t ≤ s.now ∧ s.engineDead t = false ∧ s.slotStart + 40 < s.beginAt t + 6) :=
  ⟨⟨loop1, 0, .clean, by decide +kernel⟩,
   ⟨hold0 2 fun h => { h with e0 := 3, e1 := 5, holdAt := some 4, ff := [{ startAt := 0, vals := [5, 6], inst := none }] }, 0, by decide +kernel⟩,
   ⟨loop1, 0, .clean, by decide +kernel⟩,
   ⟨loop1, 0, by decide +kernel⟩,
   ⟨{ loop1 with mem := { loop1.mem with bad := [(2,0),(2,4)] } }, 0, by decide +kernel⟩,
   ⟨({ loop1 with now := 10^10 + 51, loops := { loop1.loops with frameAt := some (10^10), frame := 6, stalls := (List.range 8).map fun l => (24 + l, 3) } }.put (fTRC_TSTAT_POS 0) 15), 0, by decide +kernel⟩⟩

theorem witness_OpenHold_1 :
    (∃ (s : State) (p : Port) (t : Fin 64) (v : Word), Served p (TRC_OPEN t) s ∧ v.getLsbD 1 = false ∧ (s.loopState t = 0 ∨ s.loopState t = 4) ∧ (s.domOf t < 32 → s.domState (s.domOf t) ≠ 3 ∧ s.domState (s.domOf t) ≠ 5) ∧ s.shut = false ∧ s.on fTRC_ENG_FAILOVER = false ∧ s.holdsInUse < 8) ∧
    (∃ (s : State) (p : Port) (t : Fin 64) (v : Word), Served p (TRC_OPEN t) s ∧ v.getLsbD 1 = false ∧ (s.shut = true ∨ s.on fTRC_ENG_FAILOVER = true ∨ 8 ≤ s.holdsInUse ∨ (s.loopState t ≠ 0 ∧ s.loopState t ≠ 4 ∧ s.justReset t = false) ∨ (s.domOf t < 32 ∧ (s.domState (s.domOf t) = 3 ∨ s.domState (s.domOf t) = 5)))) ∧
    (∃ (s : State) (p : Port) (t : Fin 64) (v : Word), Served p (TRC_OPEN t) s ∧ v.getLsbD 1 = true) ∧
    (∃ (s : State) (t : Fin 64), s.loopState t = 1 ∧ s.tractSlotEndFrom t ((s.tract t).enterAt + 100) ≤ s.now) ∧
    (∃ (s : State) (t : Fin 64) (ws : _), Served .host 0x28000 s ∧ (s.tract t).staging = some ws ∧ s.loopState t = 2 ∧ ws.length = 16) ∧
    (∃ (s : State) (t : Fin 64), Served .host 0x28000 s ∧ s.loopState t ≠ 2) ∧
    (∃ (s : State) (p : Port) (t : Fin 64) (ws : _), Served p (TRC_OPEN t) s ∧ s.on fTRC_ENG_WEST_FAIL = false ∧ s.on fTRC_ENG_EAST_FAIL = false ∧ s.loopState t = 2 ∧ (s.tract t).closeAt = none ∧ (s.tract t).staging = some ws ∧ ws.length = 16 ∧ s.memUsable 2 = true) ∧
    (∃ (s : State) (p : Port) (t : Fin 64), Served p (TRC_OPEN t) s ∧ s.on fTRC_ENG_WEST_FAIL = false ∧ s.on fTRC_ENG_EAST_FAIL = false ∧ (s.loopState t ≠ 2 ∨ (s.tract t).closeAt.isSome = true)) ∧
    (∃ (s : State) (t : Fin 64) (c : Nat), (s.tract t).closeAt = some c ∧ s.loopState t = 2 ∧ s.slotEndFrom (c + 100) ≤ s.now ∧ (s.tract t).closeSet ≤ 1 ∧ s.setReads t (s.tract t).closeSet = true ∧ (s.tract t).wasStopped = false) ∧
    (∃ (s : State) (t : Fin 64) (c : Nat), (s.tract t).closeAt = some c ∧ s.loopState t = 2 ∧ s.slotEndFrom (c + 100) ≤ s.now ∧ (s.tract t).closeSet ≤ 1 ∧ s.setReads t (s.tract t).closeSet = true ∧ (s.tract t).wasStopped = true ∧ s.domOf t < 32 ∧ s.isOn (s.domOf t) = true ∧ s.on fTRC_ENG_BOTH = false) ∧
    (∃ (s : State) (t : Fin 64) (c : Nat), (s.tract t).holdAt = some c ∧ s.loopState t = 2 ∧ (s.tract t).closeAt = none ∧ c + 200000 ≤ s.now ∧ (s.tract t).wasStopped = false) ∧
    (∃ (s : State) (t : Fin 64) (c : Nat), (s.tract t).holdAt = some c ∧ s.loopState t = 2 ∧ (s.tract t).closeAt = none ∧ c + 200000 ≤ s.now ∧ (s.tract t).wasStopped = true) :=
  ⟨⟨loop1, .host, 0, 1#32, by unfold Served; decide +kernel⟩,
   ⟨loop1, .host, 63, 1#32, by unfold Served; decide +kernel⟩,
   ⟨loop1, .host, 0, 2#32, by unfold Served; decide +kernel⟩,
   ⟨hold0 1 fun h => { h with enterAt := 10^10 - 200 }, 0, by decide +kernel⟩,
   ⟨hold0 2 fun h => { h with staging := some (List.replicate 16 7#32), holdAt := some (10^10-200000) }, 0, (((hold0 2 fun h => { h with staging := some (List.replicate 16 7#32), holdAt := some (10^10-200000) } : State).tract (0 : Fin 64)).staging).get (by decide +kernel), by unfold Served; decide +kernel⟩,
   ⟨loop1, 0, by unfold Served; decide +kernel⟩,
   ⟨hold0 2 fun h => { h with staging := some (List.replicate 16 7#32), holdAt := some (10^10-200000) }, .host, 0, (((hold0 2 fun h => { h with staging := some (List.replicate 16 7#32), holdAt := some (10^10-200000) } : State).tract (0 : Fin 64)).staging).get (by decide +kernel), by unfold Served; decide +kernel⟩,
   ⟨loop1, .host, 0, by unfold Served; decide +kernel⟩,
   ⟨hold0 2 fun h => { h with staging := some (List.replicate 16 7#32), holdAt := some (10^10-1000), closeAt := some (10^10 - 200) }, 0, (((hold0 2 fun h => { h with staging := some (List.replicate 16 7#32), holdAt := some (10^10-1000), closeAt := some (10^10 - 200) } : State).tract (0 : Fin 64)).closeAt).get (by decide +kernel), by decide +kernel⟩,
   ⟨hold0 2 fun h => { h with staging := some (List.replicate 16 7#32), holdAt := some (10^10-1000), closeAt := some (10^10 - 200), wasStopped := true }, 0, (((hold0 2 fun h => { h with staging := some (List.replicate 16 7#32), holdAt := some (10^10-1000), closeAt := some (10^10 - 200), wasStopped := true } : State).tract (0 : Fin 64)).closeAt).get (by decide +kernel), by decide +kernel⟩,
   ⟨hold0 2 fun h => { h with staging := some (List.replicate 16 7#32), holdAt := some (10^10-200000) }, 0, (((hold0 2 fun h => { h with staging := some (List.replicate 16 7#32), holdAt := some (10^10-200000) } : State).tract (0 : Fin 64)).holdAt).get (by decide +kernel), by decide +kernel⟩,
   ⟨hold0 2 fun h => { h with staging := some (List.replicate 16 7#32), holdAt := some (10^10-200000), wasStopped := true }, 0, (((hold0 2 fun h => { h with staging := some (List.replicate 16 7#32), holdAt := some (10^10-200000), wasStopped := true } : State).tract (0 : Fin 64)).holdAt).get (by decide +kernel), by decide +kernel⟩⟩

theorem witness_OpenHold_2 :
    (∃ (s : State) (t : Fin 64), s.loopState t = 6 ∧ (s.tract t).internal = 2 ∧ s.setReads t (1 - s.setOf t) = true) ∧
    (∃ (s : State) (t : Fin 64), s.loopState t = 6 ∧ (s.tract t).internal ≠ 2 ∧ s.slotEndFrom ((s.tract t).internalAt + 100) ≤ s.now) ∧
    (∃ (s : State) (p : Port) (t : Fin 64), Served p BLK_TRST s ∧ s.loopState t = 0 ∧ s.on fTRC_ENG_FAILOVER = false ∧ s.on fBLK_TRST_BUSY = false) ∧
    (∃ (s : State) (p : Port), Served p BLK_TRST s ∧ s.on fBLK_TRST_BUSY = true) :=
  ⟨⟨hold0 6 fun h => { h with internal := 2, holdAt := some 5 }, 0, by decide +kernel⟩,
   ⟨((hold0 6 fun h => { h with internal := 1, internalAt := 10^10-200, holdAt := some 5 }).put fBLK_TRST_BUSY 1), 0, by decide +kernel⟩,
   ⟨loop1, .host, 0, by unfold Served; decide +kernel⟩,
   ⟨((hold0 6 fun h => { h with internal := 1, internalAt := 10^10-200, holdAt := some 5 }).put fBLK_TRST_BUSY 1), .host, by unfold Served; decide +kernel⟩⟩

theorem witness_Failover :
    (∃ (s : State) (e : Fin 2) (z : _), (s.loops.failDue.find? (fun x => x.1 = e.val) = some z) ∧ s.now < z.2) ∧
    (∃ (s : State) (e : Fin 2) (z : _), (s.loops.failDue.find? (fun x => x.1 = e.val) = some z) ∧ z.2 ≤ s.now ∧ s.on fTRC_ENG_WEST_FAIL = false ∧ s.on fTRC_ENG_EAST_FAIL = false) ∧
    (∃ (s : State) (e : Fin 2) (z : _), (s.loops.failDue.find? (fun x => x.1 = e.val) = some z) ∧ z.2 ≤ s.now ∧ s.on (if e.val = 0 then fTRC_ENG_WEST_FAIL else fTRC_ENG_EAST_FAIL) = false ∧ s.on (if e.val = 0 then fTRC_ENG_EAST_FAIL else fTRC_ENG_WEST_FAIL) = true) ∧
    (∃ (s : State) (t : Fin 64) (t0 : Nat), s.loops.failT0 = some t0 ∧ t0 + 1000 ≤ s.now ∧ (s.tract t).seeded = false ∧ s.on fTRC_ENG_FAILOVER = true ∧ s.loops.failedEngine ≤ 1 ∧ s.loopState t = 3 ∧ s.setReads t 1 = true ∧ s.get fTRC_NORM_K ≠ 0) ∧
    (∃ (s : State) (t : Fin 64) (t0 : Nat), s.loops.failT0 = some t0 ∧ t0 + 1000 ≤ s.now ∧ (s.tract t).seeded = false ∧ s.on fTRC_ENG_FAILOVER = true ∧ s.domOf t < 32 ∧ s.loopState t ≠ 4 ∧ s.setReads t 1 = false) ∧
    (∃ (s : State) (g : Fin 8) (t0 : Nat), s.loops.failT0 = some t0 ∧ t0 + 5000 + 2000 * g.val ≤ s.now) ∧
    (∃ (s : State) (g : Fin 8) (t0 : Nat), s.loops.failT0 = some t0 ∧ t0 + 9000 + 2000 * g.val ≤ s.now) :=
  ⟨⟨{ (loop1.put fTRC_ENG_EAST_FAIL 1).put (fCEL_CSTAT_MODE 4) 7 with loops := { loop1.loops with failDue := [(0,5),(1,10^10+1)] } }, 1, (({ (loop1.put fTRC_ENG_EAST_FAIL 1).put (fCEL_CSTAT_MODE 4) 7 with loops := { loop1.loops with failDue := [(0,5),(1,10^10+1)] } } : State).loops.failDue.find? (fun x => x.1 = (1 : Fin 2).val)).get (by decide +kernel), by decide +kernel⟩,
   ⟨{ loop1 with loops := { loop1.loops with failDue := [(0,10^10)] } }, 0, (({ loop1 with loops := { loop1.loops with failDue := [(0,10^10)] } } : State).loops.failDue.find? (fun x => x.1 = (0 : Fin 2).val)).get (by decide +kernel), by decide +kernel⟩,
   ⟨{ loop1.put fTRC_ENG_WEST_FAIL 1 with loops := { loop1.loops with failDue := [(1,0)] } }, 1, (({ loop1.put fTRC_ENG_WEST_FAIL 1 with loops := { loop1.loops with failDue := [(1,0)] } } : State).loops.failDue.find? (fun x => x.1 = (1 : Fin 2).val)).get (by decide +kernel), by decide +kernel⟩,
   ⟨{ (puts loop1 [(fTRC_ENG_FAILOVER, 1),(fTRC_ENG_WEST_FAIL, 1),(fTRC_TSTAT_STATE 0, 3),(fTRC_TSTAT_STATE 1, 3)]) with loops := { loop1.loops with failT0 := some (10^10-1000), failedEngine := 0 } }, 0, (({ (puts loop1 [(fTRC_ENG_FAILOVER, 1),(fTRC_ENG_WEST_FAIL, 1),(fTRC_TSTAT_STATE 0, 3),(fTRC_TSTAT_STATE 1, 3)]) with loops := { loop1.loops with failT0 := some (10^10-1000), failedEngine := 0 } } : State).loops.failT0).get (by decide +kernel), by decide +kernel⟩,
   ⟨{ ({ (puts loop1 [(fTRC_ENG_FAILOVER, 1),(fTRC_ENG_WEST_FAIL, 1),(fTRC_TSTAT_STATE 0, 3),(fTRC_TSTAT_STATE 1, 3)]) with loops := { loop1.loops with failT0 := some (10^10-1000), failedEngine := 0 } }) with mem := { loop1.mem with bad := [(2,0),(2,4)] } }, 0, (({ ({ (puts loop1 [(fTRC_ENG_FAILOVER, 1),(fTRC_ENG_WEST_FAIL, 1),(fTRC_TSTAT_STATE 0, 3),(fTRC_TSTAT_STATE 1, 3)]) with loops := { loop1.loops with failT0 := some (10^10-1000), failedEngine := 0 } }) with mem := { loop1.mem with bad := [(2,0),(2,4)] } } : State).loops.failT0).get (by decide +kernel), by decide +kernel⟩,
   ⟨({ (puts loop1 [(fTRC_ENG_FAILOVER, 1),(fTRC_ENG_WEST_FAIL, 1),(fTRC_TSTAT_STATE 0, 3),(fTRC_TSTAT_STATE 1, 3)]) with loops := { loop1.loops with failT0 := some (10^10-30000), failedEngine := 0 } }).updTract 0 fun h => { h with seeded := true }, 0, ((({ (puts loop1 [(fTRC_ENG_FAILOVER, 1),(fTRC_ENG_WEST_FAIL, 1),(fTRC_TSTAT_STATE 0, 3),(fTRC_TSTAT_STATE 1, 3)]) with loops := { loop1.loops with failT0 := some (10^10-30000), failedEngine := 0 } }).updTract 0 fun h => { h with seeded := true } : State).loops.failT0).get (by decide +kernel), by decide +kernel⟩,
   ⟨({ (puts loop1 [(fTRC_ENG_FAILOVER, 1),(fTRC_ENG_WEST_FAIL, 1),(fTRC_TSTAT_STATE 0, 3),(fTRC_TSTAT_STATE 1, 3)]) with loops := { loop1.loops with failT0 := some (10^10-30000), failedEngine := 0 } }).updTract 0 fun h => { h with seeded := true }, 0, ((({ (puts loop1 [(fTRC_ENG_FAILOVER, 1),(fTRC_ENG_WEST_FAIL, 1),(fTRC_TSTAT_STATE 0, 3),(fTRC_TSTAT_STATE 1, 3)]) with loops := { loop1.loops with failT0 := some (10^10-30000), failedEngine := 0 } }).updTract 0 fun h => { h with seeded := true } : State).loops.failT0).get (by decide +kernel), by decide +kernel⟩⟩

theorem witness_TargetWrite :
    (∃ (s : State) (p : Port) (d : Fin 32) (v : Word), Served p (DOM_VSET d) s ∧ s.codeValid d (v.toNat % 1024) = true ∧ (s.dom d).step = none) ∧
    (∃ (s : State) (p : Port) (d : Fin 32) (v : Word), Served p (DOM_VSET d) s ∧ s.codeValid d (v.toNat % 1024) = false) :=
  ⟨⟨on1, .host, 1, 360#32, by unfold Served; decide +kernel⟩,
   ⟨on1, .host, 1, 359#32, by unfold Served; decide +kernel⟩⟩

theorem witness_DomainCommands :
    (∃ (s : State) (p : Port) (d : Fin 32), Served p (DOM_CTL d) s ∧ s.on fPST_STATE_ENTERING = false) ∧
    (∃ (s : State) (p : Port) (d : Fin 32), Served p (DOM_CTL d) s ∧ s.mayStart d = true ∧ s.runOrIdle = true ∧ s.shut = false ∧ s.onWaits d = true) ∧
    (∃ (s : State) (p : Port) (d : Fin 32), Served p (DOM_CTL d) s ∧ s.mayStart d = true ∧ s.runOrIdle = true ∧ s.shut = false ∧ s.onWaits d = false ∧ s.domState d = 1) ∧
    (∃ (s : State) (p : Port) (d : Fin 32), Served p (DOM_CTL d) s ∧ s.mayStart d = true ∧ s.runOrIdle = true ∧ s.shut = false ∧ s.onWaits d = false ∧ s.domState d = 2) ∧
    (∃ (s : State) (p : Port) (d : Fin 32), Served p (DOM_CTL d) s ∧ s.mayStart d = true ∧ s.runOrIdle = true ∧ s.shut = false ∧ s.onWaits d = false ∧ s.domState d = 5 ∧ (s.dom d).phase = .stopRamp) ∧
    (∃ (s : State) (p : Port) (d : Fin 32), Served p (DOM_CTL d) s ∧ (s.mayStart d = false ∨ s.runOrIdle = false ∨ s.shut = true)) ∧
    (∃ (s : State) (p : Port) (d : Fin 32), Served p (DOM_CTL d) s ∧ s.domState d = 4 ∧ (s.dom d).phase = .rest ∧ s.on (fDOM_CFG_RETAIN d) = true) ∧
    (∃ (s : State) (p : Port) (d : Fin 32), Served p (DOM_CTL d) s ∧ s.domState d = 3 ∧ ((s.dom d).phase = .startDelay ∨ (s.dom d).phase = .startRamp)) ∧
    (∃ (s : State) (p : Port) (d : Fin 32), Served p (DOM_CTL d) s ∧ (s.domState d = 0 ∨ s.domState d = 1 ∨ s.domState d = 5)) ∧
    (∃ (s : State) (p : Port) (d : Fin 32), Served p (DOM_CTL d) s ∧ s.domState d ≠ 2) :=
  ⟨⟨((dom1 1).put (fDOM_VSET_CODE 1) 600), .host, 1, by unfold Served; decide +kernel⟩,
   ⟨(((dom1 1).put (fDOM_VSET_CODE 1) 600).put fPST_STATE_ENTERING 1) |> fun s => { s with pst := { s.pst with target := 4 } }, .host, 1, by unfold Served; decide +kernel⟩,
   ⟨((dom1 1).put (fDOM_VSET_CODE 1) 600), .host, 1, by unfold Served; decide +kernel⟩,
   ⟨((dom1 1).put (fDOM_VSET_CODE 1) 600).put (fDOM_DSTAT_STATE 1) 2, .host, 1, by unfold Served; decide +kernel⟩,
   ⟨(((dom1 5).put (fDOM_VSET_CODE 1) 600).updDom 1 fun h => { h with phase := .stopRamp, rampAt := 5 }), .host, 1, by unfold Served; decide +kernel⟩,
   ⟨((dom1 1).put (fDOM_VSET_CODE 1) 600), .host, 0, by unfold Served; decide +kernel⟩,
   ⟨on1, .host, 1, by unfold Served; decide +kernel⟩,
   ⟨(ramp1.put (fDOM_VSET_CODE 1) 600), .host, 1, by unfold Served; decide +kernel⟩,
   ⟨((dom1 1).put (fDOM_VSET_CODE 1) 600), .host, 1, by unfold Served; decide +kernel⟩,
   ⟨((dom1 1).put (fDOM_VSET_CODE 1) 600), .host, 1, by unfold Served; decide +kernel⟩⟩

theorem witness_RampsAndStages :
    (∃ (s : State) (d : Fin 32), ((s.dom d).phase = .stagesRet ∨ (s.dom d).phase = .stagesOff) ∧ (s.dom d).stagesRun < 8 ∧ (s.dom d).stageOk = true ∧ (s.dom d).stageDue ≤ s.now ∧ (s.dom d).stagesRun < 7) ∧
    (∃ (s : State) (d : Fin 32), ((s.dom d).phase = .stagesRet ∨ (s.dom d).phase = .stagesOff) ∧ (s.dom d).stagesRun < 8 ∧ (s.dom d).stageOk = true ∧ (s.dom d).stageDue ≤ s.now ∧ (s.dom d).stagesRun = 7 ∧ (s.dom d).phase = .stagesOff) ∧
    (∃ (s : State) (d : Fin 32), (s.dom d).phase = .startDelay ∧ (s.dom d).delayDue ≤ s.now) ∧
    (∃ (s : State) (d : Fin 32), (s.dom d).phase = .stopDelay ∧ (s.dom d).delayDue ≤ s.now ∧ (∃ k, k ∈ s.cellsOf d ∧ 240 < s.get (fCEL_CSTAT_PRESENT k))) ∧
    (∃ (s : State) (d : Fin 32), (s.dom d).phase = .stopDelay ∧ (s.dom d).delayDue ≤ s.now ∧ s.cellsOf d ≠ [] ∧ (∀ k, k ∈ s.cellsOf d → s.get (fCEL_CSTAT_PRESENT k) ≤ 240)) ∧
    (∃ (s : State) (c : Fin 256), s.moves c = true ∧ s.get (fCEL_CSTAT_PRESENT c) ≠ s.get (fCEL_CSTAT_TARGET c) ∧ s.stepAt c ≤ s.now) ∧
    (∃ (s : State) (c : Fin 256), s.now < s.stepAt c) ∧
    (∃ (s : State) (d : Fin 32) (a : _), (s.dom d).lowFrom = some a ∧ a + 1000000 ≤ s.now ∧ (s.dom d).lowOn = false) :=
  ⟨⟨((dom1 3).updDom 1 fun h => { h with commanded := 1, phase := .stagesOff, stagesRun := 0, stageOk := true, stageDue := 10^10 }), 1, by decide +kernel⟩,
   ⟨((dom1 3).updDom 1 fun h => { h with commanded := 1, phase := .stagesOff, stagesRun := 7, stageOk := true, stageDue := 10^10 }), 1, by decide +kernel⟩,
   ⟨((dom1 3).updDom 1 fun h => { h with phase := .startDelay, delayDue := 10^10 }), 1, by decide +kernel⟩,
   ⟨((List.range 8).foldl (fun s c => puts s [(fCEL_CSTAT_PRESENT c, 600), (fCEL_CSTAT_MODE c, 2)]) ((dom1 5).updDom 1 fun h => { h with phase := .stopDelay, delayDue := 10^10 })), 1, by decide +kernel⟩,
   ⟨((List.range 8).foldl (fun s c => puts s [(fCEL_CSTAT_PRESENT c, 240), (fCEL_CSTAT_MODE c, 2)]) ((dom1 5).updDom 1 fun h => { h with phase := .stopDelay, delayDue := 10^10 })), 1, by decide +kernel⟩,
   ⟨on1.put (fCEL_CSTAT_TARGET 0) 610, 0, by decide +kernel⟩,
   ⟨(on1.put (fCEL_CSTAT_TARGET 0) 610).updCell 0 fun h => { h with stepDue := 10^10+1 }, 0, by decide +kernel⟩,
   ⟨(dom1 2).updDom 1 fun h => { h with lowFrom := some (10^10-10^6) }, 1, ((((dom1 2).updDom 1 fun h => { h with lowFrom := some (10^10-10^6) } : State).dom (1 : Fin 32)).lowFrom).get (by decide +kernel), by decide +kernel⟩⟩

theorem witness_EntryIntoStates :
    (∃ (s : State) (p : Port) (target : Fin 8), Served p PST_REQ s ∧ ((target.val ≠ 2 ∧ target.val ≠ 3 ∧ target.val ≠ 4) ∨ 1 < s.aon ∨ s.on fPST_STATE_ENTERING = true ∨ (∃ d, d < 32 ∧ (s.domState d = 3 ∨ s.domState d = 5)) ∨ s.on fTRC_ENG_FAILOVER = true ∨ (s.on fPST_WAKE_WAKE_N_EN = true ∧ s.pins.wakeN = true))) ∧
    (∃ (s : State) (p : Port) (target : Fin 8), Served p PST_REQ s ∧ (s.put fPST_REQ_TARGET target).refusesEntry target = false) ∧
    (∃ (s : State) (a : Nat), s.pst.commitAt = some a ∧ s.on fPST_STATE_ENTERING = true ∧ s.pst.orderly = false ∧ a + 1954 ≤ s.now ∧ (s.pst.target = 2 ∨ s.pst.target = 3)) ∧
    (∃ (s : State) (a : Nat), s.pst.commitAt = some a ∧ s.on fPST_STATE_ENTERING = true ∧ s.pst.orderly = false ∧ a + 1954 ≤ s.now ∧ s.pst.target = 4 ∧ s.pins.wakeN = false ∧ s.levelEvent = none) ∧
    (∃ (s : State), s.on fBLK_CORE_RUNNING = true ∧ s.coreAsleep = false) :=
  ⟨⟨awake, .host, (0:Fin 8), by unfold Served; decide +kernel⟩,
   ⟨awake, .host, (2:Fin 8), by unfold Served; decide +kernel⟩,
   ⟨{ (awake.put fPST_STATE_ENTERING 1) with pst := { awake.pst with target := 2, commitAt := some (10^10-1954) } }, (({ (awake.put fPST_STATE_ENTERING 1) with pst := { awake.pst with target := 2, commitAt := some (10^10-1954) } } : State).pst.commitAt).get (by decide +kernel), by decide +kernel⟩,
   ⟨{ (awake.put fPST_STATE_ENTERING 1) with pst := { awake.pst with target := 4, commitAt := some (10^10-1954) } }, (({ (awake.put fPST_STATE_ENTERING 1) with pst := { awake.pst with target := 4, commitAt := some (10^10-1954) } } : State).pst.commitAt).get (by decide +kernel), by decide +kernel⟩,
   ⟨awake, by decide +kernel⟩⟩

theorem witness_WakeEvents :
    (∃ (s : State), s.por = false ∧ (s.aon = 2 ∨ s.aon = 3) ∧ s.on fPST_STATE_ENTERING = false ∧ s.pst.waking = false ∧ s.pins.wakeN = false ∧ s.on fPST_WAKE_WAKE_N_EN = true) ∧
    (∃ (s : State) (a : Nat), s.por = false ∧ (s.aon = 2 ∨ s.aon = 3) ∧ s.on fPST_STATE_ENTERING = false ∧ s.pst.waking = false ∧ s.pst.timerAt = some a ∧ a ≤ s.now ∧ s.on fPST_WAKE_TIMER_EN = true) ∧
    (∃ (s : State), s.por = false ∧ (s.aon = 2 ∨ s.aon = 3) ∧ s.on fPST_STATE_ENTERING = false ∧ s.pst.waking = false ∧ s.aon = 2 ∧ s.on fPST_WAKE_PMBUS_EN = true) ∧
    (∃ (s : State), s.por = false ∧ (s.aon = 2 ∨ s.aon = 3) ∧ s.on fPST_STATE_ENTERING = false ∧ s.pst.waking = false ∧ s.on fPST_WAKE_TRAVERSE_EN = true) ∧
    (∃ (s : State), s.por = false ∧ s.aon ≤ 1 ∧ s.on fPST_STATE_ENTERING = true ∧ s.pst.orderly = false ∧ s.pst.forced = false ∧ s.inCommit = false ∧ s.pins.wakeN = false ∧ s.on fPST_WAKE_WAKE_N_EN = true) ∧
    (∃ (s : State), s.por = false ∧ s.aon ≤ 1 ∧ s.on fPST_STATE_ENTERING = false ∧ (∀ z, s.pst.wokeAt = some z → z.1 ≠ s.now)) ∧
    (∃ (s : State), s.aon = 3) ∧
    (∃ (s : State) (a : Nat), s.pst.wakeNFrom = some a ∧ a + 1000000000 ≤ s.now ∧ s.pst.stuckOn = false) ∧
    (∃ (s : State), s.por = false ∧ s.locked = true) :=
  ⟨⟨(awake.put fPST_STATE_STATE 2), by decide +kernel⟩,
   ⟨{ ((awake.put fPST_STATE_STATE 3).put fPST_WAKE_TIMER_EN 1) with pst := { awake.pst with timerAt := some (10^10) } }, (({ ((awake.put fPST_STATE_STATE 3).put fPST_WAKE_TIMER_EN 1) with pst := { awake.pst with timerAt := some (10^10) } } : State).pst.timerAt).get (by decide +kernel), by decide +kernel⟩,
   ⟨(awake.put fPST_STATE_STATE 2), by decide +kernel⟩,
   ⟨(awake.put fPST_STATE_STATE 2), by decide +kernel⟩,
   ⟨{ (puts awake [(fPST_STATE_ENTERING, 1), (fPST_WAKE_WAKE_N_EN, 1)]) with pst := { awake.pst with target := 2 } }, by decide +kernel⟩,
   ⟨awake, by decide +kernel⟩,
   ⟨(awake.put fPST_STATE_STATE 3), by decide +kernel⟩,
   ⟨{ awake with pst := { awake.pst with wakeNFrom := some (10^10 - 10^9) } }, (({ awake with pst := { awake.pst with wakeNFrom := some (10^10 - 10^9) } } : State).pst.wakeNFrom).get (by decide +kernel), by decide +kernel⟩,
   ⟨(awake.put fPST_STATE_STATE 2), by decide +kernel⟩⟩

theorem witness_IbReference :
    (∃ (s : State) (v : Fin 8), s.por = false ∧ (s.runOrIdle = false ∨ v.val = s.ib.vselForce)) ∧
    (∃ (s : State) (v : Fin 8), s.por = false ∧ s.runOrIdle = true ∧ v.val ≠ s.ib.vselForce ∧ (∀ b, s.ib.vselAt = some b → b + 100000 ≤ s.now)) ∧
    (∃ (s : State) (v : Fin 8) (a : Nat), s.por = false ∧ s.runOrIdle = true ∧ v.val ≠ s.ib.vselForce ∧ s.ib.vselAt = some a ∧ s.now < a + 100000) ∧
    (∃ (s : State) (a : Nat), s.on fIBS_STATE_DWELL = true ∧ s.ib.vselAt = some a ∧ a + 100000 ≤ s.now ∧ s.runOrIdle = true ∧ s.get fIBS_STATE_VSEL ≠ s.ib.vselForce) ∧
    (∃ (s : State) (a : Nat), s.on fIBS_STATE_DWELL = true ∧ s.ib.vselAt = some a ∧ a + 100000 ≤ s.now ∧ (s.runOrIdle = false ∨ s.get fIBS_STATE_VSEL = s.ib.vselForce)) ∧
    (∃ (s : State), s.get fIBS_CTL_SRC = 1 ∧ s.runOrIdle = true ∧ 0 < s.ib.trkCnt) ∧
    (∃ (s : State), s.get fIBS_CTL_SRC = 2 ∧ (s.ib.trkRise = none ∨ s.ib.trkFall = none)) ∧
    (∃ (s : State) (r f : Nat), s.get fIBS_CTL_SRC = 2 ∧ s.ib.trkRise = some r ∧ s.ib.trkFall = some f ∧ 200 ≤ s.now * 2 / 5 - r * 2 / 5 ∧ s.now * 2 / 5 - r * 2 / 5 ≤ 40000) ∧
    (∃ (s : State) (r f : Nat), s.get fIBS_CTL_SRC = 2 ∧ s.ib.trkRise = some r ∧ s.ib.trkFall = some f ∧ (s.now * 2 / 5 - r * 2 / 5 < 200 ∨ 40000 < s.now * 2 / 5 - r * 2 / 5)) ∧
    (∃ (s : State), s.get fIBS_CTL_SRC = 2 ∧ s.ib.trkEdge.getD 0 + 100000 ≤ s.now ∧ s.on fIBS_STATE_TRACK_HOLD = false) ∧
    (∃ (s : State) (d : _), s.ibMode ≠ 0 ∧ s.ib.ssWait = none ∧ d = (if s.ib.ramping then s.get fIBS_SS_RAMP else 100 * s.get fIBS_SS_SLEW) * (s.now - s.ib.refAt) / 1000 ∧ 0 < d) :=
  ⟨⟨awake, 0, by decide +kernel⟩,
   ⟨awake, 3, by decide +kernel⟩,
   ⟨{ awake with ib := { awake.ib with vselAt := some (10^10-99999) } }, 3, (({ awake with ib := { awake.ib with vselAt := some (10^10-99999) } } : State).ib.vselAt).get (by decide +kernel), by decide +kernel⟩,
   ⟨(puts ({ awake with ib := { awake.ib with vselAt := some (10^10-100000) } }) [(fIBS_STATE_DWELL,1),(fIBS_STATE_VSEL, 5)]), (((puts ({ awake with ib := { awake.ib with vselAt := some (10^10-100000) } }) [(fIBS_STATE_DWELL,1),(fIBS_STATE_VSEL, 5)]) : State).ib.vselAt).get (by decide +kernel), by decide +kernel⟩,
   ⟨({ awake with ib := { awake.ib with vselAt := some 5, vselForce := 3 } }.put fIBS_STATE_VSEL 3).put fIBS_STATE_DWELL 1, ((({ awake with ib := { awake.ib with vselAt := some 5, vselForce := 3 } }.put fIBS_STATE_VSEL 3).put fIBS_STATE_DWELL 1 : State).ib.vselAt).get (by decide +kernel), by decide +kernel⟩,
   ⟨({ awake with ib := { awake.ib with trkCnt := 5, trkSum := 30000, refUv := 1800000 } }).put fIBS_CTL_SRC 1, by decide +kernel⟩,
   ⟨{ (awake.put fIBS_CTL_SRC 2) with ib := { awake.ib with trkEdge := some (10^10-100000) } }, by decide +kernel⟩,
   ⟨{ (awake.put fIBS_CTL_SRC 2) with ib := { awake.ib with trkRise := some (10^10-500), trkFall := some (10^10-300), trkGood := 7 } }, (({ (awake.put fIBS_CTL_SRC 2) with ib := { awake.ib with trkRise := some (10^10-500), trkFall := some (10^10-300), trkGood := 7 } } : State).ib.trkRise).get (by decide +kernel), (({ (awake.put fIBS_CTL_SRC 2) with ib := { awake.ib with trkRise := some (10^10-500), trkFall := some (10^10-300), trkGood := 7 } } : State).ib.trkFall).get (by decide +kernel), by decide +kernel⟩,
   ⟨({ (awake.put fIBS_CTL_SRC 2) with ib := { awake.ib with trkRise := some (10^10-100004), trkFall := some (10^10-300), trkGood := 7 } }).putB fIBS_STATE_TRACK_HOLD true, ((({ (awake.put fIBS_CTL_SRC 2) with ib := { awake.ib with trkRise := some (10^10-100004), trkFall := some (10^10-300), trkGood := 7 } }).putB fIBS_STATE_TRACK_HOLD true : State).ib.trkRise).get (by decide +kernel), ((({ (awake.put fIBS_CTL_SRC 2) with ib := { awake.ib with trkRise := some (10^10-100004), trkFall := some (10^10-300), trkGood := 7 } }).putB fIBS_STATE_TRACK_HOLD true : State).ib.trkFall).get (by decide +kernel), by decide +kernel⟩,
   ⟨{ (awake.put fIBS_CTL_SRC 2) with ib := { awake.ib with trkEdge := some (10^10-100000) } }, by decide +kernel⟩,
   ⟨awake, (if (awake : State).ib.ramping then (awake : State).get fIBS_SS_RAMP else 100 * (awake : State).get fIBS_SS_SLEW) * ((awake : State).now - (awake : State).ib.refAt) / 1000, by decide +kernel⟩⟩

theorem witness_IbLoop :
    (∃ (s : State), s.ibMayClose = true ∧ s.ib.ov = false ∧ s.ibMode = 2) ∧
    (∃ (s : State), s.ibMayClose = true ∧ s.ib.ov = false ∧ s.ibMode = 3) ∧
    (∃ (s : State), s.ibMode = 3 ∧ s.on fTRC_ENG_BOTH = true) ∧
    (∃ (s : State) (p : Nat), (s.ibMode = 1 ∨ s.ibMode = 2 ∨ s.ibMode = 4) ∧ s.ib.ssWait = none ∧ s.ib.ov = false ∧ s.nextHys = some p ∧ p ∉ s.ib.hysWait) ∧
    (∃ (s : State) (ph : Fin 16) (p uv i : Nat), (s.ibMode = 1 ∨ s.ibMode = 2 ∨ s.ibMode = 4) ∧ s.ib.ssWait = none ∧ s.ib.ov = false ∧ s.nextHys = some p ∧ s.ib.pulsing = true ∧ (p = ph.val ∨ p ∉ s.ib.hysWait) ∧ uv ≤ s.ib.refUv + s.hysBand ∧ s.ibPeaks i = false) ∧
    (∃ (s : State) (i : Nat), s.ibPeaks i = true) ∧
    (∃ (s : State) (uv i : Nat), s.ibPeaks i = false ∧ (s.ib.pulsing = false ∨ s.ib.refUv + s.hysBand < uv)) ∧
    (∃ (s : State), s.now < s.ib.admitAt + s.hysTon) ∧
    (∃ (s : State) (p : Nat), s.underTest p = true ∧ s.ib.admitAt + s.hysTon ≤ s.now) :=
  ⟨⟨ibAt 2 1 id, by decide +kernel⟩,
   ⟨ibAt 3 2 id, by decide +kernel⟩,
   ⟨(ibAt 3 2 id).put fTRC_ENG_BOTH 1, by decide +kernel⟩,
   ⟨ibAt 2 1 id, ((ibAt 2 1 id : State).nextHys).get (by decide +kernel), by decide +kernel⟩,
   ⟨ibAt 2 2 fun h => { h with hysNext := 3, hysWait := [0, 3], pulsing := true }, 0, ((ibAt 2 2 fun h => { h with hysNext := 3, hysWait := [0, 3], pulsing := true } : State).nextHys).get (by decide +kernel), 0, 0, by decide +kernel⟩,
   ⟨ibAt 2 1 id, 100000, by decide +kernel⟩,
   ⟨ibAt 2 1 id, 0, 0, by decide +kernel⟩,
   ⟨ibAt 3 2 fun h => { h with admitAt := 10^10 }, by decide +kernel⟩,
   ⟨ibAt 3 1 id, 0, by decide +kernel⟩⟩

theorem witness_IbFaults_1 :
    (∃ (s : State) (ps : BitVec 16) (uv : Nat), s.ibMode = 1 ∧ s.ib.ssWait = none ∧ s.ibCondA uv = false ∧ (∀ k b, k < 16 → (s.pActive k = true ∧ bitN ps.toNat k = true ∧ 5 * uv < 4 * s.ib.refUv) → (s.phase k).limSince = some b → s.now < b + 10000)) ∧
    (∃ (s : State) (ps : BitVec 16) (uv : Nat), s.ibMode = 1 ∧ s.ib.ssWait = none ∧ (s.ibCondA uv = true ∨ ∃ k b, k < 16 ∧ (s.pActive k = true ∧ bitN ps.toNat k = true ∧ 5 * uv < 4 * s.ib.refUv) ∧ (s.phase k).limSince = some b ∧ b + 10000 ≤ s.now) ∧ s.ib.ssTries < 3) ∧
    (∃ (s : State) (ps : BitVec 16) (uv : Nat), s.ibMode = 1 ∧ s.ib.ssWait = none ∧ (s.ibCondA uv = true ∨ ∃ k b, k < 16 ∧ (s.pActive k = true ∧ bitN ps.toNat k = true ∧ 5 * uv < 4 * s.ib.refUv) ∧ (s.phase k).limSince = some b ∧ b + 10000 ≤ s.now) ∧ 3 ≤ s.ib.ssTries ∧ s.ibCondA uv = true) ∧
    (∃ (s : State) (ps : BitVec 16) (uv : Nat), s.ibMode = 1 ∧ s.ib.ssWait = none ∧ (s.ibCondA uv = true ∨ ∃ k b, k < 16 ∧ (s.pActive k = true ∧ bitN ps.toNat k = true ∧ 5 * uv < 4 * s.ib.refUv) ∧ (s.phase k).limSince = some b ∧ b + 10000 ≤ s.now) ∧ 3 ≤ s.ib.ssTries ∧ s.ibCondA uv = false) ∧
    (∃ (s : State) (a : Nat), s.ib.ssWait = some a ∧ a ≤ s.now ∧ s.ibMode = 1) ∧
    (∃ (s : State) (ph : Fin 16) (a : Nat), (s.phase ph).limSince = some a ∧ s.ibMode = 3 ∧ a + 10000 ≤ s.now ∧ s.pActive ph = true ∧ (∃ q, q < 16 ∧ q ≠ ph.val ∧ s.pActive q = true) ∧ s.get (fIBS_PSTAT_RETRY ph) < 3) ∧
    (∃ (s : State) (ph : Fin 16) (a : Nat), (s.phase ph).limSince = some a ∧ s.ibMode = 3 ∧ a + 10000 ≤ s.now ∧ s.pActive ph = true ∧ (∃ q, q < 16 ∧ q ≠ ph.val ∧ s.pActive q = true) ∧ s.get (fIBS_PSTAT_RETRY ph) = 3) ∧
    (∃ (s : State) (ph : Fin 16) (a : Nat), (s.phase ph).retryDue = some a ∧ a ≤ s.now ∧ s.pMode ph = 5 ∧ s.ibMode = 3) ∧
    (∃ (s : State) (ph : Fin 16), s.pAdmitted ph = true ∧ s.pMode ph ≠ 5 ∧ (s.phase ph).okSince + 100000000 ≤ s.now) ∧
    (∃ (s : State) (a : Nat), s.ib.ovSince = some a ∧ s.ibMode ≠ 0 ∧ s.ib.ov = false ∧ a + 2000 ≤ s.now) ∧
    (∃ (s : State) (uv : Nat), s.ib.ov = true ∧ uv < s.ib.refUv + 50000) ∧
    (∃ (s : State) (a : Nat), s.ib.lowSince = some a ∧ s.ibMode = 3 ∧ a + 10000 ≤ s.now ∧ s.ib.lowOn = false) :=
  ⟨⟨ibAt 1 2 id, 0, 0, by decide +kernel, by decide +kernel, by decide +kernel, no_lim_of (by decide +kernel)⟩,
   ⟨(ibAt 1 2 fun h => { h with ssTries := 2 }).put fIBS_TGT_TARGET 1440, 0, 0, by decide +kernel, by decide +kernel, .inl (by decide +kernel), by decide +kernel⟩,
   ⟨(ibAt 1 2 fun h => { h with ssTries := 3 }).put fIBS_TGT_TARGET 1440, 0, 0, by decide +kernel, by decide +kernel, .inl (by decide +kernel), by decide +kernel, by decide +kernel⟩,
   ⟨ibAt 1 2 fun h => { h with phases := [(0, { limSince := some (10^10-10000) }),(3, { limSince := some (10^10-9999) })], ssTries := 3 }, 0x0001#16, 0, by decide +kernel, by decide +kernel, .inr ⟨0, 10 ^ 10 - 10000, by decide +kernel⟩, by decide +kernel, by decide +kernel⟩,
   ⟨ibAt 1 2 fun h => { h with ssTries := 2, ssWait := some (10^10) }, ((ibAt 1 2 fun h => { h with ssTries := 2, ssWait := some (10^10) } : State).ib.ssWait).get (by decide +kernel), by decide +kernel⟩,
   ⟨ibAt 3 2 (fun h => { h with phases := [(0, { limSince := some (10^10-10000), retryDue := some (10^10), okSince := 0 })] }), 0, (((ibAt 3 2 (fun h => { h with phases := [(0, { limSince := some (10^10-10000), retryDue := some (10^10), okSince := 0 })] }) : State).phase (0 : Fin 16)).limSince).get (by decide +kernel), by decide +kernel⟩,
   ⟨(ibAt 3 2 (fun h => { h with phases := [(0, { limSince := some (10^10-10000), retryDue := some (10^10), okSince := 0 })] })).put (fIBS_PSTAT_RETRY 0) 3, 0, ((((ibAt 3 2 (fun h => { h with phases := [(0, { limSince := some (10^10-10000), retryDue := some (10^10), okSince := 0 })] })).put (fIBS_PSTAT_RETRY 0) 3 : State).phase (0 : Fin 16)).limSince).get (by decide +kernel), by decide +kernel⟩,
   ⟨(ibAt 3 5 (fun h => { h with phases := [(0, { limSince := some (10^10-10000), retryDue := some (10^10), okSince := 0 })] })).put (fIBS_PSTAT_MODE 1) 2, 0, ((((ibAt 3 5 (fun h => { h with phases := [(0, { limSince := some (10^10-10000), retryDue := some (10^10), okSince := 0 })] })).put (fIBS_PSTAT_MODE 1) 2 : State).phase (0 : Fin 16)).retryDue).get (by decide +kernel), by decide +kernel⟩,
   ⟨ibAt 1 2 id, 0, by decide +kernel⟩,
   ⟨ibAt 3 2 fun h => { h with ovSince := some (10^10-2000) }, ((ibAt 3 2 fun h => { h with ovSince := some (10^10-2000) } : State).ib.ovSince).get (by decide +kernel), by decide +kernel⟩,
   ⟨ibAt 3 2 fun h => { h with ov := true }, 0, by decide +kernel⟩,
   ⟨ibAt 3 2 fun h => { h with lowSince := some (10^10-10000), highSince := some (10^10-10000), shedSince := some (10^10-50000), stopSince := some (10^10 - 10000) }, ((ibAt 3 2 fun h => { h with lowSince := some (10^10-10000), highSince := some (10^10-10000), shedSince := some (10^10-50000), stopSince := some (10^10 - 10000) } : State).ib.lowSince).get (by decide +kernel), by decide +kernel⟩⟩

theorem witness_IbFaults_2 :
    (∃ (s : State) (a : Nat), s.ib.highSince = some a ∧ a + 10000 ≤ s.now ∧ s.ib.highOn = false) ∧
    (∃ (s : State) (a : Nat), s.ib.shedSince = some a ∧ a + 50000 ≤ s.now ∧ s.shedding = false) ∧
    (∃ (s : State) (a : Nat), s.ib.restoreSince = some a ∧ a + 1000000 ≤ s.now ∧ s.shedding = true ∧ s.isPrincipal = true) ∧
    (∃ (s : State) (a : Nat), s.ib.restoreSince = some a ∧ a + 1000000 ≤ s.now ∧ s.shedding = true ∧ s.isPrincipal = false) ∧
    (∃ (s : State) (a : Nat), s.ib.stopSince = some a ∧ a + 10000 ≤ s.now ∧ s.pst.orderly = false ∧ s.aon ≠ 4) :=
  ⟨⟨ibAt 3 2 fun h => { h with lowSince := some (10^10-10000), highSince := some (10^10-10000), shedSince := some (10^10-50000), stopSince := some (10^10 - 10000) }, ((ibAt 3 2 fun h => { h with lowSince := some (10^10-10000), highSince := some (10^10-10000), shedSince := some (10^10-50000), stopSince := some (10^10 - 10000) } : State).ib.highSince).get (by decide +kernel), by decide +kernel⟩,
   ⟨ibAt 3 2 fun h => { h with lowSince := some (10^10-10000), highSince := some (10^10-10000), shedSince := some (10^10-50000), stopSince := some (10^10 - 10000) }, ((ibAt 3 2 fun h => { h with lowSince := some (10^10-10000), highSince := some (10^10-10000), shedSince := some (10^10-50000), stopSince := some (10^10 - 10000) } : State).ib.shedSince).get (by decide +kernel), by decide +kernel⟩,
   ⟨((ibAt 3 2 fun h => { h with restoreSince := some (10^10-1000000) }).put fIBS_STATE_SHED 1).put fTRV_STATE_ROLE 1, ((((ibAt 3 2 fun h => { h with restoreSince := some (10^10-1000000) }).put fIBS_STATE_SHED 1).put fTRV_STATE_ROLE 1 : State).ib.restoreSince).get (by decide +kernel), by decide +kernel⟩,
   ⟨((ibAt 3 2 fun h => { h with restoreSince := some (10^10-1000000) }).put fIBS_STATE_SHED 1), ((((ibAt 3 2 fun h => { h with restoreSince := some (10^10-1000000) }).put fIBS_STATE_SHED 1) : State).ib.restoreSince).get (by decide +kernel), by decide +kernel⟩,
   ⟨ibAt 3 2 fun h => { h with lowSince := some (10^10-10000), highSince := some (10^10-10000), shedSince := some (10^10-50000), stopSince := some (10^10 - 10000) }, ((ibAt 3 2 fun h => { h with lowSince := some (10^10-10000), highSince := some (10^10-10000), shedSince := some (10^10-50000), stopSince := some (10^10 - 10000) } : State).ib.stopSince).get (by decide +kernel), by decide +kernel⟩⟩

theorem witness_ThermalSites :
    (∃ (s : State), s.por = false ∧ s.aon ≠ 3 ∧ s.aon ≠ 4) ∧
    (∃ (s : State) (p : Port) (half : Fin 2), Served p (THM_SUSP0 + 4 * half) s) ∧
    (∃ (s : State) (a : Nat), s.thm.coolFrom = some a ∧ s.shut = true ∧ a + 100000000 ≤ s.now ∧ s.on fTHM_STATE_LATCHED = false ∧ s.on fTHM_CFG_LATCH = false) ∧
    (∃ (s : State) (a : Nat), s.thm.coolFrom = some a ∧ (s.shut = false ∨ s.now < a + 100000000 ∨ s.on fTHM_STATE_LATCHED = true ∨ s.on fTHM_CFG_LATCH = true)) :=
  ⟨⟨awake, by decide +kernel⟩,
   ⟨awake, .host, 0, by unfold Served; decide +kernel⟩,
   ⟨({ awake.putB fTHM_STATE_SHUT true with thm := { awake.thm with coolFrom := some (10^10-10^8) } }), ((({ awake.putB fTHM_STATE_SHUT true with thm := { awake.thm with coolFrom := some (10^10-10^8) } }) : State).thm.coolFrom).get (by decide +kernel), by decide +kernel⟩,
   ⟨{ awake with thm := { awake.thm with coolFrom := some 5 } }, (({ awake with thm := { awake.thm with coolFrom := some 5 } } : State).thm.coolFrom).get (by decide +kernel), by decide +kernel⟩⟩

theorem witness_Capping_1 :
    (∃ (s : State), s.lclk = true) ∧
    (∃ (s : State), s.lclk = false) ∧
    (∃ (s : State), s.gateLive = true) ∧
    (∃ (s : State), s.gateLive = false) ∧
    (∃ (s : State), s.cap.recCnt ≠ 0 ∧ s.cap.viCnt ≠ 0) ∧
    (∃ (s : State), s.cap.viCnt = 0) ∧
    (∃ (s : State), s.cap.viDieCnt ≠ 0 ∧ s.cap.bCnt ≠ 0) ∧
    (∃ (s : State) (a : Nat), s.cap.sust = false ∧ s.cap.aboveFrom = some a ∧ a + 10000000 ≤ s.now) ∧
    (∃ (s : State) (a : Nat), s.cap.sust = false ∧ s.cap.aboveFrom = some a ∧ s.now < a + 10000000) ∧
    (∃ (s : State) (a : Nat), s.cap.sust = true ∧ s.cap.withinFrom = some a ∧ a + 10000000 ≤ s.now) ∧
    (∃ (s : State) (a : Nat), s.cap.sust = true ∧ s.cap.withinFrom = some a ∧ s.now < a + 10000000) ∧
    (∃ (s : State) (active : Bool), active ≠ s.cap.throttle) :=
  ⟨⟨awake, by decide +kernel⟩,
   ⟨{ on1 with clk := {} }, by decide +kernel⟩,
   ⟨awake, by decide +kernel⟩,
   ⟨{ on1 with clk := {} }, by decide +kernel⟩,
   ⟨{ on1 with cap := { on1.cap with viCnt := 5, recCnt := 7, viDie := 100000, viDieCnt := 4, bSum := 900, bCnt := 5 } }, by decide +kernel⟩,
   ⟨awake, by decide +kernel⟩,
   ⟨{ on1 with cap := { on1.cap with viCnt := 5, recCnt := 7, viDie := 100000, viDieCnt := 4, bSum := 900, bCnt := 5 } }, by decide +kernel⟩,
   ⟨{ on1 with cap := { on1.cap with sust := false, aboveFrom := some (10^10-10^7) } }, (({ on1 with cap := { on1.cap with sust := false, aboveFrom := some (10^10-10^7) } } : State).cap.aboveFrom).get (by decide +kernel), by decide +kernel⟩,
   ⟨{ on1 with cap := { on1.cap with sust := false, aboveFrom := some (10^10-9999999) } }, (({ on1 with cap := { on1.cap with sust := false, aboveFrom := some (10^10-9999999) } } : State).cap.aboveFrom).get (by decide +kernel), by decide +kernel⟩,
   ⟨{ on1 with cap := { on1.cap with sust := true, withinFrom := some (10^10-10^7) } }, (({ on1 with cap := { on1.cap with sust := true, withinFrom := some (10^10-10^7) } } : State).cap.withinFrom).get (by decide +kernel), by decide +kernel⟩,
   ⟨{ on1 with cap := { on1.cap with sust := true, withinFrom := some (10^10-9999999) } }, (({ on1 with cap := { on1.cap with sust := true, withinFrom := some (10^10-9999999) } } : State).cap.withinFrom).get (by decide +kernel), by decide +kernel⟩,
   ⟨awake, true, by decide +kernel⟩⟩

theorem witness_Capping_2 :
    (∃ (s : State) (a : Nat), s.cap.thrFrom = some a ∧ a + 10000000000 ≤ s.now ∧ s.cap.thrOn = false) ∧
    (∃ (s : State) (a : Nat), s.cap.thrFrom = some a ∧ (s.now < a + 10000000000 ∨ s.cap.thrOn = true)) ∧
    (∃ (s : State) (p : Port), Served p CAP_PKG s ∧ s.isPrincipal = true) ∧
    (∃ (s : State) (p : Port), Served p CAP_PKG s ∧ s.isPrincipal = false) :=
  ⟨⟨{ on1 with cap := { on1.cap with throttle := true, thrFrom := some 0 } }, (({ on1 with cap := { on1.cap with throttle := true, thrFrom := some 0 } } : State).cap.thrFrom).get (by decide +kernel), by decide +kernel⟩,
   ⟨{ on1 with cap := { on1.cap with thrFrom := some 5, thrOn := true } }, (({ on1 with cap := { on1.cap with thrFrom := some 5, thrOn := true } } : State).cap.thrFrom).get (by decide +kernel), by decide +kernel⟩,
   ⟨on1.put fTRV_STATE_ROLE 1, .host, by unfold Served; decide +kernel⟩,
   ⟨awake, .host, by unfold Served; decide +kernel⟩⟩

theorem witness_Grades_1 :
    (∃ (s : State), s.gateLive = false) ∧
    (∃ (s : State) (d : Fin 32), s.on (fCAP_DGRADE_FAULT d) = true) ∧
    (∃ (s : State) (d : Fin 32), s.gateLive = true ∧ s.on (fCAP_DGRADE_GCTL d) = true ∧ s.on (fCAP_DGRADE_FAULT d) = false ∧ s.domState d ≠ 0 ∧ (s.dom d).step = none ∧ (s.dom d).stepAt ≤ s.now ∧ s.effGrade d < s.get (fCAP_DGRADE_NOW d)) ∧
    (∃ (s : State) (d : Fin 32), s.gateLive = true ∧ s.on (fCAP_DGRADE_GCTL d) = true ∧ s.on (fCAP_DGRADE_FAULT d) = false ∧ s.domState d ≠ 0 ∧ (s.dom d).step = none ∧ (s.dom d).stepAt ≤ s.now ∧ s.get (fCAP_DGRADE_NOW d) < s.effGrade d ∧ s.codeValid d (s.gradeCode d (s.get (fCAP_DGRADE_NOW d) + 1)) = true ∧ s.justWritten (fDOM_VSET_CODE d) = false) ∧
    (∃ (s : State) (d : Fin 32), s.gateLive = true ∧ s.on (fCAP_DGRADE_GCTL d) = true ∧ s.on (fCAP_DGRADE_FAULT d) = false ∧ s.domState d ≠ 0 ∧ (s.dom d).step = none ∧ (s.dom d).stepAt ≤ s.now ∧ s.get (fCAP_DGRADE_NOW d) = s.effGrade d) ∧
    (∃ (s : State) (d : Fin 32) (g : GradeStep), s.gateLive = true ∧ s.on (fCAP_DGRADE_GCTL d) = true ∧ s.on (fCAP_DGRADE_FAULT d) = false ∧ s.domState d ≠ 0 ∧ (s.dom d).step = some g ∧ g.sentAt = none ∧ g.rising = true ∧ (g.reissued = true ∨ (s.slewComplete d = true ∧ s.get (fDOM_VSET_CODE d) = g.code ∧ g.eff = s.effGrade d))) ∧
    (∃ (s : State) (d : Fin 32) (g : GradeStep), s.gateLive = true ∧ s.on (fCAP_DGRADE_GCTL d) = true ∧ s.on (fCAP_DGRADE_FAULT d) = false ∧ s.domState d ≠ 0 ∧ (s.dom d).step = some g ∧ g.sentAt = none ∧ g.rising = true ∧ g.reissued = false ∧ g.eff ≠ s.effGrade d) ∧
    (∃ (s : State) (d : Fin 32) (g : GradeStep), s.gateLive = true ∧ (s.dom d).step = some g ∧ g.sentAt.isSome = true ∧ g.rising = true) ∧
    (∃ (s : State) (d : Fin 32) (g : GradeStep), s.gateLive = true ∧ (s.dom d).step = some g ∧ g.sentAt.isSome = true ∧ g.rising = false ∧ s.codeValid d (s.gradeCode d g.dest) = true ∧ s.justWritten (fDOM_VSET_CODE d) = false) ∧
    (∃ (s : State) (d : Fin 32) (g : GradeStep), s.gateLive = true ∧ (s.dom d).step = some g ∧ g.sentAt.isSome = true ∧ g.reissued = false) ∧
    (∃ (s : State) (d : Fin 32) (g : GradeStep), s.gateLive = true ∧ (s.dom d).step = some g ∧ g.sentAt.isSome = true ∧ g.reissued = true) ∧
    (∃ (s : State) (d : Fin 32) (g : GradeStep) (a : Nat), (s.dom d).step = some g ∧ g.sentAt = some a ∧ s.now < a + 2000) :=
  ⟨⟨{ graded 0 15 none with clk := {} }, by decide +kernel⟩,
   ⟨(graded 5 3 none).put (fCAP_DGRADE_FAULT 2) 1, 2, by decide +kernel⟩,
   ⟨graded 5 3 none, 2, by decide +kernel⟩,
   ⟨graded 5 7 none, 2, by decide +kernel⟩,
   ⟨graded 5 5 none, 2, by decide +kernel⟩,
   ⟨graded 5 6 (some ⟨6, true, 600, none, false, 6⟩), 2, (((graded 5 6 (some ⟨6, true, 600, none, false, 6⟩) : State).dom (2 : Fin 32)).step).get (by decide +kernel), by decide +kernel⟩,
   ⟨graded 5 5 (some ⟨6, true, 600, none, false, 6⟩), 2, (((graded 5 5 (some ⟨6, true, 600, none, false, 6⟩) : State).dom (2 : Fin 32)).step).get (by decide +kernel), by decide +kernel⟩,
   ⟨graded 5 6 (some ⟨6, true, 600, some (10^10-2000), false, 6⟩), 2, (((graded 5 6 (some ⟨6, true, 600, some (10^10-2000), false, 6⟩) : State).dom (2 : Fin 32)).step).get (by decide +kernel), by decide +kernel⟩,
   ⟨graded 5 3 (some ⟨4, false, 600, some (10^10-2000), true, 4⟩), 2, (((graded 5 3 (some ⟨4, false, 600, some (10^10-2000), true, 4⟩) : State).dom (2 : Fin 32)).step).get (by decide +kernel), by decide +kernel⟩,
   ⟨graded 5 6 (some ⟨6, true, 600, some (10^10-2000), false, 6⟩), 2, (((graded 5 6 (some ⟨6, true, 600, some (10^10-2000), false, 6⟩) : State).dom (2 : Fin 32)).step).get (by decide +kernel), by decide +kernel⟩,
   ⟨graded 5 6 (some ⟨6, true, 600, some (10^10-200), true, 6⟩), 2, (((graded 5 6 (some ⟨6, true, 600, some (10^10-200), true, 6⟩) : State).dom (2 : Fin 32)).step).get (by decide +kernel), by decide +kernel⟩,
   ⟨graded 5 6 (some ⟨6, true, 600, some (10^10-200), true, 6⟩), 2, (((graded 5 6 (some ⟨6, true, 600, some (10^10-200), true, 6⟩) : State).dom (2 : Fin 32)).step).get (by decide +kernel), (((((graded 5 6 (some ⟨6, true, 600, some (10^10-200), true, 6⟩) : State).dom (2 : Fin 32)).step).get (by decide +kernel) : GradeStep).sentAt).get (by decide +kernel), by decide +kernel⟩⟩

theorem witness_Grades_2 :
    (∃ (s : State) (d : Fin 32) (g : GradeStep) (a : Nat), (s.dom d).step = some g ∧ g.sentAt = some a ∧ a + 2000 ≤ s.now ∧ g.reissued = false) ∧
    (∃ (s : State) (d : Fin 32) (g : GradeStep) (a : Nat), (s.dom d).step = some g ∧ g.sentAt = some a ∧ a + 2000 ≤ s.now ∧ g.reissued = true) ∧
    (∃ (s : State) (d : Fin 32) (p : Port), Served p (CAP_DGRADE d) s ∧ s.get (fCAP_DGRADE_REQ d) ≤ s.gradeMax d) :=
  ⟨⟨graded 5 6 (some ⟨6, true, 600, some (10^10-2000), false, 6⟩), 2, (((graded 5 6 (some ⟨6, true, 600, some (10^10-2000), false, 6⟩) : State).dom (2 : Fin 32)).step).get (by decide +kernel), (((((graded 5 6 (some ⟨6, true, 600, some (10^10-2000), false, 6⟩) : State).dom (2 : Fin 32)).step).get (by decide +kernel) : GradeStep).sentAt).get (by decide +kernel), by decide +kernel⟩,
   ⟨graded 5 3 (some ⟨4, false, 600, some (10^10-2000), true, 4⟩), 2, (((graded 5 3 (some ⟨4, false, 600, some (10^10-2000), true, 4⟩) : State).dom (2 : Fin 32)).step).get (by decide +kernel), (((((graded 5 3 (some ⟨4, false, 600, some (10^10-2000), true, 4⟩) : State).dom (2 : Fin 32)).step).get (by decide +kernel) : GradeStep).sentAt).get (by decide +kernel), by decide +kernel⟩,
   ⟨graded 5 3 none, 2, .host, by unfold Served; decide +kernel⟩⟩

theorem witness_EnergyAndTelemetry :
    (∃ (s : State), s.por = false ∧ s.aon ≠ 4 ∧ s.msNow ≠ s.nrg.msStart ∧ s.msMeasured = true) ∧
    (∃ (s : State), s.por = false ∧ s.aon ≠ 4 ∧ s.msNow ≠ s.nrg.msStart ∧ s.msMeasured = false) ∧
    (∃ (s : State), (s.por = true ∨ s.aon = 4 ∨ s.msNow = s.nrg.msStart)) ∧
    (∃ (s : State), s.nrg.record = none) ∧
    (∃ (s : State) (r : List Byte), s.nrg.record = some r ∧ r.length = 256 ∧ s.nrg.writes.length < 2 ∧ s.memUsable 5 = true ∧ s.pins.hostPwrgd = true) ∧
    (∃ (s : State) (r : List Byte), s.nrg.record = some r ∧ r.length = 256 ∧ (2 ≤ s.nrg.writes.length ∨ s.memUsable 5 = false ∨ s.pins.hostPwrgd = false)) ∧
    (∃ (s : State), s.nrg.writes = []) ∧
    (∃ (s : State) (w : Nat × List Byte) (ws : List (Nat × List Byte)), s.nrg.writes = w :: ws) ∧
    (∃ (s : State) (p : Port), Served p NRG_CLR s) ∧
    (∃ (s : State) (p : Port) (k : Fin 8), Served p (NRG_SFLAG k) s) :=
  ⟨⟨{ puts on1 [(fNRG_CTL_PEN, 0xF00F)] with ts := 5000000#64, clk := { pll := true, gateAt := 0 }, trv := { on1.trv with lockAt := some 0 }, nrg := { on1.nrg with msAt := 5, msStart := 4, vi := 123456, frames := 3 } }, by decide +kernel⟩,
   ⟨awake, by decide +kernel⟩,
   ⟨State.reset, by decide +kernel⟩,
   ⟨awake, by decide +kernel⟩,
   ⟨{ puts on1 [(fNRG_CTL_PEN, 0xF00F)] with ts := 5000000#64, clk := { pll := true, gateAt := 0 }, trv := { on1.trv with lockAt := some 0 }, nrg := { on1.nrg with record := some (List.replicate 256 7#8), nextSeq := 2^32-1 } }, (({ puts on1 [(fNRG_CTL_PEN, 0xF00F)] with ts := 5000000#64, clk := { pll := true, gateAt := 0 }, trv := { on1.trv with lockAt := some 0 }, nrg := { on1.nrg with record := some (List.replicate 256 7#8), nextSeq := 2^32-1 } } : State).nrg.record).get (by decide +kernel), by decide +kernel⟩,
   ⟨({ puts on1 [(fNRG_CTL_PEN, 0xF00F)] with ts := 5000000#64, clk := { pll := true, gateAt := 0 }, trv := { on1.trv with lockAt := some 0 }, nrg := { on1.nrg with record := some (List.replicate 256 7#8), nextSeq := 257, writes := [(5,[]),(6,[])] } }).put fTLM_DROP_COUNT 0xFFFFFFFF, ((({ puts on1 [(fNRG_CTL_PEN, 0xF00F)] with ts := 5000000#64, clk := { pll := true, gateAt := 0 }, trv := { on1.trv with lockAt := some 0 }, nrg := { on1.nrg with record := some (List.replicate 256 7#8), nextSeq := 257, writes := [(5,[]),(6,[])] } }).put fTLM_DROP_COUNT 0xFFFFFFFF : State).nrg.record).get (by decide +kernel), by decide +kernel⟩,
   ⟨awake, by decide +kernel⟩,
   ⟨{ puts on1 [(fNRG_CTL_PEN, 0xF00F)] with ts := 5000000#64, clk := { pll := true, gateAt := 0 }, trv := { on1.trv with lockAt := some 0 }, nrg := { on1.nrg with record := some (List.replicate 256 7#8), nextSeq := 257, writes := [(5,[])] } }, (({ puts on1 [(fNRG_CTL_PEN, 0xF00F)] with ts := 5000000#64, clk := { pll := true, gateAt := 0 }, trv := { on1.trv with lockAt := some 0 }, nrg := { on1.nrg with record := some (List.replicate 256 7#8), nextSeq := 257, writes := [(5,[])] } } : State).nrg.writes).head (by decide +kernel), (({ puts on1 [(fNRG_CTL_PEN, 0xF00F)] with ts := 5000000#64, clk := { pll := true, gateAt := 0 }, trv := { on1.trv with lockAt := some 0 }, nrg := { on1.nrg with record := some (List.replicate 256 7#8), nextSeq := 257, writes := [(5,[])] } } : State).nrg.writes).tail, by decide +kernel⟩,
   ⟨awake, .host, by unfold Served; decide +kernel⟩,
   ⟨awake, .host, 0, by unfold Served; decide +kernel⟩⟩

theorem witness_PmbusCommands_1 :
    (∃ (s : State), s.por = false ∧ (s.aon = 3 ∨ s.aon = 4)) ∧
    (∃ (s : State), s.pmbAwake = true ∧ s.stretching = true ∧ s.pmb.held = none) ∧
    (∃ (s : State) (b : Byte), s.pmbAwake = true ∧ s.stretching = false ∧ b.toNat ≤ 32) ∧
    (∃ (s : State) (b : Byte), s.pmbAwake = true ∧ s.stretching = false ∧ 32 < b.toNat) ∧
    (∃ (s : State) (b : Byte), s.pmbAwake = true ∧ s.stretching = false ∧ b.toNat ≤ 16) ∧
    (∃ (s : State) (b : Byte), s.pmbAwake = true ∧ s.stretching = false ∧ 16 < b.toNat) ∧
    (∃ (s : State) (b : Byte) (x : Option Byte), s.pmbAwake = true ∧ s.stretching = false ∧ x ≠ none ∧ x ≠ some (pecOf [s.addrByte 0, 0x00#8, b])) ∧
    (∃ (s : State), s.pmbAwake = true ∧ s.stretching = false ∧ s.pmb.page = 0 ∧ s.ib.code16 < 65536) ∧
    (∃ (s : State) (d : Nat), s.pmbAwake = true ∧ s.stretching = false ∧ s.pmb.page = d + 1 ∧ s.tractsOf d ≠ []) ∧
    (∃ (s : State) (d : Nat), s.pmbAwake = true ∧ s.stretching = false ∧ s.pmb.page = d + 1 ∧ s.pageCode d < 1024) ∧
    (∃ (s : State) (bytes : List Byte), s.pmbAwake = true ∧ s.stretching = false ∧ s.pmb.busy = false ∧ 0 < bytes.length ∧ bytes.length ≤ 64 ∧ (s.chanState 7 = 0 ∨ s.chanState 7 = 4)) ∧
    (∃ (s : State), s.pmbAwake = true ∧ s.stretching = false ∧ s.pmb.busy = true) :=
  ⟨⟨awake.put fPST_STATE_STATE 3, by decide +kernel⟩,
   ⟨{ awake.put fPST_STATE_STATE 2 with pst := { awake.pst with waking := true, pmbus := true } }, by decide +kernel⟩,
   ⟨awake, 0#8, by decide +kernel⟩,
   ⟨awake, 33#8, by decide +kernel⟩,
   ⟨awake, 0#8, by decide +kernel⟩,
   ⟨awake, 17#8, by decide +kernel⟩,
   ⟨awake, 0#8, some 0x55#8, by decide +kernel⟩,
   ⟨awake, by decide +kernel⟩,
   ⟨{ on1 with pmb := { awake.pmb with page := 2, bucket := 16, cml := 0xFF, temps := [(1, 1600)], codes := [(1, 600)] } }, 1, by decide +kernel⟩,
   ⟨{ on1 with pmb := { awake.pmb with page := 2, bucket := 16, cml := 0xFF, temps := [(1, 1600)], codes := [(1, 600)] } }, 1, by decide +kernel⟩,
   ⟨awake, [1#8], by decide +kernel⟩,
   ⟨{ awake with pmb := { awake.pmb with busy := true, page := 33 } }, by decide +kernel⟩⟩

theorem witness_PmbusCommands_2 :
    (∃ (s : State), s.pmbAwake = true ∧ s.stretching = false ∧ (s.chanState 7 = 1 ∨ s.chanState 7 = 2)) ∧
    (∃ (s : State) (c : Byte), s.pmbAwake = true ∧ s.stretching = false ∧ c.toNat ∉ pmbCodes) :=
  ⟨⟨awake.put (fMBX_CST_STATE 7) 2, by decide +kernel⟩,
   ⟨awake, 0xFF#8, by decide +kernel⟩⟩

theorem witness_Converters_1 :
    (∃ (s : State) (k : Fin 2), s.lclk = true ∧ (s.conv k).flight = none) ∧
    (∃ (s : State) (k : Fin 2) (a : Nat) (use : _), s.lclk = true ∧ (s.conv k).flight = some ⟨a, use⟩ ∧ s.now < a + 160) ∧
    (∃ (s : State) (k : Fin 2) (a : Nat), s.lclk = true ∧ s.ibMode = 3 ∧ a + 160 ≤ s.now ∧ (s.conv k).flight = some ⟨a, .service .ib⟩) ∧
    (∃ (s : State) (k : Fin 2) (a : Nat), s.lclk = true ∧ s.ibMode = 3 ∧ a + 160 ≤ s.now ∧ (s.conv k).flight = some ⟨a, .service .vin⟩) ∧
    (∃ (s : State) (k : Fin 2) (a : Nat), s.lclk = true ∧ (s.conv k).flight = some ⟨a, .slot false⟩ ∧ a + 160 ≤ s.now ∧ s.on (fADC_SSTAT_RUN k) = true ∧ s.on (fADC_SSTAT_DUE k) = false) ∧
    (∃ (s : State) (k : Fin 2), s.lclk = true ∧ s.ibMode = 3 ∧ s.get (fADC_SEQ_TSRC k) = 2 ∧ s.get (fADC_SEQ_TSRC (1 - k)) ≠ 2 ∧ s.get (fADC_INJ_TSRC 0) ≠ 2 ∧ s.get (fADC_INJ_TSRC 1) ≠ 2 ∧ s.seqBusy k false = true) ∧
    (∃ (s : State) (k : Fin 2), s.lclk = true ∧ s.ibMode = 3 ∧ s.get (fADC_SEQ_TSRC k) = 2 ∧ s.get (fADC_SEQ_TSRC (1 - k)) ≠ 2 ∧ s.get (fADC_INJ_TSRC 0) ≠ 2 ∧ s.get (fADC_INJ_TSRC 1) ≠ 2 ∧ s.seqBusy k false = false ∧ s.on fADC_STATE_BM_RDY = true ∧ (s.get fADC_CFG_REF = 0 ∨ s.on fADC_STATE_ALT_RDY = true) ∧ (s.conv k).calOn = false ∧ s.get (fADC_SEQ_DELAY k) ≠ 0) ∧
    (∃ (s : State) (k : Fin 2), s.lclk = true ∧ s.ibMode = 3 ∧ s.get (fADC_SEQ_TSRC k) = 2 ∧ s.get (fADC_SEQ_TSRC (1 - k)) ≠ 2 ∧ s.get (fADC_INJ_TSRC 0) ≠ 2 ∧ s.get (fADC_INJ_TSRC 1) ≠ 2 ∧ s.seqBusy k false = false ∧ s.on fADC_STATE_BM_RDY = true ∧ (s.get fADC_CFG_REF = 0 ∨ s.on fADC_STATE_ALT_RDY = true) ∧ (s.conv k).calOn = false ∧ s.get (fADC_SEQ_DELAY k) = 0) ∧
    (∃ (s : State), s.lclk = true ∧ s.adc.faultNew = false) ∧
    (∃ (s : State) (k : Fin 2), s.lclk = true ∧ s.adc.faultNew = true ∧ s.get (fADC_INJ_TSRC k) = 4 ∧ s.get (fADC_INJ_TSRC (1 - k)) ≠ 4 ∧ s.seqBusy k true = false ∧ s.on fADC_STATE_BM_RDY = true ∧ (s.get fADC_CFG_REF = 0 ∨ s.on fADC_STATE_ALT_RDY = true) ∧ (s.conv k).calOn = false ∧ s.get (fADC_INJ_DELAY k) ≠ 0) ∧
    (∃ (s : State) (k : Fin 2) (a : Nat), s.lclk = true ∧ s.adc.tmrAt = some a ∧ a ≤ s.now ∧ s.get (fADC_SEQ_TSRC k) = 1 ∧ s.get (fADC_SEQ_TSRC (1 - k)) ≠ 1 ∧ s.get (fADC_INJ_TSRC 0) ≠ 1 ∧ s.get (fADC_INJ_TSRC 1) ≠ 1 ∧ s.seqBusy k false = true) ∧
    (∃ (s : State) (k : Fin 2) (a : Nat) (l : List Nat), s.lclk = true ∧ (s.conv k).dueAt = a :: l ∧ a ≤ s.now) :=
  ⟨⟨awake, 0, by decide +kernel⟩,
   ⟨{ awake with adc := { (awake).adc with convs := [(0, { flight := some ⟨10^10 - 159, .slot false⟩ })], faultNew := false } }, 0, (((({ awake with adc := { (awake).adc with convs := [(0, { flight := some ⟨10^10 - 159, .slot false⟩ })], faultNew := false } } : State).conv (0 : Fin 2)).flight).get (by decide +kernel)).at_, (((({ awake with adc := { (awake).adc with convs := [(0, { flight := some ⟨10^10 - 159, .slot false⟩ })], faultNew := false } } : State).conv (0 : Fin 2)).flight).get (by decide +kernel)).use, by decide +kernel⟩,
   ⟨{ (ibAt 3 2 id) with adc := { ((ibAt 3 2 id)).adc with convs := [(0, { flight := some ⟨10^10 - 160, .service .ib⟩ })], faultNew := false } }, 0, (((({ (ibAt 3 2 id) with adc := { ((ibAt 3 2 id)).adc with convs := [(0, { flight := some ⟨10^10 - 160, .service .ib⟩ })], faultNew := false } } : State).conv (0 : Fin 2)).flight).get (by decide +kernel)).at_, by decide +kernel⟩,
   ⟨{ (ibAt 3 2 id) with adc := { ((ibAt 3 2 id)).adc with convs := [(0, { flight := some ⟨10^10 - 160, .service .vin⟩ })], faultNew := false } }, 0, (((({ (ibAt 3 2 id) with adc := { ((ibAt 3 2 id)).adc with convs := [(0, { flight := some ⟨10^10 - 160, .service .vin⟩ })], faultNew := false } } : State).conv (0 : Fin 2)).flight).get (by decide +kernel)).at_, by decide +kernel⟩,
   ⟨{ (puts awake [(fADC_SSTAT_RUN 0, 1),(fADC_SSTAT_SLOT 0, 0),(fADC_SEQ_LEN 0, 0)]) with adc := { ((puts awake [(fADC_SSTAT_RUN 0, 1),(fADC_SSTAT_SLOT 0, 0),(fADC_SEQ_LEN 0, 0)])).adc with convs := [(0, { flight := some ⟨10^10 - 160, .slot false⟩ })], faultNew := false } }, 0, (((({ (puts awake [(fADC_SSTAT_RUN 0, 1),(fADC_SSTAT_SLOT 0, 0),(fADC_SEQ_LEN 0, 0)]) with adc := { ((puts awake [(fADC_SSTAT_RUN 0, 1),(fADC_SSTAT_SLOT 0, 0),(fADC_SEQ_LEN 0, 0)])).adc with convs := [(0, { flight := some ⟨10^10 - 160, .slot false⟩ })], faultNew := false } } : State).conv (0 : Fin 2)).flight).get (by decide +kernel)).at_, by decide +kernel⟩,
   ⟨puts (ibAt 3 2 id) [(fADC_SEQ_TSRC 0, 2),(fADC_SSTAT_RUN 0, 1)], 0, by decide +kernel⟩,
   ⟨puts (ibAt 3 2 id) [(fADC_SEQ_TSRC 0, 2),(fADC_SEQ_DELAY 0, 255)], 0, by decide +kernel⟩,
   ⟨puts (ibAt 3 2 id) [(fADC_SEQ_TSRC 1, 2)], 1, by decide +kernel⟩,
   ⟨{ ibAt 3 2 id with now := 10^10 + 160 + 1 }, by decide +kernel⟩,
   ⟨{ (puts (puts (ibAt 3 2 id) [(fADC_STATE_BM_RDY, 1)]) [(fADC_INJ_TSRC 0, 4),(fADC_INJ_DELAY 0, 7)]) with adc := { awake.adc with faultNew := true } }, 0, by decide +kernel⟩,
   ⟨{ puts awake [(fADC_SEQ_TSRC 0, 1),(fADC_SSTAT_RUN 0, 1),(fADC_TMR_PERIOD, 5)] with adc := { awake.adc with tmrAt := some (10^10) } }, 0, (({ puts awake [(fADC_SEQ_TSRC 0, 1),(fADC_SSTAT_RUN 0, 1),(fADC_TMR_PERIOD, 5)] with adc := { awake.adc with tmrAt := some (10^10) } } : State).adc.tmrAt).get (by decide +kernel), by decide +kernel⟩,
   ⟨(ibAt 3 2 id).updConv 0 fun c => { c with dueAt := [10^10, 10^10+8], idueAt := [5] }, 0, ((((ibAt 3 2 id).updConv 0 fun c => { c with dueAt := [10^10, 10^10+8], idueAt := [5] } : State).conv (0 : Fin 2)).dueAt).head (by decide +kernel), ((((ibAt 3 2 id).updConv 0 fun c => { c with dueAt := [10^10, 10^10+8], idueAt := [5] } : State).conv (0 : Fin 2)).dueAt).tail, by decide +kernel⟩⟩

theorem witness_Converters_2 :
    (∃ (s : State) (k : Fin 2) (a : Nat) (l : List Nat), s.lclk = true ∧ (s.conv k).idueAt = a :: l ∧ a ≤ s.now) ∧
    (∃ (s : State) (k : Fin 2) (p : Port), s.lclk = true ∧ Served p (ADC_SEQ k) s ∧ s.seqBusy k false = true) ∧
    (∃ (s : State) (k : Fin 2) (p : Port), s.lclk = true ∧ Served p (ADC_SEQ k) s ∧ s.seqBusy k false = false ∧ s.on fADC_STATE_BM_RDY = true ∧ (s.get fADC_CFG_REF = 0 ∨ s.on fADC_STATE_ALT_RDY = true) ∧ (s.conv k).calOn = false) ∧
    (∃ (s : State) (k : Fin 2) (p : Port), s.lclk = true ∧ Served p (ADC_INJ k) s ∧ s.seqBusy k true = false ∧ s.on fADC_STATE_BM_RDY = true ∧ (s.get fADC_CFG_REF = 0 ∨ s.on fADC_STATE_ALT_RDY = true) ∧ (s.conv k).calOn = false) ∧
    (∃ (s : State) (p : Port) (v : Word), s.lclk = true ∧ Served p ADC_CFG s ∧ (s.anySeqBusy = true ∨ (bitsAt v 0 2 = 1 ∧ s.datumAbsent = true))) ∧
    (∃ (s : State) (p : Port) (v : Word), s.lclk = true ∧ Served p ADC_CFG s ∧ s.anySeqBusy = false ∧ bitsAt v 0 2 ≠ 3 ∧ (bitsAt v 0 2 ≠ 1 ∨ s.datumAbsent = false) ∧ bitsAt v 0 2 ≠ s.get fADC_CFG_REF) ∧
    (∃ (s : State) (a : Nat), s.lclk = true ∧ s.adc.bmAt = some a ∧ a + 20000 ≤ s.now) ∧
    (∃ (s : State) (a : Nat), s.lclk = true ∧ s.adc.altAt = some a ∧ a + 20000 ≤ s.now) :=
  ⟨⟨(ibAt 3 2 id).updConv 0 fun c => { c with dueAt := [10^10, 10^10+8], idueAt := [5] }, 0, ((((ibAt 3 2 id).updConv 0 fun c => { c with dueAt := [10^10, 10^10+8], idueAt := [5] } : State).conv (0 : Fin 2)).idueAt).head (by decide +kernel), ((((ibAt 3 2 id).updConv 0 fun c => { c with dueAt := [10^10, 10^10+8], idueAt := [5] } : State).conv (0 : Fin 2)).idueAt).tail, by decide +kernel⟩,
   ⟨puts awake [(fADC_SSTAT_RUN 0, 1),(fADC_SSTAT_SLOT 0, 3),(fADC_SEQ_LEN 0, 3),(fADC_SSTAT_RUN 1, 1),(fADC_SSTAT_SLOT 1, 3),(fADC_SEQ_LEN 1, 15)], 0, .host, by unfold Served; decide +kernel⟩,
   ⟨{ ibAt 3 2 id with now := 10^10 + 160 + 1 }, 0, .host, by unfold Served; decide +kernel⟩,
   ⟨{ ibAt 3 2 id with now := 10^10 + 160 + 1 }, 0, .host, by unfold Served; decide +kernel⟩,
   ⟨puts awake [(fADC_SSTAT_RUN 0, 1),(fADC_SSTAT_SLOT 0, 3),(fADC_SEQ_LEN 0, 3),(fADC_SSTAT_RUN 1, 1),(fADC_SSTAT_SLOT 1, 3),(fADC_SEQ_LEN 1, 15)], .host, 0, by unfold Served; decide +kernel⟩,
   ⟨{ ibAt 3 2 id with now := 10^10 + 160 + 1 }, .host, 1#32, by unfold Served; decide +kernel⟩,
   ⟨{ puts (ibAt 2 1 id) [(fADC_STATE_BM_RDY, 0)] with adc := { awake.adc with bmAt := some (10^10-20000) } }, (({ puts (ibAt 2 1 id) [(fADC_STATE_BM_RDY, 0)] with adc := { awake.adc with bmAt := some (10^10-20000) } } : State).adc.bmAt).get (by decide +kernel), by decide +kernel⟩,
   ⟨{ puts (ibAt 2 1 id) [(fADC_STATE_BM_RDY, 1)] with adc := { awake.adc with altAt := some (10^10-20000) } }, (({ puts (ibAt 2 1 id) [(fADC_STATE_BM_RDY, 1)] with adc := { awake.adc with altAt := some (10^10-20000) } } : State).adc.altAt).get (by decide +kernel), by decide +kernel⟩⟩

theorem witness_Calibration :
    (∃ (s : State) (p : Port) (v : Word), Served p ADC_CALCMD s ∧ s.on fADC_STATE_CAL_BUSY = false ∧ bitsAt v 6 2 ≠ 0 ∧ (∀ j, j < 2 → bitN (bitsAt v 6 2) j = true → s.seqBusy j false = false ∧ s.seqBusy j true = false) ∧ (∀ j, j < 2 → bitN (bitsAt v 6 2) j = true → (tblGet (fun _ => none) s.adc.held (64 * j + min 47 (bitsAt v 0 6))).isSome = true)) ∧
    (∃ (s : State) (p : Port) (v : Word), Served p ADC_CALCMD s ∧ s.on fADC_STATE_CAL_BUSY = false ∧ bitsAt v 6 2 ≠ 0 ∧ (∀ j, j < 2 → bitN (bitsAt v 6 2) j = true → s.seqBusy j false = false ∧ s.seqBusy j true = false) ∧ (∀ j, j < 2 → tblGet (fun _ => none) s.adc.held (64 * j + min 47 (bitsAt v 0 6)) = none)) ∧
    (∃ (s : State) (p : Port) (v : Word), Served p ADC_CALCMD s ∧ (s.on fADC_STATE_CAL_BUSY = true ∨ bitsAt v 6 2 = 0)) ∧
    (∃ (s : State) (k : Fin 2) (a : Nat), s.lclk = true ∧ (s.conv k).flight = some ⟨a, .cal⟩ ∧ a + 160 ≤ s.now ∧ (s.conv k).calOn = true ∧ (s.conv k).calCnt < 64 ∧ s.adc.calIdx < 32) ∧
    (∃ (s : State) (k : Fin 2), s.on fADC_STATE_CAL_BUSY = true ∧ s.adc.calIdx < 48 ∧ (s.conv k).calOn = true ∧ (s.conv (1 - k)).calOn = false ∧ (s.conv k).calCnt ≠ 64) ∧
    (∃ (s : State) (k : Fin 2), s.on fADC_STATE_CAL_BUSY = true ∧ s.adc.calIdx < 48 ∧ (s.conv k).calOn = true ∧ (s.conv (1 - k)).calOn = false ∧ (s.conv k).calCnt = 64) :=
  ⟨⟨{ awake with adc := { awake.adc with held := [(0, some 5),(64, some 9),(47, some 8000),(111, some (-8192))] } }, .host, 0x40#32, by unfold Served; decide +kernel⟩,
   ⟨awake, .host, 0x40#32, by unfold Served; decide +kernel⟩,
   ⟨awake, .host, 0, by unfold Served; decide +kernel⟩,
   ⟨{ (awake.put fADC_STATE_CAL_BUSY 1) with adc := { ((awake.put fADC_STATE_CAL_BUSY 1)).adc with convs := [(0, { flight := some ⟨10^10 - 160, .cal⟩, calOn := true, calSum := 77, calCnt := 63 })], faultNew := false } }, 0, (((({ (awake.put fADC_STATE_CAL_BUSY 1) with adc := { ((awake.put fADC_STATE_CAL_BUSY 1)).adc with convs := [(0, { flight := some ⟨10^10 - 160, .cal⟩, calOn := true, calSum := 77, calCnt := 63 })], faultNew := false } } : State).conv (0 : Fin 2)).flight).get (by decide +kernel)).at_, by decide +kernel⟩,
   ⟨(awake.put fADC_STATE_CAL_BUSY 1).updConv 0 fun c => { c with calOn := true, calSum := 77, calCnt := 63 }, 0, by decide +kernel⟩,
   ⟨((awake.put fADC_STATE_CAL_BUSY 1).updConv 1 fun c => { c with calOn := true, calSum := 6400, calCnt := 64 }).updAdc fun a => { a with calIdx := 47, calStep := 1 }, 1, by decide +kernel⟩⟩

theorem witness_TraverseFrames_1 :
    (∃ (s : State) (lane : Lane) (w : Word64), Arrives s 1 lane w ∧ s.isPrincipal = false ∧ frameSrc w = s.principal) ∧
    (∃ (s : State) (lane : Lane) (w : Word64), Arrives s 2 lane w) ∧
    (∃ (s : State) (lane : Lane) (w : Word64), s.listening = true ∧ frameType w = 2 ∧ (s.trv.rxHop (laneNum lane)).broken = false ∧ frameSrc w = s.dieIndex ∧ lane = .ccw ∧ s.trv.prevHop.closed = false) ∧
    (∃ (s : State) (lane : Lane) (w : Word64) (p : Lap), s.listening = true ∧ frameType w = 2 ∧ (s.trv.rxHop (laneNum lane)).broken = false ∧ frameSrc w = s.dieIndex ∧ (lane = .cw ∨ s.trv.prevHop.closed = true) ∧ s.trv.lap = some p ∧ p.no = frameBits w 48 4 ∧ p.back = none) ∧
    (∃ (s : State) (lane : Lane) (w : Word64), Arrives s 3 lane w) ∧
    (∃ (s : State) (lane : Lane) (w : Word64), Arrives s 4 lane w) ∧
    (∃ (s : State) (lane : Lane) (w : Word64), Arrives s 5 lane w ∧ s.trv.relays = [] ∧ frameSrc w = s.principal) ∧
    (∃ (s : State) (lane : Lane) (w : Word64), Arrives s 6 lane w ∧ s.trv.relays = []) ∧
    (∃ (s : State) (lane : Lane) (w : Word64), Arrives s 7 lane w ∧ s.isPrincipal = false) ∧
    (∃ (s : State) (lane : Lane) (w : Word64), Arrives s 7 lane w ∧ s.isPrincipal = true ∧ frameBits w 56 1 = 0) ∧
    (∃ (s : State) (lane : Lane) (w : Word64), Arrives s 7 lane w ∧ s.isPrincipal = true ∧ frameBits w 56 1 = 1 ∧ s.trv.epochs.length < 4 ∧ s.ts.toNat + 10000 ≤ s.resolve36 (frameBits w 0 36) ∧ s.resolve36 (frameBits w 0 36) ≤ s.ts.toNat + 60000000000) ∧
    (∃ (s : State) (lane : Lane) (w : Word64), Arrives s 8 lane w) :=
  ⟨⟨ring, .cw, (frameWord 1 0 (66191360000)), by unfold Arrives; decide +kernel⟩,
   ⟨ring, .cw, (frameWord 2 0 (3*2^48+2*2^52+500*2^16+700)), by unfold Arrives; decide +kernel⟩,
   ⟨prin, .ccw, (frameWord 2 1 (3*2^48)), by decide +kernel⟩,
   ⟨trvd prin fun h => { h with lap := some ⟨3, 10^10, none, []⟩ }, .cw, (frameWord 2 1 (3*2^48+500*2^16+700+2^33)), ((trvd prin fun h => { h with lap := some ⟨3, 10^10, none, []⟩ } : State).trv.lap).get (by decide +kernel), by decide +kernel⟩,
   ⟨ring, .cw, (frameWord 3 2 (5*2^48+7*2^16+9)), by unfold Arrives; decide +kernel⟩,
   ⟨ring, .cw, (frameWord 4 0 (3*2^48 + 77*2^16)), by unfold Arrives; decide +kernel⟩,
   ⟨ring, .cw, (frameWord 5 0 (0xFFFFF)), by unfold Arrives; decide +kernel⟩,
   ⟨ring, .cw, (frameWord 6 0 (2^56+5)), by unfold Arrives; decide +kernel⟩,
   ⟨ring, .cw, (frameWord 7 2 (0)), by unfold Arrives; decide +kernel⟩,
   ⟨prin, .cw, (frameWord 7 2 (9*2^36)), by unfold Arrives; decide +kernel⟩,
   ⟨prin, .cw, (frameWord 7 3 (2^56+9*2^36+1020000)), by unfold Arrives; decide +kernel⟩,
   ⟨ring, .cw, (frameWord 8 2 (3*2^40+5*2^35+2*2^33)), by unfold Arrives; decide +kernel⟩⟩

theorem witness_TraverseFrames_2 :
    (∃ (s : State) (lane : Lane) (w : Word64), Arrives s 9 lane w) ∧
    (∃ (s : State) (lane : Lane) (w : Word64), Arrives s 10 lane w) ∧
    (∃ (s : State) (lane : Lane) (w : Word64), s.listening = true ∧ frameType w = 10 ∧ (s.trv.rxHop (laneNum lane)).broken = false ∧ frameSrc w = s.dieIndex ∧ (lane = .cw ∨ s.trv.prevHop.closed = true) ∧ s.trv.claimSent = true ∧ s.trv.lostAt.isSome = true ∧ (∀ k, k < 8 → bitN (s.get fTRV_STATE_MEMBERS) k = true → k ≠ frameBits w 54 3 → bitN (frameBits w 0 8) k = true)) ∧
    (∃ (s : State) (lane : Lane) (w : Word64), s.listening = true ∧ frameType w = 10 ∧ (s.trv.rxHop (laneNum lane)).broken = false ∧ frameSrc w = s.dieIndex ∧ (lane = .cw ∨ s.trv.prevHop.closed = true) ∧ s.trv.claimSent = true ∧ s.trv.lostAt.isSome = true ∧ (∃ k, k < 8 ∧ bitN (s.get fTRV_STATE_MEMBERS) k = true ∧ k ≠ frameBits w 54 3 ∧ bitN (frameBits w 0 8) k = false)) ∧
    (∃ (s : State) (lane : Lane) (w : Word64), Arrives s 11 lane w) ∧
    (∃ (s : State) (w : Word64), s.listening = true ∧ frameType w = 12 ∧ frameSrc w ≠ s.dieIndex) ∧
    (∃ (s : State) (lane : Lane) (w : Word64) (t0 : Nat), s.listening = true ∧ frameType w = 12 ∧ frameSrc w = s.dieIndex ∧ (s.trv.rxHop (laneNum lane)).echoAt = some t0 ∧ frameBits w 0 16 = (s.trv.rxHop (laneNum lane)).echoNo ∧ (s.trv.rxHop (laneNum lane)).echoDone < 64) ∧
    (∃ (s : State) (lane : Lane) (w : Word64), Arrives s 13 lane w) :=
  ⟨⟨ring, .cw, (frameWord 9 0 (2^32)), by unfold Arrives; decide +kernel⟩,
   ⟨ring, .cw, (frameWord 10 2 (5)), by unfold Arrives; decide +kernel⟩,
   ⟨trvd ring fun h => { h with claimSent := true, lostAt := some 5, lostDie := 0 }, .cw, (frameWord 10 1 (15)), by decide +kernel⟩,
   ⟨trvd ring fun h => { h with claimSent := true, lostAt := some 5, lostDie := 0 }, .cw, (frameWord 10 1 (1)), by decide +kernel⟩,
   ⟨ring, .cw, (frameWord 11 0 (0)), by unfold Arrives; decide +kernel⟩,
   ⟨ring, (frameWord 12 2 (7)), by decide +kernel⟩,
   ⟨trvd ring fun h => { h with prevHop := { echoAt := some (10^10-50), echoNo := 7, echoDone := 63, echoSum := 25000 }, nextHop := { echoAt := some (10^10-50), echoNo := 8, echoDone := 3 } }, .cw, (frameWord 12 1 (7)), (((trvd ring fun h => { h with prevHop := { echoAt := some (10^10-50), echoNo := 7, echoDone := 63, echoSum := 25000 }, nextHop := { echoAt := some (10^10-50), echoNo := 8, echoDone := 3 } } : State).trv.rxHop (laneNum (.cw : Lane))).echoAt).get (by decide +kernel), by decide +kernel⟩,
   ⟨ring, .cw, (frameWord 13 0 (1020000)), by unfold Arrives; decide +kernel⟩⟩

theorem witness_TraverseRing_1 :
    (∃ (s : State) (t : Nat), s.trv.alignAt = some t ∧ s.locked = true ∧ t ≤ s.ts.toNat + 5) ∧
    (∃ (s : State) (lane : Lane), s.listening = true ∧ (s.trv.rxHop (laneNum lane)).closed = false) ∧
    (∃ (s : State) (lane : Lane), (s.trv.rxHop (laneNum lane)).broken = true ∧ bitN (s.get fTRV_STATE_LANES) (2 * laneNum lane) = false) ∧
    (∃ (s : State) (lane : Lane), (s.trv.rxHop (laneNum lane)).broken = true ∧ s.listening = true ∧ bitN (s.get fTRV_STATE_LANES) (2 * laneNum lane) = true) ∧
    (∃ (s : State) (lane : Lane), s.listening = true ∧ (s.trv.rxHop (laneNum lane)).broken = false ∧ (s.trv.rxHop (laneNum lane)).aside = true) ∧
    (∃ (s : State) (lane : Lane), s.listening = true ∧ (s.trv.rxHop (laneNum lane)).broken = true ∧ (s.trv.rxHop (laneNum lane)).retryAt + 1000000 ≤ s.now) ∧
    (∃ (s : State) (lane : Lane), s.listening = true ∧ (s.ts.toNat % 20000 = 3000 ∨ s.ts.toNat % 20000 = 3001) ∧ (s.trv.rxHop (1 - laneNum lane)).broken = true ∧ 64 ≤ (s.trv.rxHop (1 - laneNum lane)).echoDone ∧ bitN (s.get fTRV_STATE_LANES) (2 * (1 - laneNum lane)) = true) ∧
    (∃ (s : State) (t : Nat), s.listening = true ∧ s.dieIndex = s.get fTRV_CFG_PRINCIPAL ∧ s.trv.started = false ∧ ((64 ≤ s.trv.nextHop.echoDone ∧ 64 ≤ s.trv.prevHop.echoDone) ∨ (s.trv.lockAt = some t ∧ t + 10000000 ≤ s.now))) ∧
    (∃ (s : State), s.locked = true ∧ s.trv.latchTs / 20000 < s.ts.toNat / 20000) ∧
    (∃ (s : State) (d f : Nat), s.trv.latched = some (d, f) ∧ s.trv.lap = none ∧ s.listening = true ∧ s.isPrincipal = true ∧ s.trv.started = true ∧ s.trv.latchTs + 100 ≤ s.ts.toNat) ∧
    (∃ (s : State) (d f : Nat) (lap : Lap), s.trv.lap = some lap ∧ s.trv.latched = some (d, f) ∧ s.isPrincipal = true ∧ lap.sentAt + 2000 ≤ s.now) ∧
    (∃ (s : State), s.listening = true ∧ s.runOrIdle = true ∧ s.isPrincipal = false ∧ s.trv.started = true ∧ s.trv.lostAt = none ∧ s.trv.principalAt + 10000 ≤ s.now ∧ s.principal ∉ s.trv.left) :=
  ⟨⟨trvd ring fun h => { h with alignAt := some 1010005 }, ((trvd ring fun h => { h with alignAt := some 1010005 } : State).trv.alignAt).get (by decide +kernel), by decide +kernel⟩,
   ⟨ring, .cw, by decide +kernel⟩,
   ⟨trvd (ring.put fTRV_STATE_LANES 0) fun h => { h with prevHop := { broken := true }, nextHop := { broken := true, aside := true } }, .cw, by decide +kernel⟩,
   ⟨trvd (ring.put fTRV_STATE_LANES 15) fun h => { h with prevHop := { broken := true, echoDone := 3 } }, .cw, by decide +kernel⟩,
   ⟨trvd (ring.put fTRV_STATE_LANES 15) fun h => { h with nextHop := { aside := true }, prevHop := { aside := true } }, .cw, by decide +kernel⟩,
   ⟨trvd ring fun h => { h with nextHop := { broken := true, retryAt := 10^10-1000000 } }, .ccw, by decide +kernel⟩,
   ⟨trvd ({ ring with ts := 1003000#64 }.put fTRV_STATE_LANES 15) fun h => { h with nextHop := { broken := true, echoDone := 64 } }, .cw, by decide +kernel⟩,
   ⟨trvd (ring.put fTRV_CFG_PRINCIPAL 1) fun h => { h with started := false, lockAt := some 0 }, ((trvd (ring.put fTRV_CFG_PRINCIPAL 1) fun h => { h with started := false, lockAt := some 0 } : State).trv.lockAt).getD 0, by decide +kernel⟩,
   ⟨ring, by decide +kernel⟩,
   ⟨trvd prin fun h => { h with latched := some (9000, 700), latchTs := 1009900, lapNo := 15 }, (((trvd prin fun h => { h with latched := some (9000, 700), latchTs := 1009900, lapNo := 15 } : State).trv.latched).get (by decide +kernel)).1, (((trvd prin fun h => { h with latched := some (9000, 700), latchTs := 1009900, lapNo := 15 } : State).trv.latched).get (by decide +kernel)).2, by decide +kernel⟩,
   ⟨trvd (prin.put fCAP_PKG_CAP 0) fun h => { h with latched := some (9000,700), lap := some ⟨5, 10^10-2000, none, [(0,100,200),(2,100,200)]⟩, started := true }, (((trvd (prin.put fCAP_PKG_CAP 0) fun h => { h with latched := some (9000,700), lap := some ⟨5, 10^10-2000, none, [(0,100,200),(2,100,200)]⟩, started := true } : State).trv.latched).get (by decide +kernel)).1, (((trvd (prin.put fCAP_PKG_CAP 0) fun h => { h with latched := some (9000,700), lap := some ⟨5, 10^10-2000, none, [(0,100,200),(2,100,200)]⟩, started := true } : State).trv.latched).get (by decide +kernel)).2, ((trvd (prin.put fCAP_PKG_CAP 0) fun h => { h with latched := some (9000,700), lap := some ⟨5, 10^10-2000, none, [(0,100,200),(2,100,200)]⟩, started := true } : State).trv.lap).get (by decide +kernel), by decide +kernel⟩,
   ⟨trvd ring fun h => { h with principalAt := 10^10 - 10000 }, by decide +kernel⟩⟩

theorem witness_TraverseRing_2 :
    (∃ (s : State) (lo : Nat), s.listening = true ∧ s.trv.lostAt = some lo ∧ s.trv.claimSent = false ∧ s.trv.claimBar = false ∧ s.trv.claimRetryAt = none ∧ lo + (s.rank - 1) * 1000 ≤ s.now) ∧
    (∃ (s : State), s.trv.claimBar = true) ∧
    (∃ (s : State) (t lo : Nat), s.listening = true ∧ s.trv.lostAt = some lo ∧ s.trv.claimRetryAt = some t ∧ t ≤ s.now) ∧
    (∃ (s : State), s.listening = true ∧ s.isPrincipal = true ∧ s.trv.capSentAt + 1000000 ≤ s.now) ∧
    (∃ (s : State) (p : Port), Served p TRV_EPOCH_GO s) ∧
    (∃ (s : State) (e : Epoch), e ∈ s.trv.epochs ∧ (∀ x ∈ s.trv.epochs, x = e ∨ e.ts < x.ts ∨ (e.ts = x.ts ∧ x.order < e.order)) ∧ e.ts ≤ s.ts.toNat) ∧
    (∃ (s : State) (r : Relay), s.trv.relays = [r] ∧ r.sentAt + 100000 ≤ s.now) ∧
    (∃ (s : State), s.isTimeSource = true ∧ s.trv.started = true ∧ s.trv.syncNo < (s.ts.toNat + 1000) / 5000) ∧
    (∃ (s : State), s.quiet = true) ∧
    (∃ (s : State), s.quiet = false) :=
  ⟨⟨trvd ring fun h => { h with lostAt := some (10^10-2000), lostDie := 0 }, ((trvd ring fun h => { h with lostAt := some (10^10-2000), lostDie := 0 } : State).trv.lostAt).get (by decide +kernel), by decide +kernel⟩,
   ⟨trvd ring fun h => { h with claimBar := true }, by decide +kernel⟩,
   ⟨trvd ring fun h => { h with lostAt := some 5, claimRetryAt := some (10^10) }, ((trvd ring fun h => { h with lostAt := some 5, claimRetryAt := some (10^10) } : State).trv.claimRetryAt).get (by decide +kernel), ((trvd ring fun h => { h with lostAt := some 5, claimRetryAt := some (10^10) } : State).trv.lostAt).get (by decide +kernel), by decide +kernel⟩,
   ⟨trvd (prin.put fCAP_PKG_CAP 77) fun h => { h with capSentAt := 10^10-1000000 }, by decide +kernel⟩,
   ⟨sets (prin) [(TRV_EPOCH_TS_LO,0),(TRV_EPOCH_CAP,77)], .host, by unfold Served; decide +kernel⟩,
   ⟨trvd { (prin.put fCAP_PKG_CAP 60).put fCAP_SHARE_SHARE 60 with trv := { prin.trv with gotShare := true } } fun h => { h with epochs := [⟨5,7,4⟩,⟨1010000,31,1⟩,⟨4,31,3⟩] }, ((trvd { (prin.put fCAP_PKG_CAP 60).put fCAP_SHARE_SHARE 60 with trv := { prin.trv with gotShare := true } } fun h => { h with epochs := [⟨5,7,4⟩,⟨1010000,31,1⟩,⟨4,31,3⟩] } : State).trv.epochs.getLastD ⟨0,0,0⟩), by decide +kernel⟩,
   ⟨trvd ring fun h => { h with relays := [⟨1,5,6,10^10-100000,none⟩] }, ((trvd ring fun h => { h with relays := [⟨1,5,6,10^10-100000,none⟩] } : State).trv.relays).head (by decide +kernel), by decide +kernel⟩,
   ⟨prin, by decide +kernel⟩,
   ⟨trvd { ring with ts := 1000000 } fun h => { h with held := [(0, frameWord 5 1 5),(1,frameWord 6 1 7),(2, frameWord 8 1 9)] }, by decide +kernel⟩,
   ⟨ring, by decide +kernel⟩⟩

theorem witness_Mailboxes_1 :
    (∃ (s : State) (m : Fin 8), Served .host (MBX_BELL m) s ∧ m ≠ 7 ∧ s.core.ifaceDue = some (s.now + 2000)) ∧
    (∃ (s : State) (m : Fin 8), Served .host (MBX_BELL m) s ∧ s.core.ifaceDue ≠ some (s.now + 2000) ∧ m = 7) ∧
    (∃ (s : State) (m : Fin 8), Served .host (MBX_BELL m) s ∧ s.core.ifaceDue ≠ some (s.now + 2000) ∧ m ≠ 7 ∧ ((1 ≤ s.chanState m ∧ s.chanState m ≤ 3) ∨ 5 ≤ s.chanState m)) ∧
    (∃ (s : State) (m : Fin 8) (ws : List Word), Served .host (MBX_BELL m) s ∧ s.core.ifaceDue ≠ some (s.now + 2000) ∧ m ≠ 7 ∧ (s.chanState m = 0 ∨ s.chanState m = 4) ∧ (s.chan m).lastSeq = some (s.reqSeq m) ∧ (s.chan m).lastOp = s.reqOp m ∧ (s.chan m).stored = some ws ∧ ws.length = 16) ∧
    (∃ (s : State) (m : Fin 8) (q : Nat), Served .host (MBX_BELL m) s ∧ s.core.ifaceDue ≠ some (s.now + 2000) ∧ m ≠ 7 ∧ (s.chanState m = 0 ∨ s.chanState m = 4) ∧ (s.chan m).lastSeq = some q ∧ s.reqSeq m ≠ q ∧ s.reqSeq m ≠ (q + 1) % 65536) ∧
    (∃ (s : State) (m : Fin 8), Served .host (MBX_BELL m) s ∧ s.core.ifaceDue ≠ some (s.now + 2000) ∧ m ≠ 7 ∧ (s.chanState m = 0 ∨ s.chanState m = 4) ∧ (s.chan m).lastSeq = none ∧ 56 < s.reqLen m) ∧
    (∃ (s : State) (m : Fin 8), Served .host (MBX_BELL m) s ∧ s.core.ifaceDue ≠ some (s.now + 2000) ∧ m ≠ 7 ∧ (s.chanState m = 0 ∨ s.chanState m = 4) ∧ (s.chan m).lastSeq = none ∧ s.reqLen m ≤ 56 ∧ bitsAt (s.reg (MBX_REQ m 1)) 8 24 = 0 ∧ s.coreDown = true) ∧
    (∃ (s : State) (m : Fin 8), Served .host (MBX_BELL m) s ∧ s.core.ifaceDue ≠ some (s.now + 2000) ∧ m ≠ 7 ∧ (s.chanState m = 0 ∨ s.chanState m = 4) ∧ (s.chan m).lastSeq = none ∧ s.reqLen m ≤ 56 ∧ bitsAt (s.reg (MBX_REQ m 1)) 8 24 = 0 ∧ s.coreDown = false) ∧
    (∃ (s : State) (m : Fin 8), s.chanState m = 1 ∧ s.coreDown = false ∧ s.coreAsleep = false ∧ s.now ≤ (s.chan m).bellAt + 20000 ∧ bitN (s.reg CAD_FWPERM).toNat 19 = true) ∧
    (∃ (s : State) (m : Fin 8), s.chanState m = 1 ∧ s.coreDown = false ∧ s.coreAsleep = false ∧ s.now ≤ (s.chan m).bellAt + 20000 ∧ bitN (s.reg CAD_FWPERM).toNat 19 = false) ∧
    (∃ (s : State) (m : Fin 8), s.chanState m = 1 ∧ (s.chan m).bellAt + 20000 < s.now) ∧
    (∃ (s : State) (m : Fin 8), s.chanState m ≠ 1) :=
  ⟨⟨{ awake with core := { awake.core with ifaceDue := some (10^10 + 2000) } }, 0, by unfold Served; decide +kernel⟩,
   ⟨awake, 7, by unfold Served; decide +kernel⟩,
   ⟨(awake.setReg CAD_FWPERM 0).put (fMBX_CST_STATE 0) 1, 0, by unfold Served; decide +kernel⟩,
   ⟨((sets awake [(MBX_REQ 0 0, 0x70101)]).updChan 0 fun c => { c with lastSeq := some 7, lastOp := 0x0101, stored := some (List.replicate 16 9#32) }), 0, (((((sets awake [(MBX_REQ 0 0, 0x70101)]).updChan 0 fun c => { c with lastSeq := some 7, lastOp := 0x0101, stored := some (List.replicate 16 9#32) }) : State).chan (0 : Fin 8)).stored).get (by decide +kernel), by unfold Served; decide +kernel⟩,
   ⟨((sets awake [(MBX_REQ 0 0, 0x70101)]).updChan 0 fun c => { c with lastSeq := some 65535, lastOp := 0x0101 }), 0, (((((sets awake [(MBX_REQ 0 0, 0x70101)]).updChan 0 fun c => { c with lastSeq := some 65535, lastOp := 0x0101 }) : State).chan (0 : Fin 8)).lastSeq).get (by decide +kernel), by unfold Served; decide +kernel⟩,
   ⟨((sets awake [(MBX_REQ 0 0, 0x70101),(MBX_REQ 0 1, 57)])), 0, by unfold Served; decide +kernel⟩,
   ⟨(awake.put fBLK_CORE_READY 0).put fPST_STATE_STATE 2, 0, by unfold Served; decide +kernel⟩,
   ⟨awake, 0, by unfold Served; decide +kernel⟩,
   ⟨(awake.put (fMBX_CST_STATE 0) 1).updChan 0 fun c => { c with bellAt := 10^10-20000 }, 0, by decide +kernel⟩,
   ⟨((awake.setReg CAD_FWPERM 0).put (fMBX_CST_STATE 0) 1).updChan 0 fun c => { c with bellAt := 10^10-20000 }, 0, by decide +kernel⟩,
   ⟨(awake.setReg CAD_FWPERM 0).put (fMBX_CST_STATE 0) 1, 0, by decide +kernel⟩,
   ⟨awake, 0, by decide +kernel⟩⟩

theorem witness_Mailboxes_2 :
    (∃ (s : State) (m : Fin 8), s.chanState m = 2 ∧ s.serves m (s.reqOp m) = true ∧ s.isLong (s.reqOp m) = true ∧ s.longCheck m (s.reqOp m) = none) ∧
    (∃ (s : State) (m : Fin 8), Holds s m 0x0C03 0 ∧ s.reqOp m = 0x0C03) ∧
    (∃ (s : State) (m : Fin 8), s.chanState m = 2 ∧ s.coreDown = false ∧ s.coreAsleep = false ∧ argLen (s.reqOp m) = none) ∧
    (∃ (s : State) (m : Fin 8), s.chanState m = 2 ∧ s.coreDown = false ∧ s.coreAsleep = false ∧ argLen (s.reqOp m) ≠ none ∧ groupOn m (s.reqOp m) = false) ∧
    (∃ (s : State) (m : Fin 8), Holds s m 0x0101 0) ∧
    (∃ (s : State) (m : Fin 8), Holds s m 0x0102 0) ∧
    (∃ (s : State) (m : Fin 8), Holds s m 0x0203 0) ∧
    (∃ (s : State) (m : Fin 8), Holds s m 0x0204 1 ∧ s.arg m 0 1 < 4) ∧
    (∃ (s : State) (m : Fin 8), Holds s m 0x0204 1 ∧ 4 ≤ s.arg m 0 1) ∧
    (∃ (s : State) (m : Fin 8), Holds s m 0x0305 1 ∧ s.arg m 0 1 < 32) ∧
    (∃ (s : State) (m : Fin 8), Holds s m 0x0305 1 ∧ 32 ≤ s.arg m 0 1) ∧
    (∃ (s : State) (m : Fin 8), Holds s m 0x0402 1 ∧ s.arg m 0 1 < 17) :=
  ⟨⟨req on1 0 0x0301 [2], 0, by decide +kernel⟩,
   ⟨req ({ on1 with ts := 0x123456789ABCDEF0#64 }) 0 0x0C03 [], 0, by unfold Holds; decide +kernel⟩,
   ⟨req awake 0 0x9999 [], 0, by decide +kernel⟩,
   ⟨req awake 7 0x0503 [1], 7, by decide +kernel⟩,
   ⟨req (ring) 0 0x0101 [], 0, by unfold Holds; decide +kernel⟩,
   ⟨req ({ on1 with ts := 0x123456789ABCDEF0#64 }) 0 0x0102 [], 0, by unfold Holds; decide +kernel⟩,
   ⟨req (on1) 0 0x0203 [], 0, by unfold Holds; decide +kernel⟩,
   ⟨req (on1) 0 0x0204 [0], 0, by unfold Holds; decide +kernel⟩,
   ⟨req (on1) 0 0x0204 [4], 0, by unfold Holds; decide +kernel⟩,
   ⟨req (on1) 0 0x0305 [1], 0, by unfold Holds; decide +kernel⟩,
   ⟨req (on1) 0 0x0305 [32], 0, by unfold Holds; decide +kernel⟩,
   ⟨req ({ on1 with nrg := { on1.nrg with acc := [(16, 2^40+5)] } }) 0 0x0402 [0], 0, by unfold Holds; decide +kernel⟩⟩

theorem witness_Mailboxes_3 :
    (∃ (s : State) (m : Fin 8), Holds s m 0x0402 1 ∧ 17 ≤ s.arg m 0 1) ∧
    (∃ (s : State) (m : Fin 8), Holds s m 0x0406 1 ∧ s.arg m 0 1 < 8) ∧
    (∃ (s : State) (m : Fin 8), Holds s m 0x0406 1 ∧ 8 ≤ s.arg m 0 1) ∧
    (∃ (s : State) (m : Fin 8), m ≠ 7 ∧ Holds s m 0x0503 1 ∧ s.arg m 0 1 < 64) ∧
    (∃ (s : State) (m : Fin 8), m ≠ 7 ∧ Holds s m 0x0603 1 ∧ s.arg m 0 1 < 16) ∧
    (∃ (s : State) (m : Fin 8), Holds s m 0x0701 0) ∧
    (∃ (s : State) (m : Fin 8), Holds s m 0x0702 1 ∧ s.arg m 0 1 < 64) ∧
    (∃ (s : State) (m : Fin 8), Holds s m 0x0801 0) ∧
    (∃ (s : State) (m : Fin 8), Holds s m 0x0802 2 ∧ s.arg m 0 1 < 22 ∧ s.arg m 1 1 < 8 ∧ s.memPower 4 = 2 ∧ s.memBad 4 (bookSlot (s.arg m 0 1) (s.arg m 1 1)) 16 = false ∧ s.weakIn 4 (bookSlot (s.arg m 0 1) (s.arg m 1 1)) 16 = []) ∧
    (∃ (s : State) (m : Fin 8), Holds s m 0x0903 2 ∧ s.arg m 0 1 < 2 ∧ s.arg m 1 1 < 48) ∧
    (∃ (s : State) (m : Fin 8), m = 0 ∧ Holds s m 0x0A03 0) ∧
    (∃ (s : State) (m : Fin 8), m = 0 ∧ Holds s m 0x0B01 1 ∧ s.arg m 0 1 < 6) :=
  ⟨⟨req ({ on1 with nrg := { on1.nrg with acc := [(16, 2^40+5)] } }) 0 0x0402 [17], 0, by unfold Holds; decide +kernel⟩,
   ⟨req ({ on1 with nrg := { on1.nrg with wts := [(7, 2^40+5)] } }) 0 0x0406 [0], 0, by unfold Holds; decide +kernel⟩,
   ⟨req ({ on1 with nrg := { on1.nrg with wts := [(7, 2^40+5)] } }) 0 0x0406 [8], 0, by unfold Holds; decide +kernel⟩,
   ⟨req (on1) 0 0x0503 [0], 0, by unfold Holds; decide +kernel⟩,
   ⟨req (on1) 0 0x0603 [0], 0, by unfold Holds; decide +kernel⟩,
   ⟨req (on1) 0 0x0701 [], 0, by unfold Holds; decide +kernel⟩,
   ⟨req (on1) 0 0x0702 [0], 0, by unfold Holds; decide +kernel⟩,
   ⟨req (on1) 0 0x0801 [], 0, by unfold Holds; decide +kernel⟩,
   ⟨req (on1.raise evCEL_DOM_OFF 5) 0 0x0802 [3,0], 0, by unfold Holds; decide +kernel⟩,
   ⟨req (on1) 0 0x0903 [0,0], 0, by unfold Holds; decide +kernel⟩,
   ⟨req (on1) 0 0x0A03 [], 0, by unfold Holds; decide +kernel⟩,
   ⟨req (on1) 0 0x0B01 [0], 0, by unfold Holds; decide +kernel⟩⟩

theorem witness_Mailboxes_4 :
    ∃ (s : State) (m : Fin 8), Holds s m 0x0C02 0 :=
  ⟨req (ring) 0 0x0C02 [], 0, by unfold Holds; decide +kernel⟩

theorem witness_IbselWrites_1 :
    (∃ (s : State) (m : Fin 8), Holds s m 0x0201 4 ∧ (([(CAP_DIE, asWord (s.arg m 2 2 * 2 ^ 16 + s.arg m 0 2))] : List (Nat × Word)).all (fun w => s.fwMay w.1) = true)) ∧
    (∃ (s : State) (m : Fin 8), Holds s m 0x0201 4 ∧ (([(CAP_DIE, asWord (s.arg m 2 2 * 2 ^ 16 + s.arg m 0 2))] : List (Nat × Word)).all (fun w => s.fwMay w.1) = false)) ∧
    (∃ (s : State) (m : Fin 8), Holds s m 0x0202 4 ∧ s.isPrincipal = true ∧ (([(CAP_PKG, asWord (s.arg m 0 4))] : List (Nat × Word)).all (fun w => s.fwMay w.1) = true)) ∧
    (∃ (s : State) (m : Fin 8), Holds s m 0x0202 4 ∧ s.isPrincipal = true ∧ (([(CAP_PKG, asWord (s.arg m 0 4))] : List (Nat × Word)).all (fun w => s.fwMay w.1) = false)) ∧
    (∃ (s : State) (m : Fin 8) (d : Nat), d = s.arg m 0 1 ∧ Holds s m 0x0303 3 ∧ d < 32 ∧ s.codeValid d (s.arg m 1 2 % 1024) = true ∧ (([(DOM_VSET d, asWord (s.arg m 1 2))] : List (Nat × Word)).all (fun w => s.fwMay w.1) = true)) ∧
    (∃ (s : State) (m : Fin 8) (d : Nat), d = s.arg m 0 1 ∧ Holds s m 0x0303 3 ∧ d < 32 ∧ s.codeValid d (s.arg m 1 2 % 1024) = true ∧ (([(DOM_VSET d, asWord (s.arg m 1 2))] : List (Nat × Word)).all (fun w => s.fwMay w.1) = false)) ∧
    (∃ (s : State) (m : Fin 8) (d : Nat), d = s.arg m 0 1 ∧ Holds s m 0x0303 3 ∧ 32 ≤ d) ∧
    (∃ (s : State) (m : Fin 8) (d : Nat), d = s.arg m 0 1 ∧ Holds s m 0x0303 3 ∧ d < 32 ∧ s.codeValid d (s.arg m 1 2 % 1024) = false ∧ s.fwMay (DOM_VSET d) = true) ∧
    (∃ (s : State) (m : Fin 8) (d : Nat), d = s.arg m 0 1 ∧ Holds s m 0x0304 3 ∧ d < 32 ∧ s.arg m 1 1 % 16 ≤ s.gradeMax d ∧ (([(CAP_DGRADE d, asWord (b2n (s.arg m 2 1 ≠ 0) * 2 ^ 31 + s.arg m 1 1 % 16))] : List (Nat × Word)).all (fun w => s.fwMay w.1) = true)) ∧
    (∃ (s : State) (m : Fin 8) (d : Nat), d = s.arg m 0 1 ∧ Holds s m 0x0304 3 ∧ d < 32 ∧ s.arg m 1 1 % 16 ≤ s.gradeMax d ∧ (([(CAP_DGRADE d, asWord (b2n (s.arg m 2 1 ≠ 0) * 2 ^ 31 + s.arg m 1 1 % 16))] : List (Nat × Word)).all (fun w => s.fwMay w.1) = false)) ∧
    (∃ (s : State) (m : Fin 8), Holds s m 0x0401 11 ∧ s.on fTLM_CTL_EN = false ∧ (([(TLM_BASE_LO, asWord (s.arg m 0 4 / 4096 * 4096)), (TLM_BASE_HI, asWord (s.arg m 4 2)), (TLM_COUNT, asWord (max 1 (s.arg m 8 2))), (TLM_CTL, asWord (b2n (s.arg m 10 1 ≠ 0)))] : List (Nat × Word)).all (fun w => s.fwMay w.1) = true)) ∧
    (∃ (s : State) (m : Fin 8), Holds s m 0x0401 11 ∧ s.on fTLM_CTL_EN = false ∧ (([(TLM_BASE_LO, asWord (s.arg m 0 4 / 4096 * 4096)), (TLM_BASE_HI, asWord (s.arg m 4 2)), (TLM_COUNT, asWord (max 1 (s.arg m 8 2))), (TLM_CTL, asWord (b2n (s.arg m 10 1 ≠ 0)))] : List (Nat × Word)).all (fun w => s.fwMay w.1) = false)) :=
  ⟨⟨req (on1) 0 0x0201 [1,2,3,4], 0, by unfold Holds; decide +kernel⟩,
   ⟨req ((on1).setReg CAD_FWPERM 0) 0 0x0201 [1,2,3,4], 0, by unfold Holds; decide +kernel⟩,
   ⟨req (prin) 0 0x0202 [1,2,3,4], 0, by unfold Holds; decide +kernel⟩,
   ⟨req ((prin).setReg CAD_FWPERM 0) 0 0x0202 [1,2,3,4], 0, by unfold Holds; decide +kernel⟩,
   ⟨req (on1) 0 0x0303 [1,88,2], 0, (req (on1) 0 0x0303 [1,88,2] : State).arg (0 : Fin 8) 0 1, by unfold Holds; decide +kernel⟩,
   ⟨req ((on1).setReg CAD_FWPERM 0) 0 0x0303 [1,88,2], 0, (req ((on1).setReg CAD_FWPERM 0) 0 0x0303 [1,88,2] : State).arg (0 : Fin 8) 0 1, by unfold Holds; decide +kernel⟩,
   ⟨req (on1) 0 0x0303 [32,88,2], 0, (req (on1) 0 0x0303 [32,88,2] : State).arg (0 : Fin 8) 0 1, by unfold Holds; decide +kernel⟩,
   ⟨req (on1) 0 0x0303 [1,103,1], 0, (req (on1) 0 0x0303 [1,103,1] : State).arg (0 : Fin 8) 0 1, by unfold Holds; decide +kernel⟩,
   ⟨req (graded 5 7 none) 0 0x0304 [2,3,0], 0, (req (graded 5 7 none) 0 0x0304 [2,3,0] : State).arg (0 : Fin 8) 0 1, by unfold Holds; decide +kernel⟩,
   ⟨req ((graded 5 7 none).setReg CAD_FWPERM 0) 0 0x0304 [2,3,0], 0, (req ((graded 5 7 none).setReg CAD_FWPERM 0) 0 0x0304 [2,3,0] : State).arg (0 : Fin 8) 0 1, by unfold Holds; decide +kernel⟩,
   ⟨req (on1) 0 0x0401 [69,35,1,0,7,0,0,0,0,0,1], 0, by unfold Holds; decide +kernel⟩,
   ⟨req ((on1).setReg CAD_FWPERM 0) 0 0x0401 [69,35,1,0,7,0,0,0,0,0,1], 0, by unfold Holds; decide +kernel⟩⟩

theorem witness_IbselWrites_2 :
    (∃ (s : State) (m : Fin 8), Holds s m 0x0403 4 ∧ (([(NRG_CLR, asWord (s.arg m 0 4))] : List (Nat × Word)).all (fun w => s.fwMay w.1) = true)) ∧
    (∃ (s : State) (m : Fin 8), Holds s m 0x0403 4 ∧ (([(NRG_CLR, asWord (s.arg m 0 4))] : List (Nat × Word)).all (fun w => s.fwMay w.1) = false)) ∧
    (∃ (s : State) (m : Fin 8), Holds s m 0x0404 2 ∧ (([(NRG_CTL, setBits (s.reg NRG_CTL) 0 16 (s.arg m 0 2))] : List (Nat × Word)).all (fun w => s.fwMay w.1) = true)) ∧
    (∃ (s : State) (m : Fin 8), Holds s m 0x0404 2 ∧ (([(NRG_CTL, setBits (s.reg NRG_CTL) 0 16 (s.arg m 0 2))] : List (Nat × Word)).all (fun w => s.fwMay w.1) = false)) ∧
    (∃ (s : State) (m : Fin 8) (k i : Nat), k = s.arg m 0 1 ∧ i = s.arg m 1 1 ∧ Holds s m 0x0405 3 ∧ k < 8 ∧ i < 32 ∧ (([(NRG_WATCH k, asWord (i + 256 * b2n (s.arg m 2 1 ≠ 0)))] : List (Nat × Word)).all (fun w => s.fwMay w.1) = true)) ∧
    (∃ (s : State) (m : Fin 8) (k i : Nat), k = s.arg m 0 1 ∧ i = s.arg m 1 1 ∧ Holds s m 0x0405 3 ∧ k < 8 ∧ i < 32 ∧ (([(NRG_WATCH k, asWord (i + 256 * b2n (s.arg m 2 1 ≠ 0)))] : List (Nat × Word)).all (fun w => s.fwMay w.1) = false)) ∧
    (∃ (s : State) (m : Fin 8) (k i : Nat), k = s.arg m 0 1 ∧ i = s.arg m 1 1 ∧ Holds s m 0x0405 3 ∧ (8 ≤ k ∨ 32 ≤ i)) ∧
    (∃ (s : State) (m : Fin 8) (t : Nat), t = s.arg m 0 1 ∧ Holds s m 0x0504 4 ∧ t < 64 ∧ (([(TRC_LIM t, setBits (s.reg (TRC_LIM t)) 0 9 (s.arg m 1 2)), (TRC_FLOOR t, setBits (s.reg (TRC_FLOOR t)) 0 8 (s.arg m 3 1))] : List (Nat × Word)).all (fun w => s.fwMay w.1) = true)) ∧
    (∃ (s : State) (m : Fin 8) (t : Nat), t = s.arg m 0 1 ∧ Holds s m 0x0504 4 ∧ t < 64 ∧ (([(TRC_LIM t, setBits (s.reg (TRC_LIM t)) 0 9 (s.arg m 1 2)), (TRC_FLOOR t, setBits (s.reg (TRC_FLOOR t)) 0 8 (s.arg m 3 1))] : List (Nat × Word)).all (fun w => s.fwMay w.1) = false)) ∧
    (∃ (s : State) (m : Fin 8) (t : Nat), t = s.arg m 0 1 ∧ Holds s m 0x0505 1 ∧ t < 64 ∧ s.loopState t = 0 ∧ s.on fTRC_ENG_FAILOVER = false ∧ s.on fBLK_TRST_BUSY = false ∧ (([(BLK_TRST, asWord (2 ^ 31 + t))] : List (Nat × Word)).all (fun w => s.fwMay w.1) = true)) ∧
    (∃ (s : State) (m : Fin 8) (t : Nat), t = s.arg m 0 1 ∧ Holds s m 0x0505 1 ∧ t < 64 ∧ s.loopState t = 0 ∧ s.on fTRC_ENG_FAILOVER = false ∧ s.on fBLK_TRST_BUSY = false ∧ (([(BLK_TRST, asWord (2 ^ 31 + t))] : List (Nat × Word)).all (fun w => s.fwMay w.1) = false)) ∧
    (∃ (s : State) (m : Fin 8) (t : Nat), t = s.arg m 0 1 ∧ Holds s m 0x0505 1 ∧ t < 64 ∧ s.loopState t ≠ 0 ∧ s.fwMay BLK_TRST = true) :=
  ⟨⟨req (on1) 0 0x0403 [255,255,255,255], 0, by unfold Holds; decide +kernel⟩,
   ⟨req ((on1).setReg CAD_FWPERM 0) 0 0x0403 [255,255,255,255], 0, by unfold Holds; decide +kernel⟩,
   ⟨req (on1) 0 0x0404 [0,0], 0, by unfold Holds; decide +kernel⟩,
   ⟨req ((on1).setReg CAD_FWPERM 0) 0 0x0404 [0,0], 0, by unfold Holds; decide +kernel⟩,
   ⟨req (on1) 0 0x0405 [0,0,0], 0, (req (on1) 0 0x0405 [0,0,0] : State).arg (0 : Fin 8) 0 1, (req (on1) 0 0x0405 [0,0,0] : State).arg (0 : Fin 8) 1 1, by unfold Holds; decide +kernel⟩,
   ⟨req ((on1).setReg CAD_FWPERM 0) 0 0x0405 [0,0,0], 0, (req ((on1).setReg CAD_FWPERM 0) 0 0x0405 [0,0,0] : State).arg (0 : Fin 8) 0 1, (req ((on1).setReg CAD_FWPERM 0) 0 0x0405 [0,0,0] : State).arg (0 : Fin 8) 1 1, by unfold Holds; decide +kernel⟩,
   ⟨req (on1) 0 0x0405 [8,1,1], 0, (req (on1) 0 0x0405 [8,1,1] : State).arg (0 : Fin 8) 0 1, (req (on1) 0 0x0405 [8,1,1] : State).arg (0 : Fin 8) 1 1, by unfold Holds; decide +kernel⟩,
   ⟨req (on1) 0 0x0504 [0,44,1,5], 0, (req (on1) 0 0x0504 [0,44,1,5] : State).arg (0 : Fin 8) 0 1, by unfold Holds; decide +kernel⟩,
   ⟨req ((on1).setReg CAD_FWPERM 0) 0 0x0504 [0,44,1,5], 0, (req ((on1).setReg CAD_FWPERM 0) 0 0x0504 [0,44,1,5] : State).arg (0 : Fin 8) 0 1, by unfold Holds; decide +kernel⟩,
   ⟨req (loop1) 0 0x0505 [0], 0, (req (loop1) 0 0x0505 [0] : State).arg (0 : Fin 8) 0 1, by unfold Holds; decide +kernel⟩,
   ⟨req ((loop1).setReg CAD_FWPERM 0) 0 0x0505 [0], 0, (req ((loop1).setReg CAD_FWPERM 0) 0 0x0505 [0] : State).arg (0 : Fin 8) 0 1, by unfold Holds; decide +kernel⟩,
   ⟨req (hold0 2 id) 0 0x0505 [0], 0, (req (hold0 2 id) 0 0x0505 [0] : State).arg (0 : Fin 8) 0 1, by unfold Holds; decide +kernel⟩⟩

theorem witness_IbselWrites_3 :
    (∃ (s : State) (m : Fin 8), Holds s m 0x0601 16 ∧ s.on fSO_CTL_EN = false ∧ (([(SO_WIN_BASE, asWord (s.arg m 0 8 / 65536)), (SO_WIN_LIMIT, asWord (s.arg m 8 8 / 65536))] : List (Nat × Word)).all (fun w => s.fwMay w.1) = true)) ∧
    (∃ (s : State) (m : Fin 8), Holds s m 0x0601 16 ∧ s.on fSO_CTL_EN = false ∧ (([(SO_WIN_BASE, asWord (s.arg m 0 8 / 65536)), (SO_WIN_LIMIT, asWord (s.arg m 8 8 / 65536))] : List (Nat × Word)).all (fun w => s.fwMay w.1) = false)) ∧
    (∃ (s : State) (m : Fin 8), Holds s m 0x0602 2 ∧ s.arg m 0 1 = 0 ∧ (([(SO_CTL, bitWord 0 false ||| bitWord 1 (s.arg m 1 1 ≠ 0))] : List (Nat × Word)).all (fun w => s.fwMay w.1) = true)) ∧
    (∃ (s : State) (m : Fin 8), Holds s m 0x0602 2 ∧ s.arg m 0 1 = 0 ∧ (([(SO_CTL, bitWord 0 false ||| bitWord 1 (s.arg m 1 1 ≠ 0))] : List (Nat × Word)).all (fun w => s.fwMay w.1) = false)) ∧
    (∃ (s : State) (m : Fin 8) (t : Nat), t = s.arg m 0 1 ∧ Holds s m 0x0604 8 ∧ t < 64 ∧ (([(SO_TRK_PATH t, asWord (s.arg m 3 2 * 2 ^ 16 + s.arg m 1 2)), (SO_TRK_FF t, asWord (s.arg m 5 2)), (CG_TRK t, setBits (s.reg (CG_TRK t)) 24 8 (s.arg m 7 1))] : List (Nat × Word)).all (fun w => s.fwMay w.1) = true)) ∧
    (∃ (s : State) (m : Fin 8) (t : Nat), t = s.arg m 0 1 ∧ Holds s m 0x0604 8 ∧ t < 64 ∧ (([(SO_TRK_PATH t, asWord (s.arg m 3 2 * 2 ^ 16 + s.arg m 1 2)), (SO_TRK_FF t, asWord (s.arg m 5 2)), (CG_TRK t, setBits (s.reg (CG_TRK t)) 24 8 (s.arg m 7 1))] : List (Nat × Word)).all (fun w => s.fwMay w.1) = false)) ∧
    (∃ (s : State) (m : Fin 8) (t : Nat), t = s.arg m 0 1 ∧ Holds s m 0x0703 1 ∧ t < 64 ∧ (([(THM_SUSP0 + 4 * (t / 32), asWord (2 ^ (t % 32)))] : List (Nat × Word)).all (fun w => s.fwMay w.1) = true)) ∧
    (∃ (s : State) (m : Fin 8) (t : Nat), t = s.arg m 0 1 ∧ Holds s m 0x0703 1 ∧ t < 64 ∧ (([(THM_SUSP0 + 4 * (t / 32), asWord (2 ^ (t % 32)))] : List (Nat × Word)).all (fun w => s.fwMay w.1) = false)) ∧
    (∃ (s : State) (m : Fin 8), Holds s m 0x0803 0 ∧ (([(FLT_PIN, 0)] : List (Nat × Word)).all (fun w => s.fwMay w.1) = true)) ∧
    (∃ (s : State) (m : Fin 8), Holds s m 0x0803 0 ∧ (([(FLT_PIN, 0)] : List (Nat × Word)).all (fun w => s.fwMay w.1) = false)) ∧
    (∃ (s : State) (m : Fin 8) (k i : Nat), k = s.arg m 0 1 ∧ i = s.arg m 1 1 ∧ Holds s m 0x0804 3 ∧ k < 22 ∧ bitN (statMask k) i = true ∧ (([(blockBase k + 8, setBits (s.reg (blockBase k + 8)) (2 * i) 2 (s.arg m 2 1))] : List (Nat × Word)).all (fun w => s.fwMay w.1) = true)) ∧
    (∃ (s : State) (m : Fin 8) (k i : Nat), k = s.arg m 0 1 ∧ i = s.arg m 1 1 ∧ Holds s m 0x0804 3 ∧ k < 22 ∧ bitN (statMask k) i = true ∧ (([(blockBase k + 8, setBits (s.reg (blockBase k + 8)) (2 * i) 2 (s.arg m 2 1))] : List (Nat × Word)).all (fun w => s.fwMay w.1) = false)) :=
  ⟨⟨req (on1) 0 0x0601 [0,0,1,0,0,0,0,0,0,0,32,0,0,0,0,0], 0, by unfold Holds; decide +kernel⟩,
   ⟨req ((on1).setReg CAD_FWPERM 0) 0 0x0601 [0,0,1,0,0,0,0,0,0,0,32,0,0,0,0,0], 0, by unfold Holds; decide +kernel⟩,
   ⟨req (soOn) 0 0x0602 [0,0], 0, by unfold Holds; decide +kernel⟩,
   ⟨req ((soOn).setReg CAD_FWPERM 0) 0 0x0602 [0,0], 0, by unfold Holds; decide +kernel⟩,
   ⟨req (on1) 0 0x0604 [0,5,0,6,0,7,0,8], 0, (req (on1) 0 0x0604 [0,5,0,6,0,7,0,8] : State).arg (0 : Fin 8) 0 1, by unfold Holds; decide +kernel⟩,
   ⟨req ((on1).setReg CAD_FWPERM 0) 0 0x0604 [0,5,0,6,0,7,0,8], 0, (req ((on1).setReg CAD_FWPERM 0) 0 0x0604 [0,5,0,6,0,7,0,8] : State).arg (0 : Fin 8) 0 1, by unfold Holds; decide +kernel⟩,
   ⟨req ((on1.put fTHM_SUSP0_SUSP 0x80000001).put fTHM_SUSP1_SUSP 0x80000000) 0 0x0703 [0], 0, (req ((on1.put fTHM_SUSP0_SUSP 0x80000001).put fTHM_SUSP1_SUSP 0x80000000) 0 0x0703 [0] : State).arg (0 : Fin 8) 0 1, by unfold Holds; decide +kernel⟩,
   ⟨req (((on1.put fTHM_SUSP0_SUSP 0x80000001).put fTHM_SUSP1_SUSP 0x80000000).setReg CAD_FWPERM 0) 0 0x0703 [0], 0, (req (((on1.put fTHM_SUSP0_SUSP 0x80000001).put fTHM_SUSP1_SUSP 0x80000000).setReg CAD_FWPERM 0) 0 0x0703 [0] : State).arg (0 : Fin 8) 0 1, by unfold Holds; decide +kernel⟩,
   ⟨req (on1) 0 0x0803 [], 0, by unfold Holds; decide +kernel⟩,
   ⟨req ((on1).setReg CAD_FWPERM 0) 0 0x0803 [], 0, by unfold Holds; decide +kernel⟩,
   ⟨req (on1) 0 0x0804 [3,8,3], 0, (req (on1) 0 0x0804 [3,8,3] : State).arg (0 : Fin 8) 0 1, (req (on1) 0 0x0804 [3,8,3] : State).arg (0 : Fin 8) 1 1, by unfold Holds; decide +kernel⟩,
   ⟨req ((on1).setReg CAD_FWPERM 0) 0 0x0804 [3,8,3], 0, (req ((on1).setReg CAD_FWPERM 0) 0 0x0804 [3,8,3] : State).arg (0 : Fin 8) 0 1, (req ((on1).setReg CAD_FWPERM 0) 0 0x0804 [3,8,3] : State).arg (0 : Fin 8) 1 1, by unfold Holds; decide +kernel⟩⟩

theorem witness_IbselWrites_4 :
    (∃ (s : State) (m : Fin 8) (k i : Nat), k = s.arg m 0 1 ∧ i = s.arg m 1 1 ∧ Holds s m 0x0804 3 ∧ (22 ≤ k ∨ bitN (statMask k) i = false)) ∧
    (∃ (s : State) (m : Fin 8) (k i : Nat), k = s.arg m 0 1 ∧ i = s.arg m 1 1 ∧ Holds s m 0x0902 6 ∧ k < 2 ∧ i < 48 ∧ (([(ADC_CAL k i, asWord (s.arg m 2 2 * 2 ^ 16 + s.arg m 4 2))] : List (Nat × Word)).all (fun w => s.fwMay w.1) = true)) ∧
    (∃ (s : State) (m : Fin 8) (k i : Nat), k = s.arg m 0 1 ∧ i = s.arg m 1 1 ∧ Holds s m 0x0902 6 ∧ k < 2 ∧ i < 48 ∧ (([(ADC_CAL k i, asWord (s.arg m 2 2 * 2 ^ 16 + s.arg m 4 2))] : List (Nat × Word)).all (fun w => s.fwMay w.1) = false)) ∧
    (∃ (s : State) (m : Fin 8), Holds s m 0x0A02 5 ∧ (([(PST_WAKE, asWord (s.arg m 0 1 % 128)), (PST_WTIMER, asWord (s.arg m 1 4))] : List (Nat × Word)).all (fun w => s.fwMay w.1) = true)) ∧
    (∃ (s : State) (m : Fin 8), Holds s m 0x0A02 5 ∧ (([(PST_WAKE, asWord (s.arg m 0 1 % 128)), (PST_WTIMER, asWord (s.arg m 1 4))] : List (Nat × Word)).all (fun w => s.fwMay w.1) = false)) ∧
    (∃ (s : State) (m : Fin 8) (k i : Nat), k = s.arg m 0 1 ∧ i = s.arg m 1 1 ∧ Holds s m 0x0B03 2 ∧ k < 6 ∧ s.ownerAllowed k (i % 8) = true ∧ (([(MEM_OWNER, setBits (s.reg MEM_OWNER) (3 * k) 3 (i % 8))] : List (Nat × Word)).all (fun w => s.fwMay w.1) = true)) ∧
    (∃ (s : State) (m : Fin 8) (k i : Nat), k = s.arg m 0 1 ∧ i = s.arg m 1 1 ∧ Holds s m 0x0B03 2 ∧ k < 6 ∧ s.ownerAllowed k (i % 8) = true ∧ (([(MEM_OWNER, setBits (s.reg MEM_OWNER) (3 * k) 3 (i % 8))] : List (Nat × Word)).all (fun w => s.fwMay w.1) = false)) ∧
    (∃ (s : State) (m : Fin 8) (k i : Nat), k = s.arg m 0 1 ∧ i = s.arg m 1 1 ∧ Holds s m 0x0B03 2 ∧ k < 6 ∧ i % 8 ≠ s.memOwner k ∧ s.ownerAllowed k (i % 8) = false ∧ s.fwMay MEM_OWNER = true) ∧
    (∃ (s : State) (m : Fin 8), Holds s m 0x0B04 2 ∧ (([(MEM_TEST, asWord (s.arg m 1 1 % 64 * 256 + s.arg m 0 1))] : List (Nat × Word)).all (fun w => s.fwMay w.1) = true)) ∧
    (∃ (s : State) (m : Fin 8), Holds s m 0x0B04 2 ∧ (([(MEM_TEST, asWord (s.arg m 1 1 % 64 * 256 + s.arg m 0 1))] : List (Nat × Word)).all (fun w => s.fwMay w.1) = false)) ∧
    (∃ (s : State) (m : Fin 8), Holds s m 0x0C01 12 ∧ s.isPrincipal = true ∧ s.trv.epochs.length < 4 ∧ s.ts.toNat + 10000 ≤ s.arg m 4 8 ∧ s.arg m 4 8 ≤ s.ts.toNat + 60000000000 ∧ s.fwMay TRV_EPOCH_GO = true) ∧
    (∃ (s : State) (m : Fin 8), Holds s m 0x0C01 12 ∧ s.isPrincipal = false ∧ (([(TRV_EPOCH_GO, 1)] : List (Nat × Word)).all (fun w => s.fwMay w.1) = true)) :=
  ⟨⟨req (on1) 0 0x0804 [22,0,0], 0, (req (on1) 0 0x0804 [22,0,0] : State).arg (0 : Fin 8) 0 1, (req (on1) 0 0x0804 [22,0,0] : State).arg (0 : Fin 8) 1 1, by unfold Holds; decide +kernel⟩,
   ⟨req (on1) 0 0x0902 [0,0,0,64,5,0], 0, (req (on1) 0 0x0902 [0,0,0,64,5,0] : State).arg (0 : Fin 8) 0 1, (req (on1) 0 0x0902 [0,0,0,64,5,0] : State).arg (0 : Fin 8) 1 1, by unfold Holds; decide +kernel⟩,
   ⟨req ((on1).setReg CAD_FWPERM 0) 0 0x0902 [0,0,0,64,5,0], 0, (req ((on1).setReg CAD_FWPERM 0) 0 0x0902 [0,0,0,64,5,0] : State).arg (0 : Fin 8) 0 1, (req ((on1).setReg CAD_FWPERM 0) 0 0x0902 [0,0,0,64,5,0] : State).arg (0 : Fin 8) 1 1, by unfold Holds; decide +kernel⟩,
   ⟨req (on1) 0 0x0A02 [255,77,0,0,0], 0, by unfold Holds; decide +kernel⟩,
   ⟨req ((on1).setReg CAD_FWPERM 0) 0 0x0A02 [255,77,0,0,0], 0, by unfold Holds; decide +kernel⟩,
   ⟨req (on1) 0 0x0B03 [2,1], 0, (req (on1) 0 0x0B03 [2,1] : State).arg (0 : Fin 8) 0 1, (req (on1) 0 0x0B03 [2,1] : State).arg (0 : Fin 8) 1 1, by unfold Holds; decide +kernel⟩,
   ⟨req ((on1).setReg CAD_FWPERM 0) 0 0x0B03 [2,1], 0, (req ((on1).setReg CAD_FWPERM 0) 0 0x0B03 [2,1] : State).arg (0 : Fin 8) 0 1, (req ((on1).setReg CAD_FWPERM 0) 0 0x0B03 [2,1] : State).arg (0 : Fin 8) 1 1, by unfold Holds; decide +kernel⟩,
   ⟨req (on1) 0 0x0B03 [0,5], 0, (req (on1) 0 0x0B03 [0,5] : State).arg (0 : Fin 8) 0 1, (req (on1) 0 0x0B03 [0,5] : State).arg (0 : Fin 8) 1 1, by unfold Holds; decide +kernel⟩,
   ⟨req (on1) 0 0x0B04 [10,63], 0, by unfold Holds; decide +kernel⟩,
   ⟨req ((on1).setReg CAD_FWPERM 0) 0 0x0B04 [10,63], 0, by unfold Holds; decide +kernel⟩,
   ⟨req (prin) 0 0x0C01 [77,0,0,0,96,144,15,0,0,0,0,0], 0, by unfold Holds; decide +kernel⟩,
   ⟨req (ring) 0 0x0C01 [77,0,0,0,96,144,15,0,0,0,0,0], 0, by unfold Holds; decide +kernel⟩⟩

theorem witness_IbselWrites_5 :
    (∃ (s : State) (m : Fin 8), Holds s m 0x0202 4 ∧ s.isPrincipal = false ∧ (([(CAP_PKG, 0)] : List (Nat × Word)).all (fun w => s.fwMay w.1) = true)) ∧
    (∃ (s : State) (m : Fin 8) (d : Nat), d = s.arg m 0 1 ∧ Holds s m 0x0301 1 ∧ d < 32 ∧ s.domState d = 1 ∧ s.mayStart d = true ∧ s.runOrIdle = true ∧ s.shut = false ∧ s.onWaits d = false ∧ (([(DOM_CTL d, 1)] : List (Nat × Word)).all (fun w => s.fwMay w.1) = true)) ∧
    (∃ (s : State) (m : Fin 8) (d : Nat), d = s.arg m 0 1 ∧ Holds s m 0x0301 1 ∧ d < 32 ∧ s.mayStart d = false ∧ s.fwMay (DOM_CTL d) = true) ∧
    (∃ (s : State) (m : Fin 8) (d i : Nat), d = s.arg m 0 1 ∧ i = s.arg m 1 1 ∧ Holds s m 0x0302 2 ∧ (d < 32 ∧ s.domState d = 4 ∧ (s.dom d).phase = .rest ∧ (i ≠ 0 ∨ s.on (fDOM_CFG_RETAIN d) = false)) ∧ (([(DOM_CTL d, 2)] : List (Nat × Word)).all (fun w => s.fwMay w.1) = true)) ∧
    (∃ (s : State) (m : Fin 8) (t i : Nat), t = s.arg m 0 1 ∧ i = s.arg m 1 1 ∧ m ≠ 7 ∧ Holds s m 0x0501 31 ∧ (t < 64 ∧ i < 2 ∧ s.loopState t = 0 ∧ s.shut = false ∧ s.on fTRC_ENG_FAILOVER = false ∧ s.holdsInUse < 8 ∧ (s.domOf t < 32 → s.domState (s.domOf t) ≠ 3 ∧ s.domState (s.domOf t) ≠ 5)) ∧ (([(0x28000 + 64 * t, 0), (TRC_OPEN t, 1)] : List (Nat × Word)).all (fun w => s.fwMay w.1) = true)) ∧
    (∃ (s : State) (m : Fin 8), m ≠ 7 ∧ Holds s m 0x0502 2 ∧ s.arg m 0 2 < 256 ∧ s.mode (s.arg m 0 2) = 7 ∧ s.isOn (s.domOf (s.arg m 0 2 / 4)) = true ∧ (([] : List (Nat × Word)).all (fun w => s.fwMay w.1) = true)) ∧
    (∃ (s : State) (m : Fin 8), m ≠ 7 ∧ Holds s m 0x0502 2 ∧ s.arg m 0 2 < 256 ∧ s.mode (s.arg m 0 2) ≠ 7) ∧
    (∃ (s : State) (m : Fin 8) (k i : Nat), k = s.arg m 0 1 ∧ i = s.arg m 1 1 ∧ Holds s m 0x0901 7 ∧ 1 ≤ k ∧ k < 4 ∧ i < 48 ∧ s.arg m 2 1 = 1 ∧ s.on fADC_STATE_CAL_BUSY = false ∧ s.anySeqBusy = false ∧ (([(ADC_CALTGT, 0), (ADC_CALCMD, 0)] : List (Nat × Word)).all (fun w => s.fwMay w.1) = true)) ∧
    (∃ (s : State) (m : Fin 8) (k : Nat), k = s.arg m 0 1 ∧ m = 0 ∧ Holds s m 0x0A01 1 ∧ s.coreWake.refusesEntry (k % 8) = false ∧ (([(PST_REQ, 0)] : List (Nat × Word)).all (fun w => s.fwMay w.1) = true)) ∧
    (∃ (s : State) (m : Fin 8) (k x : Nat), k = s.arg m 0 1 ∧ x = s.arg m 1 1 % 4 ∧ m = 0 ∧ Holds s m 0x0B02 2 ∧ k < 6 ∧ s.memPower k = 2 ∧ s.mayUnpower k = true ∧ x = 1 ∧ (([(MEM_PWR, 0)] : List (Nat × Word)).all (fun w => s.fwMay w.1) = true)) :=
  ⟨⟨req (ring) 0 0x0202 [1,2,3,4], 0, by unfold Holds; decide +kernel⟩,
   ⟨req (((dom1 1).put (fDOM_VSET_CODE 1) 600)) 0 0x0301 [1], 0, (req (((dom1 1).put (fDOM_VSET_CODE 1) 600)) 0 0x0301 [1] : State).arg (0 : Fin 8) 0 1, by unfold Holds; decide +kernel⟩,
   ⟨req (on1) 0 0x0301 [1], 0, (req (on1) 0 0x0301 [1] : State).arg (0 : Fin 8) 0 1, by unfold Holds; decide +kernel⟩,
   ⟨req (on1) 0 0x0302 [1,1], 0, (req (on1) 0 0x0302 [1,1] : State).arg (0 : Fin 8) 0 1, (req (on1) 0 0x0302 [1,1] : State).arg (0 : Fin 8) 1 1, by unfold Holds; decide +kernel⟩,
   ⟨req (loop1) 0 0x0501 [0,0,1,1,1,1,1,1,1,1,1,1,1,1,1,1,1,1,1,1,1,1,1,1,1,1,1,1,1,1,1], 0, (req (loop1) 0 0x0501 [0,0,1,1,1,1,1,1,1,1,1,1,1,1,1,1,1,1,1,1,1,1,1,1,1,1,1,1,1,1,1] : State).arg (0 : Fin 8) 0 1, (req (loop1) 0 0x0501 [0,0,1,1,1,1,1,1,1,1,1,1,1,1,1,1,1,1,1,1,1,1,1,1,1,1,1,1,1,1,1] : State).arg (0 : Fin 8) 1 1, by unfold Holds; decide +kernel⟩,
   ⟨req (on1.put (fCEL_CSTAT_MODE 3) 7) 0 0x0502 [3,0], 0, by unfold Holds; decide +kernel⟩,
   ⟨req (on1) 0 0x0502 [3,0], 0, by unfold Holds; decide +kernel⟩,
   ⟨req (puts awake [(fADC_STATE_BM_RDY,1)]) 0 0x0901 [1,0,1,0,0,0,0], 0, (req (puts awake [(fADC_STATE_BM_RDY,1)]) 0 0x0901 [1,0,1,0,0,0,0] : State).arg (0 : Fin 8) 0 1, (req (puts awake [(fADC_STATE_BM_RDY,1)]) 0 0x0901 [1,0,1,0,0,0,0] : State).arg (0 : Fin 8) 1 1, by unfold Holds; decide +kernel⟩,
   ⟨req (awake) 0 0x0A01 [2], 0, (req (awake) 0 0x0A01 [2] : State).arg (0 : Fin 8) 0 1, by unfold Holds; decide +kernel⟩,
   ⟨req (on1) 0 0x0B02 [4,1], 0, (req (on1) 0 0x0B02 [4,1] : State).arg (0 : Fin 8) 0 1, (req (on1) 0 0x0B02 [4,1] : State).arg (0 : Fin 8) 1 1 % 4, by unfold Holds; decide +kernel⟩⟩

end Sys2Proof.Tests
end

section
/-!
SUPPORT. The common registers of R648: where they lie, that no limit of a field applies to them, and what a write of one stores.
-/

namespace Sys2Proof.Machine

/-! ### Where the common registers lie -/

/-- The common register that `commonAt` finds at an offset lies at that offset. -/
theorem eq_of_commonAt {off n k : Nat} (h : commonAt off = some (n, k)) : n < 22 ∧ k < 4 ∧ off = blockBase n + 4 * k := by
  unfold commonAt at h
  obtain ⟨m, hm, hf⟩ := List.exists_of_findSome?_eq_some h
  simp only [List.mem_range] at hm
  dsimp only at hf
  split at hf
  · simp only [Option.some.injEq, Prod.mk.injEq] at hf
    obtain ⟨rfl, rfl⟩ := hf
    omega
  · cases hf

/-- The common registers of a block: XXX_STAT, XXX_IEN, XXX_SEV and XXX_BOOK from its base on (R648). -/
theorem commonAt_blockBase : ∀ n < 22, ∀ k < 4, commonAt (blockBase n + 4 * k) = some (n, k) := by decide +kernel

/-- Every block's base is aligned, and its common registers lie below the windows and apart from the coefficient window. -/
theorem blockBase_placed :
    ∀ n < 22, blockBase n % 4 = 0 ∧ blockBase n + 16 ≤ 0x80000 ∧ (blockBase n + 16 ≤ 0x28000 ∨ 0x29000 ≤ blockBase n) := by decide

theorem coefWindow_of_common {off n k : Nat} (h : commonAt off = some (n, k)) : coefWindow off = none := by
  obtain ⟨hn, hk, rfl⟩ := eq_of_commonAt h
  obtain ⟨-, -, hw⟩ := blockBase_placed n hn
  exact if_neg (by omega)

theorem aligned_of_common {off n k : Nat} (h : commonAt off = some (n, k)) : off % 4 = 0 ∧ off < 0x80000 := by
  obtain ⟨hn, hk, rfl⟩ := eq_of_commonAt h
  obtain ⟨h4, hlt, -⟩ := blockBase_placed n hn
  omega

theorem ne_of_common {off o : Nat} {q : Nat × Nat} (h : commonAt off = some q) (ho : commonAt o = none) : o ≠ off := by
  rintro rfl
  simp [h] at ho

/-! ### Limits of fields -/

/-- A limit of a field applies to what is stored in the register at an offset. -/
def limitedAt (off : Nat) : Bool :=
  (clamps1 ++ clamps2).any (fun c => (arrayIx c.base c.stride c.count off).isSome)
    || decide (off ∈ [CEL_LL, IBS_CTL, IBS_LIM, IBS_SHED, CAP_DIE]) || (arrayIx (CAP_CLS 0) 4 3 off).isSome
    || (IBS_COEF 0 ≤ off && off ≤ IBS_COEF 7)

theorem foldl_clamp_of_none (cs : List Clamp) (off : Nat) (v : Word) (h : ∀ c ∈ cs, arrayIx c.base c.stride c.count off = none) :
    cs.foldl (fun w c => c.apply off w) v = v := by
  induction cs with
  | nil => rfl
  | cons c cs ih =>
    have hc : c.apply off v = v := by simp [Clamp.apply, h c (by simp)]
    rw [List.foldl_cons, hc]
    exact ih fun d hd => h d (by simp [hd])

/-- A register that no limit applies to stores the word as it is. -/
theorem limited_of_not_limitedAt (s : State) (off : Nat) (v : Word) (h : limitedAt off = false) : s.limited off v = v := by
  simp only [limitedAt, Bool.or_eq_false_iff] at h
  obtain ⟨⟨⟨hclamp, hpair⟩, hcls⟩, hcoef⟩ := h
  have hfields : limitFields off v = v :=
    foldl_clamp_of_none _ off v fun c hc => by simpa using List.any_eq_false.mp hclamp c hc
  have hpairs : limitPairs (s.get fCAD_IBPH_IMAX) off v = v := by
    simp only [decide_eq_false_iff_not, List.mem_cons, List.not_mem_nil, or_false, not_or] at hpair
    obtain ⟨h1, h2, h3, h4, h5⟩ := hpair
    have hnone : arrayIx (CAP_CLS 0) 4 3 off = none := by simpa using hcls
    rw [limitPairs, if_neg h1, if_neg h2, if_neg h3, if_neg h4, if_neg h5, hnone]
  rw [State.limited, hfields, hpairs, coefForm, hcoef]
  rfl

theorem not_limitedAt_blockBase : ∀ n < 22, ∀ k < 4, limitedAt (blockBase n + 4 * k) = false := by decide +kernel

theorem limited_of_common {off n k : Nat} (h : commonAt off = some (n, k)) (s : State) (v : Word) : s.limited off v = v := by
  obtain ⟨hn, hk, rfl⟩ := eq_of_commonAt h
  exact limited_of_not_limitedAt s _ v (not_limitedAt_blockBase n hn k hk)

/-! ### What a write stores -/

/-- A register none of whose bits takes a write keeps its value, and nothing else changes (R14). -/
theorem storeReg_of_no_access (s : State) (core : Bool) (off : Nat) (v : Word) (h : core = false ∨ (commonAt off).isSome) :
    s.storeReg core off ⟨0, 0, 0, 0⟩ 0 v = s := by
  unfold State.storeReg
  rcases h with rfl | h
  · simp
  · simp [h]

/-- A common register of access RW takes the written value in its writable bits (R648). -/
theorem storeReg_common_rw {off n k : Nat} (h : commonAt off = some (n, k)) (s : State) (core : Bool) (m v : Word) (hm : m ≠ 0) :
    s.storeReg core off ⟨m, 0, 0, 0⟩ m v = (s.hostMark core off m).setReg off ((s.reg off &&& ~~~m) ||| (v &&& m)) := by
  have hclear (x y : Word) : x &&& ~~~(y &&& 0) = x := by
    change x &&& ~~~(y &&& 0#32) = x
    rw [BitVec.and_zero, BitVec.not_zero, BitVec.and_allOnes]
  unfold State.storeReg
  simp only [h, Option.isSome_some, if_true, limited_of_common h, ite_self]
  rw [if_neg (by simpa using hm), hclear]

/-- A common register of access W1C loses the bits that are written 1 (R15, R648). -/
theorem storeReg_common_w1c {off n k : Nat} (h : commonAt off = some (n, k)) (s : State) (core : Bool) (m v : Word) (hm : m ≠ 0) :
    s.storeReg core off ⟨0, 0, m, 0⟩ 0 v = s.setReg off (s.reg off &&& ~~~(v &&& ~~~(s.freshBits off) &&& m)) := by
  have hmark : s.hostMark core off 0 = s := by simp [State.hostMark]
  have hkeep (x : Word) : (x &&& ~~~0) ||| (v &&& 0) = x := by
    change (x &&& ~~~0#32) ||| (v &&& 0#32) = x
    rw [BitVec.not_zero, BitVec.and_allOnes, BitVec.and_zero, BitVec.or_zero]
  have hbits (f : Word) : v &&& ~~~(m &&& f) &&& m = v &&& ~~~f &&& m := by
    ext i hi
    simp only [BitVec.getElem_and, BitVec.getElem_not]
    cases m[i] <;> simp
  unfold State.storeReg
  simp only [h, Option.isSome_some, if_true]
  rw [if_neg (by simpa using hm), hmark, hkeep, hbits]

/-! ### A write through a port -/

/-- A whole-word write command is a write on its port. -/
theorem exec_registerWrite (p : Port) (off : Nat) (v : Word) (s : State) (h : off < 0x80000) :
    exec (.registerWrite p off 0xF#4 v) s = s.portWrite p off v := by
  have hmod : off % 2 ^ 20 = off := Nat.mod_eq_of_lt (by omega)
  change execRegisterWrite p off 0xF#4 v s = _
  rw [execRegisterWrite, hmod]
  rfl

/-- A served write of a common register none of whose bits is of access RWL. -/
theorem exec_write_common {off n k : Nat} (h : commonAt off = some (n, k)) (p : Port) (v : Word) (s : State) (a : Access)
    (ha : accessOf off = some a) (hl : a.rwl = 0) (hs : Served p off s) :
    exec (.registerWrite p off 0xF#4 v) s = .next ((s.storeReg (p = .core) off a a.rw v).okay 0) := by
  obtain ⟨h4, hlt⟩ := aligned_of_common h
  rw [exec_registerWrite p off v s hlt]
  exact portWrite_served s p off v a hs h4 hlt (coefWindow_of_common h) ha hl

theorem accessOf_stat {off n : Nat} (h : commonAt off = some (n, 0)) : accessOf off = some ⟨0, 0, BitVec.ofNat 32 (statMask n), 0⟩ := by
  simp [accessOf, h]

theorem accessOf_ien {off n : Nat} (h : commonAt off = some (n, 1)) : accessOf off = some ⟨BitVec.ofNat 32 (statMask n), 0, 0, 0⟩ := by
  simp [accessOf, h]

theorem accessOf_sev {off n : Nat} (h : commonAt off = some (n, 2)) : accessOf off = some ⟨BitVec.ofNat 32 (sevMask n), 0, 0, 0⟩ := by
  simp [accessOf, h]

theorem accessOf_book {off n : Nat} (h : commonAt off = some (n, 3)) : accessOf off = some ⟨0, 0, 0, 0⟩ := by
  simp [accessOf, h]

/-- Every block has a status bit, and so a severity. -/
theorem masks_ne_zero : ∀ n < 22, BitVec.ofNat 32 (statMask n) ≠ 0 ∧ BitVec.ofNat 32 (sevMask n) ≠ 0 := by decide

/-- XXX_STAT: the bits written 1 go, but for those that hardware has set in the same cycle (R15, R553). -/
theorem exec_write_stat {off n : Nat} (h : commonAt off = some (n, 0)) (p : Port) (v : Word) (s : State) (hs : Served p off s) :
    exec (.registerWrite p off 0xF#4 v) s =
      .next ((s.setReg off (s.reg off &&& ~~~(v &&& ~~~(s.freshBits off) &&& BitVec.ofNat 32 (statMask n)))).okay 0) := by
  obtain ⟨hn, -, -⟩ := eq_of_commonAt h
  rw [exec_write_common h p v s _ (accessOf_stat h) rfl hs, storeReg_common_w1c h _ _ _ _ (masks_ne_zero n hn).1]

/-- A common register whose writable bits are all of access RW takes the written value in them. -/
theorem exec_write_rw {off n k : Nat} (h : commonAt off = some (n, k)) (p : Port) (m v : Word) (s : State) (hm : m ≠ 0)
    (ha : accessOf off = some ⟨m, 0, 0, 0⟩) (hs : Served p off s) :
    exec (.registerWrite p off 0xF#4 v) s =
      .next (((s.hostMark (p = .core) off m).setReg off ((s.reg off &&& ~~~m) ||| (v &&& m))).okay 0) := by
  rw [exec_write_common h p v s _ ha rfl hs, storeReg_common_rw h _ _ _ _ hm]

/-- XXX_BOOK keeps its value, and nothing else changes (R14). -/
theorem exec_write_book {off n : Nat} (h : commonAt off = some (n, 3)) (p : Port) (v : Word) (s : State) (hs : Served p off s) :
    exec (.registerWrite p off 0xF#4 v) s = .next (s.okay 0) := by
  rw [exec_write_common h p v s _ (accessOf_book h) rfl hs, storeReg_of_no_access _ _ _ _ (.inr (by simp [h]))]

end Sys2Proof.Machine
end

section
/-!
SUPPORT. A firmware write of a register at the instant of a host write of it (R651): what host software wrote stands.
-/

namespace Sys2Proof.Machine

/-! ### The state that the host write leaves -/

/-- The state that a host write of RW bits `m` of a common register leaves, `x` being what is stored (`exec_host_write_rw`). -/
def State.hostWrote (s : State) (off : Nat) (m x : Word) : State := ((s.markWrote off m).setReg off x).okay 0

theorem exec_host_write_rw {off n k : Nat} (h : commonAt off = some (n, k)) (m v : Word) (s : State) (hm : m ≠ 0)
    (ha : accessOf off = some ⟨m, 0, 0, 0⟩) (hs : Served .host off s) :
    exec (.registerWrite .host off 0xF#4 v) s = .next (s.hostWrote off m ((s.reg off &&& ~~~m) ||| (v &&& m))) := by
  have hmark : s.hostMark (Port.host = .core) off m = s.markWrote off m := if_neg (by simpa using hm)
  rw [exec_write_rw h .host m v s hm ha hs, hmark]
  rfl

theorem reg_hostWrote (s : State) (off : Nat) (m x : Word) : (s.hostWrote off m x).reg off = x :=
  reg_setReg_same (s.markWrote off m) off x

theorem get_hostWrote {off : Nat} {q : Nat × Nat} (h : commonAt off = some q) (s : State) (m x : Word) (f : Fld)
    (hf : commonAt f.off = none) : (s.hostWrote off m x).get f = s.get f :=
  get_setReg_ne (s.markWrote off m) off x f (ne_of_common h hf)

theorem on_hostWrote {off : Nat} {q : Nat × Nat} (h : commonAt off = some q) (s : State) (m x : Word) (f : Fld)
    (hf : commonAt f.off = none) : (s.hostWrote off m x).on f = s.on f := by
  unfold State.on
  rw [get_hostWrote h s m x f hf]

theorem aon_hostWrote {off : Nat} {q : Nat × Nat} (h : commonAt off = some q) (s : State) (m x : Word) :
    (s.hostWrote off m x).aon = s.aon := get_hostWrote h s m x fPST_STATE_STATE (by decide)

theorem portOpen_hostWrote {off : Nat} {q : Nat × Nat} (h : commonAt off = some q) (s : State) (m x : Word) (core : Bool) :
    (s.hostWrote off m x).portOpen core = s.portOpen core := by
  unfold State.portOpen State.coreAsleep State.asleep
  rw [aon_hostWrote h, on_hostWrote h s m x fBLK_CORE_RUNNING (by decide)]
  rfl

theorem offAnswers_hostWrote {off : Nat} {q : Nat × Nat} (h : commonAt off = some q) (s : State) (m x : Word) (o : Nat) :
    (s.hostWrote off m x).offAnswers o = s.offAnswers o := by
  unfold State.offAnswers
  rw [aon_hostWrote h]
  rfl

theorem fwMay_hostWrote {off : Nat} {q : Nat × Nat} (h : commonAt off = some q) (s : State) (m x : Word) (o : Nat) :
    (s.hostWrote off m x).fwMay o = s.fwMay o := by
  have hreg : (s.hostWrote off m x).reg CAD_FWPERM = s.reg CAD_FWPERM :=
    reg_setReg_ne (s.markWrote off m) off CAD_FWPERM x (ne_of_common h (by decide))
  unfold State.fwMay
  rw [hreg, on_hostWrote h s m x fCAD_FWPERM_COEF (by decide)]

/-! ### The firmware write of the same instant -/

/-- A firmware write that the core port and the cadastre let through, whatever host software writes at the instant (R585, R651). -/
theorem portWrite_core_permitted (s : State) (off : Nat) (v : Word) (a : Access) (ho : s.portOpen true = true)
    (hans : s.offAnswers off = true) (hmay : s.fwMay off = true) (h4 : off % 4 = 0) (hlt : off < 0x80000)
    (hc : coefWindow off = none) (ha : accessOf off = some a) (hl : a.rwl = 0) :
    s.portWrite .core off v = .next ((s.storeReg true off a a.rw (s.firmwareWord true off a v)).okay 0) := by
  have hw : s.writeReg true off v = s.storeReg true off a a.rw (s.firmwareWord true off a v) := by
    unfold State.fwMay at hmay
    unfold State.writeReg
    rw [ha]
    dsimp only
    rcases hb : blockOf off with _ | n
    · simp [hl]
    · have hn : bitN (s.reg CAD_FWPERM).toNat n = true := by simpa [hb, hc] using hmay
      simp [hl, hn]
  unfold State.portWrite State.busWrite
  simp [ho, hans, h4, hc, Nat.not_le.mpr hlt, hw]

/-- Of the bits that host software has just written, a firmware write brings what they hold (R651). -/
theorem firmwareWord_hostWrote (s : State) (off : Nat) (m x w : Word) (hoff : off ≠ BLK_CORE) :
    (s.hostWrote off m x).firmwareWord true off ⟨m, 0, 0, 0⟩ w = (w &&& ~~~m) ||| (x &&& m) := by
  have hnow : (s.hostWrote off m x).cyc.wroteAt = (s.hostWrote off m x).now + 1 := rfl
  have hwrote : tblGet (fun _ => 0) (s.hostWrote off m x).cyc.wrote off &&& (m ||| 0) = m := by
    have hset : tblGet (fun _ => 0) (s.hostWrote off m x).cyc.wrote off = _ ||| m := tblGet_set_same _ _ off _
    rw [hset]
    ext i hi
    simp only [BitVec.getElem_and, BitVec.getElem_or]
    cases m[i] <;> simp
  unfold State.firmwareWord
  rw [if_pos (by simp [hoff, hnow])]
  dsimp only
  rw [hwrote, reg_hostWrote]

/-- A firmware write of a common register at the instant of a host write of it stores what the register holds (R651). -/
theorem exec_core_write_after_host {off n k : Nat} (h : commonAt off = some (n, k)) (s : State) (m x w : Word) (hm : m ≠ 0)
    (ha : accessOf off = some ⟨m, 0, 0, 0⟩) (ho : s.portOpen true = true) (hans : s.offAnswers off = true)
    (hmay : s.fwMay off = true) :
    exec (.registerWrite .core off 0xF#4 w) (s.hostWrote off m x) = .next (((s.hostWrote off m x).setReg off x).okay 0) := by
  obtain ⟨h4, hlt⟩ := aligned_of_common h
  have hword (y : Word) : (x &&& ~~~m) ||| (((y &&& ~~~m) ||| (x &&& m)) &&& m) = x := by
    ext i hi
    simp only [BitVec.getElem_and, BitVec.getElem_or, BitVec.getElem_not]
    cases m[i] <;> simp
  rw [exec_registerWrite _ _ _ _ hlt,
    portWrite_core_permitted _ _ _ _ ((portOpen_hostWrote h s m x true).trans ho) ((offAnswers_hostWrote h s m x off).trans hans)
      ((fwMay_hostWrote h s m x off).trans hmay) h4 hlt (coefWindow_of_common h) ha rfl,
    firmwareWord_hostWrote s off m x w (ne_of_common h (by decide)).symm, storeReg_common_rw h _ _ _ _ hm, reg_hostWrote,
    hword]
  rfl

/-- A host write stands when firmware writes the register at the same instant: the firmware write changes no register (R651). -/
theorem host_write_stands {off n k : Nat} (h : commonAt off = some (n, k)) (m v w : Word) (s : State) (hm : m ≠ 0)
    (ha : accessOf off = some ⟨m, 0, 0, 0⟩) (hs : Served .host off s) (ho : s.portOpen true = true) (hmay : s.fwMay off = true) :
    Runs (.registerWrite .host off 0xF#4 v) s fun s1 =>
    Runs (.registerWrite .core off 0xF#4 w) s1 fun t => t.reg off = s1.reg off ∧
      OnlyRegs { s1 with bus := { slverr := false, data := 0 } } t [] := by
  have ⟨_, hans, _⟩ := hs
  have hsame (x : Word) (o : Nat) : ((s.hostWrote off m x).setReg off x).reg o = (s.hostWrote off m x).reg o := by
    rw [reg_setReg]
    split
    · next e => rw [e, reg_hostWrote]
    · rfl
  exact ⟨_, exec_host_write_rw h m v s hm ha hs, _, exec_core_write_after_host h s m _ w hm ha ho hans hmay, hsame _ off,
    ⟨_, _, rfl⟩, fun o _ => hsame _ o⟩

end Sys2Proof.Machine
end

section
/-!
The statements about writes of the common registers and about writes without effect.
-/

open Sys2Proof Sys2Proof.Machine

/-- Settles O9: each common register stores what its access code lets through, and a host write stands (R15, R648, R651). -/
theorem commonRegisterWrites : Obligations.CommonRegisterWrites := by
  intro p n v s hn
  have hstat := commonAt_blockBase n hn 0 (by decide)
  have hien := commonAt_blockBase n hn 1 (by decide)
  have hsev := commonAt_blockBase n hn 2 (by decide)
  have hbook := commonAt_blockBase n hn 3 (by decide)
  obtain ⟨hmstat, hmsev⟩ := masks_ne_zero n hn
  exact ⟨exec_write_stat hstat p v s, exec_write_rw hien p _ v s hmstat (accessOf_ien hien),
    exec_write_rw hsev p _ v s hmsev (accessOf_sev hsev), exec_write_book hbook p v s,
    fun w => host_write_stands hien _ v w s hmstat (accessOf_ien hien)⟩

/-- Settles O11: with no bit of access RW, RWL, W1C or W1S the store is empty (R14). -/
theorem writeWithoutEffectAnswersOkay : Obligations.WriteWithoutEffectAnswersOkay := by
  intro off v s hlt h4 hs hc ha
  rw [exec_registerWrite .host off v s hlt, portWrite_served s .host off v _ hs h4 hlt hc ha rfl]
  exact congrArg (fun t : State => Host.Outcome.next (t.okay 0)) (storeReg_of_no_access s false off v (.inl rfl))

end

section
/-!
SUPPORT. Accesses that change nothing but their own outcome: refused ones, and those of offsets that hold no register.
-/

namespace Sys2Proof.Machine

/-- An offset of the 1 MB space, as a register access carries it. -/
theorem exec_registerWrite_inSpace (p : Port) (off : Nat) (strb : BitVec 4) (v : Word) (s : State) (h : off < 2 ^ 20) :
    exec (.registerWrite p off strb v) s = .next (s.busWrite (p = .core) off strb v) := by
  change execRegisterWrite p off strb v s = _
  rw [execRegisterWrite, Nat.mod_eq_of_lt h]

theorem exec_captureRead_inSpace (p : Port) (off : Nat) (s : State) (h : off < 2 ^ 20) :
    exec (.captureRead p off) s = .next (s.busRead (p = .core) off) := by
  change execCaptureRead p off s = _
  rw [execCaptureRead, Nat.mod_eq_of_lt h]

/-- A write on an open port ends with SLVERR where the offset does not answer, is unaligned, or the strobe is partial (R55, R60, R61). -/
theorem busWrite_refused (s : State) (core : Bool) (off : Nat) (strb : BitVec 4) (v : Word) (ho : s.portOpen core = true)
    (h : s.offAnswers off = false ∨ off % 4 ≠ 0 ∨ strb ≠ 0xF#4) : s.busWrite core off strb v = s.slverr := by
  have hc : (!s.offAnswers off || decide (off % 4 ≠ 0) || decide (strb ≠ 0xF#4)) = true := by
    simpa only [Bool.or_eq_true, Bool.not_eq_true', decide_eq_true_eq, or_assoc] using h
  unfold State.busWrite
  rw [ho, Bool.not_true, if_neg Bool.false_ne_true, if_pos hc]

/-- A read on an open port ends with SLVERR where the offset does not answer (R60, R61). -/
theorem busRead_refused (s : State) (core : Bool) (off : Nat) (ho : s.portOpen core = true) (h : s.offAnswers off = false) :
    s.busRead core off = s.slverr := by
  unfold State.busRead
  simp [ho, h]

/-- No register, no access codes. -/
theorem accessOf_of_not_register {off : Nat} (h : isRegister off = false) : accessOf off = none := by
  unfold isRegister at h
  simp only [Bool.or_eq_false_iff, Option.isSome_eq_false_iff, Option.isNone_iff_eq_none] at h
  obtain ⟨hcommon, hrow⟩ := h
  simp [accessOf, hcommon, hrow]

/-- An offset that the bus answers without a register behind it: beyond the windows, or below them and assigned to nothing (R56). -/
def Unassigned (off : Nat) : Prop := 0xC0000 ≤ off ∨ (off < 0x80000 ∧ isRegister off = false ∧ coefWindow off = none)

theorem busWrite_unassigned (s : State) (core : Bool) (off : Nat) (v : Word) (ho : s.portOpen core = true)
    (ha : s.offAnswers off = true) (h4 : off % 4 = 0) (h : Unassigned off) : s.busWrite core off 0xF#4 v = s.okay 0 := by
  unfold State.busWrite
  rcases h with hhigh | ⟨hlow, hreg, hcoef⟩
  · have : 0x80000 ≤ off := by omega
    simp [ho, ha, h4, this]
  · simp [ho, ha, h4, Nat.not_le.mpr hlow, hcoef, State.writeReg, accessOf_of_not_register hreg]

theorem busRead_unassigned (s : State) (core : Bool) (off : Nat) (ho : s.portOpen core = true)
    (ha : s.offAnswers off = true) (h4 : off % 4 = 0) (h : Unassigned off) : s.busRead core off = s.okay 0 := by
  unfold State.busRead
  rcases h with hhigh | ⟨hlow, hreg, hcoef⟩
  · simp [ho, ha, h4, hhigh]
  · have : ¬ 0xC0000 ≤ off := by omega
    simp [ho, ha, h4, this, Nat.not_le.mpr hlow, hcoef, hreg]

/-- In Off no offset answers; in Sleep and Deep sleep none from 0x3000 on does (R60, R61). -/
theorem not_offAnswers_asleep (s : State) (off : Nat) (h : s.aon = 4 ∨ ((s.aon = 2 ∨ s.aon = 3) ∧ 0x3000 ≤ off)) :
    s.offAnswers off = false := by
  unfold State.offAnswers
  rcases h with h | ⟨h | h, hoff⟩
  · simp [h]
  · simp [h, hoff]
  · simp [h, hoff]

/-- Every byte of the reset state's memories is 0. -/
theorem memByte_reset (k a : Nat) : memByte (State.reset.memory k) a = 0 := by
  unfold State.memory
  split <;> rfl

end Sys2Proof.Machine
end

section
/-!
The statements about the reset state and about accesses without effect.
-/

open Sys2Proof Sys2Proof.Machine

/-- Settles O5: every table of the reset state is empty, so each register reads its reset value and each byte 0 (R79, R603). -/
theorem resetLeaves : Obligations.ResetLeaves := by
  have hblocks : ∀ n, n < 22 → State.reset.reg (blockBase n) = 0 := by decide +kernel
  have hwf : State.reset.wf := by
    unfold State.wf
    decide
  exact ⟨hwf, rfl, rfl, fun _ => rfl, by decide +kernel, by decide +kernel, by decide +kernel, by decide +kernel, hblocks, memByte_reset⟩

/-- Settles O6: the bus refuses the write before it reaches a register (R55). -/
theorem refusedWritesChangeNothing : Obligations.RefusedWritesChangeNothing := by
  intro p off strb v s hoff ho h
  rw [exec_registerWrite_inSpace p off strb v s hoff, busWrite_refused s _ off strb v ho (.inr h.symm)]
  rfl

/-- Settles O7: no register takes the write, and none gives data to the read (R56). -/
theorem unassignedOffsets : Obligations.UnassignedOffsets := by
  intro p off v s hoff h4 ho ha h
  rw [exec_registerWrite_inSpace p off _ v s hoff, exec_captureRead_inSpace p off s hoff,
    busWrite_unassigned s _ off v ho ha h4 h, busRead_unassigned s _ off ho ha h4 h]
  exact ⟨rfl, rfl⟩

/-- Settles O8: the host port is open, and the offset does not answer (R60, R61). -/
theorem sleepAndOffAccesses : Obligations.SleepAndOffAccesses := by
  intro off strb v s hoff hpor hhost hsleep
  have ho : s.portOpen (Port.host = .core) = true := by simp [State.portOpen, hpor, hhost]
  have ha := not_offAnswers_asleep s off hsleep
  rw [exec_registerWrite_inSpace .host off strb v s hoff, exec_captureRead_inSpace .host off s hoff,
    busWrite_refused s _ off strb v ho (.inl ha), busRead_refused s _ off ho ha]
  exact ⟨rfl, rfl⟩

end

section
/-!
SUPPORT. Pegs less than 10 ns apart, and the start requests that join a tract's pending count (R30, R34).
-/

namespace Sys2Proof.Machine

/-! ### Pegs (R30) -/

/-- A peg less than 10 ns after its sequencer's latest accepted one is dropped and counted (R30). -/
theorem takePeg_of_close (s : State) (q mark a : Nat) (hg : s.gateLive = true) (hl : tblGet (fun _ => 0) s.so.lastPeg q = a + 1)
    (hc : s.now < a + 10) : s.takePeg q mark = (s.addSat fSO_PEG_DROP_COUNT 1, none) := by
  unfold State.takePeg
  simp [hg, hl, hc]

/-- A peg 10 ns after its sequencer's latest accepted one is the latest accepted one itself, whether or not it is acted on (R30, R202, R203). -/
theorem takePeg_of_spaced (s : State) (q mark a : Nat) (hg : s.gateLive = true) (hr : s.runOrIdle = true)
    (hl : tblGet (fun _ => 0) s.so.lastPeg q = a + 1) (hc : s.now = a + 10) :
    s.takePeg q mark =
      if s.on fSO_CTL_EN = false then (pegNoted s q, none)
      else if s.on (fSO_PEGMAP_EN q) = false then ((pegNoted s q).addSat fSO_PEG_DROP_COUNT 1, none)
      else (pegNoted s q, some (pegIndex s q mark)) := by
  have hfar : ¬ s.now < a + 10 := by omega
  have hon (f : Fld) : (pegNoted s q).on f = s.on f := rfl
  unfold State.takePeg
  simp only [hg, hr, hl, Bool.not_true, Bool.false_or, Bool.false_eq_true, if_false, Nat.add_lt_add_iff_right, Nat.add_right_comm a 1 10, hfar,
    decide_false, Bool.and_false, Bool.not_eq_true']
  rfl

theorem exec_announce_dropped (s : State) (q : Fin 16) (mark : Fin 65536) {u : State} (h : s.takePeg q mark = (u, none)) :
    exec (.announce q mark) s = .next u := by
  change execAnnounce q mark s = _
  rw [execAnnounce, h]

theorem exec_arrive_dropped (s : State) (q : Fin 16) (mark : Fin 65536) {u : State} (h : s.takePeg q mark = (u, none)) :
    exec (.arrive q mark) s = .next u := by
  change execArrive q mark s = _
  rw [execArrive, h]

/-! ### Start requests (R34, R248) -/

theorem get_le_top (s : State) (f : Fld) : s.get f ≤ f.top := by
  unfold State.get bitsAt Fld.top
  have := Nat.mod_lt ((s.reg f.off).toNat / 2 ^ f.lo) (Nat.two_pow_pos f.width)
  omega

/-- The state in which `add` start requests have joined the pending count of a tract. -/
def State.joinReqs (s : State) (t add : Nat) : State :=
  let s1 := s.put (fCG_TSTAT_PEND t) (s.get (fCG_TSTAT_PEND t) + add)
  let s2 := if 0 < add then s1.updTract t fun h => { h with reqs := h.reqs ++ [(s.now, add)] } else s1
  if s.get (fCG_TSTAT_PEND t) = 0 && s.quietTract t then s2.putB (fCG_TSTAT_BURST t) true else s2

/-- The requests that the pending count takes up to 255 join it; where some are lost, REQ_OVF tells of them (R34). -/
theorem exec_gateReq (s : State) (t : Fin 64) (n : Fin 8) (hg : s.gateLive = true) (hn : n.val ≠ 0) :
    exec (.gateReq t n) s =
      let add := min n.val (255 - s.get (fCG_TSTAT_PEND t))
      let u := s.joinReqs t add
      .next (if add < n.val then u.raiseD evCG_REQ_OVF t (u.cgWord t) else u) := by
  change execGateReq t n s = _
  have hrun : ¬ (!s.gateLive || decide (n.val = 0)) = true := by simp [hg, hn]
  unfold execGateReq
  dsimp only
  rw [if_neg hrun]
  rfl

theorem exec_gateReq_idle (s : State) (t : Fin 64) (n : Fin 8) (h : s.gateLive = false ∨ n.val = 0) : exec (.gateReq t n) s = .next s := by
  change execGateReq t n s = _
  have hidle : (!s.gateLive || decide (n.val = 0)) = true := by simpa using h
  unfold execGateReq
  dsimp only
  rw [if_pos hidle]

theorem tract_updTract (s : State) (t k : Nat) (f : TractHid → TractHid) :
    (s.updTract t f).tract k = if k = t then f (s.tract t) else s.tract k := tblGet_set _ _ _ _ _

@[simp] theorem tract_putB (s : State) (f : Fld) (b : Bool) (k : Nat) : (s.putB f b).tract k = s.tract k := rfl
@[simp] theorem tract_put (s : State) (f : Fld) (n k : Nat) : (s.put f n).tract k = s.tract k := rfl

@[simp] theorem reg_updTract (s : State) (t o : Nat) (f : TractHid → TractHid) : (s.updTract t f).reg o = s.reg o := rfl
@[simp] theorem get_updTract (s : State) (t : Nat) (f : TractHid → TractHid) (g : Fld) : (s.updTract t f).get g = s.get g := rfl
@[simp] theorem on_updTract (s : State) (t : Nat) (f : TractHid → TractHid) (g : Fld) : (s.updTract t f).on g = s.on g := rfl

section
variable (s : State) (t add : Nat)

theorem joinReqs_eq : ∃ r w, s.joinReqs t add = { s with regs := r, tracts := w } := by
  have hput (u : State) (h : ∃ r w, u = { s with regs := r, tracts := w }) (b : Bool) :
      ∃ r w, u.putB (fCG_TSTAT_BURST t) b = { s with regs := r, tracts := w } := by
    obtain ⟨r, w, rfl⟩ := h
    exact ⟨_, _, rfl⟩
  unfold State.joinReqs
  dsimp only
  split <;> split
  · exact hput _ ⟨_, _, rfl⟩ _
  · exact hput _ ⟨_, _, rfl⟩ _
  · exact ⟨_, _, rfl⟩
  · exact ⟨_, _, rfl⟩

theorem tract_joinReqs_of_none (h : add = 0) (k : Nat) : (s.joinReqs t add).tract k = s.tract k := by
  unfold State.joinReqs
  dsimp only
  rw [if_neg (show ¬ 0 < add by omega)]
  split <;> rfl

theorem tract_joinReqs_same (h : 0 < add) :
    (s.joinReqs t add).tract t = { s.tract t with reqs := (s.tract t).reqs ++ [(s.now, add)] } := by
  unfold State.joinReqs
  dsimp only
  rw [if_pos h]
  split
  · rw [tract_putB, tract_updTract, if_pos rfl, tract_put]
  · rw [tract_updTract, if_pos rfl, tract_put]

theorem tract_joinReqs_ne (k : Nat) (h : k ≠ t) : (s.joinReqs t add).tract k = s.tract k := by
  have hput (b : Bool) (u : State) (hu : u.tract k = s.tract k) : (u.putB (fCG_TSTAT_BURST t) b).tract k = s.tract k := hu
  have hupd (f : TractHid → TractHid) (n : Nat) : ((s.put (fCG_TSTAT_PEND t) n).updTract t f).tract k = s.tract k := by
    rw [tract_updTract, if_neg h, tract_put]
  unfold State.joinReqs
  dsimp only
  split <;> split
  · exact hput _ _ (hupd _ _)
  · rfl
  · exact hupd _ _
  · rfl

theorem sameRegs_joinReqs : SameRegs s (s.joinReqs t add) [CG_TSTAT t] := by
  have hput : SameRegs s (s.put (fCG_TSTAT_PEND t) (s.get (fCG_TSTAT_PEND t) + add)) [CG_TSTAT t] := (SameRegs.refl s _).put _ (by simp)
  unfold State.joinReqs
  dsimp only
  split <;> split
  · exact (hput.ofRegs rfl).putB _ (by simp)
  · exact hput.putB _ (by simp)
  · exact hput.ofRegs rfl
  · exact hput

/-- The fields of CG_TSTAT apart from the two that a start request changes. -/
theorem get_joinReqs (f : Fld) (hoff : f.off = CG_TSTAT t) (hf : f.lo + f.width ≤ 23) : (s.joinReqs t add).get f = s.get f := by
  have hburst (u : State) : (u.putB (fCG_TSTAT_BURST t) true).get f = u.get f := get_putB_apart u _ f true hoff (.inl hf)
  have hpend (n : Nat) : (s.put (fCG_TSTAT_PEND t) n).get f = s.get f :=
    get_put_apart s _ f n hoff (.inl (by change f.lo + f.width ≤ 24; omega))
  unfold State.joinReqs
  simp only [apply_ite (fun u : State => u.get f), hburst, get_updTract, hpend, ite_self]

theorem pend_joinReqs (h : s.get (fCG_TSTAT_PEND t) + add ≤ 255) :
    (s.joinReqs t add).get (fCG_TSTAT_PEND t) = s.get (fCG_TSTAT_PEND t) + add := by
  have hburst (u : State) : (u.putB (fCG_TSTAT_BURST t) true).get (fCG_TSTAT_PEND t) = u.get (fCG_TSTAT_PEND t) :=
    get_putB_apart u _ _ true rfl (.inr (by simp))
  have hpend : (s.put (fCG_TSTAT_PEND t) (s.get (fCG_TSTAT_PEND t) + add)).get (fCG_TSTAT_PEND t) = s.get (fCG_TSTAT_PEND t) + add := by
    rw [get_put _ _ _ (by simp)]
    exact Nat.mod_eq_of_lt (by change _ < 256; omega)
  unfold State.joinReqs
  simp only [apply_ite (fun u : State => u.get (fCG_TSTAT_PEND t)), hburst, get_updTract, hpend, ite_self]

/-- A request to a tract with no request pending makes a burst start once the quiet time has passed (R248). -/
theorem burst_joinReqs : (s.joinReqs t add).on (fCG_TSTAT_BURST t) =
    (s.on (fCG_TSTAT_BURST t) || (s.get (fCG_TSTAT_PEND t) = 0 && s.quietTract t)) := by
  have hburst (u : State) : (u.putB (fCG_TSTAT_BURST t) true).on (fCG_TSTAT_BURST t) = true := on_putB_same u _ true (by simp) rfl
  have hpend (n : Nat) : (s.put (fCG_TSTAT_PEND t) n).on (fCG_TSTAT_BURST t) = s.on (fCG_TSTAT_BURST t) :=
    on_put_apart s _ _ n rfl (.inl (by simp))
  unfold State.joinReqs
  simp only [apply_ite (fun u : State => u.on (fCG_TSTAT_BURST t)), hburst, on_updTract, hpend, ite_self]
  cases (decide (s.get (fCG_TSTAT_PEND t) = 0) && s.quietTract t) <;> simp

end

theorem OnlyEvents.trans {s t u : State} {l m : List Nat} (h : OnlyEvents s t l) (k : OnlyEvents t u m) : OnlyEvents s u (l ++ m) := by
  obtain ⟨hdata, hregs⟩ := h
  obtain ⟨kdata, kregs⟩ := k
  exact ⟨EvOnly.trans hdata kdata, (SameRegs.mono hregs (by simp)).trans (SameRegs.mono kregs (by simp))⟩

theorem OnlyRegs.onlyEvents {s t : State} {l : List Nat} (h : OnlyRegs s t l) : OnlyEvents s t l := by
  obtain ⟨⟨r, c, hdata⟩, hregs⟩ := h
  exact ⟨⟨r, s.book, s.trv, s.pins, c, hdata⟩, hregs⟩

/-- The registers of the event CG_REQ_OVF are none of CG_TSTAT. -/
theorem cgTstat_not_event (t : Fin 64) : CG_TSTAT t ∉ eventRegs 7 := by
  revert t
  decide

end Sys2Proof.Machine
end

section
/-!
The statements about pegs and about start requests.
-/

open Sys2Proof Sys2Proof.Machine

/-- Settles O28: the spacing is judged before SO_CTL.EN, and an accepted peg is noted before it too (R30). -/
theorem pegSpacing : Obligations.PegSpacing := by
  intro s q mark a hg hl
  refine ⟨fun hc => ?_, fun hc hr => ?_⟩
  · have hdrop := takePeg_of_close s q mark a hg hl hc
    exact ⟨exec_announce_dropped s q mark hdrop, exec_arrive_dropped s q mark hdrop⟩
  · have hsame : tblGet (fun _ => 0) (pegNoted s q).so.lastPeg q = s.now + 1 :=
      tblGet_set_same (fun _ => 0) s.so.lastPeg q.val (s.now + 1)
    have hother (r : Nat) (h : r ≠ q.val) :
        tblGet (fun _ => 0) (pegNoted s q).so.lastPeg r = tblGet (fun _ => 0) s.so.lastPeg r :=
      tblGet_set_ne (fun _ => 0) s.so.lastPeg q.val r (s.now + 1) h
    rw [takePeg_of_spaced s q mark a hg hr hl hc]
    by_cases hen : s.on fSO_CTL_EN = false
    · rw [if_pos hen]
      exact ⟨hsame, hother, fun _ => rfl, fun h => by simp [hen] at h⟩
    · rw [if_neg hen]
      by_cases hseq : s.on (fSO_PEGMAP_EN q) = false
      · rw [if_pos hseq]
        exact ⟨hsame, hother, fun h => by simp [hseq] at h, fun _ h => by simp [hseq] at h⟩
      · rw [if_neg hseq]
        exact ⟨hsame, hother, fun _ => rfl, fun _ _ => rfl⟩

/-- Settles O32: what joins the count is what it can take up to 255, and REQ_OVF changes nothing of CG_TSTAT or of a tract (R34). -/
theorem startRequests : Obligations.StartRequests := by
  intro s t n
  refine ⟨fun hg hn => ?_, exec_gateReq_idle s t n⟩
  have hle : s.get (fCG_TSTAT_PEND t) ≤ 255 := get_le_top s (fCG_TSTAT_PEND t)
  obtain ⟨add, hadd⟩ : ∃ add, add = min n.val (255 - s.get (fCG_TSTAT_PEND t)) := ⟨_, rfl⟩
  obtain ⟨u, hu⟩ : ∃ u, u = s.joinReqs t add := ⟨_, rfl⟩
  have hexec := exec_gateReq s t n hg hn
  rw [← hadd] at hexec ⊢
  dsimp only at hexec
  rw [← hu] at hexec
  have hpend : u.get (fCG_TSTAT_PEND t) = min 255 (s.get (fCG_TSTAT_PEND t) + n.val) := by
    rw [hu, pend_joinReqs s t add (by omega)]
    omega
  have hreqs : u.tract t = { s.tract t with reqs := if s.get (fCG_TSTAT_PEND t) = 255 then (s.tract t).reqs
        else (s.tract t).reqs ++ [(s.now, add)] } := by
    by_cases hfull : s.get (fCG_TSTAT_PEND t) = 255
    · rw [hu, tract_joinReqs_of_none s t add (by omega), if_pos hfull]
    · rw [hu, tract_joinReqs_same s t add (by omega), if_neg hfull]
  have hduty : u.get (fCG_TSTAT_DUTY t) = s.get (fCG_TSTAT_DUTY t) := hu ▸ get_joinReqs s t add (fCG_TSTAT_DUTY t) rfl (by simp)
  have hburst := burst_joinReqs s t add
  have hothers := tract_joinReqs_ne s t add
  have hregs := sameRegs_joinReqs s t add
  have hrest := joinReqs_eq s t add
  rw [← hu] at hburst hothers hregs hrest
  obtain ⟨r, w, hrest⟩ := hrest
  have honly : OnlyRegs { s with tracts := u.tracts } u [CG_TSTAT t] := ⟨⟨r, s.cyc, by rw [hrest]⟩, hregs⟩
  by_cases hlost : add < n.val
  · rw [if_pos hlost] at hexec
    have hev := cgTstat_not_event t
    have hraise := onlyEvents_raiseD u evCG_REQ_OVF t (u.cgWord t)
    have htracts : (u.raiseD evCG_REQ_OVF t (u.cgWord t)).tracts = u.tracts := State.raiseD_tracts _ _ _ _
    have htract (k : Nat) : (u.raiseD evCG_REQ_OVF t (u.cgWord t)).tract k = u.tract k := by rw [State.tract, htracts, State.tract]
    refine ⟨_, hexec, ?_, fun _ => stat_raiseD_same _ _ _ _ (by decide), fun h => absurd h (by omega), ?_, ?_, ?_, ?_, fun k hk => ?_⟩
    · rw [get_raiseD _ _ _ _ _ hev, hpend]
    · rw [htracts]
      exact honly.onlyEvents.trans hraise
    · rw [htract, hreqs]
    · rw [get_raiseD _ _ _ _ _ hev, hduty]
    · rw [on_raiseD _ _ _ _ _ hev, hburst]
    · rw [htract, hothers k hk]
  · rw [if_neg hlost] at hexec
    obtain ⟨hdata, -⟩ := honly.onlyEvents
    exact ⟨u, hexec, hpend, fun h => absurd h (by omega), fun _ => honly, ⟨hdata, hregs.mono (by simp)⟩, hreqs, hduty, hburst, hothers⟩

end

section
/-!
SUPPORT. What the movements of domains leave alone: while lclk runs, the clocks, the pauses, the converters, the frames that
wait to leave and the registers of grades stand, whatever domains do (chapters 6 and 9).
-/

namespace Sys2Proof.Machine

/-! ### Frames that wait to leave -/

/-- Every frame that waits on a lane still waits on it. -/
def QueuesGrow (s t : State) : Prop := ∀ k e, e ∈ (s.trv.lane k).txq → e ∈ (t.trv.lane k).txq

theorem QueuesGrow.refl (s : State) : QueuesGrow s s := fun _ _ h => h

theorem QueuesGrow.trans {s t u : State} (h : QueuesGrow s t) (k : QueuesGrow t u) : QueuesGrow s u := fun i e he => k i e (h i e he)

theorem QueuesGrow.of_trv {s t : State} (h : t.trv = s.trv) : QueuesGrow s t := fun _ _ he => by rwa [h]

theorem mem_txInsert (e f : TxEntry) (q : List TxEntry) : f ∈ txInsert e q ↔ f = e ∨ f ∈ q := by
  induction q with
  | nil => simp [txInsert]
  | cons x q ih =>
    unfold txInsert
    split
    · simp
    · simp only [List.mem_cons, ih]
      tauto

/-- A lane after a lane is set: of its two numbers, 0 is the clockwise one. -/
theorem lane_setLane (h : TrvHid) (o k : Nat) (x : LaneHid) :
    (h.setLane o x).lane k = if (k = 0 ↔ o = 0) then x else h.lane k := by
  unfold TrvHid.setLane TrvHid.lane
  by_cases ho : o = 0 <;> by_cases hk : k = 0 <;> simp [ho, hk]

theorem lane_congr (h : TrvHid) {o k : Nat} (hk : k = 0 ↔ o = 0) : h.lane k = h.lane o := by
  unfold TrvHid.lane
  simp only [hk]

theorem queuesGrow_insert (s : State) (o : Nat) (e : TxEntry) :
    QueuesGrow s { s with trv := s.trv.setLane o { s.trv.lane o with txq := txInsert e (s.trv.lane o).txq } } := by
  intro k f hf
  dsimp only
  rw [lane_setLane]
  split
  · next hk =>
    rw [lane_congr s.trv hk] at hf
    exact (mem_txInsert e f _).mpr (.inr hf)
  · exact hf

theorem queuesGrow_enqueue (s : State) (l : Nat) (e : TxEntry) : QueuesGrow s (s.enqueue l e) := by
  unfold State.enqueue
  split
  · exact .refl s
  · exact queuesGrow_insert s _ e

theorem queuesGrow_enqueueOn (s : State) (l : Nat) (w : Word64) (b : Bool) : QueuesGrow s (s.enqueueOn l w b) := by
  unfold State.enqueueOn
  dsimp only
  split
  · exact .refl s
  · exact queuesGrow_insert s _ _

theorem queuesGrow_transmit (s : State) (l : Nat) (w : Word64) : QueuesGrow s (s.transmit l w) := by
  unfold State.transmit
  dsimp only
  split
  · exact (queuesGrow_enqueue s 0 _).trans (queuesGrow_enqueue _ 1 _)
  · exact queuesGrow_enqueueOn s 0 w true
  · exact queuesGrow_enqueueOn s 1 w true
  · exact queuesGrow_enqueue s _ _

theorem queuesGrow_originate (s : State) (l ty body : Nat) : QueuesGrow s (s.originate l ty body) := by
  unfold State.originate
  dsimp only
  split
  · exact fun _ _ h => h
  · exact queuesGrow_transmit s _ _

theorem queuesGrow_broadcastFault (s : State) (e : Ev) (sev : Nat) : QueuesGrow s (s.broadcastFault e sev) := by
  unfold State.broadcastFault
  dsimp only
  split
  · exact queuesGrow_originate s _ _ _
  · exact .refl s

theorem trv_evict (s : State) (b k : Nat) : (s.evict b k).trv = s.trv := by
  unfold State.evict
  dsimp only
  split <;> split <;> rfl

theorem trv_record (s : State) (b : Nat) (w : Bool) (e : Entry) : (s.record b w e).1.trv = s.trv := by
  have hevict (k : Nat) : (if s.get (fBOOK_FILL b) = 8 then s.evict b k else s).trv = s.trv := by
    split
    · exact trv_evict s b k
    · rfl
  unfold State.record
  dsimp only
  split
  · rfl
  · split
    · split <;> rfl
    · generalize (if s.get (fBOOK_FILL b) = 0 then s.get (fBOOK_HEAD b) else (s.get (fBOOK_HEAD b) + 1) % 8) = slot
      split
      · rfl
      · exact hevict slot

theorem queuesGrow_note (s : State) (e : Ev) (i d : Nat) : QueuesGrow s (s.note e i d).1 := by
  have hsent : QueuesGrow s (if s.stat e = true then s.setStat e else (s.setStat e).broadcastFault e (s.sevOf e)) := by
    split
    · exact .of_trv rfl
    · exact (QueuesGrow.of_trv rfl).trans (queuesGrow_broadcastFault (s.setStat e) e _)
  unfold State.note
  exact hsent.trans (.of_trv (trv_record _ _ _ _))

theorem queuesGrow_afterRecord {s : State} {p : State × Recorded} (h : QueuesGrow s p.1) : QueuesGrow s (State.afterRecord p) := by
  unfold State.afterRecord
  split
  · exact h
  · exact h.trans (queuesGrow_note _ _ _ _)
  · have hcount (u : State) : QueuesGrow u (u.addSat (fMEM_MSTAT_UNCORR 4) 1) := .of_trv rfl
    exact ((h.trans (queuesGrow_note _ _ _ _)).trans (hcount _)).trans (queuesGrow_note _ _ _ _)

theorem QueuesGrow.setReg {s t : State} (h : QueuesGrow s t) (o : Nat) (v : Word) : QueuesGrow s (t.setReg o v) := h.trans (.of_trv rfl)

theorem queuesGrow_triggerPin (s : State) (r : Bool) (e : Entry) : QueuesGrow s (s.triggerPin r e) := by
  have hstart : QueuesGrow s { s with
      cyc := { s.cyc with trigAt := s.now + 1 }
      pins := { s.pins with pulseDue := s.now + ceilN (s.get fFLT_CFG_PULSE * s.aon64) 64 } } := .of_trv rfl
  exact (((((hstart.setReg _ _).setReg _ _).setReg _ _).setReg _ _).setReg _ _).setReg _ _

theorem queuesGrow_pinPart (s : State) (r : Bool) (e : Entry) : QueuesGrow s (s.pinPart r e) := by
  have htrigger := queuesGrow_triggerPin s r e
  unfold State.pinPart
  split
  · exact queuesGrow_afterRecord (htrigger.trans (queuesGrow_note _ _ _ _))
  · exact .refl s

theorem queuesGrow_rmwPin (s : State) (r : Recorded) : QueuesGrow s (s.rmwPin r) := by
  unfold State.rmwPin
  split
  · exact queuesGrow_pinPart _ _ _
  · exact .refl s

/-- An event takes no frame from a queue. -/
theorem queuesGrow_raiseD (s : State) (e : Ev) (i d : Nat) : QueuesGrow s (s.raiseD e i d) :=
  ((queuesGrow_afterRecord (queuesGrow_note s e i d)).trans (queuesGrow_pinPart _ _ _)).trans (queuesGrow_rmwPin _ _)

/-! ### The relation -/

/-- The registers that the movements of domains leave alone: DOM_CFG, CAP_CSTATE, CAP_DGRADE, CAD_GRADE and TRV_STATE; and,
where no grade step ends (`g`), DOM_VSET. -/
def heldReg (g : Bool) (o : Nat) : Bool :=
  o = TRV_STATE || (0x40200 ≤ o && o < 0x40280) || (0x58070 ≤ o && o < 0x58180) || (0x78030 ≤ o && o < 0x78040)
    || (g && 0x40380 ≤ o && o < 0x40400)

/-- What stands from one state to another; where no grade step ends (`g`), the grade steps too. -/
structure Held (g : Bool) (s t : State) : Prop where
  clk : t.clk = s.clk
  cg : t.cg = s.cg
  adc : t.adc = s.adc
  queues : QueuesGrow s t
  regs : ∀ o, heldReg g o = true → t.reg o = s.reg o
  shed : g = true → t.get fIBS_STATE_SHED = s.get fIBS_STATE_SHED
  steps : g = true → ∀ d, (t.dom d).step = (s.dom d).step

/-- The same; for what may bring an entry forward (`p`) where lclk runs: with lclk stopped, the entry goes on to stop the clocks. -/
def Keeps (g p : Bool) (s t : State) : Prop := (p = true → s.clk.pll = true) → Held g s t

variable {g p : Bool} {s t u : State}

theorem Keeps.refl (s : State) : Keeps g p s s := fun _ => ⟨rfl, rfl, rfl, .refl s, fun _ _ => rfl, fun _ => rfl, fun _ _ => rfl⟩

theorem Keeps.trans (h : Keeps g p s t) (k : Keeps g p t u) : Keeps g p s u := fun hp => by
  have a := h hp
  have b := k fun h => by rw [a.clk]; exact hp h
  exact ⟨b.clk.trans a.clk, b.cg.trans a.cg, b.adc.trans a.adc, a.queues.trans b.queues, fun o ho => (b.regs o ho).trans (a.regs o ho),
    fun hg => (b.shed hg).trans (a.shed hg), fun hg d => (b.steps hg d).trans (a.steps hg d)⟩

theorem heldReg_of_false {o : Nat} (h : heldReg false o = true) : heldReg true o = true := by
  unfold heldReg at *
  simp only [Bool.false_and, Bool.or_false] at h
  rw [h, Bool.true_or]

/-- A change of what the relation does not speak of. -/
theorem Keeps.data (h : Keeps g p s t) (hr : u.regs = t.regs := by rfl) (hk : u.clk = t.clk := by rfl) (hc : u.cg = t.cg := by rfl)
    (ha : u.adc = t.adc := by rfl) (hv : u.trv = t.trv := by rfl) (hd : u.doms = t.doms := by rfl) : Keeps g p s u := by
  have hreg (o : Nat) : u.reg o = t.reg o := by rw [State.reg, hr, State.reg]
  have hdom (d : Nat) : u.dom d = t.dom d := by rw [State.dom, hd, State.dom]
  exact h.trans fun _ => ⟨hk, hc, ha, .of_trv hv, fun o _ => hreg o, fun _ => by rw [State.get, hreg, State.get], fun _ d => by rw [hdom]⟩

theorem Keeps.setReg (h : Keeps g p s t) {o : Nat} (v : Word) (ho : heldReg g o = false) (hi : o ≠ IBS_STATE) : Keeps g p s (t.setReg o v) := by
  refine h.trans fun _ => ⟨rfl, rfl, rfl, .of_trv rfl, fun x hx => ?_, fun _ => ?_, fun _ _ => rfl⟩
  · exact reg_setReg_ne _ _ _ _ (by rintro rfl; simp [ho] at hx)
  · exact get_setReg_ne _ _ _ _ hi.symm

theorem Keeps.put (h : Keeps g p s t) {f : Fld} (n : Nat) (ho : heldReg g f.off = false) (hi : f.off ≠ IBS_STATE) : Keeps g p s (t.put f n) :=
  h.setReg _ ho hi

theorem Keeps.putI (h : Keeps g p s t) {f : Fld} (n : Int) (ho : heldReg g f.off = false) (hi : f.off ≠ IBS_STATE) : Keeps g p s (t.putI f n) :=
  h.setReg _ ho hi

theorem Keeps.putB (h : Keeps g p s t) {f : Fld} (b : Bool) (ho : heldReg g f.off = false) (hi : f.off ≠ IBS_STATE) : Keeps g p s (t.putB f b) :=
  h.setReg _ ho hi

/-- A change of a domain that leaves its grade step. -/
theorem Keeps.updDom (h : Keeps g p s t) (d : Nat) {f : DomHid → DomHid} (hf : g = true → ∀ x, (f x).step = x.step) : Keeps g p s (t.updDom d f) := by
  refine h.trans fun _ => ⟨rfl, rfl, rfl, .of_trv rfl, fun _ _ => rfl, fun _ => rfl, fun hg k => ?_⟩
  have hdom : (t.updDom d f).dom k = if k = d then f (t.dom d) else t.dom k := tblGet_set _ _ _ _ _
  rw [hdom]
  split
  · next hk => rw [hf hg, hk]
  · rfl

/-- An event of a block keeps what the relation speaks of. -/
def EventHeld (g : Bool) (block : Nat) : Prop := ∀ o ∈ eventRegs block, heldReg g o = false ∧ o ≠ IBS_STATE

theorem eventHeld : ∀ b ∈ [2, 3, 6, 9, 11], ∀ g, EventHeld g b := by
  unfold EventHeld
  decide

theorem Keeps.raiseD (h : Keeps g p s t) {e : Ev} (i d : Nat) (he : e.block ∈ [2, 3, 6, 9, 11]) : Keeps g p s (t.raiseD e i d) := by
  have hev := eventHeld e.block he g
  refine h.trans fun _ => ⟨State.raiseD_clk _ _ _ _, State.raiseD_cg _ _ _ _, State.raiseD_adc _ _ _ _, queuesGrow_raiseD _ _ _ _, fun o ho => ?_,
    fun _ => get_raiseD _ _ _ _ _ fun hm => (hev _ hm).2 rfl, fun _ k => ?_⟩
  · exact reg_raiseD _ _ _ _ _ fun hm => by simp [(hev o hm).1] at ho
  · rw [State.dom, State.raiseD_doms, State.dom]

theorem Keeps.raise (h : Keeps g p s t) {e : Ev} (i : Nat) (he : e.block ∈ [2, 3, 6, 9, 11]) : Keeps g p s (t.raise e i) := h.raiseD _ _ he

theorem Keeps.raiseIf (h : Keeps g p s t) (c : Bool) {e : Ev} (i : Nat) (he : e.block ∈ [2, 3, 6, 9, 11]) : Keeps g p s (t.raiseIf c e i) := by
  unfold State.raiseIf
  split
  · exact h.raise i he
  · exact h

/-- A fold of steps that keep. -/
theorem Keeps.foldl {α : Type} {f : State → α → State} (l : List α) (h : Keeps g p s t) (hf : ∀ u, ∀ a ∈ l, Keeps g p u (f u a)) :
    Keeps g p s (l.foldl f t) := by
  induction l generalizing t with
  | nil => exact h
  | cons a l ih => exact ih (h.trans (hf t a (by simp))) fun u b hb => hf u b (by simp [hb])

end Sys2Proof.Machine
end

section
/-!
SUPPORT. What the movements of domains leave alone, operation by operation: modes and targets of cells, lifts, the IB target
at the entry to Run, and a domain that becomes On, retained or Off.
-/

namespace Sys2Proof.Machine

variable {g p : Bool} {s t u : State}

/-! ### Which registers are moved -/

theorem cell_lt_of_mem_cellsIn {t c : Nat} (ht : t < 64) (h : c ∈ cellsIn t) : c < 256 := by
  simp only [cellsIn, List.mem_cons, List.not_mem_nil, or_false] at h
  omega

theorem tract_lt_of_mem_tractsOf {t d : Nat} (h : t ∈ s.tractsOf d) : t < 64 :=
  List.mem_range.mp (List.mem_filter.mp h).1

theorem cell_lt_of_mem_cellsOf {c d : Nat} (h : c ∈ s.cellsOf d) : c < 256 := by
  obtain ⟨t, ht, hc⟩ := List.mem_flatMap.mp h
  exact cell_lt_of_mem_cellsIn (tract_lt_of_mem_tractsOf ht) hc

/-- A register apart from those that the movements of domains leave alone. -/
theorem heldReg_eq_false {o : Nat} (h : o < 0x40200 ∨ 0x40400 ≤ o) (h1 : o < 0x58070) (h2 : o ≠ IBS_STATE) : heldReg g o = false ∧ o ≠ IBS_STATE := by
  refine ⟨?_, h2⟩
  have htrv : o ≠ TRV_STATE := by unfold TRV_STATE; omega
  cases g <;> simp [heldReg, htrv] <;> omega

theorem moved_celCstat {c : Nat} (h : c < 256) : heldReg g (CEL_CSTAT c) = false ∧ CEL_CSTAT c ≠ IBS_STATE :=
  heldReg_eq_false (.inl (by unfold CEL_CSTAT; omega)) (by unfold CEL_CSTAT; omega) (by unfold CEL_CSTAT IBS_STATE; omega)

theorem moved_domDstat {d : Nat} (h : d < 32) : heldReg g (DOM_DSTAT d) = false ∧ DOM_DSTAT d ≠ IBS_STATE :=
  heldReg_eq_false (.inr (by unfold DOM_DSTAT; omega)) (by unfold DOM_DSTAT; omega) (by unfold DOM_DSTAT IBS_STATE; omega)

theorem moved_soDlift {d : Nat} (h : d < 32) : heldReg g (SO_DLIFT d) = false ∧ SO_DLIFT d ≠ IBS_STATE :=
  heldReg_eq_false (.inl (by unfold SO_DLIFT; omega)) (by unfold SO_DLIFT; omega) (by unfold SO_DLIFT IBS_STATE; omega)

theorem moved_cgTstat {t : Nat} (h : t < 64) : heldReg g (CG_TSTAT t) = false ∧ CG_TSTAT t ≠ IBS_STATE :=
  heldReg_eq_false (.inl (by unfold CG_TSTAT; omega)) (by unfold CG_TSTAT; omega) (by unfold CG_TSTAT IBS_STATE; omega)

theorem moved_trcTstat {t : Nat} (h : t < 64) : heldReg g (TRC_TSTAT t) = false ∧ TRC_TSTAT t ≠ IBS_STATE :=
  heldReg_eq_false (.inl (by unfold TRC_TSTAT; omega)) (by unfold TRC_TSTAT; omega) (by unfold TRC_TSTAT IBS_STATE; omega)

theorem moved_single : ∀ o ∈ [BLK_TRST, PST_STATE, MON_ACTIVE, IBS_TGT], ∀ g, heldReg g o = false ∧ o ≠ IBS_STATE := by decide

theorem Keeps.putMoved (h : Keeps g p s t) {f : Fld} (n : Nat) (ho : heldReg g f.off = false ∧ f.off ≠ IBS_STATE) : Keeps g p s (t.put f n) :=
  h.put n ho.1 ho.2

theorem Keeps.putBMoved (h : Keeps g p s t) {f : Fld} (b : Bool) (ho : heldReg g f.off = false ∧ f.off ≠ IBS_STATE) : Keeps g p s (t.putB f b) :=
  h.putB b ho.1 ho.2

theorem Keeps.ite {c : Prop} [Decidable c] (h : Keeps g p s t) (k : Keeps g p s u) : Keeps g p s (if c then t else u) := by
  split
  · exact h
  · exact k

theorem Keeps.updCell (h : Keeps g p s t) (c : Nat) (f : CellHid → CellHid) : Keeps g p s (t.updCell c f) := h.data

theorem Keeps.updTract (h : Keeps g p s t) (k : Nat) (f : TractHid → TractHid) : Keeps g p s (t.updTract k f) := h.data

theorem Keeps.updIb (h : Keeps g p s t) (f : IbHid → IbHid) : Keeps g p s (t.updIb f) := h.data

/-! ### Cells and loops -/

theorem keeps_setMode (s : State) {c : Nat} (m : Nat) (hc : c < 256) : Keeps g p s (s.setMode c m) := by
  unfold State.setMode
  split
  · exact .refl s
  · exact (Keeps.refl s).putMoved _ (moved_celCstat hc)

theorem keeps_recadence (s : State) (iv c : Nat) : Keeps g p s (s.recadence iv c) := by
  unfold State.recadence
  exact (Keeps.refl s).updCell c _

theorem keeps_aim (s : State) (iv code : Nat) {c : Nat} (hc : c < 256) : Keeps g p s (s.aim iv code c) := by
  unfold State.aim
  dsimp only
  split
  · exact (keeps_recadence s iv c).putMoved _ (moved_celCstat hc)
  · exact (Keeps.refl s).putMoved _ (moved_celCstat hc)

theorem keeps_retarget (s : State) (d : Nat) : Keeps g p s (s.retarget d) := by
  unfold State.retarget
  dsimp only
  split
  · exact (Keeps.refl s).foldl _ fun u c hc => keeps_aim u _ _ (cell_lt_of_mem_cellsOf hc)
  · exact .refl s

theorem keeps_cellsOff (s : State) (d : Nat) : Keeps g p s (s.cellsOff d) := by
  refine (Keeps.refl s).foldl _ fun u c hc => ?_
  have hlt := cell_lt_of_mem_cellsOf hc
  refine Keeps.putBMoved ?_ _ (moved_celCstat hlt)
  split
  · exact .refl u
  · exact keeps_setMode u 0 hlt

theorem keeps_idleLoop (s : State) {t : Nat} (ht : t < 64) : Keeps g p s (s.idleLoop t) := by
  unfold State.idleLoop
  dsimp only
  split
  · exact .refl s
  · refine (Keeps.putMoved ?_ _ (moved_trcTstat ht)).updTract _ _
    split
    · exact (Keeps.refl s).putBMoved _ (moved_single _ (by simp) _)
    · exact .refl s

theorem keeps_idleLoops (s : State) (d : Nat) : Keeps g p s (s.idleLoops d) :=
  (Keeps.refl s).foldl _ fun u _ ht => keeps_idleLoop u (tract_lt_of_mem_tractsOf ht)

theorem keeps_judgePulse (s : State) (t : Nat) : Keeps g p s (s.judgePulse t) := by
  unfold State.judgePulse State.setPulse
  exact (Keeps.refl s).updTract t _

/-! ### Lifts and the states of domains -/

theorem keeps_relift (s : State) {d : Nat} (idx data : Nat) (hd : d < 32) : Keeps g p s (s.relift d idx data) := by
  have hput (m n : Nat) : Keeps g p s ((s.put (fSO_DLIFT_LIFT d) m).put (fSO_DLIFT_INST d) n) :=
    ((Keeps.refl s).putMoved _ (moved_soDlift hd)).putMoved _ (moved_soDlift hd)
  have hclip (m n : Nat) (c : Prop) [Decidable c] : Keeps g p s (if c then
      ((s.put (fSO_DLIFT_LIFT d) m).put (fSO_DLIFT_INST d) n).raiseD evSO_LIFT_CLIP idx data else
      (s.put (fSO_DLIFT_LIFT d) m).put (fSO_DLIFT_INST d) n) :=
    ((hput m n).raiseD (e := evSO_LIFT_CLIP) idx data (by decide)).ite (hput m n)
  unfold State.relift
  dsimp only
  refine Keeps.trans (Keeps.ite ?_ (Keeps.updDom ?_ d (by intros; rfl))) (keeps_retarget _ d)
  · exact hclip _ _ _
  · exact hclip _ _ _

theorem keeps_setDom (s : State) {d : Nat} (st : Nat) (ph : DomPhase) (hd : d < 32) : Keeps g p s (s.setDom d st ph) :=
  ((Keeps.refl s).putMoved _ (moved_domDstat hd)).updDom _ (by intros; rfl)

/-! ### The entry to Run -/

theorem keeps_setAon (s : State) (n : Nat) : Keeps g p s (s.setAon n) := by
  have hput : Keeps g p s (s.put fPST_STATE_STATE n) := (Keeps.refl s).putMoved _ (moved_single _ (by simp) _)
  have hpins : Keeps g p s { s.put fPST_STATE_STATE n with pins := { s.pins with pulseDue := s.pulseEnd n } } := hput.data
  unfold State.setAon
  dsimp only
  exact (hpins.putMoved (f := fMON_ACTIVE_ACT) _ (moved_single _ (by simp) _)).data

theorem keeps_setRef (s : State) (uv : Nat) : Keeps g p s (s.setRef uv) :=
  ((Keeps.refl s).updIb _).putMoved _ (moved_single _ (by simp) _)

theorem keeps_moveRef (s : State) : Keeps g p s s.moveRef := by
  unfold State.moveRef
  dsimp only
  exact ((Keeps.refl s).updIb _).ite (((keeps_setRef s _).updIb _).ite (keeps_setRef s _))

theorem keeps_setIbTarget (s : State) (code : Nat) : Keeps g p s (s.setIbTarget code) := by
  unfold State.setIbTarget
  dsimp only
  exact (((((Keeps.refl s).ite (keeps_moveRef s)).putMoved _ (moved_single _ (by simp) _)).updIb _).raiseIf _ _ (by decide))

theorem keeps_applyVsel (s : State) (v : Nat) : Keeps g p s (s.applyVsel v) := by
  unfold State.applyVsel
  dsimp only
  split
  · exact ((Keeps.refl s).updIb _).trans (keeps_setIbTarget _ _)
  · exact (Keeps.refl s).updIb _

/-- IBS_STATE.DWELL is none of the bits that grades rest on. -/
theorem Keeps.putDwell (h : Keeps g p s t) (b : Bool) : Keeps g p s (t.putB fIBS_STATE_DWELL b) := by
  refine h.trans fun _ => ⟨rfl, rfl, rfl, .of_trv rfl, fun x hx => ?_, fun _ => ?_, fun _ _ => rfl⟩
  · exact reg_putB_ne _ _ _ _ (by rintro rfl; revert hx; cases g <;> decide)
  · exact get_putB_apart _ _ _ _ rfl (by decide)

theorem keeps_changeVsel (s : State) (v : Nat) : Keeps g p s (s.changeVsel v) := by
  have h : Keeps g p s ((s.applyVsel v).putB fIBS_STATE_DWELL false) := (keeps_applyVsel s v).putDwell false
  unfold State.changeVsel
  dsimp only
  split
  · exact h
  · exact h.updIb _

theorem keeps_offerVsel (s : State) : Keeps g p s s.offerVsel := by
  unfold State.offerVsel
  dsimp only
  split
  · exact .refl s
  · exact (keeps_changeVsel s _).ite ((Keeps.refl s).putDwell true)

theorem keeps_enterRun (s : State) : Keeps g p s s.enterRun := by
  have h : Keeps g p s (s.setAon 0).envelopeRestart := (keeps_setAon s 0).data
  exact h.trans (keeps_offerVsel _)

theorem keeps_checkRun (s : State) : Keeps g p s s.checkRun := by
  unfold State.checkRun
  split
  · exact (keeps_enterRun s).data
  · exact .refl s

/-- While lclk runs, an entry whose domains have come to rest only counts the 8 cycles to the stop of the clocks (R53, R297). -/
theorem keeps_checkEntry (s : State) : Keeps g true s s.checkEntry := by
  intro hp
  have hl : s.lclk = true := hp rfl
  refine Keeps.trans ?_ (Keeps.refl _) hp
  unfold State.checkEntry
  dsimp only
  rw [hl, if_pos rfl]
  split
  · exact (Keeps.refl s).data
  · exact .refl s

/-! ### A domain has moved -/

theorem keeps_domMoved (s : State) {d : Nat} (hd : d < 32) : Keeps g true s (s.domMoved d) :=
  ((keeps_relift s _ _ hd).trans (keeps_checkRun _)).trans (keeps_checkEntry _)

theorem keeps_dropDomain (s : State) {d : Nat} (hd : d < 32) : Keeps g true s (s.dropDomain d) := by
  have h := ((keeps_cellsOff (g := g) (p := true) s d).trans (keeps_idleLoops _ d)).trans (keeps_setDom _ 1 .rest hd)
  exact (h.updDom d (by intros; rfl)).trans (keeps_domMoved _ hd)

theorem keeps_forcedEnds (s : State) (ts : List Nat) (h : ∀ t ∈ ts, t < 64) : Keeps g p s (s.forcedEnds ts) := by
  refine (Keeps.refl s).foldl _ fun u t ht => ?_
  split
  · exact (Keeps.refl u).putBMoved _ (moved_cgTstat (h t ht))
  · exact .refl u

theorem keeps_lateLosses (s : State) {d : Nat} (hd : d < 32) : Keeps g true s (s.lateLosses d) := by
  have hclear : Keeps g true s ((s.tractsOf d).foldl (fun s t => s.updTract t fun h => { h with lateLoss := false }) s) :=
    (Keeps.refl s).foldl _ fun u t _ => (Keeps.refl u).updTract t _
  unfold State.lateLosses
  dsimp only
  split
  · exact hclear
  · refine Keeps.raiseIf (Keeps.foldl _ ?_ fun u t _ => (Keeps.refl u).raise _ (by decide)) _ _ (by decide)
    split
    · exact hclear.trans (keeps_dropDomain _ hd)
    · exact hclear

theorem keeps_becomeOn (s : State) {d : Nat} (hd : d < 32) : Keeps g true s (s.becomeOn d) := by
  have hcell (u : State) (c : Nat) (hc : c < 256) : Keeps g true u ((u.putB (fCEL_CSTAT_SS_DONE c) true).updCell c fun h => { h with bars := 0 }) :=
    ((Keeps.refl u).putBMoved _ (moved_celCstat hc)).updCell _ _
  unfold State.becomeOn
  dsimp only
  refine Keeps.trans (Keeps.trans (Keeps.trans (Keeps.foldl _ (keeps_setDom s 4 .rest hd) fun u c hc => ?_) (keeps_forcedEnds _ _ fun t ht => ?_))
    (keeps_domMoved _ hd)) (keeps_lateLosses _ hd)
  · have hlt := cell_lt_of_mem_cellsOf hc
    split
    · exact (hcell u c hlt).trans (keeps_setMode _ _ hlt)
    · exact hcell u c hlt
  · exact tract_lt_of_mem_tractsOf ht

theorem keeps_becomeRetained (s : State) {d : Nat} (hd : d < 32) : Keeps g true s (s.becomeRetained d) := by
  have hkeep : Keeps g true s ((s.tractsOf d).foldl (fun s t =>
      (((cellsIn t).foldl (fun u c => (if u.mode c = 6 then u else u.setMode c (if (s.healthyIn t).head? = some c then 4 else 0)).updCell c
        fun h => { h with rejoin := false, bars := 0 }) s).updTract t fun h => { h with light := true }).judgePulse t) s) := by
    refine (Keeps.refl s).foldl _ fun u t ht => ((Keeps.foldl _ (.refl u) fun w c hc => Keeps.updCell ?_ _ _).updTract _ _).trans (keeps_judgePulse _ t)
    split
    · exact .refl w
    · exact keeps_setMode w _ (cell_lt_of_mem_cellsIn (tract_lt_of_mem_tractsOf ht) hc)
  have hrest := (hkeep.trans (keeps_idleLoops _ d)).trans (keeps_setDom _ 2 .rest hd)
  exact (hrest.updDom d (by intros; rfl)).trans (keeps_domMoved _ hd)

theorem keeps_beginOff (s : State) {d : Nat} (ph : DomPhase) (hd : d < 32) : Keeps g p s (s.beginOff d ph) :=
  ((keeps_setDom s 5 ph hd).trans (keeps_relift _ _ _ hd)).updDom d (by intros; rfl)

theorem keeps_beginRetention (s : State) {d : Nat} (hd : d < 32) : Keeps g true s (s.beginRetention d) := by
  unfold State.beginRetention
  dsimp only
  have h2 : Keeps g true s (((s.beginOff d .slewRet).cellsOf d).foldl (fun s c => s.putB (fCEL_CSTAT_SS_DONE c) false) (s.beginOff d .slewRet)) :=
    Keeps.foldl _ (keeps_beginOff s .slewRet hd) fun u c hc => (Keeps.refl u).putBMoved _ (moved_celCstat (cell_lt_of_mem_cellsOf hc))
  generalize ((s.beginOff d .slewRet).cellsOf d).foldl (fun s c => s.putB (fCEL_CSTAT_SS_DONE c) false) (s.beginOff d .slewRet) = s2 at h2 ⊢
  have h3 : Keeps g true s (s2.aimAll d s2.retSlewNs (s2.get (fDOM_CFG_RET d))) :=
    Keeps.foldl _ h2 fun u c hc => keeps_aim u _ _ (cell_lt_of_mem_cellsOf hc)
  split
  · exact h3.trans (keeps_becomeRetained _ hd)
  · exact h3

theorem keeps_toColumn (s : State) {d : Nat} (hd : d < 32) : Keeps g true s (s.toColumn d) := by
  unfold State.toColumn
  split
  · exact keeps_beginRetention s hd
  · exact .refl s

end Sys2Proof.Machine
end

section
/-!
SUPPORT. What the movements of domains leave alone where a grade step may end: commanded targets, the ends of ramps and slews,
and the switch-on of domains after a wake.
-/

namespace Sys2Proof.Machine

variable {g p : Bool} {s t u : State}

theorem moved_domVset {d : Nat} (h : d < 32) : heldReg false (DOM_VSET d) = false ∧ DOM_VSET d ≠ IBS_STATE := by
  have htrv : DOM_VSET d ≠ TRV_STATE := by unfold DOM_VSET TRV_STATE; omega
  refine ⟨?_, by unfold DOM_VSET IBS_STATE; omega⟩
  simp only [heldReg, htrv, decide_false, Bool.false_or, Bool.false_and, Bool.or_false, Bool.or_eq_false_iff, Bool.and_eq_false_iff,
    decide_eq_false_iff_not]
  unfold DOM_VSET
  omega

/-! ### Commanded targets -/

theorem keeps_setTarget (s : State) {d : Nat} (code : Nat) (hd : d < 32) : Keeps false p s (s.setTarget d code) :=
  (((Keeps.refl s).putMoved _ (moved_domVset hd)).trans (keeps_relift _ _ _ hd)).trans (keeps_retarget _ d)

theorem keeps_commandTarget (s : State) {d : Nat} (code : Nat) (hd : d < 32) : Keeps false p s (s.commandTarget d code) := by
  have hrefused (i x : Nat) : Keeps false p s (s.raiseD evCEL_TGT_REFUSED i x) := (Keeps.refl s).raiseD _ _ (by decide)
  unfold State.commandTarget
  dsimp only
  exact (keeps_setTarget s code hd).ite ((hrefused _ _).ite ((hrefused _ _).raiseD _ _ (by decide)))

theorem keeps_gradeTarget (s : State) {d : Nat} (k : Nat) (hd : d < 32) : Keeps false p s (s.gradeTarget d k) :=
  (Keeps.refl s).ite (keeps_commandTarget s _ hd)

/-- A change of a domain, its grade step among it. -/
theorem Keeps.updStep (h : Keeps false p s t) (d : Nat) (f : DomHid → DomHid) : Keeps false p s (t.updDom d f) :=
  h.updDom d fun hg => absurd hg (by decide)

theorem keeps_abandonRaise (s : State) {d : Nat} (hd : d < 32) : Keeps false p s (s.abandonRaise d) := by
  unfold State.abandonRaise
  split
  · exact .refl s
  · exact ((keeps_gradeTarget s _ hd).updStep d _).ite (.refl s)

theorem keeps_requestRaise (s : State) {d : Nat} (hd : d < 32) : Keeps false p s (s.requestRaise d) := by
  unfold State.requestRaise
  dsimp only
  split
  · exact keeps_abandonRaise s hd
  · exact ((keeps_abandonRaise s hd).updStep d _).ite (keeps_abandonRaise s hd)

theorem keeps_afterStep (s : State) {d : Nat} (hd : d < 32) : Keeps false true s (s.afterStep d) := by
  have hon : Keeps false true s (((s.becomeOn d).requestRaise d).toColumn d) :=
    ((keeps_becomeOn s hd).trans (keeps_requestRaise _ hd)).trans (keeps_toColumn _ hd)
  unfold State.afterStep
  dsimp only
  refine (Keeps.refl s).ite ?_
  split
  · exact (Keeps.refl s).ite hon
  · exact hon
  · exact keeps_becomeRetained s hd
  · exact keeps_dropDomain s hd
  · exact keeps_requestRaise s hd
  · exact .refl s

/-! ### Switching on -/

theorem moved_trcUout {t : Nat} (h : t < 64) : heldReg g (TRC_UOUT t) = false ∧ TRC_UOUT t ≠ IBS_STATE :=
  heldReg_eq_false (.inl (by unfold TRC_UOUT; omega)) (by unfold TRC_UOUT; omega) (by unfold TRC_UOUT IBS_STATE; omega)

theorem keeps_seedStart (s : State) {t : Nat} (code : Nat) (ht : t < 64) : Keeps g p s (s.seedStart t code) := by
  obtain ⟨hmoved, hne⟩ := moved_trcUout (g := g) ht
  unfold State.seedStart
  exact ((Keeps.refl s).putI _ hmoved hne).updTract t _

theorem keeps_closeLoop (s : State) {t : Nat} (set : Nat) (ht : t < 64) : Keeps g p s (s.closeLoop t set) := by
  have hput : Keeps g p s (((s.put (fTRC_TSTAT_STATE t) 0).put (fTRC_TSTAT_SET t) set).put (fTRC_TSTAT_RATE t) set) :=
    (((Keeps.refl s).putMoved _ (moved_trcTstat ht)).putMoved _ (moved_trcTstat ht)).putMoved _ (moved_trcTstat ht)
  unfold State.closeLoop
  dsimp only
  exact (hput.updTract t _).foldl _ fun u c _ => keeps_recadence u _ c

theorem keeps_beginRamp (s : State) (d : Nat) (ph : DomPhase) : Keeps g p s (s.beginRamp d ph) := by
  have hcells : Keeps g p s ((s.cellsOf d).foldl (fun s c =>
      s.updCell c fun h => { h with rampFrom := s.get (fCEL_CSTAT_PRESENT c), rampSteps := 0 }) s) :=
    (Keeps.refl s).foldl _ fun u c _ => (Keeps.refl u).updCell c _
  unfold State.beginRamp
  exact Keeps.updDom hcells d (by intros; rfl)

theorem keeps_holdStart (s : State) (d : Nat) : Keeps g p s (s.holdStart d) :=
  (Keeps.refl s).foldl _ fun u _ hc => (Keeps.refl u).putMoved _ (moved_celCstat (cell_lt_of_mem_cellsOf hc))

theorem keeps_reverseStop (s : State) {d : Nat} (hd : d < 32) : Keeps false true s (s.reverseStop d) := by
  unfold State.reverseStop
  dsimp only
  refine Keeps.trans (Keeps.trans (Keeps.trans (Keeps.foldl _ (Keeps.foldl _ (keeps_setDom s 3 .startRamp hd) ?_) ?_)
    (keeps_retarget _ d)) (keeps_beginRamp _ d _)) (keeps_afterStep _ hd)
  · intro u c hc
    exact (keeps_setMode u 1 (cell_lt_of_mem_cellsOf hc)).ite (.refl u)
  · intro u k hk
    have hlt := tract_lt_of_mem_tractsOf hk
    exact ((keeps_seedStart u _ hlt).trans (keeps_closeLoop _ _ hlt)).ite (.refl u)

theorem keeps_switchOn (s : State) {d : Nat} (hd : d < 32) : Keeps false true s (s.switchOn d) := by
  have hbars (u : State) : Keeps false true u ((u.cellsOf d).foldl (fun s c => s.updCell c fun h => { h with bars := if s.mode c = 4 then 0 else 3 }) u) :=
    (Keeps.refl u).foldl _ fun w c _ => (Keeps.refl w).updCell c _
  unfold State.switchOn
  dsimp only
  split
  · exact ((hbars s).trans (keeps_setDom _ 3 .stagesRet hd)).updStep d _
  · refine Keeps.ite (Keeps.ite ?_ ?_) ((keeps_reverseStop s hd).updStep d _)
    · exact ((keeps_setDom s 3 .stagesRet hd).updStep d _).trans (keeps_retarget _ d)
    · exact ((keeps_setDom s 3 .slewUp hd).trans (keeps_retarget _ d)).trans (keeps_afterStep _ hd)
  · exact (((keeps_holdStart s d).trans (hbars _)).trans (keeps_setDom _ 3 .stagesOff hd)).updStep d _

theorem keeps_resumeDomains (s : State) : Keeps false true s s.resumeDomains := by
  unfold State.resumeDomains
  dsimp only
  refine (Keeps.refl s).foldl _ fun u d hd => ?_
  refine (Keeps.refl u).ite (Keeps.ite (Keeps.foldl _ (Keeps.foldl _ (.refl u) ?_) ?_) ((keeps_switchOn u (List.mem_range.mp hd)).ite (.refl u)))
  · intro w k hk
    have hlt := tract_lt_of_mem_tractsOf hk
    exact ((keeps_seedStart w _ hlt).trans (keeps_closeLoop _ _ hlt)).ite (.refl w)
  · intro w c hc
    exact (keeps_setMode w _ (cell_lt_of_mem_cellsOf hc)).ite (.refl w)

end Sys2Proof.Machine
end

section
/-!
SUPPORT. What a commanded target changes: the lift in force and the targets of the domain's cells, and nothing beside (R229, R230).
-/

namespace Sys2Proof.Machine

variable {l : List Nat} {s t u : State}

/-- The registers of lifts and of cells' targets, with others. -/
def liftRegs (l : List Nat) : List Nat :=
  l ++ (upTo 32).map SO_DLIFT ++ (upTo 256).map CEL_CSTAT ++ (upTo 64).map SO_TRK_STAT ++ eventRegs 6

/-- A change of the history of domains and cells, and of what events touch; of registers only those of lifts and targets, and
those listed; the phase of each domain stands. -/
structure Lifted (l : List Nat) (s t : State) : Prop where
  data : ∃ ce dm r b v p c, t = { s with cells := ce, doms := dm, regs := r, book := b, trv := v, pins := p, cyc := c }
  regs : SameRegs s t (liftRegs l)
  phases : ∀ d, (t.dom d).phase = (s.dom d).phase

theorem Lifted.liftOnly (h : Lifted l s t) : LiftOnly s t l := by
  obtain ⟨⟨ce, dm, r, b, v, p, c, rfl⟩, hregs, -⟩ := h
  exact ⟨⟨r, b, v, p, c, rfl⟩, hregs⟩

theorem Lifted.refl (l : List Nat) (s : State) : Lifted l s s :=
  ⟨⟨s.cells, s.doms, s.regs, s.book, s.trv, s.pins, s.cyc, rfl⟩, .refl s _, fun _ => rfl⟩

theorem Lifted.trans (h : Lifted l s t) (k : Lifted l t u) : Lifted l s u := by
  refine ⟨?_, h.regs.trans k.regs, fun d => (k.phases d).trans (h.phases d)⟩
  obtain ⟨ce, dm, r, b, v, p, c, ht⟩ := h.data
  obtain ⟨ce', dm', r', b', v', p', c', hu⟩ := k.data
  exact ⟨ce', dm', r', b', v', p', c', by rw [hu, ht]⟩

theorem Lifted.put (h : Lifted l s t) {f : Fld} (n : Nat) (hf : f.off ∈ liftRegs l) : Lifted l s (t.put f n) :=
  h.trans ⟨⟨_, _, _, _, _, _, _, rfl⟩, (SameRegs.refl t _).put n hf, fun _ => rfl⟩

theorem Lifted.updCell (h : Lifted l s t) (c : Nat) (f : CellHid → CellHid) : Lifted l s (t.updCell c f) :=
  h.trans ⟨⟨_, _, _, _, _, _, _, rfl⟩, (SameRegs.refl t _).ofRegs rfl, fun _ => rfl⟩

theorem dom_updDom (s : State) (d k : Nat) (f : DomHid → DomHid) : (s.updDom d f).dom k = if k = d then f (s.dom d) else s.dom k :=
  tblGet_set _ _ _ _ _

theorem dom_updDom_same (s : State) (d : Nat) (f : DomHid → DomHid) : (s.updDom d f).dom d = f (s.dom d) := by
  rw [dom_updDom, if_pos rfl]

theorem dom_updDom_ne (s : State) {d k : Nat} (f : DomHid → DomHid) (h : k ≠ d) : (s.updDom d f).dom k = s.dom k := by
  rw [dom_updDom, if_neg h]

theorem Lifted.updDom (h : Lifted l s t) (d : Nat) {f : DomHid → DomHid} (hf : ∀ x, (f x).phase = x.phase) : Lifted l s (t.updDom d f) := by
  refine h.trans ⟨⟨_, _, _, _, _, _, _, rfl⟩, (SameRegs.refl t _).ofRegs rfl, fun k => ?_⟩
  rw [dom_updDom]
  split
  · next hk => rw [hf, hk]
  · rfl

theorem Lifted.raiseD (h : Lifted l s t) {e : Ev} (i d : Nat) (he : e.block = 6) : Lifted l s (t.raiseD e i d) := by
  obtain ⟨r, b, v, p, c, ht⟩ := evOnly_raiseD t e i d
  refine h.trans ⟨⟨t.cells, t.doms, r, b, v, p, c, ht⟩, (he ▸ sameRegs_raiseD t e i d).mono fun x hx => by
    simp only [liftRegs, List.mem_append, hx, or_true], fun k => ?_⟩
  rw [State.dom, State.raiseD_doms, State.dom]

theorem Lifted.ite {c : Prop} [Decidable c] (h : Lifted l s t) (k : Lifted l s u) : Lifted l s (if c then t else u) := by
  split
  · exact h
  · exact k

theorem mem_liftRegs_celCstat {c : Nat} (hc : c < 256) : CEL_CSTAT c ∈ liftRegs l := by
  have : CEL_CSTAT c ∈ (upTo 256).map CEL_CSTAT := List.mem_map_of_mem (List.mem_range.mpr hc)
  simp only [liftRegs, List.mem_append, this, true_or, or_true]

theorem mem_liftRegs_soDlift {d : Nat} (hd : d < 32) : SO_DLIFT d ∈ liftRegs l := by
  have : SO_DLIFT d ∈ (upTo 32).map SO_DLIFT := List.mem_map_of_mem (List.mem_range.mpr hd)
  simp only [liftRegs, List.mem_append, this, true_or, or_true]

theorem lifted_aim (s : State) (iv code : Nat) {c : Nat} (hc : c < 256) : Lifted l s (s.aim iv code c) := by
  have hcad : Lifted l s (s.recadence iv c) := by
    unfold State.recadence
    exact (Lifted.refl l s).updCell c _
  unfold State.aim
  exact (hcad.ite (.refl l s)).put code (mem_liftRegs_celCstat hc)

theorem lifted_retarget (s : State) (d : Nat) : Lifted l s (s.retarget d) := by
  have hfold (cs : List Nat) (hcs : ∀ c ∈ cs, c < 256) (iv : Nat) (u : State) (hu : Lifted l s u) :
      Lifted l s (cs.foldl (fun s c => s.aim iv (s.get (fDOM_VSET_CODE d) + s.get (fSO_DLIFT_LIFT d)) c) u) := by
    induction cs generalizing u with
    | nil => exact hu
    | cons c cs ih => exact ih (fun k hk => hcs k (by simp [hk])) _ (hu.trans (lifted_aim u _ _ (hcs c (by simp))))
  unfold State.retarget
  dsimp only
  exact (hfold _ (fun c hc => cell_lt_of_mem_cellsOf hc) _ s (.refl l s)).ite (.refl l s)

theorem lifted_relift (s : State) {d : Nat} (idx data : Nat) (hd : d < 32) : Lifted l s (s.relift d idx data) := by
  have hput (m n : Nat) : Lifted l s ((s.put (fSO_DLIFT_LIFT d) m).put (fSO_DLIFT_INST d) n) :=
    ((Lifted.refl l s).put m (mem_liftRegs_soDlift hd)).put n (mem_liftRegs_soDlift hd)
  have hclip (m n : Nat) (c : Prop) [Decidable c] : Lifted l s (if c then
      ((s.put (fSO_DLIFT_LIFT d) m).put (fSO_DLIFT_INST d) n).raiseD evSO_LIFT_CLIP idx data else
      (s.put (fSO_DLIFT_LIFT d) m).put (fSO_DLIFT_INST d) n) :=
    ((hput m n).raiseD (e := evSO_LIFT_CLIP) idx data rfl).ite (hput m n)
  unfold State.relift
  dsimp only
  refine Lifted.trans (Lifted.ite ?_ (Lifted.updDom ?_ d (by intros; rfl))) (lifted_retarget _ d)
  · exact hclip _ _ _
  · exact hclip _ _ _

theorem lifted_setTarget (s : State) {d : Nat} (code : Nat) (hd : d < 32) (hl : DOM_VSET d ∈ l) : Lifted l s (s.setTarget d code) := by
  have hmem : DOM_VSET d ∈ liftRegs l := by simp only [liftRegs, List.mem_append, hl, true_or]
  exact (((Lifted.refl l s).put (f := fDOM_VSET_CODE d) code hmem).trans (lifted_relift _ _ _ hd)).trans (lifted_retarget _ d)

end Sys2Proof.Machine
end

section
/-!
SUPPORT. Grade steps: what the effective grade rests on, the voltage that a step commands, and that a step stands through the
movements of its domain (R427-R433).
-/

namespace Sys2Proof.Machine

variable {s t u : State} {d : Nat}

/-! ### What grades rest on -/

theorem held_domCfg (g : Bool) (hd : d < 32) : heldReg g (DOM_CFG d) = true := by
  have h1 : 0x40200 ≤ DOM_CFG d := by unfold DOM_CFG; omega
  have h2 : DOM_CFG d < 0x40280 := by unfold DOM_CFG; omega
  simp [heldReg, h1, h2]

theorem held_dgrade (g : Bool) (hd : d < 32) : heldReg g (CAP_DGRADE d) = true := by
  have h1 : 0x58070 ≤ CAP_DGRADE d := by unfold CAP_DGRADE; omega
  have h2 : CAP_DGRADE d < 0x58180 := by unfold CAP_DGRADE; omega
  simp [heldReg, h1, h2]

theorem held_cstate (g : Bool) {k : Nat} (hk : k < 3) : heldReg g (CAP_CSTATE k) = true := by
  have h1 : 0x58070 ≤ CAP_CSTATE k := by unfold CAP_CSTATE; omega
  have h2 : CAP_CSTATE k < 0x58180 := by unfold CAP_CSTATE; omega
  simp [heldReg, h1, h2]

theorem held_cadGrade (g : Bool) (hd : d < 32) : heldReg g (CAD_GRADE (d / 8)) = true := by
  have h1 : 0x78030 ≤ CAD_GRADE (d / 8) := by unfold CAD_GRADE; omega
  have h2 : CAD_GRADE (d / 8) < 0x78040 := by unfold CAD_GRADE; omega
  simp [heldReg, h1, h2]

theorem held_domVset (hd : d < 32) : heldReg true (DOM_VSET d) = true := by
  have h1 : 0x40380 ≤ DOM_VSET d := by unfold DOM_VSET; omega
  have h2 : DOM_VSET d < 0x40400 := by unfold DOM_VSET; omega
  simp [heldReg, h1, h2]

theorem get_of_reg (f : Fld) (h : t.reg f.off = s.reg f.off) : t.get f = s.get f := by rw [State.get, h, State.get]

theorem on_of_reg (f : Fld) (h : t.reg f.off = s.reg f.off) : t.on f = s.on f := by rw [State.on, get_of_reg f h, State.on]

/-- The effective grade rests on DOM_CFG, CAP_DGRADE, CAP_CSTATE, CAD_GRADE and IBS_STATE.SHED (R428, R446). -/
theorem effGrade_congr (hd : d < 32) (hr : ∀ o, heldReg false o = true → t.reg o = s.reg o)
    (hshed : t.get fIBS_STATE_SHED = s.get fIBS_STATE_SHED) : t.effGrade d = s.effGrade d := by
  have hclass : t.classOf d = s.classOf d := by
    rw [State.classOf, State.classOf, get_of_reg _ (hr _ (held_domCfg false hd))]
  have hdg := hr _ (held_dgrade false hd)
  have hmax : t.gradeMax d = s.gradeMax d := by rw [State.gradeMax, hr _ (held_cadGrade false hd), State.gradeMax]
  have hceil : (if s.classOf d < 3 then t.get (fCAP_CSTATE_CEIL (s.classOf d)) else 15) =
      if s.classOf d < 3 then s.get (fCAP_CSTATE_CEIL (s.classOf d)) else 15 := by
    split
    · next hk => exact get_of_reg _ (hr _ (held_cstate false hk))
    · rfl
  have hshedOn : t.on fIBS_STATE_SHED = s.on fIBS_STATE_SHED := by rw [State.on, hshed, State.on]
  unfold State.effGrade
  dsimp only
  rw [hclass, hmax, hceil, hshedOn, on_of_reg (fCAP_DGRADE_FAULT d) hdg, get_of_reg (fCAP_DGRADE_NOW d) hdg, get_of_reg (fCAP_DGRADE_REQ d) hdg]

/-! ### A step that stands -/

/-- A grade step, whether or not it has been asked for. -/
def GradeStep.unsent (g : GradeStep) : GradeStep := { g with sentAt := none }

/-- A domain's commanded target, grades and grade step stand; the step may have been asked for. -/
structure StepStands (d : Nat) (s t : State) : Prop where
  vset : t.get (fDOM_VSET_CODE d) = s.get (fDOM_VSET_CODE d)
  now : t.get (fCAP_DGRADE_NOW d) = s.get (fCAP_DGRADE_NOW d)
  eff : t.effGrade d = s.effGrade d
  step : (t.dom d).step.map GradeStep.unsent = (s.dom d).step.map GradeStep.unsent

theorem StepStands.refl (d : Nat) (s : State) : StepStands d s s := ⟨rfl, rfl, rfl, rfl⟩

theorem StepStands.trans (h : StepStands d s t) (k : StepStands d t u) : StepStands d s u :=
  ⟨k.vset.trans h.vset, k.now.trans h.now, k.eff.trans h.eff, k.step.trans h.step⟩

theorem Held.stepStands (hd : d < 32) (h : Held true s t) : StepStands d s t :=
  ⟨get_of_reg _ (h.regs _ (held_domVset hd)), get_of_reg _ (h.regs _ (held_dgrade true hd)),
    effGrade_congr hd (fun o ho => h.regs o (heldReg_of_false ho)) (h.shed rfl), by rw [h.steps rfl d]⟩

/-- The effective grade has not changed since a domain's step began, if it has one (R432). -/
def EffStands (s : State) (d : Nat) : Prop := ∀ g, (s.dom d).step = some g → g.eff = s.effGrade d

theorem EffStands.of_step_none (h : (s.dom d).step = none) : EffStands s d := fun g hg => by simp [h] at hg

theorem StepStands.effStands (h : StepStands d s t) (he : EffStands s d) : EffStands t d := by
  intro g hg
  have hmap := h.step
  rw [hg, Option.map_some] at hmap
  obtain ⟨g', hg', hun⟩ := Option.map_eq_some_iff.mp hmap.symm
  have heq : g.eff = g'.eff := by
    change g.unsent.eff = g'.unsent.eff
    rw [hun]
  rw [heq, he g' hg', h.eff]

/-- With the effective grade unchanged no raise is abandoned (R432). -/
theorem abandonRaise_of_effStands (he : EffStands s d) : s.abandonRaise d = s := by
  unfold State.abandonRaise
  split
  · rfl
  · next g hg => rw [if_neg (by simp [he g hg])]

/-- What asking for a raise comes to where the effective grade stands: nothing, or the note of the instant (R430). -/
theorem requestRaise_of_effStands (he : EffStands s d) :
    s.requestRaise d = s ∨ ∃ g, (s.dom d).step = some g ∧
      s.requestRaise d = s.updDom d fun h => { h with step := some { g with sentAt := some s.now } } := by
  unfold State.requestRaise
  rw [abandonRaise_of_effStands he]
  dsimp only
  split
  · exact .inl rfl
  · next g hg =>
    split
    · exact .inr ⟨g, hg, rfl⟩
    · exact .inl rfl

theorem stepStands_requestRaise (he : EffStands s d) : StepStands d s (s.requestRaise d) := by
  obtain h | ⟨g, hg, h⟩ := requestRaise_of_effStands he
  · rw [h]
    exact .refl d s
  · rw [h]
    refine ⟨rfl, rfl, rfl, ?_⟩
    rw [dom_updDom_same, hg]
    rfl

theorem lifted_requestRaise {l : List Nat} (he : EffStands s d) : Lifted l s (s.requestRaise d) := by
  obtain h | ⟨g, -, h⟩ := requestRaise_of_effStands he
  · rw [h]
    exact .refl l s
  · rw [h]
    exact Lifted.updDom (.refl l s) d (by intros; rfl)

/-- What completes when the present codes of a domain have reached their target leaves a step that stands (R179, R430). -/
theorem stepStands_afterStep (hd : d < 32) (hp : s.clk.pll = true) (he : EffStands s d) : StepStands d s (s.afterStep d) := by
  have hon : StepStands d s (((s.becomeOn d).requestRaise d).toColumn d) := by
    have hbecome := keeps_becomeOn (g := true) s hd fun _ => hp
    have hstands := hbecome.stepStands hd
    have hrequest := keeps_requestRaise (p := true) (s.becomeOn d) hd fun _ => by rw [hbecome.clk, hp]
    have hcolumn := keeps_toColumn (g := true) ((s.becomeOn d).requestRaise d) hd fun _ => by rw [hrequest.clk, hbecome.clk, hp]
    exact (hstands.trans (stepStands_requestRaise (hstands.effStands he))).trans (hcolumn.stepStands hd)
  unfold State.afterStep
  dsimp only
  split
  · exact .refl d s
  · split
    · split
      · exact .refl d s
      · exact hon
    · exact hon
    · exact (keeps_becomeRetained (g := true) s hd fun _ => hp).stepStands hd
    · exact (keeps_dropDomain (g := true) s hd fun _ => hp).stepStands hd
    · exact stepStands_requestRaise he
    · exact .refl d s

/-- In a domain at rest nothing completes but the wait of a raise step. -/
theorem lifted_afterStep {l : List Nat} (he : EffStands s d) (hrest : (s.dom d).phase = .rest) : Lifted l s (s.afterStep d) := by
  unfold State.afterStep
  dsimp only
  rw [hrest]
  exact (Lifted.refl l s).ite (lifted_requestRaise he)

/-! ### The voltage of a grade -/

/-- A grade's voltage that R92 accepts is commanded, unless host software has just written the target (R16, R427). -/
theorem gradeTarget_accepted {k : Nat} (hv : s.codeValid d (s.gradeCode d k) = true) (hw : s.justWritten (fDOM_VSET_CODE d) = false) :
    s.gradeTarget d k = s.setTarget d (s.gradeCode d k) := by
  rw [State.gradeTarget, hw, if_neg Bool.false_ne_true, State.commandTarget, if_pos hv]

theorem code_le_of_codeValid {code : Nat} (h : s.codeValid d code = true) : code ≤ 840 := by
  simp only [State.codeValid, Bool.and_eq_true, decide_eq_true_eq] at h
  omega

theorem put_domVset_held {code o : Nat} (hd : d < 32) (ho : heldReg false o = true) : (s.put (fDOM_VSET_CODE d) code).reg o = s.reg o :=
  reg_put_ne _ _ _ _ (by rintro rfl; simp [(moved_domVset hd).1] at ho)

/-- A commanded target stands in DOM_VSET, and the grades and their steps stay as they are. -/
theorem stepStands_setTarget {code : Nat} (hd : d < 32) (hc : code ≤ 840) :
    (s.setTarget d code).get (fDOM_VSET_CODE d) = code ∧ (s.setTarget d code).get (fCAP_DGRADE_NOW d) = s.get (fCAP_DGRADE_NOW d) ∧
    (s.setTarget d code).effGrade d = s.effGrade d ∧ ∀ k, ((s.setTarget d code).dom k).step = (s.dom k).step := by
  have hput : (s.put (fDOM_VSET_CODE d) code).get (fDOM_VSET_CODE d) = code := by
    rw [get_put _ _ _ (by simp)]
    exact Nat.mod_eq_of_lt (by change code < 1024; omega)
  have hheld : Held true (s.put (fDOM_VSET_CODE d) code) (s.setTarget d code) :=
    ((keeps_relift (p := false) _ _ _ hd).trans (keeps_retarget _ d)) fun h => absurd h (by decide)
  have heff : (s.put (fDOM_VSET_CODE d) code).effGrade d = s.effGrade d :=
    effGrade_congr hd (fun o ho => put_domVset_held hd ho) (get_put_reg _ _ _ _ (moved_domVset hd).2.symm)
  have hstands := hheld.stepStands hd
  exact ⟨hstands.vset.trans hput, hstands.now.trans (get_of_reg _ (put_domVset_held hd (held_dgrade false hd))), hstands.eff.trans heff,
    fun k => hheld.steps rfl k⟩

end Sys2Proof.Machine
end

section
/-!
SUPPORT. The commands of grade steps, case by case (R44-R46, R429-R433).
-/

namespace Sys2Proof.Machine

variable {s : State} {d : Fin 32} {g : GradeStep}

/-- A change of one domain. -/
theorem updDom_only (s : State) (d : Nat) (f : DomHid → DomHid) :
    s.updDom d f = { s with doms := (s.updDom d f).doms } ∧ ∀ k, k ≠ d → (s.updDom d f).dom k = s.dom k :=
  ⟨rfl, fun _ hk => dom_updDom_ne s f hk⟩

/-! ### GRADE_STEP_START -/

theorem exec_gradeStepStart_idle (h : s.gateLive = false ∨ s.on (fCAP_DGRADE_FAULT d) = true) : exec (.gradeStepStart d) s = .next s := by
  change execGradeStepStart d s = _
  unfold execGradeStepStart
  dsimp only
  rw [if_pos]
  rcases h with h | h <;> simp [h]

/-- A domain whose grade steps may start: the ports are sampled, steps are enabled, no fault holds its grade, and it has a tract. -/
def MayStep (s : State) (d : Nat) : Prop :=
  s.gateLive = true ∧ s.on (fCAP_DGRADE_GCTL d) = true ∧ s.on (fCAP_DGRADE_FAULT d) = false ∧ s.domState d ≠ 0

theorem MayStep.not_idle (h : MayStep s d) :
    ¬ (!s.gateLive || !s.on (fCAP_DGRADE_GCTL d) || s.on (fCAP_DGRADE_FAULT d) || decide (s.domState d = 0)) = true := by
  obtain ⟨hlive, hctl, hfault, hdom⟩ := h
  simp [hlive, hctl, hfault, hdom]

/-- A domain at its effective grade starts no step. -/
theorem exec_gradeStepStart_level (h : MayStep s d) (hnone : (s.dom d).step = none) (heq : s.get (fCAP_DGRADE_NOW d) = s.effGrade d) :
    exec (.gradeStepStart d) s = .next s := by
  change execGradeStepStart d s = _
  unfold execGradeStepStart
  dsimp only
  rw [if_neg h.not_idle, hnone]
  dsimp only
  rw [if_pos (by simp [heq])]

/-- A step down is asked for at once (R429). -/
theorem exec_gradeStepStart_lower (h : MayStep s d) (hnone : (s.dom d).step = none) (hdue : (s.dom d).stepAt ≤ s.now)
    (hlt : s.effGrade d < s.get (fCAP_DGRADE_NOW d)) :
    exec (.gradeStepStart d) s = .next (s.updDom d fun x =>
      { x with step := some ⟨s.get (fCAP_DGRADE_NOW d) - 1, false, 0, some s.now, false, s.effGrade d⟩, stepAt := s.now + 8000 }) := by
  have hgo : ¬ (decide (s.effGrade d = s.get (fCAP_DGRADE_NOW d)) || decide (s.now < (s.dom d).stepAt)) = true := by
    simp only [Bool.or_eq_true, decide_eq_true_eq]
    omega
  change execGradeStepStart d s = _
  unfold execGradeStepStart
  dsimp only
  rw [if_neg h.not_idle, hnone]
  dsimp only
  rw [if_neg hgo, if_neg (by omega)]

/-- A step up commands the voltage of the next grade first (R430). -/
theorem exec_gradeStepStart_raise (h : MayStep s d) (hnone : (s.dom d).step = none) (hdue : (s.dom d).stepAt ≤ s.now)
    (hlt : s.get (fCAP_DGRADE_NOW d) < s.effGrade d) :
    exec (.gradeStepStart d) s =
      let s1 := s.gradeTarget d (s.get (fCAP_DGRADE_NOW d) + 1)
      .next ((s1.updDom d fun x => { x with
        step := some ⟨s.get (fCAP_DGRADE_NOW d) + 1, true, s1.get (fDOM_VSET_CODE d), none, false, s.effGrade d⟩, stepAt := s.now + 8000 }).afterStep d) := by
  have hgo : ¬ (decide (s.effGrade d = s.get (fCAP_DGRADE_NOW d)) || decide (s.now < (s.dom d).stepAt)) = true := by
    simp only [Bool.or_eq_true, decide_eq_true_eq]
    omega
  change execGradeStepStart d s = _
  unfold execGradeStepStart
  dsimp only
  rw [if_neg h.not_idle, hnone]
  dsimp only
  rw [if_neg hgo, if_pos hlt]

/-- A raise step whose cells have reached its voltage, or that is to be asked for again, is asked for (R44, R430). -/
theorem exec_gradeStepStart_ask (h : MayStep s d) (hstep : (s.dom d).step = some g) (hsent : g.sentAt = none) (hrise : g.rising = true)
    (hready : g.reissued = true ∨ (s.slewComplete d = true ∧ s.get (fDOM_VSET_CODE d) = g.code ∧ g.eff = s.effGrade d)) :
    exec (.gradeStepStart d) s = .next (s.updDom d fun x => { x with step := some { g with sentAt := some s.now } }) := by
  have hstay : s.abandonRaise d = s := by
    unfold State.abandonRaise
    rw [hstep]
    dsimp only
    rcases hready with hre | ⟨-, -, heff⟩
    · rw [if_neg (by simp [hre])]
    · rw [if_neg (by simp [heff])]
  have hask : (((s.abandonRaise d).dom d).step.isSome && g.sentAt.isNone &&
      (!g.rising || g.reissued || (!s.headsUp d || (s.slewComplete d && decide (s.get (fDOM_VSET_CODE d) = g.code))))) = true := by
    rw [hstay, hstep, hsent, hrise]
    rcases hready with hre | ⟨hslew, hcode, -⟩
    · simp [hre]
    · simp [hslew, hcode]
  change execGradeStepStart d s = _
  unfold execGradeStepStart
  dsimp only
  rw [if_neg h.not_idle, hstep]
  dsimp only
  rw [if_pos hask]

/-- A raise step not yet asked for is abandoned once the effective grade has changed (R432). -/
theorem exec_gradeStepStart_abandon (h : MayStep s d) (hstep : (s.dom d).step = some g) (hsent : g.sentAt = none) (hrise : g.rising = true)
    (hre : g.reissued = false) (heff : g.eff ≠ s.effGrade d) :
    exec (.gradeStepStart d) s =
      .next ((s.gradeTarget d (s.get (fCAP_DGRADE_NOW d))).updDom d fun x => { x with step := none, stepAt := s.now }) := by
  have habandon : s.abandonRaise d = (s.gradeTarget d (s.get (fCAP_DGRADE_NOW d))).updDom d fun x => { x with step := none, stepAt := s.now } := by
    unfold State.abandonRaise
    rw [hstep]
    dsimp only
    rw [if_pos (by simp [hrise, hsent, hre, heff.symm])]
  have hgone : ((s.abandonRaise d).dom d).step = none := by rw [habandon, dom_updDom_same]
  change execGradeStepStart d s = _
  unfold execGradeStepStart
  dsimp only
  rw [if_neg h.not_idle, hstep]
  dsimp only
  rw [hgone, if_neg (by simp), habandon]

/-! ### A request refused or unanswered -/

/-- The first refusal or timeout asks again, once the ports are sampled (R44, R51). -/
theorem gradeFails_first (h : g.reissued = false) : s.gradeFails d g =
    s.updDom d fun x => { x with step := some { g with reissued := true, sentAt := if s.gateLive then some s.now else none } } := by
  rw [State.gradeFails, if_neg (by simp [h])]

theorem dgrade_not_event (d : Fin 32) : CAP_DGRADE d ∉ eventRegs 13 := by
  revert d
  decide

/-- The second ends the step in a grade-port fault, of which an event tells while capping is enabled (R44, R448). -/
theorem gradeFails_again (h : g.reissued = true) :
    ((s.gradeFails d g).dom d).step = none ∧ (s.gradeFails d g).on (fCAP_DGRADE_FAULT d) = true ∧
    (s.gradeFails d g).stat evCAP_GRADE_FAULT = (s.stat evCAP_GRADE_FAULT || s.on fCAP_CTL_EN) ∧
    OnlyEvents { s with doms := (s.gradeFails d g).doms } (s.gradeFails d g) ([CAP_DGRADE d] ++ eventRegs 13) := by
  obtain ⟨u, hu⟩ : ∃ u, u = ((s.updDom d fun x => { x with step := none }).putB (fCAP_DGRADE_FAULT d) true).markSet (CAP_DGRADE d) 0x40000000#32 :=
    ⟨_, rfl⟩
  have hfails : s.gradeFails d g = u.raiseIf (s.on fCAP_CTL_EN) evCAP_GRADE_FAULT d := by rw [State.gradeFails, if_pos h, hu]
  have hdoms : (s.gradeFails d g).doms = u.doms := by rw [hfails, State.raiseIf_doms]
  have hstep : (u.dom d).step = none := by
    have hdom : u.dom d = (s.updDom d fun x => { x with step := none }).dom d := by
      rw [hu]
      rfl
    rw [hdom, dom_updDom_same]
  have hregs : SameRegs s u [CAP_DGRADE d] := by
    rw [hu]
    exact (((SameRegs.refl s _).ofRegs (u := s.updDom d fun x => { x with step := none }) rfl).putB true (by simp)).ofRegs rfl
  have honly : OnlyRegs { s with doms := u.doms } u [CAP_DGRADE d] := ⟨⟨u.regs, u.cyc, by rw [hu]; rfl⟩, hregs⟩
  have hfault : u.on (fCAP_DGRADE_FAULT d) = true := by
    rw [hu]
    exact on_putB_same _ (fCAP_DGRADE_FAULT d) true (by simp) rfl
  have hstat : u.stat evCAP_GRADE_FAULT = s.stat evCAP_GRADE_FAULT := stat_sameRegs _ hregs fun x hx => by
    rw [List.mem_singleton.mp hx]
    unfold CAP_DGRADE
    omega
  refine ⟨by rw [State.dom, hdoms, ← State.dom, hstep], ?_, ?_, ?_⟩
  · rw [hfails, on_of_reg (fCAP_DGRADE_FAULT d) (sameRegs_raiseIf u _ _ _ _ (dgrade_not_event d)), hfault]
  · rw [hfails, State.raiseIf]
    cases hen : s.on fCAP_CTL_EN with
    | true => rw [if_pos rfl, stat_raise_same _ _ _ (by decide), Bool.or_true]
    | false => rw [if_neg Bool.false_ne_true, hstat, Bool.or_false]
  · rw [hdoms, hfails]
    exact honly.onlyEvents.trans ⟨evOnly_raiseIf u _ _ _, sameRegs_raiseIf u _ evCAP_GRADE_FAULT _⟩

/-! ### GRD_ACK and GRADE_ACK_TIMEOUT -/

theorem exec_grdAck_unsampled (err : Bool) (h : s.gateLive = false) : exec (.grdAck d err) s = .next s := by
  change execGrdAck d err s = _
  unfold execGrdAck
  dsimp only
  rw [if_pos (by simp [h])]

/-- Without a step in progress an acknowledgement is stray (R46). -/
theorem exec_grdAck_stray (err : Bool) (hlive : s.gateLive = true) (hnone : (s.dom d).step = none) :
    exec (.grdAck d err) s = .next (s.addSat fCAP_GRD_STRAY_COUNT 1) := by
  change execGrdAck d err s = _
  unfold execGrdAck
  dsimp only
  rw [if_neg (by simp [hlive]), hnone]

theorem exec_grdAck_refused (hlive : s.gateLive = true) (hstep : (s.dom d).step = some g) (hsent : g.sentAt.isSome = true) :
    exec (.grdAck d true) s = .next (s.gradeFails d g) := by
  change execGrdAck d true s = _
  unfold execGrdAck
  dsimp only
  rw [if_neg (by simp [hlive]), hstep]
  dsimp only
  rw [if_neg (by simp [Option.isSome_iff_ne_none.mp hsent]), if_pos rfl]

/-- The state in which the grade of a step is the present one, and the step is over. -/
def State.gradeTaken (s : State) (d : Nat) (g : GradeStep) : State :=
  (s.put (fCAP_DGRADE_NOW d) g.dest).updDom d fun x => { x with step := none }

/-- An acknowledgement makes the step's grade the present one; a step down then commands its voltage (R430, R431). -/
theorem exec_grdAck_taken (hlive : s.gateLive = true) (hstep : (s.dom d).step = some g) (hsent : g.sentAt.isSome = true) :
    exec (.grdAck d false) s = .next (if g.rising then s.gradeTaken d g else ((s.gradeTaken d g).gradeTarget d g.dest).afterStep d) := by
  change execGrdAck d false s = _
  unfold execGrdAck
  dsimp only
  rw [if_neg (by simp [hlive]), hstep]
  dsimp only
  rw [if_neg (by simp [Option.isSome_iff_ne_none.mp hsent]), if_neg Bool.false_ne_true]
  rfl

theorem exec_gradeAckTimeout_of_sent {a : Nat} (hstep : (s.dom d).step = some g) (hsent : g.sentAt = some a) :
    exec (.gradeAckTimeout d) s = .next (if a + 2000 ≤ s.now then s.gradeFails d g else s) := by
  change execGradeAckTimeout d s = _
  rw [execGradeAckTimeout, hstep]
  dsimp only
  rw [hsent]

/-! ### The grade taken -/

theorem dom_gradeTaken (s : State) (d : Nat) (g : GradeStep) : (s.gradeTaken d g).dom d = { s.dom d with step := none } :=
  dom_updDom_same (s.put (fCAP_DGRADE_NOW d) g.dest) d _

theorem now_gradeTaken (s : State) (d : Nat) (g : GradeStep) : (s.gradeTaken d g).get (fCAP_DGRADE_NOW d) = g.dest % 16 :=
  get_put s (fCAP_DGRADE_NOW d) g.dest (by simp)

theorem reg_gradeTaken_ne (s : State) (d : Nat) (g : GradeStep) {o : Nat} (h : o ≠ CAP_DGRADE d) : (s.gradeTaken d g).reg o = s.reg o :=
  reg_put_ne s (fCAP_DGRADE_NOW d) o g.dest h

theorem onlyRegs_gradeTaken (s : State) (d : Nat) (g : GradeStep) :
    OnlyRegs { s with doms := (s.gradeTaken d g).doms } (s.gradeTaken d g) [CAP_DGRADE d] :=
  ⟨⟨(s.gradeTaken d g).regs, s.cyc, rfl⟩, fun o ho => reg_gradeTaken_ne s d g (by simpa using ho)⟩

/-- The voltage of a grade rests on DOM_CFG, the grade table and the cadastre's limits, none of which a present grade changes. -/
theorem gradeCode_gradeTaken (s : State) (d : Fin 32) (g : GradeStep) (k : Nat) : (s.gradeTaken d g).gradeCode d k = s.gradeCode d k := by
  have hclass : (s.gradeTaken d g).classOf d = s.classOf d := by
    rw [State.classOf, State.classOf, get_of_reg (fDOM_CFG_CLASS d) (reg_gradeTaken_ne s d g (by change DOM_CFG d ≠ _; unfold DOM_CFG CAP_DGRADE; omega))]
  rw [State.gradeCode, State.gradeCode, hclass, get_of_reg _ (reg_gradeTaken_ne s d g (by change CAP_GTAB (s.classOf d) k ≠ _; unfold CAP_GTAB CAP_DGRADE; omega))]

theorem codeValid_gradeTaken (s : State) (d : Fin 32) (g : GradeStep) (code : Nat) : (s.gradeTaken d g).codeValid d code = s.codeValid d code := by
  have hne : CAD_DOM d ≠ CAP_DGRADE d := by unfold CAD_DOM CAP_DGRADE; omega
  rw [State.codeValid, State.codeValid, get_of_reg (fCAD_DOM_VMIN d) (reg_gradeTaken_ne s d g hne),
    get_of_reg (fCAD_DOM_VMAX d) (reg_gradeTaken_ne s d g hne)]

end Sys2Proof.Machine
end

section
/-!
SUPPORT. GRADE_FAULT_CLEAR: what a write of 1 to CAP_DGRADE.FAULT, with REQ and GCTL as they are, stores (R44, R428).
-/

namespace Sys2Proof.Machine

variable {s : State} {d : Fin 32}

/-- The word that clears a grade-port fault and leaves REQ and GCTL. -/
def faultClearWord (s : State) (d : Nat) : Word := (s.reg (CAP_DGRADE d) &&& 0x8000000F#32) ||| 0x40000000#32

/-- The access codes of CAP_DGRADE: REQ and GCTL are of access RW, FAULT of W1C (Table 16.7). -/
def dgradeAccess : Access := ⟨0x8000000F#32, 0, 0x40000000#32, 0⟩

theorem accessOf_dgrade (d : Fin 32) : accessOf (CAP_DGRADE d) = some dgradeAccess := by
  revert d
  decide +kernel

theorem placed_dgrade (d : Fin 32) : CAP_DGRADE d % 4 = 0 ∧ CAP_DGRADE d < 0x80000 ∧ coefWindow (CAP_DGRADE d) = none ∧
    commonAt (CAP_DGRADE d) = none ∧ blockOf (CAP_DGRADE d) = some 13 := by
  revert d
  decide +kernel

theorem dgrade_ne_named (d : Fin 32) {o : Nat} (h : o ∈ [THM_SUSP0, THM_SUSP1, THM_CFG, CAP_PKG, NRG_CLR, TLM_BASE_LO, TLM_BASE_HI, TLM_COUNT]) :
    CAP_DGRADE d ≠ o := by
  revert o d
  decide

theorem arrayIx_dgrade (d : Fin 32) : arrayIx (CAP_DGRADE 0) 4 32 (CAP_DGRADE d) = some d.val := by
  revert d
  decide

/-- A write of CAP_DGRADE by what reaches its page: REQ held to the cadastre's maximum, GCTL, and FAULT cleared by a 1 (R44, R428). -/
theorem storeCap_dgrade (s : State) (d : Fin 32) (w v : Word) (h : bitsAt v 0 4 ≤ s.gradeMax d) :
    s.storeCap (CAP_DGRADE d) w v =
      let s1 := (s.put (fCAP_DGRADE_REQ d) (bitsAt v 0 4)).putB (fCAP_DGRADE_GCTL d) (bitsAt v 31 1 = 1)
      (if bitsAt v 30 1 = 1 then s1.putB (fCAP_DGRADE_FAULT d) false else s1).abandonRaise d := by
  have hne := fun o => @dgrade_ne_named d o
  simp only [List.mem_cons, List.not_mem_nil, or_false, forall_eq_or_imp, forall_eq] at hne
  obtain ⟨h0, h1, h2, h3, h4, h5, h6, h7⟩ := hne
  unfold State.storeCap
  simp only [h0, h1, h2, h3, h4, h5, h6, h7, if_false, decide_false, Bool.or_false, Bool.false_eq_true, arrayIx_dgrade, Nat.min_eq_left h,
    Nat.not_lt.mpr h]

theorem getLsbD_writeBits_faultClear (s : State) (d j : Nat) :
    (s.writeBits dgradeAccess (CAP_DGRADE d) (faultClearWord s d)).getLsbD j =
      (((s.reg (CAP_DGRADE d)).getLsbD j && (0x8000000F#32).getLsbD j || (0x40000000#32).getLsbD j) &&
        (decide (j < 32) && !((0x40000000#32).getLsbD j && (s.freshBits (CAP_DGRADE d)).getLsbD j))) := by
  simp [State.writeBits, dgradeAccess, faultClearWord]

/-- A field of access RW that the clearing word leaves: it brings the field's own bits. -/
theorem bitsAt_writeBits_faultClear (s : State) (d lo w : Nat)
    (hrw : ∀ i < w, (0x8000000F#32).getLsbD (lo + i) = true ∧ (0x40000000#32).getLsbD (lo + i) = false ∧ lo + i < 32) :
    bitsAt (s.writeBits dgradeAccess (CAP_DGRADE d) (faultClearWord s d)) lo w = bitsAt (s.reg (CAP_DGRADE d)) lo w := by
  apply Nat.eq_of_testBit_eq
  intro i
  rw [testBit_bitsAt, testBit_bitsAt, getLsbD_writeBits_faultClear]
  by_cases hi : i < w
  · obtain ⟨h1, h2, h3⟩ := hrw i hi
    rw [h1, h2, decide_eq_true h3, Bool.and_true, Bool.or_false, Bool.false_and, Bool.not_false, Bool.and_true, Bool.and_true]
  · rw [decide_eq_false hi, Bool.false_and, Bool.false_and]

/-- The clearing word brings a 1 for FAULT unless hardware has set that in the same cycle (R15). -/
theorem fault_writeBits_faultClear (s : State) (d : Nat) :
    bitsAt (s.writeBits dgradeAccess (CAP_DGRADE d) (faultClearWord s d)) 30 1 = 1 ↔ (s.freshBits (CAP_DGRADE d)).getLsbD 30 = false := by
  have htest := testBit_bitsAt (s.writeBits dgradeAccess (CAP_DGRADE d) (faultClearWord s d)) 30 1 0
  rw [getLsbD_writeBits_faultClear] at htest
  have hlt : bitsAt (s.writeBits dgradeAccess (CAP_DGRADE d) (faultClearWord s d)) 30 1 < 2 := Nat.mod_lt _ (by decide)
  generalize bitsAt (s.writeBits dgradeAccess (CAP_DGRADE d) (faultClearWord s d)) 30 1 = x at htest hlt ⊢
  have hset : (0x40000000#32).getLsbD 30 = true := rfl
  rw [Nat.add_zero, Nat.testBit_zero, hset, Bool.or_true, Bool.true_and, Bool.true_and, decide_eq_true (by decide : 0 < 1), Bool.true_and,
    decide_eq_true (by decide : 30 < 32), Bool.true_and] at htest
  cases hfresh : (s.freshBits (CAP_DGRADE d)).getLsbD 30 <;> rw [hfresh] at htest <;> simp at htest ⊢ <;> omega

/-- The state in which a fault has been cleared by a write on a port, before a raise step is judged anew. -/
def State.faultCleared (s : State) (core : Bool) (d : Nat) : State :=
  let s1 := ((s.hostMark core (CAP_DGRADE d) 0x8000000F#32).put (fCAP_DGRADE_REQ d) (s.get (fCAP_DGRADE_REQ d))).putB (fCAP_DGRADE_GCTL d)
    (s.on (fCAP_DGRADE_GCTL d))
  if (s.freshBits (CAP_DGRADE d)).getLsbD 30 then s1 else s1.putB (fCAP_DGRADE_FAULT d) false

theorem exec_gradeFaultClear (p : Port) (hs : Served p (CAP_DGRADE d) s) (hreq : s.get (fCAP_DGRADE_REQ d) ≤ s.gradeMax d) :
    exec (.gradeFaultClear p d) s = .next (((s.faultCleared (p = .core) d).abandonRaise d).okay 0) := by
  have hacc := accessOf_dgrade d
  obtain ⟨h4, hlt, hco, hcm, hb⟩ := placed_dgrade d
  obtain ⟨u, hu⟩ : ∃ u, u = s.hostMark (p = .core) (CAP_DGRADE d) 0x8000000F#32 := ⟨_, rfl⟩
  have hmax : u.gradeMax d = s.gradeMax d := by
    rw [hu]
    unfold State.hostMark
    split <;> rfl
  have hreqBits : bitsAt (s.writeBits dgradeAccess (CAP_DGRADE d) (faultClearWord s d)) 0 4 = s.get (fCAP_DGRADE_REQ d) :=
    bitsAt_writeBits_faultClear s d 0 4 (by decide)
  have hctlBits : (bitsAt (s.writeBits dgradeAccess (CAP_DGRADE d) (faultClearWord s d)) 31 1 = 1 : Bool) = s.on (fCAP_DGRADE_GCTL d) := by
    rw [bitsAt_writeBits_faultClear s d 31 1 (by decide)]
    have hlt2 : bitsAt (s.reg (CAP_DGRADE d)) 31 1 < 2 := Nat.mod_lt _ (by decide)
    change decide (bitsAt (s.reg (CAP_DGRADE d)) 31 1 = 1) = decide (bitsAt (s.reg (CAP_DGRADE d)) 31 1 ≠ 0)
    exact decide_eq_decide.mpr (by omega)
  have hstore : ∀ w, (s.hostMark (p = .core) (CAP_DGRADE d) (dgradeAccess.rw ||| dgradeAccess.w1s)).storeIn (p = .core) 13 (CAP_DGRADE d) w
      (s.writeBits dgradeAccess (CAP_DGRADE d) (faultClearWord s d)) = (s.faultCleared (p = .core) d).abandonRaise d := by
    intro w
    change (s.hostMark (p = .core) (CAP_DGRADE d) 0x8000000F#32).storeCap (CAP_DGRADE d) _ _ = _
    rw [← hu, storeCap_dgrade u d w _ (by rw [hreqBits, hmax]; exact hreq), hreqBits, hctlBits, State.faultCleared, ← hu]
    dsimp only
    congr 1
    cases hfresh : (s.freshBits (CAP_DGRADE d)).getLsbD 30 with
    | true => rw [if_neg fun h => Bool.false_ne_true (((fault_writeBits_faultClear s d).mp h).symm.trans hfresh), if_pos rfl]
    | false => rw [if_pos ((fault_writeBits_faultClear s d).mpr hfresh), if_neg Bool.false_ne_true]
  change s.portWrite p (CAP_DGRADE d) (faultClearWord s d) = _
  rw [portWrite_in s p (CAP_DGRADE d) _ 13 dgradeAccess hs h4 hlt hco hacc rfl hcm hb (by decide), hstore]

/-- Before a raise step is judged anew, the write has changed CAP_DGRADE alone, and of its fields FAULT at most. -/
theorem faultCleared_fields (s : State) (core : Bool) (d : Nat) :
    (s.faultCleared core d).on (fCAP_DGRADE_FAULT d) = (s.on (fCAP_DGRADE_FAULT d) && (s.freshBits (CAP_DGRADE d)).getLsbD 30) ∧
    (s.faultCleared core d).get (fCAP_DGRADE_REQ d) = s.get (fCAP_DGRADE_REQ d) ∧
    (s.faultCleared core d).on (fCAP_DGRADE_GCTL d) = s.on (fCAP_DGRADE_GCTL d) ∧
    (s.faultCleared core d).get (fCAP_DGRADE_NOW d) = s.get (fCAP_DGRADE_NOW d) := by
  obtain ⟨u, hu⟩ : ∃ u, u = s.hostMark core (CAP_DGRADE d) 0x8000000F#32 := ⟨_, rfl⟩
  obtain ⟨v, hv⟩ : ∃ v, v = (u.put (fCAP_DGRADE_REQ d) (s.get (fCAP_DGRADE_REQ d))).putB (fCAP_DGRADE_GCTL d) (s.on (fCAP_DGRADE_GCTL d)) := ⟨_, rfl⟩
  have hreg : u.reg (CAP_DGRADE d) = s.reg (CAP_DGRADE d) := by
    rw [hu]
    unfold State.hostMark
    split <;> rfl
  have hfault : v.on (fCAP_DGRADE_FAULT d) = s.on (fCAP_DGRADE_FAULT d) := by
    rw [hv, on_putB_apart _ (fCAP_DGRADE_GCTL d) (fCAP_DGRADE_FAULT d) _ rfl (.inl (by simp)),
      on_put_apart _ (fCAP_DGRADE_REQ d) (fCAP_DGRADE_FAULT d) _ rfl (.inr (by simp)), on_of_reg _ hreg]
  have hreq : v.get (fCAP_DGRADE_REQ d) = s.get (fCAP_DGRADE_REQ d) := by
    rw [hv, get_putB_apart _ (fCAP_DGRADE_GCTL d) (fCAP_DGRADE_REQ d) _ rfl (.inl (by simp)), get_put _ (fCAP_DGRADE_REQ d) _ (by simp)]
    exact Nat.mod_mod_of_dvd _ (dvd_refl _)
  have hctl : v.on (fCAP_DGRADE_GCTL d) = s.on (fCAP_DGRADE_GCTL d) := by rw [hv, on_putB_same _ (fCAP_DGRADE_GCTL d) _ (by simp) rfl]
  have hnow : v.get (fCAP_DGRADE_NOW d) = s.get (fCAP_DGRADE_NOW d) := by
    rw [hv, get_putB_apart _ (fCAP_DGRADE_GCTL d) (fCAP_DGRADE_NOW d) _ rfl (.inl (by simp)),
      get_put_apart _ (fCAP_DGRADE_REQ d) (fCAP_DGRADE_NOW d) _ rfl (.inr (by simp)), get_of_reg _ hreg]
  rw [State.faultCleared, ← hu, ← hv]
  cases (s.freshBits (CAP_DGRADE d)).getLsbD 30 with
  | true =>
    rw [if_pos rfl, Bool.and_true]
    exact ⟨hfault, hreq, hctl, hnow⟩
  | false =>
    rw [if_neg Bool.false_ne_true, on_putB_same _ (fCAP_DGRADE_FAULT d) _ (by simp) rfl,
      get_putB_apart _ (fCAP_DGRADE_FAULT d) (fCAP_DGRADE_REQ d) _ rfl (.inl (by simp)),
      on_putB_apart _ (fCAP_DGRADE_FAULT d) (fCAP_DGRADE_GCTL d) _ rfl (.inr (by simp)),
      get_putB_apart _ (fCAP_DGRADE_FAULT d) (fCAP_DGRADE_NOW d) _ rfl (.inl (by simp)), Bool.and_false]
    exact ⟨rfl, hreq, hctl, hnow⟩

theorem onlyRegs_faultCleared (s : State) (core : Bool) (d : Nat) : OnlyRegs s (s.faultCleared core d) [CAP_DGRADE d] := by
  obtain ⟨u, hu⟩ : ∃ u, u = s.hostMark core (CAP_DGRADE d) 0x8000000F#32 := ⟨_, rfl⟩
  have hmark : ∃ c, u = { s with cyc := c } := by
    rw [hu]
    unfold State.hostMark
    split
    · exact ⟨s.cyc, rfl⟩
    · exact ⟨_, rfl⟩
  obtain ⟨c, hc⟩ := hmark
  have hregs : SameRegs s u [CAP_DGRADE d] := (SameRegs.refl s _).ofRegs (by rw [hc])
  rw [State.faultCleared, ← hu]
  split
  · exact ⟨⟨_, c, by rw [hc]; rfl⟩, (hregs.put (f := fCAP_DGRADE_REQ d) _ (by simp)).putB (f := fCAP_DGRADE_GCTL d) _ (by simp)⟩
  · exact ⟨⟨_, c, by rw [hc]; rfl⟩, ((hregs.put (f := fCAP_DGRADE_REQ d) _ (by simp)).putB (f := fCAP_DGRADE_GCTL d) _ (by simp)).putB
      (f := fCAP_DGRADE_FAULT d) _ (by simp)⟩

/-! ### The step that raises, and the step that lowers -/

/-- What stands once a step up has commanded the voltage of the next grade, and what completes at once with it (R430). -/
theorem raise_commanded (s : State) (d : Fin 32) {code dest : Nat} (hc : code ≤ 840) (hp : s.clk.pll = true) :
    let s1 := s.setTarget d code
    let u := (s1.updDom d fun x => { x with
      step := some ⟨dest, true, s1.get (fDOM_VSET_CODE d), none, false, s.effGrade d⟩, stepAt := s.now + 8000 }).afterStep d
    u.get (fDOM_VSET_CODE d) = code ∧ u.get (fCAP_DGRADE_NOW d) = s.get (fCAP_DGRADE_NOW d) ∧
    (∃ h, (u.dom d).step = some h ∧ h.dest = dest ∧ h.rising = true ∧ h.code = code ∧ h.reissued = false ∧ h.eff = s.effGrade d) ∧
    ((s.dom d).phase = .rest → LiftOnly s u [DOM_VSET d]) := by
  obtain ⟨hvset, hnow, heff, -⟩ := stepStands_setTarget (s := s) (code := code) d.isLt hc
  have hclk : (s.setTarget d code).clk.pll = true := by
    rw [(keeps_setTarget (p := false) s code d.isLt fun h => absurd h (by decide)).clk, hp]
  have hlift : Lifted [DOM_VSET d] s (s.setTarget d code) := lifted_setTarget s code d.isLt (by simp)
  generalize s.setTarget d code = s1 at hvset hnow heff hclk hlift
  dsimp only
  rw [hvset]
  obtain ⟨u, hu⟩ : ∃ u, u = s1.updDom d fun x => { x with step := some ⟨dest, true, code, none, false, s.effGrade d⟩, stepAt := s.now + 8000 } :=
    ⟨_, rfl⟩
  have hstep : (u.dom d).step = some ⟨dest, true, code, none, false, s.effGrade d⟩ := by rw [hu, dom_updDom_same]
  have hlift2 : Lifted [DOM_VSET d] s u := by
    rw [hu]
    exact hlift.updDom d (by intros; rfl)
  have heff2 : u.effGrade d = s1.effGrade d := by
    rw [hu]
    rfl
  have hstands : EffStands u d := fun g hg => by
    rw [hstep, Option.some.injEq] at hg
    rw [heff2, heff, ← hg]
  have hafter := stepStands_afterStep d.isLt (by rw [hu]; exact hclk) hstands
  have hmap := hafter.step
  rw [hstep, Option.map_some] at hmap
  obtain ⟨h, hh, hun⟩ := Option.map_eq_some_iff.mp hmap
  obtain ⟨hdest, hrise, hcode, -, hre, heffh⟩ := GradeStep.mk.inj hun
  rw [← hu]
  refine ⟨?_, ?_, ⟨h, hh, hdest, hrise, hcode, hre, heffh⟩, fun hrest => (hlift2.trans (lifted_afterStep hstands ?_)).liftOnly⟩
  · rw [hafter.vset, ← hvset, hu]
    rfl
  · rw [hafter.now, ← hnow, hu]
    rfl
  · rw [hlift2.phases, hrest]

/-- What stands once a step down is acknowledged and its voltage commanded (R431). -/
theorem lower_commanded (s : State) (d : Fin 32) (g : GradeStep) {code : Nat} (hc : code ≤ 840) (hp : s.clk.pll = true) :
    let u := ((s.gradeTaken d g).setTarget d code).afterStep d
    u.get (fCAP_DGRADE_NOW d) = g.dest % 16 ∧ (u.dom d).step = none ∧ u.get (fDOM_VSET_CODE d) = code ∧
    ((s.dom d).phase = .rest → LiftOnly s u [DOM_VSET d, CAP_DGRADE d]) := by
  have htaken : Lifted [DOM_VSET d, CAP_DGRADE d] s (s.gradeTaken d g) :=
    ((Lifted.refl _ s).put (f := fCAP_DGRADE_NOW d) g.dest (by simp [liftRegs])).updDom d (by intros; rfl)
  have hnone : ((s.gradeTaken d g).dom d).step = none := by rw [dom_gradeTaken]
  have hnow := now_gradeTaken s d g
  have hpll : (s.gradeTaken d g).clk.pll = true := hp
  generalize s.gradeTaken d g = v at htaken hnone hnow hpll
  obtain ⟨hvset, hnowSet, -, hsteps⟩ := stepStands_setTarget (s := v) (code := code) d.isLt hc
  have hclk : (v.setTarget d code).clk.pll = true := by
    rw [(keeps_setTarget (p := false) v code d.isLt fun h => absurd h (by decide)).clk, hpll]
  have hlift : Lifted [DOM_VSET d, CAP_DGRADE d] s (v.setTarget d code) := htaken.trans (lifted_setTarget v code d.isLt (by simp))
  have hstands : EffStands (v.setTarget d code) d := .of_step_none (by rw [hsteps, hnone])
  have hafter := stepStands_afterStep d.isLt hclk hstands
  have hmap := hafter.step
  rw [hsteps, hnone, Option.map_none, Option.map_eq_none_iff] at hmap
  refine ⟨by rw [hafter.now, hnowSet, hnow], hmap, by rw [hafter.vset, hvset], fun hrest => (hlift.trans (lifted_afterStep hstands ?_)).liftOnly⟩
  rw [hlift.phases, hrest]

end Sys2Proof.Machine
end

section
/-!
O52. Grade steps, their acknowledgements, timeouts and faults (R44-R46, R428-R433).
-/

namespace Sys2Proof.Machine

variable {s : State} {d : Fin 32} {g : GradeStep} {a : Nat} {p : Port}

theorem pll_of_gateLive (h : s.gateLive = true) : s.clk.pll = true := by
  rw [State.gateLive, Bool.and_eq_true] at h
  exact h.1

theorem gradeStepStart_down (h : MayStep s d) (hnone : (s.dom d).step = none) (hdue : (s.dom d).stepAt ≤ s.now)
    (hlt : s.effGrade d < s.get (fCAP_DGRADE_NOW d)) : Runs (.gradeStepStart d) s fun u =>
      u.dom d = { s.dom d with step := some ⟨s.get (fCAP_DGRADE_NOW d) - 1, false, 0, some s.now, false, s.effGrade d⟩, stepAt := s.now + 8000 } ∧
      u = { s with doms := u.doms } ∧ ∀ k, k ≠ d.val → u.dom k = s.dom k :=
  ⟨_, exec_gradeStepStart_lower h hnone hdue hlt, dom_updDom_same _ _ _, updDom_only s d _⟩

theorem gradeStepStart_up (h : MayStep s d) (hnone : (s.dom d).step = none) (hdue : (s.dom d).stepAt ≤ s.now)
    (hlt : s.get (fCAP_DGRADE_NOW d) < s.effGrade d) (hv : s.codeValid d (s.gradeCode d (s.get (fCAP_DGRADE_NOW d) + 1)) = true)
    (hw : s.justWritten (fDOM_VSET_CODE d) = false) : Runs (.gradeStepStart d) s fun u =>
      u.get (fDOM_VSET_CODE d) = s.gradeCode d (s.get (fCAP_DGRADE_NOW d) + 1) ∧ u.get (fCAP_DGRADE_NOW d) = s.get (fCAP_DGRADE_NOW d) ∧
      (∃ h, (u.dom d).step = some h ∧ h.dest = s.get (fCAP_DGRADE_NOW d) + 1 ∧ h.rising = true ∧
        h.code = s.gradeCode d (s.get (fCAP_DGRADE_NOW d) + 1) ∧ h.reissued = false ∧ h.eff = s.effGrade d) ∧
      (s.isOn d = true → (s.dom d).phase = .rest → LiftOnly s u [DOM_VSET d]) := by
  have hexec := exec_gradeStepStart_raise h hnone hdue hlt
  rw [gradeTarget_accepted hv hw] at hexec
  obtain ⟨hvset, hnow, hstep, hframe⟩ :=
    raise_commanded (dest := s.get (fCAP_DGRADE_NOW d) + 1) s d (code_le_of_codeValid hv) (pll_of_gateLive h.1)
  exact ⟨_, hexec, hvset, hnow, hstep, fun _ => hframe⟩

theorem gradeStepStart_ask (h : MayStep s d) (hstep : (s.dom d).step = some g) (hsent : g.sentAt = none) (hrise : g.rising = true)
    (hready : g.reissued = true ∨ (s.slewComplete d = true ∧ s.get (fDOM_VSET_CODE d) = g.code ∧ g.eff = s.effGrade d)) :
    Runs (.gradeStepStart d) s fun u => u.dom d = { s.dom d with step := some { g with sentAt := some s.now } } ∧
      u = { s with doms := u.doms } ∧ ∀ k, k ≠ d.val → u.dom k = s.dom k :=
  ⟨_, exec_gradeStepStart_ask h hstep hsent hrise hready, dom_updDom_same _ _ _, updDom_only s d _⟩

theorem gradeStepStart_abandon (h : MayStep s d) (hstep : (s.dom d).step = some g) (hsent : g.sentAt = none) (hrise : g.rising = true)
    (hre : g.reissued = false) (heff : g.eff ≠ s.effGrade d) : Runs (.gradeStepStart d) s fun u => (u.dom d).step = none ∧
      (s.codeValid d (s.gradeCode d (s.get (fCAP_DGRADE_NOW d))) = true → s.justWritten (fDOM_VSET_CODE d) = false →
        u.get (fDOM_VSET_CODE d) = s.gradeCode d (s.get (fCAP_DGRADE_NOW d))) := by
  refine ⟨_, exec_gradeStepStart_abandon h hstep hsent hrise hre heff, by rw [dom_updDom_same], fun hv hw => ?_⟩
  rw [gradeTarget_accepted hv hw]
  exact (stepStands_setTarget d.isLt (code_le_of_codeValid hv)).1

theorem grdAck_up (hlive : s.gateLive = true) (hstep : (s.dom d).step = some g) (hsent : g.sentAt.isSome = true) (hrise : g.rising = true) :
    Runs (.grdAck d false) s fun u => u.get (fCAP_DGRADE_NOW d) = g.dest % 16 ∧ u.dom d = { s.dom d with step := none } ∧
      OnlyRegs { s with doms := u.doms } u [CAP_DGRADE d] := by
  refine ⟨s.gradeTaken d g, ?_, now_gradeTaken s d g, dom_gradeTaken s d g, onlyRegs_gradeTaken s d g⟩
  rw [exec_grdAck_taken hlive hstep hsent, hrise, if_pos rfl]

theorem grdAck_down (hlive : s.gateLive = true) (hstep : (s.dom d).step = some g) (hsent : g.sentAt.isSome = true) (hrise : g.rising = false)
    (hv : s.codeValid d (s.gradeCode d g.dest) = true) (hw : s.justWritten (fDOM_VSET_CODE d) = false) : Runs (.grdAck d false) s fun u =>
      u.get (fCAP_DGRADE_NOW d) = g.dest % 16 ∧ (u.dom d).step = none ∧ u.get (fDOM_VSET_CODE d) = s.gradeCode d g.dest ∧
      (s.isOn d = true → (s.dom d).phase = .rest → LiftOnly s u [DOM_VSET d, CAP_DGRADE d]) := by
  have hcode := gradeCode_gradeTaken s d g g.dest
  have haccepted : (s.gradeTaken d g).gradeTarget d g.dest = (s.gradeTaken d g).setTarget d (s.gradeCode d g.dest) := by
    have hvalid : (s.gradeTaken d g).codeValid d ((s.gradeTaken d g).gradeCode d g.dest) = true := by rw [hcode, codeValid_gradeTaken, hv]
    rw [gradeTarget_accepted hvalid hw, hcode]
  have hexec := exec_grdAck_taken hlive hstep hsent
  rw [hrise, if_neg Bool.false_ne_true, haccepted] at hexec
  obtain ⟨hnow, hnone, hvset, hframe⟩ := lower_commanded s d g (code_le_of_codeValid hv) (pll_of_gateLive hlive)
  exact ⟨_, hexec, hnow, hnone, hvset, fun _ => hframe⟩

theorem grdAck_refused_first (hlive : s.gateLive = true) (hstep : (s.dom d).step = some g) (hsent : g.sentAt.isSome = true)
    (hre : g.reissued = false) : Runs (.grdAck d true) s fun u =>
      u.dom d = { s.dom d with step := some { g with reissued := true, sentAt := some s.now } } ∧ u = { s with doms := u.doms } := by
  refine ⟨_, exec_grdAck_refused hlive hstep hsent, ?_⟩
  rw [gradeFails_first hre, hlive, if_pos rfl]
  exact ⟨dom_updDom_same _ _ _, rfl⟩

theorem grdAck_stray (err : Bool) (hlive : s.gateLive = true) (hnone : (s.dom d).step = none) : Runs (.grdAck d err) s fun u =>
    u.get fCAP_GRD_STRAY_COUNT = min (2 ^ 32 - 1) (s.get fCAP_GRD_STRAY_COUNT + 1) ∧ OnlyRegs s u [CAP_GRD_STRAY] := by
  refine ⟨_, exec_grdAck_stray err hlive hnone, ?_, ⟨_, _, rfl⟩, fun o ho => ?_⟩
  · rw [get_addSat _ _ _ (by decide)]
    rfl
  · exact reg_put_ne _ _ _ _ (by simpa using ho)

theorem gradeAckTimeout_early (hstep : (s.dom d).step = some g) (hsent : g.sentAt = some a) (h : s.now < a + 2000) :
    exec (.gradeAckTimeout d) s = .next s := by
  rw [exec_gradeAckTimeout_of_sent hstep hsent, if_neg (by omega)]

theorem gradeAckTimeout_first (hstep : (s.dom d).step = some g) (hsent : g.sentAt = some a) (h : a + 2000 ≤ s.now) (hre : g.reissued = false) :
    Runs (.gradeAckTimeout d) s fun u => u.dom d = { s.dom d with
      step := some { g with reissued := true, sentAt := if s.gateLive then some s.now else none } } ∧ u = { s with doms := u.doms } := by
  refine ⟨s.gradeFails d g, by rw [exec_gradeAckTimeout_of_sent hstep hsent, if_pos h], ?_⟩
  rw [gradeFails_first hre]
  exact ⟨dom_updDom_same _ _ _, rfl⟩

/-- A raise step that is judged anew after the fault is cleared may be abandoned, which leaves CAP_DGRADE as it is. -/
theorem gradeFaultClear_runs (hs : Served p (CAP_DGRADE d) s) (hreq : s.get (fCAP_DGRADE_REQ d) ≤ s.gradeMax d) :
    Runs (.gradeFaultClear p d) s fun u =>
      u.on (fCAP_DGRADE_FAULT d) = (s.on (fCAP_DGRADE_FAULT d) && (s.freshBits (CAP_DGRADE d)).getLsbD 30) ∧
      u.get (fCAP_DGRADE_REQ d) = s.get (fCAP_DGRADE_REQ d) ∧ u.on (fCAP_DGRADE_GCTL d) = s.on (fCAP_DGRADE_GCTL d) ∧
      u.get (fCAP_DGRADE_NOW d) = s.get (fCAP_DGRADE_NOW d) ∧ u.bus = { slverr := false, data := 0 } ∧
      ((s.dom d).step = none → OnlyRegs { s with bus := { slverr := false, data := 0 } } u [CAP_DGRADE d]) := by
  obtain ⟨hfault, hreqs, hctl, hnow⟩ := faultCleared_fields s (p = .core) d
  have hdata := onlyRegs_faultCleared s (p = .core) d
  have hexec := exec_gradeFaultClear p hs hreq
  generalize s.faultCleared (p = .core) d = v at hfault hreqs hctl hnow hdata hexec
  have hreg : ((v.abandonRaise d).okay 0).reg (CAP_DGRADE d) = v.reg (CAP_DGRADE d) :=
    (keeps_abandonRaise (p := false) v d.isLt fun h => absurd h (by decide)).regs _ (held_dgrade false d.isLt)
  refine ⟨_, hexec, (on_of_reg (fCAP_DGRADE_FAULT d) hreg).trans hfault, (get_of_reg (fCAP_DGRADE_REQ d) hreg).trans hreqs,
    (on_of_reg (fCAP_DGRADE_GCTL d) hreg).trans hctl, (get_of_reg (fCAP_DGRADE_NOW d) hreg).trans hnow, rfl, fun hnone => ?_⟩
  obtain ⟨⟨r, c, hv⟩, hregs⟩ := hdata
  have hnoneV : (v.dom d).step = none := by
    rw [hv]
    exact hnone
  rw [abandonRaise_of_effStands (.of_step_none hnoneV)]
  exact ⟨⟨r, c, by rw [hv]; rfl⟩, hregs⟩

end Sys2Proof.Machine
end

section

open Sys2Proof Sys2Proof.Machine

/-- Settles O52: each command of a grade step, case by case. What completes with a commanded voltage leaves the step and the grades, for lclk
runs while the ports are sampled. -/
theorem grades : Obligations.Grades := by
  unfold Obligations.Grades
  intro s d p g a err
  refine ⟨fun h => ⟨exec_gradeStepStart_idle (.inl h), exec_grdAck_unsampled err h⟩, fun h => exec_gradeStepStart_idle (.inr h), ?_, ?_, ?_,
    fun hs hreq => gradeFaultClear_runs hs hreq⟩
  · intro hlive hctl hfault hdom
    have hmay : MayStep s d := ⟨hlive, hctl, hfault, hdom⟩
    exact ⟨fun hnone hdue => ⟨gradeStepStart_down hmay hnone hdue, gradeStepStart_up hmay hnone hdue, exec_gradeStepStart_level hmay hnone⟩,
      fun hstep hsent hrise => ⟨gradeStepStart_ask hmay hstep hsent hrise, gradeStepStart_abandon hmay hstep hsent hrise⟩⟩
  · intro hlive
    exact ⟨fun hstep hsent => ⟨grdAck_up hlive hstep hsent, grdAck_down hlive hstep hsent, grdAck_refused_first hlive hstep hsent,
      fun hre => ⟨_, exec_grdAck_refused hlive hstep hsent, gradeFails_again hre⟩⟩, grdAck_stray err hlive⟩
  · intro hstep hsent
    refine ⟨gradeAckTimeout_early hstep hsent, gradeAckTimeout_first hstep hsent, fun h hre => ⟨s.gradeFails d g, ?_, gradeFails_again hre⟩⟩
    rw [exec_gradeAckTimeout_of_sent hstep hsent, if_pos h]

end

section
/-!
SUPPORT. The reference of the IB stage, its target and its soft start (R320, R329, R330, R355), and the release of power-on
reset, which begins one (R79).
-/

namespace Sys2Proof.Machine

variable {s t u : State}

/-! ### The reference and the target -/

/-- A change of the reference: IBS_TGT but for TARGET, and how the reference moves. -/
structure RefMoved (s t : State) : Prop where
  data : ∃ uv a b r, t = { s with ib := { s.ib with refUv := uv, refAt := a, ramping := b }, regs := r }
  regs : SameRegs s t [IBS_TGT]
  target : t.get fIBS_TGT_TARGET = s.get fIBS_TGT_TARGET

theorem RefMoved.refl (s : State) : RefMoved s s := ⟨⟨_, _, _, _, rfl⟩, .refl s _, rfl⟩

theorem RefMoved.trans (h : RefMoved s t) (k : RefMoved t u) : RefMoved s u := by
  refine ⟨?_, h.regs.trans k.regs, k.target.trans h.target⟩
  obtain ⟨uv, a, b, r, ht⟩ := h.data
  obtain ⟨uv', a', b', r', hu⟩ := k.data
  exact ⟨uv', a', b', r', by rw [hu, ht]⟩

theorem refMoved_setRef (s : State) (uv : Nat) : RefMoved s (s.setRef uv) :=
  ⟨⟨uv, s.now, s.ib.ramping, _, rfl⟩,
    ((SameRegs.refl s [IBS_TGT]).ofRegs (u := s.updIb fun h => { h with refUv := uv, refAt := s.now }) rfl).put (f := fIBS_TGT_REF) _ (by simp),
    get_put_apart _ fIBS_TGT_REF fIBS_TGT_TARGET _ rfl (.inl (by decide))⟩

theorem refMoved_moveRef (s : State) : RefMoved s s.moveRef := by
  unfold State.moveRef
  split
  · exact ⟨⟨s.ib.refUv, s.now, s.ib.ramping, s.regs, rfl⟩, (SameRegs.refl s _).ofRegs rfl, rfl⟩
  · dsimp only
    generalize (if s.ib.refUv < s.refGoal then min s.refGoal (s.ib.refUv + s.refTravel) else max s.refGoal (s.ib.refUv - s.refTravel)) = r
    have hset := refMoved_setRef s r
    split
    · exact hset.trans ⟨⟨_, _, false, _, rfl⟩, (SameRegs.refl _ _).ofRegs rfl, rfl⟩
    · exact hset

/-- A reference moved at this instant already stays where it is. -/
theorem refUv_moveRef_same (h : s.ib.refAt = s.now) : s.moveRef.ib.refUv = s.ib.refUv := by
  have htravel : s.refTravel = 0 := by
    unfold State.refTravel
    rw [h, Nat.sub_self, Nat.mul_zero, Nat.zero_div]
  have hstay : (if s.ib.refUv < s.refGoal then min s.refGoal (s.ib.refUv + s.refTravel) else max s.refGoal (s.ib.refUv - s.refTravel)) = s.ib.refUv := by
    rw [htravel]
    split <;> omega
  unfold State.moveRef
  split
  · rfl
  · dsimp only
    rw [hstay]
    split <;> rfl

theorem refMoved_ibRamp (s : State) : RefMoved s s.ibRamp :=
  (refMoved_moveRef s).trans ⟨⟨_, _, true, _, rfl⟩, (SameRegs.refl _ _).ofRegs rfl, rfl⟩

/-- A change of the IB stage's history, of registers listed, and of what events touch. -/
def IbMoved (l : List Nat) (s t : State) : Prop :=
  (∃ i r b v p c, t = { s with ib := i, regs := r, book := b, trv := v, pins := p, cyc := c }) ∧ SameRegs s t l

theorem IbMoved.trans {l : List Nat} (h : IbMoved l s t) (k : IbMoved l t u) : IbMoved l s u := by
  obtain ⟨⟨i, r, b, v, p, c, ht⟩, hregs⟩ := h
  obtain ⟨⟨i', r', b', v', p', c', hu⟩, kregs⟩ := k
  exact ⟨⟨i', r', b', v', p', c', by rw [hu, ht]⟩, hregs.trans kregs⟩

theorem IbMoved.mono {l m : List Nat} (h : IbMoved l s t) (hs : l ⊆ m) : IbMoved m s t := ⟨h.1, h.2.mono hs⟩

theorem IbMoved.onlyEvents {l : List Nat} (h : IbMoved l s t) : OnlyEvents { s with ib := t.ib } t l := by
  obtain ⟨⟨i, r, b, v, p, c, rfl⟩, hregs⟩ := h
  exact ⟨⟨r, b, v, p, c, rfl⟩, hregs⟩

theorem ibMoved_ib (s : State) (l : List Nat) (i : IbHid) : IbMoved l s { s with ib := i } :=
  ⟨⟨i, _, _, _, _, _, rfl⟩, (SameRegs.refl s _).ofRegs rfl⟩

theorem ibMoved_put (s : State) {l : List Nat} {f : Fld} (n : Nat) (hf : f.off ∈ l) : IbMoved l s (s.put f n) :=
  ⟨⟨s.ib, _, _, _, _, _, rfl⟩, (SameRegs.refl s _).put n hf⟩

theorem RefMoved.ibMoved (h : RefMoved s t) : IbMoved [IBS_TGT] s t := by
  obtain ⟨uv, a, b, r, ht⟩ := h.data
  exact ⟨⟨_, r, _, _, _, _, ht⟩, h.regs⟩

theorem RefMoved.vselForce (h : RefMoved s t) : t.ib.vselForce = s.ib.vselForce := by
  obtain ⟨uv, a, b, r, rfl⟩ := h.data
  rfl

/-- A target in force: the source value within the cadastre's limits (R329). -/
theorem setIbTarget_spec (s : State) (code : Nat) :
    (s.setIbTarget code).get fIBS_TGT_TARGET = clampN (s.get fCAD_IB_IBMIN) (s.get fCAD_IB_IBMAX) code % 2048 ∧
    (s.setIbTarget code).ib.vselForce = s.ib.vselForce ∧ IbMoved (eventRegs 11 ++ [IBS_TGT]) s (s.setIbTarget code) := by
  have hmoved : RefMoved s (if clampN (s.get fCAD_IB_IBMIN) (s.get fCAD_IB_IBMAX) code = s.get fIBS_TGT_TARGET then s else s.moveRef) := by
    split
    · exact .refl s
    · exact refMoved_moveRef s
  unfold State.setIbTarget
  dsimp only
  generalize (if clampN (s.get fCAD_IB_IBMIN) (s.get fCAD_IB_IBMAX) code = s.get fIBS_TGT_TARGET then s else s.moveRef) = u at hmoved
  generalize clampN (s.get fCAD_IB_IBMIN) (s.get fCAD_IB_IBMAX) code = target
  obtain ⟨w, hw⟩ : ∃ w, w = (u.put fIBS_TGT_TARGET target).updIb fun h => { h with clip := decide (target ≠ code) } := ⟨_, rfl⟩
  have htarget : w.get fIBS_TGT_TARGET = target % 2048 := by
    rw [hw]
    exact get_put u fIBS_TGT_TARGET target (by decide)
  have hput : IbMoved [IBS_TGT] u w := by
    rw [hw]
    exact (ibMoved_put u (f := fIBS_TGT_TARGET) target (by simp)).trans (ibMoved_ib _ _ _)
  have hforce : w.ib.vselForce = s.ib.vselForce := by
    rw [← hmoved.vselForce, hw]
    rfl
  rw [← hw]
  generalize (decide (target ≠ code) && !s.ib.clip) = c
  have hregs := sameRegs_raiseIf w c evIBS_TGT_CLIP 0xFFFF
  obtain ⟨r, b, v, p, cy, hraise⟩ := evOnly_raiseIf w c evIBS_TGT_CLIP 0xFFFF
  refine ⟨?_, ?_, ((hmoved.ibMoved.trans hput).mono (by simp)).trans (IbMoved.mono ⟨⟨_, r, b, v, p, cy, hraise⟩, hregs⟩ (by simp))⟩
  · rw [get_of_reg fIBS_TGT_TARGET (hregs _ (by decide)), htarget]
  · rw [hraise]
    exact hforce

/-- The VSEL value in force, and where SRC selects VSEL the target that its stored code gives (R320). -/
theorem applyVsel_spec (s : State) (v : Nat) :
    (s.applyVsel v).ib.vselForce = v ∧
    (s.get fIBS_CTL_SRC = 0 → (s.applyVsel v).get fIBS_TGT_TARGET =
      clampN (s.get fCAD_IB_IBMIN) (s.get fCAD_IB_IBMAX) (s.get (fIBS_VSEL_CODE v)) % 2048) ∧
    IbMoved (eventRegs 11 ++ [IBS_TGT]) s (s.applyVsel v) := by
  obtain ⟨u, hu⟩ : ∃ u, u = s.updIb fun h => { h with vselForce := v } := ⟨_, rfl⟩
  have hforce : u.ib.vselForce = v := by rw [hu]; rfl
  have hmoved : IbMoved (eventRegs 11 ++ [IBS_TGT]) s u := by
    rw [hu]
    exact ibMoved_ib s _ _
  unfold State.applyVsel
  dsimp only
  rw [← hu]
  obtain ⟨htarget, hkeep, hset⟩ := setIbTarget_spec u (s.get (fIBS_VSEL_CODE v))
  have hlimits : u.get fCAD_IB_IBMIN = s.get fCAD_IB_IBMIN ∧ u.get fCAD_IB_IBMAX = s.get fCAD_IB_IBMAX := by
    rw [hu]
    exact ⟨rfl, rfl⟩
  rw [hlimits.1, hlimits.2] at htarget
  split
  · exact ⟨hkeep.trans hforce, fun _ => htarget, hmoved.trans hset⟩
  · next hsrc => exact ⟨hforce, fun h => absurd h hsrc, hmoved⟩

/-! ### Soft start -/

theorem clearLimits_phases (s : State) : ∃ ph, s.clearLimits = { s with ib := { s.ib with phases := ph } } := by
  unfold State.clearLimits forEach
  generalize upTo 16 = l
  induction l generalizing s with
  | nil => exact ⟨s.ib.phases, rfl⟩
  | cons p l ih =>
    obtain ⟨ph, h⟩ := ih (s.updPhase p fun h => { h with limSince := none })
    exact ⟨ph, by rw [List.foldl_cons, h]; rfl⟩

theorem setP_foldl (l : List Nat) (hl : ∀ p ∈ l, p < 16) (step : State → Nat → State)
    (hstep : ∀ s p, step s p = s ∨ ∃ m, step s p = s.setP p m) (s : State) :
    ∃ r, l.foldl step s = { s with regs := r } ∧ SameRegs s (l.foldl step s) ((upTo 16).map IBS_PSTAT) := by
  induction l generalizing s with
  | nil => exact ⟨s.regs, rfl, .refl s _⟩
  | cons p l ih =>
    obtain ⟨r, h, hregs⟩ := ih (fun q hq => hl q (by simp [hq])) (step s p)
    have hmem : IBS_PSTAT p ∈ (upTo 16).map IBS_PSTAT := List.mem_map_of_mem (List.mem_range.mpr (hl p (by simp)))
    rw [List.foldl_cons]
    rcases hstep s p with hs | ⟨m, hs⟩
    · rw [hs] at h hregs ⊢
      exact ⟨r, h, hregs⟩
    · refine ⟨r, by rw [h, hs]; rfl, SameRegs.trans ?_ hregs⟩
      rw [hs]
      exact (SameRegs.refl s _).put (f := fIBS_PSTAT_MODE p) m hmem

theorem hysModes_frame (s : State) :
    ∃ r, s.hysModes = { s with regs := r } ∧ SameRegs s s.hysModes ((upTo 16).map IBS_PSTAT) := by
  unfold State.hysModes forEach
  refine setP_foldl (upTo 16) (fun p hp => List.mem_range.mp hp) _ (fun u p => ?_) s
  dsimp only
  split
  · exact .inl rfl
  · split
    · exact .inr ⟨2, rfl⟩
    · split
      · exact .inl rfl
      · exact .inr ⟨3, rfl⟩

/-- The stage in a mode: of its state register only MODE and DE change. -/
theorem setIbMode_spec (s : State) {m : Nat} (hm : m < 8) :
    (s.setIbMode m).ibMode = m ∧ (s.setIbMode m).get fIBS_STATE_VSEL = s.get fIBS_STATE_VSEL ∧
    (s.setIbMode m).ib.vselForce = s.ib.vselForce ∧ IbMoved [IBS_STATE] s (s.setIbMode m) := by
  obtain ⟨w, hw⟩ : ∃ w, w = (s.put fIBS_STATE_MODE m).putB fIBS_STATE_DE false := ⟨_, rfl⟩
  have hmoved : IbMoved [IBS_STATE] s w := by
    rw [hw]
    exact (ibMoved_put s (f := fIBS_STATE_MODE) m (by simp)).trans (ibMoved_put _ (f := fIBS_STATE_DE) (b2n false) (by simp))
  have hforce : w.ib.vselForce = s.ib.vselForce := by
    rw [hw]
    rfl
  have hmode : w.get fIBS_STATE_MODE = m := by
    rw [hw, get_putB_apart _ fIBS_STATE_DE fIBS_STATE_MODE _ rfl (.inr (by decide)), get_put _ _ _ (by decide)]
    exact Nat.mod_eq_of_lt hm
  have hvsel : w.get fIBS_STATE_VSEL = s.get fIBS_STATE_VSEL := by
    rw [hw, get_putB_apart _ fIBS_STATE_DE fIBS_STATE_VSEL _ rfl (.inr (by decide)),
      get_put_apart _ fIBS_STATE_MODE fIBS_STATE_VSEL _ rfl (.inl (by decide))]
  rw [State.setIbMode, ← hw]
  exact ⟨hmode, hvsel, hforce, hmoved.trans (ibMoved_ib w _ _)⟩

/-- A soft start from an IB reading: the reference starts there and rises at RAMP; the target and the VSEL setting stand (R355). -/
theorem ibSoftStart_spec (s : State) (uv : Nat) :
    (s.ibSoftStart uv).ibMode = 1 ∧ (s.ibSoftStart uv).get fIBS_STATE_VSEL = s.get fIBS_STATE_VSEL ∧
    (s.ibSoftStart uv).get fIBS_TGT_TARGET = s.get fIBS_TGT_TARGET ∧ (s.ibSoftStart uv).ib.refUv = uv ∧ (s.ibSoftStart uv).ib.ramping = true ∧
    (s.ibSoftStart uv).ib.vselForce = s.ib.vselForce ∧ IbMoved ([IBS_STATE, IBS_TGT] ++ (upTo 16).map IBS_PSTAT) s (s.ibSoftStart uv) := by
  obtain ⟨a, ha⟩ : ∃ a, a = s.clearLimits.setIbMode 1 := ⟨_, rfl⟩
  obtain ⟨ph, hph⟩ := clearLimits_phases s
  obtain ⟨hmode, hvsel, hforce, hstate⟩ := setIbMode_spec s.clearLimits (m := 1) (by decide)
  have hclear : IbMoved [IBS_STATE] s s.clearLimits := by
    rw [hph]
    exact ibMoved_ib s _ _
  have hclearForce : s.clearLimits.ib.vselForce = s.ib.vselForce := by rw [hph]
  have hclearRegs : SameRegs s s.clearLimits [] := (SameRegs.refl s _).ofRegs (by rw [hph])
  rw [← ha] at hmode hvsel hforce hstate
  rw [get_of_reg fIBS_STATE_VSEL (hclearRegs _ (by simp))] at hvsel
  have htargetA : a.get fIBS_TGT_TARGET = s.get fIBS_TGT_TARGET := get_of_reg _ ((hclear.trans hstate).2 _ (by decide))
  obtain ⟨b, hb⟩ : ∃ b, b = (a.setRef uv).ibRamp := ⟨_, rfl⟩
  have href : RefMoved a b := by
    rw [hb]
    exact (refMoved_setRef a uv).trans (refMoved_ibRamp _)
  have huv : b.ib.refUv = uv := by
    rw [hb]
    exact refUv_moveRef_same (s := a.setRef uv) rfl
  have hramp : b.ib.ramping = true := by
    rw [hb]
    rfl
  obtain ⟨c, hc⟩ : ∃ c, c = b.updIb fun h => { h with ssWait := none, hysWait := [], ssFrom := uv, ssAt := s.now } := ⟨_, rfl⟩
  have hcRegs : c.regs = b.regs := by
    rw [hc]
    rfl
  have hcIb : c.ib.refUv = uv ∧ c.ib.ramping = true ∧ c.ib.vselForce = s.ib.vselForce := by
    rw [hc]
    exact ⟨huv, hramp, href.vselForce.trans (hforce.trans hclearForce)⟩
  have hbc : IbMoved ([IBS_STATE, IBS_TGT] ++ (upTo 16).map IBS_PSTAT) b c := by
    rw [hc]
    exact ibMoved_ib b _ _
  have hac : SameRegs a c [IBS_TGT] := href.regs.ofRegs hcRegs
  have htargetC : c.get fIBS_TGT_TARGET = a.get fIBS_TGT_TARGET := by
    rw [← href.target, hc]
    rfl
  have heq : s.ibSoftStart uv = c.hysModes := by rw [State.ibSoftStart, ← ha, ← hb, ← hc]
  obtain ⟨r, hr, hregs⟩ := hysModes_frame c
  have hib : c.hysModes.ib = c.ib := by rw [hr]
  obtain ⟨hcUv, hcRamp, hcForce⟩ := hcIb
  rw [heq, hib]
  refine ⟨?_, ?_, ?_, hcUv, hcRamp, hcForce, ?_⟩
  · rw [State.ibMode, get_of_reg fIBS_STATE_MODE ((hregs _ (by decide)).trans (hac _ (by decide)))]
    exact hmode
  · rw [get_of_reg fIBS_STATE_VSEL ((hregs _ (by decide)).trans (hac _ (by decide))), hvsel]
  · rw [get_of_reg fIBS_TGT_TARGET (hregs _ (by decide)), htargetC, htargetA]
  · exact (((hclear.trans hstate).mono (by simp)).trans (href.ibMoved.mono (by simp))).trans
      (hbc.trans ⟨⟨_, r, _, _, _, _, hr⟩, hregs.mono (by simp)⟩)

end Sys2Proof.Machine
end

section
/-!
O17. Power-on reset and its release (R79, R304, R355, R445).
-/

namespace Sys2Proof.Machine

/-- The state in which a release of power-on reset has let the pins count, before Monument starts (R304, R445). -/
def State.released (s : State) : State :=
  { s with
    por := false
    pst := { s.pst with wakeNFrom := if s.pins.wakeN then some s.now else none }
    cap := { s.cap with thrFrom := if s.cap.throttle then some s.now else none } }

theorem exec_porRelease (s : State) (r : VblkRise) (v : Fin 8) : exec (.porRelease r v) s =
    .next (if s.porOver r.riseAt then ((s.released.put fIBS_STATE_VSEL v).applyVsel v).ibSoftStart r.ibUv else s) := rfl

/-- Monument's start: the setting accepted, its stored code the target, and a soft start from the IB reading (R355, R620). -/
theorem monumentStarts (s : State) (v : Fin 8) (uv : Nat) :
    let t := ((s.put fIBS_STATE_VSEL v).applyVsel v).ibSoftStart uv
    t.por = s.por ∧ t.get fIBS_STATE_VSEL = v.val ∧ t.ibMode = 1 ∧
    (s.get fIBS_CTL_SRC = 0 → t.get fIBS_TGT_TARGET =
      clampN (s.get fCAD_IB_IBMIN) (s.get fCAD_IB_IBMAX) (s.get (fIBS_VSEL_CODE v.val)) % 2048) ∧
    t.ib.refUv = uv ∧ t.ib.ramping = true ∧ t.ib.vselForce = v.val ∧
    OnlyEvents { s with ib := t.ib } t (eventRegs 11 ++ [IBS_STATE, IBS_TGT] ++ (upTo 16).map IBS_PSTAT) := by
  have hcode : IBS_VSEL v ≠ IBS_STATE := by
    revert v
    decide
  obtain ⟨a, ha⟩ : ∃ a, a = s.put fIBS_STATE_VSEL v := ⟨_, rfl⟩
  have hsetting : a.get fIBS_STATE_VSEL = v.val := by
    rw [ha, get_put _ _ _ (by decide)]
    exact Nat.mod_eq_of_lt v.isLt
  have hmovedA : IbMoved [IBS_STATE] s a := by
    rw [ha]
    exact ibMoved_put s (f := fIBS_STATE_VSEL) _ (by simp)
  have hgets : a.get fIBS_CTL_SRC = s.get fIBS_CTL_SRC ∧ a.get fCAD_IB_IBMIN = s.get fCAD_IB_IBMIN ∧
      a.get fCAD_IB_IBMAX = s.get fCAD_IB_IBMAX ∧ a.get (fIBS_VSEL_CODE v) = s.get (fIBS_VSEL_CODE v) :=
    ⟨get_of_reg _ (hmovedA.2 _ (by decide)), get_of_reg _ (hmovedA.2 _ (by decide)), get_of_reg _ (hmovedA.2 _ (by decide)),
      get_of_reg (fIBS_VSEL_CODE v) (hmovedA.2 _ (by simpa using hcode))⟩
  obtain ⟨hsrc, hmin, hmax, hvsel⟩ := hgets
  obtain ⟨hforce, htarget, hmovedB⟩ := applyVsel_spec a v
  rw [hsrc, hmin, hmax, hvsel] at htarget
  obtain ⟨hmode, hkeepVsel, hkeepTarget, huv, hramp, hkeepForce, hmovedC⟩ := ibSoftStart_spec (a.applyVsel v) uv
  rw [← ha]
  dsimp only
  have hstate : (a.applyVsel v).get fIBS_STATE_VSEL = v.val := (get_of_reg _ (hmovedB.2 _ (by decide))).trans hsetting
  have hmoved : IbMoved (eventRegs 11 ++ [IBS_STATE, IBS_TGT] ++ (upTo 16).map IBS_PSTAT) s ((a.applyVsel v).ibSoftStart uv) :=
    (hmovedA.mono (by simp)).trans ((hmovedB.mono (by simp)).trans (hmovedC.mono (by simp)))
  refine ⟨?_, hkeepVsel.trans hstate, hmode, fun h => hkeepTarget.trans (htarget h), huv, hramp, hkeepForce.trans hforce, hmoved.onlyEvents⟩
  obtain ⟨⟨i, r, b, tr, p, c, h⟩, -⟩ := hmoved
  rw [h]

end Sys2Proof.Machine
end

section

open Sys2Proof Sys2Proof.Machine

/-- Settles O17: the reset state keeps what the pins tell; the release sets the accepted VSEL value, and the soft start begins. -/
theorem powerOnReset : Obligations.PowerOnReset := by
  unfold Obligations.PowerOnReset
  intro s rise uv v
  refine ⟨rfl, ⟨_, rfl, rfl, rfl, fun _ => rfl, fun k a => ?_⟩, fun hpor hfell hrise => ?_, fun h => ?_⟩
  · exact memByte_reset k a
  · have hover : s.porOver rise = true := by simp [State.porOver, hpor, hfell, hrise]
    refine ⟨_, by rw [exec_porRelease, if_pos hover], ?_⟩
    exact monumentStarts s.released v uv
  · have hover : s.porOver rise = false := by
      rcases h with h | h | h
      · simp [State.porOver, h]
      · simp [State.porOver, Nat.not_le.mpr h]
      · simp [State.porOver, Nat.not_le.mpr h]
    rw [exec_porRelease, hover, if_neg Bool.false_ne_true]

end

section
/-!
SUPPORT. Bursts that start at the end of a forced pause, the offsets that slew back, and the frames that leave on both lanes
(R19, R248, R292, R511).
-/

namespace Sys2Proof.Machine

variable {s t u : State}

/-! ### The end of a forced pause -/

theorem forcedEnds_frame (ts : List Nat) (hts : ∀ t ∈ ts, t < 64) (s : State) :
    ∃ r, s.forcedEnds ts = { s with regs := r } ∧ SameRegs s (s.forcedEnds ts) ((upTo 64).map CG_TSTAT) := by
  unfold State.forcedEnds
  induction ts generalizing s with
  | nil => exact ⟨s.regs, rfl, .refl s _⟩
  | cons t ts ih =>
    have hmem : CG_TSTAT t ∈ (upTo 64).map CG_TSTAT := List.mem_map_of_mem (List.mem_range.mpr (hts t (by simp)))
    have htail : ∀ k ∈ ts, k < 64 := fun k hk => hts k (by simp [hk])
    rw [List.foldl_cons]
    split
    · obtain ⟨r, h, hregs⟩ := ih htail (s.putB (fCG_TSTAT_BURST t) true)
      exact ⟨r, h, ((SameRegs.refl s _).putB (f := fCG_TSTAT_BURST t) true hmem).trans hregs⟩
    · exact ih htail s

/-- Of the tracts whose forced pause ends, those with a pending count make a burst start (R248). -/
theorem burst_forcedEnds (s : State) (ts : List Nat) (k : Nat) : (s.forcedEnds ts).on (fCG_TSTAT_BURST k) =
    (s.on (fCG_TSTAT_BURST k) || (decide (0 < s.get (fCG_TSTAT_PEND k)) && decide (k ∈ ts))) := by
  unfold State.forcedEnds
  induction ts generalizing s with
  | nil => simp
  | cons t ts ih =>
    rw [List.foldl_cons, ih]
    by_cases hk : k = t
    · subst hk
      by_cases hp : 0 < s.get (fCG_TSTAT_PEND k)
      · rw [if_pos hp, on_putB_same _ (fCG_TSTAT_BURST k) _ (by simp) rfl]
        simp [hp]
      · rw [if_neg hp]
        simp [hp]
    · have hmem : k ∈ t :: ts ↔ k ∈ ts := by simp [hk]
      have hne : CG_TSTAT k ≠ CG_TSTAT t := by unfold CG_TSTAT; omega
      rw [decide_eq_decide.mpr hmem]
      split
      · rw [on_putB_reg _ (fCG_TSTAT_BURST t) (fCG_TSTAT_BURST k) _ hne, get_putB_reg _ (fCG_TSTAT_BURST t) (fCG_TSTAT_PEND k) _ hne]
      · rfl

/-- The state of a domain rests on DOM_MAP and DOM_DSTAT. -/
theorem domState_congr (hmap : ∀ k, t.reg (DOM_MAP k) = s.reg (DOM_MAP k)) (hstat : ∀ d, t.reg (DOM_DSTAT d) = s.reg (DOM_DSTAT d)) (d : Nat) :
    t.domState d = s.domState d := by
  have hdom (k : Nat) : t.domOf k = s.domOf k := get_of_reg (fDOM_MAP_DOM k) (hmap k)
  have htracts : t.tractsOf d = s.tractsOf d := List.filter_congr fun k _ => by rw [hdom]
  rw [State.domState, htracts, get_of_reg (fDOM_DSTAT_STATE d) (hstat d), State.domState]

theorem cgTstat_apart {o : Nat} (h : o < 0x39004 ∨ 0x39400 ≤ o) : o ∉ (upTo 64).map CG_TSTAT := by
  intro hmem
  obtain ⟨k, hk, rfl⟩ := List.mem_map.mp hmem
  have := List.mem_range.mp hk
  unfold CG_TSTAT at h
  omega

/-- The forced pauses of Table 5.3 do not rest on CG_TSTAT. -/
theorem forcedPause_of_cgTstat {r : Tbl Word} (ht : t = { s with regs := r }) (hregs : SameRegs s t ((upTo 64).map CG_TSTAT)) (k : Nat) :
    t.forcedPause k = s.forcedPause k := by
  have hlocked : t.locked = s.locked := on_of_reg fCAD_LOCK_LOCKED (hregs _ (cgTstat_apart (by decide)))
  have hshut : t.shut = s.shut := on_of_reg fTHM_STATE_SHUT (hregs _ (cgTstat_apart (by decide)))
  have hmap (j : Nat) : t.reg (DOM_MAP j) = s.reg (DOM_MAP j) := hregs _ (cgTstat_apart (.inr (by unfold DOM_MAP; omega)))
  have hstat (j : Nat) : t.reg (DOM_DSTAT j) = s.reg (DOM_DSTAT j) := hregs _ (cgTstat_apart (.inr (by unfold DOM_DSTAT; omega)))
  have hon : t.isOn (t.domOf k) = s.isOn (s.domOf k) := by
    rw [State.isOn, State.isOn, domState_congr hmap hstat, show t.domOf k = s.domOf k from get_of_reg (fDOM_MAP_DOM k) (hmap k)]
  have hhid : t.cg = s.cg ∧ t.now = s.now ∧ t.pins = s.pins ∧ t.lclk = s.lclk ∧ t.core = s.core ∧ t.pst = s.pst := by
    rw [ht]
    exact ⟨rfl, rfl, rfl, rfl, rfl, rfl⟩
  obtain ⟨hcg, hnow, hpins, hclk, hcore, hpst⟩ := hhid
  unfold State.forcedPause
  rw [hcg, hnow, hpins, hclk, hcore, hpst, hlocked, hshut, hon]

/-! ### Offsets after a loss of SYNC_IN -/

/-- A cell's applied offset is its programmed one displaced, in 1/64 of its period. -/
def State.displace (s : State) (c : Nat) : State := s.put (fCEL_CFG_APPLIED c) ((s.get (fCEL_CFG_OFFSET c) + Config.openNat 64 [s.now]) % 64)

theorem offset_displace (s : State) (c k : Nat) : (s.displace c).get (fCEL_CFG_OFFSET k) = s.get (fCEL_CFG_OFFSET k) := by
  by_cases hk : k = c
  · exact get_put_apart s (fCEL_CFG_APPLIED c) (fCEL_CFG_OFFSET k) _ (by rw [hk]) (.inr (by simp))
  · exact get_put_reg s (fCEL_CFG_APPLIED c) (fCEL_CFG_OFFSET k) _ (by change CEL_CFG k ≠ CEL_CFG c; unfold CEL_CFG; omega)

theorem displace_foldl (l : List Nat) (hl : ∀ c ∈ l, c < 256) (s : State) :
    ∃ r, l.foldl State.displace s = { s with regs := r } ∧ SameRegs s (l.foldl State.displace s) ((upTo 256).map CEL_CFG) ∧
      ∀ k, (l.foldl State.displace s).get (fCEL_CFG_OFFSET k) = s.get (fCEL_CFG_OFFSET k) := by
  induction l generalizing s with
  | nil => exact ⟨s.regs, rfl, .refl s _, fun _ => rfl⟩
  | cons c l ih =>
    have hmem : CEL_CFG c ∈ (upTo 256).map CEL_CFG := List.mem_map_of_mem (List.mem_range.mpr (hl c (by simp)))
    obtain ⟨r, h, hregs, hoff⟩ := ih (fun k hk => hl k (by simp [hk])) (s.displace c)
    exact ⟨r, h, ((SameRegs.refl s _).put (f := fCEL_CFG_APPLIED c) _ hmem).trans hregs, fun k => (hoff k).trans (offset_displace s c k)⟩

/-! ### Frames that leave on both lanes -/

theorem outLane_congr (hl : t.locked = s.locked) (hh : ∀ l, t.trv.hopOf l = s.trv.hopOf l) (l : Nat) : t.outLane l = s.outLane l := by
  unfold State.outLane
  rw [hl, hh, hh]

theorem hopOf_setLane (h : TrvHid) (o l : Nat) (x : LaneHid) : (h.setLane o x).hopOf l = h.hopOf l := by
  unfold TrvHid.setLane
  split <;> rfl

theorem outLane_enqueue (s : State) (l k : Nat) (e : TxEntry) : (s.enqueue l e).outLane k = s.outLane k := by
  unfold State.enqueue
  split
  · rfl
  · refine outLane_congr ?_ (fun j => hopOf_setLane s.trv _ j _) k
    rfl

/-- A frame joins the queue of the lane that it leaves on. -/
theorem mem_enqueue {l k : Nat} (e : TxEntry) (h : s.outLane l = some k) : e ∈ ((s.enqueue l e).trv.lane k).txq := by
  unfold State.enqueue
  rw [h]
  dsimp only
  rw [lane_setLane, if_pos Iff.rfl]
  exact (mem_txInsert e e _).mpr (.inl rfl)

theorem trv_enqueue (s : State) (l : Nat) (e : TxEntry) : ∃ v, s.enqueue l e = { s with trv := v } := by
  unfold State.enqueue
  split
  · exact ⟨s.trv, rfl⟩
  · exact ⟨_, rfl⟩

/-- A frame that the die originates on both lanes changes the travel logic alone. -/
theorem originate_trv (s : State) (ty body : Nat) : ∃ v, s.originate 2 ty body = { s with trv := v } := by
  unfold State.originate
  dsimp only
  split
  · exact ⟨_, rfl⟩
  · obtain ⟨e, he⟩ : ∃ e : TxEntry, e = { word := frameWord ty s.dieIndex body, since := s.now, own := true, hop := 0 } := ⟨_, rfl⟩
    change ∃ v, (s.enqueue 0 _).enqueue 1 _ = _
    rw [← he]
    obtain ⟨v, h0⟩ := trv_enqueue s 0 e
    obtain ⟨w, h1⟩ := trv_enqueue (s.enqueue 0 e) 1 e
    exact ⟨w, by rw [h1, h0]⟩

/-- Outside the quiet window it waits on each lane that carries frames (R511, R514). -/
theorem originate_queued {l k : Nat} (ty body : Nat) (hq : s.quiet = false) (hl : l < 2) (h : s.outLane l = some k) :
    ∃ e ∈ ((s.originate 2 ty body).trv.lane k).txq, e.word = frameWord ty s.dieIndex body := by
  obtain ⟨e, he⟩ : ∃ e : TxEntry, e = { word := frameWord ty s.dieIndex body, since := s.now, own := true, hop := 0 } := ⟨_, rfl⟩
  have hsent : s.originate 2 ty body = (s.enqueue 0 e).enqueue 1 e := by
    unfold State.originate
    dsimp only
    rw [hq, Bool.false_and, if_neg Bool.false_ne_true, he]
    rfl
  refine ⟨e, ?_, by rw [he]⟩
  rw [hsent]
  obtain rfl | rfl : l = 0 ∨ l = 1 := by omega
  · exact queuesGrow_enqueue _ 1 e k e (mem_enqueue e h)
  · exact mem_enqueue e (by rw [outLane_enqueue, h])

/-! ### aon_state -/

theorem aon_setAon (s : State) (n : Nat) : (s.setAon n).aon = n % 8 := by
  obtain ⟨u, hu⟩ : ∃ u : State, u = { s.put fPST_STATE_STATE n with pins := { s.pins with pulseDue := s.pulseEnd n } } := ⟨_, rfl⟩
  have haon : u.get fPST_STATE_STATE = n % 8 := by
    rw [hu]
    exact get_put s fPST_STATE_STATE n (by decide)
  unfold State.setAon
  dsimp only
  rw [← hu]
  exact (get_put_reg u fMON_ACTIVE_ACT fPST_STATE_STATE _ (by decide)).trans haon

theorem SameRegs.ite {l : List Nat} {c : Prop} [Decidable c] (h : SameRegs s t l) (k : SameRegs s u l) : SameRegs s (if c then t else u) l := by
  split
  · exact h
  · exact k

/-- A VSEL value that is offered changes the target of the IB stage and its dwell, with their event. -/
theorem sameRegs_offerVsel (s : State) : SameRegs s s.offerVsel (eventRegs 11 ++ [IBS_TGT, IBS_STATE]) := by
  have happly (v : Nat) : SameRegs s (s.applyVsel v) (eventRegs 11 ++ [IBS_TGT, IBS_STATE]) := (applyVsel_spec s v).2.2.2.mono (by simp)
  have hchange (v : Nat) : SameRegs s (s.changeVsel v) (eventRegs 11 ++ [IBS_TGT, IBS_STATE]) := by
    have hdwell := (happly v).putB (f := fIBS_STATE_DWELL) false (by simp)
    unfold State.changeVsel
    dsimp only
    split
    · exact hdwell
    · exact hdwell.ofRegs rfl
  exact (SameRegs.refl s _).ite ((hchange _).ite ((SameRegs.refl s _).putB (f := fIBS_STATE_DWELL) true (by simp)))

theorem aon_enterRun (s : State) : s.enterRun.aon = 0 := by
  rw [State.aon, State.enterRun, get_of_reg fPST_STATE_STATE (sameRegs_offerVsel _ _ (by decide))]
  exact aon_setAon s 0

/-- Where no domain is commanded On, a wake waits for none (R306). -/
theorem aon_checkRun (hrun : s.pst.toRun = true) (hclk : s.lclk = true) (h : ∀ d, d < 32 → (s.dom d).commanded ≠ 1) : s.checkRun.aon = 0 := by
  have hall : (upTo 32).all s.settled = true := List.all_eq_true.mpr fun d hd => by
    simp [State.settled, h d (List.mem_range.mp hd)]
  rw [State.checkRun, if_pos (by rw [hrun, hclk, hall]; rfl)]
  exact aon_enterRun s

/-- A domain that is not commanded On does not resume (R306). -/
theorem resumeDomains_of_none (h : ∀ d, d < 32 → (s.dom d).commanded ≠ 1) : s.resumeDomains = s := by
  unfold State.resumeDomains
  have hfold (l : List Nat) (hl : ∀ d ∈ l, d < 32) (step : State → Nat → State) (hstep : ∀ d, d < 32 → step s d = s) : l.foldl step s = s := by
    induction l with
    | nil => rfl
    | cons d l ih => rw [List.foldl_cons, hstep d (hl d (by simp)), ih fun k hk => hl k (by simp [hk])]
  refine hfold _ (fun d hd => List.mem_range.mp hd) _ fun d hd => ?_
  dsimp only
  rw [if_pos (by simp [h d hd])]

end Sys2Proof.Machine
end

section
/-!
O18. The test wrapper, the host power pin, the reference clock and the clocks that start (R19, R83, R305, R306, R551).
-/

namespace Sys2Proof.Machine

variable {s : State}

/-! ### The test wrapper -/

/-- WS_BYPASS, or any instruction while WRSTN is low, leaves WS_BYPASS loaded. -/
theorem exec_wrap_reset {i : Instr} {b : WrapperPort} {n : Nat} (hi : exec i s = .next (s.wrap b n)) (h : b.wrstn = false ∨ n = 0) :
    exec i s = .next { s with pins := { s.pins with
      loaded := 0, wrapper := 0, port := b, wso := decide (Config.openNat 66 [s.now, (0 : Nat)] % 2 = 1) } } := by
  have hload : (if b.wrstn then n else 0) = 0 := by rcases h with h | h <;> simp [h]
  rw [hi, State.wrap, hload]
  simp only [ite_self]

theorem exec_wrap_load {i : Instr} {b : WrapperPort} {n : Nat} (hi : exec i s = .next (s.wrap b n)) (h : b.wrstn = true) :
    exec i s = .next { s with pins := { s.pins with
      loaded := n, wrapper := if b.testEn then n else 0, port := b, wso := decide (Config.openNat 66 [s.now, n] % 2 = 1) } } := by
  rw [hi, State.wrap, h, if_pos rfl]

/-! ### The host power pin and SYNC_IN -/

theorem exec_hostPwrgdRise_of_low (h : s.pins.hostPwrgd = false) : exec .hostPwrgdRise s =
    let s1 : State := { s with pins := { s.pins with hostPwrgd := true } }
    .next (s1.forcedEnds ((upTo 64).filter fun t => !s1.forcedPause t)) := by
  change execHostPwrgdRise s = _
  rw [execHostPwrgdRise, if_neg (by simp [h])]

theorem hostPwrgdRise_runs (h : s.pins.hostPwrgd = false) : Runs .hostPwrgdRise s fun t =>
    (∀ k, k < 64 → t.on (fCG_TSTAT_BURST k) = (s.on (fCG_TSTAT_BURST k) || (decide (0 < s.get (fCG_TSTAT_PEND k)) && !t.forcedPause k))) ∧
    OnlyRegs { s with pins := { s.pins with hostPwrgd := true } } t ((upTo 64).map CG_TSTAT) := by
  obtain ⟨u, hu⟩ : ∃ u : State, u = { s with pins := { s.pins with hostPwrgd := true } } := ⟨_, rfl⟩
  have hreg (f : Fld) : u.get f = s.get f ∧ u.on f = s.on f := by
    rw [hu]
    exact ⟨rfl, rfl⟩
  have hexec := exec_hostPwrgdRise_of_low h
  rw [← hu] at hexec ⊢
  obtain ⟨r, hr, hregs⟩ := forcedEnds_frame ((upTo 64).filter fun t => !u.forcedPause t)
    (fun t ht => List.mem_range.mp (List.mem_of_mem_filter ht)) u
  have hpause := forcedPause_of_cgTstat hr hregs
  have hburst := burst_forcedEnds u ((upTo 64).filter fun t => !u.forcedPause t)
  refine ⟨_, hexec, fun k hk => ?_, ⟨r, u.cyc, hr⟩, hregs⟩
  have hmem : k ∈ (upTo 64).filter (fun t => !u.forcedPause t) ↔ u.forcedPause k = false := by
    simp [List.mem_filter, upTo, hk]
  rw [hburst k, (hreg _).1, (hreg _).2, hpause k]
  cases hp : u.forcedPause k with
  | true => rw [decide_eq_false (mt hmem.mp (by simp [hp]))]; rfl
  | false => rw [decide_eq_true (hmem.mpr hp)]; rfl

theorem exec_syncInReturn_of_lost (hlost : s.clk.syncLost = true) (hback : s.clk.backAt = none) :
    exec .syncInReturn s = .next { s with clk := { s.clk with backAt := some s.nextPeriod } }.syncBack := by
  change execSyncInReturn s = _
  rw [execSyncInReturn, if_neg (by simp [hlost, hback])]

theorem syncInReturn_waits (hlost : s.clk.syncLost = true) (hback : s.clk.backAt = none) (h : s.now < s.nextPeriod) :
    exec .syncInReturn s = .next { s with clk := { s.clk with backAt := some s.nextPeriod } } := by
  rw [exec_syncInReturn_of_lost hlost hback, State.syncBack]
  dsimp only
  rw [if_neg (by omega)]

theorem syncInReturn_takes (hlost : s.clk.syncLost = true) (hback : s.clk.backAt = none) (h : s.nextPeriod ≤ s.now) :
    Runs .syncInReturn s fun t => (∀ c, c < 256 → t.get (fCEL_CFG_OFFSET c) = s.get (fCEL_CFG_OFFSET c)) ∧
      OnlyRegs { s with clk := { s.clk with syncLost := false, backAt := none, slewing := true }, ib := { s.ib with shift := t.ib.shift, shiftAt := s.now } } t
        ((upTo 256).map CEL_CFG) := by
  obtain ⟨a, ha⟩ : ∃ a, a = s.nextPeriod := ⟨_, rfl⟩
  have hexec := exec_syncInReturn_of_lost hlost hback
  rw [← ha] at hexec h
  obtain ⟨u, hu⟩ : ∃ u : State, u = { s with
      clk := { s.clk with syncLost := false, backAt := none, slewing := true }
      ib := { s.ib with shift := Config.openNat 65 [s.now] % 64, shiftAt := s.now } } := ⟨_, rfl⟩
  have hback : ({ s with clk := { s.clk with backAt := some a } } : State).syncBack = (upTo 256).foldl State.displace u := by
    rw [State.syncBack]
    dsimp only
    rw [if_pos h, forEach, hu]
    rfl
  obtain ⟨r, hr, hregs, hoff⟩ := displace_foldl (upTo 256) (fun c hc => List.mem_range.mp hc) u
  rw [hback] at hexec
  generalize (upTo 256).foldl State.displace u = t at hexec hr hregs hoff
  refine ⟨t, hexec, fun c _ => (hoff c).trans (by rw [hu]; rfl), ⟨r, s.cyc, by rw [hr, hu]⟩, fun o ho => (hregs o ho).trans (by rw [hu]; rfl)⟩

/-! ### The clocks that start -/

/-- The state in which the PLL has locked: gate_clk held for 16 ns, the period grid, and the converters' waits (R248, R331, R498). -/
def State.locks (s : State) : State :=
  { s with
    clk := { s.clk with pll := true, gateAt := s.now }
    cg := { s.cg with gateHold := some (s.now + 16), staggerAt := s.now, slotNo := none }
    ib := if s.ib.gridSet then s.ib else { s.ib with gridSet := true, periodAt := s.now }
    adc := { s.adc with bmAt := some s.now, altAt := if s.get fADC_CFG_REF = 0 then none else some s.now } }

/-- A PLL lock that takes effect: the clocks start out of reset or Off, or on a wake that has the fast oscillator (R305). -/
def MayLock (s : State) : Prop :=
  s.por = false ∧ s.clk.pll = false ∧ (s.pst.waking = true ∨ s.aon = 5) ∧ (s.pst.waking = true → s.clk.fastOsc = true ∧ s.pst.offCheck = false)

theorem exec_pllLock (h : MayLock s) : exec .pllLock s = .next (
    if s.aon = 5 then (if s.pst.waking then s.locks.clockBack.originate 2 11 0 else s.locks.clockBack).updPst fun p => { p with waking := false }
    else
      let u := (s.locks.clockBack.originate 2 11 0).resumeDomains
      (u.forcedEnds ((upTo 64).filter fun t => u.isOn (u.domOf t))).checkRun) := by
  obtain ⟨hpor, hpll, hwhy, hwake⟩ := h
  have hgo : ¬ (s.por || s.lclk || !(s.pst.waking || decide (s.aon = 5)) || (s.pst.waking && (!s.clk.fastOsc || s.pst.offCheck))) = true := by
    rw [State.lclk, hpor, hpll]
    cases hw : s.pst.waking with
    | true => simp [hwake hw]
    | false => simpa [hw] using hwhy
  change execPllLock s = _
  unfold execPllLock
  dsimp only
  rw [if_neg hgo]
  rfl

theorem locks_clockBack (s : State) :
    s.locks.clockBack.on fTRV_STATE_TSYNC = false ∧ OnlyRegs { s.locks with trv := { s.trv with okOffsets := 0, slewLeft := 0 } } s.locks.clockBack [TRV_STATE] := by
  have hregs : SameRegs s.locks (s.locks.putB fTRV_STATE_TSYNC false) [TRV_STATE] := (SameRegs.refl _ _).putB (f := fTRV_STATE_TSYNC) false (by simp)
  exact ⟨on_putB_same s.locks fTRV_STATE_TSYNC false (by decide) rfl, ⟨_, s.cyc, rfl⟩, hregs⟩

/-- The frame that tells of Run waits on every lane that carries frames (R305, R511). -/
theorem stateFrame_queued {l k : Nat} (hq : s.quiet = false) (hl : l < 2) (h : s.outLane l = some k) :
    ∃ e ∈ ((s.locks.clockBack.originate 2 11 0).trv.lane k).txq, e.word = frameWord 11 s.dieIndex 0 := by
  obtain ⟨-, ⟨r, c, hdata⟩, hregs⟩ := locks_clockBack s
  have hhop (j : Nat) : s.locks.clockBack.trv.hopOf j = s.trv.hopOf j := rfl
  have hlocked : s.locks.clockBack.locked = s.locked := on_of_reg fCAD_LOCK_LOCKED (hregs _ (by decide))
  have hindex : s.locks.clockBack.dieIndex = s.dieIndex := get_of_reg fTRV_CFG_INDEX (hregs _ (by decide))
  have hquiet : s.locks.clockBack.quiet = false := hq
  rw [← hindex]
  exact originate_queued 11 0 hquiet hl ((outLane_congr hlocked hhop l).trans h)

theorem pllLock_boot (h : MayLock s) (haon : s.aon = 5) : Runs .pllLock s fun t =>
    t.on fTRV_STATE_TSYNC = false ∧ t.adc.bmAt = some s.now ∧
    OnlyRegs { s.locks with trv := t.trv, pst := { s.pst with waking := false } } t [TRV_STATE] ∧
    (s.pst.waking = false → t.trv = { s.trv with okOffsets := 0, slewLeft := 0 }) ∧
    (s.pst.waking = true → s.quiet = false → ∀ l k, l < 2 → s.outLane l = some k → ∃ e ∈ (t.trv.lane k).txq, e.word = frameWord 11 s.dieIndex 0) := by
  have hexec := exec_pllLock h
  rw [if_pos haon] at hexec
  have hqueued := fun l k hq hl hk => stateFrame_queued (s := s) (l := l) (k := k) hq hl hk
  obtain ⟨htsync, ⟨r, c, hdata⟩, hregs⟩ := locks_clockBack s
  generalize s.locks.clockBack = u at hexec hqueued htsync hdata hregs
  obtain ⟨v, hv⟩ := originate_trv u 11 0
  have hsent : ∃ w, (if s.pst.waking then u.originate 2 11 0 else u) = { u with trv := w } ∧
      (s.pst.waking = false → w = u.trv) ∧ (s.pst.waking = true → w = (u.originate 2 11 0).trv) := by
    cases s.pst.waking with
    | true => exact ⟨v, by rw [if_pos rfl, hv], fun h => absurd h (by decide), fun _ => by rw [hv]⟩
    | false => exact ⟨u.trv, by rw [if_neg Bool.false_ne_true], fun _ => rfl, fun h => absurd h (by decide)⟩
  obtain ⟨w, hw, hquietly, hwaking⟩ := hsent
  rw [hw] at hexec
  refine ⟨_, hexec, htsync, ?_, ⟨⟨r, c, by rw [hdata]; rfl⟩, hregs⟩, fun hwake => ?_, fun hwake hq l k hl hk => ?_⟩
  · rw [hdata]
    rfl
  · change w = _
    rw [hquietly hwake, hdata]
  · change ∃ e ∈ (w.lane k).txq, _
    rw [hwaking hwake]
    exact hqueued l k hq hl hk

theorem pllLock_wake (h : MayLock s) (haon : s.aon ≠ 5) : Runs .pllLock s fun t =>
    t.clk = { s.clk with pll := true, gateAt := s.now } ∧ t.cg.gateHold = some (s.now + 16) ∧ t.adc.bmAt = some s.now ∧
    t.on fTRV_STATE_TSYNC = false ∧
    (s.quiet = false → ∀ l k, l < 2 → s.outLane l = some k → ∃ e ∈ (t.trv.lane k).txq, e.word = frameWord 11 s.dieIndex 0) ∧
    (s.pst.toRun = true → (∀ d, d < 32 → (s.dom d).commanded ≠ 1) → t.aon = 0) := by
  have hexec := exec_pllLock h
  rw [if_neg haon] at hexec
  have hqueued := fun l k hq hl hk => stateFrame_queued (s := s) (l := l) (k := k) hq hl hk
  obtain ⟨htsync, ⟨r, c, hdata⟩, -⟩ := locks_clockBack s
  generalize s.locks.clockBack = w at hexec hqueued htsync hdata
  obtain ⟨v, hv⟩ := originate_trv w 11 0
  generalize w.originate 2 11 0 = u at hexec hqueued hv
  have hclk : u.clk = { s.clk with pll := true, gateAt := s.now } := by rw [hv, hdata]; rfl
  have hhold : u.cg.gateHold = some (s.now + 16) := by rw [hv, hdata]; rfl
  have hadc : u.adc.bmAt = some s.now := by rw [hv, hdata]; rfl
  have hsync : u.on fTRV_STATE_TSYNC = false := by rw [hv]; exact htsync
  have hrun : u.pst.toRun = s.pst.toRun := by rw [hv, hdata]; rfl
  have hdoms (d : Nat) : u.dom d = s.dom d := by rw [hv, hdata]; rfl
  have hpll : u.clk.pll = true := by rw [hclk]
  have hlt (x : State) : ∀ t ∈ (upTo 64).filter (fun t => x.isOn (x.domOf t)), t < 64 := fun t ht => List.mem_range.mp (List.mem_of_mem_filter ht)
  have hheld : Held false u ((u.resumeDomains.forcedEnds ((upTo 64).filter fun t => u.resumeDomains.isOn (u.resumeDomains.domOf t))).checkRun) :=
    (((keeps_resumeDomains u).trans (keeps_forcedEnds _ _ (hlt _))).trans (keeps_checkRun _)) fun _ => hpll
  refine ⟨_, hexec, hheld.clk.trans hclk, by rw [hheld.cg, hhold], by rw [hheld.adc, hadc], ?_, fun hq l k hl hk => ?_, fun htoRun hnone => ?_⟩
  · rw [on_of_reg fTRV_STATE_TSYNC (hheld.regs _ (by decide)), hsync]
  · obtain ⟨e, he, hword⟩ := hqueued l k hq hl hk
    exact ⟨e, hheld.queues k e he, hword⟩
  · have hnoneU : ∀ d, d < 32 → (u.dom d).commanded ≠ 1 := fun d hd => by rw [hdoms]; exact hnone d hd
    dsimp only
    rw [resumeDomains_of_none hnoneU]
    obtain ⟨r', hr', -⟩ := forcedEnds_frame _ (hlt u) u
    refine aon_checkRun ?_ ?_ fun d hd => ?_
    · rw [hr']
      exact hrun.trans htoRun
    · rw [hr']
      exact hpll
    · rw [hr']
      exact hnoneU d hd

/-! ### The fast oscillator -/

theorem exec_fastOscillatorStable (hpor : s.por = false) (hosc : s.clk.fastOsc = false) (hwhy : s.pst.waking = true ∨ s.aon = 5) :
    exec .fastOscillatorStable s =
      let s1 : State := { s with clk := { s.clk with fastOsc := true }, core := { s.core with waiting := false } }
      .next (if s.trv.waking then s1.wakeFrame else s1) := by
  have hgo : ¬ (s.por || s.clk.fastOsc || !(s.pst.waking || decide (s.aon = 5))) = true := by
    rw [hpor, hosc]
    rcases hwhy with h | h <;> simp [h]
  change execFastOscillatorStable s = _
  unfold execFastOscillatorStable
  dsimp only
  rw [if_neg hgo]

end Sys2Proof.Machine
end

section

open Sys2Proof Sys2Proof.Machine

/-- Settles O18: each pin and clock by itself; what domains do on a wake leaves the clocks, the pauses, the converters and the frames. -/
theorem pinsAndReference : Obligations.PinsAndReference := by
  unfold Obligations.PinsAndReference
  intro s b
  refine ⟨?_, fun hrst i hi => ?_, fun hrst => ?_, fun hhigh => ?_, hostPwrgdRise_runs, fun hheard => ?_, fun hlost => ?_, fun hlost hback =>
    ⟨syncInReturn_waits hlost hback, syncInReturn_takes hlost hback⟩, fun hpor hpll haon hwake => ?_, fun hpor hpll hwake hosc hoff haon => ?_,
    fun hpor hosc hwhy => ?_⟩
  · exact ⟨_, exec_wrap_reset (i := .wsBypass b) (n := 0) rfl (.inr rfl), rfl⟩
  · simp only [List.mem_cons, List.not_mem_nil, or_false] at hi
    rcases hi with rfl | rfl | rfl
    · exact ⟨_, exec_wrap_reset (n := 1) rfl (.inl hrst), rfl⟩
    · exact ⟨_, exec_wrap_reset (n := 2) rfl (.inl hrst), rfl⟩
    · exact ⟨_, exec_wrap_reset (n := 3) rfl (.inl hrst), rfl⟩
  · exact ⟨⟨_, exec_wrap_load (n := 1) rfl hrst, rfl⟩, ⟨_, exec_wrap_load (n := 2) rfl hrst, rfl⟩, ⟨_, exec_wrap_load (n := 3) rfl hrst, rfl⟩⟩
  · change execHostPwrgdRise s = _
    rw [execHostPwrgdRise, if_pos hhigh]
  · change execSyncInLoss s = _
    rw [execSyncInLoss, if_neg (by simp [hheard])]
  · change execSyncInLoss s = _
    rw [execSyncInLoss, if_pos hlost]
  · exact pllLock_boot ⟨hpor, hpll, .inr haon, hwake⟩ haon
  · exact pllLock_wake ⟨hpor, hpll, .inl hwake, fun _ => ⟨hosc, hoff⟩⟩ (by omega)
  · have hexec := exec_fastOscillatorStable hpor hosc hwhy
    dsimp only at hexec
    refine ⟨fun hidle => ?_, fun hwaking => ⟨_, hexec, ?_⟩⟩
    · rw [hexec, hidle, if_neg Bool.false_ne_true]
    · rw [if_pos hwaking]
      exact ⟨rfl, rfl, Nat.le_max_right _ _, Nat.le_max_right _ _, rfl⟩

end

section
/-!
SUPPORT. A late tract-sample (R173): the tract marked late with its output history held, the count of late samples, and the
event; the two lists that tell when an engine has failed (R176) are all that it changes of the engines.
-/

namespace Sys2Proof.Machine

/-! ### What the engines know -/

/-- The engines changed in what no register shows of them. A name of its own lets a read pass over the change without comparing the
states around it, which would unfold the saturated count. -/
def State.withLoops (s : State) (l : LoopHid) : State := { s with loops := l }

@[simp] theorem reg_withLoops (s : State) (l : LoopHid) (o : Nat) : (s.withLoops l).reg o = s.reg o := rfl
@[simp] theorem get_withLoops (s : State) (l : LoopHid) (f : Fld) : (s.withLoops l).get f = s.get f := rfl
@[simp] theorem on_withLoops (s : State) (l : LoopHid) (f : Fld) : (s.withLoops l).on f = s.on f := rfl
@[simp] theorem withLoops_loops (s : State) (l : LoopHid) : (s.withLoops l).loops = l := rfl
@[simp] theorem withLoops_now (s : State) (l : LoopHid) : (s.withLoops l).now = s.now := rfl
@[simp] theorem tract_addSat (s : State) (f : Fld) (n k : Nat) : (s.addSat f n).tract k = s.tract k := rfl
@[simp] theorem tract_withLoops (s : State) (l : LoopHid) (t : Nat) : (s.withLoops l).tract t = s.tract t := rfl

/-- An engine found failed, where it is, is noted in one list. -/
theorem findFailed_withLoops (s : State) (l : LoopHid) (e slotEnd : Nat) (c : Prop) [Decidable c] :
    ∃ due, (if c then (s.withLoops l).findFailed e slotEnd else s.withLoops l) = s.withLoops { l with failDue := due } := by
  unfold State.findFailed
  split
  · split
    · exact ⟨l.failDue, rfl⟩
    · exact ⟨_, rfl⟩
  · exact ⟨l.failDue, rfl⟩

/-! ### The sample in two parts: the marks, then the event -/

/-- The state that a late sample of frame `n` leaves before its event; `l` is what the engines then know of late samples. -/
def State.lateMarked (s : State) (l : LoopHid) (t n : Nat) : State :=
  ((((s.putB (fTRC_TSTAT_LATE t) true).addSat fTRC_LATE_CNT_COUNT 1).withLoops l).putB (fTRC_TSTAT_FROZEN t) true).updTract t
    fun h => { h with sampled := n }

/-- A late sample marks its tract, notes the sample toward a failure of the engine, and raises TRC_STAT.LATE. -/
theorem lateSample_eq (s : State) (t n slotEnd : Nat) :
    ∃ late due, s.lateSample t n slotEnd = (s.lateMarked { s.loops with late := late, failDue := due } t n).raise evTRC_LATE t := by
  have hloops : ((s.putB (fTRC_TSTAT_LATE t) true).addSat fTRC_LATE_CNT_COUNT 1).loops = s.loops := by
    rw [State.addSat_loops, State.putB_loops]
  unfold State.lateSample State.lateMarked
  dsimp only
  rw [hloops]
  generalize (s.putB (fTRC_TSTAT_LATE t) true).addSat fTRC_LATE_CNT_COUNT 1 = s1
  generalize ((n :: tblGet (fun _ => []) s.loops.late (s.laneOf t)).filter fun k => n < k + 16) = win
  obtain ⟨due, hdue⟩ := findFailed_withLoops s1 { s.loops with late := tblSet (fun _ => []) s.loops.late (s.laneOf t) win }
    (s.get (fTRC_TSTAT_ENGINE t)) slotEnd (8 ≤ win.length)
  exact ⟨_, due, congrArg (fun u : State =>
    ((u.putB (fTRC_TSTAT_FROZEN t) true).updTract t fun h => { h with sampled := n }).raise evTRC_LATE t) hdue⟩

/-! ### The registers -/

theorem trcTstat_ne_lateCnt (t : Nat) : TRC_TSTAT t ≠ TRC_LATE_CNT := by
  unfold TRC_TSTAT TRC_LATE_CNT
  omega

/-- The registers of the tracts are none of those of an event of TRC_. -/
theorem tractReg_not_event {o : Nat} (h : 0x21000 ≤ o ∧ o < 0x22000) : o ∉ eventRegs 5 := by
  have hapart : ∀ x ∈ eventRegs 5, x < 0x21000 ∨ 0x22000 ≤ x := by decide
  intro hm
  have := hapart o hm
  omega

theorem trcTstat_not_event (t : Fin 64) : TRC_TSTAT t ∉ eventRegs 5 := tractReg_not_event (by unfold TRC_TSTAT; omega)

/-- The duty code and the output history of a tract lie outside what a late sample writes. -/
theorem dutyAndHistory_not_late (t : Fin 64) {o : Nat} (h : o = TRC_DUTY t ∨ o = TRC_UOUT t) :
    o ∉ [TRC_TSTAT t, TRC_LATE_CNT] ++ eventRegs 5 := by
  have hplace : 0x21000 ≤ o ∧ o < 0x22000 ∧ o ≠ TRC_TSTAT t ∧ o ≠ TRC_LATE_CNT := by
    unfold TRC_DUTY TRC_UOUT at h
    unfold TRC_TSTAT TRC_LATE_CNT
    omega
  obtain ⟨hlo, hhi, htstat, hcnt⟩ := hplace
  simp [htstat, hcnt, tractReg_not_event ⟨hlo, hhi⟩]

/-! ### The tract marked -/

section
variable (s : State) (l : LoopHid) (t n : Nat)

theorem sameRegs_lateMarked : SameRegs s (s.lateMarked l t n) [TRC_TSTAT t, TRC_LATE_CNT] := by
  intro o ho
  obtain ⟨htstat, hcnt⟩ : o ≠ TRC_TSTAT t ∧ o ≠ TRC_LATE_CNT := by simpa using ho
  rw [State.lateMarked, reg_updTract, reg_putB_ne _ _ _ _ htstat, reg_withLoops, reg_addSat_ne _ _ _ _ hcnt, reg_putB_ne _ _ _ _ htstat]

theorem onlyEvents_lateMarked :
    OnlyEvents { s with tracts := (s.lateMarked l t n).tracts, loops := (s.lateMarked l t n).loops } (s.lateMarked l t n)
      [TRC_TSTAT t, TRC_LATE_CNT] := by
  refine ⟨?_, sameRegs_lateMarked s l t n⟩
  obtain ⟨r, b, v, p, c, hcount⟩ := ((EvOnly.refl s).putB (fTRC_TSTAT_LATE t) true).addSat fTRC_LATE_CNT_COUNT 1
  unfold State.lateMarked
  rw [hcount]
  exact ⟨_, b, v, p, c, rfl⟩

@[simp] theorem loops_lateMarked : (s.lateMarked l t n).loops = l := by
  simp only [State.lateMarked, State.updTract_loops, State.putB_loops, withLoops_loops]

@[simp] theorem now_lateMarked : (s.lateMarked l t n).now = s.now := by
  simp only [State.lateMarked, State.updTract_now, State.putB_now, withLoops_now, State.addSat_now]

theorem tract_lateMarked (k : Nat) :
    (s.lateMarked l t n).tract k = if k = t then { s.tract t with sampled := n } else s.tract k := by
  simp only [State.lateMarked, tract_updTract, tract_putB, tract_withLoops, tract_addSat]

theorem count_lateMarked : (s.lateMarked l t n).get fTRC_LATE_CNT_COUNT = min (2 ^ 32 - 1) (s.get fTRC_LATE_CNT_COUNT + 1) := by
  have hne : TRC_LATE_CNT ≠ TRC_TSTAT t := (trcTstat_ne_lateCnt t).symm
  rw [State.lateMarked, get_updTract, get_putB_reg _ _ _ _ hne, get_withLoops, get_addSat _ _ _ (by simp), get_putB_reg _ _ _ _ hne,
    Fld.top]

theorem on_frozen_lateMarked : (s.lateMarked l t n).on (fTRC_TSTAT_FROZEN t) = true := by
  rw [State.lateMarked, on_updTract, on_putB_same _ _ _ (by simp) rfl]

theorem on_late_lateMarked : (s.lateMarked l t n).on (fTRC_TSTAT_LATE t) = true := by
  rw [State.lateMarked, on_updTract, on_putB_apart _ (fTRC_TSTAT_FROZEN t) (fTRC_TSTAT_LATE t) _ rfl (.inl (by simp)), on_withLoops,
    on_addSat_reg _ _ _ _ (trcTstat_ne_lateCnt t), on_putB_same _ _ _ (by simp) rfl]

/-- TRC_TSTAT.STATE lies apart from the two bits that are set. -/
theorem state_lateMarked : (s.lateMarked l t n).get (fTRC_TSTAT_STATE t) = s.get (fTRC_TSTAT_STATE t) := by
  rw [State.lateMarked, get_updTract, get_putB_apart _ (fTRC_TSTAT_FROZEN t) (fTRC_TSTAT_STATE t) _ rfl (.inr (by simp)), get_withLoops,
    get_addSat_reg _ _ _ _ (trcTstat_ne_lateCnt t),
    get_putB_apart _ (fTRC_TSTAT_LATE t) (fTRC_TSTAT_STATE t) _ rfl (.inr (by simp))]

end

/-! ### The late sample -/

section
variable (s : State) (n slotEnd : Nat)

theorem tract_lateSample (t k : Nat) :
    (s.lateSample t n slotEnd).tract k = if k = t then { s.tract t with sampled := n } else s.tract k := by
  obtain ⟨late, due, heq⟩ := lateSample_eq s t n slotEnd
  rw [heq, State.tract, State.raise_tracts]
  exact tract_lateMarked s _ t n k

theorem onlyEvents_lateSample (t : Nat) :
    OnlyEvents { s with tracts := (s.lateSample t n slotEnd).tracts, loops := (s.lateSample t n slotEnd).loops } (s.lateSample t n slotEnd)
      ([TRC_TSTAT t, TRC_LATE_CNT] ++ eventRegs 5) := by
  obtain ⟨late, due, heq⟩ := lateSample_eq s t n slotEnd
  rw [heq, State.raise_tracts, State.raise_loops]
  exact (onlyEvents_lateMarked s _ t n).trans (onlyEvents_raise _ evTRC_LATE t)

theorem stat_lateSample (t : Nat) : (s.lateSample t n slotEnd).stat evTRC_LATE = true := by
  obtain ⟨late, due, heq⟩ := lateSample_eq s t n slotEnd
  rw [heq]
  exact stat_raise_same _ _ _ (by decide)

theorem count_lateSample (t : Nat) :
    (s.lateSample t n slotEnd).get fTRC_LATE_CNT_COUNT = min (2 ^ 32 - 1) (s.get fTRC_LATE_CNT_COUNT + 1) := by
  obtain ⟨late, due, heq⟩ := lateSample_eq s t n slotEnd
  rw [heq, get_raise _ _ _ _ (by decide), count_lateMarked]

variable (t : Fin 64)

theorem on_late_lateSample : (s.lateSample t n slotEnd).on (fTRC_TSTAT_LATE t) = true := by
  obtain ⟨late, due, heq⟩ := lateSample_eq s t n slotEnd
  rw [heq, on_raise _ _ _ _ (trcTstat_not_event t), on_late_lateMarked]

theorem on_frozen_lateSample : (s.lateSample t n slotEnd).on (fTRC_TSTAT_FROZEN t) = true := by
  obtain ⟨late, due, heq⟩ := lateSample_eq s t n slotEnd
  rw [heq, on_raise _ _ _ _ (trcTstat_not_event t), on_frozen_lateMarked]

/-- A tract that has a late sample stays in the state of its loop: neither TRC_TSTAT.STATE nor what tells of a failover moves. -/
theorem loopState_lateSample : (s.lateSample t n slotEnd).loopState t = s.loopState t := by
  have htract := tract_lateSample s n slotEnd t t
  rw [if_pos rfl] at htract
  obtain ⟨late, due, heq⟩ := lateSample_eq s t n slotEnd
  have hstate : (s.lateSample t n slotEnd).get (fTRC_TSTAT_STATE t) = s.get (fTRC_TSTAT_STATE t) := by
    rw [heq, get_raise _ _ _ _ (trcTstat_not_event t), state_lateMarked]
  have hfail : (s.lateSample t n slotEnd).loops.failT0 = s.loops.failT0 := by
    rw [heq, State.raise_loops, loops_lateMarked]
  have hnow : (s.lateSample t n slotEnd).now = s.now := by
    rw [heq, State.raise_now, now_lateMarked]
  unfold State.loopState
  rw [hstate, hfail, hnow, htract]

theorem exec_tractSampleLate (hwants : s.wantsSample t (s.slotFrame - 1) = true) (hboth : s.on fTRC_ENG_BOTH = false) :
    exec (.tractSampleLate t) s = .next (s.lateSample t (s.slotFrame - 1) s.slotStart) := by
  change execTractSampleLate t s = _
  unfold execTractSampleLate
  dsimp only
  rw [if_pos (by simp [hwants, hboth])]

end

end Sys2Proof.Machine
end

section

open Sys2Proof Sys2Proof.Machine

/-- Settles O38: TRC_DUTY and TRC_UOUT lie outside what a late sample writes, and of its tract it moves only the frame last sampled. -/
theorem lateSample : Obligations.LateSample := by
  unfold Obligations.LateSample
  intro s t hframe hdue hcomputes hstopped hidle hboth
  have hwants : s.wantsSample t (s.slotFrame - 1) = true := by
    simp [State.wantsSample, hframe, hdue, hcomputes, hstopped, hidle]
  have honly := onlyEvents_lateSample s (s.slotFrame - 1) s.slotStart t
  have ⟨_, hregs⟩ := honly
  have htract := tract_lateSample s (s.slotFrame - 1) s.slotStart t
  refine ⟨_, exec_tractSampleLate s t hwants hboth, ?_, ?_, ?_, fun k hk => ?_, on_late_lateSample _ _ _ t,
    on_frozen_lateSample _ _ _ t, loopState_lateSample _ _ _ t, stat_lateSample _ _ _ _, count_lateSample _ _ _ _, honly⟩
  · exact hregs _ (dutyAndHistory_not_late t (.inl rfl))
  · exact hregs _ (dutyAndHistory_not_late t (.inr rfl))
  · rw [htract, if_pos rfl]
  · rw [htract, if_neg hk]

end

section
/-!
SUPPORT. The short commands of capping: the counters of the Tally, the die limit, and THROTTLE_N (R31, R39, R40, R414, R444, R445, R448).
-/

namespace Sys2Proof.Machine

variable {s : State}

/-! ### ACTIVITY_INCREMENT -/

/-- An increment joins its counter and tag while gate_clk runs and aon_host_pwrgd is high (R31, R39). -/
theorem exec_activityIncrement (c : Fin 64) (n tag : Fin 16) : exec (.activityIncrement c n tag) s = .next (if s.gateLive then
    s.updCap fun h => { h with acts := tblSet (fun _ => 0) h.acts (16 * c.val + tag.val) (s.count c tag + n.val) } else s) := rfl

theorem activityIncrement_counts (c : Fin 64) (n tag : Fin 16) (h : s.gateLive = true) : Runs (.activityIncrement c n tag) s fun u =>
    u = { s with cap := { s.cap with acts := u.cap.acts } } ∧
    ∀ k, tblGet (fun _ => 0) u.cap.acts k = tblGet (fun _ => 0) s.cap.acts k + (if k = 16 * c.val + tag.val then n.val else 0) := by
  refine ⟨_, (exec_activityIncrement c n tag).trans (congrArg _ (if_pos h)), rfl, fun k => ?_⟩
  refine (tblGet_set (fun _ => 0) s.cap.acts _ k _).trans ?_
  split
  · next hk => rw [hk, State.count]
  · rw [Nat.add_zero]

theorem activityIncrement_unsampled (c : Fin 64) (n tag : Fin 16) (h : s.gateLive = false) : exec (.activityIncrement c n tag) s = .next s := by
  rw [exec_activityIncrement, if_neg (by simp [h])]

/-! ### DIE_LIMIT_SWITCH -/

/-- The run of the estimate above SUST, or within it, has lasted 10 ms (R414). -/
def State.runDue (s : State) : Option Nat → Bool
  | none => false
  | some a => decide (a + 10000000 ≤ s.now)

theorem exec_dieLimitSwitch : exec .dieLimitSwitch s = .next (if s.cap.sust then
      (if s.runDue s.cap.withinFrom then s.updCap fun c => { c with sust := false, aboveFrom := none } else s)
    else if s.runDue s.cap.aboveFrom then s.updCap fun c => { c with sust := true, withinFrom := none } else s) := rfl

/-- After 10 ms above SUST the limit is SUST, and not before (R414). -/
theorem dieLimitSwitch_above {a : Nat} (hs : s.cap.sust = false) (ha : s.cap.aboveFrom = some a) :
    (a + 10000000 ≤ s.now → Runs .dieLimitSwitch s fun u => u.dieLimit = s.get fCAP_DIE_SUST ∧
      u = { s with cap := { s.cap with sust := true, withinFrom := none } }) ∧
    (s.now < a + 10000000 → exec .dieLimitSwitch s = .next s) := by
  have hexec := exec_dieLimitSwitch (s := s)
  rw [hs, if_neg Bool.false_ne_true, ha, State.runDue] at hexec
  exact ⟨fun h => ⟨_, hexec.trans (congrArg _ (if_pos (decide_eq_true h))), if_pos rfl, rfl⟩, fun h => by rw [hexec, if_neg (by simpa using h)]⟩

/-- After 10 ms at or below SUST the limit is PEAK, and not before (R414). -/
theorem dieLimitSwitch_within {a : Nat} (hs : s.cap.sust = true) (ha : s.cap.withinFrom = some a) :
    (a + 10000000 ≤ s.now → Runs .dieLimitSwitch s fun u => u.dieLimit = s.get fCAP_DIE_PEAK ∧
      u = { s with cap := { s.cap with sust := false, aboveFrom := none } }) ∧
    (s.now < a + 10000000 → exec .dieLimitSwitch s = .next s) := by
  have hexec := exec_dieLimitSwitch (s := s)
  rw [hs, if_pos rfl, ha, State.runDue] at hexec
  exact ⟨fun h => ⟨_, hexec.trans (congrArg _ (if_pos (decide_eq_true h))), if_neg Bool.false_ne_true, rfl⟩,
    fun h => by rw [hexec, if_neg (by simpa using h)]⟩

/-! ### THROTTLE_N and THR_STUCK -/

theorem exec_throttleN (active : Bool) : exec (.throttleN active) s = .next (if active = s.cap.throttle then s
    else s.updCap fun c => { c with throttle := active, thrFrom := if active && !s.por then some s.now else none, thrOn := false }) := rfl

theorem throttleN_changes {active : Bool} (h : active ≠ s.cap.throttle) : exec (.throttleN active) s = .next { s with cap := { s.cap with
    throttle := active, thrFrom := if active = true ∧ s.por = false then some s.now else none, thrOn := false } } := by
  have hfrom : (if active && !s.por then some s.now else none) = if active = true ∧ s.por = false then some s.now else none :=
    if_congr (by simp) rfl rfl
  rw [exec_throttleN, if_neg h, hfrom]
  rfl

theorem throttleN_stands {active : Bool} (h : active = s.cap.throttle) : exec (.throttleN active) s = .next s := by
  rw [exec_throttleN, if_pos h]

theorem exec_thrStuck {a : Nat} (ha : s.cap.thrFrom = some a) : exec .thrStuck s = .next (if a + 10000000000 ≤ s.now && !s.cap.thrOn then
    (s.updCap fun c => { c with thrOn := true }).raiseIf (s.on fCAP_CTL_EN) evCAP_THR_STUCK 0xFFFF else s) := by
  change execThrStuck s = _
  rw [execThrStuck, ha]

/-- An event of a condition: its status bit is set where the condition holds, and stands otherwise. -/
theorem stat_raiseIf_same (s : State) (c : Bool) (e : Ev) (i : Nat) (hb : e.bit < 32) : (s.raiseIf c e i).stat e = (s.stat e || c) := by
  unfold State.raiseIf
  cases c with
  | true => rw [if_pos rfl, stat_raise_same _ _ _ hb, Bool.or_true]
  | false => rw [if_neg Bool.false_ne_true, Bool.or_false]

theorem onlyEvents_raiseIf (s : State) (c : Bool) (e : Ev) (i : Nat) : OnlyEvents s (s.raiseIf c e i) (eventRegs e.block) :=
  ⟨evOnly_raiseIf s c e i, sameRegs_raiseIf s c e i⟩

/-- THROTTLE_N active for 10 s is reported once, and only while capping is enabled (R445, R448). -/
theorem thrStuck_reports {a : Nat} (ha : s.cap.thrFrom = some a) :
    (a + 10000000000 ≤ s.now → s.cap.thrOn = false → Runs .thrStuck s fun u =>
      u.stat evCAP_THR_STUCK = (s.stat evCAP_THR_STUCK || s.on fCAP_CTL_EN) ∧
      OnlyEvents { s with cap := { s.cap with thrOn := true } } u (eventRegs 13)) ∧
    (s.now < a + 10000000000 ∨ s.cap.thrOn = true → exec .thrStuck s = .next s) := by
  refine ⟨fun hdue hon => ⟨_, (exec_thrStuck ha).trans (congrArg _ (if_pos (by simp [hdue, hon]))), ?_, onlyEvents_raiseIf _ _ evCAP_THR_STUCK _⟩,
    fun h => ?_⟩
  · exact stat_raiseIf_same _ _ evCAP_THR_STUCK _ (by decide)
  · rw [exec_thrStuck ha, if_neg]
    rcases h with h | h
    · simp [h]
    · simp [h]

end Sys2Proof.Machine
end

section
/-!
SUPPORT. Derating after cell loss: what an update makes of each tract (R438).
-/

namespace Sys2Proof.Machine

variable {s t : State}

/-- The derating duty of a tract after an update (R438). -/
def State.nextDerate (s : State) (t : Nat) : Nat :=
  if (s.healthyIn t).length = 4 then 0
  else if (s.tract t).derCnt = 0 then (s.tract t).derate
  else if (s.contRating t : Int) * (s.tract t).derCnt < (s.tract t).derSum then min 31 ((s.tract t).derate + 4)
  else if 10 * (s.tract t).derSum < 9 * (s.contRating t : Int) * (s.tract t).derCnt then (s.tract t).derate - 1
  else (s.tract t).derate

/-- A tract after an update: its duty, and the sums of its current begun anew. -/
def State.derated (s : State) (t : Nat) : TractHid := { s.tract t with derate := s.nextDerate t, derSum := 0, derCnt := 0 }

theorem derateTract_eq (s : State) (t : Nat) : s.derateTract t = s.updTract t fun _ => s.derated t := by
  simp only [State.derateTract, State.derated, State.nextDerate, State.updTract, decide_eq_true_eq]

theorem tract_derateTract (s : State) (t k : Nat) : (s.derateTract t).tract k = if k = t then s.derated t else s.tract k := by
  rw [derateTract_eq, tract_updTract]

/-- The health of cells, and with it the rating of a tract, rests on registers and on which tracts have been stopped (R194, R657, R658). -/
theorem healthyIn_congr (hreg : t.regs = s.regs) (hstop : ∀ k, (t.tract k).wasStopped = (s.tract k).wasStopped) (k : Nat) :
    t.healthyIn k = s.healthyIn k := by
  have hget (f : Fld) : t.get f = s.get f := by rw [State.get, State.reg, hreg, State.get, State.reg]
  have hon (f : Fld) : t.on f = s.on f := by rw [State.on, hget, State.on]
  have hmode (c : Nat) : t.mode c = s.mode c := hget _
  have hstopped (k : Nat) : t.stopped k = s.stopped k := by
    unfold State.stopped
    dsimp only
    rw [hget, hstop]
  have hhealthy (c : Nat) : t.healthy c = s.healthy c := by
    rw [State.healthy, State.healthy, State.alive, State.alive, hon, hmode, hstopped]
  exact List.filter_congr fun c _ => by rw [hhealthy]

/-- The update of one tract leaves what any other rests on. -/
theorem derated_derateTract (s : State) {t k : Nat} (h : k ≠ t) : (s.derateTract t).derated k = s.derated k := by
  have hregs : (s.derateTract t).regs = s.regs := by
    rw [derateTract_eq]
    rfl
  have htract : (s.derateTract t).tract k = s.tract k := by rw [tract_derateTract, if_neg h]
  have hhealthy : (s.derateTract t).healthyIn k = s.healthyIn k := by
    refine healthyIn_congr hregs (fun j => ?_) k
    rw [tract_derateTract]
    split
    · next hj => rw [hj, State.derated]
    · rfl
  have hrating : (s.derateTract t).contRating k = s.contRating k := by rw [State.contRating, hhealthy, State.contRating]
  rw [State.derated, State.nextDerate, htract, hhealthy, hrating, State.derated, State.nextDerate]

/-- Updates of tracts, each once, act on each by itself and on nothing else. -/
theorem derate_foldl (l : List Nat) (hl : l.Nodup) (s : State) :
    (∃ w, l.foldl (fun s t => s.derateTract t) s = { s with tracts := w }) ∧
    ∀ k, (l.foldl (fun s t => s.derateTract t) s).tract k = if k ∈ l then s.derated k else s.tract k := by
  induction l generalizing s with
  | nil => exact ⟨⟨s.tracts, rfl⟩, fun k => by simp⟩
  | cons t l ih =>
    obtain ⟨hnot, hnodup⟩ := List.nodup_cons.mp hl
    obtain ⟨⟨w, hw⟩, htract⟩ := ih hnodup (s.derateTract t)
    refine ⟨⟨w, by rw [List.foldl_cons, hw, derateTract_eq]; rfl⟩, fun k => ?_⟩
    rw [List.foldl_cons, htract, tract_derateTract]
    by_cases hk : k = t
    · rw [if_neg (by rw [hk]; exact hnot), if_pos hk, if_pos (by simp [hk]), hk]
    · simp only [derated_derateTract s hk, hk, if_false, List.mem_cons, false_or]

theorem derateUpdate_runs (s : State) : Runs .derateUpdate s fun u => u = { s with tracts := u.tracts } ∧ ∀ t, t < 64 →
    u.tract t = { s.tract t with derSum := 0, derCnt := 0, derate := (u.tract t).derate } ∧ (u.tract t).derate = s.nextDerate t := by
  obtain ⟨⟨w, hw⟩, htract⟩ := derate_foldl (upTo 64) List.nodup_range s
  refine ⟨_, rfl, ?_, fun t ht => ?_⟩
  · rw [forEach, hw]
  · have hmem : t ∈ upTo 64 := List.mem_range.mpr ht
    rw [forEach, htract, if_pos hmem]
    exact ⟨rfl, rfl⟩

/-- The duty goes up by 4 above the rating, down by 1 below 90 % of it, and stays between; with all cells it is 0 (R438). -/
theorem nextDerate_cases (s : State) (t : Nat) :
    ((s.healthyIn t).length = 4 → s.nextDerate t = 0) ∧
    ((s.healthyIn t).length ≠ 4 → (s.tract t).derCnt ≠ 0 →
      ((s.contRating t : Int) * (s.tract t).derCnt < (s.tract t).derSum → s.nextDerate t = min 31 ((s.tract t).derate + 4)) ∧
      (10 * (s.tract t).derSum < 9 * (s.contRating t : Int) * (s.tract t).derCnt → (s.tract t).derSum ≤ (s.contRating t : Int) * (s.tract t).derCnt →
        s.nextDerate t = (s.tract t).derate - 1) ∧
      ((s.tract t).derSum ≤ (s.contRating t : Int) * (s.tract t).derCnt → 9 * (s.contRating t : Int) * (s.tract t).derCnt ≤ 10 * (s.tract t).derSum →
        s.nextDerate t = (s.tract t).derate)) := by
  unfold State.nextDerate
  refine ⟨fun h => if_pos h, fun hlost hcnt => ?_⟩
  rw [if_neg hlost, if_neg hcnt]
  exact ⟨fun h => if_pos h, fun hlow hrated => by rw [if_neg hrated.not_gt, if_pos hlow], fun hrated hlow => by
    rw [if_neg hrated.not_gt, if_neg hlow.not_gt]⟩

end Sys2Proof.Machine
end

section
/-!
SUPPORT. Reconciliation, the trim and the package cap: the gains within their limits, the trim within 5 % of the mean budget, and who
takes a package cap (R408-R411, R416, R542).
-/

namespace Sys2Proof.Machine

variable {s t u : State}

/-! ### Classes -/

theorem cls_updCls (s : State) (k j : Nat) (f : ClassHid → ClassHid) : (s.updCls k f).cls j = if j = k then f (s.cls k) else s.cls j :=
  tblGet_set _ _ _ _ _

@[simp] theorem reg_updCls (s : State) (k o : Nat) (f : ClassHid → ClassHid) : (s.updCls k f).reg o = s.reg o := rfl
@[simp] theorem get_updCls (s : State) (k : Nat) (f : ClassHid → ClassHid) (g : Fld) : (s.updCls k f).get g = s.get g := rfl
@[simp] theorem on_updCls (s : State) (k : Nat) (f : ClassHid → ClassHid) (g : Fld) : (s.updCls k f).on g = s.on g := rfl
@[simp] theorem cls_put (s : State) (f : Fld) (n j : Nat) : (s.put f n).cls j = s.cls j := rfl
@[simp] theorem reg_updCap (s : State) (o : Nat) (f : CapHid → CapHid) : (s.updCap f).reg o = s.reg o := rfl
@[simp] theorem get_updCap (s : State) (f : CapHid → CapHid) (g : Fld) : (s.updCap f).get g = s.get g := rfl
@[simp] theorem on_updCap (s : State) (f : CapHid → CapHid) (g : Fld) : (s.updCap f).on g = s.on g := rfl

theorem cls_raiseIf (s : State) (c : Bool) (e : Ev) (i j : Nat) : (s.raiseIf c e i).cls j = s.cls j := by
  rw [State.cls, State.raiseIf_cap, State.cls]

/-- A change of the classes, of registers listed, and of what events touch. -/
def ClassesMoved (l : List Nat) (s t : State) : Prop :=
  (∃ w r b v p c, t = { s with cap := { s.cap with classes := w }, regs := r, book := b, trv := v, pins := p, cyc := c }) ∧ SameRegs s t l

theorem ClassesMoved.refl (l : List Nat) (s : State) : ClassesMoved l s s := ⟨⟨s.cap.classes, s.regs, s.book, s.trv, s.pins, s.cyc, rfl⟩, .refl s l⟩

theorem ClassesMoved.trans {l : List Nat} (h : ClassesMoved l s t) (k : ClassesMoved l t u) : ClassesMoved l s u := by
  obtain ⟨⟨w, r, b, v, p, c, ht⟩, hregs⟩ := h
  obtain ⟨⟨w', r', b', v', p', c', hu⟩, kregs⟩ := k
  exact ⟨⟨w', r', b', v', p', c', by rw [hu, ht]⟩, hregs.trans kregs⟩

theorem ClassesMoved.put {l : List Nat} (h : ClassesMoved l s t) {f : Fld} (n : Nat) (hf : f.off ∈ l) : ClassesMoved l s (t.put f n) :=
  h.trans ⟨⟨_, _, _, _, _, _, rfl⟩, (SameRegs.refl t l).put n hf⟩

theorem ClassesMoved.updCls {l : List Nat} (h : ClassesMoved l s t) (k : Nat) (f : ClassHid → ClassHid) : ClassesMoved l s (t.updCls k f) :=
  h.trans ⟨⟨_, _, _, _, _, _, rfl⟩, (SameRegs.refl t l).ofRegs rfl⟩

theorem ClassesMoved.raiseIf {l : List Nat} (h : ClassesMoved l s t) (c : Bool) {e : Ev} (i : Nat) (he : eventRegs e.block ⊆ l) :
    ClassesMoved l s (t.raiseIf c e i) := by
  obtain ⟨r, b, v, p, y, heq⟩ := evOnly_raiseIf t c e i
  exact h.trans ⟨⟨t.cap.classes, r, b, v, p, y, heq⟩, (sameRegs_raiseIf t c e i).mono he⟩

/-! ### RECONCILE -/

theorem clampI_range {lo hi : Int} (h : lo ≤ hi) (x : Int) : lo ≤ clampI lo hi x ∧ clampI lo hi x ≤ hi :=
  ⟨le_max_left _ _, max_le h (min_le_left _ _)⟩

/-- A gain that stands, or one within 0.5 and 2.0 (R408). -/
def GainFrom (old new : Nat) : Prop := new = old ∨ (8192 ≤ new ∧ new ≤ 32768)

/-- A class reconciled: its gain, its sums begun anew, its drift, and the event of a drift (R408, R409). -/
theorem reconcile_eq (s : State) (k : Nat) : ∃ gain run drift c, GainFrom (s.get (fCAP_CGAIN_GAIN k)) gain ∧
    s.reconcile k = ((s.put (fCAP_CGAIN_GAIN k) gain).updCls k fun h =>
      { h with drift := run, driftOn := drift, vi := 0, lam := 0, raw := 0 }).raiseIf c evCAP_TALLY_DRIFT k := by
  unfold State.reconcile
  dsimp only
  refine ⟨_, _, _, _, ?_, rfl⟩
  split
  · refine .inr ?_
    obtain ⟨hlo, hhi⟩ := clampI_range (lo := 8192) (hi := 32768) (by decide) _
    unfold natOf
    constructor
    · exact (Int.le_toNat (by omega)).mpr hlo
    · exact Int.toNat_le.mpr hhi
  · exact .inl rfl

/-- The registers of capping past the common ones are none of those of its events. -/
theorem capReg_not_event {o : Nat} (h : 0x58010 ≤ o ∧ o < 0x60000) : o ∉ eventRegs 13 := by
  have hapart : ∀ x ∈ eventRegs 13, x < 0x58010 ∨ 0x60000 ≤ x := by decide
  intro hm
  have := hapart o hm
  omega

/-- The sums that a class gathers for reconciliation are empty (R408). -/
def SumsEmpty (s : State) (k : Nat) : Prop := (s.cls k).vi = 0 ∧ (s.cls k).lam = 0 ∧ (s.cls k).raw = 0

/-- The registers that a reconciliation may change after CAP_EST. -/
def reconcileRegs : List Nat := (upTo 4).map CAP_CGAIN ++ eventRegs 13

/-- One class reconciled: its own gain moves within its limits and its own sums are emptied; every other class stands. -/
theorem reconcile_class (s : State) {k : Nat} (hk : k < 4) :
    ClassesMoved reconcileRegs s (s.reconcile k) ∧
    (∀ j, j < 4 → GainFrom (s.get (fCAP_CGAIN_GAIN j)) ((s.reconcile k).get (fCAP_CGAIN_GAIN j))) ∧
    SumsEmpty (s.reconcile k) k ∧ ∀ j, j ≠ k → SumsEmpty s j → SumsEmpty (s.reconcile k) j := by
  obtain ⟨gain, run, drift, c, hgain, heq⟩ := reconcile_eq s k
  have hmem : CAP_CGAIN k ∈ reconcileRegs := List.mem_append_left _ (List.mem_map_of_mem (List.mem_range.mpr hk))
  have hcls (j : Nat) : (s.reconcile k).cls j =
      if j = k then { s.cls k with drift := run, driftOn := drift, vi := 0, lam := 0, raw := 0 } else s.cls j := by
    rw [heq, cls_raiseIf, cls_updCls, cls_put, cls_put]
  refine ⟨?_, fun j hj => ?_, ?_, fun j hj h => ?_⟩
  · rw [heq]
    exact (((ClassesMoved.refl _ s).put _ hmem).updCls k _).raiseIf c k (List.subset_append_right _ _)
  · have hev : CAP_CGAIN j ∉ eventRegs 13 := capReg_not_event (by unfold CAP_CGAIN; omega)
    rw [heq, get_sameRegs (sameRegs_raiseIf _ c evCAP_TALLY_DRIFT k) (fCAP_CGAIN_GAIN j) hev, get_updCls]
    by_cases hjk : j = k
    · subst hjk
      rw [get_put _ _ _ (by simp)]
      have hlt : gain < 2 ^ 16 := by
        have hold := get_le_top s (fCAP_CGAIN_GAIN j)
        unfold Fld.top at hold
        dsimp only at hold
        rcases hgain with h | ⟨-, h⟩ <;> omega
      rw [Nat.mod_eq_of_lt hlt]
      exact hgain
    · rw [get_put_reg _ _ _ _ (by change CAP_CGAIN j ≠ CAP_CGAIN k; unfold CAP_CGAIN; omega)]
      exact .inl rfl
  · unfold SumsEmpty
    rw [hcls, if_pos rfl]
    exact ⟨rfl, rfl, rfl⟩
  · unfold SumsEmpty
    rw [hcls, if_neg hj]
    exact h

theorem GainFrom.trans {a b c : Nat} (h : GainFrom a b) (k : GainFrom b c) : GainFrom a c := by
  rcases k with rfl | k
  · exact h
  · exact .inr k

/-- Classes reconciled in turn: every gain stands or lies within its limits, and the sums of each class are emptied. -/
theorem reconcile_foldl (l : List Nat) (hl : ∀ k ∈ l, k < 4) (s : State) :
    ClassesMoved reconcileRegs s (l.foldl (fun s k => s.reconcile k) s) ∧
    (∀ j, j < 4 → GainFrom (s.get (fCAP_CGAIN_GAIN j)) ((l.foldl (fun s k => s.reconcile k) s).get (fCAP_CGAIN_GAIN j))) ∧
    ∀ j, (j ∈ l ∨ SumsEmpty s j) → SumsEmpty (l.foldl (fun s k => s.reconcile k) s) j := by
  induction l generalizing s with
  | nil => exact ⟨.refl _ s, fun _ _ => .inl rfl, fun j h => by simpa using h⟩
  | cons k l ih =>
    obtain ⟨hmoved, hgain, hsame, hother⟩ := reconcile_class s (hl k (by simp))
    obtain ⟨imoved, igain, isums⟩ := ih (fun j hj => hl j (by simp [hj])) (s.reconcile k)
    refine ⟨hmoved.trans imoved, fun j hj => (hgain j hj).trans (igain j hj), fun j h => isums j ?_⟩
    by_cases hj : j = k
    · exact .inr (hj ▸ hsame)
    · exact h.imp (fun hm => by simpa [hj] using hm) (hother j hj)

theorem showMeas_eq (s : State) (vi : Int) {frames : Nat} (h : frames ≠ 0) :
    s.showMeas vi frames = s.put fCAP_EST_MEAS (min 65535 (natOf (divOpen 33 vi (500 * frames : Nat)))) := if_neg h

theorem exec_reconcile (hrec : s.cap.recCnt ≠ 0) (hvi : s.cap.viCnt ≠ 0) : exec .reconcile s = .next
    (((upTo 4).foldl (fun s k => s.reconcile k) (s.put fCAP_EST_MEAS
      (min 65535 (natOf (divOpen 33 ((upTo 4).foldl (fun a k => a + (s.cls k).vi) 0) (500 * s.cap.viCnt : Nat)))))).updCap fun c =>
        { c with recCnt := 0, viCnt := 0 }) := by
  change execReconcile s = _
  unfold execReconcile
  dsimp only
  rw [showMeas_eq _ _ hvi, State.put_cap, if_neg (by simp [hrec, hvi])]
  rfl

/-- Without a frame since the latest reconciliation nothing is shown and no gain moves. -/
theorem exec_reconcile_empty (h : s.cap.viCnt = 0) : exec .reconcile s = .next s := by
  change execReconcile s = _
  unfold execReconcile State.showMeas
  dsimp only
  rw [if_pos h, if_pos (by simp [h])]

theorem reconcile_runs (hrec : s.cap.recCnt ≠ 0) (hvi : s.cap.viCnt ≠ 0) : Runs .reconcile s fun u => u.cap.recCnt = 0 ∧ u.cap.viCnt = 0 ∧
    u.get fCAP_EST_MEAS = min 65535 (natOf (divOpen 33 ((upTo 4).foldl (fun a k => a + (s.cls k).vi) 0) (500 * s.cap.viCnt : Nat))) ∧
    (∀ k, k < 4 → GainFrom (s.get (fCAP_CGAIN_GAIN k)) (u.get (fCAP_CGAIN_GAIN k)) ∧ SumsEmpty u k) ∧
    OnlyEvents { s with cap := { s.cap with classes := u.cap.classes, recCnt := 0, viCnt := 0 } } u (CAP_EST :: (upTo 4).map CAP_CGAIN ++ eventRegs 13) := by
  have hexec := exec_reconcile hrec hvi
  generalize hm : min 65535 (natOf (divOpen 33 ((upTo 4).foldl (fun a k => a + (s.cls k).vi) 0) (500 * s.cap.viCnt : Nat))) = meas at hexec
  have hmeas : meas < 2 ^ 16 := by omega
  obtain ⟨hmoved, hgain, hsums⟩ := reconcile_foldl (upTo 4) (fun k hk => List.mem_range.mp hk) (s.put fCAP_EST_MEAS meas)
  generalize hf : (upTo 4).foldl (fun s k => s.reconcile k) (s.put fCAP_EST_MEAS meas) = w at hexec hmoved hgain hsums
  obtain ⟨⟨cl, r, b, v, p, c, hw⟩, hregs⟩ := hmoved
  refine ⟨_, hexec, rfl, rfl, ?_, fun k hk => ⟨?_, hsums k (.inl (List.mem_range.mpr hk))⟩, ⟨r, b, v, p, c, by rw [hw]; rfl⟩, fun o ho => ?_⟩
  · rw [get_updCap, get_sameRegs hregs fCAP_EST_MEAS (by decide), get_put _ _ _ (by simp)]
    exact Nat.mod_eq_of_lt hmeas
  · have hold : (s.put fCAP_EST_MEAS meas).get (fCAP_CGAIN_GAIN k) = s.get (fCAP_CGAIN_GAIN k) :=
      get_put_reg _ _ _ _ (by change CAP_CGAIN k ≠ CAP_EST; unfold CAP_CGAIN CAP_EST; omega)
    rw [← hold]
    exact hgain k hk
  · obtain ⟨hest, hrest⟩ : o ≠ CAP_EST ∧ o ∉ reconcileRegs := by simpa [reconcileRegs] using ho
    exact (hregs o hrest).trans (reg_put_ne s fCAP_EST_MEAS o meas hest)

/-! ### CAP_TRIM_UPDATE -/

/-- A quotient whose rounding is open exceeds the exact one by less than 1. -/
theorem divOpen_mul_le (site : Nat) (a : Int) {b : Int} (hb : 0 < b) : divOpen site a b * b ≤ a + b := by
  have hdiv := Int.ediv_mul_le a hb.ne'
  unfold divOpen
  split
  · linarith
  · split
    · linarith
    · linarith

theorem powScale_pos (s : State) : 0 < s.powScale := by
  unfold State.powScale State.vref
  positivity

/-- The trim becomes a figure between 0 and 5 % of the mean budget, within the rounding that R416 leaves open. -/
theorem exec_capTrimUpdate (hvi : s.cap.viDieCnt ≠ 0) (hb : s.cap.bCnt ≠ 0) : ∃ meas trim,
    trim * (20 * (s.powScale * s.cap.bCnt)) ≤ s.cap.bSum + 20 * (s.powScale * s.cap.bCnt) ∧
    exec .capTrimUpdate s = .next (((s.put fCAP_EST_MEAS meas).put fCAP_SHORT_TRIM trim).updCap fun c =>
      { c with viDie := 0, viDieCnt := 0, bSum := 0, bCnt := 0 }) := by
  obtain ⟨kn, hkn⟩ : ∃ kn, kn = s.powScale * s.cap.bCnt := ⟨_, rfl⟩
  have hpos : 0 < kn := hkn ▸ Nat.mul_pos (powScale_pos s) (Nat.pos_of_ne_zero hb)
  have hcast : ((s.powScale : Int) * s.cap.bCnt) = kn := by rw [hkn]; push_cast; rfl
  have hopen := divOpen_mul_le 32 s.cap.bSum (b := 20 * kn) (by omega)
  rw [← hkn]
  change ∃ meas trim, _ ∧ execCapTrimUpdate s = _
  unfold execCapTrimUpdate
  dsimp only
  rw [if_neg (by simp [hvi, hb]), showMeas_eq _ _ hvi, hcast]
  refine ⟨_, _, ?_, rfl⟩
  generalize divOpen 32 s.cap.bSum (20 * kn) = top at hopen ⊢
  generalize divOpen 31 _ _ = half
  have htrim : min 65535 (natOf (min (max 0 half) top)) = 0 ∨ ((min 65535 (natOf (min (max 0 half) top)) : Nat) : Int) ≤ top := by
    unfold natOf
    omega
  generalize min 65535 (natOf (min (max 0 half) top)) = trim at htrim ⊢
  rcases htrim with rfl | htop
  · omega
  · have hmul : (trim : Int) * (20 * kn) ≤ top * (20 * kn) := Int.mul_le_mul_of_nonneg_right htop (by omega)
    have hle : (trim : Int) * (20 * kn) ≤ s.cap.bSum + 20 * kn := hmul.trans hopen
    exact_mod_cast hle

theorem capTrimUpdate_runs (hvi : s.cap.viDieCnt ≠ 0) (hb : s.cap.bCnt ≠ 0) : Runs .capTrimUpdate s fun u =>
    u.get fCAP_SHORT_TRIM * (20 * (s.powScale * s.cap.bCnt)) ≤ s.cap.bSum + 20 * (s.powScale * s.cap.bCnt) ∧
    OnlyRegs { s with cap := { s.cap with viDie := 0, viDieCnt := 0, bSum := 0, bCnt := 0 } } u [CAP_EST, CAP_SHORT] := by
  obtain ⟨meas, trim, htrim, hexec⟩ := exec_capTrimUpdate hvi hb
  refine ⟨_, hexec, ?_, ⟨_, s.cyc, rfl⟩, ?_⟩
  · rw [get_updCap, get_put _ _ _ (by simp)]
    exact (Nat.mul_le_mul_right _ (Nat.mod_le _ _)).trans htrim
  · exact ((SameRegs.refl s [CAP_EST, CAP_SHORT]).put (f := fCAP_EST_MEAS) meas (by simp)).put (f := fCAP_SHORT_TRIM) trim (by simp)

/-! ### CAP_PKG -/

/-- A served write of CAP_PKG reaches the package cap on the principal alone (R411, R542). -/
theorem exec_capPkgWrite {p : Port} (v : Word) (hs : Served p CAP_PKG s) : exec (.capPkgWrite p v) s = .next ((if s.isPrincipal then
    (s.hostMark (p = .core) CAP_PKG 0xFFFFF#32).setPkgCap (bitsAt v 0 20) else s.hostMark (p = .core) CAP_PKG 0xFFFFF#32).okay 0) := by
  have hacc : accessOf CAP_PKG = some ⟨0xFFFFF#32, 0, 0, 0⟩ := by decide +kernel
  have hprincipal : (s.hostMark (p = .core) CAP_PKG 0xFFFFF#32).isPrincipal = s.isPrincipal := by
    unfold State.hostMark
    split <;> rfl
  have hbits : s.writeBits ⟨0xFFFFF#32, 0, 0, 0⟩ CAP_PKG v = v := by
    change v &&& ~~~(0#32 &&& _) = v
    rw [BitVec.zero_and, BitVec.not_zero, BitVec.and_allOnes]
  have hstore (w : Word) : (s.hostMark (p = .core) CAP_PKG 0xFFFFF#32).storeIn (p = .core) 13 CAP_PKG w v =
      if s.isPrincipal then (s.hostMark (p = .core) CAP_PKG 0xFFFFF#32).setPkgCap (bitsAt v 0 20) else s.hostMark (p = .core) CAP_PKG 0xFFFFF#32 := by
    rw [← hprincipal]
    rfl
  change s.portWrite p CAP_PKG v = _
  rw [portWrite_in s p CAP_PKG v 13 _ hs (by decide) (by decide) (by decide) hacc rfl (by decide +kernel) (by decide +kernel) (by decide), hbits, ← hstore]
  rfl

/-- A package cap stands in CAP_PKG, and a frame may tell of it; nothing else changes (R542). -/
theorem setPkgCap_eq (s : State) (cap : Nat) : ∃ v, s.setPkgCap cap = { s.put fCAP_PKG_CAP cap with trv := v } := by
  unfold State.setPkgCap
  dsimp only
  split
  · obtain ⟨v, hv⟩ := originate_trv ((s.put fCAP_PKG_CAP cap).updTrv fun h => { h with capSentAt := s.now }) 5 cap
    exact ⟨v, by rw [hv]; rfl⟩
  · exact ⟨s.trv, rfl⟩

theorem hostMark_eq (s : State) (core : Bool) (o : Nat) (m : Word) : ∃ c, s.hostMark core o m = { s with cyc := c } := by
  unfold State.hostMark
  split
  · exact ⟨s.cyc, rfl⟩
  · exact ⟨_, rfl⟩

theorem capPkgWrite_runs {p : Port} (v : Word) (hs : Served p CAP_PKG s) :
    (s.isPrincipal = true → Runs (.capPkgWrite p v) s fun u => u.get fCAP_PKG_CAP = v.toNat % 2 ^ 20 ∧
      OnlyRegs { s with trv := u.trv, bus := { slverr := false, data := 0 } } u [CAP_PKG]) ∧
    (s.isPrincipal = false → Ends (.capPkgWrite p v) s (s.okay 0)) := by
  have hexec := exec_capPkgWrite v hs
  obtain ⟨c, hc⟩ := hostMark_eq s (p = .core) CAP_PKG 0xFFFFF#32
  rw [hc] at hexec
  constructor
  · intro hp
    rw [if_pos hp] at hexec
    obtain ⟨w, hw⟩ := setPkgCap_eq ({ s with cyc := c } : State) (bitsAt v 0 20)
    rw [hw] at hexec
    have hcap : bitsAt v 0 20 % 2 ^ 20 = v.toNat % 2 ^ 20 := by simp [bitsAt]
    exact ⟨_, hexec, (get_put ({ s with cyc := c } : State) fCAP_PKG_CAP _ (by simp)).trans hcap, ⟨_, c, rfl⟩,
      ((SameRegs.refl s [CAP_PKG]).ofRegs (u := { s with cyc := c }) rfl).put (f := fCAP_PKG_CAP) _ (by simp)⟩
  · intro hp
    rw [if_neg (by simp [hp])] at hexec
    exact ⟨_, hexec, rfl⟩

end Sys2Proof.Machine
end

section
/-!
SUPPORT. A Tally update with capping disabled: what each part of it leaves of the activity counts, the share that waits and the registers
it does not show (R405-R440, R448).
-/

namespace Sys2Proof.Machine

variable {l : List Nat} {s t u : State}

/-! ### What the later parts of an update leave -/

/-- The activity counts, the number of updates, the share that waits, and every register outside a list stand. -/
structure TallyStands (l : List Nat) (s t : State) : Prop where
  acts : t.cap.acts = s.cap.acts
  updates : t.cap.updates = s.cap.updates
  share : t.cap.pendShare = s.cap.pendShare
  regs : SameRegs s t l

theorem TallyStands.refl (l : List Nat) (s : State) : TallyStands l s s := ⟨rfl, rfl, rfl, .refl s l⟩

theorem TallyStands.trans (h : TallyStands l s t) (k : TallyStands l t u) : TallyStands l s u :=
  ⟨k.acts.trans h.acts, k.updates.trans h.updates, k.share.trans h.share, h.regs.trans k.regs⟩

theorem TallyStands.mono {m : List Nat} (h : TallyStands l s t) (hs : l ⊆ m) : TallyStands m s t :=
  ⟨h.acts, h.updates, h.share, h.regs.mono hs⟩

theorem TallyStands.put (h : TallyStands l s t) {f : Fld} (n : Nat) (hf : f.off ∈ l) : TallyStands l s (t.put f n) :=
  h.trans ⟨rfl, rfl, rfl, (SameRegs.refl t l).put n hf⟩

theorem TallyStands.updCls (h : TallyStands l s t) (k : Nat) (f : ClassHid → ClassHid) : TallyStands l s (t.updCls k f) :=
  h.trans ⟨rfl, rfl, rfl, (SameRegs.refl t l).ofRegs rfl⟩

theorem TallyStands.raiseIf (h : TallyStands l s t) (c : Bool) {e : Ev} (i : Nat) (he : eventRegs e.block ⊆ l) :
    TallyStands l s (t.raiseIf c e i) :=
  h.trans ⟨by rw [State.raiseIf_cap], by rw [State.raiseIf_cap], by rw [State.raiseIf_cap], (sameRegs_raiseIf t c e i).mono he⟩

theorem TallyStands.foldl {α : Type} {f : State → α → State} (as : List α) (h : TallyStands l s t)
    (hf : ∀ u, ∀ a ∈ as, TallyStands l u (f u a)) : TallyStands l s (as.foldl f t) := by
  induction as generalizing t with
  | nil => exact h
  | cons a as ih => exact ih (h.trans (hf t a (by simp))) fun u b hb => hf u b (by simp [hb])

/-! ### The estimate and the budget -/

theorem addSums_eq (s : State) (ps : List DomPow) : ∃ w n, s.addSums ps = { s with cap := { s.cap with classes := w, recCnt := n } } := by
  have hfold : ∃ w, ps.foldl (fun s p => s.updCls p.cls fun h => { h with lam := h.lam + p.leak, raw := h.raw + p.raw }) s =
      { s with cap := { s.cap with classes := w } } := by
    induction ps generalizing s with
    | nil => exact ⟨s.cap.classes, rfl⟩
    | cons p ps ih =>
      obtain ⟨w, hw⟩ := ih (s.updCls p.cls fun h => { h with lam := h.lam + p.leak, raw := h.raw + p.raw })
      exact ⟨w, by rw [List.foldl_cons, hw]; rfl⟩
  obtain ⟨w, hw⟩ := hfold
  unfold State.addSums
  rw [hw]
  exact ⟨w, _, rfl⟩

theorem showPow_lt (s : State) (site x : Nat) : s.showPow site x < 2 ^ 16 := by
  unfold State.showPow
  omega

/-- The estimate is shown, and the activity counts are begun anew (R405, R407). -/
theorem takeEstimate_spec (s : State) (ps : List DomPow) (est : Nat) :
    (s.takeEstimate ps est).get fCAP_EST_EST = s.showPow 22 est ∧ (s.takeEstimate ps est).cap.acts = [] ∧
    (s.takeEstimate ps est).cap.updates = s.cap.updates ∧ (s.takeEstimate ps est).cap.pendShare = s.cap.pendShare ∧
    SameRegs s (s.takeEstimate ps est) [CAP_EST] := by
  obtain ⟨w, n, hsums⟩ := addSums_eq (s.addModels ps) ps
  have hlt := showPow_lt s 22 est
  have heq : ∃ a b e, s.takeEstimate ps est = { s.put fCAP_EST_EST (s.showPow 22 est) with
      cap := { s.cap with classes := w, recCnt := n, acts := [], aboveFrom := a, withinFrom := b }, env := e, nrg := (s.addModels ps).nrg } := by
    unfold State.takeEstimate
    rw [hsums]
    exact ⟨_, _, _, rfl⟩
  generalize s.showPow 22 est = shown at heq hlt ⊢
  obtain ⟨a, b, e, heq⟩ := heq
  rw [heq]
  refine ⟨?_, rfl, rfl, rfl, ((SameRegs.refl s [CAP_EST]).put (f := fCAP_EST_EST) shown (by simp)).ofRegs rfl⟩
  exact (get_put s fCAP_EST_EST shown (by simp)).trans (Nat.mod_eq_of_lt hlt)

/-- The state in which a share that waited, if there is one, is in force (R413). -/
def State.shareTaken (s : State) : State :=
  match s.cap.pendShare with
  | none => s
  | some n => (s.put fCAP_SHARE_SHARE n).updCap fun c => { c with pendShare := none }

theorem shareTaken_spec (s : State) : s.shareTaken.cap.pendShare = none ∧ s.shareTaken.cap.acts = s.cap.acts ∧
    s.shareTaken.cap.updates = s.cap.updates ∧ (∀ b, s.cap.pendShare = some b → s.shareTaken.get fCAP_SHARE_SHARE = b % 65536) ∧
    SameRegs s s.shareTaken [CAP_SHARE] := by
  unfold State.shareTaken
  split
  · next h => exact ⟨h, rfl, rfl, fun b hb => by simp [h] at hb, .refl s _⟩
  · next n h =>
    refine ⟨rfl, rfl, rfl, fun b hb => ?_, ((SameRegs.refl s [CAP_SHARE]).put (f := fCAP_SHARE_SHARE) n (by simp)).ofRegs rfl⟩
    obtain rfl : n = b := by simpa [h] using hb
    exact get_put s fCAP_SHARE_SHARE n (by simp)

/-- The budget of the period: a share that waited is shown and waits no more (R413, R415, R439). -/
theorem takeBudget_spec (s : State) (est : Nat) :
    (s.takeBudget est).cap.pendShare = none ∧ (s.takeBudget est).cap.acts = s.cap.acts ∧ (s.takeBudget est).cap.updates = s.cap.updates ∧
    (∀ b, s.cap.pendShare = some b → (s.takeBudget est).get fCAP_SHARE_SHARE = b % 65536) ∧
    SameRegs s (s.takeBudget est) (CAP_SHARE :: eventRegs 13) := by
  obtain ⟨hpend, hacts, hupdates, hshare, hregs⟩ := shareTaken_spec s
  have heq : ∃ shown b c, s.takeBudget est = ((s.shareTaken.put fCAP_SHARE_BUDGET shown).updCap fun x =>
      { x with lastB := b, bSum := x.bSum + b, bCnt := x.bCnt + 1 }).raiseIf c evCAP_OVER 0xFFFF := ⟨_, _, _, rfl⟩
  obtain ⟨shown, b, c, heq⟩ := heq
  rw [heq]
  refine ⟨by rw [State.raiseIf_cap]; exact hpend, by rw [State.raiseIf_cap]; exact hacts, by rw [State.raiseIf_cap]; exact hupdates,
    fun n hn => ?_, SameRegs.trans (SameRegs.trans (hregs.mono (by simp)) (t := s.shareTaken) ?_) ((sameRegs_raiseIf _ c evCAP_OVER _).mono (by simp))⟩
  · rw [get_sameRegs (sameRegs_raiseIf _ c evCAP_OVER _) fCAP_SHARE_SHARE (by decide), get_updCap,
      get_put_apart _ fCAP_SHARE_BUDGET fCAP_SHARE_SHARE _ rfl (.inl (by simp)), hshare n hn]
  · exact ((SameRegs.refl s.shareTaken _).put (f := fCAP_SHARE_BUDGET) shown (by simp)).ofRegs rfl

/-! ### Demands, ageing and the shares shown -/

/-- The registers that an update changes once the budget stands: CAP_SHORT, CAP_CBUD, CAP_CSTATE, CAP_DGRADE, and those of events. -/
def controlRegs : List Nat := CAP_SHORT :: ((upTo 4).map CAP_CBUD ++ (upTo 3).map CAP_CSTATE ++ (upTo 32).map CAP_DGRADE) ++ eventRegs 13

theorem event_subset_controlRegs : eventRegs 13 ⊆ controlRegs := List.subset_append_right _ _

theorem mem_controlRegs_cbud {k : Nat} (h : k < 4) : CAP_CBUD k ∈ controlRegs := by
  have : CAP_CBUD k ∈ (upTo 4).map CAP_CBUD := List.mem_map_of_mem (List.mem_range.mpr h)
  simp only [controlRegs, List.mem_cons, List.mem_append, this, true_or, or_true]

theorem mem_controlRegs_cstate {k : Nat} (h : k < 3) : CAP_CSTATE k ∈ controlRegs := by
  have : CAP_CSTATE k ∈ (upTo 3).map CAP_CSTATE := List.mem_map_of_mem (List.mem_range.mpr h)
  simp only [controlRegs, List.mem_cons, List.mem_append, this, true_or, or_true]

theorem mem_controlRegs_dgrade {d : Nat} (h : d < 32) : CAP_DGRADE d ∈ controlRegs := by
  have : CAP_DGRADE d ∈ (upTo 32).map CAP_DGRADE := List.mem_map_of_mem (List.mem_range.mpr h)
  simp only [controlRegs, List.mem_cons, List.mem_append, this, true_or, or_true]

/-- They lie apart from the registers of domains. -/
theorem controlRegs_apart : ∀ o ∈ controlRegs, o < 0x40000 ∨ 0x58000 ≤ o := by decide

theorem est_not_mem_controlRegs : CAP_EST ∉ controlRegs := by decide
theorem share_not_mem_controlRegs : CAP_SHARE ∉ controlRegs := by decide
theorem ctl_not_mem_controlRegs : CAP_CTL ∉ controlRegs := by decide

theorem stands_noteDerate (s : State) (ps : List DomPow) : TallyStands controlRegs s (s.noteDerate ps) := by
  have hlim (lim : List Nat) : TallyStands controlRegs s (s.updCap fun c => { c with limited := lim }) :=
    ⟨rfl, rfl, rfl, (SameRegs.refl s _).ofRegs rfl⟩
  unfold State.noteDerate
  exact (hlim _).foldl _ fun u d _ => (TallyStands.refl _ u).raiseIf _ _ event_subset_controlRegs

theorem stands_age (s : State) (a : Int) (dem flr : List Nat) : TallyStands controlRegs s (s.age a dem flr).1 := by
  unfold State.age State.starve
  exact (((TallyStands.refl _ s).foldl _ fun u k _ => (TallyStands.refl _ u).updCls k _).foldl _ fun u k _ => (TallyStands.refl _ u).updCls k _).foldl _
    fun u k _ => (TallyStands.refl _ u).raiseIf _ _ event_subset_controlRegs

theorem stands_showClasses (s : State) (dem bud : List Nat) (unc : Nat) : TallyStands controlRegs s (s.showClasses dem bud unc) := by
  have h3 : CAP_CBUD 3 ∈ controlRegs := mem_controlRegs_cbud (by decide)
  unfold State.showClasses
  refine TallyStands.put (TallyStands.put ((TallyStands.refl _ s).foldl _ fun u k hk => ?_) _ h3) _ h3
  have hmem : CAP_CBUD k ∈ controlRegs := mem_controlRegs_cbud (by have := List.mem_range.mp hk; omega)
  exact ((TallyStands.refl _ u).put _ hmem).put _ hmem

/-! ### One class -/

/-- The domains of a class that are not Unused: those that its pause duty acts on (R435). -/
def State.classDoms (s : State) (k : Nat) : List Nat := (upTo 32).filter fun d => s.classOf d = k && s.domState d ≠ 0

theorem mem_classDoms {k d : Nat} : d ∈ s.classDoms k ↔ d < 32 ∧ s.classOf d = k ∧ s.domState d ≠ 0 := by
  simp [State.classDoms, upTo]

/-- A class with what an update finds of it: its ceiling, duty and state in CAP_CSTATE, and how long it has been over its budget or
within it (R434-R436, R440). -/
def State.classNoted (s : State) (k ceil duty : Nat) (capped promoted : Bool) (starve nOver nWithin un : Nat) : State :=
  ((((((s.put (fCAP_CSTATE_CEIL k) ceil).put (fCAP_CSTATE_PAUSE k) duty).putB (fCAP_CSTATE_CAPPED k) capped).updCls k fun h =>
    { h with overRun := nOver, withinRun := nWithin }).updCap fun x => { x with unatt := tblSet (fun _ => 0) x.unatt k un }).putB
    (fCAP_CSTATE_PROMOTED k) promoted).put (fCAP_CSTATE_STARVE k) starve

/-- A capping pause duty put on domains (R435). -/
def State.pauseDoms (s : State) (ds : List Nat) (duty : Nat) : State := ds.foldl (fun t d => t.put (fCAP_DGRADE_PAUSE d) duty) s

/-- With capping disabled the ceiling found is G15 and the duty 0, and the class is not capped (R448). -/
theorem controlClass_eq (s : State) (ps : List DomPow) (bud : List Nat) (k : Nat) : ∃ ceil duty capped promoted starve nOver nWithin un c,
    (s.on fCAP_CTL_EN = false → ceil = 15 ∧ duty = 0 ∧ capped = false) ∧
    s.controlClass ps bud k = ((s.classNoted k ceil duty capped promoted starve nOver nWithin un).pauseDoms (s.classDoms k) duty).raiseIf c
      evCAP_UNATTAINABLE k := by
  obtain ⟨t, ht⟩ : ∃ t, t = s.controlClass ps bud k := ⟨_, rfl⟩
  rw [← ht]
  unfold State.controlClass at ht
  extract_lets b mine en was ceil duty capped above bottom h n m unatt s1 s2 s3 s4 at ht
  refine ⟨ceil, duty, capped, s2.promoted k, _, n, m, b2n unatt, unatt && !was, fun hen => ⟨?_, ?_, ?_⟩, ht⟩
  · exact if_pos (by simp [en, hen])
  · exact if_pos (by simp [en, hen])
  · simp [capped, en, hen]

variable {ds : List Nat} {duty : Nat}

/-- A duty put on domains changes no register but theirs. -/
theorem stands_pauseDoms (s : State) : TallyStands (ds.map CAP_DGRADE) s (s.pauseDoms ds duty) :=
  (TallyStands.refl _ s).foldl ds fun u _ hd => (TallyStands.refl _ u).put _ (List.mem_map_of_mem hd)

theorem pause_put (s : State) (d e duty : Nat) (h : d = e ∨ s.get (fCAP_DGRADE_PAUSE d) = duty % 32) :
    (s.put (fCAP_DGRADE_PAUSE e) duty).get (fCAP_DGRADE_PAUSE d) = duty % 32 := by
  by_cases he : d = e
  · rw [he]
    exact get_put s (fCAP_DGRADE_PAUSE e) duty (by simp)
  · rw [get_put_reg s (fCAP_DGRADE_PAUSE e) (fCAP_DGRADE_PAUSE d) duty (by change CAP_DGRADE d ≠ CAP_DGRADE e; unfold CAP_DGRADE; omega)]
    exact h.resolve_left he

theorem pause_pauseDoms (s : State) {d : Nat} (h : d ∈ ds ∨ s.get (fCAP_DGRADE_PAUSE d) = duty % 32) :
    (s.pauseDoms ds duty).get (fCAP_DGRADE_PAUSE d) = duty % 32 := by
  unfold State.pauseDoms
  induction ds generalizing s with
  | nil => simpa using h
  | cons e ds ih =>
    refine ih _ ?_
    rcases h with h | h
    · rcases List.mem_cons.mp h with rfl | hm
      · exact .inr (pause_put s d d duty (.inl rfl))
      · exact .inl hm
    · exact .inr (pause_put s d e duty (.inr h))

section
variable (s : State) (k ceil duty : Nat) (capped promoted : Bool) (starve nOver nWithin un : Nat)

theorem stands_classNoted : TallyStands [CAP_CSTATE k] s (s.classNoted k ceil duty capped promoted starve nOver nWithin un) := by
  refine ⟨rfl, rfl, rfl, fun o ho => ?_⟩
  have hne : o ≠ CAP_CSTATE k := by simpa using ho
  rw [State.classNoted, reg_put_ne _ _ _ _ hne, reg_putB_ne _ _ _ _ hne, reg_updCap, reg_updCls, reg_putB_ne _ _ _ _ hne, reg_put_ne _ _ _ _ hne,
    reg_put_ne _ _ _ _ hne]

/-- CAP_CSTATE shows the ceiling, the duty and whether the class is capped (R436). -/
theorem classNoted_fields : (s.classNoted k ceil duty capped promoted starve nOver nWithin un).get (fCAP_CSTATE_CEIL k) = ceil % 16 ∧
    (s.classNoted k ceil duty capped promoted starve nOver nWithin un).get (fCAP_CSTATE_PAUSE k) = duty % 32 ∧
    (s.classNoted k ceil duty capped promoted starve nOver nWithin un).on (fCAP_CSTATE_CAPPED k) = capped := by
  unfold State.classNoted
  refine ⟨?_, ?_, ?_⟩
  · rw [get_put_apart _ (fCAP_CSTATE_STARVE k) (fCAP_CSTATE_CEIL k) _ rfl (.inl (by simp)),
      get_putB_apart _ (fCAP_CSTATE_PROMOTED k) (fCAP_CSTATE_CEIL k) _ rfl (.inl (by simp)), get_updCap, get_updCls,
      get_putB_apart _ (fCAP_CSTATE_CAPPED k) (fCAP_CSTATE_CEIL k) _ rfl (.inl (by simp)),
      get_put_apart _ (fCAP_CSTATE_PAUSE k) (fCAP_CSTATE_CEIL k) _ rfl (.inl (by simp))]
    exact get_put _ (fCAP_CSTATE_CEIL k) _ (by simp)
  · rw [get_put_apart _ (fCAP_CSTATE_STARVE k) (fCAP_CSTATE_PAUSE k) _ rfl (.inl (by simp)),
      get_putB_apart _ (fCAP_CSTATE_PROMOTED k) (fCAP_CSTATE_PAUSE k) _ rfl (.inl (by simp)), get_updCap, get_updCls,
      get_putB_apart _ (fCAP_CSTATE_CAPPED k) (fCAP_CSTATE_PAUSE k) _ rfl (.inl (by simp))]
    exact get_put _ (fCAP_CSTATE_PAUSE k) _ (by simp)
  · rw [on_put_apart _ (fCAP_CSTATE_STARVE k) (fCAP_CSTATE_CAPPED k) _ rfl (.inl (by simp)),
      on_putB_apart _ (fCAP_CSTATE_PROMOTED k) (fCAP_CSTATE_CAPPED k) _ rfl (.inl (by simp)), on_updCap, on_updCls]
    exact on_putB_same _ (fCAP_CSTATE_CAPPED k) _ (by simp) rfl

end

end Sys2Proof.Machine
end

section
/-!
SUPPORT. A Tally update as a whole: what it shows, and what it leaves of the classes with capping disabled (R405, R407, R413, R448).
-/

namespace Sys2Proof.Machine

variable {ds : List Nat} {s t : State} {k : Nat}

/-! ### With capping disabled -/

/-- A class shows no hold of capping, and domains no pause duty (R448). -/
structure Uncapped (ds : List Nat) (s : State) (k : Nat) : Prop where
  ceil : s.get (fCAP_CSTATE_CEIL k) = 15
  pause : s.get (fCAP_CSTATE_PAUSE k) = 0
  capped : s.on (fCAP_CSTATE_CAPPED k) = false
  doms : ∀ d ∈ ds, s.get (fCAP_DGRADE_PAUSE d) = 0

theorem Uncapped.of_regs (h : Uncapped ds s k) (hclass : t.reg (CAP_CSTATE k) = s.reg (CAP_CSTATE k))
    (hdoms : ∀ d ∈ ds, t.reg (CAP_DGRADE d) = s.reg (CAP_DGRADE d)) : Uncapped ds t k :=
  ⟨(get_of_reg (fCAP_CSTATE_CEIL k) hclass).trans h.ceil, (get_of_reg (fCAP_CSTATE_PAUSE k) hclass).trans h.pause,
    (on_of_reg (fCAP_CSTATE_CAPPED k) hclass).trans h.capped, fun d hd => (get_of_reg (fCAP_DGRADE_PAUSE d) (hdoms d hd)).trans (h.doms d hd)⟩

theorem cstate_not_mem_dgrade {k : Nat} (hk : k < 3) (ds : List Nat) : CAP_CSTATE k ∉ ds.map CAP_DGRADE := by
  intro hm
  obtain ⟨d, -, hd⟩ := List.mem_map.mp hm
  unfold CAP_CSTATE CAP_DGRADE at hd
  omega

theorem cstate_not_event {k : Nat} (hk : k < 3) : CAP_CSTATE k ∉ eventRegs 13 :=
  capReg_not_event (by unfold CAP_CSTATE; omega)

/-- The registers of one class at an update. -/
def classRegs (k : Nat) (ds : List Nat) : List Nat := CAP_CSTATE k :: ds.map CAP_DGRADE ++ eventRegs 13

/-- One class at an update: it shows its own registers and those of its domains, and with capping disabled it is not capped. -/
theorem controlClass_spec (s : State) (ps : List DomPow) (bud : List Nat) (hk : k < 3) :
    TallyStands (classRegs k (s.classDoms k)) s (s.controlClass ps bud k) ∧
    (s.on fCAP_CTL_EN = false → Uncapped (s.classDoms k) (s.controlClass ps bud k) k) := by
  obtain ⟨ceil, duty, capped, promoted, starve, nOver, nWithin, un, c, hoff, heq⟩ := controlClass_eq s ps bud k
  have hnoted := stands_classNoted s k ceil duty capped promoted starve nOver nWithin un
  have hfields := classNoted_fields s k ceil duty capped promoted starve nOver nWithin un
  generalize s.classNoted k ceil duty capped promoted starve nOver nWithin un = v at heq hnoted hfields
  have hpaused := stands_pauseDoms (ds := s.classDoms k) (duty := duty) v
  have hpause (d : Nat) (hd : d ∈ s.classDoms k) := pause_pauseDoms (ds := s.classDoms k) (duty := duty) v (.inl hd)
  have hcstate := hpaused.regs _ (cstate_not_mem_dgrade hk _)
  generalize v.pauseDoms (s.classDoms k) duty = w at heq hpaused hpause hcstate
  have hraise := sameRegs_raiseIf w c evCAP_UNATTAINABLE k
  constructor
  · rw [heq]
    refine TallyStands.raiseIf ((hnoted.mono ?_).trans (hpaused.mono ?_)) _ _ ?_
    · simp [classRegs]
    · simp [classRegs]
    · exact List.subset_append_right _ _
  · intro hen
    obtain ⟨rfl, rfl, rfl⟩ := hoff hen
    obtain ⟨hceil, hduty, hcapped⟩ := hfields
    have hw : Uncapped (s.classDoms k) w k := ⟨(get_of_reg (fCAP_CSTATE_CEIL k) hcstate).trans hceil,
      (get_of_reg (fCAP_CSTATE_PAUSE k) hcstate).trans hduty, (on_of_reg (fCAP_CSTATE_CAPPED k) hcstate).trans hcapped, hpause⟩
    rw [heq]
    refine hw.of_regs (hraise _ (cstate_not_event hk)) fun d hd => hraise _ (capReg_not_event ?_)
    have := (mem_classDoms.mp hd).1
    unfold CAP_DGRADE
    omega

theorem classRegs_subset (hk : k < 3) (s : State) : classRegs k (s.classDoms k) ⊆ controlRegs := by
  intro o ho
  simp only [classRegs, List.cons_append, List.mem_cons, List.mem_append, List.mem_map] at ho
  rcases ho with rfl | ⟨d, hd, rfl⟩ | ho
  · exact mem_controlRegs_cstate hk
  · exact mem_controlRegs_dgrade (mem_classDoms.mp hd).1
  · exact event_subset_controlRegs ho

/-- The domains of a class rest on DOM_CFG, DOM_MAP and DOM_DSTAT. -/
theorem classDoms_congr (hreg : ∀ o, 0x40000 ≤ o → o < 0x58000 → t.reg o = s.reg o) (k : Nat) : t.classDoms k = s.classDoms k := by
  have hclass (d : Nat) (hd : d < 32) : t.classOf d = s.classOf d := by
    have hcfg : t.reg (DOM_CFG d) = s.reg (DOM_CFG d) := hreg _ (by unfold DOM_CFG; omega) (by unfold DOM_CFG; omega)
    rw [State.classOf, State.classOf, get_of_reg (fDOM_CFG_CLASS d) hcfg]
  have htracts (d : Nat) : t.tractsOf d = s.tractsOf d := List.filter_congr fun k hk => by
    have hlt := List.mem_range.mp hk
    have hmap : t.reg (DOM_MAP k) = s.reg (DOM_MAP k) := hreg _ (by unfold DOM_MAP; omega) (by unfold DOM_MAP; omega)
    rw [State.domOf, State.domOf, get_of_reg (fDOM_MAP_DOM k) hmap]
  have hstate (d : Nat) (hd : d < 32) : t.domState d = s.domState d := by
    have hstat : t.reg (DOM_DSTAT d) = s.reg (DOM_DSTAT d) := hreg _ (by unfold DOM_DSTAT; omega) (by unfold DOM_DSTAT; omega)
    rw [State.domState, State.domState, htracts, get_of_reg (fDOM_DSTAT_STATE d) hstat]
  exact List.filter_congr fun d hd => by rw [hclass d (List.mem_range.mp hd), hstate d (List.mem_range.mp hd)]

/-- One class at an update leaves every other that is not capped (R448). -/
theorem uncapped_controlClass_ne {j : Nat} (s : State) (ps : List DomPow) (bud : List Nat) (hk : k < 3) (hj : j < 3) (hne : j ≠ k)
    (h : Uncapped (s.classDoms j) s j) : Uncapped (s.classDoms j) (s.controlClass ps bud k) j := by
  have hregs := (controlClass_spec s ps bud hk).1.regs
  refine h.of_regs (hregs _ ?_) fun d hd => hregs _ ?_
  · have hcls : CAP_CSTATE j ≠ CAP_CSTATE k := by unfold CAP_CSTATE; omega
    simp only [classRegs, List.cons_append, List.mem_cons, List.mem_append, hcls, cstate_not_mem_dgrade hj, cstate_not_event hj, or_self,
      not_false_eq_true]
  · obtain ⟨hd32, hclass, -⟩ := mem_classDoms.mp hd
    have hcls : CAP_DGRADE d ≠ CAP_CSTATE k := by unfold CAP_DGRADE CAP_CSTATE; omega
    have hmap : CAP_DGRADE d ∉ (s.classDoms k).map CAP_DGRADE := by
      intro hm
      obtain ⟨e, he, heq⟩ := List.mem_map.mp hm
      obtain rfl : e = d := by unfold CAP_DGRADE at heq; omega
      exact hne (hclass.symm.trans (mem_classDoms.mp he).2.1)
    have hev : CAP_DGRADE d ∉ eventRegs 13 := capReg_not_event (by unfold CAP_DGRADE; omega)
    simp only [classRegs, List.cons_append, List.mem_cons, List.mem_append, hcls, hmap, hev, or_self, not_false_eq_true]

/-- The classes in turn: with capping disabled none is capped. -/
theorem controlClass_foldl (ps : List DomPow) (bud : List Nat) (l : List Nat) (hl : ∀ k ∈ l, k < 3) (s : State) :
    TallyStands controlRegs s (l.foldl (fun s k => s.controlClass ps bud k) s) ∧
    (s.on fCAP_CTL_EN = false → ∀ j, j < 3 → (j ∈ l ∨ Uncapped (s.classDoms j) s j) →
      Uncapped (s.classDoms j) (l.foldl (fun s k => s.controlClass ps bud k) s) j) := by
  induction l generalizing s with
  | nil => exact ⟨.refl _ s, fun _ j _ h => by simpa using h⟩
  | cons k l ih =>
    have hk := hl k (by simp)
    obtain ⟨hstands, huncapped⟩ := controlClass_spec s ps bud hk
    have hcontrol := hstands.mono (classRegs_subset hk s)
    obtain ⟨istands, iuncapped⟩ := ih (fun j hj => hl j (by simp [hj])) (s.controlClass ps bud k)
    refine ⟨hcontrol.trans istands, fun hen j hj h => ?_⟩
    have hctl : (s.controlClass ps bud k).on fCAP_CTL_EN = false :=
      (on_of_reg fCAP_CTL_EN (hcontrol.regs _ ctl_not_mem_controlRegs)).trans hen
    have hafter := iuncapped hctl j hj
    rw [classDoms_congr fun o hlo hhi => hcontrol.regs o fun hm => by have := controlRegs_apart o hm; omega] at hafter
    refine hafter ?_
    by_cases hjk : j = k
    · exact .inr (hjk ▸ huncapped hen)
    · exact h.imp (fun hm => by simpa [hjk] using hm) (uncapped_controlClass_ne s ps bud hk hj hjk)

/-! ### Raise steps abandoned -/

/-- The registers of commanded targets and of what their refusal reports. -/
def targetRegs : List Nat := (upTo 32).map DOM_VSET ++ eventRegs 2 ++ eventRegs 3

/-- They lie apart from what an update shows. -/
theorem targetRegs_apart : ∀ o ∈ liftRegs targetRegs, o < 0x58000 ∨ 0x58180 ≤ o := by decide +kernel

theorem lifted_raiseD {e : Ev} (i d : Nat) (he : eventRegs e.block ⊆ targetRegs) : Lifted targetRegs s (s.raiseD e i d) := by
  obtain ⟨r, b, v, p, c, heq⟩ := evOnly_raiseD s e i d
  refine ⟨⟨s.cells, s.doms, r, b, v, p, c, heq⟩, (sameRegs_raiseD s e i d).mono fun x hx => ?_, fun k => ?_⟩
  · simp only [liftRegs, List.mem_append, he hx, true_or]
  · rw [State.dom, State.raiseD_doms, State.dom]

/-- An update that abandons a raise step commands a target, and changes nothing of capping (R432). -/
theorem lifted_abandonRaise (s : State) {d : Nat} (hd : d < 32) : Lifted targetRegs s (s.abandonRaise d) := by
  have hvset : DOM_VSET d ∈ targetRegs := by
    have : DOM_VSET d ∈ (upTo 32).map DOM_VSET := List.mem_map_of_mem (List.mem_range.mpr hd)
    simp only [targetRegs, List.mem_append, this, true_or]
  have h2 : eventRegs 2 ⊆ targetRegs := fun x hx => by simp only [targetRegs, List.mem_append, hx, or_true, true_or]
  have h3 : eventRegs 3 ⊆ targetRegs := fun x hx => by simp only [targetRegs, List.mem_append, hx, or_true]
  have hcommand (code : Nat) : Lifted targetRegs s (s.commandTarget d code) := by
    have hrefused (x : Nat) : Lifted targetRegs s (s.raiseD evCEL_TGT_REFUSED d x) := lifted_raiseD d x h3
    unfold State.commandTarget
    exact (lifted_setTarget s code hd hvset).ite ((hrefused _).ite ((hrefused _).trans (lifted_raiseD (e := evCAD_LIMIT) _ _ h2)))
  have hgrade (g : Nat) : Lifted targetRegs s (s.gradeTarget d g) := (Lifted.refl _ s).ite (hcommand _)
  unfold State.abandonRaise
  split
  · exact .refl _ s
  · exact ((hgrade _).updDom d (by intros; rfl)).ite (.refl _ s)

theorem lifted_abandonRaises (ds : List Nat) (hds : ∀ d ∈ ds, d < 32) (s : State) :
    Lifted targetRegs s (ds.foldl (fun s d => s.abandonRaise d) s) := by
  induction ds generalizing s with
  | nil => exact .refl _ s
  | cons d ds ih => exact (lifted_abandonRaise s (hds d (by simp))).trans (ih (fun e he => hds e (by simp [he])) _)

theorem Lifted.cap_eq {l : List Nat} (h : Lifted l s t) : t.cap = s.cap := by
  obtain ⟨ce, dm, r, b, v, p, c, rfl⟩ := h.data
  rfl

/-! ### The update -/

/-- The demand and the floor of the die latched for the power sums, and the update counted (R412). -/
def State.demandLatched (s : State) (dem flr : Nat) : State := s.updCap fun c => { c with demX := dem, floorX := flr, updates := c.updates + 1 }

/-- An update in its parts: the estimate, the budget, the demands and what follows from them for the classes, and the raise steps abandoned. -/
theorem tally_parts (s : State) : ∃ est w dem flr y short, est = s.domPows.foldl (fun a p => a + p.est) 0 ∧
    TallyStands controlRegs ((s.takeEstimate s.domPows est).takeBudget est) w ∧ TallyStands controlRegs (w.demandLatched dem flr) y ∧
    ((w.demandLatched dem flr).on fCAP_CTL_EN = false → ∀ k, k < 3 → Uncapped ((w.demandLatched dem flr).classDoms k) y k) ∧
    Lifted targetRegs (y.put fCAP_SHORT_SHORT short) s.tally := by
  obtain ⟨u, hu⟩ : ∃ u, u = s.tally := ⟨_, rfl⟩
  rw [← hu]
  unfold State.tally at hu
  extract_lets ps est unc s2 dem flr r tot s3 s4 short at hu
  obtain ⟨hstands, huncapped⟩ := controlClass_foldl ps r.2 (upTo 3) (fun k hk => List.mem_range.mp hk) s3
  refine ⟨est, r.1.showClasses dem r.2 unc, _, _, s4, short, rfl, ?_, hstands, fun hen k hk => huncapped hen k hk (.inl (List.mem_range.mpr hk)), ?_⟩
  · exact ((stands_noteDerate _ ps).trans (stands_age s2 _ dem flr)).trans (stands_showClasses r.1 dem r.2 unc)
  · rw [hu]
    exact lifted_abandonRaises (upTo 32) (fun d hd => List.mem_range.mp hd) _

/-- The registers that an update shows before it commands a target. -/
def shownRegs : List Nat := CAP_EST :: CAP_SHARE :: controlRegs

/-- They lie apart from the registers of domains. -/
theorem shownRegs_apart : ∀ o ∈ shownRegs, o < 0x40000 ∨ 0x58000 ≤ o := by decide

theorem ctl_not_mem_shownRegs : CAP_CTL ∉ shownRegs := by decide

/-- An update shows the estimate and the share that waited, begins the activity counts anew, and counts itself; with capping disabled no
class is capped (R405, R407, R413, R448). -/
theorem tally_spec (s : State) : s.tally.get fCAP_EST_EST = s.showPow 22 (s.domPows.foldl (fun a p => a + p.est) 0) ∧ s.tally.cap.acts = [] ∧
    s.tally.cap.updates = s.cap.updates + 1 ∧
    (∀ b, s.cap.pendShare = some b → s.tally.get fCAP_SHARE_SHARE = b % 65536 ∧ s.tally.cap.pendShare = none) ∧
    (s.on fCAP_CTL_EN = false → ∀ k, k < 3 → Uncapped (s.classDoms k) s.tally k) := by
  obtain ⟨est, w, dem, flr, y, short, hest, hw, hy, huncapped, hlift⟩ := tally_parts s
  rw [← hest]
  obtain ⟨eshown, eacts, eupdates, eshare, eregs⟩ := takeEstimate_spec s s.domPows est
  generalize s.takeEstimate s.domPows est = e at *
  obtain ⟨bpend, bacts, bupdates, bshare, bregs⟩ := takeBudget_spec e est
  generalize e.takeBudget est = b at *
  generalize s.tally = u at *
  have hcap : u.cap = y.cap := hlift.cap_eq
  have hlatched : SameRegs b (w.demandLatched dem flr) controlRegs := hw.regs.ofRegs rfl
  have hlow (o : Nat) (hlo : 0x58000 ≤ o) (hhi : o < 0x58180) (hne : o ≠ CAP_SHORT) : u.reg o = y.reg o :=
    (hlift.regs o fun hm => by have := targetRegs_apart o hm; omega).trans (reg_put_ne y fCAP_SHORT_SHORT o short hne)
  have hlate (o : Nat) (ho : o ∉ controlRegs) : y.reg o = b.reg o := (hlatched.trans hy.regs) o ho
  have hshown : SameRegs s (w.demandLatched dem flr) shownRegs :=
    ((eregs.mono (List.cons_subset.mpr ⟨List.mem_cons_self, List.nil_subset _⟩)).trans (bregs.mono fun x hx =>
      List.mem_cons_of_mem _ (List.cons_subset_cons _ event_subset_controlRegs hx))).trans (hlatched.mono fun x hx =>
      List.mem_cons_of_mem _ (List.mem_cons_of_mem _ hx))
  have hen : (w.demandLatched dem flr).on fCAP_CTL_EN = s.on fCAP_CTL_EN := on_of_reg _ (hshown _ ctl_not_mem_shownRegs)
  have hdoms (k : Nat) : (w.demandLatched dem flr).classDoms k = s.classDoms k := classDoms_congr (fun o hlo hhi => hshown o fun hm => by
    have := shownRegs_apart o hm
    omega) k
  rw [hen] at huncapped
  refine ⟨?_, ?_, ?_, fun n hn => ⟨?_, ?_⟩, fun h k hk => ?_⟩
  · have hreg : u.reg CAP_EST = e.reg CAP_EST :=
      ((hlow CAP_EST (by decide) (by decide) (by decide)).trans (hlate _ est_not_mem_controlRegs)).trans (bregs _ (by decide))
    rw [get_of_reg fCAP_EST_EST hreg, eshown]
  · rw [hcap, hy.acts]
    exact hw.acts.trans (bacts.trans eacts)
  · rw [hcap, hy.updates]
    exact congrArg (· + 1) (hw.updates.trans (bupdates.trans eupdates))
  · have hreg : u.reg CAP_SHARE = b.reg CAP_SHARE :=
      (hlow CAP_SHARE (by decide) (by decide) (by decide)).trans (hlate _ share_not_mem_controlRegs)
    rw [get_of_reg fCAP_SHARE_SHARE hreg, bshare n (eshare.trans hn)]
  · rw [hcap, hy.share]
    exact hw.share.trans bpend
  · have hclass := huncapped h k hk
    rw [hdoms] at hclass
    refine hclass.of_regs (hlow _ ?_ ?_ ?_) fun d hd => hlow _ ?_ ?_ ?_
    · unfold CAP_CSTATE; omega
    · unfold CAP_CSTATE; omega
    · unfold CAP_CSTATE CAP_SHORT; omega
    · unfold CAP_DGRADE; omega
    · have := (mem_classDoms.mp hd).1
      unfold CAP_DGRADE
      omega
    · unfold CAP_DGRADE CAP_SHORT; omega

theorem exec_tallyUpdate (s : State) : exec .tallyUpdate s = .next (if s.lclk then s.tally else s) := rfl

theorem tallyUpdate_runs (h : s.lclk = true) : Runs .tallyUpdate s fun u =>
    u.get fCAP_EST_EST = s.showPow 22 (s.domPows.foldl (fun a p => a + p.est) 0) ∧ u.cap.acts = [] ∧ u.cap.updates = s.cap.updates + 1 ∧
    (∀ b, s.cap.pendShare = some b → u.get fCAP_SHARE_SHARE = b % 65536 ∧ u.cap.pendShare = none) ∧
    (s.on fCAP_CTL_EN = false → ∀ k, k < 3 → Uncapped (s.classDoms k) u k) :=
  ⟨s.tally, by rw [exec_tallyUpdate, if_pos h], tally_spec s⟩

theorem tallyUpdate_stopped (h : s.lclk = false) : exec .tallyUpdate s = .next s := by
  rw [exec_tallyUpdate, if_neg (by simp [h])]

end Sys2Proof.Machine
end

section

open Sys2Proof Sys2Proof.Machine

/-- Settles O51: each command of capping by itself. What a Tally update commands when it abandons a raise step lies outside the registers that
it shows, so the classes stay as they were left with capping disabled. -/
theorem capping : Obligations.Capping := by
  unfold Obligations.Capping
  intro s c n tag active p v a
  refine ⟨fun h => ?_, tallyUpdate_stopped, activityIncrement_counts c n tag, activityIncrement_unsampled c n tag, reconcile_runs, exec_reconcile_empty,
    capTrimUpdate_runs, dieLimitSwitch_above, dieLimitSwitch_within, ?_, throttleN_changes, throttleN_stands, thrStuck_reports, capPkgWrite_runs v⟩
  · obtain ⟨u, hexec, hest, hacts, hupdates, hshare, huncapped⟩ := tallyUpdate_runs h
    refine ⟨u, hexec, hest, hacts, hupdates, hshare, fun hen k hk => ?_⟩
    obtain ⟨hceil, hpause, hcapped, hdoms⟩ := huncapped hen k hk
    exact ⟨hceil, hpause, hcapped, fun d hd hclass hstate => hdoms d (mem_classDoms.mpr ⟨hd, hclass, hstate⟩)⟩
  · obtain ⟨u, hexec, honly, htracts⟩ := derateUpdate_runs s
    refine ⟨u, hexec, honly, fun t ht => ?_⟩
    obtain ⟨htract, hduty⟩ := htracts t ht
    rw [hduty]
    exact ⟨by rw [htract, hduty], nextDerate_cases s t⟩

end

section
/-!
SUPPORT. What register writes and the timers of the block leave alone: the commands that wait, the time, the timestamp and the
PMBus transaction that is held (R525, R302, assumption 1). Each operation of the model that a write or a timer can call is shown
once to leave them, from the stores up to a write on a port.
-/

namespace Sys2Proof.Machine

/-- What only the front of the queue and the clock of the block move. -/
structure Timeline where
  queue : List Instr
  now : Nat
  ts : Word64
  held : Option Instr

def State.timeline (s : State) : Timeline := ⟨s.pending, s.now, s.ts, s.pmb.held⟩

/-! ### Branches and folds -/

@[simp] theorem timeline_ite (c : Prop) [Decidable c] (s t : State) : (if c then s else t).timeline = if c then s.timeline else t.timeline :=
  apply_ite _ _ _ _

theorem timeline_ite_of {c : Prop} [Decidable c] {s t : State} {x : Timeline} (hs : s.timeline = x) (ht : t.timeline = x) :
    (if c then s else t).timeline = x := by
  split
  · exact hs
  · exact ht

@[simp] theorem timeline_foldl {α : Type} (f : State → α → State) (l : List α) (s : State) (hf : ∀ u a, (f u a).timeline = u.timeline) :
    (l.foldl f s).timeline = s.timeline := by
  induction l generalizing s with
  | nil => rfl
  | cons a l ih => rw [List.foldl_cons, ih, hf]

@[simp] theorem timeline_forEach (f : Nat → State → State) (l : List Nat) (s : State) (hf : ∀ a u, (f a u).timeline = u.timeline) :
    (forEach l f s).timeline = s.timeline := timeline_foldl _ l s fun u a => hf a u

/-! ### Changes of one part, events and frames

The proofs below that hold by computation are written `(rfl)`, so that `simp` rewrites with them and leaves no large computation
to the kernel. -/

theorem timeline_withCore (s : State) (c : CoreHid) : ({ s with core := c } : State).timeline = s.timeline := (rfl)
theorem timeline_withClk (s : State) (c : ClkHid) : ({ s with clk := c } : State).timeline = s.timeline := (rfl)
theorem timeline_withChans (s : State) (c : Tbl ChanHid) : ({ s with chans := c } : State).timeline = s.timeline := (rfl)
theorem timeline_withSo (s : State) (h : SoHid) : ({ s with so := h } : State).timeline = s.timeline := (rfl)
theorem timeline_withCoef (s : State) (m : List Host.Cell) : ({ s with coef := m } : State).timeline = s.timeline := (rfl)
theorem timeline_withClocks (s : State) (c : ClkHid) (e : EnvHid) (p : PstHid) :
    ({ s with clk := c, env := e, pst := p } : State).timeline = s.timeline := (rfl)

theorem timeline_withPorts (s : State) {p : PmbHid} (n : NrgHid) (c : CoreHid) (h : p.held = s.pmb.held) :
    ({ s with pmb := p, nrg := n, core := c } : State).timeline = s.timeline := by simp [State.timeline, h]

theorem EvOnly.timeline_eq {s t : State} (h : EvOnly s t) : t.timeline = s.timeline := by
  obtain ⟨r, b, v, p, c, rfl⟩ := h
  rfl

@[simp] theorem timeline_raiseD (s : State) (e : Ev) (i d : Nat) : (s.raiseD e i d).timeline = s.timeline :=
  (evOnly_raiseD s e i d).timeline_eq

@[simp] theorem timeline_raise (s : State) (e : Ev) (i : Nat) : (s.raise e i).timeline = s.timeline :=
  (evOnly_raise s e i).timeline_eq

@[simp] theorem timeline_raiseIf (s : State) (c : Bool) (e : Ev) (i : Nat) : (s.raiseIf c e i).timeline = s.timeline :=
  (evOnly_raiseIf s c e i).timeline_eq

@[simp] theorem timeline_originate (s : State) (l ty body : Nat) : (s.originate l ty body).timeline = s.timeline :=
  (evOnly_originate s l ty body).timeline_eq

/-! ### Stores of registers, memories and the histories of parts -/

@[simp] theorem timeline_setReg (s : State) (off : Nat) (v : Word) : (s.setReg off v).timeline = s.timeline := (rfl)
@[simp] theorem timeline_put (s : State) (f : Fld) (n : Nat) : (s.put f n).timeline = s.timeline := (rfl)
@[simp] theorem timeline_putB (s : State) (f : Fld) (b : Bool) : (s.putB f b).timeline = s.timeline := (rfl)
@[simp] theorem timeline_markSet (s : State) (off : Nat) (m : Word) : (s.markSet off m).timeline = s.timeline := (rfl)

@[simp] theorem timeline_putHw (s : State) (f : Fld) (n : Nat) : (s.putHw f n).timeline = s.timeline := by
  unfold State.putHw
  split <;> rfl

@[simp] theorem timeline_addSat (s : State) (f : Fld) (n : Nat) : (s.addSat f n).timeline = s.timeline := (rfl)
@[simp] theorem timeline_resetReg (s : State) (off : Nat) : (s.resetReg off).timeline = s.timeline := (rfl)
@[simp] theorem timeline_resetRegs (s : State) (p : Nat → Bool) : (s.resetRegs p).timeline = s.timeline := (rfl)
@[simp] theorem timeline_updCell (s : State) (c : Nat) (f : CellHid → CellHid) : (s.updCell c f).timeline = s.timeline := (rfl)
@[simp] theorem timeline_updStn (s : State) (n : Nat) (f : StnHid → StnHid) : (s.updStn n f).timeline = s.timeline := (rfl)
@[simp] theorem timeline_updTract (s : State) (t : Nat) (f : TractHid → TractHid) : (s.updTract t f).timeline = s.timeline := (rfl)
@[simp] theorem timeline_updDom (s : State) (d : Nat) (f : DomHid → DomHid) : (s.updDom d f).timeline = s.timeline := (rfl)
@[simp] theorem timeline_updAdc (s : State) (f : AdcHid → AdcHid) : (s.updAdc f).timeline = s.timeline := (rfl)
@[simp] theorem timeline_updConv (s : State) (k : Nat) (f : ConvHid → ConvHid) : (s.updConv k f).timeline = s.timeline := (rfl)

@[simp] theorem timeline_setMemory (s : State) (k : Nat) (m : List Host.Cell) : (s.setMemory k m).timeline = s.timeline := by
  unfold State.setMemory
  split <;> rfl

@[simp] theorem timeline_powerUp (s : State) (k ns : Nat) : (s.powerUp k ns).timeline = s.timeline := (rfl)

@[simp] theorem timeline_restoreMems (s : State) : s.restoreMems.timeline = s.timeline := by
  unfold State.restoreMems
  split
  · rfl
  · exact timeline_foldl _ _ _ fun u k => by simp

@[simp] theorem timeline_markGood (s : State) (k w : Nat) : (s.markGood k w).timeline = s.timeline := (rfl)
@[simp] theorem timeline_markAllGood (s : State) (k : Nat) : (s.markAllGood k).timeline = s.timeline := (rfl)
@[simp] theorem timeline_setAon (s : State) (n : Nat) : (s.setAon n).timeline = s.timeline := (rfl)

/-! ### Field books -/

@[simp] theorem timeline_clearBooks (s : State) : s.clearBooks.timeline = s.timeline := by
  unfold State.clearBooks
  exact (timeline_resetReg _ _).trans (timeline_forEach _ _ _ fun _ _ => rfl)

/-! ### Phases of the IB -/

@[simp] theorem timeline_setP (s : State) (p m : Nat) : (s.setP p m).timeline = s.timeline := (rfl)
@[simp] theorem timeline_updIb (s : State) (f : IbHid → IbHid) : (s.updIb f).timeline = s.timeline := (rfl)

@[simp] theorem timeline_hysModes (s : State) : s.hysModes.timeline = s.timeline := by
  simp [State.hysModes]

@[simp] theorem timeline_setIbMode (s : State) (m : Nat) : (s.setIbMode m).timeline = s.timeline := (rfl)

@[simp] theorem timeline_ibHysteretic (s : State) : s.ibHysteretic.timeline = s.timeline := by
  simp [State.ibHysteretic]

/-! ### The IB target and its reference -/

@[simp] theorem timeline_setRef (s : State) (uv : Nat) : (s.setRef uv).timeline = s.timeline := (rfl)

@[simp] theorem timeline_moveRef (s : State) : s.moveRef.timeline = s.timeline := by
  unfold State.moveRef
  split
  · rfl
  · simp

@[simp] theorem timeline_ibRamp (s : State) : s.ibRamp.timeline = s.timeline := by
  simp [State.ibRamp]

@[simp] theorem timeline_setIbTarget (s : State) (code : Nat) : (s.setIbTarget code).timeline = s.timeline := by
  simp [State.setIbTarget]

@[simp] theorem timeline_applyVsel (s : State) (v : Nat) : (s.applyVsel v).timeline = s.timeline := by
  unfold State.applyVsel
  split
  · simp
  · rfl

@[simp] theorem timeline_changeVsel (s : State) (v : Nat) : (s.changeVsel v).timeline = s.timeline := by
  simp [State.changeVsel]

@[simp] theorem timeline_offerVsel (s : State) : s.offerVsel.timeline = s.timeline := by
  unfold State.offerVsel
  split <;> simp

@[simp] theorem timeline_refreshIb (s : State) : s.refreshIb.timeline = s.timeline := by
  unfold State.refreshIb
  split
  · rfl
  · simp

@[simp] theorem timeline_chooseSource (s : State) (old : Nat) : (s.chooseSource old).timeline = s.timeline := by
  simp [State.chooseSource]

/-! ### Domains at rest, lifts, and the stop of the clocks -/

@[simp] theorem timeline_setMode (s : State) (c m : Nat) : (s.setMode c m).timeline = s.timeline := by
  unfold State.setMode
  split <;> rfl

@[simp] theorem timeline_setDom (s : State) (d st : Nat) (ph : DomPhase) : (s.setDom d st ph).timeline = s.timeline := (rfl)

@[simp] theorem timeline_cellsOff (s : State) (d : Nat) : (s.cellsOff d).timeline = s.timeline := by
  simp [State.cellsOff]

@[simp] theorem timeline_idleLoop (s : State) (t : Nat) : (s.idleLoop t).timeline = s.timeline := by
  unfold State.idleLoop
  split
  · rfl
  · simp

@[simp] theorem timeline_idleLoops (s : State) (d : Nat) : (s.idleLoops d).timeline = s.timeline := by
  simp [State.idleLoops]

@[simp] theorem timeline_recadence (s : State) (iv c : Nat) : (s.recadence iv c).timeline = s.timeline := (rfl)

@[simp] theorem timeline_aim (s : State) (iv code : Nat) (c : Nat) : (s.aim iv code c).timeline = s.timeline := by
  unfold State.aim
  split <;> rfl

@[simp] theorem timeline_retarget (s : State) (d : Nat) : (s.retarget d).timeline = s.timeline := by
  simp [State.retarget]

@[simp] theorem timeline_relift (s : State) (d idx data : Nat) : (s.relift d idx data).timeline = s.timeline := by
  simp [State.relift]

@[simp] theorem timeline_setPulse (s : State) (t : Nat) (v : Bool) : (s.setPulse t v).timeline = s.timeline := (rfl)
@[simp] theorem timeline_judgePulse (s : State) (t : Nat) : (s.judgePulse t).timeline = s.timeline := (rfl)

@[simp] theorem timeline_adcStop (s : State) : s.adcStop.timeline = s.timeline := by
  simp [State.adcStop]

@[simp] theorem timeline_envelopeRestart (s : State) : s.envelopeRestart.timeline = s.timeline := (rfl)

@[simp] theorem timeline_enterRun (s : State) : s.enterRun.timeline = s.timeline := by
  simp [State.enterRun]

@[simp] theorem timeline_checkRun (s : State) : s.checkRun.timeline = s.timeline := by
  unfold State.checkRun
  split
  · exact timeline_enterRun s
  · rfl

@[simp] theorem timeline_stopClocks (s : State) : s.stopClocks.timeline = s.timeline := by
  unfold State.stopClocks
  dsimp only
  rw [timeline_withClocks, timeline_adcStop, timeline_ite, timeline_ibHysteretic, ite_self]
  refine (timeline_foldl _ _ _ fun u d => ?_).trans (timeline_originate s 2 11 _)
  split
  · exact timeline_foldl _ _ _ fun v t => by simp
  · rfl

@[simp] theorem timeline_checkEntry (s : State) : s.checkEntry.timeline = s.timeline := by
  unfold State.checkEntry
  dsimp only
  split
  · split
    · rfl
    · simp
  · rfl

@[simp] theorem timeline_domMoved (s : State) (d : Nat) : (s.domMoved d).timeline = s.timeline := by
  simp [State.domMoved]

@[simp] theorem timeline_dropDomain (s : State) (d : Nat) : (s.dropDomain d).timeline = s.timeline := by
  simp [State.dropDomain]

@[simp] theorem timeline_lateLosses (s : State) (d : Nat) : (s.lateLosses d).timeline = s.timeline := by
  simp [State.lateLosses]

/-! ### Cells and stations -/

@[simp] theorem timeline_clearSuspects (s : State) (t m : Nat) : (s.clearSuspects t m).timeline = s.timeline := by
  simp [State.clearSuspects]

/-! ### Loops, openings and the coefficient window -/

@[simp] theorem timeline_setFf (s : State) (t : Nat) (l : List FfRun) : (s.setFf t l).timeline = s.timeline := (rfl)
@[simp] theorem timeline_seedStart (s : State) (t code : Nat) : (s.seedStart t code).timeline = s.timeline := (rfl)

@[simp] theorem timeline_closeLoop (s : State) (t set : Nat) : (s.closeLoop t set).timeline = s.timeline := by
  simp [State.closeLoop]

@[simp] theorem timeline_displaceReset (s : State) (t : Nat) : (s.displaceReset t).timeline = s.timeline := by
  simp [State.displaceReset]

@[simp] theorem timeline_writeOpen (s : State) (t : Nat) (v : Word) : (s.writeOpen t v).timeline = s.timeline := by
  unfold State.writeOpen
  dsimp only
  split
  · split <;> simp
  · split
    · split
      · simp
      · rw [timeline_updTract]
        split
        · simp [↓timeline_withCoef]
        · rfl
    · rfl

@[simp] theorem timeline_resetTract (s : State) (t : Nat) : (s.resetTract t).timeline = s.timeline := by
  unfold State.resetTract
  split
  · simp
  · rfl

@[simp] theorem timeline_windowAccess (s : State) (core : Bool) (t set j : Nat) (wr : Option Word) :
    (s.windowAccess core t set j wr).1.timeline = s.timeline := by
  unfold State.windowAccess
  dsimp only
  split
  · simp
  · split
    · simp
    · split <;> rfl

/-! ### Forced pauses -/

@[simp] theorem timeline_forcedEnds (s : State) (ts : List Nat) : (s.forcedEnds ts).timeline = s.timeline := by
  simp [State.forcedEnds]

/-! ### Movements and commands of domains -/

@[simp] theorem timeline_setTarget (s : State) (d code : Nat) : (s.setTarget d code).timeline = s.timeline := by
  simp [State.setTarget]

@[simp] theorem timeline_commandTarget (s : State) (d code : Nat) : (s.commandTarget d code).timeline = s.timeline := by
  unfold State.commandTarget
  split <;> simp

@[simp] theorem timeline_becomeOn (s : State) (d : Nat) : (s.becomeOn d).timeline = s.timeline := by
  simp [State.becomeOn]

@[simp] theorem timeline_becomeRetained (s : State) (d : Nat) : (s.becomeRetained d).timeline = s.timeline := by
  simp [State.becomeRetained]

@[simp] theorem timeline_becomeOff (s : State) (d : Nat) : (s.becomeOff d).timeline = s.timeline := by
  simp [State.becomeOff]

@[simp] theorem timeline_gradeTarget (s : State) (d g : Nat) : (s.gradeTarget d g).timeline = s.timeline := by
  unfold State.gradeTarget
  split
  · rfl
  · simp

@[simp] theorem timeline_abandonRaise (s : State) (d : Nat) : (s.abandonRaise d).timeline = s.timeline := by
  unfold State.abandonRaise
  split
  · rfl
  · simp

@[simp] theorem timeline_requestRaise (s : State) (d : Nat) : (s.requestRaise d).timeline = s.timeline := by
  unfold State.requestRaise
  dsimp only
  split <;> simp

@[simp] theorem timeline_aimAll (s : State) (d iv code : Nat) : (s.aimAll d iv code).timeline = s.timeline := by
  simp [State.aimAll]

@[simp] theorem timeline_beginOff (s : State) (d : Nat) (ph : DomPhase) : (s.beginOff d ph).timeline = s.timeline := by
  simp [State.beginOff]

@[simp] theorem timeline_beginRetention (s : State) (d : Nat) : (s.beginRetention d).timeline = s.timeline := by
  simp [State.beginRetention]

@[simp] theorem timeline_toColumn (s : State) (d : Nat) : (s.toColumn d).timeline = s.timeline := by
  unfold State.toColumn
  split
  · simp
  · rfl

@[simp] theorem timeline_afterStep (s : State) (d : Nat) : (s.afterStep d).timeline = s.timeline := by
  unfold State.afterStep
  dsimp only
  split
  · rfl
  · split <;> simp

@[simp] theorem timeline_writeTarget (s : State) (d code : Nat) : (s.writeTarget d code).timeline = s.timeline := by
  simp [State.writeTarget]

@[simp] theorem timeline_beginRamp (s : State) (d : Nat) (ph : DomPhase) : (s.beginRamp d ph).timeline = s.timeline := by
  simp [State.beginRamp]

@[simp] theorem timeline_beginStopRamp (s : State) (d : Nat) : (s.beginStopRamp d).timeline = s.timeline := by
  simp [State.beginStopRamp]

@[simp] theorem timeline_beginStop (s : State) (d : Nat) : (s.beginStop d).timeline = s.timeline := by
  simp [State.beginStop]

@[simp] theorem timeline_switchOff (s : State) (d : Nat) (full : Bool) : (s.switchOff d full).timeline = s.timeline := by
  unfold State.switchOff
  dsimp only
  split <;> simp

@[simp] theorem timeline_refuseDom (s : State) (d : Nat) : (s.refuseDom d).timeline = s.timeline := by
  simp [State.refuseDom]

@[simp] theorem timeline_offCommand (s : State) (d : Nat) (off full : Bool) : (s.offCommand d off full).timeline = s.timeline := by
  simp [State.offCommand]

@[simp] theorem timeline_holdStart (s : State) (d : Nat) : (s.holdStart d).timeline = s.timeline := by
  simp [State.holdStart]

@[simp] theorem timeline_reverseStop (s : State) (d : Nat) : (s.reverseStop d).timeline = s.timeline := by
  simp [State.reverseStop]

@[simp] theorem timeline_switchOn (s : State) (d : Nat) : (s.switchOn d).timeline = s.timeline := by
  unfold State.switchOn
  split <;> simp

@[simp] theorem timeline_onCommand (s : State) (d : Nat) : (s.onCommand d).timeline = s.timeline := by
  unfold State.onCommand
  split <;> simp

@[simp] theorem timeline_writeDomCtl (s : State) (d : Nat) (v : Word) : (s.writeDomCtl d v).timeline = s.timeline := by
  unfold State.writeDomCtl
  dsimp only
  split
  · rfl
  · split
    · simp
    · split <;> simp

/-! ### Setting out -/

@[simp] theorem timeline_putInst (s : State) (i : Inst) : (s.putInst i).timeline = s.timeline := (rfl)
@[simp] theorem timeline_dropInst (s : State) (no : Nat) : (s.dropInst no).timeline = s.timeline := (rfl)

@[simp] theorem timeline_reliftAll (s : State) (ds : List Nat) (i : Inst) : (s.reliftAll ds i).timeline = s.timeline := by
  simp [State.reliftAll]

@[simp] theorem timeline_withdraw (s : State) (i : Inst) (cancel : Bool) : (s.withdraw i cancel).timeline = s.timeline := by
  simp [State.withdraw]

@[simp] theorem timeline_soDisable (s : State) : s.soDisable.timeline = s.timeline := by
  unfold State.soDisable
  dsimp only
  rw [timeline_withSo]
  simp

@[simp] theorem timeline_soClose (s : State) : s.soClose.timeline = s.timeline := by
  simp [State.soClose]

@[simp] theorem timeline_soClear (s : State) : s.soClear.timeline = s.timeline := by
  simp [State.soClear]

@[simp] theorem timeline_writeSoCtl (s : State) (en clr : Bool) : (s.writeSoCtl en clr).timeline = s.timeline := by
  unfold State.writeSoCtl
  split <;> simp

/-! ### The IB stage -/

@[simp] theorem timeline_leaveKeepAlive (s : State) : s.leaveKeepAlive.timeline = s.timeline := by
  unfold State.leaveKeepAlive
  split
  · simp
  · rfl

/-! ### Temperature sites -/

@[simp] theorem timeline_updSite (s : State) (t : Nat) (f : SiteHid → SiteHid) : (s.updSite t f).timeline = s.timeline := (rfl)

@[simp] theorem timeline_setSuspect (s : State) (t : Nat) (b : Bool) : (s.setSuspect t b).timeline = s.timeline := by
  unfold State.setSuspect
  split <;> simp

@[simp] theorem timeline_restoreTcal (s : State) : s.restoreTcal.timeline = s.timeline := by
  unfold State.restoreTcal
  split <;> rfl

@[simp] theorem timeline_clearSuspectSites (s : State) (half : Nat) (m : Nat) : (s.clearSuspectSites half m).timeline = s.timeline := by
  simp [State.clearSuspectSites]

/-! ### Converters -/

@[simp] theorem timeline_becomeDue (s : State) (k : Nat) (inj : Bool) : (s.becomeDue k inj).timeline = s.timeline := by
  unfold State.becomeDue
  split <;> rfl

@[simp] theorem timeline_trigger (s : State) (k : Nat) (inj : Bool) : (s.trigger k inj).timeline = s.timeline := by
  unfold State.trigger
  split <;> simp

@[simp] theorem timeline_calGo (s : State) : s.calGo.timeline = s.timeline := by
  unfold State.calGo
  dsimp only
  split <;> simp

@[simp] theorem timeline_writeSeq (s : State) (k : Nat) (inj : Bool) (v : Word) : (s.writeSeq k inj v).timeline = s.timeline := by
  unfold State.writeSeq
  split <;> simp

@[simp] theorem timeline_writeSlot (s : State) (k : Nat) (inj : Bool) (i : Nat) (v : Word) : (s.writeSlot k inj i v).timeline = s.timeline := by
  unfold State.writeSlot
  split
  · simp
  · rfl

@[simp] theorem timeline_writeRef (s : State) (absent : Bool) (ref : Nat) : (s.writeRef absent ref).timeline = s.timeline := by
  unfold State.writeRef
  split <;> simp

@[simp] theorem timeline_writeCal (s : State) (go : Bool) (w : Word) : (s.writeCal go w).timeline = s.timeline := by
  unfold State.writeCal
  split
  · rfl
  · simp

@[simp] theorem timeline_writeTimer (s : State) (n : Nat) : (s.writeTimer n).timeline = s.timeline := (rfl)

/-! ### Sleep, wake and entries -/

@[simp] theorem timeline_updPst (s : State) (f : PstHid → PstHid) : (s.updPst f).timeline = s.timeline := (rfl)

@[simp] theorem timeline_coreWake (s : State) : s.coreWake.timeline = s.timeline := by
  unfold State.coreWake
  split
  · exact timeline_enterRun _
  · rfl

@[simp] theorem timeline_coreAtWake (s : State) : s.coreAtWake.timeline = s.timeline := (rfl)

@[simp] theorem timeline_beginWake (s : State) (code : Nat) : (s.beginWake code).timeline = s.timeline := by
  unfold State.beginWake
  dsimp only
  have hwoken (u : State) (v : TrvHid) (p : PstHid → PstHid) :
      ({ ((u.put fPST_STATE_LASTWAKE code).updPst p).coreAtWake with trv := v } : State).timeline = u.timeline := rfl
  split
  · rw [timeline_ibRamp, timeline_restoreMems, hwoken, timeline_moveRef]
  · rw [hwoken, timeline_moveRef]

@[simp] theorem timeline_beginOffWake (s : State) (code : Nat) : (s.beginOffWake code).timeline = s.timeline := by
  simp [State.beginOffWake]

@[simp] theorem timeline_resumeDomains (s : State) : s.resumeDomains.timeline = s.timeline := by
  simp [State.resumeDomains]

@[simp] theorem timeline_abortEntry (s : State) (code : Nat) : (s.abortEntry code).timeline = s.timeline := by
  unfold State.abortEntry
  dsimp only
  split
  · rw [timeline_resumeDomains, timeline_forcedEnds, timeline_ite, timeline_enterRun, ite_self, timeline_withCore]
    simp
  · rw [timeline_updPst, timeline_coreAtWake, timeline_withCore]
    simp

@[simp] theorem timeline_coincide (s : State) (code : Nat) : (s.coincide code).timeline = s.timeline := by
  unfold State.coincide
  split
  · rfl
  · simp

@[simp] theorem timeline_wakeEvent (s : State) (code : Nat) : (s.wakeEvent code).timeline = s.timeline := by
  unfold State.wakeEvent
  split <;> simp

@[simp] theorem timeline_wakeBy (s : State) (code : Nat) : (s.wakeBy code).timeline = s.timeline := by
  unfold State.wakeBy
  split
  · simp
  · rfl

@[simp] theorem timeline_wakeLatch (s : State) : s.wakeLatch.timeline = s.timeline := by
  unfold State.wakeLatch
  split
  · simp
  · rfl

@[simp] theorem timeline_recheckLevels (s : State) : s.recheckLevels.timeline = s.timeline := by
  unfold State.recheckLevels
  split
  · split
    · simp
    · split <;> simp
  · split
    · split <;> simp
    · split
      · split <;> simp
      · rfl

@[simp] theorem timeline_enterColumn (s : State) (target d : Nat) : (s.enterColumn target d).timeline = s.timeline := by
  unfold State.enterColumn
  split <;> simp

@[simp] theorem timeline_beginEntry (s : State) (target : Nat) (forced : Bool) : (s.beginEntry target forced).timeline = s.timeline := by
  simp [State.beginEntry]

@[simp] theorem timeline_requestState (s : State) (target : Nat) : (s.requestState target).timeline = s.timeline := by
  unfold State.requestState
  split <;> simp

/-! ### Energy and telemetry -/

@[simp] theorem timeline_clearSflag (s : State) (k m : Nat) : (s.clearSflag k m).timeline = s.timeline := by
  simp [State.clearSflag]

@[simp] theorem timeline_askClear (s : State) (m : Nat) : (s.askClear m).timeline = s.timeline := (rfl)

/-! ### The traverse -/

@[simp] theorem timeline_updTrv (s : State) (f : TrvHid → TrvHid) : (s.updTrv f).timeline = s.timeline := (rfl)

@[simp] theorem timeline_setPkgCap (s : State) (cap : Nat) : (s.setPkgCap cap).timeline = s.timeline := by
  unfold State.setPkgCap
  split
  · simp
  · rfl

@[simp] theorem timeline_addEpoch (s : State) (ts cap : Nat) : (s.addEpoch ts cap).timeline = s.timeline := (rfl)

@[simp] theorem timeline_takeEpoch (s : State) (cap ts : Nat) (relayed : Bool) : (s.takeEpoch cap ts relayed).1.timeline = s.timeline := by
  unfold State.takeEpoch
  extract_lets now refused late t taken
  have hrefused : refused.timeline = s.timeline := by simp [refused]
  have htaken : taken.timeline = s.timeline := by simp [taken]
  rw [apply_ite Prod.fst, timeline_ite, timeline_raise, timeline_raiseIf, hrefused, htaken, ite_self]

@[simp] theorem timeline_submitEpoch (s : State) (cap ts : Nat) (chan : Option Nat) : (s.submitEpoch cap ts chan).timeline = s.timeline := by
  unfold State.submitEpoch
  dsimp only
  split <;> simp

/-! ### The mailbox -/

@[simp] theorem timeline_putRsp (s : State) (m j : Nat) (ws : List Word) : (s.putRsp m j ws).timeline = s.timeline := by
  induction ws generalizing s j with
  | nil => rfl
  | cons w ws ih => exact ih (s.setReg (MBX_RSP m j) w) (j + 1)

@[simp] theorem timeline_setDone (s : State) (m : Nat) : (s.setDone m).timeline = s.timeline := (rfl)
@[simp] theorem timeline_conclude (s : State) (m : Nat) (acc : Bool) (status detail : Nat) (words : List Word) :
    (s.conclude m acc status detail words).timeline = s.timeline := (rfl)

@[simp] theorem timeline_post (s : State) (m status detail : Nat) (result : List Byte) : (s.post m status detail result).timeline = s.timeline := by
  simp [State.post]

@[simp] theorem timeline_fwRsp (s : State) (m j : Nat) (v : Word) : (s.fwRsp m j v).timeline = s.timeline := by
  unfold State.fwRsp
  split <;> rfl

@[simp] theorem timeline_fwState (s : State) (m : Nat) (v : Word) : (s.fwState m v).timeline = s.timeline := by
  unfold State.fwState
  dsimp only
  split
  · rfl
  · split
    · rfl
    · split <;> rfl

@[simp] theorem timeline_startRequest (s : State) (m : Nat) : (s.startRequest m).timeline = s.timeline := by
  unfold State.startRequest
  dsimp only
  split
  · simp
  · refine timeline_ite_of (timeline_post _ _ _ _ _) (timeline_ite_of (timeline_post _ _ _ _ _) ?_)
    rw [timeline_ite, timeline_post, ite_self, timeline_withCore]
    rfl

@[simp] theorem timeline_ring (s : State) (m : Nat) : (s.ring m).timeline = s.timeline := by
  unfold State.ring
  split
  · rfl
  · simp

@[simp] theorem timeline_chanAtReset (s : State) (m : Nat) : (s.chanAtReset m).timeline = s.timeline := by
  unfold State.chanAtReset
  split
  · simp
  · rfl

@[simp] theorem timeline_detachRelays (s : State) : s.detachRelays.timeline = s.timeline := (rfl)

@[simp] theorem timeline_coreReset (s : State) (byWdt : Bool) : (s.coreReset byWdt).timeline = s.timeline := by
  unfold State.coreReset
  dsimp only
  split
  · rw [timeline_raise, timeline_withCore]
    simp
  · rw [timeline_raise, timeline_withCore]
    simp

@[simp] theorem timeline_orphan (s : State) (m : Nat) : (s.orphan m).timeline = s.timeline := by
  unfold State.orphan
  split
  · rfl
  · split
    · rfl
    · simp

@[simp] theorem timeline_ifaceReset (s : State) : s.ifaceReset.timeline = s.timeline := by
  unfold State.ifaceReset
  dsimp only
  rw [timeline_putB, timeline_withPorts]
  · rw [timeline_resetReg, timeline_resetReg, timeline_forEach _ _ _ fun n u => timeline_resetReg u (blockBase n + 4), timeline_withChans]
    simp
  · rfl

/-! ### Answers on the ports -/

@[simp] theorem timeline_slverr (s : State) : s.slverr.timeline = s.timeline := (rfl)
@[simp] theorem timeline_okay (s : State) (data : Word) : (s.okay data).timeline = s.timeline := (rfl)

@[simp] theorem timeline_coefAccess (s : State) (core : Bool) (off t set j : Nat) (wr : Option Word) :
    (s.coefAccess core off t set j wr).timeline = s.timeline := by
  unfold State.coefAccess
  dsimp only
  split <;> simp

/-! ### Resets, ownership and power of the memories, the plat -/

@[simp] theorem timeline_updBoot (s : State) (f : BootHid → BootHid) : (s.updBoot f).timeline = s.timeline := (rfl)
@[simp] theorem timeline_updMem (s : State) (f : MemHid → MemHid) : (s.updMem f).timeline = s.timeline := (rfl)

@[simp] theorem timeline_beginBlockReset (s : State) : s.beginBlockReset.timeline = s.timeline := by
  unfold State.beginBlockReset
  split
  · rfl
  · exact timeline_foldl _ _ _ fun u d => by simp

@[simp] theorem timeline_requestBlockReset (s : State) : s.requestBlockReset.timeline = s.timeline := by
  simp [State.requestBlockReset]

@[simp] theorem timeline_setOwner (s : State) (k o : Nat) : (s.setOwner k o).timeline = s.timeline := (rfl)

@[simp] theorem timeline_giveMem (s : State) (k o : Nat) : (s.giveMem k o).timeline = s.timeline := by
  unfold State.giveMem
  split
  · rfl
  · split <;> simp

@[simp] theorem timeline_writeOwners (s : State) (v : Word) : (s.writeOwners v).timeline = s.timeline := by
  simp [State.writeOwners]

@[simp] theorem timeline_setPower (s : State) (k x : Nat) : (s.setPower k x).timeline = s.timeline := (rfl)

@[simp] theorem timeline_loseMem (s : State) (k : Nat) : (s.loseMem k).timeline = s.timeline := by
  simp [State.loseMem]

@[simp] theorem timeline_powerMem (s : State) (k x : Nat) : (s.powerMem k x).timeline = s.timeline := by
  unfold State.powerMem
  dsimp only
  split
  · rfl
  · split
    · simp
    · split
      · split <;> rfl
      · split <;> simp

@[simp] theorem timeline_writePowers (s : State) (v : Word) : (s.writePowers v).timeline = s.timeline := by
  simp [State.writePowers]

@[simp] theorem timeline_loadLow (s : State) (v : Word) : (s.loadLow v).timeline = s.timeline := (rfl)

@[simp] theorem timeline_loadHigh (s : State) (v : Word) : (s.loadHigh v).timeline = s.timeline := by
  unfold State.loadHigh
  split <;> simp

@[simp] theorem timeline_platGo (s : State) : s.platGo.timeline = s.timeline := by
  unfold State.platGo
  split
  · rfl
  · simp

@[simp] theorem timeline_writeCoreHold (s : State) (hold : Bool) : (s.writeCoreHold hold).timeline = s.timeline := by
  unfold State.writeCoreHold
  split <;> simp

@[simp] theorem timeline_writeCoreOwn (s : State) (v : Word) : (s.writeCoreOwn v).timeline = s.timeline := (rfl)

/-! ### The fault pin -/

@[simp] theorem timeline_writeHold (s : State) (b : Bool) : (s.writeHold b).timeline = s.timeline := (rfl)

/-! ### What a write stores, and a write on a port -/

@[simp] theorem timeline_storeBlk (s : State) (core : Bool) (off : Nat) (v : Word) : (s.storeBlk core off v).timeline = s.timeline := by
  unfold State.storeBlk
  dsimp only
  split
  · simp
  · split
    · split <;> simp
    · split
      · split <;> simp
      · split
        · split <;> rfl
        · rfl

@[simp] theorem timeline_storePlat (s : State) (off : Nat) (w v : Word) : (s.storePlat off w v).timeline = s.timeline := by
  unfold State.storePlat
  split <;> simp

@[simp] theorem timeline_storeMbx (s : State) (core : Bool) (off : Nat) (w v : Word) : (s.storeMbx core off w v).timeline = s.timeline := by
  unfold State.storeMbx
  split
  · rfl
  · simp

@[simp] theorem timeline_storeAon (s : State) (off : Nat) (w v : Word) : (s.storeAon off w v).timeline = s.timeline := by
  unfold State.storeAon
  split <;> simp

@[simp] theorem timeline_storeTract (s : State) (off : Nat) (w v : Word) : (s.storeTract off w v).timeline = s.timeline := by
  unfold State.storeTract
  split
  · simp
  · split <;> simp

@[simp] theorem timeline_storeSo (s : State) (off : Nat) (w v : Word) : (s.storeSo off w v).timeline = s.timeline := by
  unfold State.storeSo
  split <;> simp

@[simp] theorem timeline_storeDom (s : State) (off : Nat) (w v : Word) : (s.storeDom off w v).timeline = s.timeline := by
  unfold State.storeDom
  split
  · simp
  · split
    · simp
    · split <;> simp

@[simp] theorem timeline_storeIbs (s : State) (off : Nat) (w v : Word) : (s.storeIbs off w v).timeline = s.timeline := by
  unfold State.storeIbs
  dsimp only
  split
  · split <;> simp
  · split
    · simp
    · split
      · simp
      · split <;> simp

@[simp] theorem timeline_storeCap (s : State) (off : Nat) (w v : Word) : (s.storeCap off w v).timeline = s.timeline := by
  unfold State.storeCap
  iterate 6
    split
    · simp
  split
  · simp
  · split <;> simp

@[simp] theorem timeline_storeAdc (s : State) (off : Nat) (w v : Word) : (s.storeAdc off w v).timeline = s.timeline := by
  unfold State.storeAdc
  iterate 3
    split
    · simp
  split
  · simp
  · split
    · simp
    · dsimp only
      split
      · simp
      · split <;> simp

@[simp] theorem timeline_storeTrv (s : State) (off : Nat) (w v : Word) : (s.storeTrv off w v).timeline = s.timeline := by
  unfold State.storeTrv
  split
  · split <;> simp
  · split
    · simp
    · split
      · simp
      · split <;> simp

@[simp] theorem timeline_storeIn (s : State) (core : Bool) (n off : Nat) (w v : Word) : (s.storeIn core n off w v).timeline = s.timeline := by
  unfold State.storeIn
  split <;> simp

@[simp] theorem timeline_hostMark (s : State) (core : Bool) (off : Nat) (m : Word) : (s.hostMark core off m).timeline = s.timeline := by
  unfold State.hostMark
  split <;> rfl

@[simp] theorem timeline_storeReg (s : State) (core : Bool) (off : Nat) (a : Access) (mask v : Word) :
    (s.storeReg core off a mask v).timeline = s.timeline := by
  unfold State.storeReg
  dsimp only
  split
  · split <;> simp
  · split
    · rfl
    · split <;> simp

@[simp] theorem timeline_writeReg (s : State) (core : Bool) (off : Nat) (v : Word) : (s.writeReg core off v).timeline = s.timeline := by
  unfold State.writeReg
  split
  · rfl
  · split
    · simp
    · simp

@[simp] theorem timeline_busWrite (s : State) (core : Bool) (off : Nat) (strb : BitVec 4) (v : Word) :
    (s.busWrite core off strb v).timeline = s.timeline := by
  unfold State.busWrite
  split
  · rfl
  · split
    · rfl
    · split
      · rfl
      · split <;> simp

end Sys2Proof.Machine
end

section

open Sys2Proof Sys2Proof.Machine

/-- Settles O13: a write on a port leaves the whole timeline, the timestamp with it. -/
theorem hostCannotSetTimestamp : Obligations.HostCannotSetTimestamp := by
  unfold Obligations.HostCannotSetTimestamp
  intro p off strb v s t h
  have hexec : exec (.registerWrite p off strb v) s = .next (s.busWrite (p = .core) (off % 2 ^ 20) strb v) := rfl
  obtain rfl : s.busWrite (p = .core) (off % 2 ^ 20) strb v = t := by simpa [hexec] using h
  exact congrArg Timeline.ts (timeline_busWrite s _ _ _ _)

end

section
/-!
SUPPORT. One nanosecond of the block's own clock (R525, R527, assumption 1): of the timeline it moves the time and the timestamp
alone, where no retune left over by an interface reset is finished and no PMBus transaction goes on.
-/

namespace Sys2Proof.Machine

variable {s t u : State}

/-! ### The converters and the lanes -/

/-- Registers, the converters and the IB stage's history are all that changes. -/
def ConvertersOnly (s t : State) : Prop := ∃ r a i, t = { s with regs := r, adc := a, ib := i }

theorem ConvertersOnly.refl (s : State) : ConvertersOnly s s := ⟨_, _, _, rfl⟩

theorem ConvertersOnly.trans (h : ConvertersOnly s t) (k : ConvertersOnly t u) : ConvertersOnly s u := by
  obtain ⟨r, a, i, rfl⟩ := h
  obtain ⟨r', a', i', rfl⟩ := k
  exact ⟨r', a', i', rfl⟩

theorem ConvertersOnly.timeline_eq (h : ConvertersOnly s t) : t.timeline = s.timeline := by
  obtain ⟨r, a, i, rfl⟩ := h
  rfl

theorem ConvertersOnly.core_eq (h : ConvertersOnly s t) : t.core = s.core := by
  obtain ⟨r, a, i, rfl⟩ := h
  rfl

theorem ConvertersOnly.put (h : ConvertersOnly s t) (f : Fld) (n : Nat) : ConvertersOnly s (t.put f n) := h.trans ⟨_, _, _, rfl⟩

theorem ConvertersOnly.putB (h : ConvertersOnly s t) (f : Fld) (b : Bool) : ConvertersOnly s (t.putB f b) := h.put _ _

theorem ConvertersOnly.updConv (h : ConvertersOnly s t) (k : Nat) (f : ConvHid → ConvHid) : ConvertersOnly s (t.updConv k f) :=
  h.trans ⟨_, _, _, rfl⟩

theorem ConvertersOnly.ite {c : Prop} [Decidable c] (h : ConvertersOnly s t) (k : ConvertersOnly s u) :
    ConvertersOnly s (if c then t else u) := by
  split
  · exact h
  · exact k

theorem ConvertersOnly.foldl {f : State → Nat → State} (h : ConvertersOnly s t) (l : List Nat) (hf : ∀ u a, ConvertersOnly u (f u a)) :
    ConvertersOnly s (l.foldl f t) := by
  induction l generalizing t with
  | nil => exact h
  | cons a l ih => exact ih (h.trans (hf t a))

theorem convertersOnly_beginSeq (s : State) (k : Nat) (inj : Bool) : ConvertersOnly s (s.beginSeq k inj) := by
  have hs := ConvertersOnly.refl s
  unfold State.beginSeq
  split
  · exact (((hs.putB _ _).putB _ _).foldl _ fun u j => (ConvertersOnly.refl u).putB _ _).updConv _ _
  · exact ((((hs.putB _ _).putB _ _).put _ _).foldl _ fun u j => (ConvertersOnly.refl u).putB _ _).updConv _ _

theorem convertersOnly_startConv (s : State) (k at_ : Nat) (u : ConvFor) : ConvertersOnly s (s.startConv k at_ u) :=
  (ConvertersOnly.refl s).updConv _ _

theorem convertersOnly_startUser (s : State) (k at_ : Nat) : ConvertersOnly s (s.startUser k at_) := by
  have hbegun (c : Bool) (inj : Bool) : ConvertersOnly s (if c then s else s.beginSeq k inj) :=
    (ConvertersOnly.refl s).ite (convertersOnly_beginSeq s k inj)
  unfold State.startUser
  split
  · exact (convertersOnly_startConv _ _ _ _).ite (.refl s)
  · split
    · exact (hbegun _ _).trans (convertersOnly_startConv _ _ _ _)
    · exact ((hbegun _ _).updConv _ _).trans (convertersOnly_startConv _ _ _ _)
    · exact ((ConvertersOnly.refl s).updConv _ _).ite (.refl s)

theorem convertersOnly_cutIn (s : State) (k : Nat) : ConvertersOnly s (s.cutIn k) :=
  ((convertersOnly_beginSeq s k true).updConv _ _).ite (.refl s)

theorem convertersOnly_convFree (s : State) (k : Nat) : ConvertersOnly s (s.convFree k) :=
  have hcut := convertersOnly_cutIn s k
  (hcut.trans (convertersOnly_startUser _ _ _)).ite hcut

theorem convertersOnly_convTick (s : State) (k : Nat) : ConvertersOnly s (s.convTick k) := by
  unfold State.convTick
  extract_lets s1
  have hstart : ConvertersOnly s s1 := by
    refine (convertersOnly_convFree s k).ite ?_
    split
    · exact .refl s
    · exact (ConvertersOnly.refl s).ite ((convertersOnly_startUser _ _ _).ite (convertersOnly_startConv _ _ _ _))
  exact (hstart.trans ⟨_, _, _, rfl⟩).ite hstart

theorem convertersOnly_noteEdges (s : State) : ConvertersOnly s s.noteEdges :=
  ((ConvertersOnly.refl s).foldl _ fun u _ => ConvertersOnly.ite ⟨_, _, _, rfl⟩ (.refl u)).ite (.refl s)

theorem convertersOnly_serviceTick (s : State) : ConvertersOnly s s.serviceTick :=
  (ConvertersOnly.ite ⟨_, _, _, rfl⟩ (.refl s)).ite (ConvertersOnly.ite ⟨_, _, _, rfl⟩ (.refl s))

theorem convertersOnly_adcTick (s : State) : ConvertersOnly s s.adcTick := by
  have hms : ConvertersOnly s (s.noteMs.updAdc fun a => { a with faultNew := false }) := ⟨_, _, _, rfl⟩
  have hedges := (hms.trans (convertersOnly_noteEdges _)).trans (convertersOnly_serviceTick _)
  exact hms.ite ((hedges.trans (convertersOnly_convTick _ 0)).trans (convertersOnly_convTick _ 1))

@[simp] theorem timeline_hushLane (s : State) (l : Nat) : (s.hushLane l).timeline = s.timeline := (rfl)
theorem core_hushLane (s : State) (l : Nat) : (s.hushLane l).core = s.core := rfl

@[simp] theorem timeline_endHopRetry (s : State) : s.endHopRetry.timeline = s.timeline := by
  simp [State.endHopRetry]

theorem core_endHopRetry (s : State) : s.endHopRetry.core = s.core := by
  simp [State.endHopRetry, apply_ite State.core, core_hushLane]

/-! ### The timers -/

@[simp] theorem timeline_wdtTick (s : State) : s.wdtTick.timeline = s.timeline := by
  unfold State.wdtTick
  split
  · split <;> rfl
  · rfl

theorem orphans_wdtTick (s : State) : s.wdtTick.core.orphans = s.core.orphans := by
  unfold State.wdtTick
  split
  · split <;> rfl
  · rfl

theorem timeline_finishOrphans (h : s.core.orphans = []) : s.finishOrphans.timeline = s.timeline := by
  unfold State.finishOrphans
  rw [h]
  rfl

@[simp] theorem timeline_updPhase (s : State) (p : Nat) (f : PhaseHid → PhaseHid) : (s.updPhase p f).timeline = s.timeline := (rfl)

@[simp] theorem timeline_ibJoin (s : State) : s.ibJoin.timeline = s.timeline := by
  unfold State.ibJoin
  split
  · rfl
  · simp

@[simp] theorem timeline_syncBack (s : State) : s.syncBack.timeline = s.timeline := by
  unfold State.syncBack
  split
  · rfl
  · split
    · exact timeline_forEach _ _ _ fun c u => timeline_put u _ _
    · rfl

@[simp] theorem timeline_slewBack (s : State) : s.slewBack.timeline = s.timeline := by
  unfold State.slewBack
  dsimp only
  refine timeline_ite_of rfl (timeline_ite_of ?_ ?_)
  · rw [timeline_ite, timeline_putB, ite_self, timeline_withClk]
    simp
  · simp

@[simp] theorem timeline_stopDue (s : State) : s.stopDue.timeline = s.timeline := by
  unfold State.stopDue
  split
  · rfl
  · split
    · exact timeline_stopClocks s
    · rfl

@[simp] theorem timeline_watchBallast (s : State) : s.watchBallast.timeline = s.timeline := by
  unfold State.watchBallast
  dsimp only
  split
  · rfl
  · exact timeline_raiseIf _ _ _ _

@[simp] theorem timeline_showAon (s : State) : s.showAon.timeline = s.timeline := by
  unfold State.showAon
  exact timeline_ite_of rfl rfl

@[simp] theorem timeline_gatherFlags (s : State) : s.gatherFlags.timeline = s.timeline := by
  unfold State.gatherFlags
  dsimp only
  split <;> rfl

theorem resumePmb_of_none (h : s.pmb.held = none) : s.resumePmb = s := by
  unfold State.resumePmb
  rw [h]

theorem timeline_tickTimers (horphans : s.core.orphans = []) (hheld : s.pmb.held = none) : s.tickTimers.timeline = s.timeline := by
  have hrun : ((((((s.wdtTick.finishOrphans).ibJoin).syncBack.slewBack).wakeLatch.stopDue).watchBallast).showAon).timeline = s.timeline := by
    simp [timeline_finishOrphans ((orphans_wdtTick s).trans horphans)]
  unfold State.tickTimers
  rw [resumePmb_of_none ((congrArg Timeline.held hrun).trans hheld), hrun]

/-! ### The nanosecond -/

theorem tsStep_of_still (h : s.trv.slewLeft = 0) : s.tsStep = 1 := by
  simp [State.tsStep, h]

theorem timeline_tickTs (s : State) : s.tickTs.timeline = { s.timeline with ts := s.ts + BitVec.ofNat 64 s.tsStep } := by
  unfold State.tickTs
  dsimp only
  split <;> rfl

theorem core_tickTs (s : State) : s.tickTs.core = s.core := by
  unfold State.tickTs
  dsimp only
  split <;> rfl

theorem tick_of_por (h : s.por = true) : s.tick = { s with now := s.now + 1 } := by
  simp [State.tick, h]

theorem tick_of_running (h : s.por = false) :
    s.tick = ({ s with now := s.now + 1 } : State).tickTs.drainLanes.endHopRetry.adcTick.tickTimers.gatherFlags := by
  simp [State.tick, h]

/-- Outside power-on reset, with no retune left over and no transaction held, all that a nanosecond does to the timeline is done
by the clock of the timestamp. -/
theorem timeline_tick (hpor : s.por = false) (horphans : s.core.orphans = []) (hheld : s.pmb.held = none) :
    s.tick.timeline = ({ s with now := s.now + 1 } : State).tickTs.timeline := by
  have hsampled := convertersOnly_adcTick ({ s with now := s.now + 1 } : State).tickTs.drainLanes.endHopRetry
  have htime := hsampled.timeline_eq.trans (timeline_endHopRetry _)
  have hcore := hsampled.core_eq.trans (core_endHopRetry _)
  have hnone : ({ s with now := s.now + 1 } : State).tickTs.timeline.held = none := by rw [timeline_tickTs]; exact hheld
  rw [tick_of_running hpor, timeline_gatherFlags, timeline_tickTimers, htime]
  · rfl
  · rw [hcore]
    exact (congrArg CoreHid.orphans (core_tickTs _)).trans horphans
  · exact (congrArg Timeline.held htime).trans hnone

end Sys2Proof.Machine
end

section

open Sys2Proof Sys2Proof.Machine

/-- Settles O2: a step with an empty queue is a nanosecond of the block's clock, which moves the time by 1 and the timestamp by what R527
gives for an offset still to be removed, here 1. -/
theorem emptyQueueIsOneNanosecond : Obligations.EmptyQueueIsOneNanosecond := by
  unfold Obligations.EmptyQueueIsOneNanosecond
  intro s hqueue horphans hheld
  refine ⟨s.tick, by simp [step, hqueue], ?_⟩
  by_cases hpor : s.por = true
  · rw [tick_of_por hpor]
    exact ⟨hqueue, rfl, fun _ => rfl, fun h => absurd (hpor.symm.trans h) nofun⟩
  · have htime := (timeline_tick (Bool.eq_false_of_not_eq_true hpor) horphans hheld).trans (timeline_tickTs _)
    have hts : s.tick.ts = s.ts + BitVec.ofNat 64 ({ s with now := s.now + 1 } : State).tsStep := congrArg Timeline.ts htime
    refine ⟨(congrArg Timeline.queue htime).trans hqueue, congrArg Timeline.now htime, fun h => absurd h hpor, fun _ hstill => ?_⟩
    rw [hts, tsStep_of_still (s := { s with now := s.now + 1 }) hstill]
    rfl

end

section
/-!
SUPPORT. The fault pin: what a trigger leaves in FLT_PIN, FLT_LAST and FLT_COUNT, and that the recording of an event leaves the pin alone
(R561-R571).
-/

namespace Sys2Proof.Machine

variable {s t : State}

/-! ### What the recording of an event leaves -/

/-- The registers that tell of the pin and of what triggers it: FLT_CFG, FLT_PIN, FLT_LAST, FLT_COUNT and MEM_SEV. -/
def pinWords : List Nat := [FLT_CFG, FLT_PIN, FLT_LAST, FLT_COUNT, blockBase 20 + 8]

theorem not_common_of_pinWord {o : Nat} (h : o ∈ pinWords) (n : Nat) : o ≠ blockBase n ∧ o ≠ bookReg n := by
  have hbase := blockBase_mod n
  have hword : ∀ x ∈ pinWords, x % 1024 ≠ 0 ∧ x % 1024 ≠ 12 := by decide
  obtain ⟨h0, h12⟩ := hword o h
  unfold bookReg
  omega

/-- The recording of an event, with the events that follow it, leaves what tells of the pin. -/
theorem reg_recorded {o : Nat} (h : o ∈ pinWords) (s : State) (e : Ev) (i d : Nat) :
    (State.afterRecord (s.note e i d)).reg o = s.reg o := by
  have hnote : SameRegs s (s.note e i d).1 (blockBase e.block :: bookReg e.block :: tailRegs) :=
    (sameRegs_note s e i d).mono (by simp [tailRegs])
  have htail : ∀ x ∈ pinWords, x ∉ tailRegs := by decide
  obtain ⟨hstat, hbook⟩ := not_common_of_pinWord h e.block
  exact sameRegs_afterRecord hnote (by simp) o (by simp [hstat, hbook, htail o h])

/-- An entry is recorded in registers and BOOK memory alone. -/
theorem record_eq (s : State) (b : Nat) (w : Bool) (e : Entry) : ∃ r m, (s.record b w e).1 = { s with regs := r, book := m } := by
  have hevict (k : Nat) : ∃ r m, (if s.get (fBOOK_FILL b) = 8 then s.evict b k else s) = { s with regs := r, book := m } := by
    split
    · unfold State.evict
      dsimp only
      split <;> split <;> exact ⟨_, _, rfl⟩
    · exact ⟨s.regs, s.book, rfl⟩
  unfold State.record
  dsimp only
  split
  · exact ⟨_, s.book, rfl⟩
  · split
    · split
      · exact ⟨_, s.book, rfl⟩
      · exact ⟨s.regs, _, rfl⟩
    · generalize (if s.get (fBOOK_FILL b) = 0 then s.get (fBOOK_HEAD b) else (s.get (fBOOK_HEAD b) + 1) % 8) = slot
      split
      · exact ⟨_, s.book, rfl⟩
      · obtain ⟨r, m, hu⟩ := hevict slot
        rw [hu]
        exact ⟨_, _, rfl⟩

@[simp] theorem pins_broadcastFault (s : State) (e : Ev) (sev : Nat) : (s.broadcastFault e sev).pins = s.pins := by
  unfold State.broadcastFault
  dsimp only
  split
  · obtain ⟨v, hv⟩ := originate_trv s 8 (e.block * 2 ^ 40 + e.bit * 2 ^ 35 + sev * 2 ^ 33 + s.ts.toNat % 2 ^ 32)
    rw [hv]
  · rfl

@[simp] theorem pins_note (s : State) (e : Ev) (i d : Nat) : (s.note e i d).1.pins = s.pins := by
  have hsent : (if s.stat e = true then s.setStat e else (s.setStat e).broadcastFault e (s.sevOf e)).pins = s.pins := by
    split
    · rfl
    · exact pins_broadcastFault _ _ _
  unfold State.note
  dsimp only
  obtain ⟨r, m, hr⟩ := record_eq (if s.stat e = true then s.setStat e else (s.setStat e).broadcastFault e (s.sevOf e)) e.block (s.stat e)
    ⟨e.bit, s.sevOf e, e.block, s.dieIndex, i, d⟩
  rw [hr]
  exact hsent

@[simp] theorem pins_afterRecord (p : State × Recorded) : (State.afterRecord p).pins = p.1.pins := by
  unfold State.afterRecord
  split
  · rfl
  · exact pins_note _ _ _ _
  · rw [pins_note]
    exact pins_note _ _ _ _

/-! ### The pin after a change of its drive -/

theorem driveFault_eq (s : State) : s.driveFault = (s.putB fFLT_PIN_DRIVE (s.on fFLT_PIN_PULSE || s.on fFLT_PIN_HOLD)).putB fFLT_PIN_LEVEL
    (if s.on fFLT_PIN_DRIVE = (s.on fFLT_PIN_PULSE || s.on fFLT_PIN_HOLD) then s.on fFLT_PIN_LEVEL
      else !(s.on fFLT_PIN_PULSE || s.on fFLT_PIN_HOLD) && !s.pins.extLow) := rfl

theorem hold_driveFault (s : State) : s.driveFault.on fFLT_PIN_HOLD = s.on fFLT_PIN_HOLD := by
  rw [driveFault_eq]
  simp (disch := decide) only [on_putB_apart]

theorem pulse_driveFault (s : State) : s.driveFault.on fFLT_PIN_PULSE = s.on fFLT_PIN_PULSE := by
  rw [driveFault_eq]
  simp (disch := decide) only [on_putB_apart]

theorem drive_driveFault (s : State) : s.driveFault.on fFLT_PIN_DRIVE = (s.on fFLT_PIN_PULSE || s.on fFLT_PIN_HOLD) := by
  rw [driveFault_eq]
  simp (disch := decide) only [on_putB_apart, on_putB_same]

theorem level_driveFault (s : State) : s.driveFault.on fFLT_PIN_LEVEL =
    if s.on fFLT_PIN_DRIVE = s.driveFault.on fFLT_PIN_DRIVE then s.on fFLT_PIN_LEVEL
    else !s.driveFault.on fFLT_PIN_DRIVE && !s.pins.extLow := by
  rw [drive_driveFault, driveFault_eq, on_putB_same _ _ _ (by decide) rfl]

theorem reg_driveFault (s : State) {o : Nat} (h : o ≠ FLT_PIN) : s.driveFault.reg o = s.reg o := by
  rw [driveFault_eq, reg_putB_ne _ _ _ _ h, reg_putB_ne _ _ _ _ h]

theorem onlyRegs_driveFault {l : List Nat} (h : OnlyRegs s t l) (hl : FLT_PIN ∈ l) : OnlyRegs s t.driveFault l := by
  obtain ⟨⟨r, c, rfl⟩, hr⟩ := h
  exact ⟨⟨_, c, rfl⟩, (SameRegs.putB (f := fFLT_PIN_DRIVE) hr _ hl).putB (f := fFLT_PIN_LEVEL) _ hl⟩

/-! ### A trigger -/

/-- FAULT_N is driven low by a pulse and by HOLD. -/
def State.triggered (s : State) : Prop :=
  s.on fFLT_PIN_HOLD = true ∧ s.on fFLT_PIN_PULSE = true ∧ s.on fFLT_PIN_DRIVE = true

theorem triggered_of_reg (h : t.reg FLT_PIN = s.reg FLT_PIN) (hs : s.triggered) : t.triggered := by
  obtain ⟨hhold, hpulse, hdrive⟩ := hs
  exact ⟨(on_of_reg fFLT_PIN_HOLD h).trans hhold, (on_of_reg fFLT_PIN_PULSE h).trans hpulse, (on_of_reg fFLT_PIN_DRIVE h).trans hdrive⟩

/-- The state in which the pulse timer of a trigger runs and the instant of the trigger is noted. -/
def State.timed (s : State) : State :=
  { s with cyc := { s.cyc with trigAt := s.now + 1 }, pins := { s.pins with pulseDue := s.now + ceilN (s.get fFLT_CFG_PULSE * s.aon64) 64 } }

theorem reg_timed (s : State) (o : Nat) : s.timed.reg o = s.reg o := rfl
theorem on_timed (s : State) (f : Fld) : s.timed.on f = s.on f := rfl
theorem extLow_timed (s : State) : s.timed.pins.extLow = s.pins.extLow := rfl

/-- The state in which PULSE and HOLD are set, before the drive follows them. -/
def State.pulsed (s : State) : State := (s.timed.putB fFLT_PIN_PULSE true).putB fFLT_PIN_HOLD true

theorem pulse_pulsed (s : State) : s.pulsed.on fFLT_PIN_PULSE = true := by
  simp (disch := decide) only [State.pulsed, on_putB_apart, on_putB_same]

theorem hold_pulsed (s : State) : s.pulsed.on fFLT_PIN_HOLD = true := by
  simp (disch := decide) only [State.pulsed, on_putB_same]

theorem drive_pulsed (s : State) : s.pulsed.on fFLT_PIN_DRIVE = s.on fFLT_PIN_DRIVE := by
  simp (disch := decide) only [State.pulsed, on_putB_apart, on_timed]

theorem level_pulsed (s : State) : s.pulsed.on fFLT_PIN_LEVEL = s.on fFLT_PIN_LEVEL := by
  simp (disch := decide) only [State.pulsed, on_putB_apart, on_timed]

theorem reg_pulsed (s : State) {o : Nat} (h : o ≠ FLT_PIN) : s.pulsed.reg o = s.reg o := by
  rw [State.pulsed, reg_putB_ne _ _ _ _ h, reg_putB_ne _ _ _ _ h, reg_timed]

/-- The word that FLT_LAST holds after a trigger (R569). -/
def lastWord (remote : Bool) (e : Entry) : Word :=
  BitVec.ofNat 32 (e.die % 8 * 2 ^ 29 + e.block % 32 * 2 ^ 24 + e.bit % 32 * 2 ^ 19 + e.sev % 4 * 2 ^ 17 + b2n remote * 2 ^ 16 + e.idx % 2 ^ 16)

theorem triggerPin_eq (s : State) (r : Bool) (e : Entry) :
    s.triggerPin r e = (s.pulsed.driveFault.setReg FLT_LAST (lastWord r e)).addSat fFLT_COUNT_COUNT 1 := rfl

theorem pin_triggerPin (s : State) (r : Bool) (e : Entry) : (s.triggerPin r e).reg FLT_PIN = s.pulsed.driveFault.reg FLT_PIN := by
  rw [triggerPin_eq, reg_addSat_ne _ _ _ _ (by decide), reg_setReg_ne _ _ _ _ (by decide)]

theorem triggered_triggerPin (s : State) (r : Bool) (e : Entry) : (s.triggerPin r e).triggered := by
  refine triggered_of_reg (pin_triggerPin s r e) ⟨?_, ?_, ?_⟩
  · rw [hold_driveFault, hold_pulsed]
  · rw [pulse_driveFault, pulse_pulsed]
  · rw [drive_driveFault, pulse_pulsed, Bool.true_or]

/-- A pin that reads high only while driven keeps its level as it is triggered. -/
theorem level_triggerPin (r : Bool) (e : Entry) (h : s.on fFLT_PIN_LEVEL = true → s.on fFLT_PIN_DRIVE = true) :
    (s.triggerPin r e).on fFLT_PIN_LEVEL = s.on fFLT_PIN_LEVEL := by
  rw [on_of_reg fFLT_PIN_LEVEL (pin_triggerPin s r e), level_driveFault, drive_driveFault, pulse_pulsed, drive_pulsed,
    level_pulsed]
  cases hlevel : s.on fFLT_PIN_LEVEL
  · simp
  · simp [h hlevel]

theorem extLow_triggerPin (s : State) (r : Bool) (e : Entry) : (s.triggerPin r e).pins.extLow = s.pins.extLow := by
  rw [triggerPin_eq, State.addSat_pins, State.setReg_pins, driveFault_eq, State.putB_pins, State.putB_pins, State.pulsed, State.putB_pins,
    State.putB_pins, extLow_timed]

theorem last_triggerPin (s : State) (r : Bool) (e : Entry) : (s.triggerPin r e).reg FLT_LAST = lastWord r e := by
  rw [triggerPin_eq, reg_addSat_ne _ _ _ _ (by decide), reg_setReg_same]

theorem count_triggerPin (s : State) (r : Bool) (e : Entry) :
    (s.triggerPin r e).get fFLT_COUNT_COUNT = min (2 ^ 32 - 1) (s.get fFLT_COUNT_COUNT + 1) := by
  have hcount : s.pulsed.driveFault.get fFLT_COUNT_COUNT = s.get fFLT_COUNT_COUNT :=
    get_of_reg _ ((reg_driveFault _ (by decide)).trans (reg_pulsed s (by decide)))
  rw [triggerPin_eq, get_addSat _ _ _ (by decide), get_setReg_ne _ _ _ _ (by decide), hcount]
  rfl

/-- A word below 2^32 as its fields. -/
theorem bitsAt_ofNat {x : Nat} (lo w : Nat) (h : x < 2 ^ 32) : bitsAt (BitVec.ofNat 32 x) lo w = x / 2 ^ lo % 2 ^ w := by
  rw [bitsAt, BitVec.toNat_ofNat, Nat.mod_eq_of_lt h]

/-- What FLT_LAST says of the event that triggered the pin (R569). -/
def LastTells (s : State) (e : Entry) : Prop :=
  s.get fFLT_LAST_DIE = e.die % 8 ∧ s.get fFLT_LAST_BLOCK = e.block % 32 ∧ s.get fFLT_LAST_BIT = e.bit % 32 ∧
  s.get fFLT_LAST_SEV = e.sev % 4 ∧ s.get fFLT_LAST_INDEX = e.idx % 65536

theorem lastTells_of_word {r : Bool} {e : Entry} (h : s.reg FLT_LAST = lastWord r e) : LastTells s e := by
  have hr : b2n r < 2 := by cases r <;> decide
  have hget (f : Fld) (hf : f.off = FLT_LAST) : s.get f = bitsAt (lastWord r e) f.lo f.width := by rw [State.get, hf, h]
  unfold LastTells
  rw [hget fFLT_LAST_DIE rfl, hget fFLT_LAST_BLOCK rfl, hget fFLT_LAST_BIT rfl, hget fFLT_LAST_SEV rfl, hget fFLT_LAST_INDEX rfl]
  unfold lastWord
  generalize b2n r = x at hr
  simp only [bitsAt_ofNat _ _ (show e.die % 8 * 2 ^ 29 + e.block % 32 * 2 ^ 24 + e.bit % 32 * 2 ^ 19 + e.sev % 4 * 2 ^ 17 + x * 2 ^ 16 +
    e.idx % 2 ^ 16 < 2 ^ 32 by omega)]
  omega

/-! ### The pin part of an event -/

/-- An event that triggers the pin: outside the FLT_ block, at a severity at or above FLT_CFG.PSEV (R568). -/
def State.triggers (s : State) (e : Entry) : Prop := e.block ≠ 18 ∧ s.get fFLT_CFG_PSEV ≤ e.sev

theorem pinPart_of_not_triggers {e : Entry} (r : Bool) (h : ¬s.triggers e) : s.pinPart r e = s := by
  unfold State.pinPart
  rw [if_neg (by simpa [State.triggers] using h)]

/-- FLT_ASSERTED follows a trigger, and leaves what the trigger says of it. -/
theorem reg_pinPart_of_triggers {e : Entry} (r : Bool) (h : s.triggers e) {o : Nat} (ho : o ∈ pinWords) :
    (s.pinPart r e).reg o = (s.triggerPin r e).reg o := by
  unfold State.pinPart
  rw [if_pos (by simpa [State.triggers] using h)]
  exact reg_recorded ho _ _ _ _

theorem triggered_pinPart {e : Entry} (r : Bool) (h : s.triggers e) : (s.pinPart r e).triggered :=
  triggered_of_reg (reg_pinPart_of_triggers r h (by decide)) (triggered_triggerPin s r e)

theorem lastTells_pinPart {e : Entry} (r : Bool) (h : s.triggers e) : LastTells (s.pinPart r e) e :=
  lastTells_of_word ((reg_pinPart_of_triggers r h (by decide)).trans (last_triggerPin s r e))

theorem count_pinPart {e : Entry} (r : Bool) (h : s.triggers e) :
    (s.pinPart r e).get fFLT_COUNT_COUNT = min (2 ^ 32 - 1) (s.get fFLT_COUNT_COUNT + 1) :=
  (get_of_reg fFLT_COUNT_COUNT (reg_pinPart_of_triggers r h (by decide))).trans (count_triggerPin s r e)

/-- A trigger leaves FLT_CFG and the severities. -/
theorem reg_pinPart_apart (s : State) (r : Bool) (e : Entry) {o : Nat} (ho : o = FLT_CFG ∨ o = blockBase 20 + 8) :
    (s.pinPart r e).reg o = s.reg o :=
  sameRegs_pinPart s r e o (by obtain rfl | rfl := ho <;> decide)

theorem triggered_pinPart_keeps (r : Bool) (e : Entry) (hs : s.triggered) : (s.pinPart r e).triggered := by
  by_cases h : s.triggers e
  · exact triggered_pinPart r h
  · rwa [pinPart_of_not_triggers r h]

theorem level_pinPart (r : Bool) (e : Entry) (hs : s.on fFLT_PIN_LEVEL = true → s.on fFLT_PIN_DRIVE = true) :
    (s.pinPart r e).on fFLT_PIN_LEVEL = s.on fFLT_PIN_LEVEL := by
  by_cases h : s.triggers e
  · exact (on_of_reg fFLT_PIN_LEVEL (reg_pinPart_of_triggers r h (by decide))).trans (level_triggerPin r e hs)
  · rw [pinPart_of_not_triggers r h]

theorem extLow_pinPart (s : State) (r : Bool) (e : Entry) : (s.pinPart r e).pins.extLow = s.pins.extLow := by
  by_cases h : s.triggers e
  · unfold State.pinPart
    rw [if_pos (by simpa [State.triggers] using h), pins_afterRecord, pins_note, extLow_triggerPin]
  · rw [pinPart_of_not_triggers r h]

theorem rmwPin_of_recorded {r : Recorded} (h : ∀ a, r ≠ .lostRmw a) (s : State) : s.rmwPin r = s := by
  cases r with
  | lostRmw a => exact absurd rfl (h a)
  | _ => rfl

/-- An uncorrectable read met as an event is recorded is the pin part of one more event, or nothing. -/
theorem rmwPin_eq (s : State) (r : Recorded) : s.rmwPin r = s ∨ ∃ e, s.rmwPin r = s.pinPart false e := by
  cases r with
  | lostRmw a => exact .inr ⟨_, rfl⟩
  | _ => exact .inl rfl

end Sys2Proof.Machine
end

section
/-!
SUPPORT. An event and the pin: an event is recorded, then triggers the pin by its own severity, then by that of an uncorrectable read which
its record has met (R554, R568, R569, R611).
-/

namespace Sys2Proof.Machine

/-- What the record of an event says of it. -/
def State.entryOf (s : State) (e : Ev) (idx data : Nat) : Entry := ⟨e.bit, s.sevOf e, e.block, s.dieIndex, idx, data⟩

variable {s : State} {e : Ev} {idx data : Nat}

theorem raiseD_eq (s : State) (e : Ev) (idx data : Nat) : s.raiseD e idx data =
    ((State.afterRecord (s.note e idx data)).pinPart false (s.entryOf e idx data)).rmwPin (s.note e idx data).2 := rfl

theorem raiseD_of_recorded (h : ∀ a, (s.note e idx data).2 ≠ .lostRmw a) :
    s.raiseD e idx data = (State.afterRecord (s.note e idx data)).pinPart false (s.entryOf e idx data) := by
  rw [raiseD_eq, rmwPin_of_recorded h]

/-- Whether an event triggers the pin is not changed by its being recorded. -/
theorem triggers_recorded : (State.afterRecord (s.note e idx data)).triggers (s.entryOf e idx data) ↔
    e.block ≠ 18 ∧ s.get fFLT_CFG_PSEV ≤ s.sevOf e := by
  unfold State.triggers
  rw [get_of_reg fFLT_CFG_PSEV (reg_recorded (by decide) s e idx data)]
  rfl

theorem sevOf_lt (s : State) (e : Ev) : s.sevOf e < 4 := Nat.mod_lt _ (by decide)

theorem triggered_raiseD (h : e.block ≠ 18 ∧ s.get fFLT_CFG_PSEV ≤ s.sevOf e) : (s.raiseD e idx data).triggered := by
  have hown := triggered_pinPart false (triggers_recorded (idx := idx) (data := data) |>.mpr h)
  obtain hsame | ⟨x, hx⟩ := rmwPin_eq ((State.afterRecord (s.note e idx data)).pinPart false (s.entryOf e idx data)) (s.note e idx data).2
  · rwa [raiseD_eq, hsame]
  · rw [raiseD_eq, hx]
    exact triggered_pinPart_keeps false x hown

theorem count_raiseD (hr : ∀ a, (s.note e idx data).2 ≠ .lostRmw a) (h : e.block ≠ 18 ∧ s.get fFLT_CFG_PSEV ≤ s.sevOf e) :
    (s.raiseD e idx data).get fFLT_COUNT_COUNT = min (2 ^ 32 - 1) (s.get fFLT_COUNT_COUNT + 1) := by
  rw [raiseD_of_recorded hr, count_pinPart false (triggers_recorded.mpr h), get_of_reg fFLT_COUNT_COUNT (reg_recorded (by decide) s e idx data)]

theorem lastTells_raiseD (hr : ∀ a, (s.note e idx data).2 ≠ .lostRmw a) (h : e.block ≠ 18 ∧ s.get fFLT_CFG_PSEV ≤ s.sevOf e) :
    LastTells (s.raiseD e idx data) (s.entryOf e idx data) := by
  rw [raiseD_of_recorded hr]
  exact lastTells_pinPart false (triggers_recorded.mpr h)

/-- An event that does not trigger the pin leaves what tells of the pin. -/
theorem reg_raiseD_of_not_triggers (hr : ∀ a, (s.note e idx data).2 ≠ .lostRmw a) (h : ¬(e.block ≠ 18 ∧ s.get fFLT_CFG_PSEV ≤ s.sevOf e))
    {o : Nat} (ho : o ∈ pinWords) : (s.raiseD e idx data).reg o = s.reg o := by
  rw [raiseD_of_recorded hr, pinPart_of_not_triggers false (mt triggers_recorded.mp h), reg_recorded ho]

/-- An event whose record meets an uncorrectable word triggers the pin by the severity of MEM_STAT.UNCORR, and FLT_LAST tells of it. -/
theorem raiseD_of_lostRmw {a : Nat} (hr : (s.note e idx data).2 = .lostRmw a) (h : s.get fFLT_CFG_PSEV ≤ s.sevOf evMEM_UNCORR) :
    (s.raiseD e idx data).triggered ∧ (s.raiseD e idx data).get fFLT_LAST_BLOCK = 20 ∧
      (s.raiseD e idx data).get fFLT_LAST_SEV = s.sevOf evMEM_UNCORR := by
  have hlast := raiseD_eq s e idx data
  rw [hr] at hlast
  generalize hu : (State.afterRecord (s.note e idx data)).pinPart false (s.entryOf e idx data) = u at hlast
  have hreg {o : Nat} (ho : o = FLT_CFG ∨ o = blockBase 20 + 8) : u.reg o = s.reg o := by
    rw [← hu, reg_pinPart_apart _ _ _ ho, reg_recorded (by obtain rfl | rfl := ho <;> decide)]
  have hsev : u.sevOf evMEM_UNCORR = s.sevOf evMEM_UNCORR := by rw [State.sevOf, hreg (.inr rfl), State.sevOf]
  have htriggers : u.triggers (u.entryOf evMEM_UNCORR 4 (a / 8 * 8)) :=
    ⟨show 20 ≠ 18 by decide, by rw [get_of_reg fFLT_CFG_PSEV (hreg (.inl rfl))]; exact h.trans_eq hsev.symm⟩
  have hpart : s.raiseD e idx data = u.pinPart false (u.entryOf evMEM_UNCORR 4 (a / 8 * 8)) := hlast
  obtain ⟨-, hblock, -, hsevLast, -⟩ := lastTells_pinPart false htriggers
  rw [hpart]
  refine ⟨triggered_pinPart false htriggers, hblock, hsevLast.trans ?_⟩
  rw [← hsev]
  exact Nat.mod_eq_of_lt (sevOf_lt u evMEM_UNCORR)

end Sys2Proof.Machine
end

section

open Sys2Proof Sys2Proof.Machine

/-- Settles O14: recording an event leaves the pin alone, so the pin is triggered, once, by the severity of the event, and once more by
that of an uncorrectable read that the record has met. -/
theorem eventSetsItsBit : Obligations.EventSetsItsBit := by
  unfold Obligations.EventSetsItsBit
  intro s e idx data hblock hbit
  refine ⟨stat_raiseD_same s e idx data hbit, fun f => stat_raiseD_keeps s e f idx data, triggered_raiseD, fun hr hpin hsev => ?_,
    fun a hr hsev => ?_, fun hr hnot => ?_, onlyEvents_raiseD s e idx data⟩
  · obtain ⟨hdie, hblk, hb, hs, hidx⟩ := lastTells_raiseD hr ⟨hpin, hsev⟩
    exact ⟨count_raiseD hr ⟨hpin, hsev⟩, hdie, hblk.trans (Nat.mod_eq_of_lt (by change e.block < 32; omega)), hb.trans (Nat.mod_eq_of_lt hbit),
      hs.trans (Nat.mod_eq_of_lt (sevOf_lt s e)), hidx⟩
  · obtain ⟨⟨hhold, -, hdrive⟩, hlast⟩ := raiseD_of_lostRmw hr hsev
    exact ⟨hhold, hdrive, hlast⟩
  · have hkeeps {o : Nat} (ho : o ∈ pinWords) := reg_raiseD_of_not_triggers hr (fun h => hnot.elim h.1 (by omega)) ho
    exact ⟨hkeeps (by decide), hkeeps (by decide), hkeeps (by decide)⟩

end

section
/-!
SUPPORT. The commands of the fault pin: the end of its pulse, a write of HOLD, a level against the drive, and the clearing of the field books
(R567, R570, R571, R573).
-/

namespace Sys2Proof.Machine

variable {s : State} {p : Port}

/-! ### PULSE or HOLD changed -/

/-- Where PULSE or HOLD has changed, the level follows the change of the drive. -/
theorem level_driveFault_putB (s : State) (b : Bool) {f : Fld} (hf : f = fFLT_PIN_PULSE ∨ f = fFLT_PIN_HOLD) :
    (s.putB f b).driveFault.on fFLT_PIN_LEVEL =
      if s.on fFLT_PIN_DRIVE = (s.putB f b).driveFault.on fFLT_PIN_DRIVE then s.on fFLT_PIN_LEVEL
      else !(s.putB f b).driveFault.on fFLT_PIN_DRIVE && !s.pins.extLow := by
  have hkeeps : (s.putB f b).on fFLT_PIN_DRIVE = s.on fFLT_PIN_DRIVE ∧ (s.putB f b).on fFLT_PIN_LEVEL = s.on fFLT_PIN_LEVEL := by
    obtain rfl | rfl := hf <;> simp (disch := decide) only [on_putB_apart, and_self]
  rw [level_driveFault, hkeeps.1, hkeeps.2, State.putB_pins]

theorem onlyRegs_driveFault_putB (s : State) (b : Bool) {f : Fld} (hf : f.off = FLT_PIN) : OnlyRegs s (s.putB f b).driveFault [FLT_PIN] :=
  onlyRegs_driveFault ⟨⟨_, s.cyc, rfl⟩, (SameRegs.refl s _).putB b (by simp [hf])⟩ (by simp)

/-! ### The end of a pulse -/

theorem exec_faultPulseEnd (hpulse : s.on fFLT_PIN_PULSE = true) (hdue : s.pins.pulseDue ≤ s.now) :
    exec .faultPulseEnd s = .next (s.putB fFLT_PIN_PULSE false).driveFault := by
  change Host.Outcome.next _ = _
  rw [if_pos (by simp [hpulse, hdue])]

theorem faultPulseEnd_runs (hpulse : s.on fFLT_PIN_PULSE = true) (hdue : s.pins.pulseDue ≤ s.now) :
    Runs .faultPulseEnd s fun t => t.on fFLT_PIN_PULSE = false ∧ t.on fFLT_PIN_DRIVE = s.on fFLT_PIN_HOLD ∧
      t.on fFLT_PIN_HOLD = s.on fFLT_PIN_HOLD ∧
      t.on fFLT_PIN_LEVEL = (if s.on fFLT_PIN_DRIVE = s.on fFLT_PIN_HOLD then s.on fFLT_PIN_LEVEL else !s.on fFLT_PIN_HOLD && !s.pins.extLow) ∧
      OnlyRegs s t [FLT_PIN] := by
  have hoff : (s.putB fFLT_PIN_PULSE false).on fFLT_PIN_PULSE = false := on_putB_same _ _ _ (by decide) rfl
  have hhold : (s.putB fFLT_PIN_PULSE false).on fFLT_PIN_HOLD = s.on fFLT_PIN_HOLD := by simp (disch := decide) only [on_putB_apart]
  have hdrive : (s.putB fFLT_PIN_PULSE false).driveFault.on fFLT_PIN_DRIVE = s.on fFLT_PIN_HOLD := by
    rw [drive_driveFault, hoff, hhold, Bool.false_or]
  refine ⟨_, exec_faultPulseEnd hpulse hdue, ?_, hdrive, ?_, ?_, onlyRegs_driveFault_putB s false rfl⟩
  · rw [pulse_driveFault, hoff]
  · rw [hold_driveFault, hhold]
  · rw [level_driveFault_putB s false (.inl rfl), hdrive]

/-! ### A write of HOLD -/

/-- Served writes of FLT_PIN and FLT_CTL reach what the page does with them. -/
theorem portWrite_fltPin (v : Word) (hs : Served p FLT_PIN s) :
    s.portWrite p FLT_PIN v = .next (((s.hostMark (p = .core) FLT_PIN 1#32).writeHold (bitsAt v 0 1 = 1)).okay 0) := by
  have hbits : s.writeBits ⟨1#32, 0, 0, 0⟩ FLT_PIN v = v := by
    change v &&& ~~~(0#32 &&& _) = v
    rw [BitVec.zero_and, BitVec.not_zero, BitVec.and_allOnes]
  rw [portWrite_in s p FLT_PIN v 18 ⟨1#32, 0, 0, 0⟩ hs (by decide) (by decide) (by decide) (by decide +kernel) rfl (by decide +kernel)
    (by decide +kernel) (by decide), hbits]
  rfl

theorem portWrite_fltCtl (v : Word) (hv : bitsAt v 0 1 = 1) (hs : Served p FLT_CTL s) :
    s.portWrite p FLT_CTL v = .next ((s.hostMark (p = .core) FLT_CTL 1#32).clearBooks.okay 0) := by
  have hbits : s.writeBits ⟨0, 0, 0, 1#32⟩ FLT_CTL v = v := by
    change v &&& ~~~(0#32 &&& _) = v
    rw [BitVec.zero_and, BitVec.not_zero, BitVec.and_allOnes]
  have hstore (u : State) (w : Word) : u.storeIn (p = .core) 18 FLT_CTL w v = u.clearBooks := if_pos hv
  rw [portWrite_in s p FLT_CTL v 18 ⟨0, 0, 0, 1#32⟩ hs (by decide) (by decide) (by decide) (by decide +kernel) rfl (by decide +kernel)
    (by decide +kernel) (by decide), hbits, hstore]
  rfl

/-- Host software's mark of what it writes leaves the instant of the latest trigger. -/
theorem hostMark_keepsTrigger (s : State) (core : Bool) (o : Nat) (m : Word) :
    ∃ c, c.trigAt = s.cyc.trigAt ∧ s.hostMark core o m = { s with cyc := c } := by
  unfold State.hostMark
  split
  · exact ⟨s.cyc, rfl, rfl⟩
  · exact ⟨(s.markWrote o m).cyc, rfl, rfl⟩

/-- HOLD takes what is written, but stays 1 where a trigger came in the same cycle; drive and level follow (R571). -/
theorem writeHold_spec (s : State) (b : Bool) :
    (s.writeHold b).on fFLT_PIN_HOLD = (b || decide (s.cyc.trigAt = s.now + 1)) ∧
    (s.writeHold b).on fFLT_PIN_DRIVE = (s.on fFLT_PIN_PULSE || (s.writeHold b).on fFLT_PIN_HOLD) ∧
    (s.writeHold b).on fFLT_PIN_LEVEL = (if s.on fFLT_PIN_DRIVE = (s.writeHold b).on fFLT_PIN_DRIVE then s.on fFLT_PIN_LEVEL
      else !(s.writeHold b).on fFLT_PIN_DRIVE && !s.pins.extLow) ∧
    (s.writeHold b).on fFLT_PIN_PULSE = s.on fFLT_PIN_PULSE ∧ OnlyRegs s (s.writeHold b) [FLT_PIN] := by
  unfold State.writeHold
  generalize (b || decide (s.cyc.trigAt = s.now + 1)) = hold
  have hhold : (s.putB fFLT_PIN_HOLD hold).on fFLT_PIN_HOLD = hold := on_putB_same _ _ _ (by decide) rfl
  have hpulse : (s.putB fFLT_PIN_HOLD hold).on fFLT_PIN_PULSE = s.on fFLT_PIN_PULSE := by simp (disch := decide) only [on_putB_apart]
  refine ⟨?_, ?_, level_driveFault_putB s hold (.inr rfl), ?_, onlyRegs_driveFault_putB s hold rfl⟩
  · rw [hold_driveFault, hhold]
  · rw [drive_driveFault, hold_driveFault, hpulse]
  · rw [pulse_driveFault, hpulse]

/-- A command that is a write of FLT_PIN, `b` being its bit 0 (R571). -/
theorem writeHold_runs {c : Instr} {v : Word} {b : Bool} (hs : Served p FLT_PIN s) (hexec : exec c s = s.portWrite p FLT_PIN v)
    (hb : decide (bitsAt v 0 1 = 1) = b) :
    Runs c s fun t => t.on fFLT_PIN_HOLD = (b || decide (s.cyc.trigAt = s.now + 1)) ∧
      t.on fFLT_PIN_DRIVE = (s.on fFLT_PIN_PULSE || t.on fFLT_PIN_HOLD) ∧
      t.on fFLT_PIN_LEVEL = (if s.on fFLT_PIN_DRIVE = t.on fFLT_PIN_DRIVE then s.on fFLT_PIN_LEVEL else !t.on fFLT_PIN_DRIVE && !s.pins.extLow) ∧
      t.on fFLT_PIN_PULSE = s.on fFLT_PIN_PULSE ∧ OnlyRegs { s with bus := { slverr := false, data := 0 } } t [FLT_PIN] := by
  obtain ⟨c', htrig, hmark⟩ := hostMark_keepsTrigger s (p = .core) FLT_PIN 1#32
  obtain ⟨hhold, hdrive, hlevel, hpulse, ⟨r, c'', hr⟩, hregs⟩ := writeHold_spec ({ s with cyc := c' } : State) b
  rw [portWrite_fltPin v hs, hmark, hb] at hexec
  dsimp only at hhold hlevel
  rw [htrig] at hhold
  exact ⟨_, hexec, hhold, hdrive, hlevel, hpulse, ⟨r, c'', by rw [hr]; rfl⟩, hregs⟩

/-! ### A level read for 2 cycles -/

/-- The state in which a level read for 2 cycles shows in LEVEL; while the block does not drive the pin it is what others make of it. -/
def State.sampled (s : State) (level : Bool) : State :=
  { s.putB fFLT_PIN_LEVEL level with pins := { s.pins with extLow := if s.on fFLT_PIN_DRIVE then s.pins.extLow else !level } }

theorem exec_faultNMismatch (level : Bool) (s : State) : exec (.faultNMismatch level) s = .next
    (if level = s.on fFLT_PIN_DRIVE && s.on fFLT_PIN_LEVEL ≠ level then
      (s.sampled level).raise (if s.on fFLT_PIN_DRIVE then evFLT_DRIVE else evFLT_EXT_LOW) 0xFFFF else s.sampled level) := by
  rw [apply_ite (fun e => (s.sampled level).raise e 0xFFFF)]
  rfl

theorem level_sampled (s : State) (level : Bool) : (s.sampled level).on fFLT_PIN_LEVEL = level := by
  change (s.putB fFLT_PIN_LEVEL level).on fFLT_PIN_LEVEL = level
  exact on_putB_same _ _ _ (by decide) rfl

theorem drive_sampled (s : State) (level : Bool) : (s.sampled level).on fFLT_PIN_DRIVE = s.on fFLT_PIN_DRIVE := by
  change (s.putB fFLT_PIN_LEVEL level).on fFLT_PIN_DRIVE = s.on fFLT_PIN_DRIVE
  simp (disch := decide) only [on_putB_apart]

theorem onlyEvents_sampled (s : State) (level : Bool) : OnlyEvents s (s.sampled level) (eventRegs 18) :=
  ⟨⟨_, s.book, s.trv, _, s.cyc, rfl⟩, (SameRegs.putB (f := fFLT_PIN_LEVEL) (SameRegs.refl s (eventRegs 18)) level (by decide)).ofRegs rfl⟩

/-- An event of the FLT_ block is no trigger; only an uncorrectable read met in its recording may be one (R568). -/
theorem raiseD_fault {e : Ev} (h : e.block = 18) (s : State) (idx data : Nat) :
    s.raiseD e idx data = (State.afterRecord (s.note e idx data)).rmwPin (s.note e idx data).2 := by
  rw [raiseD_eq, pinPart_of_not_triggers false fun ht => ht.1 h]

/-- An event of the FLT_ block leaves the level of a pin that reads high only while driven, and what others make of the pin. -/
theorem level_raise_fault {e : Ev} (h : e.block = 18) (i : Nat) (hs : s.on fFLT_PIN_LEVEL = true → s.on fFLT_PIN_DRIVE = true) :
    (s.raise e i).on fFLT_PIN_LEVEL = s.on fFLT_PIN_LEVEL ∧ (s.raise e i).pins.extLow = s.pins.extLow := by
  unfold State.raise
  generalize s.evData e.block i = data
  rw [raiseD_fault h]
  have hrecorded : (State.afterRecord (s.note e i data)).reg FLT_PIN = s.reg FLT_PIN := reg_recorded (by decide) s e i data
  have hlevel := on_of_reg fFLT_PIN_LEVEL hrecorded
  have hlow : (State.afterRecord (s.note e i data)).pins.extLow = s.pins.extLow := by rw [pins_afterRecord, pins_note]
  obtain hsame | ⟨x, hx⟩ := rmwPin_eq (State.afterRecord (s.note e i data)) (s.note e i data).2
  · rw [hsame]
    exact ⟨hlevel, hlow⟩
  · rw [hx, extLow_pinPart, level_pinPart]
    · exact ⟨hlevel, hlow⟩
    · rw [hlevel, on_of_reg fFLT_PIN_DRIVE hrecorded]
      exact hs

/-- A level that begins to stand against the drive is an event, and shows in LEVEL (R573). -/
theorem faultNMismatch_runs {level : Bool} (hdrive : level = s.on fFLT_PIN_DRIVE) (hlevel : s.on fFLT_PIN_LEVEL ≠ level) :
    Runs (.faultNMismatch level) s fun t => t.on fFLT_PIN_LEVEL = level ∧
      t.stat (if level then evFLT_DRIVE else evFLT_EXT_LOW) = true ∧ (s.on fFLT_PIN_DRIVE = false → t.pins.extLow = true) ∧
      OnlyEvents s t (eventRegs 18) := by
  generalize he : (if level then evFLT_DRIVE else evFLT_EXT_LOW) = e
  have hev : e.block = 18 ∧ e.bit < 32 := by subst he; cases level <;> decide
  have hexec : exec (.faultNMismatch level) s = .next ((s.sampled level).raise e 0xFFFF) := by
    rw [exec_faultNMismatch, if_pos (by simpa using ⟨hdrive, hlevel⟩), ← hdrive, he]
  have hshown := level_raise_fault (s := s.sampled level) hev.1 0xFFFF fun h => by rw [drive_sampled, ← hdrive, ← level_sampled s level, h]
  refine ⟨_, hexec, hshown.1.trans (level_sampled s level), stat_raise_same _ e _ hev.2, fun hoff => hshown.2.trans ?_, ?_⟩
  · change (if s.on fFLT_PIN_DRIVE then s.pins.extLow else !level) = true
    simp [hdrive, hoff]
  · have hraise := onlyEvents_raise (s.sampled level) e 0xFFFF
    rw [hev.1] at hraise
    obtain ⟨hparts, hregs⟩ := (onlyEvents_sampled s level).trans hraise
    exact ⟨hparts, fun o ho => hregs o (by simpa using ho)⟩

/-! ### The field books cleared -/

theorem reg_resetReg (s : State) (off o : Nat) : (s.resetReg off).reg o = if o = off then resetVal off else s.reg o :=
  tblGet_erase resetVal off o s.regs

/-- Registers reset in turn: nothing but registers changes, and those listed hold their reset values. -/
theorem forEach_resetReg (f : Nat → Nat) (l : List Nat) (s : State) :
    (∃ r, forEach l (fun n u => u.resetReg (f n)) s = { s with regs := r }) ∧
    ∀ o, (forEach l (fun n u => u.resetReg (f n)) s).reg o = if o ∈ l.map f then resetVal o else s.reg o := by
  induction l generalizing s with
  | nil => exact ⟨⟨s.regs, rfl⟩, fun o => by simp [forEach]⟩
  | cons k l ih =>
    obtain ⟨⟨r, hr⟩, hregs⟩ := ih (s.resetReg (f k))
    refine ⟨⟨r, hr⟩, fun o => (hregs o).trans ?_⟩
    rw [reg_resetReg]
    by_cases hk : o = f k <;> by_cases hl : o ∈ l.map f <;> simp [hk, hl]

/-- What clearing the field books leaves: BOOK memory empty, every XXX_BOOK and FLT_LOG at its reset value (R567). -/
theorem clearBooks_spec (s : State) : (∃ r, s.clearBooks = { s with regs := r, book := [] }) ∧
    ∀ o, s.clearBooks.reg o = if o ∈ FLT_LOG :: (upTo 22).map bookReg then resetVal o else s.reg o := by
  obtain ⟨⟨r, hr⟩, hregs⟩ := forEach_resetReg bookReg (upTo 22) { s with book := [] }
  refine ⟨⟨tblErase FLT_LOG r, by rw [State.clearBooks, hr]; rfl⟩, fun o => ?_⟩
  have hbook : ({ s with book := [] } : State).reg o = s.reg o := rfl
  rw [State.clearBooks, reg_resetReg, hregs, hbook]
  by_cases ho : o = FLT_LOG <;> simp [ho]

theorem resetVal_book : ∀ n < 22, resetVal (bookReg n) = 0 := by decide +kernel

theorem fieldBookClear_runs (hs : Served p FLT_CTL s) : Runs (.fieldBookClear p) s fun t => t.book = [] ∧
    (∀ n, n < 22 → t.reg (bookReg n) = 0) ∧ t.reg FLT_LOG = 0 ∧
    OnlyRegs { s with bus := { slverr := false, data := 0 }, book := [] } t (FLT_LOG :: (upTo 22).map bookReg) := by
  obtain ⟨c, hmark⟩ := hostMark_eq s (p = .core) FLT_CTL 1#32
  have hexec : exec (.fieldBookClear p) s = .next (({ s with cyc := c } : State).clearBooks.okay 0) :=
    (portWrite_fltCtl 1#32 (by decide) hs).trans (by rw [hmark])
  obtain ⟨⟨r, hr⟩, hregs⟩ := clearBooks_spec { s with cyc := c }
  refine ⟨_, hexec, ?_, fun n hn => ?_, ?_, ⟨r, c, ?_⟩, fun o ho => ?_⟩
  · rw [hr]
    rfl
  · rw [reg_okay, hregs, if_pos (by simpa [upTo] using .inr ⟨n, hn, rfl⟩), resetVal_book n hn]
  · rw [reg_okay, hregs, if_pos (by simp)]
    decide +kernel
  · rw [hr]
    rfl
  · rw [reg_okay, hregs, if_neg ho]
    rfl

end Sys2Proof.Machine
end

section

open Sys2Proof Sys2Proof.Machine

/-- Settles O16: each command by its effect on the drive, which the level follows. -/
theorem faultPinCommands : Obligations.FaultPinCommands := by
  unfold Obligations.FaultPinCommands
  intro p s level
  refine ⟨faultPulseEnd_runs, fun hs => ⟨?_, ?_⟩, faultNMismatch_runs, fun hnot => ?_, fieldBookClear_runs⟩
  · exact writeHold_runs (b := false) hs (v := 0#32) rfl (by decide)
  · obtain ⟨t, hexec, hhold, hdrive, hlevel, hrest⟩ := writeHold_runs (c := .holdAssert p) (b := true) hs (v := 1#32) rfl (by decide)
    rw [Bool.true_or] at hhold
    rw [hhold, Bool.or_true] at hdrive
    refine ⟨t, hexec, hhold, hdrive, hlevel.trans ?_, hrest⟩
    rw [hdrive]
    cases s.on fFLT_PIN_DRIVE <;> rfl
  · rw [exec_faultNMismatch, if_neg (by simpa [or_iff_not_imp_left] using hnot)]
    rfl

end

section
/-!
SUPPORT. The ring of a field book: where a new entry goes, what its slot holds then, and what becomes of the entry it replaces (R561).
-/

namespace Sys2Proof.Machine

variable {s : State} {n slot : Nat} {e : Entry}

/-! ### Bytes in a row -/

theorem length_leBytes (x k : Nat) : (leBytes x k).length = k := by
  induction k generalizing x with
  | zero => rfl
  | succ k ih => simp [leBytes, ih]

theorem length_entryBytes (e : Entry) (ts : Word64) : (e.bytes ts).length = 16 := by
  simp [Entry.bytes, length_leBytes]

theorem length_memBytes (m : List Host.Cell) (a k : Nat) : (memBytes m a k).length = k := by simp [memBytes, upTo]

/-- Bytes that lie outside a range are not changed by a write of the range. -/
theorem memBytes_putBytes_out (m : List Host.Cell) (a b k : Nat) (bs : List Byte) (h : b + k ≤ a ∨ a + bs.length ≤ b) :
    memBytes (memPutBytes m a bs) b k = memBytes m b k := by
  refine List.map_congr_left fun i hi => memByte_putBytes_out m a (b + i) bs ?_
  have hi : i < k := List.mem_range.mp hi
  omega

/-- Bytes that were written read back. -/
theorem memBytes_putBytes_same (m : List Host.Cell) (a : Nat) (bs : List Byte) : memBytes (memPutBytes m a bs) a bs.length = bs := by
  induction bs generalizing m a with
  | nil => rfl
  | cons b bs ih =>
    have hhead : memByte (memPutBytes (memPut m a b) (a + 1) bs) a = b := by
      rw [memByte_putBytes_out _ _ _ _ (.inl (Nat.lt_succ_self a)), memByte_put, if_pos rfl]
    have htail : memBytes (memPutBytes (memPut m a b) (a + 1) bs) a (bs.length + 1) =
        memByte (memPutBytes (memPut m a b) (a + 1) bs) a :: memBytes (memPutBytes (memPut m a b) (a + 1) bs) (a + 1) bs.length := by
      simp only [memBytes, upTo, List.range_succ_eq_map, List.map_cons, List.map_map, Nat.add_zero]
      congr 1
      exact List.map_congr_left fun i _ => by rw [Function.comp, Nat.succ_eq_one_add, Nat.add_assoc]
    exact htail.trans (by rw [hhead, ih])

/-! ### The fields of XXX_BOOK and FLT_LOG -/

theorem bookReg_ne_log (n : Nat) : bookReg n ≠ FLT_LOG := by
  have hbase := blockBase_mod n
  unfold bookReg FLT_LOG
  omega

/-! ### The entry that a new one replaces -/

/-- Where the eviction log goes on. -/
def State.logAddr (s : State) : Nat := 0x2000 + 16 * s.get fFLT_LOG_NEXT

theorem book_evict (hlog : s.memBad 4 s.logAddr 16 = false) :
    (s.evict n slot).book = memPutBytes s.book s.logAddr (memBytes s.book (bookSlot n slot) 16) := by
  unfold State.evict State.logAddr at *
  dsimp only
  rw [hlog, State.put_book]
  split <;> rfl

theorem next_evict (s : State) (n slot : Nat) : (s.evict n slot).get fFLT_LOG_NEXT = (s.get fFLT_LOG_NEXT + 1) % 7680 := by
  unfold State.evict
  dsimp only
  rw [get_put _ _ _ (by decide)]
  exact Nat.mod_eq_of_lt ((Nat.mod_lt _ (by decide)).trans (by decide))

/-- A slot lies in the ring of its block, below the eviction log. -/
theorem bookSlot_below_log (hn : n < 22) {k : Nat} (hk : k < 8) (s : State) : bookSlot n k + 16 ≤ s.logAddr := by
  unfold bookSlot State.logAddr
  omega

/-! ### A new entry -/

/-- The state in which a slot is free for a new entry: where the ring is full, its old entry has gone to the eviction log. -/
def State.freed (s : State) (n slot : Nat) : State := if s.get (fBOOK_FILL n) = 8 then s.evict n slot else s

/-- The state in which a new entry stands in a slot, which is HEAD. -/
def State.entered (s : State) (n slot : Nat) (e : Entry) : State :=
  ((({ s.freed n slot with book := memPutBytes (s.freed n slot).book (bookSlot n slot) (e.bytes s.ts) } : State).put (fBOOK_HEAD n) slot).put
    (fBOOK_FILL n) (min 8 (s.get (fBOOK_FILL n) + 1))).addSat (fBOOK_COUNT n) 1

/-- The slot to which a new entry goes (R561). -/
def State.newSlot (s : State) (n : Nat) : Nat :=
  if s.get (fBOOK_FILL n) = 0 then s.get (fBOOK_HEAD n) else (s.get (fBOOK_HEAD n) + 1) % 8

theorem newSlot_lt (s : State) (n : Nat) : s.newSlot n < 8 := by
  have hhead : s.get (fBOOK_HEAD n) < 2 ^ 3 := Nat.mod_lt _ (by simp)
  unfold State.newSlot
  split <;> omega

/-- The newest entry of a block is of the same event, to which a repeated event is merged (R559). -/
def State.newestIs (s : State) (n : Nat) (e : Entry) : Prop :=
  (memByte s.book (bookSlot n (s.get (fBOOK_HEAD n)) + 8)).toNat % 32 = e.bit ∧
    memLE s.book (bookSlot n (s.get (fBOOK_HEAD n)) + 10) 2 = e.idx

theorem record_new {was : Bool} (huse : s.memUsable 4 = true) (hnew : was = true → 0 < s.get (fBOOK_FILL n) → ¬s.newestIs n e)
    (hslot : s.memBad 4 (bookSlot n (s.newSlot n)) 16 = false) : (s.record n was e).1 = s.entered n (s.newSlot n) e := by
  unfold State.newSlot at hslot
  unfold State.record
  dsimp only
  rw [if_neg (by simp [huse]), if_neg, if_neg (by simp [hslot])]
  · rfl
  · simp only [Bool.and_eq_true, decide_eq_true_eq]
    exact fun ⟨⟨⟨hwas, hfill⟩, hbit⟩, hidx⟩ => hnew hwas hfill ⟨hbit, hidx⟩

theorem head_entered (h : slot < 8) : (s.entered n slot e).get (fBOOK_HEAD n) = slot := by
  unfold State.entered
  rw [get_addSat_apart _ (fBOOK_COUNT n) (fBOOK_HEAD n) _ rfl (by simp [fBOOK_HEAD, fBOOK_COUNT]),
    get_put_apart _ (fBOOK_FILL n) (fBOOK_HEAD n) _ rfl (by simp [fBOOK_HEAD, fBOOK_FILL]), get_put _ _ _ (by simp [fBOOK_HEAD])]
  exact Nat.mod_eq_of_lt h

theorem fill_entered : (s.entered n slot e).get (fBOOK_FILL n) = min 8 (s.get (fBOOK_FILL n) + 1) := by
  unfold State.entered
  rw [get_addSat_apart _ (fBOOK_COUNT n) (fBOOK_FILL n) _ rfl (by simp [fBOOK_FILL, fBOOK_COUNT]), get_put _ _ _ (by simp [fBOOK_FILL])]
  exact Nat.mod_eq_of_lt ((Nat.min_le_left 8 _).trans_lt (show 8 < 2 ^ 4 by decide))

theorem book_entered : (s.entered n slot e).book = memPutBytes (s.freed n slot).book (bookSlot n slot) (e.bytes s.ts) := rfl

theorem next_entered : (s.entered n slot e).get fFLT_LOG_NEXT = (s.freed n slot).get fFLT_LOG_NEXT := by
  have hne : fFLT_LOG_NEXT.off ≠ bookReg n := (bookReg_ne_log n).symm
  unfold State.entered
  rw [get_addSat_reg _ _ _ _ hne, get_put_reg _ _ _ _ hne, get_put_reg _ _ _ _ hne]
  rfl

/-- Freeing a slot leaves the ring of every block as it is. -/
theorem ring_freed (hn : n < 22) (hlog : s.memBad 4 s.logAddr 16 = false) {k : Nat} (hk : k < 8) :
    memBytes (s.freed n slot).book (bookSlot n k) 16 = memBytes s.book (bookSlot n k) 16 := by
  unfold State.freed
  split
  · rw [book_evict hlog]
    exact memBytes_putBytes_out _ _ _ _ _ (.inl (bookSlot_below_log hn hk s))
  · rfl

/-- The slot of a new entry holds its bytes. -/
theorem slot_entered : memBytes (s.entered n slot e).book (bookSlot n slot) 16 = e.bytes s.ts := by
  rw [book_entered]
  simpa only [length_entryBytes] using memBytes_putBytes_same (s.freed n slot).book (bookSlot n slot) (e.bytes s.ts)

/-- Bytes outside the slot of a new entry are those that stood there once the slot was free. -/
theorem memBytes_entered_out {a : Nat} (h : a + 16 ≤ bookSlot n slot ∨ bookSlot n slot + 16 ≤ a) :
    memBytes (s.entered n slot e).book a 16 = memBytes (s.freed n slot).book a 16 := by
  rw [book_entered]
  exact memBytes_putBytes_out _ _ _ _ _ (by rwa [length_entryBytes])

/-- Where the ring is full, the old entry of the slot stands at the next place of the eviction log. -/
theorem evicted_entered (hn : n < 22) (hslot : slot < 8) (hlog : s.memBad 4 s.logAddr 16 = false) (hfull : s.get (fBOOK_FILL n) = 8) :
    memBytes (s.entered n slot e).book s.logAddr 16 = memBytes s.book (bookSlot n slot) 16 ∧
    (s.entered n slot e).get fFLT_LOG_NEXT = (s.get fFLT_LOG_NEXT + 1) % 7680 := by
  rw [memBytes_entered_out (.inr (bookSlot_below_log hn hslot s)), next_entered, State.freed, if_pos hfull, book_evict hlog]
  have hback := memBytes_putBytes_same s.book s.logAddr (memBytes s.book (bookSlot n slot) 16)
  rw [length_memBytes] at hback
  exact ⟨hback, next_evict s n slot⟩

theorem other_entered (hn : n < 22) (hlog : s.memBad 4 s.logAddr 16 = false) {k : Nat} (hk : k < 8) (hne : k ≠ slot) :
    memBytes (s.entered n slot e).book (bookSlot n k) 16 = memBytes s.book (bookSlot n k) 16 := by
  rw [memBytes_entered_out, ring_freed hn hlog hk]
  unfold bookSlot
  omega

end Sys2Proof.Machine
end

section

open Sys2Proof Sys2Proof.Machine

/-- Settles O15: the eviction log lies above every ring, so a full ring's old entry is copied before the slot is written, and neither write
touches another slot. -/
theorem fieldBookRing : Obligations.FieldBookRing := by
  unfold Obligations.FieldBookRing
  intro s n was e slot hn huse hslot hnew hgood hlog
  obtain rfl : slot = s.newSlot n := hslot
  have hlt := newSlot_lt s n
  rw [record_new huse hnew hgood]
  exact ⟨head_entered hlt, fill_entered, slot_entered, evicted_entered hn hlt hlog, fun k hk hne => other_entered hn hlog hk hne⟩

end

section
/-!
The canonical form under the operations of the state (R603, R615, R635): one rule for a change that leaves the tables and memories, one
for each of them replaced, and one for each way in which a definition chooses among states or runs over a list. The rule of an operation
is named after it, so that `h.put.raise` is the canonical form of `(s.put f n).raise e i`.
-/

namespace Sys2Proof.Machine

variable {s t : State}

/-! ### The parts of the canonical form -/

/-- What leaves the tables and memories leaves their canonical form. -/
theorem State.wf.data {pending : List Instr} {now : Nat} {por : Bool} {ts : Word64} {mem : MemHid} {bus : BusResp} {core : CoreHid}
    {boot : BootHid} {clk : ClkHid} {pins : PinHid} {trv : TrvHid} {loops : LoopHid} {cg : CgHid} {env : EnvHid} {cap : CapHid} {so : SoHid}
    {pst : PstHid} {ib : IbHid} {adc : AdcHid} {thm : ThmHid} {nrg : NrgHid} {pmb : PmbHid} {cyc : CycHid} (h : s.wf) :
    ({ s with
        pending := pending, now := now, por := por, ts := ts, mem := mem, bus := bus, core := core, boot := boot, clk := clk
        pins := pins, trv := trv, loops := loops, cg := cg, env := env, cap := cap, so := so, pst := pst, ib := ib, adc := adc
        thm := thm, nrg := nrg, pmb := pmb, cyc := cyc } : State).wf := h

theorem State.wf.regs (h : s.wf) : tblWf resetVal 0 s.regs = true := by
  obtain ⟨hregs, -⟩ := h
  exact hregs

theorem State.wf.coef (h : s.wf) : memWf s.coef = true := by
  obtain ⟨-, ⟨-, -, hcoef, -⟩, -⟩ := h
  exact hcoef

theorem State.wf.plan (h : s.wf) : memWf s.plan = true := by
  obtain ⟨-, ⟨-, -, -, hplan, -⟩, -⟩ := h
  exact hplan

theorem State.wf.book (h : s.wf) : memWf s.book = true := by
  obtain ⟨-, ⟨-, -, -, -, hbook, -⟩, -⟩ := h
  exact hbook

theorem State.wf.tele (h : s.wf) : memWf s.tele = true := by
  obtain ⟨-, ⟨-, -, -, -, -, htele⟩, -⟩ := h
  exact htele

/-! ### A table or a memory replaced -/

theorem State.wf.withRegs {r : Tbl Word} (h : s.wf) (hr : tblWf resetVal 0 r = true) : ({ s with regs := r } : State).wf := by
  obtain ⟨-, hrest⟩ := h
  exact ⟨hr, hrest⟩

theorem State.wf.withChans {c : Tbl ChanHid} (h : s.wf) (hc : tblWf (fun _ => {}) 0 c = true) : ({ s with chans := c } : State).wf := by
  obtain ⟨hregs, hmems, -, hrest⟩ := h
  exact ⟨hregs, hmems, hc, hrest⟩

theorem State.wf.setMemory {k : Nat} {m : List Host.Cell} (h : s.wf) (hm : memWf m = true) : (s.setMemory k m).wf := by
  obtain ⟨hregs, ⟨hfw, hdat, hcoef, hplan, hbook, htele⟩, hrest⟩ := h
  unfold State.setMemory
  split
  · exact ⟨hregs, ⟨hm, hdat, hcoef, hplan, hbook, htele⟩, hrest⟩
  · exact ⟨hregs, ⟨hfw, hm, hcoef, hplan, hbook, htele⟩, hrest⟩
  · exact ⟨hregs, ⟨hfw, hdat, hm, hplan, hbook, htele⟩, hrest⟩
  · exact ⟨hregs, ⟨hfw, hdat, hcoef, hm, hbook, htele⟩, hrest⟩
  · exact ⟨hregs, ⟨hfw, hdat, hcoef, hplan, hm, htele⟩, hrest⟩
  · exact ⟨hregs, ⟨hfw, hdat, hcoef, hplan, hbook, hm⟩, hrest⟩

theorem State.wf.withCoef {m : List Host.Cell} (h : s.wf) (hm : memWf m = true) : ({ s with coef := m } : State).wf := h.setMemory (k := 2) hm
theorem State.wf.withPlan {m : List Host.Cell} (h : s.wf) (hm : memWf m = true) : ({ s with plan := m } : State).wf := h.setMemory (k := 3) hm
theorem State.wf.withBook {m : List Host.Cell} (h : s.wf) (hm : memWf m = true) : ({ s with book := m } : State).wf := h.setMemory (k := 4) hm
theorem State.wf.withTele {m : List Host.Cell} (h : s.wf) (hm : memWf m = true) : ({ s with tele := m } : State).wf := h.setMemory (k := 5) hm

theorem memWf_memory (h : s.wf) (k : Nat) : memWf (s.memory k) = true := by
  obtain ⟨-, ⟨hfw, hdat, hcoef, hplan, hbook, htele⟩, -⟩ := h
  unfold State.memory
  split <;> assumption

/-- Entries mapped, with those dropped that have become what an unlisted key reads as: the keys still rise. -/
theorem tblWf_map_filter {α : Type} [DecidableEq α] (d : α) (f : α → α) (l : Tbl α) (lo : Nat) (h : tblWf (fun _ => d) lo l = true) :
    tblWf (fun _ => d) lo ((l.map fun p => (p.1, f p.2)).filter fun p => p.2 ≠ d) = true := by
  induction l generalizing lo with
  | nil => rfl
  | cons p l ih =>
    obtain ⟨k, v⟩ := p
    simp only [tblWf, Bool.and_eq_true, decide_eq_true_eq] at h
    obtain ⟨⟨hlo, -⟩, hrest⟩ := h
    by_cases hv : f v = d
    · simpa [hv] using tblWf_mono _ _ lo (k + 1) (by omega) (ih _ hrest)
    · simpa [hv, tblWf, hlo] using ih _ hrest

/-! ### Choices and runs over lists -/

theorem State.wf.ite {c : Prop} {_ : Decidable c} (h : s.wf) (k : t.wf) : (if c then s else t).wf := by
  split
  · exact h
  · exact k

theorem State.wf.fst_ite {β : Type} {p q : State × β} {c : Prop} {_ : Decidable c} (h : p.1.wf) (k : q.1.wf) : (if c then p else q).1.wf := by
  split
  · exact h
  · exact k

theorem State.wf.of_fst {β : Type} {p : State × β} {x : β} (h : p.1.wf) (e : p = (s, x)) : s.wf := by
  rw [e] at h
  exact h

theorem State.wf.foldl {α : Type} {f : State → α → State} {l : List α} (h : s.wf) (hf : ∀ u a, u.wf → (f u a).wf) : (l.foldl f s).wf := by
  induction l generalizing s with
  | nil => exact h
  | cons a l ih => exact ih (hf _ _ h)

theorem State.wf.foldl_fst {α β : Type} {f : State × β → α → State × β} {p : State × β} {l : List α} (h : p.1.wf)
    (hf : ∀ q a, q.1.wf → (f q a).1.wf) : (l.foldl f p).1.wf := by
  induction l generalizing p with
  | nil => exact h
  | cons a l ih => exact ih (hf _ _ h)

theorem State.wf.forEach {f : Nat → State → State} {l : List Nat} (h : s.wf) (hf : ∀ k u, u.wf → (f k u).wf) : (Machine.forEach l f s).wf :=
  h.foldl fun u k hu => hf k u hu

/-- An outcome whose next state, if it has one, is in canonical form. -/
def Canonical (o : Host.Outcome State Fault Refusal) : Prop := ∀ u, o = .next u → u.wf

theorem Canonical.next (h : s.wf) : Canonical (.next s) := by
  rintro u ⟨⟩
  exact h

theorem Canonical.ite {c : Prop} {_ : Decidable c} {o p : Host.Outcome State Fault Refusal} (h : Canonical o) (k : Canonical p) :
    Canonical (if c then o else p) := by
  split
  · exact h
  · exact k

end Sys2Proof.Machine
end

section
/-!
The canonical form under the operations that every part of the block uses: registers, units, memories, lanes and events.
-/

namespace Sys2Proof.Machine

variable {s : State}

/-! ### Registers, units and memories -/

theorem State.wf.setReg {off : Nat} {v : Word} (h : s.wf) : (s.setReg off v).wf := h.withRegs (tblWf_set _ _ _ _ h.regs)

theorem State.wf.put {f : Fld} {n : Nat} (h : s.wf) : (s.put f n).wf := h.setReg

theorem State.wf.putI {f : Fld} {x : Int} (h : s.wf) : (s.putI f x).wf := h.put

theorem State.wf.putB {f : Fld} {b : Bool} (h : s.wf) : (s.putB f b).wf := h.put

theorem State.wf.markSet {off : Nat} {m : Word} (h : s.wf) : (s.markSet off m).wf := .data h

theorem State.wf.markWrote {off : Nat} {m : Word} (h : s.wf) : (s.markWrote off m).wf := .data h

theorem State.wf.putHw {f : Fld} {n : Nat} (h : s.wf) : (s.putHw f n).wf := .ite h h.put

theorem State.wf.addSat {f : Fld} {n : Nat} (h : s.wf) : (s.addSat f n).wf := h.put

theorem State.wf.resetReg {off : Nat} (h : s.wf) : (s.resetReg off).wf := h.withRegs (tblWf_erase _ _ _ _ h.regs)

theorem State.wf.resetRegs {p : Nat → Bool} (h : s.wf) : (s.resetRegs p).wf := h.withRegs (tblWf_filter _ _ _ _ h.regs)

theorem State.wf.updChan {m : Nat} {f : ChanHid → ChanHid} (h : s.wf) : (s.updChan m f).wf := by
  obtain ⟨hregs, hmems, hchans, hcells, hstns, htracts, hdoms⟩ := h
  exact ⟨hregs, hmems, tblWf_set _ _ _ _ hchans, hcells, hstns, htracts, hdoms⟩

theorem State.wf.updCell {c : Nat} {f : CellHid → CellHid} (h : s.wf) : (s.updCell c f).wf := by
  obtain ⟨hregs, hmems, hchans, hcells, hstns, htracts, hdoms⟩ := h
  exact ⟨hregs, hmems, hchans, tblWf_set _ _ _ _ hcells, hstns, htracts, hdoms⟩

theorem State.wf.updStn {n : Nat} {f : StnHid → StnHid} (h : s.wf) : (s.updStn n f).wf := by
  obtain ⟨hregs, hmems, hchans, hcells, hstns, htracts, hdoms⟩ := h
  exact ⟨hregs, hmems, hchans, hcells, tblWf_set _ _ _ _ hstns, htracts, hdoms⟩

theorem State.wf.updTract {t : Nat} {f : TractHid → TractHid} (h : s.wf) : (s.updTract t f).wf := by
  obtain ⟨hregs, hmems, hchans, hcells, hstns, htracts, hdoms⟩ := h
  exact ⟨hregs, hmems, hchans, hcells, hstns, tblWf_set _ _ _ _ htracts, hdoms⟩

theorem State.wf.updDom {d : Nat} {f : DomHid → DomHid} (h : s.wf) : (s.updDom d f).wf := by
  obtain ⟨hregs, hmems, hchans, hcells, hstns, htracts, hdoms⟩ := h
  exact ⟨hregs, hmems, hchans, hcells, hstns, htracts, tblWf_set _ _ _ _ hdoms⟩

theorem State.wf.updAdc {f : AdcHid → AdcHid} (h : s.wf) : (s.updAdc f).wf := .data h

theorem State.wf.updConv {k : Nat} {f : ConvHid → ConvHid} (h : s.wf) : (s.updConv k f).wf := h.updAdc

theorem State.wf.powerUp {k ns : Nat} (h : s.wf) : (s.powerUp k ns).wf := .data h

theorem State.wf.restoreMems (h : s.wf) : s.restoreMems.wf := by
  unfold State.restoreMems
  split
  · exact h
  · exact .data (.foldl h fun _ _ hu => .ite hu.powerUp hu)

theorem State.wf.markBad {k w : Nat} (h : s.wf) : (s.markBad k w).wf := .ite h (.data h)

theorem State.wf.markWeak {k w : Nat} (h : s.wf) : (s.markWeak k w).wf := .ite h (.data h)

theorem State.wf.dropWeak {k a n : Nat} (h : s.wf) : (s.dropWeak k a n).wf := .data h

theorem State.wf.markGood {k w : Nat} (h : s.wf) : (s.markGood k w).wf := .data h

theorem State.wf.markAllGood {k : Nat} (h : s.wf) : (s.markAllGood k).wf := .data h

theorem State.wf.setAon {n : Nat} (h : s.wf) : (s.setAon n).wf := .data (.put (.data h.put))

theorem State.wf.setDuty {t from_ code : Nat} (h : s.wf) : (s.setDuty t from_ code).wf := h.put.updTract

/-! ### Lanes -/

theorem State.wf.enqueue {l : Nat} {e : TxEntry} (h : s.wf) : (s.enqueue l e).wf := by
  unfold State.enqueue
  split
  · exact h
  · exact .data h

theorem State.wf.enqueueOn {l : Nat} {w : Word64} {own : Bool} (h : s.wf) : (s.enqueueOn l w own).wf := .ite h (.data h)

theorem State.wf.transmit {lanes : Nat} {w : Word64} (h : s.wf) : (s.transmit lanes w).wf := by
  unfold State.transmit
  extract_lets +onlyGivenNames e
  split
  · exact h.enqueue.enqueue
  · exact h.enqueueOn
  · exact h.enqueueOn
  · exact h.enqueue

theorem State.wf.originate {lanes ty body : Nat} (h : s.wf) : (s.originate lanes ty body).wf := .ite (.data h) h.transmit

theorem State.wf.sendShed {code : Nat} (h : s.wf) : (s.sendShed code).wf := h.originate

theorem State.wf.releaseHeld (h : s.wf) : s.releaseHeld.wf := .foldl (.data h) fun _ _ hu => hu.transmit

theorem State.wf.drainLanes (h : s.wf) : s.drainLanes.wf := .data h

/-! ### Events -/

theorem State.wf.evict {block slot : Nat} (h : s.wf) : (s.evict block slot).wf := by
  unfold State.evict
  extract_lets +onlyGivenNames next a s1 s2
  have h1 : s1.wf := .ite h (h.withBook (memWf_putBytes _ _ _ h.book))
  exact .put (.ite h1 h1.putB)

theorem State.wf.loseEvent {book : Nat} (h : s.wf) : (s.loseEvent book).wf := h.addSat

theorem State.wf.record {book : Nat} {wasSet : Bool} {e : Entry} (h : s.wf) : (s.record book wasSet e).1.wf := by
  unfold State.record
  refine .fst_ite h.loseEvent (.fst_ite (.fst_ite h.loseEvent (h.withBook (memWf_put _ _ _ h.book))) (.fst_ite h.loseEvent ?_))
  extract_lets +onlyGivenNames s1 s2 s3
  have h1 : s1.wf := .ite h.evict h
  exact .addSat (.put (.put (h1.withBook (memWf_putBytes _ _ _ h1.book))))

theorem State.wf.clearBooks (h : s.wf) : s.clearBooks.wf := .resetReg (.forEach (h.withBook rfl) fun _ _ hu => hu.resetReg)

theorem State.wf.driveFault (h : s.wf) : s.driveFault.wf := h.putB.putB

theorem State.wf.triggerPin {remote : Bool} {e : Entry} (h : s.wf) : (s.triggerPin remote e).wf :=
  .addSat (.setReg (.driveFault (.putB (.putB (.data h)))))

theorem State.wf.broadcastFault {e : Ev} {sev : Nat} (h : s.wf) : (s.broadcastFault e sev).wf := .ite (.data h.originate) h

theorem State.wf.setStat {e : Ev} (h : s.wf) : (s.setStat e).wf := h.setReg.markSet

theorem State.wf.note {e : Ev} {idx data : Nat} (h : s.wf) : (s.note e idx data).1.wf := by
  unfold State.note
  extract_lets +onlyGivenNames was sev s1 s2
  have h1 : s1.wf := h.setStat
  exact .record (.ite h1 h1.broadcastFault)

theorem State.wf.afterRecord {p : State × Recorded} (h : p.1.wf) : (State.afterRecord p).wf := by
  unfold State.afterRecord
  split
  · exact h
  · exact h.note
  · exact h.note.addSat.note

theorem State.wf.pinPart {remote : Bool} {e : Entry} (h : s.wf) : (s.pinPart remote e).wf := .ite h.triggerPin.note.afterRecord h

theorem State.wf.rmwPin {x0 : Recorded} (h : s.wf) : (s.rmwPin x0).wf := by
  unfold State.rmwPin
  split
  · exact h.pinPart
  · exact h

theorem State.wf.raiseD {e : Ev} {idx data : Nat} (h : s.wf) : (s.raiseD e idx data).wf := h.note.afterRecord.pinPart.rmwPin

theorem State.wf.ownRead {k a n : Nat} (h : s.wf) : (s.ownRead k a n).wf := .ite h.addSat.raiseD h

theorem State.wf.corrects {k a n : Nat} (h : s.wf) : (s.corrects k a n).wf := .foldl h fun _ _ hu => hu.dropWeak.addSat.raiseD

theorem State.wf.raise {e : Ev} {idx : Nat} (h : s.wf) : (s.raise e idx).wf := h.raiseD

theorem State.wf.raiseIf {c : Bool} {e : Ev} {idx : Nat} (h : s.wf) : (s.raiseIf c e idx).wf := .ite h.raise h

theorem State.wf.raiseRemote {e : Entry} (h : s.wf) : (s.raiseRemote e).wf := by
  unfold State.raiseRemote
  extract_lets +onlyGivenNames was s1 s2 p s3 own s4 s5
  have h1 : s1.wf := h.setStat
  have h4 : s4.wf := .pinPart (.afterRecord (.record (.ite h1 h1.broadcastFault)))
  exact .rmwPin (.ite h4.triggerPin.note.afterRecord h4)

end Sys2Proof.Machine
end

section
/-!
The canonical form under the drive of the cells, the targets of the intermediate bus and what a rail does as a whole.
-/

namespace Sys2Proof.Machine

variable {s : State}

/-! ### Phases of the intermediate bus -/

theorem State.wf.setP {p m : Nat} (h : s.wf) : (s.setP p m).wf := h.put

theorem State.wf.updPhase {p : Nat} {f : PhaseHid → PhaseHid} (h : s.wf) : (s.updPhase p f).wf := .data h

theorem State.wf.updIb {f : IbHid → IbHid} (h : s.wf) : (s.updIb f).wf := .data h

theorem State.wf.hysModes (h : s.wf) : s.hysModes.wf := .forEach h fun _ _ hu => .ite hu (.ite hu.setP (.ite hu hu.setP))

theorem State.wf.setIbMode {m : Nat} (h : s.wf) : (s.setIbMode m).wf := h.put.putB.updIb

theorem State.wf.deliver {p code : Nat} (h : s.wf) : (s.deliver p code).wf := h.updPhase

theorem State.wf.ibHysteretic (h : s.wf) : s.ibHysteretic.wf := h.setIbMode.hysModes

/-! ### The target of the intermediate bus -/

theorem State.wf.setRef {uv : Nat} (h : s.wf) : (s.setRef uv).wf := h.updIb.put

theorem State.wf.moveRef (h : s.wf) : s.moveRef.wf := by
  refine .ite h.updIb ?_
  extract_lets +onlyGivenNames g r s1
  have h1 : s1.wf := h.setRef
  exact .ite h1.updIb h1

theorem State.wf.ibRamp (h : s.wf) : s.ibRamp.wf := h.moveRef.updIb

theorem State.wf.setIbTarget {code : Nat} (h : s.wf) : (s.setIbTarget code).wf := .raiseIf (.updIb (.put (.ite h h.moveRef)))

theorem State.wf.applyVsel {v : Nat} (h : s.wf) : (s.applyVsel v).wf := by
  unfold State.applyVsel
  extract_lets +onlyGivenNames s1
  have h1 : s1.wf := h.updIb
  exact .ite h1.setIbTarget h1

theorem State.wf.changeVsel {v : Nat} (h : s.wf) : (s.changeVsel v).wf := by
  unfold State.changeVsel
  extract_lets +onlyGivenNames s1
  have h1 : s1.wf := h.applyVsel.putB
  exact .ite h1 h1.updIb

theorem State.wf.offerVsel (h : s.wf) : s.offerVsel.wf := .ite h (.ite h.changeVsel h.putB)

theorem State.wf.refreshIb (h : s.wf) : s.refreshIb.wf := .ite h (.ite h.setIbTarget h.applyVsel)

theorem State.wf.chooseSource {old : Nat} (h : s.wf) : (s.chooseSource old).wf := h.updIb.refreshIb

/-! ### Rails -/

theorem State.wf.setMode {c m : Nat} (h : s.wf) : (s.setMode c m).wf := .ite h h.put

theorem State.wf.setDom {d st : Nat} {ph : DomPhase} (h : s.wf) : (s.setDom d st ph).wf := h.put.updDom

theorem State.wf.setShares {t : Nat} {i : Int} (h : s.wf) : (s.setShares t i).wf := .foldl h fun _ _ hu => hu.putI.put.updCell

theorem State.wf.reshare {t : Nat} (h : s.wf) : (s.reshare t).wf := h.setShares

theorem State.wf.cellsOff {d : Nat} (h : s.wf) : (s.cellsOff d).wf := .foldl h fun _ _ hu => .putB (.ite hu hu.setMode)

theorem State.wf.idleLoop {t : Nat} (h : s.wf) : (s.idleLoop t).wf := .ite h (.updTract (.put (.ite h.putB h)))

theorem State.wf.idleLoops {d : Nat} (h : s.wf) : (s.idleLoops d).wf := .foldl h fun _ _ hu => hu.idleLoop

theorem State.wf.recadence {iv c : Nat} (h : s.wf) : (s.recadence iv c).wf := h.updCell

theorem State.wf.aim {iv code c : Nat} (h : s.wf) : (s.aim iv code c).wf := .put (.ite h.recadence h)

theorem State.wf.retarget {d : Nat} (h : s.wf) : (s.retarget d).wf := .ite (.foldl h fun _ _ hu => hu.aim) h

theorem State.wf.relift {d idx data : Nat} (h : s.wf) : (s.relift d idx data).wf := by
  unfold State.relift
  extract_lets +onlyGivenNames l sum lim clip s1 s2
  have h1 : s1.wf := h.put.put
  have h2 : s2.wf := .ite h1.raiseD h1
  exact .retarget (.ite h2 h2.updDom)

theorem State.wf.setPulse {t : Nat} {v : Bool} (h : s.wf) : (s.setPulse t v).wf := h.updTract

theorem State.wf.judgePulse {t : Nat} (h : s.wf) : (s.judgePulse t).wf := h.setPulse

theorem State.wf.adcStart (h : s.wf) : s.adcStart.wf := h.updAdc

theorem State.wf.adcStop (h : s.wf) : s.adcStop.wf := h.putB.putB.put.updConv.put.updConv.updAdc

theorem State.wf.envelopeRestart (h : s.wf) : s.envelopeRestart.wf := .data h

theorem State.wf.enterRun (h : s.wf) : s.enterRun.wf := h.setAon.envelopeRestart.offerVsel

theorem State.wf.checkRun (h : s.wf) : s.checkRun.wf := .ite (.data h.enterRun) h

theorem State.wf.stopClocks (h : s.wf) : s.stopClocks.wf := by
  unfold State.stopClocks
  extract_lets +onlyGivenNames hyst s0 s1 s2 _
  have h1 : s1.wf := .foldl h.originate fun _ _ hu => .ite (.foldl hu fun _ _ hu' => .idleLoop (.judgePulse (.setPulse (.foldl hu' fun _ _ hu'' =>
    .ite hu'' hu''.setMode)))) hu
  exact .data (.adcStop (.ite h1.ibHysteretic h1))

theorem State.wf.checkEntry (h : s.wf) : s.checkEntry.wf := .ite (.ite (.data h) h.stopClocks) h

theorem State.wf.domMoved {d : Nat} (h : s.wf) : (s.domMoved d).wf := h.relift.checkRun.checkEntry

theorem State.wf.dropDomain {d : Nat} (h : s.wf) : (s.dropDomain d).wf := h.cellsOff.idleLoops.setDom.updDom.domMoved

theorem State.wf.reseat {t : Nat} (h : s.wf) : (s.reseat t).wf := by
  refine .ite h ?_
  split
  · exact h
  · exact h.setMode

theorem State.wf.afterCellLoss {c : Nat} (h : s.wf) : (s.afterCellLoss c).wf :=
  .ite h (.ite (.reshare (.reseat (.ite h.updTract h))) (.ite h.raise h.dropDomain.raise.raise))

theorem State.wf.lateLosses {d : Nat} (h : s.wf) : (s.lateLosses d).wf := by
  unfold State.lateLosses
  extract_lets +onlyGivenNames lost s1
  have h1 : s1.wf := .foldl h fun _ _ hu => hu.updTract
  exact .ite h1 (.raiseIf (.foldl (.ite h1.dropDomain h1) fun _ _ hu => hu.raise))

theorem State.wf.latch {c : Nat} {opened : Bool} (h : s.wf) : (s.latch c opened).wf := h.put.putB.setReg.raise

end Sys2Proof.Machine
end

section
/-!
The canonical form under cells, tract loops, the chain gate and domains.
-/

namespace Sys2Proof.Machine

variable {s : State}

/-! ### Cells -/

theorem State.wf.sampleStation {n uv : Nat} (h : s.wf) : (s.sampleStation n uv).wf := h.setReg.updStn

theorem State.wf.frameStations {tripped : List Nat} {t : Nat} (h : s.wf) : (s.frameStations tripped t).wf := by
  unfold State.frameStations
  extract_lets +onlyGivenNames p v med s1 s2 far s3
  have h3 : s3.wf := .foldl h.setReg.updTract fun _ _ hu => hu.updStn
  exact .ite h3 h3.updTract

theorem State.wf.framePhases {isns : List Int} {peaks : PhasePeaks} {c : Nat} (h : s.wf) : (s.framePhases isns peaks c).wf := h.updCell

theorem State.wf.frameCell {i : Int} {c : Nat} (h : s.wf) : (s.frameCell i c).wf := h.putB.putI.putI.updCell

theorem State.wf.applyLoadMode {t : Nat} (h : s.wf) : (s.applyLoadMode t).wf := .foldl h fun _ _ hu => .ite hu.setMode hu

theorem State.wf.frameLight {t : Nat} (h : s.wf) : (s.frameLight t).wf := by
  unfold State.frameLight
  extract_lets +onlyGivenNames _ n d enter leave light s1
  have h1 : s1.wf := h.updTract
  exact .judgePulse (.ite h1.applyLoadMode h1)

theorem State.wf.frameRejoin {c : Nat} {i : Int} (h : s.wf) : (s.frameRejoin c i).wf := .ite h.updCell.setMode h

theorem State.wf.frameTract {cells : List Int} {t : Nat} (h : s.wf) : (s.frameTract cells t).wf := h.putI.updTract.frameLight

theorem State.wf.frameRetention {d : Nat} (h : s.wf) : (s.frameRetention d).wf := h.updDom

theorem State.wf.frameCap (h : s.wf) : s.frameCap.wf := .data h

theorem State.wf.frameEnergy {cells : List Int} (h : s.wf) : (s.frameEnergy cells).wf := .data h

theorem canonical_execFrameStart {uv : List Nat} {isns : List Int} {peaks : PhasePeaks} {tripped : List Nat} (h : s.wf) : Canonical
    (execFrameStart uv isns peaks tripped s) := by
  refine .next (.ite ?_ h)
  extract_lets +onlyGivenNames _ s0 s1 ts ns s2 s3 s4 s5 s6
  have h6 : s6.wf := .forEach (.forEach (.forEach (.forEach (.forEach (.forEach (.forEach
    (.data h) fun _ _ hu => hu.framePhases) fun _ _ hu => hu.sampleStation) fun _ _ hu => hu.frameStations) fun _ _ hu => hu.frameCell) fun _ _ hu
      => hu.frameTract) fun _ _ hu => hu.frameRejoin) fun _ _ hu => hu.frameRetention
  exact .ite h6.frameCap.frameEnergy h6

theorem canonical_execStationSuspect {t : Fin 64} (h : s.wf) : Canonical (execStationSuspect t s) := by
  refine .next ?_
  split
  · exact h
  · exact .ite (.ite h h.updTract.raiseD) (.ite h h.put.markSet.updStn.updTract.raiseD)

theorem State.wf.clearSuspects {t m : Nat} (h : s.wf) : (s.clearSuspects t m).wf := .foldl h.put fun _ _ hu => .ite hu.updStn hu

theorem canonical_execCmpStuck {stn : Fin 1024} (h : s.wf) : Canonical (execCmpStuck stn s) := .next (.ite h.updStn.raiseD h)

theorem State.wf.snap {t : Nat} {reach : List Nat} (h : s.wf) : (s.snap t reach).wf := by
  unfold State.snap
  extract_lets +onlyGivenNames s1 s2
  have h1 : s1.wf := h.addSat.updTract
  have h2 : s2.wf := .judgePulse (.ite h1.applyLoadMode h1)
  exact .ite h2.updTract.raiseD h2

theorem canonical_execSnap {trip : Trip} (h : s.wf) : Canonical (execSnap trip s) := by
  unfold execSnap
  extract_lets +onlyGivenNames t s1
  have h1 : s1.wf := h.updStn
  exact .next (.ite h1.snap h1)

theorem canonical_execSnapLockoutEnd {t : Fin 64} {m : Retrip} (h : s.wf) : Canonical (execSnapLockoutEnd t m s) := by
  unfold execSnapLockoutEnd
  extract_lets +onlyGivenNames s1 again
  have h1 : s1.wf := .foldl h fun _ _ hu => hu.updStn
  exact .next (.ite (.ite h1.snap h1) h)

theorem canonical_execSnapPauseEnd {t : Fin 64} (h : s.wf) : Canonical (execSnapPauseEnd t s) := by
  refine .next ?_
  split
  · exact h
  · exact .ite h.updTract h

theorem State.wf.shareTract {t : Nat} (h : s.wf) : (s.shareTract t).wf := .foldl h.setShares fun _ _ hu => hu.updCell

theorem canonical_execShareUpdate (h : s.wf) : Canonical (execShareUpdate s) := .next (.forEach h fun _ _ hu => hu.shareTract)

theorem canonical_execShareSat {c : Fin 256} (h : s.wf) : Canonical (execShareSat c s) := by
  refine .next ?_
  split
  · exact h
  · exact .ite h.updCell.raise h

theorem canonical_execZcdRise {c : Fin 256} {ph : Fin 2} (h : s.wf) : Canonical (execZcdRise c ph s) := .next (.ite h.updCell h)

theorem canonical_execZcdStuck {c : Fin 256} {z : ZcdPeriods} (h : s.wf) : Canonical (execZcdStuck c z s) := .next (.ite h.updCell.raise h)

theorem State.wf.hiccupDomain {d : Nat} {fresh : Bool} (h : s.wf) : (s.hiccupDomain d fresh).wf :=
  .updDom (.foldl h fun _ _ hu => .updCell (.ite hu.setMode hu))

theorem State.wf.failAttempt {d c : Nat} {byA : Bool} (h : s.wf) : (s.failAttempt d c byA).wf := by
  unfold State.failAttempt
  extract_lets +onlyGivenNames met last s1
  have h1 : s1.wf := h.hiccupDomain.raise
  refine .ite h1 ?_
  extract_lets +onlyGivenNames s2
  have h2 : s2.wf := .foldl h1 fun _ _ hu => hu.latch.afterCellLoss
  exact .ite (.updDom (.foldl h2 fun _ _ hu => .ite hu.put hu)) h2

theorem canonical_execShortCondA {d : Fin 32} (h : s.wf) : Canonical (execShortCondA d s) := by
  refine .next ?_
  split
  · exact h
  · exact .ite h.failAttempt h

theorem canonical_execShortCondB {c : Fin 256} (h : s.wf) : Canonical (execShortCondB c s) := by
  refine .next (.ite h (.ite h.failAttempt (.ite h ?_)))
  extract_lets +onlyGivenNames last s1 s2
  have h2 : s2.wf := h.setMode.updCell.raise
  exact .afterCellLoss (.ite h2.updCell.latch h2)

theorem State.wf.beginDelay {d : Nat} (h : s.wf) : (s.beginDelay d).wf := .updDom (.foldl h fun _ _ hu => .ite hu.setMode.putB.updCell hu)

theorem State.wf.prebias {c : Nat} (h : s.wf) : (s.prebias c).wf := .ite h.setMode.updCell.reshare (.ite h.setMode (.ite h.setMode.updCell h.setMode))

theorem canonical_execHiccupEnd {c : Fin 256} (h : s.wf) : Canonical (execHiccupEnd c s) := by
  refine .next (.ite (.ite (.beginDelay (.updDom (.ite h (.foldl h fun _ _ hu => .ite hu.addSat hu)))) h) ?_)
  split
  · exact h
  · exact .ite h.addSat.updCell.prebias h

theorem canonical_execRetryCountReset {c : Fin 256} (h : s.wf) : Canonical (execRetryCountReset c s) := .next (.ite h.put h)

theorem canonical_execCellOpen {c : Fin 256} (h : s.wf) : Canonical (execCellOpen c s) := .next (.ite h.updCell.latch.afterCellLoss h)

theorem State.wf.readmit {c : Nat} (h : s.wf) : (s.readmit c).wf := h.put.put.putB.setReg.prebias

theorem canonical_execPhaseOffsetStep {c : Fin 256} (h : s.wf) : Canonical (execPhaseOffsetStep c s) := .next (.ite h h.put)

/-! ### Tract loops -/

theorem State.wf.setFf {t : Nat} {l : List FfRun} (h : s.wf) : (s.setFf t l).wf := h.updTract.putI

theorem State.wf.addFf {t : Nat} {r : FfRun} (h : s.wf) : (s.addFf t r).wf := h.setFf

theorem State.wf.seedStart {t code : Nat} (h : s.wf) : (s.seedStart t code).wf := h.putI.updTract

theorem State.wf.seedHeld {t duty : Nat} (h : s.wf) : (s.seedHeld t duty).wf := h.putI.updTract

theorem State.wf.closeLoop {t set : Nat} (h : s.wf) : (s.closeLoop t set).wf := .foldl h.put.put.put.updTract fun _ _ hu => hu.recadence

theorem State.wf.setFound {t set : Nat} (h : s.wf) : (s.setFound t set).wf := h.markBad.addSat.raiseD

theorem State.wf.haltTract {t : Nat} (h : s.wf) : (s.haltTract t).wf := .raise (.updTract (.put (.put (.foldl h fun _ _ hu => .ite hu hu.setMode))))

theorem State.wf.stopTract {t : Nat} (h : s.wf) : (s.stopTract t).wf := .ite h.haltTract h.haltTract.afterCellLoss

theorem State.wf.findFailed {e slotEnd : Nat} (h : s.wf) : (s.findFailed e slotEnd).wf := .ite h (.data h)

theorem State.wf.lateSample {t n slotEnd : Nat} (h : s.wf) : (s.lateSample t n slotEnd).wf := by
  unfold State.lateSample
  extract_lets +onlyGivenNames lane win s1 _ s2 s3
  have h2 : s2.wf := .data h.putB.addSat
  exact .raise (.updTract (.putB (.ite h2.findFailed h2)))

theorem State.wf.residueFail {t : Nat} (h : s.wf) : (s.residueFail t).wf := by
  unfold State.residueFail
  extract_lets +onlyGivenNames e at_ old _ s1 s2
  have h1 : s1.wf := .data h
  exact .raise (.lateSample (.ite h1 h1.findFailed))

theorem State.wf.timingFloor {t win : Nat} {e : Int} (h : s.wf) : (s.timingFloor t win e).wf := h.updTract.raiseIf

theorem State.wf.computeSample {t : Nat} (h : s.wf) : (s.computeSample t).wf := by
  unfold State.computeSample
  extract_lets +onlyGivenNames _ x p ff o adv s1 s2 s3 three s4
  have h2 : s2.wf := h.setFf.put.putB.putB.putB.setDuty
  exact .timingFloor (.updTract (.ite h2.putI.updTract h2))

theorem State.wf.heldSample {t : Nat} (h : s.wf) : (s.heldSample t).wf := h.setFf.putB.putB.updTract

theorem State.wf.coefFails {t : Nat} (h : s.wf) : (s.coefFails t).wf := by
  unfold State.coefFails
  extract_lets +onlyGivenNames other s0 s1 oneEngine
  have h1 : s1.wf := h.putB.putB.updTract.raise
  exact .ite h1.stopTract h1.put.updTract

theorem State.wf.coefCorrected {t set n : Nat} (h : s.wf) : (s.coefCorrected t set n).wf := .raise (.raiseD (.addSat (.data h)))

theorem State.wf.readSet {t set : Nat} {x2 : Ecc} (h : s.wf) : (s.readSet t set x2).wf := by
  unfold State.readSet
  split
  · exact h
  · exact h.coefCorrected
  · exact h.setFound

theorem canonical_execTractSample {t : Fin 64} {ecc : Ecc} {residueOk : Bool} (h : s.wf) : Canonical (execTractSample t ecc residueOk s) := by
  refine .next (.ite h ?_)
  extract_lets +onlyGivenNames s1
  have h1 : s1.wf := .ite h h.readSet
  exact .ite h1.lateSample (.ite h1.residueFail (.ite h1.heldSample (.ite h1.computeSample h1.coefFails)))

theorem canonical_execTractSampleLate {t : Fin 64} (h : s.wf) : Canonical (execTractSampleLate t s) := .next (.ite h.lateSample h)

theorem canonical_execFloorPauseEnd {t : Fin 64} (h : s.wf) : Canonical (execFloorPauseEnd t s) := .next h.updTract

theorem canonical_execNormUpdate {uv : Nat} (h : s.wf) : Canonical (execNormUpdate uv s) := .next (.put (.put (.data h)))

theorem State.wf.displaceReset {t : Nat} (h : s.wf) : (s.displaceReset t).wf := h.putB.updTract.raise

theorem State.wf.writeOpen {t : Nat} {v : Word} (h : s.wf) : (s.writeOpen t v).wf :=
  .ite (.ite h.raise (.updTract (.put (.ite h.displaceReset h))))
    (.ite (.ite h.raise (.updTract (.ite (.forEach (h.withCoef (memWf_putBytes _ _ _ h.coef)) fun _ _ hu => hu.markGood) h))) h)

theorem canonical_execOpenHoldBegin {t : Fin 64} (h : s.wf) : Canonical (execOpenHoldBegin t s) := by
  refine .next (.ite ?_ h)
  extract_lets +onlyGivenNames s1
  have h1 : s1.wf := h.put.updTract
  exact .ite h1.put.updTract h1

theorem State.wf.restartTract {t set : Nat} (h : s.wf) : (s.restartTract t set).wf := by
  unfold State.restartTract
  extract_lets +onlyGivenNames s0 s1
  have h0 : s0.wf := h.seedHeld.closeLoop
  exact .foldl (.ite h0.idleLoop h0) fun _ _ hu => .ite hu.prebias hu

theorem canonical_execLoopClose {t : Fin 64} {ecc : Ecc} (h : s.wf) : Canonical (execLoopClose t ecc s) := by
  refine .next ?_
  split
  · exact h
  · refine .ite ?_ h
    extract_lets +onlyGivenNames set s1
    have h1 : s1.wf := h.readSet
    refine .ite (.ite h1.restartTract h1.stopTract) ?_
    extract_lets +onlyGivenNames s2
    have h2 : s2.wf := h1.closeLoop
    exact .ite h2 h2.coefFails

theorem canonical_execOpenHoldTimeout {t : Fin 64} (h : s.wf) : Canonical (execOpenHoldTimeout t s) := by
  refine .next ?_
  split
  · exact h
  · exact .ite (.ite h.stopTract.raise h.closeLoop.raise) h

theorem canonical_execSetSwitchClose {t : Fin 64} (h : s.wf) : Canonical (execSetSwitchClose t s) :=
  .next (.ite h (.ite (.ite h.closeLoop h.stopTract) (.ite h.seedHeld.putB.closeLoop.putB h)))

theorem State.wf.resetTract {t : Nat} (h : s.wf) : (s.resetTract t).wf := .ite h.raise h.put.putB.put.updTract

theorem State.wf.windowAccess {core : Bool} {t set j : Nat} {wr : Option Word} (h : s.wf) : (s.windowAccess core t set j wr).1.wf := by
  unfold State.windowAccess
  extract_lets +onlyGivenNames barred k
  split
  · exact h.raiseIf
  · refine .fst_ite h.raiseIf ?_
    split
    · exact h
    · exact h.updTract

theorem State.wf.failTract {t0 t : Nat} (h : s.wf) : (s.failTract t0 t).wf := by
  unfold State.failTract
  extract_lets +onlyGivenNames _ st s1 s2
  have h1 : s1.wf := h.updTract
  have h2 : s2.wf := .raiseIf (.ite h1.putB h1)
  exact .ite h2 (.ite h2.put.updTract h2.put)

theorem State.wf.engineLess (h : s.wf) : s.engineLess.wf := .raise (.data (.putB (.forEach h.putB fun _ _ hu => hu.setMode.updCell)))

theorem canonical_execEngineFail {e : Fin 2} (h : s.wf) : Canonical (execEngineFail e s) := by
  refine .next ?_
  split
  · exact h
  · refine .ite h ?_
    extract_lets +onlyGivenNames s1 _ s2
    have h2 : s2.wf := .data h.putB
    exact .ite h2.engineLess (.data (.forEach h2.putB.raise fun _ _ hu => hu.failTract))

theorem State.wf.failSchedule {failed t : Nat} (h : s.wf) : (s.failSchedule failed t).wf := h.put.put.put.put

theorem State.wf.allOnSurvivor {failed : Nat} (h : s.wf) : (s.allOnSurvivor failed).wf := .forEach h fun _ _ hu => hu.failSchedule

theorem canonical_execFailoverSeed {t : Fin 64} {ecc : Ecc} (h : s.wf) : Canonical (execFailoverSeed t ecc s) := by
  refine .next ?_
  split
  · exact h
  · refine .ite ?_ h
    extract_lets +onlyGivenNames s1 s2
    have h2 : s2.wf := h.failSchedule.updTract.readSet
    exact .ite h2 (.ite h2.stopTract (.ite h2.seedHeld h2))

theorem State.wf.groupClose {t : Nat} (h : s.wf) : (s.groupClose t).wf := .ite (.ite h.restartTract h.closeLoop) h

theorem canonical_execFailoverGroupClose {g : Fin 8} (h : s.wf) : Canonical (execFailoverGroupClose g s) := by
  refine .next ?_
  split
  · exact h
  · exact .ite (.foldl h fun _ _ hu => hu.groupClose) h

theorem canonical_execFailoverPauseLift {g : Fin 8} (h : s.wf) : Canonical (execFailoverPauseLift g s) := by
  refine .next ?_
  split
  · exact h
  · refine .ite ?_ h
    extract_lets +onlyGivenNames s1
    have h1 : s1.wf := .foldl h fun _ _ hu => hu.updTract
    exact .ite (.data h1.putB) h1

/-! ### The chain gate and the envelope -/

theorem canonical_execPauseSlot (h : s.wf) : Canonical (execPauseSlot s) := .next (.ite (.forEach (.data h) fun _ _ hu => hu.put.updTract) h)

theorem canonical_execGateReq {t : Fin 64} {n : Fin 8} (h : s.wf) : Canonical (execGateReq t n s) := by
  refine .next (.ite h ?_)
  extract_lets +onlyGivenNames s1 s2 s3
  have h1 : s1.wf := h.put
  have h2 : s2.wf := .ite h1.updTract h1
  have h3 : s3.wf := .ite h2.putB h2
  exact .ite h3.raiseD h3

theorem canonical_execGateLink {t : Fin 64} (h : s.wf) : Canonical (execGateLink t s) := by
  refine .next (.ite ?_ h)
  extract_lets +onlyGivenNames s1 s2 istep
  have h2 : s2.wf := h.put.putB.addSat.updTract
  exact .ite h2 h2.addFf

theorem State.wf.forcedEnds {ts : List Nat} (h : s.wf) : (s.forcedEnds ts).wf := .foldl h fun _ _ hu => .ite hu.putB hu

theorem canonical_execInrushCompare {d : Fin 32} (h : s.wf) : Canonical (execInrushCompare d s) := by
  refine .next (.ite ?_ h)
  extract_lets +onlyGivenNames l
  clear_value l
  split
  · exact h.updDom
  · extract_lets +onlyGivenNames s1
    have h1 : s1.wf := h.updDom
    exact .ite h1.raiseD h1

theorem canonical_execInrushWaitExpiry {d : Fin 32} (h : s.wf) : Canonical (execInrushWaitExpiry d s) := by
  refine .next ?_
  split
  · exact h
  · exact .ite h.updDom.raiseD h

theorem State.wf.watchBallast (h : s.wf) : s.watchBallast.wf := .ite h (.raiseIf (.data h))

theorem State.wf.envelopeUpdate (h : s.wf) : s.envelopeUpdate.wf :=
  .raiseIf (.watchBallast (.raiseIf (.raiseIf (.put (.put (.put (.put (.data h))))))))

/-! ### Domains -/

theorem State.wf.setTarget {d code : Nat} (h : s.wf) : (s.setTarget d code).wf := h.put.relift.retarget

theorem State.wf.commandTarget {d code : Nat} (h : s.wf) : (s.commandTarget d code).wf := by
  refine .ite h.setTarget ?_
  extract_lets +onlyGivenNames s1
  have h1 : s1.wf := h.raiseD
  exact .ite h1 h1.raiseD

theorem State.wf.becomeOn {d : Nat} (h : s.wf) : (s.becomeOn d).wf := by
  unfold State.becomeOn
  extract_lets +onlyGivenNames s1 s2
  have h2 : s2.wf := by
    refine .foldl h.setDom fun _ _ hu => ?_
    extract_lets +onlyGivenNames s1 s2
    have h2 : s2.wf := hu.putB.updCell
    exact .ite h2.setMode h2
  exact h2.forcedEnds.domMoved.lateLosses

theorem State.wf.becomeRetained {d : Nat} (h : s.wf) : (s.becomeRetained d).wf :=
  .domMoved (.updDom (.setDom (.idleLoops (.foldl h fun _ _ hu => .judgePulse (.updTract (.foldl hu fun _ _ hu' => .updCell
    (.ite hu' hu'.setMode)))))))

theorem State.wf.becomeOff {d : Nat} (h : s.wf) : (s.becomeOff d).wf := h.dropDomain

theorem State.wf.gradeTarget {d g : Nat} (h : s.wf) : (s.gradeTarget d g).wf := .ite h h.commandTarget

theorem State.wf.abandonRaise {d : Nat} (h : s.wf) : (s.abandonRaise d).wf := by
  unfold State.abandonRaise
  split
  · exact h
  · exact .ite h.gradeTarget.updDom h

theorem State.wf.requestRaise {d : Nat} (h : s.wf) : (s.requestRaise d).wf := by
  unfold State.requestRaise
  extract_lets +onlyGivenNames s1
  have h1 : s1.wf := h.abandonRaise
  split
  · exact h1
  · exact .ite h1.updDom h1

theorem State.wf.aimAll {d iv code : Nat} (h : s.wf) : (s.aimAll d iv code).wf := .foldl h fun _ _ hu => hu.aim

theorem State.wf.beginOff {d : Nat} {ph : DomPhase} (h : s.wf) : (s.beginOff d ph).wf := h.setDom.relift.updDom

theorem State.wf.beginRetention {d : Nat} (h : s.wf) : (s.beginRetention d).wf := by
  unfold State.beginRetention
  extract_lets +onlyGivenNames s1 s2 s3
  have h3 : s3.wf := .aimAll (.foldl h.beginOff fun _ _ hu => hu.putB)
  exact .ite h3.becomeRetained h3

theorem State.wf.toColumn {d : Nat} (h : s.wf) : (s.toColumn d).wf := .ite h.beginRetention h

theorem State.wf.afterStep {d : Nat} (h : s.wf) : (s.afterStep d).wf := by
  refine .ite h ?_
  extract_lets +onlyGivenNames _
  split
  · exact .ite h h.becomeOn.requestRaise.toColumn
  · exact h.becomeOn.requestRaise.toColumn
  · exact h.becomeRetained
  · exact h.becomeOff
  · exact h.requestRaise
  · exact h

theorem State.wf.writeTarget {d code : Nat} (h : s.wf) : (s.writeTarget d code).wf := h.commandTarget.afterStep

theorem State.wf.beginRamp {d : Nat} {ph : DomPhase} (h : s.wf) : (s.beginRamp d ph).wf :=
  .updDom (.foldl h fun _ _ hu => hu.updCell)

theorem State.wf.beginStopRamp {d : Nat} (h : s.wf) : (s.beginStopRamp d).wf := .afterStep (.beginRamp (.foldl h fun _ _ hu => hu.put))

theorem State.wf.beginStop {d : Nat} (h : s.wf) : (s.beginStop d).wf := h.beginOff.updDom

theorem State.wf.switchOff {d : Nat} {full : Bool} (h : s.wf) : (s.switchOff d full).wf := by
  unfold State.switchOff
  extract_lets +onlyGivenNames _
  split
  · exact h.beginOff.beginStopRamp
  · exact h.beginOff.beginStopRamp
  · exact h.beginOff.beginStopRamp
  · exact h.beginStop
  · exact .ite h.beginStop h.beginRetention

theorem State.wf.refuseDom {d : Nat} (h : s.wf) : (s.refuseDom d).wf := h.raise

theorem State.wf.offCommand {d : Nat} {off full : Bool} (h : s.wf) : (s.offCommand d off full).wf :=
  .ite h.updDom.beginStop (.ite h.switchOff.updDom h.refuseDom)

theorem State.wf.holdStart {d : Nat} (h : s.wf) : (s.holdStart d).wf := .foldl h fun _ _ hu => hu.put

theorem State.wf.reverseStop {d : Nat} (h : s.wf) : (s.reverseStop d).wf :=
  .afterStep (.beginRamp (.retarget (.foldl (.foldl h.setDom fun _ _ hu => .ite hu.setMode hu) fun _ _ hu => .ite hu.seedStart.closeLoop hu)))

theorem State.wf.switchOn {d : Nat} (h : s.wf) : (s.switchOn d).wf := by
  unfold State.switchOn
  extract_lets +onlyGivenNames _ fresh
  split
  · exact .updDom (.setDom (.foldl h fun _ _ hu => hu.updCell))
  · exact .ite (.ite h.setDom.updDom.retarget h.setDom.retarget.afterStep) h.reverseStop.updDom
  · exact .updDom (.setDom (.foldl h.holdStart fun _ _ hu => hu.updCell))

theorem State.wf.onCommand {d : Nat} (h : s.wf) : (s.onCommand d).wf := by
  refine .ite ?_ h.refuseDom
  extract_lets +onlyGivenNames s1
  have h1 : s1.wf := h.updDom
  exact .ite h1 h1.switchOn

theorem State.wf.writeDomCtl {d : Nat} {v : Word} (h : s.wf) : (s.writeDomCtl d v).wf :=
  .ite h (.ite h.refuseDom (.ite h.onCommand h.offCommand))

theorem State.wf.stageAdmits {d k : Nat} (h : s.wf) : (s.stageAdmits d k).wf := .foldl h fun _ _ hu => .ite (.updCell (.ite hu.setMode hu)) hu

theorem canonical_execHeaderStage {d : Fin 32} (h : s.wf) : Canonical (execHeaderStage d s) := by
  refine .next (.ite ?_ h)
  extract_lets +onlyGivenNames k s0 s1 s2 s3
  have h0 : s0.wf := h.put
  have h2 : s2.wf := .updDom (.stageAdmits (.ite (.foldl h0 fun _ _ hu => .ite hu hu.seedStart.closeLoop) h0))
  have h3 : s3.wf := .ite h2.retarget h2
  refine .ite h3 ?_
  split
  · exact h3.updDom.afterStep
  · exact h3.afterStep
  · exact h3.beginDelay

theorem canonical_execSoftStartDelayEnd {d : Fin 32} (h : s.wf) : Canonical (execSoftStartDelayEnd d s) :=
  .next (.ite (.afterStep (.beginRamp (.retarget (.foldl h.holdStart fun _ _ hu => .ite hu hu.seedStart.closeLoop)))) h)

theorem canonical_execSoftStopDelayEnd {d : Fin 32} (h : s.wf) : Canonical (execSoftStopDelayEnd d s) := .next (.ite h.beginStopRamp h)

theorem canonical_execPresentCodeStep {c : Fin 256} (h : s.wf) : Canonical (execPresentCodeStep c s) :=
  .next (.ite h.put.updCell.judgePulse.afterStep h)

theorem canonical_execRetLow {d : Fin 32} (h : s.wf) : Canonical (execRetLow d s) := by
  refine .next ?_
  split
  · exact h
  · exact .ite h.updDom.raise h

end Sys2Proof.Machine
end

section
/-!
The canonical form under setting-out, the intermediate bus stage, the sites and power capping.
-/

namespace Sys2Proof.Machine

variable {s : State}

/-! ### Setting-out -/

theorem State.wf.requestCcm {d no : Nat} (h : s.wf) : (s.requestCcm d no).wf :=
  .foldl h.updDom fun _ _ hu => .ite hu hu.updTract.applyLoadMode.judgePulse

theorem State.wf.startLift {i : Inst} {b : List Byte} {d : Nat} (h : s.wf) : (s.startLift i b d).1.wf :=
  .fst_ite h (.fst_ite h (.ite h.requestCcm h))

theorem State.wf.putInst {i : Inst} (h : s.wf) : (s.putInst i).wf := .data h

theorem State.wf.dropInst {no : Nat} (h : s.wf) : (s.dropInst no).wf := .data h

theorem State.wf.reliftAll {ds : List Nat} {i : Inst} (h : s.wf) : (s.reliftAll ds i).wf := .foldl h fun _ _ hu => hu.relift

theorem State.wf.startLifts {i : Inst} {b : List Byte} {due : Nat → Bool} (h : s.wf) : (s.startLifts i b due).1.wf :=
  .reliftAll (.putInst (.foldl_fst h fun _ _ hu => hu.startLift))

theorem State.wf.withdraw {i : Inst} {cancel : Bool} (h : s.wf) : (s.withdraw i cancel).wf := by
  unfold State.withdraw
  extract_lets +onlyGivenNames ds s1 s2
  have h2 : s2.wf := .foldl h.putInst.reliftAll fun _ _ hu => hu.updDom
  exact .ite (.foldl h2 fun _ _ hu => hu.setFf) h2

theorem State.wf.inject {i : Inst} {b : List Byte} {sign : Int} (h : s.wf) : (s.inject i b sign).wf :=
  .ite h (.foldl h fun _ _ hu => .ite hu hu.addFf)

theorem State.wf.endInst {i : Inst} (h : s.wf) : (s.endInst i).wf := by
  unfold State.endInst
  extract_lets +onlyGivenNames s1 s2
  have h1 : s1.wf := h.withdraw
  have h2 : s2.wf := by
    unfold s2
    split
    · exact h1
    · exact .ite h1.inject h1
  exact h2.dropInst

theorem State.wf.runPlain {i : Inst} (h : s.wf) : (s.runPlain i).wf := h.withdraw.putInst

theorem State.wf.putSlot {k : Nat} {x : PlanSlot} (h : s.wf) : (s.putSlot k x).wf := .data h

theorem State.wf.spoil {idx stamp : Nat} (h : s.wf) : (s.spoil idx stamp).wf := by
  unfold State.spoil
  split
  · exact h
  · exact .ite h h.putSlot

theorem State.wf.startFetch {no : Nat} (h : s.wf) : (s.startFetch no).wf := .data h

theorem State.wf.pump (h : s.wf) : s.pump.wf := by
  refine .foldl h fun _ _ hu => ?_
  split
  · exact hu
  · exact .ite hu.startFetch hu

theorem State.wf.failFetch {f : Fetch} (h : s.wf) : (s.failFetch f).wf := by
  unfold State.failFetch
  extract_lets +onlyGivenNames _ s1
  have h1 : s1.wf := .data h
  split
  · exact h1
  · exact h1.runPlain

theorem State.wf.putFetch {f : Fetch} (h : s.wf) : (s.putFetch f).wf := .data h

theorem State.wf.issueRead {header : Bool} {fetch : Option Nat} {idx seq : Nat} (h : s.wf) : (s.issueRead header fetch idx seq).wf := .data h

theorem State.wf.issueFetch {f : Fetch} (h : s.wf) : (s.issueFetch f).wf :=
  .ite (.ite h.putFetch.issueRead h.failFetch.raiseD) (.ite h.putFetch.issueRead h.failFetch.raiseD)

theorem State.wf.issueReread (h : s.wf) : s.issueReread.wf := by
  unfold State.issueReread
  split
  · exact h
  · exact h.issueRead

theorem canonical_execFetchIssue (h : s.wf) : Canonical (execFetchIssue s) := by
  refine .next (.ite h (.ite h.issueReread.pump ?_))
  split
  · exact h
  · exact h.issueFetch.pump

theorem State.wf.acceptRecord {f : Fetch} {b : List Byte} (h : s.wf) : (s.acceptRecord f b).wf := by
  unfold State.acceptRecord
  extract_lets +onlyGivenNames _ s1 st _ s2
  have h1 : s1.wf := .data h
  have h2 : s2.wf := by
    unfold s2
    split
    · exact h1
    · exact .putSlot (.foldl (.data (h1.withPlan (memWf_putBytes _ _ _ h1.plan))) fun _ _ hu => hu.markGood)
  split
  · exact h2
  · exact h2.putInst

theorem State.wf.judgeFetch {f : Fetch} (h : s.wf) : (s.judgeFetch f).wf := by
  unfold State.judgeFetch
  split
  · exact .ite h.failFetch.raiseD (.ite h.failFetch (.ite h.failFetch.addSat.raiseD (.ite h.acceptRecord h.failFetch.raiseD)))
  · exact h

theorem State.wf.failArrive {ev : Ev} {a : Arrive} (h : s.wf) : (s.failArrive ev a).wf := by
  unfold State.failArrive
  split
  · exact h
  · extract_lets +onlyGivenNames s1 s2
    have h1 : s1.wf := h.spoil
    have h2 : s2.wf := by
      unfold s2
      split
      · exact h1
      · exact h1.runPlain
    exact h2.raiseD

theorem State.wf.judgeArrive {gen : Nat} {a : Arrive} (h : s.wf) : (s.judgeArrive gen a).wf := by
  unfold State.judgeArrive
  split
  · exact h
  · refine .ite h.addSat ?_
    extract_lets +onlyGivenNames s1 s2
    have h1 : s1.wf := h.spoil
    have h2 : s2.wf := by
      unfold s2
      split
      · exact h1
      · exact h1.runPlain
    exact h2.addSat.raiseD

theorem State.wf.failRead {ev : Ev} {r : PlanRead} (h : s.wf) : (s.failRead ev r).wf := by
  unfold State.failRead
  extract_lets +onlyGivenNames s1 s2
  have h1 : s1.wf := by
    unfold s1
    split
    · exact h
    · split
      · exact h
      · exact h.failFetch.raiseD
  have h2 : s2.wf := .foldl h1 fun _ _ hu => hu.failArrive
  exact .ite h2.raiseD h2

theorem State.wf.freeRead {rid : Nat} (h : s.wf) : (s.freeRead rid).wf := .data h

theorem State.wf.headerDone {r : PlanRead} {b : List Byte} (h : s.wf) : (s.headerDone r b).wf := by
  unfold State.headerDone
  extract_lets +onlyGivenNames newer s1 s2 _ s3 s4
  have h4 : s4.wf := .foldl (.data (.putB (.ite h.put h))) fun _ _ hu => hu.judgeArrive
  split
  · exact h4
  · split
    · exact h4
    · exact h4.putFetch.judgeFetch

theorem State.wf.readDone {r : PlanRead} {ok : Bool} {b : List Byte} (h : s.wf) : (s.readDone r ok b).wf := by
  unfold State.readDone
  extract_lets +onlyGivenNames s1
  have h1 : s1.wf := h.freeRead
  refine .pump (.ite h1 (.ite h1.failRead (.ite h1.headerDone ?_)))
  split
  · exact h1
  · split
    · exact h1
    · exact h1.putFetch.judgeFetch

theorem canonical_execHeaderReadDone {rid : Fin 32} {ok : Bool} {bytes : List Byte} (h : s.wf) : Canonical (execHeaderReadDone rid ok bytes s) := by
  refine .next ?_
  split
  · exact h
  · exact .ite h.readDone h

theorem canonical_execRecordReadDone {rid : Fin 32} {ok : Bool} {bytes : List Byte} (h : s.wf) : Canonical (execRecordReadDone rid ok bytes s) := by
  refine .next ?_
  split
  · exact h
  · exact .ite h h.readDone

theorem canonical_execRereadDone {rid : Fin 32} {ok : Bool} {bytes : List Byte} (h : s.wf) : Canonical (execRereadDone rid ok bytes s) := by
  refine .next ?_
  split
  · exact h
  · exact .ite h.readDone h

theorem canonical_execFetchTimeout {rid : Fin 32} (h : s.wf) : Canonical (execFetchTimeout rid s) := by
  refine .next ?_
  split
  · exact h
  · exact .ite (.pump (.failRead (.data h))) h

theorem State.wf.abandonReads (h : s.wf) : s.abandonReads.wf := .pump (.foldl (.data h) fun _ _ hu => .ite hu.failRead hu)

theorem State.wf.failWaiting (h : s.wf) : s.failWaiting.wf := by
  unfold State.failWaiting
  extract_lets +onlyGivenNames fs l s1 _ s2
  have h2 : s2.wf := .foldl (.data (.foldl h fun _ _ hu => hu.failFetch.raiseD)) fun _ _ hu => hu.failArrive
  clear_value l
  split
  · exact h2
  · exact .ite h2 h2.raiseD

theorem State.wf.takePeg {q mark : Nat} (h : s.wf) : (s.takePeg q mark).1.wf := by
  refine .fst_ite h (.fst_ite h.addSat ?_)
  extract_lets +onlyGivenNames _ s1
  have h1 : s1.wf := .data h
  exact .fst_ite h1 (.fst_ite h1.addSat h1)

theorem State.wf.hit {i : Inst} {k : Nat} {x : PlanSlot} (h : s.wf) : (s.hit i k x).wf := by
  unfold State.hit
  extract_lets +onlyGivenNames _ s1
  have h1 : s1.wf := .data h
  refine .ite h1.corrects.putSlot.putInst ?_
  extract_lets +onlyGivenNames s2 s3
  have h2 : s2.wf := h1.putSlot.putInst
  exact .raiseD (.ite h2.addSat.raiseD h2)

theorem State.wf.miss {i : Inst} {mark : Nat} (h : s.wf) : (s.miss i mark).wf :=
  .ite (.raiseD (.data h)) (.ite (.startFetch (.data (.data h))) (.ite (.data (.data h)) h.addSat.raiseD))

theorem canonical_execAnnounce {q : Fin 16} {mark : Fin 65536} (h : s.wf) : Canonical (execAnnounce q mark s) := by
  unfold execAnnounce
  extract_lets +onlyGivenNames p
  have hp : p.1.wf := h.takePeg
  refine .next ?_
  split
  · exact hp
  · refine .ite hp ?_
    extract_lets +onlyGivenNames i _ s2
    have h2 : s2.wf := .data hp
    split
    · exact h2.hit
    · exact h2.miss

theorem State.wf.arriveOn {q : Nat} {i : Inst} {b : List Byte} (h : s.wf) : (s.arriveOn q i b).wf := by
  unfold State.arriveOn
  extract_lets +onlyGivenNames p short s1 ds ffs _ i1
  have hp : p.1.wf := h.startLifts
  exact .inject (.putInst (.ite hp.addSat hp))

theorem canonical_execArrive {q : Fin 16} {mark : Fin 65536} (h : s.wf) : Canonical (execArrive q mark s) := by
  unfold execArrive
  extract_lets +onlyGivenNames p
  have hp : p.1.wf := h.takePeg
  refine .next ?_
  split
  · exact hp
  · extract_lets +onlyGivenNames s1 reread
    split
    · exact hp.addSat
    · extract_lets +onlyGivenNames s2 i1 _ s3
      have h2 : s2.wf := by
        unfold s2
        split
        · exact hp
        · exact hp.endInst
      have h3 : s3.wf := .data h2
      split
      · exact .ite (.data h3) (.data h3.runPlain.addSat)
      · exact .ite (.data h3.arriveOn) (.data h3.runPlain.addSat)

theorem canonical_execLiftStart {idx : Fin 65536} (h : s.wf) : Canonical (execLiftStart idx s) := by
  refine .next ?_
  split
  · exact h
  · split
    · exact h
    · exact h.startLifts

theorem canonical_execStepEnd {idx : Fin 65536} (h : s.wf) : Canonical (execStepEnd idx s) := by
  refine .next ?_
  split
  · exact h
  · exact .ite h.endInst h

theorem canonical_execMarkMiss {idx : Fin 65536} (h : s.wf) : Canonical (execMarkMiss idx s) := by
  refine .next ?_
  split
  · exact h
  · split
    · exact h
    · exact .ite h.withdraw.dropInst.addSat h

theorem State.wf.soDisable (h : s.wf) : s.soDisable.wf :=
  .data (.putB (.foldl (.foldl h fun _ _ hu => hu.withdraw.dropInst) fun _ _ hu => .ite hu.setFf hu))

theorem State.wf.soClose (h : s.wf) : s.soClose.wf := h.putHw.soDisable

theorem State.wf.soClear (h : s.wf) : s.soClear.wf := .put (.forEach h fun _ _ hu => hu.put.put.put.put.put)

theorem State.wf.writeSoCtl {en clr : Bool} (h : s.wf) : (s.writeSoCtl en clr).wf := by
  unfold State.writeSoCtl
  extract_lets +onlyGivenNames s1 was
  have h1 : s1.wf := .ite h.soClear h
  refine .ite h1 (.ite ?_ (.ite h1.putB.soDisable h1))
  extract_lets +onlyGivenNames bad s2 s3
  have h2 : s2.wf := .ite h1.raiseD h1
  have h3 : s3.wf := .ite h2 h2.raise
  exact .ite h3 h3.putB

/-! ### The intermediate bus stage -/

theorem canonical_execIbRefStep (h : s.wf) : Canonical (execIbRefStep s) := .next (.ite h h.moveRef)

theorem canonical_execVselAccept {vsel : Fin 8} (h : s.wf) : Canonical (execVselAccept vsel s) := .next (.ite h h.put.offerVsel)

theorem canonical_execVselDwellEnd (h : s.wf) : Canonical (execVselDwellEnd s) := by
  refine .next ?_
  split
  · exact h
  · exact .ite (.ite h.putB h.changeVsel) h

theorem canonical_execTrackUpdate (h : s.wf) : Canonical (execTrackUpdate s) := by
  unfold execTrackUpdate
  extract_lets +onlyGivenNames _ s0 keep
  have h0 : s0.wf := h.updIb
  exact .next (.ite h (.ite h0 (.ite (.ite h0 h0.setIbTarget.updIb) (.ite h0 (.ite h0 h0.setIbTarget.updIb)))))

theorem State.wf.holdTrack (h : s.wf) : s.holdTrack.wf := h.putB.updIb.raiseIf

theorem State.wf.trackPeriod {rise fall : Nat} (h : s.wf) : (s.trackPeriod rise fall).wf := .ite (.ite h.updIb.putB h.updIb) h.holdTrack

theorem canonical_execTrackInEdge {level : Bool} (h : s.wf) : Canonical (execTrackInEdge level s) := by
  unfold execTrackInEdge
  extract_lets +onlyGivenNames s1
  have h1 : s1.wf := h.updIb
  refine .next (.ite h (.ite ?_ h1))
  split
  · exact h1.trackPeriod
  · exact h1

theorem canonical_execTrackTimeout (h : s.wf) : Canonical (execTrackTimeout s) := .next (.ite h.holdTrack h)

theorem State.wf.ibSeed (h : s.wf) : s.ibSeed.wf := h.updIb

theorem State.wf.ibClose (h : s.wf) : s.ibClose.wf := .ibSeed (.updIb (.setIbMode (.foldl h fun _ _ hu => .ite hu.setP.updPhase hu)))

theorem State.wf.ibAdd {avg2 tot : Int} (h : s.wf) : (s.ibAdd avg2 tot).wf := by
  refine .ite (.foldl h fun _ _ hu => ?_) h
  split
  · exact hu
  · exact hu.updIb

theorem State.wf.ibJoin (h : s.wf) : s.ibJoin.wf := by
  unfold State.ibJoin
  split
  · exact h
  · exact .foldl h.updIb fun _ _ hu => .ite hu.setP.updPhase hu

theorem State.wf.ibDiode {avg2 tot : Int} (h : s.wf) : (s.ibDiode avg2 tot).wf :=
  .ite (.ite (.foldl h.putB fun _ _ hu => .ite hu hu.setP) h) (.ite (.foldl h.putB fun _ _ hu => hu.setP) h)

theorem State.wf.ibLimit {highest p : Nat} (h : s.wf) : (s.ibLimit highest p).wf := h.putB.updPhase

theorem State.wf.ibCompute (h : s.wf) : s.ibCompute.wf := .ibDiode (.ibAdd (.put (.updIb (.updIb (.foldl h fun _ _ hu => hu.deliver)))))

theorem canonical_execIbSample {peaks : IbPeaks} (h : s.wf) : Canonical (execIbSample peaks s) :=
  .next (.ite h.ibHysteretic (.ite h (.ibCompute (.forEach (.ite h.ibClose h) fun _ _ hu => hu.ibLimit))))

theorem canonical_execIbSampleLate (h : s.wf) : Canonical (execIbSampleLate s) := .next (.ite h.addSat.raise h)

theorem State.wf.noteOver {num den : Nat} (h : s.wf) : (s.noteOver num den).wf := h.updIb

theorem State.wf.ibReading {code : Nat} (h : s.wf) : (s.ibReading code).wf := h.noteOver.updIb

theorem State.wf.vinReading {code : Nat} (h : s.wf) : (s.vinReading code).wf := h.put.updIb

theorem State.wf.currentReading {p : Nat} {code : Int} (h : s.wf) : (s.currentReading p code).wf := by
  unfold State.currentReading
  extract_lets +onlyGivenNames i s1 s2
  have h1 : s1.wf := h.putI
  have h2 : s2.wf := .ite h1.updPhase h1
  exact .ite h2.updPhase.setP h2

theorem State.wf.phaseTempReading {p code : Nat} (h : s.wf) : (s.phaseTempReading p code).wf := h.putI

theorem State.wf.sharePhase {sum : Int} {n p : Nat} (h : s.wf) : (s.sharePhase sum n p).wf := by
  unfold State.sharePhase
  extract_lets +onlyGivenNames t maxs hot raw s1 s2
  have h2 : s2.wf := h.updPhase.raiseIf
  exact .ite h2.setP (.ite h2.setP h2)

theorem canonical_execIbShareUpdate (h : s.wf) : Canonical (execIbShareUpdate s) := by
  refine .next (.ite h ?_)
  extract_lets +onlyGivenNames l sum s1 avg cnt light s2 l2 tot wt s3
  have h1 : s1.wf := .forEach h fun _ _ hu => hu.sharePhase
  have h2 : s2.wf := by
    unfold s2
    split
    · exact .ite h1.setP (.ite h1.setP h1)
    · exact h1
  exact .updIb (.foldl h2 fun _ _ hu => hu.updPhase)

theorem State.wf.hysPulse {p : Nat} (h : s.wf) : (s.hysPulse p).wf := h.setP.updPhase.updIb

theorem State.wf.nextPulse (h : s.wf) : s.nextPulse.wf := by
  unfold State.nextPulse
  split
  · exact h
  · exact .ite h h.hysPulse

theorem canonical_execIbHysPulse (h : s.wf) : Canonical (execIbHysPulse s) := .next (.ite h.updIb.nextPulse h)

theorem canonical_execIbZcd {z : ZcdFiring} (h : s.wf) : Canonical (execIbZcd z s) := by
  unfold execIbZcd
  extract_lets +onlyGivenNames s1
  have h1 : s1.wf := h.noteOver.updPhase.updIb
  refine .next (.ite ?_ (.ite h1.nextPulse h1))
  extract_lets +onlyGivenNames s2
  have h2 : s2.wf := h.noteOver
  exact .ite h2.updPhase h2

theorem State.wf.keepAlive {off : Bool} (h : s.wf) : (s.keepAlive off).wf := by
  refine .ite h ?_
  extract_lets +onlyGivenNames k s0 s1 s2
  have h1 : s1.wf := .updIb (.setIbMode (.ite h h.updIb))
  exact .hysModes (.setRef (.ite (.foldl h1 fun _ _ hu => .ite hu.setP hu) h1))

theorem State.wf.leaveKeepAlive (h : s.wf) : s.leaveKeepAlive.wf := .ite h.moveRef.ibHysteretic.ibRamp.updIb h

theorem State.wf.clearLimits (h : s.wf) : s.clearLimits.wf := .forEach h fun _ _ hu => hu.updPhase

theorem State.wf.ibSoftStart {ibUv : Nat} (h : s.wf) : (s.ibSoftStart ibUv).wf := h.clearLimits.setIbMode.setRef.ibRamp.updIb.hysModes

theorem State.wf.ibSoftStartEnd {ibMv : Nat} (h : s.wf) : (s.ibSoftStartEnd ibMv).wf :=
  .ite (.ite h.ibHysteretic.updIb (.data h.ibHysteretic.updIb)) h

theorem State.wf.allOff (h : s.wf) : s.allOff.wf := .foldl (.forEach h fun _ _ hu => .ite hu hu.setMode) fun _ _ hu => .ite hu hu.dropDomain

theorem State.wf.ibFail (h : s.wf) : s.ibFail.wf :=
  .raise (.putB (.setAon (.data (.allOff (.updIb (.foldl h.setIbMode fun _ _ hu => .ite hu.setP hu))))))

theorem State.wf.noteIbFault {e : Ev} (h : s.wf) : (s.noteIbFault e).wf := .ite h.updAdc h

theorem State.wf.latchPhase {p cause : Nat} {ev : Ev} (h : s.wf) : (s.latchPhase p cause ev).wf := h.setP.put.updPhase.raise

theorem State.wf.noteLimits {ibUv : Nat} {ps : BitVec 16} (h : s.wf) : (s.noteLimits ibUv ps).wf := .forEach h fun _ _ hu => hu.updPhase

theorem canonical_execIbSsFault {ibUv : Nat} {ps : BitVec 16} (h : s.wf) : Canonical (execIbSsFault ibUv ps s) := by
  unfold execIbSsFault
  extract_lets +onlyGivenNames s1 condA bad
  have h1 : s1.wf := h.noteLimits
  exact .next (.ite h (.ite h1 (.ite h1.clearLimits.updIb (.ite h1.clearLimits.ibFail (.hysModes (.foldl h1 fun _ _ hu => hu.latchPhase))))))

theorem canonical_execIbSsRetry {ibUv : Nat} (h : s.wf) : Canonical (execIbSsRetry ibUv s) := by
  refine .next ?_
  split
  · exact h
  · exact .ite h.ibSoftStart h

theorem canonical_execPhaseAdmitCheck {pass : Bool} (h : s.wf) : Canonical (execPhaseAdmitCheck pass s) := by
  refine .next ?_
  split
  · exact h
  · refine .ite ?_ h
    extract_lets +onlyGivenNames s1
    have h1 : s1.wf := h.updIb
    exact .ite h1.setP.updPhase h1.noteIbFault.latchPhase

theorem canonical_execStageFault {ph : Fin 16} (h : s.wf) : Canonical (execStageFault ph s) := by
  refine .next (.ite ?_ h)
  extract_lets +onlyGivenNames s1
  have h1 : s1.wf := h.noteIbFault.latchPhase
  exact .ite h1 h1.hysModes

theorem canonical_execIbPhaseShort {ph : Fin 16} (h : s.wf) : Canonical (execIbPhaseShort ph s) := by
  refine .next ?_
  split
  · exact h
  · refine .ite ?_ h
    extract_lets +onlyGivenNames s1 s2 s3 together
    have h2 : s2.wf := h.noteIbFault.setP.updPhase.raise
    have h3 : s3.wf := .ite h2.latchPhase h2
    exact .ite (.updIb (.foldl h3.setIbMode fun _ _ hu => hu.updPhase)) h3

theorem canonical_execIbPhaseRetry {ph : Fin 16} (h : s.wf) : Canonical (execIbPhaseRetry ph s) := by
  refine .next ?_
  split
  · exact h
  · exact .ite h.setP.addSat.updPhase h

theorem canonical_execIbPhaseRetryReset {ph : Fin 16} (h : s.wf) : Canonical (execIbPhaseRetryReset ph s) := .next (.ite h.put h)

theorem canonical_execIbOv (h : s.wf) : Canonical (execIbOv s) := by
  refine .next ?_
  split
  · exact h
  · exact .ite h h.noteIbFault.updIb.raise

theorem canonical_execIbOvResume {ibUv : Nat} (h : s.wf) : Canonical (execIbOvResume ibUv s) := by
  refine .next (.ite ?_ h)
  extract_lets +onlyGivenNames s1
  have h1 : s1.wf := h.updIb
  exact .ite h1.ibSeed h1

theorem canonical_execIbLow (h : s.wf) : Canonical (execIbLow s) := by
  refine .next ?_
  split
  · exact h
  · exact .ite h.updIb.raise h

theorem canonical_execVinHigh (h : s.wf) : Canonical (execVinHigh s) := by
  refine .next ?_
  split
  · exact h
  · exact .ite h.updIb.raise h

theorem State.wf.beginShedding (h : s.wf) : s.beginShedding.wf := .ite h h.putB.raise

theorem State.wf.endShedding (h : s.wf) : s.endShedding.wf := h.putB

theorem canonical_execVinShed (h : s.wf) : Canonical (execVinShed s) := by
  refine .next ?_
  split
  · exact h
  · exact .ite h.beginShedding.sendShed h

theorem canonical_execVinRestore (h : s.wf) : Canonical (execVinRestore s) := by
  refine .next ?_
  split
  · exact h
  · exact .ite h.endShedding.sendShed h

theorem State.wf.orderlyStop (h : s.wf) : s.orderlyStop.wf := .ite h (.raise (.putB (.soClose (.data h))))

theorem canonical_execVinStop (h : s.wf) : Canonical (execVinStop s) := by
  refine .next ?_
  split
  · exact h
  · exact .ite h.orderlyStop.sendShed h

/-! ### Sites -/

theorem State.wf.updSite {t : Nat} {f : SiteHid → SiteHid} (h : s.wf) : (s.updSite t f).wf := .data h

theorem State.wf.setSuspect {t : Nat} {b : Bool} (h : s.wf) : (s.setSuspect t b).wf := by
  unfold State.setSuspect
  extract_lets +onlyGivenNames s1 s2
  have h1 : s1.wf := h.putB
  have h2 : s2.wf := .ite h1.put h1.put
  exact .ite h2.markSet h2

theorem State.wf.takeRaw {t : Nat} {raw : Int} (h : s.wf) : (s.takeRaw t raw).wf := h.putI.putB

theorem State.wf.storeValue {t : Nat} {v : Int} (h : s.wf) : (s.storeValue t v).wf := h.putI.updSite.putI

theorem State.wf.showHottest (h : s.wf) : s.showHottest.wf := h.put.putI

theorem State.wf.restartSites (h : s.wf) : s.restartSites.wf := .data h

theorem State.wf.markSuspect {t : Nat} (h : s.wf) : (s.markSuspect t).wf := h.setSuspect.updSite.raise

theorem State.wf.crossCheck {now : List Nat} (h : s.wf) : (s.crossCheck now).wf := by
  unfold State.crossCheck
  extract_lets +onlyGivenNames none_ lone far s1
  have h1 : s1.wf := .forEach h fun _ _ hu => hu.updSite.raiseIf
  refine .ite ?_ (.foldl h1 fun _ _ hu => hu.markSuspect)
  extract_lets +onlyGivenNames pick
  clear_value pick
  split
  · exact h1
  · exact h1.markSuspect

theorem State.wf.controlSite {t : Nat} (h : s.wf) : (s.controlSite t).wf := h.putB.putB.putB.put.updSite.raiseIf.raiseIf.raiseIf

theorem State.wf.abandonHold {t : Nat} (h : s.wf) : (s.abandonHold t).wf := by
  unfold State.abandonHold
  extract_lets +onlyGivenNames st s1 s2
  have h2 : s2.wf := h.updTract.raiseIf
  exact .ite h2.put h2

theorem State.wf.beginShutdown {t : Nat} (h : s.wf) : (s.beginShutdown t).wf := by
  unfold State.beginShutdown
  extract_lets +onlyGivenNames s1 s2 s2' _ s3 s4 s5 s5' _ _ s6 _ p s7
  have h2 : s2.wf := .forEach h.putB.putB fun _ _ hu => hu.abandonHold
  have h5 : s5.wf := .foldl (.soClose (.keepAlive (.allOff (.putB (.putB (.data (.ite h2.allOnSurvivor h2))))))) fun _ _ hu => hu.updDom
  have h6 : s6.wf := .data (.ite h5.restoreMems h5)
  exact .raise (.ite h6 (.putB (.setAon (.data h6))))

theorem State.wf.endShutdown (h : s.wf) : s.endShutdown.wf := by
  unfold State.endShutdown
  extract_lets +onlyGivenNames s1 s2 _ s3
  have h3 : s3.wf := .data (.forEach h.putB.put fun _ _ hu => hu.putB)
  refine .ite h3 ?_
  extract_lets +onlyGivenNames s4 back _ s5
  have h4 : s4.wf := .ite h3.updIb.ibSoftStart h3.leaveKeepAlive
  exact .raise (.ite (.data h4) h4)

theorem State.wf.cool {hot : Bool} (h : s.wf) : (s.cool hot).wf := .put (.data h)

theorem State.wf.coolAll (h : s.wf) : s.coolAll.wf := h.cool

theorem State.wf.judgeShutdown {now : List Nat} (h : s.wf) : (s.judgeShutdown now).wf := by
  unfold State.judgeShutdown
  extract_lets +onlyGivenNames hot _ s1
  have h1 : s1.wf := .data h
  refine .ite h1.coolAll ?_
  split
  · exact h1
  · exact .ite h1 (.beginShutdown (.foldl h1 fun _ _ hu => hu.putB))

theorem canonical_execSiteReading {raws : List Int} (h : s.wf) : Canonical (execSiteReading raws s) := by
  refine .next (.ite h ?_)
  extract_lets +onlyGivenNames s1 s2 now s3
  have h3 : s3.wf := .crossCheck (.showHottest (.forEach (.forEach h fun _ _ hu => hu.takeRaw) fun _ _ hu => hu.storeValue))
  exact .ite (.judgeShutdown (.forEach h3 fun _ _ hu => hu.controlSite)) (.ite h3.coolAll h3)

theorem State.wf.monumentSite {raw : Int} {t : Nat} (h : s.wf) : (s.monumentSite raw t).wf := by
  unfold State.monumentSite
  extract_lets +onlyGivenNames deep s1 v hot s2 above s3
  have h2 : s2.wf := .updSite (.ite h.takeRaw h)
  exact .ite (.ite (.ite h2.cool h2) h2) (.ite h2.putB.beginShutdown.raise h2)

theorem canonical_execThermalRestart (h : s.wf) : Canonical (execThermalRestart s) := by
  refine .next ?_
  split
  · exact h
  · exact .ite h.endShutdown h

theorem State.wf.restoreTcal (h : s.wf) : s.restoreTcal.wf := by
  unfold State.restoreTcal
  split
  · exact h
  · exact h.putI.putB

theorem canonical_execThermalCalDone {tcal : Int} {bad : List Nat} (h : s.wf) : Canonical (execThermalCalDone tcal bad s) :=
  .next (.ite h (.foldl (.forEach (.restoreTcal (.data h)) fun _ _ hu => hu.updSite) fun _ _ hu => hu.putB.raise))

theorem State.wf.clearSuspectSites {half m : Nat} (h : s.wf) : (s.clearSuspectSites half m).wf := .foldl h fun _ _ hu => .ite hu.setSuspect.updSite hu

theorem State.wf.correct {i : Nat} {temp : Int} (h : s.wf) : (s.correct i temp).wf := h.putI

theorem canonical_execRefCorrectionUpdate (h : s.wf) : Canonical (execRefCorrectionUpdate s) := .next (.ite (.forEach h fun _ _ hu => hu.correct) h)

/-! ### Capping -/

theorem State.wf.updCap {f : CapHid → CapHid} (h : s.wf) : (s.updCap f).wf := .data h

theorem State.wf.updCls {k : Nat} {f : ClassHid → ClassHid} (h : s.wf) : (s.updCls k f).wf := h.updCap

theorem State.wf.takeShare {n : Nat} (h : s.wf) : (s.takeShare n).wf := .data h

theorem State.wf.starve {dem bud : List Nat} (h : s.wf) : (s.starve dem bud).wf := .foldl h fun _ _ hu => hu.updCls

theorem State.wf.age {a : Int} {dem flr : List Nat} (h : s.wf) : (s.age a dem flr).1.wf :=
  .foldl (.starve (.foldl h fun _ _ hu => hu.updCls)) fun _ _ hu => hu.raiseIf

theorem State.wf.controlClass {ps : List DomPow} {bud : List Nat} {k : Nat} (h : s.wf) : (s.controlClass ps bud k).wf :=
  .raiseIf (.foldl h.put.put.putB.updCls.updCap.putB.put fun _ _ hu => hu.put)

theorem State.wf.addModels {ps : List DomPow} (h : s.wf) : (s.addModels ps).wf := .data h

theorem State.wf.addSums {ps : List DomPow} (h : s.wf) : (s.addSums ps).wf := .updCap (.foldl h fun _ _ hu => hu.updCls)

theorem State.wf.takeEstimate {ps : List DomPow} {est : Nat} (h : s.wf) : (s.takeEstimate ps est).wf :=
  .data h.addModels.addSums.put.updCap

theorem State.wf.takeBudget {est : Nat} (h : s.wf) : (s.takeBudget est).wf := by
  unfold State.takeBudget
  extract_lets +onlyGivenNames s1 b s2
  have h1 : s1.wf := by
    unfold s1
    split
    · exact h
    · exact h.put.updCap
  exact h1.put.updCap.raiseIf

theorem State.wf.noteDerate {ps : List DomPow} (h : s.wf) : (s.noteDerate ps).wf := .foldl h.updCap fun _ _ hu => hu.raiseIf

theorem State.wf.showClasses {dem bud : List Nat} {unc : Nat} (h : s.wf) : (s.showClasses dem bud unc).wf :=
  .put (.put (.foldl h fun _ _ hu => hu.put.put))

theorem State.wf.tally (h : s.wf) : s.tally.wf :=
  .foldl (.put (.foldl h.takeEstimate.takeBudget.noteDerate.age.showClasses.updCap fun _ _ hu => hu.controlClass)) fun _ _ hu => hu.abandonRaise

theorem canonical_execTallyUpdate (h : s.wf) : Canonical (execTallyUpdate s) := .next (.ite h.tally h)

theorem canonical_execActivityIncrement {c : Fin 64} {n tag : Fin 16} (h : s.wf) : Canonical (execActivityIncrement c n tag s) :=
  .next (.ite h.updCap h)

theorem State.wf.reconcile {k : Nat} (h : s.wf) : (s.reconcile k).wf := h.put.updCls.raiseIf

theorem State.wf.showMeas {vi : Int} {frames : Nat} (h : s.wf) : (s.showMeas vi frames).wf := .ite h h.put

theorem canonical_execReconcile {s0 : State} (h : s0.wf) : Canonical (execReconcile s0) := by
  unfold execReconcile
  extract_lets +onlyGivenNames s
  have h' : s.wf := h.showMeas
  exact .next (.ite h' (.updCap (.forEach h' fun _ _ hu => hu.reconcile)))

theorem canonical_execCapTrimUpdate (h : s.wf) : Canonical (execCapTrimUpdate s) := .next (.ite h.showMeas h.showMeas.put.updCap)

theorem canonical_execDieLimitSwitch (h : s.wf) : Canonical (execDieLimitSwitch s) := .next (.ite (.ite h.updCap h) (.ite h.updCap h))

theorem canonical_execGradeStepStart {d : Fin 32} (h : s.wf) : Canonical (execGradeStepStart d s) := by
  refine .next (.ite h ?_)
  split
  · exact .ite h.updDom h.abandonRaise
  · exact .ite h (.ite h.gradeTarget.updDom.afterStep h.updDom)

theorem State.wf.gradeFails {d : Nat} {g : GradeStep} (h : s.wf) : (s.gradeFails d g).wf :=
  .ite h.updDom.putB.markSet.raiseIf h.updDom

theorem canonical_execGrdAck {d : Fin 32} {err : Bool} (h : s.wf) : Canonical (execGrdAck d err s) := by
  refine .next (.ite h ?_)
  split
  · exact h.addSat
  · refine .ite h.addSat (.ite h.gradeFails ?_)
    extract_lets +onlyGivenNames s1
    have h1 : s1.wf := h.put.updDom
    exact .ite h1 h1.gradeTarget.afterStep

theorem canonical_execGradeAckTimeout {d : Fin 32} (h : s.wf) : Canonical (execGradeAckTimeout d s) := by
  refine .next ?_
  split
  · exact h
  · split
    · exact h
    · exact .ite h.gradeFails h

theorem State.wf.derateTract {t : Nat} (h : s.wf) : (s.derateTract t).wf := h.updTract

theorem canonical_execDerateUpdate (h : s.wf) : Canonical (execDerateUpdate s) := .next (.forEach h fun _ _ hu => hu.derateTract)

theorem canonical_execThrottleN {active : Bool} (h : s.wf) : Canonical (execThrottleN active s) := .next (.ite h h.updCap)

theorem canonical_execThrStuck (h : s.wf) : Canonical (execThrStuck s) := by
  refine .next ?_
  split
  · exact h
  · exact .ite h.updCap.raiseIf h

end Sys2Proof.Machine
end

section
/-!
The canonical form under the converters, the power states, energy and telemetry, and the traverse.
-/

namespace Sys2Proof.Machine

variable {s : State}

/-! ### Converters -/

theorem canonical_execRefReady (h : s.wf) : Canonical (execRefReady s) := by
  unfold execRefReady
  extract_lets +onlyGivenNames ready s1
  have h1 : s1.wf := .ite h.putB h
  exact .next (.ite h1.putB h1)

theorem State.wf.beginSeq {k : Nat} {inj : Bool} (h : s.wf) : (s.beginSeq k inj).wf :=
  .ite (.updConv (.foldl h.putB.putB fun _ _ hu => hu.putB)) (.updConv (.foldl h.putB.putB.put fun _ _ hu => hu.putB))

theorem State.wf.startConv {k at_ : Nat} {u : ConvFor} (h : s.wf) : (s.startConv k at_ u).wf := h.updConv

theorem State.wf.startUser {k at_ : Nat} (h : s.wf) : (s.startUser k at_).wf := by
  refine .ite (.ite h.startConv h) ?_
  split
  · exact .startConv (.ite h h.beginSeq)
  · exact .startConv (.updConv (.ite h h.beginSeq))
  · exact .ite h.updConv h

theorem State.wf.cutIn {k : Nat} (h : s.wf) : (s.cutIn k).wf := .ite h.beginSeq.updConv h

theorem State.wf.convFree {k : Nat} (h : s.wf) : (s.convFree k).wf := by
  unfold State.convFree
  extract_lets +onlyGivenNames s1 c
  have h1 : s1.wf := h.cutIn
  exact .ite h1.startUser h1

theorem State.wf.becomeDue {k : Nat} {inj : Bool} (h : s.wf) : (s.becomeDue k inj).wf := .ite h h.putB

theorem State.wf.trigger {k : Nat} {inj : Bool} (h : s.wf) : (s.trigger k inj).wf := .ite h (.ite h.addSat.raise (.ite h.becomeDue h.updConv))

theorem State.wf.triggerAll {reg inj : Nat → Bool} (h : s.wf) : (s.triggerAll reg inj).wf :=
  .ite (.trigger (.ite (.trigger (.ite (.trigger (.ite h.trigger h)) (.ite h.trigger h))) (.ite (.trigger (.ite h.trigger h))
    (.ite h.trigger h)))) (.ite (.trigger (.ite (.trigger (.ite h.trigger h)) (.ite h.trigger h))) (.ite (.trigger (.ite h.trigger h))
      (.ite h.trigger h)))

theorem canonical_execSeqTrigger {src : TrigSrc} (h : s.wf) : Canonical (execSeqTrigger src s) := by
  refine .next ?_
  split
  · exact .ite h.triggerAll h
  · exact .ite h.triggerAll h
  · exact .ite h.updAdc.triggerAll h

theorem canonical_execAdcTimerExpiry (h : s.wf) : Canonical (execAdcTimerExpiry s) := by
  refine .next ?_
  split
  · exact h
  · exact .ite h.updAdc.triggerAll h

theorem canonical_execSeqDue {k : Fin 2} {inj : Bool} (h : s.wf) : Canonical (execSeqDue k inj s) := by
  refine .next ?_
  split
  · exact h
  · exact .ite h.updConv.becomeDue h

theorem State.wf.regResult {k : Nat} {nv : Int} {refNv : Nat} (h : s.wf) : (s.regResult k nv refNv).wf := by
  unfold State.regResult
  extract_lets +onlyGivenNames i ch code s2
  have h2 : s2.wf := h.setReg.updConv
  exact .ite h2.put h2.putB.put.raise

theorem State.wf.injResult {k : Nat} {nv : Int} {refNv : Nat} (h : s.wf) : (s.injResult k nv refNv).wf := by
  unfold State.injResult
  extract_lets +onlyGivenNames j ch code s1
  have h1 : s1.wf := h.setReg
  refine .ite h1.updConv ?_
  extract_lets +onlyGivenNames s2 s3 s4
  have h2 : s2.wf := h1.putB
  exact .raise (.updConv (.ite h2.addSat h2))

theorem State.wf.calResult {k : Nat} {nv : Int} {refNv : Nat} (h : s.wf) : (s.calResult k nv refNv).wf := h.updConv

theorem State.wf.calEnd {k : Nat} (h : s.wf) : (s.calEnd k).wf := by
  unfold State.calEnd
  extract_lets +onlyGivenNames c m key mean s1
  have h1 : s1.wf := h.updConv
  refine .ite h (.ite h1.updAdc ?_)
  extract_lets +onlyGivenNames m0 s2
  have h2 : s2.wf := h1.updAdc
  split
  · exact h2.put.putI
  · exact h2.updAdc.raise

theorem canonical_execAdcCalDone (h : s.wf) : Canonical (execAdcCalDone s) := .next (.ite h.calEnd.calEnd.putB.raise h)

theorem State.wf.calGo (h : s.wf) : s.calGo.wf :=
  .ite (.raise (.updAdc (.foldl h fun _ _ hu => hu.setReg))) (.putB (.updAdc (.foldl h.raiseIf fun _ _ hu => hu.updConv)))

theorem State.wf.closureEnd {a b : Nat} (h : s.wf) : (s.closureEnd a b).wf := h.setReg.updAdc.raiseIf

theorem State.wf.serviceConversion {k : Nat} {nv : Int} {refNv : Nat} {u : AdcUse} (h : s.wf) : (s.serviceConversion k nv refNv u).wf := by
  unfold State.serviceConversion
  extract_lets +onlyGivenNames code
  split
  · exact h.ibReading
  · exact h.vinReading
  · exact h.currentReading
  · exact h.phaseTempReading
  · exact h.updIb
  · refine .ite h.updAdc ?_
    split
    · exact h
    · exact h.updAdc.closureEnd
  · exact h

theorem State.wf.convResult {k : Nat} {nv : Int} {refNv : Nat} {u : ConvFor} (h : s.wf) : (s.convResult k nv refNv u).wf := by
  unfold State.convResult
  split
  · exact h.serviceConversion
  · exact .ite h.calResult h
  · exact h.injResult
  · exact h.regResult

theorem canonical_execConversionDone {k : Fin 2} {nv : Int} {refNv : Nat} (h : s.wf) : Canonical (execConversionDone k nv refNv s) := by
  refine .next ?_
  split
  · exact h
  · refine .ite h ?_
    extract_lets +onlyGivenNames s1
    have h1 : s1.wf := h.updConv.convResult
    exact .ite h1 h1.convFree

theorem State.wf.noteEdges (h : s.wf) : s.noteEdges.wf := .ite (.forEach h fun _ _ hu => .ite hu.updPhase hu) h

theorem State.wf.noteMs (h : s.wf) : s.noteMs.wf := h.updAdc

theorem State.wf.serviceTick (h : s.wf) : s.serviceTick.wf := .ite (.ite h.updIb h) (.ite h.updIb h)

theorem State.wf.convTick {k : Nat} (h : s.wf) : (s.convTick k).wf := by
  unfold State.convTick
  extract_lets +onlyGivenNames s1
  have h1 : s1.wf := by
    refine .ite h.convFree ?_
    split
    · exact h
    · exact .ite h (.ite h.startUser h.startConv)
  exact .ite h1.setReg h1

theorem State.wf.adcTick (h : s.wf) : s.adcTick.wf := by
  unfold State.adcTick
  extract_lets +onlyGivenNames s1
  have h1 : s1.wf := h.noteMs.updAdc
  exact .ite h1 h1.noteEdges.serviceTick.convTick.convTick

theorem State.wf.writeSeq {k : Nat} {inj : Bool} {v : Word} (h : s.wf) : (s.writeSeq k inj v).wf := by
  unfold State.writeSeq
  extract_lets +onlyGivenNames _ stored s1
  have h1 : s1.wf := .ite h.raise h.setReg
  exact .ite h1.trigger h1

theorem State.wf.writeSlot {k : Nat} {inj : Bool} {i : Nat} {v : Word} (h : s.wf) : (s.writeSlot k inj i v).wf := .ite h.raise h.setReg

theorem State.wf.writeRef {absent : Bool} {ref : Nat} (h : s.wf) : (s.writeRef absent ref).wf := .ite h.raise (.ite h h.put.put.putB.updAdc)

theorem State.wf.writeCal {go : Bool} {w : Word} (h : s.wf) : (s.writeCal go w).wf := by
  unfold State.writeCal
  extract_lets +onlyGivenNames s1
  have h1 : s1.wf := h.setReg
  exact .ite h1 (.ite h.raise (.ite h1 h1.calGo))

theorem State.wf.writeTimer {n : Nat} (h : s.wf) : (s.writeTimer n).wf := h.put.updAdc

/-! ### Power states -/

theorem State.wf.updPst {f : PstHid → PstHid} (h : s.wf) : (s.updPst f).wf := .data h

theorem State.wf.coreWake (h : s.wf) : s.coreWake.wf := by
  unfold State.coreWake
  extract_lets +onlyGivenNames _ s1
  have h1 : s1.wf := .data h
  exact .ite h1.enterRun h1

theorem State.wf.coreAtWake (h : s.wf) : s.coreAtWake.wf := .data h.putB.put

theorem State.wf.beginWake {code : Nat} (h : s.wf) : (s.beginWake code).wf := by
  unfold State.beginWake
  extract_lets +onlyGivenNames s1 s2 _ s3
  have h3 : s3.wf := .data h.moveRef.put.updPst.coreAtWake
  exact .ite h3.restoreMems.ibRamp h3

theorem State.wf.beginOffWake {code : Nat} (h : s.wf) : (s.beginOffWake code).wf :=
  .raise (.leaveKeepAlive (.refreshIb (.foldl h.moveRef.put.setAon.updPst.setReg.putB.put.restoreTcal.setReg fun _ _ hu => hu.powerUp)))

theorem State.wf.resumeDomains (h : s.wf) : s.resumeDomains.wf :=
  .foldl h fun _ _ hu => .ite hu (.ite (.foldl (.foldl hu fun _ _ hu' => .ite hu'.seedStart.closeLoop hu') fun _ _ hu' => .ite hu'.setMode hu')
    (.ite hu.switchOn hu))

theorem State.wf.abortEntry {code : Nat} (h : s.wf) : (s.abortEntry code).wf := by
  unfold State.abortEntry
  extract_lets +onlyGivenNames s1 s2 _ s3
  have h3 : s3.wf := .data h.put.putB.raise.updPst
  exact .ite (.resumeDomains (.forcedEnds (.ite h3.enterRun h3))) h3.coreAtWake.updPst

theorem State.wf.coincide {code : Nat} (h : s.wf) : (s.coincide code).wf := by
  unfold State.coincide
  split
  · exact h
  · exact .ite h.put h

theorem State.wf.wakeEvent {code : Nat} (h : s.wf) : (s.wakeEvent code).wf :=
  .ite (.ite h (.ite h h.abortEntry)) (.ite h.coincide (.ite (.ite h h.beginOffWake) h.beginWake))

theorem State.wf.wakeBy {code : Nat} (h : s.wf) : (s.wakeBy code).wf := .ite h.wakeEvent h

theorem State.wf.wakeLatch (h : s.wf) : s.wakeLatch.wf := .ite h.wakeBy h

theorem State.wf.recheckLevels (h : s.wf) : s.recheckLevels.wf := by
  refine .ite (.ite h.wakeEvent ?_) (.ite (.ite h.wakeLatch.wakeEvent h.wakeLatch) (.ite ?_ h))
  · split
    · exact h
    · exact h.wakeEvent
  · split
    · exact h
    · exact h.wakeEvent

theorem canonical_execWakeN {active : Bool} (h : s.wf) : Canonical (execWakeN active s) := by
  refine .next ?_
  extract_lets +onlyGivenNames _ s1 s2
  have h2 : s2.wf := .updPst (.data h)
  exact .ite h2 (.ite h2.wakeBy h2)

theorem canonical_execWakeStuck (h : s.wf) : Canonical (execWakeStuck s) := by
  refine .next ?_
  split
  · exact h
  · exact .ite h.updPst.raise h

theorem canonical_execWakeTimer (h : s.wf) : Canonical (execWakeTimer s) := by
  refine .next ?_
  split
  · exact h
  · exact .ite h.updPst.wakeBy h

theorem State.wf.pmbAnswer {ack : Bool} {bs : List Byte} {pec : Option Byte} (h : s.wf) : (s.pmbAnswer ack bs pec).wf := .data h

theorem canonical_execPmbusAddressMatch (h : s.wf) : Canonical (execPmbusAddressMatch s) := .next (.ite h.pmbAnswer h.pmbAnswer.updPst.wakeBy)

theorem canonical_execTraverseWake (h : s.wf) : Canonical (execTraverseWake s) := by
  refine .next (.ite ?_ h)
  extract_lets +onlyGivenNames s1
  have h1 : s1.wf := h.wakeBy
  exact .ite (.data h1) h1

theorem State.wf.wakeFrame (h : s.wf) : s.wakeFrame.wf := .data h

theorem canonical_execFastOscillatorStable (h : s.wf) : Canonical (execFastOscillatorStable s) := by
  refine .next (.ite h ?_)
  extract_lets +onlyGivenNames _ _ s1
  have h1 : s1.wf := .data h
  exact .ite h1.wakeFrame h1

theorem State.wf.clockBack (h : s.wf) : s.clockBack.wf := .data h.putB

theorem canonical_execPllLock (h : s.wf) : Canonical (execPllLock s) := by
  refine .next (.ite h ?_)
  extract_lets +onlyGivenNames _ _ s0 s1
  have h1 : s1.wf := .clockBack (.adcStart (.updIb (.data h)))
  exact .ite (.updPst (.ite h1.originate h1)) h1.originate.resumeDomains.forcedEnds.checkRun

theorem State.wf.enterColumn {target d : Nat} (h : s.wf) : (s.enterColumn target d).wf := .ite (.ite h.beginStop h) (.ite h.beginRetention h)

theorem State.wf.beginEntry {target : Nat} {forced : Bool} (h : s.wf) : (s.beginEntry target forced).wf :=
  .checkEntry (.putB (.foldl h.soClose.updPst.putB fun _ _ hu => hu.enterColumn))

theorem State.wf.requestState {target : Nat} (h : s.wf) : (s.requestState target).wf := .ite h.raise h.beginEntry

theorem State.wf.keepCell {old : State} {c : Nat} (h : s.wf) : (s.keepCell old c).wf := by
  unfold State.keepCell
  extract_lets +onlyGivenNames s1
  have h1 : s1.wf := .ite h.put.put h
  exact .ite h1.putB.put h1

theorem State.wf.keepMarks {old : State} (h : s.wf) : (s.keepMarks old).wf :=
  .setReg (.setReg (.forEach (.forEach (.forEach h fun _ _ hu => hu.keepCell) fun _ _ hu => hu.setReg.setReg) fun _ _ hu => .putB (.putB (.setReg
    (.ite hu.put hu)))))

theorem State.wf.keepEngines {old : State} (h : s.wf) : (s.keepEngines old).wf := by
  unfold State.keepEngines
  extract_lets +onlyGivenNames w e s1
  have h1 : s1.wf := h.putB.putB.putB
  exact .ite (.data h1.allOnSurvivor) h1

theorem State.wf.enterOff (h : s.wf) : s.enterOff.wf := by
  unfold State.enterOff
  extract_lets +onlyGivenNames s1 thm vin s2 s3 s4 stn dom
  have h4 : s4.wf := h.allOff.keepAlive.clearBooks.resetRegs.setReg.setReg.setReg.keepMarks.keepEngines
  obtain ⟨hregs, ⟨hfw, hdat, -⟩, -, -, hstns, -, hdoms⟩ := h4
  exact ⟨hregs, ⟨hfw, hdat, rfl, rfl, rfl, rfl⟩, rfl, rfl, tblWf_map_filter ({} : StnHid) (fun n => { disarmed := n.disarmed }) _ 0 hstns, rfl,
    tblWf_map_filter ({} : DomHid) (fun d => { commanded := d.commanded }) _ 0 hdoms⟩

theorem State.wf.retainMems (h : s.wf) : s.retainMems.wf := .data h.setReg

theorem State.wf.commitEntry (h : s.wf) : s.commitEntry.wf := by
  unfold State.commitEntry
  extract_lets +onlyGivenNames t s1 count timer s2 _ _ s3 s4
  have h3 : s3.wf := .data h.moveRef.putB.setAon.updPst.adcStop
  have h4 : s4.wf := by
    unfold s4
    clear_value t
    split
    · exact h3.restartSites.retainMems.updIb
    · exact h3.enterOff
    · exact h3
  exact h4.recheckLevels

theorem canonical_execEntryCommit (h : s.wf) : Canonical (execEntryCommit s) := by
  refine .next ?_
  split
  · exact h
  · exact .ite h.commitEntry h

theorem canonical_execCoreWait (h : s.wf) : Canonical (execCoreWait s) := by
  refine .next (.ite ?_ h)
  extract_lets +onlyGivenNames _ s1
  have h1 : s1.wf := .data h
  exact .ite h1.setAon h1

theorem State.wf.sampleRule {x : Option Int} {r : Nat} (h : s.wf) : (s.sampleRule x r).wf := by
  unfold State.sampleRule
  extract_lets +onlyGivenNames fresh old v y s1 thr hyst cmp was live hit run flip now_ s2
  have h2 : s2.wf := h.putI.updPst.put.updPst
  exact .ite h2.raise h2

theorem State.wf.ruleActions (h : s.wf) : s.ruleActions.wf := .ite h.beginEntry (.ite h.wakeBy h)

theorem canonical_execMonumentSample {vblkMv ibMv : Nat} {raws : List Int} (h : s.wf) : Canonical (execMonumentSample vblkMv ibMv raws s) := by
  refine .next (.ite h ?_)
  extract_lets +onlyGivenNames k site s1 deep val hot s2 s3 s4
  have h2 : s2.wf := .ibSoftStartEnd (.updPst (.foldl h fun _ _ hu => hu.monumentSite))
  have h3 : s3.wf := .ite (.foldl h2 fun _ _ hu => hu.sampleRule) h2
  exact .recheckLevels (.ruleActions (.ite (.foldl h3 fun _ _ hu => .ite hu.correct hu) h3))

/-! ### Energy and telemetry -/

theorem State.wf.updNrg {f : NrgHid → NrgHid} (h : s.wf) : (s.updNrg f).wf := .data h

theorem State.wf.setAcc {b x : Nat} (h : s.wf) : (s.setAcc b x).wf := h.updNrg.setReg

theorem State.wf.addAcc {x b : Nat} (h : s.wf) : (s.addAcc x b).wf := h.setAcc.raiseIf

theorem State.wf.split (h : s.wf) : s.split.wf := .raiseIf (.forEach h.put fun _ _ hu => hu.addAcc)

theorem State.wf.showCurrent {d : Nat} (h : s.wf) : (s.showCurrent d).wf := .ite h.setReg h.putI.putI

theorem State.wf.showWatch {w : Nat} (h : s.wf) : (s.showWatch w).wf := by
  unfold State.showWatch
  split
  · exact h
  · split
    · exact h.putB
    · exact h.setReg.updNrg.setReg

theorem State.wf.derateCell {c rm rr : Nat} (h : s.wf) : (s.derateCell c rm rr).wf := h.putB.setReg.markSet.raiseD

theorem State.wf.judgeCell {old : State} {c : Nat} (h : s.wf) : (State.judgeCell old c s).wf := by
  unfold State.judgeCell
  split
  · exact h.putB
  · extract_lets +onlyGivenNames rm s1 excess n s2
    have h1 : s1.wf := h.putB.put
    have h2 : s2.wf := h1.put
    exact .ite h1 (.ite h2.derateCell h2)

theorem State.wf.clearSflag {k m : Nat} (h : s.wf) : (s.clearSflag k m).wf := .foldl h.setReg fun _ _ hu => .ite hu.putB.put hu

theorem State.wf.gatherFlags (h : s.wf) : s.gatherFlags.wf := .ite h h.updNrg

theorem State.wf.openMs (h : s.wf) : s.openMs.wf := h.updNrg

theorem State.wf.keepStatus {page : Nat} (h : s.wf) : (s.keepStatus page).wf := .data h

theorem State.wf.snapshot {s0 : State} (h : s0.wf) : (State.snapshot s0).wf := .data (.forEach h fun _ _ hu => hu.keepStatus)

theorem State.wf.closeMs (h : s.wf) : s.closeMs.wf := by
  unfold State.closeMs
  extract_lets +onlyGivenNames m nomodel wrap s1 s2 s3 s4
  have h4 : s4.wf := .forEach (.forEach (.forEach h.split fun _ _ hu => hu.showCurrent) fun _ _ hu => hu.showWatch) fun _ _ hu => hu.judgeCell
  exact .ite h4.snapshot.updNrg h4.snapshot

theorem State.wf.skipMs (h : s.wf) : s.skipMs.wf := .raise (.foldl h fun _ _ hu => .ite hu.setAcc hu)

theorem canonical_execMsBoundary (h : s.wf) : Canonical (execMsBoundary s) := .next (.ite h (.openMs (.ite h.closeMs h.skipMs)))

theorem State.wf.dropRecord (h : s.wf) : s.dropRecord.wf := h.addSat.raise

theorem State.wf.keepRecord {r : List Byte} {n : Nat} (h : s.wf) : (s.keepRecord r n).wf :=
  .ite (.foldl (h.withTele (memWf_putBytes _ _ _ h.tele)) fun _ _ hu => hu.markGood) h

theorem canonical_execTlmRecordIssue (h : s.wf) : Canonical (execTlmRecordIssue s) := by
  refine .next ?_
  split
  · exact h
  · extract_lets +onlyGivenNames n bytes s1
    have h1 : s1.wf := h.updNrg.put.keepRecord
    exact .ite h1.dropRecord h1.updNrg

theorem canonical_execTlmWriteResponse {ok : Bool} (h : s.wf) : Canonical (execTlmWriteResponse ok s) := by
  refine .next ?_
  split
  · exact h
  · extract_lets +onlyGivenNames s1
    have h1 : s1.wf := h.updNrg
    exact .ite h1.raise h1.dropRecord

theorem State.wf.abandonWrites (h : s.wf) : s.abandonWrites.wf := .foldl h.updNrg fun _ _ hu => hu.dropRecord

theorem State.wf.askClear {m : Nat} (h : s.wf) : (s.askClear m).wf := h.updNrg

/-! ### The traverse -/

theorem State.wf.updTrv {f : TrvHid → TrvHid} (h : s.wf) : (s.updTrv f).wf := .data h

theorem State.wf.showWrap (h : s.wf) : s.showWrap.wf := h.putB

theorem State.wf.setLaneBit {k : Nat} {b : Bool} (h : s.wf) : (s.setLaneBit k b).wf := h.put

theorem State.wf.forward {l : Nat} {w : Word64} (h : s.wf) : (s.forward l w).wf := h.enqueue

theorem State.wf.forwardBoth {l : Nat} {w : Word64} (h : s.wf) : (s.forwardBoth l w).wf := by
  unfold State.forwardBoth
  split
  · exact h
  · exact .ite h h.forward

theorem State.wf.remember {w : Word64} (h : s.wf) : (s.remember w).wf := h.updTrv

theorem State.wf.heard {w : Word64} (h : s.wf) : (s.heard w).wf := .ite h.updTrv h

theorem State.wf.home {l : Nat} {w : Word64} {own : State → State} (h : s.wf) (hown : ∀ u, u.wf → (own u).wf) : (State.home l w own s).wf :=
  .ite (hown _ h) h.forward

theorem State.wf.arrive {l ty : Nat} {w : Word64} {own act pass : State → State} (h : s.wf) (hown : ∀ u, u.wf → (own u).wf)
    (hact : ∀ u, u.wf → (act u).wf) (hpass : ∀ u, u.wf → (pass u).wf) : (s.arrive l ty w own act pass).wf := by
  refine .ite h (.ite (hown _ h) ?_)
  extract_lets +onlyGivenNames s1
  have h1 : s1.wf := h.heard
  exact .ite (hpass _ h1) (hpass _ (hact _ h1.remember))

theorem State.wf.stepTime {ns : Int} (h : s.wf) : (s.stepTime ns).wf := .data h

theorem State.wf.takeOffset {o : Int} (h : s.wf) : (s.takeOffset o).wf := by
  unfold State.takeOffset
  extract_lets +onlyGivenNames ns s step
  have h' : s.wf := h.putI
  exact .ite (.ite h' (.ite h'.updTrv h'.putB.raise.updTrv.stepTime)) h'.updTrv.stepTime.putB

theorem canonical_execSync {lane : Lane} {w : Word64} (h : s.wf) : Canonical (execSync lane w s) := by
  refine .next (.arrive h (fun _ hu => .home hu fun _ hu' => hu') (fun _ hu => ?_) fun _ hu => hu.forward)
  extract_lets +onlyGivenNames s
  have h' : s.wf := hu.updTrv
  exact .ite h' h'.takeOffset

theorem State.wf.sendAlign (h : s.wf) : s.sendAlign.wf := h.updTrv.originate

theorem canonical_execSyncSend (h : s.wf) : Canonical (execSyncSend s) := by
  refine .next (.ite ?_ h)
  extract_lets +onlyGivenNames s1
  have h1 : s1.wf := h.updTrv.originate
  exact .ite h1.sendAlign h1

theorem canonical_execAlign {lane : Lane} {w : Word64} (h : s.wf) : Canonical (execAlign lane w s) :=
  .next (.arrive h (fun _ hu => hu) (fun _ hu => hu.updTrv) fun _ hu => hu.forwardBoth)

theorem canonical_execPeriodAlign (h : s.wf) : Canonical (execPeriodAlign s) := by
  refine .next ?_
  split
  · exact h
  · exact .ite (.putB (.data h)) h

theorem State.wf.sendEcho {l : Nat} (h : s.wf) : (s.sendEcho l).wf := h.updTrv.originate

theorem canonical_execEcho {lane : Lane} {w : Word64} (h : s.wf) : Canonical (execEcho lane w s) := by
  refine .next (.ite h (.ite h.heard.enqueueOn ?_))
  split
  · exact h
  · refine .ite h ?_
    extract_lets +onlyGivenNames n sum s1
    have h1 : s1.wf := h.updTrv
    exact .ite h1.sendEcho h1.put

theorem canonical_execLaneUp {lane : Lane} (h : s.wf) : Canonical (execLaneUp lane s) := .next (.ite h.setLaneBit.updTrv.sendEcho h)

theorem State.wf.reroute {l : Nat} (h : s.wf) : (s.reroute l).wf := .foldl h.updTrv fun _ _ hu => hu.enqueue

theorem State.wf.hushLane {l : Nat} (h : s.wf) : (s.hushLane l).wf := h.setLaneBit.updTrv

theorem State.wf.breakHop {l : Nat} (h : s.wf) : (s.breakHop l).wf := h.updTrv.setLaneBit.hushLane.showWrap.reroute.raise

theorem State.wf.retryFails {l : Nat} (h : s.wf) : (s.retryFails l).wf := by
  unfold State.retryFails
  extract_lets +onlyGivenNames _ s1
  have h1 : s1.wf := h.updTrv.setLaneBit
  exact .ite h1 h1.hushLane

theorem State.wf.raiseLane {l : Nat} (h : s.wf) : (s.raiseLane l).wf := .ite h.raise h.raise

theorem State.wf.laneFault {l : Nat} (h : s.wf) : (s.laneFault l).wf := .ite (.ite h.raiseLane.retryFails h) (.ite h.setLaneBit h.raiseLane.breakHop)

theorem canonical_execLaneFault {lane : Lane} (h : s.wf) : Canonical (execLaneFault lane s) := .next (.ite h.laneFault h)

theorem canonical_execBadFrame {f : BadFrame} (h : s.wf) : Canonical (execBadFrame f s) := by
  refine .next (.ite ?_ h)
  extract_lets +onlyGivenNames s1
  have h1 : s1.wf := h.addSat.raise
  refine .ite ?_ h1
  extract_lets +onlyGivenNames s2
  have h2 : s2.wf := h1.updTrv
  exact .ite h2.laneFault h2

theorem canonical_execHopRetry (h : s.wf) : Canonical (execHopRetry s) :=
  .next (.ite (.ite (.updTrv (.setLaneBit (.ite h.setLaneBit.updTrv h))) (.ite h.setLaneBit.updTrv h)) h)

theorem State.wf.endHopRetry (h : s.wf) : s.endHopRetry.wf := .ite (.hushLane (.ite h.hushLane h)) (.ite h.hushLane h)

theorem canonical_execHopRejoin {lane : Lane} (h : s.wf) : Canonical (execHopRejoin lane s) := .next (.ite h.updTrv.setLaneBit.showWrap h)

theorem State.wf.startTraverse (h : s.wf) : s.startTraverse.wf := h.updTrv.setLaneBit.setLaneBit.put

theorem canonical_execRingStart (h : s.wf) : Canonical (execRingStart s) := .next (.ite h.updTrv.put.putB.put.putB h)

theorem canonical_execSumLatch (h : s.wf) : Canonical (execSumLatch s) := .next (.ite h.updTrv.envelopeUpdate h)

theorem canonical_execSumSend (h : s.wf) : Canonical (execSumSend s) := by
  refine .next ?_
  split
  · exact .ite h.updTrv.originate h
  · exact h

theorem State.wf.showLap {r : RingLap} (h : s.wf) : (s.showLap r).wf := h.putB.putB.put.put.put

theorem State.wf.passSum {l : Nat} {w : Word64} (h : s.wf) : (s.passSum l w).wf := by
  unfold State.passSum
  extract_lets +onlyGivenNames e no d0 f0 note
  split
  · exact .forward (.ite h h.updTrv)
  · exact .ite (.forward (.ite h h.updTrv)) (.originate (.put (.forward (.updTrv (.ite h h.updTrv)))))

theorem State.wf.noteReport {l : Nat} {w : Word64} (h : s.wf) : (s.noteReport l w).wf := by
  unfold State.noteReport
  split
  · exact h
  · refine .ite h ?_
    extract_lets +onlyGivenNames later r1 s1
    have h1 : s1.wf := h.updTrv
    exact .ite h1.showLap h1

theorem State.wf.noteShares {w : Word64} (h : s.wf) : (s.noteShares w).wf := by
  unfold State.noteShares
  extract_lets +onlyGivenNames base slot
  split
  · exact h
  · exact .ite h h.updTrv.showLap

theorem State.wf.follow {src : Nat} (h : s.wf) : (s.follow src).wf := .ite h.updTrv h.put.putB.updTrv.raiseIf

theorem canonical_execSum {lane : Lane} {w : Word64} (h : s.wf) : Canonical (execSum lane w s) := by
  refine .next (.arrive h (fun _ hu => .home hu fun _ hu' => ?_) (fun _ hu => hu.follow) fun _ hu => hu.passSum)
  split
  · exact hu'
  · exact .ite hu'.updTrv hu'

theorem canonical_execReport {lane : Lane} {w : Word64} (h : s.wf) : Canonical (execReport lane w s) := by
  refine .next (.arrive h (fun _ hu => .home hu fun _ hu' => hu') (fun _ hu => ?_) fun _ hu => hu.forward)
  split
  · exact .ite hu hu.noteReport
  · exact .ite hu.updTrv hu

theorem State.wf.sendShares {no : Nat} {share : Nat → Nat} (h : s.wf) : (s.sendShares no share).wf := .forEach h fun _ _ hu => hu.originate

theorem State.wf.completeLap {p : Lap} {d f : Nat} (h : s.wf) : (s.completeLap p d f).wf := by
  unfold State.completeLap
  extract_lets +onlyGivenNames e me figs mantD mantF back ovfD ovfF sumD sumF present cap gone c share joined nx s1 s2 shares s3 s4 s5
  have h5 : s5.wf := h.putB.putB.put.put.put.updTrv.sendShares.takeShare.put.raiseIf
  exact .ite h5.sendAlign h5

theorem canonical_execLapComplete (h : s.wf) : Canonical (execLapComplete s) := by
  refine .next ?_
  split
  · exact .ite h.completeLap h
  · exact h

theorem canonical_execShare {lane : Lane} {w : Word64} (h : s.wf) : Canonical (execShare lane w s) := by
  refine .next (.arrive h (fun _ hu => hu) (fun _ hu => ?_) fun _ hu => hu.forwardBoth)
  extract_lets +onlyGivenNames s k x
  have h' : s.wf := hu.follow.noteShares
  exact .ite h'.takeShare h'

theorem State.wf.setPkgCap {cap : Nat} (h : s.wf) : (s.setPkgCap cap).wf := by
  unfold State.setPkgCap
  extract_lets +onlyGivenNames s1
  have h1 : s1.wf := h.put
  exact .ite h1.updTrv.originate h1

theorem State.wf.changeCap {cap : Nat} (h : s.wf) : (s.changeCap cap).wf := h.putHw.originate

theorem State.wf.answerRelay {r : Relay} {result : Nat} (h : s.wf) : (s.answerRelay r result).wf := by
  unfold State.answerRelay
  split
  · exact h
  · exact h.updChan

theorem State.wf.closeRelay {r : Relay} {result : Nat} (h : s.wf) : (s.closeRelay r result).wf := h.updTrv.answerRelay

theorem canonical_execCap {lane : Lane} {w : Word64} (h : s.wf) : Canonical (execCap lane w s) := by
  refine .next (.arrive h (fun _ hu => hu) (fun _ hu => ?_) fun _ hu => hu.forwardBoth)
  extract_lets +onlyGivenNames s1 s2
  have h1 : s1.wf := hu.putHw
  have h2 : s2.wf := by
    unfold s2
    split
    · exact h1
    · exact h1.closeRelay
  exact h2.follow

theorem canonical_execCapRepeat (h : s.wf) : Canonical (execCapRepeat s) := .next (.ite h.updTrv.originate h)

theorem State.wf.showPend (h : s.wf) : s.showPend.wf := h.put

theorem State.wf.addEpoch {ts cap : Nat} (h : s.wf) : (s.addEpoch ts cap).wf := h.updTrv.showPend

theorem State.wf.takeEpoch {cap ts : Nat} {relayed : Bool} (h : s.wf) : (s.takeEpoch cap ts relayed).1.wf :=
  .fst_ite (.raise (.ite h.originate h)) h.addEpoch.originate.raiseIf

theorem State.wf.submitEpoch {cap ts : Nat} {chan : Option Nat} (h : s.wf) : (s.submitEpoch cap ts chan).wf :=
  .ite h.takeEpoch.put h.put.updTrv.originate

theorem State.wf.submitCap {cap : Nat} {chan : Option Nat} (h : s.wf) : (s.submitCap cap chan).wf := .ite h.setPkgCap h.updTrv.originate

theorem canonical_execEpoch {lane : Lane} {w : Word64} (h : s.wf) : Canonical (execEpoch lane w s) := by
  refine .next (.arrive h (fun _ hu => hu) (fun _ hu => ?_) fun _ hu => hu.forwardBoth)
  extract_lets +onlyGivenNames s1
  have h1 : s1.wf := .ite hu hu.addEpoch
  split
  · exact h1
  · exact h1.put.closeRelay

theorem canonical_execReq {lane : Lane} {w : Word64} (h : s.wf) : Canonical (execReq lane w s) :=
  .next (.arrive h (fun _ hu => .home hu fun _ hu' => hu') (fun _ hu => .ite hu (.ite hu.changeCap hu.takeEpoch)) fun _ hu => .ite hu hu.forward)

theorem canonical_execEpochApply (h : s.wf) : Canonical (execEpochApply s) := by
  refine .next ?_
  split
  · exact h
  · refine .ite ?_ h
    extract_lets +onlyGivenNames old s1 s2
    have h1 : s1.wf := h.updTrv.showPend
    exact .putHw (.ite h1.takeShare h1)

theorem canonical_execRelayTimeout (h : s.wf) : Canonical (execRelayTimeout s) := by
  refine .next ?_
  split
  · exact h
  · exact .closeRelay (.raise (.ite h.put h))

theorem canonical_execPrincipalLost (h : s.wf) : Canonical (execPrincipalLost s) := .next (.ite h.updTrv.raise h)

theorem State.wf.sendClaim (h : s.wf) : s.sendClaim.wf := h.updTrv.originate

theorem canonical_execClaimSend (h : s.wf) : Canonical (execClaimSend s) := by
  refine .next ?_
  split
  · exact h
  · exact .ite h.sendClaim h

theorem canonical_execClaimRetry (h : s.wf) : Canonical (execClaimRetry s) := by
  refine .next ?_
  split
  · exact .ite h.sendClaim h
  · exact h

theorem State.wf.takeOver (h : s.wf) : s.takeOver.wf := h.updTrv.put.putB.originate.originate.raise

theorem canonical_execClaim {lane : Lane} {w : Word64} (h : s.wf) : Canonical (execClaim lane w s) :=
  .next (.arrive h (fun _ hu => .home hu fun _ hu' => .ite hu' (.ite hu'.takeOver hu'.updTrv)) (fun _ hu => hu.updTrv) fun _ hu => hu.forward)

theorem canonical_execFault {lane : Lane} {w : Word64} (h : s.wf) : Canonical (execFault lane w s) :=
  .next (.arrive h (fun _ hu => hu) (fun _ hu => hu.setReg.raiseRemote) fun _ hu => hu.forwardBoth)

theorem canonical_execShed {lane : Lane} {w : Word64} (h : s.wf) : Canonical (execShed lane w s) :=
  .next (.arrive h (fun _ hu => hu) (fun _ hu => .ite hu.beginShedding (.ite hu.orderlyStop (.ite hu.endShedding hu))) fun _ hu => hu.forwardBoth)

theorem State.wf.setAside {die : Nat} {b : Bool} (h : s.wf) : (s.setAside die b).wf := by
  unfold State.setAside
  extract_lets +onlyGivenNames tx s1 s2
  have h1 : s1.wf := .ite (.ite h.updTrv (.ite h.updTrv.setLaneBit.reroute h.updTrv.setLaneBit)) h
  exact .showWrap (.ite (.ite h1.updTrv (.ite h1.updTrv.setLaneBit.reroute h1.updTrv.setLaneBit)) h1)

theorem canonical_execState {lane : Lane} {w : Word64} (h : s.wf) : Canonical (execState lane w s) := by
  refine .next (.arrive h (fun _ hu => hu) (fun _ hu => ?_) fun _ hu => hu.forwardBoth)
  extract_lets +onlyGivenNames s1
  have h1 : s1.wf := hu.updTrv
  exact .ite h1.setAside (.ite h1.setAside h1)

theorem canonical_execQuietWindowEnd (h : s.wf) : Canonical (execQuietWindowEnd s) := .next (.ite h h.releaseHeld)

end Sys2Proof.Machine
end

section
/-!
The canonical form under the mailboxes, the PMBus target, the ports, and the block as a whole.
-/

namespace Sys2Proof.Machine

variable {s : State}

/-! ### Mailboxes -/

theorem State.wf.permitted {n off : Nat} {f : State → State} (h : s.wf) (hf : ∀ u, u.wf → (f u).wf) : (s.permitted n off f).wf :=
  .ite (hf _ h) h.raiseD

theorem State.wf.putRsp {m j : Nat} {ws : List Word} (h : s.wf) : (s.putRsp m j ws).wf := by
  induction ws generalizing s j with
  | nil => exact h
  | cons w ws ih => exact ih h.setReg

theorem State.wf.setDone {m : Nat} (h : s.wf) : (s.setDone m).wf := h.put.markSet

theorem State.wf.conclude {m : Nat} {acc : Bool} {status detail : Nat} {words : List Word} (h : s.wf) : (s.conclude m acc status detail words).wf :=
  h.setReg.updChan.setDone

theorem State.wf.post {m status detail : Nat} {result : List Byte} (h : s.wf) : (s.post m status detail result).wf := h.putRsp.conclude

theorem State.wf.fwRsp {m j : Nat} {v : Word} (h : s.wf) : (s.fwRsp m j v).wf := .ite h.setReg h

theorem State.wf.fwState {m : Nat} {v : Word} (h : s.wf) : (s.fwState m v).wf := .ite h.put (.ite h.conclude (.ite h.conclude h))

theorem State.wf.startRequest {m : Nat} (h : s.wf) : (s.startRequest m).wf := by
  refine .ite h.putRsp.setReg.setDone (.ite h.post (.ite h.post ?_))
  extract_lets +onlyGivenNames s1 _ s2
  have h2 : s2.wf := .data h.updChan.put
  exact .ite h2.post h2

theorem State.wf.ring {m : Nat} (h : s.wf) : (s.ring m).wf := .ite h (.ite h.coreWake.wakeBy.startRequest h.raise)

theorem canonical_execMbxAck {m : Fin 8} (h : s.wf) : Canonical (execMbxAck m s) := .next (.ite (.permitted h.coreWake fun _ hu => hu.put) h)

theorem canonical_execMbxGuardTimeout {m : Fin 8} (h : s.wf) : Canonical (execMbxGuardTimeout m s) := .next (.ite h.post.raise h)

theorem State.wf.chanAtReset {m : Nat} (h : s.wf) : (s.chanAtReset m).wf := .ite h.post h

theorem State.wf.detachRelays (h : s.wf) : s.detachRelays.wf := h.updTrv

theorem State.wf.coreReset {byWdt : Bool} (h : s.wf) : (s.coreReset byWdt).wf := by
  unfold State.coreReset
  extract_lets +onlyGivenNames s1 s2 s3 _ s4
  have h4 : s4.wf := .data (.putB (.addSat (.putB (.putB (.putB (.forEach h.detachRelays fun _ _ hu => hu.chanAtReset))))))
  exact .ite h4.raise h4.raise

theorem canonical_execCoreResetExit (h : s.wf) : Canonical (execCoreResetExit s) := by
  refine .next ?_
  split
  · exact h
  · extract_lets +onlyGivenNames s1
    have h1 : s1.wf := h.putB
    exact .ite (.data h1) (.ite (.coreWake (.data h1.putB.put)) h)

theorem canonical_execWdtKick (h : s.wf) : Canonical (execWdtKick s) := .next (.ite (.permitted h fun _ hu => .data hu.put) h)

theorem canonical_execWatchdogExpiry (h : s.wf) : Canonical (execWatchdogExpiry s) := .next (.ite h.coreReset h)

theorem canonical_execCoreClkSwitch {clk : Bool} (h : s.wf) : Canonical (execCoreClkSwitch clk s) := .next (.ite (.permitted h fun _ hu => hu.putB) h)

theorem canonical_execCoreMemUncorr {dat : Bool} {addr : Nat} (h : s.wf) : Canonical (execCoreMemUncorr dat addr s) :=
  .next (.ite h.markBad.addSat.raiseD.coreReset h)

theorem State.wf.wdtTick (h : s.wf) : s.wdtTick.wf := .ite (.ite (.data h) (.data h.put)) h

theorem State.wf.orphan {m : Nat} (h : s.wf) : (s.orphan m).wf := by
  unfold State.orphan
  split
  · exact h
  · exact .ite (.data h) h

theorem State.wf.ifaceReset (h : s.wf) : s.ifaceReset.wf := by
  unfold State.ifaceReset
  extract_lets +onlyGivenNames s0 s1
  have h1 : s1.wf := .resetRegs (.forEach h.detachRelays fun _ _ hu => hu.orphan)
  exact .putB (.data (.resetReg (.resetReg (.forEach (h1.withChans rfl) fun _ _ hu => hu.resetReg))))

theorem canonical_execIfaceResetDone (h : s.wf) : Canonical (execIfaceResetDone s) := by
  refine .next ?_
  split
  · exact h
  · exact .data h.putB

/-! ### The PMBus target -/

theorem State.wf.updPmb {f : PmbHid → PmbHid} (h : s.wf) : (s.updPmb f).wf := .data h

theorem State.wf.pmbServe {code : Nat} {f : State → State} (h : s.wf) (hf : ∀ u, u.wf → (f u).wf) : (s.pmbServe code f).wf := by
  unfold State.pmbServe
  extract_lets +onlyGivenNames s1
  have h1 : s1.wf := .updPst (hf _ h.pmbAnswer)
  exact .ite h1 h1.updPmb

theorem State.wf.pmbus {i : Instr} {code : Nat} {f : State → State} (h : s.wf) (hf : ∀ u, u.wf → (f u).wf) : (s.pmbus i code f).wf :=
  .ite h (.ite h.pmbAnswer (.ite (.ite h h.updPmb) (.pmbServe h fun _ hu => hf _ hu)))

theorem State.wf.answer {bs : List Byte} (h : s.wf) : (s.answer bs).wf := h.updPmb

theorem State.wf.answerN {n x : Nat} (h : s.wf) : (s.answerN n x).wf := h.answer

theorem State.wf.setCml {k : Nat} (h : s.wf) : (s.setCml k).wf := h.updPmb

theorem State.wf.notAcked (h : s.wf) : s.notAcked.wf := h.setCml.updPmb.raise

theorem State.wf.badData (h : s.wf) : s.badData.wf := h.setCml.updPmb

theorem State.wf.answerLinear {cmd : Nat} {x : Option (Int × Int)} (h : s.wf) : (s.answerLinear cmd x).wf := by
  unfold State.answerLinear
  split
  · exact h.answerN
  · exact h.answerN

theorem State.wf.written {code : Nat} {data : List Byte} {pec : Option Byte} {f : State → State} (h : s.wf) (hf : ∀ u, u.wf → (f u).wf) :
    (s.written code data pec f).wf := by
  unfold State.written
  split
  · exact hf _ h
  · exact .ite (hf _ h) h.setCml.raise

theorem canonical_execPage {v : PmbByte} (h : s.wf) : Canonical (execPage v s) := by
  refine .next (.pmbus h fun _ hu => ?_)
  split
  · exact hu.answerN
  · exact .written hu fun _ hu' => .ite hu'.updPmb hu'.badData

theorem canonical_execClearFaults (h : s.wf) : Canonical (execClearFaults s) := .next (.pmbus h fun _ hu => hu.updPmb)

theorem canonical_execCapability (h : s.wf) : Canonical (execCapability s) := .next (.pmbus h fun _ hu => hu.answerN)

theorem canonical_execVoutMode (h : s.wf) : Canonical (execVoutMode s) := .next (.pmbus h fun _ hu => hu.answerN)

theorem canonical_execStatusWord (h : s.wf) : Canonical (execStatusWord s) := .next (.pmbus h fun _ hu => hu.keepStatus.answerN)

theorem State.wf.answerStatus {s0 : State} {cmd : Nat} (h : s0.wf) : (State.answerStatus s0 cmd).wf := h.keepStatus.answerN

theorem canonical_execStatusIout (h : s.wf) : Canonical (execStatusIout s) := .next (.pmbus h fun _ hu => hu.answerStatus)

theorem canonical_execStatusTemperature (h : s.wf) : Canonical (execStatusTemperature s) := .next (.pmbus h fun _ hu => hu.answerStatus)

theorem canonical_execStatusCml (h : s.wf) : Canonical (execStatusCml s) := .next (.pmbus h fun _ hu => hu.answerN)

theorem canonical_execReadVin (h : s.wf) : Canonical (execReadVin s) := .next (.pmbus h fun _ hu => .ite hu.answerLinear hu.notAcked)

theorem canonical_execReadIin (h : s.wf) : Canonical (execReadIin s) := .next (.pmbus h fun _ hu => .ite hu.answerLinear hu.notAcked)

theorem canonical_execReadVout (h : s.wf) : Canonical (execReadVout s) := .next (.pmbus h fun _ hu => hu.answerN)

theorem canonical_execReadIout (h : s.wf) : Canonical (execReadIout s) := .next (.pmbus h fun _ hu => hu.answerLinear)

theorem canonical_execReadTemperature1 (h : s.wf) : Canonical (execReadTemperature1 s) := .next (.pmbus h fun _ hu => hu.answerLinear)

theorem canonical_execReadPout (h : s.wf) : Canonical (execReadPout s) := .next (.pmbus h fun _ hu => hu.answerLinear)

theorem canonical_execReadPin (h : s.wf) : Canonical (execReadPin s) := .next (.pmbus h fun _ hu => .ite hu.answerLinear hu.notAcked)

theorem State.wf.answerBlock {bs : List Byte} (h : s.wf) : (s.answerBlock bs).wf := h.answer

theorem canonical_execPmbusRevision (h : s.wf) : Canonical (execPmbusRevision s) := .next (.pmbus h fun _ hu => hu.answerN)

theorem canonical_execMfrId (h : s.wf) : Canonical (execMfrId s) := .next (.pmbus h fun _ hu => hu.answerBlock)

theorem canonical_execMfrModel (h : s.wf) : Canonical (execMfrModel s) := .next (.pmbus h fun _ hu => hu.answerBlock)

theorem canonical_execMfrRevision (h : s.wf) : Canonical (execMfrRevision s) := .next (.pmbus h fun _ hu => hu.answerBlock)

theorem State.wf.writeRequest {m : Nat} {bs : List Byte} (h : s.wf) : (s.writeRequest m bs).wf := .foldl h fun _ _ hu => hu.setReg

theorem canonical_execMfrIbselReq {b : PmbBlock} (h : s.wf) : Canonical (execMfrIbselReq b s) :=
  .next (.pmbus h fun _ hu => .written hu fun _ hu' => .ite hu'.setCml.raise (.ite hu'.badData hu'.writeRequest.updPmb.ring))

theorem canonical_execMfrIbselRsp (h : s.wf) : Canonical (execMfrIbselRsp s) := by
  refine .next (.pmbus h fun _ hu => .ite hu.answerBlock ?_)
  extract_lets +onlyGivenNames s1
  have h1 : s1.wf := hu.answerBlock
  exact .ite h1 h1.updPmb

theorem canonical_execMfrPartition {v : PmbByte} (h : s.wf) : Canonical (execMfrPartition v s) := by
  refine .next (.pmbus h fun _ hu => ?_)
  split
  · exact hu.answerN
  · exact .written hu fun _ hu' => .ite hu'.updPmb hu'.badData

theorem canonical_execMfrPartEnergy (h : s.wf) : Canonical (execMfrPartEnergy s) := .next (.pmbus h fun _ hu => hu.answerBlock)

theorem canonical_execPmbusInvalidCommand {f : PmbFault} (h : s.wf) : Canonical (execPmbusInvalidCommand f s) := by
  refine .next (.pmbus h fun _ hu => ?_)
  split
  · exact hu.setCml.raise
  · exact .ite hu.notAcked hu

/-! ### Reads -/

theorem State.wf.slverr (h : s.wf) : s.slverr.wf := .data h

theorem State.wf.okay {data : Word} (h : s.wf) : (s.okay data).wf := .data h

theorem State.wf.capture {off : Nat} (h : s.wf) : (s.capture off).wf := by
  refine .ite h.setReg ?_
  split
  · exact h.setReg
  · split
    · exact h.setReg
    · exact h

theorem State.wf.windowRead {k a : Nat} (h : s.wf) : (s.windowRead k a).wf := .ite h.slverr (.ite h.addSat.raiseD.slverr h.corrects.okay)

theorem State.wf.readWindow {off : Nat} (h : s.wf) : (s.readWindow off).wf := by
  refine .ite ?_ (.ite h.windowRead h.okay)
  split
  · exact h.windowRead
  · exact .ite h.slverr h.okay

theorem State.wf.coefAccess {core : Bool} {off t set j : Nat} {wr : Option Word} (h : s.wf) : (s.coefAccess core off t set j wr).wf := by
  unfold State.coefAccess
  extract_lets +onlyGivenNames denied s0 p
  have hp : p.1.wf := .windowAccess (.ite h.raiseD h)
  split
  · exact hp.slverr
  · exact hp.okay

theorem State.wf.busRead {core : Bool} {off : Nat} (h : s.wf) : (s.busRead core off).wf := by
  refine .ite h (.ite h.slverr (.ite h.okay (.ite h.readWindow ?_)))
  split
  · exact h.coefAccess
  · exact .ite h.capture.okay h.okay

theorem canonical_execCaptureRead {p : Port} {off : Nat} (h : s.wf) : Canonical (execCaptureRead p off s) := .next h.busRead

/-! ### The block as a whole -/

theorem State.wf.updBoot {f : BootHid → BootHid} (h : s.wf) : (s.updBoot f).wf := .data h

theorem State.wf.updMem {f : MemHid → MemHid} (h : s.wf) : (s.updMem f).wf := .data h

theorem State.wf.setPhase {n : Nat} (h : s.wf) : (s.setPhase n).wf := .data h.put

theorem canonical_execPowerOnReset : Canonical (execPowerOnReset s) := .next resetLeaves.1.data

theorem canonical_execPorRelease {rise : VblkRise} {vsel : Fin 8} (h : s.wf) : Canonical (execPorRelease rise vsel s) :=
  .next (.ite (.ibSoftStart (.applyVsel (.put (.data h)))) h)

theorem State.wf.beginBlockReset (h : s.wf) : s.beginBlockReset.wf :=
  .ite h (.foldl (.putB (.data h)) fun _ _ hu => .ite hu hu.beginOff.beginStopRamp)

theorem State.wf.requestBlockReset (h : s.wf) : s.requestBlockReset.wf := .ite h.raise h.beginBlockReset

theorem canonical_execAonRstReq (h : s.wf) : Canonical (execAonRstReq s) := .next (.ite h h.beginBlockReset)

theorem State.wf.ibAfterReset {old : State} (h : s.wf) : (s.ibAfterReset old).wf := by
  unfold State.ibAfterReset
  extract_lets +onlyGivenNames o soft s1 s2 s3 s4
  have h4 : s4.wf := .applyVsel (.updIb (.put (.put (.setReg (.foldl h fun _ _ hu => hu.setP)))))
  split
  · exact h4.ibSoftStart
  · exact h4.leaveKeepAlive
  · exact h4.hysModes
  · exact h4.ibHysteretic

theorem State.wf.blockReset (h : s.wf) : s.blockReset.wf := by
  unfold State.blockReset
  extract_lets +onlyGivenNames cal s1 _ s2 s3 s4
  have h1 : s1.wf := h.clearBooks.resetRegs
  clear_value s1
  have h2 : s2.wf := ⟨h1.regs, ⟨rfl, rfl, rfl, rfl, rfl, rfl⟩, rfl, rfl, rfl, rfl, rfl⟩
  have h3 : s3.wf := h2.putB.restoreTcal
  exact .putB (.setAon (.ibAfterReset (.ite h3.setReg.putB.setPhase h3)))

theorem canonical_execBlockResetEffect (h : s.wf) : Canonical (execBlockResetEffect s) := .next (.ite h.blockReset h)

theorem canonical_execHostPwrgdFall (h : s.wf) : Canonical (execHostPwrgdFall s) := by
  unfold execHostPwrgdFall
  extract_lets +onlyGivenNames _ s1
  have h1 : s1.wf := .data h
  exact .next (.ite h1 (.abandonWrites (.failWaiting (.abandonReads (.data h1)))))

theorem canonical_execHostPwrgdRise (h : s.wf) : Canonical (execHostPwrgdRise s) := .next (.ite h (.forcedEnds (.data h)))

theorem canonical_execAxiReset (h : s.wf) : Canonical (execAxiReset s) := .next (.ite h (.abandonWrites (.abandonReads (.data h))))

theorem canonical_execSyncInLoss (h : s.wf) : Canonical (execSyncInLoss s) := .next (.ite (.data h) (.putB (.data h)))

theorem State.wf.syncBack (h : s.wf) : s.syncBack.wf := by
  unfold State.syncBack
  split
  · exact h
  · exact .ite (.forEach (.data h) fun _ _ hu => hu.put) h

theorem State.wf.slewBack (h : s.wf) : s.slewBack.wf := by
  refine .ite h ?_
  extract_lets +onlyGivenNames due s1
  have h1 : s1.wf := .ite h.updIb h
  refine .ite ?_ h1
  extract_lets +onlyGivenNames _ s2
  have h2 : s2.wf := .data h1
  exact .ite h2.putB h2

theorem canonical_execSyncInReturn (h : s.wf) : Canonical (execSyncInReturn s) := .next (.ite h (.syncBack (.data h)))

theorem State.wf.wrap {p : WrapperPort} {n : Nat} (h : s.wf) : (s.wrap p n).wf := .data h

theorem canonical_execWsBypass {port : WrapperPort} (h : s.wf) : Canonical (execWsBypass port s) := .next h.wrap

theorem canonical_execWsExtest {port : WrapperPort} (h : s.wf) : Canonical (execWsExtest port s) := .next h.wrap

theorem canonical_execWsIntest {port : WrapperPort} (h : s.wf) : Canonical (execWsIntest port s) := .next h.wrap

theorem canonical_execWsMbist {port : WrapperPort} (h : s.wf) : Canonical (execWsMbist port s) := .next h.wrap

theorem canonical_execBenchmarkCalDone {datumUv bandgapUv untrimmedUv : Nat} (h : s.wf) : Canonical
    (execBenchmarkCalDone datumUv bandgapUv untrimmedUv s) := by
  refine .next ?_
  split
  · exact h
  · exact .ite h.updBoot.setReg.putB.setPhase.raiseIf.raiseIf h

theorem State.wf.setOwner {k o : Nat} (h : s.wf) : (s.setOwner k o).wf := h.setReg

theorem State.wf.giveMem {k o : Nat} (h : s.wf) : (s.giveMem k o).wf := .ite h (.ite h.setOwner h.raise)

theorem State.wf.writeOwners {v : Word} (h : s.wf) : (s.writeOwners v).wf := .forEach h fun _ _ hu => hu.giveMem

theorem State.wf.setPower {k x : Nat} (h : s.wf) : (s.setPower k x).wf := h.setReg

theorem State.wf.loseMem {k : Nat} (h : s.wf) : (s.loseMem k).wf := .markAllGood (h.setMemory rfl)

theorem State.wf.powerMem {k x : Nat} (h : s.wf) : (s.powerMem k x).wf := by
  refine .ite h (.ite h.raise (.ite (.ite h.powerUp h) ?_))
  extract_lets +onlyGivenNames s1
  have h1 : s1.wf := h.updMem.setPower
  exact .ite h1.loseMem h1

theorem State.wf.writePowers {v : Word} (h : s.wf) : (s.writePowers v).wf := .forEach h fun _ _ hu => hu.powerMem

theorem canonical_execMemPowerUpDone {k : Fin 6} (h : s.wf) : Canonical (execMemPowerUpDone k s) := .next (.ite h h.updMem.setPower)

theorem State.wf.defect {k w : Nat} {x2 : Ecc} (h : s.wf) : (s.defect k w x2).wf := by
  unfold State.defect
  split
  · exact h
  · exact .ite h h.markWeak
  · exact h.markBad

theorem canonical_execMemTestRegion {k : Fin 6} {idle : Bool} {fails : List (Nat × Ecc)} (h : s.wf) : Canonical
    (execMemTestRegion k idle fails s) := by
  refine .next (.ite ?_ h)
  extract_lets +onlyGivenNames s1 n
  have h1 : s1.wf := h.updMem
  exact .ite (.put (.foldl h1.updMem fun _ _ hu => hu.defect.raiseD)) h1.updMem.raiseIf

theorem State.wf.loadLow {v : Word} (h : s.wf) : (s.loadLow v).wf := h.setReg.updBoot

theorem State.wf.loadHigh {v : Word} (h : s.wf) : (s.loadHigh v).wf := by
  unfold State.loadHigh
  extract_lets +onlyGivenNames k w low s1
  have h1 : s1.wf := h.updBoot
  refine .ite h1.raise ?_
  extract_lets +onlyGivenNames s2 s3
  have h2 : s2.wf := h1.setReg
  exact .put (.ite (.markGood (h2.setMemory (memWf_putLE _ _ _ _ (memWf_memory h2 k)))) h2)

theorem State.wf.platGo (h : s.wf) : s.platGo.wf := .ite h.put.updBoot h.raise

theorem State.wf.writeCoreHold {hold : Bool} (h : s.wf) : (s.writeCoreHold hold).wf :=
  .ite (.ite h.updBoot (.ite h.raise (.ite h h.updBoot))) (.ite h.putB.coreReset h)

theorem State.wf.writeCoreOwn {v : Word} (h : s.wf) : (s.writeCoreOwn v).wf := h.putB.putB

/-! ### The fault pin -/

theorem canonical_execFaultPulseEnd (h : s.wf) : Canonical (execFaultPulseEnd s) := .next (.ite h.putB.driveFault h)

theorem canonical_execFaultNMismatch {level : Bool} (h : s.wf) : Canonical (execFaultNMismatch level s) := by
  unfold execFaultNMismatch
  extract_lets +onlyGivenNames drive _ _ s1
  have h1 : s1.wf := .data h.putB
  exact .next (.ite (.ite h1.raise h1.raise) h1)

theorem State.wf.writeHold {b : Bool} (h : s.wf) : (s.writeHold b).wf := h.putB.driveFault

/-! ### Writes -/

theorem State.wf.storeBlk {core : Bool} {off : Nat} {v : Word} (h : s.wf) : (s.storeBlk core off v).wf := by
  refine .ite ?_ (.ite (.ite h.resetTract h.put) (.ite (.ite h.writeCoreOwn h.writeCoreHold) (.ite (.ite (.data h.put) h) h)))
  extract_lets +onlyGivenNames s1 s2
  have h1 : s1.wf := .ite h.coreReset h
  have h2 : s2.wf := .ite h1.requestBlockReset h1
  exact .ite h2.ifaceReset h2

theorem State.wf.storePlat {off : Nat} {w v : Word} (h : s.wf) : (s.storePlat off w v).wf :=
  .ite (.ite h.platGo h) (.ite h.loadLow (.ite h.loadHigh h.setReg))

theorem State.wf.storeMbx {core : Bool} {off : Nat} {w v : Word} (h : s.wf) : (s.storeMbx core off w v).wf :=
  .ite h.setReg (.ite (.ite h (.ite h.raise (.ite h h.setReg))) (.ite (.ite h.fwRsp h) (.ite (.ite h (.ite h.raise (.ite h h.ring)))
    (.ite h.fwState h))))

theorem State.wf.storeAon {off : Nat} {w v : Word} (h : s.wf) : (s.storeAon off w v).wf := by
  refine .ite ?_ (.ite h.setReg.recheckLevels (.ite h.writeHold (.ite (.ite h.clearBooks h) h.setReg)))
  extract_lets +onlyGivenNames s1
  have h1 : s1.wf := h.put
  exact .ite h1.requestState h1

theorem State.wf.storeTract {off : Nat} {w v : Word} (h : s.wf) : (s.storeTract off w v).wf := by
  unfold State.storeTract
  split
  · exact h.clearSuspects
  · split
    · exact h.writeOpen
    · exact h.setReg

theorem State.wf.storeSo {off : Nat} {w v : Word} (h : s.wf) : (s.storeSo off w v).wf :=
  .ite h.writeSoCtl (.ite (.ite h h.setReg) (.ite (.foldl h.setReg fun _ _ hu => hu.relift) h.setReg))

theorem State.wf.storeDom {off : Nat} {w v : Word} (h : s.wf) : (s.storeDom off w v).wf := by
  refine .ite ?_ ?_
  · extract_lets +onlyGivenNames s1
    have h1 : s1.wf := h.setReg
    exact .ite h1.envelopeRestart h1
  · split
    · exact h.writeDomCtl
    · split
      · exact h.writeTarget
      · exact h.setReg

theorem State.wf.storeIbs {off : Nat} {w v : Word} (h : s.wf) : (s.storeIbs off w v).wf := by
  unfold State.storeIbs
  extract_lets +onlyGivenNames s1
  have h1 : s1.wf := h.setReg
  refine .ite (.ite h1.raiseD h1) (.ite h1.chooseSource (.ite h1.refreshIb ?_))
  split
  · exact .ite h1 (.ite h1.setP (.ite h1.setP.updIb h1))
  · exact h1

theorem State.wf.storeCap {off : Nat} {w v : Word} (h : s.wf) : (s.storeCap off w v).wf := by
  refine .ite h.clearSuspectSites (.ite h.clearSuspectSites (.ite ?_ (.ite (.ite h.setPkgCap h) (.ite h.askClear (.ite (.ite h h.setReg) ?_)))))
  · extract_lets +onlyGivenNames s1
    have h1 : s1.wf := h.setReg
    exact .ite h1.putB h1
  · split
    · extract_lets +onlyGivenNames req s1 s2 s3
      have h1 : s1.wf := h.put.putB
      have h3 : s3.wf := .abandonRaise (.ite h1.putB h1)
      exact .ite h3.raiseD h3
    · split
      · exact h.clearSflag
      · exact h.setReg

theorem State.wf.storeAdc {off : Nat} {w v : Word} (h : s.wf) : (s.storeAdc off w v).wf := by
  refine .ite h.writeRef (.ite h.writeTimer (.ite h.writeCal ?_))
  split
  · exact h.writeSeq
  · split
    · exact h.writeSeq
    · exact .ite h.writeSlot (.ite h.writeSlot h.setReg)

theorem State.wf.storeTrv {off : Nat} {w v : Word} (h : s.wf) : (s.storeTrv off w v).wf :=
  .ite (.ite h.submitEpoch h) (.ite h.setReg.refreshIb (.ite h.writeOwners (.ite h.writePowers h.setReg)))

theorem State.wf.storeIn {core : Bool} {n off : Nat} {w v : Word} (h : s.wf) : (s.storeIn core n off w v).wf := by
  unfold State.storeIn
  split
  · exact h.storeBlk
  · exact h.storePlat
  · exact h.storeMbx
  · exact h.storeAon
  · exact h.storeAon
  · exact h.storeAon
  · exact h.storeTract
  · exact h.storeTract
  · exact h.storeTract
  · exact h.storeSo
  · exact h.storeDom
  · exact h.storeDom
  · exact h.storeDom
  · exact h.storeIbs
  · exact h.storeCap
  · exact h.storeCap
  · exact h.storeCap
  · exact h.storeCap
  · exact h.storeAdc
  · exact h.storeTrv

theorem State.wf.hostMark {core : Bool} {off : Nat} {m : Word} (h : s.wf) : (s.hostMark core off m).wf := .ite h h.markWrote

theorem State.wf.storeReg {core : Bool} {off : Nat} {a : Access} {mask v : Word} (h : s.wf) : (s.storeReg core off a mask v).wf := by
  refine .ite (.ite h h.hostMark.setReg) (.ite h ?_)
  split
  · exact h
  · exact h.hostMark.storeIn

theorem State.wf.writeReg {core : Bool} {off : Nat} {v : Word} (h : s.wf) : (s.writeReg core off v).wf := by
  unfold State.writeReg
  split
  · exact h
  · exact .ite h.raiseD (.storeReg (.ite h.raise h))

theorem State.wf.busWrite {core : Bool} {off : Nat} {strb : BitVec 4} {v : Word} (h : s.wf) : (s.busWrite core off strb v).wf := by
  refine .ite h (.ite h.slverr (.ite h.okay ?_))
  split
  · exact h.coefAccess
  · exact h.writeReg.okay

theorem canonical_portWrite {p : Port} {off : Nat} {v : Word} (h : s.wf) : Canonical (State.portWrite s p off v) :=
  .next h.busWrite

theorem canonical_execRegisterWrite {p : Port} {off : Nat} {strb : BitVec 4} {v : Word} (h : s.wf) : Canonical (execRegisterWrite p off strb v s) :=
  .next h.busWrite

theorem canonical_execSoCtlEnSet {p : Port} {clr : Bool} (h : s.wf) : Canonical (execSoCtlEnSet p clr s) := canonical_portWrite h

theorem canonical_execSoCtlEnClear {p : Port} {clr : Bool} (h : s.wf) : Canonical (execSoCtlEnClear p clr s) := canonical_portWrite h

theorem canonical_execSoCtlClr {p : Port} {en : Bool} (h : s.wf) : Canonical (execSoCtlClr p en s) := canonical_portWrite h

theorem canonical_execStnSuspClear {p : Port} {t : Fin 64} {m : BitVec 16} (h : s.wf) : Canonical (execStnSuspClear p t m s) :=
  canonical_portWrite h

theorem canonical_execTrcOpen {p : Port} {t : Fin 64} {v : Word} (h : s.wf) : Canonical (execTrcOpen p t v s) :=
  canonical_portWrite h

theorem canonical_execCoefWindowAccess {p : Port} {t : Fin 64} {set : Fin 2} {j : Fin 8} {wr : Option Word} (h : s.wf) : Canonical
    (execCoefWindowAccess p t set j wr s) := by
  unfold execCoefWindowAccess
  extract_lets +onlyGivenNames off
  split
  · exact .next h.busRead
  · exact canonical_portWrite h

theorem canonical_execTrcClose {p : Port} {t : Fin 64} (h : s.wf) : Canonical (execTrcClose p t s) := canonical_portWrite h

theorem canonical_execDomCtlOn {p : Port} {d : Fin 32} (h : s.wf) : Canonical (execDomCtlOn p d s) := canonical_portWrite h

theorem canonical_execDomCtlOff {p : Port} {d : Fin 32} {full : Bool} (h : s.wf) : Canonical (execDomCtlOff p d full s) :=
  canonical_portWrite h

theorem canonical_execDomCtlFull {p : Port} {d : Fin 32} (h : s.wf) : Canonical (execDomCtlFull p d s) := canonical_portWrite h

theorem canonical_execDomVsetWrite {p : Port} {d : Fin 32} {v : Word} (h : s.wf) : Canonical (execDomVsetWrite p d v s) :=
  canonical_portWrite h

theorem canonical_execPstReqGo {p : Port} {target : Fin 8} (h : s.wf) : Canonical (execPstReqGo p target s) := canonical_portWrite h

theorem canonical_execThmSuspClear {p : Port} {half : Fin 2} {m : Word} (h : s.wf) : Canonical (execThmSuspClear p half m s) :=
  canonical_portWrite h

theorem canonical_execGradeFaultClear {p : Port} {d : Fin 32} (h : s.wf) : Canonical (execGradeFaultClear p d s) := canonical_portWrite h

theorem canonical_execCapPkgWrite {p : Port} {v : Word} (h : s.wf) : Canonical (execCapPkgWrite p v s) := canonical_portWrite h

theorem canonical_execNrgClr {p : Port} {m : Word} (h : s.wf) : Canonical (execNrgClr p m s) := canonical_portWrite h

theorem canonical_execSflagClear {p : Port} {k : Fin 8} {m : Word} (h : s.wf) : Canonical (execSflagClear p k m s) :=
  canonical_portWrite h

theorem canonical_execAdcSeqGo {p : Port} {k : Fin 2} {v : Word} (h : s.wf) : Canonical (execAdcSeqGo p k v s) :=
  canonical_portWrite h

theorem canonical_execAdcInjGo {p : Port} {k : Fin 2} {v : Word} (h : s.wf) : Canonical (execAdcInjGo p k v s) :=
  canonical_portWrite h

theorem canonical_execAdcRefWrite {p : Port} {v : Word} (h : s.wf) : Canonical (execAdcRefWrite p v s) := canonical_portWrite h

theorem canonical_calWrite {p : Port} {v : Word} {step : Nat} (h : s.wf) : Canonical (State.calWrite s p v step) :=
  canonical_portWrite h

theorem canonical_execAdcCalZero {p : Port} {v : Word} (h : s.wf) : Canonical (execAdcCalZero p v s) := canonical_calWrite h

theorem canonical_execAdcCalFull {p : Port} {v : Word} (h : s.wf) : Canonical (execAdcCalFull p v s) := canonical_calWrite h

theorem canonical_execAdcCalRestore {p : Port} {v : Word} (h : s.wf) : Canonical (execAdcCalRestore p v s) := canonical_calWrite h

theorem canonical_execEpochGo {p : Port} (h : s.wf) : Canonical (execEpochGo p s) := canonical_portWrite h

theorem canonical_execHoldRelease {p : Port} (h : s.wf) : Canonical (execHoldRelease p s) := canonical_portWrite h

theorem canonical_execHoldAssert {p : Port} (h : s.wf) : Canonical (execHoldAssert p s) := canonical_portWrite h

theorem canonical_execFieldBookClear {p : Port} (h : s.wf) : Canonical (execFieldBookClear p s) := canonical_portWrite h

theorem canonical_execMbxBell {p : Port} {m : Fin 8} (h : s.wf) : Canonical (execMbxBell p m s) := canonical_portWrite h

theorem canonical_execBlkRstCore {p : Port} (h : s.wf) : Canonical (execBlkRstCore p s) := canonical_portWrite h

theorem canonical_execBlkRstBlock {p : Port} (h : s.wf) : Canonical (execBlkRstBlock p s) := canonical_portWrite h

theorem canonical_execBlkRstIface {p : Port} (h : s.wf) : Canonical (execBlkRstIface p s) := canonical_portWrite h

theorem canonical_execBlkTrstGo {p : Port} {t : Fin 64} (h : s.wf) : Canonical (execBlkTrstGo p t s) := canonical_portWrite h

theorem canonical_execMemOwnerWrite {p : Port} {v : Word} (h : s.wf) : Canonical (execMemOwnerWrite p v s) :=
  canonical_portWrite h

theorem canonical_execMemPwrWrite {p : Port} {v : Word} (h : s.wf) : Canonical (execMemPwrWrite p v s) := canonical_portWrite h

theorem canonical_execLoaderWrite {p : Port} {v : Word} (h : s.wf) : Canonical (execLoaderWrite p v s) := canonical_portWrite h

theorem canonical_execPlatGo {p : Port} (h : s.wf) : Canonical (execPlatGo p s) := canonical_portWrite h

theorem canonical_execCoreHoldClear {p : Port} (h : s.wf) : Canonical (execCoreHoldClear p s) := canonical_portWrite h

end Sys2Proof.Machine
end

section
/-!
The canonical form under the boot, the firmware's commands, the command table and the clock.
-/

namespace Sys2Proof.Machine

variable {s : State}

/-! ### Boot -/

theorem State.wf.platReset (h : s.wf) : s.platReset.wf := by
  unfold State.platReset
  extract_lets +onlyGivenNames back s1
  have h1 : s1.wf := .foldl h fun u p hu => by
    unfold back
    split
    · exact .ite hu.setReg hu
    · exact hu
  exact .refreshIb (.foldl (.updAdc (.putB (.put (.writeHold (.updMem (.markAllGood (h1.withCoef rfl)))))))
    fun _ _ hu => .ite hu.setP hu)

theorem State.wf.platWrite {off : Nat} {v : Word} (h : s.wf) : (s.platWrite off v).wf := by
  unfold State.platWrite
  split
  · exact h
  · exact h.storeReg

theorem State.wf.applyReg {p : Nat → Bool} {hdr off stride count : Nat} (h : s.wf) : (s.applyReg p hdr off stride count).wf :=
  .foldl h fun _ _ hu => .ite hu.platWrite hu

theorem State.wf.applyCoef {hdr set tract : Nat} (h : s.wf) : (s.applyCoef hdr set tract).wf := h.withCoef (memWf_putBytes _ _ _ h.coef)

theorem State.wf.applyPlat {recs : List PlatRec} (h : s.wf) : (s.applyPlat recs).wf := by
  refine .foldl (.foldl h.platReset fun _ _ hu => ?_) fun _ _ hu => ?_
  · split
    · exact hu.applyReg
    · exact hu
  · split
    · exact hu.applyReg
    · exact hu.applyCoef
    · exact hu

theorem State.wf.lockPlat {recs : List PlatRec} {crc : Nat} (h : s.wf) : (s.lockPlat recs crc).wf :=
  .startTraverse (.data h.putB.setPhase.put.put.refreshIb)

theorem State.wf.platFailed {e : Ev} {off : Nat} (h : s.wf) : (s.platFailed e off).wf := h.put.put.raiseD

theorem State.wf.loadPlat (h : s.wf) : s.loadPlat.1.wf := by
  unfold State.loadPlat
  extract_lets +onlyGivenNames s0
  have h0 : s0.wf := h.corrects
  split
  · exact .platFailed (.ite h0.ownRead h0)
  · exact h0.platFailed
  · extract_lets +onlyGivenNames s1
    have h1 : s1.wf := h0.applyPlat
    split
    · exact h1.lockPlat
    · exact h1.platReset.platFailed

theorem canonical_execPlatCheckDone (h : s.wf) : Canonical (execPlatCheckDone s) := .next (.ite h.updBoot.loadPlat h)

theorem State.wf.startDomain {d : Nat} (h : s.wf) : (s.startDomain d).wf := .ite h (.ite h.updDom.switchOn h.updDom.refuseDom)

theorem State.wf.endStart (h : s.wf) : s.endStart.wf := by
  unfold State.endStart
  extract_lets +onlyGivenNames s1
  have h1 : s1.wf := h.updBoot.putB
  exact .ite (.enterRun (.data h1)) h1

theorem State.wf.startStep (h : s.wf) : s.startStep.wf := by
  refine .ite h ?_
  split
  · exact h.endStart
  · exact .foldl h.updBoot fun _ _ hu => hu.startDomain

theorem canonical_execDomainStartStep (h : s.wf) : Canonical (execDomainStartStep s) := .next h.startStep

theorem State.wf.releaseCore (h : s.wf) : s.releaseCore.wf := .coreWake (.data h.putB.putB.putB.putB.put.setOwner.setOwner)

theorem canonical_execFwCrcDone (h : s.wf) : Canonical (execFwCrcDone s) := by
  refine .next (.ite h ?_)
  extract_lets +onlyGivenNames s1
  have h1 : s1.wf := h.updBoot.corrects
  refine .ite h1.ownRead.raiseD ?_
  extract_lets +onlyGivenNames s2
  have h2 : s2.wf := h1.releaseCore
  exact .ite h2 h2.updBoot.putB.startStep

theorem canonical_execOffWakePlatCheck (h : s.wf) : Canonical (execOffWakePlatCheck s) := by
  refine .next (.ite h ?_)
  extract_lets +onlyGivenNames _ s1 p
  have h1 : s1.wf := .data h
  have hp : p.1.wf := h1.loadPlat
  exact .ite (.updBoot (.releaseCore (.ite hp.wakeFrame hp))) (.raise (.setPhase (.data h1)))

/-! ### Commands of the firmware -/

theorem State.wf.reply {m : Nat} {a : Ans} (h : s.wf) : (s.reply m a).wf := h.post

theorem State.wf.fwStore {off : Nat} {v : Word} (h : s.wf) : (s.fwStore off v).wf := .data h.busWrite

theorem State.wf.fwStores {ws : List (Nat × Word)} (h : s.wf) : (s.fwStores ws).1.wf := .foldl h fun _ _ hu => hu.fwStore

theorem State.wf.fwDo {ws : List (Nat × Word)} {result : State → List Byte} (h : s.wf) : (s.fwDo ws result).1.wf :=
  h.fwStores

theorem State.wf.fwJudged {ws : List (Nat × Word)} {refused limited : Bool} {result : State → List Byte} (h : s.wf) :
    (s.fwJudged ws refused limited result).1.wf :=
  h.fwStores

theorem State.wf.opIdentity (h : s.wf) : s.opIdentity.1.wf := h

theorem State.wf.opUptime (h : s.wf) : s.opUptime.1.wf := h.capture

theorem State.wf.opDieLimit {m : Nat} (h : s.wf) : (s.opDieLimit m).1.wf := h.fwDo

theorem State.wf.opPkgCap {m : Nat} (h : s.wf) : (s.opPkgCap m).1.wf := h.fwDo

theorem State.wf.opCapState (h : s.wf) : s.opCapState.1.wf := h

theorem State.wf.opClass {m : Nat} (h : s.wf) : (s.opClass m).1.wf := h

theorem State.wf.opVoltage {m : Nat} (h : s.wf) : (s.opVoltage m).1.wf := .fst_ite h h.fwJudged

theorem State.wf.opGrade {m : Nat} (h : s.wf) : (s.opGrade m).1.wf := .fst_ite h h.fwJudged

theorem State.wf.opDomain {m : Nat} (h : s.wf) : (s.opDomain m).1.wf := h

theorem State.wf.opTlmConfig {m : Nat} (h : s.wf) : (s.opTlmConfig m).1.wf := .fst_ite h.fwJudged h.fwDo

theorem State.wf.opEnergy {m : Nat} (h : s.wf) : (s.opEnergy m).1.wf := .fst_ite h h.capture

theorem State.wf.opClearEnergy {m : Nat} (h : s.wf) : (s.opClearEnergy m).1.wf := h.fwDo

theorem State.wf.opPartitions {m : Nat} (h : s.wf) : (s.opPartitions m).1.wf := h.fwDo

theorem State.wf.opSetWatch {m : Nat} (h : s.wf) : (s.opSetWatch m).1.wf := .fst_ite h h.fwDo

theorem State.wf.opGetWatch {m : Nat} (h : s.wf) : (s.opGetWatch m).1.wf := .fst_ite h h.capture

theorem State.wf.opTract {m : Nat} (h : s.wf) : (s.opTract m).1.wf := h

theorem State.wf.opTractLimit {m : Nat} (h : s.wf) : (s.opTractLimit m).1.wf := .fst_ite h h.fwDo

theorem State.wf.opResetTract {m : Nat} (h : s.wf) : (s.opResetTract m).1.wf := .fst_ite h h.fwJudged

theorem State.wf.opSoWindow {m : Nat} (h : s.wf) : (s.opSoWindow m).1.wf := h.fwJudged

theorem State.wf.opSoEnable {m : Nat} (h : s.wf) : (s.opSoEnable m).1.wf := h.fwStores

theorem State.wf.opSoCounters {m : Nat} (h : s.wf) : (s.opSoCounters m).1.wf := h

theorem State.wf.opSoTractPath {m : Nat} (h : s.wf) : (s.opSoTractPath m).1.wf := .fst_ite h h.fwDo

theorem State.wf.opThermal (h : s.wf) : s.opThermal.1.wf := h

theorem State.wf.opSite {m : Nat} (h : s.wf) : (s.opSite m).1.wf := h

theorem State.wf.opClearSite {m : Nat} (h : s.wf) : (s.opClearSite m).1.wf := .fst_ite h h.fwDo

theorem State.wf.opFaults (h : s.wf) : s.opFaults.1.wf := h

theorem State.wf.opReadBook {m : Nat} (h : s.wf) : (s.opReadBook m).1.wf := .fst_ite h (.fst_ite h (.fst_ite h.addSat.raiseD h.corrects))

theorem State.wf.opReleasePin (h : s.wf) : s.opReleasePin.1.wf := h.fwDo

theorem State.wf.opSeverity {m : Nat} (h : s.wf) : (s.opSeverity m).1.wf := .fst_ite h h.fwDo

theorem State.wf.opSetTrim {m : Nat} (h : s.wf) : (s.opSetTrim m).1.wf := .fst_ite h h.fwDo

theorem State.wf.opGetTrim {m : Nat} (h : s.wf) : (s.opGetTrim m).1.wf := h

theorem State.wf.opSetWake {m : Nat} (h : s.wf) : (s.opSetWake m).1.wf := h.fwDo

theorem State.wf.opPstGet (h : s.wf) : s.opPstGet.1.wf := h

theorem State.wf.opMemStatus {m : Nat} (h : s.wf) : (s.opMemStatus m).1.wf := h

theorem State.wf.opMemOwner {m : Nat} (h : s.wf) : (s.opMemOwner m).1.wf := .fst_ite h h.fwJudged

theorem State.wf.opMemTest {m : Nat} (h : s.wf) : (s.opMemTest m).1.wf := h.fwDo

theorem State.wf.opEpoch {m : Nat} (h : s.wf) : (s.opEpoch m).1.wf := h.fwStores

theorem State.wf.opTraverse (h : s.wf) : s.opTraverse.1.wf := h

theorem State.wf.opTime (h : s.wf) : s.opTime.1.wf := h.capture

theorem State.wf.simple {m op : Nat} (h : s.wf) : (s.simple m op).1.wf := by
  unfold State.simple
  split
  · exact h.opIdentity
  · exact h.opUptime
  · exact h.opDieLimit
  · exact h.opPkgCap
  · exact h.opCapState
  · exact h.opClass
  · exact h.opVoltage
  · exact h.opGrade
  · exact h.opDomain
  · exact h.opTlmConfig
  · exact h.opEnergy
  · exact h.opClearEnergy
  · exact h.opPartitions
  · exact h.opSetWatch
  · exact h.opGetWatch
  · exact h.opTract
  · exact h.opTractLimit
  · exact h.opResetTract
  · exact h.opSoWindow
  · exact h.opSoEnable
  · exact h.opSoCounters
  · exact h.opSoTractPath
  · exact h.opThermal
  · exact h.opSite
  · exact h.opClearSite
  · exact h.opFaults
  · exact h.opReadBook
  · exact h.opReleasePin
  · exact h.opSeverity
  · exact h.opSetTrim
  · exact h.opGetTrim
  · exact h.opSetWake
  · exact h.opPstGet
  · exact h.opMemStatus
  · exact h.opMemOwner
  · exact h.opMemTest
  · exact h.opEpoch
  · exact h.opTraverse
  · exact h.opTime
  · exact h

theorem State.wf.beginWith {ws : List (Nat × Word)} {refused : Bool} (h : s.wf) : (s.beginWith ws refused).1.wf := h.fwStores

theorem State.wf.longPkgCap {m : Nat} (h : s.wf) : (s.longPkgCap m).1.wf := .fst_ite h.submitCap h.beginWith

theorem State.wf.longDomOn {m : Nat} (h : s.wf) : (s.longDomOn m).1.wf := h.beginWith

theorem State.wf.longDomOff {m : Nat} (h : s.wf) : (s.longDomOff m).1.wf := h.beginWith

theorem State.wf.longRetune {m : Nat} (h : s.wf) : (s.longRetune m).1.wf := .fst_ite h (State.wf.beginWith (refused := false) h)

theorem State.wf.longReadmit {m : Nat} (h : s.wf) : (s.longReadmit m).1.wf := .fst_ite h h.readmit

theorem State.wf.longCalibrate {m : Nat} (h : s.wf) : (s.longCalibrate m).1.wf := h.beginWith

theorem State.wf.longMemPower {m : Nat} (h : s.wf) : (s.longMemPower m).1.wf := h.beginWith

theorem State.wf.longEpoch {m : Nat} (h : s.wf) : (s.longEpoch m).1.wf := by
  unfold State.longEpoch
  extract_lets +onlyGivenNames r
  have hr : r.1.wf := h.beginWith
  exact .fst_ite hr hr.submitEpoch

theorem State.wf.longPstEnter {m : Nat} (h : s.wf) : (s.longPstEnter m).1.wf := h.beginWith

theorem State.wf.longBegin {m op : Nat} (h : s.wf) : (s.longBegin m op).1.wf := by
  unfold State.longBegin
  split
  · exact h.longPkgCap
  · exact h.longDomOn
  · exact h.longDomOff
  · exact h.longRetune
  · exact h.longReadmit
  · exact h.longCalibrate
  · exact h.longPstEnter
  · exact h.longMemPower
  · exact h.longEpoch
  · exact h

theorem State.wf.noteLong {m : Nat} {started : Bool} (h : s.wf) : (s.noteLong m started).wf := h.updChan

theorem State.wf.startLong {m op : Nat} (h : s.wf) : (s.startLong m op).wf := by
  unfold State.startLong
  split
  · exact h.reply
  · refine .ite ?_ ?_
    · extract_lets +onlyGivenNames r
      have hr : r.1.wf := h.noteLong.post.longBegin
      split
      · exact hr
      · exact hr.reply
    · extract_lets +onlyGivenNames s1 r
      have hr : r.1.wf := h.noteLong.longBegin
      split
      · exact hr.post
      · exact hr.reply

theorem State.wf.startAccepted {m op : Nat} (h : s.wf) : (s.startAccepted m op).wf := by
  unfold State.startAccepted
  extract_lets +onlyGivenNames r
  have hr : r.1.wf := h.noteLong.longBegin
  split
  · exact hr
  · exact hr.reply

theorem State.wf.finishRetune {m : Nat} {o : LongOp} (h : s.wf) : (s.finishRetune m o).wf := .ite h.fwStores.updChan h

theorem State.wf.continueLong {m : Nat} {o : LongOp} (h : s.wf) : (s.continueLong m o).wf := by
  refine .ite h.finishRetune ?_
  split
  · exact h
  · exact h.reply

theorem State.wf.finishOrphans (h : s.wf) : s.finishOrphans.wf := .foldl (.data h) fun _ _ hu => hu.fwStores

theorem State.wf.serve {m op : Nat} (h : s.wf) : (s.serve m op).wf := by
  refine .ite (.ite h.startLong (.ite h.reply h.simple.reply)) (.ite ?_ h)
  split
  · exact h
  · exact .ite h (.ite h.continueLong h.startAccepted)

theorem State.wf.perform {m op : Nat} (h : s.wf) : (s.perform m op).wf := .ite h.coreWake.serve h

theorem canonical_row {m : Fin 8} {op : Nat} (h : s.wf) : Canonical (State.row s m op) := .next h.perform

theorem canonical_execMbxAccepted {m : Fin 8} (h : s.wf) : Canonical (execMbxAccepted m s) := .next (.ite h.noteLong.post h)

theorem canonical_execMbxResponse {m : Fin 8} (h : s.wf) : Canonical (execMbxResponse m s) := .next (.ite h h.perform)

theorem canonical_execUnknownOpcode {m : Fin 8} (h : s.wf) : Canonical (execUnknownOpcode m s) := .next (.ite (.ite h.reply (.ite h h.reply)) h)

theorem canonical_execGetIdentity {m : Fin 8} (h : s.wf) : Canonical (execGetIdentity m s) := canonical_row h

theorem canonical_execGetUptime {m : Fin 8} (h : s.wf) : Canonical (execGetUptime m s) := canonical_row h

theorem canonical_execSetDieLimit {m : Fin 8} (h : s.wf) : Canonical (execSetDieLimit m s) := canonical_row h

theorem canonical_execSetPkgCap {m : Fin 8} (h : s.wf) : Canonical (execSetPkgCap m s) := canonical_row h

theorem canonical_execGetCapState {m : Fin 8} (h : s.wf) : Canonical (execGetCapState m s) := canonical_row h

theorem canonical_execGetClass {m : Fin 8} (h : s.wf) : Canonical (execGetClass m s) := canonical_row h

theorem canonical_execDomOn {m : Fin 8} (h : s.wf) : Canonical (execDomOn m s) := canonical_row h

theorem canonical_execDomOff {m : Fin 8} (h : s.wf) : Canonical (execDomOff m s) := canonical_row h

theorem canonical_execSetVoltage {m : Fin 8} (h : s.wf) : Canonical (execSetVoltage m s) := canonical_row h

theorem canonical_execSetGrade {m : Fin 8} (h : s.wf) : Canonical (execSetGrade m s) := canonical_row h

theorem canonical_execGetDomain {m : Fin 8} (h : s.wf) : Canonical (execGetDomain m s) := canonical_row h

theorem canonical_execTlmConfig {m : Fin 8} (h : s.wf) : Canonical (execTlmConfig m s) := canonical_row h

theorem canonical_execGetEnergy {m : Fin 8} (h : s.wf) : Canonical (execGetEnergy m s) := canonical_row h

theorem canonical_execClearEnergy {m : Fin 8} (h : s.wf) : Canonical (execClearEnergy m s) := canonical_row h

theorem canonical_execSetPartitions {m : Fin 8} (h : s.wf) : Canonical (execSetPartitions m s) := canonical_row h

theorem canonical_execSetWatch {m : Fin 8} (h : s.wf) : Canonical (execSetWatch m s) := canonical_row h

theorem canonical_execGetWatch {m : Fin 8} (h : s.wf) : Canonical (execGetWatch m s) := canonical_row h

theorem canonical_execRetune {m : Fin 8} (h : s.wf) : Canonical (execRetune m s) := canonical_row h

theorem canonical_execReadmitCell {m : Fin 8} (h : s.wf) : Canonical (execReadmitCell m s) := canonical_row h

theorem canonical_execGetTract {m : Fin 8} (h : s.wf) : Canonical (execGetTract m s) := canonical_row h

theorem canonical_execSetTractLimit {m : Fin 8} (h : s.wf) : Canonical (execSetTractLimit m s) := canonical_row h

theorem canonical_execResetTract {m : Fin 8} (h : s.wf) : Canonical (execResetTract m s) := canonical_row h

theorem canonical_execSoWindow {m : Fin 8} (h : s.wf) : Canonical (execSoWindow m s) := canonical_row h

theorem canonical_execSoEnable {m : Fin 8} (h : s.wf) : Canonical (execSoEnable m s) := canonical_row h

theorem canonical_execSoCounters {m : Fin 8} (h : s.wf) : Canonical (execSoCounters m s) := canonical_row h

theorem canonical_execSoTractPath {m : Fin 8} (h : s.wf) : Canonical (execSoTractPath m s) := canonical_row h

theorem canonical_execGetThermal {m : Fin 8} (h : s.wf) : Canonical (execGetThermal m s) := canonical_row h

theorem canonical_execGetSite {m : Fin 8} (h : s.wf) : Canonical (execGetSite m s) := canonical_row h

theorem canonical_execClearSite {m : Fin 8} (h : s.wf) : Canonical (execClearSite m s) := canonical_row h

theorem canonical_execGetFaults {m : Fin 8} (h : s.wf) : Canonical (execGetFaults m s) := canonical_row h

theorem canonical_execReadBook {m : Fin 8} (h : s.wf) : Canonical (execReadBook m s) := canonical_row h

theorem canonical_execReleasePin {m : Fin 8} (h : s.wf) : Canonical (execReleasePin m s) := canonical_row h

theorem canonical_execSetSeverity {m : Fin 8} (h : s.wf) : Canonical (execSetSeverity m s) := canonical_row h

theorem canonical_execAdcCalibrate {m : Fin 8} (h : s.wf) : Canonical (execAdcCalibrate m s) := canonical_row h

theorem canonical_execAdcSetTrim {m : Fin 8} (h : s.wf) : Canonical (execAdcSetTrim m s) := canonical_row h

theorem canonical_execAdcGetTrim {m : Fin 8} (h : s.wf) : Canonical (execAdcGetTrim m s) := canonical_row h

theorem canonical_execPstEnter {m : Fin 8} (h : s.wf) : Canonical (execPstEnter m s) := canonical_row h

theorem canonical_execPstSetWake {m : Fin 8} (h : s.wf) : Canonical (execPstSetWake m s) := canonical_row h

theorem canonical_execPstGet {m : Fin 8} (h : s.wf) : Canonical (execPstGet m s) := canonical_row h

theorem canonical_execMemStatus {m : Fin 8} (h : s.wf) : Canonical (execMemStatus m s) := canonical_row h

theorem canonical_execMemPower {m : Fin 8} (h : s.wf) : Canonical (execMemPower m s) := canonical_row h

theorem canonical_execMemOwner {m : Fin 8} (h : s.wf) : Canonical (execMemOwner m s) := canonical_row h

theorem canonical_execMemTest {m : Fin 8} (h : s.wf) : Canonical (execMemTest m s) := canonical_row h

theorem canonical_execSubmitEpoch {m : Fin 8} (h : s.wf) : Canonical (execSubmitEpoch m s) := canonical_row h

theorem canonical_execGetTraverse {m : Fin 8} (h : s.wf) : Canonical (execGetTraverse m s) := canonical_row h

theorem canonical_execGetTime {m : Fin 8} (h : s.wf) : Canonical (execGetTime m s) := canonical_row h

/-! ### The command table -/

theorem canonical_exec (h : s.wf) (c : Instr) : Canonical (exec c s) := by
  cases c with
  | registerWrite => exact canonical_execRegisterWrite h
  | captureRead => exact canonical_execCaptureRead h
  | powerOnReset => exact canonical_execPowerOnReset
  | porRelease => exact canonical_execPorRelease h
  | aonRstReq => exact canonical_execAonRstReq h
  | hostPwrgdFall => exact canonical_execHostPwrgdFall h
  | hostPwrgdRise => exact canonical_execHostPwrgdRise h
  | axiReset => exact canonical_execAxiReset h
  | syncInLoss => exact canonical_execSyncInLoss h
  | syncInReturn => exact canonical_execSyncInReturn h
  | pllLock => exact canonical_execPllLock h
  | wsBypass => exact canonical_execWsBypass h
  | wsExtest => exact canonical_execWsExtest h
  | wsIntest => exact canonical_execWsIntest h
  | wsMbist => exact canonical_execWsMbist h
  | announce => exact canonical_execAnnounce h
  | arrive => exact canonical_execArrive h
  | fetchIssue => exact canonical_execFetchIssue h
  | headerReadDone => exact canonical_execHeaderReadDone h
  | recordReadDone => exact canonical_execRecordReadDone h
  | rereadDone => exact canonical_execRereadDone h
  | fetchTimeout => exact canonical_execFetchTimeout h
  | liftStart => exact canonical_execLiftStart h
  | stepEnd => exact canonical_execStepEnd h
  | markMiss => exact canonical_execMarkMiss h
  | soCtlEnSet => exact canonical_execSoCtlEnSet h
  | soCtlEnClear => exact canonical_execSoCtlEnClear h
  | soCtlClr => exact canonical_execSoCtlClr h
  | gateReq => exact canonical_execGateReq h
  | gateLink => exact canonical_execGateLink h
  | activityIncrement => exact canonical_execActivityIncrement h
  | pauseSlot => exact canonical_execPauseSlot h
  | frameStart => exact canonical_execFrameStart h
  | stationSuspect => exact canonical_execStationSuspect h
  | stnSuspClear => exact canonical_execStnSuspClear h
  | tractSample => exact canonical_execTractSample h
  | tractSampleLate => exact canonical_execTractSampleLate h
  | floorPauseEnd => exact canonical_execFloorPauseEnd h
  | normUpdate => exact canonical_execNormUpdate h
  | presentCodeStep => exact canonical_execPresentCodeStep h
  | softStartDelayEnd => exact canonical_execSoftStartDelayEnd h
  | softStopDelayEnd => exact canonical_execSoftStopDelayEnd h
  | phaseOffsetStep => exact canonical_execPhaseOffsetStep h
  | shareUpdate => exact canonical_execShareUpdate h
  | shareSat => exact canonical_execShareSat h
  | zcdRise => exact canonical_execZcdRise h
  | zcdStuck => exact canonical_execZcdStuck h
  | snap => exact canonical_execSnap h
  | snapLockoutEnd => exact canonical_execSnapLockoutEnd h
  | snapPauseEnd => exact canonical_execSnapPauseEnd h
  | cmpStuck => exact canonical_execCmpStuck h
  | shortCondA => exact canonical_execShortCondA h
  | shortCondB => exact canonical_execShortCondB h
  | hiccupEnd => exact canonical_execHiccupEnd h
  | retryCountReset => exact canonical_execRetryCountReset h
  | cellOpen => exact canonical_execCellOpen h
  | trcOpen => exact canonical_execTrcOpen h
  | openHoldBegin => exact canonical_execOpenHoldBegin h
  | coefWindowAccess => exact canonical_execCoefWindowAccess h
  | trcClose => exact canonical_execTrcClose h
  | loopClose => exact canonical_execLoopClose h
  | openHoldTimeout => exact canonical_execOpenHoldTimeout h
  | setSwitchClose => exact canonical_execSetSwitchClose h
  | engineFail => exact canonical_execEngineFail h
  | failoverSeed => exact canonical_execFailoverSeed h
  | failoverGroupClose => exact canonical_execFailoverGroupClose h
  | failoverPauseLift => exact canonical_execFailoverPauseLift h
  | inrushCompare => exact canonical_execInrushCompare h
  | inrushWaitExpiry => exact canonical_execInrushWaitExpiry h
  | headerStage => exact canonical_execHeaderStage h
  | domCtlOn => exact canonical_execDomCtlOn h
  | domCtlOff => exact canonical_execDomCtlOff h
  | domCtlFull => exact canonical_execDomCtlFull h
  | domVsetWrite => exact canonical_execDomVsetWrite h
  | retLow => exact canonical_execRetLow h
  | pstReqGo => exact canonical_execPstReqGo h
  | entryCommit => exact canonical_execEntryCommit h
  | coreWait => exact canonical_execCoreWait h
  | wakeN => exact canonical_execWakeN h
  | wakeTimer => exact canonical_execWakeTimer h
  | wakeStuck => exact canonical_execWakeStuck h
  | pmbusAddressMatch => exact canonical_execPmbusAddressMatch h
  | traverseWake => exact canonical_execTraverseWake h
  | offWakePlatCheck => exact canonical_execOffWakePlatCheck h
  | monumentSample => exact canonical_execMonumentSample h
  | vselAccept => exact canonical_execVselAccept h
  | vselDwellEnd => exact canonical_execVselDwellEnd h
  | trackUpdate => exact canonical_execTrackUpdate h
  | trackInEdge => exact canonical_execTrackInEdge h
  | trackTimeout => exact canonical_execTrackTimeout h
  | ibRefStep => exact canonical_execIbRefStep h
  | ibSample => exact canonical_execIbSample h
  | ibSampleLate => exact canonical_execIbSampleLate h
  | ibShareUpdate => exact canonical_execIbShareUpdate h
  | ibHysPulse => exact canonical_execIbHysPulse h
  | ibZcd => exact canonical_execIbZcd h
  | ibSsFault => exact canonical_execIbSsFault h
  | ibSsRetry => exact canonical_execIbSsRetry h
  | phaseAdmitCheck => exact canonical_execPhaseAdmitCheck h
  | ibPhaseShort => exact canonical_execIbPhaseShort h
  | ibPhaseRetry => exact canonical_execIbPhaseRetry h
  | ibPhaseRetryReset => exact canonical_execIbPhaseRetryReset h
  | stageFault => exact canonical_execStageFault h
  | ibOv => exact canonical_execIbOv h
  | ibOvResume => exact canonical_execIbOvResume h
  | ibLow => exact canonical_execIbLow h
  | vinHigh => exact canonical_execVinHigh h
  | vinShed => exact canonical_execVinShed h
  | vinRestore => exact canonical_execVinRestore h
  | vinStop => exact canonical_execVinStop h
  | siteReading => exact canonical_execSiteReading h
  | thermalCalDone => exact canonical_execThermalCalDone h
  | thmSuspClear => exact canonical_execThmSuspClear h
  | thermalRestart => exact canonical_execThermalRestart h
  | refCorrectionUpdate => exact canonical_execRefCorrectionUpdate h
  | tallyUpdate => exact canonical_execTallyUpdate h
  | reconcile => exact canonical_execReconcile h
  | capTrimUpdate => exact canonical_execCapTrimUpdate h
  | dieLimitSwitch => exact canonical_execDieLimitSwitch h
  | gradeStepStart => exact canonical_execGradeStepStart h
  | grdAck => exact canonical_execGrdAck h
  | gradeAckTimeout => exact canonical_execGradeAckTimeout h
  | gradeFaultClear => exact canonical_execGradeFaultClear h
  | derateUpdate => exact canonical_execDerateUpdate h
  | throttleN => exact canonical_execThrottleN h
  | thrStuck => exact canonical_execThrStuck h
  | capPkgWrite => exact canonical_execCapPkgWrite h
  | msBoundary => exact canonical_execMsBoundary h
  | tlmRecordIssue => exact canonical_execTlmRecordIssue h
  | tlmWriteResponse => exact canonical_execTlmWriteResponse h
  | nrgClr => exact canonical_execNrgClr h
  | sflagClear => exact canonical_execSflagClear h
  | page => exact canonical_execPage h
  | clearFaults => exact canonical_execClearFaults h
  | capability => exact canonical_execCapability h
  | voutMode => exact canonical_execVoutMode h
  | statusWord => exact canonical_execStatusWord h
  | statusIout => exact canonical_execStatusIout h
  | statusTemperature => exact canonical_execStatusTemperature h
  | statusCml => exact canonical_execStatusCml h
  | readVin => exact canonical_execReadVin h
  | readIin => exact canonical_execReadIin h
  | readVout => exact canonical_execReadVout h
  | readIout => exact canonical_execReadIout h
  | readTemperature1 => exact canonical_execReadTemperature1 h
  | readPout => exact canonical_execReadPout h
  | readPin => exact canonical_execReadPin h
  | pmbusRevision => exact canonical_execPmbusRevision h
  | mfrId => exact canonical_execMfrId h
  | mfrModel => exact canonical_execMfrModel h
  | mfrRevision => exact canonical_execMfrRevision h
  | mfrIbselReq => exact canonical_execMfrIbselReq h
  | mfrIbselRsp => exact canonical_execMfrIbselRsp h
  | mfrPartition => exact canonical_execMfrPartition h
  | mfrPartEnergy => exact canonical_execMfrPartEnergy h
  | pmbusInvalidCommand => exact canonical_execPmbusInvalidCommand h
  | conversionDone => exact canonical_execConversionDone h
  | seqTrigger => exact canonical_execSeqTrigger h
  | adcTimerExpiry => exact canonical_execAdcTimerExpiry h
  | seqDue => exact canonical_execSeqDue h
  | adcSeqGo => exact canonical_execAdcSeqGo h
  | adcInjGo => exact canonical_execAdcInjGo h
  | adcRefWrite => exact canonical_execAdcRefWrite h
  | refReady => exact canonical_execRefReady h
  | adcCalZero => exact canonical_execAdcCalZero h
  | adcCalFull => exact canonical_execAdcCalFull h
  | adcCalRestore => exact canonical_execAdcCalRestore h
  | adcCalDone => exact canonical_execAdcCalDone h
  | sync => exact canonical_execSync h
  | sum => exact canonical_execSum h
  | report => exact canonical_execReport h
  | share => exact canonical_execShare h
  | cap => exact canonical_execCap h
  | epoch => exact canonical_execEpoch h
  | req => exact canonical_execReq h
  | fault => exact canonical_execFault h
  | shed => exact canonical_execShed h
  | claim => exact canonical_execClaim h
  | state => exact canonical_execState h
  | echo => exact canonical_execEcho h
  | align => exact canonical_execAlign h
  | badFrame => exact canonical_execBadFrame h
  | periodAlign => exact canonical_execPeriodAlign h
  | laneUp => exact canonical_execLaneUp h
  | laneFault => exact canonical_execLaneFault h
  | hopRetry => exact canonical_execHopRetry h
  | hopRejoin => exact canonical_execHopRejoin h
  | ringStart => exact canonical_execRingStart h
  | sumLatch => exact canonical_execSumLatch h
  | sumSend => exact canonical_execSumSend h
  | lapComplete => exact canonical_execLapComplete h
  | principalLost => exact canonical_execPrincipalLost h
  | claimSend => exact canonical_execClaimSend h
  | claimRetry => exact canonical_execClaimRetry h
  | capRepeat => exact canonical_execCapRepeat h
  | epochGo => exact canonical_execEpochGo h
  | epochApply => exact canonical_execEpochApply h
  | relayTimeout => exact canonical_execRelayTimeout h
  | faultPulseEnd => exact canonical_execFaultPulseEnd h
  | holdRelease => exact canonical_execHoldRelease h
  | holdAssert => exact canonical_execHoldAssert h
  | fieldBookClear => exact canonical_execFieldBookClear h
  | faultNMismatch => exact canonical_execFaultNMismatch h
  | mbxBell => exact canonical_execMbxBell h
  | mbxAck => exact canonical_execMbxAck h
  | mbxGuardTimeout => exact canonical_execMbxGuardTimeout h
  | mbxAccepted => exact canonical_execMbxAccepted h
  | mbxResponse => exact canonical_execMbxResponse h
  | unknownOpcode => exact canonical_execUnknownOpcode h
  | getIdentity => exact canonical_execGetIdentity h
  | getUptime => exact canonical_execGetUptime h
  | setDieLimit => exact canonical_execSetDieLimit h
  | setPkgCap => exact canonical_execSetPkgCap h
  | getCapState => exact canonical_execGetCapState h
  | getClass => exact canonical_execGetClass h
  | domOn => exact canonical_execDomOn h
  | domOff => exact canonical_execDomOff h
  | setVoltage => exact canonical_execSetVoltage h
  | setGrade => exact canonical_execSetGrade h
  | getDomain => exact canonical_execGetDomain h
  | tlmConfig => exact canonical_execTlmConfig h
  | getEnergy => exact canonical_execGetEnergy h
  | clearEnergy => exact canonical_execClearEnergy h
  | setPartitions => exact canonical_execSetPartitions h
  | setWatch => exact canonical_execSetWatch h
  | getWatch => exact canonical_execGetWatch h
  | retune => exact canonical_execRetune h
  | readmitCell => exact canonical_execReadmitCell h
  | getTract => exact canonical_execGetTract h
  | setTractLimit => exact canonical_execSetTractLimit h
  | resetTract => exact canonical_execResetTract h
  | soWindow => exact canonical_execSoWindow h
  | soEnable => exact canonical_execSoEnable h
  | soCounters => exact canonical_execSoCounters h
  | soTractPath => exact canonical_execSoTractPath h
  | getThermal => exact canonical_execGetThermal h
  | getSite => exact canonical_execGetSite h
  | clearSite => exact canonical_execClearSite h
  | getFaults => exact canonical_execGetFaults h
  | readBook => exact canonical_execReadBook h
  | releasePin => exact canonical_execReleasePin h
  | setSeverity => exact canonical_execSetSeverity h
  | adcCalibrate => exact canonical_execAdcCalibrate h
  | adcSetTrim => exact canonical_execAdcSetTrim h
  | adcGetTrim => exact canonical_execAdcGetTrim h
  | pstEnter => exact canonical_execPstEnter h
  | pstSetWake => exact canonical_execPstSetWake h
  | pstGet => exact canonical_execPstGet h
  | memStatus => exact canonical_execMemStatus h
  | memPower => exact canonical_execMemPower h
  | memOwner => exact canonical_execMemOwner h
  | memTest => exact canonical_execMemTest h
  | submitEpoch => exact canonical_execSubmitEpoch h
  | getTraverse => exact canonical_execGetTraverse h
  | getTime => exact canonical_execGetTime h
  | wdtKick => exact canonical_execWdtKick h
  | watchdogExpiry => exact canonical_execWatchdogExpiry h
  | coreClkSwitch => exact canonical_execCoreClkSwitch h
  | coreMemUncorr => exact canonical_execCoreMemUncorr h
  | blkRstCore => exact canonical_execBlkRstCore h
  | coreResetExit => exact canonical_execCoreResetExit h
  | blkRstBlock => exact canonical_execBlkRstBlock h
  | blockResetEffect => exact canonical_execBlockResetEffect h
  | blkRstIface => exact canonical_execBlkRstIface h
  | ifaceResetDone => exact canonical_execIfaceResetDone h
  | blkTrstGo => exact canonical_execBlkTrstGo h
  | memOwnerWrite => exact canonical_execMemOwnerWrite h
  | memPwrWrite => exact canonical_execMemPwrWrite h
  | memPowerUpDone => exact canonical_execMemPowerUpDone h
  | memTestRegion => exact canonical_execMemTestRegion h
  | benchmarkCalDone => exact canonical_execBenchmarkCalDone h
  | loaderWrite => exact canonical_execLoaderWrite h
  | platGo => exact canonical_execPlatGo h
  | platCheckDone => exact canonical_execPlatCheckDone h
  | coreHoldClear => exact canonical_execCoreHoldClear h
  | fwCrcDone => exact canonical_execFwCrcDone h
  | domainStartStep => exact canonical_execDomainStartStep h
  | syncSend => exact canonical_execSyncSend h
  | quietWindowEnd => exact canonical_execQuietWindowEnd h
  | fastOscillatorStable => exact canonical_execFastOscillatorStable h

/-! ### The clock -/

theorem State.wf.tickTs (h : s.wf) : s.tickTs.wf := by
  unfold State.tickTs
  extract_lets +onlyGivenNames n s1
  have h1 : s1.wf := .data h
  exact .ite h1 h1.updTrv

theorem State.wf.showAon (h : s.wf) : s.showAon.wf := .ite (.data h) h

theorem State.wf.stopDue (h : s.wf) : s.stopDue.wf := by
  unfold State.stopDue
  split
  · exact h
  · exact .ite h.stopClocks h

theorem State.wf.resumePmb (h : s.wf) : s.resumePmb.wf := by
  unfold State.resumePmb
  split
  · exact h
  · refine .ite h ?_
    dsimp only
    split
    next hexec => exact canonical_exec h.updPmb _ _ hexec
    · exact h.updPmb

theorem State.wf.tickTimers (h : s.wf) : s.tickTimers.wf :=
  h.wdtTick.finishOrphans.ibJoin.syncBack.slewBack.wakeLatch.stopDue.watchBallast.showAon.resumePmb

theorem State.wf.tick (h : s.wf) : s.tick.wf := by
  unfold State.tick
  extract_lets +onlyGivenNames s0
  have h0 : s0.wf := .data h
  exact .ite h0 h0.tickTs.drainLanes.endHopRetry.adcTick.tickTimers.gatherFlags

/-! ### The step -/

theorem canonical_step (h : s.wf) : Canonical (step s) := by
  unfold step
  split
  · exact .next h.tick
  · exact canonical_exec (.data h) _

end Sys2Proof.Machine
end

section

open Sys2Proof Sys2Proof.Machine

/-- Settles O4: a table changes only by stores, erasures and filters, and a memory only by stores, so every operation, every command and
the nanosecond of the clock keep the canonical form (R603, R615, R635). -/
theorem stepKeepsCanonicalForm : Obligations.StepKeepsCanonicalForm := by
  unfold Obligations.StepKeepsCanonicalForm
  intro s t h hstep
  exact canonical_step h t hstep

end

section
/-!
SUPPORT. A register write of firmware that the cadastre withholds (R585).
-/

namespace Sys2Proof.Machine

variable {s t : State}

/-! ### What an access leaves -/

theorem OnlyEvents.okay {l : List Nat} (h : OnlyEvents s t l) (v : Word) : OnlyEvents { s with bus := (t.okay v).bus } (t.okay v) l := by
  obtain ⟨⟨r, b, w, q, c, rfl⟩, hregs⟩ := h
  exact ⟨⟨r, b, w, q, c, rfl⟩, hregs⟩

/-! ### A write withheld from firmware -/

theorem writeReg_denied {off n : Nat} (v : Word) (hreg : (accessOf off).isSome = true) (hblock : blockOf off = some n)
    (hperm : bitN (s.reg CAD_FWPERM).toNat n = false) : s.writeReg true off v = s.raiseD evCAD_FW_DENIED 0xFFFF off := by
  obtain ⟨a, ha⟩ := Option.isSome_iff_exists.mp hreg
  unfold State.writeReg
  rw [ha, hblock]
  exact if_pos (by simp [hperm])

theorem busWrite_register {off : Nat} (core : Bool) (v : Word) (hopen : s.portOpen core = true) (hans : s.offAnswers off = true)
    (h4 : off % 4 = 0) (hlt : off < 0x80000) (hcoef : coefWindow off = none) :
    s.busWrite core off 0xF#4 v = (s.writeReg core off v).okay 0 := by
  unfold State.busWrite
  simp [hopen, hans, h4, hcoef, Nat.not_le.mpr hlt]

end Sys2Proof.Machine
end

section

open Sys2Proof Sys2Proof.Machine

/-- Settles O12: the write raises CAD_STAT.FW_DENIED in the place of a store, and completes with OKAY (R554, R585). -/
theorem firmwareWriteDenied : Obligations.FirmwareWriteDenied := by
  unfold Obligations.FirmwareWriteDenied
  intro off n v s hlt h4 hopen hans hcoef hreg hblock hperm
  have hexec : exec (.registerWrite .core off 0xF#4 v) s = .next ((s.raiseD evCAD_FW_DENIED 0xFFFF off).okay 0) := by
    rw [exec_registerWrite_inSpace _ _ _ _ _ (by omega)]
    change Host.Outcome.next (s.busWrite true off 0xF#4 v) = _
    rw [busWrite_register true v hopen hans h4 hlt hcoef, writeReg_denied v hreg hblock hperm]
  exact ⟨_, hexec, rfl, stat_raiseD_same s _ _ _ (by decide), (onlyEvents_raiseD s evCAD_FW_DENIED 0xFFFF off).okay 0⟩

end

section
/-!
SUPPORT. What a core reset does to the channels of the mailbox (R602): each that waits for an answer is answered BUSY, and no other
is touched.
-/

namespace Sys2Proof.Machine

variable {s : State}

/-! ### An answer on a channel (R595) -/

theorem sameRegs_putRsp (m j : Nat) (ws : List Word) (h : j + ws.length ≤ 16) : SameRegs s (s.putRsp m j ws) ((upTo 16).map (MBX_RSP m)) := by
  induction ws generalizing s j with
  | nil => exact .refl _ _
  | cons w ws ih =>
    have hlen : j + (ws.length + 1) ≤ 16 := h
    have hfirst : SameRegs s (s.setReg (MBX_RSP m j) w) ((upTo 16).map (MBX_RSP m)) :=
      (SameRegs.refl s _).setReg w (List.mem_map_of_mem (List.mem_range.mpr (by omega)))
    exact hfirst.trans (ih (j + 1) (by omega))

theorem putRsp_eq (m j : Nat) (ws : List Word) : ∃ r, s.putRsp m j ws = { s with regs := r } := by
  induction ws generalizing s j with
  | nil => exact ⟨s.regs, rfl⟩
  | cons w ws ih =>
    obtain ⟨r, hr⟩ := ih (s := s.setReg (MBX_RSP m j) w) (j + 1)
    exact ⟨r, hr⟩

theorem chan_updChan_ne {k m : Nat} (f : ChanHid → ChanHid) (h : k ≠ m) : (s.updChan m f).chan k = s.chan k := tblGet_set_ne _ _ _ _ _ h

theorem chan_setDone (m k : Nat) : (s.setDone m).chan k = s.chan k := rfl

theorem sameRegs_setDone (m : Nat) : SameRegs s (s.setDone m) [MBX_DONE] :=
  (SameRegs.refl s _).put (f := fMBX_DONE_DONE) _ (List.mem_singleton.mpr rfl)

theorem cst_ne_done (m : Nat) : MBX_CST m ≠ MBX_DONE := by
  unfold MBX_CST MBX_DONE
  omega

/-- The channel concluded: its state and code in MBX_CST, its bit in MBX_DONE, and no other channel (R595). -/
theorem conclude_spec (m : Nat) (acc : Bool) (status detail : Nat) (ws : List Word) :
    (∃ r c y, s.conclude m acc status detail ws = { s with regs := r, chans := c, cyc := y }) ∧
    (s.conclude m acc status detail ws).reg (MBX_CST m) = BitVec.ofNat 32 ((if acc then 3 else 4) * 256 + status) ∧
    SameRegs s (s.conclude m acc status detail ws) [MBX_CST m, MBX_DONE] ∧
    ∀ k, k ≠ m → (s.conclude m acc status detail ws).chan k = s.chan k := by
  unfold State.conclude
  extract_lets s1 accepts wasAccepted s2
  refine ⟨⟨_, _, _, rfl⟩, ?_, ?_, fun k hk => ?_⟩
  · have hdone := sameRegs_setDone (s := s2) m (MBX_CST m) (by simpa using cst_ne_done m)
    exact hdone.trans (reg_setReg_same s _ _)
  · have hset : SameRegs s s2 [MBX_CST m, MBX_DONE] := (SameRegs.refl s _).setReg _ (List.mem_cons_self ..)
    exact hset.trans ((sameRegs_setDone m).mono (List.subset_cons_self ..))
  · exact (chan_setDone m k).trans (chan_updChan_ne (s := s1) _ hk)

/-- An answer posted: the response words, and the channel concluded (R595, Tables 14.3, 14.4). -/
theorem post_spec (m status detail : Nat) (result : List Byte) :
    (∃ r c y, s.post m status detail result = { s with regs := r, chans := c, cyc := y }) ∧
    (s.post m status detail result).reg (MBX_CST m) = BitVec.ofNat 32 ((if status = 7 then 3 else 4) * 256 + status) ∧
    SameRegs s (s.post m status detail result) (rspRegs m) ∧
    ∀ k, k ≠ m → (s.post m status detail result).chan k = s.chan k := by
  unfold State.post
  extract_lets hdr words
  have hlen : words.length = 16 := by simp [words, hdr, packWords, upTo]
  have hwords := sameRegs_putRsp (s := s) m 0 words (by omega)
  obtain ⟨r, hr⟩ := putRsp_eq (s := s) m 0 words
  obtain ⟨⟨r', c, y, hdata⟩, hcst, hregs, hchan⟩ := conclude_spec (s := s.putRsp m 0 words) m (status = 7) status detail words
  refine ⟨⟨r', c, y, ?_⟩, by simpa using hcst, (hwords.mono ?_).trans (hregs.mono ?_), fun k hk => (hchan k hk).trans ?_⟩
  · rw [hdata, hr]
  · exact List.subset_append_right _ _
  · exact List.subset_append_left _ _
  · rw [hr]
    rfl

/-! ### The channels at a core reset -/

/-- A channel waits for an answer: pending, acknowledged or accepted (R602). -/
def State.waits (s : State) (m : Nat) : Prop := 1 ≤ s.chanState m ∧ s.chanState m ≤ 3

theorem chanAtReset_of_waits {m : Nat} (h : s.waits m) : s.chanAtReset m = s.post m 1 1 [] := by
  obtain ⟨hlow, hhigh⟩ := h
  have hstate : s.chanState m = 1 ∨ s.chanState m = 2 ∨ s.chanState m = 3 := by omega
  exact if_pos (by simpa [or_assoc] using hstate)

theorem chanAtReset_of_not_waits {m : Nat} (h : ¬s.waits m) : s.chanAtReset m = s := by
  have hstate : ¬(s.chanState m = 1 ∨ s.chanState m = 2 ∨ s.chanState m = 3) := fun hw => h (by unfold State.waits; omega)
  exact if_neg (by simpa [or_assoc] using hstate)

/-- A channel done with the answer BUSY. -/
def doneBusy : Word := 1025#32

theorem waits_congr {t : State} {m : Nat} (h : t.reg (MBX_CST m) = s.reg (MBX_CST m)) : t.waits m ↔ s.waits m := by
  unfold State.waits State.chanState State.get
  rw [h]

theorem not_waits_of_doneBusy {m : Nat} (h : s.reg (MBX_CST m) = doneBusy) : ¬s.waits m := by
  unfold State.waits State.chanState State.get
  rw [h]
  change ¬(1 ≤ bitsAt doneBusy 8 3 ∧ bitsAt doneBusy 8 3 ≤ 3)
  decide

theorem cst_not_rsp {k m : Nat} (h : k ≠ m) : MBX_CST k ∉ rspRegs m := by
  simp only [rspRegs, upTo, List.mem_append, List.mem_cons, List.not_mem_nil, or_false, List.mem_map, List.mem_range, not_or, not_exists, not_and]
  refine ⟨⟨?_, cst_ne_done k⟩, fun j hj => ?_⟩
  · unfold MBX_CST
    omega
  · unfold MBX_CST MBX_RSP
    omega

/-- One channel at a core reset. -/
theorem chanAtReset_spec (m : Nat) :
    (∃ r c y, s.chanAtReset m = { s with regs := r, chans := c, cyc := y }) ∧
    (s.waits m → (s.chanAtReset m).reg (MBX_CST m) = doneBusy) ∧
    SameRegs s (s.chanAtReset m) (rspRegs m) ∧
    ∀ k, k ≠ m ∨ ¬s.waits m → (s.chanAtReset m).reg (MBX_CST k) = s.reg (MBX_CST k) ∧ (s.chanAtReset m).chan k = s.chan k := by
  by_cases hw : s.waits m
  · rw [chanAtReset_of_waits hw]
    obtain ⟨hdata, hcst, hregs, hchan⟩ := post_spec (s := s) m 1 1 []
    exact ⟨hdata, fun _ => hcst, hregs, fun k hk => by
      have hne : k ≠ m := hk.resolve_right (not_not_intro hw)
      exact ⟨hregs _ (cst_not_rsp hne), hchan k hne⟩⟩
  · rw [chanAtReset_of_not_waits hw]
    exact ⟨⟨_, _, _, rfl⟩, fun h => absurd h hw, .refl _ _, fun _ _ => ⟨rfl, rfl⟩⟩

/-- The channels of a list at a core reset: those that wait are answered BUSY, and every other keeps its state and its history. -/
theorem chansAtReset_spec (l : List Nat) (s : State) :
    (∃ r c y, forEach l (fun m u => u.chanAtReset m) s = { s with regs := r, chans := c, cyc := y }) ∧
    (∀ m ∈ l, s.waits m → (forEach l (fun m u => u.chanAtReset m) s).reg (MBX_CST m) = doneBusy) ∧
    SameRegs s (forEach l (fun m u => u.chanAtReset m) s) (l.flatMap rspRegs) ∧
    ∀ m, ¬s.waits m → (forEach l (fun m u => u.chanAtReset m) s).reg (MBX_CST m) = s.reg (MBX_CST m) ∧
      (forEach l (fun m u => u.chanAtReset m) s).chan m = s.chan m := by
  induction l generalizing s with
  | nil => exact ⟨⟨_, _, _, rfl⟩, fun m hm => absurd hm List.not_mem_nil, .refl _ _, fun _ _ => ⟨rfl, rfl⟩⟩
  | cons k l ih =>
    obtain ⟨⟨r, c, y, hdata⟩, hbusy, hregs, hother⟩ := chanAtReset_spec (s := s) k
    obtain ⟨⟨r', c', y', hdata'⟩, hbusy', hregs', hother'⟩ := ih (s.chanAtReset k)
    change (∃ r c y, forEach l _ (s.chanAtReset k) = _) ∧ (∀ m ∈ k :: l, _ → (forEach l _ (s.chanAtReset k)).reg _ = _) ∧
      SameRegs s (forEach l _ (s.chanAtReset k)) _ ∧
      ∀ m, _ → (forEach l _ (s.chanAtReset k)).reg _ = _ ∧ (forEach l _ (s.chanAtReset k)).chan m = _
    refine ⟨⟨r', c', y', by rw [hdata', hdata]⟩, fun m hm hw => ?_, ?_, fun m hw => ?_⟩
    · by_cases hk : m = k
      · subst hk
        exact (hother' m (not_waits_of_doneBusy (hbusy hw))).1.trans (hbusy hw)
      · exact hbusy' m ((List.mem_cons.mp hm).resolve_left hk) ((waits_congr (hother m (.inl hk)).1).mpr hw)
    · rw [List.flatMap_cons]
      exact (hregs.mono (List.subset_append_left _ _)).trans (hregs'.mono (List.subset_append_right _ _))
    · have hstep := hother m (by by_cases hk : m = k; exacts [.inr (hk ▸ hw), .inl hk])
      have hrest := hother' m fun h => hw ((waits_congr hstep.1).mp h)
      exact ⟨hrest.1.trans hstep.1, hrest.2.trans hstep.2⟩

/-! ### The core at a core reset (R602, R606) -/

theorem reg_withCore (s : State) (c : CoreHid) (o : Nat) : ({ s with core := c } : State).reg o = s.reg o := rfl

/-- The registers of the core as it falls: not ready, not running, at its low clock, one more reset counted (R602, R606). -/
def State.coreFalls (s : State) : State :=
  ((((s.putB fBLK_CORE_READY false).putB fBLK_CORE_RUNNING false).putB fBLK_CORE_CLK false).addSat fBLK_CORE_RESETS 1).putB fBLK_RST_CORE true

/-- The core falls, and is due to leave its reset at an instant (R602, R606). -/
def State.dropCore (s : State) (due : Nat) : State :=
  { s.coreFalls with core := { s.coreFalls.core with exitDue := some due, waiting := false, orphans := [] } }

theorem reg_dropCore (s : State) (due o : Nat) : (s.dropCore due).reg o = s.coreFalls.reg o := reg_withCore s.coreFalls _ o

theorem coreFalls_fields (s : State) :
    s.coreFalls.on fBLK_CORE_READY = false ∧ s.coreFalls.on fBLK_CORE_RUNNING = false ∧ s.coreFalls.on fBLK_CORE_CLK = false ∧
    s.coreFalls.on fBLK_RST_CORE = true ∧ s.coreFalls.get fBLK_CORE_RESETS = min 255 (s.get fBLK_CORE_RESETS + 1) := by
  unfold State.coreFalls
  refine ⟨?_, ?_, ?_, on_putB_same _ _ _ (by decide) rfl, ?_⟩
  · simp (disch := decide) only [on_putB_reg, on_addSat_apart, on_putB_apart, on_putB_same]
  · simp (disch := decide) only [on_putB_reg, on_addSat_apart, on_putB_apart, on_putB_same]
  · simp (disch := decide) only [on_putB_reg, on_addSat_apart, on_putB_same]
  · simp (disch := decide) only [get_putB_reg, get_addSat, get_putB_apart]
    rfl

theorem sameRegs_coreFalls (s : State) : SameRegs s s.coreFalls [BLK_CORE, BLK_RST] :=
  (((((SameRegs.refl s _).putB _ (by simp)).putB _ (by simp)).putB _ (by simp)).addSat _ (by simp)).putB _ (by simp)

theorem coreFalls_eq (s : State) : ∃ r, s.coreFalls = { s with regs := r } := ⟨_, rfl⟩

theorem dropCore_eq (s : State) (due : Nat) : ∃ r, s.dropCore due = { s with
    regs := r, core := { s.core with exitDue := some due, waiting := false, orphans := [] } } := by
  obtain ⟨r, hr⟩ := coreFalls_eq s
  exact ⟨r, by rw [State.dropCore, hr]⟩

/-- The channels of the block answered at a core reset (R602). -/
def State.answered (s : State) : State := forEach (upTo 8) (fun m u => u.chanAtReset m) s.detachRelays

/-- The event that tells of a core reset (R601, R602). -/
def resetEvent (byWdt : Bool) : Ev := if byWdt then evBLK_WDT else evBLK_CORE_RESET

theorem coreReset_eq (s : State) (byWdt : Bool) :
    s.coreReset byWdt = (s.answered.dropCore (s.now + 2000)).raise (resetEvent byWdt) 0xFFFF := by
  cases byWdt <;> rfl

theorem resetEvent_block (byWdt : Bool) : (resetEvent byWdt).block = 0 ∧ (resetEvent byWdt).bit < 32 := by
  cases byWdt <;> decide

/-- The registers of the mailbox that a core reset may change (R602). -/
def answerRegs : List Nat := (upTo 8).flatMap rspRegs

theorem answerRegs_subset : answerRegs ⊆ MBX_DONE :: (upTo 8).flatMap fun m => MBX_CST m :: (upTo 16).map (MBX_RSP m) := by
  intro o ho
  obtain ⟨m, hm, hrsp⟩ := List.mem_flatMap.mp ho
  have hin (h : o ∈ MBX_CST m :: (upTo 16).map (MBX_RSP m)) :
      o ∈ MBX_DONE :: (upTo 8).flatMap fun m => MBX_CST m :: (upTo 16).map (MBX_RSP m) :=
    List.mem_cons_of_mem _ (List.mem_flatMap.mpr ⟨m, hm, h⟩)
  rcases List.mem_append.mp hrsp with hcst | hword
  · rcases List.mem_pair.mp hcst with rfl | rfl
    · exact hin List.mem_cons_self
    · exact List.mem_cons_self
  · exact hin (List.mem_cons_of_mem _ hword)

theorem core_not_answerRegs : BLK_CORE ∉ answerRegs := by decide

theorem answered_frame (s : State) :
    (∃ r c y, s.answered = { s with regs := r, chans := c, trv := s.detachRelays.trv, cyc := y }) ∧ SameRegs s s.answered answerRegs := by
  obtain ⟨⟨r, c, y, hdata⟩, -, hregs, -⟩ := chansAtReset_spec (upTo 8) s.detachRelays
  exact ⟨⟨r, c, y, hdata⟩, hregs⟩

theorem answered_chan (s : State) (m : Nat) (hm : m < 8) :
    (s.waits m → s.answered.reg (MBX_CST m) = doneBusy) ∧
    (¬s.waits m → s.answered.reg (MBX_CST m) = s.reg (MBX_CST m) ∧ s.answered.chan m = s.chan m) := by
  obtain ⟨-, hbusy, -, hother⟩ := chansAtReset_spec (upTo 8) s.detachRelays
  exact ⟨hbusy m (List.mem_range.mpr hm), hother m⟩

/-- A core reset: its frame, the registers of the core as the core falls, and the channels as they are answered. -/
theorem coreReset_spec (s : State) (byWdt : Bool) :
    (∃ r b v q c, s.coreReset byWdt = { s with
      regs := r, book := b, trv := v, pins := q, cyc := c, chans := s.answered.chans
      core := { s.core with exitDue := some (s.now + 2000), waiting := false, orphans := [] } }) ∧
    SameRegs s (s.coreReset byWdt) (eventRegs 0 ++ [BLK_CORE, BLK_RST] ++ answerRegs) ∧
    (∀ o ∈ [BLK_CORE, BLK_RST], (s.coreReset byWdt).reg o = s.answered.coreFalls.reg o) ∧
    (∀ m < 8, (s.coreReset byWdt).reg (MBX_CST m) = s.answered.reg (MBX_CST m)) ∧
    (s.coreReset byWdt).stat (resetEvent byWdt) = true := by
  obtain ⟨hblock, hbit⟩ := resetEvent_block byWdt
  obtain ⟨⟨ra, ca, ya, hanswered⟩, haregs⟩ := answered_frame s
  obtain ⟨rd, hdropped⟩ := dropCore_eq s.answered (s.now + 2000)
  have hdregs : SameRegs s.answered (s.answered.dropCore (s.now + 2000)) [BLK_CORE, BLK_RST] := fun o ho =>
    (reg_dropCore _ _ o).trans (sameRegs_coreFalls _ o ho)
  have hraise := onlyEvents_raise (s.answered.dropCore (s.now + 2000)) (resetEvent byWdt) 0xFFFF
  rw [hblock] at hraise
  obtain ⟨⟨r, b, v, q, c, hdata⟩, hregs⟩ := hraise
  rw [coreReset_eq]
  refine ⟨⟨r, b, v, q, c, ?_⟩, ?_, fun o ho => ?_, fun m hm => ?_, stat_raise_same _ _ _ hbit⟩
  · rw [hdata, hdropped, hanswered]
  · exact ((haregs.mono (List.subset_append_right _ _)).trans (hdregs.mono (by simp))).trans (SameRegs.mono hregs (by simp))
  · exact (hregs o ((by decide : ∀ o ∈ [BLK_CORE, BLK_RST], o ∉ eventRegs 0) o ho)).trans (reg_dropCore _ _ o)
  · exact (hregs _ ((by decide : ∀ m < 8, MBX_CST m ∉ eventRegs 0) m hm)).trans
      (hdregs _ ((by decide : ∀ m < 8, MBX_CST m ∉ [BLK_CORE, BLK_RST]) m hm))

end Sys2Proof.Machine
end

section

open Sys2Proof Sys2Proof.Machine

/-- Settles O20: the channels are answered first, then the core falls, and the event that tells of it leaves both (R601, R602, R606). -/
theorem coreReset : Obligations.CoreReset := by
  unfold Obligations.CoreReset
  intro s byWdt
  obtain ⟨⟨r, b, v, q, c, hdata⟩, hregs, hcore, hcst, hstat⟩ := coreReset_spec s byWdt
  obtain ⟨-, haregs⟩ := answered_frame s
  obtain ⟨hready, hrunning, hclk, hrst, hresets⟩ := coreFalls_fields s.answered
  generalize s.coreReset byWdt = t at hdata hregs hcore hcst hstat ⊢
  have hget (f : Fld) (hf : f.off ∈ [BLK_CORE, BLK_RST]) : t.get f = s.answered.coreFalls.get f := by
    unfold State.get
    rw [hcore _ hf]
  have hon (f : Fld) (hf : f.off ∈ [BLK_CORE, BLK_RST]) : t.on f = s.answered.coreFalls.on f := by
    unfold State.on
    rw [hget f hf]
  refine ⟨(hon _ (by simp)).trans hready, (hon _ (by simp)).trans hrunning, (hon _ (by simp)).trans hclk, (hon _ (by simp)).trans hrst,
    ?_, by rw [hdata], hstat, fun m hm hlow hhigh => ?_, fun m hm hidle => ?_, ⟨r, b, v, q, c, by rw [hdata]⟩, ?_⟩
  · rw [hget _ (by simp), hresets, get_sameRegs haregs fBLK_CORE_RESETS core_not_answerRegs]
  · have hbusy : t.reg (MBX_CST m) = doneBusy := (hcst m hm).trans ((answered_chan s m hm).1 ⟨hlow, hhigh⟩)
    unfold State.chanState State.get
    rw [hbusy]
    exact (by decide : bitsAt doneBusy 8 3 = 4 ∧ bitsAt doneBusy 0 3 = 1)
  · obtain ⟨hreg, hchan⟩ := (answered_chan s m hm).2 fun h => by
      obtain ⟨hlow, hhigh⟩ := h
      omega
    exact ⟨(hcst m hm).trans hreg, by rw [hdata]; exact hchan⟩
  · refine hregs.mono (List.append_subset.mpr ⟨fun o ho => ?_, fun o ho => ?_⟩)
    · rcases List.mem_append.mp ho with hevent | hfall
      · simp only [List.mem_append, hevent, true_or]
      · rcases List.mem_pair.mp hfall with rfl | rfl <;> simp
    · rcases List.mem_cons.mp (answerRegs_subset ho) with rfl | hanswer
      · simp
      · exact List.mem_append_right _ hanswer

end

section
/-!
SUPPORT. States that are the same but for the note of which bits were set or written at this instant, as `Ends` leaves them: what the note
holds changes nothing of an event or of a core reset but the note.
-/

namespace Sys2Proof.Machine

/-- The same state but for the note of which bits were set or written at this instant. -/
def SameButNote (s t : State) : Prop := ∃ c, t = { s with cyc := c }

variable {s t u v : State}

theorem Ends.of_sameButNote {c : Instr} (hexec : exec c s = .next t) (h : SameButNote u t) : Ends c s u := by
  obtain ⟨c', rfl⟩ := h
  exact ⟨_, hexec, rfl⟩

theorem sameButNote_hostMark (s : State) (core : Bool) (o : Nat) (m : Word) : SameButNote s (s.hostMark core o m) := hostMark_eq s core o m

namespace SameButNote

theorem get (h : SameButNote s t) (f : Fld) : t.get f = s.get f := by
  obtain ⟨c, rfl⟩ := h
  rfl

theorem okay (h : SameButNote s t) (w : Word) : SameButNote (s.okay w) (t.okay w) := by
  obtain ⟨c, rfl⟩ := h
  exact ⟨c, rfl⟩

theorem setReg (h : SameButNote s t) (o : Nat) (w : Word) : SameButNote (s.setReg o w) (t.setReg o w) := by
  obtain ⟨c, rfl⟩ := h
  exact ⟨c, rfl⟩

theorem put (h : SameButNote s t) (f : Fld) (n : Nat) : SameButNote (s.put f n) (t.put f n) := by
  obtain ⟨c, rfl⟩ := h
  exact ⟨c, rfl⟩

theorem putB (h : SameButNote s t) (f : Fld) (b : Bool) : SameButNote (s.putB f b) (t.putB f b) := h.put f (b2n b)

theorem addSat (h : SameButNote s t) (f : Fld) (n : Nat) : SameButNote (s.addSat f n) (t.addSat f n) := by
  obtain ⟨c, rfl⟩ := h
  exact ⟨c, rfl⟩

theorem markSet (h : SameButNote s t) (o : Nat) (m : Word) : SameButNote (s.markSet o m) (t.markSet o m) := by
  obtain ⟨c, rfl⟩ := h
  exact ⟨_, rfl⟩

theorem updTrv (h : SameButNote s t) (f : TrvHid → TrvHid) : SameButNote (s.updTrv f) (t.updTrv f) := by
  obtain ⟨c, rfl⟩ := h
  exact ⟨c, rfl⟩

theorem ite {c : Prop} [Decidable c] (h : SameButNote s t) (k : SameButNote u v) : SameButNote (if c then s else u) (if c then t else v) := by
  split
  · exact h
  · exact k

theorem forEach {f : Nat → State → State} (hf : ∀ k s t, SameButNote s t → SameButNote (f k s) (f k t)) (l : List Nat) (h : SameButNote s t) :
    SameButNote (forEach l f s) (forEach l f t) := by
  induction l generalizing s t with
  | nil => exact h
  | cons k l ih => exact ih (hf k s t h)

/-! ### An event -/

theorem enqueue (h : SameButNote s t) (l : Nat) (e : TxEntry) : SameButNote (s.enqueue l e) (t.enqueue l e) := by
  obtain ⟨c, rfl⟩ := h
  have hlane : ({ s with cyc := c } : State).outLane l = s.outLane l := rfl
  unfold State.enqueue
  rw [hlane]
  split <;> exact ⟨c, rfl⟩

theorem transmitBoth (h : SameButNote s t) (w : Word64) : SameButNote (s.transmit 2 w) (t.transmit 2 w) := by
  have hnow : t.now = s.now := by
    obtain ⟨c, rfl⟩ := h
    rfl
  change SameButNote ((s.enqueue 0 ⟨w, s.now, true, 0⟩).enqueue 1 ⟨w, s.now, true, 0⟩)
    ((t.enqueue 0 ⟨w, t.now, true, 0⟩).enqueue 1 ⟨w, t.now, true, 0⟩)
  rw [hnow]
  exact (h.enqueue 0 _).enqueue 1 _

theorem originateBoth (h : SameButNote s t) (ty body : Nat) : SameButNote (s.originate 2 ty body) (t.originate 2 ty body) := by
  have hsend := h.transmitBoth (frameWord ty s.dieIndex body)
  obtain ⟨c, rfl⟩ := h
  exact ite ⟨c, rfl⟩ hsend

theorem broadcastFault (h : SameButNote s t) (e : Ev) (sev : Nat) : SameButNote (s.broadcastFault e sev) (t.broadcastFault e sev) := by
  have hsend := h.originateBoth 8 (e.block * 2 ^ 40 + e.bit * 2 ^ 35 + sev * 2 ^ 33 + s.ts.toNat % 2 ^ 32)
  obtain ⟨c, rfl⟩ := h
  exact ite (hsend.updTrv fun h => { h with bcastAt := tblSet (fun _ => 0) h.bcastAt (32 * e.block + e.bit) (s.now + 1) }) ⟨c, rfl⟩

theorem setStat (h : SameButNote s t) (e : Ev) : SameButNote (s.setStat e) (t.setStat e) := by
  obtain ⟨c, rfl⟩ := h
  exact ⟨_, rfl⟩

theorem evict (h : SameButNote s t) (block slot : Nat) : SameButNote (s.evict block slot) (t.evict block slot) := by
  obtain ⟨c, rfl⟩ := h
  unfold State.evict
  exact (ite (ite ⟨c, rfl⟩ ⟨c, rfl⟩) ((ite ⟨c, rfl⟩ ⟨c, rfl⟩).putB _ _)).put _ _

/-- An event recorded in states that are the same but for the note, with the same outcome. -/
def Recorded (p q : State × Recorded) : Prop := SameButNote p.1 q.1 ∧ q.2 = p.2

theorem Recorded.ite {c : Prop} [Decidable c] {p q p' q' : State × Machine.Recorded} (h : Recorded p q) (k : Recorded p' q') :
    Recorded (if c then p else p') (if c then q else q') := by
  split
  · exact h
  · exact k

theorem record (h : SameButNote s t) (book : Nat) (was : Bool) (e : Entry) : Recorded (s.record book was e) (t.record book was e) := by
  have hlost : SameButNote (s.loseEvent book) (t.loseEvent book) := h.addSat _ 1
  have hevict := h.evict book
  obtain ⟨c, rfl⟩ := h
  have hwrite (u v : State) (a : Nat) (bs : List Byte) (h : SameButNote u v) :
      SameButNote { u with book := memPutBytes u.book a bs } { v with book := memPutBytes v.book a bs } := by
    obtain ⟨c, rfl⟩ := h
    exact ⟨c, rfl⟩
  unfold State.record
  refine .ite ⟨hlost, rfl⟩ (.ite (.ite ⟨hlost, rfl⟩ ⟨⟨c, rfl⟩, rfl⟩) (.ite ⟨hlost, rfl⟩ ⟨?_, rfl⟩))
  exact (((hwrite _ _ _ _ (SameButNote.ite (hevict _) ⟨c, rfl⟩)).put _ _).put _ _).addSat _ _

theorem note (h : SameButNote s t) (e : Ev) (idx data : Nat) : Recorded (s.note e idx data) (t.note e idx data) := by
  have hset := h.setStat e
  have hbroadcast := hset.broadcastFault e (s.sevOf e)
  obtain ⟨c, rfl⟩ := h
  exact record (SameButNote.ite hset hbroadcast) _ _ _

theorem afterRecord {p q : State × Machine.Recorded} (h : Recorded p q) : SameButNote (State.afterRecord p) (State.afterRecord q) := by
  obtain ⟨hstate, hout⟩ := h
  unfold State.afterRecord
  rw [hout]
  split
  · exact hstate
  · exact (hstate.note _ _ _).1
  · exact (((hstate.note _ _ _).1.addSat _ _).note _ _ _).1

theorem driveFault (h : SameButNote s t) : SameButNote s.driveFault t.driveFault := by
  obtain ⟨c, rfl⟩ := h
  exact ⟨c, rfl⟩

theorem triggerPin (h : SameButNote s t) (remote : Bool) (e : Entry) : SameButNote (s.triggerPin remote e) (t.triggerPin remote e) := by
  unfold State.triggerPin
  refine ((((SameButNote.putB ?_ _ _).putB _ _).driveFault).setReg _ _).addSat _ _
  obtain ⟨c, rfl⟩ := h
  exact ⟨_, rfl⟩

theorem pinPart (h : SameButNote s t) (remote : Bool) (e : Entry) : SameButNote (s.pinPart remote e) (t.pinPart remote e) := by
  have htrigger := afterRecord ((h.triggerPin remote e).note evFLT_ASSERTED 0xFFFF 0)
  obtain ⟨c, rfl⟩ := h
  exact ite htrigger ⟨c, rfl⟩

theorem rmwPin (h : SameButNote s t) (r : Machine.Recorded) : SameButNote (s.rmwPin r) (t.rmwPin r) := by
  cases r with
  | lostRmw a =>
    have hpin (e : Entry) := h.pinPart false e
    obtain ⟨c, rfl⟩ := h
    exact hpin _
  | kept => exact h
  | lost => exact h

theorem raiseD (h : SameButNote s t) (e : Ev) (idx data : Nat) : SameButNote (s.raiseD e idx data) (t.raiseD e idx data) := by
  have hnote := h.note e idx data
  have hpin (x : Entry) := (afterRecord hnote).pinPart false x
  unfold State.raiseD
  dsimp only
  rw [hnote.2]
  obtain ⟨c, rfl⟩ := h
  exact (hpin _).rmwPin _

theorem raise (h : SameButNote s t) (e : Ev) (idx : Nat) (hdata : ∀ c, ({ s with cyc := c } : State).evData e.block idx = s.evData e.block idx) :
    SameButNote (s.raise e idx) (t.raise e idx) := by
  have hraise := h.raiseD e idx (s.evData e.block idx)
  obtain ⟨c, rfl⟩ := h
  unfold State.raise
  rw [hdata]
  exact hraise

/-! ### A core reset -/

/-- An event of the block's own registers has no DATA (Table 13.2). -/
theorem evData_resetEvent (s : State) (byWdt : Bool) (idx : Nat) : s.evData (resetEvent byWdt).block idx = 0 := by
  rw [(resetEvent_block byWdt).1]
  rfl

theorem putRsp (h : SameButNote s t) (m j : Nat) (ws : List Word) : SameButNote (s.putRsp m j ws) (t.putRsp m j ws) := by
  induction ws generalizing s t j with
  | nil => exact h
  | cons w ws ih => exact ih (h.setReg _ w) (j + 1)

theorem setDone (h : SameButNote s t) (m : Nat) : SameButNote (s.setDone m) (t.setDone m) := by
  obtain ⟨c, rfl⟩ := h
  exact ⟨_, rfl⟩

theorem conclude (h : SameButNote s t) (m : Nat) (acc : Bool) (status detail : Nat) (ws : List Word) :
    SameButNote (s.conclude m acc status detail ws) (t.conclude m acc status detail ws) := by
  unfold State.conclude
  refine setDone ?_ m
  obtain ⟨c, rfl⟩ := h
  exact ⟨c, rfl⟩

theorem post (h : SameButNote s t) (m status detail : Nat) (result : List Byte) :
    SameButNote (s.post m status detail result) (t.post m status detail result) := by
  have hwords (ws : List Word) := (h.putRsp m 0 ws).conclude m (status = 7) status detail ws
  obtain ⟨c, rfl⟩ := h
  exact hwords _

theorem chanAtReset (h : SameButNote s t) (m : Nat) : SameButNote (s.chanAtReset m) (t.chanAtReset m) := by
  have hpost := h.post m 1 1 []
  obtain ⟨c, rfl⟩ := h
  exact ite hpost ⟨c, rfl⟩

theorem answered (h : SameButNote s t) : SameButNote s.answered t.answered := by
  refine SameButNote.forEach (fun m _ _ hm => hm.chanAtReset m) _ ?_
  obtain ⟨c, rfl⟩ := h
  exact ⟨c, rfl⟩

theorem coreFalls (h : SameButNote s t) : SameButNote s.coreFalls t.coreFalls := by
  unfold State.coreFalls
  exact ((((h.putB _ _).putB _ _).putB _ _).addSat _ _).putB _ _

theorem dropCore (h : SameButNote s t) (due : Nat) : SameButNote (s.dropCore due) (t.dropCore due) := by
  obtain ⟨c, hc⟩ := h.coreFalls
  unfold State.dropCore
  rw [hc]
  exact ⟨c, rfl⟩

theorem coreReset (h : SameButNote s t) (byWdt : Bool) : SameButNote (s.coreReset byWdt) (t.coreReset byWdt) := by
  have hnow : t.now = s.now := by
    obtain ⟨c, rfl⟩ := h
    rfl
  rw [coreReset_eq, coreReset_eq, hnow]
  exact (h.answered.dropCore _).raise _ _ fun c => by rw [evData_resetEvent, evData_resetEvent]

end SameButNote

end Sys2Proof.Machine
end

section
/-!
SUPPORT. Served writes of the registers of the management core as they reach the page of the block's own registers (R580, R602, R604, R606),
and the entry to Run with which the core leaves Idle.
-/

namespace Sys2Proof.Machine

variable {s : State} {p : Port}

theorem portWrite_blkRst (v : Word) (hs : Served p BLK_RST s) :
    s.portWrite p BLK_RST v = .next (((s.hostMark (p = .core) BLK_RST 7#32).storeBlk (p = .core) BLK_RST v).okay 0) := by
  have hbits : s.writeBits ⟨0, 0, 0, 7#32⟩ BLK_RST v = v := by
    change v &&& ~~~(0#32 &&& _) = v
    rw [BitVec.zero_and, BitVec.not_zero, BitVec.and_allOnes]
  rw [portWrite_in s p BLK_RST v 0 ⟨0, 0, 0, 7#32⟩ hs (by decide) (by decide) (by decide) (by decide +kernel) rfl (by decide +kernel)
    (by decide +kernel) (by decide), hbits]
  rfl

theorem portWrite_blkCore (v : Word) (hs : Served p BLK_CORE s) :
    s.portWrite p BLK_CORE v = .next (((s.hostMark (p = .core) BLK_CORE 14#32).storeBlk (p = .core) BLK_CORE v).okay 0) := by
  have hbits : s.writeBits ⟨14#32, 0, 0, 0⟩ BLK_CORE v = v := by
    change v &&& ~~~(0#32 &&& _) = v
    rw [BitVec.zero_and, BitVec.not_zero, BitVec.and_allOnes]
  rw [portWrite_in s p BLK_CORE v 0 ⟨14#32, 0, 0, 0⟩ hs (by decide) (by decide) (by decide) (by decide +kernel) rfl (by decide +kernel)
    (by decide +kernel) (by decide), hbits]
  rfl

theorem storeBlk_coreReset (s : State) (core : Bool) : s.storeBlk core BLK_RST 2#32 = s.coreReset false := by
  unfold State.storeBlk
  rw [if_pos rfl]
  simp [show bitsAt 2#32 1 1 = 1 from by decide, show bitsAt 2#32 2 1 = 0 from by decide, show bitsAt 2#32 0 1 = 0 from by decide]

theorem exec_blkRstCore (hs : Served p BLK_RST s) :
    exec (.blkRstCore p) s = .next (((s.hostMark (p = .core) BLK_RST 7#32).coreReset false).okay 0) := by
  change s.portWrite p BLK_RST 2#32 = _
  rw [portWrite_blkRst _ hs, storeBlk_coreReset]

/-! ### The hold of the core -/

theorem bit_clear_two (w : Word) : bitsAt (w &&& 0xFFFFFFFB#32) 2 1 = 0 := by
  apply Nat.eq_of_testBit_eq
  intro i
  rw [testBit_bitsAt, BitVec.getLsbD_and, Nat.zero_testBit]
  rcases i with - | i
  · rw [show (0xFFFFFFFB#32).getLsbD (2 + 0) = false from by decide, Bool.and_false, Bool.and_false]
  · rw [decide_eq_false (by omega), Bool.false_and]

/-- A host write that leaves HOLD at 0 (R640). -/
theorem exec_coreHoldClear_host (hs : Served .host BLK_CORE s) :
    exec (.coreHoldClear .host) s = .next (((s.hostMark false BLK_CORE 14#32).writeCoreHold false).okay 0) := by
  change s.portWrite .host BLK_CORE (s.reg BLK_CORE &&& 0xFFFFFFFB#32) = _
  rw [portWrite_blkCore _ hs]
  have hstore (u : State) : u.storeBlk false BLK_CORE (s.reg BLK_CORE &&& 0xFFFFFFFB#32) = u.writeCoreHold false := by
    unfold State.storeBlk
    rw [if_neg (by decide), if_neg (by decide), if_pos rfl, bit_clear_two]
    rfl
  exact congrArg (fun u : State => Host.Outcome.next (u.okay 0)) (hstore _)

/-- A hold that ends once the phase has stood since an earlier cycle starts the check of the firmware image (R640). -/
theorem writeCoreHold_of_stood (hhold : s.on fBLK_CORE_HOLD = true) (hstood : s.phaseStood 4 = true) (hdue : s.boot.fwDue = none) :
    s.writeCoreHold false = { s with boot := { s.boot with fwDue := some (s.now + 200000) } } := by
  unfold State.writeCoreHold
  simp [hhold, hstood, hdue, State.updBoot]

theorem writeCoreHold_of_not_stood (hhold : s.on fBLK_CORE_HOLD = true) (hstood : s.phaseStood 4 = false) :
    s.writeCoreHold false = s.raise evPLAT_SEQ_REFUSED 0xFFFF := by
  unfold State.writeCoreHold
  simp [hhold, hstood]

theorem phaseStood_hostMark (s : State) (core : Bool) (o n : Nat) (m : Word) : (s.hostMark core o m).phaseStood n = s.phaseStood n := by
  unfold State.hostMark
  split <;> rfl

/-- What a host write that leaves HOLD at 0 comes to, where its page does the same with and without the host's mark (R640). -/
theorem coreHoldClear_ends {u v : State} (hs : Served .host BLK_CORE s) (hstore : (s.hostMark false BLK_CORE 14#32).writeCoreHold false = v)
    (hsame : SameButNote u v) : Ends (.coreHoldClear .host) s (u.okay 0) :=
  .of_sameButNote ((exec_coreHoldClear_host hs).trans (by rw [hstore])) (hsame.okay 0)

theorem coreHoldClear_of_stood (hs : Served .host BLK_CORE s) (hhold : s.on fBLK_CORE_HOLD = true) (hstood : s.phaseStood 4 = true)
    (hdue : s.boot.fwDue = none) :
    Ends (.coreHoldClear .host) s (({ s with boot := { s.boot with fwDue := some (s.now + 200000) } } : State).okay 0) := by
  have hphase := (phaseStood_hostMark s false BLK_CORE 4 14#32).trans hstood
  have hmark := sameButNote_hostMark s false BLK_CORE 14#32
  generalize hu : s.hostMark false BLK_CORE 14#32 = u at hphase hmark
  obtain ⟨c, rfl⟩ := hmark
  refine coreHoldClear_ends hs ?_ ⟨c, rfl⟩
  rw [hu]
  exact writeCoreHold_of_stood hhold hphase hdue

theorem coreHoldClear_of_not_stood (hs : Served .host BLK_CORE s) (hhold : s.on fBLK_CORE_HOLD = true) (hstood : s.phaseStood 4 = false) :
    Ends (.coreHoldClear .host) s ((s.raise evPLAT_SEQ_REFUSED 0xFFFF).okay 0) := by
  have hmark := sameButNote_hostMark s false BLK_CORE 14#32
  refine coreHoldClear_ends hs (writeCoreHold_of_not_stood ?_ ((phaseStood_hostMark s false BLK_CORE 4 14#32).trans hstood))
    (hmark.raise _ _ fun _ => rfl)
  unfold State.on at hhold ⊢
  rwa [hmark.get]

/-! ### What the cadastre permits firmware -/

theorem permitted_of_granted {n off : Nat} (f : State → State) (h : bitN (s.reg CAD_FWPERM).toNat n = true) : s.permitted n off f = f s :=
  if_pos h

theorem permitted_of_withheld {n off : Nat} (f : State → State) (h : bitN (s.reg CAD_FWPERM).toNat n = false) :
    s.permitted n off f = s.raiseD evCAD_FW_DENIED 0xFFFF off := if_neg (by simp [h])

theorem exec_wdtKick (hopen : s.portOpen true = true) : exec .wdtKick s = .next
    (s.permitted 0 BLK_WDT fun s => { s.put fBLK_WDT_COUNT 10000 with core := { s.core with wdtSub := 0 } }) :=
  congrArg Host.Outcome.next (if_pos hopen)

theorem exec_coreClkSwitch (clk : Bool) (hopen : s.portOpen true = true) : exec (.coreClkSwitch clk) s = .next
    (s.permitted 0 BLK_CORE fun s => s.putB fBLK_CORE_CLK (clk && s.clk.pll)) :=
  congrArg Host.Outcome.next (if_pos hopen)

/-! ### The core leaves Idle -/

theorem sameRegs_setAon (s : State) (n : Nat) : SameRegs s (s.setAon n) [PST_STATE, MON_ACTIVE] := by
  have hput : SameRegs s (s.put fPST_STATE_STATE n) [PST_STATE, MON_ACTIVE] := (SameRegs.refl s _).put _ (by simp)
  have hpins : SameRegs s { s.put fPST_STATE_STATE n with pins := { s.pins with pulseDue := s.pulseEnd n } } [PST_STATE, MON_ACTIVE] :=
    hput.ofRegs rfl
  exact (hpins.put (f := fMON_ACTIVE_ACT) _ (by simp)).ofRegs rfl

/-- The registers that the entry to Run may change (R267, R313, R322). -/
def runRegs : List Nat := [PST_STATE, MON_ACTIVE] ++ (eventRegs 11 ++ [IBS_TGT, IBS_STATE])

theorem sameRegs_enterRun (s : State) : SameRegs s s.enterRun runRegs := by
  have haon : SameRegs s (s.setAon 0).envelopeRestart runRegs := ((sameRegs_setAon s 0).ofRegs rfl).mono (by simp [runRegs])
  exact haon.trans ((sameRegs_offerVsel _).mono (by simp [runRegs]))

theorem core_applyVsel (s : State) (v : Nat) : (s.applyVsel v).core = s.core := by
  obtain ⟨-, -, ⟨i, r, b, w, q, c, hdata⟩, -⟩ := applyVsel_spec s v
  rw [hdata]

theorem core_offerVsel (s : State) : s.offerVsel.core = s.core := by
  have hchange (v : Nat) : (s.changeVsel v).core = s.core := by
    rw [← core_applyVsel s v]
    unfold State.changeVsel
    dsimp only
    split <;> rfl
  have hpick (free : Bool) (v : Nat) : (if free then s.changeVsel v else s.putB fIBS_STATE_DWELL true).core = s.core := by
    split
    · exact hchange v
    · rfl
  unfold State.offerVsel
  dsimp only
  split
  · rfl
  · exact hpick _ _

theorem core_enterRun (s : State) : s.enterRun.core = s.core := core_offerVsel _

/-- The core as it leaves its reset, before it wakes the block (R580, R600, R606). -/
def State.coreRises (s : State) : State :=
  let u := ((s.putB fBLK_RST_CORE false).putB fBLK_CORE_RUNNING true).put fBLK_WDT_COUNT 10000
  { u with core := { u.core with exitDue := none, wdtSub := 0 } }

theorem coreRises_fields (s : State) :
    s.coreRises.on fBLK_RST_CORE = false ∧ s.coreRises.on fBLK_CORE_RUNNING = true ∧ s.coreRises.get fBLK_WDT_COUNT = 10000 := by
  have hon (u : State) (h : CoreHid) (f : Fld) : ({ u with core := h } : State).on f = u.on f := rfl
  have hget (u : State) (h : CoreHid) (f : Fld) : ({ u with core := h } : State).get f = u.get f := rfl
  unfold State.coreRises
  refine ⟨(hon _ _ _).trans ?_, (hon _ _ _).trans ?_, (hget _ _ _).trans (get_put _ fBLK_WDT_COUNT 10000 (by decide))⟩
  · simp (disch := decide) only [on_put_reg, on_putB_reg, on_putB_same]
  · simp (disch := decide) only [on_put_reg, on_putB_same]

theorem coreRises_eq (s : State) : ∃ r, s.coreRises = { s with regs := r, core := { s.core with exitDue := none, wdtSub := 0 } } := ⟨_, rfl⟩

theorem sameRegs_coreRises (s : State) : SameRegs s s.coreRises [BLK_RST, BLK_CORE, BLK_WDT] :=
  ((((SameRegs.refl s _).putB (f := fBLK_RST_CORE) false (by simp)).putB (f := fBLK_CORE_RUNNING) true (by simp)).put
    (f := fBLK_WDT_COUNT) 10000 (by simp)).ofRegs rfl

theorem exec_coreResetExit_rises {a : Nat} (hdue : s.core.exitDue = some a) (ha : a ≤ s.now + 2000) (hhold : s.on fBLK_CORE_HOLD = false) :
    exec .coreResetExit s = .next s.coreRises.coreWake := by
  have hbranch : execCoreResetExit s = .next (if s.on fBLK_CORE_HOLD then
      { s.putB fBLK_RST_CORE false with core := { (s.putB fBLK_RST_CORE false).core with exitDue := none } }
      else if a ≤ s.now + 2000 then s.coreRises.coreWake else s) := by
    unfold execCoreResetExit
    rw [hdue]
    rfl
  change execCoreResetExit s = _
  rw [hbranch, hhold, if_neg (by simp), if_pos ha]

theorem exec_coreResetExit_held {a : Nat} (hdue : s.core.exitDue = some a) (hhold : s.on fBLK_CORE_HOLD = true) :
    exec .coreResetExit s = .next { s.putB fBLK_RST_CORE false with core := { s.core with exitDue := none } } := by
  change execCoreResetExit s = _
  unfold execCoreResetExit
  rw [hdue]
  exact congrArg Host.Outcome.next (if_pos hhold)

theorem coreWake_of_idle (h : s.aon = 1) : s.coreWake = ({ s with core := { s.core with waiting := false } } : State).enterRun := if_pos h

theorem coreWake_of_not_idle (h : s.aon ≠ 1) : s.coreWake = { s with core := { s.core with waiting := false } } := if_neg h

theorem aon_coreRises (s : State) : s.coreRises.aon = s.aon := get_of_reg fPST_STATE_STATE (sameRegs_coreRises s _ (by decide))

/-- The core that rises in Idle takes the block to Run (R295, R606). -/
theorem coreWake_coreRises_of_idle (haon : s.aon = 1) :
    s.coreRises.coreWake.aon = 0 ∧ s.coreRises.coreWake.on fBLK_RST_CORE = false ∧ s.coreRises.coreWake.on fBLK_CORE_RUNNING = true ∧
    s.coreRises.coreWake.core.waiting = false := by
  obtain ⟨hrst, hrunning, -⟩ := coreRises_fields s
  rw [coreWake_of_idle ((aon_coreRises s).trans haon)]
  have hkept := sameRegs_enterRun ({ s.coreRises with core := { s.coreRises.core with waiting := false } } : State)
  refine ⟨aon_enterRun _, ?_, ?_, by rw [core_enterRun]⟩
  · exact (on_of_reg fBLK_RST_CORE (hkept _ (by decide))).trans hrst
  · exact (on_of_reg fBLK_CORE_RUNNING (hkept _ (by decide))).trans hrunning

end Sys2Proof.Machine
end

section

open Sys2Proof Sys2Proof.Machine

/-- Settles O21: each command by its branch; the core that leaves its reset writes its own registers, and the entry to Run others. -/
theorem coreCommands : Obligations.CoreCommands := by
  unfold Obligations.CoreCommands
  intro s p dat clk addr
  refine ⟨fun hs => ?_, fun hrun haon hcount => ?_, fun hrun hmem haddr => ?_, fun a hdue ha hhold haon => ?_, fun a hdue ha hhold haon => ?_,
    fun a hdue hhold => ?_, fun hopen hperm => ?_, fun hopen hperm => ?_, fun hopen hperm => ?_,
    fun hs hhold => ⟨fun hphase hat hfw => ?_, fun hphase => ?_⟩⟩
  · exact .of_sameButNote (exec_blkRstCore hs) (((sameButNote_hostMark s _ _ _).coreReset false).okay 0)
  · exact congrArg Host.Outcome.next (if_pos (by simp [hrun, haon, hcount]))
  · exact congrArg Host.Outcome.next (if_pos (by simp [hrun, hmem, haddr]))
  · obtain ⟨haon', hrst, hrunning, hwaiting⟩ := coreWake_coreRises_of_idle haon
    exact ⟨_, exec_coreResetExit_rises hdue ha hhold, haon', hrst, hrunning, hwaiting⟩
  · obtain ⟨hrst, hrunning, hcount⟩ := coreRises_fields s
    obtain ⟨r, hr⟩ := coreRises_eq s
    refine ⟨_, exec_coreResetExit_rises hdue ha hhold, ?_⟩
    rw [coreWake_of_not_idle (by rwa [aon_coreRises])]
    exact ⟨hrst, hrunning, hcount, by rw [hr], ⟨⟨r, s.cyc, by rw [hr]⟩, sameRegs_coreRises s⟩⟩
  · exact ⟨_, exec_coreResetExit_held hdue hhold, on_putB_same s fBLK_RST_CORE false (by decide) rfl,
      on_putB_reg s fBLK_RST_CORE fBLK_CORE_RUNNING false (by decide), ⟨_, _, rfl⟩,
      (SameRegs.refl s _).putB (f := fBLK_RST_CORE) false (by simp)⟩
  · exact ⟨_, (exec_wdtKick hopen).trans (congrArg Host.Outcome.next (permitted_of_granted _ hperm)),
      get_put s fBLK_WDT_COUNT 10000 (by decide), ⟨_, _, rfl⟩, (SameRegs.refl s _).put (f := fBLK_WDT_COUNT) 10000 (by simp)⟩
  · rw [exec_coreClkSwitch clk hopen, permitted_of_granted _ hperm]
  · refine ⟨_, (exec_wdtKick hopen).trans (by rw [permitted_of_withheld _ hperm]), ?_, rfl, ?_⟩
    · exact get_of_reg fBLK_WDT_COUNT ((onlyEvents_raiseD s evCAD_FW_DENIED 0xFFFF BLK_WDT).2 _ (by decide))
    · rw [exec_coreClkSwitch clk hopen, permitted_of_withheld _ hperm]
  · exact coreHoldClear_of_stood hs hhold (by simp [State.phaseStood, hphase, hat]) hfw
  · refine coreHoldClear_of_not_stood hs hhold ?_
    rcases hphase with hphase | hat
    · simp [State.phaseStood, hphase]
    · simp [State.phaseStood, hat]

end

section
/-!
SUPPORT. What an interface reset leaves (R604, R605): the mailbox area and the enables are registers whose reset value is 0, and the
retunes under way stay noted.
-/

namespace Sys2Proof.Machine

variable {s : State}

/-! ### The reset values of the mailbox area -/

theorem commonAt_mailbox {o : Nat} (hlo : 0x1800 ≤ o) (hhi : o < 0x2000) : commonAt o = none := by
  by_contra hsome
  obtain ⟨⟨n, k⟩, hnk⟩ := Option.ne_none_iff_exists'.mp hsome
  obtain ⟨hn, hk, rfl⟩ := eq_of_commonAt hnk
  have hapart : ∀ n < 22, ∀ k < 4, blockBase n + 4 * k < 0x1800 ∨ 0x2000 ≤ blockBase n + 4 * k := by decide
  have := hapart n hn k hk
  omega

/-- A register of a row lies between the base of the row and its end. -/
theorem index?_bounds {r : RegRow} {o : Nat} {q : Nat × Nat} (h : r.index? o = some q) : r.base ≤ o ∧ (o - r.base) / r.stride < r.count := by
  unfold RegRow.index? at h
  dsimp only at h
  split at h
  · next hin =>
    obtain ⟨hbase, -, hcount, -⟩ := hin
    exact ⟨hbase, hcount⟩
  · cases h

/-- The rows of the page that holds the mailboxes end below the area, begin above it, or read 0 at reset. -/
theorem rowsPage0_mailbox : ∀ r ∈ rowsPage0,
    0 < r.stride ∧ (r.base + r.count * r.stride ≤ 0x1800 ∨ 0x2000 ≤ r.base ∨ r.reset = 0) := by decide

theorem indexedReset_low {base : Nat} (i : Nat) (h : base < 0x2000) : indexedReset base i = none := by
  unfold indexedReset
  repeat rw [if_neg (by omega)]

theorem resetVal_mailbox {o : Nat} (hlo : 0x1800 ≤ o) (hhi : o < 0x2000) : resetVal o = 0 := by
  unfold resetVal
  rw [commonAt_mailbox hlo hhi]
  dsimp only
  split
  · rfl
  · next r i j hrow =>
    have hpage : rowsAt o = rowsPage0 := by
      unfold rowsAt
      rw [show o / 0x8000 = 0 by omega]
      rfl
    unfold findRow at hrow
    rw [hpage] at hrow
    obtain ⟨r', hmem, hindex⟩ := List.exists_of_findSome?_eq_some hrow
    obtain ⟨q, hq, hr⟩ := Option.map_eq_some_iff.mp hindex
    obtain rfl : r' = r := congrArg Prod.fst hr
    obtain ⟨hbase, hcount⟩ := index?_bounds hq
    obtain ⟨hstride, hplace⟩ := rowsPage0_mailbox r' hmem
    have hend := (Nat.div_lt_iff_lt_mul hstride).mp hcount
    rw [indexedReset_low i (by omega)]
    rcases hplace with hbelow | habove | hzero
    · omega
    · omega
    · rw [Option.getD_none, hzero]
      rfl

theorem resetVal_ien : ∀ n < 22, resetVal (blockBase n + 4) = 0 := by decide +kernel

theorem resetVal_mbxDone : resetVal MBX_DONE = 0 := by decide +kernel

theorem resetVal_tlmSeq : resetVal TLM_SEQ = 0 := by decide +kernel

/-! ### The parts of the reset -/

theorem tblGet_filter {α : Type} (d : Nat → α) (q : Nat → Bool) (l : Tbl α) (k : Nat) :
    tblGet d (l.filter fun e => !q e.1) k = if q k then d k else tblGet d l k := by
  induction l with
  | nil => simp [tblGet]
  | cons e l ih =>
    obtain ⟨k', v⟩ := e
    by_cases hk : k = k' <;> by_cases hq : q k' <;> simp_all [tblGet]

theorem reg_resetRegs (s : State) (q : Nat → Bool) (o : Nat) : (s.resetRegs q).reg o = if q o then resetVal o else s.reg o :=
  tblGet_filter resetVal q s.regs o

/-- Retunes under way on channels are noted, and nothing else changes (R604). -/
theorem forEach_orphan (l : List Nat) (s : State) :
    ∃ x, forEach l (fun m u => u.orphan m) s = { s with core := { s.core with orphans := x } } := by
  induction l generalizing s with
  | nil => exact ⟨s.core.orphans, rfl⟩
  | cons m l ih =>
    have hone : ∃ x, s.orphan m = { s with core := { s.core with orphans := x } } := by
      unfold State.orphan
      split
      · exact ⟨_, rfl⟩
      · split
        · exact ⟨_, rfl⟩
        · exact ⟨_, rfl⟩
    obtain ⟨x, hx⟩ := hone
    obtain ⟨y, hy⟩ := ih (s.orphan m)
    exact ⟨y, hy.trans (by rw [hx])⟩

/-- The registers that an interface reset empties: the mailbox area, MBX_DONE, every XXX_IEN and TLM_SEQ (R604). -/
def ifaceRegs : List Nat := [MBX_DONE, TLM_SEQ] ++ (upTo 22).map fun n => blockBase n + 4

theorem resetVal_ifaceRegs {o : Nat} (h : o ∈ ifaceRegs) : resetVal o = 0 := by
  rcases List.mem_append.mp h with hpair | hien
  · rcases List.mem_pair.mp hpair with rfl | rfl
    · exact resetVal_mbxDone
    · exact resetVal_tlmSeq
  · obtain ⟨n, hn, rfl⟩ := List.mem_map.mp hien
    exact resetVal_ien n (List.mem_range.mp hn)

/-- The registers of the mailboxes and the enables emptied (R604). -/
def State.ifaceEmptied (s : State) : State :=
  ((forEach (upTo 22) (fun n (u : State) => u.resetReg (blockBase n + 4))
    { s.resetRegs fun o => decide (0x1800 ≤ o ∧ o < 0x2000) with chans := [] }).resetReg MBX_DONE).resetReg TLM_SEQ

theorem ifaceEmptied_spec (s : State) : (∃ r, s.ifaceEmptied = { s with regs := r, chans := [] }) ∧
    (∀ o, (0x1800 ≤ o ∧ o < 0x2000) ∨ o ∈ ifaceRegs → s.ifaceEmptied.reg o = 0) ∧
    ∀ o, ¬((0x1800 ≤ o ∧ o < 0x2000) ∨ o ∈ ifaceRegs) → s.ifaceEmptied.reg o = s.reg o := by
  obtain ⟨⟨r, hr⟩, hregs⟩ := forEach_resetReg (fun n => blockBase n + 4) (upTo 22)
    { s.resetRegs fun o => decide (0x1800 ≤ o ∧ o < 0x2000) with chans := [] }
  have hreg (o : Nat) : s.ifaceEmptied.reg o = if (0x1800 ≤ o ∧ o < 0x2000) ∨ o ∈ ifaceRegs then resetVal o else s.reg o := by
    unfold State.ifaceEmptied
    rw [reg_resetReg, reg_resetReg, hregs]
    rw [show ({ s.resetRegs fun o => decide (0x1800 ≤ o ∧ o < 0x2000) with chans := [] } : State).reg o = _ from
      reg_resetRegs s (fun o => decide (0x1800 ≤ o ∧ o < 0x2000)) o]
    by_cases htlm : o = TLM_SEQ
    · simp [htlm, ifaceRegs]
    · by_cases hdone : o = MBX_DONE
      · simp [hdone, ifaceRegs]
      · by_cases hien : o ∈ (upTo 22).map fun n => blockBase n + 4 <;> simp [htlm, hdone, hien, ifaceRegs]
  refine ⟨⟨_, by rw [State.ifaceEmptied, hr]; rfl⟩, fun o ho => ?_, fun o ho => (hreg o).trans (if_neg ho)⟩
  rw [hreg, if_pos ho]
  rcases ho with ⟨hlo, hhi⟩ | ho
  · exact resetVal_mailbox hlo hhi
  · exact resetVal_ifaceRegs ho

/-- The parts behind the registers that tell of an interface reset due to end at an instant (R604, R605). -/
def State.ifaceBegun (s : State) (due : Nat) : State :=
  { s with pmb := { s.pmb with busy := false }, nrg := { s.nrg with nextSeq := 0 }, core := { s.core with ifaceDue := some due } }

theorem ifaceReset_eq (s : State) : s.ifaceReset =
    ((forEach (upTo 8) (fun m u => u.orphan m) s.detachRelays).ifaceEmptied.ifaceBegun (s.now + 2000)).putB fBLK_RST_IFACE true := rfl

theorem reg_ifaceBegun (s : State) (due o : Nat) : (s.ifaceBegun due).reg o = s.reg o := rfl

theorem ifaceReset_spec (s : State) :
    (∃ r x, s.ifaceReset = { s with
      regs := r, chans := [], trv := s.detachRelays.trv, core := { s.core with ifaceDue := some (s.now + 2000), orphans := x }
      nrg := { s.nrg with nextSeq := 0 }, pmb := { s.pmb with busy := false } }) ∧
    (∀ o, (0x1800 ≤ o ∧ o < 0x2000) ∨ o ∈ ifaceRegs → s.ifaceReset.reg o = 0) ∧
    (∀ o, ¬((0x1800 ≤ o ∧ o < 0x2000) ∨ o ∈ ifaceRegs) → o ≠ BLK_RST → s.ifaceReset.reg o = s.reg o) ∧
    s.ifaceReset.on fBLK_RST_IFACE = true := by
  obtain ⟨x, hx⟩ := forEach_orphan (upTo 8) s.detachRelays
  have hstart (o : Nat) : (forEach (upTo 8) (fun m u => u.orphan m) s.detachRelays).reg o = s.reg o := by
    rw [hx]
    rfl
  rw [ifaceReset_eq]
  generalize forEach (upTo 8) (fun m u => u.orphan m) s.detachRelays = u at hx hstart
  obtain ⟨⟨r, hr⟩, hzero, hkept⟩ := ifaceEmptied_spec u
  generalize u.ifaceEmptied = v at hr hzero hkept
  have hapart : ∀ o, (0x1800 ≤ o ∧ o < 0x2000) ∨ o ∈ ifaceRegs → o ≠ BLK_RST := by
    rintro o ho rfl
    exact absurd ho (by decide)
  refine ⟨⟨_, x, by rw [hr, hx]; rfl⟩, fun o ho => ?_, fun o ho hne => ?_, on_putB_same _ _ _ (by decide) rfl⟩
  · exact (reg_putB_ne _ fBLK_RST_IFACE o true (hapart o ho)).trans ((reg_ifaceBegun v _ o).trans (hzero o ho))
  · exact (reg_putB_ne _ fBLK_RST_IFACE o true hne).trans ((reg_ifaceBegun v _ o).trans ((hkept o ho).trans (hstart o)))

/-- An interrupt line is low where nothing is enabled, MBX_DONE being 0 too (R649). -/
theorem irq_of_ien_zero {n : Nat} (hien : s.reg (blockBase n + 4) = 0) (hdone : s.reg MBX_DONE = 0) : s.irq n = false := by
  have hget : s.get fMBX_DONE_DONE = 0 := by
    unfold State.get
    rw [show fMBX_DONE_DONE.off = MBX_DONE from rfl, hdone]
    exact (by decide : bitsAt (0 : Word) fMBX_DONE_DONE.lo fMBX_DONE_DONE.width = 0)
  have hstat : s.reg (blockBase n) &&& (0 : Word) = 0 := BitVec.and_zero
  unfold State.irq
  rw [hien, hstat, hget, Nat.zero_and]
  simp

/-! ### Served writes -/

theorem storeBlk_ifaceReset (s : State) : s.storeBlk false BLK_RST 1#32 = s.ifaceReset := by
  unfold State.storeBlk
  rw [if_pos rfl]
  simp [show bitsAt 1#32 1 1 = 0 from by decide, show bitsAt 1#32 2 1 = 0 from by decide, show bitsAt 1#32 0 1 = 1 from by decide]

/-- Firmware has no part in the reset of the interface (R604). -/
theorem storeBlk_iface_core (s : State) : s.storeBlk true BLK_RST 1#32 = s := by
  unfold State.storeBlk
  rw [if_pos rfl]
  simp [show bitsAt 1#32 1 1 = 0 from by decide]

theorem exec_blkRstIface_host (hs : Served .host BLK_RST s) :
    exec (.blkRstIface .host) s = .next ((s.hostMark false BLK_RST 7#32).ifaceReset.okay 0) :=
  (portWrite_blkRst 1#32 hs).trans (congrArg (fun u : State => Host.Outcome.next (u.okay 0)) (storeBlk_ifaceReset _))

theorem exec_blkRstIface_core (hs : Served .core BLK_RST s) : exec (.blkRstIface .core) s = .next (s.okay 0) :=
  (portWrite_blkRst 1#32 hs).trans (congrArg (fun u : State => Host.Outcome.next (u.okay 0)) (storeBlk_iface_core s))

/-- How a doorbell is decoded: of access W1S, in no window, on the page of the mailboxes. -/
theorem bell_placed (m : Fin 8) : MBX_BELL m % 4 = 0 ∧ MBX_BELL m < 0x80000 ∧ coefWindow (MBX_BELL m) = none ∧
    accessOf (MBX_BELL m) = some ⟨0, 0, 0, 1#32⟩ ∧ commonAt (MBX_BELL m) = none ∧ blockOf (MBX_BELL m) = some 19 := by
  revert m
  decide +kernel

theorem storeMbx_bell (s : State) (m : Fin 8) (hm : m.val ≠ 7) (w : Word) : s.storeMbx false (MBX_BELL m) w 1#32 = s.ring m := by
  have hchan : (MBX_BELL m - 0x1800) / 256 = m := by unfold MBX_BELL; omega
  have hword : MBX_BELL m % 256 = 0x80 := by unfold MBX_BELL; omega
  unfold State.storeMbx
  rw [if_neg (by unfold MBX_BELL; omega), hchan, hword]
  simp [hm, show bitsAt 1#32 0 1 = 1 from by decide]

theorem exec_mbxBell_host {m : Fin 8} (hs : Served .host (MBX_BELL m) s) (hm : m.val ≠ 7) :
    exec (.mbxBell .host m) s = .next (((s.hostMark false (MBX_BELL m) 1#32).ring m).okay 0) := by
  obtain ⟨h4, hlt, hcoef, hacc, hcommon, hblock⟩ := bell_placed m
  have hbits : s.writeBits ⟨0, 0, 0, 1#32⟩ (MBX_BELL m) 1#32 = 1#32 := by
    change 1#32 &&& ~~~(0#32 &&& _) = 1#32
    rw [BitVec.zero_and, BitVec.not_zero, BitVec.and_allOnes]
  change s.portWrite .host (MBX_BELL m) 1#32 = _
  rw [portWrite_in s .host (MBX_BELL m) 1#32 19 ⟨0, 0, 0, 1#32⟩ hs h4 hlt hcoef hacc rfl hcommon hblock (by decide), hbits]
  exact congrArg (fun u : State => Host.Outcome.next (u.okay 0)) (storeMbx_bell _ m hm _)

/-- A doorbell in the cycle of an interface reset is lost (R604). -/
theorem ring_of_ifaceReset {m : Nat} (h : s.core.ifaceDue = some (s.now + 2000)) : s.ring m = s := if_pos h

theorem exec_ifaceResetDone {a : Nat} (h : s.core.ifaceDue = some a) :
    exec .ifaceResetDone s = .next { s.putB fBLK_RST_IFACE false with core := { s.core with ifaceDue := none } } := by
  change execIfaceResetDone s = _
  unfold execIfaceResetDone
  rw [h]
  rfl

end Sys2Proof.Machine
end

section

open Sys2Proof Sys2Proof.Machine

/-- Settles O22: the registers emptied read 0, so no channel is under way and no line is raised; a doorbell finds the reset of its cycle. -/
theorem interfaceReset : Obligations.InterfaceReset := by
  unfold Obligations.InterfaceReset
  intro s m
  refine ⟨fun hs => ?_, exec_blkRstIface_core, fun hs hm hdue => ?_, fun a hdue => ?_⟩
  · have hexec := exec_blkRstIface_host hs
    obtain ⟨c, hc⟩ := hostMark_eq s false BLK_RST 7#32
    rw [hc] at hexec
    obtain ⟨⟨r, x, hdata⟩, hzero, hkept, hiface⟩ := ifaceReset_spec ({ s with cyc := c } : State)
    generalize ({ s with cyc := c } : State).ifaceReset = u at hexec hdata hzero hkept hiface
    have hdone : (u.okay 0).reg MBX_DONE = 0 := hzero _ (.inr (by simp [ifaceRegs]))
    have hien (n : Nat) (hn : n < 22) : (u.okay 0).reg (blockBase n + 4) = 0 :=
      hzero _ (.inr (List.mem_append_right _ (List.mem_map_of_mem (List.mem_range.mpr hn))))
    refine ⟨_, hexec, fun o hlo hhi => hzero o (.inl ⟨hlo, hhi⟩), fun k => ?_, fun k hk => ?_, hdone,
      fun n hn => ⟨hien n hn, irq_of_ien_zero (hien n hn) hdone⟩, hzero _ (.inr (by simp [ifaceRegs])), hiface, fun o hrange ho => ?_, ?_⟩
    · rw [hdata]
      rfl
    · have hcst : (u.okay 0).reg (MBX_CST k) = 0 := hzero _ (.inl ((by decide : ∀ k < 8, 0x1800 ≤ MBX_CST k ∧ MBX_CST k < 0x2000) k hk))
      unfold State.chanState State.get
      rw [show (fMBX_CST_STATE k).off = MBX_CST k from rfl, hcst]
      exact (by decide : bitsAt (0 : Word) 8 3 = 0)
    · have hout : o ≠ BLK_RST ∧ o ∉ ifaceRegs := by
        rw [List.mem_append, List.mem_cons, not_or, not_or] at ho
        obtain ⟨⟨hrst, hpair⟩, hien⟩ := ho
        exact ⟨hrst, fun h => (List.mem_append.mp h).elim hpair hien⟩
      exact hkept o (not_or.mpr ⟨by omega, hout.2⟩) hout.1
    · rw [hdata]
      rfl
  · have hmark := sameButNote_hostMark s false (MBX_BELL m) 1#32
    refine .of_sameButNote (exec_mbxBell_host hs hm) (SameButNote.okay ?_ 0)
    generalize s.hostMark false (MBX_BELL m) 1#32 = u at hmark
    obtain ⟨c, rfl⟩ := hmark
    exact ⟨c, ring_of_ifaceReset hdue⟩
  · exact ⟨_, exec_ifaceResetDone hdue, on_putB_same s fBLK_RST_IFACE false (by decide) rfl, ⟨_, _, rfl⟩,
      (SameRegs.refl s _).putB (f := fBLK_RST_IFACE) false (by simp)⟩

end

section
/-!
SUPPORT. The loader port: numbers written to memories byte by byte, a word stored whole, and the two ways a served write of PLAT_LDATA_HI
ends (R611, R626, R627).
-/

namespace Sys2Proof.Machine

variable {s : State} {p : Port}

/-! ### Numbers in memories -/

theorem memPutLE_eq_putBytes (m : List Host.Cell) (a x n : Nat) : memPutLE m a x n = memPutBytes m a (leBytes x n) := by
  induction n generalizing m a x with
  | zero => rfl
  | succ n ih => exact ih _ _ _

theorem memByte_putLE_out (m : List Host.Cell) (x : Nat) {a b n : Nat} (h : b < a ∨ a + n ≤ b) : memByte (memPutLE m a x n) b = memByte m b := by
  rw [memPutLE_eq_putBytes]
  exact memByte_putBytes_out m a b _ (by rwa [length_leBytes])

/-- A number written reads back, cut to the bytes written. -/
theorem memLE_putLE_same (m : List Host.Cell) (a x n : Nat) : memLE (memPutLE m a x n) a n = x % 256 ^ n := by
  induction n generalizing m a x with
  | zero => rw [Nat.pow_zero, Nat.mod_one, memLE]
  | succ n ih =>
    have hfirst : memByte (memPutLE m a x (n + 1)) a = BitVec.ofNat 8 x := by
      rw [memPutLE, memByte_putLE_out _ _ (.inl (Nat.lt_succ_self a)), memByte_put, if_pos rfl]
    have hrest : memLE (memPutLE m a x (n + 1)) (a + 1) n = x / 256 % 256 ^ n := ih _ _ _
    calc memLE (memPutLE m a x (n + 1)) a (n + 1)
      _ = x % 256 + 256 * (x / 256 % 256 ^ n) := by rw [memLE, hfirst, hrest, BitVec.toNat_ofNat]
      _ = x % 256 ^ (n + 1) := by rw [Nat.pow_succ', Nat.mod_mul]

/-! ### A memory replaced -/

theorem setMemory_eq (s : State) (k : Nat) (m : List Host.Cell) : ∃ fw dat coef plan book tele,
    s.setMemory k m = { s with fw := fw, dat := dat, coef := coef, plan := plan, book := book, tele := tele } := by
  unfold State.setMemory
  split <;> exact ⟨_, _, _, _, _, _, rfl⟩

theorem memory_setMemory_same (s : State) (k : Nat) (m : List Host.Cell) : (s.setMemory k m).memory k = m :=
  match k with
  | 0 | 1 | 2 | 3 | 4 => rfl
  | _ + 5 => rfl

theorem memory_setMemory_ne {j k : Nat} (hj : j < 6) (hk : k < 6) (h : j ≠ k) (s : State) (m : List Host.Cell) :
    (s.setMemory k m).memory j = s.memory j := by
  interval_cases k <;> interval_cases j
  any_goals exact (h rfl).elim
  all_goals rfl

/-! What concerns registers or the access leaves memories and their check bits. -/

@[simp] theorem memory_setReg (s : State) (o : Nat) (v : Word) (k : Nat) : (s.setReg o v).memory k = s.memory k := rfl
@[simp] theorem memory_put (s : State) (f : Fld) (n k : Nat) : (s.put f n).memory k = s.memory k := rfl
@[simp] theorem memory_okay (s : State) (v : Word) (k : Nat) : (s.okay v).memory k = s.memory k := rfl
@[simp] theorem memBad_put (s : State) (f : Fld) (x k a n : Nat) : (s.put f x).memBad k a n = s.memBad k a n := rfl
@[simp] theorem memBad_okay (s : State) (v : Word) (k a n : Nat) : (s.okay v).memBad k a n = s.memBad k a n := rfl
@[simp] theorem weakIn_put (s : State) (f : Fld) (x k a n : Nat) : (s.put f x).weakIn k a n = s.weakIn k a n := rfl
@[simp] theorem weakIn_okay (s : State) (v : Word) (k a n : Nat) : (s.okay v).weakIn k a n = s.weakIn k a n := rfl

/-! ### A word stored whole -/

/-- The state in which a 64-bit word of a memory is stored whole, with fresh check bits (R611). -/
def State.storeWord (s : State) (k w x : Nat) : State := (s.setMemory k (memPutLE (s.memory k) (8 * w) x 8)).markGood k w

theorem storeWord_eq (s : State) (k w x : Nat) : ∃ fw dat coef plan book tele bad weak, s.storeWord k w x =
    { s with fw := fw, dat := dat, coef := coef, plan := plan, book := book, tele := tele, mem := { s.mem with bad := bad, weak := weak } } := by
  obtain ⟨fw, dat, coef, plan, book, tele, hset⟩ := setMemory_eq s k (memPutLE (s.memory k) (8 * w) x 8)
  unfold State.storeWord
  rw [hset]
  exact ⟨fw, dat, coef, plan, book, tele, _, _, rfl⟩

theorem reg_storeWord (s : State) (k w x o : Nat) : (s.storeWord k w x).reg o = s.reg o := by
  obtain ⟨_, _, _, _, _, _, _, _, hstore⟩ := storeWord_eq s k w x
  rw [hstore]
  rfl

theorem memory_storeWord_same (s : State) (k w x : Nat) : (s.storeWord k w x).memory k = memPutLE (s.memory k) (8 * w) x 8 :=
  memory_setMemory_same s k _

theorem memLE_storeWord (s : State) (k w : Nat) {x : Nat} (hx : x < 2 ^ 64) : memLE ((s.storeWord k w x).memory k) (8 * w) 8 = x := by
  rw [memory_storeWord_same, memLE_putLE_same]
  exact Nat.mod_eq_of_lt hx

theorem memByte_storeWord_out {j k w a : Nat} (hj : j < 6) (hk : k < 6) (h : j ≠ k ∨ a < 8 * w ∨ 8 * w + 8 ≤ a) (s : State) (x : Nat) :
    memByte ((s.storeWord k w x).memory j) a = memByte (s.memory j) a := by
  by_cases hjk : j = k
  · subst hjk
    rw [memory_storeWord_same]
    exact memByte_putLE_out _ _ (h.resolve_left fun hne => hne rfl)
  · exact congrArg (memByte · a) (memory_setMemory_ne hj hk hjk s _)

/-- A mark that a word written whole leaves is of no word that the 8 bytes from its address touch. -/
theorem mark_apart_of_kept {k w : Nat} {q : Nat × Nat} (h : (!(decide (q.1 = k) && decide (q.2 = w))) = true) :
    ¬(decide (q.1 = k) && decide (8 * w / 8 ≤ q.2) && decide (q.2 ≤ (8 * w + 8 - 1) / 8)) = true := by
  simp only [Bool.not_eq_true', Bool.and_eq_false_iff, decide_eq_false_iff_not, Bool.and_eq_true, decide_eq_true_eq] at h ⊢
  omega

theorem memBad_storeWord (s : State) (k w x : Nat) : (s.storeWord k w x).memBad k (8 * w) 8 = false :=
  List.any_eq_false.mpr fun _ hq => mark_apart_of_kept (List.mem_filter.mp hq).2

theorem weakIn_storeWord (s : State) (k w x : Nat) : (s.storeWord k w x).weakIn k (8 * w) 8 = [] :=
  List.filter_eq_nil_iff.mpr fun _ hq => mark_apart_of_kept (List.mem_filter.mp hq).2

/-! ### A write of PLAT_LDATA_HI -/

/-- The state in which the loader port holds no low half. -/
def State.lowDropped (s : State) : State := s.updBoot fun b => { b with ldLow := 0, ldHeld := false }

/-- The word that a write of the high half `v` makes whole: the low half is 0 where none is held (R626). -/
def State.loadWord (s : State) (v : Word) : Nat := (if s.boot.ldHeld then s.boot.ldLow.toNat else 0) + 2 ^ 32 * v.toNat

theorem loadWord_lt (s : State) (v : Word) : s.loadWord v < 2 ^ 64 := by
  have hlow := s.boot.ldLow.isLt
  have hhigh := v.isLt
  unfold State.loadWord
  split <;> omega

theorem loadHigh_of_refused (v : Word) (h : s.loaderRefuses (s.get fPLAT_LADDR_MEM) (s.get fPLAT_LADDR_WORD) = true) :
    s.loadHigh v = s.lowDropped.raise evPLAT_SEQ_REFUSED 0xFFFF := if_pos h

theorem loadHigh_of_accepted (v : Word) {k w : Nat} (hk : s.get fPLAT_LADDR_MEM = k) (hw : s.get fPLAT_LADDR_WORD = w)
    (h : s.loaderRefuses k w = false) (hon : s.memPower k = 2) :
    s.loadHigh v = ((s.lowDropped.setReg PLAT_LDATA_HI v).storeWord k w (s.loadWord v)).put fPLAT_LADDR_WORD ((w + 1) % 65536) := by
  have hlow : (if s.boot.ldHeld = true then s.boot.ldLow else 0).toNat = if s.boot.ldHeld = true then s.boot.ldLow.toNat else 0 :=
    apply_ite BitVec.toNat _ _ _
  unfold State.loadHigh State.loadWord
  dsimp only
  rw [hk, hw, if_neg (by rw [h]; exact Bool.false_ne_true), if_pos hon, hlow]
  rfl

/-- The loader port reaches FW and DAT alone (R626). -/
theorem loaderMem_lt (s : State) : s.get fPLAT_LADDR_MEM < 2 := Nat.mod_lt _ (by decide)

theorem exec_loaderWrite (v : Word) (hs : Served p PLAT_LDATA_HI s) :
    exec (.loaderWrite p v) s = .next (((s.hostMark (p = .core) PLAT_LDATA_HI 0xFFFFFFFF#32).loadHigh v).okay 0) := by
  have hbits : s.writeBits ⟨0xFFFFFFFF#32, 0, 0, 0⟩ PLAT_LDATA_HI v = v := by
    change v &&& ~~~(0#32 &&& _) = v
    rw [BitVec.zero_and, BitVec.not_zero, BitVec.and_allOnes]
  change s.portWrite p PLAT_LDATA_HI v = _
  rw [portWrite_in s p PLAT_LDATA_HI v 1 ⟨0xFFFFFFFF#32, 0, 0, 0⟩ hs (by decide) (by decide) (by decide) (by decide +kernel) rfl
    (by decide +kernel) (by decide +kernel) (by decide), hbits]
  rfl

/-- An accepted write stores the whole word and moves WORD on (R626). -/
theorem loaderWrite_accepted (v : Word) (hs : Served p PLAT_LDATA_HI s) {k w : Nat} (hk : s.get fPLAT_LADDR_MEM = k)
    (hw : s.get fPLAT_LADDR_WORD = w) (h : s.loaderRefuses k w = false) (hon : s.memPower k = 2) :
    Runs (.loaderWrite p v) s fun t =>
      memLE (t.memory k) (8 * w) 8 = s.loadWord v ∧
      (∀ j a, j < 6 → (j ≠ k ∨ a < 8 * w ∨ 8 * w + 8 ≤ a) → memByte (t.memory j) a = memByte (s.memory j) a) ∧
      t.memBad k (8 * w) 8 = false ∧ t.weakIn k (8 * w) 8 = [] ∧ t.get fPLAT_LADDR_WORD = (w + 1) % 65536 ∧
      (∀ o, o ∉ [PLAT_LADDR, PLAT_LDATA_HI] → t.reg o = s.reg o) ∧
      t = { s with
        regs := t.regs, fw := t.fw, dat := t.dat, coef := t.coef, plan := t.plan, book := t.book, tele := t.tele
        mem := { s.mem with bad := t.mem.bad, weak := t.mem.weak }, boot := { s.boot with ldLow := 0, ldHeld := false }
        bus := { slverr := false, data := 0 }, cyc := t.cyc } := by
  have hmem : k < 6 := by
    have := loaderMem_lt s
    omega
  have hexec := exec_loaderWrite v hs
  obtain ⟨c, hc⟩ := hostMark_eq s (p = .core) PLAT_LDATA_HI 0xFFFFFFFF#32
  rw [hc, loadHigh_of_accepted (s := { s with cyc := c }) v hk hw h hon] at hexec
  have hreg (o : Nat) (ho : o ≠ PLAT_LDATA_HI) : (({ s with cyc := c } : State).lowDropped.setReg PLAT_LDATA_HI v).reg o = s.reg o :=
    reg_setReg_ne _ PLAT_LDATA_HI o v ho
  refine ⟨_, hexec, ?_, fun j a hj ha => ?_, ?_, ?_, ?_, fun o ho => ?_, ?_⟩
  · rw [memory_okay, memory_put]
    exact memLE_storeWord _ k w (loadWord_lt s v)
  · rw [memory_okay, memory_put, memByte_storeWord_out hj hmem ha, memory_setReg]
    rfl
  · rw [memBad_okay, memBad_put, memBad_storeWord]
  · rw [weakIn_okay, weakIn_put, weakIn_storeWord]
  · rw [get_okay, get_put _ fPLAT_LADDR_WORD _ (by decide)]
    exact Nat.mod_mod _ _
  · obtain ⟨haddr, hhigh⟩ : o ≠ PLAT_LADDR ∧ o ≠ PLAT_LDATA_HI := by simpa using ho
    rw [reg_okay, reg_put_ne _ fPLAT_LADDR_WORD o _ haddr, reg_storeWord, hreg o hhigh]
  · obtain ⟨_, _, _, _, _, _, _, _, hstore⟩ := storeWord_eq (({ s with cyc := c } : State).lowDropped.setReg PLAT_LDATA_HI v) k w
      (State.loadWord { s with cyc := c } v)
    rw [hstore]
    rfl

/-- What a refused write reports does not depend on the note of the instant: the DATA of its event is of INDEX and time (Table 13.2). -/
theorem sameButNote_loadHigh_refused (v : Word) (c : CycHid)
    (h : s.loaderRefuses (s.get fPLAT_LADDR_MEM) (s.get fPLAT_LADDR_WORD) = true) :
    SameButNote (s.lowDropped.raise evPLAT_SEQ_REFUSED 0xFFFF) (({ s with cyc := c } : State).loadHigh v) := by
  rw [loadHigh_of_refused (s := { s with cyc := c }) v h]
  exact SameButNote.raise (s := s.lowDropped) ⟨c, rfl⟩ evPLAT_SEQ_REFUSED 0xFFFF fun _ => rfl

/-- A refused write reports itself and drops the held half, nothing else (R627; that the half goes is DEDUCED, log entry 24). -/
theorem loaderWrite_refused (v : Word) (hs : Served p PLAT_LDATA_HI s)
    (h : s.loaderRefuses (s.get fPLAT_LADDR_MEM) (s.get fPLAT_LADDR_WORD) = true) :
    Ends (.loaderWrite p v) s ((s.lowDropped.raise evPLAT_SEQ_REFUSED 0xFFFF).okay 0) := by
  have hexec := exec_loaderWrite v hs
  obtain ⟨c, hc⟩ := hostMark_eq s (p = .core) PLAT_LDATA_HI 0xFFFFFFFF#32
  rw [hc] at hexec
  exact .of_sameButNote hexec ((sameButNote_loadHigh_refused v c h).okay 0)

/-- The cases of R627: the plat area follows the trim area, so the two bounds on WORD join. -/
theorem loaderRefuses_iff (s : State) (k w : Nat) : s.loaderRefuses k w = true ↔
    s.memOwner k ≠ 5 ∨ memSize k ≤ 8 * w ∨ (k = 1 ∧ 0x6600 ≤ w ∧ (w < 0x6800 ∨ s.locked = true)) := by
  have harea : (0x6600 ≤ w ∧ w < 0x6800) ∨ (0x6800 ≤ w ∧ s.locked = true) ↔ 0x6600 ≤ w ∧ (w < 0x6800 ∨ s.locked = true) := by
    by_cases hlocked : s.locked = true
    · simp only [hlocked, and_true, or_true]
      omega
    · simp [hlocked]
  unfold State.loaderRefuses
  simp only [Bool.or_eq_true, Bool.and_eq_true, decide_eq_true_eq, or_assoc, harea]

end Sys2Proof.Machine
end

section

open Sys2Proof Sys2Proof.Machine

/-- Settles O24: what an accepted write stores, what a refused one reports, and the cases of R627. -/
theorem loaderPort : Obligations.LoaderPort := by
  unfold Obligations.LoaderPort
  intro p s v hs
  exact ⟨loaderWrite_accepted v hs rfl rfl, loaderWrite_refused v hs, loaderRefuses_iff s _ _⟩

end

section
/-!
SUPPORT. Where an offset stands in an array of registers, and what a served register read does: what the lower half of a capture pair
copies for its upper half, and that no other offset copies anything (R458, R652).
-/

namespace Sys2Proof.Machine

/-! ### Offsets in arrays of registers -/

theorem arrayIx_eq_some_iff {base stride count off k : Nat} (hs : 0 < stride) :
    arrayIx base stride count off = some k ↔ k < count ∧ off = base + stride * k := by
  unfold arrayIx
  constructor
  · intro h
    obtain ⟨⟨hbase, hmod, hcount⟩, hk⟩ := Option.ite_none_right_eq_some.mp h
    have hdiv := Nat.div_add_mod (off - base) stride
    cases Option.some.inj hk
    exact ⟨hcount, by omega⟩
  · rintro ⟨hk, rfl⟩
    simp [Nat.mul_div_cancel_left k hs, hk]

theorem arrayIx_eq_none {base stride count off : Nat} (hs : 0 < stride) (h : ∀ k, k < count → off ≠ base + stride * k) :
    arrayIx base stride count off = none := by
  rw [Option.eq_none_iff_forall_ne_some]
  intro k hk
  obtain ⟨hcount, hoff⟩ := (arrayIx_eq_some_iff hs).mp hk
  exact h k hcount hoff

theorem arrayIx_of_past {base stride count off : Nat} (hs : 0 < stride) (h : base + stride * count ≤ off) :
    arrayIx base stride count off = none := by
  refine arrayIx_eq_none hs fun k hk => ?_
  have := Nat.mul_lt_mul_of_pos_left hk hs
  omega

/-! ### What a register read copies and shows -/

theorem capture_timeLo (s : State) : s.capture TRV_TIME_LO = s.setReg TRV_TIME_HI ((s.ts >>> 32).setWidth 32) := if_pos rfl

theorem capture_partLo (s : State) {b : Nat} (hb : b < 17) :
    s.capture (NRG_PART_LO b) = s.setReg (NRG_PART_HI b) (BitVec.ofNat 32 (s.acc b / 2 ^ 32)) := by
  have htime : NRG_PART_LO b ≠ TRV_TIME_LO := by
    unfold NRG_PART_LO TRV_TIME_LO
    omega
  have hpart : arrayIx (NRG_PART_LO 0) 8 17 (NRG_PART_LO b) = some b := (arrayIx_eq_some_iff (by decide)).mpr ⟨hb, rfl⟩
  simp only [State.capture, if_neg htime, hpart]

theorem capture_wtsLo (s : State) {w : Nat} (hw : w < 8) :
    s.capture (NRG_WTS_LO w) = s.setReg (NRG_WTS_HI w) (BitVec.ofNat 32 (tblGet (fun _ => 0) s.nrg.wts w / 2 ^ 32)) := by
  have htime : NRG_WTS_LO w ≠ TRV_TIME_LO := by
    unfold NRG_WTS_LO TRV_TIME_LO
    omega
  have hpart : arrayIx (NRG_PART_LO 0) 8 17 (NRG_WTS_LO w) = none :=
    arrayIx_of_past (by decide) (Nat.le_trans (by decide) (Nat.le_add_right 0x60304 (16 * w)))
  have hwts : arrayIx (NRG_WTS_LO 0) 16 8 (NRG_WTS_LO w) = some w := (arrayIx_eq_some_iff (by decide)).mpr ⟨hw, rfl⟩
  simp only [State.capture, if_neg htime, hpart, hwts]

/-- Only the lower half of a capture pair copies anything (R652). -/
theorem capture_of_not_pair (s : State) {off : Nat} (htime : off ≠ TRV_TIME_LO) (hpart : ∀ b, b < 17 → off ≠ NRG_PART_LO b)
    (hwts : ∀ w, w < 8 → off ≠ NRG_WTS_LO w) : s.capture off = s := by
  have hnoPart : arrayIx (NRG_PART_LO 0) 8 17 off = none := arrayIx_eq_none (by decide) hpart
  have hnoWts : arrayIx (NRG_WTS_LO 0) 16 8 off = none := arrayIx_eq_none (by decide) hwts
  simp only [State.capture, if_neg htime, hnoPart, hnoWts]

theorem readReg_timeLo (s : State) : s.readReg TRV_TIME_LO = s.ts.setWidth 32 := rfl

/-- The registers of the NRG_ pages show what they hold: every computed figure is read elsewhere. -/
theorem readReg_nrgPages (s : State) {off : Nat} (hlo : 0x60000 ≤ off) (hhi : off < 0x68000) : s.readReg off = s.reg off := by
  have hsingle {o : Nat} (h : o < 0x60000 ∨ 0x68000 ≤ o) : off ≠ o := by omega
  have harray {base stride count : Nat} (hs : 0 < stride) (h : base + stride * count ≤ 0x60000) : arrayIx base stride count off = none :=
    arrayIx_of_past hs (h.trans hlo)
  simp (disch := decide) only [State.readReg, hsingle, harray, if_false]

theorem readReg_partLo (s : State) {b : Nat} (hb : b < 17) : s.readReg (NRG_PART_LO b) = s.reg (NRG_PART_LO b) := by
  apply readReg_nrgPages <;> (unfold NRG_PART_LO; omega)

theorem readReg_wtsLo (s : State) {w : Nat} (hw : w < 8) : s.readReg (NRG_WTS_LO w) = s.reg (NRG_WTS_LO w) := by
  apply readReg_nrgPages <;> (unfold NRG_WTS_LO; omega)

/-! ### A served read -/

/-- A served read of a register outside the coefficient window: what it copies, then what it shows (R652). -/
theorem exec_captureRead_register (p : Port) {off : Nat} {s : State} (hlt : off < 0x80000) (h4 : off % 4 = 0)
    (ho : s.portOpen (p = .core) = true) (ha : s.offAnswers off = true) (hreg : isRegister off = true) (hc : coefWindow off = none) :
    exec (.captureRead p off) s = .next ((s.capture off).okay (s.readReg off)) := by
  have hlow : ¬ 0xC0000 ≤ off := by omega
  rw [exec_captureRead_inSpace p off s (by omega), State.busRead]
  simp [ho, ha, h4, hlow, Nat.not_le.mpr hlt, hc, hreg]

/-- A command that stores one register and ends an access changes nothing else. -/
theorem runs_setReg_okay {c : Instr} {s : State} {o : Nat} {v data : Word} (hexec : exec c s = .next ((s.setReg o v).okay data)) :
    Runs c s fun t => t.bus.data = data ∧ t.reg o = v ∧ OnlyRegs { s with bus := t.bus } t [o] :=
  ⟨_, hexec, rfl, reg_setReg_same s o v, ⟨_, _, rfl⟩, fun o' ho => reg_setReg_ne s o o' v (List.ne_of_not_mem_cons ho)⟩

end Sys2Proof.Machine
end

section

open Sys2Proof Sys2Proof.Machine

/-- Settles O10: a register read is a copy and a figure shown, and only the lower half of a capture pair copies, into its own upper half. -/
theorem readsHaveNoSideEffect : Obligations.ReadsHaveNoSideEffect := by
  unfold Obligations.ReadsHaveNoSideEffect
  intro p off s hlt h4 ho ha hreg hc
  have hexec := exec_captureRead_register p hlt h4 ho ha hreg hc
  refine ⟨?_, ?_, ?_, ?_⟩
  · rintro ⟨htime, hpart, hwts⟩
    rwa [capture_of_not_pair s htime hpart hwts] at hexec
  · rintro rfl
    rw [capture_timeLo, readReg_timeLo] at hexec
    exact runs_setReg_okay hexec
  · rintro b hb rfl
    rw [capture_partLo s hb, readReg_partLo s hb] at hexec
    exact runs_setReg_okay hexec
  · rintro w hw rfl
    rw [capture_wtsLo s hw, readReg_wtsLo s hw] at hexec
    exact runs_setReg_okay hexec

end

section
/-!
SUPPORT. Folds over indexes, registers apart from those of events, and states compared but for what events touch.
-/

namespace Sys2Proof.Machine

/-! ### Folds -/

/-- What every step of a fold keeps, the fold keeps. -/
theorem foldl_keeps {α β γ : Type} (g : α → γ) {f : α → β → α} {l : List β} (h : ∀ a, ∀ b ∈ l, g (f a b) = g a) (a : α) : g (l.foldl f a) = g a := by
  induction l generalizing a with
  | nil => rfl
  | cons b l ih => exact (ih (fun c d hd => h c d (List.mem_cons_of_mem _ hd)) _).trans (h a b List.mem_cons_self)

/-- What the step of one index brings about and every step keeps holds after the fold. -/
theorem foldl_holds {α β : Type} {P : α → Prop} {f : α → β → α} {l : List β} {b : β} (hb : b ∈ l) (hset : ∀ a, P (f a b))
    (hkeep : ∀ a, ∀ c ∈ l, P a → P (f a c)) (a : α) : P (l.foldl f a) := by
  have hall : ∀ (m : List β), (∀ c ∈ m, c ∈ l) → ∀ a, P a → P (m.foldl f a) := by
    intro m
    induction m with
    | nil => exact fun _ _ h => h
    | cons c m ih => exact fun hm a h => ih (fun d hd => hm d (List.mem_cons_of_mem _ hd)) _ (hkeep a c (hm c List.mem_cons_self) h)
  obtain ⟨m, n, rfl⟩ := List.append_of_mem hb
  rw [List.foldl_append, List.foldl_cons]
  exact hall n (fun c hc => by simp [hc]) _ (hset _)

theorem mem_upTo {k n : Nat} : k ∈ upTo n ↔ k < n := List.mem_range

/-- What only the step of one index changes, a fold over the indexes has from that step. -/
theorem foldl_upTo_at {α γ : Type} (g : α → γ) {f : α → Nat → α} {n k : Nat} (hk : k < n) (h : ∀ a j, j < n → j ≠ k → g (f a j) = g a) (a : α) :
    g ((upTo n).foldl f a) = g (f ((upTo k).foldl f a) k) := by
  induction n with
  | zero => omega
  | succ n ih =>
    rw [upTo, List.range_succ, List.foldl_append, List.foldl_cons, List.foldl_nil]
    by_cases hn : k = n
    · rw [hn]
      rfl
    · rw [h _ n (by omega) (by omega)]
      exact ih (by omega) fun a j hj => h a j (by omega)

/-! ### Registers apart from those of events -/

/-- A register outside the pages of the FLT_ and MEM_ blocks, and other than the status and the field book of the event's block. -/
theorem apart_eventRegs {o n : Nat} (hstat : o ≠ blockBase n) (hbook : o ≠ blockBase n + 12) (hflt : o < 0x2800 ∨ 0x2C00 ≤ o)
    (hmem : o < 0x78800 ∨ 0x78C00 ≤ o) : o ∉ eventRegs n := by
  have h18 : blockBase 18 = 0x2800 := rfl
  have h20 : blockBase 20 = 0x78800 := rfl
  simp only [eventRegs, List.mem_cons, List.not_mem_nil, hstat, bookReg, hbook, h18, h20]
  grind

/-! ### States but for what events touch -/

/-- A state without what events touch. -/
def State.bare (s : State) : State := { s with regs := [], book := [], trv := {}, pins := {}, cyc := {} }

theorem evOnly_iff_bare {s t : State} : EvOnly s t ↔ t.bare = s.bare := by
  constructor
  · rintro ⟨r, b, v, p, c, rfl⟩
    rfl
  · intro h
    exact ⟨t.regs, t.book, t.trv, t.pins, t.cyc,
      congrArg (fun u : State => { u with regs := t.regs, book := t.book, trv := t.trv, pins := t.pins, cyc := t.cyc }) h⟩

/-- What is behind the registers of the units reads alike in states that are alike but for what events touch. -/
theorem of_bare {α : Type} (g : State → α) {s t : State} (h : t.bare = s.bare) : g t.bare = g s.bare := congrArg g h

/-- OnlyEvents in two parts: what is not of events, and the registers. -/
theorem onlyEvents_of {s t : State} {l : List Nat} (h : t.bare = s.bare) (hregs : ∀ o, o ∉ l → t.reg o = s.reg o) : OnlyEvents s t l :=
  ⟨evOnly_iff_bare.mpr h, hregs⟩

theorem bare_setReg (s : State) (o : Nat) (v : Word) : (s.setReg o v).bare = s.bare := rfl
theorem bare_put (s : State) (f : Fld) (n : Nat) : (s.put f n).bare = s.bare := rfl
theorem bare_putI (s : State) (f : Fld) (x : Int) : (s.putI f x).bare = s.bare := rfl
theorem bare_putB (s : State) (f : Fld) (b : Bool) : (s.putB f b).bare = s.bare := rfl
theorem bare_addSat (s : State) (f : Fld) (n : Nat) : (s.addSat f n).bare = s.bare := rfl
theorem bare_raiseD (s : State) (e : Ev) (i d : Nat) : (s.raiseD e i d).bare = s.bare := evOnly_iff_bare.mp (evOnly_raiseD s e i d)
theorem bare_raise (s : State) (e : Ev) (i : Nat) : (s.raise e i).bare = s.bare := evOnly_iff_bare.mp (evOnly_raise s e i)
theorem bare_raiseIf (s : State) (c : Bool) (e : Ev) (i : Nat) : (s.raiseIf c e i).bare = s.bare := evOnly_iff_bare.mp (evOnly_raiseIf s c e i)

/-- A state without its registers and the note of the instant. -/
def State.unreg (s : State) : State := { s with regs := [], cyc := {} }

/-- OnlyRegs in two parts: what is behind the registers, and the registers. -/
theorem onlyRegs_of {s t : State} {l : List Nat} (h : t.unreg = s.unreg) (hregs : ∀ o, o ∉ l → t.reg o = s.reg o) : OnlyRegs s t l :=
  ⟨⟨t.regs, t.cyc, congrArg (fun u : State => { u with regs := t.regs, cyc := t.cyc }) h⟩, hregs⟩

theorem of_unreg {α : Type} (g : State → α) {s t : State} (h : t.unreg = s.unreg) : g t.unreg = g s.unreg := congrArg g h

theorem unreg_setReg (s : State) (o : Nat) (v : Word) : (s.setReg o v).unreg = s.unreg := rfl
theorem unreg_put (s : State) (f : Fld) (n : Nat) : (s.put f n).unreg = s.unreg := rfl
theorem unreg_putI (s : State) (f : Fld) (x : Int) : (s.putI f x).unreg = s.unreg := rfl
theorem unreg_putB (s : State) (f : Fld) (b : Bool) : (s.putB f b).unreg = s.unreg := rfl
theorem unreg_addSat (s : State) (f : Fld) (n : Nat) : (s.addSat f n).unreg = s.unreg := rfl

/-! ### Fields after an event of a condition, and signed fields -/

theorem reg_raiseIf (s : State) (c : Bool) (e : Ev) (i o : Nat) (h : o ∉ eventRegs e.block) : (s.raiseIf c e i).reg o = s.reg o :=
  sameRegs_raiseIf s c e i o h

theorem get_raiseIf (s : State) (c : Bool) (e : Ev) (i : Nat) (f : Fld) (h : f.off ∉ eventRegs e.block) : (s.raiseIf c e i).get f = s.get f :=
  get_sameRegs (sameRegs_raiseIf s c e i) f h

theorem on_raiseIf (s : State) (c : Bool) (e : Ev) (i : Nat) (f : Fld) (h : f.off ∉ eventRegs e.block) : (s.raiseIf c e i).on f = s.on f := by
  rw [State.on, get_raiseIf _ _ _ _ _ h, State.on]

theorem stat_raiseIf_keeps (s : State) (c : Bool) (e f : Ev) (i : Nat) (h : s.stat f = true) : (s.raiseIf c e i).stat f = true := by
  unfold State.raiseIf
  split
  · exact stat_raise_keeps s e f i h
  · exact h

theorem getI_congr {s t : State} {f : Fld} (h : t.get f = s.get f) : t.getI f = s.getI f := by rw [State.getI, h, State.getI]

/-- A signed value that fits a field reads back. -/
theorem signed_mod_unsigned {w : Nat} {x : Int} (hw : 0 < w) (hlo : -(2 ^ (w - 1) : Nat) ≤ x) (hhi : x < (2 ^ (w - 1) : Nat)) :
    signed w (unsigned w x % 2 ^ w) = x := by
  have hpow : 2 ^ w = 2 * 2 ^ (w - 1) := by rw [← Nat.pow_succ']; congr 1; omega
  have hpos : 0 < 2 ^ (w - 1) := Nat.two_pow_pos _
  unfold signed unsigned
  rw [hpow]
  generalize 2 ^ (w - 1) = p at *
  have hmod : x % ((2 * p : Nat) : Int) = if 0 ≤ x then x else x + (2 * p : Nat) := by
    split
    · exact Int.emod_eq_of_lt ‹_› (by omega)
    · rw [← Int.add_emod_right]
      exact Int.emod_eq_of_lt (by omega) (by omega)
  have hlt : (x % ((2 * p : Nat) : Int)).toNat < 2 * p := by split at hmod <;> omega
  rw [Nat.mod_eq_of_lt hlt, Nat.mod_eq_of_lt hlt]
  split at hmod <;> split <;> omega

theorem getI_putI (s : State) (f : Fld) (x : Int) (h : f.lo + f.width ≤ 32) (hw : 0 < f.width) (hlo : -(2 ^ (f.width - 1) : Nat) ≤ x)
    (hhi : x < (2 ^ (f.width - 1) : Nat)) : (s.putI f x).getI f = x := by
  rw [State.getI, State.putI, get_put _ _ _ h, signed_mod_unsigned hw hlo hhi]

end Sys2Proof.Machine
end

section
/-!
SUPPORT. The calibration of Benchmark, thermal calibration, and the temperature corrections (R380, R402, R403, R623).
-/

namespace Sys2Proof.Machine

variable {s : State}

/-! ### Benchmark -/

/-- PLAT_BM after a calibration: whether the datum was present, and the trim (R623). -/
def benchWord (datum gap raw : Nat) : Word :=
  BitVec.ofNat 32 (b2n (1140000 ≤ datum && datum ≤ 1260000) * 2 ^ 16 + unsigned 10 (clampI (-512) 511 (benchTrim datum gap raw)))

theorem exec_benchmarkCalDone {a : Nat} (datum gap raw : Nat) (hdue : s.boot.bmDue = some a) (ha : a ≤ s.now) :
    exec (.benchmarkCalDone datum gap raw) s = .next (((((((s.updBoot fun b => { b with bmDue := none, bmTrim := benchWord datum gap raw }).setReg PLAT_BM
      (benchWord datum gap raw)).putB fPLAT_STATE_BMDONE true).setPhase 1).raiseIf (!(1140000 ≤ datum && datum ≤ 1260000)) evPLAT_DATUM_ABSENT 0xFFFF).raiseIf
      (clampI (-512) 511 (benchTrim datum gap raw) ≠ benchTrim datum gap raw) evPLAT_BM_RANGE 0xFFFF)) := by
  change execBenchmarkCalDone datum gap raw s = _
  unfold execBenchmarkCalDone
  rw [hdue]
  simp only [ha, if_true]
  rfl

theorem clampI_bounds {lo hi : Int} (h : lo ≤ hi) (x : Int) : lo ≤ clampI lo hi x ∧ clampI lo hi x ≤ hi := by
  unfold clampI
  omega

theorem clampI_ne_of_out {lo hi x : Int} (h : lo ≤ hi) (hx : x < lo ∨ hi < x) : clampI lo hi x ≠ x := by
  unfold clampI
  omega

theorem benchWord_fields (datum gap raw : Nat) :
    bitsAt (benchWord datum gap raw) 0 10 = unsigned 10 (clampI (-512) 511 (benchTrim datum gap raw)) ∧
    bitsAt (benchWord datum gap raw) 16 1 = b2n (1140000 ≤ datum && datum ≤ 1260000) := by
  have hlt : unsigned 10 (clampI (-512) 511 (benchTrim datum gap raw)) < 1024 := by
    unfold unsigned
    omega
  have hb : b2n (1140000 ≤ datum && datum ≤ 1260000) < 2 := by
    unfold b2n
    split <;> omega
  unfold bitsAt benchWord
  generalize unsigned 10 (clampI (-512) 511 (benchTrim datum gap raw)) = t at *
  generalize b2n (1140000 ≤ datum && datum ≤ 1260000) = b at *
  rw [BitVec.toNat_ofNat]
  omega

theorem get_setPhase (s : State) (n : Nat) (f : Fld) : (s.setPhase n).get f = (s.put fPLAT_STATE_PHASE n).get f := rfl
theorem on_setPhase (s : State) (n : Nat) (f : Fld) : (s.setPhase n).on f = (s.put fPLAT_STATE_PHASE n).on f := rfl
theorem reg_setPhase (s : State) (n o : Nat) : (s.setPhase n).reg o = (s.put fPLAT_STATE_PHASE n).reg o := rfl
theorem bare_setPhase (s : State) (n : Nat) : (s.setPhase n).bare = s.bare := rfl

theorem benchmarkCalDone_runs (datum gap raw : Nat) {a : Nat} (hdue : s.boot.bmDue = some a) (ha : a ≤ s.now) :
    Runs (.benchmarkCalDone datum gap raw) s fun t =>
      t.on fPLAT_STATE_BMDONE = true ∧ t.get fPLAT_STATE_PHASE = 1 ∧
      t.on fPLAT_BM_DATUM = decide (1140000 ≤ datum ∧ datum ≤ 1260000) ∧
      t.getI fPLAT_BM_TRIM = clampI (-512) 511
        (roundHalfUp ((if 1140000 ≤ datum ∧ datum ≤ 1260000 then (datum : Int) else gap) - raw) 50) ∧
      (¬(1140000 ≤ datum ∧ datum ≤ 1260000) → t.stat evPLAT_DATUM_ABSENT = true) ∧
      ((benchTrim datum gap raw < -512 ∨ 511 < benchTrim datum gap raw) → t.stat evPLAT_BM_RANGE = true) ∧
      OnlyEvents { s with boot := { s.boot with bmDue := none, bmTrim := t.reg PLAT_BM } } t ([PLAT_BM, PLAT_STATE] ++ eventRegs 1) := by
  obtain ⟨htrim, hdatum⟩ := benchWord_fields datum gap raw
  have hbounds := clampI_bounds (lo := -512) (hi := 511) (by decide) (benchTrim datum gap raw)
  refine ⟨_, exec_benchmarkCalDone datum gap raw hdue ha, ?_, ?_, ?_, ?_, fun h => ?_, fun h => ?_, ?_⟩
  · simp (disch := decide) only [on_raiseIf, on_setPhase, on_put_apart, on_putB_same]
  · simp (disch := decide) only [get_raiseIf, get_setPhase, get_put]
    rfl
  · simp (disch := decide) only [on_raiseIf, on_setPhase, on_put_reg, on_putB_reg]
    simp only [State.on, get_setReg, if_true, hdatum, b2n]
    grind
  · rw [getI_congr (s := s.setReg PLAT_BM (benchWord datum gap raw)) (f := fPLAT_BM_TRIM)]
    · simp only [State.getI, get_setReg, if_true, htrim]
      rw [← Nat.mod_eq_of_lt (a := unsigned 10 _) (b := 2 ^ 10) (by unfold unsigned; omega)]
      exact signed_mod_unsigned (by decide) (by norm_num; omega) (by norm_num; omega)
    · simp (disch := decide) only [get_raiseIf, get_setPhase, get_put_reg, get_putB_reg]
      rfl
  · refine stat_raiseIf_keeps _ _ _ _ _ ?_
    rw [stat_raiseIf_same _ _ _ _ (by decide)]
    simp only [← Bool.decide_and, h, decide_false, Bool.not_false, Bool.or_true]
  · rw [stat_raiseIf_same _ _ _ _ (by decide), decide_eq_true (clampI_ne_of_out (by decide) h), Bool.or_true]
  · refine onlyEvents_of ?_ fun o ho => ?_
    · simp only [bare_raiseIf, bare_setPhase, bare_putB, bare_setReg]
      simp (disch := decide) only [reg_raiseIf, reg_setPhase, reg_put_ne, reg_putB_ne, reg_setReg_same]
      rfl
    · obtain ⟨hbm, hstate, hev⟩ : o ≠ PLAT_BM ∧ o ≠ PLAT_STATE ∧ o ∉ eventRegs 1 := by simpa [not_or] using ho
      simp (disch := assumption) only [reg_raiseIf, reg_setPhase, reg_put_ne, reg_putB_ne, reg_setReg_ne]
      rfl

/-! ### Thermal calibration -/

theorem get_updSite (s : State) (k : Nat) (f : SiteHid → SiteHid) (g : Fld) : (s.updSite k f).get g = s.get g := rfl
theorem on_updSite (s : State) (k : Nat) (f : SiteHid → SiteHid) (g : Fld) : (s.updSite k f).on g = s.on g := rfl
theorem reg_updSite (s : State) (k : Nat) (f : SiteHid → SiteHid) (o : Nat) : (s.updSite k f).reg o = s.reg o := rfl

/-- The marks of the front ends with a trim out of range (R380, R381). -/
def State.markUntrimmed (s : State) (k : Nat) : State := (s.putB (fTHM_SITE_INVALID k) true).raise evTHM_CAL k

theorem exec_thermalCalDone (tcal : Int) (bad : List Nat) (hpor : s.por = false) (hnone : s.thm.tcal = none) (hbm : s.on fPLAT_STATE_BMDONE = true) :
    exec (.thermalCalDone tcal bad) s = .next (((upTo 64).filter bad.contains).foldl State.markUntrimmed
      ((upTo 64).foldl (fun u k => u.updSite k fun h => { h with valued := false })
        ((({ s with thm := { s.thm with tcal := some (s.diodeTemp tcal), untrimmed := (upTo 64).filter bad.contains } } : State).putI fTHM_CAL_TCAL
          (s.diodeTemp tcal)).putB fTHM_STATE_CALDONE true))) := by
  change execThermalCalDone tcal bad s = _
  unfold execThermalCalDone
  simp only [hpor, hnone, hbm]
  rfl

theorem bare_markUntrimmed (s : State) (k : Nat) : (s.markUntrimmed k).bare = s.bare := bare_raise _ _ _

theorem stat_markUntrimmed (s : State) (k : Nat) : (s.markUntrimmed k).stat evTHM_CAL = true := stat_raise_same _ _ _ (by decide)

theorem reg_markUntrimmed (s : State) {k o : Nat} (h : o ≠ THM_SITE k) (ho : o ∉ eventRegs 12) : (s.markUntrimmed k).reg o = s.reg o :=
  (reg_raise _ _ _ _ ho).trans (reg_putB_ne _ _ _ _ h)

theorem thmReg_not_event {o : Nat} (h : 0x50010 ≤ o ∧ o < 0x60000) : o ∉ eventRegs 12 :=
  apart_eventRegs (by simp [blockBase]; omega) (by simp [blockBase]; omega) (by omega) (by omega)

theorem diodeTemp_bounds (s : State) (x : Int) : -32768 ≤ s.diodeTemp x ∧ s.diodeTemp x ≤ 32767 := clampI_bounds (by decide) _

/-- The sites begin their values anew. -/
theorem forgetValues_eq (l : List Nat) (s : State) : ∃ x, l.foldl (fun u k => u.updSite k fun h => { h with valued := false }) s =
    { s with thm := { s.thm with sites := x } } := by
  induction l generalizing s with
  | nil => exact ⟨s.thm.sites, rfl⟩
  | cons k l ih =>
    obtain ⟨x, hx⟩ := ih (s.updSite k fun h => { h with valued := false })
    exact ⟨x, hx⟩

/-- Thermal calibration before the marks: TCAL is stored and shown (R380). -/
def State.calibrated (s : State) (tcal : Int) (bad : List Nat) (x : Tbl SiteHid) : State :=
  { (s.putI fTHM_CAL_TCAL tcal).putB fTHM_STATE_CALDONE true with
    thm := { s.thm with tcal := some tcal, untrimmed := (upTo 64).filter bad.contains, sites := x } }

theorem exec_thermalCalDone_calibrated (tcal : Int) (bad : List Nat) (hpor : s.por = false) (hnone : s.thm.tcal = none)
    (hbm : s.on fPLAT_STATE_BMDONE = true) : ∃ x, exec (.thermalCalDone tcal bad) s =
      .next (((upTo 64).filter bad.contains).foldl State.markUntrimmed (s.calibrated (s.diodeTemp tcal) bad x)) := by
  obtain ⟨x, hx⟩ := forgetValues_eq (upTo 64) ((({ s with thm := { s.thm with
    tcal := some (s.diodeTemp tcal), untrimmed := (upTo 64).filter bad.contains } } : State).putI fTHM_CAL_TCAL (s.diodeTemp tcal)).putB fTHM_STATE_CALDONE true)
  exact ⟨x, by rw [exec_thermalCalDone tcal bad hpor hnone hbm, hx]; rfl⟩

theorem reg_calibrated (tcal : Int) (bad : List Nat) (x : Tbl SiteHid) (o : Nat) :
    (s.calibrated tcal bad x).reg o = ((s.putI fTHM_CAL_TCAL tcal).putB fTHM_STATE_CALDONE true).reg o := rfl

theorem thermalCalDone_runs (tcal : Int) (bad : List Nat) (hpor : s.por = false) (hnone : s.thm.tcal = none) (hbm : s.on fPLAT_STATE_BMDONE = true) :
    Runs (.thermalCalDone tcal bad) s fun t => t.getI fTHM_CAL_TCAL = s.diodeTemp tcal ∧ t.on fTHM_STATE_CALDONE = true ∧
      (∀ k, k < 64 → k ∈ bad → t.on (fTHM_SITE_INVALID k) = true ∧ t.stat evTHM_CAL = true) ∧
      OnlyEvents { s with thm := { s.thm with tcal := some (s.diodeTemp tcal), untrimmed := (upTo 64).filter bad.contains, sites := t.thm.sites } } t
        ([THM_CAL, THM_STATE] ++ (upTo 64).map THM_SITE ++ eventRegs 12) := by
  obtain ⟨x, hexec⟩ := exec_thermalCalDone_calibrated tcal bad hpor hnone hbm
  obtain ⟨hlo, hhi⟩ := diodeTemp_bounds s tcal
  generalize s.diodeTemp tcal = temp at *
  refine ⟨_, hexec, ?_⟩
  have hreg (o : Nat) (hsite : ∀ k, k < 64 → o ≠ THM_SITE k) (hev : o ∉ eventRegs 12) : (((upTo 64).filter bad.contains).foldl State.markUntrimmed
      (s.calibrated temp bad x)).reg o = ((s.putI fTHM_CAL_TCAL temp).putB fTHM_STATE_CALDONE true).reg o :=
    foldl_keeps (fun u => u.reg o) (fun u k hk => reg_markUntrimmed u (hsite k (mem_upTo.mp (List.mem_of_mem_filter hk))) hev) _
  have hbare : (((upTo 64).filter bad.contains).foldl State.markUntrimmed (s.calibrated temp bad x)).bare = (s.calibrated temp bad x).bare :=
    foldl_keeps State.bare (fun u k _ => bare_markUntrimmed u k) _
  refine ⟨?_, ?_, fun k hk hbad => ?_, onlyEvents_of ?_ fun o ho => ?_⟩
  · rw [getI_congr (get_of_reg fTHM_CAL_TCAL (hreg THM_CAL (fun k _ => by grind) (by decide))), getI_congr (get_putB_reg _ _ _ _ (by decide))]
    exact getI_putI _ _ _ (by decide) (by decide) hlo (by norm_num; omega)
  · rw [on_of_reg fTHM_STATE_CALDONE (hreg THM_STATE (fun k _ => by grind) (by decide)), on_putB_same _ _ _ (by decide) rfl]
  · have hmem : k ∈ (upTo 64).filter bad.contains := List.mem_filter.mpr ⟨mem_upTo.mpr hk, by simpa using hbad⟩
    have hev : THM_SITE k ∉ eventRegs 12 := thmReg_not_event (by unfold THM_SITE; omega)
    refine ⟨foldl_holds (P := fun u : State => u.on (fTHM_SITE_INVALID k) = true) hmem (fun u => ?_) (fun u j hj h => ?_) _,
      foldl_holds (P := fun u : State => u.stat evTHM_CAL = true) hmem (fun u => stat_markUntrimmed u k) (fun u j _ _ => stat_markUntrimmed u j) _⟩
    · rw [State.markUntrimmed, on_raise _ _ _ _ hev, on_putB_same _ _ _ (by simp) rfl]
    · rw [State.markUntrimmed, on_raise _ _ _ _ hev]
      by_cases hjk : j = k
      · rw [hjk, on_putB_same _ _ _ (by simp) rfl]
      · rw [on_putB_reg _ _ _ _ (by grind), h]
  · rw [hbare]
    generalize (((upTo 64).filter bad.contains).foldl State.markUntrimmed (s.calibrated temp bad x)) = t at hbare
    rw [show t.thm = (s.calibrated temp bad x).thm from of_bare State.thm hbare]
    rfl
  · obtain ⟨hcal, hstate, hsite, hev⟩ : o ≠ THM_CAL ∧ o ≠ THM_STATE ∧ (∀ k, k < 64 → o ≠ THM_SITE k) ∧ o ∉ eventRegs 12 := by
      simpa [not_or, mem_upTo, eq_comm, and_assoc] using ho
    rw [hreg o hsite hev, reg_putB_ne _ _ _ _ hstate]
    exact reg_put_ne _ _ _ _ hcal

/-! ### The temperature corrections -/

theorem signed_bounds (n : Nat) : -32768 ≤ signed 16 n ∧ signed 16 n ≤ 32767 := by
  unfold signed
  norm_num
  omega

theorem reg_correct (s : State) {i o : Nat} (temp : Int) (h : o ≠ THM_COMP i) : (s.correct i temp).reg o = s.reg o := reg_put_ne _ _ _ _ h

/-- A correction moves toward its target by at most 100 ppm; its site is not written (R402, R403). -/
theorem correct_spec (s : State) (i : Nat) (temp : Int) (haon : s.aon ≠ 4) :
    (s.correct i temp).getI (fTHM_COMP_CORR i) = clampI (s.getI (fTHM_COMP_CORR i) - 100) (s.getI (fTHM_COMP_CORR i) + 100)
      (clampI (-32768) 32767 (corrTarget i (temp - s.getI fTHM_CAL_TCAL))) := by
  have hold := signed_bounds (s.get (fTHM_COMP_CORR i))
  change -32768 ≤ s.getI (fTHM_COMP_CORR i) ∧ s.getI (fTHM_COMP_CORR i) ≤ 32767 at hold
  unfold State.correct
  simp only [haon, if_false]
  have hwant := clampI_bounds (lo := -32768) (hi := 32767) (by decide) (corrTarget i (temp - s.getI fTHM_CAL_TCAL))
  generalize clampI (-32768) 32767 (corrTarget i (temp - s.getI fTHM_CAL_TCAL)) = want at *
  refine getI_putI _ _ _ (by simp) (by simp) ?_ ?_
  · norm_num [clampI]
    omega
  · norm_num [clampI]
    omega

/-- The three corrections in turn: each rests on registers that the others leave. -/
theorem refCorrectionUpdate_runs (hcal : s.on fTHM_STATE_CALDONE = true) (haon : s.aon ≠ 4) : Runs .refCorrectionUpdate s fun t =>
    (∀ i, i < 3 → t.getI (fTHM_COMP_CORR i) = clampI (s.getI (fTHM_COMP_CORR i) - 100) (s.getI (fTHM_COMP_CORR i) + 100)
      (clampI (-32768) 32767 (corrTarget i (s.getI (fTHM_SITE_VALUE (s.get (fTHM_COMP_SITE i))) - s.getI fTHM_CAL_TCAL))) ∧
      s.getI (fTHM_COMP_CORR i) - 100 ≤ t.getI (fTHM_COMP_CORR i) ∧
      t.getI (fTHM_COMP_CORR i) ≤ s.getI (fTHM_COMP_CORR i) + 100) ∧
    OnlyRegs s t ((upTo 3).map THM_COMP) := by
  have hexec : exec .refCorrectionUpdate s = .next ((upTo 3).foldl (fun u i => u.correct i (u.site (u.get (fTHM_COMP_SITE i)))) s) := by
    change execRefCorrectionUpdate s = _
    simp only [execRefCorrectionUpdate, hcal, haon, ne_eq, not_false_eq_true, decide_true, Bool.and_self, if_true]
    rfl
  refine ⟨_, hexec, fun i hi => ?_, onlyRegs_of ?_ fun o ho => ?_⟩
  · have hreg (o : Nat) (ho : ∀ j, j < i → o ≠ THM_COMP j) :
        ((upTo i).foldl (fun u i => u.correct i (u.site (u.get (fTHM_COMP_SITE i)))) s).reg o = s.reg o :=
      foldl_keeps (fun u => u.reg o) (fun u j hj => reg_correct u _ (ho j (mem_upTo.mp hj))) s
    have hat := foldl_upTo_at (fun u : State => u.getI (fTHM_COMP_CORR i)) (f := fun u i => u.correct i (u.site (u.get (fTHM_COMP_SITE i)))) hi
      (fun u j _ hj => getI_congr (get_of_reg (fTHM_COMP_CORR i) (reg_correct u _ (by grind)))) s
    generalize (upTo i).foldl (fun u i => u.correct i (u.site (u.get (fTHM_COMP_SITE i)))) s = u at hreg hat
    have hcorr : u.getI (fTHM_COMP_CORR i) = s.getI (fTHM_COMP_CORR i) := getI_congr (get_of_reg _ (hreg _ fun j _ => by grind))
    have hsite : u.get (fTHM_COMP_SITE i) = s.get (fTHM_COMP_SITE i) := get_of_reg _ (hreg _ fun j _ => by grind)
    have hvalue (k : Nat) : u.site k = s.getI (fTHM_SITE_VALUE k) := getI_congr (get_of_reg (fTHM_SITE_VALUE k) (hreg _ fun j _ => by grind))
    have htcal : u.getI fTHM_CAL_TCAL = s.getI fTHM_CAL_TCAL := getI_congr (get_of_reg fTHM_CAL_TCAL (hreg _ fun j _ => by grind))
    have hu : u.aon ≠ 4 := by rwa [State.aon, get_of_reg fPST_STATE_STATE (hreg _ fun j _ => by grind)]
    have hspec := correct_spec u i (u.site (u.get (fTHM_COMP_SITE i))) hu
    rw [hat, hspec, hcorr, htcal, hsite, hvalue]
    refine ⟨rfl, ?_⟩
    unfold clampI
    omega
  · exact foldl_keeps State.unreg (fun u i _ => unreg_putI u (fTHM_COMP_CORR i) _) s
  · exact foldl_keeps (fun u => u.reg o) (fun u i hi => reg_correct (i := i) u _ fun h => ho (by rw [h]; exact List.mem_map_of_mem hi)) s

end Sys2Proof.Machine
end

section
/-!
The statements about calibration and about the front of the queue.
-/

open Sys2Proof Sys2Proof.Machine

/-- Settles O27: each calibration by itself; of the corrections, none writes what another rests on (R380, R402, R403, R623). -/
theorem calibrations : Obligations.Calibrations := by
  unfold Obligations.Calibrations
  intro s datum gap raw tcal bad
  exact ⟨fun a hdue ha => benchmarkCalDone_runs datum gap raw hdue ha, thermalCalDone_runs tcal bad, refCorrectionUpdate_runs⟩

/-- Settles O1: a step takes the command at the front, and leaves the others waiting. -/
theorem stepRunsFrontCommand : Obligations.StepRunsFrontCommand := by
  unfold Obligations.StepRunsFrontCommand
  intro c s
  rfl

end

section
/-!
SUPPORT. Modes of cells, the light-load decision of a tract, and snaps (R96, R109, R112, R126-R130).
-/

namespace Sys2Proof.Machine

variable {s : State}

/-! ### Modes of cells -/

theorem unreg_setMode (s : State) (c m : Nat) : (s.setMode c m).unreg = s.unreg := by
  unfold State.setMode
  split <;> rfl

theorem reg_setMode (s : State) (m : Nat) {c o : Nat} (h : o ≠ CEL_CSTAT c) : (s.setMode c m).reg o = s.reg o := by
  unfold State.setMode
  split
  · rfl
  · exact reg_put_ne _ _ _ _ h

theorem unreg_applyLoadMode (s : State) (t : Nat) : (s.applyLoadMode t).unreg = s.unreg :=
  foldl_keeps State.unreg (fun u c _ => by
    split
    · exact unreg_setMode u c _
    · rfl) s

theorem reg_applyLoadMode (s : State) {t o : Nat} (h : o ∉ (cellsIn t).map CEL_CSTAT) : (s.applyLoadMode t).reg o = s.reg o :=
  foldl_keeps (fun u => u.reg o) (fun u c hc => by
    split
    · exact reg_setMode u _ fun he => h (he ▸ List.mem_map_of_mem hc)
    · rfl) s

/-! ### The pulse decision -/

theorem judgePulse_eq (s : State) (t : Nat) : ∃ p w, (s.judgePulse t) = s.updTract t fun h => { h with pulse := p, pulseWas := w } := by
  unfold State.judgePulse State.setPulse State.updTract
  by_cases h : (s.tract t).pulse = s.pulseNow t
  · exact ⟨(s.tract t).pulse, (s.tract t).pulseWas, by dsimp only; rw [if_pos h]⟩
  · exact ⟨_, _, by dsimp only; rw [if_neg h]⟩

/-! ### Stations -/

theorem stn_updStn (s : State) (n k : Nat) (f : StnHid → StnHid) : (s.updStn n f).stn k = if k = n then f (s.stn n) else s.stn k :=
  tblGet_set _ _ _ _ _

/-- The mark of a trip at a station. -/
def State.noteTrip (s : State) (n : Nat) (b : Bool) : State := s.updStn n fun h => { h with tripped := b }

theorem stn_noteTrip (s : State) (n k : Nat) (b : Bool) : (s.noteTrip n b).stn k = if k = n then { s.stn n with tripped := b } else s.stn k :=
  stn_updStn _ _ _ _

theorem reading_noteTrip (s : State) (n : Nat) (b : Bool) : (s.noteTrip n b).reading = s.reading := by
  funext k
  have hlow : ((s.noteTrip n b).stn k).low = (s.stn k).low := by
    rw [stn_noteTrip]
    split
    · next h => rw [h]
    · rfl
  unfold State.reading
  rw [hlow]
  rfl

end Sys2Proof.Machine
end

section
/-!
SUPPORT. The instants of a snap rest on the readings of the stations, not on which comparators are tripped (R90, R116, R127).
-/

namespace Sys2Proof.Machine

variable {s : State} {w : Tbl StnHid}

theorem timedLowPs_congr (h : ({ s with stns := w } : State).reading = s.reading) (c on : Nat) :
    ({ s with stns := w } : State).timedLowPs c on = s.timedLowPs c on := by
  have hfed (t : Nat) : ({ s with stns := w } : State).fedBack t = s.fedBack t := by
    unfold State.fedBack
    rw [h]
    rfl
  have hratio : ({ s with stns := w } : State).ratioCode c = s.ratioCode c := by
    unfold State.ratioCode
    rw [h, hfed]
    rfl
  unfold State.timedLowPs
  rw [hratio]

theorem lowEnds_congr (h : ({ s with stns := w } : State).reading = s.reading) (c ph : Nat) (p : Period) (on : Nat) :
    ({ s with stns := w } : State).lowEnds c ph p on = s.lowEnds c ph p on := by
  unfold State.lowEnds
  rw [timedLowPs_congr h]
  rfl

theorem loopDrv_congr (h : ({ s with stns := w } : State).reading = s.reading) (c ph x : Nat) :
    ({ s with stns := w } : State).loopDrv c ph x = s.loopDrv c ph x := by
  have hlow (p : Period) (y on : Nat) : ({ s with stns := w } : State).lowOn c ph x p y on = s.lowOn c ph x p y on := by
    unfold State.lowOn
    rw [lowEnds_congr h]
    rfl
  unfold State.loopDrv
  simp only [hlow]
  rfl

theorem snapStart_congr (h : ({ s with stns := w } : State).reading = s.reading) (c ph x : Nat) :
    ({ s with stns := w } : State).snapStart c ph x = s.snapStart c ph x := by
  unfold State.snapStart
  simp only [loopDrv_congr h, lowEnds_congr h]
  rfl

end Sys2Proof.Machine
end

section
/-!
SUPPORT. A snap, what it changes and what it leaves (R127-R132).
-/

namespace Sys2Proof.Machine

variable {s : State}

/-- A state without what events touch, the stations and the tracts. -/
def State.bareTracts (s : State) : State := { s.bare with stns := [], tracts := [] }

theorem onlyEvents_tracts {s u : State} {l : List Nat} (h : u.bareTracts = s.bareTracts) (hregs : ∀ o, o ∉ l → u.reg o = s.reg o) :
    OnlyEvents { s with stns := u.stns, tracts := u.tracts } u l :=
  onlyEvents_of (congrArg (fun x : State => { x with stns := u.stns, tracts := u.tracts }) h) hregs

theorem bareTracts_of_bare {s u : State} (h : u.bare = s.bare) : u.bareTracts = s.bareTracts :=
  congrArg (fun x : State => { x with stns := [], tracts := [] }) h

theorem bareTracts_of_unreg {s u : State} (h : u.unreg = s.unreg) : u.bareTracts = s.bareTracts := by
  have := congrArg State.bareTracts h
  exact this

theorem bareTracts_updTract (s : State) (t : Nat) (f : TractHid → TractHid) : (s.updTract t f).bareTracts = s.bareTracts := rfl

/-- The tract in a snap: forced conduction, lockout, pause, and its light load over (R127-R130). -/
def TractHid.snapped (h : TractHid) (now : Nat) (from_ ends : List Nat) (light : Bool) : TractHid :=
  { h with snapFrom := from_, snapEnds := ends, lockEnd := now + 16, snapPause := some (now + 17)
           snaps := now :: h.snaps.filter fun a => now ≤ a + 100000, light := light }

/-- A snap counted and begun. -/
def State.snapBegun (s : State) (t : Nat) (reach : List Nat) : State :=
  (s.addSat (fSTN_SNAP_CNT_COUNT t) 1).updTract t fun h => h.snapped s.now ((upTo 8).map fun k => s.snapStart (4 * t + k / 2) (k % 2) s.now)
    ((upTo 8).map fun k => s.now + min 8 (reach.getD k 8)) (h.light && s.heldLight t)

/-- The cells of a snapping tract in the mode that its load then calls for, and its pulses judged anew. -/
def State.snapModes (s : State) (t : Nat) (on : Bool) : State := (if on then s.applyLoadMode t else s).judgePulse t

theorem snap_eq (s : State) (t : Nat) (reach : List Nat) : ∃ (b : Bool) (d : Nat),
    s.snap t reach = if b then (((s.snapBegun t reach).snapModes t (s.isOn (s.domOf t))).updTract t fun h => { h with storm := true }).raiseD evSTN_SNAP_STORM t d
      else (s.snapBegun t reach).snapModes t (s.isOn (s.domOf t)) := ⟨_, _, rfl⟩

theorem snapBegun_spec (s : State) (t : Nat) (reach : List Nat) : (s.snapBegun t reach).bareTracts = s.bareTracts ∧
    (∀ o, o ≠ STN_SNAP_CNT t → (s.snapBegun t reach).reg o = s.reg o) ∧ (s.snapBegun t reach).stns = s.stns ∧
    (s.snapBegun t reach).get (fSTN_SNAP_CNT_COUNT t) = min (2 ^ 32 - 1) (s.get (fSTN_SNAP_CNT_COUNT t) + 1) ∧
    ∀ k, (s.snapBegun t reach).tract k = if k = t then (s.tract t).snapped s.now ((upTo 8).map fun k => s.snapStart (4 * t + k / 2) (k % 2) s.now)
      ((upTo 8).map fun k => s.now + min 8 (reach.getD k 8)) ((s.tract t).light && s.heldLight t) else s.tract k :=
  ⟨bareTracts_updTract _ _ _, fun o ho => (reg_updTract _ _ _ _).trans (reg_addSat_ne _ (fSTN_SNAP_CNT_COUNT t) _ _ ho),
    (State.updTract_stns _ _ _).trans (State.addSat_stns _ _ _), (get_updTract _ _ _ _).trans (get_addSat _ _ _ (by simp)), fun k => tract_updTract _ _ _ _⟩

theorem snapModes_spec (s : State) (t : Nat) (on : Bool) : (s.snapModes t on).bareTracts = s.bareTracts ∧
    (∀ o, o ∉ (cellsIn t).map CEL_CSTAT → (s.snapModes t on).reg o = s.reg o) ∧ (s.snapModes t on).stns = s.stns ∧
    ∃ p w, ∀ k, (s.snapModes t on).tract k = if k = t then { s.tract t with pulse := p, pulseWas := w } else s.tract k := by
  have hmodes : (if on then s.applyLoadMode t else s).unreg = s.unreg := by
    split
    · exact unreg_applyLoadMode s t
    · rfl
  have hregs (o : Nat) (ho : o ∉ (cellsIn t).map CEL_CSTAT) : (if on then s.applyLoadMode t else s).reg o = s.reg o := by
    split
    · exact reg_applyLoadMode s ho
    · rfl
  unfold State.snapModes
  generalize (if on then s.applyLoadMode t else s) = v at *
  obtain ⟨p, w, heq⟩ := judgePulse_eq v t
  have htracts : v.tracts = s.tracts := of_unreg State.tracts hmodes
  have hstns : v.stns = s.stns := of_unreg State.stns hmodes
  have hbare : v.bareTracts = s.bareTracts := bareTracts_of_unreg hmodes
  have htract (k : Nat) : v.tract k = s.tract k := by rw [State.tract, htracts, State.tract]
  rw [heq]
  refine ⟨hbare, hregs, hstns, p, w, fun k => ?_⟩
  rw [tract_updTract, htract, htract]

/-- What a snap changes: its tract, its count, the modes of its cells, and what SNAP_STORM touches. -/
theorem snap_spec (s : State) {t : Nat} (ht : t < 64) (reach : List Nat) : (s.snap t reach).bareTracts = s.bareTracts ∧
    (∀ o, o ∉ [STN_SNAP_CNT t] ++ (cellsIn t).map CEL_CSTAT ++ eventRegs 4 → (s.snap t reach).reg o = s.reg o) ∧
    (s.snap t reach).stns = s.stns ∧
    (s.snap t reach).get (fSTN_SNAP_CNT_COUNT t) = min (2 ^ 32 - 1) (s.get (fSTN_SNAP_CNT_COUNT t) + 1) ∧
    ∃ p w b, ∀ k, (s.snap t reach).tract k = if k = t then { (s.tract t).snapped s.now ((upTo 8).map fun k => s.snapStart (4 * t + k / 2) (k % 2) s.now)
      ((upTo 8).map fun k => s.now + min 8 (reach.getD k 8)) ((s.tract t).light && s.heldLight t) with pulse := p, pulseWas := w, storm := b } else s.tract k := by
  obtain ⟨b, d, heq⟩ := snap_eq s t reach
  obtain ⟨hbare1, hregs1, hstns1, hcount1, htract1⟩ := snapBegun_spec s t reach
  obtain ⟨hbare2, hregs2, hstns2, p, w, htract2⟩ := snapModes_spec (s.snapBegun t reach) t (s.isOn (s.domOf t))
  have hcnt : STN_SNAP_CNT t ∉ (cellsIn t).map CEL_CSTAT ∧ STN_SNAP_CNT t ∉ eventRegs 4 := by
    constructor
    · simp [cellsIn]
      unfold STN_SNAP_CNT CEL_CSTAT
      omega
    · grind [apart_eventRegs, blockBase]
  have hcount2 := (get_of_reg (fSTN_SNAP_CNT_COUNT t) (hregs2 _ hcnt.1)).trans hcount1
  have hregs : ∀ o, o ∉ [STN_SNAP_CNT t] ++ (cellsIn t).map CEL_CSTAT ++ eventRegs 4 →
      ((s.snapBegun t reach).snapModes t (s.isOn (s.domOf t))).reg o = s.reg o := fun o ho => by
    obtain ⟨⟨h1, h2⟩, h3⟩ : (o ≠ STN_SNAP_CNT t ∧ o ∉ (cellsIn t).map CEL_CSTAT) ∧ o ∉ eventRegs 4 := by
      simpa only [List.mem_append, not_or, List.mem_singleton] using ho
    exact (hregs2 o h2).trans (hregs1 o h1)
  have htract (k : Nat) := (htract2 k).trans (by rw [htract1 t, if_pos rfl, htract1 k])
  rw [heq]
  generalize (s.snapBegun t reach).snapModes t (s.isOn (s.domOf t)) = v at *
  split
  · refine ⟨?_, fun o ho => ?_, ?_, ?_, p, w, true, fun k => ?_⟩
    · exact ((bareTracts_of_bare (bare_raiseD _ _ _ _)).trans (bareTracts_updTract _ _ _)).trans (hbare2.trans hbare1)
    · rw [reg_raiseD _ _ _ _ _ (fun hm => ho (List.mem_append_right _ hm)), reg_updTract]
      exact hregs o ho
    · rw [State.raiseD_stns, State.updTract_stns]
      exact hstns2.trans hstns1
    · rw [get_raiseD _ _ _ _ _ hcnt.2, get_updTract]
      exact hcount2
    · rw [State.tract, State.raiseD_tracts]
      refine (tract_updTract _ _ _ _).trans ?_
      rw [htract t, if_pos rfl, htract k]
      split <;> rfl
  · refine ⟨hbare2.trans hbare1, hregs, hstns2.trans hstns1, hcount2, p, w, (s.tract t).storm, fun k => ?_⟩
    rw [htract k]
    split <;> rfl

end Sys2Proof.Machine
end

section
/-!
SUPPORT. The commands of snaps (R127, R129, R130).
-/

namespace Sys2Proof.Machine

variable {s : State}

theorem exec_snap (n : Fin 1024) (reach : List Nat) : exec (.snap ⟨n, reach⟩) s =
    .next (if s.armed n && (s.tract (n / 16)).lockEnd ≤ s.now && !s.stopped (n / 16) then (s.noteTrip n true).snap (n / 16) reach else s.noteTrip n true) := rfl

/-- The comparators of a tract as they are at the end of a lockout. -/
def State.noteTrips (s : State) (t m : Nat) : State := (upTo 16).foldl (fun u k => u.noteTrip (16 * t + k) (bitN m k)) s

/-- A state without its stations. -/
def State.sansStns (s : State) : State := { s with stns := [] }

theorem sansStns_noteTrip (s : State) (n : Nat) (b : Bool) : (s.noteTrip n b).sansStns = s.sansStns := rfl

theorem eq_of_sansStns {u : State} (h : u.sansStns = s.sansStns) : u = { s with stns := u.stns } :=
  congrArg (fun x : State => { x with stns := u.stns }) h

theorem noteTrips_eq (s : State) (t m : Nat) : ∃ w, s.noteTrips t m = { s with stns := w } :=
  by
  have h : (s.noteTrips t m).sansStns = s.sansStns := foldl_keeps State.sansStns (fun u k _ => sansStns_noteTrip u _ _) s
  exact ⟨(s.noteTrips t m).stns, eq_of_sansStns h⟩

theorem stn_noteTrips (s : State) (t m : Nat) : (∀ k, k < 16 → (s.noteTrips t m).stn (16 * t + k) = { s.stn (16 * t + k) with tripped := bitN m k }) ∧
    ∀ k, k / 16 ≠ t → (s.noteTrips t m).stn k = s.stn k := by
  refine ⟨fun k hk => ?_, fun k hk => ?_⟩
  · refine (foldl_upTo_at (fun u : State => u.stn (16 * t + k)) hk (fun u j _ hj => ?_) s).trans ?_
    · rw [stn_noteTrip, if_neg (by omega)]
    · rw [stn_noteTrip, if_pos rfl]
      rw [foldl_keeps (fun u : State => u.stn (16 * t + k)) (fun u j hj => ?_) s]
      rw [stn_noteTrip, if_neg]
      have := mem_upTo.mp hj
      omega
  · refine foldl_keeps (fun u : State => u.stn k) (fun u j hj => ?_) s
    rw [stn_noteTrip, if_neg]
    have := mem_upTo.mp hj
    omega

theorem exec_snapLockoutEnd (t : Fin 64) (m : BitVec 16) (reach : List Nat) : exec (.snapLockoutEnd t ⟨m, reach⟩) s =
    .next (if 0 < (s.tract t).lockEnd && (s.tract t).lockEnd ≤ s.now && (s.tract t).snapPause.isSome then
      (if ((upTo 16).any fun k => bitN m.toNat k && s.armed (16 * t + k)) && !s.stopped t then (s.noteTrips t m.toNat).snap t reach
        else s.noteTrips t m.toNat) else s) := rfl

theorem snap_runs (n : Fin 1024) (reach : List Nat) (harm : s.armed n = true) (hlock : (s.tract (n / 16)).lockEnd ≤ s.now)
    (hrun : s.stopped (n / 16) = false) : Runs (.snap ⟨n, reach⟩) s fun u =>
      (u.tract (n / 16)).snapFrom = (upTo 8).map (fun k => s.snapStart (4 * (n / 16) + k / 2) (k % 2) s.now) ∧
      (u.tract (n / 16)).light = ((s.tract (n / 16)).light && s.heldLight (n / 16)) ∧
      (u.tract (n / 16)).snapEnds = (upTo 8).map (fun k => s.now + min 8 (reach.getD k 8)) ∧
      (u.tract (n / 16)).lockEnd = s.now + 16 ∧ (u.tract (n / 16)).snapPause = some (s.now + 17) ∧
      u.gatePause (n / 16) = true ∧ (u.stn n).tripped = true ∧ (∀ k, k ≠ n.val → u.stn k = s.stn k) ∧
      u.get (fSTN_SNAP_CNT_COUNT (n / 16)) = min (2 ^ 32 - 1) (s.get (fSTN_SNAP_CNT_COUNT (n / 16)) + 1) ∧
      (∀ k, k ≠ n.val / 16 → u.tract k = s.tract k) ∧
      OnlyEvents { s with stns := u.stns, tracts := u.tracts } u ([STN_SNAP_CNT (n / 16)] ++ (cellsIn (n / 16)).map CEL_CSTAT ++ eventRegs 4) := by
  obtain ⟨hbare, hregs, hstns, hcount, p, w, b, htract⟩ := snap_spec (s.noteTrip n true) (t := n / 16) (by omega) reach
  have hstart (c ph x : Nat) : (s.noteTrip n true).snapStart c ph x = s.snapStart c ph x := snapStart_congr (reading_noteTrip s n true) c ph x
  have hat := htract (n / 16)
  rw [if_pos rfl] at hat
  have hstn (k : Nat) : ((s.noteTrip n true).snap (n / 16) reach).stn k = (s.noteTrip n true).stn k := by rw [State.stn, hstns, State.stn]
  refine ⟨_, by rw [exec_snap, if_pos (by simp [harm, hlock, hrun])], ?_⟩
  generalize (s.noteTrip n true).snap (n / 16) reach = u at *
  refine ⟨?_, ?_, ?_, ?_, ?_, ?_, ?_, fun k hk => ?_, hcount, fun k hk => ?_, onlyEvents_tracts hbare hregs⟩
  · rw [hat]
    exact List.map_congr_left fun k _ => hstart _ _ _
  · rw [hat]
    rfl
  · rw [hat]
    rfl
  · rw [hat]
    rfl
  · rw [hat]
    rfl
  · simp [State.gatePause, State.eventPause, hat, TractHid.snapped]
  · rw [hstn, stn_noteTrip, if_pos rfl]
  · rw [hstn, stn_noteTrip, if_neg hk]
  · rw [htract k, if_neg hk]
    rfl

theorem snap_noted (n : Fin 1024) (reach : List Nat) (h : s.armed n = false ∨ s.now < (s.tract (n / 16)).lockEnd ∨ s.stopped (n / 16) = true) :
    exec (.snap ⟨n, reach⟩) s = .next (s.updStn n fun h => { h with tripped := true }) := by
  rw [exec_snap, if_neg]
  · rfl
  · rcases h with h | h | h <;> simp [h]

theorem snapLockoutEnd_snaps (t : Fin 64) (m : BitVec 16) (reach : List Nat) (hpos : 0 < (s.tract t).lockEnd) (hlock : (s.tract t).lockEnd ≤ s.now)
    (hpause : (s.tract t).snapPause.isSome = true) (hagain : ∃ k, k < 16 ∧ bitN m.toNat k = true ∧ s.armed (16 * t + k) = true)
    (hrun : s.stopped t = false) : Runs (.snapLockoutEnd t ⟨m, reach⟩) s fun u =>
        (u.tract t).snapEnds = (upTo 8).map (fun k => s.now + min 8 (reach.getD k 8)) ∧
        (u.tract t).lockEnd = s.now + 16 ∧ (u.tract t).snapPause = some (s.now + 17) ∧
        u.get (fSTN_SNAP_CNT_COUNT t) = min (2 ^ 32 - 1) (s.get (fSTN_SNAP_CNT_COUNT t) + 1) ∧
        (∀ k, k < 16 → u.stn (16 * t + k) = { s.stn (16 * t + k) with tripped := bitN m.toNat k }) ∧ (∀ k, k ≠ t.val → u.tract k = s.tract k) ∧
        OnlyEvents { s with stns := u.stns, tracts := u.tracts } u ([STN_SNAP_CNT t] ++ (cellsIn t).map CEL_CSTAT ++ eventRegs 4) := by
  obtain ⟨k, hk, hbit, harm⟩ := hagain
  have hany : ((upTo 16).any fun k => bitN m.toNat k && s.armed (16 * t + k)) = true :=
    List.any_eq_true.mpr ⟨k, mem_upTo.mpr hk, by simp [hbit, harm]⟩
  obtain ⟨w, hw⟩ := noteTrips_eq s t m.toNat
  obtain ⟨hstn, -⟩ := stn_noteTrips s t m.toNat
  refine ⟨_, by rw [exec_snapLockoutEnd, if_pos (by simp [hpos, hlock, hpause]), if_pos (by simp [hany, hrun])], ?_⟩
  rw [hw] at hstn ⊢
  obtain ⟨hbare, hregs, hstns, hcount, p, q, b, htract⟩ := snap_spec { s with stns := w } t.isLt reach
  have hat := htract t
  rw [if_pos rfl] at hat
  generalize ({ s with stns := w } : State).snap t reach = u at *
  refine ⟨?_, ?_, ?_, hcount, fun k hk => ?_, fun k hk => ?_, onlyEvents_tracts hbare hregs⟩
  · rw [hat]
    rfl
  · rw [hat]
    rfl
  · rw [hat]
    rfl
  · rw [State.stn, hstns]
    exact hstn k hk
  · rw [htract k, if_neg hk]
    rfl

theorem snapLockoutEnd_rests (t : Fin 64) (m : BitVec 16) (reach : List Nat) (hpos : 0 < (s.tract t).lockEnd) (hlock : (s.tract t).lockEnd ≤ s.now)
    (hpause : (s.tract t).snapPause.isSome = true) (hnone : ∀ k, k < 16 → bitN m.toNat k = true → s.armed (16 * t + k) = false) :
    Runs (.snapLockoutEnd t ⟨m, reach⟩) s fun u =>
        u = { s with stns := u.stns } ∧ (∀ k, k < 16 → u.stn (16 * t + k) = { s.stn (16 * t + k) with tripped := bitN m.toNat k }) ∧
        ∀ k, k / 16 ≠ t.val → u.stn k = s.stn k := by
  have hany : ((upTo 16).any fun k => bitN m.toNat k && s.armed (16 * t + k)) = false :=
    List.any_eq_false.mpr fun k hk => by
      have := hnone k (mem_upTo.mp hk)
      cases hb : bitN m.toNat k <;> simp_all
  refine ⟨_, by rw [exec_snapLockoutEnd, if_pos (by simp [hpos, hlock, hpause]), if_neg (by simp [hany])], ?_, stn_noteTrips s t m.toNat⟩
  obtain ⟨w, hw⟩ := noteTrips_eq s t m.toNat
  rw [hw]

theorem snapPauseEnd_ends (t : Fin 64) {e : Nat} (hpause : (s.tract t).snapPause = some e) (he : e ≤ s.now) :
    exec (.snapPauseEnd t) s = .next (s.updTract t fun h => { h with snapPause := none }) := by
  change execSnapPauseEnd t s = _
  rw [execSnapPauseEnd, hpause]
  exact congrArg _ (if_pos he)

end Sys2Proof.Machine
end

section

open Sys2Proof Sys2Proof.Machine

/-- Settles O35: what a snap changes lies outside what its instants rest on, and a trip that starts none is noted alone (R127-R130). -/
theorem snap : Obligations.Snap := by
  unfold Obligations.Snap
  intro s n t m reach
  exact ⟨snap_runs n reach, snap_noted n reach, fun hpos hlock hpause => ⟨snapLockoutEnd_snaps t m reach hpos hlock hpause,
    snapLockoutEnd_rests t m reach hpos hlock hpause⟩, fun e hpause he => snapPauseEnd_ends t hpause he⟩

end

section
/-!
SUPPORT. What the movement of a domain leaves alone beyond what holds while the clocks run: outside a list of registers nothing, of the
cells all but mode and target, of a cell in hiccup or latched its mode too (R133, R137, R293, R297).
-/

namespace Sys2Proof.Machine

variable {s t u : State}

/-- The registers of which the block has one that the movement of a domain may change. -/
def movedSingles : List Nat := [PST_STATE, MON_ACTIVE, IBS_TGT, IBS_STATE, BLK_TRST, ADC_STATE, ADC_SSTAT 0, ADC_SSTAT 1]

/-- The registers that the movement of a domain may change, but for that of its state. -/
def movedRegs : List Nat :=
  eventRegs 6 ++ eventRegs 11 ++ movedSingles ++
    (upTo 256).map CEL_CSTAT ++ (upTo 32).map SO_DLIFT ++ (upTo 64).map TRC_TSTAT ++ (upTo 16).map IBS_PSTAT

/-- A domain without the note of whether its lift is clipped. -/
def DomHid.sansClip (h : DomHid) : DomHid := { h with clip := false }

/-- A cell without the cadence of its code steps. -/
def CellHid.sansCadence (h : CellHid) : CellHid := { h with stepDue := 0, rampSteps := 0 }

theorem cell_updCell (s : State) (c k : Nat) (f : CellHid → CellHid) : (s.updCell c f).cell k = if k = c then f (s.cell c) else s.cell k :=
  tblGet_set _ _ _ _ _

/-- What the movement of a domain keeps. -/
structure Moves (s t : State) : Prop where
  regs : SameRegs s t movedRegs
  retry : ∀ c, c < 256 → t.get (fCEL_CSTAT_RETRY c) = s.get (fCEL_CSTAT_RETRY c)
  cause : ∀ c, c < 256 → t.get (fCEL_CSTAT_CAUSE c) = s.get (fCEL_CSTAT_CAUSE c)
  present : ∀ c, c < 256 → t.get (fCEL_CSTAT_PRESENT c) = s.get (fCEL_CSTAT_PRESENT c)
  done : ∀ c, c < 256 → t.get (fCEL_CSTAT_SS_DONE c) = s.get (fCEL_CSTAT_SS_DONE c)
  stuck : ∀ c, c < 256 → 6 ≤ s.mode c → t.mode c = s.mode c
  doms : ∀ d, (t.dom d).sansClip = (s.dom d).sansClip
  cells : ∀ c, (t.cell c).sansCadence = (s.cell c).sansCadence

theorem Moves.refl (s : State) : Moves s s :=
  ⟨.refl s _, fun _ _ => rfl, fun _ _ => rfl, fun _ _ => rfl, fun _ _ => rfl, fun _ _ _ => rfl, fun _ => rfl, fun _ => rfl⟩

theorem Moves.trans (h : Moves s t) (k : Moves t u) : Moves s u where
  regs := h.regs.trans k.regs
  retry c hc := (k.retry c hc).trans (h.retry c hc)
  cause c hc := (k.cause c hc).trans (h.cause c hc)
  present c hc := (k.present c hc).trans (h.present c hc)
  done c hc := (k.done c hc).trans (h.done c hc)
  stuck c hc hm := (k.stuck c hc (by rw [h.stuck c hc hm]; exact hm)).trans (h.stuck c hc hm)
  doms d := (k.doms d).trans (h.doms d)
  cells c := (k.cells c).trans (h.cells c)

theorem Moves.ite {c : Prop} [Decidable c] (h : Moves s t) (k : Moves s u) : Moves s (if c then t else u) := by
  split
  · exact h
  · exact k

theorem Moves.foldl {α : Type} {f : State → α → State} (l : List α) (h : Moves s t) (hf : ∀ u, ∀ a ∈ l, Moves u (f u a)) :
    Moves s (l.foldl f t) := by
  induction l generalizing t with
  | nil => exact h
  | cons a l ih => exact ih (h.trans (hf t a List.mem_cons_self)) fun u b hb => hf u b (List.mem_cons_of_mem _ hb)

/-- A change that leaves the registers of cells, the cells and the domains. -/
theorem Moves.of (hr : SameRegs s t movedRegs) (hc : ∀ c, c < 256 → t.reg (CEL_CSTAT c) = s.reg (CEL_CSTAT c))
    (hd : t.doms = s.doms) (hcl : t.cells = s.cells) : Moves s t :=
  ⟨hr, fun c h => get_of_reg _ (hc c h), fun c h => get_of_reg _ (hc c h), fun c h => get_of_reg _ (hc c h), fun c h => get_of_reg _ (hc c h),
    fun c h _ => get_of_reg (fCEL_CSTAT_MODE c) (hc c h), fun d => by rw [State.dom, State.dom, hd], fun c => by rw [State.cell, State.cell, hcl]⟩

theorem Moves.data (h : Moves s t) (hr : u.regs = t.regs := by rfl) (hd : u.doms = t.doms := by rfl) (hc : u.cells = t.cells := by rfl) : Moves s u :=
  h.trans (.of ((SameRegs.refl t _).ofRegs hr) (fun c _ => by rw [State.reg, State.reg, hr]) hd hc)

/-- A register that is moved, but none of a cell. -/
def movedReg (o : Nat) : Prop := o ∈ movedRegs ∧ ∀ c, c < 256 → CEL_CSTAT c ≠ o

theorem Moves.setReg (h : Moves s t) {o : Nat} (v : Word) (ho : movedReg o) : Moves s (t.setReg o v) :=
  h.trans (.of ((SameRegs.refl t _).setReg v ho.1) (fun c hc => reg_setReg_ne _ _ _ _ (ho.2 c hc)) rfl rfl)

theorem Moves.put (h : Moves s t) {f : Fld} (n : Nat) (ho : movedReg f.off) : Moves s (t.put f n) := h.setReg _ ho
theorem Moves.putB (h : Moves s t) {f : Fld} (b : Bool) (ho : movedReg f.off) : Moves s (t.putB f b) := h.setReg _ ho

theorem apart_celCstat {b c : Nat} (hb : b ∈ [6, 11]) (hc : c < 256) : CEL_CSTAT c ∉ eventRegs b := by
  have hbase : blockBase b < 0x10000 ∨ 0x12000 < blockBase b := by
    revert hb; revert b; decide
  refine apart_eventRegs ?_ ?_ ?_ ?_ <;> unfold CEL_CSTAT <;> omega

theorem eventRegs_subset_movedRegs {b : Nat} (hb : b ∈ [6, 11]) : eventRegs b ⊆ movedRegs := by
  intro o ho
  simp only [List.mem_cons, List.not_mem_nil, or_false] at hb
  unfold movedRegs
  rcases hb with rfl | rfl <;> simp only [List.mem_append, ho, true_or, or_true]

theorem Moves.raiseD (h : Moves s t) {e : Ev} (i d : Nat) (he : e.block ∈ [6, 11]) : Moves s (t.raiseD e i d) :=
  h.trans (.of ((sameRegs_raiseD t e i d).mono (eventRegs_subset_movedRegs he)) (fun _ hc => reg_raiseD _ _ _ _ _ (apart_celCstat he hc))
    (State.raiseD_doms _ _ _ _) (State.raiseD_cells _ _ _ _))

theorem Moves.raiseIf (h : Moves s t) (c : Bool) {e : Ev} (i : Nat) (he : e.block ∈ [6, 11]) : Moves s (t.raiseIf c e i) := by
  unfold State.raiseIf
  split
  · exact h.raiseD i _ he
  · exact h

theorem Moves.updDom (h : Moves s t) (d : Nat) {f : DomHid → DomHid} (hf : ∀ x, (f x).sansClip = x.sansClip) :
    Moves s (t.updDom d f) := by
  refine h.trans ⟨(SameRegs.refl t _).ofRegs rfl, fun _ _ => rfl, fun _ _ => rfl, fun _ _ => rfl, fun _ _ => rfl, fun _ _ _ => rfl, fun k => ?_, fun _ => rfl⟩
  have hdom : (t.updDom d f).dom k = if k = d then f (t.dom d) else t.dom k := tblGet_set _ _ _ _ _
  rw [hdom]
  split
  · next hk => rw [hf, hk]
  · rfl

theorem Moves.updTract (h : Moves s t) (k : Nat) (f : TractHid → TractHid) : Moves s (t.updTract k f) := h.data
theorem Moves.updIb (h : Moves s t) (f : IbHid → IbHid) : Moves s (t.updIb f) := h.data

theorem Moves.updConv (h : Moves s t) (k : Nat) (f : ConvHid → ConvHid) : Moves s (t.updConv k f) := h.data
theorem Moves.updAdc (h : Moves s t) (f : AdcHid → AdcHid) : Moves s (t.updAdc f) := h.data

theorem movedReg_single : ∀ o ∈ movedSingles, movedReg o := by
  intro o ho
  refine ⟨by unfold movedRegs; simp only [List.mem_append, ho, true_or, or_true], fun c hc h => ?_⟩
  simp only [movedSingles, List.mem_cons, List.not_mem_nil, or_false] at ho
  unfold CEL_CSTAT PST_STATE MON_ACTIVE IBS_TGT IBS_STATE BLK_TRST ADC_STATE ADC_SSTAT at *
  omega

theorem Moves.putSingle (h : Moves s t) (f : Fld) (n : Nat) (ho : f.off ∈ movedSingles) : Moves s (t.put f n) := h.put n (movedReg_single _ ho)
theorem Moves.putBSingle (h : Moves s t) (f : Fld) (b : Bool) (ho : f.off ∈ movedSingles) : Moves s (t.putB f b) := h.putB b (movedReg_single _ ho)

theorem mem_movedRegs_celCstat {c : Nat} (hc : c < 256) : CEL_CSTAT c ∈ movedRegs := by
  unfold movedRegs
  simp only [List.mem_append, List.mem_map_of_mem (mem_upTo.mpr hc), true_or, or_true]

theorem movedReg_soDlift {d : Nat} (hd : d < 32) : movedReg (SO_DLIFT d) :=
  ⟨by unfold movedRegs; simp only [List.mem_append, List.mem_map_of_mem (mem_upTo.mpr hd), true_or, or_true],
    fun c hc => by unfold CEL_CSTAT SO_DLIFT; omega⟩

theorem movedReg_trcTstat {k : Nat} (hk : k < 64) : movedReg (TRC_TSTAT k) :=
  ⟨by unfold movedRegs; simp only [List.mem_append, List.mem_map_of_mem (mem_upTo.mpr hk), true_or, or_true],
    fun c hc => by unfold CEL_CSTAT TRC_TSTAT; omega⟩

theorem movedReg_ibsPstat {p : Nat} (hp : p < 16) : movedReg (IBS_PSTAT p) :=
  ⟨by unfold movedRegs; simp only [List.mem_append, List.mem_map_of_mem (mem_upTo.mpr hp), true_or, or_true],
    fun c hc => by unfold CEL_CSTAT IBS_PSTAT; omega⟩

/-! ### Cells -/

theorem reg_putCstat_ne (s : State) {c k : Nat} (f : Fld) (n : Nat) (hf : f.off = CEL_CSTAT c) (h : k ≠ c) : (s.put f n).reg (CEL_CSTAT k) = s.reg (CEL_CSTAT k) :=
  reg_setReg_ne _ _ _ _ (by rw [hf]; unfold CEL_CSTAT; omega)

theorem moves_setMode (s : State) {c : Nat} (m : Nat) (hc : c < 256) (hm : 6 ≤ s.mode c → s.mode c = 7) : Moves s (s.setMode c m) := by
  unfold State.setMode
  split
  · exact .refl s
  · next h7 =>
    have hput (n k : Nat) (f : Fld) (hf : f.off = CEL_CSTAT k) (ha : f.lo + f.width ≤ 29) :
        (s.put (fCEL_CSTAT_MODE c) n).get f = s.get f := by
      by_cases hk : k = c
      · exact get_put_apart _ _ _ _ (by rw [hf, hk]) (.inl ha)
      · exact get_of_reg _ (by rw [hf]; exact reg_putCstat_ne s _ _ rfl hk)
    refine ⟨(SameRegs.refl s _).put _ (mem_movedRegs_celCstat hc), fun k _ => hput _ k _ rfl (by simp), fun k _ => hput _ k _ rfl (by simp),
      fun k _ => hput _ k _ rfl (by simp), fun k _ => hput _ k _ rfl (by simp), fun k _ hk => ?_, fun _ => rfl, fun _ => rfl⟩
    by_cases hkc : k = c
    · exact absurd (hm (hkc ▸ hk)) h7
    · exact get_of_reg (fCEL_CSTAT_MODE k) (reg_putCstat_ne s _ _ rfl hkc)

theorem moves_putTarget (s : State) {c : Nat} (n : Nat) (hc : c < 256) : Moves s (s.put (fCEL_CSTAT_TARGET c) n) := by
  have hput (k : Nat) (f : Fld) (hf : f.off = CEL_CSTAT k) (ha : 10 ≤ f.lo) : (s.put (fCEL_CSTAT_TARGET c) n).get f = s.get f := by
    by_cases hk : k = c
    · exact get_put_apart _ _ _ _ (by rw [hf, hk]) (.inr ha)
    · exact get_of_reg _ (by rw [hf]; exact reg_putCstat_ne s _ _ rfl hk)
  exact ⟨(SameRegs.refl s _).put _ (mem_movedRegs_celCstat hc), fun k _ => hput k _ rfl (by simp), fun k _ => hput k _ rfl (by simp),
    fun k _ => hput k _ rfl (by simp), fun k _ => hput k _ rfl (by simp), fun k _ _ => hput k (fCEL_CSTAT_MODE k) rfl (by simp), fun _ => rfl, fun _ => rfl⟩

theorem moves_recadence (s : State) (iv c : Nat) : Moves s (s.recadence iv c) := by
  refine ⟨(SameRegs.refl s _).ofRegs rfl, fun _ _ => rfl, fun _ _ => rfl, fun _ _ => rfl, fun _ _ => rfl, fun _ _ _ => rfl, fun _ => rfl, fun k => ?_⟩
  unfold State.recadence
  rw [cell_updCell]
  split
  · next hk =>
    rw [hk]
    rfl
  · rfl

theorem moves_aim (s : State) (iv code : Nat) {c : Nat} (hc : c < 256) : Moves s (s.aim iv code c) := by
  unfold State.aim
  exact .trans (.ite (moves_recadence s iv c) (.refl s)) (moves_putTarget _ _ hc)

theorem moves_retarget (s : State) (d : Nat) : Moves s (s.retarget d) := by
  unfold State.retarget
  exact .ite (.foldl _ (.refl s) fun u c hc => moves_aim u _ _ (cell_lt_of_mem_cellsOf hc)) (.refl s)

theorem moves_relift (s : State) {d : Nat} (idx data : Nat) (hd : d < 32) : Moves s (s.relift d idx data) := by
  unfold State.relift
  extract_lets l sum lim clip s1 s2
  have h1 : Moves s s1 := ((Moves.refl s).put _ (movedReg_soDlift hd)).put _ (movedReg_soDlift hd)
  have h2 : Moves s s2 := .ite (h1.raiseD (e := evSO_LIFT_CLIP) idx data (by decide)) h1
  exact .trans (.ite h2 (h2.updDom d (by intros; rfl))) (moves_retarget _ d)

/-! ### The entry to Run, and the stop of the clocks -/

theorem moves_setAon (s : State) (n : Nat) : Moves s (s.setAon n) := by
  have h1 : Moves s { s.put fPST_STATE_STATE n with pins := { s.pins with pulseDue := s.pulseEnd n } } :=
    ((Moves.refl s).putSingle fPST_STATE_STATE _ (by decide)).data
  unfold State.setAon
  exact (h1.putSingle fMON_ACTIVE_ACT _ (by decide)).data

theorem moves_setRef (s : State) (uv : Nat) : Moves s (s.setRef uv) :=
  ((Moves.refl s).updIb _).putSingle fIBS_TGT_REF _ (by decide)

theorem moves_moveRef (s : State) : Moves s s.moveRef := by
  unfold State.moveRef
  exact ((Moves.refl s).updIb _).ite (((moves_setRef s _).updIb _).ite (moves_setRef s _))

theorem moves_setIbTarget (s : State) (code : Nat) : Moves s (s.setIbTarget code) := by
  unfold State.setIbTarget
  exact ((((Moves.refl s).ite (moves_moveRef s)).putSingle fIBS_TGT_TARGET _ (by decide)).updIb _).raiseIf _ _ (by decide)

theorem moves_applyVsel (s : State) (v : Nat) : Moves s (s.applyVsel v) := by
  unfold State.applyVsel
  exact .ite (((Moves.refl s).updIb _).trans (moves_setIbTarget _ _)) ((Moves.refl s).updIb _)

theorem moves_changeVsel (s : State) (v : Nat) : Moves s (s.changeVsel v) := by
  have h : Moves s ((s.applyVsel v).putB fIBS_STATE_DWELL false) := (moves_applyVsel s v).putBSingle fIBS_STATE_DWELL _ (by decide)
  unfold State.changeVsel
  exact h.ite (h.updIb _)

theorem moves_offerVsel (s : State) : Moves s s.offerVsel := by
  unfold State.offerVsel
  exact .ite (.refl s) ((moves_changeVsel s _).ite ((Moves.refl s).putBSingle fIBS_STATE_DWELL _ (by decide)))

theorem moves_enterRun (s : State) : Moves s s.enterRun :=
  (moves_setAon s 0).trans (Moves.trans (Moves.refl _).data (moves_offerVsel _))

theorem moves_checkRun (s : State) : Moves s s.checkRun := by
  unfold State.checkRun
  exact .ite (moves_enterRun s).data (.refl s)

theorem moves_idleLoop (s : State) {k : Nat} (hk : k < 64) : Moves s (s.idleLoop k) := by
  unfold State.idleLoop
  exact .ite (.refl s) (((Moves.ite ((Moves.refl s).putBSingle fBLK_TRST_BUSY _ (by decide)) (.refl s)).put _ (movedReg_trcTstat hk)).updTract _ _)

theorem moves_idleLoops (s : State) (d : Nat) : Moves s (s.idleLoops d) :=
  (Moves.refl s).foldl _ fun u _ ht => moves_idleLoop u (tract_lt_of_mem_tractsOf ht)

theorem moves_judgePulse (s : State) (k : Nat) : Moves s (s.judgePulse k) := by
  unfold State.judgePulse State.setPulse
  exact (Moves.refl s).updTract k _

theorem moves_originate (s : State) (l ty body : Nat) : Moves s (s.originate l ty body) :=
  (Moves.refl s).data (regs_originate s l ty body) (State.originate_doms _ _ _ _) (State.originate_cells _ _ _ _)

theorem moves_ibHysteretic (s : State) : Moves s s.ibHysteretic := by
  have h : Moves s (s.setIbMode 2) :=
    (((Moves.refl s).putSingle fIBS_STATE_MODE _ (by decide)).putBSingle fIBS_STATE_DE _ (by decide)).updIb _
  unfold State.ibHysteretic State.hysModes
  refine h.foldl _ fun u p hp => ?_
  have hset (m : Nat) : Moves u (u.setP p m) := (Moves.refl u).put _ (movedReg_ibsPstat (mem_upTo.mp hp))
  exact .ite (.refl u) (.ite (hset 2) (.ite (.refl u) (hset 3)))

theorem moves_adcStop (s : State) : Moves s s.adcStop := by
  unfold State.adcStop
  exact (((((((Moves.refl s).putBSingle fADC_STATE_BM_RDY _ (by decide)).putBSingle fADC_STATE_ALT_RDY _ (by decide)).putSingle ⟨ADC_SSTAT 0, 0, 8⟩ _
    (by decide)).updConv _ _).putSingle ⟨ADC_SSTAT 1, 0, 8⟩ _ (by decide)).updConv _ _).updAdc _

theorem Moves.clocksStopped (h : Moves s t) (c : ClkHid) (e : EnvHid) (p : PstHid) : Moves s { t with clk := c, env := e, pst := p } := h.data

/-- A field holds no more than its width can. -/
theorem get_lt_pow (s : State) (f : Fld) : s.get f < 2 ^ f.width := Nat.mod_lt _ (Nat.two_pow_pos _)

theorem moves_stopClocks (s : State) : Moves s s.stopClocks := by
  unfold State.stopClocks
  extract_lets hyst s0 s1 s2
  have h1 : Moves s s1 := by
    refine (moves_originate s _ _ _).foldl _ fun u d _ => .ite (.foldl _ (.refl u) fun v k hk => ?_) (.refl u)
    have hlt := tract_lt_of_mem_tractsOf hk
    refine .trans (.trans (Moves.updTract ?_ _ _) (moves_judgePulse _ _)) (moves_idleLoop _ hlt)
    refine .foldl _ (.refl v) fun w c hc => ?_
    split
    · exact .refl w
    · next h6 =>
      have hlt8 : w.mode c < 2 ^ 3 := get_lt_pow w (fCEL_CSTAT_MODE c)
      exact moves_setMode w _ (cell_lt_of_mem_cellsIn hlt hc) (by omega)
  have h2 : Moves s s2 := .ite (h1.trans (moves_ibHysteretic s1)) h1
  exact (h2.trans (moves_adcStop s2)).clocksStopped _ _ _

theorem moves_checkEntry (s : State) : Moves s s.checkEntry := by
  unfold State.checkEntry
  exact .ite (.ite (Moves.refl s).data (moves_stopClocks s)) (.refl s)

theorem moves_domMoved (s : State) {d : Nat} (hd : d < 32) : Moves s (s.domMoved d) :=
  ((moves_relift s _ _ hd).trans (moves_checkRun _)).trans (moves_checkEntry _)

/-! ### What the list of moved registers leaves out -/

/-- The registers of cells as a whole, and those of domains, are not moved, the state of a domain among them. -/
theorem not_moved_of {o : Nat} (ho : (0x10000 ≤ o ∧ o < 0x11000) ∨ (0x40010 ≤ o ∧ o < 0x48000)) : o ∉ movedRegs := by
  unfold movedRegs
  simp only [List.mem_append, List.mem_map, mem_upTo, not_or, not_exists, not_and]
  refine ⟨⟨⟨⟨⟨⟨apart_eventRegs ?_ ?_ ?_ ?_, apart_eventRegs ?_ ?_ ?_ ?_⟩, ?_⟩, ?_⟩, ?_⟩, ?_⟩, ?_⟩
  · simp only [blockBase]; omega
  · simp only [blockBase]; omega
  · omega
  · omega
  · simp only [blockBase]; omega
  · simp only [blockBase]; omega
  · omega
  · omega
  · simp only [movedSingles, PST_STATE, MON_ACTIVE, IBS_TGT, IBS_STATE, BLK_TRST, ADC_STATE, ADC_SSTAT, List.mem_cons, List.not_mem_nil, or_false]
    omega
  · exact fun c _ => by unfold CEL_CSTAT; omega
  · exact fun c _ => by unfold SO_DLIFT; omega
  · exact fun c _ => by unfold TRC_TSTAT; omega
  · exact fun c _ => by unfold IBS_PSTAT; omega

theorem not_moved_of_cel {o : Nat} (hlo : 0x10000 ≤ o) (hhi : o < 0x11000) : o ∉ movedRegs := not_moved_of (.inl ⟨hlo, hhi⟩)
theorem not_moved_of_dom {o : Nat} (hlo : 0x40010 ≤ o) (hhi : o < 0x48000) : o ∉ movedRegs := not_moved_of (.inr ⟨hlo, hhi⟩)

theorem domDstat_not_moved {d : Nat} (hd : d < 32) : DOM_DSTAT d ∉ movedRegs := not_moved_of_dom (by unfold DOM_DSTAT; omega) (by unfold DOM_DSTAT; omega)

theorem domMap_not_moved {k : Nat} (hk : k < 64) : DOM_MAP k ∉ movedRegs := not_moved_of_dom (by unfold DOM_MAP; omega) (by unfold DOM_MAP; omega)

/-- The tracts of a domain are those that the map names. -/
theorem tractsOf_congr {d : Nat} (h : ∀ k, k < 64 → t.reg (DOM_MAP k) = s.reg (DOM_MAP k)) : t.tractsOf d = s.tractsOf d := by
  unfold State.tractsOf
  refine List.filter_congr fun k hk => ?_
  rw [State.domOf, get_of_reg (fDOM_MAP_DOM k) (h k (mem_upTo.mp hk)), State.domOf]

theorem domState_congr_of_lt {d : Nat} (h : ∀ k, k < 64 → t.reg (DOM_MAP k) = s.reg (DOM_MAP k)) (hd : d < 32 → t.reg (DOM_DSTAT d) = s.reg (DOM_DSTAT d)) :
    t.domState d = s.domState d := by
  unfold State.domState
  rw [tractsOf_congr h]
  by_cases hlt : d < 32
  · rw [get_of_reg (fDOM_DSTAT_STATE d) (hd hlt)]
  · simp [show 32 ≤ d by omega]

theorem Moves.domState (h : Moves s t) (d : Nat) : t.domState d = s.domState d :=
  domState_congr_of_lt (fun _ hk => h.regs _ (domMap_not_moved hk)) fun hlt => h.regs _ (domDstat_not_moved hlt)

end Sys2Proof.Machine
end

section
/-!
SUPPORT. The state after a command, for refutations by a state that the model evaluates.
-/

namespace Sys2Proof.Machine

/-- The state after a command, or the state before it where the command has none. -/
def stateAfter (c : Instr) (s : State) : State :=
  match exec c s with
  | .next t => t
  | _ => s

theorem Runs.after {c : Instr} {s : State} {post : State → Prop} (h : Runs c s post) : post (stateAfter c s) := by
  obtain ⟨t, ht, hpost⟩ := h
  rw [stateAfter, ht]
  exact hpost

end Sys2Proof.Machine
end

section
/-!
SETTLED. The statement on shorts and hiccup (O36).
-/
open Sys2Proof Sys2Proof.Machine

/-- A block in Sleep with its clocks stopped, whose domain 0 reads On while its soft start waits, and whose cell 0 is in a hiccup that
is over. -/
def hiccupAsleep : State :=
  { ((((({} : State).put (fCEL_CSTAT_MODE 0) 6).put (fDOM_MAP_DOM 0) 0).put (fDOM_DSTAT_STATE 0) 4).put (fTRC_TSTAT_STATE 0) 5).put fPST_STATE_STATE 2 with
    doms := [(0, { phase := .startDelay })], cells := [(0, { hiccupDue := some 0 })] }

/-- Refutes O36: a cell whose hiccup ends while its domain reads On in Sleep, the soft start of the domain being in its delay, takes
part in that soft start and does not rejoin, though it could be driven. -/
theorem not_hiccup : ¬ Obligations.Hiccup := by
  unfold Obligations.Hiccup
  intro h
  obtain ⟨-, -, -, -, hcell, -⟩ := h hiccupAsleep 0 0
  have hdue : (hiccupAsleep.cell 0).hiccupDue = some 0 := by decide +kernel
  have hmode : hiccupAsleep.mode 0 = 6 := by decide +kernel
  have hphase : (hiccupAsleep.dom (hiccupAsleep.domOf (0 / 4))).phase ≠ .hiccup := by decide +kernel
  obtain ⟨-, -, -, -, hrejoin, -⟩ := (hcell 0 hphase hdue (Nat.le_refl 0) hmode).after
  have hon : hiccupAsleep.isOn (hiccupAsleep.domOf (0 / 4)) = true := by decide +kernel
  have hdrivable : hiccupAsleep.drivable 0 = true := by decide +kernel
  have hstays : ((stateAfter (.hiccupEnd 0) hiccupAsleep).cell 0).rejoin = false := by decide +kernel
  have hcontra := hrejoin (.inr hon)
  rw [show ((0 : Fin 256) : Nat) = 0 from rfl, hstays, hdrivable] at hcontra
  exact Bool.noConfusion hcontra

end

section
/-!
SUPPORT. The step of one index in a fold, what a lost cell leaves (R131, R133, R140), and the shares of a tract (R102 to R107).
-/

namespace Sys2Proof.Machine

variable {s t u : State}

/-- What only the step of one index changes, a fold over indexes without repetition has from that step, taken in a state that the steps
before it have led to. -/
theorem foldl_at {α β γ : Type} (g : α → γ) {I : α → Prop} {f : α → β → α} {l : List β} {b : β} (hn : l.Nodup) (hb : b ∈ l)
    (h : ∀ a, ∀ c ∈ l, c ≠ b → g (f a c) = g a) (hI : ∀ a, ∀ c ∈ l, I a → I (f a c)) {a : α} (ha : I a) :
    ∃ a', I a' ∧ g a' = g a ∧ g (l.foldl f a) = g (f a' b) := by
  induction l generalizing a with
  | nil => exact absurd hb List.not_mem_nil
  | cons c l ih =>
    obtain ⟨hnot, hn⟩ := List.nodup_cons.mp hn
    have hl := fun a d (hd : d ∈ l) => h a d (List.mem_cons_of_mem _ hd)
    by_cases hcb : c = b
    · subst hcb
      exact ⟨a, ha, rfl, foldl_keeps g (fun a d hd => hl a d hd fun he => hnot (he ▸ hd)) _⟩
    · obtain ⟨a', ha', hg, hfold⟩ := ih hn ((List.mem_cons.mp hb).resolve_left (Ne.symm hcb)) hl (fun a d hd => hI a d (List.mem_cons_of_mem _ hd))
        (hI a c List.mem_cons_self ha)
      exact ⟨a', ha', hg.trans (h a c List.mem_cons_self hcb), hfold⟩

theorem foldl_keeps_prop {α β : Type} {I : α → Prop} {f : α → β → α} {l : List β} (h : ∀ a, ∀ b ∈ l, I a → I (f a b)) {a : α} (ha : I a) :
    I (l.foldl f a) := by
  induction l generalizing a with
  | nil => exact ha
  | cons b l ih => exact ih (fun c d hd => h c d (List.mem_cons_of_mem _ hd)) (h a b List.mem_cons_self ha)

theorem mem_cellsIn {k c : Nat} : c ∈ cellsIn k ↔ c / 4 = k := by
  simp only [cellsIn, List.mem_cons, List.not_mem_nil, or_false]
  omega

theorem nodup_cellsIn (k : Nat) : (cellsIn k).Nodup := by
  simp [cellsIn]

theorem mem_healthyIn {k c : Nat} : c ∈ s.healthyIn k ↔ c / 4 = k ∧ s.healthy c = true := by
  rw [State.healthyIn, List.mem_filter, mem_cellsIn]

theorem cell_updCell_same (s : State) (c : Nat) (f : CellHid → CellHid) : (s.updCell c f).cell c = f (s.cell c) := by rw [cell_updCell, if_pos rfl]

theorem cell_updCell_ne (s : State) {c k : Nat} (f : CellHid → CellHid) (h : k ≠ c) : (s.updCell c f).cell k = s.cell k := by
  rw [cell_updCell, if_neg h]

/-! ### What the health of a cell rests on -/

/-- A state without its registers and its cells. -/
def State.unregCells (s : State) : State := { s.unreg with cells := [] }

theorem unregCells_setReg (s : State) (o : Nat) (v : Word) : (s.setReg o v).unregCells = s.unregCells := rfl
theorem unregCells_put (s : State) (f : Fld) (n : Nat) : (s.put f n).unregCells = s.unregCells := rfl
theorem unregCells_putI (s : State) (f : Fld) (x : Int) : (s.putI f x).unregCells = s.unregCells := rfl
theorem unregCells_updCell (s : State) (c : Nat) (f : CellHid → CellHid) : (s.updCell c f).unregCells = s.unregCells := rfl

theorem tract_of_unregCells (h : t.unregCells = s.unregCells) (k : Nat) : t.tract k = s.tract k := by
  have htract := congrArg (fun v : State => v.tract k) h
  exact htract

/-- States that differ in cells, and in the registers that hold the temperatures and shares of cells. -/
structure SharesOnly (s t : State) : Prop where
  regs : SameRegs s t ((upTo 256).map CEL_TEMP)
  rest : t.unregCells = s.unregCells

theorem SharesOnly.refl (s : State) : SharesOnly s s := ⟨.refl _ _, rfl⟩
theorem SharesOnly.trans (h : SharesOnly s t) (k : SharesOnly t u) : SharesOnly s u := ⟨h.regs.trans k.regs, k.rest.trans h.rest⟩

theorem SharesOnly.reg (h : SharesOnly s t) {o : Nat} (ho : ∀ c, c < 256 → CEL_TEMP c ≠ o) : t.reg o = s.reg o :=
  h.regs o (by simpa [mem_upTo] using ho)

theorem SharesOnly.stopped (h : SharesOnly s t) {k : Nat} (hk : k < 64) : t.stopped k = s.stopped k := by
  unfold State.stopped
  rw [tract_of_unregCells h.rest, get_of_reg (fTRC_TSTAT_STATE k) (h.reg fun c hc => by grind)]

theorem SharesOnly.healthy (h : SharesOnly s t) {c : Nat} (hc : c < 256) : t.healthy c = s.healthy c := by
  unfold State.healthy State.alive State.mode
  rw [h.stopped (by omega), on_of_reg (fCEL_CFG_EN c) (h.reg fun k hk => by grind),
    get_of_reg (fCEL_CSTAT_MODE c) (h.reg fun k hk => by grind)]

theorem SharesOnly.onlyRegs (h : SharesOnly s t) : OnlyRegs { s with cells := t.cells } t ((upTo 256).map CEL_TEMP) :=
  onlyRegs_of (congrArg (fun v : State => { v with cells := t.cells }) h.rest) h.regs

theorem sharesOnly_updCell (s : State) (c : Nat) (f : CellHid → CellHid) : SharesOnly s (s.updCell c f) := ⟨.refl _ _, rfl⟩

theorem sharesOnly_putTemp (s : State) {c n : Nat} (f : Fld) (hf : f.off = CEL_TEMP c) (hc : c < 256) : SharesOnly s (s.put f n) :=
  ⟨(SameRegs.refl s _).put _ (by rw [hf]; exact List.mem_map_of_mem (mem_upTo.mpr hc)), rfl⟩

/-! ### Shares -/

/-- A fraction from 0 to 1, replaced by a lesser one that is held to 0. -/
theorem lesser_fraction {p q room grow : Int} (h0 : 0 ≤ p) (hle : p ≤ q) (hpos : 0 < q) :
    let o := if 0 < grow && room * q < p * grow then (max 0 room, grow) else (p, q)
    0 ≤ o.1 ∧ o.1 ≤ o.2 ∧ 0 < o.2 := by
  dsimp only
  split
  · next hc =>
    simp only [Bool.and_eq_true, decide_eq_true_eq] at hc
    obtain ⟨hgrow, hroom⟩ := hc
    have hlt : room * q < grow * q := hroom.trans_le ((Int.mul_le_mul_of_nonneg_right hle hgrow.le).trans_eq (Int.mul_comm _ _))
    exact ⟨Int.le_max_left _ _, Int.max_le.mpr ⟨hgrow.le, (Int.lt_of_mul_lt_mul_right hlt hpos.le).le⟩, hgrow⟩
  · exact ⟨h0, hle, hpos⟩

/-- The factor that reduces shares is a fraction from 0 to 1. -/
theorem shedFactor_bounds (s : State) (hs : List Nat) (shed : Nat → Nat) (i : Int) :
    0 ≤ (s.shedFactor hs shed i).1 ∧ (s.shedFactor hs shed i).1 ≤ (s.shedFactor hs shed i).2 ∧ 0 < (s.shedFactor hs shed i).2 := by
  unfold State.shedFactor
  refine foldl_keeps_prop (I := fun o : Int × Int => 0 ≤ o.1 ∧ o.1 ≤ o.2 ∧ 0 < o.2) (fun o k _ ho => ?_) (by decide)
  obtain ⟨h0, hle, hpos⟩ := ho
  exact lesser_fraction h0 hle hpos

/-- A reduced share is no more than the share. -/
theorem reduceSheds_le (s : State) (hs : List Nat) (shed : Nat → Nat) (i : Int) (c : Nat) : s.reduceSheds hs shed i c ≤ shed c := by
  obtain ⟨h0, hle, hpos⟩ := shedFactor_bounds s hs shed i
  unfold State.reduceSheds
  dsimp only
  have hdiv : (shed c : Int) * (s.shedFactor hs shed i).1 / (s.shedFactor hs shed i).2 ≤ shed c := by
    refine Int.ediv_le_of_le_mul hpos ?_
    exact Int.mul_le_mul_of_nonneg_left hle (by omega)
  unfold natOf
  omega

theorem rawShed_le (s : State) (hs : List Nat) (c : Nat) (h : s.on (fNRG_SMEAS_DERATED c) = false) : s.rawShed hs c ≤ 3072 * s.get fCEL_SHARE_CFG_MAXSHED := by
  unfold State.rawShed State.shedOf natOf
  rw [h]
  simp only [Bool.false_eq_true, if_false]
  omega

/-- The step of one cell in an update of the shares of its tract, which are computed from the state before the update. -/
def State.shareStep (s : State) (k : Nat) (i : Int) (u : State) (c : Nat) : State :=
  let hs := s.healthyIn k
  let shed (c : Nat) := s.reduceSheds hs (s.rawShed hs) i c
  let wt := sumOver hs fun c => 307200 - shed c
  let ok : Bool := hs.contains c
  let u1 := u.putI (fCEL_TEMP_TEST c) (divOpen 7 (s.cellTemp4 c) 4)
  (u1.put (fCEL_TEMP_SHED c) (natOf (divOpen 8 (shed c) 3072))).updCell c fun h =>
    { h with shed := if ok then shed c else 0, target := if ok && 0 < wt then shareTarget (s.ilim c) (i * (307200 - shed c)) wt else 0 }

theorem setShares_eq (s : State) (k : Nat) (i : Int) : s.setShares k i = (cellsIn k).foldl (s.shareStep k i) s := rfl

theorem sharesOnly_shareStep (s : State) (k : Nat) (i : Int) (u : State) {c : Nat} (hc : c < 256) : SharesOnly u (s.shareStep k i u c) := by
  unfold State.shareStep State.putI
  exact .trans (.trans (sharesOnly_putTemp u (fCEL_TEMP_TEST c) rfl hc) (sharesOnly_putTemp _ (fCEL_TEMP_SHED c) rfl hc)) (sharesOnly_updCell _ c _)

theorem SharesOnly.foldl {f : State → Nat → State} {l : List Nat} (hf : ∀ u, ∀ c ∈ l, SharesOnly u (f u c)) : SharesOnly s (l.foldl f s) :=
  foldl_keeps_prop (I := SharesOnly s) (fun u c hc h => h.trans (hf u c hc)) (.refl s)

theorem sharesOnly_setShares (s : State) {k : Nat} (i : Int) (hk : k < 64) : SharesOnly s (s.setShares k i) :=
  .foldl fun u _ hc => sharesOnly_shareStep s k i u (cell_lt_of_mem_cellsIn hk hc)

theorem cell_shareStep_ne (s : State) (k : Nat) (i : Int) (u : State) {c j : Nat} (h : j ≠ c) : (s.shareStep k i u c).cell j = u.cell j :=
  cell_updCell_ne _ _ h

/-- What an update of shares leaves in a cell of the tract. -/
theorem cell_setShares (s : State) {k c : Nat} (i : Int) (hc : c ∈ cellsIn k) :
    (s.setShares k i).cell c = (s.shareStep k i s c).cell c := by
  obtain ⟨u, -, hu, hfold⟩ := foldl_at (fun v : State => v.cell c) (I := fun _ => True) (nodup_cellsIn k) hc
    (fun v j _ hj => cell_shareStep_ne s k i v (Ne.symm hj)) (fun _ _ _ _ => trivial) (a := s) trivial
  rw [setShares_eq]
  refine hfold.trans ?_
  unfold State.shareStep
  dsimp only
  rw [cell_updCell_same, cell_updCell_same]
  rw [show ((u.putI (fCEL_TEMP_TEST c) _).put (fCEL_TEMP_SHED c) _).cell c = u.cell c from rfl, show u.cell c = s.cell c from hu]
  rfl

theorem cell_setShares_ne (s : State) {k c : Nat} (i : Int) (hc : c ∉ cellsIn k) : (s.setShares k i).cell c = s.cell c :=
  foldl_keeps (fun v : State => v.cell c) (fun v j hj => cell_shareStep_ne s k i v fun he => hc (he ▸ hj)) s

/-- What a cell has after an update of shares of its own tract, the shares and sums with what follows from them. -/
def ShareDone (s : State) (c : Nat) (h : CellHid) : Prop :=
  (s.healthy c = false → h.shed = 0 ∧ h.target = 0 ∧ h.trim = 0) ∧
    (s.on (fNRG_SMEAS_DERATED c) = false → h.shed ≤ 3072 * s.get fCEL_SHARE_CFG_MAXSHED) ∧ h.iSum = 0 ∧ h.iCnt = 0

theorem shed_setShares (s : State) {k c : Nat} (i : Int) (hc : c ∈ cellsIn k) :
    ((s.setShares k i).cell c).shed = if s.healthy c then s.reduceSheds (s.healthyIn k) (s.rawShed (s.healthyIn k)) i c else 0 := by
  have hmem : (s.healthyIn k).contains c = s.healthy c := by
    rw [Bool.eq_iff_iff, List.contains_iff_mem, mem_healthyIn, mem_cellsIn.mp hc]
    simp
  rw [cell_setShares s i hc, State.shareStep]
  dsimp only
  rw [cell_updCell_same, hmem]

theorem target_setShares_of_not_healthy (s : State) {k c : Nat} (i : Int) (hc : c ∈ cellsIn k) (h : s.healthy c = false) :
    ((s.setShares k i).cell c).target = 0 := by
  have hmem : (s.healthyIn k).contains c = false := by
    rw [Bool.eq_false_iff, ne_eq, List.contains_iff_mem, mem_healthyIn, h]
    simp
  rw [cell_setShares s i hc, State.shareStep]
  dsimp only
  rw [cell_updCell_same, hmem]
  rfl

theorem setDrive_fields (h : CellHid) (now : Nat) (trim : Int) (cut : Nat) :
    (h.setDrive now trim cut).trim = trim ∧ (h.setDrive now trim cut).shed = h.shed ∧ (h.setDrive now trim cut).target = h.target := by
  unfold CellHid.setDrive
  split
  · next hc => exact ⟨by simp at hc; exact hc.1, rfl, rfl⟩
  · exact ⟨rfl, rfl, rfl⟩

/-- The step of one cell in the update of the trims of its tract. -/
def State.trimStep (s : State) (u : State) (c : Nat) : State :=
  let avg (c : Nat) : Int := let h := s.cell c; if h.iCnt = 0 then 0 else h.iSum / h.iCnt
  let ok : Bool := u.healthy c
  let sat : Bool := ok && (u.cell c).shed = u.get fCEL_SHARE_CFG_MAXSHED * 3072
  u.updCell c fun h =>
    { h.setDrive u.now (if ok then nextTrim h.target (avg c) h.trim else 0) h.cut with
             idleWin := false
             openCond := ok && !h.idleWin && u.mode c ≠ 0 && decide (1000 ≤ h.target) && 0 < h.iCnt && decide (10 * h.iSum < h.target * h.iCnt)
             satSince := if sat then (match h.satSince with | none => some u.now | some a => some a) else none
             satOn := h.satOn && sat
             iSum := 0
             iCnt := 0 }

/-- The sum of the mean currents of the cells of a tract. -/
def State.meanSum (s : State) (k : Nat) : Int :=
  sumOverI (cellsIn k) fun c => let h := s.cell c; if h.iCnt = 0 then 0 else h.iSum / h.iCnt

theorem shareTract_eq (s : State) (k : Nat) : s.shareTract k = (cellsIn k).foldl s.trimStep (s.setShares k (s.meanSum k)) := rfl

theorem sharesOnly_trimStep (s u : State) (c : Nat) : SharesOnly u (s.trimStep u c) := by
  unfold State.trimStep
  exact sharesOnly_updCell u c _

theorem cell_trimStep_ne (s u : State) {c j : Nat} (h : j ≠ c) : (s.trimStep u c).cell j = u.cell j := by
  unfold State.trimStep
  exact cell_updCell_ne u _ h

theorem sharesOnly_shareTract (s : State) {k : Nat} (hk : k < 64) : SharesOnly s (s.shareTract k) :=
  (sharesOnly_setShares s _ hk).trans (.foldl fun u c _ => sharesOnly_trimStep s u c)

theorem cell_shareTract_ne (s : State) {k c : Nat} (hc : c ∉ cellsIn k) : (s.shareTract k).cell c = s.cell c := by
  have hfold := foldl_keeps (fun v : State => v.cell c) (f := s.trimStep) (l := cellsIn k) (fun v j hj => cell_trimStep_ne s v fun he => hc (he ▸ hj))
    (s.setShares k (s.meanSum k))
  rw [shareTract_eq]
  exact hfold.trans (cell_setShares_ne s _ hc)

/-- The update of a tract leaves its cells done. -/
theorem shareDone_shareTract (s : State) {k c : Nat} (hk : k < 64) (hc : c ∈ cellsIn k) : ShareDone s c ((s.shareTract k).cell c) := by
  obtain ⟨u, hu, hcell, hfold⟩ := foldl_at (fun v : State => v.cell c) (I := SharesOnly s) (nodup_cellsIn k) hc
    (f := s.trimStep) (fun v j _ hj => cell_trimStep_ne s v (Ne.symm hj)) (fun v j _ hv => hv.trans (sharesOnly_trimStep s v j))
    (sharesOnly_setShares s (s.meanSum k) hk)
  have hlt := cell_lt_of_mem_cellsIn hk hc
  have hstep : (s.shareTract k).cell c = (s.trimStep u c).cell c := hfold
  rw [hstep, State.trimStep]
  dsimp only
  rw [cell_updCell_same, hu.healthy hlt]
  obtain ⟨htrim, hshed, htarget⟩ := setDrive_fields (u.cell c) u.now (if s.healthy c then nextTrim (u.cell c).target
    (if (s.cell c).iCnt = 0 then 0 else (s.cell c).iSum / (s.cell c).iCnt) (u.cell c).trim else 0) (u.cell c).cut
  have hval : (u.cell c).shed = _ := (congrArg CellHid.shed hcell).trans (shed_setShares s (s.meanSum k) hc)
  refine ⟨fun hbad => ⟨?_, ?_, ?_⟩, fun hder => ?_, rfl, rfl⟩
  · exact hshed.trans (hval.trans (if_neg (by simp [hbad])))
  · exact htarget.trans ((congrArg CellHid.target hcell).trans (target_setShares_of_not_healthy s _ hc hbad))
  · exact htrim.trans (if_neg (by simp [hbad]))
  · refine (hshed.trans hval).trans_le ?_
    split
    · exact (reduceSheds_le _ _ _ _ _).trans (rawShed_le s _ c hder)
    · exact Nat.zero_le _

theorem ShareDone.congr {c : Nat} {h : CellHid} (hs : SharesOnly s t) (hc : c < 256) (hd : ShareDone t c h) : ShareDone s c h := by
  obtain ⟨h1, h2, h3⟩ := hd
  rw [hs.healthy hc] at h1
  rw [on_of_reg (fNRG_SMEAS_DERATED c) (hs.reg fun k hk => by grind), get_of_reg fCEL_SHARE_CFG_MAXSHED (hs.reg fun k hk => by grind)] at h2
  exact ⟨h1, h2, h3⟩

/-- An update of the shares of every tract leaves every cell done. -/
theorem shareUpdate_spec (s : State) : Runs .shareUpdate s fun u =>
    (∀ c, c < 256 → ShareDone s c (u.cell c)) ∧ SharesOnly s u := by
  refine ⟨_, rfl, fun c hc => ?_, ?_⟩
  · have hk : c / 4 < 64 := by omega
    obtain ⟨u, hu, -, hfold⟩ := foldl_at (fun v : State => v.cell c) (I := SharesOnly s) (f := fun v k => v.shareTract k) List.nodup_range
      (mem_upTo.mpr hk) (fun v j _ hj => cell_shareTract_ne v fun hm => hj (mem_cellsIn.mp hm).symm)
      (fun v j hj hv => hv.trans (sharesOnly_shareTract v (mem_upTo.mp hj))) (.refl s)
    have hdone := shareDone_shareTract u hk (mem_cellsIn.mpr rfl)
    rw [← hfold] at hdone
    exact hdone.congr hu hc
  · exact foldl_keeps_prop (I := SharesOnly s) (fun v j hj hv => hv.trans (sharesOnly_shareTract v (mem_upTo.mp hj))) (.refl s)

/-! ### The loss of a cell -/

/-- What the loss of a cell keeps: latched cells stay latched, with the cause of it, and events of cells that are noted stay so. -/
structure LossKeeps (s t : State) : Prop where
  latched : ∀ c, c < 256 → s.mode c = 7 → t.mode c = 7
  cause : ∀ c, c < 256 → t.get (fCEL_CSTAT_CAUSE c) = s.get (fCEL_CSTAT_CAUSE c)
  failed : ∀ i, i < 8 → t.reg (CEL_FAILED i) = s.reg (CEL_FAILED i)
  stat : ∀ e, e.block = 3 → s.stat e = true → t.stat e = true

theorem LossKeeps.refl (s : State) : LossKeeps s s := ⟨fun _ _ h => h, fun _ _ => rfl, fun _ _ => rfl, fun _ _ h => h⟩

theorem LossKeeps.trans (h : LossKeeps s t) (k : LossKeeps t u) : LossKeeps s u :=
  ⟨fun c hc hm => k.latched c hc (h.latched c hc hm), fun c hc => (k.cause c hc).trans (h.cause c hc),
    fun i hi => (k.failed i hi).trans (h.failed i hi), fun e he hs => k.stat e he (h.stat e he hs)⟩

theorem LossKeeps.ite {c : Prop} [Decidable c] (h : LossKeeps s t) (k : LossKeeps s u) : LossKeeps s (if c then t else u) := by
  split
  · exact h
  · exact k

theorem LossKeeps.foldl {α : Type} {f : State → α → State} {l : List α} (hf : ∀ u, ∀ c ∈ l, LossKeeps u (f u c)) : LossKeeps s (l.foldl f s) :=
  foldl_keeps_prop (I := LossKeeps s) (fun u c hc h => h.trans (hf u c hc)) (.refl s)

/-- Registers of cells as a whole that the loss of a cell rests on. -/
def lossReg (o : Nat) : Prop := o = blockBase 3 ∨ (∃ c, c < 256 ∧ o = CEL_CSTAT c) ∨ ∃ i, i < 8 ∧ o = CEL_FAILED i

theorem lossKeeps_of_regs (h : ∀ o, lossReg o → t.reg o = s.reg o) : LossKeeps s t := by
  refine ⟨fun c hc hm => ?_, fun c hc => get_of_reg _ (h _ (.inr (.inl ⟨c, hc, rfl⟩))), fun i hi => h _ (.inr (.inr ⟨i, hi, rfl⟩)), fun e he hs => ?_⟩
  · exact (get_of_reg (fCEL_CSTAT_MODE c) (h _ (.inr (.inl ⟨c, hc, rfl⟩)))).trans hm
  · rw [State.stat, h _ (.inl (congrArg blockBase he))]
    exact hs

theorem lossKeeps_raise (s : State) (e : Ev) (i : Nat) (he : e.block = 3) : LossKeeps s (s.raise e i) := by
  refine ⟨fun c hc hm => ?_, fun c hc => ?_, fun k hk => ?_, fun f _ hs => stat_raise_keeps _ _ _ _ hs⟩
  · exact (get_of_reg (fCEL_CSTAT_MODE c) (reg_raise _ _ _ _ (by rw [he]; grind [apart_eventRegs, blockBase]))).trans hm
  · exact get_of_reg _ (reg_raise _ _ _ _ (by rw [he]; grind [apart_eventRegs, blockBase]))
  · exact reg_raise _ _ _ _ (by rw [he]; grind [apart_eventRegs, blockBase])

theorem LossKeeps.of_moves (h : Moves s t) : LossKeeps s t := by
  have hcel (o : Nat) (hlo : 0x10000 ≤ o) (hhi : o < 0x11000) : o ∉ movedRegs := not_moved_of_cel hlo hhi
  refine ⟨fun c hc hm => (h.stuck c hc (by omega)).trans hm, h.cause, fun i hi => h.regs _ (hcel _ ?_ ?_), fun e he hs => ?_⟩
  · unfold CEL_FAILED; omega
  · unfold CEL_FAILED; omega
  · rw [State.stat, h.regs _ (by rw [he]; exact hcel 0x10000 (by decide) (by decide))]
    exact hs

theorem lossKeeps_setMode (s : State) {c : Nat} (m : Nat) (hc : c < 256) : LossKeeps s (s.setMode c m) := by
  unfold State.setMode
  split
  · exact .refl s
  · next h7 =>
    have hne (o : Nat) (ho : o ≠ CEL_CSTAT c) (n : Nat) : (s.put (fCEL_CSTAT_MODE c) n).reg o = s.reg o := reg_setReg_ne _ _ _ _ ho
    refine ⟨fun k hk hm => ?_, fun k hk => ?_, fun i hi => hne _ (by grind) _, fun e he hs => ?_⟩
    · have hkc : k ≠ c := by rintro rfl; exact h7 hm
      exact (get_of_reg (fCEL_CSTAT_MODE k) (hne _ (by grind) _)).trans hm
    · by_cases hkc : k = c
      · exact get_put_apart _ _ _ _ (by rw [hkc]) (.inl (by simp))
      · exact get_of_reg _ (hne _ (by grind) _)
    · rw [State.stat, hne _ (by rw [he]; grind [blockBase])]
      exact hs

theorem lossKeeps_putDone (s : State) {c : Nat} (b : Bool) (hc : c < 256) : LossKeeps s (s.putB (fCEL_CSTAT_SS_DONE c) b) := by
  have hne (o : Nat) (ho : o ≠ CEL_CSTAT c) : (s.putB (fCEL_CSTAT_SS_DONE c) b).reg o = s.reg o := reg_setReg_ne _ _ _ _ ho
  have hfld (k : Nat) (f : Fld) (hf : f.off = CEL_CSTAT k) (ha : 25 ≤ f.lo) : (s.putB (fCEL_CSTAT_SS_DONE c) b).get f = s.get f := by
    by_cases hkc : k = c
    · exact get_putB_apart _ _ _ _ (by rw [hf, hkc]) (.inr ha)
    · exact get_of_reg _ (hne _ (by rw [hf]; grind))
  refine ⟨fun k _ hm => (hfld k (fCEL_CSTAT_MODE k) rfl (by simp)).trans hm, fun k _ => hfld k _ rfl (by simp), fun i hi => hne _ (by grind), fun e he hs => ?_⟩
  rw [State.stat, hne _ (by rw [he]; grind [blockBase])]
  exact hs

theorem lossKeeps_dropDomain (s : State) {d : Nat} (hd : d < 32) : LossKeeps s (s.dropDomain d) := by
  have hoff : LossKeeps s (s.cellsOff d) := .foldl fun u c hc =>
    .trans (.ite (.refl u) (lossKeeps_setMode u 0 (cell_lt_of_mem_cellsOf hc))) (lossKeeps_putDone _ _ (cell_lt_of_mem_cellsOf hc))
  have hdom (u : State) (n : Nat) : LossKeeps u (u.put (fDOM_DSTAT_STATE d) n) :=
    lossKeeps_of_regs fun o ho => reg_setReg_ne _ _ _ _ (by
      rcases ho with rfl | ⟨c, hc, rfl⟩ | ⟨i, hi, rfl⟩
      · grind [blockBase]
      · grind
      · grind)
  have hdata (u : State) (f : DomHid → DomHid) : LossKeeps u (u.updDom d f) := lossKeeps_of_regs fun _ _ => rfl
  have hidle := hoff.trans (.of_moves (moves_idleLoops (s.cellsOff d) d))
  unfold State.dropDomain State.setDom
  exact (((hidle.trans (hdom _ 1)).trans (hdata _ _)).trans (hdata _ _)).trans (.of_moves (moves_domMoved _ hd))

theorem LossKeeps.of_sharesOnly (h : SharesOnly s t) : LossKeeps s t :=
  lossKeeps_of_regs fun o ho => h.reg fun c hc => by
    rcases ho with rfl | ⟨k, hk, rfl⟩ | ⟨i, hi, rfl⟩
    · grind [blockBase]
    · grind
    · grind

theorem lossKeeps_reseat (s : State) {k : Nat} (hk : k < 64) : LossKeeps s (s.reseat k) := by
  unfold State.reseat
  dsimp only
  refine .ite (.refl s) ?_
  split
  · exact .refl s
  · next c hc =>
    have hmem := (mem_healthyIn.mp (List.mem_of_head? hc)).1
    exact lossKeeps_setMode s _ (by omega)

theorem lossKeeps_afterCellLoss (s : State) {c : Nat} (hc : c < 256) : LossKeeps s (s.afterCellLoss c) := by
  have hk : c / 4 < 64 := by omega
  unfold State.afterCellLoss
  dsimp only
  split
  · exact .refl s
  · next hd =>
    have hlate (p : Prop) [Decidable p] (f : TractHid → TractHid) : LossKeeps s (if p then s.updTract (c / 4) f else s) :=
      .ite (lossKeeps_of_regs fun _ _ => rfl) (.refl s)
    refine .ite ?_ (.ite (lossKeeps_raise s _ _ rfl) ?_)
    · exact ((hlate _ _).trans (lossKeeps_reseat _ hk)).trans (.of_sharesOnly (sharesOnly_setShares _ _ hk))
    · exact ((lossKeeps_dropDomain s (by omega)).trans (lossKeeps_raise _ _ _ rfl)).trans (lossKeeps_raise _ _ _ rfl)

/-- What a latched cell shows (R138, R141, R142). -/
theorem latch_spec (s : State) {c : Nat} (opened : Bool) (hc : c < 256) :
    (s.latch c opened).mode c = 7 ∧ (s.latch c opened).on (fCEL_CSTAT_CAUSE c) = opened ∧
      ((s.latch c opened).reg (CEL_FAILED (c / 32))).getLsbD (c % 32) = true ∧
      (s.latch c opened).stat (if opened then evCEL_OPEN else evCEL_LATCHED) = true := by
  have hblock : (if opened then evCEL_OPEN else evCEL_LATCHED).block = 3 := by cases opened <;> rfl
  have hcstat : CEL_CSTAT c ∉ eventRegs 3 := by grind [apart_eventRegs, blockBase]
  have hfailed : CEL_FAILED (c / 32) ∉ eventRegs 3 := by grind [apart_eventRegs, blockBase]
  unfold State.latch State.mode
  extract_lets s1 s2
  have hreg2 : s2.reg (CEL_CSTAT c) = s1.reg (CEL_CSTAT c) := reg_setReg_ne _ _ _ _ (by grind)
  refine ⟨?_, ?_, ?_, stat_raise_same _ _ _ (by cases opened <;> decide)⟩
  · rw [get_of_reg (fCEL_CSTAT_MODE c) (reg_raise _ _ _ _ (by rw [hblock]; exact hcstat)), get_of_reg (fCEL_CSTAT_MODE c) hreg2,
      get_putB_apart _ (fCEL_CSTAT_CAUSE c) (fCEL_CSTAT_MODE c) _ rfl (.inr (by simp)), get_put _ _ _ (by simp)]
    rfl
  · rw [on_of_reg (fCEL_CSTAT_CAUSE c) (reg_raise _ _ _ _ (by rw [hblock]; exact hcstat)), on_of_reg (fCEL_CSTAT_CAUSE c) hreg2,
      on_putB_same _ _ _ (by simp) rfl]
  · rw [reg_raise _ _ _ _ (by rw [hblock]; exact hfailed), reg_setReg_same, BitVec.getLsbD_or]
    have hbit : (BitVec.ofNat 32 (2 ^ (c % 32))).getLsbD (c % 32) = true := by
      rw [BitVec.getLsbD_ofNat, Nat.testBit_two_pow_self]
      simp
      omega
    rw [hbit, Bool.or_true]

/-- The health of a cell rests on its registers, and on its tract. -/
theorem healthy_congr {c : Nat} (hcfg : t.reg (CEL_CFG c) = s.reg (CEL_CFG c)) (hcstat : t.reg (CEL_CSTAT c) = s.reg (CEL_CSTAT c))
    (htstat : t.reg (TRC_TSTAT (c / 4)) = s.reg (TRC_TSTAT (c / 4))) (htract : t.tract (c / 4) = s.tract (c / 4)) : t.healthy c = s.healthy c := by
  unfold State.healthy State.alive State.mode State.stopped
  rw [on_of_reg (fCEL_CFG_EN c) hcfg, get_of_reg (fCEL_CSTAT_MODE c) hcstat, get_of_reg (fTRC_TSTAT_STATE (c / 4)) htstat, htract]

/-- A state without what events touch and without its cells. -/
def State.bareCells (s : State) : State := { s.bare with cells := [] }

theorem bareCells_of_bare (h : t.bare = s.bare) : t.bareCells = s.bareCells := congrArg (fun v : State => { v with cells := [] }) h
theorem bareCells_of_unregCells (h : t.unregCells = s.unregCells) : t.bareCells = s.bareCells := by
  have hbare := congrArg State.bare h
  exact hbare

theorem onlyEvents_cells {l : List Nat} (h : t.bareCells = s.bareCells) (hregs : ∀ o, o ∉ l → t.reg o = s.reg o) :
    OnlyEvents { s with cells := t.cells } t l :=
  onlyEvents_of (congrArg (fun v : State => { v with cells := t.cells }) h) hregs

/-- The registers of the cells of a tract that the loss of one of them may change. -/
def tractCellRegs (k : Nat) : List Nat := (cellsIn k).map CEL_CSTAT ++ (cellsIn k).map CEL_TEMP

theorem sameRegs_setMode (s : State) {k c m : Nat} (hc : c ∈ cellsIn k) : SameRegs s (s.setMode c m) (tractCellRegs k) := by
  unfold State.setMode
  split
  · exact .refl _ _
  · exact (SameRegs.refl s _).put _ (List.mem_append_left _ (List.mem_map_of_mem hc))

theorem unregCells_setMode (s : State) (c m : Nat) : (s.setMode c m).unregCells = s.unregCells := by
  unfold State.setMode
  split <;> rfl

theorem sameRegs_updCell (s : State) (c : Nat) (f : CellHid → CellHid) (l : List Nat) : SameRegs s (s.updCell c f) l := fun _ _ => rfl

theorem sameRegs_setShares (s : State) (k : Nat) (i : Int) : SameRegs s (s.setShares k i) (tractCellRegs k) := by
  rw [setShares_eq]
  refine foldl_keeps_prop (I := fun u => SameRegs s u (tractCellRegs k)) (f := s.shareStep k i) (fun u c hc hu => ?_) (.refl s _)
  have hmem : CEL_TEMP c ∈ tractCellRegs k := List.mem_append_right _ (List.mem_map_of_mem hc)
  unfold State.shareStep State.putI
  exact .trans ((hu.put _ hmem).put _ hmem) (sameRegs_updCell _ _ _ _)

theorem unregCells_setShares (s : State) (k : Nat) (i : Int) : (s.setShares k i).unregCells = s.unregCells := by
  rw [setShares_eq]
  refine foldl_keeps State.unregCells (f := s.shareStep k i) (fun u c _ => ?_) s
  unfold State.shareStep
  exact (unregCells_updCell _ _ _).trans ((unregCells_put _ _ _).trans (unregCells_putI _ _ _))

/-- A cell lost in a tract that keeps a healthy one changes the tract alone, its cells and their registers (R140). -/
theorem afterCellLoss_live (s : State) {c k : Nat} (hk : k ∈ s.healthyIn (c / 4)) :
    SameRegs s (s.afterCellLoss c) (tractCellRegs (c / 4)) ∧ (s.afterCellLoss c).unregCells = s.unregCells := by
  obtain ⟨hkt, hhealthy⟩ := mem_healthyIn.mp hk
  have hsome : (s.healthyIn (c / 4)).isEmpty = false := by
    rw [List.isEmpty_eq_false_iff]
    exact List.ne_nil_of_mem hk
  have halive : s.alive k = true := by
    unfold State.healthy at hhealthy
    simp only [Bool.and_eq_true] at hhealthy
    exact hhealthy.1.1
  have hreseat : SameRegs s (s.reseat (c / 4)) (tractCellRegs (c / 4)) ∧ (s.reseat (c / 4)).unregCells = s.unregCells := by
    unfold State.reseat
    extract_lets d m
    split
    · exact ⟨.refl _ _, rfl⟩
    · split
      · exact ⟨.refl _ _, rfl⟩
      · next j hj => exact ⟨sameRegs_setMode s (mem_cellsIn.mpr (mem_healthyIn.mp (List.mem_of_head? hj)).1), unregCells_setMode _ _ _⟩
  unfold State.afterCellLoss
  dsimp only
  split
  · exact ⟨.refl _ _, rfl⟩
  · rw [if_pos (List.any_eq_true.mpr ⟨k, mem_cellsIn.mpr hkt, by split <;> assumption⟩), hsome, Bool.and_false, Bool.false_and,
      if_neg Bool.false_ne_true]
    exact ⟨hreseat.1.trans (sameRegs_setShares _ _ _), (unregCells_setShares _ _ _).trans hreseat.2⟩

theorem sameRegs_latch (s : State) (c : Nat) (opened : Bool) :
    SameRegs s (s.latch c opened) (CEL_FAILED (c / 32) :: CEL_CSTAT c :: eventRegs 3) := by
  have hblock : (if opened then evCEL_OPEN else evCEL_LATCHED).block = 3 := by cases opened <;> rfl
  unfold State.latch
  dsimp only
  refine ((((SameRegs.refl s _).put _ ?_).putB _ ?_).setReg _ ?_).trans ((sameRegs_raise _ _ c).mono ?_)
  · simp
  · simp
  · simp
  · rw [hblock]
    exact fun o ho => List.mem_cons_of_mem _ (List.mem_cons_of_mem _ ho)

theorem bareCells_latch (s : State) (c : Nat) (opened : Bool) : (s.latch c opened).bareCells = s.bareCells := by
  unfold State.latch
  exact bareCells_of_bare (bare_raise _ _ _)

/-- A cell latched leaves the health of the other cells. -/
theorem healthy_latch_ne (s : State) {c k : Nat} (opened : Bool) (hk : k < 256) (hc : c < 256) (hne : k ≠ c) : (s.latch c opened).healthy k = s.healthy k := by
  have hreg {o : Nat} (h1 : o ≠ CEL_FAILED (c / 32)) (h2 : o ≠ CEL_CSTAT c) (h3 : o ∉ eventRegs 3) : (s.latch c opened).reg o = s.reg o :=
    sameRegs_latch s c opened o (by simp [h1, h2, h3])
  refine healthy_congr (hreg ?_ ?_ ?_) (hreg ?_ ?_ ?_) (hreg ?_ ?_ ?_) ?_
  case refine_10 =>
    have htract := congrArg (fun v : State => v.tract (k / 4)) (bareCells_latch s c opened)
    exact htract
  all_goals grind [apart_eventRegs, blockBase]

/-- A cell found open (R141). -/
theorem cellOpen_spec (s : State) {c : Nat} (hc : c < 256) :
    let u := ((s.updCell c fun h => { h with openCond := false }).latch c true).afterCellLoss c
    u.mode c = 7 ∧ u.on (fCEL_CSTAT_CAUSE c) = true ∧ (u.reg (CEL_FAILED (c / 32))).getLsbD (c % 32) = true ∧ u.stat evCEL_OPEN = true ∧
      ((∃ k, k ∈ cellsIn (c / 4) ∧ k ≠ c ∧ s.healthy k = true) → OnlyEvents { s with cells := u.cells } u
        (CEL_FAILED (c / 32) :: (cellsIn (c / 4)).map CEL_CSTAT ++ (cellsIn (c / 4)).map CEL_TEMP ++ eventRegs 3)) := by
  intro u
  obtain ⟨hmode, hcause, hfailed, hstat⟩ := latch_spec (s.updCell c fun h => { h with openCond := false }) true hc
  have hkeeps := lossKeeps_afterCellLoss ((s.updCell c fun h => { h with openCond := false }).latch c true) hc
  refine ⟨hkeeps.latched c hc hmode, ?_, ?_, hkeeps.stat _ rfl hstat, fun ⟨k, hk, hne, hhealthy⟩ => ?_⟩
  · rw [State.on, hkeeps.cause c hc]
    exact hcause
  · rw [hkeeps.failed _ (by omega)]
    exact hfailed
  · have hk4 := mem_cellsIn.mp hk
    have hlive : k ∈ ((s.updCell c fun h => { h with openCond := false }).latch c true).healthyIn (c / 4) :=
      mem_healthyIn.mpr ⟨hk4, (healthy_latch_ne _ true (by omega) hc hne).trans hhealthy⟩
    obtain ⟨hregs, hrest⟩ := afterCellLoss_live _ hlive
    refine onlyEvents_cells ((bareCells_of_unregCells hrest).trans (bareCells_latch _ _ _)) fun o ho => ?_
    simp only [List.cons_append, List.mem_cons, List.mem_append, not_or] at ho
    obtain ⟨h1, ⟨h2, h3⟩, h4⟩ := ho
    have hself : o ≠ CEL_CSTAT c := fun he => h2 (he ▸ List.mem_map_of_mem (mem_cellsIn.mpr rfl))
    exact (hregs o (by simp [tractCellRegs, h2, h3])).trans (sameRegs_latch _ c true o (by simp [h1, hself, h4]))

end Sys2Proof.Machine
end

section
/-!
SETTLED. The statement on open cells, zero-current detectors, shares and the phase offset (O37).
-/
open Sys2Proof Sys2Proof.Machine

/-- Settles O37: an open cell by what latching and losing a cell leave, an update of shares tract by tract. -/
theorem cellsShareAndFail : Obligations.CellsShareAndFail := by
  unfold Obligations.CellsShareAndFail
  intro s c ph per
  refine ⟨fun hopen hhealthy => ?_, fun hmode htimed => ?_, fun hlen hper htimed => ?_, fun hno => ?_, ?_, fun a ha hdue hoff => ?_, fun hne => ?_⟩
  · refine ⟨_, ?_, cellOpen_spec s c.isLt⟩
    change execCellOpen c s = _
    rw [execCellOpen, if_pos (by simp [hopen, hhealthy])]
  · change execZcdRise c ph s = _
    rw [execZcdRise, if_pos (by simp [hmode, htimed, or_assoc])]
  · change execZcdStuck c ⟨ph, per⟩ s = _
    have hstuck : zcdStuckBy per = true := by
      unfold zcdStuckBy
      simp only [List.length_take, Nat.min_eq_left hlen, Bool.and_eq_true, Bool.or_eq_true, List.all_eq_true, decide_eq_true_eq, true_and]
      exact hper
    rw [execZcdStuck, if_pos (by simp [hstuck, htimed])]
  · change execZcdStuck c ⟨ph, per⟩ s = _
    have hstuck : (zcdStuckBy per && !(s.cell c).timed ph) = false := by
      rcases hno with hlen | htimed
      · have hshort : (per.take 16).length ≠ 16 := by rw [List.length_take]; omega
        simp only [zcdStuckBy, hshort, decide_false, Bool.false_and]
      · simp [htimed]
    rw [execZcdStuck, if_neg (by simp [hstuck])]
  · obtain ⟨u, hu, hdone, hframe⟩ := shareUpdate_spec s
    exact ⟨u, hu, hdone, hframe.onlyRegs⟩
  · change execShareSat c s = _
    rw [execShareSat, ha]
    dsimp only
    rw [if_pos (by simp [hdue, hoff])]
  · have ha : s.get (fCEL_CFG_APPLIED c) < 2 ^ 6 := get_lt_pow s (fCEL_CFG_APPLIED c)
    have ho : s.get (fCEL_CFG_OFFSET c) < 2 ^ 6 := get_lt_pow s (fCEL_CFG_OFFSET c)
    refine ⟨s.put (fCEL_CFG_APPLIED c) (if (s.get (fCEL_CFG_OFFSET c) + 64 - s.get (fCEL_CFG_APPLIED c)) % 64 ≤ 32
      then (s.get (fCEL_CFG_APPLIED c) + 1) % 64 else (s.get (fCEL_CFG_APPLIED c) + 63) % 64), congrArg Host.Outcome.next (if_neg (by omega)), ?_⟩
    refine ⟨?_, ?_, ?_, onlyRegs_of rfl fun o ho => reg_setReg_ne _ _ _ _ (by simpa using ho)⟩
    · rw [get_put _ _ _ (by simp)]
      exact Nat.mod_eq_of_lt (by split <;> simp <;> omega)
    · exact get_put_apart _ (fCEL_CFG_APPLIED c) (fCEL_CFG_OFFSET c) _ rfl (.inr (by simp))
    · exact on_put_apart _ (fCEL_CFG_APPLIED c) (fCEL_CFG_EN c) _ rfl (.inr (by simp))

end

section
/-!
SUPPORT. States from which refutations start.
-/

namespace Sys2Proof.Machine

/-- Fields set in a state, one after the other. -/
def withFields (s : State) (l : List (Fld × Nat)) : State := l.foldl (fun s e => s.put e.1 e.2) s

/-- Locked and in Run, the clocks running, the core up, 10 s in. -/
def runningBlock : State :=
  withFields { por := false, now := 10 ^ 10, clk := { pll := true, fastOsc := true } }
    [(⟨BLK_CORE, 0, 32⟩, 9), (⟨PLAT_STATE, 0, 32⟩, 0x80000000), (fPST_STATE_STATE, 0), (⟨CAD_LOCK, 0, 32⟩, 1)]

/-- Domain 1, of tract 0, in a state of Table 6.1 and a phase, with the fields of a list. -/
def domainAt (x : Nat) (ph : DomPhase) (l : List (Fld × Nat)) : State :=
  { withFields runningBlock ([(fDOM_MAP_DOM 0, 1), (fDOM_DSTAT_STATE 1, x)] ++ l) with doms := [(1, { phase := ph })] }

end Sys2Proof.Machine
end

section
/-!
SETTLED. The statement on a write of a target (O42).
-/
open Sys2Proof Sys2Proof.Machine

/-- Domain 1 reads On while it is in the ramp of its soft stop, its cells at code 605, and an instance lifts it by 5 codes. -/
def stoppingLifted : State :=
  { domainAt 4 .stopRamp ((List.range 4).map fun c => (fCEL_CSTAT_PRESENT c, 605)) with
    so := { running := [{ no := 0, idx := 0, seq := 0, annAt := 0, ready := 0, stamp := 0, lifts := [(1, 5)] }] } }

/-- Refutes O42: a write of 600 to a domain that reads On in its stop ramp at 605, with a lift of 5, completes the ramp; the lift ends and
the targets stay at 605. -/
theorem not_targetWrite : ¬ Obligations.TargetWrite := by
  unfold Obligations.TargetWrite
  intro h
  have hserved : Served .host (DOM_VSET 1) stoppingLifted := by
    unfold Served
    decide +kernel
  obtain ⟨-, haccepted, -⟩ := h stoppingLifted .host 1 600#32 hserved
  have hvalid : stoppingLifted.codeValid 1 600 = true := by decide +kernel
  have hstep : (stoppingLifted.dom 1).step = none := by decide +kernel
  obtain ⟨-, htargets, -⟩ := (haccepted hvalid hstep).after
  have hon : stoppingLifted.isOn 1 = true := by decide +kernel
  have hmem : 0 ∈ stoppingLifted.cellsOf 1 := by decide +kernel
  have htarget := htargets hon 0 hmem
  have hleft : (stateAfter (.domVsetWrite .host 1 600#32) stoppingLifted).get (fCEL_CSTAT_TARGET 0) = 605 := by decide +kernel
  have hlift : (stateAfter (.domVsetWrite .host 1 600#32) stoppingLifted).get (fSO_DLIFT_LIFT 1) = 0 := by decide +kernel
  exact absurd (hleft.symm.trans htarget) (by rw [show ((1 : Fin 32) : Nat) = 1 from rfl, hlift]; decide)

end

section
/-!
SETTLED. The statement on header stages, delays and code steps (O44).
-/
open Sys2Proof Sys2Proof.Machine

/-- Domain 1 has no tract, and the delay of its soft start is over, every header stage done. -/
def tractlessStart : State := { runningBlock with doms := [(1, { phase := .startDelay, stagesRun := 8 })] }

/-- Refutes O44: the soft start of a domain that has no tract completes at once, and its state reads 0, neither ramping nor On nor Off. -/
theorem not_rampsAndStages : ¬ Obligations.RampsAndStages := by
  unfold Obligations.RampsAndStages
  intro h
  obtain ⟨-, hstart, -⟩ := h tractlessStart 1 0
  have hphase : (tractlessStart.dom 1).phase = .startDelay := by decide +kernel
  have hdue : (tractlessStart.dom 1).delayDue ≤ tractlessStart.now := by decide +kernel
  obtain ⟨-, hends⟩ := (hstart hphase hdue).after
  have hrest : ((stateAfter (.softStartDelayEnd 1) tractlessStart).dom 1).phase = .rest := by decide +kernel
  have hstate : (stateAfter (.softStartDelayEnd 1) tractlessStart).domState 1 = 0 := by decide +kernel
  have hentering : tractlessStart.on fPST_STATE_ENTERING = false := by decide +kernel
  rcases hends with ⟨hramp, -⟩ | ⟨hon, -⟩ | ⟨hent, -⟩ | ⟨hoff, -⟩
  · exact DomPhase.noConfusion (hrest.symm.trans hramp)
  · exact absurd (hstate.symm.trans hon) (by decide)
  · exact Bool.noConfusion (hentering.symm.trans hent)
  · exact absurd (hstate.symm.trans hoff) (by decide)

end

section
/-!
SETTLED. The statement on the entry into power states (O45).
-/
open Sys2Proof Sys2Proof.Machine

/-- Setting-out enabled by a host write at this instant. -/
def enabledNow : State :=
  { runningBlock.put fSO_CTL_EN 1 with cyc := { wroteAt := 10 ^ 10 + 1, wrote := [(SO_CTL, 1)] } }

/-- Refutes O45: a request for Sleep at the instant of a host write of SO_CTL.EN is accepted, and the written EN stands (R16). -/
theorem not_entryIntoStates : ¬ Obligations.EntryIntoStates := by
  unfold Obligations.EntryIntoStates
  intro h
  obtain ⟨hrequest, -⟩ := h enabledNow .host 2 0
  have hserved : Served .host PST_REQ enabledNow := by
    unfold Served
    decide +kernel
  have haccepts : (enabledNow.put fPST_REQ_TARGET 2).refusesEntry 2 = false := by decide +kernel
  obtain ⟨-, -, -, -, hclosed, -⟩ := ((hrequest hserved).2 haccepts).after
  have hstands : (stateAfter (.pstReqGo .host 2) enabledNow).on fSO_CTL_EN = true := by decide +kernel
  exact Bool.noConfusion (hstands.symm.trans hclosed)

end

section
/-!
SETTLED. The statement on wake events and Monument samples (O46).
-/
open Sys2Proof Sys2Proof.Machine

/-- In Run, with rule 0 of Monument live on channel 0, and site 0 at 200 degC in the latest sample of Monument and still. -/
def overheated : State :=
  { withFields runningBlock [(fMON_RULE_ACT 0, 1), (fMON_RULE_STATES 0, 1), (fMON_RULE_CMP 0, 1), (fTHM_SITE_VALUE 0, 3200)] with
    thm := { sites := [(0, { monHot := true })] } }

set_option maxRecDepth 200000 in
/-- Refutes O46: a sample that begins a thermal shutdown leaves Run before its rules are evaluated, and a rule of COUNT 0 whose value lies
above its threshold is not reported. -/
theorem not_wakeEvents : ¬ Obligations.WakeEvents := by
  unfold Obligations.WakeEvents
  intro h
  obtain ⟨-, -, -, -, -, hsample⟩ := h overheated 1 0 [] 0 0
  have hpor : overheated.por = false := rfl
  have hlocked : overheated.locked = true := by decide +kernel
  obtain ⟨-, hrule⟩ := (hsample hpor hlocked).after
  obtain ⟨-, hreport⟩ := hrule (by decide) (by decide +kernel) (by decide)
  have hreported : (stateAfter (.monumentSample 1 0 []) overheated).stat ⟨21, 0⟩ = true :=
    hreport (by decide +kernel) (by decide +kernel) (by decide +kernel) (by decide +kernel) (by decide +kernel) (by decide +kernel)
  have hsilent : (stateAfter (.monumentSample 1 0 []) overheated).stat ⟨21, 0⟩ = false := by decide +kernel
  exact Bool.noConfusion (hsilent.symm.trans hreported)

end

section
/-!
SUPPORT. A VSEL value applied, a tracked target taken, the periods of TRACK_IN, and the reference on its way (R320 to R333).
-/

namespace Sys2Proof.Machine

variable {s : State}

/-! ### A target in force -/

/-- A target in force changes of the IB stage's history only how the reference moves, and whether the target is clipped. -/
theorem setIbTarget_ib (s : State) (code : Nat) :
    ∃ uv a b c, (s.setIbTarget code).ib = { s.ib with refUv := uv, refAt := a, ramping := b, clip := c } := by
  have hmoved : RefMoved s (if clampN (s.get fCAD_IB_IBMIN) (s.get fCAD_IB_IBMAX) code = s.get fIBS_TGT_TARGET then s else s.moveRef) := by
    split
    · exact .refl s
    · exact refMoved_moveRef s
  unfold State.setIbTarget
  dsimp only
  rw [State.raiseIf_ib]
  obtain ⟨uv, a, b, r, hu⟩ := hmoved.data
  rw [hu]
  exact ⟨uv, a, b, _, rfl⟩

/-- A field of 11 bits holds what lies within two limits of 11 bits. -/
theorem clampN_limits_mod (s : State) {code : Nat} :
    clampN (s.get fCAD_IB_IBMIN) (s.get fCAD_IB_IBMAX) code % 2048 = clampN (s.get fCAD_IB_IBMIN) (s.get fCAD_IB_IBMAX) code := by
  have hmin : s.get fCAD_IB_IBMIN < 2 ^ 11 := get_lt_pow s fCAD_IB_IBMIN
  have hmax : s.get fCAD_IB_IBMAX < 2 ^ 11 := get_lt_pow s fCAD_IB_IBMAX
  unfold clampN
  omega

theorem applyVsel_vselAt (s : State) (v : Nat) : (s.applyVsel v).ib.vselAt = s.ib.vselAt := by
  unfold State.applyVsel
  dsimp only
  split
  · obtain ⟨uv, a, b, c, h⟩ := setIbTarget_ib (s.updIb fun h => { h with vselForce := v }) (s.get (fIBS_VSEL_CODE v))
    rw [h]
    rfl
  · rfl

/-- Outside VSEL as the source a value only becomes the one in force. -/
theorem applyVsel_of_tracking (v : Nat) (h : s.get fIBS_CTL_SRC ≠ 0) : s.applyVsel v = s.updIb fun h => { h with vselForce := v } := by
  unfold State.applyVsel
  rw [if_neg h]

/-- A VSEL value applied (R320, R322). -/
theorem changeVsel_spec (s : State) (v : Nat) :
    (s.changeVsel v).ib.vselForce = v ∧ (s.changeVsel v).on fIBS_STATE_DWELL = false ∧
    (s.changeVsel v).get fIBS_STATE_VSEL = s.get fIBS_STATE_VSEL ∧
    (s.changeVsel v).ib.vselAt = (if (s.changeVsel v).get fIBS_TGT_TARGET = s.get fIBS_TGT_TARGET then s.ib.vselAt else some s.now) ∧
    (s.get fIBS_CTL_SRC = 0 → (s.changeVsel v).get fIBS_TGT_TARGET = clampN (s.get fCAD_IB_IBMIN) (s.get fCAD_IB_IBMAX) (s.get (fIBS_VSEL_CODE v))) ∧
    (s.get fIBS_CTL_SRC ≠ 0 → (s.changeVsel v).reg IBS_TGT = s.reg IBS_TGT) ∧
    IbMoved ([IBS_STATE, IBS_TGT] ++ eventRegs 11) s (s.changeVsel v) := by
  obtain ⟨hforce, htarget, hmoved⟩ := applyVsel_spec s v
  have hregs : ((s.applyVsel v).putB fIBS_STATE_DWELL false).regs = (s.changeVsel v).regs := by
    unfold State.changeVsel
    dsimp only
    split <;> rfl
  have hib : (s.changeVsel v).ib.vselForce = (s.applyVsel v).ib.vselForce := by
    unfold State.changeVsel
    dsimp only
    split <;> rfl
  have hreg (o : Nat) : (s.changeVsel v).reg o = ((s.applyVsel v).putB fIBS_STATE_DWELL false).reg o := by rw [State.reg, ← hregs, State.reg]
  have hsame : IbMoved ([IBS_STATE, IBS_TGT] ++ eventRegs 11) s ((s.applyVsel v).putB fIBS_STATE_DWELL false) :=
    (hmoved.mono (by simp)).trans (ibMoved_put _ (f := fIBS_STATE_DWELL) _ (by simp))
  have htgt : (s.changeVsel v).get fIBS_TGT_TARGET = ((s.applyVsel v).putB fIBS_STATE_DWELL false).get fIBS_TGT_TARGET := get_of_reg _ (hreg _)
  refine ⟨hib.trans hforce, ?_, ?_, ?_, fun hsrc => ?_, fun hsrc => ?_, ?_⟩
  · rw [on_of_reg fIBS_STATE_DWELL (hreg _)]
    exact on_putB_same _ _ _ (by decide) rfl
  · rw [get_of_reg fIBS_STATE_VSEL (hreg _), get_putB_apart _ fIBS_STATE_DWELL fIBS_STATE_VSEL _ rfl (.inl (by decide))]
    exact get_of_reg fIBS_STATE_VSEL (hmoved.2 _ (by decide))
  · rw [htgt]
    unfold State.changeVsel
    dsimp only
    split
    · exact applyVsel_vselAt s v
    · rfl
  · rw [htgt, get_putB_reg _ fIBS_STATE_DWELL fIBS_TGT_TARGET _ (by decide), htarget hsrc, clampN_limits_mod]
  · rw [hreg, reg_putB_ne _ _ _ _ (by decide), applyVsel_of_tracking v hsrc]
    rfl
  · unfold State.changeVsel
    dsimp only
    split
    · exact hsame
    · exact hsame.trans (ibMoved_ib _ _ _)

theorem offerVsel_of_same (h : s.runOrIdle = false ∨ s.get fIBS_STATE_VSEL = s.ib.vselForce) : s.offerVsel = s := by
  unfold State.offerVsel
  dsimp only
  rw [if_pos (by rcases h with h | h <;> simp [h])]

theorem offerVsel_of_free (hrun : s.runOrIdle = true) (hnew : s.get fIBS_STATE_VSEL ≠ s.ib.vselForce)
    (hfree : ∀ b, s.ib.vselAt = some b → b + 100000 ≤ s.now) : s.offerVsel = s.changeVsel (s.get fIBS_STATE_VSEL) := by
  unfold State.offerVsel
  dsimp only
  rw [if_neg (by simp [hrun, hnew])]
  cases ha : s.ib.vselAt with
  | none => rfl
  | some a => exact if_pos (decide_eq_true (hfree a ha))

theorem offerVsel_of_busy {a : Nat} (hrun : s.runOrIdle = true) (hnew : s.get fIBS_STATE_VSEL ≠ s.ib.vselForce) (ha : s.ib.vselAt = some a)
    (hbusy : s.now < a + 100000) : s.offerVsel = s.putB fIBS_STATE_DWELL true := by
  unfold State.offerVsel
  dsimp only
  rw [if_neg (by simp [hrun, hnew]), ha]
  dsimp only
  rw [if_neg (by simp; omega)]

/-- The state in which a value of VSEL is accepted. -/
theorem accepted_vsel (s : State) (v : Fin 8) : (s.put fIBS_STATE_VSEL v).get fIBS_STATE_VSEL = v := by
  rw [get_put _ _ _ (by decide)]
  exact Nat.mod_eq_of_lt v.isLt

theorem accepted_runOrIdle (s : State) (n : Nat) : (s.put fIBS_STATE_VSEL n).runOrIdle = s.runOrIdle := by
  unfold State.runOrIdle State.aon
  rw [get_put_reg _ fIBS_STATE_VSEL fPST_STATE_STATE _ (by decide)]

/-! ### Tracking -/

/-- The state in which the sums of tracking start anew. -/
def State.trackCleared (s : State) : State := s.updIb fun h => { h with trkSum := 0, trkCnt := 0 }

/-- A tracked target that becomes the one in force. -/
def State.trackTo (s : State) (c : Nat) : State := (s.trackCleared.setIbTarget c).updIb fun h => { h with trkTarget := c }

theorem trackTo_spec (s : State) (c : Nat) :
    (s.trackTo c).ib.trkTarget = c ∧ (s.trackTo c).ib.trkCnt = 0 ∧ (s.trackTo c).ib.trkSum = 0 ∧
    (s.trackTo c).get fIBS_TGT_TARGET = clampN (s.get fCAD_IB_IBMIN) (s.get fCAD_IB_IBMAX) c ∧
    IbMoved ([IBS_TGT] ++ eventRegs 11) s (s.trackTo c) := by
  obtain ⟨htarget, -, hmoved⟩ := setIbTarget_spec s.trackCleared c
  obtain ⟨uv, a, b, cl, hib⟩ := setIbTarget_ib s.trackCleared c
  refine ⟨rfl, ?_, ?_, ?_, ?_⟩
  · exact congrArg IbHid.trkCnt hib
  · exact congrArg IbHid.trkSum hib
  · rw [clampN_limits_mod] at htarget
    exact htarget
  · exact ((ibMoved_ib s _ _).trans (hmoved.mono (by simp))).trans (ibMoved_ib _ _ _)

theorem trackCode_bounds (s : State) (num den : Nat) : 1200 ≤ s.trackCode num den ∧ s.trackCode num den ≤ 1680 := by
  unfold State.trackCode natOf
  obtain ⟨hlo, hhi⟩ := clampI_bounds (lo := 1200) (hi := 1680) (by decide) (roundHalfUp
    (s.getI fIBS_TRACK_OFFSET * 16384 * 1250 * den + (s.get fIBS_TRACK_GAIN * num : Nat)) (16384 * 1250 * den))
  dsimp only
  omega

/-- The state in which a rising edge of TRACK_IN is timestamped. -/
def State.trackRisen (s : State) : State := s.updIb fun h => { h with trkEdge := some s.now, trkRise := some s.now, trkFall := none }

theorem exec_trackRise {r f : Nat} (hsrc : s.get fIBS_CTL_SRC = 2) (hr : s.ib.trkRise = some r) (hf : s.ib.trkFall = some f) :
    exec (.trackInEdge true) s = .next (s.trackRisen.trackPeriod r f) := by
  change execTrackInEdge true s = _
  rw [execTrackInEdge, if_neg (by simp [hsrc]), if_pos rfl, hr, hf]
  rfl

/-- A period of TRACK_IN within its bounds counts as good, and the eighth in a row frees the target (R326, R327). -/
theorem trackPeriod_spec {rise fall : Nat} (h : 200 ≤ s.now * 2 / 5 - rise * 2 / 5 ∧ s.now * 2 / 5 - rise * 2 / 5 ≤ 40000) :
    (s.trackPeriod rise fall).ib = { s.ib with
      trkGood := min 8 (s.ib.trkGood + 1)
      trkRuns := (s.now, fall * 2 / 5 - rise * 2 / 5, s.now * 2 / 5 - rise * 2 / 5) :: s.ib.trkRuns.filter fun x => s.now ≤ x.1 + 10000 } ∧
    (s.trackPeriod rise fall).on fIBS_STATE_TRACK_HOLD = (s.on fIBS_STATE_TRACK_HOLD && decide (s.ib.trkGood < 7)) ∧
    OnlyRegs { s with ib := (s.trackPeriod rise fall).ib } (s.trackPeriod rise fall) [IBS_STATE] := by
  unfold State.trackPeriod
  dsimp only
  rw [if_pos (by simpa using h)]
  split
  · next hgood =>
    refine ⟨rfl, ?_, onlyRegs_of rfl fun o ho => reg_putB_ne _ _ _ _ (by simpa using ho)⟩
    rw [on_putB_same _ _ _ (by decide) rfl, decide_eq_false (by omega), Bool.and_false]
  · next hgood =>
    refine ⟨rfl, ?_, onlyRegs_of rfl fun _ _ => rfl⟩
    rw [decide_eq_true (by omega), Bool.and_true]
    rfl

/-- A tracked target that is held (R327). -/
theorem holdTrack_spec (s : State) :
    s.holdTrack.ib = { s.ib with trkGood := 0 } ∧ s.holdTrack.on fIBS_STATE_TRACK_HOLD = true ∧
    (s.on fIBS_STATE_TRACK_HOLD = false → s.holdTrack.stat evIBS_TRACK_RANGE = true) ∧
    IbMoved ([IBS_STATE] ++ eventRegs 11) s s.holdTrack := by
  unfold State.holdTrack
  dsimp only
  have hregs := sameRegs_raiseIf ((s.putB fIBS_STATE_TRACK_HOLD true).updIb fun h => { h with trkGood := 0 })
    (!s.on fIBS_STATE_TRACK_HOLD) evIBS_TRACK_RANGE 0xFFFF
  refine ⟨State.raiseIf_ib _ _ _ _, ?_, fun hoff => ?_, ?_⟩
  · rw [on_raiseIf _ _ _ _ _ (by decide)]
    exact on_putB_same s fIBS_STATE_TRACK_HOLD true (by decide) rfl
  · rw [stat_raiseIf_same _ _ _ _ (by decide), hoff]
    exact Bool.or_true _
  · obtain ⟨r, b, v, p, c, hraise⟩ := evOnly_raiseIf ((s.putB fIBS_STATE_TRACK_HOLD true).updIb fun h => { h with trkGood := 0 })
      (!s.on fIBS_STATE_TRACK_HOLD) evIBS_TRACK_RANGE 0xFFFF
    exact ((ibMoved_put s (f := fIBS_STATE_TRACK_HOLD) _ (by simp)).trans (ibMoved_ib _ _ _)).trans
      (IbMoved.mono ⟨⟨_, r, b, v, p, c, hraise⟩, hregs⟩ (by simp))

/-! ### The reference -/

/-- The reference that moves changes IBS_TGT alone. -/
theorem moveRef_spec (hmode : s.ibMode ≠ 0) (hwait : s.ib.ssWait = none) :
    s.moveRef.ib = { s.ib with
      refUv := s.moveRef.ib.refUv, refAt := s.now, ramping := s.ib.ramping && !(s.moveRef.ib.refUv = s.refGoal && s.ibMode ≠ 1) } ∧
    s.moveRef.ib.refUv = (if s.ib.refUv < s.refGoal then min s.refGoal (s.ib.refUv + s.refTravel) else max s.refGoal (s.ib.refUv - s.refTravel)) := by
  unfold State.moveRef
  rw [if_neg (by simp [hmode, hwait])]
  extract_lets g r s1
  have hr : s1.ib = { s.ib with refUv := r, refAt := s.now } := rfl
  split
  · next hdone =>
    have hoff : (decide (r = s.refGoal) && decide (s.ibMode ≠ 1)) = true := hdone
    refine ⟨?_, rfl⟩
    change { s1.ib with ramping := false } = { s.ib with refUv := r, refAt := s.now, ramping := s.ib.ramping && !(decide (r = s.refGoal) && decide (s.ibMode ≠ 1)) }
    rw [hoff, hr, Bool.not_true, Bool.and_false]
  · next hnot =>
    have hon : (decide (r = s.refGoal) && decide (s.ibMode ≠ 1)) = false := Bool.eq_false_iff.mpr hnot
    refine ⟨?_, rfl⟩
    change s1.ib = { s.ib with refUv := r, refAt := s.now, ramping := s.ib.ramping && !(decide (r = s.refGoal) && decide (s.ibMode ≠ 1)) }
    rw [hon, hr, Bool.not_false, Bool.and_true]

end Sys2Proof.Machine
end

section
/-!
SETTLED. The statement on VSEL, tracking and the reference of the IB stage (O47).
-/
open Sys2Proof Sys2Proof.Machine

/-- Settles O47: a value applied by what a new target leaves, a period of TRACK_IN by its length, the reference by what moving it leaves. -/
theorem ibReference : Obligations.IbReference := by
  unfold Obligations.IbReference
  intro s v a r f
  refine ⟨fun hpor => ⟨fun hidle => ?_, fun hrun hnew hfree => ?_, fun hrun hnew ha hbusy => ?_⟩, fun hdwell ha hdue => ⟨fun hrun hnew => ?_, fun hidle => ?_⟩,
    fun hsrc hrun hcnt => ?_, fun hsrc => ⟨?_, fun hnone => ?_, fun hr hf => ⟨fun hmin hmax => ?_, fun hout => ?_⟩, fun hdue hoff => ?_⟩, fun hmode hwait d hd hpos => ?_⟩
  · change execVselAccept v s = _
    rw [execVselAccept, if_neg (by simp [hpor]), offerVsel_of_same]
    rcases hidle with h | h
    · exact .inl ((accepted_runOrIdle s v).trans h)
    · exact .inr ((accepted_vsel s v).trans h)
  · have hexec : exec (.vselAccept v) s = .next ((s.put fIBS_STATE_VSEL v).changeVsel v) := by
      change execVselAccept v s = _
      rw [execVselAccept, if_neg (by simp [hpor]), offerVsel_of_free ((accepted_runOrIdle s v).trans hrun) (by rwa [accepted_vsel]) hfree, accepted_vsel]
    obtain ⟨hforce, hdwell, hvsel, hat, htarget, htrack, hmoved⟩ := changeVsel_spec (s.put fIBS_STATE_VSEL v) v
    have hput : IbMoved ([IBS_STATE, IBS_TGT] ++ eventRegs 11) s (s.put fIBS_STATE_VSEL v) := ibMoved_put s _ (by simp)
    have hkeep (f : Fld) (hf : f.off ≠ IBS_STATE) : (s.put fIBS_STATE_VSEL v).get f = s.get f := get_put_reg _ _ _ _ hf
    rw [hkeep fIBS_TGT_TARGET (by decide)] at hat
    rw [hkeep fIBS_CTL_SRC (by decide), hkeep fCAD_IB_IBMIN (by decide), hkeep fCAD_IB_IBMAX (by decide), hkeep (fIBS_VSEL_CODE v) (by grind)] at htarget
    rw [hkeep fIBS_CTL_SRC (by decide), show (s.put fIBS_STATE_VSEL v).reg IBS_TGT = s.reg IBS_TGT from reg_setReg_ne _ _ _ _ (by decide)] at htrack
    exact ⟨_, hexec, hvsel.trans (accepted_vsel s v), hforce, hdwell, hat, htarget, htrack, (hput.trans hmoved).onlyEvents⟩
  · change execVselAccept v s = _
    rw [execVselAccept, if_neg (by simp [hpor]), offerVsel_of_busy ((accepted_runOrIdle s v).trans hrun) (by rwa [accepted_vsel]) ha hbusy]
  · obtain ⟨hforce, hleft, -, hat, htarget, -, hmoved⟩ := changeVsel_spec s (s.get fIBS_STATE_VSEL)
    refine ⟨_, ?_, hforce, hat, hleft, htarget, hmoved.onlyEvents⟩
    change execVselDwellEnd s = _
    rw [execVselDwellEnd, ha]
    dsimp only
    rw [if_pos (by simp [hdwell, hdue]), if_neg (by simp [hnew, hrun])]
  · change execVselDwellEnd s = _
    rw [execVselDwellEnd, ha]
    dsimp only
    rw [if_pos (by simp [hdwell, hdue]), if_pos (by rcases hidle with h | h <;> simp [h])]
  · obtain ⟨htrack, hzero, hsum, htarget, hmoved⟩ := trackTo_spec s (s.trackCode (s.ib.trkSum * 1200000) (16384 * s.ib.trkCnt))
    obtain ⟨hlo, hhi⟩ := trackCode_bounds s (s.ib.trkSum * 1200000) (16384 * s.ib.trkCnt)
    refine ⟨s.trackTo (s.trackCode (s.ib.trkSum * 1200000) (16384 * s.ib.trkCnt)), ?_, htrack, ?_, ?_, ?_, hzero, hsum, hmoved.onlyEvents⟩
    · change execTrackUpdate s = _
      unfold execTrackUpdate
      dsimp only
      rw [if_neg (by omega), if_neg (by simp [hrun]), if_pos hsrc, if_neg (by omega)]
      rfl
    · rwa [htrack]
    · rwa [htrack]
    · rwa [htrack]
  · change execTrackInEdge false s = _
    rw [execTrackInEdge, if_neg (by simp [hsrc])]
    rfl
  · change execTrackInEdge true s = _
    rw [execTrackInEdge, if_neg (by simp [hsrc])]
    rw [if_pos rfl]
    rcases hnone with h | h
    · rw [h]
      rfl
    · rw [h]
      split
      · next h' => exact absurd h' (by simp)
      · rfl
  · have hexec := exec_trackRise hsrc hr hf
    obtain ⟨hib, hhold, hframe⟩ := trackPeriod_spec (s := s.trackRisen) (rise := r) (fall := f) ⟨hmin, hmax⟩
    have hruns := congrArg IbHid.trkRuns hib
    refine ⟨_, hexec, ?_, ?_, hhold, hframe⟩
    · rw [hruns]
      exact hib
    · rw [hruns]
      rfl
  · have hexec := exec_trackRise hsrc hr hf
    have hno : s.trackRisen.trackPeriod r f = s.trackRisen.holdTrack := by
      unfold State.trackPeriod
      dsimp only
      refine if_neg ?_
      rw [Bool.and_eq_true, decide_eq_true_eq, decide_eq_true_eq]
      change ¬ (200 ≤ s.now * 2 / 5 - r * 2 / 5 ∧ s.now * 2 / 5 - r * 2 / 5 ≤ 40000)
      omega
    obtain ⟨hib, hon, hreport, hmoved⟩ := holdTrack_spec s.trackRisen
    refine ⟨_, hexec, ?_⟩
    rw [hno]
    exact ⟨hib, hon, hreport, hmoved.onlyEvents⟩
  · obtain ⟨hib, hon, hreport, hmoved⟩ := holdTrack_spec s
    refine ⟨_, ?_, hon, hreport hoff, ?_⟩
    · change execTrackTimeout s = _
      rw [execTrackTimeout, if_pos (by simp [hsrc, hdue, hoff])]
    · have hframe := hmoved.onlyEvents
      rwa [hib] at hframe
  · have htravel : s.refTravel = d := hd.symm
    obtain ⟨hib, huv⟩ := moveRef_spec hmode hwait
    refine ⟨_, ?_, hib, fun hup => ?_, fun hdown => ?_, ?_⟩
    · change execIbRefStep s = _
      rw [execIbRefStep, if_neg (by simp [hmode, hwait, htravel]; omega)]
    · rw [huv, if_pos hup, htravel]
    · rw [huv, if_neg (by omega), htravel]
    · obtain ⟨uv, b, c, rr, hdata⟩ := (refMoved_moveRef s).data
      exact ⟨⟨rr, s.cyc, by rw [hdata]⟩, (refMoved_moveRef s).regs⟩

end

section
/-!
SETTLED. The statement on faults of the IB stage and disturbances of its input (O49).
-/
open Sys2Proof Sys2Proof.Machine

/-- VIN below STOP for 10 us in a block of which a host write enables setting-out at this instant. -/
def vinStopping : State := { enabledNow with ib := { stopSince := some 0 } }

/-- Refutes O49: an orderly stop that begins at the instant of a host write of SO_CTL.EN leaves the written EN (R16). -/
theorem not_ibFaults : ¬ Obligations.IbFaults := by
  unfold Obligations.IbFaults
  intro h
  obtain ⟨-, -, -, -, -, -, -, -, -, -, -, -, -, -, -, hstop⟩ := h vinStopping 0 0 0 0
  have hdue : 0 + 10000 ≤ vinStopping.now := by decide +kernel
  have haon : vinStopping.aon ≠ 4 := by decide +kernel
  obtain ⟨-, -, -, hclosed, -⟩ := (hstop rfl hdue rfl haon).after
  have hstands : (stateAfter .vinStop vinStopping).on fSO_CTL_EN = true := by decide +kernel
  exact Bool.noConfusion (hstands.symm.trans hclosed)

end

section
/-!
SETTLED. The statement on the block reset (O19).
-/
open Sys2Proof Sys2Proof.Machine

/-- Domain 1 reads On with the phase of a stop ramp, one of its cells at code 605. -/
def onInStopRamp : State := domainAt 4 .stopRamp [(fCEL_CSTAT_PRESENT 0, 605)]

/-- Refutes O19: aon_rst_req leaves a domain that reads On with the phase of a stop ramp as it is. -/
theorem not_blockReset : ¬ Obligations.BlockReset := by
  unfold Obligations.BlockReset
  intro h
  obtain ⟨hreq, -⟩ := h onInStopRamp
  obtain ⟨-, -, hramp, -⟩ := (hreq rfl rfl).after
  have hon : 2 ≤ onInStopRamp.domState 1 := by decide +kernel
  have hcell : 0 ∈ onInStopRamp.cellsOf 1 ∧ 240 < onInStopRamp.get (fCEL_CSTAT_PRESENT 0) := by decide +kernel
  obtain ⟨hoff, -⟩ := hramp 1 (by decide) hon ⟨0, hcell⟩
  have hstands : (stateAfter .aonRstReq onInStopRamp).domState 1 = 4 := by decide +kernel
  exact absurd (hstands.symm.trans hoff) (by decide)

end

section
/-!
SETTLED. The statement on the times of an instance (O30).
-/
open Sys2Proof Sys2Proof.Machine

/-- A running instance at its end, with a lift of 5 codes noted for a domain 40 and shown in the place of its lift. -/
def strayLift : State :=
  { withFields runningBlock [(fSO_DLIFT_LIFT 40, 5)] with
    so := { running := [{ no := 0, idx := 0, seq := 0, annAt := 0, ready := 0, stamp := 0, lifts := [(40, 5)] }] } }

/-- Refutes O30: the end of an instance with a lift for a domain 40 clears a register that is not of setting-out. -/
theorem not_instanceTimes : ¬ Obligations.InstanceTimes := by
  unfold Obligations.InstanceTimes
  intro h
  obtain ⟨-, hend, -⟩ := h strayLift .host 0 false
  obtain ⟨-, -, -, -, -, honly⟩ := (hend _ rfl (by decide +kernel)).after
  have hlist : SO_DLIFT 40 ∉ [] ++ (upTo 32).map SO_DLIFT ++ (upTo 256).map CEL_CSTAT ++ (upTo 64).map SO_TRK_STAT ++ eventRegs 6 := by decide +kernel
  have hcleared : (stateAfter (.stepEnd 0) strayLift).reg (SO_DLIFT 40) ≠ strayLift.reg (SO_DLIFT 40) := by decide +kernel
  exact hcleared (honly _ hlist)

end

section
/-!
SETTLED. The statement on pegs and the instances that they start (O29).
-/
open Sys2Proof Sys2Proof.Machine

/-- The instance of `strayLift` runs, setting-out and its sequencer 0 enabled, and another instance of its plan index, with a record of zeros,
awaits an arrive. -/
def strayLiftBeforeArrive : State :=
  { withFields strayLift [(fSO_CTL_EN, 1), (fSO_PEGMAP_EN 0, 1)] with
    so := { strayLift.so with awaiting := [{ no := 1, idx := 0, seq := 0, annAt := 0, rcd := some (List.replicate 32 0) }] } }

/-- Refutes O29: an arrive that ends an instance with a lift for a domain 40 clears a register that is not of setting-out. -/
theorem not_pegsOpenAndStartInstances : ¬ Obligations.PegsOpenAndStartInstances := by
  unfold Obligations.PegsOpenAndStartInstances
  intro h
  have htaken : PegTaken strayLiftBeforeArrive (0 : Fin 16) := by
    unfold PegTaken
    decide +kernel
  have hindex : 0 = pegIndex strayLiftBeforeArrive (0 : Fin 16) (0 : Fin 65536) := by decide +kernel
  obtain ⟨-, -, -, -, -, harrive, -⟩ := h strayLiftBeforeArrive _ 0 0 0 htaken hindex rfl
  obtain ⟨-, -, -, honly⟩ := (harrive _ (List.replicate 32 0) rfl rfl (by decide +kernel)).after
  have hlist : SO_DLIFT 40 ∉ [SO_TIME_SHORT (0 : Fin 16)] ++ (upTo 32).map SO_DLIFT ++ (upTo 256).map CEL_CSTAT ++ (upTo 64).map SO_TRK_STAT ++ eventRegs 6 := by
    decide +kernel
  have hcleared : (stateAfter (.arrive 0 0) strayLiftBeforeArrive).reg (SO_DLIFT 40) ≠ strayLiftBeforeArrive.reg (SO_DLIFT 40) := by decide +kernel
  exact hcleared (honly.2 _ hlist)

end

section
/-!
SETTLED. The statement on computed samples of a tract (O39).
-/
open Sys2Proof Sys2Proof.Machine

/-- Tract 0 in a slot in progress, its memory of coefficients in use, with a delivered duty code of 5,000 noted as in force. -/
def dutyBeyondCode : State :=
  { withFields runningBlock [(⟨MEM_PWR, 4, 2⟩, 2), (fMEM_OWNER_OWNER2, 1), (fTRC_TSTAT_STATE 0, 0)] with
    loops := { frame := 2, frameAt := some (10 ^ 10 - 20) }
    tracts := [(0, { duty := some (0, 5000) })] }

/-- Refutes O39: a computed sample takes a noted duty code of 5,000 into the 12 bits of TRC_DUTY, so that 904 is then in force. -/
theorem not_tractSamples : ¬ Obligations.TractSamples := by
  unfold Obligations.TractSamples
  intro h
  obtain ⟨-, hsample, -⟩ := h dutyBeyondCode 0 .clean 0
  have hwants : dutyBeyondCode.wantsSample (0 : Fin 64) dutyBeyondCode.slotFrame = true := by decide +kernel
  have hbegun : dutyBeyondCode.beginAt (0 : Fin 64) ≤ dutyBeyondCode.now := by decide +kernel
  have hengine : dutyBeyondCode.engineDead (0 : Fin 64) = false := by decide +kernel
  have hintime : dutyBeyondCode.beginAt (0 : Fin 64) + 6 ≤ dutyBeyondCode.slotStart + 40 := by decide +kernel
  have hmoves : dutyBeyondCode.frozen (0 : Fin 64) = false := by decide +kernel
  have hreads : dutyBeyondCode.setReads (0 : Fin 64) (dutyBeyondCode.setOf (0 : Fin 64)) = true := by decide +kernel
  obtain ⟨hcomputed, -⟩ := (hsample hwants hbegun hengine).1 hintime
  obtain ⟨-, -, hduty, -⟩ := (hcomputed hmoves hreads nofun _ rfl).after
  have hrunning : ¬ dutyBeyondCode.slotStart + 40 ≤ dutyBeyondCode.now := by decide +kernel
  have hinforce : dutyBeyondCode.dutyNow (0 : Fin 64) = 5000 := by decide +kernel
  have hcut : (stateAfter (.tractSample 0 .clean true) dutyBeyondCode).dutyNow (0 : Fin 64) = 904 := by decide +kernel
  rw [if_neg hrunning, hinforce, hcut] at hduty
  exact absurd hduty (by decide)

end

section
/-!
SETTLED. The statement on open-hold (O40).
-/
open Sys2Proof Sys2Proof.Machine

/-- Sleep, the clocks stopped, domain 1 On with its tract in an open-hold from stopped that CLOSE ends, the memory of coefficients in use. -/
def closingAsleep : State :=
  { withFields { runningBlock with clk := {} }
      [(fPST_STATE_STATE, 2), (fDOM_MAP_DOM 0, 1), (fDOM_DSTAT_STATE 1, 4), (fTRC_TSTAT_STATE 0, 2), (fCEL_CFG_EN 0, 1),
       (⟨MEM_PWR, 4, 2⟩, 2), (fMEM_OWNER_OWNER2, 1), (fTRC_NORM_K, 16384)] with
    tracts := [(0, { wasStopped := true, closeAt := some 0 })] }

/-- Refutes O40: in Sleep a tract that comes back from stopped closes with its cells left off. -/
theorem not_openHold : ¬ Obligations.OpenHold := by
  unfold Obligations.OpenHold
  intro h
  obtain ⟨-, -, -, -, -, hclose, -⟩ := h closingAsleep .host 0 0 0 0 0 .clean
  have hcommitted : (closingAsleep.tract (0 : Fin 64)).closeAt = some 0 := by decide +kernel
  have hheld : closingAsleep.loopState (0 : Fin 64) = 2 := by decide +kernel
  have hdue : closingAsleep.slotEndFrom (0 + 100) ≤ closingAsleep.now := by decide +kernel
  have hset : (closingAsleep.tract (0 : Fin 64)).closeSet ≤ 1 := by decide +kernel
  have hreads : closingAsleep.setReads (0 : Fin 64) (closingAsleep.tract (0 : Fin 64)).closeSet = true := by decide +kernel
  obtain ⟨-, hback⟩ := hclose hcommitted hheld hdue rfl hset hreads
  obtain ⟨-, -, -, hcells⟩ := (hback (by decide +kernel) (by decide +kernel) (by decide +kernel) (by decide +kernel)).after
  have hmode := hcells 0 (by decide +kernel) (by decide +kernel) (by decide +kernel)
  have hoff : (stateAfter (.loopClose 0 .clean) closingAsleep).mode 0 = 0 := by decide +kernel
  exact absurd (hoff.symm.trans hmode) (by decide)

end

section
/-!
SETTLED. The statement on the Ibsel commands that write (O60).
-/
open Sys2Proof Sys2Proof.Machine

/-- On a wake from Sleep, aon_state still reads Sleep and the core runs; mailbox channel 0 holds a request to take TELE to retention. -/
def memPowerOnWake : State :=
  withFields runningBlock
    [(fPST_STATE_STATE, 2), (fMBX_CST_STATE 0, 2), (⟨MBX_REQ 0 0, 0, 32⟩, 0x0B02), (⟨MBX_REQ 0 1, 0, 32⟩, 2),
     (⟨MBX_REQ 0 2, 0, 32⟩, 0x0105), (⟨MEM_PWR, 10, 2⟩, 2)]

/-- Refutes O60: the memory pages do not answer while aon_state reads Sleep, so that the write of MEM_POWER, accepted, leaves TELE on. -/
theorem not_ibselWrites : ¬ Obligations.IbselWrites := by
  unfold Obligations.IbselWrites
  intro h
  obtain ⟨-, -, -, -, -, -, -, -, -, -, -, -, -, -, -, -, -, -, -, -, -, -, -, -, -, -, -, -, -, -, -, -, -, -, -, -, -, hmem⟩ :=
    h memPowerOnWake 0 _ _ _ _ _ rfl rfl rfl rfl rfl
  have hholds : Holds memPowerOnWake (0 : Fin 8) 0x0B02 2 := by
    unfold Holds
    decide +kernel
  have hmay : ∀ w ∈ [(MEM_PWR, (0 : Word))], memPowerOnWake.fwMay w.1 = true := by decide +kernel
  obtain ⟨-, -, hpower, -⟩ := (hmem rfl hholds (by decide +kernel) hmay).after
  have hunit : memPowerOnWake.arg (0 : Fin 8) 0 1 = 5 := by decide +kernel
  have hstands : (stateAfter (.memPower 0) memPowerOnWake).memPower 5 = 2 := by decide +kernel
  rw [hunit, hstands] at hpower
  exact absurd hpower (by decide)

end

section
/-!
SUPPORT. Links, the duty pauses of a slot, and the wait of a header stage (chapter 05).
-/

namespace Sys2Proof.Machine

variable {s : State}

theorem tract_updTract_same (s : State) (t : Nat) (f : TractHid → TractHid) : (s.updTract t f).tract t = f (s.tract t) := by
  rw [tract_updTract, if_pos rfl]

theorem tract_updTract_ne (s : State) {t k : Nat} (f : TractHid → TractHid) (h : k ≠ t) : (s.updTract t f).tract k = s.tract k := by
  rw [tract_updTract, if_neg h]

/-- A state without its registers, the note of the instant and the history of its tracts. -/
def State.unregTracts (s : State) : State := { s with regs := [], cyc := {}, tracts := [] }

theorem unregTracts_put (s : State) (f : Fld) (n : Nat) : (s.put f n).unregTracts = s.unregTracts := rfl

theorem unregTracts_updTract (s : State) (t : Nat) (f : TractHid → TractHid) : (s.updTract t f).unregTracts = s.unregTracts := rfl

theorem onlyRegs_tracts {s u : State} {l : List Nat} (h : u.unregTracts = s.unregTracts) (hregs : ∀ o, o ∉ l → u.reg o = s.reg o) :
    OnlyRegs { s with tracts := u.tracts } u l :=
  onlyRegs_of (congrArg (fun v : State => { v with tracts := u.tracts }) h) hregs

/-! ### A link -/

theorem linkDue_iff (s : State) (t : Nat) : s.linkDue t = true ↔
    s.gateLive = true ∧ 0 < s.get (fCG_TSTAT_PEND t) ∧ s.gatePause t = false ∧ s.envHold = false ∧
      (∃ r, (s.tract t).reqs.head? = some r ∧ r.1 + 2 ≤ s.now) ∧ (∀ a, (s.tract t).lastLink = some a → a + s.ieff t ≤ s.now) ∧
      (s.on (fCG_TSTAT_BURST t) = true → s.gateCycles % max 1 (s.get fCG_CFG_SPAN) = s.get (fCG_STAG_OFFSET t) % max 1 (s.get fCG_CFG_SPAN)) := by
  unfold State.linkDue
  dsimp only
  cases hreqs : (s.tract t).reqs <;> cases hlast : (s.tract t).lastLink <;> cases hburst : s.on (fCG_TSTAT_BURST t) <;> simp [and_assoc]

/-- A link counted, and its request no longer pending (R35). -/
def State.linkCounted (s : State) (t : Nat) : State :=
  ((s.put (fCG_TSTAT_PEND t) (s.get (fCG_TSTAT_PEND t) - 1)).putB (fCG_TSTAT_BURST t) false).addSat fCG_LINK_CNT_COUNT 1

/-- A link granted, without its feed-forward. -/
def State.linkGranted (s : State) (t : Nat) : State :=
  (s.linkCounted t).updTract t fun h => { h with reqs := dropReq h.reqs, lastLink := some s.now }

/-- What an ISTEP adds to the loop of a tract at a link (R252). -/
def State.linkRun (s : State) (t : Nat) : FfRun :=
  { startAt := s.now + 10, vals := [roundAway (s.get (fCG_TRK_ISTEP t) * s.getI (fSO_TRK_FF_KFF t)) 64], inst := none }

theorem execGateLink_of_due {t : Fin 64} (h : s.linkDue t = true) : execGateLink t s = .next
    (if s.get (fCG_TRK_ISTEP t) = 0 then s.linkGranted t else (s.linkGranted t).addFf t (s.linkRun t)) :=
  congrArg Host.Outcome.next (if_pos h)

theorem get_linkCounted (s : State) (t : Nat) :
    (s.linkCounted t).get (fCG_TSTAT_PEND t) = s.get (fCG_TSTAT_PEND t) - 1 ∧ (s.linkCounted t).on (fCG_TSTAT_BURST t) = false ∧
      (s.linkCounted t).get fCG_LINK_CNT_COUNT = min (2 ^ 32 - 1) (s.get fCG_LINK_CNT_COUNT + 1) := by
  have hne : CG_TSTAT t ≠ CG_LINK_CNT := by simp only [CG_TSTAT, CG_LINK_CNT]; omega
  unfold State.linkCounted
  refine ⟨?_, ?_, ?_⟩
  · rw [State.addSat, get_put_reg _ _ (fCG_TSTAT_PEND t) _ hne,
      get_putB_apart _ (fCG_TSTAT_BURST t) (fCG_TSTAT_PEND t) _ rfl (by simp), get_put _ _ _ (by simp)]
    exact Nat.mod_eq_of_lt (Nat.lt_of_le_of_lt (Nat.sub_le _ _) (get_lt_pow _ _))
  · rw [State.on, State.addSat, get_put_reg _ _ (fCG_TSTAT_BURST t) _ hne]
    exact on_putB_same _ _ _ (by simp) rfl
  · rw [get_addSat _ _ _ (by decide), State.putB, get_put_reg _ _ fCG_LINK_CNT_COUNT _ hne.symm, get_put_reg _ _ fCG_LINK_CNT_COUNT _ hne.symm]
    rw [show fCG_LINK_CNT_COUNT.top = 2 ^ 32 - 1 from rfl]

theorem reg_linkCounted (s : State) {t o : Nat} (h : o ∉ [CG_TSTAT t, CG_LINK_CNT]) : (s.linkCounted t).reg o = s.reg o := by
  simp only [List.mem_cons, List.not_mem_nil, or_false, not_or] at h
  unfold State.linkCounted
  rw [State.addSat, State.putB, reg_put_ne _ _ _ _ h.2, reg_put_ne _ _ _ _ h.1, reg_put_ne _ _ _ _ h.1]

theorem reg_linkGranted (s : State) (t o : Nat) : (s.linkGranted t).reg o = (s.linkCounted t).reg o := reg_updTract _ _ _ _

theorem get_linkGranted (s : State) (t : Nat) (f : Fld) : (s.linkGranted t).get f = (s.linkCounted t).get f := get_of_reg f (reg_linkGranted _ _ _)

theorem on_linkGranted (s : State) (t : Nat) (f : Fld) : (s.linkGranted t).on f = (s.linkCounted t).on f := on_of_reg f (reg_linkGranted _ _ _)

theorem tract_linkGranted (s : State) (t : Nat) :
    (s.linkGranted t).tract t = { s.tract t with lastLink := some s.now, reqs := dropReq (s.tract t).reqs } := tract_updTract_same _ _ _

theorem tract_linkGranted_ne (s : State) {t k : Nat} (h : k ≠ t) : (s.linkGranted t).tract k = s.tract k := tract_updTract_ne _ _ h

theorem unregTracts_linkGranted (s : State) (t : Nat) : (s.linkGranted t).unregTracts = s.unregTracts := by
  unfold State.linkGranted State.linkCounted
  rw [unregTracts_updTract, State.addSat, State.putB, unregTracts_put, unregTracts_put, unregTracts_put]

theorem reg_addFf (s : State) (r : FfRun) {t o : Nat} (h : o ≠ SO_TRK_STAT t) : (s.addFf t r).reg o = s.reg o :=
  reg_put_ne _ _ _ _ h

theorem unregTracts_addFf (s : State) (t : Nat) (r : FfRun) : (s.addFf t r).unregTracts = s.unregTracts := rfl

theorem tract_addFf (s : State) (t : Nat) (r : FfRun) : (s.addFf t r).tract t = { s.tract t with ff := (s.tract t).ff ++ [r] } :=
  tract_updTract_same s t fun h => { h with ff := (s.tract t).ff ++ [r] }

theorem tract_addFf_ne (s : State) {t k : Nat} (r : FfRun) (h : k ≠ t) : (s.addFf t r).tract k = s.tract k :=
  tract_updTract_ne s (fun g => { g with ff := (s.tract t).ff ++ [r] }) h

/-! ### The slots of the duty pauses -/

/-- A tract at the boundary that begins a slot: its duty, and whether the slot is one of its pauses (R255-R257). -/
def State.slotTract (no : Nat) (s : State) (t : Nat) : State :=
  (s.put (fCG_TSTAT_DUTY t) (s.dutyDemand t)).updTract t fun h =>
    { h with dutyPause := decide (rev5 ((no % 32 + 4 * s.get (fCG_STAG_OFFSET t)) % 32) < s.dutyDemand t) }

theorem reg_slotTract (no : Nat) (s : State) {t o : Nat} (h : o ≠ CG_TSTAT t) : (State.slotTract no s t).reg o = s.reg o :=
  (reg_updTract _ _ _ _).trans (reg_put_ne _ _ _ _ h)

theorem tract_slotTract_ne (no : Nat) (s : State) {t k : Nat} (h : k ≠ t) : (State.slotTract no s t).tract k = s.tract k := tract_updTract_ne _ _ h

theorem duty_lt (s : State) (t : Nat) : s.dutyDemand t < 32 := by
  unfold State.dutyDemand
  extract_lets
  omega

/-- The pause duty that a tract is asked for rests on registers and on two figures of the tract. -/
theorem dutyDemand_congr {s u : State} {t : Nat} (hregs : ∀ o, (∀ k, k < 64 → o ≠ CG_TSTAT k) → u.reg o = s.reg o) (htract : u.tract t = s.tract t)
    (hcap : u.cap = s.cap) (hshed : u.shedding = s.shedding) : u.dutyDemand t = s.dutyDemand t := by
  have hget : ∀ f : Fld, (∀ k, k < 64 → f.off ≠ CG_TSTAT k) → u.get f = s.get f := fun f hf => get_of_reg f (hregs f.off hf)
  have hdom : u.domOf t = s.domOf t := hget _ (by simp only [DOM_MAP, CG_TSTAT]; omega)
  have hgrade : (if s.domOf t < 32 then u.get (fCAP_DGRADE_PAUSE (s.domOf t)) else 0) =
      if s.domOf t < 32 then s.get (fCAP_DGRADE_PAUSE (s.domOf t)) else 0 := by
    split
    · exact hget _ (by simp only [CAP_DGRADE, CG_TSTAT]; omega)
    · rfl
  unfold State.dutyDemand
  rw [hdom, htract, hcap, hshed]
  dsimp only
  rw [hgrade, hget fCAP_THR_NPIN (by simp only [CAP_THR, CG_TSTAT]; omega),
    hget (fTHM_TDUTY_N t) (by simp only [THM_TDUTY, CG_TSTAT]; omega)]

/-- Every tract at the boundary that begins a slot. -/
def State.slotTracts (s : State) (no : Nat) : State := (upTo 64).foldl (State.slotTract no) s

/-- After the tracts of a slot are done: of the registers only those of links, and each tract as its own step leaves it. -/
theorem slotTracts_spec (no : Nat) (s : State) :
    (s.slotTracts no).unregTracts = s.unregTracts ∧
      (∀ o, o ∉ (upTo 64).map CG_TSTAT → (s.slotTracts no).reg o = s.reg o) ∧
      ∀ k, k < 64 → (s.slotTracts no).get (fCG_TSTAT_DUTY k) = s.dutyDemand k ∧
        (s.slotTracts no).tract k =
          { s.tract k with dutyPause := decide (rev5 ((no % 32 + 4 * s.get (fCG_STAG_OFFSET k)) % 32) < s.dutyDemand k) } := by
  have hreg : ∀ (l : List Nat) (o : Nat) (u : State), o ∉ l.map CG_TSTAT → (l.foldl (State.slotTract no) u).reg o = u.reg o :=
    fun l o u h => foldl_keeps (fun u => u.reg o) (fun u t ht => reg_slotTract (o := o) no u fun he => h (he ▸ List.mem_map_of_mem ht)) u
  have hfar : ∀ o, (∀ k, k < 64 → o ≠ CG_TSTAT k) → o ∉ (upTo 64).map CG_TSTAT := by
    intro o h hm
    obtain ⟨k, hk, rfl⟩ := List.mem_map.mp hm
    exact h k (mem_upTo.mp hk) rfl
  refine ⟨foldl_keeps State.unregTracts (fun u t _ => (unregTracts_updTract _ _ _).trans (unregTracts_put u _ _)) s, fun o h => hreg _ o s h, fun k hk => ?_⟩
  · have hat : ∀ {γ : Type} (g : State → γ), (∀ a j, j < 64 → j ≠ k → g (State.slotTract no a j) = g a) →
        g (s.slotTracts no) = g (State.slotTract no ((upTo k).foldl (State.slotTract no) s) k) :=
      fun g hg => foldl_upTo_at g hk hg s
    generalize hu : (upTo k).foldl (State.slotTract no) s = u at hat
    have hkeep : ∀ o, (∀ j, j < 64 → o ≠ CG_TSTAT j) → u.reg o = s.reg o := by
      intro o h
      rw [← hu]
      refine hreg _ o s fun hm => ?_
      obtain ⟨j, hj, rfl⟩ := List.mem_map.mp hm
      exact h j (by have := mem_upTo.mp hj; omega) rfl
    have htract : u.tract k = s.tract k := by
      rw [← hu]
      exact foldl_keeps (l := upTo k) (fun u => u.tract k) (fun u t ht => tract_slotTract_ne (k := k) (t := t) no u (by have := mem_upTo.mp ht; omega)) s
    have hduty : u.dutyDemand k = s.dutyDemand k := by
      refine dutyDemand_congr hkeep htract ?_ (on_of_reg _ (hkeep _ (by simp only [IBS_STATE, CG_TSTAT]; omega)))
      rw [← hu]
      exact foldl_keeps (f := State.slotTract no) (l := upTo k) State.cap (fun _ _ _ => rfl) s
    have hstag : u.get (fCG_STAG_OFFSET k) = s.get (fCG_STAG_OFFSET k) := get_of_reg _ (hkeep _ (by simp only [CG_STAG, CG_TSTAT]; omega))
    constructor
    · rw [hat (fun u => u.get (fCG_TSTAT_DUTY k)) fun a j hj hne => get_of_reg _ (reg_slotTract no a (by simp only [CG_TSTAT]; omega)), State.slotTract,
        get_of_reg (fCG_TSTAT_DUTY k) (reg_updTract _ _ _ _), get_put _ _ _ (by simp), hduty]
      exact Nat.mod_eq_of_lt (duty_lt s k)
    · rw [hat (fun u => u.tract k) fun a j _ hne => tract_slotTract_ne no a hne.symm, State.slotTract, tract_updTract_same, hstag, hduty]
      rw [show (u.put (fCG_TSTAT_DUTY k) (s.dutyDemand k)).tract k = s.tract k from htract]

/-! ### The wait of a header stage -/

/-- A header stage that waits for loaded neighbours, from this instant for 1 us (R261). -/
def State.stageHeld (s : State) (d : Nat) (h : DomHid) : DomHid :=
  { h with loaded := (s.neighbours d).filter s.isLoaded, waitCheck := s.now + 1000, waitFrom := some (h.waitFrom.getD s.now) }

/-- A header stage that proceeds at quarter speed (R262). -/
def stageSlow (h : DomHid) : DomHid := { h with stageOk := true, loaded := [], waitFrom := none, slow := true }

/-! ### The commands -/

/-- What a link does (R35, R252, R253). -/
theorem gateLink_spec {t : Fin 64} (h : s.linkDue t = true) : Runs (.gateLink t) s fun u =>
    u.get (fCG_TSTAT_PEND t) = s.get (fCG_TSTAT_PEND t) - 1 ∧ u.on (fCG_TSTAT_BURST t) = false ∧
    u.get fCG_LINK_CNT_COUNT = min (2 ^ 32 - 1) (s.get fCG_LINK_CNT_COUNT + 1) ∧
    u.tract t = { s.tract t with lastLink := some s.now, reqs := dropReq (s.tract t).reqs, ff := (u.tract t).ff } ∧
    (s.get (fCG_TRK_ISTEP t) = 0 → (u.tract t).ff = (s.tract t).ff ∧ u.reg (SO_TRK_STAT t) = s.reg (SO_TRK_STAT t)) ∧
    (s.get (fCG_TRK_ISTEP t) ≠ 0 → (u.tract t).ff = (s.tract t).ff ++ [s.linkRun t]) ∧
    OnlyRegs { s with tracts := u.tracts } u [CG_TSTAT t, CG_LINK_CNT, SO_TRK_STAT t] ∧ ∀ k, k ≠ t.val → u.tract k = s.tract k := by
  have hpath : ∀ o, o = CG_TSTAT t ∨ o = CG_LINK_CNT → o ≠ SO_TRK_STAT t := by
    simp only [CG_TSTAT, CG_LINK_CNT, SO_TRK_STAT]
    omega
  obtain ⟨hpend, hburst, hcount⟩ := get_linkCounted s t
  refine ⟨_, execGateLink_of_due h, ?_⟩
  split
  · next hz =>
    refine ⟨(get_linkGranted s t _).trans hpend, (on_linkGranted s t _).trans hburst, (get_linkGranted s t _).trans hcount, ?_, fun _ => ⟨?_, ?_⟩,
      fun hn => absurd hz hn, onlyRegs_tracts (unregTracts_linkGranted s t) fun o ho => ?_, fun k hk => tract_linkGranted_ne s hk⟩
    · rw [tract_linkGranted]
    · rw [tract_linkGranted]
    · rw [reg_linkGranted, reg_linkCounted]
      grind
    · rw [reg_linkGranted]
      exact reg_linkCounted s (by grind)
  · next hz =>
    have hget : ∀ f : Fld, f.off = CG_TSTAT t ∨ f.off = CG_LINK_CNT → ((s.linkGranted t).addFf t (s.linkRun t)).get f = (s.linkCounted t).get f :=
      fun f hf => (get_of_reg f (reg_addFf _ _ (hpath _ hf))).trans (get_linkGranted s t f)
    refine ⟨(hget _ (.inl rfl)).trans hpend, ?_, (hget _ (.inr rfl)).trans hcount, ?_, fun hn => absurd hn hz, fun _ => ?_,
      onlyRegs_tracts ((unregTracts_addFf _ _ _).trans (unregTracts_linkGranted s t)) fun o ho => ?_, fun k hk => ?_⟩
    · rw [State.on, hget _ (.inl rfl)]
      exact hburst
    · rw [tract_addFf, tract_linkGranted]
    · rw [tract_addFf, tract_linkGranted]
    · rw [reg_addFf _ _ (by grind), reg_linkGranted]
      exact reg_linkCounted s (by grind)
    · rw [tract_addFf_ne _ _ hk, tract_linkGranted_ne s hk]

theorem linkDue_eq_false {t : Nat} (h : s.gatePause t = true ∨ s.envHold = true ∨ s.get (fCG_TSTAT_PEND t) = 0) : s.linkDue t = false := by
  rw [Bool.eq_false_iff]
  intro hdue
  obtain ⟨_, hpend, hpause, henv, _⟩ := (linkDue_iff s t).mp hdue
  rcases h with h | h | h
  · rw [h] at hpause
    cases hpause
  · rw [h] at henv
    cases henv
  · omega

theorem execPauseSlot_of_boundary (hclk : s.lclk = true) (hslot : s.cg.slotNo ≠ some (s.gateCycles / max 1 (s.get fCG_CFG_PSLOT))) :
    execPauseSlot s = .next (({ s with cg := { s.cg with slotNo := some (s.gateCycles / max 1 (s.get fCG_CFG_PSLOT)) } } : State).slotTracts
      (s.gateCycles / max 1 (s.get fCG_CFG_PSLOT))) :=
  congrArg Host.Outcome.next (if_pos (by simp [hclk, hslot]))

/-- A domain whose header stage is compared: the rest of the state is that of events. -/
theorem onlyEvents_updDom (s : State) (d : Nat) (f : DomHid → DomHid) (e : Ev) (i n : Nat) :
    ((s.updDom d f).raiseD e i n).dom d = f (s.dom d) ∧ (∀ k, k ≠ d → ((s.updDom d f).raiseD e i n).dom k = s.dom k) ∧
      OnlyEvents { s with doms := ((s.updDom d f).raiseD e i n).doms } ((s.updDom d f).raiseD e i n) (eventRegs e.block) := by
  have hdoms : ∀ k, ((s.updDom d f).raiseD e i n).dom k = (s.updDom d f).dom k := fun k => by unfold State.dom; rw [State.raiseD_doms]
  refine ⟨(hdoms d).trans (dom_updDom_same _ _ _), fun k hk => (hdoms k).trans (dom_updDom_ne _ _ hk), onlyEvents_of ?_ fun o ho => ?_⟩
  · rw [State.raiseD_doms]
    exact bare_raiseD _ _ _ _
  · exact sameRegs_raiseD _ _ _ _ o ho

theorem inrushCompare_clear {d : Fin 32} (hwait : s.stageWaits d = true) (hdue : ∀ a, (s.dom d).waitFrom = some a → (s.dom d).waitCheck ≤ s.now)
    (hload : (s.neighbours d).filter s.isLoaded = []) : execInrushCompare d s =
      .next (s.updDom d fun h => { h with stageOk := true, loaded := [], waitFrom := none, slow := false }) := by
  unfold execInrushCompare
  dsimp only
  rw [if_pos]
  · rw [hload]
  · rw [hwait, Bool.true_and]
    split
    · rfl
    · next a ha => exact decide_eq_true (hdue a ha)

/-- A stage compared while a neighbour is loaded waits (R260, R261). -/
theorem inrushCompare_loaded {d : Fin 32} (hwait : s.stageWaits d = true) (hdue : ∀ a, (s.dom d).waitFrom = some a → (s.dom d).waitCheck ≤ s.now)
    (hload : (s.neighbours d).filter s.isLoaded ≠ []) : Runs (.inrushCompare d) s fun u =>
      u.dom d = { s.dom d with loaded := (s.neighbours d).filter s.isLoaded, waitCheck := s.now + 1000
                               waitFrom := some ((s.dom d).waitFrom.getD s.now) } ∧
      ((s.dom d).waitFrom = none → u.stat evCG_INRUSH_WAIT = true) ∧
      (∀ k, k ≠ d.val → u.dom k = s.dom k) ∧ OnlyEvents { s with doms := u.doms } u (eventRegs 7) := by
  obtain ⟨t, ts, hl⟩ := List.exists_cons_of_ne_nil hload
  have hexec : execInrushCompare d s = .next
      (if (s.dom d).waitFrom.isNone then (s.updDom d (State.stageHeld s d)).raiseD evCG_INRUSH_WAIT t ((s.updDom d (State.stageHeld s d)).cgWord t)
      else s.updDom d (State.stageHeld s d)) := by
    unfold execInrushCompare
    dsimp only
    rw [if_pos]
    · unfold State.stageHeld
      rw [hl]
    · rw [hwait, Bool.true_and]
      split
      · rfl
      · next a ha => exact decide_eq_true (hdue a ha)
  refine ⟨_, hexec, ?_⟩
  split
  · obtain ⟨hd, hk, he⟩ := onlyEvents_updDom s d (State.stageHeld s d) evCG_INRUSH_WAIT t ((s.updDom d (State.stageHeld s d)).cgWord t)
    exact ⟨hd, fun _ => stat_raiseD_same _ _ _ _ (by decide), hk, he⟩
  · next hn =>
    exact ⟨dom_updDom_same _ _ _, fun h => absurd (by rw [h]; rfl) hn, fun k hk => dom_updDom_ne _ _ hk, onlyEvents_of rfl fun _ _ => rfl⟩

/-- A stage that has waited for CG_INRUSH.WAIT proceeds at quarter speed (R262, R263). -/
theorem inrushWaitExpiry_spec {d : Fin 32} {a : Nat} (hwait : s.stageWaits d = true) (ha : (s.dom d).waitFrom = some a)
    (hdue : a + 1000 * s.get fCG_INRUSH_WAIT ≤ s.now) : Runs (.inrushWaitExpiry d) s fun u =>
      u.dom d = { s.dom d with stageOk := true, loaded := [], waitFrom := none, slow := true } ∧
      u.stat evCG_INRUSH_SLOW = true ∧ (∀ k, k ≠ d.val → u.dom k = s.dom k) ∧ OnlyEvents { s with doms := u.doms } u (eventRegs 7) := by
  have hexec : execInrushWaitExpiry d s = .next ((s.updDom d stageSlow).raiseD evCG_INRUSH_SLOW ((s.dom d).loaded.headD 0xFFFF)
      ((s.updDom d stageSlow).cgWord ((s.dom d).loaded.headD 0xFFFF))) := by
    unfold execInrushWaitExpiry
    dsimp only
    rw [ha, hwait]
    dsimp only
    rw [if_pos (by simpa using hdue)]
    rfl
  obtain ⟨hd, hk, he⟩ := onlyEvents_updDom s d stageSlow evCG_INRUSH_SLOW ((s.dom d).loaded.headD 0xFFFF)
    ((s.updDom d stageSlow).cgWord ((s.dom d).loaded.headD 0xFFFF))
  exact ⟨_, hexec, hd, stat_raiseD_same _ _ _ _ (by decide), hk, he⟩

end Sys2Proof.Machine
end

section
/-! SETTLED. Links and pauses (O33). -/

open Sys2Proof Sys2Proof.Machine

/-- Settles O33: each clause is the rule of its command. -/
theorem linksAndPauses : Obligations.LinksAndPauses := by
  intro s t d
  refine ⟨linkDue_iff s t, gateLink_spec, fun h => ?_, fun hclk hslot => ?_, fun hwait hdue => ⟨?_, ?_⟩, fun a hwait ha hdue => ?_⟩
  · exact congrArg Host.Outcome.next (if_neg (by simp [linkDue_eq_false h]))
  · obtain ⟨hrest, hregs, htracts⟩ := slotTracts_spec (s.gateCycles / max 1 (s.get fCG_CFG_PSLOT))
      { s with cg := { s.cg with slotNo := some (s.gateCycles / max 1 (s.get fCG_CFG_PSLOT)) } }
    exact ⟨_, execPauseSlot_of_boundary hclk hslot, htracts, onlyRegs_tracts hrest hregs⟩
  · exact inrushCompare_clear hwait hdue
  · exact inrushCompare_loaded hwait hdue
  · exact inrushWaitExpiry_spec hwait ha hdue

end

section
/-!
SUPPORT. Bits of a word that a write leaves or takes, and a write that answers (Tables 0.4, 14.8).
-/

namespace Sys2Proof.Machine

variable {s t : State}

/-! ### Bits of a word -/

theorem bitsAt_congr {v w : Word} {lo n : Nat} (h : ∀ i, i < n → v.getLsbD (lo + i) = w.getLsbD (lo + i)) : bitsAt v lo n = bitsAt w lo n := by
  apply Nat.eq_of_testBit_eq
  intro i
  rw [testBit_bitsAt, testBit_bitsAt]
  by_cases hi : i < n
  · rw [h i hi]
  · rw [decide_eq_false hi, Bool.false_and, Bool.false_and]

/-- Bits that a mask takes from the second of two words. -/
theorem bitsAt_merge (r y : Word) {m : Word} {lo n : Nat} (h : ∀ i, i < n → m.getLsbD (lo + i) = true) :
    bitsAt ((r &&& ~~~m) ||| (y &&& m)) lo n = bitsAt y lo n :=
  bitsAt_congr fun i hi => by simp [h i hi]

theorem bitsAt_and (y : Word) {m : Word} {lo n : Nat} (h : ∀ i, i < n → m.getLsbD (lo + i) = true) : bitsAt (y &&& m) lo n = bitsAt y lo n :=
  bitsAt_congr fun i hi => by simp [h i hi]

theorem bitsAt_or (y : Word) {m : Word} {lo n : Nat} (h : ∀ i, i < n → m.getLsbD (lo + i) = false) : bitsAt (y ||| m) lo n = bitsAt y lo n :=
  bitsAt_congr fun i hi => by simp [h i hi]

/-! ### What an access that answers leaves -/

theorem OnlyRegs.okay {l : List Nat} (h : OnlyRegs s t l) : OnlyRegs { s with bus := { slverr := false, data := 0 } } (t.okay 0) l := by
  obtain ⟨⟨r, c, rfl⟩, hregs⟩ := h
  exact ⟨⟨r, c, rfl⟩, hregs⟩

/-- A state without its registers, the note of the instant and the converters. -/
def State.unregAdc (s : State) : State := { s with regs := [], cyc := {}, adc := {} }

theorem onlyRegs_adc {l : List Nat} (h : t.unregAdc = s.unregAdc) (hregs : ∀ o, o ∉ l → t.reg o = s.reg o) : OnlyRegs { s with adc := t.adc } t l :=
  onlyRegs_of (congrArg (fun v : State => { v with adc := t.adc }) h) hregs

/-- A state without what events touch and the converters. -/
def State.bareAdc (s : State) : State := { s.bare with adc := {} }

theorem onlyEvents_adc {l : List Nat} (h : t.bareAdc = s.bareAdc) (hregs : ∀ o, o ∉ l → t.reg o = s.reg o) : OnlyEvents { s with adc := t.adc } t l :=
  onlyEvents_of (congrArg (fun v : State => { v with adc := t.adc }) h) hregs

theorem bareAdc_raise (s : State) (e : Ev) (i : Nat) : (s.raise e i).bareAdc = s.bareAdc := congrArg (fun x : State => { x with adc := {} }) (bare_raise s e i)

theorem bareAdc_updAdc (s : State) (f : AdcHid → AdcHid) : (s.updAdc f).bareAdc = s.bareAdc := rfl

theorem bareAdc_setReg (s : State) (o : Nat) (v : Word) : (s.setReg o v).bareAdc = s.bareAdc := rfl

theorem unreg_hostMark (s : State) (core : Bool) (o : Nat) (m : Word) : (s.hostMark core o m).unreg = s.unreg := by
  obtain ⟨c, hc⟩ := hostMark_eq s core o m
  rw [hc]
  rfl

theorem bare_hostMark (s : State) (core : Bool) (o : Nat) (m : Word) : (s.hostMark core o m).bare = s.bare := by
  obtain ⟨c, hc⟩ := hostMark_eq s core o m
  rw [hc]
  rfl

theorem reg_hostMark (s : State) (core : Bool) (o : Nat) (m : Word) (x : Nat) : (s.hostMark core o m).reg x = s.reg x := by
  obtain ⟨c, hc⟩ := hostMark_eq s core o m
  rw [hc]
  rfl

theorem adc_hostMark (s : State) (core : Bool) (o : Nat) (m : Word) : (s.hostMark core o m).adc = s.adc := by
  obtain ⟨c, hc⟩ := hostMark_eq s core o m
  rw [hc]

end Sys2Proof.Machine
end

section
/-!
SUPPORT. Calibration of the converters: the write that begins a step, its conversions, and its end (R503-R506).
-/

namespace Sys2Proof.Machine

variable {s t : State}

/-! ### Converters -/

theorem conv_updConv (s : State) (k j : Nat) (f : ConvHid → ConvHid) : (s.updConv k f).conv j = if j = k then f (s.conv k) else s.conv j :=
  tblGet_set _ _ _ _ _

theorem conv_updConv_same (s : State) (k : Nat) (f : ConvHid → ConvHid) : (s.updConv k f).conv k = f (s.conv k) := by
  rw [conv_updConv, if_pos rfl]

theorem conv_updConv_ne (s : State) {k j : Nat} (f : ConvHid → ConvHid) (h : j ≠ k) : (s.updConv k f).conv j = s.conv j := by
  rw [conv_updConv, if_neg h]

theorem conv_congr (h : t.adc = s.adc) (k : Nat) : t.conv k = s.conv k := by unfold State.conv; rw [h]

theorem seqBusy_congr {k : Nat} (h : t.reg (ADC_SSTAT k) = s.reg (ADC_SSTAT k)) (inj : Bool) : t.seqBusy k inj = s.seqBusy k inj := by
  unfold State.seqBusy
  rw [on_of_reg (fADC_SSTAT_IRUN k) h, on_of_reg (fADC_SSTAT_IDUE k) h, on_of_reg (fADC_SSTAT_RUN k) h, on_of_reg (fADC_SSTAT_DUE k) h]

/-! ### The write of ADC_CALCMD -/

/-- What a write of ADC_CALCMD stores: an index above 47 counts as 47 (R503). -/
theorem limited_calCmd (s : State) (v : Word) : s.limited ADC_CALCMD v = setBits v 0 6 (clampN 0 47 (bitsAt v 0 6)) := by
  have hsplit : clamps1 ++ clamps2 = (clamps1 ++ clamps2).take 40 ++ ⟨ADC_CALCMD, 1, 4, 0, 6, 0, 47⟩ :: (clamps1 ++ clamps2).drop 41 := by decide
  have hnone : ∀ c ∈ (clamps1 ++ clamps2).take 40 ++ (clamps1 ++ clamps2).drop 41, arrayIx c.base c.stride c.count ADC_CALCMD = none := by
    decide +kernel
  have hfields : limitFields ADC_CALCMD v = setBits v 0 6 (clampN 0 47 (bitsAt v 0 6)) := by
    unfold limitFields
    rw [hsplit, List.foldl_append, List.foldl_cons, foldl_clamp_of_none _ _ _ fun c hc => hnone c (List.mem_append_left _ hc),
      foldl_clamp_of_none _ _ _ fun c hc => hnone c (List.mem_append_right _ hc)]
    rfl
  unfold State.limited
  rw [hfields]
  rfl

/-- A write of GO with a step, as it reaches the register. -/
def calAsk (v : Word) (step : Nat) : Word := setBits v 8 2 step ||| 0x80000000#32

/-- The word that a write of GO with a step stores in ADC_CALCMD. -/
def State.calWord (s : State) (v : Word) (step : Nat) : Word :=
  s.limited ADC_CALCMD ((s.reg ADC_CALCMD &&& ~~~0x3FF#32) ||| (calAsk v step &&& 0x3FF#32))

theorem calWord_fields (s : State) (v : Word) {step : Nat} (h : step < 4) :
    bitsAt (s.calWord v step) 0 6 = min 47 (bitsAt v 0 6) ∧ bitsAt (s.calWord v step) 6 2 = bitsAt v 6 2 ∧ bitsAt (s.calWord v step) 8 2 = step := by
  have hmask : ∀ i, i < 10 → (0x3FF#32).getLsbD i = true := by decide
  have hgo : ∀ i, i < 10 → (0x80000000#32).getLsbD i = false := by decide
  have hask : ∀ lo n, lo + n ≤ 10 → bitsAt ((s.reg ADC_CALCMD &&& ~~~0x3FF#32) ||| (calAsk v step &&& 0x3FF#32)) lo n = bitsAt (setBits v 8 2 step) lo n := by
    intro lo n hn
    rw [bitsAt_merge _ _ fun i hi => hmask _ (by omega), calAsk, bitsAt_or _ fun i hi => hgo _ (by omega)]
  have hindex : bitsAt ((s.reg ADC_CALCMD &&& ~~~0x3FF#32) ||| (calAsk v step &&& 0x3FF#32)) 0 6 = bitsAt v 0 6 := by
    rw [hask 0 6 (by omega), bitsAt_setBits_apart _ _ _ _ _ _ (by omega)]
  unfold State.calWord
  rw [limited_calCmd]
  refine ⟨?_, ?_, ?_⟩
  · rw [bitsAt_setBits _ _ _ _ (by omega), hindex, clampN]
    omega
  · rw [bitsAt_setBits_apart _ _ _ _ _ _ (by omega), hask 6 2 (by omega), bitsAt_setBits_apart _ _ _ _ _ _ (by omega)]
  · rw [bitsAt_setBits_apart _ _ _ _ _ _ (by omega), hask 8 2 (by omega), bitsAt_setBits _ _ _ _ (by omega)]
    omega

theorem calWrite_served (p : Port) (v : Word) (step : Nat) (hs : Served p ADC_CALCMD s) :
    s.calWrite p v step = .next (((s.hostMark (p = .core) ADC_CALCMD 0x800003FF#32).writeCal true (s.calWord v step)).okay 0) := by
  have hbits : s.writeBits ⟨0x3FF#32, 0, 0, 0x80000000#32⟩ ADC_CALCMD (calAsk v step) = calAsk v step := by
    change calAsk v step &&& ~~~(0#32 &&& _) = calAsk v step
    rw [BitVec.zero_and, BitVec.not_zero, BitVec.and_allOnes]
  have hgo : bitsAt (calAsk v step) 31 1 = 1 := by
    have hlt : bitsAt (calAsk v step) 31 1 < 2 := Nat.mod_lt _ (by decide)
    have hne : bitsAt (calAsk v step) 31 1 ≠ 0 := bitsAt_or_bit _ 31 (by decide)
    omega
  have hstore (u : State) (w : Word) : u.storeIn (p = .core) 16 ADC_CALCMD w (calAsk v step) = u.writeCal true w := by
    change u.storeAdc ADC_CALCMD w (calAsk v step) = _
    unfold State.storeAdc
    rw [if_neg (by decide), if_neg (by decide), if_pos rfl, hgo, decide_eq_true rfl]
  have hclear (w : Word) : w &&& ~~~(calAsk v step &&& 0) = w := by
    change w &&& ~~~(calAsk v step &&& 0#32) = w
    rw [BitVec.and_zero, BitVec.not_zero, BitVec.and_allOnes]
  change s.portWrite p ADC_CALCMD (calAsk v step) = _
  rw [portWrite_in s p ADC_CALCMD (calAsk v step) 16 ⟨0x3FF#32, 0, 0, 0x80000000#32⟩ hs (by decide) (by decide) (by decide) (by decide +kernel) rfl
    (by decide +kernel) (by decide +kernel) (by decide), hbits, hstore]
  dsimp only
  rw [if_neg (by decide), show (0x3FF#32 ||| 0x80000000#32 : Word) = 0x800003FF#32 by decide]
  rw [hclear]
  rfl

/-! ### What a step of calibration begins with -/

/-- A converter ready for the conversions of a step. -/
def calReady (c : ConvHid) : ConvHid := { c with calOn := true, calSum := 0, calCnt := 0 }

/-- A step begun on converters (R503, R504). -/
def State.calArmed (t : State) (l : List Nat) (step m : Nat) : State :=
  ((l.foldl (fun u k => u.updConv k calReady) t).updAdc fun a => { a with calStep := step, calIdx := m, calRange := false }).putB fADC_STATE_CAL_BUSY true

theorem conv_calReady (l : List Nat) (hl : l.Nodup) (t : State) (j : Nat) :
    (l.foldl (fun u k => u.updConv k calReady) t).conv j = if j ∈ l then calReady (t.conv j) else t.conv j := by
  induction l generalizing t with
  | nil => rfl
  | cons k l ih =>
    obtain ⟨hk, hl⟩ := List.nodup_cons.mp hl
    rw [List.foldl_cons, ih hl, conv_updConv]
    by_cases hj : j = k
    · subst hj
      simp [hk]
    · simp [hj]

theorem calArmed_spec (t : State) (l : List Nat) (step m : Nat) (hl : l.Nodup) :
    (t.calArmed l step m).on fADC_STATE_CAL_BUSY = true ∧ (t.calArmed l step m).adc.calStep = step ∧ (t.calArmed l step m).adc.calIdx = m ∧
      (∀ j, (t.calArmed l step m).conv j = if j ∈ l then calReady (t.conv j) else t.conv j) ∧
      (t.calArmed l step m).unregAdc = t.unregAdc ∧ ∀ o, o ≠ ADC_STATE → (t.calArmed l step m).reg o = t.reg o :=
  ⟨on_putB_same _ _ _ (by decide) rfl, rfl, rfl, conv_calReady l hl t, foldl_keeps (f := fun u k => State.updConv u k calReady) (l := l) State.unregAdc (fun _ _ _ => rfl) t,
    fun o h => (reg_putB_ne _ _ _ _ h).trans (foldl_keeps (f := fun u k => State.updConv u k calReady) (l := l) (fun u => u.reg o) (fun _ _ _ => rfl) t)⟩

/-- The converters that a value of CONV selects. -/
def calPicks (c : Nat) : List Nat := (upTo 2).filter fun j => bitN c j

theorem mem_calPicks {c j : Nat} : j ∈ calPicks c ↔ j < 2 ∧ bitN c j = true := by
  rw [calPicks, List.mem_filter, mem_upTo]

theorem nodup_calPicks (c : Nat) : (calPicks c).Nodup := List.nodup_range.filter _

theorem calPicks_ne_nil {c : Nat} (hlt : c < 4) (h : c ≠ 0) : calPicks c ≠ [] := by
  obtain rfl | rfl | rfl : c = 1 ∨ c = 2 ∨ c = 3 := by omega
  all_goals decide

/-! ### GO judged -/

section
variable {u : State} {w : Word} {c step m : Nat} (hindex : bitsAt w 0 6 = m) (hconv : bitsAt w 6 2 = c) (hstep : bitsAt w 8 2 = step)
include hindex hconv hstep

theorem calCmd_stored : (u.setReg ADC_CALCMD w).get fADC_CALCMD_INDEX = m ∧ (u.setReg ADC_CALCMD w).calSel = calPicks c ∧
    (u.setReg ADC_CALCMD w).get fADC_CALCMD_STEP = step := by
  refine ⟨?_, ?_, ?_⟩
  · rw [get_setReg, if_pos rfl]
    exact hindex
  · unfold State.calSel calPicks
    rw [get_setReg, if_pos rfl]
    exact congrArg (fun x => (upTo 2).filter fun j => bitN x j) hconv
  · rw [get_setReg, if_pos rfl]
    exact hstep

theorem calAble_stored (k : Nat) : (u.setReg ADC_CALCMD w).calAble k = (decide (step ≠ 2) || (tblGet (fun _ => none) u.adc.held (64 * k + m)).isSome) := by
  obtain ⟨hi, -, hs⟩ := calCmd_stored hindex hconv hstep (u := u)
  unfold State.calAble
  rw [hi, hs]
  rfl

theorem calBarred_stored : (u.setReg ADC_CALCMD w).calBarred = ((calPicks c).isEmpty || ((calPicks c).any fun k => u.seqBusy k false || u.seqBusy k true)
    || (decide (step ≠ 0) && (!((calPicks c).any fun k => decide (step ≠ 2) || (tblGet (fun _ => none) u.adc.held (64 * k + m)).isSome) ||
      u.on fADC_STATE_CAL_BUSY))) := by
  obtain ⟨-, hsel, hs⟩ := calCmd_stored hindex hconv hstep (u := u)
  have hbusy : ∀ k inj, (u.setReg ADC_CALCMD w).seqBusy k inj = u.seqBusy k inj :=
    fun k => seqBusy_congr (reg_setReg_ne _ _ _ _ (by simp only [ADC_SSTAT, ADC_CALCMD]; omega))
  unfold State.calBarred
  rw [hsel, hs, on_of_reg fADC_STATE_CAL_BUSY (reg_setReg_ne _ _ _ _ (by decide)), funext (calAble_stored hindex hconv hstep)]
  simp only [hbusy]

theorem calBarred_of_quiet (hc : calPicks c ≠ []) (hidle : u.on fADC_STATE_CAL_BUSY = false)
    (hseq : ∀ j ∈ calPicks c, u.seqBusy j false = false ∧ u.seqBusy j true = false)
    (hable : ∀ j ∈ calPicks c, (u.setReg ADC_CALCMD w).calAble j = true) : (u.setReg ADC_CALCMD w).calBarred = false := by
  obtain ⟨j, hj⟩ := List.exists_mem_of_ne_nil _ hc
  have hany : ((calPicks c).any fun k => decide (step ≠ 2) || (tblGet (fun _ => none) u.adc.held (64 * k + m)).isSome) = true :=
    List.any_eq_true.mpr ⟨j, hj, by rw [← calAble_stored hindex hconv hstep]; exact hable j hj⟩
  have hquiet : ((calPicks c).any fun k => u.seqBusy k false || u.seqBusy k true) = false := by
    rw [List.any_eq_false]
    intro k hk
    rw [(hseq k hk).1, (hseq k hk).2]
    decide
  rw [calBarred_stored hindex hconv hstep, hany, hquiet, hidle, List.isEmpty_eq_false_iff.mpr hc]
  simp

/-- A step of conversions that nothing bars. -/
theorem writeCal_armed (hc : calPicks c ≠ []) (hkind : step = 1 ∨ step = 2) (hidle : u.on fADC_STATE_CAL_BUSY = false)
    (hseq : ∀ j ∈ calPicks c, u.seqBusy j false = false ∧ u.seqBusy j true = false)
    (hheld : step = 2 → ∀ j ∈ calPicks c, (tblGet (fun _ => none) u.adc.held (64 * j + m)).isSome = true) :
    u.writeCal true w = (u.setReg ADC_CALCMD w).calArmed (calPicks c) step m := by
  obtain ⟨hi, hsel, hs⟩ := calCmd_stored hindex hconv hstep (u := u)
  have hable : ∀ j ∈ calPicks c, (u.setReg ADC_CALCMD w).calAble j = true := by
    intro j hj
    rw [calAble_stored hindex hconv hstep]
    rcases hkind with rfl | rfl
    · rfl
    · rw [hheld rfl j hj, Bool.or_true]
  have hbar := calBarred_of_quiet hindex hconv hstep hc hidle hseq hable
  have hfilter : (calPicks c).filter (u.setReg ADC_CALCMD w).calAble = calPicks c := List.filter_eq_self.mpr hable
  unfold State.writeCal
  dsimp only
  rw [hbar, hs, if_neg (by decide), if_neg (by decide), if_neg (by omega)]
  unfold State.calGo
  dsimp only
  rw [hs, hi, hsel, if_neg (by omega), hfilter, State.raiseIf, if_neg (by simp)]
  rfl

/-- A step that something bars has no effect (R503, R504). -/
theorem writeCal_barred (h : calPicks c = [] ∨ (step ≠ 0 ∧ u.on fADC_STATE_CAL_BUSY = true) ∨
    (step = 2 ∧ ∀ j < 2, tblGet (fun _ => none) u.adc.held (64 * j + m) = none)) : u.writeCal true w = u.raise evADC_REFUSED 0 := by
  have hbar : (u.setReg ADC_CALCMD w).calBarred = true := by
    rw [calBarred_stored hindex hconv hstep]
    rcases h with h | ⟨hne, hbusy⟩ | ⟨rfl, hheld⟩
    · rw [h]
      rfl
    · simp [hne, hbusy]
    · have hany : ((calPicks c).any fun k => decide (2 ≠ 2) || (tblGet (fun _ => none) u.adc.held (64 * k + m)).isSome) = false := by
        rw [List.any_eq_false]
        intro k hk
        rw [hheld k (mem_calPicks.mp hk).1]
        decide
      rw [hany]
      simp
  unfold State.writeCal
  dsimp only
  rw [hbar, if_neg (by decide), if_pos rfl]

/-- The trims of the selected converters at their reset values (R506). -/
def State.calRestored (t : State) (l : List Nat) (m : Nat) : State :=
  ((l.foldl (fun u k => u.setReg (ADC_CAL k m) 0x40000000) t).updAdc fun a => { a with calRange := false }).raise evADC_CAL_DONE 0

theorem writeCal_restored (hc : calPicks c ≠ []) (hkind : step = 3) (hidle : u.on fADC_STATE_CAL_BUSY = false)
    (hseq : ∀ j ∈ calPicks c, u.seqBusy j false = false ∧ u.seqBusy j true = false) :
    u.writeCal true w = (u.setReg ADC_CALCMD w).calRestored (calPicks c) m := by
  subst hkind
  obtain ⟨hi, hsel, hs⟩ := calCmd_stored hindex hconv hstep (u := u)
  have hbar := calBarred_of_quiet hindex hconv hstep hc hidle hseq fun j _ => calAble_stored hindex hconv hstep j
  unfold State.writeCal
  dsimp only
  rw [hbar, hs, if_neg (by decide), if_neg (by decide), if_neg (by omega)]
  unfold State.calGo
  dsimp only
  rw [hs, hi, hsel, if_pos rfl]
  rfl

end

/-! ### The write as the ports make it -/

/-- The write of a step reaches the page with the fields that it asks for. -/
theorem calWrite_runs {p : Port} {v : Word} {step : Nat} (hs : Served p ADC_CALCMD s) (hstep : step < 4) : ∃ (u : State) (w : Word),
    s.calWrite p v step = .next ((u.writeCal true w).okay 0) ∧ u.unreg = s.unreg ∧ u.bare = s.bare ∧ (∀ o, u.reg o = s.reg o) ∧
      bitsAt w 0 6 = min 47 (bitsAt v 0 6) ∧ bitsAt w 6 2 = bitsAt v 6 2 ∧ bitsAt w 8 2 = step :=
  ⟨_, _, calWrite_served p v step hs, unreg_hostMark _ _ _ _, bare_hostMark _ _ _ _, reg_hostMark _ _ _ _, calWord_fields s v hstep⟩

theorem adc_of_unreg {s t : State} (h : t.unreg = s.unreg) : t.adc = s.adc := by
  have hadc := congrArg State.adc h
  exact hadc

/-- A step of conversions begun by a write (R503, R504). -/
theorem calWrite_armed {p : Port} {v : Word} {step : Nat} (hs : Served p ADC_CALCMD s) (hkind : step = 1 ∨ step = 2) (hc : bitsAt v 6 2 ≠ 0)
    (hidle : s.on fADC_STATE_CAL_BUSY = false)
    (hseq : ∀ j, j < 2 → bitN (bitsAt v 6 2) j = true → s.seqBusy j false = false ∧ s.seqBusy j true = false)
    (hheld : step = 2 → ∀ j, j < 2 → bitN (bitsAt v 6 2) j = true →
      (tblGet (fun _ => none) s.adc.held (64 * j + min 47 (bitsAt v 0 6))).isSome = true) :
    ∃ t, s.calWrite p v step = .next t ∧ t.on fADC_STATE_CAL_BUSY = true ∧ t.adc.calStep = step ∧ t.adc.calIdx = min 47 (bitsAt v 0 6) ∧
      (∀ j, j < 2 → t.conv j = if bitN (bitsAt v 6 2) j then { s.conv j with calOn := true, calSum := 0, calCnt := 0 } else s.conv j) ∧
      OnlyRegs { s with adc := t.adc, bus := { slverr := false, data := 0 } } t [ADC_CALCMD, ADC_STATE] := by
  obtain ⟨u, w, hrun, hun, -, hreg, hi, hv, hst⟩ := calWrite_runs (v := v) (step := step) hs (by omega)
  have hadc := adc_of_unreg hun
  have hbusy : ∀ j inj, u.seqBusy j inj = s.seqBusy j inj := fun j => seqBusy_congr (hreg _)
  have harm := writeCal_armed hi hv hst (u := u) (calPicks_ne_nil (Nat.mod_lt _ (by decide)) hc) hkind ((on_of_reg _ (hreg _)).trans hidle)
    (fun j hj => by
      rw [hbusy, hbusy]
      exact hseq j (mem_calPicks.mp hj).1 (mem_calPicks.mp hj).2)
    (fun h2 j hj => by
      rw [hadc]
      exact hheld h2 j (mem_calPicks.mp hj).1 (mem_calPicks.mp hj).2)
  obtain ⟨hon, hstp, hidx, hconv, hrest, hregs⟩ := calArmed_spec (u.setReg ADC_CALCMD w) (calPicks (bitsAt v 6 2)) step (min 47 (bitsAt v 0 6)) (nodup_calPicks _)
  refine ⟨_, hrun, ?_⟩
  rw [harm]
  refine ⟨hon, hstp, hidx, fun j hj => ?_, ?_⟩
  · refine (hconv j).trans ?_
    have hcj : (u.setReg ADC_CALCMD w).conv j = s.conv j := conv_congr hadc j
    rw [hcj]
    by_cases hb : bitN (bitsAt v 6 2) j = true
    · rw [if_pos hb, if_pos (mem_calPicks.mpr ⟨hj, hb⟩)]
      rfl
    · rw [if_neg hb, if_neg fun h => hb (mem_calPicks.mp h).2]
  · refine OnlyRegs.okay (onlyRegs_adc (hrest.trans ?_) fun o ho => ?_)
    · exact congrArg (fun x : State => { x with adc := {} }) hun
    · rw [hregs o (by grind), reg_setReg_ne _ _ _ _ (by grind), hreg]

/-- A step that something bars: refused, and nothing else (R503, R504). -/
theorem calWrite_barred {p : Port} {v : Word} {step : Nat} (hs : Served p ADC_CALCMD s) (hstep : step < 4)
    (h : bitsAt v 6 2 = 0 ∨ (step ≠ 0 ∧ s.on fADC_STATE_CAL_BUSY = true) ∨
      (step = 2 ∧ ∀ j < 2, tblGet (fun _ => none) s.adc.held (64 * j + min 47 (bitsAt v 0 6)) = none)) :
    ∃ t, s.calWrite p v step = .next t ∧ t.stat evADC_REFUSED = true ∧ OnlyEvents { s with bus := { slverr := false, data := 0 } } t (eventRegs 16) := by
  obtain ⟨u, w, hrun, hun, hbare, hreg, hi, hv, hst⟩ := calWrite_runs (v := v) hs hstep
  have hadc := adc_of_unreg hun
  refine ⟨_, hrun, ?_⟩
  rw [writeCal_barred hi hv hst (u := u) (h.imp (fun h => by rw [h]; decide) (Or.imp (fun h => ⟨h.1, (on_of_reg _ (hreg _)).trans h.2⟩)
    fun h => ⟨h.1, by rw [hadc]; exact h.2⟩))]
  exact ⟨stat_raise_same _ _ _ (by decide), OnlyEvents.okay (onlyEvents_of ((bare_raise _ _ _).trans hbare) fun o ho =>
    (sameRegs_raise _ _ _ o ho).trans (hreg o)) 0⟩

/-! ### The restored trims -/

theorem foldl_setReg_other {l : List Nat} {m o : Nat} {v : Word} (t : State) (h : ∀ k ∈ l, o ≠ ADC_CAL k m) :
    (l.foldl (fun u k => u.setReg (ADC_CAL k m) v) t).reg o = t.reg o :=
  foldl_keeps (fun u => u.reg o) (fun u k hk => reg_setReg_ne u _ _ _ (h k hk)) t

theorem foldl_setReg_mem {l : List Nat} {m k : Nat} {v : Word} (t : State) (hk : k ∈ l) :
    (l.foldl (fun u k => u.setReg (ADC_CAL k m) v) t).reg (ADC_CAL k m) = v :=
  foldl_holds (P := fun u : State => u.reg (ADC_CAL k m) = v) hk (fun u => reg_setReg_same u _ _) (fun u j hj hu => by
    by_cases he : ADC_CAL k m = ADC_CAL j m
    · rw [he]
      exact reg_setReg_same u _ _
    · rw [reg_setReg_ne _ _ _ _ he]
      exact hu) t

theorem adcCal_not_eventRegs {j m : Nat} (hj : j < 2) (hm : m < 48) : ADC_CAL j m ∉ eventRegs 16 := by
  have h16 : blockBase 16 = 0x68000 := rfl
  refine apart_eventRegs ?_ ?_ ?_ ?_ <;> simp only [ADC_CAL, h16] <;> omega

theorem calRestored_spec {t : State} {l : List Nat} {m : Nat} (hm : m < 48) (hl : ∀ j ∈ l, j < 2) :
    (t.calRestored l m).stat evADC_CAL_DONE = true ∧ (∀ j ∈ l, (t.calRestored l m).reg (ADC_CAL j m) = 0x40000000#32) ∧
      (t.calRestored l m).bareAdc = t.bareAdc ∧
      ∀ o, o ∉ [ADC_CAL 0 m, ADC_CAL 1 m] ++ eventRegs 16 → (t.calRestored l m).reg o = t.reg o := by
  have hfar : ∀ o, o ∉ eventRegs 16 → (t.calRestored l m).reg o = (l.foldl (fun u k => u.setReg (ADC_CAL k m) 0x40000000) t).reg o :=
    fun o ho => sameRegs_raise _ _ _ o ho
  refine ⟨stat_raise_same _ _ _ (by decide), fun j hj => ?_, ?_, fun o ho => ?_⟩
  · rw [hfar _ (adcCal_not_eventRegs (hl j hj) hm)]
    exact foldl_setReg_mem t hj
  · unfold State.calRestored
    rw [bareAdc_raise, bareAdc_updAdc]
    exact foldl_keeps State.bareAdc (fun u k _ => bareAdc_setReg u _ _) t
  · rw [List.mem_append, not_or] at ho
    rw [hfar o ho.2]
    refine foldl_setReg_other t fun k hk he => ho.1 ?_
    obtain rfl | rfl : k = 0 ∨ k = 1 := by have := hl k hk; omega
    · rw [he]
      exact List.mem_cons_self
    · rw [he]
      exact List.mem_cons_of_mem _ List.mem_cons_self

/-- The trims that a write restores (R506). -/
theorem calWrite_restored {p : Port} {v : Word} (hs : Served p ADC_CALCMD s) (hc : bitsAt v 6 2 ≠ 0)
    (hidle : s.on fADC_STATE_CAL_BUSY = false)
    (hseq : ∀ j, j < 2 → bitN (bitsAt v 6 2) j = true → s.seqBusy j false = false ∧ s.seqBusy j true = false) :
    ∃ t, s.calWrite p v 3 = .next t ∧ t.stat evADC_CAL_DONE = true ∧
      (∀ j, j < 2 → bitN (bitsAt v 6 2) j = true →
        t.get (fADC_CAL_GAIN j (min 47 (bitsAt v 0 6))) = 16384 ∧ t.getI (fADC_CAL_OFFSET j (min 47 (bitsAt v 0 6))) = 0) ∧
      OnlyEvents { s with adc := t.adc, bus := { slverr := false, data := 0 } } t
        ([ADC_CALCMD, ADC_CAL 0 (min 47 (bitsAt v 0 6)), ADC_CAL 1 (min 47 (bitsAt v 0 6))] ++ eventRegs 16) := by
  obtain ⟨u, w, hrun, hun, hbare, hreg, hi, hv, hst⟩ := calWrite_runs (v := v) hs (by decide : 3 < 4)
  have hbusy : ∀ j inj, u.seqBusy j inj = s.seqBusy j inj := fun j => seqBusy_congr (hreg _)
  have hdone := writeCal_restored hi hv hst (u := u) (calPicks_ne_nil (Nat.mod_lt _ (by decide)) hc) rfl ((on_of_reg _ (hreg _)).trans hidle)
    (fun j hj => by
      rw [hbusy, hbusy]
      exact hseq j (mem_calPicks.mp hj).1 (mem_calPicks.mp hj).2)
  obtain ⟨hstat, htrims, hrest, hregs⟩ := calRestored_spec (t := u.setReg ADC_CALCMD w) (l := calPicks (bitsAt v 6 2)) (m := min 47 (bitsAt v 0 6)) (by omega)
    fun j hj => (mem_calPicks.mp hj).1
  refine ⟨_, hrun, ?_⟩
  rw [hdone]
  refine ⟨hstat, fun j hj hb => ?_, ?_⟩
  · have htrim := htrims j (mem_calPicks.mpr ⟨hj, hb⟩)
    constructor
    · rw [State.get, reg_okay, htrim]
      change bitsAt 0x40000000#32 16 16 = 16384
      decide
    · rw [State.getI, State.get, reg_okay, htrim]
      change signed 16 (bitsAt 0x40000000#32 0 16) = 0
      decide
  · refine OnlyEvents.okay (onlyEvents_adc (hrest.trans ?_) fun o ho => ?_) 0
    · exact (bareAdc_setReg u _ _).trans (congrArg (fun x : State => { x with adc := {} }) hbare)
    · rw [hregs o (by grind), reg_setReg_ne _ _ _ _ (by grind), hreg]

/-! ### A conversion of a step -/

/-- Outside the service a converter that a step uses makes its conversions, and nothing else (R503). -/
theorem convFree_cal {k : Nat} (hon : (s.conv k).calOn = true) : s.convFree k = s ∨ ∃ at_, s.convFree k = s.startConv k at_ .cal := by
  have hcut : s.cutIn k = s := by
    unfold State.cutIn
    rw [hon, if_neg (by simp)]
  unfold State.convFree State.startUser
  dsimp only
  rw [hcut, hon]
  split
  · rw [if_pos rfl]
    split
    · exact .inr ⟨_, rfl⟩
    · exact .inl rfl
  · exact .inl rfl

/-- A converter after a conversion of a step (R504). -/
def State.calCounted (s : State) (k : Nat) (nv : Int) (refNv : Nat) : State :=
  (s.updConv k fun c => { c with flight := none }).calResult k nv refNv

theorem conv_calCounted {k : Nat} {nv : Int} {refNv : Nat} (hcnt : (s.conv k).calCnt < 64) (hidx : s.adc.calIdx < 32) :
    (s.calCounted k nv refNv).conv k = { s.conv k with
      flight := none, calCnt := (s.conv k).calCnt + 1
      calSum := (s.conv k).calSum + rawCode k (decide (s.adc.calIdx < 16)) nv refNv } := by
  have hflight := conv_updConv_same s k fun c => { c with flight := none }
  have hidx' : (s.updConv k fun c => { c with flight := none }).adc.calIdx = s.adc.calIdx := rfl
  unfold State.calCounted State.calResult
  dsimp only
  rw [conv_updConv_same, hflight, hidx', if_pos hcnt, if_pos hidx, decide_eq_false (by omega : ¬32 ≤ s.adc.calIdx)]
  unfold signedMode
  simp

/-- A conversion of a step, outside the service or in it: its code is added, and nothing but the converters changes (R504). -/
theorem conversionDone_cal {k : Fin 2} {nv : Int} {refNv a : Nat} (hclk : s.lclk = true) (hflight : (s.conv k).flight = some ⟨a, .cal⟩)
    (hdue : a + 160 ≤ s.now) (hon : (s.conv k).calOn = true) (hcnt : (s.conv k).calCnt < 64) (hidx : s.adc.calIdx < 32) :
    ∃ t, execConversionDone k nv refNv s = .next t ∧ (t.conv k).calCnt = (s.conv k).calCnt + 1 ∧
      (t.conv k).calSum = (s.conv k).calSum + rawCode k (decide (s.adc.calIdx < 16)) nv refNv ∧ t = { s with adc := t.adc } := by
  have hconv := conv_calCounted (s := s) (k := k) (nv := nv) (refNv := refNv) hcnt hidx
  have hexec : execConversionDone k nv refNv s = .next
      (if (s.calCounted k nv refNv).service then s.calCounted k nv refNv else (s.calCounted k nv refNv).convFree k) := by
    unfold execConversionDone
    rw [hflight]
    dsimp only
    rw [if_neg (by simp [hclk]; omega)]
    unfold State.convResult
    dsimp only
    rw [conv_updConv_same, hon, if_pos rfl]
    rfl
  have hdata : s.calCounted k nv refNv = { s with adc := (s.calCounted k nv refNv).adc } := rfl
  refine ⟨_, hexec, ?_⟩
  split
  · rw [hconv]
    exact ⟨rfl, rfl, hdata⟩
  · rcases convFree_cal (s := s.calCounted k nv refNv) (k := k) (by rw [hconv]; exact hon) with hfree | ⟨at_, hfree⟩
    · rw [hfree, hconv]
      exact ⟨rfl, rfl, hdata⟩
    · have hstart : ((s.calCounted k nv refNv).startConv k at_ .cal).conv k = _ := conv_updConv_same _ _ _
      rw [hfree, hstart, hconv]
      exact ⟨rfl, rfl, rfl⟩

/-! ### The end of a step -/

/-- The mean of the conversions of a converter (R504). -/
def State.calMean (s : State) (k : Nat) : Int := roundHalfUp (s.conv k).calSum 64

/-- The mean held for an index of a converter (R504). -/
def State.heldMean (s : State) (k : Nat) : Option Int := tblGet (fun _ => none) s.adc.held (64 * k + s.adc.calIdx)

theorem trimsOf_bounds {zero full m0 m1 off : Int} {g : Nat} (h : trimsOf zero full m0 m1 = some (g, off)) : g ≤ 18022 ∧ -512 ≤ off ∧ off ≤ 512 := by
  unfold trimsOf at h
  dsimp only at h
  split at h
  · split at h
    · next hg =>
      split at h
      · next ho =>
        obtain ⟨rfl, rfl⟩ := Prod.mk.inj (Option.some.inj h)
        omega
      · cases h
    · cases h
  · cases h

theorem calEnd_off {k : Nat} (h : (s.conv k).calOn = false) : s.calEnd k = s := by
  unfold State.calEnd
  dsimp only
  rw [h]
  rfl


/-- A converter's part of a step is over. -/
def State.calRest (s : State) (k : Nat) : State := s.updConv k fun c => { c with calOn := false, calSum := 0, calCnt := 0 }

/-- A converter's part of a step is over, with what is then held for the index (R504). -/
def State.calHeld (s : State) (k : Nat) (v : Option Int) : State :=
  (s.calRest k).updAdc fun a => { a with held := tblSet (fun _ => none) a.held (64 * k + s.adc.calIdx) v }

theorem conv_calRest (s : State) (k j : Nat) :
    (s.calRest k).conv j = if j = k then { s.conv k with calOn := false, calSum := 0, calCnt := 0 } else s.conv j := conv_updConv _ _ _ _

theorem conv_calHeld (s : State) (k j : Nat) (v : Option Int) : (s.calHeld k v).conv j = (s.calRest k).conv j := rfl

theorem calHeld_off (s : State) (k : Nat) (v : Option Int) : ((s.calHeld k v).conv k).calOn = false := by
  rw [conv_calHeld, conv_calRest, if_pos rfl]

theorem calHeld_other (s : State) {k j : Nat} (v : Option Int) (h : j ≠ k) : (s.calHeld k v).conv j = s.conv j := by
  rw [conv_calHeld, conv_calRest, if_neg h]

theorem held_calHeld (s : State) (k : Nat) (v : Option Int) :
    tblGet (fun _ => none) (s.calHeld k v).adc.held (64 * k + s.adc.calIdx) = v := by
  have hheld : (s.calHeld k v).adc.held = tblSet (fun _ => none) s.adc.held (64 * k + s.adc.calIdx) v := rfl
  rw [hheld, tblGet_set_same]

theorem calEnd_zero {k : Nat} (hon : (s.conv k).calOn = true) (hstep : s.adc.calStep = 1) : s.calEnd k = s.calHeld k (some (s.calMean k)) := by
  unfold State.calEnd
  dsimp only
  rw [hon, if_neg (by decide), if_pos hstep]
  rfl

theorem calEnd_full {k : Nat} (hon : (s.conv k).calOn = true) (hstep : s.adc.calStep ≠ 1) :
    (∀ g off, trimsOf (s.getI fADC_CALTGT_ZERO) (s.getI fADC_CALTGT_FULL) ((s.heldMean k).getD 0) (s.calMean k) = some (g, off) →
      s.calEnd k = ((s.calHeld k none).put (fADC_CAL_GAIN k s.adc.calIdx) g).putI (fADC_CAL_OFFSET k s.adc.calIdx) off) ∧
    (trimsOf (s.getI fADC_CALTGT_ZERO) (s.getI fADC_CALTGT_FULL) ((s.heldMean k).getD 0) (s.calMean k) = none →
      s.calEnd k = ((s.calHeld k none).updAdc fun a => { a with calRange := true }).raise evADC_CAL_RANGE 0) := by
  have hend : s.calEnd k = (match trimsOf (s.getI fADC_CALTGT_ZERO) (s.getI fADC_CALTGT_FULL) ((s.heldMean k).getD 0) (s.calMean k) with
      | some (g, off) => ((s.calHeld k none).put (fADC_CAL_GAIN k s.adc.calIdx) g).putI (fADC_CAL_OFFSET k s.adc.calIdx) off
      | none => ((s.calHeld k none).updAdc fun a => { a with calRange := true }).raise evADC_CAL_RANGE 0) := by
    unfold State.calEnd
    dsimp only
    rw [hon, if_neg (by decide), if_neg hstep]
    rfl
  refine ⟨fun g off h => ?_, fun h => ?_⟩
  · rw [hend, h]
  · rw [hend, h]

/-- What the end of a step leaves of a converter: it no longer calibrates; its mean is held, or used for the trims (R504, R505). -/
structure CalEnded (s t : State) (k : Nat) : Prop where
  off : (t.conv k).calOn = false
  other : ∀ j, j ≠ k → t.conv j = s.conv j
  zero : s.adc.calStep = 1 → tblGet (fun _ => none) t.adc.held (64 * k + s.adc.calIdx) = some (s.calMean k)
  used : s.adc.calStep ≠ 1 → tblGet (fun _ => none) t.adc.held (64 * k + s.adc.calIdx) = none
  trims : s.adc.calStep ≠ 1 → ∀ g off,
    trimsOf (s.getI fADC_CALTGT_ZERO) (s.getI fADC_CALTGT_FULL) ((s.heldMean k).getD 0) (s.calMean k) = some (g, off) →
    t.get (fADC_CAL_GAIN k s.adc.calIdx) = g ∧ t.getI (fADC_CAL_OFFSET k s.adc.calIdx) = off
  range : s.adc.calStep ≠ 1 → trimsOf (s.getI fADC_CALTGT_ZERO) (s.getI fADC_CALTGT_FULL) ((s.heldMean k).getD 0) (s.calMean k) = none →
    t.stat evADC_CAL_RANGE = true ∧ t.reg (ADC_CAL k s.adc.calIdx) = s.reg (ADC_CAL k s.adc.calIdx)

theorem calEnded {k : Nat} (hk : k < 2) (hidx : s.adc.calIdx < 48) (hon : (s.conv k).calOn = true) : CalEnded s (s.calEnd k) k := by
  have hcal := adcCal_not_eventRegs hk hidx
  by_cases hstep : s.adc.calStep = 1
  · rw [calEnd_zero hon hstep]
    exact ⟨calHeld_off s k _, fun _ hj => calHeld_other s _ hj, fun _ => held_calHeld s k _,
      fun h => absurd hstep h, fun h => absurd hstep h, fun h => absurd hstep h⟩
  · obtain ⟨hsome, hnone⟩ := calEnd_full hon hstep
    cases htrims : trimsOf (s.getI fADC_CALTGT_ZERO) (s.getI fADC_CALTGT_FULL) ((s.heldMean k).getD 0) (s.calMean k) with
    | none =>
      rw [hnone htrims]
      have hadc : (((s.calHeld k none).updAdc fun a => { a with calRange := true }).raise evADC_CAL_RANGE 0).adc =
          { (s.calHeld k none).adc with calRange := true } := State.raise_adc _ _ _
      have hconv : ∀ j, (((s.calHeld k none).updAdc fun a => { a with calRange := true }).raise evADC_CAL_RANGE 0).conv j = (s.calHeld k none).conv j := by
        intro j
        unfold State.conv
        rw [hadc]
      refine ⟨by rw [hconv]; exact calHeld_off s k _, fun j hj => by rw [hconv]; exact calHeld_other s _ hj, fun h => absurd h hstep, fun _ => ?_, fun _ g off h => ?_,
        fun _ _ => ⟨stat_raise_same _ _ _ (by decide), reg_raise _ _ _ _ hcal⟩⟩
      · rw [hadc]
        exact held_calHeld s k none
      · rw [htrims] at h
        cases h
    | some p =>
      obtain ⟨g, off⟩ := p
      rw [hsome g off htrims]
      refine ⟨calHeld_off s k none, fun _ hj => calHeld_other s none hj, fun h => absurd h hstep, fun _ => held_calHeld s k none, fun _ g' off' h => ?_, fun _ h => ?_⟩
      · obtain ⟨rfl, rfl⟩ := Prod.mk.inj (Option.some.inj (htrims.symm.trans h))
        obtain ⟨hg, hlo, hhi⟩ := trimsOf_bounds htrims
        constructor
        · rw [State.putI, get_put_apart _ (fADC_CAL_OFFSET k s.adc.calIdx) (fADC_CAL_GAIN k s.adc.calIdx) _ rfl (by simp), get_put _ _ _ (by simp)]
          exact Nat.mod_eq_of_lt (by simp only; omega)
        · exact getI_putI _ _ _ (by simp) (by simp) (by simp only; omega) (by simp only; omega)
      · rw [htrims] at h
        cases h

/-- The end of a step of one converter (R504, R505). -/
theorem execAdcCalDone_of_one {k : Fin 2} (hbusy : s.on fADC_STATE_CAL_BUSY = true) (hon : (s.conv k).calOn = true)
    (hother : (s.conv (1 - k)).calOn = false) : execAdcCalDone s = .next (if (s.conv k).calCnt = 64 then
      ((s.calEnd k).putB fADC_STATE_CAL_BUSY false).raise evADC_CAL_DONE 0 else s) := by
  have hone : ∀ j, j ≠ k.val → j < 2 → (s.conv j).calOn = false ∧ ((s.calEnd k).conv j).calOn = false := by
    intro j hj hlt
    have hval : 1 - (k : Nat) = j := by omega
    rw [hval] at hother
    refine ⟨hother, ?_⟩
    by_cases hstep : s.adc.calStep = 1
    · rw [calEnd_zero hon hstep, calHeld_other s _ hj]
      exact hother
    · obtain ⟨hsome, hnone⟩ := calEnd_full hon hstep
      cases htrims : trimsOf (s.getI fADC_CALTGT_ZERO) (s.getI fADC_CALTGT_FULL) ((s.heldMean k).getD 0) (s.calMean k) with
      | none =>
        rw [hnone htrims, State.conv, State.raise_adc]
        exact (congrArg ConvHid.calOn (calHeld_other s none hj)).trans hother
      | some p =>
        rw [hsome p.1 p.2 htrims]
        exact (congrArg ConvHid.calOn (calHeld_other s none hj)).trans hother
  have hends : (s.calEnd 0).calEnd 1 = s.calEnd k := by
    obtain hk | hk : k.val = 0 ∨ k.val = 1 := by omega
    · rw [hk] at hone ⊢
      exact calEnd_off (hone 1 (by decide) (by decide)).2
    · rw [hk] at hone ⊢
      rw [calEnd_off (hone 0 (by decide) (by decide)).1]
  have hfull : ((!(s.conv 0).calOn || (s.conv 0).calCnt = 64) && (!(s.conv 1).calOn || (s.conv 1).calCnt = 64)) = decide ((s.conv k).calCnt = 64) := by
    obtain hk | hk : k.val = 0 ∨ k.val = 1 := by omega
    · rw [hk] at hone hon ⊢
      rw [(hone 1 (by decide) (by decide)).1, hon]
      simp
    · rw [hk] at hone hon ⊢
      rw [(hone 0 (by decide) (by decide)).1, hon]
      simp
  unfold execAdcCalDone
  dsimp only
  rw [hbusy, Bool.true_and, hfull, hends]
  simp only [decide_eq_true_eq]

theorem adcCalDone_spec {k : Fin 2} (hbusy : s.on fADC_STATE_CAL_BUSY = true) (hidx : s.adc.calIdx < 48) (hon : (s.conv k).calOn = true)
    (hother : (s.conv (1 - k)).calOn = false) (hcnt : (s.conv k).calCnt = 64) : ∃ t, execAdcCalDone s = .next t ∧
      t.on fADC_STATE_CAL_BUSY = false ∧ t.stat evADC_CAL_DONE = true ∧ CalEnded s t k := by
  have hk : k.val < 2 := k.isLt
  have hcal := adcCal_not_eventRegs hk hidx
  have hne : ADC_CAL k s.adc.calIdx ≠ ADC_STATE := by simp only [ADC_CAL, ADC_STATE]; omega
  obtain ⟨hoff, hkeep, hzero, hused, htrims, hrange⟩ := calEnded hk hidx hon
  refine ⟨_, (execAdcCalDone_of_one hbusy hon hother).trans (by rw [if_pos hcnt]), ?_, stat_raise_same _ _ _ (by decide), ?_⟩
  · rw [on_raise _ _ _ _ (by decide)]
    exact on_putB_same _ _ _ (by decide) rfl
  · have hadc : (((s.calEnd k).putB fADC_STATE_CAL_BUSY false).raise evADC_CAL_DONE 0).adc = (s.calEnd k).adc := State.raise_adc _ _ _
    have hreg : (((s.calEnd k).putB fADC_STATE_CAL_BUSY false).raise evADC_CAL_DONE 0).reg (ADC_CAL k s.adc.calIdx) = (s.calEnd k).reg (ADC_CAL k s.adc.calIdx) :=
      (reg_raise _ _ _ _ hcal).trans (reg_putB_ne _ _ _ _ hne)
    refine ⟨by rw [conv_congr hadc]; exact hoff, fun j hj => by rw [conv_congr hadc]; exact hkeep j hj, fun h => by rw [hadc]; exact hzero h,
      fun h => by rw [hadc]; exact hused h, fun h g off ho => ?_, fun h ho => ⟨?_, hreg.trans (hrange h ho).2⟩⟩
    · obtain ⟨hg, ho'⟩ := htrims h g off ho
      exact ⟨(get_of_reg (fADC_CAL_GAIN k s.adc.calIdx) hreg).trans hg, (getI_congr (get_of_reg (fADC_CAL_OFFSET k s.adc.calIdx) hreg)).trans ho'⟩
    · refine stat_raise_keeps _ _ _ _ ?_
      rw [stat_of_reg _ (reg_putB_ne _ _ _ _ (by decide))]
      exact (hrange h ho).1

end Sys2Proof.Machine
end

section
/-! SETTLED. Calibration of the converters (O56). -/

open Sys2Proof Sys2Proof.Machine

/-- Settles O56: a write of ADC_CALCMD is judged by its fields, and the end of a step is that of its one converter. -/
theorem calibration : Obligations.Calibration := by
  intro s k nv refNv a p v
  refine ⟨fun hs hidle hc hseq => ⟨?_, fun hheld => ?_, fun hheld => ?_, ?_⟩, fun hs hbar i hi => ?_, fun hclk hflight hdue hon hcnt hidx =>
    conversionDone_cal hclk hflight hdue hon hcnt hidx, fun hbusy hidx hon hother => ⟨fun hcnt => ?_, fun hcnt => ?_⟩⟩
  · exact calWrite_armed hs (.inl rfl) hc hidle hseq fun h => absurd h (by decide)
  · exact calWrite_armed hs (.inr rfl) hc hidle hseq fun _ => hheld
  · exact calWrite_barred hs (by decide) (.inr (.inr ⟨rfl, hheld⟩))
  · exact calWrite_restored hs hc hidle hseq
  · have hstep (step : Nat) (hlt : step < 4) (hne : step ≠ 0) := calWrite_barred (v := v) hs hlt (hbar.symm.imp_right fun h => .inl ⟨hne, h⟩)
    simp only [List.mem_cons, List.not_mem_nil, or_false] at hi
    obtain rfl | rfl | rfl := hi
    · exact hstep 1 (by decide) (by decide)
    · exact hstep 2 (by decide) (by decide)
    · exact hstep 3 (by decide) (by decide)
  · exact (execAdcCalDone_of_one hbusy hon hother).trans (by rw [if_neg hcnt])
  · obtain ⟨t, hexec, hidle, hdone, hoff, -, hzero, hused, htrims, hrange⟩ := adcCalDone_spec hbusy hidx hon hother hcnt
    exact ⟨t, hexec, hidle, hdone, hoff, hzero, fun h => ⟨hused h, htrims h, hrange h⟩⟩

end

section
/-!
SUPPORT. Conversions of the service and of user sequences (R479-R494).
-/

namespace Sys2Proof.Machine

variable {s t : State}

/-! ### Conversions of the service -/

theorem ibReading_eq (s : State) (c : Nat) : ∃ i : IbHid, (s.ibReading c = s.updIb fun _ => i) ∧ i.code16 = c := by
  unfold State.ibReading State.noteOver
  exact ⟨_, rfl, rfl⟩

theorem conversionDone_early {k : Fin 2} {nv : Int} {refNv a : Nat} {use : ConvFor} (hflight : (s.conv k).flight = some ⟨a, use⟩) (h : s.now < a + 160) :
    execConversionDone k nv refNv s = .next s := by
  unfold execConversionDone
  rw [hflight]
  dsimp only
  rw [if_pos (by simp [h])]

/-- The conversion in progress is over, and its result is to be taken. -/
def State.landed (s : State) (k : Nat) : State := s.updConv k fun c => { c with flight := none }

theorem conv_landed (s : State) (k : Nat) : (s.landed k).conv k = { s.conv k with flight := none } := conv_updConv_same _ _ _

theorem landed_eq (s : State) (k : Nat) : s.landed k = { s with adc := (s.landed k).adc } := rfl

theorem execConversionDone_of_due {k : Fin 2} {nv : Int} {refNv a : Nat} {use : ConvFor} (hclk : s.lclk = true)
    (hflight : (s.conv k).flight = some ⟨a, use⟩) (hdue : a + 160 ≤ s.now) : execConversionDone k nv refNv s = .next
      (if ((s.landed k).convResult k nv refNv use).service then (s.landed k).convResult k nv refNv use
      else ((s.landed k).convResult k nv refNv use).convFree k) := by
  unfold execConversionDone
  rw [hflight]
  dsimp only
  rw [if_neg (by simp [hclk]; omega)]
  rfl

theorem service_of_closed {u : State} (hclk : u.lclk = true) (hmode : u.ibMode = 3) : u.service = true := by
  unfold State.service
  rw [hclk, hmode]
  rfl

/-- In closed loop a conversion of the IB goes to the IB stage (R485). -/
theorem conversionDone_ib {k : Fin 2} {nv : Int} {refNv a : Nat} (hclk : s.lclk = true) (hmode : s.ibMode = 3) (hdue : a + 160 ≤ s.now)
    (hflight : (s.conv k).flight = some ⟨a, .service .ib⟩) : ∃ u, execConversionDone k nv refNv s = .next u ∧
      u.ib.code16 = natOf (s.benchCode k 16 false nv refNv) ∧ (u.conv k).flight = none ∧ u = { s with ib := u.ib, adc := u.adc } := by
  obtain ⟨i, heq, hcode⟩ := ibReading_eq (s.landed k) (natOf (s.benchCode k 16 false nv refNv))
  have hresult : (s.landed k).convResult k nv refNv (.service .ib) = (s.landed k).updIb fun _ => i := heq
  have hservice : ((s.landed k).updIb fun _ => i).service = true := service_of_closed hclk hmode
  refine ⟨(s.landed k).updIb fun _ => i, (execConversionDone_of_due hclk hflight hdue).trans (by rw [hresult, if_pos hservice]), hcode, ?_, rfl⟩
  exact congrArg ConvHid.flight (conv_landed s k)

/-- In closed loop a conversion of VIN goes to the IB stage (R369, R485). -/
theorem conversionDone_vin {k : Fin 2} {nv : Int} {refNv a : Nat} (hclk : s.lclk = true) (hmode : s.ibMode = 3) (hdue : a + 160 ≤ s.now)
    (hflight : (s.conv k).flight = some ⟨a, .service .vin⟩) : ∃ u, execConversionDone k nv refNv s = .next u ∧
      u.ib.code17 = natOf (s.benchCode k 17 false nv refNv) ∧ OnlyRegs { s with ib := u.ib, adc := u.adc } u [IBS_MEAS] := by
  have hvin : ∀ c, ∃ n, ∃ i : IbHid, ((s.landed k).vinReading c = ((s.landed k).put fIBS_MEAS_VIN n).updIb fun _ => i) ∧ i.code17 = c :=
    fun _ => ⟨_, _, rfl, rfl⟩
  obtain ⟨n, i, heq, hcode⟩ := hvin (natOf (s.benchCode k 17 false nv refNv))
  have hresult : (s.landed k).convResult k nv refNv (.service .vin) = ((s.landed k).put fIBS_MEAS_VIN n).updIb fun _ => i := heq
  have hservice : (((s.landed k).put fIBS_MEAS_VIN n).updIb fun _ => i).service = true := by
    refine service_of_closed hclk ?_
    exact (get_put_reg (s.landed k) fIBS_MEAS_VIN fIBS_STATE_MODE n (by decide)).trans hmode
  refine ⟨((s.landed k).put fIBS_MEAS_VIN n).updIb fun _ => i, (execConversionDone_of_due hclk hflight hdue).trans (by rw [hresult, if_pos hservice]),
    hcode, onlyRegs_of rfl fun o ho => ?_⟩
  exact reg_put_ne (s.landed k) _ _ _ (by simpa using ho)

/-! ### What a free converter does -/

/-- What a converter that takes up a user sequence other than a due regular one changes: the converters, and of the registers the
status of its sequences, but not of the regular one, and the results of its injected one. -/
structure InjectedOnly (s t : State) (k : Nat) : Prop where
  rest : t.unregAdc = s.unregAdc
  regs : SameRegs s t ([ADC_SSTAT k] ++ (upTo 4).map (ADC_IRES k))
  run : t.on (fADC_SSTAT_RUN k) = s.on (fADC_SSTAT_RUN k)
  due : t.on (fADC_SSTAT_DUE k) = s.on (fADC_SSTAT_DUE k)
  slot : t.get (fADC_SSTAT_SLOT k) = s.get (fADC_SSTAT_SLOT k)

theorem InjectedOnly.refl (s : State) (k : Nat) : InjectedOnly s s k := ⟨rfl, .refl s _, rfl, rfl, rfl⟩

theorem InjectedOnly.trans {s t u : State} {k : Nat} (h : InjectedOnly s t k) (j : InjectedOnly t u k) : InjectedOnly s u k :=
  ⟨j.rest.trans h.rest, h.regs.trans j.regs, j.run.trans h.run, j.due.trans h.due, j.slot.trans h.slot⟩

theorem InjectedOnly.updConv {s t : State} {k : Nat} (h : InjectedOnly s t k) (f : ConvHid → ConvHid) : InjectedOnly s (t.updConv k f) k :=
  h.trans ⟨rfl, fun _ _ => rfl, rfl, rfl, rfl⟩

theorem InjectedOnly.putB {s t : State} {k : Nat} (h : InjectedOnly s t k) {f : Fld} (b : Bool)
    (hf : f = fADC_SSTAT_IDUE k ∨ f = fADC_SSTAT_IRUN k ∨ ∃ j, j < 4 ∧ f = fADC_IRES_VALID k j) : InjectedOnly s (t.putB f b) k := by
  refine h.trans ?_
  rcases hf with rfl | rfl | ⟨j, hj, rfl⟩
  · exact ⟨rfl, (SameRegs.refl t _).putB _ (by simp), on_putB_apart _ (fADC_SSTAT_IDUE k) (fADC_SSTAT_RUN k) _ rfl (by simp),
      on_putB_apart _ (fADC_SSTAT_IDUE k) (fADC_SSTAT_DUE k) _ rfl (by simp), get_putB_apart _ (fADC_SSTAT_IDUE k) (fADC_SSTAT_SLOT k) _ rfl (by simp)⟩
  · exact ⟨rfl, (SameRegs.refl t _).putB _ (by simp), on_putB_apart _ (fADC_SSTAT_IRUN k) (fADC_SSTAT_RUN k) _ rfl (by simp),
      on_putB_apart _ (fADC_SSTAT_IRUN k) (fADC_SSTAT_DUE k) _ rfl (by simp), get_putB_apart _ (fADC_SSTAT_IRUN k) (fADC_SSTAT_SLOT k) _ rfl (by simp)⟩
  · have hne : ADC_SSTAT k ≠ ADC_IRES k j := by simp only [ADC_SSTAT, ADC_IRES]; omega
    refine ⟨rfl, (SameRegs.refl t _).putB _ ?_, on_putB_reg _ _ _ _ hne, on_putB_reg _ _ _ _ hne, get_putB_reg _ _ _ _ hne⟩
    exact List.mem_append_right _ (List.mem_map_of_mem (mem_upTo.mpr hj))

theorem injectedOnly_beginSeq (s : State) (k : Nat) : InjectedOnly s (s.beginSeq k true) k := by
  have hstart : InjectedOnly s ((s.putB (fADC_SSTAT_IDUE k) false).putB (fADC_SSTAT_IRUN k) true) k :=
    ((InjectedOnly.refl s k).putB false (.inl rfl)).putB true (.inr (.inl rfl))
  have hvalid : ∀ (l : List Nat), (∀ j ∈ l, j < 4) → ∀ u, InjectedOnly u (l.foldl (fun u j => u.putB (fADC_IRES_VALID k j) false) u) k := by
    intro l
    induction l with
    | nil => exact fun _ u => .refl u k
    | cons j l ih =>
      exact fun hl u => ((InjectedOnly.refl u k).putB false (.inr (.inr ⟨j, hl j List.mem_cons_self, rfl⟩))).trans
        (ih (fun i hi => hl i (List.mem_cons_of_mem _ hi)) _)
  unfold State.beginSeq
  rw [if_pos rfl]
  exact (hstart.trans (hvalid (upTo 4) (fun j hj => mem_upTo.mp hj) _)).updConv _

theorem InjectedOnly.ite {s t u : State} {k : Nat} {c : Prop} [Decidable c] (h : InjectedOnly s t k) (j : InjectedOnly s u k) :
    InjectedOnly s (if c then t else u) k := by
  split
  · exact h
  · exact j

/-- A converter that has no due regular sequence to begin. -/
theorem injectedOnly_startUser {s : State} {k : Nat} (at_ : Nat) (h : s.on (fADC_SSTAT_RUN k) = true ∨ s.seqBusy k false = false) :
    InjectedOnly s (s.startUser k at_) k := by
  have hconv : ∀ (u : State) (x : ConvFor), InjectedOnly u (u.startConv k at_ x) k := fun u x => (InjectedOnly.refl u k).updConv _
  have hnext : s.nextSeq k = some false → s.on (fADC_SSTAT_RUN k) = true := by
    intro hn
    rcases h with h | h
    · exact h
    · unfold State.nextSeq at hn
      rw [h] at hn
      simp only [Bool.and_false, Bool.false_eq_true, if_false] at hn
      split at hn <;> cases hn
  unfold State.startUser
  split
  · exact (hconv s _).ite (.refl s k)
  · split
    · next hn =>
      rw [if_pos (hnext hn)]
      exact hconv s _
    · exact (((InjectedOnly.refl s k).ite (injectedOnly_beginSeq s k)).updConv _).trans (hconv _ _)
    · exact ((InjectedOnly.refl s k).updConv _).ite (.refl s k)

theorem injectedOnly_convFree {s : State} {k : Nat} (h : s.on (fADC_SSTAT_RUN k) = true ∨ s.seqBusy k false = false) :
    InjectedOnly s (s.convFree k) k := by
  have hcut : InjectedOnly s (s.cutIn k) k := ((injectedOnly_beginSeq s k).updConv _).ite (.refl s k)
  have hstill : (s.cutIn k).on (fADC_SSTAT_RUN k) = true ∨ (s.cutIn k).seqBusy k false = false := by
    unfold State.seqBusy at h ⊢
    rw [hcut.run, hcut.due]
    exact h
  exact (hcut.trans (injectedOnly_startUser _ hstill)).ite hcut

/-! ### A conversion of the regular sequence -/

/-- The word of a result of the regular sequence (Table 11.5). -/
def State.regWord (s : State) (k : Nat) (nv : Int) (refNv : Nat) : Word :=
  resWord (s.get fADC_CFG_REF) (s.conv k).runs
    (s.userCode k (s.get (fADC_SLOT_CH k (s.get (fADC_SSTAT_SLOT k)))) (s.on (fADC_SLOT_MODE k (s.get (fADC_SSTAT_SLOT k)))) nv refNv)

/-- The event that ends a regular sequence. -/
def seqDone (k : Nat) : Ev := if k = 0 then evADC_SEQ_DONE_A else evADC_SEQ_DONE_B

theorem seqDone_block (k : Nat) : (seqDone k).block = 16 ∧ (seqDone k).bit < 32 := by
  unfold seqDone
  split <;> decide

/-- The result of a slot taken, before the sequence moves on. -/
def State.slotTaken (s : State) (k : Nat) (nv : Int) (refNv : Nat) : State :=
  (s.setReg (ADC_RES k (s.get (fADC_SSTAT_SLOT k))) (s.regWord k nv refNv)).updConv k fun c => { c with regNext := false }

/-- What a conversion of a slot of the regular sequence leaves, before the converter takes up its next one. -/
structure SlotDone (s t : State) (k : Nat) (nv : Int) (refNv : Nat) : Prop where
  rest : t.bareAdc = s.bareAdc
  regs : SameRegs s t ([ADC_SSTAT k, ADC_RES k (s.get (fADC_SSTAT_SLOT k))] ++ eventRegs 16)
  word : t.reg (ADC_RES k (s.get (fADC_SSTAT_SLOT k))) = s.regWord k nv refNv
  more : s.get (fADC_SSTAT_SLOT k) < s.get (fADC_SEQ_LEN k) → t.get (fADC_SSTAT_SLOT k) = s.get (fADC_SSTAT_SLOT k) + 1 ∧
    t.on (fADC_SSTAT_RUN k) = s.on (fADC_SSTAT_RUN k)
  last : s.get (fADC_SEQ_LEN k) ≤ s.get (fADC_SSTAT_SLOT k) → t.on (fADC_SSTAT_RUN k) = false ∧
    t.on (fADC_SSTAT_DUE k) = s.on (fADC_SSTAT_DUE k) ∧ t.stat (seqDone k) = true

theorem reg_updConv (s : State) (k o : Nat) (f : ConvHid → ConvHid) : (s.updConv k f).reg o = s.reg o := rfl

theorem reg_slotTaken (s : State) {k : Nat} (nv : Int) (refNv : Nat) (o : Nat) : (s.slotTaken k nv refNv).reg o =
    if o = ADC_RES k (s.get (fADC_SSTAT_SLOT k)) then s.regWord k nv refNv else s.reg o := by
  unfold State.slotTaken
  rw [reg_updConv, reg_setReg]

theorem regResult_eq (s : State) (k : Nat) (nv : Int) (refNv : Nat) : s.regResult k nv refNv =
    if s.get (fADC_SSTAT_SLOT k) < s.get (fADC_SEQ_LEN k) then (s.slotTaken k nv refNv).put (fADC_SSTAT_SLOT k) (s.get (fADC_SSTAT_SLOT k) + 1)
    else (((s.slotTaken k nv refNv).putB (fADC_SSTAT_RUN k) false).put (fADC_SSTAT_SLOT k) 0).raise (seqDone k) 0 := by
  unfold State.regResult State.slotTaken State.regWord seqDone
  dsimp only

theorem bareAdc_put (s : State) (f : Fld) (n : Nat) : (s.put f n).bareAdc = s.bareAdc := rfl

theorem bareAdc_putB (s : State) (f : Fld) (b : Bool) : (s.putB f b).bareAdc = s.bareAdc := rfl

theorem bareAdc_updConv (s : State) (k : Nat) (f : ConvHid → ConvHid) : (s.updConv k f).bareAdc = s.bareAdc := rfl

theorem bareAdc_slotTaken (s : State) (k : Nat) (nv : Int) (refNv : Nat) : (s.slotTaken k nv refNv).bareAdc = s.bareAdc := by
  unfold State.slotTaken
  rw [bareAdc_updConv, bareAdc_setReg]

theorem slot_lt (s : State) (k : Nat) : s.get (fADC_SSTAT_SLOT k) < 16 := get_lt_pow _ _

theorem regResult_slotDone (s : State) {k : Nat} (hk : k < 2) (nv : Int) (refNv : Nat) : SlotDone s (s.regResult k nv refNv) k nv refNv := by
  have hslot := slot_lt s k
  have hres : ADC_RES k (s.get (fADC_SSTAT_SLOT k)) ≠ ADC_SSTAT k := by simp only [ADC_RES, ADC_SSTAT]; omega
  have h16 : blockBase 16 = 0x68000 := rfl
  have hresev : ADC_RES k (s.get (fADC_SSTAT_SLOT k)) ∉ eventRegs 16 := by
    refine apart_eventRegs ?_ ?_ ?_ ?_ <;> simp only [ADC_RES, h16] <;> omega
  have hstatev : ADC_SSTAT k ∉ eventRegs 16 := by
    refine apart_eventRegs ?_ ?_ ?_ ?_ <;> simp only [ADC_SSTAT, h16] <;> omega
  have htaken : ∀ o, o ≠ ADC_RES k (s.get (fADC_SSTAT_SLOT k)) → (s.slotTaken k nv refNv).reg o = s.reg o := fun o ho => by rw [reg_slotTaken, if_neg ho]
  have hword : (s.slotTaken k nv refNv).reg (ADC_RES k (s.get (fADC_SSTAT_SLOT k))) = s.regWord k nv refNv := by rw [reg_slotTaken, if_pos rfl]
  have hbare := bareAdc_slotTaken s k nv refNv
  have hresult := regResult_eq s k nv refNv
  generalize s.slotTaken k nv refNv = u at *
  rw [hresult]
  by_cases hmore : s.get (fADC_SSTAT_SLOT k) < s.get (fADC_SEQ_LEN k)
  · rw [if_pos hmore]
    refine ⟨(bareAdc_put _ _ _).trans hbare, fun o ho => ?_, ?_, fun _ => ⟨?_, ?_⟩, fun h => absurd hmore (by omega)⟩
    · rw [reg_put_ne _ _ _ _ (by grind), htaken o (by grind)]
    · rw [reg_put_ne _ _ _ _ hres]
      exact hword
    · rw [get_put _ _ _ (by simp)]
      have hlen : s.get (fADC_SEQ_LEN k) < 16 := get_lt_pow _ _
      exact Nat.mod_eq_of_lt (by simp only; omega)
    · rw [on_put_apart _ (fADC_SSTAT_SLOT k) (fADC_SSTAT_RUN k) _ rfl (by simp)]
      exact on_of_reg _ (htaken _ hres.symm)
  · rw [if_neg hmore]
    obtain ⟨hblock, hbit⟩ := seqDone_block k
    refine ⟨(bareAdc_raise _ _ _).trans ((bareAdc_put _ _ _).trans ((bareAdc_putB _ _ _).trans hbare)), fun o ho => ?_, ?_, fun h => absurd h hmore, fun _ => ⟨?_, ?_, stat_raise_same _ _ _ hbit⟩⟩
    · rw [reg_raise _ _ _ _ (by rw [hblock]; grind), reg_put_ne _ _ _ _ (by grind), reg_putB_ne _ _ _ _ (by grind), htaken o (by grind)]
    · rw [reg_raise _ _ _ _ (by rw [hblock]; exact hresev), reg_put_ne _ _ _ _ hres, reg_putB_ne _ _ _ _ hres]
      exact hword
    · rw [on_raise _ _ _ _ (by rw [hblock]; exact hstatev), on_put_apart _ (fADC_SSTAT_SLOT k) (fADC_SSTAT_RUN k) _ rfl (by simp)]
      exact on_putB_same _ _ _ (by simp) rfl
    · rw [on_raise _ _ _ _ (by rw [hblock]; exact hstatev), on_put_apart _ (fADC_SSTAT_SLOT k) (fADC_SSTAT_DUE k) _ rfl (by simp),
        on_putB_apart _ (fADC_SSTAT_RUN k) (fADC_SSTAT_DUE k) _ rfl (by simp)]
      exact on_of_reg _ (htaken _ hres.symm)

theorem regWord_landed (s : State) (k : Nat) (nv : Int) (refNv : Nat) : (s.landed k).regWord k nv refNv = s.regWord k nv refNv := by
  have hruns : ((s.landed k).conv k).runs = (s.conv k).runs := by rw [conv_landed]
  unfold State.regWord
  rw [hruns]
  rfl

theorem bareAdc_of_unregAdc {s t : State} (h : t.unregAdc = s.unregAdc) : t.bareAdc = s.bareAdc :=
  congrArg (fun x : State => { x with book := [], trv := {}, pins := {} }) h

/-- A conversion of the regular sequence outside or inside the service (R492, R494). -/
theorem conversionDone_slot {k : Fin 2} {nv : Int} {refNv a : Nat} (hclk : s.lclk = true) (hflight : (s.conv k).flight = some ⟨a, .slot false⟩)
    (hdue : a + 160 ≤ s.now) (hrun : s.on (fADC_SSTAT_RUN k) = true) (hnot : s.on (fADC_SSTAT_DUE k) = false) :
    ∃ u, execConversionDone k nv refNv s = .next u ∧ u.reg (ADC_RES k (s.get (fADC_SSTAT_SLOT k))) = s.regWord k nv refNv ∧
      (s.get (fADC_SSTAT_SLOT k) < s.get (fADC_SEQ_LEN k) →
        u.get (fADC_SSTAT_SLOT k) = s.get (fADC_SSTAT_SLOT k) + 1 ∧ u.on (fADC_SSTAT_RUN k) = true) ∧
      (s.get (fADC_SEQ_LEN k) ≤ s.get (fADC_SSTAT_SLOT k) → u.on (fADC_SSTAT_RUN k) = false ∧ u.stat (seqDone k) = true) ∧
      OnlyEvents { s with adc := u.adc } u ([ADC_SSTAT k, ADC_TSTART k, ADC_RES k (s.get (fADC_SSTAT_SLOT k))] ++ (upTo 4).map (ADC_IRES k) ++ eventRegs 16) := by
  obtain ⟨hrest, hregs, hword, hmore, hlast⟩ := regResult_slotDone (s.landed k) k.isLt nv refNv
  have hslot := slot_lt s k
  rw [regWord_landed] at hword
  have hsame : ∀ f : Fld, (s.landed k).get f = s.get f := fun _ => rfl
  have hon : ∀ f : Fld, (s.landed k).on f = s.on f := fun _ => rfl
  rw [hsame, hsame, hon, hrun] at hmore
  rw [hsame, hsame, hon, hnot] at hlast
  rw [hsame] at hword hregs
  have hbare : ((s.landed k).regResult k nv refNv).bareAdc = s.bareAdc := hrest.trans (bareAdc_updConv _ _ _)
  generalize hr : (s.landed k).regResult k nv refNv = r at hbare hregs hword hmore hlast
  have hres : ∀ i, i < 16 → ADC_RES k i ∉ [ADC_SSTAT k] ++ (upTo 4).map (ADC_IRES k) := by
    intro i hi hm
    rcases List.mem_append.mp hm with hm | hm
    · simp only [List.mem_singleton, ADC_RES, ADC_SSTAT] at hm
      omega
    · obtain ⟨j, -, hj⟩ := List.mem_map.mp hm
      simp only [ADC_RES, ADC_IRES] at hj
      omega
  have hdone : blockBase (seqDone k).block ∉ [ADC_SSTAT k] ++ (upTo 4).map (ADC_IRES k) := by
    rw [(seqDone_block k).1, show blockBase 16 = 0x68000 from rfl]
    intro hm
    rcases List.mem_append.mp hm with hm | hm
    · simp only [List.mem_singleton, ADC_SSTAT] at hm
      omega
    · obtain ⟨j, -, hj⟩ := List.mem_map.mp hm
      simp only [ADC_IRES] at hj
      omega
  have hfree : InjectedOnly r (r.convFree k) k := by
    refine injectedOnly_convFree ?_
    rcases Nat.lt_or_ge (s.get (fADC_SSTAT_SLOT k)) (s.get (fADC_SEQ_LEN k)) with h | h
    · exact .inl (hmore h).2
    · obtain ⟨hoff, hdue, -⟩ := hlast h
      refine .inr ?_
      unfold State.seqBusy
      rw [hoff, hdue]
      rfl
  have hlands : InjectedOnly r (if r.service then r else r.convFree k) k := (InjectedOnly.refl r k).ite hfree
  have hexec : execConversionDone k nv refNv s = .next (if r.service then r else r.convFree k) := by
    rw [← hr]
    exact execConversionDone_of_due hclk hflight hdue
  generalize (if r.service then r else r.convFree k) = u at hlands hexec
  obtain ⟨hurest, huregs, hurun, hudue, huslot⟩ := hlands
  refine ⟨u, hexec, (huregs _ (hres _ hslot)).trans hword, fun h => ⟨huslot.trans (hmore h).1, hurun.trans (hmore h).2⟩,
    fun h => ⟨hurun.trans (hlast h).1, ?_⟩, onlyEvents_adc ((bareAdc_of_unregAdc hurest).trans hbare) fun o ho => ?_⟩
  · rw [stat_of_reg _ (huregs _ hdone)]
    exact (hlast h).2.2
  · simp only [List.mem_append, List.mem_cons, List.not_mem_nil, or_false, not_or] at ho
    exact (huregs o (by simp only [List.mem_append, List.mem_singleton, not_or]; exact ⟨ho.1.1.1, ho.1.2⟩)).trans
      (hregs o (by simp only [List.mem_append, List.mem_cons, List.not_mem_nil, or_false, not_or]; exact ⟨⟨ho.1.1.1, ho.1.1.2.2⟩, ho.2⟩))

/-! ### Triggers (R489, R490) -/

/-- The references are ready and the converter does not calibrate: a trigger is not lost for them (R489, R503). -/
def State.triggerFree (s : State) (k : Nat) : Prop :=
  s.on fADC_STATE_BM_RDY = true ∧ (s.get fADC_CFG_REF = 0 ∨ s.on fADC_STATE_ALT_RDY = true) ∧ (s.conv k).calOn = false

/-- The delay of a sequence, in ns. -/
def State.seqDelay (s : State) (k : Nat) (inj : Bool) : Nat := 8 * s.get (if inj then fADC_INJ_DELAY k else fADC_SEQ_DELAY k)

theorem seqDelay_regular (s : State) (k : Nat) : s.seqDelay k false = 8 * s.get (fADC_SEQ_DELAY k) := rfl

theorem seqDelay_injected (s : State) (k : Nat) : s.seqDelay k true = 8 * s.get (fADC_INJ_DELAY k) := rfl

/-- A sequence noted as due after its delay. -/
def State.noteDue (s : State) (k : Nat) (inj : Bool) (at_ : Nat) : State := s.updConv k fun c =>
  if inj then { c with idueAt := c.idueAt ++ [at_] } else { c with dueAt := c.dueAt ++ [at_] }

theorem trigger_busy {k : Nat} {inj : Bool} (hclk : s.lclk = true) (h : s.seqBusy k inj = true) :
    s.trigger k inj = (s.addSat (fADC_SSTAT_LOST k) 1).raise evADC_TRIG_LOST 0 := by
  unfold State.trigger
  dsimp only
  rw [if_neg (by simp [hclk]), h, if_pos (by simp)]

theorem trigger_free {k : Nat} {inj : Bool} (hclk : s.lclk = true) (h : s.seqBusy k inj = false) (hfree : s.triggerFree k) :
    s.trigger k inj = if s.seqDelay k inj = 0 then s.becomeDue k inj else s.noteDue k inj (s.now + s.seqDelay k inj) := by
  obtain ⟨hbm, href, hcal⟩ := hfree
  unfold State.trigger
  dsimp only
  rw [if_neg (by simp [hclk]), h, hbm, hcal, if_neg (by simpa using fun h0 => href.resolve_left h0)]
  rfl

/-- A sequence that has become due is busy. -/
theorem seqBusy_becomeDue (s : State) (k : Nat) (inj : Bool) : (s.becomeDue k inj).seqBusy k inj = true := by
  unfold State.becomeDue
  by_cases h : s.seqBusy k inj = true
  · rw [if_pos h]
    exact h
  · rw [if_neg h]
    unfold State.seqBusy
    cases inj
    · simp only [Bool.false_eq_true, if_false]
      rw [on_putB_same _ _ _ (by simp) rfl, Bool.or_true]
    · simp only [if_true]
      rw [on_putB_same _ _ _ (by simp) rfl, Bool.or_true]

theorem becomeDue_regs (s : State) (k : Nat) (inj : Bool) : (s.becomeDue k inj).unreg = s.unreg ∧ SameRegs s (s.becomeDue k inj) [ADC_SSTAT k] := by
  unfold State.becomeDue
  split
  · exact ⟨rfl, .refl s _⟩
  · refine ⟨rfl, (SameRegs.refl s _).putB _ ?_⟩
    cases inj <;> simp

/-- A trigger that is lost counts, and is reported (R490). -/
theorem triggerLost_spec (s : State) {k : Nat} (hk : k < 2) :
    ((s.addSat (fADC_SSTAT_LOST k) 1).raise evADC_TRIG_LOST 0).get (fADC_SSTAT_LOST k) = min 255 (s.get (fADC_SSTAT_LOST k) + 1) ∧
    ((s.addSat (fADC_SSTAT_LOST k) 1).raise evADC_TRIG_LOST 0).stat evADC_TRIG_LOST = true ∧
    OnlyEvents s ((s.addSat (fADC_SSTAT_LOST k) 1).raise evADC_TRIG_LOST 0) ([ADC_SSTAT k] ++ eventRegs 16) := by
  have h16 : blockBase 16 = 0x68000 := rfl
  have hstatev : ADC_SSTAT k ∉ eventRegs 16 := by
    refine apart_eventRegs ?_ ?_ ?_ ?_ <;> simp only [ADC_SSTAT, h16] <;> omega
  refine ⟨?_, stat_raise_same _ _ _ (by decide), onlyEvents_of ((bare_raise _ _ _).trans (bare_addSat _ _ _)) fun o ho => ?_⟩
  · rw [get_raise _ _ _ _ hstatev, get_addSat _ _ _ (by simp)]
    rw [show (fADC_SSTAT_LOST k).top = 255 from rfl]
  · simp only [List.mem_append, List.mem_singleton, not_or] at ho
    rw [reg_raise _ _ _ _ ho.2, reg_addSat_ne _ _ _ _ ho.1]

/-- What a trigger does: nothing, or it is lost, or its sequence becomes due, or is noted as due after its delay. -/
theorem trigger_cases (s : State) (k : Nat) (inj : Bool) : s.trigger k inj = s ∨
    s.trigger k inj = (s.addSat (fADC_SSTAT_LOST k) 1).raise evADC_TRIG_LOST 0 ∨ s.trigger k inj = s.becomeDue k inj ∨
    s.trigger k inj = s.noteDue k inj (s.now + s.seqDelay k inj) := by
  unfold State.trigger State.noteDue State.seqDelay
  dsimp only
  generalize 8 * s.get (if inj then fADC_INJ_DELAY k else fADC_SEQ_DELAY k) = d
  split
  · exact .inl rfl
  · split
    · exact .inr (.inl rfl)
    · split
      · exact .inr (.inr (.inl rfl))
      · exact .inr (.inr (.inr rfl))

theorem bareAdc_of_unreg {s t : State} (h : t.unreg = s.unreg) : t.bareAdc = s.bareAdc :=
  congrArg (fun x : State => { x with book := [], trv := {}, pins := {}, adc := {} }) h

/-- What a trigger may change. -/
theorem trigger_frame (s : State) {k : Nat} (inj : Bool) : (s.trigger k inj).bareAdc = s.bareAdc ∧
    SameRegs s (s.trigger k inj) ([ADC_SSTAT k] ++ eventRegs 16) := by
  rcases trigger_cases s k inj with h | h | h | h
  · rw [h]
    exact ⟨rfl, .refl s _⟩
  · rw [h]
    refine ⟨(bareAdc_raise _ _ _).trans (bareAdc_put _ _ _), fun o ho => ?_⟩
    simp only [List.mem_append, List.mem_singleton, not_or] at ho
    rw [reg_raise _ _ _ _ ho.2, reg_addSat_ne _ _ _ _ ho.1]
  · obtain ⟨hrest, hregs⟩ := becomeDue_regs s k inj
    rw [h]
    exact ⟨bareAdc_of_unreg hrest, hregs.mono (List.subset_append_left _ _)⟩
  · rw [h]
    exact ⟨bareAdc_updConv _ _ _, fun _ _ => reg_updConv _ _ _ _⟩

/-- The triggers of a source, where it is that of one sequence alone. -/
theorem triggerAll_regular (s : State) {k : Fin 2} {reg inj : Nat → Bool} (hk : reg k = true) (ho : reg (1 - k) = false) (h0 : inj 0 = false)
    (h1 : inj 1 = false) : s.triggerAll reg inj = s.trigger k false := by
  unfold State.triggerAll
  obtain hval | hval : k.val = 0 ∨ k.val = 1 := by omega
  · rw [hval] at hk ho ⊢
    simp [hk, show reg 1 = false from ho, h0, h1]
  · rw [hval] at hk ho ⊢
    simp [hk, show reg 0 = false from ho, h0, h1]

theorem triggerAll_injected (s : State) {k : Fin 2} {inj : Nat → Bool} (hk : inj k = true) (ho : inj (1 - k) = false) :
    s.triggerAll (fun _ => false) inj = s.trigger k true := by
  unfold State.triggerAll
  obtain hval | hval : k.val = 0 ∨ k.val = 1 := by omega
  · rw [hval] at hk ho ⊢
    simp [hk, show inj 1 = false from ho]
  · rw [hval] at hk ho ⊢
    simp [hk, show inj 0 = false from ho]

theorem triggerAll_frame (s : State) (reg inj : Nat → Bool) : (s.triggerAll reg inj).bareAdc = s.bareAdc ∧
    SameRegs s (s.triggerAll reg inj) ([ADC_SSTAT 0, ADC_SSTAT 1] ++ eventRegs 16) := by
  have hone : ∀ (u : State) (c : Bool) (k : Nat) (i : Bool), k < 2 → (if c then u.trigger k i else u).bareAdc = u.bareAdc ∧
      SameRegs u (if c then u.trigger k i else u) ([ADC_SSTAT 0, ADC_SSTAT 1] ++ eventRegs 16) := by
    intro u c k i hk
    split
    · obtain ⟨hb, hr⟩ := trigger_frame u (k := k) i
      refine ⟨hb, hr.mono fun o ho => ?_⟩
      obtain rfl | rfl : k = 0 ∨ k = 1 := by omega
      all_goals simp only [List.mem_append, List.mem_cons, List.not_mem_nil, or_false] at ho ⊢
      all_goals exact ho.imp_left (by simp +contextual)
    · exact ⟨rfl, .refl u _⟩
  unfold State.triggerAll
  dsimp only
  obtain ⟨hb1, hr1⟩ := hone s (reg 0) 0 false (by decide)
  generalize (if reg 0 then s.trigger 0 false else s) = u1 at *
  obtain ⟨hb2, hr2⟩ := hone u1 (inj 0) 0 true (by decide)
  generalize (if inj 0 then u1.trigger 0 true else u1) = u2 at *
  obtain ⟨hb3, hr3⟩ := hone u2 (reg 1) 1 false (by decide)
  generalize (if reg 1 then u2.trigger 1 false else u2) = u3 at *
  obtain ⟨hb4, hr4⟩ := hone u3 (inj 1) 1 true (by decide)
  exact ⟨hb4.trans (hb3.trans (hb2.trans hb1)), ((hr1.trans hr2).trans hr3).trans hr4⟩

/-! ### The timer, and the ends of delays -/

/-- The timer begins its next period. -/
def State.tmrNext (s : State) (a : Nat) : State := s.updAdc fun h => { h with tmrAt := some (a + 1000 * s.get fADC_TMR_PERIOD) }

theorem adcTimerExpiry_eq {a : Nat} (ht : s.adc.tmrAt = some a) (hdue : a ≤ s.now) : execAdcTimerExpiry s = .next
    ((s.tmrNext a).triggerAll (fun k => s.get (fADC_SEQ_TSRC k) = 1) (fun k => s.get (fADC_INJ_TSRC k) = 1)) := by
  unfold execAdcTimerExpiry
  rw [ht]
  dsimp only
  rw [if_pos hdue]
  rfl

theorem adc_becomeDue (s : State) (k : Nat) (inj : Bool) : (s.becomeDue k inj).adc = s.adc := by
  unfold State.becomeDue
  split <;> rfl

theorem tmrAt_trigger (s : State) (k : Nat) (inj : Bool) : (s.trigger k inj).adc.tmrAt = s.adc.tmrAt := by
  rcases trigger_cases s k inj with h | h | h | h <;> rw [h]
  · rw [State.raise_adc, State.addSat_adc]
  · rw [adc_becomeDue]
  · rfl

theorem tmrAt_triggerAll (s : State) (reg inj : Nat → Bool) : (s.triggerAll reg inj).adc.tmrAt = s.adc.tmrAt := by
  have hone : ∀ (u : State) (c : Bool) (k : Nat) (i : Bool), (if c then u.trigger k i else u).adc.tmrAt = u.adc.tmrAt := by
    intro u c k i
    split
    · exact tmrAt_trigger u k i
    · rfl
  unfold State.triggerAll
  dsimp only
  rw [hone, hone, hone, hone]

theorem seqDue_regular {k : Fin 2} {a : Nat} {l : List Nat} (hl : (s.conv k).dueAt = a :: l) (hdue : a ≤ s.now) :
    execSeqDue k false s = .next ((s.updConv k fun c => { c with dueAt := l }).becomeDue k false) := by
  unfold execSeqDue
  simp only [Bool.false_eq_true, if_false, hl, hdue, if_true]

theorem seqDue_injected {k : Fin 2} {a : Nat} {l : List Nat} (hl : (s.conv k).idueAt = a :: l) (hdue : a ≤ s.now) :
    execSeqDue k true s = .next ((s.updConv k fun c => { c with idueAt := l }).becomeDue k true) := by
  unfold execSeqDue
  simp only [if_true, hl, hdue]

theorem on_becomeDue {k : Nat} (h : s.seqBusy k false = false) : (s.becomeDue k false).on (fADC_SSTAT_DUE k) = true := by
  unfold State.becomeDue
  rw [if_neg (by simp [h])]
  exact on_putB_same _ _ _ (by simp) rfl

/-! ### The references -/

/-- Whether a buffer powered at an instant is ready now (R498). -/
def State.bufferReady (s : State) : Option Nat → Bool
  | none => false
  | some a => decide (a + 20000 ≤ s.now)

/-- The buffers that are ready shown. -/
def State.refShown (s : State) (bm alt : Bool) : State :=
  if alt then (if bm then s.putB fADC_STATE_BM_RDY true else s).putB fADC_STATE_ALT_RDY true else if bm then s.putB fADC_STATE_BM_RDY true else s

theorem execRefReady_eq (s : State) : execRefReady s = .next (s.refShown (s.bufferReady s.adc.bmAt) (s.bufferReady s.adc.altAt)) := by
  unfold execRefReady State.refShown State.bufferReady
  rfl

theorem onlyRegs_refShown (s : State) (bm alt : Bool) : OnlyRegs s (s.refShown bm alt) [ADC_STATE] := by
  have hput : ∀ (u : State) (f : Fld), f.off = ADC_STATE → OnlyRegs s u [ADC_STATE] → OnlyRegs s (u.putB f true) [ADC_STATE] := by
    intro u f hf ⟨⟨r, c, hu⟩, hregs⟩
    refine ⟨⟨_, c, congrArg (fun x : State => { x with regs := (u.putB f true).regs }) hu⟩, fun o ho => ?_⟩
    rw [reg_putB_ne _ _ _ _ (by rw [hf]; simpa using ho), hregs o ho]
  have hself : OnlyRegs s s [ADC_STATE] := onlyRegs_of rfl fun _ _ => rfl
  unfold State.refShown
  split
  · exact hput _ _ rfl (by split; exacts [hput _ _ rfl hself, hself])
  · split
    · exact hput _ _ rfl hself
    · exact hself

theorem bufferReady_some {o : Option Nat} {a : Nat} (ha : o = some a) (hdue : a + 20000 ≤ s.now) : s.bufferReady o = true := by
  subst ha
  exact decide_eq_true hdue

theorem bmRdy_refShown (s : State) (alt : Bool) : (s.refShown true alt).on fADC_STATE_BM_RDY = true := by
  cases alt
  · exact on_putB_same _ _ _ (by decide) rfl
  · exact (on_putB_apart _ fADC_STATE_ALT_RDY fADC_STATE_BM_RDY _ rfl (by decide)).trans (on_putB_same _ _ _ (by decide) rfl)

theorem altRdy_refShown (s : State) (bm : Bool) : (s.refShown bm true).on fADC_STATE_ALT_RDY = true := on_putB_same _ _ _ (by decide) rfl

/-- A buffer powered for 20 us is ready (R498). -/
theorem refReady_spec (s : State) :
    (∀ a, s.adc.bmAt = some a → a + 20000 ≤ s.now → Runs .refReady s fun u => u.on fADC_STATE_BM_RDY = true ∧ OnlyRegs s u [ADC_STATE]) ∧
    (∀ a, s.adc.altAt = some a → a + 20000 ≤ s.now → Runs .refReady s fun u => u.on fADC_STATE_ALT_RDY = true ∧ OnlyRegs s u [ADC_STATE]) := by
  refine ⟨fun a ha hdue => ⟨_, execRefReady_eq s, ?_, onlyRegs_refShown _ _ _⟩, fun a ha hdue => ⟨_, execRefReady_eq s, ?_, onlyRegs_refShown _ _ _⟩⟩
  · rw [bufferReady_some ha hdue]
    exact bmRdy_refShown _ _
  · rw [bufferReady_some ha hdue]
    exact altRdy_refShown _ _

/-! ### Writes of a sequence and of the reference -/

/-- The access codes of ADC_SEQ and ADC_INJ. -/
def seqAccess (inj : Bool) : Access := if inj then ⟨0xFF7F03#32, 0, 0, 0x80000000#32⟩ else ⟨0xFF7F0F#32, 0, 0, 0x80000000#32⟩

/-- The register of a sequence of a converter. -/
def seqReg (k : Nat) (inj : Bool) : Nat := if inj then ADC_INJ k else ADC_SEQ k

/-- The bits of a word that a sequence takes, with GO. -/
def seqAsk (inj : Bool) (v : Word) : Word := (v ||| 0x80000000#32) &&& (if inj then 0x80FF7F03#32 else 0x80FF7F0F#32)

theorem seqReg_facts : ∀ (k : Fin 2) (inj : Bool), seqReg k inj % 4 = 0 ∧ seqReg k inj < 0x80000 ∧ coefWindow (seqReg k inj) = none ∧
    accessOf (seqReg k inj) = some (seqAccess inj) ∧ commonAt (seqReg k inj) = none ∧ blockOf (seqReg k inj) = some 16 ∧
    seqReg k inj ≠ ADC_CFG ∧ seqReg k inj ≠ ADC_TMR ∧ seqReg k inj ≠ ADC_CALCMD ∧
    arrayIx (ADC_SEQ 0) 512 2 (seqReg k inj) = (if inj then none else some k.val) ∧ (inj = true → arrayIx (ADC_INJ 0) 512 2 (seqReg k inj) = some k.val) := by
  decide +kernel

/-- A served write of a sequence with GO (R489, R495). -/
theorem portWrite_seq (p : Port) (k : Fin 2) (inj : Bool) (v : Word) (hs : Served p (seqReg k inj) s) :
    ∃ u : State, s.portWrite p (seqReg k inj) (v ||| 0x80000000#32) = .next ((u.writeSeq k inj (seqAsk inj v)).okay 0) ∧
      u.unreg = s.unreg ∧ u.bare = s.bare ∧ ∀ o, u.reg o = s.reg o := by
  obtain ⟨h4, hlt, hcoef, hacc, hcommon, hblock, hcfg, htmr, hcal, hseq, hinj⟩ := seqReg_facts k inj
  have hrwl : (seqAccess inj).rwl = 0 := by cases inj <;> rfl
  have hw1c : (seqAccess inj).w1c = 0 := by cases inj <;> rfl
  have hnot : ¬((seqAccess inj).rw = 0 ∧ (seqAccess inj).w1c = 0 ∧ (seqAccess inj).w1s = 0) := by cases inj <;> decide
  have hbits : s.writeBits (seqAccess inj) (seqReg k inj) (v ||| 0x80000000#32) = v ||| 0x80000000#32 := by
    unfold State.writeBits
    rw [hw1c]
    change _ &&& ~~~(0#32 &&& _) = _
    rw [BitVec.zero_and, BitVec.not_zero, BitVec.and_allOnes]
  have hstore (u : State) (w : Word) : u.storeIn (p = .core) 16 (seqReg k inj) w (v ||| 0x80000000#32) = u.writeSeq k inj (seqAsk inj v) := by
    change u.storeAdc (seqReg k inj) w (v ||| 0x80000000#32) = _
    unfold State.storeAdc
    rw [if_neg hcfg, if_neg htmr, if_neg hcal, hseq]
    cases inj
    · rfl
    · rw [hinj rfl]
      rfl
  refine ⟨s.hostMark (p = .core) (seqReg k inj) ((seqAccess inj).rw ||| (seqAccess inj).w1s), ?_, unreg_hostMark _ _ _ _, bare_hostMark _ _ _ _,
    reg_hostMark _ _ _ _⟩
  rw [portWrite_in s p (seqReg k inj) (v ||| 0x80000000#32) 16 (seqAccess inj) hs h4 hlt hcoef hacc hrwl hcommon hblock hnot, hbits, hstore]

/-- The word that a write with GO stores for a sequence. -/
def seqStored (inj : Bool) (v : Word) : Word :=
  setBits (setBits (seqAsk inj v) 31 1 0) 8 3 (if bitsAt (seqAsk inj v) 8 3 ≤ (if inj then 4 else 3) then bitsAt (seqAsk inj v) 8 3 else 0)

theorem seqAsk_fields (inj : Bool) (v : Word) : bitsAt (seqAsk inj v) 31 1 = 1 ∧ bitsAt (seqAsk inj v) 8 3 = bitsAt v 8 3 := by
  have hmask : (∀ i, i < 3 → (if inj then 0x80FF7F03#32 else 0x80FF7F0F#32 : Word).getLsbD (8 + i) = true) ∧
      ∀ i, i < 1 → (if inj then 0x80FF7F03#32 else 0x80FF7F0F#32 : Word).getLsbD (31 + i) = true := by revert inj; decide
  have hgo : ∀ i, i < 3 → (0x80000000#32).getLsbD (8 + i) = false := by decide
  have hlt : bitsAt (v ||| 0x80000000#32) 31 1 < 2 := Nat.mod_lt _ (by decide)
  have hne : bitsAt (v ||| 0x80000000#32) 31 1 ≠ 0 := bitsAt_or_bit _ 31 (by decide)
  unfold seqAsk
  rw [bitsAt_and _ hmask.2, bitsAt_and _ hmask.1, bitsAt_or _ hgo]
  exact ⟨by omega, rfl⟩

theorem seqStored_fields (inj : Bool) (v : Word) :
    bitsAt (seqStored inj v) 0 (if inj then 2 else 4) = bitsAt v 0 (if inj then 2 else 4) ∧ bitsAt (seqStored inj v) 11 4 = bitsAt v 11 4 ∧
    bitsAt (seqStored inj v) 16 8 = bitsAt v 16 8 ∧
    bitsAt (seqStored inj v) 8 3 = (if bitsAt v 8 3 ≤ (if inj then 4 else 3) then bitsAt v 8 3 else 0) ∧ bitsAt (seqStored inj v) 31 1 = 0 := by
  obtain ⟨-, hsrc⟩ := seqAsk_fields inj v
  have hmask : ∀ b : Bool, (∀ i, i < (if b then 2 else 4) → (if b then 0x80FF7F03#32 else 0x80FF7F0F#32 : Word).getLsbD (0 + i) = true) ∧
      (∀ i, i < 4 → (if b then 0x80FF7F03#32 else 0x80FF7F0F#32 : Word).getLsbD (11 + i) = true) ∧
      ∀ i, i < 8 → (if b then 0x80FF7F03#32 else 0x80FF7F0F#32 : Word).getLsbD (16 + i) = true := by decide
  have hgo : ∀ i, i < 31 → (0x80000000#32).getLsbD i = false := by decide
  obtain ⟨hlen, htph, hdelay⟩ := hmask inj
  have h2 : (if inj then 2 else 4) ≤ 4 := by cases inj <;> decide
  unfold seqStored
  refine ⟨?_, ?_, ?_, ?_, ?_⟩
  · rw [bitsAt_setBits_apart _ _ _ _ _ _ (by omega), bitsAt_setBits_apart _ _ _ _ _ _ (by omega), seqAsk, bitsAt_and _ hlen,
      bitsAt_or _ fun i hi => hgo _ (by omega)]
  · rw [bitsAt_setBits_apart _ _ _ _ _ _ (by omega), bitsAt_setBits_apart _ _ _ _ _ _ (by omega), seqAsk, bitsAt_and _ htph,
      bitsAt_or _ fun i hi => hgo _ (by omega)]
  · rw [bitsAt_setBits_apart _ _ _ _ _ _ (by omega), bitsAt_setBits_apart _ _ _ _ _ _ (by omega), seqAsk, bitsAt_and _ hdelay,
      bitsAt_or _ fun i hi => hgo _ (by omega)]
  · have hlt : bitsAt v 8 3 < 8 := Nat.mod_lt _ (by decide)
    rw [bitsAt_setBits _ _ _ _ (by omega), hsrc]
    generalize (if inj then 4 else 3) = m
    refine Nat.mod_eq_of_lt ?_
    split <;> omega
  · rw [bitsAt_setBits_apart _ _ _ _ _ _ (by omega), bitsAt_setBits _ _ _ _ (by omega), Nat.zero_mod]

theorem writeSeq_busy {u : State} {k : Nat} {inj : Bool} (v : Word) (hk : k < 2) (hclk : u.lclk = true) (hbusy : u.seqBusy k inj = true) :
    u.writeSeq k inj (seqAsk inj v) = ((u.raise evADC_REFUSED 0).addSat (fADC_SSTAT_LOST k) 1).raise evADC_TRIG_LOST 0 := by
  have h16 : blockBase 16 = 0x68000 := rfl
  have hstatev : ADC_SSTAT k ∉ eventRegs 16 := by
    refine apart_eventRegs ?_ ?_ ?_ ?_ <;> simp only [ADC_SSTAT, h16] <;> omega
  have hbusy' : (u.raise evADC_REFUSED 0).seqBusy k inj = true := (seqBusy_congr (reg_raise _ _ _ _ hstatev) inj).trans hbusy
  have hclk' : (u.raise evADC_REFUSED 0).lclk = true := by
    unfold State.lclk at hclk ⊢
    rw [State.raise_clk]
    exact hclk
  unfold State.writeSeq
  dsimp only
  rw [if_pos (seqAsk_fields inj v).1, if_pos hbusy]
  exact trigger_busy hclk' hbusy'

theorem writeSeq_free {u : State} {k : Nat} {inj : Bool} (v : Word) (hclk : u.lclk = true) (hbusy : u.seqBusy k inj = false)
    (hfree : u.triggerFree k) : u.writeSeq k inj (seqAsk inj v) = if bitsAt v 16 8 = 0 then (u.setReg (seqReg k inj) (seqStored inj v)).becomeDue k inj
      else (u.setReg (seqReg k inj) (seqStored inj v)).noteDue k inj (u.now + 8 * bitsAt v 16 8) := by
  obtain ⟨-, -, hdelay, -⟩ := seqStored_fields inj v
  have hne : ∀ o, o = ADC_STATE ∨ o = ADC_CFG ∨ o = ADC_SSTAT k → o ≠ seqReg k inj := by
    unfold seqReg
    cases inj <;> simp [ADC_STATE, ADC_CFG, ADC_SSTAT, ADC_SEQ, ADC_INJ] <;> omega
  have hreg : ∀ o, o = ADC_STATE ∨ o = ADC_CFG ∨ o = ADC_SSTAT k → (u.setReg (seqReg k inj) (seqStored inj v)).reg o = u.reg o :=
    fun o ho => reg_setReg_ne _ _ _ _ (hne o ho)
  have hfree' : (u.setReg (seqReg k inj) (seqStored inj v)).triggerFree k := by
    obtain ⟨hbm, href, hcal⟩ := hfree
    exact ⟨(on_of_reg _ (hreg _ (.inl rfl))).trans hbm, href.imp ((get_of_reg _ (hreg _ (.inr (.inl rfl)))).trans ·)
      ((on_of_reg _ (hreg _ (.inl rfl))).trans ·), hcal⟩
  have hseqDelay : (u.setReg (seqReg k inj) (seqStored inj v)).seqDelay k inj = 8 * bitsAt v 16 8 := by
    unfold State.seqDelay
    rw [← hdelay]
    cases inj
    · exact congrArg (8 * ·) ((get_setReg _ _ _ _).trans (if_pos rfl))
    · exact congrArg (8 * ·) ((get_setReg _ _ _ _).trans (if_pos rfl))
  have hstore : u.writeSeq k inj (seqAsk inj v) = (u.setReg (seqReg k inj) (seqStored inj v)).trigger k inj := by
    unfold State.writeSeq
    dsimp only
    rw [if_pos (seqAsk_fields inj v).1, if_neg (by simp [hbusy])]
    rfl
  have hquiet : (u.setReg (seqReg k inj) (seqStored inj v)).seqBusy k inj = false :=
    (seqBusy_congr (hreg _ (.inr (.inr rfl))) inj).trans hbusy
  rw [hstore, trigger_free (by exact hclk) hquiet hfree', hseqDelay]
  by_cases h0 : bitsAt v 16 8 = 0
  · rw [if_pos (by omega), if_pos h0]
  · rw [if_neg (by omega), if_neg h0]
    rfl

theorem triggerFree_congr {u : State} {k : Nat} (hu : u.unreg = s.unreg) (hreg : ∀ o, u.reg o = s.reg o) (h : s.triggerFree k) : u.triggerFree k := by
  obtain ⟨hbm, href, hcal⟩ := h
  exact ⟨(on_of_reg _ (hreg _)).trans hbm, href.imp ((get_of_reg _ (hreg _)).trans ·) ((on_of_reg _ (hreg _)).trans ·),
    by rw [conv_congr (adc_of_unreg hu)]; exact hcal⟩

theorem lclk_of_unreg {u : State} (hu : u.unreg = s.unreg) : u.lclk = s.lclk := by
  have hclk := congrArg State.clk hu
  unfold State.lclk
  exact congrArg _ hclk

theorem now_of_unreg {u : State} (hu : u.unreg = s.unreg) : u.now = s.now := by
  have hnow := congrArg State.now hu
  exact hnow

/-- GO on a sequence that is busy: refused, and its trigger lost (R489, R495). -/
theorem seqGo_busy {p : Port} {k : Fin 2} {v : Word} (hclk : s.lclk = true) (hs : Served p (ADC_SEQ k) s) (hbusy : s.seqBusy k false = true) :
    Runs (.adcSeqGo p k v) s fun u => u.stat evADC_REFUSED = true ∧ u.stat evADC_TRIG_LOST = true ∧
      u.get (fADC_SSTAT_LOST k) = min 255 (s.get (fADC_SSTAT_LOST k) + 1) ∧
      OnlyEvents { s with bus := { slverr := false, data := 0 } } u ([ADC_SSTAT k] ++ eventRegs 16) := by
  have h16 : blockBase 16 = 0x68000 := rfl
  have hstatev : ADC_SSTAT k ∉ eventRegs 16 := by
    refine apart_eventRegs ?_ ?_ ?_ ?_ <;> simp only [ADC_SSTAT, h16] <;> omega
  obtain ⟨u, hrun, hun, hbare, hreg⟩ := portWrite_seq p k false v hs
  have hbusy' : u.seqBusy k false = true := (seqBusy_congr (hreg _) false).trans hbusy
  rw [writeSeq_busy v k.isLt ((lclk_of_unreg hun).trans hclk) hbusy'] at hrun
  obtain ⟨hcount, hlost, ⟨hdata, hregs⟩⟩ := triggerLost_spec (u.raise evADC_REFUSED 0) k.isLt
  refine ⟨_, hrun, stat_raise_keeps _ _ _ _ ?_, hlost, ?_, OnlyEvents.okay (onlyEvents_of ?_ fun o ho => ?_) 0⟩
  · rw [stat_addSat _ _ _ _ (by simp only [ADC_SSTAT]; omega)]
    exact stat_raise_same _ _ _ (by decide)
  · rw [get_okay, hcount, get_raise _ _ _ _ hstatev, get_of_reg _ (hreg _)]
  · exact (evOnly_iff_bare.mp hdata).trans ((bare_raise _ _ _).trans hbare)
  · rw [hregs o ho, reg_raise _ _ _ _ (fun h => ho (List.mem_append_right _ h)), hreg]

/-- GO on a sequence that is free: the fields are stored, and it is due at once or after its delay (R489, R495). -/
theorem seqGo_free {p : Port} {k : Fin 2} {inj : Bool} {v : Word} (hclk : s.lclk = true) (hs : Served p (seqReg k inj) s)
    (hbusy : s.seqBusy k inj = false) (hfree : s.triggerFree k) :
    ∃ u, s.portWrite p (seqReg k inj) (v ||| 0x80000000#32) = .next u ∧ u.reg (seqReg k inj) = seqStored inj v ∧
      (bitsAt v 16 8 = 0 → u.seqBusy k inj = true) ∧
      (bitsAt v 16 8 ≠ 0 → u.conv k = ((s.noteDue k inj (s.now + 8 * bitsAt v 16 8)).conv k) ∧
        OnlyRegs { s with adc := u.adc, bus := { slverr := false, data := 0 } } u [seqReg k inj]) := by
  obtain ⟨u, hrun, hun, hbare, hreg⟩ := portWrite_seq p k inj v hs
  have hadc := adc_of_unreg hun
  rw [writeSeq_free v ((lclk_of_unreg hun).trans hclk) ((seqBusy_congr (hreg _) inj).trans hbusy) (triggerFree_congr hun hreg hfree), now_of_unreg hun] at hrun
  refine ⟨_, hrun, ?_, fun h0 => ?_, fun h0 => ?_⟩
  · rw [reg_okay]
    split
    · rw [(becomeDue_regs _ _ _).2 _ ?_, reg_setReg_same]
      unfold seqReg
      cases inj <;> simp [ADC_SSTAT, ADC_SEQ, ADC_INJ]
    · exact (reg_updConv _ _ _ _).trans (reg_setReg_same _ _ _)
  · rw [if_pos h0]
    exact seqBusy_becomeDue _ _ _
  · rw [if_neg h0]
    constructor
    · have hconv : (u.setReg (seqReg k inj) (seqStored inj v)).conv k = s.conv k := conv_congr hadc k
      change ((u.setReg (seqReg k inj) (seqStored inj v)).noteDue k inj (s.now + 8 * bitsAt v 16 8)).conv k = _
      unfold State.noteDue
      rw [conv_updConv_same, conv_updConv_same, hconv]
    · refine OnlyRegs.okay (onlyRegs_adc ?_ fun o ho => ?_)
      · exact congrArg (fun x : State => { x with adc := {} }) hun
      · exact (reg_updConv _ _ _ _).trans ((reg_setReg_ne _ _ _ _ (by simpa using ho)).trans (hreg o))

/-- A served write of ADC_CFG (R499). -/
theorem portWrite_adcCfg (p : Port) (v : Word) (hs : Served p ADC_CFG s) :
    ∃ u : State, s.portWrite p ADC_CFG v = .next ((u.writeRef s.datumAbsent (bitsAt v 0 2)).okay 0) ∧
      u.unreg = s.unreg ∧ u.bare = s.bare ∧ ∀ o, u.reg o = s.reg o := by
  have hbits : s.writeBits ⟨3#32, 0, 0, 0⟩ ADC_CFG v = v := by
    change v &&& ~~~(0#32 &&& _) = v
    rw [BitVec.zero_and, BitVec.not_zero, BitVec.and_allOnes]
  have hstore (u : State) (w : Word) : u.storeIn (p = .core) 16 ADC_CFG w v = u.writeRef u.datumAbsent (bitsAt v 0 2) := by
    change u.storeAdc ADC_CFG w v = _
    unfold State.storeAdc
    rw [if_pos rfl]
  have habsent : (s.hostMark (p = .core) ADC_CFG (3#32 ||| 0)).datumAbsent = s.datumAbsent := by
    unfold State.datumAbsent
    rw [on_of_reg fPLAT_STATE_BMDONE (reg_hostMark _ _ _ _ _), on_of_reg fPLAT_BM_DATUM (reg_hostMark _ _ _ _ _)]
  refine ⟨s.hostMark (p = .core) ADC_CFG (3#32 ||| 0), ?_, unreg_hostMark _ _ _ _, bare_hostMark _ _ _ _, reg_hostMark _ _ _ _⟩
  rw [portWrite_in s p ADC_CFG v 16 ⟨3#32, 0, 0, 0⟩ hs (by decide) (by decide) (by decide) (by decide +kernel) rfl
    (by decide +kernel) (by decide +kernel) (by decide), hbits, hstore, habsent]

theorem writeRef_refused {u : State} {absent : Bool} {r : Nat} (h : u.anySeqBusy = true ∨ (r = 1 ∧ absent = true)) :
    u.writeRef absent r = u.raise evADC_REFUSED 0 := by
  unfold State.writeRef
  dsimp only
  rw [if_pos]
  rcases h with h | ⟨rfl, rfl⟩
  · rw [h]
    rfl
  · simp

/-- The reference changed. -/
def State.refSet (u : State) (r : Nat) : State := ((u.put fADC_CFG_REF r).put fADC_STATE_REF r).putB fADC_STATE_ALT_RDY false

theorem writeRef_set {u : State} {absent : Bool} {r : Nat} (hclk : u.lclk = true) (hbusy : u.anySeqBusy = false) (h3 : r ≠ 3)
    (habsent : r ≠ 1 ∨ absent = false) (hne : r ≠ u.get fADC_CFG_REF) :
    u.writeRef absent r = (u.refSet r).updAdc fun a => { a with altAt := if r = 0 then none else some u.now } := by
  unfold State.writeRef
  dsimp only
  rw [if_neg h3, hbusy, hclk, if_neg (by rcases habsent with h | h <;> simp [h]), if_neg hne]
  by_cases h0 : r = 0
  · rw [if_neg (by simp [h0]), if_pos h0]
    rfl
  · rw [if_pos (by simp [h0]), if_neg h0]
    rfl

theorem refSet_spec (u : State) {r : Nat} (hr : r < 4) : (u.refSet r).get fADC_CFG_REF = r ∧ (u.refSet r).get fADC_STATE_REF = r ∧
    (u.refSet r).on fADC_STATE_ALT_RDY = false ∧ SameRegs u (u.refSet r) [ADC_CFG, ADC_STATE] := by
  unfold State.refSet
  refine ⟨?_, ?_, on_putB_same _ _ _ (by decide) rfl, ?_⟩
  · rw [get_putB_reg _ _ _ _ (by decide), get_put_reg _ _ _ _ (by decide), get_put _ _ _ (by decide)]
    exact Nat.mod_eq_of_lt hr
  · rw [get_putB_apart _ fADC_STATE_ALT_RDY fADC_STATE_REF _ rfl (by decide), get_put _ _ _ (by decide)]
    exact Nat.mod_eq_of_lt hr
  · exact (((SameRegs.refl u _).put _ (by simp)).put _ (by simp)).putB _ (by simp)

/-! ### Triggers of one sequence -/

/-- The trigger of an IB period (R489, R490). -/
theorem ibPeriod_spec {k : Fin 2} (hmode : s.ibMode = 3) (hk : s.get (fADC_SEQ_TSRC k) = 2) (ho : s.get (fADC_SEQ_TSRC (1 - k)) ≠ 2)
    (h0 : s.get (fADC_INJ_TSRC 0) ≠ 2) (h1 : s.get (fADC_INJ_TSRC 1) ≠ 2) : execSeqTrigger .ibPeriod s = .next (s.trigger k false) := by
  unfold execSeqTrigger
  dsimp only
  rw [if_pos hmode, triggerAll_regular s (decide_eq_true hk) (decide_eq_false ho) (decide_eq_false h0) (decide_eq_false h1)]

/-- A sequence that becomes due at its trigger (R489). -/
theorem trigger_now {k : Nat} (hclk : s.lclk = true) (hbusy : s.seqBusy k false = false) (hfree : s.triggerFree k)
    (hdelay : s.get (fADC_SEQ_DELAY k) = 0) : s.trigger k false = s.becomeDue k false := by
  have hzero : s.seqDelay k false = 0 := congrArg (8 * ·) hdelay
  rw [trigger_free hclk hbusy hfree, if_pos hzero]

/-- A sequence that its trigger makes due after its delay (R489). -/
theorem trigger_later {k : Nat} {inj : Bool} (hclk : s.lclk = true) (hbusy : s.seqBusy k inj = false) (hfree : s.triggerFree k)
    (hdelay : s.seqDelay k inj ≠ 0) : s.trigger k inj = s.noteDue k inj (s.now + s.seqDelay k inj) := by
  rw [trigger_free hclk hbusy hfree, if_neg hdelay]

theorem seqDone_fin (k : Fin 2) : seqDone k = if k = 0 then evADC_SEQ_DONE_A else evADC_SEQ_DONE_B := by
  obtain rfl | rfl : k = 0 ∨ k = 1 := by omega
  · rfl
  · rfl

/-- The state in which the fault that may trigger has been taken (R489). -/
def State.faultTaken (s : State) : State := s.updAdc fun a => { a with faultNew := false }

theorem conv_noteDue (s : State) (k : Nat) (inj : Bool) (a : Nat) : (s.noteDue k inj a).conv k =
    if inj then { s.conv k with idueAt := (s.conv k).idueAt ++ [a] } else { s.conv k with dueAt := (s.conv k).dueAt ++ [a] } := conv_updConv_same _ _ _

theorem noteDue_eq (s : State) (k : Nat) (inj : Bool) (a : Nat) : s.noteDue k inj a = { s with adc := (s.noteDue k inj a).adc } := rfl

end Sys2Proof.Machine

end

section
/-! SETTLED. Converters (O55). -/

open Sys2Proof Sys2Proof.Machine

/-- Settles O55: each clause is the rule of a conversion, of a trigger, or of a write of the page. -/
theorem converters : Obligations.Converters := by
  intro s k nv refNv a l p v hclk
  refine ⟨fun h => ?_, fun use hflight hearly => conversionDone_early hflight hearly,
    fun hmode hdue => ⟨conversionDone_ib hclk hmode hdue, conversionDone_vin hclk hmode hdue⟩,
    fun hflight hdue hrun hnot => ?_, fun hmode hk ho h0 h1 => ⟨fun hbusy => ?_, fun hbusy hbm href hcal => ⟨fun hd => ?_, fun hd => ?_⟩⟩,
    fun h => ?_, fun hnew hk ho hbusy hbm href hcal hd => ?_, fun ht hdue => ⟨?_, fun hk ho h0 h1 hbusy => ?_⟩, fun hl hdue => ?_, fun hl hdue => ?_,
    fun hs => ⟨fun hbusy => seqGo_busy hclk hs hbusy, fun hbusy hbm href hcal => ?_⟩, fun hs hbusy hbm href hcal => ?_, fun hs => ⟨fun hbar => ?_, fun hbusy h3 habsent hne => ?_⟩, ?_, ?_⟩
  · change execConversionDone k nv refNv s = _
    unfold execConversionDone
    rw [h]
  · obtain ⟨u, hexec, hword, hmore, hlast, hrest⟩ := conversionDone_slot (nv := nv) (refNv := refNv) hclk hflight hdue hrun hnot
    rw [seqDone_fin] at hlast
    exact ⟨u, hexec, hword, hmore, hlast, hrest⟩
  · obtain ⟨hcount, hlost, hrest⟩ := triggerLost_spec s k.isLt
    exact ⟨_, (ibPeriod_spec hmode hk ho h0 h1).trans (by rw [trigger_busy hclk hbusy]), hcount, hlost, hrest⟩
  · refine ⟨_, (ibPeriod_spec hmode hk ho h0 h1).trans (by rw [trigger_later hclk hbusy ⟨hbm, href, hcal⟩ (by rw [seqDelay_regular]; omega), seqDelay_regular]),
      conv_noteDue s k false _, noteDue_eq _ _ _ _⟩
  · obtain ⟨hrest, hregs⟩ := becomeDue_regs s k false
    exact ⟨_, (ibPeriod_spec hmode hk ho h0 h1).trans (by rw [trigger_now hclk hbusy ⟨hbm, href, hcal⟩ hd]), on_becomeDue hbusy, onlyRegs_of hrest hregs⟩
  · exact congrArg Host.Outcome.next (if_neg (by simp [h]))
  · have hexec : execSeqTrigger .ibFault s = .next (s.faultTaken.trigger k true) := by
      unfold execSeqTrigger
      dsimp only
      rw [if_pos hnew]
      exact congrArg Host.Outcome.next (triggerAll_injected s.faultTaken (decide_eq_true hk) (decide_eq_false ho))
    have hdelay : s.faultTaken.seqDelay k true = 8 * s.get (fADC_INJ_DELAY k) := rfl
    rw [trigger_later (s := s.faultTaken) hclk hbusy ⟨hbm, href, hcal⟩ (by rw [hdelay]; omega), hdelay] at hexec
    exact ⟨_, hexec, conv_noteDue s.faultTaken k true _, noteDue_eq _ _ _ _⟩
  · obtain ⟨hrest, hregs⟩ := triggerAll_frame (s.tmrNext a) (fun k => s.get (fADC_SEQ_TSRC k) = 1) (fun k => s.get (fADC_INJ_TSRC k) = 1)
    refine ⟨_, adcTimerExpiry_eq ht hdue, (tmrAt_triggerAll _ _ _).trans rfl, onlyEvents_adc hrest fun o ho => hregs o fun h => ho ?_⟩
    simp only [List.mem_append] at h ⊢
    exact h.elim (fun h => .inl (.inl (.inl h))) .inr
  · have hone := triggerAll_regular (s.tmrNext a) (k := k) (reg := fun k => s.get (fADC_SEQ_TSRC k) = 1) (inj := fun k => s.get (fADC_INJ_TSRC k) = 1)
      (decide_eq_true hk) (decide_eq_false ho) (decide_eq_false h0) (decide_eq_false h1)
    obtain ⟨hcount, hlost, hrest⟩ := triggerLost_spec (s.tmrNext a) k.isLt
    refine ⟨_, (adcTimerExpiry_eq ht hdue).trans (by rw [hone, trigger_busy (s := s.tmrNext a) hclk hbusy]), hcount, hlost, onlyEvents_adc ?_ hrest.2⟩
    exact (bareAdc_raise _ _ _).trans (bareAdc_put _ _ _)
  · obtain ⟨hrest, hregs⟩ := becomeDue_regs (s.updConv k fun c => { c with dueAt := l }) k false
    refine ⟨_, seqDue_regular hl hdue, ?_, seqBusy_becomeDue _ _ _, fun hbusy => ⟨on_becomeDue hbusy, onlyRegs_adc ?_ hregs⟩⟩
    · rw [conv_congr (adc_becomeDue _ _ _), conv_updConv_same]
    · exact congrArg (fun x : State => { x with adc := {} }) hrest
  · refine ⟨_, seqDue_injected hl hdue, ?_, seqBusy_becomeDue _ _ _⟩
    rw [conv_congr (adc_becomeDue _ _ _), conv_updConv_same]
  · obtain ⟨u, hrun, hword, hnow, hlater⟩ := seqGo_free (inj := false) (v := v) hclk hs hbusy ⟨hbm, href, hcal⟩
    obtain ⟨hlen, htph, hdelay, hsrc, hgo⟩ := seqStored_fields false v
    refine ⟨u, hrun, ?_, ?_, ?_, ?_, ?_, hnow, fun h0 => ⟨?_, (hlater h0).2⟩⟩
    · exact (congrArg (bitsAt · 0 4) hword).trans hlen
    · exact (congrArg (bitsAt · 11 4) hword).trans htph
    · exact (congrArg (bitsAt · 16 8) hword).trans hdelay
    · exact (congrArg (bitsAt · 8 3) hword).trans hsrc
    · exact decide_eq_false (by rw [State.get]; exact not_not_intro ((congrArg (bitsAt · 31 1) hword).trans hgo))
    · rw [(hlater h0).1, conv_noteDue]
      rfl
  · obtain ⟨u, hrun, hword, hnow, hlater⟩ := seqGo_free (inj := true) (v := v) hclk hs hbusy ⟨hbm, href, hcal⟩
    obtain ⟨hlen, htph, hdelay, hsrc, hgo⟩ := seqStored_fields true v
    refine ⟨u, hrun, ?_, ?_, ?_, ?_, ?_, hnow, fun h0 => ?_⟩
    · exact (congrArg (bitsAt · 0 2) hword).trans hlen
    · exact (congrArg (bitsAt · 11 4) hword).trans htph
    · exact (congrArg (bitsAt · 16 8) hword).trans hdelay
    · exact (congrArg (bitsAt · 8 3) hword).trans hsrc
    · exact decide_eq_false (by rw [State.get]; exact not_not_intro ((congrArg (bitsAt · 31 1) hword).trans hgo))
    · rw [(hlater h0).1, conv_noteDue]
      rfl
  · obtain ⟨u, hrun, hun, hbare, hreg⟩ := portWrite_adcCfg p v hs
    have hbusy : u.anySeqBusy = s.anySeqBusy := by
      unfold State.anySeqBusy
      rw [seqBusy_congr (hreg _), seqBusy_congr (hreg _), seqBusy_congr (hreg _), seqBusy_congr (hreg _)]
    rw [writeRef_refused (hbar.imp hbusy.trans id)] at hrun
    refine ⟨_, hrun, stat_raise_same _ _ _ (by decide), ?_, OnlyEvents.okay (onlyEvents_of ((bare_raise _ _ _).trans hbare) fun o ho => ?_) 0⟩
    · rw [get_okay, get_raise _ _ _ _ (by decide), get_of_reg _ (hreg _)]
    · rw [reg_raise _ _ _ _ ho, hreg]
  · obtain ⟨u, hrun, hun, hbare, hreg⟩ := portWrite_adcCfg p v hs
    have hbusy' : u.anySeqBusy = s.anySeqBusy := by
      unfold State.anySeqBusy
      rw [seqBusy_congr (hreg _), seqBusy_congr (hreg _), seqBusy_congr (hreg _), seqBusy_congr (hreg _)]
    rw [writeRef_set ((lclk_of_unreg hun).trans hclk) (hbusy'.trans hbusy) h3 habsent (by rw [get_of_reg _ (hreg _)]; exact hne)] at hrun
    obtain ⟨hcfg, hstate, hrdy, hregs⟩ := refSet_spec u (r := bitsAt v 0 2) (Nat.mod_lt _ (by decide))
    refine ⟨_, hrun, hcfg, hstate, hrdy, ?_⟩
    refine OnlyRegs.okay (s := { s with adc := { s.adc with altAt := if bitsAt v 0 2 = 0 then none else some s.now } })
      (onlyRegs_of ?_ fun o ho => (hregs o ho).trans (hreg o))
    rw [now_of_unreg hun]
    exact congrArg (fun x : State => { x with adc := { x.adc with altAt := if bitsAt v 0 2 = 0 then none else some s.now } }) hun
  · exact (refReady_spec s).1 a
  · exact (refReady_spec s).2 a

end

section
/-!
SUPPORT. What the movements of domains, the entry to Run and the wakes leave alone of the rest of the block: everything behind the
registers but the chain itself, the registers of the block itself, of the plat, the mailboxes and the cadastre, and every status bit
that is set (R291-R306, R322).
-/

namespace Sys2Proof.Machine

variable {s t u : State}

/-- A state without its registers, what events touch, and what is behind the chain, the IB stage, the converters and the clocks. -/
def State.still (s : State) : State :=
  { s with regs := [], book := [], trv := {}, pins := {}, cyc := {}, cells := [], tracts := [], doms := [], ib := {}, pst := {}, adc := {}
           loops := {}, env := {}, clk := {}, cg := {} }

/-- A register that no movement changes: of the block itself, the plat, the mailboxes and the cadastre. -/
def stillReg (o : Nat) : Prop := (o < 0x2000 ∧ o ≠ BLK_TRST) ∨ (0x78010 ≤ o ∧ o < 0x78800)

/-- A register that a movement may change: none of those, and none of status bits. -/
def freeReg (o : Nat) : Prop := ¬stillReg o ∧ ∀ n, o ≠ blockBase n

/-- What a movement keeps. -/
structure Movement (s t : State) : Prop where
  data : t.still = s.still
  regs : ∀ o, stillReg o → t.reg o = s.reg o
  stat : ∀ e, s.stat e = true → t.stat e = true

theorem Movement.refl (s : State) : Movement s s := ⟨rfl, fun _ _ => rfl, fun _ h => h⟩

theorem Movement.trans (h : Movement s t) (k : Movement t u) : Movement s u :=
  ⟨k.data.trans h.data, fun o ho => (k.regs o ho).trans (h.regs o ho), fun e he => k.stat e (h.stat e he)⟩

theorem Movement.ite {c : Prop} [Decidable c] (h : Movement s t) (k : Movement s u) : Movement s (if c then t else u) := by
  split
  · exact h
  · exact k

theorem Movement.foldl {α : Type} {f : State → α → State} (l : List α) (h : Movement s t) (hf : ∀ u, ∀ a ∈ l, Movement u (f u a)) :
    Movement s (l.foldl f t) := by
  induction l generalizing t with
  | nil => exact h
  | cons a l ih => exact ih (h.trans (hf t a List.mem_cons_self)) fun u b hb => hf u b (List.mem_cons_of_mem _ hb)

/-- A change behind the registers. -/
theorem Movement.hidden (h : Movement s t) (hu : u.still = t.still := by rfl) (hr : u.regs = t.regs := by rfl) : Movement s u := by
  have hreg : ∀ o, u.reg o = t.reg o := fun o => by rw [State.reg, State.reg, hr]
  exact h.trans ⟨hu, fun o _ => hreg o, fun e he => (stat_of_reg e (hreg _)).trans he⟩

theorem Movement.setReg (h : Movement s t) {o : Nat} (v : Word) (ho : freeReg o) : Movement s (t.setReg o v) := by
  refine h.trans ⟨rfl, fun x hx => reg_setReg_ne _ _ _ _ ?_, fun e he => (stat_of_reg e (reg_setReg_ne _ _ _ _ (ho.2 _).symm)).trans he⟩
  rintro rfl
  exact ho.1 hx

theorem Movement.put (h : Movement s t) {f : Fld} (n : Nat) (ho : freeReg f.off) : Movement s (t.put f n) := h.setReg _ ho
theorem Movement.putI (h : Movement s t) {f : Fld} (x : Int) (ho : freeReg f.off) : Movement s (t.putI f x) := h.setReg _ ho
theorem Movement.putB (h : Movement s t) {f : Fld} (b : Bool) (ho : freeReg f.off) : Movement s (t.putB f b) := h.setReg _ ho
theorem Movement.updCell (h : Movement s t) (c : Nat) (f : CellHid → CellHid) : Movement s (t.updCell c f) := h.hidden
theorem Movement.updTract (h : Movement s t) (k : Nat) (f : TractHid → TractHid) : Movement s (t.updTract k f) := h.hidden
theorem Movement.updDom (h : Movement s t) (d : Nat) (f : DomHid → DomHid) : Movement s (t.updDom d f) := h.hidden
theorem Movement.updIb (h : Movement s t) (f : IbHid → IbHid) : Movement s (t.updIb f) := h.hidden
theorem Movement.updPst (h : Movement s t) (f : PstHid → PstHid) : Movement s (t.updPst f) := h.hidden
theorem Movement.updConv (h : Movement s t) (k : Nat) (f : ConvHid → ConvHid) : Movement s (t.updConv k f) := h.hidden
theorem Movement.updAdc (h : Movement s t) (f : AdcHid → AdcHid) : Movement s (t.updAdc f) := h.hidden

theorem still_of_bare (h : t.bare = s.bare) : t.still = s.still :=
  congrArg (fun x : State => { x with cells := [], tracts := [], doms := [], ib := {}, pst := {}, adc := {}, loops := {}, env := {}, clk := {}, cg := {} }) h

/-- The blocks whose events a movement may raise. -/
def movementBlocks : List Nat := [2, 3, 5, 6, 9, 10, 11, 14]

theorem not_stillReg_of_event {b : Nat} (hb : b ∈ movementBlocks) {o : Nat} (ho : stillReg o) : o ∉ eventRegs b := by
  have hbase : (0x2000 ≤ blockBase b ∧ blockBase b < 0x78000) ∨ blockBase b = 0x78000 := by revert hb; revert b; decide
  refine apart_eventRegs ?_ ?_ ?_ ?_ <;> rcases ho with ⟨h, -⟩ | h <;> omega

theorem Movement.raiseD (h : Movement s t) {e : Ev} (i d : Nat) (he : e.block ∈ movementBlocks) : Movement s (t.raiseD e i d) :=
  h.trans ⟨still_of_bare (bare_raiseD _ _ _ _), fun _ ho => reg_raiseD _ _ _ _ _ (not_stillReg_of_event he ho), fun _ hf => stat_raiseD_keeps _ _ _ _ _ hf⟩

theorem Movement.raise (h : Movement s t) {e : Ev} (i : Nat) (he : e.block ∈ movementBlocks) : Movement s (t.raise e i) := h.raiseD i _ he

theorem Movement.raiseIf (h : Movement s t) (c : Bool) {e : Ev} (i : Nat) (he : e.block ∈ movementBlocks) : Movement s (t.raiseIf c e i) := by
  unfold State.raiseIf
  split
  · exact h.raise i he
  · exact h

/-! ### The registers that movements change -/

theorem blockBase_aligned : ∀ n, blockBase n % 2048 = 0 ∨ blockBase n = 0x2400 := by
  intro n
  unfold blockBase
  split <;> simp

theorem freeReg_of {o : Nat} (hlo : 0x2800 ≤ o) (hcad : o < 0x78010 ∨ 0x78800 ≤ o) (hmod : o % 2048 ≠ 0) : freeReg o := by
  refine ⟨fun h => ?_, fun n h => ?_⟩
  · rcases h with ⟨h, -⟩ | h <;> omega
  · have := blockBase_aligned n
    omega

theorem freeReg_singles : ∀ o ∈ movedSingles, freeReg o := by
  intro o ho
  have hlist : o = BLK_TRST ∨ o = PST_STATE ∨ o = MON_ACTIVE ∨ (0x2800 ≤ o ∧ o < 0x78010 ∧ o % 2048 ≠ 0) := by revert ho; revert o; decide
  refine ⟨fun h => ?_, fun n h => ?_⟩
  · rcases h with ⟨h, h'⟩ | h <;> simp only [BLK_TRST, PST_STATE, MON_ACTIVE] at * <;> omega
  · have := blockBase_aligned n
    simp only [BLK_TRST, PST_STATE, MON_ACTIVE] at *
    omega

theorem freeReg_celCstat {c : Nat} (h : c < 256) : freeReg (CEL_CSTAT c) := by
  refine freeReg_of ?_ ?_ ?_ <;> simp only [CEL_CSTAT] <;> omega

theorem freeReg_domDstat {d : Nat} (h : d < 32) : freeReg (DOM_DSTAT d) := by
  refine freeReg_of ?_ ?_ ?_ <;> simp only [DOM_DSTAT] <;> omega

theorem freeReg_domVset {d : Nat} (h : d < 32) : freeReg (DOM_VSET d) := by
  refine freeReg_of ?_ ?_ ?_ <;> simp only [DOM_VSET] <;> omega

theorem freeReg_soDlift {d : Nat} (h : d < 32) : freeReg (SO_DLIFT d) := by
  refine freeReg_of ?_ ?_ ?_ <;> simp only [SO_DLIFT] <;> omega

theorem freeReg_cgTstat {k : Nat} (h : k < 64) : freeReg (CG_TSTAT k) := by
  refine freeReg_of ?_ ?_ ?_ <;> simp only [CG_TSTAT] <;> omega

theorem freeReg_trcTstat {k : Nat} (h : k < 64) : freeReg (TRC_TSTAT k) := by
  refine freeReg_of ?_ ?_ ?_ <;> simp only [TRC_TSTAT] <;> omega

theorem freeReg_trcUout {k : Nat} (h : k < 64) : freeReg (TRC_UOUT k) := by
  refine freeReg_of ?_ ?_ ?_ <;> simp only [TRC_UOUT] <;> omega

theorem freeReg_ibsPstat {p : Nat} (h : p < 16) : freeReg (IBS_PSTAT p) := by
  refine freeReg_of ?_ ?_ ?_ <;> simp only [IBS_PSTAT] <;> omega

theorem movement_setMode (s : State) {c : Nat} (m : Nat) (hc : c < 256) : Movement s (s.setMode c m) := by
  unfold State.setMode
  split
  · exact .refl s
  · exact (Movement.refl s).put _ (freeReg_celCstat hc)

theorem movement_recadence (s : State) (iv c : Nat) : Movement s (s.recadence iv c) := by
  unfold State.recadence
  exact (Movement.refl s).updCell c _

theorem movement_aim (s : State) (iv code : Nat) {c : Nat} (hc : c < 256) : Movement s (s.aim iv code c) := by
  unfold State.aim
  dsimp only
  split
  · exact (movement_recadence s iv c).put _ (freeReg_celCstat hc)
  · exact (Movement.refl s).put _ (freeReg_celCstat hc)

theorem movement_retarget (s : State) (d : Nat) : Movement s (s.retarget d) := by
  unfold State.retarget
  dsimp only
  split
  · exact (Movement.refl s).foldl _ fun u c hc => movement_aim u _ _ (cell_lt_of_mem_cellsOf hc)
  · exact .refl s

theorem movement_cellsOff (s : State) (d : Nat) : Movement s (s.cellsOff d) := by
  refine (Movement.refl s).foldl _ fun u c hc => ?_
  have hlt := cell_lt_of_mem_cellsOf hc
  refine Movement.putB ?_ _ (freeReg_celCstat hlt)
  split
  · exact .refl u
  · exact movement_setMode u 0 hlt

theorem movement_idleLoop (s : State) {t : Nat} (ht : t < 64) : Movement s (s.idleLoop t) := by
  unfold State.idleLoop
  dsimp only
  split
  · exact .refl s
  · refine (Movement.put ?_ _ (freeReg_trcTstat ht)).updTract _ _
    split
    · exact (Movement.refl s).putB _ (freeReg_singles _ (by decide))
    · exact .refl s

theorem movement_idleLoops (s : State) (d : Nat) : Movement s (s.idleLoops d) :=
  (Movement.refl s).foldl _ fun u _ ht => movement_idleLoop u (tract_lt_of_mem_tractsOf ht)

theorem movement_judgePulse (s : State) (t : Nat) : Movement s (s.judgePulse t) := by
  unfold State.judgePulse State.setPulse
  exact (Movement.refl s).updTract t _

/-! ### Lifts and the states of domains -/

theorem movement_relift (s : State) {d : Nat} (idx data : Nat) (hd : d < 32) : Movement s (s.relift d idx data) := by
  have hput (m n : Nat) : Movement s ((s.put (fSO_DLIFT_LIFT d) m).put (fSO_DLIFT_INST d) n) :=
    ((Movement.refl s).put _ (freeReg_soDlift hd)).put _ (freeReg_soDlift hd)
  have hclip (m n : Nat) (c : Prop) [Decidable c] : Movement s (if c then
      ((s.put (fSO_DLIFT_LIFT d) m).put (fSO_DLIFT_INST d) n).raiseD evSO_LIFT_CLIP idx data else
      (s.put (fSO_DLIFT_LIFT d) m).put (fSO_DLIFT_INST d) n) :=
    ((hput m n).raiseD (e := evSO_LIFT_CLIP) idx data (by decide)).ite (hput m n)
  unfold State.relift
  dsimp only
  refine Movement.trans (Movement.ite ?_ (Movement.updDom ?_ d _)) (movement_retarget _ d)
  · exact hclip _ _ _
  · exact hclip _ _ _

theorem movement_setDom (s : State) {d : Nat} (st : Nat) (ph : DomPhase) (hd : d < 32) : Movement s (s.setDom d st ph) :=
  ((Movement.refl s).put _ (freeReg_domDstat hd)).updDom _ _

/-! ### The entry to Run -/

theorem movement_setAon (s : State) (n : Nat) : Movement s (s.setAon n) := by
  have hput : Movement s (s.put fPST_STATE_STATE n) := (Movement.refl s).put _ (freeReg_singles _ (by decide))
  have hpins : Movement s { s.put fPST_STATE_STATE n with pins := { s.pins with pulseDue := s.pulseEnd n } } := hput.hidden
  unfold State.setAon
  dsimp only
  exact (hpins.put (f := fMON_ACTIVE_ACT) _ (freeReg_singles _ (by decide))).hidden

theorem movement_setRef (s : State) (uv : Nat) : Movement s (s.setRef uv) :=
  ((Movement.refl s).updIb _).put _ (freeReg_singles _ (by decide))

theorem movement_moveRef (s : State) : Movement s s.moveRef := by
  unfold State.moveRef
  dsimp only
  exact ((Movement.refl s).updIb _).ite (((movement_setRef s _).updIb _).ite (movement_setRef s _))

theorem movement_setIbTarget (s : State) (code : Nat) : Movement s (s.setIbTarget code) := by
  unfold State.setIbTarget
  dsimp only
  exact (((((Movement.refl s).ite (movement_moveRef s)).put _ (freeReg_singles _ (by decide))).updIb _).raiseIf _ _ (by decide))

theorem movement_applyVsel (s : State) (v : Nat) : Movement s (s.applyVsel v) := by
  unfold State.applyVsel
  dsimp only
  split
  · exact ((Movement.refl s).updIb _).trans (movement_setIbTarget _ _)
  · exact (Movement.refl s).updIb _

theorem movement_changeVsel (s : State) (v : Nat) : Movement s (s.changeVsel v) := by
  have h : Movement s ((s.applyVsel v).putB fIBS_STATE_DWELL false) := (movement_applyVsel s v).putB (f := fIBS_STATE_DWELL) false (freeReg_singles _ (by decide))
  unfold State.changeVsel
  dsimp only
  split
  · exact h
  · exact h.updIb _

theorem movement_offerVsel (s : State) : Movement s s.offerVsel := by
  unfold State.offerVsel
  dsimp only
  split
  · exact .refl s
  · exact (movement_changeVsel s _).ite ((Movement.refl s).putB (f := fIBS_STATE_DWELL) true (freeReg_singles _ (by decide)))

theorem movement_enterRun (s : State) : Movement s s.enterRun := by
  have h : Movement s (s.setAon 0).envelopeRestart := (movement_setAon s 0).hidden
  exact h.trans (movement_offerVsel _)

theorem movement_checkRun (s : State) : Movement s s.checkRun := by
  unfold State.checkRun
  split
  · exact (movement_enterRun s).hidden
  · exact .refl s

theorem movement_originate (s : State) (l ty body : Nat) : Movement s (s.originate l ty body) := by
  refine (Movement.refl s).hidden (still_of_bare ?_) (regs_originate s l ty body)
  obtain ⟨r, b, v, p, c, h⟩ := evOnly_originate s l ty body
  rw [h]
  rfl

theorem movement_ibHysteretic (s : State) : Movement s s.ibHysteretic := by
  have h : Movement s (s.setIbMode 2) :=
    (((Movement.refl s).put _ (freeReg_singles _ (by decide))).putB _ (freeReg_singles _ (by decide))).updIb _
  unfold State.ibHysteretic State.hysModes
  refine h.foldl _ fun u p hp => ?_
  have hset (m : Nat) : Movement u (u.setP p m) := (Movement.refl u).put _ (freeReg_ibsPstat (mem_upTo.mp hp))
  exact .ite (.refl u) (.ite (hset 2) (.ite (.refl u) (hset 3)))

theorem movement_adcStop (s : State) : Movement s s.adcStop := by
  have hfree : ∀ o ∈ [ADC_STATE, ADC_SSTAT 0, ADC_SSTAT 1], freeReg o := fun o ho => freeReg_singles o (by revert ho; revert o; decide)
  unfold State.adcStop
  exact (((((((Movement.refl s).putB _ (hfree _ (by decide))).putB _ (hfree _ (by decide))).put (f := ⟨ADC_SSTAT 0, 0, 8⟩) _
    (hfree _ (by decide))).updConv _ _).put (f := ⟨ADC_SSTAT 1, 0, 8⟩) _ (hfree _ (by decide))).updConv _ _).updAdc _

theorem Movement.clocksStopped (h : Movement s t) (c : ClkHid) (e : EnvHid) (p : PstHid) : Movement s { t with clk := c, env := e, pst := p } := h.hidden

theorem movement_stopClocks (s : State) : Movement s s.stopClocks := by
  unfold State.stopClocks
  extract_lets hyst s0 s1 s2
  have h1 : Movement s s1 := by
    refine (movement_originate s _ _ _).foldl _ fun u d _ => .ite (.foldl _ (.refl u) fun v k hk => ?_) (.refl u)
    have hlt := tract_lt_of_mem_tractsOf hk
    refine .trans (.trans (Movement.updTract ?_ _ _) (movement_judgePulse _ _)) (movement_idleLoop _ hlt)
    refine .foldl _ (.refl v) fun w c hc => ?_
    split
    · exact .refl w
    · exact movement_setMode w _ (cell_lt_of_mem_cellsIn hlt hc)
  have h2 : Movement s s2 := .ite (h1.trans (movement_ibHysteretic s1)) h1
  exact (h2.trans (movement_adcStop s2)).clocksStopped _ _ _

theorem movement_checkEntry (s : State) : Movement s s.checkEntry := by
  unfold State.checkEntry
  exact .ite (.ite (Movement.refl s).hidden (movement_stopClocks s)) (.refl s)

/-! ### A domain has moved -/

theorem movement_domMoved (s : State) {d : Nat} (hd : d < 32) : Movement s (s.domMoved d) :=
  ((movement_relift s _ _ hd).trans (movement_checkRun _)).trans (movement_checkEntry _)

theorem movement_dropDomain (s : State) {d : Nat} (hd : d < 32) : Movement s (s.dropDomain d) := by
  have h := ((movement_cellsOff s d).trans (movement_idleLoops _ d)).trans (movement_setDom _ 1 .rest hd)
  exact (h.updDom d _).trans (movement_domMoved _ hd)

theorem movement_forcedEnds (s : State) (ts : List Nat) (h : ∀ t ∈ ts, t < 64) : Movement s (s.forcedEnds ts) := by
  refine (Movement.refl s).foldl _ fun u t ht => ?_
  split
  · exact (Movement.refl u).putB _ (freeReg_cgTstat (h t ht))
  · exact .refl u

theorem movement_lateLosses (s : State) {d : Nat} (hd : d < 32) : Movement s (s.lateLosses d) := by
  have hclear : Movement s ((s.tractsOf d).foldl (fun s t => s.updTract t fun h => { h with lateLoss := false }) s) :=
    (Movement.refl s).foldl _ fun u t _ => (Movement.refl u).updTract t _
  unfold State.lateLosses
  dsimp only
  split
  · exact hclear
  · refine Movement.raiseIf (Movement.foldl _ ?_ fun u t _ => (Movement.refl u).raise _ (by decide)) _ _ (by decide)
    split
    · exact hclear.trans (movement_dropDomain _ hd)
    · exact hclear

theorem movement_becomeOn (s : State) {d : Nat} (hd : d < 32) : Movement s (s.becomeOn d) := by
  have hcell (u : State) (c : Nat) (hc : c < 256) : Movement u ((u.putB (fCEL_CSTAT_SS_DONE c) true).updCell c fun h => { h with bars := 0 }) :=
    ((Movement.refl u).putB _ (freeReg_celCstat hc)).updCell _ _
  unfold State.becomeOn
  dsimp only
  refine Movement.trans (Movement.trans (Movement.trans (Movement.foldl _ (movement_setDom s 4 .rest hd) fun u c hc => ?_) (movement_forcedEnds _ _ fun t ht => ?_))
    (movement_domMoved _ hd)) (movement_lateLosses _ hd)
  · have hlt := cell_lt_of_mem_cellsOf hc
    split
    · exact (hcell u c hlt).trans (movement_setMode _ _ hlt)
    · exact hcell u c hlt
  · exact tract_lt_of_mem_tractsOf ht

theorem movement_becomeRetained (s : State) {d : Nat} (hd : d < 32) : Movement s (s.becomeRetained d) := by
  have hkeep : Movement s ((s.tractsOf d).foldl (fun s t =>
      (((cellsIn t).foldl (fun u c => (if u.mode c = 6 then u else u.setMode c (if (s.healthyIn t).head? = some c then 4 else 0)).updCell c
        fun h => { h with rejoin := false, bars := 0 }) s).updTract t fun h => { h with light := true }).judgePulse t) s) := by
    refine (Movement.refl s).foldl _ fun u t ht => ((Movement.foldl _ (.refl u) fun w c hc => Movement.updCell ?_ _ _).updTract _ _).trans (movement_judgePulse _ t)
    split
    · exact .refl w
    · exact movement_setMode w _ (cell_lt_of_mem_cellsIn (tract_lt_of_mem_tractsOf ht) hc)
  have hrest := (hkeep.trans (movement_idleLoops _ d)).trans (movement_setDom _ 2 .rest hd)
  exact (hrest.updDom d _).trans (movement_domMoved _ hd)

theorem movement_beginOff (s : State) {d : Nat} (ph : DomPhase) (hd : d < 32) : Movement s (s.beginOff d ph) :=
  ((movement_setDom s 5 ph hd).trans (movement_relift _ _ _ hd)).updDom d _

theorem movement_beginRetention (s : State) {d : Nat} (hd : d < 32) : Movement s (s.beginRetention d) := by
  unfold State.beginRetention
  dsimp only
  have h2 : Movement s (((s.beginOff d .slewRet).cellsOf d).foldl (fun s c => s.putB (fCEL_CSTAT_SS_DONE c) false) (s.beginOff d .slewRet)) :=
    Movement.foldl _ (movement_beginOff s .slewRet hd) fun u c hc => (Movement.refl u).putB _ (freeReg_celCstat (cell_lt_of_mem_cellsOf hc))
  generalize ((s.beginOff d .slewRet).cellsOf d).foldl (fun s c => s.putB (fCEL_CSTAT_SS_DONE c) false) (s.beginOff d .slewRet) = s2 at h2 ⊢
  have h3 : Movement s (s2.aimAll d s2.retSlewNs (s2.get (fDOM_CFG_RET d))) :=
    Movement.foldl _ h2 fun u c hc => movement_aim u _ _ (cell_lt_of_mem_cellsOf hc)
  split
  · exact h3.trans (movement_becomeRetained _ hd)
  · exact h3

theorem movement_toColumn (s : State) {d : Nat} (hd : d < 32) : Movement s (s.toColumn d) := by
  unfold State.toColumn
  split
  · exact movement_beginRetention s hd
  · exact .refl s

/-! ### Commanded targets -/

theorem movement_setTarget (s : State) {d : Nat} (code : Nat) (hd : d < 32) : Movement s (s.setTarget d code) :=
  (((Movement.refl s).put _ (freeReg_domVset hd)).trans (movement_relift _ _ _ hd)).trans (movement_retarget _ d)

theorem movement_commandTarget (s : State) {d : Nat} (code : Nat) (hd : d < 32) : Movement s (s.commandTarget d code) := by
  have hrefused (i x : Nat) : Movement s (s.raiseD evCEL_TGT_REFUSED i x) := (Movement.refl s).raiseD _ _ (by decide)
  unfold State.commandTarget
  dsimp only
  exact (movement_setTarget s code hd).ite ((hrefused _ _).ite ((hrefused _ _).raiseD _ _ (by decide)))

theorem movement_gradeTarget (s : State) {d : Nat} (k : Nat) (hd : d < 32) : Movement s (s.gradeTarget d k) :=
  (Movement.refl s).ite (movement_commandTarget s _ hd)

theorem movement_abandonRaise (s : State) {d : Nat} (hd : d < 32) : Movement s (s.abandonRaise d) := by
  unfold State.abandonRaise
  split
  · exact .refl s
  · exact ((movement_gradeTarget s _ hd).updDom d _).ite (.refl s)

theorem movement_requestRaise (s : State) {d : Nat} (hd : d < 32) : Movement s (s.requestRaise d) := by
  unfold State.requestRaise
  dsimp only
  split
  · exact movement_abandonRaise s hd
  · exact ((movement_abandonRaise s hd).updDom d _).ite (movement_abandonRaise s hd)

theorem movement_afterStep (s : State) {d : Nat} (hd : d < 32) : Movement s (s.afterStep d) := by
  have hon : Movement s (((s.becomeOn d).requestRaise d).toColumn d) :=
    ((movement_becomeOn s hd).trans (movement_requestRaise _ hd)).trans (movement_toColumn _ hd)
  unfold State.afterStep
  dsimp only
  refine (Movement.refl s).ite ?_
  split
  · exact (Movement.refl s).ite hon
  · exact hon
  · exact movement_becomeRetained s hd
  · exact movement_dropDomain s hd
  · exact movement_requestRaise s hd
  · exact .refl s

/-! ### Switching on -/

theorem movement_seedStart (s : State) {t : Nat} (code : Nat) (ht : t < 64) : Movement s (s.seedStart t code) := by
  unfold State.seedStart
  exact ((Movement.refl s).putI _ (freeReg_trcUout ht)).updTract t _

theorem movement_closeLoop (s : State) {t : Nat} (set : Nat) (ht : t < 64) : Movement s (s.closeLoop t set) := by
  have hput : Movement s (((s.put (fTRC_TSTAT_STATE t) 0).put (fTRC_TSTAT_SET t) set).put (fTRC_TSTAT_RATE t) set) :=
    (((Movement.refl s).put _ (freeReg_trcTstat ht)).put _ (freeReg_trcTstat ht)).put _ (freeReg_trcTstat ht)
  unfold State.closeLoop
  dsimp only
  exact (hput.updTract t _).foldl _ fun u c _ => movement_recadence u _ c

theorem movement_beginRamp (s : State) (d : Nat) (ph : DomPhase) : Movement s (s.beginRamp d ph) := by
  have hcells : Movement s ((s.cellsOf d).foldl (fun s c =>
      s.updCell c fun h => { h with rampFrom := s.get (fCEL_CSTAT_PRESENT c), rampSteps := 0 }) s) :=
    (Movement.refl s).foldl _ fun u c _ => (Movement.refl u).updCell c _
  unfold State.beginRamp
  exact Movement.updDom hcells d _

theorem movement_holdStart (s : State) (d : Nat) : Movement s (s.holdStart d) :=
  (Movement.refl s).foldl _ fun u _ hc => (Movement.refl u).put _ (freeReg_celCstat (cell_lt_of_mem_cellsOf hc))

theorem movement_reverseStop (s : State) {d : Nat} (hd : d < 32) : Movement s (s.reverseStop d) := by
  unfold State.reverseStop
  dsimp only
  refine Movement.trans (Movement.trans (Movement.trans (Movement.foldl _ (Movement.foldl _ (movement_setDom s 3 .startRamp hd) ?_) ?_)
    (movement_retarget _ d)) (movement_beginRamp _ d _)) (movement_afterStep _ hd)
  · intro u c hc
    exact (movement_setMode u 1 (cell_lt_of_mem_cellsOf hc)).ite (.refl u)
  · intro u k hk
    have hlt := tract_lt_of_mem_tractsOf hk
    exact ((movement_seedStart u _ hlt).trans (movement_closeLoop _ _ hlt)).ite (.refl u)

theorem movement_switchOn (s : State) {d : Nat} (hd : d < 32) : Movement s (s.switchOn d) := by
  have hbars (u : State) : Movement u ((u.cellsOf d).foldl (fun s c => s.updCell c fun h => { h with bars := if s.mode c = 4 then 0 else 3 }) u) :=
    (Movement.refl u).foldl _ fun w c _ => (Movement.refl w).updCell c _
  unfold State.switchOn
  dsimp only
  split
  · exact ((hbars s).trans (movement_setDom _ 3 .stagesRet hd)).updDom d _
  · refine Movement.ite (Movement.ite ?_ ?_) ((movement_reverseStop s hd).updDom d _)
    · exact ((movement_setDom s 3 .stagesRet hd).updDom d _).trans (movement_retarget _ d)
    · exact ((movement_setDom s 3 .slewUp hd).trans (movement_retarget _ d)).trans (movement_afterStep _ hd)
  · exact (((movement_holdStart s d).trans (hbars _)).trans (movement_setDom _ 3 .stagesOff hd)).updDom d _

theorem movement_resumeDomains (s : State) : Movement s s.resumeDomains := by
  unfold State.resumeDomains
  dsimp only
  refine (Movement.refl s).foldl _ fun u d hd => ?_
  refine (Movement.refl u).ite (Movement.ite (Movement.foldl _ (Movement.foldl _ (.refl u) ?_) ?_) ((movement_switchOn u (List.mem_range.mp hd)).ite (.refl u)))
  · intro w k hk
    have hlt := tract_lt_of_mem_tractsOf hk
    exact ((movement_seedStart w _ hlt).trans (movement_closeLoop _ _ hlt)).ite (.refl w)
  · intro w c hc
    exact (movement_setMode w _ (cell_lt_of_mem_cellsOf hc)).ite (.refl w)

/-! ### What a movement keeps, read off -/

theorem Movement.chans (h : Movement s t) : t.chans = s.chans := (congrArg State.chans h.data :)
theorem Movement.core (h : Movement s t) : t.core = s.core := (congrArg State.core h.data :)
theorem Movement.now (h : Movement s t) : t.now = s.now := (congrArg State.now h.data :)
theorem Movement.ts (h : Movement s t) : t.ts = s.ts := (congrArg State.ts h.data :)
theorem Movement.nrg (h : Movement s t) : t.nrg = s.nrg := (congrArg State.nrg h.data :)
theorem Movement.mem (h : Movement s t) : t.mem = s.mem := (congrArg State.mem h.data :)

end Sys2Proof.Machine
end

section
/-!
SUPPORT. What an answer leaves on its channel, read register by register, and what the wake of the core, whether out of Idle or by a doorbell,
leaves alone of the mailboxes (R295, R591, R595).
-/

namespace Sys2Proof.Machine

variable {s t u : State}

/-! ### An answer, register by register (R595, Tables 14.3, 14.4) -/

theorem rsp_ne {m i j : Nat} (h : i ≠ j) : MBX_RSP m i ≠ MBX_RSP m j := by
  unfold MBX_RSP
  omega

theorem reg_putRsp_before (s : State) (m j : Nat) (ws : List Word) (o : Nat) (ho : ∀ i, j ≤ i → o ≠ MBX_RSP m i) :
    (s.putRsp m j ws).reg o = s.reg o := by
  induction ws generalizing s j with
  | nil => rfl
  | cons w ws ih =>
    change ((s.setReg (MBX_RSP m j) w).putRsp m (j + 1) ws).reg o = _
    rw [ih _ _ fun i hi => ho i (by omega), reg_setReg_ne _ _ _ _ (ho j (Nat.le_refl j))]

theorem reg_putRsp_at (s : State) (m j : Nat) (ws : List Word) (i : Nat) (hi : i < ws.length) :
    (s.putRsp m j ws).reg (MBX_RSP m (j + i)) = ws.getD i 0 := by
  induction ws generalizing s j i with
  | nil => exact absurd hi (Nat.not_lt_zero i)
  | cons w ws ih =>
    change ((s.setReg (MBX_RSP m j) w).putRsp m (j + 1) ws).reg _ = _
    cases i with
    | zero =>
      rw [reg_putRsp_before _ _ _ _ _ fun k hk => rsp_ne (by omega)]
      exact reg_setReg_same s _ w
    | succ i =>
      rw [show j + (i + 1) = j + 1 + i by omega]
      exact ih _ _ i (Nat.lt_of_succ_lt_succ hi)

theorem done_setDone (s : State) {m : Nat} (hm : m < 8) : bitN ((s.setDone m).get fMBX_DONE_DONE) m = true := by
  have hold : s.get fMBX_DONE_DONE < 2 ^ 8 := get_lt_pow s fMBX_DONE_DONE
  have hfits : ∀ m < 8, ∀ x < 2 ^ 8, setBitN x m true < 2 ^ 8 ∧ bitN (setBitN x m true) m = true := by decide +kernel
  obtain ⟨hlt, hbit⟩ := hfits m hm _ hold
  have hget : (s.setDone m).get fMBX_DONE_DONE = setBitN (s.get fMBX_DONE_DONE) m true % 2 ^ 8 := get_put s fMBX_DONE_DONE _ (by decide)
  rw [hget, Nat.mod_eq_of_lt hlt, hbit]

/-- The answered word of MBX_CST holds the state and the code. -/
theorem answered_fields {a c : Nat} (ha : a = 3 ∨ a = 4) (hc : c < 8) :
    bitsAt (BitVec.ofNat 32 (a * 256 + c)) 8 3 = a ∧ bitsAt (BitVec.ofNat 32 (a * 256 + c)) 0 3 = c := by
  have hall : ∀ a ∈ [3, 4], ∀ c < 8, bitsAt (BitVec.ofNat 32 (a * 256 + c)) 8 3 = a ∧ bitsAt (BitVec.ofNat 32 (a * 256 + c)) 0 3 = c := by decide
  exact hall a (by simpa using ha) c hc

theorem rsp_not_concluded (m j : Nat) : MBX_RSP m j ∉ [MBX_CST m, MBX_DONE] ∨ 16 ≤ j := by
  simp only [MBX_RSP, MBX_CST, MBX_DONE, List.mem_cons, List.not_mem_nil, or_false]
  omega

theorem done_conclude (s : State) {m : Nat} (hm : m < 8) (acc : Bool) (status detail : Nat) (ws : List Word) :
    bitN ((s.conclude m acc status detail ws).get fMBX_DONE_DONE) m = true := by
  unfold State.conclude
  exact done_setDone _ hm

theorem getD_packWords (bs : List Byte) {n j : Nat} (hj : j < n) : (packWords bs n).getD j 0 = BitVec.ofNat 32 (leNat ((bs.drop (4 * j)).take 4)) := by
  simp [packWords, upTo, hj]

/-- The response words of an answer. -/
def State.answerWords (s : State) (m status detail : Nat) (bytes : List Byte) : List Word :=
  [s.reg (MBX_REQ m 0), BitVec.ofNat 32 (status + detail * 256 + bytes.length * 65536)] ++ packWords bytes 14

theorem length_answerWords (s : State) (m status detail : Nat) (bytes : List Byte) : (s.answerWords m status detail bytes).length = 16 := by
  simp [State.answerWords, packWords, upTo]

theorem post_eq (s : State) (m status detail : Nat) (bytes : List Byte) :
    s.post m status detail bytes = (s.putRsp m 0 (s.answerWords m status detail bytes)).conclude m (status = 7) status detail
      (s.answerWords m status detail bytes) := rfl

theorem rsp_post (s : State) (m status detail : Nat) (bytes : List Byte) {j : Nat} (hj : j < 16) :
    (s.post m status detail bytes).reg (MBX_RSP m j) = (s.answerWords m status detail bytes).getD j 0 := by
  obtain ⟨-, -, hregs, -⟩ := conclude_spec (s := s.putRsp m 0 (s.answerWords m status detail bytes)) m (status = 7) status detail
    (s.answerWords m status detail bytes)
  rw [post_eq, hregs _ ((rsp_not_concluded m j).resolve_right (by omega))]
  have hat := reg_putRsp_at s m 0 (s.answerWords m status detail bytes) j (by rw [length_answerWords]; exact hj)
  rwa [Nat.zero_add] at hat

theorem posted_post (s : State) {m status : Nat} (hm : m < 8) (hstatus : status < 8) (detail : Nat) (bytes : List Byte) :
    Posted s (s.post m status detail bytes) m status detail bytes := by
  obtain ⟨-, hcst, -, -⟩ := post_spec (s := s) m status detail bytes
  obtain ⟨hstate, hcode⟩ := answered_fields (a := if status = 7 then 3 else 4) (by split <;> simp) hstatus
  refine ⟨?_, ?_, ?_, rsp_post s m status detail bytes (by decide), rsp_post s m status detail bytes (by decide), fun j hj => ?_⟩
  · unfold State.chanState State.get
    rw [hcst]
    exact hstate
  · unfold State.get
    rw [hcst]
    exact hcode
  · exact done_conclude _ hm _ _ _ _
  · rw [rsp_post s m status detail bytes (by omega), ← getD_packWords bytes hj, Nat.add_comm 2 j]
    rfl

theorem answers_post (s : State) {m status : Nat} (hm : m < 8) (hstatus : status < 8) (detail : Nat) (bytes : List Byte) :
    Answers s (s.post m status detail bytes) m status detail bytes := by
  obtain ⟨⟨r, c, y, hdata⟩, -, hregs, -⟩ := post_spec (s := s) m status detail bytes
  have hposted := posted_post s hm hstatus detail bytes
  generalize s.post m status detail bytes = t at hdata hregs hposted ⊢
  subst hdata
  exact ⟨hposted, ⟨r, y, rfl⟩, hregs⟩

/-- An answer stands where the registers of its channel do. -/
theorem Posted.congr {m status detail : Nat} {bytes : List Byte} (h : Posted s t m status detail bytes)
    (hreq : u.reg (MBX_REQ m 0) = s.reg (MBX_REQ m 0)) {v : State} (hrsp : ∀ o ∈ rspRegs m, v.reg o = t.reg o) :
    Posted u v m status detail bytes := by
  obtain ⟨hstate, hcode, hdone, hhead, hlen, hwords⟩ := h
  have hcst : v.reg (MBX_CST m) = t.reg (MBX_CST m) := hrsp _ (by simp [rspRegs])
  have hword (j : Nat) (hj : j < 16) : v.reg (MBX_RSP m j) = t.reg (MBX_RSP m j) :=
    hrsp _ (List.mem_append_right _ (List.mem_map_of_mem (mem_upTo.mpr hj)))
  refine ⟨?_, ?_, ?_, ?_, ?_, fun j hj => ?_⟩
  · exact (get_of_reg (fMBX_CST_STATE m) hcst).trans hstate
  · exact (get_of_reg (fMBX_CST_CODE m) hcst).trans hcode
  · rw [get_of_reg fMBX_DONE_DONE (hrsp _ (by simp [rspRegs]))]
    exact hdone
  · rw [hword 0 (by decide), hreq]
    exact hhead
  · rw [hword 1 (by decide)]
    exact hlen
  · rw [hword _ (by omega)]
    exact hwords j hj


/-! ### The core at its next instruction (R295) -/

/-- The core no longer waits. -/
def State.awake (s : State) : State := { s with core := { s.core with waiting := false } }

theorem reg_awake (s : State) (o : Nat) : s.awake.reg o = s.reg o := rfl

theorem movement_coreWake (s : State) : Movement s.awake s.coreWake := by
  unfold State.coreWake
  exact .ite (movement_enterRun s.awake) (.refl _)

theorem moves_coreWake (s : State) : Moves s.awake s.coreWake := by
  unfold State.coreWake
  exact .ite (moves_enterRun s.awake) (.refl _)

theorem chans_coreWake (s : State) : s.coreWake.chans = s.chans := (movement_coreWake s).chans
theorem ts_coreWake (s : State) : s.coreWake.ts = s.ts := (movement_coreWake s).ts
theorem nrg_coreWake (s : State) : s.coreWake.nrg = s.nrg := (movement_coreWake s).nrg
theorem mem_coreWake (s : State) : s.coreWake.mem = s.mem := (movement_coreWake s).mem

/-- The pages of the block itself and of the mailboxes stand. -/
theorem reg_coreWake {o : Nat} (h : stillReg o) : s.coreWake.reg o = s.reg o := (movement_coreWake s).regs o h

theorem reg_coreWake_of_not_moved {o : Nat} (h : o ∉ movedRegs) : s.coreWake.reg o = s.reg o := (moves_coreWake s).regs o h

/-- The registers of the mailboxes are of those that no movement changes. -/
theorem stillReg_mailbox {o : Nat} (hlo : 0x1000 ≤ o) (hhi : o < 0x2000) : stillReg o := .inl ⟨hhi, by unfold BLK_TRST; omega⟩

theorem stillReg_req {m j : Nat} (hm : m < 8) (hj : j < 16) : stillReg (MBX_REQ m j) :=
  stillReg_mailbox (by unfold MBX_REQ; omega) (by unfold MBX_REQ; omega)

theorem stillReg_cst {m : Nat} (hm : m < 8) : stillReg (MBX_CST m) := stillReg_mailbox (by unfold MBX_CST; omega) (by unfold MBX_CST; omega)

theorem chanState_coreWake {m : Nat} (hm : m < 8) : s.coreWake.chanState m = s.chanState m := get_of_reg (fMBX_CST_STATE m) (reg_coreWake (stillReg_cst hm))

theorem reqLen_coreWake {m : Nat} (hm : m < 8) : s.coreWake.reqLen m = s.reqLen m := by
  rw [State.reqLen, reg_coreWake (stillReg_req hm (by decide)), State.reqLen]

theorem arg_coreWake {m : Nat} (hm : m < 8) {k n : Nat} (h : k + n ≤ 56) : s.coreWake.arg m k n = s.arg m k n := by
  unfold State.arg
  congr 1
  refine List.map_congr_left fun b hb => ?_
  have hlt := mem_upTo.mp hb
  rw [reg_coreWake (stillReg_req hm (by omega))]

/-! ### A command served (R597-R599) -/

/-- An acknowledged request for a simple command, with arguments of its length, is performed and answered. -/
theorem row_simple {m : Fin 8} {op len : Nat} (h : Holds s m op len) (hlong : ∀ u : State, u.isLong op = false) (hlen : argLen op = some len) :
    s.row m op = .next ((s.coreWake.simple m op).1.reply m (s.coreWake.simple m op).2) := by
  obtain ⟨-, hserves, hstate, hreq, -⟩ := h
  have hstate' : s.coreWake.chanState m = 2 := (chanState_coreWake m.isLt).trans hstate
  have hlen' : argLen op = some (s.coreWake.reqLen m) := by rw [hlen, reqLen_coreWake m.isLt, hreq]
  unfold State.row State.perform State.serve
  rw [if_pos hserves, if_pos hstate', hlong, if_neg Bool.false_ne_true, if_neg (not_not.mpr hlen')]

theorem answers_reply (s : State) (m : Fin 8) (a : Ans) (h : a.status < 8) : Answers s (s.reply m a) m a.status a.detail a.bytes :=
  answers_post s m.isLt h a.detail a.bytes

section
variable {c : Instr} {m : Fin 8} {op len : Nat} {ok : Prop}

/-- A simple command that only reads. -/
theorem gives_of {bytes : State → List Byte} (hexec : exec c s = s.row m op) (hlen : argLen op = some len) (hlong : ∀ u : State, u.isLong op = false)
    (hsimple : ok → s.coreWake.simple m op = (s.coreWake, .ok (bytes s.coreWake))) : Gives c s m op len ok bytes := by
  intro hholds hok
  have hrow := row_simple hholds hlong hlen
  rw [hsimple hok] at hrow
  exact ⟨_, hexec.trans hrow, answers_reply s.coreWake m (.ok _) (show 0 < 8 by decide)⟩

/-- A simple command whose number is out of range. -/
theorem bounces_of (hexec : exec c s = s.row m op) (hlen : argLen op = some len) (hlong : ∀ u : State, u.isLong op = false)
    (hsimple : ok → s.coreWake.simple m op = (s.coreWake, .badIndex)) : Bounces c s m op len ok := by
  intro hholds hbad
  have hrow := row_simple hholds hlong hlen
  rw [hsimple hbad] at hrow
  exact ⟨_, hexec.trans hrow, answers_reply s.coreWake m .badIndex (by decide)⟩

/-- A simple command that reads a capture pair: the pair's upper half is copied, and the answer posted over that (R652). -/
theorem captured_of {off hi : Nat} {v : Word} {bytes : List Byte} (hholds : Holds s m op len) (hexec : exec c s = s.row m op)
    (hlen : argLen op = some len) (hlong : ∀ u : State, u.isLong op = false)
    (hsimple : s.coreWake.simple m op = (s.coreWake.capture off, .ok bytes)) (hcapture : s.coreWake.capture off = s.coreWake.setReg hi v)
    (hhi : 0x2000 ≤ hi) : Runs c s fun u => Posted s u m 0 0 bytes ∧ u.reg hi = v := by
  have hm := m.isLt
  have hrow := row_simple hholds hlong hlen
  rw [hsimple, hcapture] at hrow
  have hanswers : Answers (s.coreWake.setReg hi v) ((s.coreWake.setReg hi v).reply m (.ok bytes)) m 0 0 bytes :=
    answers_reply (s.coreWake.setReg hi v) m (.ok bytes) (show 0 < 8 by decide)
  generalize (s.coreWake.setReg hi v).reply m (.ok bytes) = u at hrow hanswers
  obtain ⟨hposted, -, hregs⟩ := hanswers
  refine ⟨u, hexec.trans hrow, hposted.congr (Eq.symm ?_) fun _ _ => rfl, (hregs hi fun h => ?_).trans (reg_setReg_same s.coreWake hi v)⟩
  · rw [reg_setReg_ne _ _ _ _ (by unfold MBX_REQ; omega), reg_coreWake (stillReg_req hm (by decide))]
  · simp only [rspRegs, MBX_CST, MBX_DONE, MBX_RSP, List.mem_append, List.mem_cons, List.not_mem_nil, or_false, List.mem_map, mem_upTo] at h
    omega

end

/-! ### A doorbell (R591-R593) -/

/-- What a wake leaves alone of the mailboxes: their channels and their registers, the count of doorbells, and whether the core can answer. -/
structure Hears (s t : State) : Prop where
  chans : t.chans = s.chans
  bells : t.core.bells = s.core.bells
  now : t.now = s.now
  regs : ∀ o, 0x1000 ≤ o → o < 0x2000 → t.reg o = s.reg o
  running : t.on fBLK_CORE_RUNNING = s.on fBLK_CORE_RUNNING
  ready : t.on fBLK_CORE_READY = s.on fBLK_CORE_READY

theorem Hears.refl (s : State) : Hears s s := ⟨rfl, rfl, rfl, fun _ _ _ => rfl, rfl, rfl⟩

theorem Hears.trans (h : Hears s t) (k : Hears t u) : Hears s u :=
  ⟨k.chans.trans h.chans, k.bells.trans h.bells, k.now.trans h.now, fun o hlo hhi => (k.regs o hlo hhi).trans (h.regs o hlo hhi),
    k.running.trans h.running, k.ready.trans h.ready⟩

theorem Movement.hears (h : Movement s t) : Hears s t := by
  have hcore : t.reg BLK_CORE = s.reg BLK_CORE := h.regs _ (.inl (by decide))
  exact ⟨h.chans, by rw [h.core], h.now, fun o hlo hhi => h.regs o (stillReg_mailbox hlo hhi), on_of_reg fBLK_CORE_RUNNING hcore, on_of_reg fBLK_CORE_READY hcore⟩

/-- A change behind the registers that leaves the channels and the count of doorbells. -/
theorem Hears.of_hidden (hr : t.regs = s.regs) (hc : t.chans = s.chans) (hb : t.core.bells = s.core.bells) (hn : t.now = s.now) : Hears s t := by
  have hreg : ∀ o, t.reg o = s.reg o := fun o => by rw [State.reg, State.reg, hr]
  exact ⟨hc, hb, hn, fun o _ _ => hreg o, on_of_reg fBLK_CORE_RUNNING (hreg _), on_of_reg fBLK_CORE_READY (hreg _)⟩

theorem hears_coreWake (s : State) : Hears s s.coreWake := (Hears.of_hidden rfl rfl rfl rfl : Hears s s.awake).trans (movement_coreWake s).hears

theorem hears_coreAtWake (s : State) : Hears s s.coreAtWake := by
  have hput : Hears s ((s.putB fBLK_CORE_CLK false).put fBLK_WDT_COUNT 10000) := by
    have hne {o : Nat} (hlo : 0x1000 ≤ o) : BLK_WDT ≠ o ∧ BLK_CORE ≠ o := by unfold BLK_WDT BLK_CORE; omega
    refine ⟨rfl, rfl, rfl, fun o hlo _ => ?_, ?_, ?_⟩
    · rw [reg_put_ne _ _ _ _ (hne hlo).1.symm, reg_putB_ne _ _ _ _ (hne hlo).2.symm]
    · simp (disch := decide) only [on_put_reg, on_putB_apart]
    · simp (disch := decide) only [on_put_reg, on_putB_apart]
  unfold State.coreAtWake
  exact hput.trans (.of_hidden rfl rfl rfl rfl)

theorem hears_restoreMems (s : State) : Hears s s.restoreMems := by
  unfold State.restoreMems
  split
  · exact .refl s
  · next v _ =>
    have hrise : Hears s ((upTo 6).foldl (fun s k => if v / 4 ^ k % 4 = 2 then s.powerUp k 10000 else s) s) := by
      refine foldl_keeps_prop (I := Hears s) (fun u k _ hu => ?_) (.refl s)
      split
      · exact hu.trans (.of_hidden rfl rfl rfl rfl)
      · exact hu
    exact hrise.trans (.of_hidden rfl rfl rfl rfl)

theorem freeReg_pstState : freeReg PST_STATE := freeReg_singles _ (by decide)

theorem hears_beginWake (s : State) (code : Nat) : Hears s (s.beginWake code) := by
  have h1 : Hears s (s.moveRef.put fPST_STATE_LASTWAKE code) := ((movement_moveRef s).put _ freeReg_pstState).hears
  unfold State.beginWake
  extract_lets +onlyGivenNames s1 s2 _ s3
  have h2 : Hears s s1 := h1.trans (.of_hidden rfl rfl rfl rfl)
  have h3 : Hears s s3 := (h2.trans (hears_coreAtWake s1)).trans (.of_hidden rfl rfl rfl rfl)
  split
  · exact (h3.trans (hears_restoreMems s3)).trans ((movement_moveRef _).updIb _).hears
  · exact h3

theorem movement_forcedPauses (s : State) (p : Nat → Bool) : Movement s (s.forcedEnds ((upTo 64).filter p)) :=
  movement_forcedEnds s _ fun _ hk => mem_upTo.mp (List.mem_filter.mp hk).1

theorem hears_abortEntry (s : State) (code : Nat) : Hears s (s.abortEntry code) := by
  unfold State.abortEntry
  extract_lets +onlyGivenNames s1 s2 _ s3
  have h1 : Movement s s1 := (((Movement.refl s).put _ freeReg_pstState).putB _ freeReg_pstState).raise _ (by decide)
  have h3 : Hears s s3 := (h1.updPst _).hears.trans (.of_hidden rfl rfl rfl rfl)
  split
  · have hrun : Movement s3 (if s.aon = 1 then s3.enterRun else s3) := .ite (movement_enterRun s3) (.refl s3)
    exact h3.trans ((hrun.trans (movement_forcedPauses _ _)).trans (movement_resumeDomains _)).hears
  · exact (h3.trans (hears_coreAtWake s3)).trans ((Movement.refl _).updPst _).hears

theorem coincide_cases (s : State) (code : Nat) : s.coincide code = s ∨ s.coincide code = s.put fPST_STATE_LASTWAKE code := by
  unfold State.coincide
  split
  · exact .inl rfl
  · split
    · exact .inr rfl
    · exact .inl rfl

theorem hears_coincide (s : State) (code : Nat) : Hears s (s.coincide code) := by
  rcases coincide_cases s code with h | h <;> rw [h]
  · exact .refl s
  · exact ((Movement.refl s).put _ freeReg_pstState).hears

/-- A doorbell as a wake event: it does not end Off, so of the two wakes only that from Sleep and Deep sleep begins (Table 6.4). -/
theorem hears_wakeBy_bell (s : State) : Hears s (s.wakeBy 3) := by
  unfold State.wakeBy State.wakeEvent
  split
  · split
    · split
      · exact .refl s
      · split
        · exact .refl s
        · exact hears_abortEntry s 3
    · split
      · exact hears_coincide s 3
      · next hends =>
        have h4 : s.aon ≠ 4 := fun h => hends (by rw [h]; simp [wakeEnds])
        rw [if_neg h4]
        exact hears_beginWake s 3
  · exact .refl s

/-- In Run with no entry under way a doorbell changes no more than which source woke the block last. -/
theorem wakeBy_bell_in_run (haon : s.aon = 0) (hent : s.on fPST_STATE_ENTERING = false) :
    s.wakeBy 3 = s ∨ s.wakeBy 3 = s.put fPST_STATE_LASTWAKE 3 := by
  have hends : wakeEnds s.aon 3 = false := by rw [haon]; rfl
  unfold State.wakeBy State.wakeEvent
  split
  · rw [if_neg (by simp [hent]), if_pos (by simp [hends])]
    exact coincide_cases s 3
  · exact .inl rfl

/-- The block that a doorbell has woken. -/
def State.belled (s : State) : State := s.coreWake.wakeBy 3

theorem hears_belled (s : State) : Hears s s.belled := (hears_coreWake s).trans (hears_wakeBy_bell _)

section
variable {m : Fin 8}

theorem Hears.chan (h : Hears s t) (m : Nat) : t.chan m = s.chan m := by rw [State.chan, h.chans, State.chan]

theorem Hears.req (h : Hears s t) (m : Fin 8) {j : Nat} (hj : j < 16) : t.reg (MBX_REQ m j) = s.reg (MBX_REQ m j) :=
  h.regs _ (by unfold MBX_REQ; omega) (by unfold MBX_REQ; omega)

theorem Hears.coreDown (h : Hears s t) : t.coreDown = s.coreDown := by rw [State.coreDown, h.running, h.ready, State.coreDown]

theorem ring_proto (hdue : s.core.ifaceDue ≠ some (s.now + 2000)) (hstate : (1 ≤ s.chanState m ∧ s.chanState m ≤ 3) ∨ 5 ≤ s.chanState m) :
    s.ring m = s.raise evMBX_PROTO m := by
  have hnot : ¬(s.chanState m = 0 ∨ s.chanState m = 4) := by omega
  unfold State.ring
  rw [if_neg hdue, if_neg (by simpa using hnot)]

theorem ring_open (hdue : s.core.ifaceDue ≠ some (s.now + 2000)) (hstate : s.chanState m = 0 ∨ s.chanState m = 4) :
    s.ring m = s.belled.startRequest m := by
  unfold State.ring State.belled
  rw [if_neg hdue, if_pos (by simpa using hstate)]

end

/-- A request whose sequence number and opcode the channel has answered: the stored response again (R592). -/
theorem startRequest_replay {m : Nat} {ws : List Word} (hseq : (s.chan m).lastSeq = some (s.reqSeq m)) (hop : (s.chan m).lastOp = s.reqOp m)
    (hstored : (s.chan m).stored = some ws) :
    s.startRequest m = ((s.putRsp m 0 ws).setReg (MBX_CST m) (BitVec.ofNat 32 (4 * 256 + bitsAt (ws.getD 1 0) 0 3))).setDone m := by
  unfold State.startRequest
  dsimp only
  rw [if_pos (by simp [hseq, hop, hstored]), hstored]
  rfl

theorem startRequest_stale {m q : Nat} (hseq : (s.chan m).lastSeq = some q) (hsame : s.reqSeq m ≠ q) (hnext : s.reqSeq m ≠ (q + 1) % 65536) :
    s.startRequest m = s.post m 4 2 [] := by
  unfold State.startRequest
  dsimp only
  rw [hseq, if_neg (by simp [hsame.symm]), if_pos (by simp [hnext])]

theorem startRequest_long {m : Nat} (hseq : (s.chan m).lastSeq = none) (hlen : 56 < s.reqLen m) : s.startRequest m = s.post m 4 3 [] := by
  unfold State.startRequest
  dsimp only
  rw [hseq, if_neg (by simp), if_neg (by simp), if_pos (by simp [hlen])]

/-- The channel as the request of a good header leaves it pending (R592, R594). -/
def State.pended (s : State) (m : Nat) : State :=
  let s1 := (s.updChan m fun c => { c with bellAt := s.now, order := s.core.bells, guarded := false, long := none }).put (fMBX_CST_STATE m) 1
  { s1 with core := { s1.core with bells := s1.core.bells + 1 } }

theorem startRequest_good {m : Nat} (hseq : (s.chan m).lastSeq = none) (hlen : s.reqLen m ≤ 56) (hzero : bitsAt (s.reg (MBX_REQ m 1)) 8 24 = 0) :
    s.startRequest m = if s.coreDown then (s.pended m).post m 1 1 [] else s.pended m := by
  unfold State.startRequest
  dsimp only
  rw [hseq, if_neg (by simp), if_neg (by simp), if_neg (by simp [hzero]; omega)]
  rfl

theorem pended_spec (s : State) (m : Nat) :
    (s.pended m).chanState m = 1 ∧ ((s.pended m).chan m).bellAt = s.now ∧ ((s.pended m).chan m).order = s.core.bells ∧
    (s.pended m).core.bells = s.core.bells + 1 ∧ (s.pended m).reg (MBX_REQ m 0) = s.reg (MBX_REQ m 0) := by
  have hchan : (s.pended m).chan m = { s.chan m with bellAt := s.now, order := s.core.bells, guarded := false, long := none } :=
    tblGet_set_same _ _ _ _
  refine ⟨get_put s (fMBX_CST_STATE m) 1 (by simp), by rw [hchan], by rw [hchan], rfl, ?_⟩
  exact reg_put_ne _ (fMBX_CST_STATE m) _ _ (by simp only [MBX_REQ, MBX_CST]; omega)

/-- The response posted again, register by register. -/
theorem replay_spec (s : State) {m : Nat} (hm : m < 8) {ws : List Word} (hlen : ws.length = 16) {t : State}
    (ht : t = ((s.putRsp m 0 ws).setReg (MBX_CST m) (BitVec.ofNat 32 (4 * 256 + bitsAt (ws.getD 1 0) 0 3))).setDone m) :
    t.chanState m = 4 ∧ bitN (t.get fMBX_DONE_DONE) m = true ∧ (∀ j, j < 16 → t.reg (MBX_RSP m j) = ws.getD j 0) ∧ OnlyRegs s t (rspRegs m) := by
  have hdone (o : Nat) (ho : o ≠ MBX_DONE) : t.reg o = ((s.putRsp m 0 ws).setReg (MBX_CST m) (BitVec.ofNat 32 (4 * 256 + bitsAt (ws.getD 1 0) 0 3))).reg o := by
    rw [ht]
    exact sameRegs_setDone m o (by simpa using ho)
  have hcode : bitsAt (ws.getD 1 0) 0 3 < 8 := Nat.mod_lt _ (by decide)
  refine ⟨?_, ?_, fun j hj => ?_, ?_, fun o ho => ?_⟩
  · unfold State.chanState State.get
    rw [hdone _ (cst_ne_done m), reg_setReg_same]
    exact (answered_fields (.inr rfl) hcode).1
  · rw [ht]
    exact done_setDone _ hm
  · rw [hdone _ (by simp only [MBX_RSP, MBX_DONE]; omega), reg_setReg_ne _ _ _ _ (by simp only [MBX_RSP, MBX_CST]; omega)]
    have hat := reg_putRsp_at s m 0 ws j (by omega)
    rwa [Nat.zero_add] at hat
  · obtain ⟨r, hr⟩ := putRsp_eq (s := s) m 0 ws
    rw [ht, hr]
    exact ⟨_, _, rfl⟩
  · simp only [rspRegs, List.mem_append, List.mem_cons, List.not_mem_nil, or_false, not_or] at ho
    obtain ⟨⟨hcst, hne⟩, hrsp⟩ := ho
    rw [hdone o hne, reg_setReg_ne _ _ _ _ hcst]
    exact sameRegs_putRsp m 0 ws (by omega) o hrsp

end Sys2Proof.Machine
end

section
/-!
SUPPORT. The doorbell as host software writes it, the acknowledgement and the guard, and the commands of Ibsel that read (R593-R599).
-/

namespace Sys2Proof.Machine

variable {s t u : State}

/-! ### The doorbell as a write of host software -/

/-- The mailbox that firmware keeps to itself rings none of the requests (R593). -/
theorem storeMbx_bell_last (s : State) (w : Word) : s.storeMbx false (MBX_BELL 7) w 1#32 = s.raise evMBX_PROTO 7 := by
  simp [State.storeMbx, MBX_BELL]

theorem exec_mbxBell_last {m : Fin 8} (hs : Served .host (MBX_BELL m) s) (hm : m = 7) :
    exec (.mbxBell .host m) s = .next (((s.hostMark false (MBX_BELL m) 1#32).raise evMBX_PROTO 7).okay 0) := by
  obtain ⟨h4, hlt, hcoef, hacc, hcommon, hblock⟩ := bell_placed m
  change s.portWrite .host (MBX_BELL m) 1#32 = _
  rw [portWrite_in s .host (MBX_BELL m) 1#32 19 ⟨0, 0, 0, 1#32⟩ hs h4 hlt hcoef hacc rfl hcommon hblock (by decide)]
  have hbits : s.writeBits ⟨0, 0, 0, 1#32⟩ (MBX_BELL m) 1#32 = 1#32 := by
    change 1#32 &&& ~~~(0#32 &&& _) = 1#32
    rw [BitVec.zero_and, BitVec.not_zero, BitVec.and_allOnes]
  rw [hbits]
  subst hm
  exact congrArg (fun u : State => Host.Outcome.next (u.okay 0)) (storeMbx_bell_last _ _)

/-- The state in which a doorbell is taken: marked, with nothing else changed. -/
def State.rung (s : State) (m : Fin 8) : State := s.hostMark false (MBX_BELL m) 1#32

theorem rung_eq (s : State) (m : Fin 8) : ∃ c, s.rung m = { s with cyc := c } := hostMark_eq s _ _ _

theorem exec_bell {m : Fin 8} (hs : Served .host (MBX_BELL m) s) (hm : m ≠ 7) : exec (.mbxBell .host m) s = .next (((s.rung m).ring m).okay 0) :=
  exec_mbxBell_host hs fun h => hm (Fin.ext h)

theorem hears_rung (s : State) (m : Fin 8) : Hears s (s.rung m) := by
  obtain ⟨c, hc⟩ := rung_eq s m
  rw [hc]
  exact .of_hidden rfl rfl rfl rfl

/-- A doorbell that breaks the protocol sets PROTO and does nothing else (R593). -/
theorem proto_of_exec {c : Instr} {m : Fin 8} {i : Nat} (hexec : exec c s = .next (((s.rung m).raise evMBX_PROTO i).okay 0)) :
    Runs c s fun u => u.stat evMBX_PROTO = true ∧ OnlyEvents { s with bus := { slverr := false, data := 0 } } u (eventRegs 19) := by
  obtain ⟨c, hc⟩ := rung_eq s m
  rw [hc] at hexec
  refine ⟨_, hexec, stat_raise_same _ _ _ (by decide), ?_⟩
  obtain ⟨⟨r, b, v, p, y, hdata⟩, hregs⟩ := onlyEvents_raise ({ s with cyc := c } : State) evMBX_PROTO i
  generalize ({ s with cyc := c } : State).raise evMBX_PROTO i = u at hdata hregs
  subst hdata
  exact ⟨⟨r, b, v, p, y, rfl⟩, hregs⟩

theorem bell_proto {m : Fin 8} (hs : Served .host (MBX_BELL m) s) (hdue : s.core.ifaceDue ≠ some (s.now + 2000)) (hm : m ≠ 7)
    (hstate : (1 ≤ s.chanState m ∧ s.chanState m ≤ 3) ∨ 5 ≤ s.chanState m) :
    exec (.mbxBell .host m) s = .next (((s.rung m).raise evMBX_PROTO m).okay 0) := by
  obtain ⟨c, hc⟩ := rung_eq s m
  rw [exec_bell hs hm, hc, ring_proto (s := { s with cyc := c }) hdue hstate]

/-- The block that a served doorbell has woken. -/
def State.roused (s : State) (m : Fin 8) : State := (s.rung m).belled

theorem hears_roused (s : State) (m : Fin 8) : Hears s (s.roused m) := (hears_rung s m).trans (hears_belled _)

theorem bell_request {m : Fin 8} (hs : Served .host (MBX_BELL m) s) (hdue : s.core.ifaceDue ≠ some (s.now + 2000)) (hm : m ≠ 7)
    (hstate : s.chanState m = 0 ∨ s.chanState m = 4) : exec (.mbxBell .host m) s = .next (((s.roused m).startRequest m).okay 0) := by
  obtain ⟨c, hc⟩ := rung_eq s m
  rw [exec_bell hs hm, State.roused, hc, ring_open (s := { s with cyc := c }) hdue hstate]

theorem reqSeq_roused (s : State) (m : Fin 8) : (s.roused m).reqSeq m = s.reqSeq m := by
  rw [State.reqSeq, (hears_roused s m).req m (by decide), State.reqSeq]

theorem reqOp_roused (s : State) (m : Fin 8) : (s.roused m).reqOp m = s.reqOp m := by
  rw [State.reqOp, (hears_roused s m).req m (by decide), State.reqOp]

theorem reqLen_roused (s : State) (m : Fin 8) : (s.roused m).reqLen m = s.reqLen m := by
  rw [State.reqLen, (hears_roused s m).req m (by decide), State.reqLen]

/-- A request answered at its doorbell. -/
theorem bell_answered {m : Fin 8} {status detail : Nat} (hs : Served .host (MBX_BELL m) s) (hdue : s.core.ifaceDue ≠ some (s.now + 2000)) (hm : m ≠ 7)
    (hstate : s.chanState m = 0 ∨ s.chanState m = 4) (hstatus : status < 8) {w : State} (hreq : w.reg (MBX_REQ m 0) = (s.roused m).reg (MBX_REQ m 0))
    (hstart : (s.roused m).startRequest m = w.post m status detail []) : Runs (.mbxBell .host m) s fun u => Posted s u m status detail [] := by
  have hexec := bell_request hs hdue hm hstate
  rw [hstart] at hexec
  have hposted := posted_post w m.isLt hstatus detail []
  generalize w.post m status detail [] = u at hexec hposted
  exact ⟨u.okay 0, hexec, hposted.congr ((hreq.trans ((hears_roused s m).req m (by decide))).symm) fun _ _ => rfl⟩

theorem bell_good {m : Fin 8} (hs : Served .host (MBX_BELL m) s) (hdue : s.core.ifaceDue ≠ some (s.now + 2000)) (hm : m ≠ 7)
    (hstate : s.chanState m = 0 ∨ s.chanState m = 4) (hseq : (s.chan m).lastSeq = none) (hlen : s.reqLen m ≤ 56)
    (hzero : bitsAt (s.reg (MBX_REQ m 1)) 8 24 = 0) :
    (s.coreDown = true → Runs (.mbxBell .host m) s fun u => Posted s u m 1 1 []) ∧
    (s.coreDown = false → Runs (.mbxBell .host m) s fun u => u.chanState m = 1 ∧ (u.chan m).bellAt = s.now ∧
      (u.chan m).order = s.core.bells ∧ u.core.bells = s.core.bells + 1) := by
  have hears := hears_roused s m
  have hstart := startRequest_good (s := s.roused m) (m := m) (by rw [hears.chan, hseq]) (by rw [reqLen_roused]; exact hlen)
    (by rw [hears.req m (by decide)]; exact hzero)
  rw [hears.coreDown] at hstart
  obtain ⟨hpending, hat, horder, hbells, hreq⟩ := pended_spec (s.roused m) m
  refine ⟨fun hdown => ?_, fun hdown => ?_⟩
  · rw [if_pos hdown] at hstart
    exact bell_answered hs hdue hm hstate (by decide) hreq hstart
  · rw [if_neg (by simp [hdown])] at hstart
    have hexec := bell_request hs hdue hm hstate
    rw [hstart] at hexec
    exact ⟨_, hexec, hpending, hat.trans hears.now, horder.trans hears.bells, hbells.trans (congrArg (· + 1) hears.bells)⟩

/-- In Run, with no entry under way, a doorbell leaves all but the note of which source woke the block last. -/
theorem onlyRegs_roused (s : State) (m : Fin 8) (haon : s.aon = 0) (hent : s.on fPST_STATE_ENTERING = false) :
    OnlyRegs { s with core := { s.core with waiting := false } } (s.roused m) [PST_STATE] := by
  obtain ⟨c, hc⟩ := rung_eq s m
  have hwake : (s.rung m).coreWake = { s with core := { s.core with waiting := false }, cyc := c } := by
    rw [hc, coreWake_of_not_idle (s := { s with cyc := c }) (by rw [show ({ s with cyc := c } : State).aon = s.aon from rfl, haon]; decide)]
  unfold State.roused State.belled
  rw [hwake]
  rcases wakeBy_bell_in_run (s := { s with core := { s.core with waiting := false }, cyc := c }) haon hent with h | h <;> rw [h]
  · exact ⟨⟨_, _, rfl⟩, fun _ _ => rfl⟩
  · exact ⟨⟨_, _, rfl⟩, fun o ho => reg_put_ne _ fPST_STATE_LASTWAKE _ _ (by simpa using ho)⟩

theorem bell_replay {m : Fin 8} {ws : List Word} (hs : Served .host (MBX_BELL m) s) (hdue : s.core.ifaceDue ≠ some (s.now + 2000)) (hm : m ≠ 7)
    (hstate : s.chanState m = 0 ∨ s.chanState m = 4) (hseq : (s.chan m).lastSeq = some (s.reqSeq m)) (hop : (s.chan m).lastOp = s.reqOp m)
    (hstored : (s.chan m).stored = some ws) (hlen : ws.length = 16) :
    Runs (.mbxBell .host m) s fun u => u.chanState m = 4 ∧ bitN (u.get fMBX_DONE_DONE) m = true ∧
      (∀ j, j < 16 → u.reg (MBX_RSP m j) = ws.getD j 0) ∧
      (s.aon = 0 → s.on fPST_STATE_ENTERING = false →
        OnlyRegs { s with bus := { slverr := false, data := 0 }, core := { s.core with waiting := false } } u (PST_STATE :: rspRegs m)) := by
  have hchan := (hears_roused s m).chan m
  have hstart := startRequest_replay (s := s.roused m) (m := m) (ws := ws) (by rw [hchan, reqSeq_roused, hseq]) (by rw [hchan, reqOp_roused, hop])
    (by rw [hchan, hstored])
  obtain ⟨hdone, hbit, hwords, hregs⟩ := replay_spec (s.roused m) m.isLt hlen hstart
  have hexec := bell_request hs hdue hm hstate
  generalize (s.roused m).startRequest m = u at hstart hdone hbit hwords hregs hexec
  refine ⟨_, hexec, hdone, hbit, hwords, fun haon hent => ?_⟩
  obtain ⟨⟨r, c, hdata⟩, hreg⟩ := onlyRegs_roused s m haon hent
  obtain ⟨⟨r', c', hdata'⟩, hreg'⟩ := hregs
  refine ⟨⟨r', c', by rw [hdata', hdata]; rfl⟩, fun o ho => ?_⟩
  rw [List.mem_cons, not_or] at ho
  exact (hreg' o ho.2).trans (hreg o (by simpa using ho.1))

/-! ### Acknowledgement and guard (R594) -/

theorem mbxAck_waits {m : Fin 8} (h : s.chanState m ≠ 1 ∨ (s.chan m).bellAt + 20000 < s.now) : exec (.mbxAck m) s = .next s :=
  congrArg Host.Outcome.next (if_neg (by simp; omega))

theorem mbxGuard_waits {m : Fin 8} (h : s.chanState m ≠ 1 ∨ s.now ≤ (s.chan m).bellAt + 20000) : exec (.mbxGuardTimeout m) s = .next s :=
  congrArg Host.Outcome.next (if_neg (by simp; omega))

theorem fwPerm_not_moved : CAD_FWPERM ∉ movedRegs := by decide +kernel

theorem exec_mbxAck {m : Fin 8} (hstate : s.chanState m = 1) (hdown : s.coreDown = false) (hasleep : s.coreAsleep = false)
    (htime : s.now ≤ (s.chan m).bellAt + 20000) :
    exec (.mbxAck m) s = .next (if bitN (s.reg CAD_FWPERM).toNat 19 then s.coreWake.put (fMBX_CST_STATE m) 2
      else s.coreWake.raiseD evCAD_FW_DENIED 0xFFFF (MBX_CST m)) := by
  have hack : exec (.mbxAck m) s = .next (s.coreWake.permitted 19 (MBX_CST m) fun s => s.put (fMBX_CST_STATE m) 2) :=
    congrArg Host.Outcome.next (if_pos (by simp [hstate, hdown, hasleep, htime]))
  rw [hack, State.permitted, reg_coreWake_of_not_moved fwPerm_not_moved]

theorem exec_mbxGuard {m : Fin 8} (hstate : s.chanState m = 1) (htime : (s.chan m).bellAt + 20000 < s.now) :
    exec (.mbxGuardTimeout m) s = .next ((s.post m 1 1 []).raise evMBX_GUARD m) :=
  congrArg Host.Outcome.next (if_pos (by simp [hstate, htime]))

theorem rspRegs_range {m o : Nat} (hm : m < 8) (h : o ∈ rspRegs m) : 0x1010 ≤ o ∧ o < 0x2000 := by
  simp only [rspRegs, MBX_CST, MBX_DONE, MBX_RSP, List.mem_append, List.mem_cons, List.not_mem_nil, or_false, List.mem_map, mem_upTo] at h
  rcases h with (rfl | rfl) | ⟨j, hj, rfl⟩ <;> omega

/-- The registers of a channel's answers are none that an event of the mailboxes changes. -/
theorem rspRegs_not_event {m o : Nat} (hm : m < 8) (h : o ∈ rspRegs m) : o ∉ eventRegs 19 := by
  have hrange := rspRegs_range hm h
  have h16 : blockBase 19 = 0x1000 := rfl
  refine apart_eventRegs ?_ ?_ ?_ ?_ <;> omega

/-! ### What the commands that read find -/

theorem capture_of_time (s : State) : s.coreWake.capture TRV_TIME_LO = s.coreWake.setReg TRV_TIME_HI ((s.ts >>> 32).setWidth 32) := by
  rw [capture_timeLo, ts_coreWake]

theorem fd_resets_coreWake (s : State) : s.coreWake.fd fBLK_CORE_RESETS 1 = s.fd fBLK_CORE_RESETS 1 := by
  rw [State.fd, get_of_reg fBLK_CORE_RESETS (reg_coreWake (.inl (by decide))), State.fd]

theorem acc_coreWake (s : State) (b : Nat) : s.coreWake.acc b = s.acc b := by rw [State.acc, nrg_coreWake, State.acc]

theorem capture_of_part (s : State) {b : Nat} (hb : b < 17) :
    s.coreWake.capture (NRG_PART_LO b) = s.coreWake.setReg (NRG_PART_HI b) (BitVec.ofNat 32 (s.acc b / 2 ^ 32)) := by
  rw [capture_partLo _ hb, acc_coreWake]

theorem arg0_coreWake (s : State) (m : Fin 8) : s.coreWake.arg m 0 1 = s.arg m 0 1 := arg_coreWake m.isLt (by decide)
theorem arg1_coreWake (s : State) (m : Fin 8) : s.coreWake.arg m 1 1 = s.arg m 1 1 := arg_coreWake m.isLt (by decide)

theorem nrgWmin_not_moved : ∀ w < 8, NRG_WMIN w ∉ movedRegs := by decide +kernel

theorem fd_wmin_coreWake (s : State) {w : Nat} (hw : w < 8) (f : Fld) (hf : f.off = NRG_WMIN w) (n : Nat) : s.coreWake.fd f n = s.fd f n := by
  rw [State.fd, get_of_reg f (reg_coreWake_of_not_moved (by rw [hf]; exact nrgWmin_not_moved w hw)), State.fd]

theorem memPwr_not_moved : MEM_PWR ∉ movedRegs := by decide +kernel

theorem memPower_coreWake (s : State) (k : Nat) : s.coreWake.memPower k = s.memPower k := by
  rw [State.memPower, reg_coreWake_of_not_moved memPwr_not_moved, State.memPower]

/-- A slot of a block's field book that reads without an error (R611). -/
theorem opReadBook_of_clean {m : Fin 8} {n k : Nat} (hn : s.arg m 0 1 = n) (hk : s.arg m 1 1 = k) (hn22 : n < 22) (hk8 : k < 8) (hpower : s.memPower 4 = 2)
    (hbad : s.memBad 4 (bookSlot n k) 16 = false) (hweak : s.weakIn 4 (bookSlot n k) 16 = []) :
    s.opReadBook m = (s, .ok (memBytes s.book (bookSlot n k) 16 ++ s.rd (bookReg n) 4)) := by
  have hcorrects : s.corrects 4 (bookSlot n k) 16 = s := by
    unfold State.corrects
    rw [hweak, ite_self]
    rfl
  unfold State.opReadBook
  dsimp only
  rw [hn, hk, if_neg (by simp; omega), if_neg (by simp [hpower]), hbad, if_neg Bool.false_ne_true, hcorrects]

theorem memBad_coreWake (s : State) (k a n : Nat) : s.coreWake.memBad k a n = s.memBad k a n := by rw [State.memBad, mem_coreWake, State.memBad]
theorem weakIn_coreWake (s : State) (k a n : Nat) : s.coreWake.weakIn k a n = s.weakIn k a n := by rw [State.weakIn, mem_coreWake, State.weakIn]

/-- ACCEPTED posted for a long command before it begins (R595). -/
theorem mbxAccepted_spec {m : Fin 8} (hstate : s.chanState m = 2) (hserves : s.serves m (s.reqOp m) = true) (hlong : s.isLong (s.reqOp m) = true)
    (hcheck : s.longCheck m (s.reqOp m) = none) :
    exec (.mbxAccepted m) s = .next ((s.noteLong m false).post m 7 0 []) :=
  congrArg Host.Outcome.next (if_pos (by simp [hstate, hserves, hlong, hcheck]))

theorem chan_updChan_same (s : State) (m : Nat) (f : ChanHid → ChanHid) : (s.updChan m f).chan m = f (s.chan m) := tblGet_set_same _ _ _ _

theorem long_conclude_accepted (s : State) (m status detail : Nat) (ws : List Word) : ((s.conclude m true status detail ws).chan m).long = (s.chan m).long := by
  unfold State.conclude
  rw [chan_setDone, chan_updChan_same]
  rfl

theorem long_post_accepted (s : State) (m detail : Nat) (bytes : List Byte) : ((s.post m 7 detail bytes).chan m).long = (s.chan m).long := by
  obtain ⟨r, hr⟩ := putRsp_eq (s := s) m 0 (s.answerWords m 7 detail bytes)
  rw [post_eq, hr]
  exact long_conclude_accepted _ m 7 detail _

theorem exec_unknownOpcode {m : Fin 8} (hstate : s.chanState m = 2) (hdown : s.coreDown = false) (hasleep : s.coreAsleep = false) :
    exec (.unknownOpcode m) s = .next (if (argLen (s.reqOp m)).isNone then s.reply m .unknown else if groupOn m (s.reqOp m) then s else s.reply m .barred) :=
  congrArg Host.Outcome.next (if_pos (by simp [hstate, hdown, hasleep]))

/-- The response of a request that is no acknowledged long one is that of its command (R595). -/
theorem exec_mbxResponse_of_simple {m : Fin 8} (h : s.isLong (s.reqOp m) = false) : exec (.mbxResponse m) s = s.row m (s.reqOp m) :=
  congrArg Host.Outcome.next (if_neg (by simp [h]))

end Sys2Proof.Machine
end

section
/-!
SETTLED. O59.
-/

open Sys2Proof Sys2Proof.Machine

/-- Settles O59: a doorbell wakes the block without touching the mailboxes, and each reading command is served in the block as its core wakes,
answers there and touches its channel alone (R590-R599). -/
theorem mailboxes : Obligations.Mailboxes := by
  unfold Obligations.Mailboxes
  intro s m q ws
  have h0 := arg0_coreWake s m
  have h1 := arg1_coreWake s m
  refine ⟨fun hs hm hdue => ?_, fun hs hdue => ⟨fun hm => ?_, fun hm hstate => ?_, fun hm hstate => ⟨fun hseq hop hstored hlen => ?_, fun hseq hsame hnext => ?_,
    fun hseq hlen => ?_, fun hseq hlen hzero => bell_good hs hdue hm hstate hseq hlen hzero⟩⟩, fun htime => mbxAck_waits (.inr htime), fun htime => mbxGuard_waits (.inr htime),
    fun hstate hdown hasleep htime hperm => ?_, fun hstate hdown hasleep htime hperm => ?_, fun hstate htime => ?_,
    fun hstate => ⟨mbxAck_waits (.inl hstate), mbxGuard_waits (.inl hstate)⟩, fun hstate hserves hlong hcheck => ?_, fun hholds hop => ?_,
    fun hstate hdown hasleep => ⟨fun hnone => ?_, fun hsome hgroup => ?_⟩, ?_, fun hholds => ?_, fun hholds => ?_, ?_, ?_, ?_, ?_, ?_, fun hholds hb => ?_, ?_, fun hholds hw => ?_, ?_,
    fun _ => ?_, fun _ => ?_, ?_, ?_, ?_, ?_, ?_, fun _ => ?_, fun _ => ?_, ?_⟩
  · obtain ⟨c, hc⟩ := rung_eq s m
    refine .of_sameButNote (u := { s with bus := { slverr := false, data := 0 } }) (exec_bell hs hm) ⟨c, ?_⟩
    rw [hc, ring_of_ifaceReset (s := { s with cyc := c }) hdue]
    rfl
  · subst hm
    exact proto_of_exec (exec_mbxBell_last hs rfl)
  · exact proto_of_exec (bell_proto hs hdue hm hstate)
  · exact bell_replay hs hdue hm hstate hseq hop hstored hlen
  · have hears := hears_roused s m
    exact bell_answered hs hdue hm hstate (by decide) rfl
      (startRequest_stale (by rw [hears.chan, hseq]) (by rw [reqSeq_roused]; exact hsame) (by rw [reqSeq_roused]; exact hnext))
  · have hears := hears_roused s m
    exact bell_answered hs hdue hm hstate (by decide) rfl (startRequest_long (by rw [hears.chan, hseq]) (by rw [reqLen_roused]; exact hlen))
  · refine ⟨_, (exec_mbxAck hstate hdown hasleep htime).trans (by rw [hperm, if_pos rfl]), get_put _ (fMBX_CST_STATE m) 2 (by simp), ⟨_, _, rfl⟩, fun o ho => ?_⟩
    exact reg_put_ne _ (fMBX_CST_STATE m) _ _ (by simpa using ho)
  · refine ⟨_, (exec_mbxAck hstate hdown hasleep htime).trans (by rw [hperm, if_neg (by simp)]), ?_, stat_raiseD_same _ _ _ _ (by decide)⟩
    have hcst : MBX_CST m ∉ eventRegs 2 := (by decide : ∀ m < 8, MBX_CST m ∉ eventRegs 2) m m.isLt
    exact (get_of_reg (fMBX_CST_STATE m) (reg_raiseD _ _ _ _ _ hcst)).trans ((chanState_coreWake m.isLt).trans hstate)
  · refine ⟨_, exec_mbxGuard hstate htime, ?_, stat_raise_same _ _ _ (by decide)⟩
    exact (posted_post s m.isLt (by decide) 1 []).congr rfl fun o ho => reg_raise _ _ _ _ (rspRegs_not_event m.isLt ho)
  · have hanswers := answers_post (s.noteLong m false) m.isLt (status := 7) (by decide) 0 []
    have hlong' := (long_post_accepted (s.noteLong m false) m 0 []).trans (congrArg ChanHid.long (chan_updChan_same s m _))
    have hexec := mbxAccepted_spec hstate hserves hlong hcheck
    generalize (s.noteLong m false).post m 7 0 [] = u at hanswers hlong' hexec
    obtain ⟨hposted, hregs⟩ := hanswers
    exact ⟨u, hexec, ⟨hposted.congr rfl fun _ _ => rfl, hregs⟩, hlong'⟩
  · have hlong : s.isLong (s.reqOp m) = false := by rw [hop]; rfl
    refine captured_of hholds ((exec_mbxResponse_of_simple hlong).trans (by rw [hop])) rfl (fun _ => rfl) ?_ (capture_of_time s) (by decide)
    change s.coreWake.opTime = _
    rw [State.opTime, ts_coreWake]
  · exact ⟨_, (exec_unknownOpcode hstate hdown hasleep).trans (by rw [hnone]; rfl), answers_reply s m .unknown (by decide)⟩
  · refine ⟨_, (exec_unknownOpcode hstate hdown hasleep).trans (by rw [if_neg (by simpa using hsome), hgroup]; rfl), answers_reply s m .barred (by decide)⟩
  · exact gives_of rfl rfl (fun _ => rfl) fun _ => rfl
  · refine captured_of hholds rfl rfl (fun _ => rfl) ?_ (capture_of_time s) (by decide)
    change s.coreWake.opUptime = _
    rw [State.opUptime, ts_coreWake, fd_resets_coreWake]
  · refine captured_of hholds rfl rfl (fun _ => rfl) ?_ (capture_of_time s) (by decide)
    change s.coreWake.opTime = _
    rw [State.opTime, ts_coreWake]
  · exact gives_of rfl rfl (fun _ => rfl) fun _ => rfl
  · exact gives_of rfl rfl (fun _ => rfl) fun hok => congrArg (Prod.mk s.coreWake) (if_neg (by rw [h0]; omega))
  · exact bounces_of rfl rfl (fun _ => rfl) fun hbad => congrArg (Prod.mk s.coreWake) (if_pos (by rw [h0]; omega))
  · exact gives_of rfl rfl (fun _ => rfl) fun hok => congrArg (Prod.mk s.coreWake) (if_neg (by rw [h0]; omega))
  · exact bounces_of rfl rfl (fun _ => rfl) fun hbad => congrArg (Prod.mk s.coreWake) (if_pos (by rw [h0]; omega))
  · refine captured_of hholds rfl rfl (fun _ => rfl) ?_ (capture_of_part s hb) (by unfold NRG_PART_HI; omega)
    exact (if_neg (by rw [h0]; omega)).trans (by rw [h0, acc_coreWake])
  · exact bounces_of rfl rfl (fun _ => rfl) fun hbad => if_pos (by rw [h0]; omega)
  · obtain ⟨u, hexec, hposted, -⟩ := captured_of (bytes := s.fd (fNRG_WMIN_CODE (s.arg m 0 1)) 2 ++ s.fd (fNRG_WMIN_STATION (s.arg m 0 1)) 2 ++
      leBytes (tblGet (fun _ => 0) s.nrg.wts (s.arg m 0 1)) 8) hholds (rfl : exec (.getWatch m) s = _) rfl (fun _ => rfl)
      ((if_neg (by rw [h0]; omega)).trans (by rw [h0, fd_wmin_coreWake s hw _ rfl, fd_wmin_coreWake s hw _ rfl, nrg_coreWake])) (capture_wtsLo s.coreWake hw)
      (by unfold NRG_WTS_HI; omega)
    exact ⟨u, hexec, hposted⟩
  · exact bounces_of rfl rfl (fun _ => rfl) fun hbad => if_pos (by rw [h0]; omega)
  · exact gives_of rfl rfl (fun _ => rfl) fun hok => congrArg (Prod.mk s.coreWake) (if_neg (by rw [h0]; omega))
  · exact gives_of rfl rfl (fun _ => rfl) fun hok => congrArg (Prod.mk s.coreWake) (if_neg (by rw [h0]; omega))
  · exact gives_of rfl rfl (fun _ => rfl) fun _ => rfl
  · exact gives_of rfl rfl (fun _ => rfl) fun hok => congrArg (Prod.mk s.coreWake) (if_neg (by rw [h0]; omega))
  · exact gives_of rfl rfl (fun _ => rfl) fun _ => rfl
  · refine gives_of rfl rfl (fun _ => rfl) fun ⟨hn, hk, hpower, hbad, hweak⟩ => ?_
    refine (opReadBook_of_clean rfl rfl (by rw [h0]; exact hn) (by rw [h1]; exact hk) (by rw [memPower_coreWake]; exact hpower) ?_ ?_)
    · rw [h0, h1, memBad_coreWake]
      exact hbad
    · rw [h0, h1, weakIn_coreWake]
      exact hweak
  · exact gives_of rfl rfl (fun _ => rfl) fun hok => congrArg (Prod.mk s.coreWake) (if_neg (by rw [h0, h1]; simp; omega))
  · exact gives_of rfl rfl (fun _ => rfl) fun _ => rfl
  · exact gives_of rfl rfl (fun _ => rfl) fun hok => congrArg (Prod.mk s.coreWake) (if_neg (by rw [h0]; omega))
  · exact gives_of rfl rfl (fun _ => rfl) fun _ => rfl

end

section
/-!
SUPPORT. What events and the frames that a die sends leave of the traverse: all but what waits to leave, on a lane or for the quiet window, and
the note of when an event was broadcast (R514, R548).
-/

namespace Sys2Proof.Machine

variable {s t u : State}

/-- The part of the traverse that no sending changes. -/
def TrvHid.unsent (h : TrvHid) : TrvHid :=
  { h with cw := { h.cw with txq := [] }, ccw := { h.ccw with txq := [] }, held := [], bcastAt := [] }

/-- Of the traverse only what waits to leave has changed. -/
def Sends (s t : State) : Prop := t.trv.unsent = s.trv.unsent

theorem Sends.refl (s : State) : Sends s s := rfl
theorem Sends.trans (h : Sends s t) (k : Sends t u) : Sends s u := Eq.trans k h
theorem Sends.of_trv (h : t.trv = s.trv) : Sends s t := congrArg TrvHid.unsent h

theorem Sends.ite {c : Prop} [Decidable c] (h : Sends s t) (k : Sends s u) : Sends s (if c then t else u) := by
  split
  · exact h
  · exact k

theorem Sends.setReg (h : Sends s t) (o : Nat) (v : Word) : Sends s (t.setReg o v) := h
theorem Sends.put (h : Sends s t) (f : Fld) (n : Nat) : Sends s (t.put f n) := h.setReg _ _
theorem Sends.putB (h : Sends s t) (f : Fld) (b : Bool) : Sends s (t.putB f b) := h.setReg _ _
theorem Sends.addSat (h : Sends s t) (f : Fld) (n : Nat) : Sends s (t.addSat f n) := h.setReg _ _
theorem Sends.updIb (h : Sends s t) (f : IbHid → IbHid) : Sends s (t.updIb f) := h
theorem Sends.updPst (h : Sends s t) (f : PstHid → PstHid) : Sends s (t.updPst f) := h

theorem sends_insert (s : State) (o : Nat) (e : TxEntry) :
    Sends s { s with trv := s.trv.setLane o { s.trv.lane o with txq := txInsert e (s.trv.lane o).txq } } := by
  change (s.trv.setLane o { s.trv.lane o with txq := txInsert e (s.trv.lane o).txq }).unsent = s.trv.unsent
  unfold TrvHid.setLane TrvHid.lane
  by_cases ho : o = 0 <;> simp only [ho, ↓reduceIte] <;> rfl

theorem sends_enqueue (s : State) (l : Nat) (e : TxEntry) : Sends s (s.enqueue l e) := by
  unfold State.enqueue
  split
  · exact .refl s
  · exact sends_insert s _ e

theorem sends_enqueueOn (s : State) (l : Nat) (w : Word64) (b : Bool) : Sends s (s.enqueueOn l w b) := by
  unfold State.enqueueOn
  dsimp only
  exact .ite (.refl s) (sends_insert s _ _)

theorem sends_transmit (s : State) (l : Nat) (w : Word64) : Sends s (s.transmit l w) := by
  unfold State.transmit
  dsimp only
  split
  · exact (sends_enqueue s 0 _).trans (sends_enqueue _ 1 _)
  · exact sends_enqueueOn s 0 w true
  · exact sends_enqueueOn s 1 w true
  · exact sends_enqueue s _ _

theorem sends_originate (s : State) (l ty body : Nat) : Sends s (s.originate l ty body) := by
  unfold State.originate
  dsimp only
  exact .ite (show TrvHid.unsent _ = _ from rfl) (sends_transmit s _ _)

theorem sends_broadcastFault (s : State) (e : Ev) (sev : Nat) : Sends s (s.broadcastFault e sev) := by
  unfold State.broadcastFault
  dsimp only
  split
  · exact (sends_originate s _ _ _).trans rfl
  · exact .refl s

theorem sends_note (s : State) (e : Ev) (i d : Nat) : Sends s (s.note e i d).1 := by
  have hsent : Sends s (if s.stat e = true then s.setStat e else (s.setStat e).broadcastFault e (s.sevOf e)) :=
    .ite (.of_trv rfl) ((Sends.of_trv rfl).trans (sends_broadcastFault (s.setStat e) e _))
  unfold State.note
  exact hsent.trans (.of_trv (trv_record _ _ _ _))

theorem sends_afterRecord {p : State × Recorded} (h : Sends s p.1) : Sends s (State.afterRecord p) := by
  unfold State.afterRecord
  split
  · exact h
  · exact h.trans (sends_note _ _ _ _)
  · exact ((h.trans (sends_note _ _ _ _)).addSat _ _).trans (sends_note _ _ _ _)

theorem sends_triggerPin (s : State) (r : Bool) (e : Entry) : Sends s (s.triggerPin r e) := by
  have hstart : Sends s { s with
      cyc := { s.cyc with trigAt := s.now + 1 }
      pins := { s.pins with pulseDue := s.now + ceilN (s.get fFLT_CFG_PULSE * s.aon64) 64 } } := .of_trv rfl
  exact (((((hstart.setReg _ _).setReg _ _).setReg _ _).setReg _ _).setReg _ _).setReg _ _

theorem sends_pinPart (s : State) (r : Bool) (e : Entry) : Sends s (s.pinPart r e) := by
  have htrigger := sends_triggerPin s r e
  unfold State.pinPart
  exact .ite (sends_afterRecord (htrigger.trans (sends_note _ _ _ _))) (.refl s)

theorem sends_rmwPin (s : State) (r : Recorded) : Sends s (s.rmwPin r) := by
  unfold State.rmwPin
  split
  · exact sends_pinPart _ _ _
  · exact .refl s

/-- An event sends at most its broadcast. -/
theorem sends_raiseD (s : State) (e : Ev) (i d : Nat) : Sends s (s.raiseD e i d) :=
  ((sends_afterRecord (sends_note s e i d)).trans (sends_pinPart _ _ _)).trans (sends_rmwPin _ _)

theorem sends_raise (s : State) (e : Ev) (i : Nat) : Sends s (s.raise e i) := sends_raiseD s e i _

theorem sends_raiseIf (s : State) (c : Bool) (e : Ev) (i : Nat) : Sends s (s.raiseIf c e i) := .ite (sends_raise s e i) (.refl s)

/-! ### The entry to Run sends at most an event's broadcast -/

theorem sends_setRef (s : State) (uv : Nat) : Sends s (s.setRef uv) := ((Sends.refl s).updIb _).put _ _

theorem sends_moveRef (s : State) : Sends s s.moveRef := by
  unfold State.moveRef
  exact ((Sends.refl s).updIb _).ite (((sends_setRef s _).updIb _).ite (sends_setRef s _))

theorem sends_setIbTarget (s : State) (code : Nat) : Sends s (s.setIbTarget code) := by
  unfold State.setIbTarget
  exact ((((Sends.refl s).ite (sends_moveRef s)).put _ _).updIb _).trans (sends_raiseIf _ _ _ _)

theorem sends_applyVsel (s : State) (v : Nat) : Sends s (s.applyVsel v) := by
  unfold State.applyVsel
  exact .ite (((Sends.refl s).updIb _).trans (sends_setIbTarget _ _)) ((Sends.refl s).updIb _)

theorem sends_changeVsel (s : State) (v : Nat) : Sends s (s.changeVsel v) := by
  have h : Sends s ((s.applyVsel v).putB fIBS_STATE_DWELL false) := (sends_applyVsel s v).putB _ _
  unfold State.changeVsel
  exact h.ite (h.updIb _)

theorem sends_offerVsel (s : State) : Sends s s.offerVsel := by
  unfold State.offerVsel
  exact .ite (.refl s) ((sends_changeVsel s _).ite ((Sends.refl s).putB _ _))

theorem sends_setAon (s : State) (n : Nat) : Sends s (s.setAon n) := by
  have hput : Sends s { s.put fPST_STATE_STATE n with pins := { s.pins with pulseDue := s.pulseEnd n } } := (Sends.refl s).put fPST_STATE_STATE n
  unfold State.setAon
  exact hput.trans (.of_trv rfl)

theorem sends_enterRun (s : State) : Sends s s.enterRun := (sends_setAon s 0).trans (sends_offerVsel (s.setAon 0).envelopeRestart)

theorem sends_coreWake (s : State) : Sends s s.coreWake := by
  unfold State.coreWake
  exact .ite ((Sends.of_trv rfl).trans (sends_enterRun s.awake)) (.of_trv rfl)

end Sys2Proof.Machine
end

section
/-!
SUPPORT. A read that meets words with correctable errors: each counted, recorded and written back, and nothing else (R611).
-/

namespace Sys2Proof.Machine

variable {s t u : State}

/-- A word that reads corrected, delivered, counted, recorded and written back. -/
def State.writeBack (s : State) (k : Nat) (p : Nat × Nat) : State :=
  ((s.dropWeak k (8 * p.2) 8).addSat (fMEM_MSTAT_CORR k) 1).raiseD evMEM_CORR k (8 * p.2)

theorem corrects_eq (s : State) (k a n : Nat) : s.corrects k a n = (if s.memPower k = 2 then s.weakIn k a n else []).foldl (fun u p => u.writeBack k p) s := rfl

theorem corrects_of_clean {k a n : Nat} (h : s.weakIn k a n = []) : s.corrects k a n = s := by
  rw [corrects_eq, h, ite_self]
  rfl

theorem corrects_of_off {k a n : Nat} (h : s.memPower k ≠ 2) : s.corrects k a n = s := by
  rw [corrects_eq, if_neg h]
  rfl

theorem mem_weakIn {k a n : Nat} {p : Nat × Nat} : p ∈ s.weakIn k a n ↔ p ∈ s.mem.weak ∧ p.1 = k ∧ a / 8 ≤ p.2 ∧ p.2 ≤ (a + n - 1) / 8 := by
  simp [State.weakIn, and_assoc]

/-- The words written back carry their errors no more. -/
theorem mem_writeBack (s : State) {k : Nat} {p : Nat × Nat} (hp : p.1 = k) :
    (s.writeBack k p).mem = { s.mem with weak := s.mem.weak.filter fun q => q ≠ p } := by
  have hword : ∀ q : Nat × Nat, (!(decide (q.1 = k) && decide (8 * p.2 / 8 ≤ q.2) && decide (q.2 ≤ (8 * p.2 + 8 - 1) / 8))) = decide (q ≠ p) := by
    intro q
    have hiff : (q.1 = k ∧ 8 * p.2 / 8 ≤ q.2 ∧ q.2 ≤ (8 * p.2 + 8 - 1) / 8) ↔ q = p := by
      rw [Prod.ext_iff, hp]
      omega
    simp only [ne_eq, ← hiff, Bool.decide_and, decide_not, Bool.and_assoc]
  rw [State.writeBack, State.raiseD_mem]
  exact congrArg (fun f => { s.mem with weak := s.mem.weak.filter f }) (funext hword)

theorem mem_writeBacks (l : List (Nat × Nat)) (s : State) {k : Nat} (hl : ∀ p ∈ l, p.1 = k) :
    (l.foldl (fun u p => u.writeBack k p) s).mem = { s.mem with weak := s.mem.weak.filter fun q => q ∉ l } := by
  induction l generalizing s with
  | nil => simp
  | cons p l ih =>
    rw [List.foldl_cons, ih _ fun q hq => hl q (List.mem_cons_of_mem _ hq), mem_writeBack s (hl p List.mem_cons_self)]
    simp only [List.filter_filter, List.mem_cons, not_or, ne_eq, Bool.decide_and, Bool.and_comm]

/-- What a read with correctable errors leaves of the memories' errors. -/
theorem mem_corrects (s : State) {k : Nat} (a n : Nat) (hpower : s.memPower k = 2) :
    (s.corrects k a n).mem = { s.mem with weak := s.mem.weak.filter fun q => q ∉ s.weakIn k a n } := by
  rw [corrects_eq, if_pos hpower]
  exact mem_writeBacks _ s fun p hp => (mem_weakIn.mp hp).2.1

theorem weakIn_corrects (s : State) {k : Nat} (a n : Nat) (hpower : s.memPower k = 2) : (s.corrects k a n).weakIn k a n = [] := by
  refine List.eq_nil_iff_forall_not_mem.mpr fun p hp => ?_
  obtain ⟨hweak, hrange⟩ := mem_weakIn.mp hp
  rw [mem_corrects s a n hpower] at hweak
  obtain ⟨hin, hout⟩ := List.mem_filter.mp hweak
  exact absurd (mem_weakIn.mpr ⟨hin, hrange⟩) (of_decide_eq_true hout)

/-- A state without its registers, what events touch, and the words of memories that read corrected. -/
def State.bareWeak (s : State) : State := { s.bare with mem := { s.mem with weak := [] } }

theorem bareWeak_of_bare (h : t.bare = s.bare) : t.bareWeak = s.bareWeak := by
  have hmem : t.mem = s.mem := (congrArg State.mem h :)
  rw [State.bareWeak, h, hmem, State.bareWeak]

theorem bareWeak_writeBack (s : State) (k : Nat) (p : Nat × Nat) : (s.writeBack k p).bareWeak = s.bareWeak :=
  (bareWeak_of_bare ((bare_raiseD _ _ _ _).trans (bare_addSat (s.dropWeak k (8 * p.2) 8) _ _))).trans
    (rfl : (s.dropWeak k (8 * p.2) 8).bareWeak = s.bareWeak)

theorem bareWeak_corrects (s : State) (k a n : Nat) : (s.corrects k a n).bareWeak = s.bareWeak := by
  rw [corrects_eq]
  exact foldl_keeps (f := fun u p => State.writeBack u k p) State.bareWeak (fun u p _ => bareWeak_writeBack u k p) s

theorem reg_writeBack (s : State) (k : Nat) (p : Nat × Nat) {o : Nat} (ho : o ∉ MEM_MSTAT k :: eventRegs 20) : (s.writeBack k p).reg o = s.reg o := by
  rw [List.mem_cons, not_or] at ho
  exact (reg_raiseD _ evMEM_CORR _ _ _ ho.2).trans (reg_setReg_ne _ _ _ _ ho.1)

theorem reg_corrects (s : State) (k a n : Nat) {o : Nat} (ho : o ∉ MEM_MSTAT k :: eventRegs 20) : (s.corrects k a n).reg o = s.reg o := by
  rw [corrects_eq]
  exact foldl_keeps (f := fun u p => State.writeBack u k p) (fun u : State => u.reg o) (fun u p _ => reg_writeBack u k p ho) s

theorem onlyEvents_corrects (s : State) (k a n : Nat) :
    OnlyEvents { s with mem := { s.mem with weak := (s.corrects k a n).mem.weak } } (s.corrects k a n) (MEM_MSTAT k :: eventRegs 20) := by
  have h := bareWeak_corrects s k a n
  have hreg := fun o ho => reg_corrects s k a n (o := o) ho
  generalize s.corrects k a n = t at h hreg ⊢
  refine onlyEvents_of ?_ hreg
  have hmem : t.mem = { s.mem with weak := t.mem.weak } := by
    have hm : ({ t.mem with weak := [] } : MemHid) = { s.mem with weak := [] } := (congrArg State.mem h :)
    exact congrArg (fun m : MemHid => { m with weak := t.mem.weak }) hm
  have hrest : ({ t.bare with mem := {} } : State) = { s.bare with mem := {} } := (congrArg (fun u : State => { u with mem := {} }) h :)
  exact (congrArg (fun u : State => { u with mem := t.mem }) hrest).trans (congrArg (fun m => ({ s.bare with mem := m } : State)) hmem)

theorem stat_corrects {k a n : Nat} (hpower : s.memPower k = 2) (hweak : s.weakIn k a n ≠ []) : (s.corrects k a n).stat evMEM_CORR = true := by
  obtain ⟨p, hp⟩ := List.exists_mem_of_ne_nil _ hweak
  rw [corrects_eq, if_pos hpower]
  exact foldl_holds (P := fun u : State => u.stat evMEM_CORR = true) hp (fun u => stat_raiseD_same _ _ _ _ (by decide))
    (fun u q _ _ => stat_raiseD_same _ _ _ _ (by decide)) s

end Sys2Proof.Machine
end

section
/-!
SUPPORT. The release of the core, the steps of the start of domains, and the plat that a wake from Off finds (R305, R380, R403, R643).
-/

namespace Sys2Proof.Machine

variable {s t u : State}

/-! ### The release of the core (R640) -/

/-- The registers of the core and of its memories as it is released. -/
def State.unheldCore (s : State) : State :=
  ((((s.putB fPLAT_STATE_FWOK true).putB fBLK_CORE_HOLD false).putB fBLK_CORE_RUNNING true).putB fBLK_CORE_CLK false).put fBLK_WDT_COUNT 10000

/-- The registers that the release of the core writes. -/
def State.unheldWrites (s : State) : State := (s.unheldCore.setOwner 0 0).setOwner 1 0

/-- The core released, before its first instruction. -/
def State.unheld (s : State) : State := { s.unheldWrites with core := { s.unheldWrites.core with exitDue := none, wdtSub := 0 } }

theorem core_setOwner (s : State) (k o : Nat) : (s.setOwner k o).core = s.core := rfl
theorem core_unheldWrites (s : State) : s.unheldWrites.core = (s.unheldCore.setOwner 0 0).core := core_setOwner _ 1 0

theorem releaseCore_eq (s : State) : s.releaseCore = s.unheld.coreWake := by
  rw [State.unheld, core_unheldWrites]
  rfl

/-- The registers that the release of the core writes. -/
def unheldRegs : List Nat := [PLAT_STATE, BLK_CORE, BLK_WDT, MEM_OWNER]

theorem setOwner_eq (s : State) (k o : Nat) : ∃ r, s.setOwner k o = { s with regs := r } := ⟨_, rfl⟩
theorem unheldCore_eq (s : State) : ∃ r, s.unheldCore = { s with regs := r } := ⟨_, rfl⟩

theorem unheldWrites_eq (s : State) : ∃ r, s.unheldWrites = { s with regs := r } := by
  obtain ⟨r, hr⟩ := unheldCore_eq s
  obtain ⟨r0, hr0⟩ := setOwner_eq s.unheldCore 0 0
  obtain ⟨r1, hr1⟩ := setOwner_eq (s.unheldCore.setOwner 0 0) 1 0
  exact ⟨r1, by rw [State.unheldWrites, hr1, hr0, hr]⟩

theorem unheld_eq (s : State) : ∃ r, s.unheld = { s with regs := r, core := { s.core with exitDue := none, wdtSub := 0 } } := by
  obtain ⟨r, hr⟩ := unheldWrites_eq s
  exact ⟨r, by rw [State.unheld, hr]⟩

theorem reg_unheld (s : State) (o : Nat) : s.unheld.reg o = s.unheldWrites.reg o := reg_withCore s.unheldWrites _ o

theorem sameRegs_unheld (s : State) : SameRegs s s.unheld unheldRegs := by
  have h : SameRegs s s.unheldWrites unheldRegs := by
    unfold State.unheldWrites State.unheldCore
    exact (((((((SameRegs.refl s _).putB _ (by decide)).putB _ (by decide)).putB _ (by decide)).putB _ (by decide)).put _ (by decide)).setReg _
      (by decide)).setReg _ (by decide)
  exact fun o ho => (reg_unheld s o).trans (h o ho)

/-- What the release of the core leaves in its registers (R580, R600, R640). -/
structure Released (t : State) : Prop where
  fwOk : t.on fPLAT_STATE_FWOK = true
  hold : t.on fBLK_CORE_HOLD = false
  running : t.on fBLK_CORE_RUNNING = true
  clk : t.on fBLK_CORE_CLK = false
  wdt : t.get fBLK_WDT_COUNT = 10000
  fw : t.memOwner 0 = 0
  dat : t.memOwner 1 = 0

theorem memOwner_setOwner_same (s : State) {k o : Nat} (hk : k < 6) (ho : o < 8) : (s.setOwner k o).memOwner k = o := by
  unfold State.memOwner State.setOwner
  rw [reg_setReg_same, bitsAt_setBits _ _ _ _ (by omega)]
  exact Nat.mod_eq_of_lt ho

theorem memOwner_setOwner_ne (s : State) {k j : Nat} (o : Nat) (h : j ≠ k) : (s.setOwner k o).memOwner j = s.memOwner j := by
  unfold State.memOwner State.setOwner
  rw [reg_setReg_same, bitsAt_setBits_apart]
  omega

theorem unheldCore_fields (s : State) :
    s.unheldCore.on fPLAT_STATE_FWOK = true ∧ s.unheldCore.on fBLK_CORE_HOLD = false ∧ s.unheldCore.on fBLK_CORE_RUNNING = true ∧
    s.unheldCore.on fBLK_CORE_CLK = false ∧ s.unheldCore.get fBLK_WDT_COUNT = 10000 := by
  unfold State.unheldCore
  refine ⟨?_, ?_, ?_, ?_, get_put _ fBLK_WDT_COUNT 10000 (by decide)⟩
  · simp (disch := decide) only [on_put_reg, on_putB_reg, on_putB_same]
  · simp (disch := decide) only [on_put_reg, on_putB_apart, on_putB_same]
  · simp (disch := decide) only [on_put_reg, on_putB_apart, on_putB_same]
  · simp (disch := decide) only [on_put_reg, on_putB_same]

theorem released_unheld (s : State) : Released s.unheld := by
  obtain ⟨hfw, hhold, hrun, hclk, hwdt⟩ := unheldCore_fields s
  have hreg (o : Nat) (ho : o ≠ MEM_OWNER) : s.unheld.reg o = s.unheldCore.reg o :=
    (reg_unheld s o).trans ((reg_setReg_ne _ _ _ _ ho).trans (reg_setReg_ne _ _ _ _ ho))
  have hown (k : Nat) : s.unheld.memOwner k = s.unheldWrites.memOwner k := by rw [State.memOwner, reg_unheld, State.memOwner]
  refine ⟨(on_of_reg fPLAT_STATE_FWOK (hreg _ (by decide))).trans hfw, (on_of_reg fBLK_CORE_HOLD (hreg _ (by decide))).trans hhold,
    (on_of_reg fBLK_CORE_RUNNING (hreg _ (by decide))).trans hrun, (on_of_reg fBLK_CORE_CLK (hreg _ (by decide))).trans hclk,
    (get_of_reg fBLK_WDT_COUNT (hreg _ (by decide))).trans hwdt, ?_, ?_⟩
  · rw [hown, State.unheldWrites, memOwner_setOwner_ne _ _ (by decide), memOwner_setOwner_same _ (by decide) (by decide)]
  · rw [hown, State.unheldWrites, memOwner_setOwner_same _ (by decide) (by decide)]

theorem Released.congr (h : Released t) (hr : ∀ o ∈ unheldRegs, u.reg o = t.reg o) : Released u := by
  obtain ⟨h1, h2, h3, h4, h5, h6, h7⟩ := h
  have hown (k : Nat) : u.memOwner k = t.memOwner k := by rw [State.memOwner, hr MEM_OWNER (by decide), State.memOwner]
  exact ⟨(on_of_reg fPLAT_STATE_FWOK (hr _ (by decide))).trans h1, (on_of_reg fBLK_CORE_HOLD (hr _ (by decide))).trans h2,
    (on_of_reg fBLK_CORE_RUNNING (hr _ (by decide))).trans h3, (on_of_reg fBLK_CORE_CLK (hr _ (by decide))).trans h4,
    (get_of_reg fBLK_WDT_COUNT (hr _ (by decide))).trans h5, (hown 0).trans h6, (hown 1).trans h7⟩

theorem unheldRegs_not_moved : ∀ o ∈ unheldRegs, o ∉ movedRegs := by decide +kernel

theorem released_releaseCore (s : State) : Released s.releaseCore := by
  rw [releaseCore_eq]
  exact (released_unheld s).congr fun o ho => reg_coreWake_of_not_moved (unheldRegs_not_moved o ho)

theorem releaseCore_of_not_idle (h : s.aon ≠ 1) : s.releaseCore = s.unheld.awake := by
  have haon : s.unheld.aon = s.aon := get_of_reg fPST_STATE_STATE (sameRegs_unheld s _ (by decide))
  rw [releaseCore_eq, coreWake_of_not_idle (by rw [haon]; exact h)]
  rfl

theorem stat_unheld (s : State) (e : Ev) : s.unheld.stat e = s.stat e := by
  have hne : ∀ o ∈ unheldRegs, ∀ n, blockBase n ≠ o := by
    intro o ho n
    have halign := blockBase_aligned n
    have hmod : o % 2048 ≠ 0 ∧ o ≠ 0x2400 := by revert ho; revert o; decide
    rintro rfl
    omega
  exact stat_of_reg e (sameRegs_unheld s _ fun h => hne _ h _ rfl)

theorem stat_coreWake {e : Ev} (h : s.stat e = true) : s.coreWake.stat e = true := (movement_coreWake s).stat e h

/-! ### A step of the start of domains (R643) -/

theorem movement_refuseDom (s : State) (d : Nat) : Movement s (s.refuseDom d) := (Movement.refl s).raise d (by decide)

theorem movement_startDomain (s : State) {d : Nat} (hd : d < 32) : Movement s (s.startDomain d) := by
  unfold State.startDomain
  exact .ite (.refl s) (.ite (((Movement.refl s).updDom d _).trans (movement_switchOn _ hd)) (((Movement.refl s).updDom d _).trans (movement_refuseDom _ d)))

theorem movement_afterGroup (s : State) (l : List Nat) (h : ∀ d ∈ l, d < 32) : Movement s (l.foldl (fun s d => s.startDomain d) s) :=
  (Movement.refl s).foldl l fun u d hd => movement_startDomain u (h d hd)

/-- The least ORDER of the domains still to be started. -/
def State.leastOrder (s : State) (d0 : Nat) (l : List Nat) : Nat :=
  (d0 :: l).foldl (fun a d => min a (s.get (fDOM_CFG_ORDER d))) (s.get (fDOM_CFG_ORDER d0))

theorem foldl_min_le {α : Type} (g : α → Nat) (l : List α) (a : Nat) :
    l.foldl (fun x d => min x (g d)) a ≤ a ∧ (∀ d ∈ l, l.foldl (fun x d => min x (g d)) a ≤ g d) ∧
    (l.foldl (fun x d => min x (g d)) a = a ∨ ∃ d ∈ l, l.foldl (fun x d => min x (g d)) a = g d) := by
  induction l generalizing a with
  | nil => simp
  | cons b l ih =>
    obtain ⟨hle, hall, hat⟩ := ih (min a (g b))
    rw [List.foldl_cons]
    refine ⟨hle.trans (min_le_left _ _), fun d hd => ?_, ?_⟩
    · rcases List.mem_cons.mp hd with rfl | hd
      · exact hle.trans (min_le_right _ _)
      · exact hall d hd
    · rcases hat with hat | ⟨d, hd, hat⟩
      · rcases min_choice a (g b) with h | h
        · exact .inl (hat.trans h)
        · exact .inr ⟨b, List.mem_cons_self, hat.trans h⟩
      · exact .inr ⟨d, List.mem_cons_of_mem _ hd, hat⟩

theorem leastOrder_spec (s : State) (d0 : Nat) (l : List Nat) :
    (∃ d ∈ d0 :: l, s.get (fDOM_CFG_ORDER d) = s.leastOrder d0 l) ∧ ∀ d ∈ d0 :: l, s.leastOrder d0 l ≤ s.get (fDOM_CFG_ORDER d) := by
  obtain ⟨-, hall, hat⟩ := foldl_min_le (fun d => s.get (fDOM_CFG_ORDER d)) (d0 :: l) (s.get (fDOM_CFG_ORDER d0))
  refine ⟨?_, hall⟩
  rcases hat with hat | ⟨d, hd, hat⟩
  · exact ⟨d0, List.mem_cons_self, hat.symm⟩
  · exact ⟨d, hd, hat.symm⟩

theorem startStep_waits (h : s.canStart = false ∨ ∃ d, d ∈ s.boot.group ∧ s.domState d = 3) : s.startStep = s := by
  unfold State.startStep
  rw [if_pos]
  rcases h with h | ⟨d, hd, h3⟩
  · simp [h]
  · have hany : (s.boot.group.any fun d => decide (s.domState d = 3)) = true := List.any_eq_true.mpr ⟨d, hd, by simpa using h3⟩
    simp [hany]

section
variable (hseq : s.boot.seq = true) (hcan : s.canStart = true) (hgroup : ∀ d, d ∈ s.boot.group → s.domState d ≠ 3)
include hseq hcan hgroup

theorem startStep_not_waits : ¬((!s.boot.seq || !s.canStart || s.boot.group.any fun d => decide (s.domState d = 3)) = true) := by
  have hany : (s.boot.group.any fun d => decide (s.domState d = 3)) = false := by
    rw [Bool.eq_false_iff, ne_eq, List.any_eq_true]
    rintro ⟨d, hd, h3⟩
    exact hgroup d hd (by simpa using h3)
  simp [hseq, hcan, hany]

theorem startStep_nil (hl : s.boot.toStart = []) : s.startStep = s.endStart := by
  unfold State.startStep
  rw [if_neg (startStep_not_waits hseq hcan hgroup), hl]

/-- The domains of the least ORDER as they start. -/
theorem startStep_cons {d0 : Nat} {l : List Nat} (hl : s.boot.toStart = d0 :: l) :
    s.startStep = ((d0 :: l).filter fun d => s.get (fDOM_CFG_ORDER d) = s.leastOrder d0 l).foldl (fun u d => u.startDomain d)
      (s.updBoot fun b => { b with group := (d0 :: l).filter fun d => s.get (fDOM_CFG_ORDER d) = s.leastOrder d0 l
                                   toStart := (d0 :: l).filter fun d => s.get (fDOM_CFG_ORDER d) ≠ s.leastOrder d0 l }) := by
  unfold State.startStep
  rw [if_neg (startStep_not_waits hseq hcan hgroup), hl]
  rfl

end

end Sys2Proof.Machine
end

section
/-!
SUPPORT. A domain that switches on from Off or from Retention, before its header stages run (R287, R288, R290).
-/

namespace Sys2Proof.Machine

variable {s t u : State}

theorem dom_setDom_same (s : State) (d st : Nat) (ph : DomPhase) : (s.setDom d st ph).dom d = { s.dom d with phase := ph } := dom_updDom_same _ _ _

theorem dom_setDom_ne (s : State) {d k : Nat} (st : Nat) (ph : DomPhase) (h : k ≠ d) : (s.setDom d st ph).dom k = s.dom k := dom_updDom_ne _ _ h

theorem reg_setDom (s : State) (d st : Nat) (ph : DomPhase) {o : Nat} (h : o ≠ DOM_DSTAT d) : (s.setDom d st ph).reg o = s.reg o :=
  reg_put_ne s (fDOM_DSTAT_STATE d) _ _ h

theorem tractsOf_of_regs {d : Nat} (h : ∀ k, t.reg (DOM_MAP k) = s.reg (DOM_MAP k)) : t.tractsOf d = s.tractsOf d := tractsOf_congr fun k _ => h k

theorem cellsOf_of_tractsOf {d : Nat} (h : t.tractsOf d = s.tractsOf d) : t.cellsOf d = s.cellsOf d := by rw [State.cellsOf, h, State.cellsOf]

theorem map_ne_dstat (k : Nat) {d : Nat} (hk : k < 64) : DOM_MAP k ≠ DOM_DSTAT d := by
  unfold DOM_MAP DOM_DSTAT
  omega

theorem tractsOf_setDom (s : State) (d k st : Nat) (ph : DomPhase) : (s.setDom d st ph).tractsOf k = s.tractsOf k :=
  tractsOf_congr fun _ hj => reg_setDom s d st ph (map_ne_dstat _ hj)

/-- A domain with tracts is in the state that it is given. -/
theorem domState_setDom (s : State) {d st : Nat} (ph : DomPhase) (hd : d < 32) (ht : s.tractsOf d ≠ []) (hst : 1 ≤ st) (h8 : st < 8) :
    (s.setDom d st ph).domState d = st := by
  have hget : (s.setDom d st ph).get (fDOM_DSTAT_STATE d) = st := (get_put s (fDOM_DSTAT_STATE d) st (by simp)).trans (Nat.mod_eq_of_lt h8)
  unfold State.domState
  rw [hget, tractsOf_setDom, if_neg (by simp [ht, List.isEmpty_iff]; omega)]
  omega

theorem tracts_of_domState {d : Nat} (h : s.domState d ≠ 0) : d < 32 ∧ s.tractsOf d ≠ [] := by
  unfold State.domState at h
  split at h
  · exact absurd rfl h
  · next hn =>
    simp only [Bool.or_eq_true, decide_eq_true_eq, List.isEmpty_iff, not_or] at hn
    exact ⟨by omega, hn.2⟩

theorem nodup_cellsOf (s : State) (d : Nat) : (s.cellsOf d).Nodup := by
  refine List.nodup_flatMap.mpr ⟨fun k _ => nodup_cellsIn k, ?_⟩
  refine List.Pairwise.imp ?_ ((List.nodup_range (n := 64)).filter _)
  intro a b hab c hca hcb
  exact hab ((mem_cellsIn.mp hca).symm.trans (mem_cellsIn.mp hcb))

/-! ### The phases of cells barred -/

/-- The phases of the cells of a domain await their header stages, but those of a cell that carries the rail. -/
def State.barAll (s : State) (d : Nat) : State :=
  (s.cellsOf d).foldl (fun u c => u.updCell c fun h => { h with bars := if u.mode c = 4 then 0 else 3 }) s

theorem barAll_eq (s : State) (d : Nat) : ∃ c, s.barAll d = { s with cells := c } :=
  foldl_keeps_prop (I := fun u : State => ∃ c, u = { s with cells := c }) (fun u c _ ⟨l, hu⟩ => by subst hu; exact ⟨_, rfl⟩) ⟨s.cells, rfl⟩

theorem bars_barAll (s : State) {d c : Nat} (hc : c ∈ s.cellsOf d) : ((s.barAll d).cell c).bars = if s.mode c = 4 then 0 else 3 := by
  obtain ⟨u, hu, -, hat⟩ := foldl_at (g := fun u : State => u.cell c) (I := fun u : State => u.regs = s.regs)
    (f := fun u c => u.updCell c fun h => { h with bars := if u.mode c = 4 then 0 else 3 }) (nodup_cellsOf s d) hc
    (fun u k _ hk => cell_updCell_ne u _ hk.symm) (fun _ _ _ hu => hu) (a := s) rfl
  have hmode : u.mode c = s.mode c := get_of_reg (fCEL_CSTAT_MODE c) (by rw [State.reg, hu, State.reg])
  change ((State.barAll s d).cell c) = _ at hat
  rw [hat, cell_updCell_same, hmode]

/-! ### The switch-on -/

/-- A domain about to run its header stages. -/
def State.freshOn (s : State) (d : Nat) (ph : DomPhase) : State :=
  ((s.barAll d).setDom d 3 ph).updDom d fun h => { h with stagesRun := 0, stageDue := s.now, stageOk := false, waitFrom := none, slow := false }

/-- The history of a domain about to run its header stages. -/
def DomHid.awaiting (h : DomHid) (ph : DomPhase) (now : Nat) : DomHid :=
  { h with phase := ph, stagesRun := 0, stageDue := now, stageOk := false, waitFrom := none, slow := false }

theorem freshOn_spec (s : State) {d : Nat} (ph : DomPhase) (hd : d < 32) (ht : s.tractsOf d ≠ []) :
    (s.freshOn d ph).domState d = 3 ∧ (s.freshOn d ph).dom d = (s.dom d).awaiting ph s.now ∧ (∀ k, k ≠ d → (s.freshOn d ph).dom k = s.dom k) ∧
    (∀ c ∈ s.cellsOf d, ((s.freshOn d ph).cell c).bars = if s.mode c = 4 then 0 else 3) ∧
    OnlyRegs { s with doms := (s.freshOn d ph).doms, cells := (s.freshOn d ph).cells } (s.freshOn d ph) [DOM_DSTAT d] := by
  have hbars := fun c (hc : c ∈ s.cellsOf d) => bars_barAll s hc
  unfold State.freshOn
  obtain ⟨l, hl⟩ := barAll_eq s d
  rw [hl] at hbars ⊢
  have hstate := domState_setDom ({ s with cells := l } : State) ph hd ht (st := 3) (by decide) (by decide)
  refine ⟨hstate, ?_, fun k hk => ?_, hbars, ⟨_, _, rfl⟩, fun o ho => reg_setDom _ d 3 ph (by simpa using ho)⟩
  · rw [dom_updDom_same, dom_setDom_same]
    rfl
  · rw [dom_updDom_ne _ _ hk, dom_setDom_ne _ _ _ hk]
    rfl

theorem switchOn_of_off {d : Nat} (h2 : s.domState d ≠ 2) (h5 : s.domState d ≠ 5) : s.switchOn d = (s.holdStart d).freshOn d .stagesOff := by
  have hnow : (s.holdStart d).now = s.now := foldl_keeps (f := fun u c => u.put (fCEL_CSTAT_PRESENT c) (u.startCode (c / 4))) State.now (fun _ _ _ => rfl) s
  unfold State.switchOn
  split
  · next h => exact absurd h h2
  · next h => exact absurd h h5
  · rfl

theorem switchOn_of_retention {d : Nat} (h : s.domState d = 2) : s.switchOn d = s.freshOn d .stagesRet := by
  unfold State.switchOn
  rw [h]
  rfl

/-! ### The present codes held at the start voltages (R94, R290) -/

/-- The start voltage of a tract rests on the registers of its stations alone. -/
theorem startCode_congr {k : Nat} (h : ∀ o, 0x14000 ≤ o → o < 0x20000 → t.reg o = s.reg o) (hk : k < 64) : t.startCode k = s.startCode k := by
  have hmin : t.get (fSTN_MIN_CODE k) = s.get (fSTN_MIN_CODE k) := get_of_reg _ (h _ (by simp only [STN_MIN]; omega) (by simp only [STN_MIN]; omega))
  have hstation : ∀ n, n / 16 = k → t.usable n = s.usable n := by
    intro n hn
    unfold State.usable
    rw [get_of_reg (fSTN_EN_EN (n / 16)) (h _ (by simp only [STN_EN]; omega) (by simp only [STN_EN]; omega)),
      get_of_reg (fSTN_SUSP_SUSP (n / 16)) (h _ (by simp only [STN_SUSP]; omega) (by simp only [STN_SUSP]; omega))]
  have husable : t.usableIn k = s.usableIn k := by
    refine List.filter_congr fun n hn => hstation n ?_
    obtain ⟨j, hj, rfl⟩ := List.mem_map.mp hn
    have := mem_upTo.mp hj
    omega
  have hund : ((s.usableIn k).any fun n => t.get (fSTN_VAL_CODE n) = 240 && t.on (fSTN_VAL_UND n)) =
      (s.usableIn k).any fun n => s.get (fSTN_VAL_CODE n) = 240 && s.on (fSTN_VAL_UND n) := by
    rw [Bool.eq_iff_iff, List.any_eq_true, List.any_eq_true]
    refine exists_congr fun n => and_congr_right fun hn => ?_
    obtain ⟨j, hj, rfl⟩ := List.mem_map.mp (List.mem_filter.mp hn).1
    have hlt := mem_upTo.mp hj
    have hval : t.reg (STN_VAL (16 * k + j)) = s.reg (STN_VAL (16 * k + j)) := h _ (by simp only [STN_VAL]; omega) (by simp only [STN_VAL]; omega)
    rw [get_of_reg (fSTN_VAL_CODE (16 * k + j)) hval, on_of_reg (fSTN_VAL_UND (16 * k + j)) hval]
  unfold State.startCode
  dsimp only
  rw [hmin, husable, hund]

/-- The register of a cell's state is apart from those of stations. -/
theorem celCstat_apart_stn {c o : Nat} (hc : c < 256) (ho : 0x14000 ≤ o) : CEL_CSTAT c ≠ o := by
  unfold CEL_CSTAT
  omega

theorem holdStart_eq (s : State) (d : Nat) : ∃ r, s.holdStart d = { s with regs := r } :=
  foldl_keeps_prop (I := fun u : State => ∃ r, u = { s with regs := r }) (fun u c _ ⟨l, hu⟩ => by subst hu; exact ⟨_, rfl⟩) ⟨s.regs, rfl⟩

theorem reg_holdStart (s : State) (d : Nat) {o : Nat} (ho : o ∉ (s.cellsOf d).map CEL_CSTAT) : (s.holdStart d).reg o = s.reg o :=
  foldl_keeps (f := fun u c => u.put (fCEL_CSTAT_PRESENT c) (u.startCode (c / 4))) (fun u : State => u.reg o)
    (fun u c hc => reg_put_ne u (fCEL_CSTAT_PRESENT c) o _ fun h => ho (List.mem_map.mpr ⟨c, hc, h.symm⟩)) s

theorem mode_holdStart (s : State) (d c : Nat) : (s.holdStart d).mode c = s.mode c :=
  foldl_keeps (f := fun u c => u.put (fCEL_CSTAT_PRESENT c) (u.startCode (c / 4))) (fun u : State => u.mode c)
    (fun u k _ => by
      by_cases hk : k = c
      · subst hk
        exact get_put_apart u (fCEL_CSTAT_PRESENT k) (fCEL_CSTAT_MODE k) _ rfl (.inr (by simp))
      · exact get_of_reg (fCEL_CSTAT_MODE c) (reg_putCstat_ne u _ _ rfl (Ne.symm hk))) s

theorem present_holdStart (s : State) {d c : Nat} (hc : c ∈ s.cellsOf d) : (s.holdStart d).get (fCEL_CSTAT_PRESENT c) = s.startCode (c / 4) := by
  have hlt := cell_lt_of_mem_cellsOf hc
  obtain ⟨u, hu, -, hat⟩ := foldl_at (g := fun u : State => u.get (fCEL_CSTAT_PRESENT c)) (I := fun u : State => ∀ o, 0x14000 ≤ o → o < 0x20000 → u.reg o = s.reg o)
    (f := fun u c => u.put (fCEL_CSTAT_PRESENT c) (u.startCode (c / 4))) (nodup_cellsOf s d) hc
    (fun u k _ hk => get_of_reg (fCEL_CSTAT_PRESENT c) (reg_putCstat_ne u (fCEL_CSTAT_PRESENT k) _ rfl hk.symm))
    (fun u k hk hu o hlo hhi => (reg_put_ne u (fCEL_CSTAT_PRESENT k) _ _ (celCstat_apart_stn (cell_lt_of_mem_cellsOf hk) hlo).symm).trans (hu o hlo hhi))
    (a := s) fun _ _ _ => rfl
  have hcode : s.startCode (c / 4) < 2 ^ 10 := by
    unfold State.startCode
    dsimp only
    split
    · decide
    · exact get_lt_pow s _
  refine hat.trans ?_
  rw [startCode_congr hu (by omega)]
  exact (get_put u (fCEL_CSTAT_PRESENT c) _ (by simp)).trans (Nat.mod_eq_of_lt hcode)

end Sys2Proof.Machine
end

section
/-!
SUPPORT. A domain started in plat order, the end of the start, and the plat that locks (R305, R403, R641-R643).
-/

namespace Sys2Proof.Machine

variable {s t u : State}

/-! ### One domain started -/

theorem mayStart_iff_of_off {d : Nat} (h : s.domState d = 1) : s.isOn d = false := by simp [State.isOn, h]

theorem startDomain_of_off {d : Nat} (h1 : s.domState d = 1) (hmay : s.mayStart d = true) :
    (s.startDomain d).domState d = 3 ∧ ((s.startDomain d).dom d).commanded = 1 ∧ ((s.startDomain d).dom d).phase = .stagesOff := by
  obtain ⟨hd, ht⟩ := tracts_of_domState (s := s) (d := d) (by omega)
  obtain ⟨u, hu⟩ : ∃ u, u = s.updDom d fun h => { h with commanded := 1 } := ⟨_, rfl⟩
  have hcommanded : (u.dom d).commanded = 1 := by rw [hu, dom_updDom_same]
  have hstart : s.startDomain d = u.switchOn d := by
    unfold State.startDomain
    rw [mayStart_iff_of_off h1, if_neg Bool.false_ne_true, if_pos hmay, hu]
  have hstate : u.domState d = 1 := by rw [hu]; exact h1
  have htracts : u.tractsOf d ≠ [] := by rw [hu]; exact ht
  obtain ⟨r, hr⟩ := holdStart_eq u d
  have hheld : (u.holdStart d).tractsOf d ≠ [] := by
    rw [tractsOf_congr fun k hk => reg_holdStart u d fun hm => ?_]
    · exact htracts
    · obtain ⟨c, hc, hcr⟩ := List.mem_map.mp hm
      have := cell_lt_of_mem_cellsOf hc
      simp only [CEL_CSTAT, DOM_MAP] at hcr
      omega
  obtain ⟨hon, hdom, -, -, -⟩ := freshOn_spec (u.holdStart d) .stagesOff hd hheld
  rw [hstart, switchOn_of_off (by omega) (by omega)]
  refine ⟨hon, ?_, by rw [hdom]; rfl⟩
  rw [hdom, hr]
  exact hcommanded

theorem startDomain_refused {d : Nat} (h1 : s.domState d = 1) (hmay : s.mayStart d = false) :
    (s.startDomain d).domState d = 1 ∧ ((s.startDomain d).dom d).commanded = 0 ∧ (s.startDomain d).stat evDOM_CMD_REFUSED = true := by
  obtain ⟨hd, -⟩ := tracts_of_domState (s := s) (d := d) (by omega)
  obtain ⟨u, hu⟩ : ∃ u, u = s.updDom d fun h => { h with commanded := 0 } := ⟨_, rfl⟩
  have hstart : s.startDomain d = u.raise evDOM_CMD_REFUSED d := by
    unfold State.startDomain
    rw [mayStart_iff_of_off h1, if_neg Bool.false_ne_true, hmay, if_neg Bool.false_ne_true, hu]
    rfl
  have hne : ∀ o, 0x40100 ≤ o → o < 0x40480 → o ∉ eventRegs 9 := by
    intro o hlo hhi
    have h16 : blockBase 9 = 0x40000 := rfl
    refine apart_eventRegs ?_ ?_ ?_ ?_ <;> omega
  rw [hstart]
  refine ⟨?_, ?_, stat_raise_same _ _ _ (by decide)⟩
  · rw [domState_congr_of_lt (fun k hk => reg_raise _ _ _ _ (hne _ (by simp only [DOM_MAP]; omega) (by simp only [DOM_MAP]; omega)))
      fun _ => reg_raise _ _ _ _ (hne _ (by simp only [DOM_DSTAT]; omega) (by simp only [DOM_DSTAT]; omega)), hu]
    exact h1
  · rw [State.dom, State.raise_doms, ← State.dom, hu, dom_updDom_same]

/-! ### The end of the start -/

/-- The start of domains over, before the block enters Run. -/
def State.startOver (s : State) : State := (s.updBoot fun b => { b with seq := false, group := [] }).putB fPLAT_STATE_STARTING false

theorem starting_startOver (s : State) : s.startOver.on fPLAT_STATE_STARTING = false := on_putB_same _ fPLAT_STATE_STARTING false (by decide) rfl

theorem aon_startOver (s : State) : s.startOver.aon = s.aon := get_of_reg fPST_STATE_STATE (reg_putB_ne _ fPLAT_STATE_STARTING _ _ (by decide))

/-- The block as it leaves its start for Run. -/
def State.ranUp (s : State) : State := { s.startOver with pst := { s.startOver.pst with waking := false, toRun := false } }

theorem endStart_of_starting (h : s.aon = 5) : s.endStart = s.ranUp.enterRun := if_pos ((aon_startOver s).trans h)
theorem endStart_of_not_starting (h : s.aon ≠ 5) : s.endStart = s.startOver := if_neg (by rw [← aon_startOver] at h; exact h)

theorem pst_applyVsel (s : State) (v : Nat) : (s.applyVsel v).pst = s.pst ∧ (s.applyVsel v).env = s.env := by
  obtain ⟨-, -, ⟨i, r, b, w, q, c, hdata⟩, -⟩ := applyVsel_spec s v
  rw [hdata]
  exact ⟨rfl, rfl⟩

theorem pst_offerVsel (s : State) : s.offerVsel.pst = s.pst ∧ s.offerVsel.env = s.env := by
  have hchange (v : Nat) : (s.changeVsel v).pst = s.pst ∧ (s.changeVsel v).env = s.env := by
    rw [← (pst_applyVsel s v).1, ← (pst_applyVsel s v).2]
    unfold State.changeVsel
    dsimp only
    split <;> exact ⟨rfl, rfl⟩
  have hpick (free : Bool) (v : Nat) : (if free then s.changeVsel v else s.putB fIBS_STATE_DWELL true).pst = s.pst ∧
      (if free then s.changeVsel v else s.putB fIBS_STATE_DWELL true).env = s.env := by
    split
    · exact hchange v
    · exact ⟨rfl, rfl⟩
  unfold State.offerVsel
  dsimp only
  split
  · exact ⟨rfl, rfl⟩
  · exact hpick _ _

theorem waking_setAon (s : State) (n : Nat) : (s.setAon n).pst.waking = s.pst.waking := rfl

theorem enterRun_pst (s : State) : s.enterRun.pst.waking = s.pst.waking ∧ s.enterRun.env.penv = none := by
  obtain ⟨hpst, henv⟩ := pst_offerVsel (s.setAon 0).envelopeRestart
  rw [State.enterRun, hpst, henv]
  exact ⟨waking_setAon s 0, rfl⟩

/-! ### The time that a plat's check leaves (R634-R639) -/

theorem timeline_writeBack (s : State) (k : Nat) (p : Nat × Nat) : (s.writeBack k p).timeline = s.timeline := timeline_raiseD _ _ _ _

theorem timeline_corrects (s : State) (k a n : Nat) : (s.corrects k a n).timeline = s.timeline := by
  rw [corrects_eq]
  exact timeline_foldl _ _ s fun u p => timeline_writeBack u k p

theorem timeline_driveFault (s : State) : s.driveFault.timeline = s.timeline := (rfl)
theorem timeline_setPhase (s : State) (n : Nat) : (s.setPhase n).timeline = s.timeline := (rfl)
theorem timeline_setLaneBit (s : State) (k : Nat) (b : Bool) : (s.setLaneBit k b).timeline = s.timeline := (rfl)

theorem timeline_platReset (s : State) : s.platReset.timeline = s.timeline := by
  unfold State.platReset
  extract_lets +onlyGivenNames back s1 s2 s3 s4 s5
  have h1 : s1.timeline = s.timeline := timeline_foldl _ _ s fun u p => by
    unfold back
    split
    · exact timeline_ite_of (timeline_setReg _ _ _) rfl
    · rfl
  have h2 : s2.timeline = s.timeline := ((timeline_updMem _ _).trans ((timeline_markAllGood _ 2).trans (timeline_withCoef s1 []))).trans h1
  have h4 : s4.timeline = s.timeline :=
    ((timeline_updAdc _ _).trans ((timeline_putB _ _ _).trans ((timeline_put _ _ _).trans (timeline_writeHold s2 false)))).trans h2
  have h5 : s5.timeline = s.timeline := (timeline_foldl _ _ s4 fun u p => timeline_ite_of (timeline_setP u p 1) rfl).trans h4
  exact (timeline_refreshIb s5).trans h5

theorem timeline_platWrite (s : State) (o : Nat) (v : Word) : (s.platWrite o v).timeline = s.timeline := by
  unfold State.platWrite
  split
  · rfl
  · exact timeline_storeReg _ _ _ _ _ _

theorem timeline_applyReg (s : State) (p : Nat → Bool) (h o st n : Nat) : (s.applyReg p h o st n).timeline = s.timeline :=
  timeline_foldl _ _ s fun u k => timeline_ite_of (timeline_platWrite u _ _) rfl

theorem timeline_applyPlat (s : State) (recs : List PlatRec) : (s.applyPlat recs).timeline = s.timeline := by
  unfold State.applyPlat
  rw [timeline_foldl, timeline_foldl, timeline_platReset]
  · intro u r
    cases r with
    | reg h o st n => exact timeline_applyReg u _ h o st n
    | coef h set _ => rfl
    | start a b => rfl
  · intro u r
    cases r with
    | reg h o st n => exact timeline_applyReg u _ h o st n
    | coef h set _ => rfl
    | start a b => rfl

/-! ### The plat that locks (R641, R642) -/

/-- The plat locked and its target of the IB stage taken, before what starts from the lock. -/
def State.lockTaken (s : State) (recs : List PlatRec) (crc : Nat) : State :=
  ((((s.putB fCAD_LOCK_LOCKED true).setPhase 4).put fPLAT_CRC_CRC crc).put fPLAT_START_MASK (startMask recs))

theorem movement_refreshIb (s : State) : Movement s s.refreshIb := by
  unfold State.refreshIb
  exact .ite (.refl s) (.ite (movement_setIbTarget s _) (movement_applyVsel s _))

theorem stillReg_lock : ∀ o ∈ [CAD_LOCK, PLAT_STATE, PLAT_CRC, PLAT_START], stillReg o := by
  unfold stillReg
  decide

theorem reg_startTraverse (s : State) {o : Nat} (ho : o ≠ TRV_STATE) : s.startTraverse.reg o = s.reg o :=
  (reg_put_ne _ fTRV_STATE_PRIN _ _ ho).trans ((reg_put_ne _ fTRV_STATE_LANES _ _ ho).trans (reg_put_ne _ fTRV_STATE_LANES _ _ ho))

/-- The registers of the lock stand as they were taken. -/
theorem reg_lockPlat (s : State) (recs : List PlatRec) (crc : Nat) {o : Nat} (ho : o ∈ [CAD_LOCK, PLAT_STATE, PLAT_CRC, PLAT_START]) :
    (s.lockPlat recs crc).reg o = (s.lockTaken recs crc).reg o := by
  have hne : o ≠ TRV_STATE := (by decide : ∀ o ∈ [CAD_LOCK, PLAT_STATE, PLAT_CRC, PLAT_START], o ≠ TRV_STATE) o ho
  exact (reg_startTraverse _ hne).trans ((movement_refreshIb (s.lockTaken recs crc)).regs o (stillReg_lock o ho))

theorem locked_lockPlat (s : State) (recs : List PlatRec) (crc : Nat) : (s.lockPlat recs crc).locked = true := by
  refine (on_of_reg fCAD_LOCK_LOCKED (reg_lockPlat s recs crc (by decide))).trans ?_
  unfold State.lockTaken
  rw [on_put_reg _ fPLAT_START_MASK fCAD_LOCK_LOCKED _ (by decide), on_put_reg _ fPLAT_CRC_CRC fCAD_LOCK_LOCKED _ (by decide), on_setPhase,
    on_put_reg _ fPLAT_STATE_PHASE fCAD_LOCK_LOCKED _ (by decide)]
  exact on_putB_same s fCAD_LOCK_LOCKED true (by decide) rfl

theorem phase_lockPlat (s : State) (recs : List PlatRec) (crc : Nat) : (s.lockPlat recs crc).get fPLAT_STATE_PHASE = 4 := by
  refine (get_of_reg fPLAT_STATE_PHASE (reg_lockPlat s recs crc (by decide))).trans ?_
  unfold State.lockTaken
  rw [get_put_reg _ fPLAT_START_MASK fPLAT_STATE_PHASE _ (by decide), get_put_reg _ fPLAT_CRC_CRC fPLAT_STATE_PHASE _ (by decide), get_setPhase]
  exact get_put _ fPLAT_STATE_PHASE 4 (by decide)

theorem crc_lockPlat (s : State) (recs : List PlatRec) (crc : Nat) : (s.lockPlat recs crc).get fPLAT_CRC_CRC = crc % 2 ^ 32 := by
  refine (get_of_reg fPLAT_CRC_CRC (reg_lockPlat s recs crc (by decide))).trans ?_
  unfold State.lockTaken
  rw [get_put_reg _ fPLAT_START_MASK fPLAT_CRC_CRC _ (by decide)]
  exact get_put _ fPLAT_CRC_CRC crc (by decide)

theorem start_lockPlat (s : State) (recs : List PlatRec) (crc : Nat) : (s.lockPlat recs crc).get fPLAT_START_MASK = startMask recs % 2 ^ 32 := by
  refine (get_of_reg fPLAT_START_MASK (reg_lockPlat s recs crc (by decide))).trans ?_
  unfold State.lockTaken
  exact get_put _ fPLAT_START_MASK _ (by decide)

theorem timeline_lockTaken (s : State) (recs : List PlatRec) (crc : Nat) : (s.lockTaken recs crc).timeline = s.timeline := (rfl)

theorem timeline_withStagger (s : State) (c : CgHid) (p : PstHid) : ({ s with cg := c, pst := p } : State).timeline = s.timeline := (rfl)

theorem timeline_startTraverse (s : State) : s.startTraverse.timeline = s.timeline := by
  unfold State.startTraverse
  dsimp only
  rw [timeline_put, timeline_setLaneBit, timeline_setLaneBit, timeline_updTrv]

theorem timeline_lockPlat (s : State) (recs : List PlatRec) (crc : Nat) : (s.lockPlat recs crc).timeline = s.timeline :=
  (timeline_startTraverse _).trans ((timeline_withStagger _ _ _).trans ((timeline_refreshIb (s.lockTaken recs crc)).trans (timeline_lockTaken s recs crc)))

/-- A check that passes: the records of the image applied and every test passed, the plat locks. -/
theorem loadPlat_passes (h : s.loadPlat.2 = true) : ∃ recs e, s.checkImage = .good recs e ∧
    s.loadPlat.1 = ((s.corrects 1 platBase (min 49152 s.imgLen)).applyPlat recs).lockPlat recs (s.imgWord (s.imgLen - 4)) := by
  unfold State.loadPlat at h ⊢
  dsimp only at h ⊢
  cases hcheck : s.checkImage with
  | crc => rw [hcheck] at h; exact absurd h Bool.false_ne_true
  | format o => rw [hcheck] at h; exact absurd h Bool.false_ne_true
  | good recs e =>
    rw [hcheck] at h
    refine ⟨recs, e, rfl, ?_⟩
    dsimp only at h ⊢
    split
    · rfl
    · next hn =>
      split at h
      · next hnil => exact absurd hnil hn
      · exact absurd h Bool.false_ne_true

theorem now_loadPlat (h : s.loadPlat.2 = true) : s.loadPlat.1.now = s.now := by
  obtain ⟨recs, e, -, heq⟩ := loadPlat_passes h
  rw [heq]
  exact congrArg Timeline.now ((timeline_lockPlat _ _ _).trans ((timeline_applyPlat _ _).trans (timeline_corrects _ _ _ _)))

theorem locked_loadPlat (h : s.loadPlat.2 = true) : s.loadPlat.1.locked = true ∧ s.loadPlat.1.get fPLAT_STATE_PHASE = 4 := by
  obtain ⟨recs, e, -, heq⟩ := loadPlat_passes h
  rw [heq]
  exact ⟨locked_lockPlat _ _ _, phase_lockPlat _ _ _⟩

/-! ### The firmware CRC (R640) -/

theorem exec_fwCrcDone (hdue : s.boot.fwDue.isSome = true) : exec .fwCrcDone s = .next
    (if s.fwGood then
      (if s.boot.released then ((s.updBoot fun b => { b with fwDue := none }).corrects 0 0 (s.get fPLAT_FWLEN_LEN)).releaseCore
      else ((((s.updBoot fun b => { b with fwDue := none }).corrects 0 0 (s.get fPLAT_FWLEN_LEN)).releaseCore.updBoot fun b =>
        { b with released := true, seq := true, toStart := (upTo 32).filter fun d => bitN (s.get fPLAT_START_MASK) d, group := [] }).putB fPLAT_STATE_STARTING true).startStep)
    else (((s.updBoot fun b => { b with fwDue := none }).corrects 0 0 (s.get fPLAT_FWLEN_LEN)).ownRead 0 0 (s.get fPLAT_FWLEN_LEN)).raiseD evPLAT_FW_CRC 0xFFFF 0xFFFFFFFF) := by
  have hsome : s.boot.fwDue.isNone = false := by simpa using hdue
  change execFwCrcDone s = _
  unfold execFwCrcDone
  rw [hsome, if_neg Bool.false_ne_true]
  cases s.fwGood
  · rfl
  · rfl

theorem stat_ownRead {k a n : Nat} {e : Ev} (h : s.stat e = true) (ho : MEM_MSTAT k ≠ blockBase e.block) : (s.ownRead k a n).stat e = true := by
  unfold State.ownRead
  split
  · exact stat_raiseD_keeps _ _ _ _ _ ((stat_of_reg e (reg_setReg_ne _ _ _ _ ho.symm)).trans h)
  · exact h

theorem stat_startStep {e : Ev} (h : s.stat e = true) (htoStart : ∀ d ∈ s.boot.toStart, d < 32) : s.startStep.stat e = true := by
  have hstarting (u : State) (b : Bool) : (u.putB fPLAT_STATE_STARTING b).stat e = u.stat e := by
    refine stat_of_reg e (reg_putB_ne _ _ _ _ ?_)
    have := blockBase_aligned e.block
    simp only [PLAT_STATE]
    omega
  unfold State.startStep
  split
  · exact h
  · split
    · have hover : s.startOver.stat e = true := (hstarting _ _).trans h
      by_cases h5 : s.aon = 5
      · rw [endStart_of_starting h5]
        exact (movement_enterRun s.ranUp).stat e hover
      · rw [endStart_of_not_starting h5]
        exact hover
    · next d0 l hl =>
      refine (movement_afterGroup _ _ fun d hd => htoStart d ?_).stat e h
      rw [hl]
      exact (List.mem_filter.mp hd).1

theorem toStart_lt (m : Nat) : ∀ d ∈ (upTo 32).filter fun d => bitN m d, d < 32 := fun _ hd => mem_upTo.mp (List.mem_filter.mp hd).1

theorem stat_released {e : Ev} (h : s.stat e = true) : s.releaseCore.stat e = true := by
  rw [releaseCore_eq]
  exact stat_coreWake ((stat_unheld s e).trans h)

/-- The start begins with the domains of PLAT_START. -/
def State.sequenced (s : State) : State :=
  (s.updBoot fun b => { b with released := true, seq := true, toStart := (upTo 32).filter fun d => bitN (s.get fPLAT_START_MASK) d, group := [] }).putB
    fPLAT_STATE_STARTING true

theorem stat_fwCrcDone (hdue : s.boot.fwDue.isSome = true) (hpower : s.memPower 0 = 2) (hweak : s.weakIn 0 0 (s.get fPLAT_FWLEN_LEN) ≠ []) :
    Runs .fwCrcDone s fun t => t.stat evMEM_CORR = true := by
  refine ⟨_, exec_fwCrcDone hdue, ?_⟩
  have hcorr : ((s.updBoot fun b => { b with fwDue := none }).corrects 0 0 (s.get fPLAT_FWLEN_LEN)).stat evMEM_CORR = true := stat_corrects hpower hweak
  generalize (s.updBoot fun b => { b with fwDue := none }).corrects 0 0 (s.get fPLAT_FWLEN_LEN) = u at hcorr ⊢
  have hfreed : u.releaseCore.stat evMEM_CORR = true := stat_released hcorr
  split
  · split
    · exact hfreed
    · refine stat_startStep ?_ (toStart_lt _)
      exact (stat_of_reg evMEM_CORR (reg_putB_ne _ fPLAT_STATE_STARTING _ _ (by decide))).trans hfreed
  · exact stat_raiseD_keeps _ _ _ _ _ (stat_ownRead hcorr (by decide))

/-- The core released in a block that is not in Idle: the registers of the core, and the core itself. -/
theorem onlyRegs_releaseCore (h : s.aon ≠ 1) :
    OnlyRegs { s with core := { s.core with exitDue := none, wdtSub := 0, waiting := false } } s.releaseCore unheldRegs := by
  obtain ⟨r, hr⟩ := unheld_eq s
  have hregs := sameRegs_unheld s
  rw [releaseCore_of_not_idle h]
  rw [hr] at hregs ⊢
  exact ⟨⟨r, _, rfl⟩, hregs⟩

theorem Movement.boot (h : Movement s t) : t.boot = s.boot := (congrArg State.boot h.data :)

/-- A step of the start that takes a single domain starts it. -/
theorem startStep_single (hseq : s.boot.seq = true) (hcan : s.canStart = true) (hgroup : ∀ d, d ∈ s.boot.group → s.domState d ≠ 3) {d : Nat}
    (hl : s.boot.toStart = [d]) : ∃ f, s.startStep = (s.updBoot f).startDomain d := by
  have hleast : s.leastOrder d [] = s.get (fDOM_CFG_ORDER d) := by simp [State.leastOrder]
  have hstep := startStep_cons hseq hcan hgroup hl
  rw [hleast] at hstep
  have hgroup' : [d].filter (fun k => decide (s.get (fDOM_CFG_ORDER k) = s.get (fDOM_CFG_ORDER d))) = [d] := by simp
  rw [hgroup'] at hstep
  exact ⟨_, hstep⟩

/-! ### The plat that a wake from Off finds (R305) -/

/-- The block as the check of the retained plat begins. -/
def State.offChecked (s : State) : State := { s with pst := { s.pst with offCheck := false } }

section
variable (hcheck : s.pst.offCheck = true) (hpower : s.memPower 1 = 2) (hosc : s.clk.fastOsc = true)
include hcheck hpower hosc

theorem exec_offWake_lost (h : s.offChecked.loadPlat.2 = false) : exec .offWakePlatCheck s = .next
    ((({ s.offChecked with pst := { s.offChecked.pst with waking := false } } : State).setPhase 1).raise evPST_PLAT_LOST 0xFFFF) := by
  change execOffWakePlatCheck s = _
  unfold execOffWakePlatCheck
  rw [if_neg (by simp [hcheck, hpower, hosc])]
  dsimp only
  rw [if_neg (by rw [← State.offChecked, h]; exact Bool.false_ne_true)]
  rfl

theorem exec_offWake_kept (h : s.offChecked.loadPlat.2 = true) : exec .offWakePlatCheck s = .next
    (((if s.offChecked.loadPlat.1.on fTRV_CFG_WAKEALL then s.offChecked.loadPlat.1.wakeFrame else s.offChecked.loadPlat.1).releaseCore).updBoot fun b =>
      { b with released := true, seq := true, group := []
               toStart := (upTo 32).filter fun d => (s.dom d).commanded = 1 && s.offChecked.loadPlat.1.domState d ≠ 0 }) := by
  change execOffWakePlatCheck s = _
  unfold execOffWakePlatCheck
  rw [if_neg (by simp [hcheck, hpower, hosc])]
  dsimp only
  rw [if_pos (by rw [← State.offChecked, h])]
  rfl

end

theorem domState_awake (s : State) (d : Nat) : s.awake.domState d = s.domState d := rfl

theorem domState_releaseCore (s : State) (d : Nat) : s.releaseCore.domState d = s.domState d := by
  have hunheld : s.unheld.domState d = s.domState d := by
    have hfar : ∀ o, 0x40000 ≤ o → o < 0x41000 → s.unheld.reg o = s.reg o := fun o hlo hhi => sameRegs_unheld s o (by
      simp only [unheldRegs, PLAT_STATE, BLK_CORE, BLK_WDT, MEM_OWNER, List.mem_cons, List.not_mem_nil, or_false]
      omega)
    exact domState_congr_of_lt (fun k hk => hfar _ (by simp only [DOM_MAP]; omega) (by simp only [DOM_MAP]; omega))
      fun hd => hfar _ (by simp only [DOM_DSTAT]; omega) (by simp only [DOM_DSTAT]; omega)
  rw [releaseCore_eq, (moves_coreWake s.unheld).domState, domState_awake, hunheld]

theorem reg_releaseCore (s : State) {o : Nat} (ho : o ∉ unheldRegs) (hm : o ∉ movedRegs) : s.releaseCore.reg o = s.reg o := by
  rw [releaseCore_eq, reg_coreWake_of_not_moved hm]
  exact sameRegs_unheld s o ho

/-- Whatever is to be started, the start keeps what it has noted itself: a number that names no domain is only refused. -/
theorem boot_startDomain (s : State) (d : Nat) : (s.startDomain d).boot = s.boot := by
  by_cases hd : d < 32
  · exact (movement_startDomain s hd).boot
  · have hstate : s.domState d = 0 := by simp [State.domState, Nat.le_of_not_lt hd]
    have hstart : s.startDomain d = (s.updDom d fun h => { h with commanded := 0 }).raise evDOM_CMD_REFUSED d := by
      unfold State.startDomain
      rw [if_neg (by simp [State.isOn, hstate]), if_neg (by simp [State.mayStart, hstate])]
      rfl
    rw [hstart]
    exact (congrArg State.boot (bare_raise (s.updDom d fun h => { h with commanded := 0 }) evDOM_CMD_REFUSED d) :)

theorem lock_releaseCore (s : State) : s.releaseCore.locked = s.locked ∧ s.releaseCore.on fTRV_CFG_WAKEALL = s.on fTRV_CFG_WAKEALL := by
  have hfar : ∀ o ∈ [CAD_LOCK, TRV_CFG], o ∉ unheldRegs ∧ o ∉ movedRegs := by decide +kernel
  have hreg := fun o ho => reg_releaseCore s (hfar o ho).1 (hfar o ho).2
  exact ⟨on_of_reg fCAD_LOCK_LOCKED (hreg _ (by decide)), on_of_reg fTRV_CFG_WAKEALL (hreg _ (by decide))⟩

theorem phase_releaseCore (s : State) : s.releaseCore.get fPLAT_STATE_PHASE = s.get fPLAT_STATE_PHASE := by
  have hphase : s.unheld.get fPLAT_STATE_PHASE = s.get fPLAT_STATE_PHASE := by
    refine (get_of_reg fPLAT_STATE_PHASE (reg_unheld s _)).trans ?_
    unfold State.unheldWrites State.unheldCore State.setOwner
    simp (disch := decide) only [get_setReg_ne, get_put_reg, get_putB_reg, get_putB_apart]
  rw [releaseCore_eq, get_of_reg fPLAT_STATE_PHASE (reg_coreWake_of_not_moved (unheldRegs_not_moved _ (by decide))), hphase]

theorem trv_unheld (s : State) : s.unheld.trv = s.trv := by
  obtain ⟨r, hr⟩ := unheld_eq s
  rw [hr]

theorem sends_releaseCore (s : State) : Sends s s.releaseCore := by
  rw [releaseCore_eq]
  exact (Sends.of_trv (trv_unheld s)).trans (sends_coreWake s.unheld)

theorem Sends.bursts (h : Sends s t) : t.trv.cw.burst = s.trv.cw.burst ∧ t.trv.ccw.burst = s.trv.ccw.burst :=
  ⟨(congrArg (fun v : TrvHid => v.cw.burst) h :), (congrArg (fun v : TrvHid => v.ccw.burst) h :)⟩

end Sys2Proof.Machine
end

section
/-!
SETTLED. O26.
-/

open Sys2Proof Sys2Proof.Machine

/-- Settles O26: the core is released by writes of its own registers alone; a step of the start moves domains, which leaves what the start itself
keeps; and a wake from Off locks the plat before the core rises (R305, R380, R403, R640-R643). -/
theorem firmwareAndStart : Obligations.FirmwareAndStart := by
  unfold Obligations.FirmwareAndStart
  intro s
  refine ⟨stat_fwCrcDone, fun hdue hweak => ⟨fun hgood => ?_, fun hgood hrel haon => ?_, fun hgood hrel haon => ?_⟩, fun hseq hwait => ?_, fun hseq hcan hgroup =>
    ⟨fun hnil haon => ?_, fun hnil haon => ?_, fun hne => ?_, fun d hd hl h1 => ⟨fun hmay => ?_, fun hmay => ?_⟩⟩, fun hcheck hpower hosc hweak => ⟨fun hfails => ?_, fun hpasses => ?_⟩⟩
  · have hclean := corrects_of_clean (s := s.updBoot fun b => { b with fwDue := none }) hweak
    rw [exec_fwCrcDone hdue, hclean, hgood, if_neg Bool.false_ne_true]
  · have hclean := corrects_of_clean (s := s.updBoot fun b => { b with fwDue := none }) hweak
    obtain ⟨u, hu⟩ : ∃ u, u = s.updBoot fun b => { b with fwDue := none } := ⟨_, rfl⟩
    have hexec := exec_fwCrcDone hdue
    rw [hclean, hgood, hrel, if_pos rfl, if_pos rfl, ← hu] at hexec
    have hregs := onlyRegs_releaseCore (s := u) (by rw [hu]; exact haon)
    obtain ⟨hfw, hhold, hrun, hclk, hwdt, hown, hown1⟩ := released_releaseCore u
    refine ⟨_, hexec, hfw, hhold, hrun, hclk, hwdt, hown, hown1, ?_⟩
    rw [hu] at hregs ⊢
    exact hregs
  · have hclean := corrects_of_clean (s := s.updBoot fun b => { b with fwDue := none }) hweak
    obtain ⟨u, hu⟩ : ∃ u, u = s.updBoot fun b => { b with fwDue := none } := ⟨_, rfl⟩
    have hexec := exec_fwCrcDone hdue
    rw [hclean, hgood, hrel, if_pos rfl, if_neg Bool.false_ne_true, ← hu] at hexec
    have hregs := onlyRegs_releaseCore (s := u) (by rw [hu]; exact haon)
    obtain ⟨hfw, hhold, hrun, hclk, hwdt, hown, hown1⟩ := released_releaseCore u
    have hne : ∀ o ∈ [BLK_CORE, BLK_WDT, MEM_OWNER], o ≠ PLAT_STATE := by decide
    refine ⟨_, hexec, _, rfl, ?_, ?_, ?_, ?_, ?_, ?_, ?_, on_putB_same _ fPLAT_STATE_STARTING true (by decide) rfl, ?_⟩
    · exact (on_putB_apart _ fPLAT_STATE_STARTING fPLAT_STATE_FWOK _ rfl (by decide)).trans hfw
    · exact (on_putB_reg _ fPLAT_STATE_STARTING fBLK_CORE_HOLD _ (by decide)).trans hhold
    · exact (on_putB_reg _ fPLAT_STATE_STARTING fBLK_CORE_RUNNING _ (by decide)).trans hrun
    · exact (on_putB_reg _ fPLAT_STATE_STARTING fBLK_CORE_CLK _ (by decide)).trans hclk
    · exact (get_putB_reg _ fPLAT_STATE_STARTING fBLK_WDT_COUNT _ (by decide)).trans hwdt
    · exact (congrArg (bitsAt · 0 3) (reg_putB_ne _ fPLAT_STATE_STARTING MEM_OWNER _ (by decide))).trans hown
    · exact (congrArg (bitsAt · 3 3) (reg_putB_ne _ fPLAT_STATE_STARTING MEM_OWNER _ (by decide))).trans hown1
    · obtain ⟨⟨r, c, hdata⟩, hreg⟩ := hregs
      refine ⟨?_, fun o ho => ?_⟩
      · generalize u.releaseCore = w at hdata
        subst hdata
        rw [hu]
        exact ⟨_, _, rfl⟩
      · refine (reg_putB_ne _ fPLAT_STATE_STARTING _ _ fun h => ho (by rw [h]; decide)).trans ((hreg o ho).trans ?_)
        rw [hu]
        rfl
  · exact congrArg Host.Outcome.next (startStep_waits hwait)
  · refine ⟨_, congrArg Host.Outcome.next ((startStep_nil hseq hcan hgroup hnil).trans (endStart_of_not_starting haon)), starting_startOver s, ⟨_, _, rfl⟩, fun o ho => ?_⟩
    exact reg_putB_ne _ fPLAT_STATE_STARTING _ _ (by simpa using ho)
  · obtain ⟨hwaking, hpenv⟩ := enterRun_pst s.ranUp
    have hmove := movement_enterRun s.ranUp
    refine ⟨_, congrArg Host.Outcome.next ((startStep_nil hseq hcan hgroup hnil).trans (endStart_of_starting haon)), ?_, ?_, aon_enterRun _, hpenv, hwaking⟩
    · exact congrArg (fun u : State => u.boot.seq) hmove.data
    · exact (on_of_reg fPLAT_STATE_STARTING (hmove.regs _ (stillReg_lock _ (by decide)))).trans (starting_startOver s)
  · obtain ⟨d0, l, hl⟩ : ∃ d0 l, s.boot.toStart = d0 :: l := List.exists_cons_of_ne_nil hne
    obtain ⟨hleast, hall⟩ := leastOrder_spec s d0 l
    refine ⟨s.leastOrder d0 l, ?_, ?_, ?_⟩
    · rw [hl]
      exact hleast
    · rw [hl]
      exact hall
    · have hstep := startStep_cons hseq hcan hgroup hl
      refine ⟨_, congrArg Host.Outcome.next hstep, ?_⟩
      have hboot := foldl_keeps (f := fun u d => State.startDomain u d) State.boot (fun u d _ => boot_startDomain u d)
        (l := (d0 :: l).filter fun d => s.get (fDOM_CFG_ORDER d) = s.leastOrder d0 l)
        (s.updBoot fun b => { b with group := (d0 :: l).filter fun d => s.get (fDOM_CFG_ORDER d) = s.leastOrder d0 l
                                     toStart := (d0 :: l).filter fun d => s.get (fDOM_CFG_ORDER d) ≠ s.leastOrder d0 l })
      rw [hl]
      exact hboot
  · obtain ⟨f, hstep⟩ := startStep_single hseq hcan hgroup hl
    exact ⟨_, congrArg Host.Outcome.next hstep, startDomain_of_off (s := s.updBoot f) h1 hmay⟩
  · obtain ⟨f, hstep⟩ := startStep_single hseq hcan hgroup hl
    exact ⟨_, congrArg Host.Outcome.next hstep, startDomain_refused (s := s.updBoot f) h1 hmay⟩
  · refine ⟨_, exec_offWake_lost hcheck hpower hosc hfails, ?_, stat_raise_same _ _ _ (by decide), ?_⟩
    · have hne : PLAT_STATE ∉ eventRegs 10 := by decide
      rw [get_of_reg fPLAT_STATE_PHASE (reg_raise _ evPST_PLAT_LOST _ _ hne), get_setPhase]
      exact get_put _ fPLAT_STATE_PHASE 1 (by decide)
    · refine onlyEvents_of ((bare_raise _ _ _).trans (bare_setPhase _ _)) fun o ho => ?_
      rw [List.mem_append, not_or] at ho
      exact (reg_raise _ evPST_PLAT_LOST _ _ ho.2).trans (reg_put_ne _ fPLAT_STATE_PHASE _ _ (by simpa using ho.1))
  · have hexec := exec_offWake_kept hcheck hpower hosc hpasses
    obtain ⟨hlocked, hphase⟩ : s.offChecked.loadPlat.1.locked = true ∧ s.offChecked.loadPlat.1.get fPLAT_STATE_PHASE = 4 := locked_loadPlat hpasses
    have hnow : s.offChecked.loadPlat.1.now = s.now := now_loadPlat hpasses
    generalize s.offChecked.loadPlat.1 = p at hexec hlocked hphase hnow
    obtain ⟨w, hw⟩ : ∃ w, w = if p.on fTRV_CFG_WAKEALL then p.wakeFrame else p := ⟨_, rfl⟩
    rw [← hw] at hexec
    have hregs : w.regs = p.regs := by rw [hw]; split <;> rfl
    have hreg (o : Nat) : w.reg o = p.reg o := by rw [State.reg, hregs, State.reg]
    obtain ⟨hlock, hall⟩ := lock_releaseCore w
    obtain ⟨hfw, hhold, hrun, -⟩ := released_releaseCore w
    refine ⟨_, hexec, hlock.trans ((on_of_reg fCAD_LOCK_LOCKED (hreg _)).trans hlocked), ?_, hfw, hrun, hhold, rfl, rfl, fun hwake => ?_, fun d => ?_⟩
    · exact (phase_releaseCore w).trans ((get_of_reg fPLAT_STATE_PHASE (hreg _)).trans hphase)
    · have hon : p.on fTRV_CFG_WAKEALL = true := (on_of_reg fTRV_CFG_WAKEALL (hreg _)).symm.trans (hall.symm.trans hwake)
      obtain ⟨hcw, hccw⟩ := (sends_releaseCore w).bursts
      have hburst : w.trv.cw.burst = s.now + 2000 ∧ w.trv.ccw.burst = s.now + 2000 := by
        rw [hw, if_pos hon, ← hnow]
        exact ⟨rfl, rfl⟩
      exact ⟨hcw.trans hburst.1, hccw.trans hburst.2⟩
    · have hstate : w.releaseCore.domState d = p.domState d := (domState_releaseCore w d).trans (domState_congr (fun _ => hreg _) (fun _ => hreg _) d)
      change d ∈ (upTo 32).filter (fun d => decide ((s.dom d).commanded = 1) && decide (p.domState d ≠ 0)) ↔
        d < 32 ∧ (s.dom d).commanded = 1 ∧ w.releaseCore.domState d ≠ 0
      rw [hstate, List.mem_filter, mem_upTo, Bool.and_eq_true, decide_eq_true_eq, decide_eq_true_eq]

end

section
/-!
SUPPORT. The six memories: a write of one field of MEM_OWNER or MEM_PWR, the background test, and the window of TELE (R611-R618, R653).
-/

namespace Sys2Proof.Machine

variable {s t u : State}

/-! ### A write of one field -/

/-- A pass over indexes of which one acts, and the others neither before it nor after. -/
theorem foldl_single {f : State → Nat → State} {l : List Nat} {k : Nat} (hk : k ∈ l) (hn : l.Nodup) (hbefore : ∀ j ∈ l, j ≠ k → f s j = s) (hat : f s k = u)
    (hafter : ∀ j ∈ l, j ≠ k → f u j = u) : l.foldl f s = u := by
  have hrest : ∀ m : List Nat, (∀ j ∈ m, f u j = u) → m.foldl f u = u := by
    intro m hm
    induction m with
    | nil => rfl
    | cons j m ih => rw [List.foldl_cons, hm j List.mem_cons_self, ih fun i hi => hm i (List.mem_cons_of_mem _ hi)]
  induction l with
  | nil => exact absurd hk List.not_mem_nil
  | cons j l ih =>
    obtain ⟨hnot, hn⟩ := List.nodup_cons.mp hn
    rw [List.foldl_cons]
    by_cases hjk : j = k
    · rw [hjk, hat]
      exact hrest l fun i hi => hafter i (List.mem_cons_of_mem _ hi) fun hik => hnot (by rw [hjk, ← hik]; exact hi)
    · rw [hbefore j List.mem_cons_self hjk]
      exact ih ((List.mem_cons.mp hk).resolve_left fun h => hjk h.symm) hn (fun i hi => hbefore i (List.mem_cons_of_mem _ hi))
        fun i hi => hafter i (List.mem_cons_of_mem _ hi)

theorem forEach_single {f : Nat → State → State} {k : Nat} (hk : k < 6) (hbefore : ∀ j, j < 6 → j ≠ k → f j s = s) (hat : f k s = u)
    (hafter : ∀ j, j < 6 → j ≠ k → f j u = u) : forEach (upTo 6) f s = u :=
  foldl_single (f := fun s j => f j s) (mem_upTo.mpr hk) List.nodup_range (fun j hj => hbefore j (mem_upTo.mp hj)) hat fun j hj => hafter j (mem_upTo.mp hj)

/-- How the two registers of the memories are decoded. -/
theorem mem_placed : ∀ o ∈ [MEM_OWNER, MEM_PWR], o % 4 = 0 ∧ o < 0x80000 ∧ coefWindow o = none ∧ commonAt o = none ∧ blockOf o = some 20 := by
  decide +kernel

/-- A served write of MEM_OWNER or MEM_PWR is that of the page (R613, R615). -/
theorem portWrite_mem {p : Port} {o : Nat} {mask : Word} (v : Word) (hs : Served p o s) (ho : o ∈ [MEM_OWNER, MEM_PWR])
    (hacc : accessOf o = some ⟨mask, 0, 0, 0⟩) (hmask : mask ≠ 0) :
    ∃ c w, s.portWrite p o v = .next ((State.storeTrv { s with cyc := c } o w v).okay 0) := by
  obtain ⟨h4, hlt, hcoef, hcommon, hblock⟩ := mem_placed o ho
  have hbits : s.writeBits ⟨mask, 0, 0, 0⟩ o v = v := by
    change v &&& ~~~(0#32 &&& _) = v
    rw [BitVec.zero_and, BitVec.not_zero, BitVec.and_allOnes]
  obtain ⟨c, hc⟩ := hostMark_eq s (p = .core) o (mask ||| 0)
  have hwrite := portWrite_in s p o v 20 ⟨mask, 0, 0, 0⟩ hs h4 hlt hcoef hacc rfl hcommon hblock (fun h => hmask h.1)
  rw [hbits] at hwrite
  dsimp only at hwrite
  rw [hc] at hwrite
  exact ⟨c, _, hwrite⟩

theorem owner_access : accessOf MEM_OWNER = some ⟨0x3FFFF#32, 0, 0, 0⟩ := by decide +kernel
theorem power_access : accessOf MEM_PWR = some ⟨0xFFF#32, 0, 0, 0⟩ := by decide +kernel

theorem exec_memOwnerWrite {p : Port} (v : Word) (hs : Served p MEM_OWNER s) :
    ∃ c, exec (.memOwnerWrite p v) s = .next ((State.writeOwners { s with cyc := c } v).okay 0) := by
  obtain ⟨c, w, h⟩ := portWrite_mem v hs (by decide) owner_access (by decide)
  refine ⟨c, h.trans ?_⟩
  unfold State.storeTrv
  rw [if_neg (by decide), if_neg (by decide), if_pos rfl]

theorem exec_memPwrWrite {p : Port} (v : Word) (hs : Served p MEM_PWR s) :
    ∃ c, exec (.memPwrWrite p v) s = .next ((State.writePowers { s with cyc := c } v).okay 0) := by
  obtain ⟨c, w, h⟩ := portWrite_mem v hs (by decide) power_access (by decide)
  refine ⟨c, h.trans ?_⟩
  unfold State.storeTrv
  rw [if_neg (by decide), if_neg (by decide), if_neg (by decide), if_pos rfl]

/-! ### Owners (R613) -/

theorem giveMem_same {j o : Nat} (h : o = s.memOwner j) : s.giveMem j o = s := if_pos h
theorem giveMem_taken {k o : Nat} (h : o ≠ s.memOwner k) (hallow : s.ownerAllowed k o = true) : s.giveMem k o = s.setOwner k o := by
  unfold State.giveMem
  rw [if_neg h, if_pos hallow]
theorem giveMem_refused {k o : Nat} (h : o ≠ s.memOwner k) (hallow : s.ownerAllowed k o = false) : s.giveMem k o = s.raise evMEM_REFUSED k := by
  unfold State.giveMem
  rw [if_neg h, hallow, if_neg Bool.false_ne_true]

theorem mem_not_event : ∀ o ∈ [MEM_OWNER, MEM_PWR], o ∉ eventRegs 20 := by decide

/-- A write of the owner of one memory leaves the fields of the others as they are. -/
theorem writeOwners_single {k x : Nat} (hk : k < 6) (hx : x < 8)
    (hat : ∀ j, j < 6 → j ≠ k → (s.giveMem k x).memOwner j = s.memOwner j) :
    s.writeOwners (setBits (s.reg MEM_OWNER) (3 * k) 3 x) = s.giveMem k x := by
  have hfield : bitsAt (setBits (s.reg MEM_OWNER) (3 * k) 3 x) (3 * k) 3 = x := (bitsAt_setBits _ _ _ _ (by omega)).trans (Nat.mod_eq_of_lt hx)
  have hother (j : Nat) (hj : j ≠ k) : bitsAt (setBits (s.reg MEM_OWNER) (3 * k) 3 x) (3 * j) 3 = s.memOwner j := bitsAt_setBits_apart _ _ _ _ _ _ (by omega)
  refine forEach_single hk (fun j _ hj => giveMem_same (hother j hj)) (by rw [hfield]) fun j hj hjk => giveMem_same ?_
  rw [hother j hjk, hat j hj hjk]

theorem memOwner_of_reg (h : t.reg MEM_OWNER = s.reg MEM_OWNER) (j : Nat) : t.memOwner j = s.memOwner j := by rw [State.memOwner, h, State.memOwner]
theorem memPower_of_reg (h : t.reg MEM_PWR = s.reg MEM_PWR) (j : Nat) : t.memPower j = s.memPower j := by rw [State.memPower, h, State.memPower]

section
variable {p : Port} {k x : Nat} (hs : Served p MEM_OWNER s) (hk : k < 6) (hx : x < 8) (hne : x ≠ s.memOwner k)
include hs hk hx hne

theorem ownerWrite_taken (hallow : s.ownerAllowed k x = true) : Ends (.memOwnerWrite p (setBits (s.reg MEM_OWNER) (3 * k) 3 x)) s
    ((s.setReg MEM_OWNER (setBits (s.reg MEM_OWNER) (3 * k) 3 x)).okay 0) := by
  obtain ⟨c, hexec⟩ := exec_memOwnerWrite (setBits (s.reg MEM_OWNER) (3 * k) 3 x) hs
  have htaken := giveMem_taken (s := { s with cyc := c }) hne hallow
  have hwrite := writeOwners_single (s := { s with cyc := c }) hk hx fun j _ hj => by
    rw [htaken]
    exact memOwner_setOwner_ne _ _ hj
  refine .of_sameButNote hexec ⟨c, ?_⟩
  exact congrArg (fun u : State => u.okay 0) (hwrite.trans htaken)

theorem ownerWrite_refused (hallow : s.ownerAllowed k x = false) : Ends (.memOwnerWrite p (setBits (s.reg MEM_OWNER) (3 * k) 3 x)) s
    ((s.raise evMEM_REFUSED k).okay 0) := by
  obtain ⟨c, hexec⟩ := exec_memOwnerWrite (setBits (s.reg MEM_OWNER) (3 * k) 3 x) hs
  have hrefused := giveMem_refused (s := { s with cyc := c }) hne hallow
  have hwrite := writeOwners_single (s := { s with cyc := c }) hk hx fun j _ _ => by
    rw [hrefused]
    exact memOwner_of_reg (reg_raise _ _ _ _ (mem_not_event _ (by decide))) j
  have hexec' := hexec.trans (congrArg (fun u : State => Host.Outcome.next (u.okay 0)) (hwrite.trans hrefused))
  exact .of_sameButNote hexec' ((SameButNote.raise (s := s) ⟨c, rfl⟩ evMEM_REFUSED k fun _ => rfl).okay 0)

end

/-! ### Power (R615) -/

theorem memPower_setPower_same (s : State) {k x : Nat} (hk : k < 6) (hx : x < 4) : (s.setPower k x).memPower k = x := by
  unfold State.memPower State.setPower
  rw [reg_setReg_same, bitsAt_setBits _ _ _ _ (by omega)]
  exact Nat.mod_eq_of_lt hx

theorem memPower_setPower_ne (s : State) {k j : Nat} (x : Nat) (h : j ≠ k) : (s.setPower k x).memPower j = s.memPower j := by
  unfold State.memPower State.setPower
  rw [reg_setReg_same, bitsAt_setBits_apart]
  omega

theorem powerMem_same {j x : Nat} (h : x = s.memPower j) : s.powerMem j x = s := if_pos h

theorem powerMem_refused {k x : Nat} (h : x ≠ s.memPower k) (hbar : x = 3 ∨ (s.memPower k = 2 ∧ s.mayUnpower k = false)) :
    s.powerMem k x = s.raise evMEM_REFUSED k := by
  unfold State.powerMem
  dsimp only
  rw [if_neg h, if_pos]
  rcases hbar with rfl | ⟨h2, hmay⟩
  · rfl
  · simp [h2, hmay]

/-- A return of a memory begun, unless one is under way. -/
theorem powerMem_up {k : Nat} (h : 2 ≠ s.memPower k) : s.powerMem k 2 =
    if tblGet (fun _ => 0) s.mem.upDue k = 0 then s.powerUp k (if s.memPower k = 1 then 10000 else 100000) else s := by
  unfold State.powerMem
  dsimp only
  rw [if_neg h, if_neg (by simp [h.symm]), if_pos rfl]

/-- A memory as it goes to retention, or off. -/
def State.powerDown (s : State) (k x : Nat) : State :=
  if x = 0 then ((s.updMem fun m => { m with upDue := tblSet (fun _ => 0) m.upDue k 0 }).setPower k x).loseMem k
  else (s.updMem fun m => { m with upDue := tblSet (fun _ => 0) m.upDue k 0 }).setPower k x

theorem powerMem_down {k x : Nat} (h : x ≠ s.memPower k) (hx : x ≤ 1) (hmay : s.memPower k = 2 → s.mayUnpower k = true) :
    s.powerMem k x = s.powerDown k x := by
  unfold State.powerMem
  dsimp only
  rw [if_neg h, if_neg, if_neg (by omega)]
  · rfl
  · simp only [Bool.or_eq_true, decide_eq_true_eq, Bool.and_eq_true, Bool.not_eq_true', not_or, not_and, Bool.not_eq_false]
    exact ⟨by omega, hmay⟩

theorem writePowers_single {k x : Nat} (hk : k < 6) (hx : x < 4) (hat : ∀ j, j < 6 → j ≠ k → (s.powerMem k x).memPower j = s.memPower j) :
    s.writePowers (setBits (s.reg MEM_PWR) (2 * k) 2 x) = s.powerMem k x := by
  have hfield : bitsAt (setBits (s.reg MEM_PWR) (2 * k) 2 x) (2 * k) 2 = x := (bitsAt_setBits _ _ _ _ (by omega)).trans (Nat.mod_eq_of_lt hx)
  have hother (j : Nat) (hj : j ≠ k) : bitsAt (setBits (s.reg MEM_PWR) (2 * k) 2 x) (2 * j) 2 = s.memPower j := bitsAt_setBits_apart _ _ _ _ _ _ (by omega)
  refine forEach_single hk (fun j _ hj => powerMem_same (hother j hj)) (by rw [hfield]) fun j hj hjk => powerMem_same ?_
  rw [hother j hjk, hat j hj hjk]

/-- All words of a memory valid: none of it reads with an error, and those of the other memories as before. -/
theorem memBad_markAllGood (s : State) (k j a n : Nat) : (s.markAllGood k).memBad j a n = (decide (j ≠ k) && s.memBad j a n) := by
  unfold State.memBad State.markAllGood
  rw [Bool.eq_iff_iff]
  simp only [List.any_eq_true, List.mem_filter, Bool.and_eq_true, decide_eq_true_eq, ne_eq]
  constructor
  · rintro ⟨p, ⟨hp, hk⟩, ⟨hj, hlo⟩, hhi⟩
    exact ⟨hj ▸ hk, p, hp, ⟨hj, hlo⟩, hhi⟩
  · rintro ⟨hk, p, hp, ⟨hj, hlo⟩, hhi⟩
    exact ⟨p, ⟨hp, hj ▸ hk⟩, ⟨hj, hlo⟩, hhi⟩

theorem weakIn_markAllGood (s : State) (k j a n : Nat) : (s.markAllGood k).weakIn j a n = if j = k then [] else s.weakIn j a n := by
  unfold State.weakIn State.markAllGood
  rw [List.filter_filter]
  split
  · next h =>
    refine List.filter_eq_nil_iff.mpr fun p _ => ?_
    simp only [h, Bool.and_eq_true, decide_eq_true_eq, ne_eq, not_and, and_imp]
    exact fun hk _ _ hne => hne hk
  · next h =>
    refine List.filter_congr fun p _ => ?_
    by_cases hj : p.1 = j
    · simp [hj, h]
    · simp [hj]

theorem unregs_setPower (s : State) (k x : Nat) : ∃ r, s.setPower k x = { s with regs := r } := ⟨_, rfl⟩

/-- What a memory's way to retention or off leaves (R615). -/
theorem powerDown_spec (s : State) {k x : Nat} (hk : k < 6) (hx : x ≤ 1) {t : State} (ht : t = s.powerDown k x) :
    t.memPower k = x ∧ (x = 1 → t.memory k = s.memory k) ∧ (x = 0 → t.memory k = [] ∧ ∀ a n, t.memBad k a n = false ∧ t.weakIn k a n = []) ∧
    (∀ j, j < 6 → j ≠ k → t.memory j = s.memory j ∧ t.memPower j = s.memPower j ∧ ∀ a n, t.memBad j a n = s.memBad j a n ∧ t.weakIn j a n = s.weakIn j a n) ∧
    (∀ o, o ≠ MEM_PWR → t.reg o = s.reg o) ∧
    t = { s with regs := t.regs, fw := t.fw, dat := t.dat, coef := t.coef, plan := t.plan, book := t.book, tele := t.tele
                 mem := { s.mem with upDue := tblSet (fun _ => 0) s.mem.upDue k 0, bad := t.mem.bad, weak := t.mem.weak } } := by
  obtain ⟨v, hv⟩ : ∃ v, v = (s.updMem fun m => { m with upDue := tblSet (fun _ => 0) m.upDue k 0 }).setPower k x := ⟨_, rfl⟩
  have hpower : v.memPower k = x := by rw [hv]; exact memPower_setPower_same _ hk (by omega)
  have hpower' (j : Nat) (hj : j ≠ k) : v.memPower j = s.memPower j := by rw [hv]; exact memPower_setPower_ne _ _ hj
  have hreg (o : Nat) (ho : o ≠ MEM_PWR) : v.reg o = s.reg o := by rw [hv]; exact reg_setReg_ne _ _ _ _ ho
  have hdata : v = { s with regs := v.regs, mem := { s.mem with upDue := tblSet (fun _ => 0) s.mem.upDue k 0 } } := by rw [hv]; rfl
  have hbad (j a n : Nat) : v.memBad j a n = s.memBad j a n ∧ v.weakIn j a n = s.weakIn j a n := by rw [hdata]; exact ⟨rfl, rfl⟩
  have hmemory (j : Nat) : v.memory j = s.memory j := by rw [hdata]; rfl
  unfold State.powerDown at ht
  rw [← hv] at ht
  by_cases h0 : x = 0
  · rw [if_pos h0] at ht
    obtain ⟨fw, dat, coef, plan, book, tele, hset⟩ := setMemory_eq v k []
    have hsame := memory_setMemory_same v k []
    have hother := fun j hj hne => memory_setMemory_ne (j := j) hj hk hne v []
    unfold State.loseMem at ht
    generalize v.setMemory k [] = w at hset hsame hother ht
    have hwreg (o : Nat) : t.reg o = v.reg o := by rw [ht, hset]; rfl
    have hmem (j : Nat) : t.memory j = w.memory j := by rw [ht]; rfl
    have hwbad (j a n : Nat) : w.memBad j a n = v.memBad j a n ∧ w.weakIn j a n = v.weakIn j a n := by rw [hset]; exact ⟨rfl, rfl⟩
    have hgood (a n : Nat) : t.memBad k a n = false ∧ t.weakIn k a n = [] := by
      rw [ht, memBad_markAllGood, weakIn_markAllGood, if_pos rfl]
      simp
    refine ⟨(memPower_of_reg (hwreg _) k).trans hpower, fun h1 => absurd h0 (by omega), fun _ => ⟨(hmem k).trans hsame, hgood⟩, fun j hj hne => ⟨?_, ?_, fun a n => ?_⟩,
      fun o ho => (hwreg o).trans (hreg o ho), ?_⟩
    · exact (hmem j).trans ((hother j hj hne).trans (hmemory j))
    · exact (memPower_of_reg (hwreg _) j).trans (hpower' j hne)
    · rw [ht, memBad_markAllGood, weakIn_markAllGood, if_neg hne, (hwbad j a n).1, (hwbad j a n).2, (hbad j a n).1, (hbad j a n).2]
      simp [hne]
    · rw [ht, hset, hdata]
      rfl
  · rw [if_neg h0] at ht
    rw [ht]
    refine ⟨hpower, fun _ => hmemory k, fun h => absurd h h0, fun j _ hne => ⟨hmemory j, hpower' j hne, hbad j⟩, hreg, ?_⟩
    rw [hdata]

section
variable {p : Port} {k x : Nat} (hs : Served p MEM_PWR s) (hk : k < 6) (hx : x < 4) (hne : x ≠ s.memPower k)
include hs hk hx hne

theorem powerWrite_refused (hbar : x = 3 ∨ (s.memPower k = 2 ∧ s.mayUnpower k = false)) :
    Ends (.memPwrWrite p (setBits (s.reg MEM_PWR) (2 * k) 2 x)) s ((s.raise evMEM_REFUSED k).okay 0) := by
  obtain ⟨c, hexec⟩ := exec_memPwrWrite (setBits (s.reg MEM_PWR) (2 * k) 2 x) hs
  have hrefused := powerMem_refused (s := { s with cyc := c }) hne hbar
  have hwrite := writePowers_single (s := { s with cyc := c }) hk hx fun j _ _ => by
    rw [hrefused]
    exact memPower_of_reg (reg_raise _ _ _ _ (mem_not_event _ (by decide))) j
  have hexec' := hexec.trans (congrArg (fun u : State => Host.Outcome.next (u.okay 0)) (hwrite.trans hrefused))
  exact .of_sameButNote hexec' ((SameButNote.raise (s := s) ⟨c, rfl⟩ evMEM_REFUSED k fun _ => rfl).okay 0)

theorem powerWrite_up (h2 : x = 2) : Ends (.memPwrWrite p (setBits (s.reg MEM_PWR) (2 * k) 2 x)) s
    ((if tblGet (fun _ => 0) s.mem.upDue k = 0 then s.powerUp k (if s.memPower k = 1 then 10000 else 100000) else s).okay 0) := by
  subst h2
  obtain ⟨c, hexec⟩ := exec_memPwrWrite (setBits (s.reg MEM_PWR) (2 * k) 2 2) hs
  have hup := powerMem_up (s := { s with cyc := c }) hne
  have hwrite := writePowers_single (s := { s with cyc := c }) hk hx fun j _ _ => by
    rw [hup]
    split <;> rfl
  refine .of_sameButNote (hexec.trans (congrArg (fun u : State => Host.Outcome.next (u.okay 0)) (hwrite.trans hup))) (SameButNote.okay ?_ 0)
  change SameButNote _ (if tblGet (fun _ => 0) s.mem.upDue k = 0 then _ else _)
  split <;> exact ⟨c, rfl⟩

theorem powerWrite_down (hdown : x ≤ 1) (hmay : s.memPower k = 2 → s.mayUnpower k = true) :
    ∃ c, exec (.memPwrWrite p (setBits (s.reg MEM_PWR) (2 * k) 2 x)) s = .next ((State.powerDown { s with cyc := c } k x).okay 0) := by
  obtain ⟨c, hexec⟩ := exec_memPwrWrite (setBits (s.reg MEM_PWR) (2 * k) 2 x) hs
  have heq := powerMem_down (s := { s with cyc := c }) hne hdown hmay
  obtain ⟨-, -, -, hother, -, -⟩ := powerDown_spec ({ s with cyc := c } : State) hk hdown rfl
  have hwrite := writePowers_single (s := { s with cyc := c }) hk hx fun j hj hjk => by
    rw [heq]
    exact (hother j hj hjk).2.1
  exact ⟨c, hexec.trans (congrArg (fun u : State => Host.Outcome.next (u.okay 0)) (hwrite.trans heq))⟩

end

/-! ### The background test (R617, R618) -/

/-- The words of a region that the march finds failing. -/
def regionFails (fails : List (Nat × Ecc)) : List (Nat × Ecc) := fails.filter fun f => f.1 < 32

/-- One word found failing. -/
def State.failWord (s : State) (k r : Nat) (f : Nat × Ecc) : State := (s.defect k (32 * r + f.1) f.2).raiseD evMEM_TEST_FAIL k (256 * r + 8 * f.1)

/-- The state as a test of a memory begins, with its count of regions skipped. -/
def State.testBegun (s : State) (k n : Nat) : State :=
  { s with mem := { s.mem with testAt := tblSet (fun _ => 0) s.mem.testAt k s.now, skips := tblSet (fun _ => 0) s.mem.skips k n } }

section
variable {k : Fin 6} (hrun : s.runOrIdle = true) (hen : bitN (s.get fMEM_TEST_EN) k = true) (hon : s.memPower k = 2)
  (hdue : tblGet (fun _ => 0) s.mem.testAt k + 1000000 * s.get fMEM_TEST_INTERVAL ≤ s.now)
include hrun hen hon hdue

theorem exec_memTest (fails : List (Nat × Ecc)) : exec (.memTestRegion k true fails) s = .next
    (((regionFails fails).foldl (fun u f => u.failWord k (s.get (fMEM_MSTAT_NEXT k)) f) (s.testBegun k 0)).put (fMEM_MSTAT_NEXT k)
      ((s.get (fMEM_MSTAT_NEXT k) + 1) % (memSize k / 256))) :=
  congrArg Host.Outcome.next (if_pos (by simp [hrun, hen, hon, hdue]))

theorem exec_memSkip (fails : List (Nat × Ecc)) : exec (.memTestRegion k false fails) s = .next
    ((s.testBegun k (min 16 (tblGet (fun _ => 0) s.mem.skips k + 1))).raiseIf (tblGet (fun _ => 0) s.mem.skips k = 15) evMEM_TEST_SKIP k) :=
  congrArg Host.Outcome.next (if_pos (by simp [hrun, hen, hon, hdue]))

end

/-- What a defect leaves: the errors of words alone. -/
theorem defect_eq (s : State) (k w : Nat) (e : Ecc) : ∃ bad weak, s.defect k w e = { s with mem := { s.mem with bad := bad, weak := weak } } := by
  unfold State.defect State.markWeak State.markBad
  split
  · exact ⟨_, _, rfl⟩
  · split
    · exact ⟨_, _, rfl⟩
    · split <;> exact ⟨_, _, rfl⟩
  · split <;> exact ⟨_, _, rfl⟩

/-- A word that does not read as it was written: uncorrectable, or corrected. -/
def State.flawed (s : State) (k w : Nat) : Prop := (k, w) ∈ s.mem.weak ∨ (k, w) ∈ s.mem.bad

theorem bad_defect {k w j v : Nat} {e : Ecc} (h : (j, v) ∈ s.mem.bad) : (j, v) ∈ (s.defect k w e).mem.bad := by
  unfold State.defect State.markWeak State.markBad
  split
  · exact h
  · split
    · exact h
    · split <;> exact h
  · split
    · exact h
    · exact List.mem_cons_of_mem _ h

theorem flawed_defect {k w j v : Nat} {e : Ecc} (h : s.flawed j v) : (s.defect k w e).flawed j v := by
  rcases h with h | h
  · unfold State.defect State.markWeak State.markBad
    split
    · exact .inl h
    · split
      · exact .inl h
      · split
        · exact .inl h
        · exact .inl (List.mem_cons_of_mem _ h)
    · split
      · exact .inl h
      · by_cases hw : j = k ∧ v = w
        · exact .inr (List.mem_cons.mpr (.inl (Prod.ext hw.1 hw.2)))
        · refine .inl (List.mem_filter.mpr ⟨h, ?_⟩)
          rw [Bool.not_eq_true', ← Bool.decide_and, decide_eq_false_iff_not]
          exact hw
  · exact .inr (bad_defect h)

theorem bad_defect_self (s : State) (k w : Nat) : (k, w) ∈ (s.defect k w .uncorrectable).mem.bad := by
  change (k, w) ∈ (s.markBad k w).mem.bad
  unfold State.markBad
  split
  · next h => simpa using h
  · exact List.mem_cons_self

theorem flawed_defect_self (s : State) {k w : Nat} (n : Fin 4) (hk : k ≠ 2) : (s.defect k w (.corrected n)).flawed k w := by
  change (if k = 2 then s else s.markWeak k w).flawed k w
  rw [if_neg hk]
  unfold State.markWeak
  split
  · next h =>
    simp only [Bool.or_eq_true, List.contains_iff_mem] at h
    exact h.symm
  · exact .inl List.mem_cons_self

theorem mem_failWord (s : State) (k r : Nat) (f : Nat × Ecc) : (s.failWord k r f).mem = (s.defect k (32 * r + f.1) f.2).mem := State.raiseD_mem _ _ _ _

theorem flawed_congr {k w : Nat} (h : t.mem = s.mem) : t.flawed k w ↔ s.flawed k w := by unfold State.flawed; rw [h]

/-- What the words found failing leave: their events, and the errors of words. -/
structure Failed (s t : State) : Prop where
  data : t.bare = { s.bare with mem := { s.mem with bad := t.mem.bad, weak := t.mem.weak } }
  regs : ∀ o, o ∉ eventRegs 20 → t.reg o = s.reg o

theorem failed_failWord (s : State) (k r : Nat) (f : Nat × Ecc) : Failed s (s.failWord k r f) := by
  obtain ⟨bad, weak, hd⟩ := defect_eq s k (32 * r + f.1) f.2
  have hbare := bare_raiseD (s.defect k (32 * r + f.1) f.2) evMEM_TEST_FAIL k (256 * r + 8 * f.1)
  have hreg := fun o ho => reg_raiseD (s.defect k (32 * r + f.1) f.2) evMEM_TEST_FAIL k (256 * r + 8 * f.1) o ho
  have hmem := mem_failWord s k r f
  unfold State.failWord at hmem ⊢
  generalize (s.defect k (32 * r + f.1) f.2).raiseD evMEM_TEST_FAIL k (256 * r + 8 * f.1) = t at hbare hreg hmem ⊢
  rw [hd] at hbare hreg hmem
  exact ⟨by rw [hbare, hmem]; rfl, hreg⟩

theorem Failed.refl (s : State) : Failed s s := ⟨rfl, fun _ _ => rfl⟩

theorem Failed.trans (h : Failed s t) (k : Failed t u) : Failed s u := by
  obtain ⟨hd, hr⟩ := h
  obtain ⟨kd, kr⟩ := k
  have hmem : t.mem = { s.mem with bad := t.mem.bad, weak := t.mem.weak } := (congrArg State.mem hd :)
  refine ⟨?_, fun o ho => (kr o ho).trans (hr o ho)⟩
  rw [kd, hd, hmem]

theorem failed_failWords (l : List (Nat × Ecc)) (s : State) (k r : Nat) : Failed s (l.foldl (fun u f => u.failWord k r f) s) := by
  refine foldl_keeps_prop (I := Failed s) (fun u f _ hu => hu.trans (failed_failWord u k r f)) (.refl s)

theorem failWords_of_mem {l : List (Nat × Ecc)} (s : State) (k r : Nat) {f : Nat × Ecc} (hf : f ∈ l) :
    (l.foldl (fun u f => u.failWord k r f) s).stat evMEM_TEST_FAIL = true ∧
    (f.2 = .uncorrectable → (k, 32 * r + f.1) ∈ (l.foldl (fun u f => u.failWord k r f) s).mem.bad) ∧
    (∀ n, f.2 = .corrected n → k ≠ 2 → (l.foldl (fun u f => u.failWord k r f) s).flawed k (32 * r + f.1)) := by
  refine ⟨?_, fun h => ?_, fun n h hk => ?_⟩
  · exact foldl_holds (P := fun u : State => u.stat evMEM_TEST_FAIL = true) hf (fun u => stat_raiseD_same _ _ _ _ (by decide))
      (fun u _ _ _ => stat_raiseD_same _ _ _ _ (by decide)) s
  · refine foldl_holds (P := fun u : State => (k, 32 * r + f.1) ∈ u.mem.bad) hf (fun u => ?_) (fun u g _ hu => ?_) s
    · rw [mem_failWord, h]
      exact bad_defect_self u k _
    · rw [mem_failWord]
      exact bad_defect hu
  · refine foldl_holds (P := fun u : State => u.flawed k (32 * r + f.1)) hf (fun u => ?_) (fun u g _ hu => ?_) s
    · rw [flawed_congr (mem_failWord u k r f), h]
      exact flawed_defect_self u n hk
    · rw [flawed_congr (mem_failWord u k r g)]
      exact flawed_defect hu

/-! ### The window of TELE (R565, R611, R653) -/

theorem busRead_tele {core : Bool} {a : Nat} (hopen : s.portOpen core = true) (hpower : s.memPower 5 = 2) (ha : a < 0x10000) (h4 : a % 4 = 0)
    (hans : s.offAnswers (0xA0000 + a) = true) : s.busRead core (0xA0000 + a) =
      if s.memBad 5 a 4 then (((s.addSat (fMEM_MSTAT_UNCORR 5) 1).raiseD evMEM_UNCORR 5 (a / 8 * 8))).slverr
      else (s.corrects 5 a 4).okay (BitVec.ofNat 32 (memLE s.tele a 4)) := by
  unfold State.busRead
  rw [hopen, hans, if_neg (by simp), if_neg (by simp; omega), if_neg (by omega), if_pos (by omega)]
  unfold State.readWindow
  rw [if_neg (by omega), if_pos (by omega), Nat.add_sub_cancel_left]
  unfold State.windowRead
  rw [if_neg (by simp [hpower])]
  rfl

end Sys2Proof.Machine
end

section
/-!
SETTLED. O23.
-/

open Sys2Proof Sys2Proof.Machine

/-- Settles O23: a write of one field leaves the other five as they are; a test leaves events and the errors of words; and a read of the window
leaves its count and its event (R611-R618, R653). -/
theorem memoryCommands : Obligations.MemoryCommands := by
  unfold Obligations.MemoryCommands
  intro p s k x fails a
  have hk := k.isLt
  refine ⟨fun hs hx hne => ⟨ownerWrite_taken hs hk hx hne, ownerWrite_refused hs hk hx hne⟩,
    fun hs hx hne => ⟨powerWrite_refused hs hk hx hne, fun h2 hdue => ?_, fun h2 hdue => ?_, fun hdown hmay => ?_⟩, fun hdue => ?_, fun hrun hen hon hdue => ⟨?_, ?_⟩,
    fun hopen hpower ha h4 hans => ⟨fun hbad hweak => ?_, fun hbad hweak => ?_, fun hbad => ?_⟩⟩
  · have hup := powerWrite_up hs hk hx hne h2
    rw [if_pos hdue] at hup
    exact hup
  · have hup := powerWrite_up hs hk hx hne h2
    rw [if_neg hdue] at hup
    exact hup
  · obtain ⟨c, hexec⟩ := powerWrite_down hs hk hx hne hdown hmay
    obtain ⟨hpower, hkept, hlost, hother, hreg, hdata⟩ := powerDown_spec ({ s with cyc := c } : State) hk hdown rfl
    generalize State.powerDown { s with cyc := c } k x = t at hexec hpower hkept hlost hother hreg hdata
    have hnote : t.cyc = c := by rw [hdata]
    subst hnote
    exact ⟨t.okay 0, hexec, hpower, hkept, hlost, hother, hreg, congrArg (fun u : State => u.okay 0) hdata⟩
  · refine ⟨_, congrArg Host.Outcome.next (if_neg hdue), memPower_setPower_same _ hk (by decide), ⟨_, _, rfl⟩, fun o ho => ?_⟩
    exact reg_setReg_ne _ _ _ _ (by simpa using ho)
  · have hexec := exec_memTest hrun hen hon hdue fails
    have hfailed := failed_failWords (regionFails fails) (s.testBegun k 0) k (s.get (fMEM_MSTAT_NEXT k))
    have hwords := fun f hf => failWords_of_mem (s.testBegun k 0) k (s.get (fMEM_MSTAT_NEXT k)) (l := regionFails fails) (f := f) hf
    have hnone : (∀ f, f ∈ fails → 32 ≤ f.1) → (regionFails fails).foldl (fun u f => u.failWord k (s.get (fMEM_MSTAT_NEXT k)) f) (s.testBegun k 0) = s.testBegun k 0 := by
      intro hall
      have hnil : regionFails fails = [] := List.filter_eq_nil_iff.mpr fun f hf => by simpa using hall f hf
      rw [hnil]
      rfl
    generalize (regionFails fails).foldl (fun u f => u.failWord k (s.get (fMEM_MSTAT_NEXT k)) f) (s.testBegun k 0) = w at hexec hfailed hwords hnone
    have hne : blockBase 20 ≠ MEM_MSTAT k := (by decide : ∀ k < 6, blockBase 20 ≠ MEM_MSTAT k) k hk
    refine ⟨_, hexec, ?_, fun f hf hlt => ?_, fun hall => ?_, ?_⟩
    · obtain ⟨hpos, hfits⟩ := (by decide : ∀ k < 6, 0 < memSize k / 256 ∧ memSize k / 256 ≤ 2 ^ 16) k hk
      exact (get_put _ (fMEM_MSTAT_NEXT k) _ (by simp)).trans (Nat.mod_eq_of_lt ((Nat.mod_lt _ hpos).trans_le hfits))
    · obtain ⟨hstat, hbad, hweak⟩ := hwords f (List.mem_filter.mpr ⟨hf, by simpa using hlt⟩)
      exact ⟨(stat_of_reg evMEM_TEST_FAIL (reg_put_ne w (fMEM_MSTAT_NEXT k) _ _ hne)).trans hstat, hbad, hweak⟩
    · rw [hnone hall]
      exact ⟨⟨_, _, rfl⟩, fun o ho => reg_put_ne _ (fMEM_MSTAT_NEXT k) _ _ (by simpa using ho)⟩
    · obtain ⟨hdata, hregs⟩ := hfailed
      refine onlyEvents_of ((bare_put w _ _).trans hdata) fun o ho => ?_
      rw [List.mem_cons, not_or] at ho
      exact (reg_put_ne w (fMEM_MSTAT_NEXT k) _ _ ho.1).trans (hregs o ho.2)
  · have hexec := exec_memSkip hrun hen hon hdue fails
    obtain ⟨w, hw⟩ : ∃ w, w = s.testBegun k (min 16 (tblGet (fun _ => 0) s.mem.skips k + 1)) := ⟨_, rfl⟩
    rw [← hw] at hexec
    refine ⟨_, hexec, fun h15 => ?_, fun h15 => ?_, ?_⟩
    · rw [decide_eq_true h15]
      exact stat_raise_same _ _ _ (by decide)
    · rw [decide_eq_false h15, hw]
      rfl
    · rw [hw]
      exact onlyEvents_of (bare_raiseIf _ _ _ _) fun o ho => reg_raiseIf _ _ _ _ _ ho
  · rw [exec_captureRead_inSpace p _ s (by omega), busRead_tele hopen hpower ha h4 hans, hbad, if_neg Bool.false_ne_true, corrects_of_clean hweak]
    rfl
  · have hexec := exec_captureRead_inSpace p (0xA0000 + a) s (by omega)
    rw [busRead_tele hopen hpower ha h4 hans, hbad, if_neg Bool.false_ne_true] at hexec
    obtain ⟨hdata, hregs⟩ := onlyEvents_corrects s 5 a 4
    have hstat := stat_corrects hpower hweak
    have hgone := weakIn_corrects s a 4 hpower
    generalize s.corrects 5 a 4 = w at hexec hdata hregs hstat hgone
    refine ⟨_, hexec, rfl, hstat, hgone, ?_, hregs⟩
    obtain ⟨r, b, v, q, c, hdata⟩ := hdata
    exact ⟨r, b, v, q, c, congrArg (fun u : State => u.okay (BitVec.ofNat 32 (memLE s.tele a 4))) hdata⟩
  · have hexec := exec_captureRead_inSpace p (0xA0000 + a) s (by omega)
    rw [busRead_tele hopen hpower ha h4 hans, hbad, if_pos rfl] at hexec
    have hbare := bare_raiseD (s.addSat (fMEM_MSTAT_UNCORR 5) 1) evMEM_UNCORR 5 (a / 8 * 8)
    have hregs := fun o ho => reg_raiseD (s.addSat (fMEM_MSTAT_UNCORR 5) 1) evMEM_UNCORR 5 (a / 8 * 8) o ho
    have hstat := stat_raiseD_same (s.addSat (fMEM_MSTAT_UNCORR 5) 1) evMEM_UNCORR 5 (a / 8 * 8) (by decide)
    generalize (s.addSat (fMEM_MSTAT_UNCORR 5) 1).raiseD evMEM_UNCORR 5 (a / 8 * 8) = w at hexec hbare hregs hstat
    refine ⟨_, hexec, rfl, hstat, onlyEvents_of ?_ fun o ho => ?_⟩
    · exact congrArg (fun u : State => u.slverr) (hbare.trans (bare_addSat s _ _))
    · rw [List.mem_cons, not_or] at ho
      exact (hregs o ho.2).trans (reg_setReg_ne _ _ _ _ ho.1)

end

section
/-!
SUPPORT. The PMBus target (R474-R477): a transaction served while the target is awake and does not stretch its clock, its answers, its
refusals, and the LINEAR11 form of its figures.
-/

namespace Sys2Proof.Machine

variable {s t : State}

/-! ### One transaction -/

/-- A transaction acknowledged, its answer still to come. -/
def State.pmbHeard (s : State) : State := s.pmbAnswer true [] none

/-- The target serves a transaction at once: it takes part and does not stretch its clock. -/
def State.pmbServes (s : State) : Prop := s.pmbAwake = true ∧ s.stretching = false

theorem pmbus_serves (h : s.pmbServes) (i : Instr) (code : Nat) (f : State → State) : s.pmbus i code f = s.pmbServe code f := by
  obtain ⟨hawake, hclock⟩ := h
  have hpor : s.por = false := by
    unfold State.pmbAwake at hawake
    simp at hawake
    exact hawake.1
  unfold State.pmbus
  rw [hpor, hawake, hclock]
  rfl

/-- A transaction whose meaning leaves no answer. -/
theorem pmbServe_silent {code : Nat} {f : State → State} (h : (f s.pmbHeard).pmb.reply = []) :
    s.pmbServe code f = (f s.pmbHeard).updPst fun p => { p with pmbus := false } := if_pos h

/-- A transaction whose meaning leaves an answer, and changes nothing but the target. -/
theorem pmbServe_reply {code : Nat} {f : State → State} {p : PmbHid} (h : f s.pmbHeard = { s with pmb := p }) (hreply : p.reply ≠ []) :
    s.pmbServe code f = { s.pmbOver true with
      pmb := { p with pec := some (pecOf ([s.addrByte 0, BitVec.ofNat 8 code, s.addrByte 1] ++ p.reply)) } } := by
  unfold State.pmbServe
  rw [← State.pmbHeard, h]
  exact if_neg hreply

section
variable {i : Instr} {code : Nat} {f : State → State} {bs : List Byte}

theorem answered_of (hserves : s.pmbServes) (hexec : exec i s = .next (s.pmbus i code f)) (hf : f s.pmbHeard = s.pmbHeard.answer bs)
    (hbs : bs ≠ []) : Answered i s code bs :=
  hexec.trans (congrArg _ ((pmbus_serves hserves i code f).trans (pmbServe_reply hf hbs)))

theorem ends_silent (hserves : s.pmbServes) (hexec : exec i s = .next (s.pmbus i code f)) (h : (f s.pmbHeard).pmb.reply = []) :
    exec i s = .next ((f s.pmbHeard).updPst fun p => { p with pmbus := false }) :=
  hexec.trans (congrArg _ ((pmbus_serves hserves i code f).trans (pmbServe_silent h)))

/-- A transaction that changes the target and returns nothing. -/
theorem takes_of {p : PmbHid} (hserves : s.pmbServes) (hexec : exec i s = .next (s.pmbus i code f)) (hf : f s.pmbHeard = { s with pmb := p })
    (hreply : p.reply = []) : exec i s = .next { s.pmbOver true with pmb := p } := by
  have hrun := ends_silent hserves hexec (by rw [hf]; exact hreply)
  rw [hf] at hrun
  exact hrun

/-- A transaction that ends with PMB_CML raised over a change of the target. -/
theorem reported_of {p : PmbHid} (hserves : s.pmbServes) (hexec : exec i s = .next (s.pmbus i code f))
    (hf : f s.pmbHeard = ({ s with pmb := p } : State).raise evTLM_PMB_CML 0xFFFF) (hreply : p.reply = []) :
    Runs i s fun u => u.stat evTLM_PMB_CML = true ∧ PmbOnly { s with pmb := p } u := by
  have hrun := ends_silent hserves hexec (by rw [hf, State.raise_pmb]; exact hreply)
  rw [hf] at hrun
  have hstat := stat_raise_same { s with pmb := p } evTLM_PMB_CML 0xFFFF (by decide)
  have hbare := bare_raise { s with pmb := p } evTLM_PMB_CML 0xFFFF
  have hregs : ∀ o, o ∉ eventRegs 15 → (({ s with pmb := p } : State).raise evTLM_PMB_CML 0xFFFF).reg o = ({ s with pmb := p } : State).reg o :=
    fun o ho => reg_raiseD _ _ _ _ o ho
  generalize ({ s with pmb := p } : State).raise evTLM_PMB_CML 0xFFFF = u at hrun hstat hbare hregs
  exact ⟨_, hrun, hstat, onlyEvents_of (congrArg (fun v : State => v.updPst fun q => { q with pmbus := false }) hbare) hregs⟩

end

/-! ### Bytes -/

theorem leNat_leBytes (x n : Nat) : leNat (leBytes x n) = x % 256 ^ n := by
  induction n generalizing x with
  | zero => simp [leBytes, leNat, Nat.mod_one]
  | succ n ih =>
    rw [leBytes, leNat, ih, BitVec.toNat_ofNat, pow_succ' 256 n, Nat.mod_mul]

theorem leBytes_eq_zeros {x n : Nat} (hx : x < 256 ^ n) : leBytes x n = List.replicate n 0#8 ↔ x = 0 := by
  induction n generalizing x with
  | zero => simp [leBytes]; omega
  | succ n ih =>
    have hdiv : x / 256 < 256 ^ n := Nat.div_lt_of_lt_mul (by rwa [← pow_succ'])
    rw [leBytes, List.replicate_succ, List.cons.injEq, ih hdiv, ← BitVec.toNat_inj, BitVec.toNat_ofNat]
    simp only [BitVec.toNat_ofNat]
    omega

theorem leNat_byte (l : List Byte) (i : Nat) : leNat l / 256 ^ i % 256 = (l.getD i 0).toNat := by
  induction l generalizing i with
  | nil => simp [leNat]
  | cons b l ih =>
    have hb := b.isLt
    cases i with
    | zero => simp only [leNat, pow_zero, Nat.div_one, List.getD_cons_zero]; omega
    | succ i =>
      rw [List.getD_cons_succ, ← ih, leNat, pow_succ', ← Nat.div_div_eq_div_mul]
      congr 2
      omega

theorem leNat_lt (l : List Byte) : leNat l < 256 ^ l.length := by
  induction l with
  | nil => simp [leNat]
  | cons b l ih =>
    have hb := b.isLt
    rw [leNat, List.length_cons, pow_succ']
    omega

/-- A byte of a word packed from bytes. -/
theorem bitsAt_packed (l : List Byte) {i : Nat} (hi : i < 4) : bitsAt (BitVec.ofNat 32 (leNat (l.take 4))) (8 * i) 8 = (l.getD i 0).toNat := by
  have hlt : leNat (l.take 4) < 2 ^ 32 :=
    (leNat_lt _).trans_le ((Nat.pow_le_pow_right (by decide) (List.length_take_le 4 l)).trans (by decide))
  have hget : (l.take 4).getD i 0 = l.getD i 0 := by
    simp [List.getD_eq_getElem?_getD, hi]
  rw [← hget, ← leNat_byte, bitsAt, BitVec.toNat_ofNat, Nat.mod_eq_of_lt hlt, pow_mul]
  rfl

/-! ### LINEAR11 -/

theorem lt_divOpen_mul (site : Nat) (a : Int) {b : Int} (hb : 0 < b) : a < divOpen site a b * b + b := by
  have hdiv := Int.lt_ediv_add_one_mul_self a hb
  unfold divOpen
  split
  · linarith
  · split
    · linarith
    · linarith

theorem divOpen_mul_lt (site : Nat) (a : Int) {b : Int} (hb : 0 < b) : divOpen site a b * b < a + b := by
  have hdiv := Int.ediv_mul_le a hb.ne'
  unfold divOpen
  split
  · linarith
  · next hrem =>
    have hne : a / b * b ≠ a := fun h => hrem (Int.emod_eq_zero_of_dvd ⟨a / b, by rw [mul_comm]; exact h.symm⟩)
    have hlt : a / b * b < a := lt_of_le_of_ne hdiv hne
    split
    · linarith
    · linarith

/-- The mantissa of a figure at an exponent of LINEAR11. -/
def linearAt (num den : Int) (e : Nat) : Int := if e < 16 then divOpen 35 (num * 2 ^ (16 - e)) den else divOpen 35 num (den * 2 ^ (e - 16))

theorem linearAt_near {num den : Int} (hden : 0 < den) (k : Nat) :
    linearAt num den k * 2 ^ k * den < num * 2 ^ 16 + 2 ^ k * den ∧ num * 2 ^ 16 < linearAt num den k * 2 ^ k * den + 2 ^ k * den := by
  unfold linearAt
  split
  · next hk =>
    have hsplit : (2 : Int) ^ 16 = 2 ^ (16 - k) * 2 ^ k := by rw [← pow_add]; congr 1; omega
    have hp : (0 : Int) < 2 ^ k := by positivity
    have hlo := mul_lt_mul_of_pos_right (divOpen_mul_lt 35 (num * 2 ^ (16 - k)) hden) hp
    have hhi := mul_lt_mul_of_pos_right (lt_divOpen_mul 35 (num * 2 ^ (16 - k)) hden) hp
    rw [hsplit]
    constructor <;> linarith
  · next hk =>
    have hsplit : (2 : Int) ^ k = 2 ^ (k - 16) * 2 ^ 16 := by rw [← pow_add]; congr 1; omega
    have hp : (0 : Int) < 2 ^ 16 := by norm_num
    have hstep : 0 < den * 2 ^ (k - 16) := by positivity
    have hlo := mul_lt_mul_of_pos_right (divOpen_mul_lt 35 num hstep) hp
    have hhi := mul_lt_mul_of_pos_right (lt_divOpen_mul 35 num hstep) hp
    rw [hsplit]
    constructor <;> linarith

/-- A mantissa fits in the 11 bits of LINEAR11. -/
def linearFits (num den : Int) (e : Nat) : Bool := decide (-1024 ≤ linearAt num den e) && decide (linearAt num den e ≤ 1023)

/-- Whatever the format can hold fits at the greatest exponent. -/
theorem linearFits_last {num den : Int} (hden : 0 < den) (hlo : -(1024 * 2 ^ 15 * den) ≤ num) (hhi : num ≤ 1023 * 2 ^ 15 * den) :
    linearFits num den 31 = true := by
  obtain ⟨hle, hge⟩ := linearAt_near (num := num) hden 31
  have hbelow : linearAt num den 31 < 1024 := by
    by_contra h
    have := mul_le_mul_of_nonneg_right (not_lt.mp h) hden.le
    linarith
  have habove : -1025 < linearAt num den 31 := by
    by_contra h
    have := mul_le_mul_of_nonneg_right (not_lt.mp h) hden.le
    linarith
  unfold linearFits
  simp only [Bool.and_eq_true, decide_eq_true_eq]
  omega

/-- The word of a figure: of some exponent, that of a mantissa that fits wherever one does at the greatest. -/
theorem linear11_word (s : State) (cmd : Nat) (num den : Int) : ∃ e, e < 32 ∧ (linearFits num den 31 = true → linearFits num den e = true) ∧
    s.linear11 cmd num den = unsigned 5 ((e : Int) - 16) * 2 ^ 11 + unsigned 11 (clampI (-1024) 1023 (linearAt num den e)) := by
  obtain ⟨want, hwant⟩ : ∃ w, w = Config.openNat 52 [cmd, num, den, s.now] % 32 := ⟨_, rfl⟩
  have hlt : want < 32 := hwant ▸ Nat.mod_lt _ (by decide)
  have hword : s.linear11 cmd num den = unsigned 5 ((((match (upTo 32).find? fun e => want ≤ e && linearFits num den e with
      | some e => e
      | none => 31 : Nat) : Int)) - 16) * 2 ^ 11 + unsigned 11 (clampI (-1024) 1023 (linearAt num den (match (upTo 32).find? fun e => want ≤ e && linearFits num den e with
      | some e => e
      | none => 31))) := by
    rw [hwant]
    rfl
  rw [hword]
  cases hfind : (upTo 32).find? fun e => want ≤ e && linearFits num den e with
  | some e =>
    have hfit := List.find?_some hfind
    simp only [Bool.and_eq_true] at hfit
    exact ⟨e, mem_upTo.mp (List.mem_of_find?_eq_some hfind), fun _ => hfit.2, rfl⟩
  | none =>
    refine ⟨31, by decide, id, rfl⟩

theorem linear11_spec (s : State) (cmd : Nat) (num den : Int) : Linear11 (leBytes (s.linear11 cmd num den) 2) num den := by
  refine ⟨length_leBytes _ _, fun hden hlo hhi => ?_⟩
  obtain ⟨e, he, hfits, hword⟩ := linear11_word s cmd num den
  have hfit := hfits (linearFits_last hden hlo hhi)
  unfold linearFits at hfit
  simp only [Bool.and_eq_true, decide_eq_true_eq] at hfit
  obtain ⟨hmin, hmax⟩ := hfit
  have hclamp : clampI (-1024) 1023 (linearAt num den e) = linearAt num den e := by unfold clampI; omega
  exact ⟨e, linearAt num den e, he, hmin, hmax, by rw [hword, hclamp], linearAt_near hden e⟩

/-! ### The answers of Table 10.3 -/

section
variable {i : Instr} {code : Nat}

/-- A reading of the page that has a value. -/
theorem reading_of {x : State → Option (Int × Int)} {num den : Int} (hserves : s.pmbServes)
    (hexec : exec i s = .next (s.pmbus i code fun s => s.answerLinear code (x s))) (hx : x s.pmbHeard = some (num, den)) :
    ∃ r, Answered i s code r ∧ Linear11 r num den := by
  refine ⟨leBytes (s.pmbHeard.linear11 code num den) 2, answered_of hserves hexec ?_ (by simp [leBytes]), linear11_spec _ _ _ _⟩
  rw [hx]
  rfl

/-- A reading of the page, with a value or without: a word. -/
theorem word_of {x : State → Option (Int × Int)} (hserves : s.pmbServes)
    (hexec : exec i s = .next (s.pmbus i code fun s => s.answerLinear code (x s))) : ∃ r, Answered i s code r ∧ r.length = 2 := by
  cases hx : x s.pmbHeard with
  | some v =>
    obtain ⟨r, hans, hlen, -⟩ := reading_of (num := v.1) (den := v.2) hserves hexec hx
    exact ⟨r, hans, hlen⟩
  | none =>
    refine ⟨leBytes (Config.openNat 53 [code, s.now]) 2, answered_of hserves hexec ?_ (by simp [leBytes]), length_leBytes _ _⟩
    rw [hx]
    rfl

/-- A command of page 0 on another page (R476). -/
theorem notAcked_of {f : State → State} (hserves : s.pmbServes) (hexec : exec i s = .next (s.pmbus i code f))
    (hf : f s.pmbHeard = s.pmbHeard.notAcked) : Runs i s fun u => u.stat evTLM_PMB_CML = true ∧
      PmbOnly { s with pmb := { (s.pmbOver false).pmb with cml := setBitN s.pmb.cml 7 true } } u := reported_of hserves hexec hf rfl

/-- A voltage in 1/4096 V, to within a step. -/
theorem vout_near {num den : Nat} (hden : 0 < den) (hlt : num < 65535 * den) :
    leNat (leBytes (natOf (divOpen 36 num den)) 2) * den < num + den ∧ num < leNat (leBytes (natOf (divOpen 36 num den)) 2) * den + den := by
  have hpos : (0 : Int) < den := by exact_mod_cast hden
  have hlo := lt_divOpen_mul 36 num hpos
  have hhi := divOpen_mul_lt 36 num hpos
  have hltI : (num : Int) < 65535 * den := by exact_mod_cast hlt
  obtain ⟨q, hq⟩ : ∃ q, q = divOpen 36 num den := ⟨_, rfl⟩
  rw [← hq] at hlo hhi ⊢
  have hnonneg : 0 ≤ q := by
    by_contra h
    have := mul_le_mul_of_nonneg_right (show q ≤ -1 by omega) hpos.le
    have : (0 : Int) ≤ num := Int.natCast_nonneg _
    linarith
  have hsmall : q < 65536 := by
    by_contra h
    have := mul_le_mul_of_nonneg_right (show 65536 ≤ q by omega) hpos.le
    linarith
  obtain ⟨n, rfl⟩ := Int.eq_ofNat_of_zero_le hnonneg
  have hn : n < 65536 := by exact_mod_cast hsmall
  have hnat : natOf (n : Int) = n := by simp [natOf]
  rw [leNat_leBytes, hnat, Nat.mod_eq_of_lt (by simpa using hn)]
  constructor
  · exact_mod_cast hhi
  · exact_mod_cast hlo

/-- A status byte or word: which bits tell of what is kept is open, none where there is nothing to tell (log 128). -/
theorem statusRead_of {n : Nat} {cmds : List Nat} {c : State → Bool} {w : State → Nat} {f : State → State} (hserves : s.pmbServes)
    (hexec : exec i s = .next (s.pmbus i code f))
    (hf : f s.pmbHeard = (s.pmbHeard.keepStatus s.pmb.page).answerN n
      (if c (s.pmbHeard.keepStatus s.pmb.page) then 1 + w (s.pmbHeard.keepStatus s.pmb.page) else 0))
    (hn : n ≠ 0) (hw : ∀ u, 1 + w u < 256 ^ n) (hc : ∀ u : State, c u = true ↔ ∃ k ∈ cmds, (k, u.pmb.page) ∈ u.pmb.flags) :
    StatusRead i s code n cmds := by
  obtain ⟨v, hv⟩ : ∃ v, v = s.pmbHeard.keepStatus s.pmb.page := ⟨_, rfl⟩
  have hflags : v.pmb.flags = s.pmb.flags ++ (([0x7B, 0x7D].filter fun k => s.statusNow k s.pmb.page && !s.pmb.flags.contains (k, s.pmb.page)).map
      fun k => (k, s.pmb.page)) := by rw [hv]; rfl
  have hpage : v.pmb.page = s.pmb.page := by rw [hv]; rfl
  obtain ⟨x, hx⟩ : ∃ x, x = if c v then 1 + w v else 0 := ⟨_, rfl⟩
  rw [← hv, ← hx] at hf
  have hreply : leBytes x n ≠ [] := fun h => hn (by simpa [length_leBytes] using congrArg List.length h)
  have hans : f s.pmbHeard = { s with pmb := { s.pmbHeard.pmb with flags := v.pmb.flags, reply := leBytes x n } } := by rw [hf, hv]; rfl
  refine ⟨_, hexec.trans (congrArg _ ((pmbus_serves hserves i code f).trans (pmbServe_reply hans hreply))), rfl, length_leBytes _ _, fun k p => ?_, ?_⟩
  · show (k, p) ∈ v.pmb.flags ↔ _
    rw [hflags]
    simp only [List.mem_append, List.mem_map, List.mem_filter, List.mem_cons, List.not_mem_nil, or_false, Bool.and_eq_true, Bool.not_eq_true',
      List.contains_eq_mem, decide_eq_false_iff_not, Prod.mk.injEq]
    constructor
    · rintro (h | ⟨k', ⟨hk, hnow, -⟩, rfl, rfl⟩)
      · exact .inl h
      · exact .inr ⟨rfl, hk, hnow⟩
    · rintro (h | ⟨rfl, hk, hnow⟩)
      · exact .inl h
      · by_cases hin : (k, s.pmb.page) ∈ s.pmb.flags
        · exact .inl hin
        · exact .inr ⟨k, ⟨hk, hnow, hin⟩, rfl, rfl⟩
  · show leBytes x n = _ ↔ ∀ k ∈ cmds, (k, s.pmb.page) ∉ v.pmb.flags
    have hlt : x < 256 ^ n := by
      rw [hx]
      split
      · exact hw v
      · positivity
    rw [leBytes_eq_zeros hlt, ← hpage]
    have hzero : x = 0 ↔ ¬c v = true := by
      rw [hx]
      split
      · next h => simp [h]
      · next h => simp [h]
    rw [hzero, hc]
    push Not
    rfl

end

/-- A transaction that writes, with a packet error code that holds or none. -/
theorem written_ok {code : Nat} {data : List Byte} {x : Option Byte} {f : State → State}
    (hx : x = none ∨ x = some (pecOf ([s.addrByte 0, BitVec.ofNat 8 code] ++ data))) : s.pmbHeard.written code data x f = f s.pmbHeard := by
  rcases hx with rfl | rfl
  · rfl
  · exact if_pos rfl

/-- A transaction that writes with a packet error code that fails (R74, R476). -/
theorem written_bad {code : Nat} {data : List Byte} {x : Option Byte} {f : State → State} (hsome : x ≠ none)
    (hx : x ≠ some (pecOf ([s.addrByte 0, BitVec.ofNat 8 code] ++ data))) :
    s.pmbHeard.written code data x f = (s.pmbHeard.setCml 5).raise evTLM_PMB_CML 0xFFFF := by
  obtain ⟨b, rfl⟩ := Option.ne_none_iff_exists'.mp hsome
  exact if_neg fun h => hx (congrArg some h)

/-! ### What the status bytes tell of -/

theorem statusNow_iout_die (s : State) : s.statusNow 0x7B 0 = true ↔ ∃ p, p < 16 ∧ (s.on (fIBS_PSTAT_LIMIT p) = true ∨ s.pMode p = 7) := by
  simp [State.statusNow, mem_upTo]

theorem mem_tractsOf (s : State) (d t : Nat) : t ∈ s.tractsOf d ↔ t < 64 ∧ s.domOf t = d := by simp [State.tractsOf, mem_upTo]

theorem statusNow_iout_dom (s : State) (d : Nat) : s.statusNow 0x7B (d + 1) = true ↔ ∃ t, t < 64 ∧ s.domOf t = d ∧ 0 < (s.tract t).derate := by
  simp [State.statusNow, mem_tractsOf, and_assoc]

theorem statusNow_temperature (s : State) (g : Nat) : s.statusNow 0x7D g = true ↔ ∃ t, t < 64 ∧ (g = 0 ∨ g = s.domOf t + 1) ∧
    (s.on (fTHM_SITE_WARN t) = true ∨ s.on (fTHM_SITE_THROT t) = true ∨ s.on (fTHM_SITE_SHUT t) = true) := by
  have hpage (t : Nat) : t ∈ (if g = 0 then upTo 64 else s.tractsOf (g - 1)) ↔ t < 64 ∧ (g = 0 ∨ g = s.domOf t + 1) := by
    split
    · next h => simp [mem_upTo, h]
    · next h =>
      rw [mem_tractsOf]
      omega
  unfold State.statusNow
  simp only [if_true, List.any_eq_true, hpage, Bool.or_eq_true, and_assoc, or_assoc]

/-! ### MFR_IBSEL_REQ (R477) -/

theorem pmb_of_movement (h : Movement s t) : t.pmb = s.pmb := (congrArg State.pmb h.data :)

theorem pmb_coreWake (s : State) : s.coreWake.pmb = s.pmb := pmb_of_movement (s := s.awake) (movement_coreWake s)

theorem pmb_restoreMems (s : State) : s.restoreMems.pmb = s.pmb := by
  unfold State.restoreMems
  split
  · rfl
  · refine foldl_keeps State.pmb (f := fun s k => if _ / 4 ^ k % 4 = 2 then s.powerUp k 10000 else s) (l := upTo 6) (fun u k _ => ?_) s
    split <;> rfl

theorem pmb_beginWake (s : State) (code : Nat) : (s.beginWake code).pmb = s.pmb := by
  unfold State.beginWake
  extract_lets +onlyGivenNames s1 s2 _ s3
  have h1 : (s.moveRef.put fPST_STATE_LASTWAKE code).pmb = s.pmb := pmb_of_movement ((movement_moveRef s).put _ freeReg_pstState)
  have h3 : s3.pmb = s.pmb := h1
  split
  · exact ((pmb_of_movement ((movement_moveRef _).updIb _)).trans (pmb_restoreMems s3)).trans h3
  · exact h3

theorem pmb_abortEntry (s : State) (code : Nat) : (s.abortEntry code).pmb = s.pmb := by
  unfold State.abortEntry
  extract_lets +onlyGivenNames s1 s2 _ s3
  have h1 : Movement s s1 := (((Movement.refl s).put _ freeReg_pstState).putB _ freeReg_pstState).raise _ (by decide)
  have hs1 : s1.pmb = s.pmb := pmb_of_movement h1
  have h3 : s3.pmb = s.pmb := hs1
  split
  · have hrun : Movement s3 (if s.aon = 1 then s3.enterRun else s3) := .ite (movement_enterRun s3) (.refl s3)
    exact (pmb_of_movement ((hrun.trans (movement_forcedPauses _ _)).trans (movement_resumeDomains _))).trans h3
  · exact h3

theorem pmb_belled (s : State) : s.belled.pmb = s.pmb := by
  refine Eq.trans ?_ (pmb_coreWake s)
  unfold State.belled
  generalize s.coreWake = u
  unfold State.wakeBy State.wakeEvent
  split
  · split
    · split
      · rfl
      · split
        · rfl
        · exact pmb_abortEntry u 3
    · split
      · rcases coincide_cases u 3 with h | h <;> rw [h]
        rfl
      · next hends =>
        have h4 : u.aon ≠ 4 := fun h => hends (by rw [h]; simp [wakeEnds])
        rw [if_neg h4]
        exact pmb_beginWake u 3
  · rfl

/-- Response words are written from their first one upward. -/
theorem reg_putRsp_below (ws : List Word) {m j o : Nat} (ho : o < MBX_RSP m j) : (s.putRsp m j ws).reg o = s.reg o := by
  induction ws generalizing s j with
  | nil => rfl
  | cons w ws ih =>
    have hnext : o < MBX_RSP m (j + 1) := by simp only [MBX_RSP] at *; omega
    exact (ih hnext).trans (reg_setReg_ne _ _ _ _ ho.ne)

/-- What a doorbell leaves of its channel, whatever the header: pending or answered, with its request. -/
structure Rung (m : Nat) (s t : State) : Prop where
  state : t.chanState m = 1 ∨ t.chanState m = 4
  pmb : t.pmb = s.pmb
  req : ∀ j, j < 16 → t.reg (MBX_REQ m j) = s.reg (MBX_REQ m j)

theorem rung_post {m status : Nat} (hm : m < 8) (hstatus : status < 7) (detail : Nat) (h : t.pmb = s.pmb)
    (hreq : ∀ j, j < 16 → t.reg (MBX_REQ m j) = s.reg (MBX_REQ m j)) : Rung m s (t.post m status detail []) := by
  obtain ⟨⟨hstate, -⟩, ⟨r, c, hdata⟩, hregs⟩ := answers_post t hm (show status < 8 by omega) detail []
  rw [if_neg (by omega)] at hstate
  have hpmb := congrArg State.pmb hdata
  generalize t.post m status detail [] = u at hstate hpmb hregs
  refine ⟨.inr hstate, hpmb.trans h, fun j hj => (hregs _ ?_).trans (hreq j hj)⟩
  · simp only [rspRegs, MBX_CST, MBX_DONE, MBX_RSP, MBX_REQ, List.mem_append, List.mem_cons, List.not_mem_nil, or_false, List.mem_map, mem_upTo]
    omega

theorem rung_startRequest {m : Nat} (hm : m < 8) (s : State) : Rung m s (s.startRequest m) := by
  have hpended (j : Nat) (hj : j < 16) : (s.pended m).reg (MBX_REQ m j) = s.reg (MBX_REQ m j) :=
    reg_put_ne _ (fMBX_CST_STATE m) _ _ (by simp only [MBX_REQ, MBX_CST]; omega)
  unfold State.startRequest
  extract_lets +onlyGivenNames c seq replay fresh ws s1 s2
  split
  · refine ⟨.inr ?_, ?_, fun j hj => ?_⟩
    · unfold State.chanState State.get
      rw [sameRegs_setDone m _ (by simpa using cst_ne_done m), reg_setReg_same]
      exact (answered_fields (.inr rfl) (Nat.mod_lt _ (by decide))).1
    · obtain ⟨r, hr⟩ := putRsp_eq (s := s) m 0 ws
      rw [hr]
      rfl
    · rw [sameRegs_setDone m _ (by simp only [MBX_REQ, MBX_DONE, List.mem_singleton]; omega),
        reg_setReg_ne _ _ _ _ (by simp only [MBX_REQ, MBX_CST]; omega), reg_putRsp_below _ (by simp only [MBX_REQ, MBX_RSP]; omega)]
  · split
    · exact rung_post hm (by decide) 2 rfl fun _ _ => rfl
    · split
      · exact rung_post hm (by decide) 3 rfl fun _ _ => rfl
      · split
        · exact rung_post hm (by decide) 1 rfl hpended
        · exact ⟨.inl (pended_spec s m).1, rfl, hpended⟩

/-- Bytes over a request area: word by word, from the bytes and what stood there. -/
theorem writeRequest_words (s : State) (m : Nat) (bs : List Byte) : ∃ old, s.writeRequest m bs =
    (upTo 16).foldl (fun t j => t.setReg (MBX_REQ m j) (BitVec.ofNat 32 (leNat (((bs ++ old).drop (4 * j)).take 4)))) s := by
  refine ⟨((upTo 16).flatMap fun j => leBytes (s.reg (MBX_REQ m j)).toNat 4).drop bs.length, ?_⟩
  unfold State.writeRequest
  rfl

theorem writeRequest_eq (s : State) (m : Nat) (bs : List Byte) : ∃ r, s.writeRequest m bs = { s with regs := r } := by
  obtain ⟨old, hwords⟩ := writeRequest_words s m bs
  rw [hwords]
  refine foldl_keeps_prop (I := fun t : State => ∃ r, t = { s with regs := r }) (fun u j _ hu => ?_) ⟨s.regs, rfl⟩
  obtain ⟨r, rfl⟩ := hu
  exact ⟨_, rfl⟩

/-- The bytes written to a request area stand in its words, and its channel stays in its state. -/
theorem writeRequest_spec (s : State) {m : Nat} {bs : List Byte} (hlen : bs.length ≤ 64) :
    (s.writeRequest m bs).chanState m = s.chanState m ∧
    ∀ j, j < bs.length → bitsAt ((s.writeRequest m bs).reg (MBX_REQ m (j / 4))) (8 * (j % 4)) 8 = (bs.getD j 0).toNat := by
  obtain ⟨old, hwords⟩ := writeRequest_words s m bs
  rw [hwords]
  constructor
  · refine foldl_keeps (fun t : State => t.chanState m) (l := upTo 16)
      (f := fun t j => t.setReg (MBX_REQ m j) (BitVec.ofNat 32 (leNat (((bs ++ old).drop (4 * j)).take 4)))) (fun t j hj => ?_) s
    have hj16 := mem_upTo.mp hj
    unfold State.chanState State.get
    rw [reg_setReg_ne _ _ _ _ (by simp only [MBX_CST, MBX_REQ]; omega)]
  · intro j hj
    have hword := foldl_upTo_at (fun t : State => t.reg (MBX_REQ m (j / 4))) (n := 16) (k := j / 4)
      (f := fun t j => t.setReg (MBX_REQ m j) (BitVec.ofNat 32 (leNat (((bs ++ old).drop (4 * j)).take 4)))) (by omega)
      (fun t i hi hne => reg_setReg_ne _ _ _ _ (by simp only [MBX_REQ]; omega)) s
    rw [hword, reg_setReg_same, bitsAt_packed _ (Nat.mod_lt _ (by decide))]
    have hidx : 4 * (j / 4) + j % 4 = j := Nat.div_add_mod j 4
    rw [List.getD_eq_getElem?_getD, List.getElem?_drop, hidx, List.getElem?_append_left hj, ← List.getD_eq_getElem?_getD]

/-- A request of the target's master rung in: taken, and pending or answered unless an interface reset begins at this instant (R477, R591). -/
theorem ring_last (s : State) (hstate : s.chanState 7 = 0 ∨ s.chanState 7 = 4) :
    (s.ring 7).pmb = s.pmb ∧ (∀ j, j < 16 → (s.ring 7).reg (MBX_REQ 7 j) = s.reg (MBX_REQ 7 j)) ∧
    (s.core.ifaceDue ≠ some (s.now + 2000) → (s.ring 7).chanState 7 = 1 ∨ (s.ring 7).chanState 7 = 4) := by
  by_cases hdue : s.core.ifaceDue = some (s.now + 2000)
  · have hlost : s.ring 7 = s := if_pos hdue
    rw [hlost]
    exact ⟨rfl, fun _ _ => rfl, fun h => absurd hdue h⟩
  · have hring : s.ring 7 = s.belled.startRequest 7 := ring_open (m := 7) hdue hstate
    obtain ⟨hs, hp, hr⟩ := rung_startRequest (m := 7) (by decide) s.belled
    rw [hring]
    exact ⟨hp.trans (pmb_belled s), fun j hj => (hr j hj).trans ((hears_belled s).req 7 hj), fun _ => hs⟩

end Sys2Proof.Machine
end

section
/-!
SUPPORT. The commands of Table 10.3 one by one, while the target is awake and does not stretch its clock.
-/

namespace Sys2Proof.Machine

variable {s : State} {b : Byte} {x : Option Byte} {d : Nat}

theorem runs_page_read (h : s.pmbServes) : Answered (.page ⟨none, x⟩) s 0x00 [BitVec.ofNat 8 s.pmb.page] :=
  answered_of h rfl rfl (by simp)

theorem runs_page_write (h : s.pmbServes) (hx : x = none ∨ x = some (pecOf [s.addrByte 0, 0x00#8, b])) :
    (b.toNat ≤ 32 → exec (.page ⟨some b, x⟩) s = .next { (s.pmbOver true) with pmb := { (s.pmbOver true).pmb with page := b.toNat } }) ∧
    (32 < b.toNat → exec (.page ⟨some b, x⟩) s = .next { (s.pmbOver false) with pmb := { (s.pmbOver false).pmb with cml := setBitN s.pmb.cml 6 true } }) := by
  refine ⟨fun hb => takes_of h rfl ((written_ok hx).trans (if_pos hb)) rfl, fun hb => takes_of h rfl ((written_ok hx).trans (if_neg (by omega))) rfl⟩

theorem runs_page_pec (h : s.pmbServes) (hsome : x ≠ none) (hx : x ≠ some (pecOf [s.addrByte 0, 0x00#8, b])) :
    Runs (.page ⟨some b, x⟩) s fun u => u.stat evTLM_PMB_CML = true ∧ PmbOnly { s with pmb := { (s.pmbOver true).pmb with cml := setBitN s.pmb.cml 5 true } } u :=
  reported_of h rfl (written_bad hsome hx) rfl

theorem runs_partition_read (h : s.pmbServes) : Answered (.mfrPartition ⟨none, x⟩) s 0xD2 [BitVec.ofNat 8 s.pmb.bucket] :=
  answered_of h rfl rfl (by simp)

theorem runs_partition_write (h : s.pmbServes) (hx : x = none ∨ x = some (pecOf [s.addrByte 0, 0xD2#8, b])) :
    (b.toNat ≤ 16 → exec (.mfrPartition ⟨some b, x⟩) s = .next { (s.pmbOver true) with pmb := { (s.pmbOver true).pmb with bucket := b.toNat } }) ∧
    (16 < b.toNat → exec (.mfrPartition ⟨some b, x⟩) s = .next { (s.pmbOver false) with pmb := { (s.pmbOver false).pmb with cml := setBitN s.pmb.cml 6 true } }) := by
  refine ⟨fun hb => takes_of h rfl ((written_ok hx).trans (if_pos hb)) rfl, fun hb => takes_of h rfl ((written_ok hx).trans (if_neg (by omega))) rfl⟩

theorem runs_clearFaults (h : s.pmbServes) :
    exec .clearFaults s = .next { (s.pmbOver true) with pmb := { (s.pmbOver true).pmb with cml := 0, flags := [] } } :=
  takes_of (p := { (s.pmbOver true).pmb with cml := 0, flags := [] }) h rfl rfl rfl

theorem flagged_iff (u : State) (k : Nat) : u.flagged k = true ↔ (k, u.pmb.page) ∈ u.pmb.flags := by simp [State.flagged]

theorem runs_statusWord (h : s.pmbServes) : StatusRead .statusWord s 0x79 2 [0x7B, 0x7D] := by
  refine statusRead_of (c := fun u => u.flagged 0x7B || u.flagged 0x7D) (w := fun u => Config.openNat 54 [u.pmb.page, u.now] % 65535) h rfl rfl
    (by decide) (fun u => ?_) fun u => ?_
  · have := Nat.mod_lt (Config.openNat 54 [u.pmb.page, u.now]) (show 0 < 65535 by decide)
    omega
  · simp [flagged_iff]

theorem status_byte (k : Nat) {i : Instr} (h : s.pmbServes) (hexec : exec i s = .next (s.pmbus i k fun s => s.answerStatus k)) : StatusRead i s k 1 [k] := by
  refine statusRead_of (c := fun u => u.flagged k) (w := fun u => Config.openNat 55 [k, u.pmb.page, u.now] % 255) h hexec rfl
    (by decide) (fun u => ?_) fun u => ?_
  · have := Nat.mod_lt (Config.openNat 55 [k, u.pmb.page, u.now]) (show 0 < 255 by decide)
    omega
  · simp [flagged_iff]

/-! ### Readings -/

theorem pageDom_zero (h : s.pmb.page = 0) : s.pmbHeard.pageDom = none := if_pos h

theorem pageDom_succ (h : s.pmb.page = d + 1) : s.pmbHeard.pageDom = some d := by
  have hne : s.pmb.page ≠ 0 := by omega
  exact (if_neg hne).trans (congrArg some (by show s.pmb.page - 1 = d; omega))

theorem inputCurrent_some (h : s.ib.code17 ≠ 0) :
    s.inputCurrent = some (((16384 * s.ibMean.1 : Nat) * s.ibTotal, (720000000 * s.ib.code17 * s.ibMean.2 : Nat)) : Int × Int) := if_neg h

theorem runs_readVin (h : s.pmbServes) (hpage : s.pmb.page = 0) : ∃ r, Answered .readVin s 0x88 r ∧ Linear11 r (72 * s.ib.code17) 16384 := by
  refine ⟨_, answered_of h rfl ?_ ?_, linear11_spec s.pmbHeard 0x88 _ _⟩
  · exact if_pos hpage
  · simp [leBytes]

/-- A reading of the die's page whose figure has no value where VIN reads 0. -/
theorem runs_die_reading {i : Instr} {code : Nat} {y : State → Option (Int × Int)} {num den : Int} (h : s.pmbServes)
    (hexec : exec i s = .next (s.pmbus i code fun s => if s.pmb.page = 0 then s.answerLinear code (y s) else s.notAcked)) (hpage : s.pmb.page = 0)
    (hy : s.ib.code17 ≠ 0 → y s.pmbHeard = some (num, den)) :
    ∃ r, Answered i s code r ∧ r.length = 2 ∧ (s.ib.code17 ≠ 0 → Linear11 r num den) := by
  have hf : (fun s : State => if s.pmb.page = 0 then s.answerLinear code (y s) else s.notAcked) s.pmbHeard = s.pmbHeard.answerLinear code (y s.pmbHeard) := if_pos hpage
  cases hval : y s.pmbHeard with
  | some v =>
    rw [hval] at hf
    refine ⟨leBytes (s.pmbHeard.linear11 code v.1 v.2) 2, answered_of h hexec hf (by simp [leBytes]), length_leBytes _ _, fun hne => ?_⟩
    obtain rfl : v = (num, den) := by simpa [hval] using hy hne
    exact linear11_spec _ _ _ _
  | none =>
    rw [hval] at hf
    exact ⟨leBytes (Config.openNat 53 [code, s.now]) 2, answered_of h hexec hf (by simp [leBytes]), length_leBytes _ _,
      fun hne => absurd (hval.symm.trans (hy hne)) (by simp)⟩

theorem runs_readIin (h : s.pmbServes) (hpage : s.pmb.page = 0) : ∃ r, Answered .readIin s 0x89 r ∧ r.length = 2 ∧
    (s.ib.code17 ≠ 0 → Linear11 r ((16384 * s.ibMean.1 : Nat) * s.ibTotal) (720000000 * s.ib.code17 * s.ibMean.2)) := by
  refine runs_die_reading h rfl hpage fun hne => ?_
  refine (inputCurrent_some (s := s.pmbHeard) hne).trans ?_
  push_cast
  rfl

theorem runs_readPin (h : s.pmbServes) (hpage : s.pmb.page = 0) : ∃ r, Answered .readPin s 0x97 r ∧ r.length = 2 ∧
    (s.ib.code17 ≠ 0 → Linear11 r ((16384 * s.ibMean.1 : Nat) * s.ibTotal * (72 * s.ib.code17)) (720000000 * s.ib.code17 * s.ibMean.2 * 16384)) := by
  refine runs_die_reading h rfl hpage fun hne => ?_
  rw [inputCurrent_some (s := s.pmbHeard) hne]
  push_cast
  rfl

theorem runs_readIout_die (h : s.pmbServes) (hpage : s.pmb.page = 0) : ∃ r, Answered .readIout s 0x8C r ∧ Linear11 r s.ibTotal 10 :=
  reading_of h rfl (by rw [pageDom_zero hpage]; rfl)

theorem runs_readIout_dom (h : s.pmbServes) (hpage : s.pmb.page = d + 1) :
    ∃ r, Answered .readIout s 0x8C r ∧ Linear11 r (s.getI (fNRG_DCUR_AVG d)) 10 :=
  reading_of h rfl (by rw [pageDom_succ hpage]; rfl)

theorem runs_readTemperature_die (h : s.pmbServes) (hpage : s.pmb.page = 0) : ∃ r, Answered .readTemperature1 s 0x8D r ∧ Linear11 r s.pmb.hval 16 :=
  reading_of h rfl (by rw [pageDom_zero hpage]; rfl)

theorem runs_readTemperature_dom (h : s.pmbServes) (hpage : s.pmb.page = d + 1) (htracts : s.tractsOf d ≠ []) :
    ∃ r, Answered .readTemperature1 s 0x8D r ∧ Linear11 r (tblGet (fun _ => 0) s.pmb.temps d) 16 := by
  refine reading_of h rfl ?_
  rw [pageDom_succ hpage]
  have hne : ¬(s.tractsOf d).isEmpty = true := by simpa using htracts
  exact if_neg hne

theorem runs_readPout_die (h : s.pmbServes) (hpage : s.pmb.page = 0) : ∃ r, Answered .readPout s 0x96 r ∧ Linear11 r s.pmb.meas 16 :=
  reading_of h rfl (by rw [pageDom_zero hpage]; rfl)

theorem runs_readPout_dom (h : s.pmbServes) (hpage : s.pmb.page = d + 1) :
    ∃ r, Answered .readPout s 0x96 r ∧ Linear11 r (s.pageCode d * s.getI (fNRG_DCUR_AVG d)) 8000 :=
  reading_of h rfl (by rw [pageDom_succ hpage]; rfl)

theorem runs_readVout_die (h : s.pmbServes) (hpage : s.pmb.page = 0) (hcode : s.ib.code16 < 65536) : ∃ r, Answered .readVout s 0x8B r ∧ r.length = 2 ∧
    leNat r * 163840 < s.ib.code16 * 98304 + 163840 ∧ s.ib.code16 * 98304 < leNat r * 163840 + 163840 := by
  have hnum : s.ib.code16 * 24 * 4096 = s.ib.code16 * 98304 := by omega
  have hnear := vout_near (num := s.ib.code16 * 24 * 4096) (den := 163840) (by decide) (by omega)
  refine ⟨leBytes (natOf (divOpen 36 (s.ib.code16 * 24 * 4096 : Nat) (163840 : Nat))) 2, answered_of h rfl ?_ (by simp [leBytes]), length_leBytes _ _, ?_⟩
  · rw [pageDom_zero hpage]
    rfl
  · rwa [hnum] at hnear ⊢

theorem runs_readVout_dom (h : s.pmbServes) (hpage : s.pmb.page = d + 1) (hcode : s.pageCode d < 1024) : ∃ r, Answered .readVout s 0x8B r ∧ r.length = 2 ∧
    leNat r * 800 < s.pageCode d * 4096 + 800 ∧ s.pageCode d * 4096 < leNat r * 800 + 800 := by
  refine ⟨leBytes (natOf (divOpen 36 (s.pageCode d * 4096 : Nat) (800 : Nat))) 2, answered_of h rfl ?_ (by simp [leBytes]), length_leBytes _ _,
    vout_near (by decide) (by omega)⟩
  rw [pageDom_succ hpage]
  rfl

theorem runs_die_only (h : s.pmbServes) (hpage : s.pmb.page = d + 1) : ∀ i ∈ [Instr.readVin, Instr.readIin, Instr.readPin], Runs i s fun u =>
    u.stat evTLM_PMB_CML = true ∧ PmbOnly { s with pmb := { (s.pmbOver false).pmb with cml := setBitN s.pmb.cml 7 true } } u := by
  have hne : ¬s.pmb.page = 0 := by omega
  simp only [List.mem_cons, List.not_mem_nil, or_false, forall_eq_or_imp, forall_eq]
  exact ⟨notAcked_of h rfl (if_neg hne), notAcked_of h rfl (if_neg hne), notAcked_of h rfl (if_neg hne)⟩

/-! ### Ibsel and what is refused -/

variable {bytes : List Byte}

theorem runs_ibselReq (h : s.pmbServes) (hfree : s.pmb.busy = false) (hpos : 0 < bytes.length) (hlen : bytes.length ≤ 64)
    (hstate : s.chanState 7 = 0 ∨ s.chanState 7 = 4)
    (hx : x = none ∨ x = some (pecOf ([s.addrByte 0, 0xD0#8, BitVec.ofNat 8 bytes.length] ++ bytes))) : Runs (.mfrIbselReq ⟨bytes, x⟩) s fun u =>
      u.pmb = { (s.pmbOver true).pmb with busy := true } ∧
      (s.core.ifaceDue ≠ some (s.now + 2000) → u.chanState 7 = 1 ∨ u.chanState 7 = 4) ∧
      ∀ j, j < bytes.length → bitsAt (u.reg (MBX_REQ 7 (j / 4))) (8 * (j % 4)) 8 = (bytes.getD j 0).toNat := by
  obtain ⟨r, hr⟩ := writeRequest_eq s.pmbHeard 7 bytes
  obtain ⟨hst, hbytes⟩ := writeRequest_spec s.pmbHeard (m := 7) hlen
  obtain ⟨v, hv⟩ : ∃ v, v = (s.pmbHeard.writeRequest 7 bytes).updPmb fun p => { p with busy := true } := ⟨_, rfl⟩
  have hvpmb : v.pmb = { (s.pmbOver true).pmb with busy := true } := by rw [hv, hr]; rfl
  have hvdue : v.core.ifaceDue = s.core.ifaceDue ∧ v.now = s.now := by rw [hv, hr]; exact ⟨rfl, rfl⟩
  have hvreg (o : Nat) : v.reg o = (s.pmbHeard.writeRequest 7 bytes).reg o := by rw [hv]; rfl
  have hvstate : v.chanState 7 = s.chanState 7 := by
    rw [State.chanState, State.get, hvreg]
    exact hst
  obtain ⟨hpmb, hreq, hring⟩ := ring_last v (by rw [hvstate]; exact hstate)
  have hempty : ¬(bytes.isEmpty || decide (64 < bytes.length)) = true := by
    have hnil : bytes ≠ [] := List.ne_nil_of_length_pos hpos
    simp [hnil]
    omega
  have hbusy : ¬s.pmbHeard.pmb.busy = true := fun hb => Bool.false_ne_true (hfree.symm.trans hb)
  have hmeaning : s.pmbHeard.written 0xD0 (BitVec.ofNat 8 bytes.length :: bytes) x (fun s =>
      if s.pmb.busy then (s.setCml 1).raise evTLM_PMB_CML 0xFFFF
      else if bytes.isEmpty || 64 < bytes.length then s.badData
      else ((s.writeRequest 7 bytes).updPmb fun p => { p with busy := true }).ring 7) = v.ring 7 := by
    rw [hv]
    exact (written_ok (data := BitVec.ofNat 8 bytes.length :: bytes) hx).trans ((if_neg hbusy).trans (if_neg hempty))
  have hrun : exec (.mfrIbselReq ⟨bytes, x⟩) s = .next ((v.ring 7).updPst fun p => { p with pmbus := false }) := by
    rw [← hmeaning]
    refine ends_silent (code := 0xD0) (f := fun s => s.written 0xD0 (BitVec.ofNat 8 bytes.length :: bytes) x fun s =>
      if s.pmb.busy then (s.setCml 1).raise evTLM_PMB_CML 0xFFFF
      else if bytes.isEmpty || 64 < bytes.length then s.badData
      else ((s.writeRequest 7 bytes).updPmb fun p => { p with busy := true }).ring 7) h rfl ?_
    rw [hmeaning, hpmb, hvpmb]
    rfl
  refine ⟨_, hrun, hpmb.trans hvpmb, fun hdue => hring (by rw [hvdue.1, hvdue.2]; exact hdue), fun j hj => ?_⟩
  rw [← hbytes j hj, ← hvreg, ← hreq _ (by omega)]
  rfl

theorem runs_ibselReq_busy (h : s.pmbServes) (hbusy : s.pmb.busy = true) : Runs (.mfrIbselReq ⟨bytes, none⟩) s fun u => u.stat evTLM_PMB_CML = true ∧
    PmbOnly { s with pmb := { (s.pmbOver true).pmb with cml := setBitN s.pmb.cml 1 true } } u :=
  reported_of h rfl (if_pos hbusy) rfl

theorem runs_ibselRsp_busy (h : s.pmbServes) (hstate : s.chanState 7 = 1 ∨ s.chanState 7 = 2) : Answered .mfrIbselRsp s 0xD1 [1#8, 1#8] := by
  refine answered_of h rfl ?_ (by decide)
  have hwait : (s.chanState 7 = 1 || s.chanState 7 = 2) = true := by simpa using hstate
  exact if_pos hwait

theorem runs_ibselRsp (h : s.pmbServes) (hstate : s.chanState 7 = 0 ∨ s.chanState 7 = 4) : exec .mfrIbselRsp s = .next { (s.pmbOver true) with
    pmb := { s.pmbReply 0xD1 (64#8 :: (s.rspWords 7).flatMap fun w => leBytes w.toNat 4) with busy := false } } := by
  obtain ⟨ws, hws⟩ : ∃ ws, ws = (s.rspWords 7).flatMap fun w => leBytes w.toNat 4 := ⟨_, rfl⟩
  have hlen : ws.length = 64 := by
    rw [hws, List.length_flatMap]
    simp only [State.rspWords, length_leBytes, List.map_map]
    rfl
  obtain ⟨f, hexec, hmeaning⟩ : ∃ f, exec .mfrIbselRsp s = .next (s.pmbus .mfrIbselRsp 0xD1 f) ∧
      f s.pmbHeard = { s with pmb := { s.pmbHeard.pmb with reply := 64#8 :: ws, busy := false } } := by
    refine ⟨_, rfl, ?_⟩
    have hwait : ¬(s.chanState 7 = 1 || s.chanState 7 = 2) = true := by simp; omega
    have hlast : ¬s.chanState 7 = 3 := by omega
    refine (if_neg hwait).trans ((if_neg hlast).trans ?_)
    have hblock : s.pmbHeard.answerBlock ((s.pmbHeard.rspWords 7).flatMap fun w => leBytes w.toNat 4) = s.pmbHeard.answer (64#8 :: ws) := by
      unfold State.answerBlock
      rw [show (s.pmbHeard.rspWords 7) = s.rspWords 7 from rfl, ← hws, hlen]
    rw [hblock]
    rfl
  rw [← hws]
  exact hexec.trans (congrArg _ ((pmbus_serves h _ _ _).trans (pmbServe_reply hmeaning (List.cons_ne_nil _ _))))

theorem runs_partEnergy (h : s.pmbServes) : Answered .mfrPartEnergy s 0xD3 (8#8 :: leBytes (s.acc s.pmb.bucket) 8) := by
  refine answered_of h rfl ?_ (by simp)
  show s.pmbHeard.answerBlock (leBytes (s.acc s.pmb.bucket) 8) = _
  unfold State.answerBlock
  rw [length_leBytes]

theorem runs_invalid_pec (h : s.pmbServes) : Runs (.pmbusInvalidCommand .pec) s fun u => u.stat evTLM_PMB_CML = true ∧
    PmbOnly { s with pmb := { (s.pmbOver true).pmb with cml := setBitN s.pmb.cml 5 true } } u := reported_of h rfl rfl rfl

theorem runs_invalid_command {c : Byte} (h : s.pmbServes) (hc : c.toNat ∉ pmbCodes) : Runs (.pmbusInvalidCommand (.command c)) s fun u =>
    u.stat evTLM_PMB_CML = true ∧ PmbOnly { s with pmb := { (s.pmbOver false).pmb with cml := setBitN s.pmb.cml 7 true } } u := by
  refine notAcked_of h rfl (if_pos ?_)
  simp [hc]

/-- Not acknowledged in Deep sleep and Off (R75). -/
theorem capability_unheard (hpor : s.por = false) (haon : s.aon = 3 ∨ s.aon = 4) :
    exec .capability s = .next { s with pmb := { s.pmb with acked := false, reply := [], pec := none } } := by
  have hawake : s.pmbAwake = false := by
    unfold State.pmbAwake
    rcases haon with h | h <;> simp [h]
  exact congrArg Host.Outcome.next ((if_neg (by simp [hpor])).trans (if_pos (by simp [hawake])))

/-- Held while the clock is stretched (R302). -/
theorem capability_held (hawake : s.pmbAwake = true) (hclock : s.stretching = true) (hnone : s.pmb.held = none) :
    exec .capability s = .next { s with pmb := { s.pmb with held := some .capability } } := by
  have hpor : s.por = false := by
    unfold State.pmbAwake at hawake
    simp at hawake
    exact hawake.1
  exact congrArg Host.Outcome.next ((if_neg (by simp [hpor])).trans ((if_neg (by simp [hawake])).trans ((if_pos hclock).trans
    (if_neg (by simp [hnone])))))

end Sys2Proof.Machine
end

section
/-!
SETTLED. The PMBus commands answer as Table 10.3 says.
-/

open Sys2Proof Sys2Proof.Machine

/-- Settles O54: command by command, each a transaction that the target serves. -/
theorem pmbusCommands : Obligations.PmbusCommands := by
  unfold Obligations.PmbusCommands
  refine fun s b d bytes c x => ⟨capability_unheard, capability_held, fun hawake hclock => ?_⟩
  have h : s.pmbServes := ⟨hawake, hclock⟩
  refine ⟨answered_of h rfl rfl (by decide), answered_of h rfl rfl (by decide), runs_page_read h, runs_page_write h, runs_partition_write h,
    runs_clearFaults h, fun hsome hx => ?_, runs_statusWord h, status_byte 0x7B h rfl, status_byte 0x7D h rfl, statusNow_iout_die s,
    statusNow_iout_dom s d, statusNow_temperature s, answered_of h rfl rfl (by simp), ?_, ?_, answered_of h rfl rfl (by decide),
    answered_of h rfl rfl (by decide), answered_of h rfl rfl (by decide), answered_of h rfl rfl (by decide), runs_ibselReq h, runs_ibselReq_busy h,
    runs_ibselRsp_busy h, runs_ibselRsp h, runs_partition_read h, runs_partEnergy h, runs_invalid_pec h, runs_invalid_command h⟩
  · obtain ⟨u, hexec, hstat, honly⟩ := runs_page_pec h hsome hx
    exact ⟨u, hexec, honly, hstat⟩
  · exact fun hpage => ⟨runs_readVin h hpage, runs_readIin h hpage, runs_readPin h hpage, runs_readIout_die h hpage, runs_readTemperature_die h hpage,
      runs_readPout_die h hpage, runs_readVout_die h hpage⟩
  · exact fun hpage => ⟨runs_readIout_dom h hpage, runs_readTemperature_dom h hpage, runs_readPout_dom h hpage, runs_readVout_dom h hpage,
      runs_die_only h hpage⟩

end

section
/-!
SUPPORT. The division of a millisecond's energy among the 17 buckets adds up (R456): the nJ that the floors leave go to as many buckets,
for the ranks of the buckets are the numbers from 0 on.
-/

namespace Sys2Proof.Machine

theorem sumOver_eq_sum (n : Nat) (f : Nat → Nat) : sumOver (upTo n) f = ∑ k ∈ Finset.range n, f k := by
  unfold sumOver
  induction n with
  | zero => rfl
  | succ n ih => rw [upTo, List.range_succ, List.foldl_append, ← upTo, ih, Finset.sum_range_succ]; rfl

/-! ### Ranks -/

/-- How many buckets come before a bucket. -/
def rankOf (frac : Nat → Nat) (n b : Nat) : Nat := ((upTo n).filter fun k => before frac k b).length

variable {frac : Nat → Nat} {n a b c : Nat}

theorem before_iff : before frac a b = true ↔ frac b < frac a ∨ (frac a = frac b ∧ a < b) := by simp [before]

theorem rankOf_eq_card : rankOf frac n b = ((Finset.range n).filter fun k => before frac k b = true).card := by
  rw [rankOf, upTo, ← List.toFinset_card_of_nodup ((List.nodup_range (n := n)).filter _)]
  congr 1
  ext k
  simp

theorem rankOf_lt_of_before (ha : a < n) (h : before frac a b = true) : rankOf frac n a < rankOf frac n b := by
  rw [rankOf_eq_card, rankOf_eq_card]
  refine Finset.card_lt_card ⟨fun k hk => ?_, fun hsub => ?_⟩
  · rw [before_iff] at h
    rw [Finset.mem_filter, before_iff] at hk ⊢
    exact ⟨hk.1, by omega⟩
  · have hself := hsub (Finset.mem_filter.mpr ⟨Finset.mem_range.mpr ha, h⟩)
    rw [Finset.mem_filter, before_iff] at hself
    omega

theorem rankOf_lt (hb : b < n) : rankOf frac n b < n := by
  have hsub : ((Finset.range n).filter fun k => before frac k b = true) ⊂ Finset.range n := by
    refine ⟨Finset.filter_subset _ _, fun hsub => ?_⟩
    have hself := hsub (Finset.mem_range.mpr hb)
    rw [Finset.mem_filter, before_iff] at hself
    omega
  rw [rankOf_eq_card]
  exact (Finset.card_lt_card hsub).trans_eq (Finset.card_range n)

/-- Of two buckets one comes before the other, so no two have the same rank. -/
theorem rankOf_injOn : Set.InjOn (rankOf frac n) (Finset.range n : Set Nat) := by
  intro a ha b hb heq
  have han : a < n := by simpa using ha
  have hbn : b < n := by simpa using hb
  by_contra hne
  have hor : before frac a b = true ∨ before frac b a = true := by
    rw [before_iff, before_iff]
    omega
  rcases hor with h | h
  · exact absurd heq (rankOf_lt_of_before han h).ne
  · exact absurd heq (rankOf_lt_of_before hbn h).ne'

theorem image_rankOf : (Finset.range n).image (rankOf frac n) = Finset.range n := by
  refine Finset.eq_of_subset_of_card_le (fun r hr => ?_) (by rw [Finset.card_image_of_injOn rankOf_injOn])
  obtain ⟨b, hb, rfl⟩ := Finset.mem_image.mp hr
  exact Finset.mem_range.mpr (rankOf_lt (Finset.mem_range.mp hb))

/-- As many ranks lie below a number as that number says. -/
theorem sum_rank_lt {r : Nat} (hr : r ≤ n) : ∑ b ∈ Finset.range n, (if rankOf frac n b < r then 1 else 0) = r := by
  have himage : ∑ k ∈ (Finset.range n).image (rankOf frac n), (if k < r then 1 else 0) = ∑ b ∈ Finset.range n, (if rankOf frac n b < r then 1 else 0) :=
    Finset.sum_image rankOf_injOn
  rw [← himage, image_rankOf, ← Finset.card_filter]
  have hfilter : (Finset.range n).filter (fun k => k < r) = Finset.range r := by
    ext k
    simp
    omega
  rw [hfilter, Finset.card_range]

/-! ### The division -/

theorem sumOver_increment (e : Nat) (m : Nat → Nat) : sumOver (upTo 17) (increment e m) = e := by
  obtain ⟨tot, htot⟩ : ∃ t, t = sumOver (upTo 17) m := ⟨_, rfl⟩
  by_cases hzero : tot = 0
  · have hinc : increment e m = fun b => if b = 16 then e else 0 := by
      funext b
      unfold increment
      dsimp only
      rw [← htot, if_pos hzero]
    rw [hinc, sumOver_eq_sum, Finset.sum_ite_eq' (Finset.range 17) 16]
    rfl
  · have hpos : 0 < tot := Nat.pos_of_ne_zero hzero
    obtain ⟨floors, hfloors⟩ : ∃ f, f = ∑ k ∈ Finset.range 17, e * m k / tot := ⟨_, rfl⟩
    have hinc : increment e m = fun b => e * m b / tot + if rankOf (fun k => e * m k % tot) 17 b < e - floors then 1 else 0 := by
      funext b
      unfold increment
      dsimp only
      rw [← htot, if_neg hzero, sumOver_eq_sum, ← hfloors]
      rfl
    have hparts : tot * floors + ∑ k ∈ Finset.range 17, e * m k % tot = e * tot := by
      rw [hfloors, Finset.mul_sum, ← Finset.sum_add_distrib, htot, sumOver_eq_sum, Finset.mul_sum]
      exact Finset.sum_congr rfl fun k _ => Nat.div_add_mod _ _
    have hrests : ∑ k ∈ Finset.range 17, e * m k % tot ≤ 17 * tot := by
      have h := Finset.sum_le_card_nsmul (Finset.range 17) (fun k => e * m k % tot) tot fun k _ => (Nat.mod_lt _ hpos).le
      simpa using h
    have hle : floors ≤ e := by
      refine Nat.le_of_mul_le_mul_left ?_ hpos
      rw [mul_comm tot e]
      omega
    have hsmall : e - floors ≤ 17 := by
      refine Nat.le_of_mul_le_mul_left ?_ hpos
      rw [Nat.mul_sub, mul_comm tot e, mul_comm tot 17]
      omega
    rw [hinc, sumOver_eq_sum, Finset.sum_add_distrib, ← hfloors, sum_rank_lt hsmall]
    omega

end Sys2Proof.Machine
end

section
/-!
SUPPORT. What a measured millisecond leaves (R451-R473): what each of its steps keeps of the state and of the registers, the accumulators,
and the reports.
-/

namespace Sys2Proof.Machine

variable {s t u : State} {l : List Nat} {γ : Type} {g : State → γ}

/-- A step that keeps a part of the state, every register but those listed, and every status bit that is set. -/
structure Within (g : State → γ) (l : List Nat) (s t : State) : Prop where
  data : g t = g s
  regs : ∀ o, o ∉ l → t.reg o = s.reg o
  stat : ∀ e, s.stat e = true → t.stat e = true

theorem Within.refl (g : State → γ) (l : List Nat) (s : State) : Within g l s s := ⟨rfl, fun _ _ => rfl, fun _ h => h⟩

theorem Within.trans (h : Within g l s t) (k : Within g l t u) : Within g l s u :=
  ⟨k.data.trans h.data, fun o ho => (k.regs o ho).trans (h.regs o ho), fun e he => k.stat e (h.stat e he)⟩

theorem Within.mono {m : List Nat} (h : Within g l s t) (hsub : ∀ o ∈ l, o ∈ m) : Within g m s t :=
  ⟨h.data, fun o ho => h.regs o fun hl => ho (hsub o hl), h.stat⟩

theorem Within.map {δ : Type} (f : γ → δ) (h : Within g l s t) : Within (fun v => f (g v)) l s t := ⟨congrArg f h.data, h.regs, h.stat⟩

theorem Within.ite {c : Prop} [Decidable c] (h : Within g l s t) (k : Within g l s u) : Within g l s (if c then t else u) := by
  split
  · exact h
  · exact k

/-- A change behind the registers. -/
theorem Within.hidden (h : Within g l s t) (hg : g u = g t := by rfl) (hr : u.regs = t.regs := by rfl) : Within g l s u := by
  have hreg : ∀ o, u.reg o = t.reg o := fun o => by rw [State.reg, State.reg, hr]
  exact h.trans ⟨hg, fun o _ => hreg o, fun e he => (stat_of_reg e (hreg _)).trans he⟩

/-- A part of the state that registers and events leave alone. -/
def OfBare (g : State → γ) : Prop := ∀ u v : State, u.bare = v.bare → g u = g v

theorem Within.setReg (h : Within g l s t) (hg : OfBare g) {o : Nat} (v : Word) (ho : o ∈ l ∧ ∀ n, o ≠ blockBase n) : Within g l s (t.setReg o v) := by
  refine h.trans ⟨hg _ _ (bare_setReg t o v), fun x hx => reg_setReg_ne _ _ _ _ ?_,
    fun e he => (stat_of_reg e (reg_setReg_ne _ _ _ _ (ho.2 _).symm)).trans he⟩
  rintro rfl
  exact hx ho.1

theorem Within.put (h : Within g l s t) (hg : OfBare g) {f : Fld} (n : Nat) (ho : f.off ∈ l ∧ ∀ n, f.off ≠ blockBase n) : Within g l s (t.put f n) :=
  h.setReg hg _ ho
theorem Within.putI (h : Within g l s t) (hg : OfBare g) {f : Fld} (x : Int) (ho : f.off ∈ l ∧ ∀ n, f.off ≠ blockBase n) : Within g l s (t.putI f x) :=
  h.setReg hg _ ho
theorem Within.putB (h : Within g l s t) (hg : OfBare g) {f : Fld} (b : Bool) (ho : f.off ∈ l ∧ ∀ n, f.off ≠ blockBase n) : Within g l s (t.putB f b) :=
  h.setReg hg _ ho
theorem Within.markSet (h : Within g l s t) (hg : OfBare g) (o : Nat) (m : Word) : Within g l s (t.markSet o m) :=
  h.hidden (hg _ _ rfl)

theorem Within.foldl {α : Type} {f : State → α → State} (a : List α) (hf : ∀ u, ∀ x ∈ a, Within g l u (f u x)) (s : State) : Within g l s (a.foldl f s) := by
  refine foldl_keeps_prop (I := Within g l s) (fun u x hx hu => hu.trans (hf u x hx)) (.refl g l s)

theorem Within.raiseD (h : Within g l s t) (hg : OfBare g) {e : Ev} (i d : Nat) (he : ∀ o ∈ eventRegs e.block, o ∈ l) : Within g l s (t.raiseD e i d) :=
  h.trans ⟨hg _ _ (bare_raiseD _ _ _ _), fun o ho => reg_raiseD _ _ _ _ _ fun hin => ho (he o hin), fun _ hf => stat_raiseD_keeps _ _ _ _ _ hf⟩

theorem Within.raiseIf (h : Within g l s t) (hg : OfBare g) (c : Bool) {e : Ev} (i : Nat) (he : ∀ o ∈ eventRegs e.block, o ∈ l) :
    Within g l s (t.raiseIf c e i) := by
  unfold State.raiseIf
  split
  · exact h.raiseD hg i _ he
  · exact h

/-! ### The accumulators -/

theorem not_base {o : Nat} (h : o % 2048 ≠ 0) (hpin : o ≠ 0x2400) (n : Nat) : o ≠ blockBase n := by
  have := blockBase_aligned n
  omega

/-- The registers that the division of a millisecond's energy changes. -/
def splitRegs : List Nat := (upTo 17).map NRG_PART_LO ++ eventRegs 14

/-- The state without what events touch and without the accumulators. -/
def State.unsummed (s : State) : State := { s.bare with nrg := { s.nrg with acc := [] } }

theorem partLo_splitRegs {b : Nat} (hb : b < 17) : NRG_PART_LO b ∈ splitRegs ∧ ∀ n, NRG_PART_LO b ≠ blockBase n :=
  ⟨List.mem_append_left _ (List.mem_map_of_mem (mem_upTo.mpr hb)), not_base (by simp only [NRG_PART_LO]; omega) (by simp only [NRG_PART_LO]; omega)⟩

theorem ofBare_unsummed : OfBare State.unsummed := fun _ _ h => congrArg (fun w : State => { w with nrg := { w.nrg with acc := [] } }) h

theorem acc_setAcc_same (s : State) (b x : Nat) : (s.setAcc b x).acc b = x := tblGet_set_same _ _ _ _
theorem acc_setAcc_ne (s : State) {a b : Nat} (x : Nat) (h : a ≠ b) : (s.setAcc b x).acc a = s.acc a := tblGet_set_ne _ _ _ _ _ h

theorem within_setAcc (s : State) {b : Nat} (x : Nat) (hb : b < 17) : Within State.unsummed splitRegs s (s.setAcc b x) :=
  ((Within.refl _ _ s).hidden (u := s.updNrg fun h => { h with acc := tblSet (fun _ => 0) h.acc b x })).setReg ofBare_unsummed _ (partLo_splitRegs hb)

theorem acc_raiseIf (s : State) (c : Bool) (e : Ev) (i b : Nat) : (s.raiseIf c e i).acc b = s.acc b :=
  (congrArg (fun v : State => tblGet (fun _ => 0) v.nrg.acc b) (bare_raiseIf s c e i) :)

theorem within_addAcc (s : State) (x : Nat) {b : Nat} (hb : b < 17) : Within State.unsummed splitRegs s (s.addAcc x b) := by
  have hset := within_setAcc s (((if bitN s.nrg.clr b then 0 else s.acc b) + x) % 2 ^ 64) hb
  exact hset.raiseIf ofBare_unsummed _ _ fun o ho => List.mem_append_right _ ho

theorem acc_addAcc_same (s : State) (x b : Nat) : (s.addAcc x b).acc b = ((if bitN s.nrg.clr b then 0 else s.acc b) + x) % 2 ^ 64 :=
  (acc_raiseIf _ _ _ _ _).trans (acc_setAcc_same _ _ _)

theorem acc_addAcc_ne (s : State) {a b : Nat} (x : Nat) (h : a ≠ b) : (s.addAcc x b).acc a = s.acc a :=
  (acc_raiseIf _ _ _ _ _).trans (acc_setAcc_ne _ _ h)

theorem wrap_addAcc (s : State) (x b : Nat) (h : 2 ^ 64 ≤ (if bitN s.nrg.clr b then 0 else s.acc b) + x) : (s.addAcc x b).stat evNRG_WRAP = true := by
  unfold State.addAcc
  dsimp only
  rw [stat_raiseIf_same _ _ _ _ (by decide), decide_eq_true h, Bool.or_true]

theorem clr_of_unsummed (h : t.unsummed = s.unsummed) : t.nrg.clr = s.nrg.clr := (congrArg (fun v : State => v.nrg.clr) h :)

/-- The increments added one after the other. -/
def State.addAll (s : State) (inc : Nat → Nat) (l : List Nat) : State := forEach l (fun b s => s.addAcc (inc b) b) s

theorem within_addAll (s : State) (inc : Nat → Nat) {a : List Nat} (ha : ∀ b ∈ a, b < 17) : Within State.unsummed splitRegs s (s.addAll inc a) :=
  .foldl a (fun u b hb => within_addAcc u (inc b) (ha b hb)) s

theorem acc_addAll_out (s : State) (inc : Nat → Nat) {a : List Nat} {b : Nat} (ha : b ∉ a) : (s.addAll inc a).acc b = s.acc b :=
  foldl_keeps (fun v : State => v.acc b) (f := fun s k => s.addAcc (inc k) k) (l := a) (fun u k hk => acc_addAcc_ne u _ fun h => ha (h ▸ hk)) s

/-- Each accumulator takes its increment once. -/
theorem addAll_spec (s : State) (inc : Nat → Nat) {b : Nat} (hb : b < 17) :
    (s.addAll inc (upTo 17)).acc b = ((if bitN s.nrg.clr b then 0 else s.acc b) + inc b) % 2 ^ 64 ∧
    (2 ^ 64 ≤ (if bitN s.nrg.clr b then 0 else s.acc b) + inc b → (s.addAll inc (upTo 17)).stat evNRG_WRAP = true) := by
  obtain ⟨pre, post, hsplit, hpre, hpost⟩ : ∃ pre post, upTo 17 = pre ++ b :: post ∧ b ∉ pre ∧ b ∉ post := by
    obtain ⟨pre, post, h⟩ := List.append_of_mem (mem_upTo.mpr hb)
    have hnodup : (pre ++ b :: post).Nodup := h ▸ List.nodup_range
    rw [List.nodup_append] at hnodup
    obtain ⟨-, hcons, happart⟩ := hnodup
    exact ⟨pre, post, h, fun hin => happart b hin b List.mem_cons_self rfl, (List.nodup_cons.mp hcons).1⟩
  have hlt : ∀ k ∈ pre ++ b :: post, k < 17 := fun k hk => mem_upTo.mp (hsplit ▸ hk)
  obtain ⟨v, hv⟩ : ∃ v, v = s.addAll inc pre := ⟨_, rfl⟩
  have hrun : s.addAll inc (upTo 17) = (v.addAcc (inc b) b).addAll inc post := by
    rw [hsplit, hv]
    unfold State.addAll Machine.forEach
    rw [List.foldl_append, List.foldl_cons]
  have hclr : v.nrg.clr = s.nrg.clr := hv ▸ clr_of_unsummed (within_addAll s inc fun k hk => hlt k (List.mem_append_left _ hk)).data
  have hold : v.acc b = s.acc b := hv ▸ acc_addAll_out s inc hpre
  rw [hrun, ← hclr, ← hold]
  refine ⟨(acc_addAll_out _ _ hpost).trans (acc_addAcc_same v _ b), fun h => ?_⟩
  have hrest := within_addAll (v.addAcc (inc b) b) inc (a := post) fun k hk => hlt k (List.mem_append_right _ (List.mem_cons_of_mem _ hk))
  exact hrest.stat _ (wrap_addAcc v _ b h)

/-- The increments of the millisecond (R456). -/
def State.increments (s : State) : Nat → Nat := increment s.emsNow fun b => tblGet (fun _ => 0) s.nrg.models b

theorem split_eq (s : State) : s.split = ((s.put fNRG_EMS_EMS (min (2 ^ 32 - 1) s.emsNow)).addAll s.increments (upTo 17)).raiseIf
    (sumOver (upTo 17) (fun b => tblGet (fun _ => 0) s.nrg.models b) = 0) evNRG_NOMODEL 0xFFFF := rfl

/-- The energy of the millisecond divided (R456-R459). -/
theorem split_spec (s : State) : Within State.unsummed (NRG_EMS :: splitRegs) s s.split ∧
    (∀ b, b < 17 → s.split.acc b = ((if bitN s.nrg.clr b then 0 else s.acc b) + s.increments b) % 2 ^ 64 ∧
      (2 ^ 64 ≤ (if bitN s.nrg.clr b then 0 else s.acc b) + s.increments b → s.split.stat evNRG_WRAP = true)) ∧
    s.split.get fNRG_EMS_EMS = min (2 ^ 32 - 1) s.emsNow ∧ (s.nrg.models = [] → s.split.stat evNRG_NOMODEL = true) := by
  obtain ⟨v, hv⟩ : ∃ v, v = s.put fNRG_EMS_EMS (min (2 ^ 32 - 1) s.emsNow) := ⟨_, rfl⟩
  have hems : Within State.unsummed (NRG_EMS :: splitRegs) s v := by
    rw [hv]
    exact (Within.refl _ _ s).put ofBare_unsummed _ ⟨List.mem_cons_self, not_base (by decide) (by decide)⟩
  have hall : Within State.unsummed splitRegs v (v.addAll s.increments (upTo 17)) := within_addAll v _ fun b => mem_upTo.mp
  have hrest : Within State.unsummed splitRegs v s.split := by
    rw [split_eq, ← hv]
    exact hall.raiseIf ofBare_unsummed _ _ fun o ho => List.mem_append_right _ ho
  refine ⟨hems.trans (hrest.mono fun o ho => List.mem_cons_of_mem _ ho), fun b hb => ?_, ?_, fun hnone => ?_⟩
  · obtain ⟨hacc, hwrap⟩ := addAll_spec v s.increments hb
    have hvs : v.nrg.clr = s.nrg.clr ∧ v.acc b = s.acc b := by rw [hv]; exact ⟨rfl, rfl⟩
    rw [hvs.1, hvs.2] at hacc hwrap
    rw [split_eq, ← hv]
    exact ⟨(acc_raiseIf _ _ _ _ _).trans hacc, fun h => stat_raiseIf_keeps _ _ _ _ _ (hwrap h)⟩
  · have hreg : s.split.reg NRG_EMS = v.reg NRG_EMS := hrest.regs _ (by decide)
    rw [get_of_reg fNRG_EMS_EMS hreg, hv, get_put _ _ _ (by decide)]
    exact Nat.mod_eq_of_lt (show min (2 ^ 32 - 1) s.emsNow < 2 ^ 32 by omega)
  · rw [split_eq, stat_raiseIf_same _ _ _ _ (by decide), hnone]
    simp [sumOver_eq_sum, tblGet]

end Sys2Proof.Machine
end

section
/-!
SUPPORT. The reports of a measured millisecond, the millisecond that is not measured, and the records of telemetry (R450, R461-R473).
-/

namespace Sys2Proof.Machine

variable {s t u : State}

/-! ### Reports (R461-R469) -/

/-- The state without what events touch and without the times of the watch slots. -/
def State.unwatched (s : State) : State := { s.bare with nrg := { s.nrg with wts := [] } }

theorem ofBare_unwatched : OfBare State.unwatched := fun _ _ h => congrArg (fun w : State => { w with nrg := { w.nrg with wts := [] } }) h

/-- The registers of the watch slots and of the settlement monitor. -/
def verdictRegs : List Nat := (upTo 8).map NRG_WMIN ++ (upTo 8).map NRG_WTS_LO ++ (upTo 256).map NRG_SMEAS ++ (upTo 8).map NRG_SFLAG ++ eventRegs 14

theorem mem_verdictRegs {o : Nat} : o ∈ verdictRegs ↔ (∃ w, w < 8 ∧ NRG_WMIN w = o) ∨ (∃ w, w < 8 ∧ NRG_WTS_LO w = o) ∨ (∃ c, c < 256 ∧ NRG_SMEAS c = o) ∨
    (∃ k, k < 8 ∧ NRG_SFLAG k = o) ∨ o ∈ eventRegs 14 := by
  simp only [verdictRegs, List.mem_append, List.mem_map, mem_upTo, or_assoc]

theorem verdict_wmin {w : Nat} (h : w < 8) : NRG_WMIN w ∈ verdictRegs ∧ ∀ n, NRG_WMIN w ≠ blockBase n :=
  ⟨mem_verdictRegs.mpr (.inl ⟨w, h, rfl⟩), not_base (by simp only [NRG_WMIN]; omega) (by simp only [NRG_WMIN]; omega)⟩
theorem verdict_wts {w : Nat} (h : w < 8) : NRG_WTS_LO w ∈ verdictRegs ∧ ∀ n, NRG_WTS_LO w ≠ blockBase n :=
  ⟨mem_verdictRegs.mpr (.inr (.inl ⟨w, h, rfl⟩)), not_base (by simp only [NRG_WTS_LO]; omega) (by simp only [NRG_WTS_LO]; omega)⟩
theorem verdict_smeas {c : Nat} (h : c < 256) : NRG_SMEAS c ∈ verdictRegs ∧ ∀ n, NRG_SMEAS c ≠ blockBase n :=
  ⟨mem_verdictRegs.mpr (.inr (.inr (.inl ⟨c, h, rfl⟩))), not_base (by simp only [NRG_SMEAS]; omega) (by simp only [NRG_SMEAS]; omega)⟩
theorem verdict_sflag {k : Nat} (h : k < 8) : NRG_SFLAG k ∈ verdictRegs ∧ ∀ n, NRG_SFLAG k ≠ blockBase n :=
  ⟨mem_verdictRegs.mpr (.inr (.inr (.inr (.inl ⟨k, h, rfl⟩)))), not_base (by simp only [NRG_SFLAG]; omega) (by simp only [NRG_SFLAG]; omega)⟩
theorem verdict_event : ∀ o ∈ eventRegs 14, o ∈ verdictRegs := fun _ ho => mem_verdictRegs.mpr (.inr (.inr (.inr (.inr ho))))

theorem within_updWts (s : State) (f : Tbl Nat → Tbl Nat) : Within State.unwatched verdictRegs s (s.updNrg fun h => { h with wts := f h.wts }) :=
  (Within.refl _ _ s).hidden

theorem within_showWatch (s : State) {w : Nat} (hw : w < 8) : Within State.unwatched verdictRegs s (s.showWatch w) := by
  unfold State.showWatch
  split
  · exact .refl _ _ s
  · split
    · exact (Within.refl _ _ s).putB ofBare_unwatched _ (verdict_wmin hw)
    · next p _ _ v n k _ =>
      have hmin := (Within.refl State.unwatched verdictRegs s).setReg ofBare_unwatched (BitVec.ofNat 32 (n * 2 ^ 16 + v)) (verdict_wmin hw)
      generalize s.setReg (NRG_WMIN w) (BitVec.ofNat 32 (n * 2 ^ 16 + v)) = s1 at hmin ⊢
      exact (hmin.trans (within_updWts s1 fun x => tblSet (fun _ => 0) x w k)).setReg ofBare_unwatched _ (verdict_wts hw)

theorem within_derateCell (s : State) {c : Nat} (rm rr : Nat) (hc : c < 256) : Within State.unwatched verdictRegs s (s.derateCell c rm rr) := by
  have hflag : c / 32 < 8 := by omega
  unfold State.derateCell
  exact ((((Within.refl _ _ s).putB ofBare_unwatched _ (verdict_smeas hc)).setReg ofBare_unwatched _ (verdict_sflag hflag)).markSet
    ofBare_unwatched _ _).raiseD ofBare_unwatched _ _ verdict_event

theorem within_judgeCell (old s : State) {c : Nat} (hc : c < 256) : Within State.unwatched verdictRegs s (old.judgeCell c s) := by
  unfold State.judgeCell
  split
  · exact (Within.refl _ _ s).putB ofBare_unwatched _ (verdict_smeas hc)
  · have hread := ((Within.refl State.unwatched verdictRegs s).putB ofBare_unwatched (f := fNRG_SMEAS_QUAL c) true (verdict_smeas hc)).put ofBare_unwatched (f := fNRG_SMEAS_RMEAS c)
      (old.settle c).slope (verdict_smeas hc)
    refine .ite hread (.ite ?_ ?_)
    · exact (hread.put ofBare_unwatched _ (verdict_smeas hc)).trans (within_derateCell _ _ _ hc)
    · exact hread.put ofBare_unwatched _ (verdict_smeas hc)

/-- The registers of the currents of the domains. -/
def currentRegs : List Nat := (upTo 32).map NRG_DCUR

theorem current_dcur {d : Nat} (h : d < 32) : NRG_DCUR d ∈ currentRegs ∧ ∀ n, NRG_DCUR d ≠ blockBase n :=
  ⟨List.mem_map_of_mem (mem_upTo.mpr h), not_base (by simp only [NRG_DCUR]; omega) (by simp only [NRG_DCUR]; omega)⟩

theorem within_showCurrent (s : State) {d : Nat} (hd : d < 32) : Within State.unwatched currentRegs s (s.showCurrent d) := by
  unfold State.showCurrent
  exact .ite ((Within.refl _ _ s).setReg ofBare_unwatched _ (current_dcur hd)) (((Within.refl _ _ s).putI ofBare_unwatched _ (current_dcur hd)).putI ofBare_unwatched _ (current_dcur hd))

theorem reg_showCurrent_ne (s : State) {d o : Nat} (h : o ≠ NRG_DCUR d) : (s.showCurrent d).reg o = s.reg o := by
  unfold State.showCurrent
  dsimp only
  split
  · exact reg_setReg_ne _ _ _ _ h
  · exact (reg_setReg_ne _ _ _ _ h).trans (reg_setReg_ne _ _ _ _ h)

theorem tractsOf_of_maps (h : ∀ k, k < 64 → t.reg (DOM_MAP k) = s.reg (DOM_MAP k)) (d : Nat) : t.tractsOf d = s.tractsOf d := by
  unfold State.tractsOf
  refine List.filter_congr fun k hk => ?_
  rw [State.domOf, get_of_reg (fDOM_MAP_DOM k) (h k (mem_upTo.mp hk)), State.domOf]

/-- Every domain shows its current, one that is not used none. -/
theorem showCurrents_spec (s : State) : Within State.unwatched currentRegs s (forEach (upTo 32) (fun d s => s.showCurrent d) s) ∧
    ∀ d, d < 32 → s.tractsOf d = [] → (forEach (upTo 32) (fun d s => s.showCurrent d) s).reg (NRG_DCUR d) = 0 := by
  refine ⟨.foldl _ (fun u d hd => within_showCurrent u (mem_upTo.mp hd)) s, fun d hd hnone => ?_⟩
  have hat := foldl_upTo_at (fun v : State => v.reg (NRG_DCUR d)) (f := fun s d => State.showCurrent s d) hd
    (fun v j hj hne => reg_showCurrent_ne v (by simp only [NRG_DCUR]; omega)) s
  obtain ⟨v, hv⟩ : ∃ v, v = (upTo d).foldl (fun s d => State.showCurrent s d) s := ⟨_, rfl⟩
  have hmaps (k : Nat) (hk : k < 64) : v.reg (DOM_MAP k) = s.reg (DOM_MAP k) := by
    rw [hv]
    refine foldl_keeps (fun w : State => w.reg (DOM_MAP k)) (f := fun s d => State.showCurrent s d) (l := upTo d) (fun w j hj => ?_) s
    have := mem_upTo.mp hj
    exact reg_showCurrent_ne w (by simp only [DOM_MAP, NRG_DCUR]; omega)
  have hnone' : (v.tractsOf d).isEmpty = true := by rw [tractsOf_of_maps hmaps, hnone]; rfl
  refine hat.trans ?_
  rw [← hv]
  unfold State.showCurrent
  dsimp only
  rw [if_pos (by rw [hnone']; rfl)]
  exact reg_setReg_same _ _ _

/-! ### What the PMBus target takes from the millisecond -/

theorem keepStatus_spec (s : State) (p : Nat) : (∃ q, s.keepStatus p = { s with pmb := q }) ∧ ∀ f ∈ s.pmb.flags, f ∈ (s.keepStatus p).pmb.flags :=
  ⟨⟨_, rfl⟩, fun _ hf => List.mem_append_left _ hf⟩

theorem snapshot_spec (s : State) : (∃ q, s.snapshot = { s with pmb := q }) ∧ ∀ f ∈ s.pmb.flags, f ∈ s.snapshot.pmb.flags := by
  have hkept : (∃ q, forEach (upTo 33) (fun p s => State.keepStatus s p) s = { s with pmb := q }) ∧
      ∀ f ∈ s.pmb.flags, f ∈ (forEach (upTo 33) (fun p s => State.keepStatus s p) s).pmb.flags := by
    refine foldl_keeps_prop (I := fun v : State => (∃ q, v = { s with pmb := q }) ∧ ∀ f ∈ s.pmb.flags, f ∈ v.pmb.flags) (fun v p _ hv => ?_)
      ⟨⟨s.pmb, rfl⟩, fun _ hf => hf⟩
    obtain ⟨⟨q, hq⟩, hflags⟩ := hv
    obtain ⟨⟨q', hq'⟩, hmore⟩ := keepStatus_spec v p
    exact ⟨⟨q', hq'.trans (by rw [hq])⟩, fun f hf => hmore f (hflags f hf)⟩
  unfold State.snapshot
  dsimp only
  obtain ⟨⟨q, hq⟩, hflags⟩ := hkept
  generalize forEach (upTo 33) (fun p s => State.keepStatus s p) s = v at hq hflags
  subst hq
  exact ⟨⟨_, rfl⟩, hflags⟩

/-! ### The end of a millisecond -/

/-- The reports that follow the division, with the verdicts on the millisecond that `old` has gathered. -/
def State.reports (old s : State) : State :=
  let s2 := forEach (upTo 32) (fun d s => s.showCurrent d) s
  let s3 := forEach (upTo 8) (fun w s => s.showWatch w) s2
  forEach (upTo 256) (fun c a => State.judgeCell old c a) s3

theorem reports_spec (old s : State) : Within State.unwatched (currentRegs ++ verdictRegs) s (old.reports s) ∧
    ∀ d, d < 32 → s.tractsOf d = [] → (old.reports s).reg (NRG_DCUR d) = 0 := by
  obtain ⟨hcurrents, hzero⟩ := showCurrents_spec s
  unfold State.reports
  extract_lets +onlyGivenNames s2 s3
  have hwatch : Within State.unwatched verdictRegs s2 s3 := .foldl _ (fun u w hw => within_showWatch u (mem_upTo.mp hw)) s2
  have hjudge : Within State.unwatched verdictRegs s3 (forEach (upTo 256) (fun c a => State.judgeCell old c a) s3) :=
    .foldl _ (fun u c hc => within_judgeCell old u (mem_upTo.mp hc)) s3
  have hverdict := hwatch.trans hjudge
  refine ⟨(hcurrents.mono fun o ho => List.mem_append_left _ ho).trans (hverdict.mono fun o ho => List.mem_append_right _ ho), fun d hd hnone => ?_⟩
  refine (hverdict.regs _ fun hin => ?_).trans (hzero d hd hnone)
  have hevents : NRG_DCUR d ∉ eventRegs 14 := by
    have h14 : blockBase 14 = 0x60000 := rfl
    refine apart_eventRegs ?_ ?_ ?_ ?_ <;> simp only [NRG_DCUR] <;> omega
  have hrest := (mem_verdictRegs.mp hin)
  simp only [NRG_WMIN, NRG_WTS_LO, NRG_SMEAS, NRG_SFLAG, hevents, or_false] at hrest
  rcases hrest with ⟨w, hw, h⟩ | ⟨w, hw, h⟩ | ⟨w, hw, h⟩ | ⟨w, hw, h⟩ <;> simp only [NRG_DCUR] at h <;> omega

/-- A measured millisecond: its division, its reports, what the PMBus target takes, and its record. -/
theorem closeMs_eq (s : State) : ∃ r, s.closeMs = (s.reports s.split).snapshot.updNrg fun h =>
    { h with record := if (s.reports s.split).on fTLM_CTL_EN then some r else h.record } := by
  unfold State.closeMs
  extract_lets +onlyGivenNames m nomodel wrap s1 s2 s3 s4 r
  have hs4 : s4 = (s.reports s.split) := rfl
  refine ⟨r, ?_⟩
  rw [← hs4]
  generalize r = bytes
  generalize s4 = v
  by_cases hen : v.on fTLM_CTL_EN = true
  · simp only [if_pos hen]
  · simp only [if_neg hen]
    generalize v.snapshot = w
    rfl

/-- The registers that a measured millisecond may change. -/
def msRegs : List Nat := [NRG_EMS] ++ (upTo 17).map NRG_PART_LO ++ (upTo 32).map NRG_DCUR ++ (upTo 8).map NRG_WMIN ++
  (upTo 8).map NRG_WTS_LO ++ (upTo 256).map NRG_SMEAS ++ (upTo 8).map NRG_SFLAG ++ eventRegs 14

theorem splitRegs_subset : ∀ o ∈ NRG_EMS :: splitRegs, o ∈ msRegs := by
  intro o ho
  simp only [splitRegs, msRegs, List.mem_cons, List.mem_append, List.not_mem_nil, or_false] at *
  tauto

theorem reportRegs_subset : ∀ o ∈ currentRegs ++ verdictRegs, o ∈ msRegs := by
  intro o ho
  simp only [currentRegs, verdictRegs, msRegs, List.mem_cons, List.mem_append, List.not_mem_nil, or_false] at *
  tauto

/-- The state without what events touch and without what a millisecond keeps of its energy. -/
def State.unmetered (s : State) : State := { s.bare with nrg := { s.nrg with acc := [], wts := [] } }

theorem within_reports (s : State) : Within State.unmetered msRegs s (s.reports s.split) :=
  (((split_spec s).1.map fun v : State => { v with nrg := { v.nrg with acc := [], wts := [] } }).mono splitRegs_subset).trans
    (((reports_spec s s.split).1.map fun v : State => { v with nrg := { v.nrg with acc := [], wts := [] } }).mono reportRegs_subset)

theorem acc_reports (old s : State) (b : Nat) : (old.reports s).acc b = s.acc b :=
  (congrArg (fun v : State => tblGet (fun _ => 0) v.nrg.acc b) (reports_spec old s).1.data :)

theorem event14_apart {o : Nat} (hlo : 0x60008 ≤ o) (hne : o ≠ bookReg 14) (h : o < 0x61000) : o ∉ eventRegs 14 := by
  have h14 : blockBase 14 = 0x60000 := rfl
  have hbook : bookReg 14 = 0x6000C := rfl
  refine apart_eventRegs ?_ ?_ ?_ ?_ <;> omega

/-- A register that no measured millisecond changes. -/
theorem control_not_msRegs {o : Nat} (h : o = NRG_CTL ∨ o = TLM_CTL ∨ ∃ w, w < 8 ∧ o = NRG_WATCH w) : o ∉ msRegs := by
  have h14 : blockBase 14 = 0x60000 := rfl
  have hevent : o ∉ eventRegs 14 := by
    rcases h with rfl | rfl | ⟨w, hw, rfl⟩
    · decide
    · decide
    · refine apart_eventRegs ?_ ?_ ?_ ?_ <;> simp only [NRG_WATCH] <;> omega
  simp only [msRegs, List.mem_cons, List.mem_append, List.mem_map, mem_upTo, List.not_mem_nil, or_false, hevent]
  rcases h with rfl | rfl | ⟨w, hw, rfl⟩ <;>
    simp only [NRG_CTL, TLM_CTL, NRG_EMS, NRG_PART_LO, NRG_DCUR, NRG_WMIN, NRG_WTS_LO, NRG_SMEAS, NRG_SFLAG, NRG_WATCH] <;> omega

end Sys2Proof.Machine
end

section
/-!
SUPPORT. The boundary of a millisecond, measured or not, the records of telemetry, and the writes of NRG_CLR and NRG_SFLAG.
-/

namespace Sys2Proof.Machine

variable {s t u : State}

theorem exec_msBoundary (hpor : s.por = false) (haon : s.aon ≠ 4) (hms : s.msNow ≠ s.nrg.msStart) :
    exec .msBoundary s = .next (if s.msMeasured then s.closeMs else s.skipMs).openMs := by
  have h : ¬(s.por || decide (s.aon = 4) || decide (s.msNow = s.nrg.msStart)) = true := by simp [hpor, haon, hms]
  exact congrArg Host.Outcome.next (if_neg h)

theorem exec_msBoundary_idle (h : s.por = true ∨ s.aon = 4 ∨ s.msNow = s.nrg.msStart) : exec .msBoundary s = .next s := by
  have hidle : (s.por || decide (s.aon = 4) || decide (s.msNow = s.nrg.msStart)) = true := by
    simp only [Bool.or_eq_true, decide_eq_true_eq]
    tauto
  exact congrArg Host.Outcome.next (if_pos hidle)

/-- The state in which a millisecond begins anew, but for what the energy logic keeps. -/
theorem openMs_spec (s : State) : s.openMs = { s with nrg := s.openMs.nrg } ∧ s.openMs.nrg.acc = s.nrg.acc ∧ s.openMs.nrg.record = s.nrg.record ∧
    s.openMs.nrg.msStart = s.msNow ∧ s.openMs.nrg.clr = 0 ∧ s.openMs.nrg.models = [] ∧ s.openMs.nrg.vi = 0 ∧ s.openMs.nrg.pen = s.get fNRG_CTL_PEN :=
  ⟨rfl, rfl, rfl, rfl, rfl, rfl, rfl, rfl⟩

theorem msMeasured_spec (s : State) {u : State} (hu : u = s.closeMs.openMs) :
    (∀ b, b < 17 → u.acc b = ((if bitN s.nrg.clr b then 0 else s.acc b) + s.increments b) % 2 ^ 64 ∧
      (2 ^ 64 ≤ (if bitN s.nrg.clr b then 0 else s.acc b) + s.increments b → u.stat evNRG_WRAP = true)) ∧
    u.get fNRG_EMS_EMS = min (2 ^ 32 - 1) s.emsNow ∧ u.nrg.msStart = s.msNow ∧ u.nrg.clr = 0 ∧ u.nrg.models = [] ∧ u.nrg.vi = 0 ∧
    u.nrg.pen = s.get fNRG_CTL_PEN ∧ (∀ f, f ∈ s.pmb.flags → f ∈ u.pmb.flags) ∧ (∀ d, d < 32 → s.tractsOf d = [] → u.reg (NRG_DCUR d) = 0) ∧
    (s.nrg.models = [] → u.stat evNRG_NOMODEL = true) ∧ (s.on fTLM_CTL_EN = false → u.nrg.record = s.nrg.record) ∧
    OnlyEvents { s with nrg := u.nrg, pmb := u.pmb } u msRegs := by
  obtain ⟨v, hv⟩ : ∃ v, v = s.reports s.split := ⟨_, rfl⟩
  obtain ⟨r, hclose⟩ := closeMs_eq s
  obtain ⟨⟨q, hq⟩, hflags⟩ := snapshot_spec v
  obtain ⟨w, hw⟩ : ∃ w, w = v.snapshot.updNrg fun h => { h with record := if v.on fTLM_CTL_EN then some r else h.record } := ⟨_, rfl⟩
  rw [← hv, ← hw] at hclose
  rw [hclose] at hu
  have hwithin : Within State.unmetered msRegs s v := hv ▸ within_reports s
  obtain ⟨hsplit, haccs, hems, hnomodel⟩ := split_spec s
  obtain ⟨hreports, hzero⟩ := reports_spec s s.split
  rw [← hv] at hreports hzero
  have haccv (b : Nat) : v.acc b = s.split.acc b := hv ▸ acc_reports s s.split b
  have hemsv : v.reg NRG_EMS = s.split.reg NRG_EMS := by
    refine hreports.regs _ fun hin => ?_
    have hevent : NRG_EMS ∉ eventRegs 14 := by decide
    simp only [currentRegs, verdictRegs, List.mem_append, List.mem_map, mem_upTo, hevent, or_false] at hin
    simp only [NRG_EMS, NRG_DCUR, NRG_WMIN, NRG_WTS_LO, NRG_SMEAS, NRG_SFLAG] at hin
    omega
  have htracts (d : Nat) : s.split.tractsOf d = s.tractsOf d := by
    refine tractsOf_of_maps (fun k hk => hsplit.regs _ ?_) d
    have h14 : blockBase 14 = 0x60000 := rfl
    have hevent : DOM_MAP k ∉ eventRegs 14 := by refine apart_eventRegs ?_ ?_ ?_ ?_ <;> simp only [DOM_MAP] <;> omega
    simp only [splitRegs, List.mem_cons, List.mem_append, List.mem_map, mem_upTo, hevent, or_false, NRG_EMS, NRG_PART_LO, DOM_MAP]
    omega
  -- what the opening of the next millisecond leaves of it
  have hwv : w = { v with pmb := q, nrg := { v.nrg with record := if v.on fTLM_CTL_EN then some r else v.nrg.record } } := by rw [hw, hq]; rfl
  obtain ⟨hopen, hacc, hrec, hstart, hclr, hmodels, hvi, hpen⟩ := openMs_spec w
  rw [← hu] at hopen hacc hrec hstart hclr hmodels hvi hpen
  have hreg (o : Nat) : u.reg o = v.reg o := by rw [hopen, hwv]; rfl
  have hstat (e : Ev) : u.stat e = v.stat e := stat_of_reg e (hreg _)
  have hts : v.ts = s.ts := (congrArg State.ts hwithin.data :)
  have hkept : ({ v.nrg with acc := [], wts := [] } : NrgHid) = { s.nrg with acc := [], wts := [] } := (congrArg State.nrg hwithin.data :)
  have hcontrol : v.reg NRG_CTL = s.reg NRG_CTL ∧ v.reg TLM_CTL = s.reg TLM_CTL :=
    ⟨hwithin.regs _ (control_not_msRegs (.inl rfl)), hwithin.regs _ (control_not_msRegs (.inr (.inl rfl)))⟩
  have haccu (b : Nat) : u.acc b = s.split.acc b := by
    rw [← haccv b, State.acc, hacc, hwv]
    rfl
  refine ⟨fun b hb => ?_, ?_, ?_, hclr, hmodels, hvi, ?_, fun f hf => ?_, fun d hd hnone => ?_, fun hnone => ?_, fun hoff => ?_, ?_⟩
  · rw [haccu, hstat]
    exact ⟨(haccs b hb).1, fun h => hreports.stat _ ((haccs b hb).2 h)⟩
  · rw [get_of_reg fNRG_EMS_EMS ((hreg _).trans hemsv)]
    exact hems
  · rw [hstart, hwv, State.msNow, State.msNow, ← hts]
  · have hctl : w.reg NRG_CTL = s.reg NRG_CTL := by
      rw [hwv]
      exact hcontrol.1
    rw [hpen, get_of_reg fNRG_CTL_PEN hctl]
  · have hpmb : u.pmb = v.snapshot.pmb := by rw [hopen, hw]; rfl
    have hvpmb : v.pmb = s.pmb := (congrArg State.pmb hwithin.data :)
    rw [hpmb]
    exact hflags f (by rwa [hvpmb])
  · rw [hreg]
    exact hzero d hd ((htracts d).trans hnone)
  · rw [hstat]
    exact hreports.stat _ (hnomodel hnone)
  · have hon : v.on fTLM_CTL_EN = false := by rw [on_of_reg fTLM_CTL_EN hcontrol.2, hoff]
    rw [hrec, hwv]
    simp only [hon, Bool.false_eq_true, if_false]
    exact (congrArg NrgHid.record hkept :)
  · refine onlyEvents_of ?_ fun o ho => (hreg o).trans (hwithin.regs o ho)
    have hdata := congrArg (fun x : State => { x with nrg := u.nrg, pmb := u.pmb }) hwithin.data
    refine Eq.trans ?_ hdata
    have hbare : u.bare = { v.bare with nrg := u.nrg, pmb := u.pmb } := by
      have hpmb : u.pmb = q := by rw [hopen, hwv]
      rw [hpmb]
      conv_lhs => rw [hopen, hwv]
      rfl
    exact hbare

/-! ### A millisecond that is not measured (R450, R459) -/

/-- The buckets whose clear waits, cleared. -/
def State.clearAsked (s : State) : State := (upTo 17).foldl (fun a b => if bitN s.nrg.clr b then a.setAcc b 0 else a) s

theorem within_clearAsked (s : State) : Within State.unsummed splitRegs s s.clearAsked := by
  refine .foldl _ (fun u b hb => ?_) s
  exact .ite (within_setAcc u 0 (mem_upTo.mp hb)) (.refl _ _ u)

theorem acc_clearAsked (s : State) {b : Nat} (hb : b < 17) : s.clearAsked.acc b = if bitN s.nrg.clr b then 0 else s.acc b := by
  have hne (v : State) {j : Nat} (hj : j ≠ b) : (if bitN s.nrg.clr j then v.setAcc j 0 else v).acc b = v.acc b := by
    split
    · exact acc_setAcc_ne v 0 hj.symm
    · rfl
  have hat := foldl_upTo_at (fun v : State => v.acc b) (f := fun a b => if bitN s.nrg.clr b then a.setAcc b 0 else a) hb (fun v j _ hj => hne v hj) s
  have hold : ((upTo b).foldl (fun a b => if bitN s.nrg.clr b then a.setAcc b 0 else a) s).acc b = s.acc b :=
    foldl_keeps (fun v : State => v.acc b) (f := fun a b => if bitN s.nrg.clr b then a.setAcc b 0 else a) (l := upTo b)
      (fun v j hj => hne v (by have := mem_upTo.mp hj; omega)) s
  refine hat.trans ?_
  generalize (upTo b).foldl (fun a b => if bitN s.nrg.clr b then a.setAcc b 0 else a) s = v at hold
  split
  · exact acc_setAcc_same v b 0
  · exact hold

theorem skipMs_spec (s : State) {u : State} (hu : u = s.skipMs.openMs) :
    (∀ b, b < 17 → u.acc b = if bitN s.nrg.clr b then 0 else s.acc b) ∧ u.stat evNRG_GAP = true ∧ u.nrg.msStart = s.msNow ∧
    u.nrg.clr = 0 ∧ u.nrg.record = s.nrg.record ∧ OnlyEvents { s with nrg := u.nrg } u ((upTo 17).map NRG_PART_LO ++ eventRegs 14) := by
  obtain ⟨v, hv⟩ : ∃ v, v = s.skipMs := ⟨_, rfl⟩
  have hskip : v = s.clearAsked.raise evNRG_GAP 0xFFFF := hv
  have hwithin : Within State.unsummed splitRegs s v := by
    rw [hskip]
    exact (within_clearAsked s).raiseD ofBare_unsummed _ _ fun o ho => List.mem_append_right _ ho
  have hgap : v.stat evNRG_GAP = true := hskip ▸ stat_raise_same _ _ _ (by decide)
  have haccv (b : Nat) : v.acc b = s.clearAsked.acc b := by
    rw [hskip]
    exact (congrArg (fun w : State => tblGet (fun _ => 0) w.nrg.acc b) (bare_raise s.clearAsked evNRG_GAP 0xFFFF) :)
  rw [← hv] at hu
  obtain ⟨hopen, hacc, hrec, hstart, hclr, -, -, -⟩ := openMs_spec v
  rw [← hu] at hopen hacc hrec hstart hclr
  have hreg (o : Nat) : u.reg o = v.reg o := by rw [hopen]; rfl
  refine ⟨fun b hb => ?_, (stat_of_reg _ (hreg _)).trans hgap, ?_, hclr, ?_, ?_⟩
  · rw [State.acc, hacc]
    exact (haccv b).trans (acc_clearAsked s hb)
  · have hts : v.ts = s.ts := (congrArg State.ts hwithin.data :)
    rw [hstart, State.msNow, State.msNow, hts]
  · rw [hrec]
    exact (congrArg (fun w : State => w.nrg.record) hwithin.data :)
  · refine onlyEvents_of ?_ fun o ho => (hreg o).trans (hwithin.regs o ho)
    refine Eq.trans ?_ (congrArg (fun x : State => { x with nrg := u.nrg }) hwithin.data)
    have hbare : u.bare = { v.bare with nrg := u.nrg } := by
      conv_lhs => rw [hopen]
      rfl
    exact hbare

/-! ### Records (R470, R471, R612) -/

theorem keepRecord_kept (s : State) {r : List Byte} (n : Nat) (h : s.memUsable 5 = true) :
    (s.keepRecord r n).tele = memPutBytes s.tele (256 * (n % 256)) r ∧ ∃ m, s.keepRecord r n = { s with tele := (s.keepRecord r n).tele, mem := m } := by
  have hshape : s.keepRecord r n = (upTo 32).foldl (fun s k => s.markGood 5 (256 * (n % 256) / 8 + k)) { s with tele := memPutBytes s.tele (256 * (n % 256)) r } :=
    if_pos h
  have hmem : ∃ m, s.keepRecord r n = { s with tele := memPutBytes s.tele (256 * (n % 256)) r, mem := m } := by
    rw [hshape]
    refine foldl_keeps_prop (I := fun v : State => ∃ m, v = { s with tele := memPutBytes s.tele (256 * (n % 256)) r, mem := m }) (fun v k _ hv => ?_) ⟨_, rfl⟩
    obtain ⟨m, rfl⟩ := hv
    exact ⟨_, rfl⟩
  obtain ⟨m, hm⟩ := hmem
  generalize s.keepRecord r n = u at hm
  subst hm
  exact ⟨rfl, m, rfl⟩

theorem keepRecord_lost (s : State) (r : List Byte) (n : Nat) (h : s.memUsable 5 = false) : s.keepRecord r n = s := if_neg (by simp [h])

theorem length_withSeq {r : List Byte} (n : Nat) (h : r.length = 256) : (withSeq r n).length = 256 := by
  simp only [withSeq, List.length_append, List.length_take, List.length_drop, length_leBytes]
  omega

theorem memByte_putBytes_at (m : List Host.Cell) (a : Nat) (bs : List Byte) {j : Nat} (hj : j < bs.length) :
    memByte (memPutBytes m a bs) (a + j) = bs.getD j 0 := by
  have h := congrArg (fun l : List Byte => l.getD j 0) (memBytes_putBytes_same m a bs)
  simpa [memBytes, upTo, List.getD_eq_getElem?_getD, hj] using h

/-- A record dropped: counted, and reported (R471). -/
theorem dropRecord_spec (s : State) : s.dropRecord.stat evTLM_DROP = true ∧
    s.dropRecord.get fTLM_DROP_COUNT = min (2 ^ 32 - 1) (s.get fTLM_DROP_COUNT + 1) ∧ s.dropRecord.bare = s.bare ∧
    ∀ o, o ∉ [TLM_DROP] ++ eventRegs 15 → s.dropRecord.reg o = s.reg o := by
  unfold State.dropRecord
  refine ⟨stat_raise_same _ _ _ (by decide), ?_, (bare_raise _ _ _).trans (bare_addSat _ _ _), fun o ho => ?_⟩
  · have hreg := reg_raiseD (s.addSat fTLM_DROP_COUNT 1) evTLM_DROP 0xFFFF ((s.addSat fTLM_DROP_COUNT 1).evData 15 0xFFFF) TLM_DROP (by decide)
    exact (get_of_reg fTLM_DROP_COUNT hreg).trans (get_addSat s fTLM_DROP_COUNT 1 (by decide))
  · rw [List.mem_append, not_or] at ho
    exact (reg_raiseD _ _ _ _ _ ho.2).trans (reg_addSat_ne _ _ _ _ (by simpa using ho.1))

/-- The state in which a record has its number. -/
def State.numbered (s : State) : State :=
  (s.updNrg fun h => { h with record := none, nextSeq := (s.nrg.nextSeq + 1) % 2 ^ 32 }).put fTLM_SEQ_SEQ s.nrg.nextSeq

theorem numbered_spec (s : State) : s.numbered.get fTLM_SEQ_SEQ = s.nrg.nextSeq % 2 ^ 32 ∧ s.numbered.memUsable 5 = s.memUsable 5 ∧
    ∀ o, o ≠ TLM_SEQ → s.numbered.reg o = s.reg o := by
  refine ⟨get_put _ _ _ (by decide), ?_, fun o ho => reg_put_ne _ fTLM_SEQ_SEQ _ _ ho⟩
  have howner : s.numbered.reg MEM_OWNER = s.reg MEM_OWNER := reg_put_ne _ fTLM_SEQ_SEQ _ _ (by decide)
  have hpower : s.numbered.reg MEM_PWR = s.reg MEM_PWR := reg_put_ne _ fTLM_SEQ_SEQ _ _ (by decide)
  rw [State.memUsable, State.memOwner, State.memPower, howner, hpower]
  rfl

variable {r : List Byte}

theorem exec_tlmRecordIssue (h : s.nrg.record = some r) : exec .tlmRecordIssue s = .next
    (if 2 ≤ s.nrg.writes.length || !s.memUsable 5 || !s.pins.hostPwrgd then (s.numbered.keepRecord (withSeq r s.nrg.nextSeq) s.nrg.nextSeq).dropRecord
      else (s.numbered.keepRecord (withSeq r s.nrg.nextSeq) s.nrg.nextSeq).updNrg fun h =>
        { h with writes := h.writes ++ [(s.tlmAddr s.nrg.nextSeq, withSeq r s.nrg.nextSeq)] }) := by
  show execTlmRecordIssue s = _
  unfold execTlmRecordIssue
  rw [h]
  rfl

theorem recordIssue_written (h : s.nrg.record = some r) (hlen : r.length = 256) (hfew : s.nrg.writes.length < 2) (husable : s.memUsable 5 = true)
    (hhost : s.pins.hostPwrgd = true) : Runs .tlmRecordIssue s fun u =>
      u.get fTLM_SEQ_SEQ = s.nrg.nextSeq % 2 ^ 32 ∧
      (∀ j, j < 256 → memByte u.tele (256 * (s.nrg.nextSeq % 256) + j) = (withSeq r s.nrg.nextSeq).getD j 0) ∧
      OnlyRegs { s with tele := u.tele, mem := u.mem, nrg := { s.nrg with
        record := none, nextSeq := (s.nrg.nextSeq + 1) % 2 ^ 32, writes := s.nrg.writes ++ [(s.tlmAddr s.nrg.nextSeq, withSeq r s.nrg.nextSeq)] } } u [TLM_SEQ] := by
  have hgo : ¬(2 ≤ s.nrg.writes.length || !s.memUsable 5 || !s.pins.hostPwrgd) = true := by simp [husable, hhost]; omega
  have hexec := exec_tlmRecordIssue h
  rw [if_neg hgo] at hexec
  obtain ⟨hseq, husable', hregs⟩ := numbered_spec s
  obtain ⟨htele, m, hkept⟩ := keepRecord_kept s.numbered (r := withSeq r s.nrg.nextSeq) s.nrg.nextSeq (husable'.trans husable)
  generalize s.numbered.keepRecord (withSeq r s.nrg.nextSeq) s.nrg.nextSeq = v at hexec htele hkept
  have hreg (o : Nat) : v.reg o = s.numbered.reg o := by rw [hkept]; rfl
  refine ⟨_, hexec, (get_of_reg fTLM_SEQ_SEQ (hreg _)).trans hseq, fun j hj => ?_, ⟨v.regs, v.cyc, ?_⟩, fun o ho => ?_⟩
  · refine (congrArg (fun l => memByte l (256 * (s.nrg.nextSeq % 256) + j)) htele).trans (memByte_putBytes_at _ _ _ ?_)
    rw [length_withSeq _ hlen]
    exact hj
  · generalize v.tele = tele at hkept
    subst hkept
    rfl
  · exact (hreg o).trans (hregs o (by simpa using ho))

theorem recordIssue_dropped (h : s.nrg.record = some r) (hdrop : 2 ≤ s.nrg.writes.length ∨ s.memUsable 5 = false ∨ s.pins.hostPwrgd = false) :
    Runs .tlmRecordIssue s fun u => u.nrg = { s.nrg with record := none, nextSeq := (s.nrg.nextSeq + 1) % 2 ^ 32 } ∧
      u.get fTLM_SEQ_SEQ = s.nrg.nextSeq % 2 ^ 32 ∧ u.stat evTLM_DROP = true ∧ u.get fTLM_DROP_COUNT = min (2 ^ 32 - 1) (s.get fTLM_DROP_COUNT + 1) ∧
      (s.memUsable 5 = false → u.tele = s.tele) ∧
      OnlyEvents { s with nrg := u.nrg, tele := u.tele, mem := u.mem } u ([TLM_SEQ, TLM_DROP] ++ eventRegs 15) := by
  have hgo : (2 ≤ s.nrg.writes.length || !s.memUsable 5 || !s.pins.hostPwrgd) = true := by
    simp only [Bool.or_eq_true, decide_eq_true_eq, Bool.not_eq_true']
    tauto
  have hexec := exec_tlmRecordIssue h
  rw [if_pos hgo] at hexec
  obtain ⟨hseq, husable, hregs⟩ := numbered_spec s
  obtain ⟨v, hv⟩ : ∃ v, v = s.numbered.keepRecord (withSeq r s.nrg.nextSeq) s.nrg.nextSeq := ⟨_, rfl⟩
  have hkept : ∃ tele m, v = { s.numbered with tele := tele, mem := m } ∧ (s.memUsable 5 = false → tele = s.tele) := by
    cases hu : s.memUsable 5 with
    | true =>
      obtain ⟨-, m, hm⟩ := keepRecord_kept s.numbered (r := withSeq r s.nrg.nextSeq) s.nrg.nextSeq (husable.trans hu)
      exact ⟨_, m, hv.trans hm, fun h => absurd h (by decide)⟩
    | false => exact ⟨s.tele, s.mem, hv.trans (keepRecord_lost _ _ _ (husable.trans hu)), fun _ => rfl⟩
  rw [← hv] at hexec
  obtain ⟨tele, m, hkept, htele⟩ := hkept
  have hreg (o : Nat) : v.reg o = s.numbered.reg o := by rw [hkept]; rfl
  obtain ⟨hstat, hcount, hbare, hdropped⟩ := dropRecord_spec v
  generalize v.dropRecord = u at hexec hstat hcount hbare hdropped
  have hnrg : u.nrg = v.nrg := (congrArg State.nrg hbare :)
  have hutele : u.tele = v.tele := (congrArg State.tele hbare :)
  have humem : u.mem = v.mem := (congrArg State.mem hbare :)
  refine ⟨u, hexec, ?_, ?_, hstat, ?_, fun hlost => ?_, onlyEvents_of ?_ fun o ho => ?_⟩
  · rw [hnrg, hkept]
    rfl
  · rw [get_of_reg fTLM_SEQ_SEQ ((hdropped _ (by decide)).trans (hreg _))]
    exact hseq
  · rw [hcount, get_of_reg fTLM_DROP_COUNT ((hreg _).trans (hregs _ (by decide)))]
  · rw [hutele, hkept]
    exact htele hlost
  · rw [hbare, hnrg, hutele, humem, hkept]
    rfl
  · simp only [List.cons_append, List.nil_append, List.mem_cons, not_or] at ho
    obtain ⟨hseqne, hdropne, hev⟩ := ho
    exact (hdropped o (by simp [hdropne, hev])).trans ((hreg o).trans (hregs o hseqne))

theorem writeResponse_spec {w : Nat × List Byte} {ws : List (Nat × List Byte)} (h : s.nrg.writes = w :: ws) :
    Runs (.tlmWriteResponse true) s (fun u => u.stat evTLM_PUSH = true ∧ OnlyEvents { s with nrg := { s.nrg with writes := ws } } u (eventRegs 15)) ∧
    Runs (.tlmWriteResponse false) s (fun u => u.stat evTLM_DROP = true ∧ u.get fTLM_DROP_COUNT = min (2 ^ 32 - 1) (s.get fTLM_DROP_COUNT + 1) ∧
      OnlyEvents { s with nrg := { s.nrg with writes := ws } } u ([TLM_DROP] ++ eventRegs 15)) := by
  have hexec (ok : Bool) : exec (.tlmWriteResponse ok) s = .next (if ok then ({ s with nrg := { s.nrg with writes := ws } } : State).raise evTLM_PUSH 0xFFFF
      else ({ s with nrg := { s.nrg with writes := ws } } : State).dropRecord) := by
    show execTlmWriteResponse ok s = _
    unfold execTlmWriteResponse
    rw [h]
    rfl
  obtain ⟨hstat, hcount, hbare, hregs⟩ := dropRecord_spec { s with nrg := { s.nrg with writes := ws } }
  exact ⟨⟨_, hexec true, stat_raise_same _ _ _ (by decide), onlyEvents_of (bare_raise _ _ _) fun o ho => reg_raiseD _ _ _ _ o ho⟩,
    ⟨_, hexec false, hstat, hcount, onlyEvents_of hbare hregs⟩⟩

/-! ### Writes of NRG_CLR and NRG_SFLAG (R459, R469) -/

theorem clr_placed : NRG_CLR % 4 = 0 ∧ NRG_CLR < 0x80000 ∧ coefWindow NRG_CLR = none ∧ commonAt NRG_CLR = none ∧ blockOf NRG_CLR = some 14 ∧
    accessOf NRG_CLR = some ⟨0, 0, 0, 0x1FFFF⟩ := by decide +kernel

theorem sflag_placed : ∀ k : Fin 8, NRG_SFLAG k % 4 = 0 ∧ NRG_SFLAG k < 0x80000 ∧ coefWindow (NRG_SFLAG k) = none ∧ commonAt (NRG_SFLAG k) = none ∧
    blockOf (NRG_SFLAG k) = some 14 ∧ accessOf (NRG_SFLAG k) = some ⟨0, 0, 0xFFFFFFFF, 0⟩ := by decide +kernel

theorem portWrite_nrgClr {p : Port} (hs : Served p NRG_CLR s) (m : Word) :
    ∃ c w, s.portWrite p NRG_CLR m = .next ((State.storeCap { s with cyc := c } NRG_CLR w m).okay 0) := by
  obtain ⟨h4, hlt, hcoef, hcommon, hblock, hacc⟩ := clr_placed
  have hbits : s.writeBits ⟨0, 0, 0, 0x1FFFF⟩ NRG_CLR m = m := by
    change m &&& ~~~(0#32 &&& _) = m
    rw [BitVec.zero_and, BitVec.not_zero, BitVec.and_allOnes]
  obtain ⟨c, hc⟩ := hostMark_eq s (p = .core) NRG_CLR (0 ||| 0x1FFFF)
  have hwrite := portWrite_in s p NRG_CLR m 14 ⟨0, 0, 0, 0x1FFFF⟩ hs h4 hlt hcoef hacc rfl hcommon hblock (by decide)
  rw [hbits] at hwrite
  dsimp only at hwrite
  rw [hc] at hwrite
  exact ⟨c, _, hwrite⟩

theorem ends_nrgClr {p : Port} (hs : Served p NRG_CLR s) (m : Word) :
    Ends (.nrgClr p m) s { s with nrg := { s.nrg with clr := s.nrg.clr ||| m.toNat % 2 ^ 17 }, bus := { slverr := false, data := 0 } } := by
  obtain ⟨c, w, hwrite⟩ := portWrite_nrgClr hs m
  refine ⟨_, hwrite, ?_⟩
  have hask : State.storeCap { s with cyc := c } NRG_CLR w m = State.askClear { s with cyc := c } (bitsAt m 0 17) := by
    unfold State.storeCap
    rw [if_neg (by decide), if_neg (by decide), if_neg (by decide), if_neg (by decide), if_pos rfl]
  have hmask : bitsAt m 0 17 % 2 ^ 17 = m.toNat % 2 ^ 17 := by rw [bitsAt, pow_zero, Nat.div_one, Nat.mod_mod]
  rw [hask]
  unfold State.askClear
  rw [hmask]
  rfl

theorem bitN_toNat (v : Word) (j : Nat) : bitN v.toNat j = v.getLsbD j := by
  rw [bitN, BitVec.getLsbD, Nat.testBit_eq_decide_div_mod_eq]

/-- The bits of a flag word that a write of 1 clears: those that hardware does not set in the same cycle (R15). -/
def State.flagMask (s : State) (k : Fin 8) (m : Word) : Word := m &&& ~~~(s.freshBits (NRG_SFLAG k))

theorem exec_sflagClear {p : Port} {k : Fin 8} (hs : Served p (NRG_SFLAG k) s) (m : Word) :
    exec (.sflagClear p k m) s = .next ((s.clearSflag k (s.flagMask k m).toNat).okay 0) := by
  obtain ⟨h4, hlt, hcoef, hcommon, hblock, hacc⟩ := sflag_placed k
  have hbits : s.writeBits ⟨0, 0, 0xFFFFFFFF, 0⟩ (NRG_SFLAG k) m = s.flagMask k m := by
    change m &&& ~~~(BitVec.allOnes 32 &&& _) = m &&& ~~~_
    rw [BitVec.allOnes_and]
  have hmark : s.hostMark (p = .core) (NRG_SFLAG k) (0 ||| 0) = s := if_pos (by simp)
  have hwrite := portWrite_in s p (NRG_SFLAG k) m 14 ⟨0, 0, 0xFFFFFFFF, 0⟩ hs h4 hlt hcoef hacc rfl hcommon hblock (by decide)
  rw [hbits] at hwrite
  dsimp only at hwrite
  rw [hmark] at hwrite
  refine hwrite.trans ?_
  have hstore (w v : Word) : s.storeIn (p = .core) 14 (NRG_SFLAG k) w v = s.clearSflag k v.toNat := by
    have hne : ∀ o ∈ [THM_SUSP0, THM_SUSP1, THM_CFG, CAP_PKG, NRG_CLR, TLM_BASE_LO, TLM_BASE_HI, TLM_COUNT], NRG_SFLAG k ≠ o :=
      (by decide : ∀ k : Fin 8, ∀ o ∈ [THM_SUSP0, THM_SUSP1, THM_CFG, CAP_PKG, NRG_CLR, TLM_BASE_LO, TLM_BASE_HI, TLM_COUNT], NRG_SFLAG k ≠ o) k
    have hgrade : arrayIx (CAP_DGRADE 0) 4 32 (NRG_SFLAG k) = none := (by decide : ∀ k : Fin 8, arrayIx (CAP_DGRADE 0) 4 32 (NRG_SFLAG k) = none) k
    have hflag : arrayIx (NRG_SFLAG 0) 4 8 (NRG_SFLAG k) = some k.val := (by decide : ∀ k : Fin 8, arrayIx (NRG_SFLAG 0) 4 8 (NRG_SFLAG k) = some k.val) k
    show s.storeCap (NRG_SFLAG k) w v = _
    simp only [List.mem_cons, List.not_mem_nil, or_false, forall_eq_or_imp, forall_eq] at hne
    obtain ⟨h0, h1, h2, h3, h4, h5, h6, h7⟩ := hne
    unfold State.storeCap
    rw [if_neg h0, if_neg h1, if_neg h2, if_neg h3, if_neg h4, if_neg (by simp [h5, h6, h7]), hgrade]
    dsimp only
    rw [hflag]
  rw [hstore]

/-- The step of one cell in a write of NRG_SFLAG. -/
def State.freeCell (a : State) (c : Nat) : State := (a.putB (fNRG_SMEAS_DERATED c) false).put (fNRG_SMEAS_COUNT c) 0

theorem reg_freeCell_ne (a : State) {c o : Nat} (h : o ≠ NRG_SMEAS c) : (a.freeCell c).reg o = a.reg o :=
  (reg_put_ne _ (fNRG_SMEAS_COUNT c) _ _ h).trans (reg_putB_ne _ (fNRG_SMEAS_DERATED c) _ _ h)

theorem freeCell_spec (a : State) (c : Nat) : (a.freeCell c).on (fNRG_SMEAS_DERATED c) = false ∧ (a.freeCell c).get (fNRG_SMEAS_COUNT c) = 0 ∧
    (a.freeCell c).get (fNRG_SMEAS_RMEAS c) = a.get (fNRG_SMEAS_RMEAS c) := by
  refine ⟨?_, ?_, ?_⟩
  · unfold State.freeCell
    rw [on_put_apart _ (fNRG_SMEAS_COUNT c) (fNRG_SMEAS_DERATED c) _ rfl (by simp)]
    exact on_putB_same _ _ _ (by simp) rfl
  · exact (get_put _ (fNRG_SMEAS_COUNT c) 0 (by simp)).trans (Nat.zero_mod _)
  · unfold State.freeCell
    rw [get_put_apart _ (fNRG_SMEAS_COUNT c) (fNRG_SMEAS_RMEAS c) _ rfl (by simp),
      get_putB_apart _ (fNRG_SMEAS_DERATED c) (fNRG_SMEAS_RMEAS c) _ rfl (by simp)]

theorem clearSflag_eq (s : State) (k m : Nat) : s.clearSflag k m = (upTo 32).foldl (fun a j =>
    if bitN m j && bitN (s.reg (NRG_SFLAG k)).toNat j then a.freeCell (32 * k + j) else a)
    (s.setReg (NRG_SFLAG k) (s.reg (NRG_SFLAG k) &&& ~~~(BitVec.ofNat 32 m))) := rfl

theorem clearSflag_spec (s : State) (k : Fin 8) (v : Word) :
    (s.clearSflag k v.toNat).reg (NRG_SFLAG k) = s.reg (NRG_SFLAG k) &&& ~~~v ∧ (∃ r, s.clearSflag k v.toNat = { s with regs := r }) ∧
    (∀ o, o ∉ [NRG_SFLAG k] ++ (upTo 32).map (fun j => NRG_SMEAS (32 * k + j)) → (s.clearSflag k v.toNat).reg o = s.reg o) ∧
    ∀ j, j < 32 → (v.getLsbD j = true → (s.reg (NRG_SFLAG k)).getLsbD j = true →
        ∃ a : State, a.reg (NRG_SMEAS (32 * k + j)) = s.reg (NRG_SMEAS (32 * k + j)) ∧
          (s.clearSflag k v.toNat).reg (NRG_SMEAS (32 * k + j)) = (a.freeCell (32 * k + j)).reg (NRG_SMEAS (32 * k + j))) ∧
      ((v.getLsbD j && (s.reg (NRG_SFLAG k)).getLsbD j) = false → (s.clearSflag k v.toNat).reg (NRG_SMEAS (32 * k + j)) = s.reg (NRG_SMEAS (32 * k + j))) := by
  obtain ⟨s1, hs1⟩ : ∃ s1, s1 = s.setReg (NRG_SFLAG k) (s.reg (NRG_SFLAG k) &&& ~~~v) := ⟨_, rfl⟩
  obtain ⟨f, hf⟩ : ∃ f : State → Nat → State, f = fun a j => if bitN v.toNat j && bitN (s.reg (NRG_SFLAG k)).toNat j then a.freeCell (32 * k + j) else a := ⟨_, rfl⟩
  have hrun : s.clearSflag k v.toNat = (upTo 32).foldl f s1 := by
    rw [clearSflag_eq, hf, hs1, BitVec.ofNat_toNat, BitVec.setWidth_eq]
  have hstep (a : State) {j o : Nat} (h : o ≠ NRG_SMEAS (32 * k + j)) : (f a j).reg o = a.reg o := by
    rw [hf]
    dsimp only
    split
    · exact reg_freeCell_ne a h
    · rfl
  have hout (l : List Nat) {o : Nat} (h : ∀ j ∈ l, o ≠ NRG_SMEAS (32 * k + j)) : (l.foldl f s1).reg o = s1.reg o :=
    foldl_keeps (fun a : State => a.reg o) (f := f) (l := l) (fun a j hj => hstep a (h j hj)) s1
  have hs1ne {o : Nat} (h : o ≠ NRG_SFLAG k) : s1.reg o = s.reg o := hs1 ▸ reg_setReg_ne _ _ _ _ h
  have hk := k.isLt
  rw [hrun]
  refine ⟨?_, ?_, fun o ho => ?_, fun j hj => ?_⟩
  · rw [hout _ fun j _ => by simp only [NRG_SFLAG, NRG_SMEAS]; omega, hs1]
    exact reg_setReg_same _ _ _
  · refine foldl_keeps_prop (I := fun a : State => ∃ r, a = { s with regs := r }) (fun a j _ ha => ?_) ⟨s1.regs, by rw [hs1]; rfl⟩
    obtain ⟨r, rfl⟩ := ha
    rw [hf]
    dsimp only
    split
    · exact ⟨_, rfl⟩
    · exact ⟨r, rfl⟩
  · simp only [List.mem_append, List.mem_singleton, List.mem_map, mem_upTo, not_or, not_exists, not_and] at ho
    rw [hout _ fun j hj => fun h => ho.2 j (mem_upTo.mp hj) h.symm, hs1ne ho.1]
  · have hat := foldl_upTo_at (fun a : State => a.reg (NRG_SMEAS (32 * k + j))) (f := f) hj
      (fun a i _ hi => hstep a (by simp only [NRG_SMEAS]; omega)) s1
    have hold : ((upTo j).foldl f s1).reg (NRG_SMEAS (32 * k + j)) = s.reg (NRG_SMEAS (32 * k + j)) := by
      rw [hout _ fun i hi => by have := mem_upTo.mp hi; simp only [NRG_SMEAS]; omega]
      exact hs1ne (by simp only [NRG_SFLAG, NRG_SMEAS]; omega)
    generalize (upTo j).foldl f s1 = a at hat hold
    refine ⟨fun hv hr => ⟨a, hold, ?_⟩, fun hno => ?_⟩
    · rw [hat, hf]
      simp only [bitN_toNat, hv, hr, Bool.and_self, if_true]
    · rw [hat, hf]
      simp only [bitN_toNat, hno, Bool.false_eq_true, if_false]
      exact hold

theorem runs_sflagClear {p : Port} {k : Fin 8} (hs : Served p (NRG_SFLAG k) s) (m : Word) : Runs (.sflagClear p k m) s fun u =>
    u.reg (NRG_SFLAG k) = s.reg (NRG_SFLAG k) &&& ~~~(m &&& ~~~(s.freshBits (NRG_SFLAG k))) ∧
    (∀ j, j < 32 →
      (m.getLsbD j = true → (s.freshBits (NRG_SFLAG k)).getLsbD j = false → (s.reg (NRG_SFLAG k)).getLsbD j = true →
        u.on (fNRG_SMEAS_DERATED (32 * k + j)) = false ∧ u.get (fNRG_SMEAS_COUNT (32 * k + j)) = 0 ∧
        u.get (fNRG_SMEAS_RMEAS (32 * k + j)) = s.get (fNRG_SMEAS_RMEAS (32 * k + j))) ∧
      ((m.getLsbD j = false ∨ (s.freshBits (NRG_SFLAG k)).getLsbD j = true ∨ (s.reg (NRG_SFLAG k)).getLsbD j = false) →
        u.reg (NRG_SMEAS (32 * k + j)) = s.reg (NRG_SMEAS (32 * k + j)))) ∧
    OnlyRegs { s with bus := { slverr := false, data := 0 } } u ([NRG_SFLAG k] ++ (upTo 32).map fun j => NRG_SMEAS (32 * k + j)) := by
  have hexec := exec_sflagClear hs m
  obtain ⟨hflag, ⟨r, hr⟩, hregs, hcells⟩ := clearSflag_spec s k (s.flagMask k m)
  generalize s.clearSflag k (s.flagMask k m).toNat = v at hexec hflag hr hregs hcells
  have hreg (o : Nat) : (v.okay 0).reg o = v.reg o := rfl
  have hbit {j : Nat} (hj : j < 32) : (s.flagMask k m).getLsbD j = (m.getLsbD j && !(s.freshBits (NRG_SFLAG k)).getLsbD j) := by
    simp [State.flagMask, hj]
  refine ⟨_, hexec, hflag, fun j hj => ⟨fun hm hfresh hset => ?_, fun hnot => ?_⟩, ⟨r, s.cyc, by rw [hr]; rfl⟩, fun o ho => hregs o ho⟩
  · obtain ⟨a, ha, hfree⟩ := (hcells j hj).1 (by rw [hbit hj, hm, hfresh]; rfl) hset
    obtain ⟨hder, hcount, hmeas⟩ := freeCell_spec a (32 * k + j)
    refine ⟨(on_of_reg (fNRG_SMEAS_DERATED (32 * k + j)) ((hreg _).trans hfree)).trans hder,
      (get_of_reg (fNRG_SMEAS_COUNT (32 * k + j)) ((hreg _).trans hfree)).trans hcount,
      (get_of_reg (fNRG_SMEAS_RMEAS (32 * k + j)) ((hreg _).trans hfree)).trans (hmeas.trans (get_of_reg (fNRG_SMEAS_RMEAS (32 * k + j)) ha))⟩
  · refine (hcells j hj).2 ?_
    rw [hbit hj]
    rcases hnot with h | h | h <;> rw [h] <;> simp

end Sys2Proof.Machine
end

section
/-!
SETTLED. The millisecond divides its energy without loss; records, their numbers and their responses.
-/

open Sys2Proof Sys2Proof.Machine

/-- Settles O53: the floors and the ranks of the remainders add up to the energy; the boundary, the records and the writes one by one. -/
theorem energyAndTelemetry : Obligations.EnergyAndTelemetry := by
  unfold Obligations.EnergyAndTelemetry
  refine ⟨sumOver_increment, fun s p ok m k r w ws => ⟨fun hpor haon hms => ⟨fun hmeasured => ?_, fun hnot => ?_⟩, exec_msBoundary_idle,
    fun hnone => ?_, fun hr hlen => ⟨recordIssue_written hr hlen, recordIssue_dropped hr⟩, fun hnone => ?_, writeResponse_spec,
    fun hs => ends_nrgClr hs m, fun hs => runs_sflagClear hs m⟩⟩
  · have hexec := exec_msBoundary hpor haon hms
    rw [if_pos hmeasured] at hexec
    exact ⟨_, hexec, msMeasured_spec s rfl⟩
  · have hexec := exec_msBoundary hpor haon hms
    rw [if_neg (by simp [hnot])] at hexec
    exact ⟨_, hexec, skipMs_spec s rfl⟩
  · show execTlmRecordIssue s = _
    unfold execTlmRecordIssue
    rw [hnone]
  · show execTlmWriteResponse ok s = _
    unfold execTlmWriteResponse
    rw [hnone]

end

section
/-!
SUPPORT. A tract that is stopped stays stopped whatever the loss of its cells moves (R145, R194, Table 3.6).
-/

namespace Sys2Proof.Machine

variable {s t u : State} {k : Nat}

/-- A step that leaves a tract stopped that is. -/
def StaysStopped (k : Nat) (s t : State) : Prop := s.get (fTRC_TSTAT_STATE k) = 4 → t.get (fTRC_TSTAT_STATE k) = 4

theorem StaysStopped.refl (s : State) : StaysStopped k s s := id
theorem StaysStopped.trans (h : StaysStopped k s t) (h' : StaysStopped k t u) : StaysStopped k s u := fun hs => h' (h hs)
theorem StaysStopped.of_reg (h : t.reg (TRC_TSTAT k) = s.reg (TRC_TSTAT k)) : StaysStopped k s t := fun hs => (get_of_reg (fTRC_TSTAT_STATE k) h).trans hs

theorem StaysStopped.ite {c : Prop} [Decidable c] (h : StaysStopped k s t) (h' : StaysStopped k s u) : StaysStopped k s (if c then t else u) := by
  split
  · exact h
  · exact h'

theorem StaysStopped.foldl {α : Type} {f : State → α → State} (l : List α) (s : State) (hf : ∀ u, ∀ a ∈ l, StaysStopped k u (f u a)) : StaysStopped k s (l.foldl f s) :=
  foldl_keeps_prop (I := StaysStopped k s) (fun u a ha hu => hu.trans (hf u a ha)) (.refl s)

theorem StaysStopped.setReg (s : State) {o : Nat} (v : Word) (ho : o ≠ TRC_TSTAT k) : StaysStopped k s (s.setReg o v) := .of_reg (reg_setReg_ne _ _ _ _ ho.symm)
theorem StaysStopped.put (s : State) (f : Fld) (n : Nat) (ho : f.off ≠ TRC_TSTAT k) : StaysStopped k s (s.put f n) := .setReg s _ ho
theorem StaysStopped.putI (s : State) (f : Fld) (n : Int) (ho : f.off ≠ TRC_TSTAT k) : StaysStopped k s (s.putI f n) := .setReg s _ ho
theorem StaysStopped.putB (s : State) (f : Fld) (b : Bool) (ho : f.off ≠ TRC_TSTAT k) : StaysStopped k s (s.putB f b) := .setReg s _ ho

theorem tstat_not_event {b : Nat} (hb : b ∈ [3, 5, 6, 11]) (hk : k < 64) : TRC_TSTAT k ∉ eventRegs b := by
  have hbase : blockBase b < 0x21000 - 0x20 ∨ 0x22000 < blockBase b := by revert hb; revert b; decide
  refine apart_eventRegs ?_ ?_ ?_ ?_ <;> simp only [TRC_TSTAT] <;> omega

theorem StaysStopped.raiseD (s : State) {e : Ev} (i d : Nat) (he : e.block ∈ [3, 5, 6, 11]) (hk : k < 64) : StaysStopped k s (s.raiseD e i d) :=
  .of_reg (reg_raiseD _ _ _ _ _ (tstat_not_event he hk))

theorem stays_setMode (s : State) (c m : Nat) (hc : c < 256) : StaysStopped k s (s.setMode c m) := by
  unfold State.setMode
  exact .ite (.refl s) (.put s _ _ (by simp only [CEL_CSTAT, TRC_TSTAT]; omega))

theorem stays_idleLoop (s : State) (j : Nat) : StaysStopped k s (s.idleLoop j) := by
  intro hs
  unfold State.idleLoop
  dsimp only
  split
  · exact hs
  · next hgoing =>
    have hne : j ≠ k := by
      rintro rfl
      exact hgoing (by simp [State.stopped, hs])
    have hput (u : State) (hu : u.reg (TRC_TSTAT k) = s.reg (TRC_TSTAT k)) : (u.put (fTRC_TSTAT_STATE j) 5).reg (TRC_TSTAT k) = s.reg (TRC_TSTAT k) :=
      (reg_put_ne _ (fTRC_TSTAT_STATE j) _ _ (by simp only [TRC_TSTAT]; omega)).trans hu
    refine (get_of_reg (fTRC_TSTAT_STATE k) (hput _ ?_)).trans hs
    split
    · exact reg_putB_ne _ fBLK_TRST_BUSY _ _ (by simp only [TRC_TSTAT, BLK_TRST]; omega)
    · rfl

theorem stays_aim (s : State) (iv code : Nat) {c : Nat} (hc : c < 256) : StaysStopped k s (s.aim iv code c) := by
  have hput (v : State) : StaysStopped k v (v.put (fCEL_CSTAT_TARGET c) code) := .put v _ _ (by simp only [CEL_CSTAT, TRC_TSTAT]; omega)
  have hcadence : StaysStopped k s (s.recadence iv c) := .of_reg rfl
  unfold State.aim
  dsimp only
  split
  · exact hcadence.trans (hput _)
  · exact hput s

theorem stays_retarget (s : State) (d : Nat) : StaysStopped k s (s.retarget d) := by
  unfold State.retarget
  dsimp only
  split
  · exact .foldl _ s fun u c hc => stays_aim u _ _ (cell_lt_of_mem_cellsOf hc)
  · exact .refl s

theorem stays_relift (s : State) {d : Nat} (idx data : Nat) (hd : d < 32) (hk : k < 64) : StaysStopped k s (s.relift d idx data) := by
  have hput (m n : Nat) : StaysStopped k s ((s.put (fSO_DLIFT_LIFT d) m).put (fSO_DLIFT_INST d) n) :=
    .trans (.put s _ _ (by simp only [SO_DLIFT, TRC_TSTAT]; omega)) (.put _ _ _ (by simp only [SO_DLIFT, TRC_TSTAT]; omega))
  have hclip (m n : Nat) (c : Prop) [Decidable c] : StaysStopped k s (if c then
      ((s.put (fSO_DLIFT_LIFT d) m).put (fSO_DLIFT_INST d) n).raiseD evSO_LIFT_CLIP idx data else
      (s.put (fSO_DLIFT_LIFT d) m).put (fSO_DLIFT_INST d) n) :=
    .ite ((hput m n).trans (.raiseD _ _ _ (by decide) hk)) (hput m n)
  have hdom (u : State) (f : DomHid → DomHid) : StaysStopped k u (u.updDom d f) := .of_reg rfl
  unfold State.relift
  dsimp only
  refine StaysStopped.trans (StaysStopped.ite ?_ (StaysStopped.trans ?_ (hdom _ _))) (stays_retarget _ d)
  · exact hclip _ _ _
  · exact hclip _ _ _

theorem stays_enterRun (s : State) (hk : k < 64) : StaysStopped k s s.enterRun := by
  refine .of_reg (sameRegs_enterRun s _ ?_)
  have hevent := tstat_not_event (b := 11) (by decide) hk
  simp only [runRegs, List.mem_append, List.mem_cons, List.not_mem_nil, or_false, hevent, false_or, PST_STATE, MON_ACTIVE, IBS_TGT, IBS_STATE, TRC_TSTAT]
  omega

theorem stays_checkRun (s : State) (hk : k < 64) : StaysStopped k s s.checkRun := by
  unfold State.checkRun
  exact .ite (stays_enterRun s hk) (.refl s)

theorem stays_ibHysteretic (s : State) (hk : k < 64) : StaysStopped k s s.ibHysteretic := by
  have hmode : StaysStopped k s (s.setIbMode 2) :=
    .trans (.put s fIBS_STATE_MODE _ (by simp only [IBS_STATE, TRC_TSTAT]; omega)) (.putB _ fIBS_STATE_DE _ (by simp only [IBS_STATE, TRC_TSTAT]; omega))
  unfold State.ibHysteretic State.hysModes
  refine hmode.trans (.foldl _ _ fun u p hp => ?_)
  have hlt := mem_upTo.mp hp
  have hset (m : Nat) : StaysStopped k u (u.setP p m) := .put u _ _ (by simp only [IBS_PSTAT, TRC_TSTAT]; omega)
  exact .ite (.refl u) (.ite (hset 2) (.ite (.refl u) (hset 3)))

theorem stays_adcStop (s : State) (hk : k < 64) : StaysStopped k s s.adcStop := by
  have hstate : ADC_STATE ≠ TRC_TSTAT k := by simp only [ADC_STATE, TRC_TSTAT]; omega
  have hseq : ADC_SSTAT 0 ≠ TRC_TSTAT k ∧ ADC_SSTAT 1 ≠ TRC_TSTAT k := by simp only [ADC_SSTAT, TRC_TSTAT]; omega
  have hupd (u : State) (j : Nat) (f : ConvHid → ConvHid) : StaysStopped k u (u.updConv j f) := .of_reg rfl
  have hadc (u : State) (f : AdcHid → AdcHid) : StaysStopped k u (u.updAdc f) := .of_reg rfl
  unfold State.adcStop
  exact ((((((StaysStopped.putB s fADC_STATE_BM_RDY false hstate).trans (.putB _ fADC_STATE_ALT_RDY false hstate)).trans (.put _ ⟨ADC_SSTAT 0, 0, 8⟩ 0 hseq.1)).trans
    (hupd _ _ _)).trans (.put _ ⟨ADC_SSTAT 1, 0, 8⟩ 0 hseq.2)).trans (hupd _ _ _)).trans (hadc _ _)

theorem StaysStopped.clocksStopped (h : StaysStopped k s t) (c : ClkHid) (e : EnvHid) (p : PstHid) : StaysStopped k s { t with clk := c, env := e, pst := p } := h

theorem stays_stopClocks (s : State) (hk : k < 64) : StaysStopped k s s.stopClocks := by
  have horiginate : StaysStopped k s (s.originate 2 11 s.pst.target) := .of_reg (by rw [State.reg, regs_originate, State.reg])
  have hpulse (u : State) (j : Nat) : StaysStopped k u ((u.setPulse j false).judgePulse j) := .of_reg rfl
  unfold State.stopClocks
  extract_lets hyst s0 s1 s2
  have h1 : StaysStopped k s s1 := by
    refine horiginate.trans (.foldl _ _ fun u d _ => .ite (.foldl _ u fun v j hj => ?_) (.refl u))
    refine .trans (.trans ?_ (hpulse _ j)) (stays_idleLoop _ j)
    refine .foldl _ v fun w c hc => ?_
    split
    · exact .refl w
    · exact stays_setMode w _ _ (cell_lt_of_mem_cellsIn (tract_lt_of_mem_tractsOf hj) hc)
  have h2 : StaysStopped k s s2 := .ite (h1.trans (stays_ibHysteretic s1 hk)) h1
  exact (h2.trans (stays_adcStop s2 hk)).clocksStopped _ _ _

theorem stays_checkEntry (s : State) (hk : k < 64) : StaysStopped k s s.checkEntry := by
  unfold State.checkEntry
  exact .ite (.ite (.of_reg rfl) (stays_stopClocks s hk)) (.refl s)

theorem stays_domMoved (s : State) {d : Nat} (hd : d < 32) (hk : k < 64) : StaysStopped k s (s.domMoved d) :=
  ((stays_relift s _ _ hd hk).trans (stays_checkRun _ hk)).trans (stays_checkEntry _ hk)

theorem stays_cellsOff (s : State) (d : Nat) : StaysStopped k s (s.cellsOff d) := by
  refine .foldl _ s fun u c hc => ?_
  have hlt := cell_lt_of_mem_cellsOf hc
  have hdone (v : State) : StaysStopped k v (v.putB (fCEL_CSTAT_SS_DONE c) false) := .putB v _ _ (by simp only [CEL_CSTAT, TRC_TSTAT]; omega)
  exact .trans (.ite (.refl u) (stays_setMode u c 0 hlt)) (hdone _)

theorem stays_dropDomain (s : State) {d : Nat} (hd : d < 32) (hk : k < 64) : StaysStopped k s (s.dropDomain d) := by
  have hidle (u : State) : StaysStopped k u (u.idleLoops d) := .foldl _ u fun v j _ => stays_idleLoop v j
  have hset (u : State) : StaysStopped k u (u.setDom d 1 .rest) := .of_reg (reg_setDom u d 1 .rest (by simp only [DOM_DSTAT, TRC_TSTAT]; omega))
  have hdom (u : State) (f : DomHid → DomHid) : StaysStopped k u (u.updDom d f) := .of_reg rfl
  exact ((((stays_cellsOff s d).trans (hidle _)).trans (hset _)).trans (hdom _ _)).trans (stays_domMoved _ hd hk)

theorem stays_setShares (s : State) {j : Nat} (i : Int) (hj : j < 64) : StaysStopped k s (s.setShares j i) := by
  refine .foldl _ s fun u c hc => ?_
  have hlt := cell_lt_of_mem_cellsIn hj hc
  have hne : CEL_TEMP c ≠ TRC_TSTAT k := by simp only [CEL_TEMP, TRC_TSTAT]; omega
  have hupd (v : State) (f : CellHid → CellHid) : StaysStopped k v (v.updCell c f) := .of_reg rfl
  exact ((StaysStopped.putI u (fCEL_TEMP_TEST c) _ hne).trans (.put _ (fCEL_TEMP_SHED c) _ hne)).trans (hupd _ _)

theorem stays_reseat (s : State) {j : Nat} (hj : j < 64) : StaysStopped k s (s.reseat j) := by
  unfold State.reseat
  dsimp only
  refine .ite (.refl s) ?_
  split
  · exact .refl s
  · next c hc =>
    have hmem := (mem_healthyIn.mp (List.mem_of_head? hc)).1
    exact stays_setMode s c _ (by omega)

theorem stays_afterCellLoss (s : State) {c : Nat} (hc : c < 256) (hk : k < 64) : StaysStopped k s (s.afterCellLoss c) := by
  have htract : c / 4 < 64 := by omega
  have hraise (u : State) (e : Ev) (he : e.block = 3) : StaysStopped k u (u.raise e c) := .raiseD u _ _ (by rw [he]; decide) hk
  unfold State.afterCellLoss
  dsimp only
  split
  · exact .refl s
  · have hlate (p : Prop) [Decidable p] (f : TractHid → TractHid) : StaysStopped k s (if p then s.updTract (c / 4) f else s) := .ite (.of_reg rfl) (.refl s)
    refine .ite ?_ (.ite (hraise s _ rfl) ?_)
    · exact ((hlate _ _).trans (stays_reseat _ htract)).trans (stays_setShares _ _ htract)
    · exact ((stays_dropDomain s (by omega) hk).trans (hraise _ _ rfl)).trans (hraise _ _ rfl)

/-! ### Status bits stay over the loss of a cell -/

theorem freeReg_celTemp {c : Nat} (h : c < 256) : freeReg (CEL_TEMP c) := by
  refine freeReg_of ?_ ?_ ?_ <;> simp only [CEL_TEMP] <;> omega

theorem movement_setShares (s : State) {j : Nat} (i : Int) (hj : j < 64) : Movement s (s.setShares j i) := by
  refine (Movement.refl s).foldl _ fun u c hc => ?_
  have hlt := cell_lt_of_mem_cellsIn hj hc
  exact (((Movement.refl u).putI (f := fCEL_TEMP_TEST c) _ (freeReg_celTemp hlt)).put (f := fCEL_TEMP_SHED c) _ (freeReg_celTemp hlt)).updCell _ _

theorem movement_reseat (s : State) {j : Nat} (hj : j < 64) : Movement s (s.reseat j) := by
  unfold State.reseat
  dsimp only
  refine .ite (.refl s) ?_
  split
  · exact .refl s
  · next c hc =>
    have hmem := (mem_healthyIn.mp (List.mem_of_head? hc)).1
    exact movement_setMode s _ (by omega)

theorem movement_afterCellLoss (s : State) {c : Nat} (hc : c < 256) : Movement s (s.afterCellLoss c) := by
  have htract : c / 4 < 64 := by omega
  unfold State.afterCellLoss
  dsimp only
  split
  · exact .refl s
  · have hlate (p : Prop) [Decidable p] (f : TractHid → TractHid) : Movement s (if p then s.updTract (c / 4) f else s) :=
      .ite ((Movement.refl s).updTract _ _) (.refl s)
    refine .ite ?_ (.ite ((Movement.refl s).raise _ (by decide)) ?_)
    · exact ((hlate _ _).trans (movement_reseat _ htract)).trans (movement_setShares _ _ htract)
    · exact ((movement_dropDomain s (by omega)).raise _ (by decide)).raise _ (by decide)

end Sys2Proof.Machine
end

section
/-!
SUPPORT. An engine found failed, and the loss of both (R176, R196, R199).
-/

namespace Sys2Proof.Machine

variable {s t u : State}

/-- The state without what events touch and without its tracts. -/
def State.sansTracts (s : State) : State := { s.bare with tracts := [] }
/-- The same without its cells. -/
def State.sansCells (s : State) : State := { s.bare with cells := [] }

theorem ofBare_sansTracts : OfBare State.sansTracts := fun _ _ h => congrArg (fun w : State => { w with tracts := [] }) h
theorem ofBare_sansCells : OfBare State.sansCells := fun _ _ h => congrArg (fun w : State => { w with cells := [] }) h

theorem Within.updTract {l : List Nat} (h : Within State.sansTracts l s t) (k : Nat) (f : TractHid → TractHid) :
    Within State.sansTracts l s (t.updTract k f) := h.hidden
theorem Within.updCell {l : List Nat} (h : Within State.sansCells l s t) (k : Nat) (f : CellHid → CellHid) :
    Within State.sansCells l s (t.updCell k f) := h.hidden

theorem loops_of_sansTracts (h : t.sansTracts = s.sansTracts) : t.loops = s.loops ∧ t.now = s.now :=
  ⟨(congrArg State.loops h :), (congrArg State.now h :)⟩

theorem tract_raiseIf (s : State) (c : Bool) (e : Ev) (i k : Nat) : (s.raiseIf c e i).tract k = s.tract k :=
  (congrArg (fun v : State => v.tract k) (bare_raiseIf s c e i) :)

/-! ### The tracts when a failover begins (R196) -/

/-- The registers that the beginning of a failover changes for its tracts. -/
def failRegs : List Nat := [BLK_TRST] ++ (upTo 64).map TRC_TSTAT ++ eventRegs 5

theorem failRegs_trst : BLK_TRST ∈ failRegs ∧ ∀ n, BLK_TRST ≠ blockBase n := ⟨by simp [failRegs], not_base (by decide) (by decide)⟩

theorem failRegs_tstat {k : Nat} (hk : k < 64) : TRC_TSTAT k ∈ failRegs ∧ ∀ n, TRC_TSTAT k ≠ blockBase n := by
  refine ⟨?_, not_base (by simp only [TRC_TSTAT]; omega) (by simp only [TRC_TSTAT]; omega)⟩
  simp only [failRegs, List.mem_append, List.mem_map_of_mem (mem_upTo.mpr hk), or_true, true_or]

theorem failRegs_event : ∀ o ∈ eventRegs 5, o ∈ failRegs := fun _ ho => List.mem_append_right _ ho

/-- A tract marked for the failover, before its state is (R190, Table 3.3). -/
def State.failMarked (s : State) (t0 t : Nat) : State :=
  let st := s.loopState t
  let s1 := s.updTract t fun h =>
    { h with failPause := true, staging := none, seeded := false, closeAt := none, internal := 0, lastSlot := decide (st ≤ 1 && !h.wasStopped),
             holdAt := if st = 4 || st = 5 then none else some (h.holdAt.getD (t0 + 80)) }
  (if st = 6 && (s.tract t).internal = 1 then s1.putB fBLK_TRST_BUSY false else s1).raiseIf (st = 2) evTRC_REFUSED t

theorem failTract_eq (s : State) (t0 t : Nat) : s.failTract t0 t =
    if s.loopState t = 4 || s.loopState t = 5 then s.failMarked t0 t
    else if s.stopped t && (s.tract t).closeAt.isNone then
      ((s.failMarked t0 t).put (fTRC_TSTAT_STATE t) 4).updTract t fun h => { h with wasStopped := false, holdAt := none }
    else (s.failMarked t0 t).put (fTRC_TSTAT_STATE t) 3 := rfl

theorem within_failMarked (s : State) (t0 k : Nat) : Within State.sansTracts failRegs s (s.failMarked t0 k) := by
  unfold State.failMarked
  extract_lets st s1
  have h1 : Within State.sansTracts failRegs s s1 := (Within.refl _ _ s).updTract k _
  exact Within.raiseIf (.ite (h1.putB ofBare_sansTracts _ failRegs_trst) h1) ofBare_sansTracts _ _ failRegs_event

theorem failMarked_spec (s : State) (t0 : Nat) {k : Nat} (hk : k < 64) :
    (s.failMarked t0 k).reg (TRC_TSTAT k) = s.reg (TRC_TSTAT k) ∧ ((s.failMarked t0 k).tract k).failPause = true ∧
    ((s.failMarked t0 k).tract k).staging = none ∧ ((s.failMarked t0 k).tract k).seeded = false ∧
    (s.loopState k ≠ 4 → s.loopState k ≠ 5 → ((s.failMarked t0 k).tract k).holdAt = some ((s.tract k).holdAt.getD (t0 + 80))) ∧
    ∀ j, j ≠ k → (s.failMarked t0 k).tract j = s.tract j := by
  unfold State.failMarked
  extract_lets st s1
  have hmark : ∀ j, (if st = 6 && (s.tract k).internal = 1 then s1.putB fBLK_TRST_BUSY false else s1).tract j = s1.tract j := fun j => by split <;> rfl
  have htstat : (if st = 6 && (s.tract k).internal = 1 then s1.putB fBLK_TRST_BUSY false else s1).reg (TRC_TSTAT k) = s1.reg (TRC_TSTAT k) := by
    split
    · exact reg_putB_ne _ fBLK_TRST_BUSY _ _ (by simp only [TRC_TSTAT, BLK_TRST]; omega)
    · rfl
  have hsame : s1.tract k = _ := tract_updTract_same s k _
  refine ⟨(reg_raiseIf _ _ _ _ _ (tstat_not_event (by decide) hk)).trans htstat, ?_, ?_, ?_, fun h4 h5 => ?_, fun j hj => ?_⟩
  · rw [tract_raiseIf, hmark, hsame]
  · rw [tract_raiseIf, hmark, hsame]
  · rw [tract_raiseIf, hmark, hsame]
  · rw [tract_raiseIf, hmark, hsame]
    exact if_neg (by simp [st, h4, h5])
  · rw [tract_raiseIf, hmark]
    exact tract_updTract_ne s _ hj

theorem within_failTract (s : State) (t0 : Nat) {k : Nat} (hk : k < 64) : Within State.sansTracts failRegs s (s.failTract t0 k) := by
  have hmark := within_failMarked s t0 k
  rw [failTract_eq]
  exact .ite hmark (.ite ((hmark.put ofBare_sansTracts _ (failRegs_tstat hk)).updTract k _) (hmark.put ofBare_sansTracts _ (failRegs_tstat hk)))

/-- What the beginning of a failover leaves of a tract. -/
structure FailedOver (s : State) (t0 k : Nat) (u : State) : Prop where
  pause : (u.tract k).failPause = true
  staging : (u.tract k).staging = none
  seeded : (u.tract k).seeded = false
  going : s.loopState k ≠ 4 → s.loopState k ≠ 5 → s.stopped k = false →
    u.get (fTRC_TSTAT_STATE k) = 3 ∧ (u.tract k).holdAt = some ((s.tract k).holdAt.getD (t0 + 80))
  resting : s.loopState k = 4 ∨ s.loopState k = 5 → u.get (fTRC_TSTAT_STATE k) = s.get (fTRC_TSTAT_STATE k)

theorem failTract_spec (s : State) (t0 : Nat) {k : Nat} (hk : k < 64) : FailedOver s t0 k (s.failTract t0 k) := by
  obtain ⟨hreg, hpause, hstaging, hseeded, hhold, -⟩ := failMarked_spec s t0 hk
  have hput (u : State) (n : Nat) (hn : n < 8) : (u.put (fTRC_TSTAT_STATE k) n).get (fTRC_TSTAT_STATE k) = n :=
    (get_put u (fTRC_TSTAT_STATE k) n (by simp)).trans (Nat.mod_eq_of_lt hn)
  rw [failTract_eq]
  generalize s.failMarked t0 k = v at *
  split
  · next hrest =>
    refine ⟨hpause, hstaging, hseeded, fun h4 h5 => absurd hrest (by simp [h4, h5]), fun _ => get_of_reg (fTRC_TSTAT_STATE k) hreg⟩
  · next hgo =>
    have hnot : ¬(s.loopState k = 4 ∨ s.loopState k = 5) := by simpa using hgo
    split
    · next hstop =>
      have htract : ((v.put (fTRC_TSTAT_STATE k) 4).updTract k fun h => { h with wasStopped := false, holdAt := none }).tract k =
          { v.tract k with wasStopped := false, holdAt := none } := tract_updTract_same _ k _
      refine ⟨?_, ?_, ?_, fun _ _ hs => absurd hstop (by simp [hs]), fun h => absurd h hnot⟩ <;> rw [htract] <;> assumption
    · exact ⟨hpause, hstaging, hseeded, fun h4 h5 _ => ⟨hput v 3 (by decide), hhold h4 h5⟩, fun h => absurd h hnot⟩

theorem failTract_ne (s : State) (t0 : Nat) {j k : Nat} (hj : j < 64) (hk : k < 64) (hne : j ≠ k) :
    (s.failTract t0 j).tract k = s.tract k ∧ (s.failTract t0 j).reg (TRC_TSTAT k) = s.reg (TRC_TSTAT k) := by
  obtain ⟨-, -, -, -, -, hother⟩ := failMarked_spec s t0 hj
  have hregs : (s.failMarked t0 j).reg (TRC_TSTAT k) = s.reg (TRC_TSTAT k) := by
    unfold State.failMarked
    extract_lets st s1
    refine (reg_raiseIf _ _ _ _ _ (tstat_not_event (by decide) hk)).trans ?_
    split
    · exact reg_putB_ne _ fBLK_TRST_BUSY _ _ (by simp only [TRC_TSTAT, BLK_TRST]; omega)
    · rfl
  have hput (n : Nat) : ((s.failMarked t0 j).put (fTRC_TSTAT_STATE j) n).reg (TRC_TSTAT k) = s.reg (TRC_TSTAT k) :=
    (reg_put_ne _ (fTRC_TSTAT_STATE j) _ _ (by simp only [TRC_TSTAT]; omega)).trans hregs
  have htract := hother k hne.symm
  rw [failTract_eq]
  split
  · exact ⟨htract, hregs⟩
  · split
    · exact ⟨(tract_updTract_ne _ _ hne.symm).trans htract, hput 4⟩
    · exact ⟨htract, hput 3⟩

/-- The tracts of the die, one after the other. -/
theorem failTracts_spec (s : State) (t0 : Nat) : Within State.sansTracts failRegs s (forEach (upTo 64) (fun t s => s.failTract t0 t) s) ∧
    ∀ k, k < 64 → FailedOver s t0 k (forEach (upTo 64) (fun t s => s.failTract t0 t) s) := by
  refine ⟨.foldl _ (fun u k hk => within_failTract u t0 (mem_upTo.mp hk)) s, fun k hk => ?_⟩
  obtain ⟨v, hv⟩ : ∃ v, v = (upTo k).foldl (fun s t => State.failTract s t0 t) s := ⟨_, rfl⟩
  have hpre : v.tract k = s.tract k ∧ v.reg (TRC_TSTAT k) = s.reg (TRC_TSTAT k) ∧ v.loops = s.loops ∧ v.now = s.now := by
    have hwithin : Within State.sansTracts failRegs s v := hv ▸ .foldl _ (fun u j hj => within_failTract u t0 (by have := mem_upTo.mp hj; omega)) s
    obtain ⟨hloops, hnow⟩ := loops_of_sansTracts hwithin.data
    have hkeep := foldl_keeps (fun w : State => (w.tract k, w.reg (TRC_TSTAT k))) (f := fun s t => State.failTract s t0 t) (l := upTo k) (fun w j hj => by
      have hlt := mem_upTo.mp hj
      obtain ⟨ht, hr⟩ := failTract_ne w t0 (j := j) (by omega) hk (by omega)
      exact Prod.ext ht hr) s
    rw [← hv] at hkeep
    obtain ⟨ht, hr⟩ := Prod.ext_iff.mp hkeep
    exact ⟨ht, hr, hloops, hnow⟩
  have hat := foldl_upTo_at (fun w : State => (w.tract k, w.reg (TRC_TSTAT k))) (f := fun s t => State.failTract s t0 t) hk (fun w j hj hne => by
    obtain ⟨ht, hr⟩ := failTract_ne w t0 hj hk hne
    exact Prod.ext ht hr) s
  rw [← hv] at hat
  obtain ⟨htract, hreg, hloops, hnow⟩ := hpre
  obtain ⟨hft, hfr⟩ := Prod.ext_iff.mp hat
  dsimp only at hft hfr
  obtain ⟨hpause, hstaging, hseeded, hgoing, hresting⟩ := failTract_spec v t0 hk
  have hraw : v.get (fTRC_TSTAT_STATE k) = s.get (fTRC_TSTAT_STATE k) := get_of_reg (fTRC_TSTAT_STATE k) hreg
  have hstate : v.loopState k = s.loopState k := by
    unfold State.loopState
    rw [hraw, htract, hloops, hnow]
  have hstop : v.stopped k = s.stopped k := by
    unfold State.stopped
    rw [hraw, htract]
  have hstat : ((upTo 64).foldl (fun s t => State.failTract s t0 t) s).get (fTRC_TSTAT_STATE k) = (v.failTract t0 k).get (fTRC_TSTAT_STATE k) :=
    get_of_reg (fTRC_TSTAT_STATE k) hfr
  rw [hstate, hstop, htract] at hgoing
  rw [hstate, hraw] at hresting
  unfold Machine.forEach
  exact ⟨by rw [hft]; exact hpause, by rw [hft]; exact hstaging, by rw [hft]; exact hseeded, fun h4 h5 hs => by rw [hft, hstat]; exact hgoing h4 h5 hs,
    fun h => hstat.trans (hresting h)⟩

/-! ### An engine found failed -/

/-- The FAIL bit of an engine. -/
def engFld (e : Nat) : Fld := if e = 0 then fTRC_ENG_WEST_FAIL else fTRC_ENG_EAST_FAIL

theorem engFld_cases (e : Nat) : engFld e = fTRC_ENG_WEST_FAIL ∨ engFld e = fTRC_ENG_EAST_FAIL := by
  unfold engFld
  split
  · exact .inl rfl
  · exact .inr rfl

/-- An engine declared failed, and no longer due to be. -/
def State.declared (s : State) (e : Fin 2) : State :=
  { s.putB (engFld e.val) true with loops := { s.loops with failDue := s.loops.failDue.filter fun y => y.1 ≠ e.val } }

variable {e : Fin 2} {z : Nat × Nat}

theorem exec_engineFail_early (hz : s.loops.failDue.find? (fun x => x.1 = e.val) = some z) (h : s.now < z.2) : exec (.engineFail e) s = .next s := by
  show execEngineFail e s = _
  unfold execEngineFail
  dsimp only
  rw [hz]
  exact congrArg Host.Outcome.next (if_pos (by simp [h]))

theorem exec_engineFail (hz : s.loops.failDue.find? (fun x => x.1 = e.val) = some z) (h : z.2 ≤ s.now) (hgood : s.on (engFld e.val) = false) :
    exec (.engineFail e) s = .next (if s.on (engFld (1 - e.val)) then (s.declared e).engineLess
      else { forEach (upTo 64) (fun t s => s.failTract (z.2 - 40) t) (((s.declared e).putB fTRC_ENG_FAILOVER true).raise evTRC_ENG_FAIL 0xFFFF) with
        loops := { (forEach (upTo 64) (fun t s => s.failTract (z.2 - 40) t) (((s.declared e).putB fTRC_ENG_FAILOVER true).raise evTRC_ENG_FAIL 0xFFFF)).loops with
          failT0 := some (z.2 - 40), failedEngine := e.val } }) := by
  show execEngineFail e s = _
  unfold execEngineFail
  dsimp only
  rw [hz]
  have hgo : ¬(s.on (engFld e.val) || decide (s.now < z.2)) = true := by simp [hgood]; omega
  obtain ⟨e, he⟩ := e
  obtain rfl | rfl : e = 0 ∨ e = 1 := by omega
  · exact congrArg Host.Outcome.next (if_neg hgo)
  · exact congrArg Host.Outcome.next (if_neg hgo)

theorem declared_spec (s : State) (e : Fin 2) : (s.declared e).on (engFld e.val) = true ∧
    (∀ o, o ≠ TRC_ENG → (s.declared e).reg o = s.reg o) ∧ (s.declared e).loops = { s.loops with failDue := s.loops.failDue.filter fun y => y.1 ≠ e.val } ∧
    (s.declared e).bare = { s.bare with loops := (s.declared e).loops } ∧ ∀ k, (s.declared e).tract k = s.tract k := by
  rcases engFld_cases e.val with h | h
  · refine ⟨?_, fun o ho => ?_, rfl, rfl, fun _ => rfl⟩
    · exact (congrArg (fun f => (s.putB f true).on f) h).trans (on_putB_same s fTRC_ENG_WEST_FAIL true (by decide) rfl)
    · exact (congrArg (fun f => (s.putB f true).reg o) h).trans (reg_putB_ne s fTRC_ENG_WEST_FAIL o true ho)
  · refine ⟨?_, fun o ho => ?_, rfl, rfl, fun _ => rfl⟩
    · exact (congrArg (fun f => (s.putB f true).on f) h).trans (on_putB_same s fTRC_ENG_EAST_FAIL true (by decide) rfl)
    · exact (congrArg (fun f => (s.putB f true).reg o) h).trans (reg_putB_ne s fTRC_ENG_EAST_FAIL o true ho)

theorem eng_not_failRegs : TRC_ENG ∉ failRegs := by
  have h5 : TRC_ENG ∉ eventRegs 5 := by decide
  simp only [failRegs, List.mem_append, List.mem_map, mem_upTo, h5, or_false, List.mem_singleton, TRC_ENG, TRC_TSTAT, BLK_TRST]
  omega

/-- One engine lost while the other works: every tract in failover, and every tract paused (R196). -/
theorem engineFail_one (hz : s.loops.failDue.find? (fun x => x.1 = e.val) = some z) (h : z.2 ≤ s.now) (hgood : s.on (engFld e.val) = false)
    (hother : s.on (engFld (1 - e.val)) = false) : Runs (.engineFail e) s fun u =>
      u.on (engFld e.val) = true ∧ u.on fTRC_ENG_FAILOVER = true ∧
      u.loops = { s.loops with failT0 := some (z.2 - 40), failedEngine := e, failDue := s.loops.failDue.filter fun y => y.1 ≠ e.val } ∧
      u.stat evTRC_ENG_FAIL = true ∧
      (∀ k, k < 64 → (u.tract k).failPause = true ∧ (u.tract k).staging = none ∧ (u.tract k).seeded = false ∧
        (s.loopState k ≠ 4 → s.loopState k ≠ 5 → s.stopped k = false →
          u.get (fTRC_TSTAT_STATE k) = 3 ∧ (u.tract k).holdAt = some ((s.tract k).holdAt.getD (z.2 - 40 + 80))) ∧
        (s.loopState k = 4 ∨ s.loopState k = 5 → u.get (fTRC_TSTAT_STATE k) = s.get (fTRC_TSTAT_STATE k))) ∧
      OnlyEvents { s with tracts := u.tracts, loops := u.loops } u ([TRC_ENG, BLK_TRST] ++ (upTo 64).map TRC_TSTAT ++ eventRegs 5) := by
  have hexec := exec_engineFail hz h hgood
  rw [if_neg (by simp [hother])] at hexec
  obtain ⟨hon, hdecl, hdloops, hdbare, hdtract⟩ := declared_spec s e
  obtain ⟨w, hw⟩ : ∃ w, w = ((s.declared e).putB fTRC_ENG_FAILOVER true).raise evTRC_ENG_FAIL 0xFFFF := ⟨_, rfl⟩
  have hweng : w.reg TRC_ENG = ((s.declared e).putB fTRC_ENG_FAILOVER true).reg TRC_ENG := hw ▸ reg_raiseD _ _ _ _ _ (by decide)
  have hwbare : w.bare = (s.declared e).bare := hw ▸ bare_raise _ _ _
  have hwreg {o : Nat} (ho : o ≠ TRC_ENG) (hev : o ∉ eventRegs 5) : w.reg o = s.reg o := by
    rw [hw]
    exact (reg_raiseD _ _ _ _ _ hev).trans ((reg_putB_ne _ fTRC_ENG_FAILOVER _ _ ho).trans (hdecl o ho))
  have hwstat : w.stat evTRC_ENG_FAIL = true := hw ▸ stat_raise_same _ _ _ (by decide)
  have hwon : w.on (engFld e.val) = true ∧ w.on fTRC_ENG_FAILOVER = true := by
    refine ⟨?_, (on_of_reg fTRC_ENG_FAILOVER hweng).trans (on_putB_same _ _ _ (by decide) rfl)⟩
    rcases engFld_cases e.val with hf | hf <;> rw [hf] at hon ⊢
    · exact (on_of_reg fTRC_ENG_WEST_FAIL hweng).trans ((on_putB_apart _ fTRC_ENG_FAILOVER fTRC_ENG_WEST_FAIL _ rfl (by decide)).trans hon)
    · exact (on_of_reg fTRC_ENG_EAST_FAIL hweng).trans ((on_putB_apart _ fTRC_ENG_FAILOVER fTRC_ENG_EAST_FAIL _ rfl (by decide)).trans hon)
  have hwtract (k : Nat) : w.tract k = s.tract k := (congrArg (fun v : State => v.tract k) hwbare :).trans (hdtract k)
  have hwloops : w.loops = { s.loops with failDue := s.loops.failDue.filter fun y => y.1 ≠ e.val } := (congrArg State.loops hwbare :).trans hdloops
  have hwnow : w.now = s.now := (congrArg State.now hwbare :).trans (congrArg State.now hdbare :)
  rw [← hw] at hexec
  obtain ⟨hwithin, htracts⟩ := failTracts_spec w (z.2 - 40)
  generalize forEach (upTo 64) (fun t s => State.failTract s (z.2 - 40) t) w = v at hexec hwithin htracts
  obtain ⟨u, hu⟩ : ∃ u, u = { v with loops := { v.loops with failT0 := some (z.2 - 40), failedEngine := e.val } } := ⟨_, rfl⟩
  rw [← hu] at hexec
  have hureg (o : Nat) : u.reg o = v.reg o := by rw [hu]; rfl
  have hutract (k : Nat) : u.tract k = v.tract k := by rw [hu]; rfl
  have heng : u.reg TRC_ENG = w.reg TRC_ENG := (hureg _).trans (hwithin.regs _ eng_not_failRegs)
  obtain ⟨hvloops, -⟩ := loops_of_sansTracts hwithin.data
  have hraw {k : Nat} (hk : k < 64) : w.get (fTRC_TSTAT_STATE k) = s.get (fTRC_TSTAT_STATE k) :=
    get_of_reg (fTRC_TSTAT_STATE k) (hwreg (by simp only [TRC_TSTAT, TRC_ENG]; omega) (tstat_not_event (by decide) hk))
  have hstate {k : Nat} (hk : k < 64) : w.loopState k = s.loopState k := by
    unfold State.loopState
    rw [hraw hk, hwtract, hwloops, hwnow]
  have hstop {k : Nat} (hk : k < 64) : w.stopped k = s.stopped k := by
    unfold State.stopped
    rw [hraw hk, hwtract]
  refine ⟨u, hexec, ?_, (on_of_reg fTRC_ENG_FAILOVER heng).trans hwon.2, ?_, (stat_of_reg _ (hureg _)).trans (hwithin.stat _ hwstat), fun k hk => ?_,
    onlyEvents_of ?_ fun o ho => ?_⟩
  · rcases engFld_cases e.val with hf | hf <;> rw [hf] at hwon ⊢
    · exact (on_of_reg fTRC_ENG_WEST_FAIL heng).trans hwon.1
    · exact (on_of_reg fTRC_ENG_EAST_FAIL heng).trans hwon.1
  · rw [hu]
    dsimp only
    rw [hvloops, hwloops]
  · obtain ⟨hpause, hstaging, hseeded, hgoing, hresting⟩ := htracts k hk
    rw [hstate hk, hstop hk, hwtract] at hgoing
    rw [hstate hk, hraw hk] at hresting
    have hget : u.get (fTRC_TSTAT_STATE k) = v.get (fTRC_TSTAT_STATE k) := get_of_reg (fTRC_TSTAT_STATE k) (hureg _)
    rw [hutract, hget]
    exact ⟨hpause, hstaging, hseeded, hgoing, hresting⟩
  · have hbare := congrArg (fun x : State => { x with tracts := u.tracts, loops := u.loops }) hwithin.data
    have hw' := congrArg (fun x : State => { x with tracts := u.tracts, loops := u.loops }) (hwbare.trans hdbare)
    have hub : u.bare = { v.bare with tracts := u.tracts, loops := u.loops } := by rw [hu]; rfl
    exact hub.trans (Eq.trans hbare hw')
  · simp only [List.cons_append, List.nil_append, List.mem_cons, List.mem_append, not_or] at ho
    obtain ⟨heng', htrst, htst, hev⟩ := ho
    refine (hureg o).trans ((hwithin.regs o ?_).trans (hwreg heng' hev))
    simp only [failRegs, List.cons_append, List.nil_append, List.mem_cons, List.mem_append, not_or]
    exact ⟨htrst, htst, hev⟩

/-! ### No engine left (R199) -/

/-- A cell both off for good, but for one that is latched. -/
def State.dead (s : State) (c : Nat) : State := (s.setMode c 0).updCell c fun h => { h with rejoin := false, hiccupDue := none }

/-- The registers of the loss of both engines. -/
def deadRegs : List Nat := [TRC_ENG] ++ (upTo 256).map CEL_CSTAT ++ eventRegs 5

theorem deadRegs_cstat {c : Nat} (hc : c < 256) : CEL_CSTAT c ∈ deadRegs ∧ ∀ n, CEL_CSTAT c ≠ blockBase n := by
  refine ⟨?_, not_base (by simp only [CEL_CSTAT]; omega) (by simp only [CEL_CSTAT]; omega)⟩
  simp only [deadRegs, List.mem_append, List.mem_map_of_mem (mem_upTo.mpr hc), or_true, true_or]

theorem within_dead (s : State) {c : Nat} (hc : c < 256) : Within State.sansCells ((upTo 256).map CEL_CSTAT) s (s.dead c) := by
  have hcstat := List.mem_map_of_mem (f := CEL_CSTAT) (mem_upTo.mpr hc)
  unfold State.dead State.setMode
  exact .updCell (.ite (.refl _ _ s) ((Within.refl _ _ s).put ofBare_sansCells _ ⟨hcstat, (deadRegs_cstat hc).2⟩)) c _

theorem dead_spec (s : State) (c : Nat) : (s.dead c).mode c = (if s.mode c = 7 then 7 else 0) ∧ ((s.dead c).cell c).rejoin = false ∧
    ((s.dead c).cell c).hiccupDue = none := by
  have hcell : (s.dead c).cell c = { (s.setMode c 0).cell c with rejoin := false, hiccupDue := none } := cell_updCell_same _ c _
  refine ⟨?_, by rw [hcell], by rw [hcell]⟩
  show (s.setMode c 0).mode c = _
  unfold State.setMode
  split
  · next h => exact h
  · exact get_put s (fCEL_CSTAT_MODE c) 0 (by simp)

theorem dead_ne (s : State) {c k : Nat} (hne : k ≠ c) : (s.dead c).cell k = s.cell k ∧ (s.dead c).mode k = s.mode k := by
  have hset : (s.setMode c 0).cell k = s.cell k ∧ (s.setMode c 0).mode k = s.mode k := by
    unfold State.setMode
    split
    · exact ⟨rfl, rfl⟩
    · exact ⟨rfl, get_of_reg (fCEL_CSTAT_MODE k) (reg_put_ne _ (fCEL_CSTAT_MODE c) _ _ (by simp only [CEL_CSTAT]; omega))⟩
  exact ⟨(cell_updCell_ne _ _ hne).trans hset.1, hset.2⟩

theorem deads_spec (s : State) : Within State.sansCells ((upTo 256).map CEL_CSTAT) s (forEach (upTo 256) (fun c s => s.dead c) s) ∧
    ∀ c, c < 256 → (forEach (upTo 256) (fun c s => s.dead c) s).mode c = (if s.mode c = 7 then 7 else 0) ∧
      ((forEach (upTo 256) (fun c s => s.dead c) s).cell c).rejoin = false ∧ ((forEach (upTo 256) (fun c s => s.dead c) s).cell c).hiccupDue = none := by
  refine ⟨.foldl _ (fun u c hc => within_dead u (mem_upTo.mp hc)) s, fun c hc => ?_⟩
  have hkeep := foldl_keeps (fun w : State => w.mode c) (f := fun s c => State.dead s c) (l := upTo c) (fun w j hj => by
    have hlt := mem_upTo.mp hj
    exact (dead_ne w (c := j) (by omega)).2) s
  have hat := foldl_upTo_at (fun w : State => (w.cell c, w.mode c)) (f := fun s c => State.dead s c) hc (fun w j _ hne => by
    obtain ⟨hcell, hmode⟩ := dead_ne w (c := j) hne.symm
    exact Prod.ext hcell hmode) s
  generalize (upTo c).foldl (fun s c => State.dead s c) s = v at hkeep hat
  obtain ⟨hcell, hmode⟩ := Prod.ext_iff.mp hat
  dsimp only at hcell hmode hkeep
  obtain ⟨hm, hrejoin, hdue⟩ := dead_spec v c
  unfold Machine.forEach
  rw [hcell, hmode, ← hkeep]
  exact ⟨hm, hrejoin, hdue⟩

theorem engineLess_eq (s : State) : s.engineLess =
    (State.raise { (forEach (upTo 256) (fun c s => s.dead c) (s.putB fTRC_ENG_BOTH true)).putB fTRC_ENG_FAILOVER false with
      loops := { (forEach (upTo 256) (fun c s => s.dead c) (s.putB fTRC_ENG_BOTH true)).loops with failT0 := none } } evTRC_ENG_BOTH 0xFFFF) := by
  unfold State.engineLess State.dead
  rfl

theorem engineLess_spec (s : State) : s.engineLess.on fTRC_ENG_BOTH = true ∧ s.engineLess.on fTRC_ENG_FAILOVER = false ∧
    s.engineLess.stat evTRC_ENG_BOTH = true ∧
    (∀ c, c < 256 → (s.engineLess.mode c = if s.mode c = 7 then 7 else 0) ∧ (s.engineLess.cell c).rejoin = false ∧ (s.engineLess.cell c).hiccupDue = none) ∧
    s.engineLess.bare = { s.bare with cells := s.engineLess.cells, loops := { s.loops with failT0 := none } } ∧
    ∀ o, o ∉ deadRegs → s.engineLess.reg o = s.reg o := by
  obtain ⟨s1, hs1⟩ : ∃ s1, s1 = s.putB fTRC_ENG_BOTH true := ⟨_, rfl⟩
  obtain ⟨hwithin, hcells⟩ := deads_spec s1
  have hless := engineLess_eq s
  rw [← hs1] at hless
  generalize forEach (upTo 256) (fun c s => State.dead s c) s1 = v at hless hwithin hcells
  obtain ⟨w, hw⟩ : ∃ w, w = { v.putB fTRC_ENG_FAILOVER false with loops := { v.loops with failT0 := none } } := ⟨_, rfl⟩
  rw [← hw] at hless
  have hstat : s.engineLess.stat evTRC_ENG_BOTH = true := hless ▸ stat_raise_same _ _ _ (by decide)
  have hbare : s.engineLess.bare = w.bare := hless ▸ bare_raise _ _ _
  have hregs (o : Nat) (ho : o ∉ eventRegs 5) : s.engineLess.reg o = w.reg o := hless ▸ reg_raiseD _ _ _ _ _ ho
  generalize s.engineLess = u at hstat hbare hregs
  have hweng (o : Nat) : w.reg o = (v.putB fTRC_ENG_FAILOVER false).reg o := by rw [hw]; rfl
  have hueng : u.reg TRC_ENG = (v.putB fTRC_ENG_FAILOVER false).reg TRC_ENG := (hregs _ (by decide)).trans (hweng _)
  have hveng : v.reg TRC_ENG = s1.reg TRC_ENG := hwithin.regs _ (by simp only [List.mem_map, mem_upTo, CEL_CSTAT, TRC_ENG]; omega)
  have hcstat {c : Nat} (hc : c < 256) : CEL_CSTAT c ∉ eventRegs 5 := by
    have h5 : blockBase 5 = 0x20000 := rfl
    refine apart_eventRegs ?_ ?_ ?_ ?_ <;> simp only [CEL_CSTAT] <;> omega
  refine ⟨?_, ?_, hstat, fun c hc => ?_, ?_, fun o ho => ?_⟩
  · rw [on_of_reg fTRC_ENG_BOTH hueng, on_putB_apart _ fTRC_ENG_FAILOVER fTRC_ENG_BOTH _ rfl (by decide), on_of_reg fTRC_ENG_BOTH hveng, hs1]
    exact on_putB_same _ _ _ (by decide) rfl
  · rw [on_of_reg fTRC_ENG_FAILOVER hueng]
    exact on_putB_same _ _ _ (by decide) rfl
  · obtain ⟨hmode, hrejoin, hdue⟩ := hcells c hc
    have hucell : u.cell c = v.cell c := (congrArg (fun x : State => x.cell c) hbare :).trans (by rw [hw]; rfl)
    have humode : u.mode c = v.mode c := get_of_reg (fCEL_CSTAT_MODE c) ((hregs _ (hcstat hc)).trans ((hweng _).trans
      (reg_putB_ne _ fTRC_ENG_FAILOVER _ _ (by simp only [CEL_CSTAT, TRC_ENG]; omega))))
    have hmode1 : s1.mode c = s.mode c := hs1 ▸ get_of_reg (fCEL_CSTAT_MODE c) (reg_putB_ne _ fTRC_ENG_BOTH _ _ (by simp only [CEL_CSTAT, TRC_ENG]; omega))
    rw [hucell, humode, ← hmode1]
    exact ⟨hmode, hrejoin, hdue⟩
  · have hsans := congrArg (fun x : State => { x with cells := v.cells, loops := { x.loops with failT0 := none } }) hwithin.data
    have hwbare : w.bare = { v.bare with cells := v.cells, loops := { v.loops with failT0 := none } } := by rw [hw]; rfl
    have hucells : u.cells = v.cells := (congrArg State.cells (hbare.trans hwbare) :)
    rw [hucells, hbare, hwbare]
    refine Eq.trans hsans ?_
    rw [hs1]
    rfl
  · simp only [deadRegs, List.mem_append, List.mem_singleton, not_or] at ho
    obtain ⟨⟨heng, hcst⟩, hev⟩ := ho
    refine (hregs o hev).trans ((hweng o).trans ((reg_putB_ne _ fTRC_ENG_FAILOVER _ _ heng).trans ((hwithin.regs o hcst).trans ?_)))
    rw [hs1]
    exact reg_putB_ne _ fTRC_ENG_BOTH _ _ heng

theorem engineFail_both (hz : s.loops.failDue.find? (fun x => x.1 = e.val) = some z) (h : z.2 ≤ s.now) (hgood : s.on (engFld e.val) = false)
    (hother : s.on (engFld (1 - e.val)) = true) : Runs (.engineFail e) s fun u =>
      u.on fTRC_ENG_BOTH = true ∧ u.on fTRC_ENG_FAILOVER = false ∧ u.stat evTRC_ENG_BOTH = true ∧
      (∀ c, c < 256 → (u.mode c = if s.mode c = 7 then 7 else 0) ∧ (u.cell c).rejoin = false ∧ (u.cell c).hiccupDue = none) ∧
      OnlyEvents { s with cells := u.cells, loops := { s.loops with failT0 := none, failDue := s.loops.failDue.filter fun y => y.1 ≠ e.val } } u
        ([TRC_ENG] ++ (upTo 256).map CEL_CSTAT ++ eventRegs 5) := by
  have hexec := exec_engineFail hz h hgood
  rw [if_pos hother] at hexec
  obtain ⟨-, hdecl, hdloops, hdbare, -⟩ := declared_spec s e
  obtain ⟨hboth, hover, hstat, hcells, hbare, hregs⟩ := engineLess_spec (s.declared e)
  have hmode {c : Nat} (hc : c < 256) : (s.declared e).mode c = s.mode c :=
    get_of_reg (fCEL_CSTAT_MODE c) (hdecl _ (by simp only [CEL_CSTAT, TRC_ENG]; omega))
  generalize (s.declared e).engineLess = u at *
  refine ⟨u, hexec, hboth, hover, hstat, fun c hc => ?_, onlyEvents_of ?_ fun o ho => (hregs o ho).trans (hdecl o ?_)⟩
  · rw [← hmode hc]
    exact hcells c hc
  · rw [hbare, hdbare, hdloops]
    rfl
  · rintro rfl
    exact ho (by simp)

end Sys2Proof.Machine
end

section
/-!
SUPPORT. The tracts of a failover seeded, closed group by group, and their pauses lifted (R195-R198, Table 3.3).
-/

namespace Sys2Proof.Machine

variable {s t u : State} {k j : Nat}

/-! ### What leaves a tract alone -/

/-- A step that leaves a tract alone: what is behind its loop, its state, and what is common to the loops. -/
structure Beside (k : Nat) (s t : State) : Prop where
  tract : t.tract k = s.tract k
  reg : t.reg (TRC_TSTAT k) = s.reg (TRC_TSTAT k)
  loops : t.loops = s.loops
  now : t.now = s.now

theorem Beside.refl (s : State) : Beside k s s := ⟨rfl, rfl, rfl, rfl⟩
theorem Beside.trans (h : Beside k s t) (h' : Beside k t u) : Beside k s u :=
  ⟨h'.tract.trans h.tract, h'.reg.trans h.reg, h'.loops.trans h.loops, h'.now.trans h.now⟩

theorem Beside.ite {c : Prop} [Decidable c] (h : Beside k s t) (h' : Beside k s u) : Beside k s (if c then t else u) := by
  split
  · exact h
  · exact h'

theorem Beside.foldl {α : Type} {f : State → α → State} (l : List α) (s : State) (hf : ∀ u, ∀ a ∈ l, Beside k u (f u a)) : Beside k s (l.foldl f s) :=
  foldl_keeps_prop (I := Beside k s) (fun u a ha hu => hu.trans (hf u a ha)) (.refl s)

theorem Beside.setReg (s : State) {o : Nat} (v : Word) (ho : TRC_TSTAT k ≠ o) : Beside k s (s.setReg o v) := ⟨rfl, reg_setReg_ne _ _ _ _ ho, rfl, rfl⟩
theorem Beside.put (s : State) (f : Fld) (n : Nat) (ho : TRC_TSTAT k ≠ f.off) : Beside k s (s.put f n) := .setReg s _ ho
theorem Beside.putI (s : State) (f : Fld) (n : Int) (ho : TRC_TSTAT k ≠ f.off) : Beside k s (s.putI f n) := .setReg s _ ho
theorem Beside.putB (s : State) (f : Fld) (b : Bool) (ho : TRC_TSTAT k ≠ f.off) : Beside k s (s.putB f b) := .setReg s _ ho
theorem Beside.updTract (s : State) (f : TractHid → TractHid) (h : k ≠ j) : Beside k s (s.updTract j f) := ⟨tract_updTract_ne _ _ h, rfl, rfl, rfl⟩
theorem Beside.updCell (s : State) (c : Nat) (f : CellHid → CellHid) : Beside k s (s.updCell c f) := ⟨rfl, rfl, rfl, rfl⟩

theorem beside_recadence (s : State) (iv c : Nat) : Beside k s (s.recadence iv c) := by
  unfold State.recadence
  exact .updCell s c _

theorem beside_setMode (s : State) (m : Nat) {c : Nat} (hc : c < 256) : Beside k s (s.setMode c m) := by
  unfold State.setMode
  exact .ite (.refl s) (.put s _ _ (by simp only [CEL_CSTAT, TRC_TSTAT]; omega))

theorem beside_setShares (s : State) (i : Int) (hj : j < 64) : Beside k s (s.setShares j i) := by
  refine .foldl _ s fun u c hc => ?_
  have hlt := cell_lt_of_mem_cellsIn hj hc
  have hne : TRC_TSTAT k ≠ CEL_TEMP c := by simp only [CEL_TEMP, TRC_TSTAT]; omega
  exact ((Beside.putI u (fCEL_TEMP_TEST c) _ hne).trans (.put _ (fCEL_TEMP_SHED c) _ hne)).trans (.updCell _ _ _)

theorem beside_prebias (s : State) {c : Nat} (hc : c < 256) : Beside k s (s.prebias c) := by
  have htract : c / 4 < 64 := by omega
  unfold State.prebias
  dsimp only
  refine .ite (((beside_setMode s 4 hc).trans (.updCell _ _ _)).trans (beside_setShares _ _ htract)) (.ite (beside_setMode s 1 hc) (.ite ?_ (beside_setMode s 0 hc)))
  exact (beside_setMode s 0 hc).trans (.updCell _ _ _)

theorem beside_idleLoop (s : State) (h : k ≠ j) : Beside k s (s.idleLoop j) := by
  have htrst : Beside k s (s.putB fBLK_TRST_BUSY false) := .putB s _ _ (by simp only [BLK_TRST, TRC_TSTAT]; omega)
  have hput (u : State) : Beside k u (u.put (fTRC_TSTAT_STATE j) 5) := .put u _ _ (by simp only [TRC_TSTAT]; omega)
  unfold State.idleLoop
  dsimp only
  refine .ite (.refl s) (.trans (.trans (.ite htrst (.refl s)) (hput _)) (.updTract _ _ h))

theorem beside_closeLoop (s : State) (set : Nat) (h : k ≠ j) : Beside k s (s.closeLoop j set) := by
  have hne : TRC_TSTAT k ≠ TRC_TSTAT j := by simp only [TRC_TSTAT]; omega
  have hputs : Beside k s (((s.put (fTRC_TSTAT_STATE j) 0).put (fTRC_TSTAT_SET j) set).put (fTRC_TSTAT_RATE j) set) :=
    ((Beside.put s (fTRC_TSTAT_STATE j) 0 hne).trans (.put _ (fTRC_TSTAT_SET j) set hne)).trans (.put _ (fTRC_TSTAT_RATE j) set hne)
  unfold State.closeLoop
  extract_lets s1 s2
  have h2 : Beside k s s2 := hputs.trans (.updTract _ _ h)
  exact h2.trans (.foldl _ s2 fun u c _ => beside_recadence u _ c)

theorem beside_seedHeld (s : State) (duty : Nat) (h : k ≠ j) : Beside k s (s.seedHeld j duty) := by
  unfold State.seedHeld
  exact .trans (.putI s (fTRC_UOUT_U1 j) _ (by simp only [TRC_UOUT, TRC_TSTAT]; omega)) (.updTract _ _ h)

theorem beside_restartTract (s : State) (set : Nat) (hj : j < 64) (h : k ≠ j) : Beside k s (s.restartTract j set) := by
  unfold State.restartTract
  extract_lets s0 s1
  have h0 : Beside k s s0 := (beside_seedHeld s 0 h).trans (beside_closeLoop _ set h)
  have h1 : Beside k s s1 := .ite (h0.trans (beside_idleLoop _ h)) h0
  exact h1.trans (.foldl _ s1 fun u c hc => .ite (beside_prebias u (cell_lt_of_mem_cellsIn hj hc)) (.refl u))

theorem beside_groupClose (s : State) (hj : j < 64) (h : k ≠ j) : Beside k s (s.groupClose j) := by
  unfold State.groupClose
  exact .ite (.ite (beside_restartTract s 1 hj h) (beside_closeLoop s 1 h)) (.refl s)

theorem Beside.loopState (h : Beside k s t) : t.loopState k = s.loopState k := by
  unfold State.loopState
  rw [get_of_reg (fTRC_TSTAT_STATE k) h.reg, h.tract, h.loops, h.now]

/-! ### A group closes -/

/-- A tract closed on its fallback set. -/
def ClosedOn1 (k : Nat) (s : State) : Prop := s.loopState k = 0 ∧ s.setOf k = 1 ∧ s.get (fTRC_TSTAT_RATE k) = 1

/-- What a loop that closes shows of its state, its set and its rate. -/
def State.closedShown (s : State) (j set : Nat) : State := ((s.put (fTRC_TSTAT_STATE j) 0).put (fTRC_TSTAT_SET j) set).put (fTRC_TSTAT_RATE j) set

/-- What a loop that closes keeps behind its registers. -/
def closedHid (n : Nat) (h : TractHid) : TractHid :=
  { h with staging := none, holdAt := none, closeAt := none, wasStopped := false, internal := 0, lastSlot := false, sampled := max h.sampled n }

theorem recadences_cells (v : State) (j : Nat) :
    ∃ ce, (cellsIn j).foldl (fun s c => s.recadence (s.stepIv (s.domOf j)) c) v = { v with cells := ce } := by
  refine foldl_keeps_prop (I := fun u : State => ∃ ce, u = { v with cells := ce }) (fun u c _ hu => ?_) ⟨v.cells, rfl⟩
  obtain ⟨ce, rfl⟩ := hu
  exact ⟨_, rfl⟩

/-- A loop that has closed, before its cells move on at their cadence. -/
def State.closedState (s : State) (j set : Nat) : State := (s.closedShown j set).updTract j (closedHid (s.slotFrame - 1))

theorem closeLoop_fold (s : State) (j set : Nat) :
    s.closeLoop j set = (cellsIn j).foldl (fun s c => s.recadence (s.stepIv (s.domOf j)) c) (s.closedState j set) := rfl

theorem closeLoop_eq (s : State) (j set : Nat) : ∃ ce, s.closeLoop j set = { s.closedState j set with cells := ce } := by
  rw [closeLoop_fold]
  exact recadences_cells _ j

theorem put_regs (s : State) (f : Fld) (n : Nat) : ∃ r, s.put f n = { s with regs := r } := ⟨_, rfl⟩

theorem reg_closedShown (s : State) (j set : Nat) {o : Nat} (ho : o ≠ TRC_TSTAT j) : (s.closedShown j set).reg o = s.reg o :=
  (reg_put_ne _ (fTRC_TSTAT_RATE j) _ _ ho).trans ((reg_put_ne _ (fTRC_TSTAT_SET j) _ _ ho).trans (reg_put_ne s (fTRC_TSTAT_STATE j) o 0 ho))

theorem closedShown_regs (s : State) (j set : Nat) : ∃ r, s.closedShown j set = { s with regs := r } := by
  obtain ⟨r1, h1⟩ := put_regs s (fTRC_TSTAT_STATE j) 0
  unfold State.closedShown
  rw [h1]
  obtain ⟨r2, h2⟩ := put_regs { s with regs := r1 } (fTRC_TSTAT_SET j) set
  rw [h2]
  exact put_regs { s with regs := r2 } (fTRC_TSTAT_RATE j) set

theorem reg_withCells (v : State) (ce : Tbl CellHid) (o : Nat) : ({ v with cells := ce } : State).reg o = v.reg o := rfl

theorem reg_closedState (s : State) (j set o : Nat) : (s.closedState j set).reg o = (s.closedShown j set).reg o := reg_updTract _ _ _ _

theorem reg_closeLoop (s : State) (j set : Nat) {o : Nat} (ho : o ≠ TRC_TSTAT j) : (s.closeLoop j set).reg o = s.reg o := by
  obtain ⟨ce, h⟩ := closeLoop_eq s j set
  rw [h, reg_withCells, reg_closedState, reg_closedShown s j set ho]

theorem closeLoop_regs (s : State) (j set : Nat) : ∃ r tr ce, s.closeLoop j set = { s with regs := r, tracts := tr, cells := ce } := by
  obtain ⟨ce, h⟩ := closeLoop_eq s j set
  obtain ⟨r, hr⟩ := closedShown_regs s j set
  have hstate : ∃ tr, s.closedState j set = { s with regs := r, tracts := tr } := by
    unfold State.closedState
    rw [hr]
    exact ⟨_, rfl⟩
  obtain ⟨tr, htr⟩ := hstate
  rw [h, htr]
  exact ⟨r, tr, ce, rfl⟩

theorem tract_withCells (v : State) (ce : Tbl CellHid) (k : Nat) : ({ v with cells := ce } : State).tract k = v.tract k := rfl

theorem wasStopped_closeLoop (s : State) (j set : Nat) : ((s.closeLoop j set).tract j).wasStopped = false := by
  obtain ⟨ce, h⟩ := closeLoop_eq s j set
  rw [h]
  rw [tract_withCells, State.closedState, tract_updTract_same]
  rfl

theorem closedOn1_closeLoop (s : State) (k : Nat) : ClosedOn1 k (s.closeLoop k 1) := by
  have hreg : (s.closeLoop k 1).reg (TRC_TSTAT k) = (s.closedShown k 1).reg (TRC_TSTAT k) := by
    obtain ⟨ce, h⟩ := closeLoop_eq s k 1
    rw [h]
    exact (reg_withCells _ _ _).trans (reg_closedState _ _ _ _)
  have hstate : (s.closeLoop k 1).get (fTRC_TSTAT_STATE k) = 0 := by
    rw [get_of_reg (fTRC_TSTAT_STATE k) hreg, State.closedShown, get_put_apart _ (fTRC_TSTAT_RATE k) (fTRC_TSTAT_STATE k) _ rfl (by simp),
      get_put_apart _ (fTRC_TSTAT_SET k) (fTRC_TSTAT_STATE k) _ rfl (by simp), get_put _ _ _ (by simp)]
    rfl
  refine ⟨?_, ?_, ?_⟩
  · unfold State.loopState
    rw [hstate]
    rfl
  · unfold State.setOf
    rw [get_of_reg (fTRC_TSTAT_SET k) hreg, State.closedShown, get_put_apart _ (fTRC_TSTAT_RATE k) (fTRC_TSTAT_SET k) _ rfl (by simp), get_put _ _ _ (by simp)]
    rfl
  · rw [get_of_reg (fTRC_TSTAT_RATE k) hreg, State.closedShown, get_put _ _ _ (by simp)]
    rfl

theorem ClosedOn1.groupClose (h : ClosedOn1 k s) (hj : j < 64) : ClosedOn1 k (s.groupClose j) := by
  obtain ⟨hstate, hset, hrate⟩ := h
  by_cases hjk : k = j
  · subst hjk
    have hsame : s.groupClose k = s := if_neg (by simp [hstate])
    rw [hsame]
    exact ⟨hstate, hset, hrate⟩
  · have hb := beside_groupClose s hj hjk
    exact ⟨hb.loopState.trans hstate, (get_of_reg (fTRC_TSTAT_SET k) hb.reg).trans hset, (get_of_reg (fTRC_TSTAT_RATE k) hb.reg).trans hrate⟩

theorem tract_lt_of_mem_failGroup {f g : Nat} (h : k ∈ failGroup f g) : k < 64 := by
  have hmem := List.mem_of_mem_drop (List.mem_of_mem_take h)
  simp only [List.mem_append, List.mem_filter, mem_upTo] at hmem
  rcases hmem with h | h <;> exact h.1

theorem groupClose_closes {l : List Nat} (hl : ∀ j ∈ l, j < 64) (hk : k ∈ l) (hstate : s.loopState k = 3) (hseed : (s.tract k).seeded = true)
    (hcame : (s.tract k).wasStopped = false) : ClosedOn1 k (l.foldl (fun s t => s.groupClose t) s) := by
  obtain ⟨pre, post, rfl, hpre⟩ := List.eq_append_cons_of_mem hk
  rw [List.foldl_append, List.foldl_cons]
  have hb : Beside k s (pre.foldl (fun s t => State.groupClose s t) s) := .foldl _ s fun u j hj =>
    beside_groupClose u (hl j (List.mem_append_left _ hj)) (by rintro rfl; exact hpre hj)
  generalize pre.foldl (fun s t => State.groupClose s t) s = v at hb
  have hclose : v.groupClose k = v.closeLoop k 1 := by
    unfold State.groupClose
    rw [if_pos (by rw [hb.loopState, hb.tract, hstate, hseed]; rfl), if_neg (by rw [hb.tract, hcame]; simp)]
  rw [hclose]
  exact foldl_keeps_prop (I := ClosedOn1 k) (fun u j hj hu => hu.groupClose (hl j (List.mem_append_right _ (List.mem_cons_of_mem _ hj)))) (closedOn1_closeLoop v k)

variable {t0 : Nat} {g : Fin 8}

theorem exec_groupClose (h0 : s.loops.failT0 = some t0) (hdue : t0 + 5000 + 2000 * g.val ≤ s.now) :
    exec (.failoverGroupClose g) s = .next ((failGroup s.loops.failedEngine g.val).foldl (fun s t => s.groupClose t) s) := by
  show execFailoverGroupClose g s = _
  unfold execFailoverGroupClose
  rw [h0]
  exact congrArg Host.Outcome.next (if_pos hdue)

theorem runs_groupClose (h0 : s.loops.failT0 = some t0) (hdue : t0 + 5000 + 2000 * g.val ≤ s.now) : Runs (.failoverGroupClose g) s fun u =>
    (∀ k, k ∈ failGroup s.loops.failedEngine g → s.loopState k = 3 → (s.tract k).seeded = true → (s.tract k).wasStopped = false →
      u.loopState k = 0 ∧ u.setOf k = 1 ∧ u.get (fTRC_TSTAT_RATE k) = 1) ∧
    (∀ k, k ∉ failGroup s.loops.failedEngine g → u.tract k = s.tract k) ∧
    ((∀ k, k ∈ failGroup s.loops.failedEngine g → (s.tract k).wasStopped = false) →
      OnlyRegs { s with tracts := u.tracts, cells := u.cells } u ((failGroup s.loops.failedEngine g).map TRC_TSTAT)) := by
  obtain ⟨l, hl⟩ : ∃ l, l = failGroup s.loops.failedEngine g := ⟨_, rfl⟩
  have hlt : ∀ j ∈ l, j < 64 := fun j hj => tract_lt_of_mem_failGroup (hl ▸ hj)
  refine ⟨_, exec_groupClose h0 hdue, ?_⟩
  rw [← hl]
  refine ⟨fun k hk => groupClose_closes hlt hk, fun k hk => ?_, fun hnone => ?_⟩
  · exact (Beside.foldl l s fun u j hj => beside_groupClose (k := k) u (hlt j hj) (by rintro rfl; exact hk hj)).tract
  · have hstep : ∀ (v : State), (∀ k ∈ l, (v.tract k).wasStopped = false) → ∀ j ∈ l, (∀ k ∈ l, ((v.groupClose j).tract k).wasStopped = false) ∧
        (∀ o, o ≠ TRC_TSTAT j → (v.groupClose j).reg o = v.reg o) ∧ ∃ r tr ce, v.groupClose j = { v with regs := r, tracts := tr, cells := ce } := by
      intro v hv j hj
      unfold State.groupClose
      rw [hv j hj]
      split
      · simp only [Bool.false_eq_true, if_false]
        refine ⟨fun k hk => ?_, fun o ho => reg_closeLoop v j 1 ho, closeLoop_regs v j 1⟩
        by_cases hkj : k = j
        · rw [hkj]
          exact wasStopped_closeLoop v j 1
        · rw [(beside_closeLoop v 1 hkj).tract]
          exact hv k hk
      · exact ⟨hv, fun _ _ => rfl, v.regs, v.tracts, v.cells, rfl⟩
    have hall : (∀ k ∈ l, ((l.foldl (fun s t => State.groupClose s t) s).tract k).wasStopped = false) ∧
        (∀ o, o ∉ l.map TRC_TSTAT → (l.foldl (fun s t => State.groupClose s t) s).reg o = s.reg o) ∧
        ∃ r tr ce, l.foldl (fun s t => State.groupClose s t) s = { s with regs := r, tracts := tr, cells := ce } := by
      refine foldl_keeps_prop (I := fun v : State => (∀ k ∈ l, (v.tract k).wasStopped = false) ∧ (∀ o, o ∉ l.map TRC_TSTAT → v.reg o = s.reg o) ∧
        ∃ r tr ce, v = { s with regs := r, tracts := tr, cells := ce }) (fun v j hj hv => ?_) ⟨hl ▸ hnone, fun _ _ => rfl, s.regs, s.tracts, s.cells, rfl⟩
      obtain ⟨hcame, hregs, r, tr, ce, hdata⟩ := hv
      obtain ⟨hcame', hregs', r', tr', ce', hdata'⟩ := hstep v hcame j hj
      refine ⟨hcame', fun o ho => (hregs' o ?_).trans (hregs o ho), r', tr', ce', by rw [hdata', hdata]⟩
      rintro rfl
      exact ho (List.mem_map_of_mem hj)
    obtain ⟨-, hregs, r, tr, ce, hdata⟩ := hall
    generalize l.foldl (fun s t => State.groupClose s t) s = u at hregs hdata ⊢
    subst hdata
    exact ⟨⟨r, s.cyc, rfl⟩, hregs⟩

/-! ### The pauses of a group lifted -/

theorem liftPauses_spec (s : State) (l : List Nat) : (∃ tr, l.foldl (fun s t => s.updTract t fun h => { h with failPause := false }) s = { s with tracts := tr }) ∧
    (∀ k, k ∈ l → (l.foldl (fun s t => s.updTract t fun h => { h with failPause := false }) s).tract k = { s.tract k with failPause := false }) ∧
    ∀ k, k ∉ l → (l.foldl (fun s t => s.updTract t fun h => { h with failPause := false }) s).tract k = s.tract k := by
  induction l generalizing s with
  | nil => exact ⟨⟨s.tracts, rfl⟩, fun _ h => absurd h List.not_mem_nil, fun _ _ => rfl⟩
  | cons j l ih =>
    obtain ⟨⟨tr, hdata⟩, hin, hout⟩ := ih (s.updTract j fun h => { h with failPause := false })
    have hsame := tract_updTract_same s j fun h => { h with failPause := false }
    rw [List.foldl_cons]
    refine ⟨⟨tr, hdata⟩, fun k hk => ?_, fun k hk => ?_⟩
    · by_cases hkl : k ∈ l
      · rw [hin k hkl]
        by_cases hkj : k = j
        · rw [hkj, hsame]
        · rw [tract_updTract_ne _ _ hkj]
      · obtain rfl : k = j := (List.mem_cons.mp hk).resolve_right hkl
        rw [hout k hkl, hsame]
    · rw [List.mem_cons, not_or] at hk
      rw [hout k hk.2, tract_updTract_ne _ _ hk.1]

theorem runs_pauseLift (h0 : s.loops.failT0 = some t0) (hdue : t0 + 9000 + 2000 * g.val ≤ s.now) : Runs (.failoverPauseLift g) s fun u =>
    (∀ k, k ∈ failGroup s.loops.failedEngine g → u.tract k = { s.tract k with failPause := false }) ∧
    (∀ k, k ∉ failGroup s.loops.failedEngine g → u.tract k = s.tract k) ∧
    u.on fTRC_ENG_FAILOVER = (if g.val = 7 then false else s.on fTRC_ENG_FAILOVER) ∧
    OnlyRegs { s with tracts := u.tracts, loops := if g.val = 7 then { s.loops with failT0 := none } else s.loops } u [TRC_ENG] := by
  obtain ⟨⟨tr, hdata⟩, hin, hout⟩ := liftPauses_spec s (failGroup s.loops.failedEngine g.val)
  have hexec : exec (.failoverPauseLift g) s = .next (
      let s1 := (failGroup s.loops.failedEngine g.val).foldl (fun s t => s.updTract t fun h => { h with failPause := false }) s
      if g.val = 7 then { s1.putB fTRC_ENG_FAILOVER false with loops := { s1.loops with failT0 := none } } else s1) := by
    show execFailoverPauseLift g s = _
    unfold execFailoverPauseLift
    rw [h0]
    exact congrArg Host.Outcome.next (if_pos hdue)
  dsimp only at hexec
  generalize (failGroup s.loops.failedEngine g.val).foldl (fun s t => State.updTract s t fun h => { h with failPause := false }) s = v at *
  refine ⟨_, hexec, ?_⟩
  subst hdata
  split
  · refine ⟨hin, hout, on_putB_same _ fTRC_ENG_FAILOVER false (by decide) rfl, ⟨_, s.cyc, rfl⟩, fun o ho => ?_⟩
    exact reg_putB_ne _ fTRC_ENG_FAILOVER _ _ (by simpa using ho)
  · exact ⟨hin, hout, rfl, ⟨s.regs, s.cyc, rfl⟩, fun _ _ => rfl⟩

end Sys2Proof.Machine
end

section
/-!
SUPPORT. A tract seeded on the surviving engine (R194, R195, R197).
-/

namespace Sys2Proof.Machine

variable {s t u : State} {k f : Nat}

theorem reg_failSchedule_ne (s : State) (f k : Nat) {o : Nat} (ho : o ≠ TRC_TSTAT k) : (s.failSchedule f k).reg o = s.reg o :=
  (reg_put_ne _ (fTRC_TSTAT_RATE k) _ _ ho).trans ((reg_put_ne _ (fTRC_TSTAT_SET k) _ _ ho).trans ((reg_put_ne _ (fTRC_TSTAT_PARITY k) _ _ ho).trans
    (reg_put_ne _ (fTRC_TSTAT_ENGINE k) _ _ ho)))

theorem failSchedule_regs (s : State) (f k : Nat) : ∃ r, s.failSchedule f k = { s with regs := r } := by
  obtain ⟨r1, h1⟩ := put_regs s (fTRC_TSTAT_ENGINE k) (1 - f)
  unfold State.failSchedule
  dsimp only
  rw [h1]
  obtain ⟨r2, h2⟩ := put_regs { s with regs := r1 } (fTRC_TSTAT_PARITY k) (if k % 8 / 4 = f then 1 else 0)
  rw [h2]
  obtain ⟨r3, h3⟩ := put_regs { s with regs := r2 } (fTRC_TSTAT_SET k) 1
  rw [h3]
  exact put_regs { s with regs := r3 } (fTRC_TSTAT_RATE k) 1

theorem failSchedule_spec (s : State) (f k : Nat) : (s.failSchedule f k).get (fTRC_TSTAT_ENGINE k) = 1 - f ∧
    (s.failSchedule f k).get (fTRC_TSTAT_PARITY k) = (if k % 8 / 4 = f then 1 else 0) ∧ (s.failSchedule f k).get (fTRC_TSTAT_SET k) = 1 ∧
    (s.failSchedule f k).get (fTRC_TSTAT_RATE k) = 1 := by
  unfold State.failSchedule
  dsimp only
  refine ⟨?_, ?_, ?_, ?_⟩
  · rw [get_put_apart _ (fTRC_TSTAT_RATE k) (fTRC_TSTAT_ENGINE k) _ rfl (by simp), get_put_apart _ (fTRC_TSTAT_SET k) (fTRC_TSTAT_ENGINE k) _ rfl (by simp),
      get_put_apart _ (fTRC_TSTAT_PARITY k) (fTRC_TSTAT_ENGINE k) _ rfl (by simp), get_put _ _ _ (by simp)]
    exact Nat.mod_eq_of_lt (show 1 - f < 2 ^ 1 by omega)
  · rw [get_put_apart _ (fTRC_TSTAT_RATE k) (fTRC_TSTAT_PARITY k) _ rfl (by simp), get_put_apart _ (fTRC_TSTAT_SET k) (fTRC_TSTAT_PARITY k) _ rfl (by simp),
      get_put _ _ _ (by simp)]
    split <;> rfl
  · rw [get_put_apart _ (fTRC_TSTAT_RATE k) (fTRC_TSTAT_SET k) _ rfl (by simp), get_put _ _ _ (by simp)]
    rfl
  · rw [get_put _ _ _ (by simp)]
    rfl

/-- A tract on the surviving engine, its set about to be read. -/
def State.rescheduled (s : State) (k : Nat) : State :=
  (s.failSchedule s.loops.failedEngine k).updTract k fun h => { h with seeded := true, lastSlot := false }

theorem reg_rescheduled (s : State) (k o : Nat) : (s.rescheduled k).reg o = (s.failSchedule s.loops.failedEngine k).reg o := reg_updTract _ _ _ _

theorem rescheduled_data (s : State) (k : Nat) : ∃ r tr, s.rescheduled k = { s with regs := r, tracts := tr } := by
  obtain ⟨r, hr⟩ := failSchedule_regs s s.loops.failedEngine k
  unfold State.rescheduled
  rw [hr]
  exact ⟨r, _, rfl⟩

theorem tract_rescheduled_same (s : State) (k : Nat) : (s.rescheduled k).tract k = { s.tract k with seeded := true, lastSlot := false } := by
  obtain ⟨r, hr⟩ := failSchedule_regs s s.loops.failedEngine k
  unfold State.rescheduled
  rw [hr, tract_updTract_same]
  rfl

theorem tract_rescheduled_ne (s : State) {j : Nat} (h : j ≠ k) : (s.rescheduled k).tract j = s.tract j := by
  obtain ⟨r, hr⟩ := failSchedule_regs s s.loops.failedEngine k
  unfold State.rescheduled
  rw [hr, tract_updTract_ne _ _ h]
  rfl

theorem setReads_rescheduled (s : State) (k set : Nat) : (s.rescheduled k).setReads k set = s.setReads k set := by
  have howner : (s.rescheduled k).reg MEM_OWNER = s.reg MEM_OWNER := (reg_rescheduled s k _).trans (reg_failSchedule_ne s _ k (by simp only [TRC_TSTAT, MEM_OWNER]; omega))
  have hpower : (s.rescheduled k).reg MEM_PWR = s.reg MEM_PWR := (reg_rescheduled s k _).trans (reg_failSchedule_ne s _ k (by simp only [TRC_TSTAT, MEM_PWR]; omega))
  have hmem : (s.rescheduled k).mem = s.mem := by
    obtain ⟨r, tr, h⟩ := rescheduled_data s k
    rw [h]
  unfold State.setReads State.memUsable State.memOwner State.memPower State.memBad
  rw [howner, hpower, hmem]

theorem dutyNow_rescheduled (s : State) (k : Nat) : (s.rescheduled k).dutyNow k = s.dutyNow k := by
  have hduty : (s.rescheduled k).get (fTRC_DUTY_DUTY k) = s.get (fTRC_DUTY_DUTY k) :=
    get_of_reg (fTRC_DUTY_DUTY k) ((reg_rescheduled s k _).trans (reg_failSchedule_ne s _ k (by simp only [TRC_TSTAT, TRC_DUTY]; omega)))
  have hnow : (s.rescheduled k).now = s.now := by
    obtain ⟨r, tr, h⟩ := rescheduled_data s k
    rw [h]
  unfold State.dutyNow
  rw [tract_rescheduled_same, hduty, hnow]

/-- The output that a frozen duty code stands for (R197). -/
def seedOf (duty k : Nat) : Int := sat24 (roundHalfUp (duty * 16384) k)

/-- Histories seeded: from the frozen duty code, while k is not 0 (R197). -/
theorem seedHeld_spec (s : State) (duty : Nat) (hk : s.get fTRC_NORM_K ≠ 0) :
    (s.seedHeld k duty).getI (fTRC_UOUT_U1 k) = seedOf duty (s.get fTRC_NORM_K) ∧
    (s.seedHeld k duty).tract k = { s.tract k with
      e1 := (s.tract k).e0, e2 := (s.tract k).e0, e3 := (s.tract k).e0, u2 := seedOf duty (s.get fTRC_NORM_K), u3 := seedOf duty (s.get fTRC_NORM_K)
      w := clampI 0 s.dmax (seedOf duty (s.get fTRC_NORM_K)) } ∧
    (∀ j, j ≠ k → (s.seedHeld k duty).tract j = s.tract j) ∧ (∀ o, o ≠ TRC_UOUT k → (s.seedHeld k duty).reg o = s.reg o) ∧
    ∃ r tr, s.seedHeld k duty = { s with regs := r, tracts := tr } := by
  obtain ⟨x, hx⟩ : ∃ x, x = seedOf duty (s.get fTRC_NORM_K) := ⟨_, rfl⟩
  have hseed : s.seedHeld k duty = (s.putI (fTRC_UOUT_U1 k) x).updTract k fun h =>
      { h with e1 := (s.tract k).e0, e2 := (s.tract k).e0, e3 := (s.tract k).e0, u2 := x, u3 := x, w := clampI 0 s.dmax x } := by
    unfold State.seedHeld
    dsimp only
    rw [if_neg hk, hx]
    rfl
  have hbound : -(2 ^ 23) ≤ x ∧ x < 2 ^ 23 := by
    rw [hx]
    unfold seedOf sat24 clampI
    omega
  rw [hseed, ← hx]
  refine ⟨?_, tract_updTract_same _ _ _, fun j hj => tract_updTract_ne _ _ hj, fun o ho => ?_, ?_⟩
  · refine (getI_congr (get_of_reg (fTRC_UOUT_U1 k) (reg_updTract _ _ _ _))).trans (getI_putI s (fTRC_UOUT_U1 k) x (by simp) (by simp) ?_ ?_)
    · exact hbound.1
    · exact hbound.2
  · rw [reg_updTract]
    exact reg_setReg_ne _ _ _ _ ho
  · obtain ⟨r, hr⟩ : ∃ r, s.putI (fTRC_UOUT_U1 k) x = { s with regs := r } := put_regs s _ _
    rw [hr]
    exact ⟨r, _, rfl⟩

/-- A stopped tract shows it, and reports the loss of its coefficients (R194). -/
theorem haltTract_spec (s : State) (k : Nat) (hk : k < 64) :
    (s.haltTract k).get (fTRC_TSTAT_STATE k) = 4 ∧ (s.haltTract k).stat evTRC_COEF_LOST = true := by
  unfold State.haltTract
  extract_lets s1
  refine ⟨?_, stat_raise_same _ _ _ (by decide)⟩
  refine (get_of_reg (fTRC_TSTAT_STATE k) (reg_raiseD _ _ _ _ _ (tstat_not_event (by decide) hk))).trans ?_
  rw [get_of_reg (fTRC_TSTAT_STATE k) (reg_updTract _ _ _ _), get_of_reg (fTRC_TSTAT_STATE k) (reg_put_ne _ (fTRC_DUTY_DUTY k) _ _ (by
    simp only [TRC_TSTAT, TRC_DUTY]; omega)), get_put _ _ _ (by simp)]
  rfl

theorem stopTract_spec (s : State) (hk : k < 64) : (s.stopTract k).loopState k = 4 ∧ (s.stopTract k).stat evTRC_COEF_LOST = true := by
  obtain ⟨hstate, hstat⟩ := haltTract_spec s k hk
  have hstop (u : State) (hu : u.get (fTRC_TSTAT_STATE k) = 4) : u.loopState k = 4 := by
    unfold State.loopState
    rw [hu]
    rfl
  have hc : 4 * k < 256 := by omega
  unfold State.stopTract
  split
  · exact ⟨hstop _ hstate, hstat⟩
  · exact ⟨hstop _ (stays_afterCellLoss _ hc hk hstate), (movement_afterCellLoss _ hc).stat _ hstat⟩

variable {t0 : Nat} {ecc : Ecc} {x : Fin 64}

theorem exec_failoverSeed (h0 : s.loops.failT0 = some t0) (hdue : t0 + 1000 ≤ s.now) (hnew : (s.tract x).seeded = false)
    (hover : s.on fTRC_ENG_FAILOVER = true) (hecc : ecc = .clean) : exec (.failoverSeed x ecc) s = .next (
      if s.loopState x = 4 || (s.loopState x ≠ 3 && 32 ≤ s.domOf x) then s.rescheduled x
      else if !s.setReads x 1 then (s.rescheduled x).stopTract x
      else if s.loopState x = 3 then (s.rescheduled x).seedHeld x (s.dutyNow x)
      else s.rescheduled x) := by
  subst hecc
  rw [← setReads_rescheduled s x 1, ← dutyNow_rescheduled s x]
  show execFailoverSeed x .clean s = _
  unfold execFailoverSeed
  rw [h0]
  exact congrArg Host.Outcome.next (if_pos (by simp [hdue, hnew, hover]))

theorem runs_failoverSeed (h0 : s.loops.failT0 = some t0) (hdue : t0 + 1000 ≤ s.now) (hnew : (s.tract x).seeded = false)
    (hover : s.on fTRC_ENG_FAILOVER = true) (hstate : s.loopState x = 3) (hecc : ecc = .clean) (hreads : s.setReads x 1 = true)
    (hk : s.get fTRC_NORM_K ≠ 0) : Runs (.failoverSeed x ecc) s fun u =>
      u.get (fTRC_TSTAT_ENGINE x) = 1 - s.loops.failedEngine ∧ u.setOf x = 1 ∧ u.get (fTRC_TSTAT_RATE x) = 1 ∧
      u.get (fTRC_TSTAT_PARITY x) = (if x.val % 8 / 4 = s.loops.failedEngine then 1 else 0) ∧
      u.getI (fTRC_UOUT_U1 x) = sat24 (roundHalfUp (s.dutyNow x * 16384) (s.get fTRC_NORM_K)) ∧
      u.tract x = { s.tract x with seeded := true, lastSlot := false, e1 := (s.tract x).e0, e2 := (s.tract x).e0, e3 := (s.tract x).e0
                                   u2 := u.getI (fTRC_UOUT_U1 x), u3 := u.getI (fTRC_UOUT_U1 x), w := clampI 0 s.dmax (u.getI (fTRC_UOUT_U1 x)) } ∧
      OnlyRegs { s with tracts := u.tracts } u [TRC_TSTAT x, TRC_UOUT x] ∧ ∀ k, k ≠ x.val → u.tract k = s.tract k := by
  have hexec := exec_failoverSeed h0 hdue hnew hover hecc
  rw [if_neg (by simp [hstate]), if_neg (by simp [hreads]), if_pos hstate] at hexec
  have hsame {o : Nat} (ho : o ≠ TRC_TSTAT x) : (s.rescheduled x).reg o = s.reg o := (reg_rescheduled s x o).trans (reg_failSchedule_ne s _ x ho)
  have hnorm : (s.rescheduled x).get fTRC_NORM_K = s.get fTRC_NORM_K := get_of_reg fTRC_NORM_K (hsame (by simp only [TRC_TSTAT, TRC_NORM]; omega))
  have hdmax : (s.rescheduled x).dmax = s.dmax := by
    unfold State.dmax
    rw [get_of_reg fCAD_TRC_DMAX (hsame (by simp only [TRC_TSTAT, CAD_TRC]; omega))]
  obtain ⟨hu1, htract, hothers, hregs, r2, tr2, hdata2⟩ := seedHeld_spec (k := x) (s.rescheduled x) (s.dutyNow x) (by rw [hnorm]; exact hk)
  obtain ⟨r1, tr1, hdata1⟩ := rescheduled_data s x
  obtain ⟨hengine, hparity, hset, hrate⟩ := failSchedule_spec s s.loops.failedEngine x
  rw [hnorm] at hu1
  rw [hnorm, hdmax, tract_rescheduled_same] at htract
  have hothers' (k : Nat) (hne : k ≠ x.val) : ((s.rescheduled x).seedHeld x (s.dutyNow x)).tract k = s.tract k :=
    (hothers k hne).trans (tract_rescheduled_ne s hne)
  have htstat : ((s.rescheduled x).seedHeld x (s.dutyNow x)).reg (TRC_TSTAT x) = (s.failSchedule s.loops.failedEngine x).reg (TRC_TSTAT x) :=
    (hregs _ (by simp only [TRC_TSTAT, TRC_UOUT]; omega)).trans (reg_rescheduled s x _)
  have hregs' (o : Nat) (ho : o ∉ [TRC_TSTAT x, TRC_UOUT x]) : ((s.rescheduled x).seedHeld x (s.dutyNow x)).reg o = s.reg o := by
    simp only [List.mem_cons, List.not_mem_nil, or_false, not_or] at ho
    exact (hregs o ho.2).trans (hsame ho.1)
  have hdata : ∃ r tr, (s.rescheduled x).seedHeld x (s.dutyNow x) = { s with regs := r, tracts := tr } := ⟨r2, tr2, by rw [hdata2, hdata1]⟩
  generalize (s.rescheduled x).seedHeld x (s.dutyNow x) = u at *
  obtain ⟨r, tr, hu⟩ := hdata
  refine ⟨u, hexec, (get_of_reg (fTRC_TSTAT_ENGINE x) htstat).trans hengine, (get_of_reg (fTRC_TSTAT_SET x) htstat).trans hset,
    (get_of_reg (fTRC_TSTAT_RATE x) htstat).trans hrate, (get_of_reg (fTRC_TSTAT_PARITY x) htstat).trans hparity, hu1, ?_, ⟨⟨u.regs, s.cyc, by rw [hu]⟩, hregs'⟩,
    hothers'⟩
  rw [htract, hu1]

theorem runs_failoverSeed_lost (h0 : s.loops.failT0 = some t0) (hdue : t0 + 1000 ≤ s.now) (hnew : (s.tract x).seeded = false)
    (hover : s.on fTRC_ENG_FAILOVER = true) (hdom : s.domOf x < 32) (hstate : s.loopState x ≠ 4) (hecc : ecc = .clean) (hreads : s.setReads x 1 = false) :
    Runs (.failoverSeed x ecc) s fun u => u.loopState x = 4 ∧ u.stat evTRC_COEF_LOST = true := by
  have hexec := exec_failoverSeed h0 hdue hnew hover hecc
  rw [if_neg (by simp [hstate, hdom]), if_pos (by simp [hreads])] at hexec
  exact ⟨_, hexec, stopTract_spec _ x.isLt⟩

end Sys2Proof.Machine
end

section
/-!
SETTLED. An engine failure, the failover of all tracts, and the loss of both engines.
-/

open Sys2Proof Sys2Proof.Machine

/-- Settles O41: the failure and its failover tract by tract, the loss of both engines cell by cell, then the steps of the sequence. -/
theorem failover : Obligations.Failover := by
  unfold Obligations.Failover
  refine fun s e t g ecc t0 => ⟨fun z hz => ⟨exec_engineFail_early hz, fun hdue hwest heast => ?_, fun hdue hgood hother => ?_⟩,
    fun h0 => ⟨fun hdue hnew hover _ hstate hecc hreads hk => runs_failoverSeed h0 hdue hnew hover hstate hecc hreads hk,
      fun hdue hnew hover => runs_failoverSeed_lost h0 hdue hnew hover, runs_groupClose h0, runs_pauseLift h0⟩⟩
  · have hgood : s.on (engFld e.val) = false ∧ s.on (engFld (1 - e.val)) = false := by
      constructor
      · rcases engFld_cases e.val with h | h <;> rw [h] <;> assumption
      · rcases engFld_cases (1 - e.val) with h | h <;> rw [h] <;> assumption
    exact engineFail_one hz hdue hgood.1 hgood.2
  · have hlost : s.on (engFld (1 - e.val)) = true := by
      obtain ⟨e, he⟩ := e
      obtain rfl | rfl : e = 0 ∨ e = 1 := by omega
      · exact hother
      · exact hother
    exact engineFail_both hz hdue hgood hlost

end

section
/-!
SUPPORT. One frame (R86, R117-R124, R150, R576): the samples of the stations, the feedback of a tract, and what the rest of the frame leaves
alone.
-/

namespace Sys2Proof.Machine

variable {s t u v : State}

/-! ### A station's sample -/

/-- The word of a station for a rail voltage in uV (R117, R118). -/
def stnWord (uv : Nat) : Word := BitVec.ofNat 32 (b2n (decide (1100000 < uv)) * 2048 + b2n (decide (uv < 300000)) * 1024 +
  if uv < 300000 then 240 else if 1100000 < uv then 880 else (uv + 624) / 1250)

theorem reg_sampleStation_same (s : State) (n uv : Nat) : (s.sampleStation n uv).reg (STN_VAL n) = stnWord uv := reg_setReg_same _ _ _
theorem reg_sampleStation_ne (s : State) (uv : Nat) {n o : Nat} (h : o ≠ STN_VAL n) : (s.sampleStation n uv).reg o = s.reg o := reg_setReg_ne _ _ _ _ h

/-- The code lies in ten bits, so the flags lie beside it. -/
theorem stnWord_fields (uv : Nat) : bitsAt (stnWord uv) 0 10 = (if uv < 300000 then 240 else if 1100000 < uv then 880 else (uv + 624) / 1250) ∧
    bitsAt (stnWord uv) 11 1 = b2n (decide (1100000 < uv)) ∧ bitsAt (stnWord uv) 10 1 = b2n (decide (uv < 300000)) := by
  obtain ⟨c, hc⟩ : ∃ c, c = if uv < 300000 then 240 else if 1100000 < uv then 880 else (uv + 624) / 1250 := ⟨_, rfl⟩
  have hlt : c < 1024 := by
    rw [hc]
    split
    · omega
    · split <;> omega
  unfold stnWord
  rw [← hc]
  by_cases hover : 1100000 < uv <;> by_cases hunder : uv < 300000 <;> simp only [hover, hunder, decide_true, decide_false, b2n, bitsAt, BitVec.toNat_ofNat] <;>
    simp <;> omega

theorem stn_fields_of {n uv : Nat} (h : s.reg (STN_VAL n) = stnWord uv) :
    s.get (fSTN_VAL_CODE n) = (if uv < 300000 then 240 else if 1100000 < uv then 880 else (uv + 624) / 1250) ∧
    s.on (fSTN_VAL_OVR n) = decide (1100000 < uv) ∧ s.on (fSTN_VAL_UND n) = decide (uv < 300000) := by
  obtain ⟨hcode, hovr, hund⟩ := stnWord_fields uv
  unfold State.on State.get
  rw [h]
  refine ⟨hcode, ?_, ?_⟩
  · rw [hovr]
    cases decide (1100000 < uv) <;> rfl
  · rw [hund]
    cases decide (uv < 300000) <;> rfl

/-! ### The feedback of a tract -/

theorem mem_insertNat {x y : Nat} {l : List Nat} : y ∈ insertNat x l → y = x ∨ y ∈ l := by
  induction l with
  | nil => simp [insertNat]
  | cons a l ih =>
    unfold insertNat
    split
    · exact List.mem_cons.mp
    · intro h
      rcases List.mem_cons.mp h with rfl | h
      · exact Or.inr List.mem_cons_self
      · exact (ih h).imp_right (List.mem_cons_of_mem _)

theorem mem_sortNat {y : Nat} {l : List Nat} (h : y ∈ sortNat l) : y ∈ l := by
  induction l with
  | nil => exact h
  | cons a l ih =>
    rcases mem_insertNat h with rfl | h
    · exact List.mem_cons_self
    · exact List.mem_cons_of_mem _ (ih h)

theorem lowerMedian_lt {l : List Nat} {b : Nat} (hb : 0 < b) (h : ∀ x ∈ l, x < b) : lowerMedian l < b := by
  unfold lowerMedian
  rw [List.getD_eq_getElem?_getD]
  cases hget : (sortNat l)[(l.length - 1) / 2]? with
  | none => exact hb
  | some x => exact h x (mem_sortNat (List.mem_of_getElem? hget))

theorem leastOf_lt {l : List Nat} {b : Nat} (hb : 0 < b) (h : ∀ x ∈ l, x < b) : leastOf 0 l < b := by
  cases l with
  | nil => exact hb
  | cons a l =>
    exact foldl_keeps_prop (I := (· < b)) (fun m x _ hm => lt_of_le_of_lt (min_le_left _ _) hm) (h a List.mem_cons_self)

theorem feedback_lt (s : State) {k : Nat} {f : Nat × Nat × Nat} (h : s.feedback k = some f) : f.1 < 1024 ∧ f.2.1 < 16 := by
  have hcode : ∀ x ∈ (s.usableIn k).map fun n => s.get (fSTN_VAL_CODE n), x < 1024 := by
    intro x hx
    obtain ⟨n, -, rfl⟩ := List.mem_map.mp hx
    exact get_lt_pow s (fSTN_VAL_CODE n)
  unfold State.feedback at h
  dsimp only at h
  generalize s.usableIn k = ns at h hcode
  cases ns with
  | nil => exact absurd h (by simp)
  | cons a l =>
    obtain rfl := Option.some.inj h
    refine ⟨?_, Nat.mod_lt _ (by decide)⟩
    show (if _ then _ else _) < 1024
    split
    · exact lowerMedian_lt (by decide) hcode
    · exact leastOf_lt (by decide) hcode

theorem usable_congr {k n : Nat} (hen : t.reg (STN_EN k) = s.reg (STN_EN k)) (hsusp : t.reg (STN_SUSP k) = s.reg (STN_SUSP k)) (hn : n / 16 = k) :
    t.usable n = s.usable n := by
  unfold State.usable
  rw [hn, get_of_reg (fSTN_EN_EN k) hen, get_of_reg (fSTN_SUSP_SUSP k) hsusp]

theorem usableIn_congr {k : Nat} (hen : t.reg (STN_EN k) = s.reg (STN_EN k)) (hsusp : t.reg (STN_SUSP k) = s.reg (STN_SUSP k)) :
    t.usableIn k = s.usableIn k := by
  refine List.filter_congr fun n hn => usable_congr hen hsusp ?_
  obtain ⟨j, hj, rfl⟩ := List.mem_map.mp hn
  have := mem_upTo.mp hj
  omega

theorem mem_usableIn {k n : Nat} (h : n ∈ s.usableIn k) : n / 16 = k ∧ s.usable n = true := by
  obtain ⟨hn, husable⟩ := List.mem_filter.mp h
  obtain ⟨j, hj, rfl⟩ := List.mem_map.mp hn
  have := mem_upTo.mp hj
  exact ⟨by omega, husable⟩

theorem feedback_congr {k : Nat} (hen : t.reg (STN_EN k) = s.reg (STN_EN k)) (hsusp : t.reg (STN_SUSP k) = s.reg (STN_SUSP k))
    (hval : ∀ n, n / 16 = k → t.reg (STN_VAL n) = s.reg (STN_VAL n)) (hpresent : t.present k = s.present k) : t.feedback k = s.feedback k := by
  have hcode : ∀ n ∈ s.usableIn k, t.get (fSTN_VAL_CODE n) = s.get (fSTN_VAL_CODE n) := fun n hn =>
    get_of_reg (fSTN_VAL_CODE n) (hval n (mem_usableIn hn).1)
  unfold State.feedback
  dsimp only
  rw [usableIn_congr hen hsusp, List.map_congr_left hcode, hpresent]
  generalize s.usableIn k = ns at hcode
  cases ns with
  | nil => rfl
  | cons a l =>
    dsimp only
    congr 3
    obtain ⟨x, hx⟩ : ∃ x, x = if s.present k + 40 < lowerMedian ((a :: l).map fun n => s.get (fSTN_VAL_CODE n)) then
      lowerMedian ((a :: l).map fun n => s.get (fSTN_VAL_CODE n)) else leastOf 0 ((a :: l).map fun n => s.get (fSTN_VAL_CODE n)) := ⟨_, rfl⟩
    rw [← hx]
    have hfind : ∀ m : List Nat, (∀ n ∈ m, t.get (fSTN_VAL_CODE n) = s.get (fSTN_VAL_CODE n)) →
        (m.find? fun n => t.get (fSTN_VAL_CODE n) = x) = m.find? fun n => s.get (fSTN_VAL_CODE n) = x := by
      intro m hm
      induction m with
      | nil => rfl
      | cons b m ih => rw [List.find?_cons, List.find?_cons, hm b List.mem_cons_self, ih fun n hn => hm n (List.mem_cons_of_mem _ hn)]
    rw [hfind _ hcode]

/-! ### The stations of a tract in a frame -/

/-- The word of a tract's feedback. -/
def State.minWord (s : State) (k : Nat) : Word :=
  BitVec.ofNat 32 (((s.feedback k).map fun x => x.1).getD 0 * 2 ^ 16 + ((s.feedback k).map fun x => x.2.1).getD 0)

theorem minWord_fields (s : State) {k : Nat} {f : Nat × Nat × Nat} (hf : s.feedback k = some f) (h : t.reg (STN_MIN k) = s.minWord k) :
    t.get (fSTN_MIN_CODE k) = f.1 ∧ t.get (fSTN_MIN_IDX k) = f.2.1 := by
  obtain ⟨hcode, hidx⟩ := feedback_lt s hf
  have hword : s.minWord k = BitVec.ofNat 32 (f.1 * 2 ^ 16 + f.2.1) := by
    unfold State.minWord
    rw [hf]
    rfl
  unfold State.get
  rw [h, hword]
  simp only [bitsAt, BitVec.toNat_ofNat]
  constructor <;> omega

/-- What the samples of stations and the feedback of tracts leave alone: all but the stations, the tracts and the registers. -/
def State.sansStations (s : State) : State := { s.unreg with stns := [], tracts := [] }

theorem sansStations_setReg (s : State) (o : Nat) (w : Word) : (s.setReg o w).sansStations = s.sansStations := rfl
theorem sansStations_updTract (s : State) (k : Nat) (f : TractHid → TractHid) : (s.updTract k f).sansStations = s.sansStations := rfl
theorem tract_setReg (s : State) (o : Nat) (w : Word) (k : Nat) : (s.setReg o w).tract k = s.tract k := rfl

theorem updStns_spec (f : State → Nat → StnHid → StnHid) (l : List Nat) (s : State) :
    (l.foldl (fun a n => a.updStn n (f a n)) s).sansStations = s.sansStations ∧ (l.foldl (fun a n => a.updStn n (f a n)) s).regs = s.regs ∧
    (l.foldl (fun a n => a.updStn n (f a n)) s).tracts = s.tracts := by
  refine foldl_keeps_prop (I := fun u : State => u.sansStations = s.sansStations ∧ u.regs = s.regs ∧ u.tracts = s.tracts) (fun u n _ hu => ?_) ⟨rfl, rfl, rfl⟩
  exact hu

/-- The feedback shown and the tract's own figures, then the stations, and the end of a CONSENSUS. -/
theorem frameStations_eq (s : State) (tripped : List Nat) (k : Nat) : ∃ (f : TractHid → TractHid) (g : State → Nat → StnHid → StnHid) (c : State → Bool),
    s.frameStations tripped k = (fun v : State => if c v then v else v.updTract k fun h => { h with consensus := false })
      (((upTo 16).map (16 * k + ·)).foldl (fun a n => a.updStn n (g a n)) ((s.setReg (STN_MIN k) (s.minWord k)).updTract k f)) := by
  unfold State.frameStations
  extract_lets p w med s1 s2 far s3
  exact ⟨_, _, fun v => ((upTo 16).map (16 * k + ·)).any fun n => (v.stn n).far = 25000, rfl⟩

theorem frameStations_spec (s : State) (tripped : List Nat) (k : Nat) : (s.frameStations tripped k).sansStations = s.sansStations ∧
    (s.frameStations tripped k).reg (STN_MIN k) = s.minWord k ∧ (∀ o, o ≠ STN_MIN k → (s.frameStations tripped k).reg o = s.reg o) ∧
    ∀ j, j ≠ k → (s.frameStations tripped k).tract j = s.tract j := by
  obtain ⟨f, g, c, heq⟩ := frameStations_eq s tripped k
  obtain ⟨w, hw⟩ : ∃ w, w = s.minWord k := ⟨_, rfl⟩
  rw [← hw] at heq ⊢
  obtain ⟨hdata, hregs, htract⟩ := updStns_spec g ((upTo 16).map (16 * k + ·)) ((s.setReg (STN_MIN k) w).updTract k f)
  rw [heq]
  generalize ((upTo 16).map (16 * k + ·)).foldl (fun a n => a.updStn n (g a n)) ((s.setReg (STN_MIN k) w).updTract k f) = v at *
  have hreg (o : Nat) : v.reg o = (s.setReg (STN_MIN k) w).reg o := by rw [State.reg, hregs, ← State.reg, reg_updTract]
  rw [sansStations_updTract, sansStations_setReg] at hdata
  have hmin : v.reg (STN_MIN k) = w := by rw [hreg, reg_setReg_same]
  have hrest (o : Nat) (ho : o ≠ STN_MIN k) : v.reg o = s.reg o := by rw [hreg, reg_setReg_ne _ _ _ _ ho]
  have htracts (j : Nat) (hj : j ≠ k) : v.tract j = s.tract j := by
    rw [State.tract, htract, ← State.tract, tract_updTract_ne _ _ hj, tract_setReg]
  dsimp only
  split
  · exact ⟨hdata, hmin, hrest, htracts⟩
  · exact ⟨(sansStations_updTract _ _ _).trans hdata, (reg_updTract _ _ _ _).trans hmin, fun o ho => (reg_updTract _ _ _ _).trans (hrest o ho),
      fun j hj => (tract_updTract_ne _ _ hj).trans (htracts j hj)⟩

/-- The stations of some tracts sampled, and the feedback of those tracts. -/
def State.sampleRound (s : State) (uv tripped ts : List Nat) : State :=
  forEach ts (fun t s => s.frameStations tripped t) (forEach (ts.flatMap fun t => (upTo 16).map (16 * t + ·)) (fun n s => s.sampleStation n (uv.getD n 0)) s)

theorem mem_stationsOf {ts : List Nat} {n : Nat} : (n ∈ ts.flatMap fun t => (upTo 16).map (16 * t + ·)) ↔ n / 16 ∈ ts := by
  simp only [List.mem_flatMap, List.mem_map, mem_upTo]
  constructor
  · rintro ⟨k, hk, j, hj, rfl⟩
    rwa [show (16 * k + j) / 16 = k by omega]
  · exact fun h => ⟨n / 16, h, n % 16, by omega, by omega⟩

theorem stnVal_ne_stnMin {k n : Nat} (hk : k < 64) : STN_VAL n ≠ STN_MIN k := by
  simp only [STN_VAL, STN_MIN]
  omega

theorem stnVal_inj {k n : Nat} : STN_VAL k = STN_VAL n ↔ k = n := by
  simp only [STN_VAL]
  omega

theorem sampleRound_spec (s : State) (uv tripped : List Nat) {ts : List Nat} (hts : ∀ k ∈ ts, k < 64) (hnodup : ts.Nodup) :
    (s.sampleRound uv tripped ts).sansStations = s.sansStations ∧
    (∀ o, o ∉ (upTo 1024).map STN_VAL ++ (upTo 64).map STN_MIN → (s.sampleRound uv tripped ts).reg o = s.reg o) ∧
    (∀ n, n / 16 ∈ ts → (s.sampleRound uv tripped ts).reg (STN_VAL n) = stnWord (uv.getD n 0)) ∧
    (∀ k ∈ ts, (s.sampleRound uv tripped ts).reg (STN_MIN k) = (s.sampleRound uv tripped ts).minWord k) ∧
    ∀ k, k ∉ ts → k < 64 → (s.sampleRound uv tripped ts).reg (STN_MIN k) = s.reg (STN_MIN k) ∧ (s.sampleRound uv tripped ts).tract k = s.tract k ∧
      ∀ n, n / 16 = k → (s.sampleRound uv tripped ts).reg (STN_VAL n) = s.reg (STN_VAL n) := by
  obtain ⟨ns, hns⟩ : ∃ ns, ns = ts.flatMap fun t => (upTo 16).map (16 * t + ·) := ⟨_, rfl⟩
  obtain ⟨w, hw⟩ : ∃ w, w = forEach ns (fun n s => s.sampleStation n (uv.getD n 0)) s := ⟨_, rfl⟩
  have hrun : s.sampleRound uv tripped ts = forEach ts (fun t s => s.frameStations tripped t) w := by rw [hw, hns]; rfl
  have hsample (o : Nat) (ho : ∀ n ∈ ns, o ≠ STN_VAL n) : w.reg o = s.reg o :=
    hw ▸ foldl_keeps (fun v : State => v.reg o) (f := fun v n => v.sampleStation n (uv.getD n 0)) (l := ns) (fun v n hn => reg_sampleStation_ne v _ (ho n hn)) s
  have hback (o : Nat) (ho : ∀ k ∈ ts, o ≠ STN_MIN k) : (s.sampleRound uv tripped ts).reg o = w.reg o :=
    hrun ▸ foldl_keeps (fun v : State => v.reg o) (f := fun v k => v.frameStations tripped k) (l := ts)
      (fun v k hk => (frameStations_spec v tripped k).2.2.1 o (ho k hk)) w
  have hdata : (s.sampleRound uv tripped ts).sansStations = s.sansStations := by
    refine Eq.trans ?_ (show w.sansStations = s.sansStations from ?_)
    · exact hrun ▸ foldl_keeps State.sansStations (f := fun v k => v.frameStations tripped k) (l := ts) (fun v k _ => (frameStations_spec v tripped k).1) w
    · exact hw ▸ foldl_keeps State.sansStations (f := fun v n => v.sampleStation n (uv.getD n 0)) (l := ns) (fun _ _ _ => rfl) s
  refine ⟨hdata, fun o ho => ?_, fun n hn => ?_, fun k hk => ?_, fun k hk hlt => ⟨?_, ?_, fun n hn => ?_⟩⟩
  · simp only [List.mem_append, List.mem_map, mem_upTo, not_or, not_exists, not_and] at ho
    rw [hback o fun k hk h => ho.2 k (hts k hk) h.symm, hsample o fun n hn h => ho.1 n (by have := hts _ (mem_stationsOf.mp (hns ▸ hn)); omega) h.symm]
  · rw [hback _ fun k hk => stnVal_ne_stnMin (hts k hk), hw]
    refine foldl_holds (P := fun v : State => v.reg (STN_VAL n) = stnWord (uv.getD n 0)) (f := fun v n => v.sampleStation n (uv.getD n 0)) (l := ns) (b := n) (hns ▸ mem_stationsOf.mpr hn)
      (fun v => reg_sampleStation_same v _ _) (fun v m _ hv => ?_) s
    by_cases hmn : n = m
    · rw [hmn]
      exact reg_sampleStation_same v _ _
    · exact (reg_sampleStation_ne v _ (mt stnVal_inj.mp hmn)).trans hv
  · obtain ⟨v, hv, -, hat⟩ := foldl_at (fun v : State => v.reg (STN_MIN k)) (I := fun v => ∀ o, (∀ k ∈ ts, o ≠ STN_MIN k) → v.reg o = w.reg o)
      (f := fun v k => v.frameStations tripped k) hnodup hk
      (fun v j _ hj => (frameStations_spec v tripped j).2.2.1 _ (by simp only [STN_MIN]; omega))
      (fun v j hj hv o ho => ((frameStations_spec v tripped j).2.2.1 o (ho j hj)).trans (hv o ho)) (a := w) fun _ _ => rfl
    have hsame {o : Nat} (ho : ∀ k ∈ ts, o ≠ STN_MIN k) : (s.sampleRound uv tripped ts).reg o = v.reg o := (hback o ho).trans (hv o ho).symm
    have hfeed : (s.sampleRound uv tripped ts).feedback k = v.feedback k :=
      feedback_congr (hsame fun j hj => by simp only [STN_EN, STN_MIN]; omega) (hsame fun j hj => by simp only [STN_SUSP, STN_MIN]; omega)
        (fun n _ => hsame fun j hj => stnVal_ne_stnMin (hts j hj))
        (get_of_reg (fCEL_CSTAT_PRESENT (4 * k)) (hsame fun j hj => by have := hts k hk; simp only [CEL_CSTAT, STN_MIN]; omega))
    unfold State.minWord
    rw [hfeed]
    refine Eq.trans ?_ (frameStations_spec v tripped k).2.1
    exact hrun ▸ hat
  · rw [hback _ fun j hj => by have : k ≠ j := fun h => hk (h ▸ hj); simp only [STN_MIN]; omega]
    exact hsample _ fun n hn => (stnVal_ne_stnMin hlt).symm
  · refine Eq.trans ?_ (show w.tract k = s.tract k from ?_)
    · exact hrun ▸ foldl_keeps (fun v : State => v.tract k) (f := fun v j => v.frameStations tripped j) (l := ts)
        (fun v j hj => (frameStations_spec v tripped j).2.2.2 k fun h => hk (h ▸ hj)) w
    · exact hw ▸ foldl_keeps (fun v : State => v.tract k) (f := fun v n => v.sampleStation n (uv.getD n 0)) (l := ns) (fun _ _ _ => rfl) s
  · rw [hback _ fun j hj => stnVal_ne_stnMin (hts j hj)]
    exact hsample _ fun m hm h => hk (hn ▸ stnVal_inj.mp h ▸ mem_stationsOf.mp (hns ▸ hm))

end Sys2Proof.Machine
end

section
/-!
SUPPORT. What follows the samples in a frame (R86, R96, R102-R115, R284, R408, R449-R465): the figures of cells, tracts and domains, which
leave the samples and their feedback alone.
-/

namespace Sys2Proof.Machine

variable {s t u : State}

/-- The registers that show the currents and the limits. -/
def currentsRegs : List Nat := (upTo 256).map CEL_CSTAT ++ (upTo 256).map CEL_MEAS ++ (upTo 64).map TRC_IMEAS

/-- All but the registers, the cells, the tracts and the domains. -/
def State.sansCurrents (s : State) : State := { s.unreg with cells := [], tracts := [], doms := [] }

/-- A step that takes currents and limits: it leaves the samples, the feedback and what it rests on. -/
structure Measures (s t : State) : Prop where
  data : t.sansCurrents = s.sansCurrents
  regs : ∀ o, o ∉ currentsRegs → t.reg o = s.reg o
  present : ∀ c, t.get (fCEL_CSTAT_PRESENT c) = s.get (fCEL_CSTAT_PRESENT c)
  isns : ∀ c, (t.cell c).isns0 = (s.cell c).isns0 ∧ (t.cell c).isns1 = (s.cell c).isns1
  samples : ∀ k, (t.tract k).samples = (s.tract k).samples

theorem Measures.refl (s : State) : Measures s s := ⟨rfl, fun _ _ => rfl, fun _ => rfl, fun _ => ⟨rfl, rfl⟩, fun _ => rfl⟩

theorem Measures.trans (h : Measures s t) (h' : Measures t u) : Measures s u :=
  ⟨h'.data.trans h.data, fun o ho => (h'.regs o ho).trans (h.regs o ho), fun c => (h'.present c).trans (h.present c),
    fun c => ⟨(h'.isns c).1.trans (h.isns c).1, (h'.isns c).2.trans (h.isns c).2⟩, fun k => (h'.samples k).trans (h.samples k)⟩

theorem Measures.ite {c : Prop} [Decidable c] (h : Measures s t) (h' : Measures s u) : Measures s (if c then t else u) := by
  split
  · exact h
  · exact h'

theorem Measures.foldl {α : Type} {f : State → α → State} (l : List α) (s : State) (hf : ∀ u, ∀ a ∈ l, Measures u (f u a)) : Measures s (l.foldl f s) :=
  foldl_keeps_prop (I := Measures s) (fun u a ha hu => hu.trans (hf u a ha)) (.refl s)

/-- A field beside the present code. -/
theorem Measures.put (s : State) {f : Fld} (n : Nat) (hoff : f.off ∈ currentsRegs)
    (hapart : ∀ c, f.off = CEL_CSTAT c → f.lo + f.width ≤ 10 ∨ 20 ≤ f.lo) : Measures s (s.put f n) := by
  refine ⟨rfl, fun o ho => reg_put_ne _ _ _ _ fun h => ho (h ▸ hoff), fun c => ?_, fun _ => ⟨rfl, rfl⟩, fun _ => rfl⟩
  by_cases hc : f.off = CEL_CSTAT c
  · exact get_put_apart _ f (fCEL_CSTAT_PRESENT c) _ hc.symm (by have := hapart c hc; simp; omega)
  · exact get_of_reg (fCEL_CSTAT_PRESENT c) (reg_put_ne _ _ _ _ (Ne.symm hc))

theorem Measures.updCell (s : State) (c : Nat) (f : CellHid → CellHid) (h0 : ∀ h, (f h).isns0 = h.isns0) (h1 : ∀ h, (f h).isns1 = h.isns1) :
    Measures s (s.updCell c f) := by
  refine ⟨rfl, fun _ _ => rfl, fun _ => rfl, fun k => ?_, fun _ => rfl⟩
  rw [cell_updCell]
  split
  · next heq => rw [heq]; exact ⟨h0 _, h1 _⟩
  · exact ⟨rfl, rfl⟩

theorem Measures.updTract (s : State) (k : Nat) (f : TractHid → TractHid) (h : ∀ x, (f x).samples = x.samples) : Measures s (s.updTract k f) := by
  refine ⟨rfl, fun _ _ => rfl, fun _ => rfl, fun _ => ⟨rfl, rfl⟩, fun j => ?_⟩
  rw [tract_updTract]
  split
  · next heq => rw [heq]; exact h _
  · rfl

theorem Measures.updDom (s : State) (d : Nat) (f : DomHid → DomHid) : Measures s (s.updDom d f) :=
  ⟨rfl, fun _ _ => rfl, fun _ => rfl, fun _ => ⟨rfl, rfl⟩, fun _ => rfl⟩

theorem celCstat_mem {c : Nat} (hc : c < 256) : CEL_CSTAT c ∈ currentsRegs :=
  List.mem_append_left _ (List.mem_append_left _ (List.mem_map_of_mem (mem_upTo.mpr hc)))
theorem celMeas_mem {c : Nat} (hc : c < 256) : CEL_MEAS c ∈ currentsRegs := List.mem_append_left _ (List.mem_append_right _ (List.mem_map_of_mem (mem_upTo.mpr hc)))
theorem trcImeas_mem {k : Nat} (hk : k < 64) : TRC_IMEAS k ∈ currentsRegs := List.mem_append_right _ (List.mem_map_of_mem (mem_upTo.mpr hk))

theorem measures_setMode (s : State) (m : Nat) {c : Nat} (hc : c < 256) : Measures s (s.setMode c m) := by
  unfold State.setMode
  exact .ite (.refl s) (.put s _ (celCstat_mem hc) fun _ _ => Or.inr (by simp))

theorem measures_applyLoadMode (s : State) {k : Nat} (hk : k < 64) : Measures s (s.applyLoadMode k) :=
  .foldl _ s fun u _ hc => .ite (measures_setMode u _ (cell_lt_of_mem_cellsIn hk hc)) (.refl u)

theorem measures_judgePulse (s : State) (k : Nat) : Measures s (s.judgePulse k) := by
  obtain ⟨p, w, heq⟩ := judgePulse_eq s k
  rw [heq]
  exact .updTract s k _ fun _ => rfl

theorem measures_frameCell (s : State) (i : Int) {c : Nat} (hc : c < 256) : Measures s (s.frameCell i c) := by
  have hmeas (k : Nat) : CEL_MEAS c ≠ CEL_CSTAT k := by simp only [CEL_MEAS, CEL_CSTAT]; omega
  unfold State.frameCell
  extract_lets l atLimit low h last q cnt s1 s2 works
  have h1 : Measures s s1 := (Measures.put s (f := fCEL_CSTAT_LIMIT c) _ (celCstat_mem hc) fun _ _ => Or.inr (by simp)).trans
    (.put _ (f := fCEL_MEAS_IAVG c) _ (celMeas_mem hc) fun k hk => absurd hk (hmeas k))
  have h2 : Measures s1 s2 := .put _ (f := fCEL_MEAS_IMAX c) _ (celMeas_mem hc) fun k hk => absurd hk (hmeas k)
  have hdrive (h : CellHid) (cut : Nat) : (h.setDrive s.now h.trim cut).isns0 = h.isns0 ∧ (h.setDrive s.now h.trim cut).isns1 = h.isns1 := by
    unfold CellHid.setDrive
    split <;> exact ⟨rfl, rfl⟩
  exact (h1.trans h2).trans (.updCell _ _ _ (fun h => (hdrive h _).1) fun h => (hdrive h _).2)

theorem iHist_judgePulse (s : State) (k j : Nat) : ((s.judgePulse k).tract j).iHist = (s.tract j).iHist := by
  obtain ⟨p, w, heq⟩ := judgePulse_eq s k
  rw [heq, tract_updTract]
  split
  · next h => rw [h]
  · rfl

theorem iHist_frameLight (s : State) (k j : Nat) : ((s.frameLight k).tract j).iHist = (s.tract j).iHist := by
  unfold State.frameLight
  extract_lets h n d enter leave light s1
  have h1 : (s1.tract j).iHist = (s.tract j).iHist := by
    show ((s.updTract k _).tract j).iHist = _
    rw [tract_updTract]
    split
    · next heq => rw [heq]
    · rfl
  rw [iHist_judgePulse, ← h1]
  split
  · have htracts : (s1.applyLoadMode k).tracts = s1.tracts := of_unreg State.tracts (unreg_applyLoadMode s1 k)
    rw [State.tract, htracts, ← State.tract]
  · rfl

theorem measures_frameLight (s : State) {k : Nat} (hk : k < 64) : Measures s (s.frameLight k) := by
  unfold State.frameLight
  extract_lets h n d enter leave light s1
  have h1 : Measures s s1 := .updTract s k _ fun _ => rfl
  exact (h1.trans (.ite (measures_applyLoadMode s1 hk) (.refl s1))).trans (measures_judgePulse _ k)

/-- The current of a tract in a frame, 0.1 A (R150). -/
def tractCurrent (cells : List Int) (k : Nat) : Int :=
  (cells.getD (4 * k) 0 + cells.getD (4 * k + 1) 0 + cells.getD (4 * k + 2) 0 + cells.getD (4 * k + 3) 0 + 50) / 100

theorem frameTract_spec (s : State) (cells : List Int) {k : Nat} (hk : k < 64) : Measures s (s.frameTract cells k) ∧
    ((s.frameTract cells k).tract k).iHist.head? = some (tractCurrent cells k) ∧
    ∀ j, j ≠ k → ((s.frameTract cells k).tract j).iHist = (s.tract j).iHist := by
  have himeas (c : Nat) : TRC_IMEAS k ≠ CEL_CSTAT c := by simp only [TRC_IMEAS, CEL_CSTAT]; omega
  unfold State.frameTract
  extract_lets mA i s1
  have h1 : Measures s s1 := (Measures.put s (f := fTRC_IMEAS_I k) _ (trcImeas_mem hk) fun c hc => absurd hc (himeas c)).trans (.updTract _ k _ fun _ => rfl)
  refine ⟨h1.trans (measures_frameLight s1 hk), ?_, fun j hj => ?_⟩
  · rw [iHist_frameLight]
    show (((s.putI (fTRC_IMEAS_I k) i).updTract k _).tract k).iHist.head? = _
    rw [tract_updTract_same]
    rfl
  · rw [iHist_frameLight]
    exact congrArg TractHid.iHist (tract_updTract_ne _ _ hj)

theorem frameRejoin_spec (s : State) (i : Int) {c : Nat} (hc : c < 256) : Measures s (s.frameRejoin c i) ∧ (s.frameRejoin c i).tracts = s.tracts := by
  unfold State.frameRejoin
  split
  · have hcell : Measures s (s.updCell c fun h => { h with rejoin := false }) := .updCell s c _ (fun _ => rfl) fun _ => rfl
    exact ⟨hcell.trans (measures_setMode _ _ hc), (of_unreg State.tracts (unreg_setMode _ _ _) :)⟩
  · exact ⟨.refl s, rfl⟩

theorem frameRetention_spec (s : State) (d : Nat) : Measures s (s.frameRetention d) ∧ (s.frameRetention d).tracts = s.tracts := by
  unfold State.frameRetention
  exact ⟨.updDom s d _, rfl⟩

/-! ### The frame as a whole -/

/-- The currents of a frame, cell by cell, tract by tract, domain by domain. -/
def State.measured (s : State) (cells : List Int) : State :=
  forEach (upTo 32) (fun d s => s.frameRetention d) (forEach (upTo 256) (fun c s => s.frameRejoin c (cells.getD c 0))
    (forEach (upTo 64) (fun t s => s.frameTract cells t) (forEach (upTo 256) (fun c s => s.frameCell (cells.getD c 0) c) s)))

theorem measured_spec (s : State) (cells : List Int) : Measures s (s.measured cells) ∧
    ∀ k, k < 64 → ((s.measured cells).tract k).iHist.head? = some (tractCurrent cells k) := by
  unfold State.measured
  obtain ⟨s3, h3, hs3⟩ : ∃ v, Measures s v ∧ v = forEach (upTo 256) (fun c s => s.frameCell (cells.getD c 0) c) s :=
    ⟨_, .foldl _ s fun u c hc => measures_frameCell u _ (mem_upTo.mp hc), rfl⟩
  obtain ⟨s4, h4, hhist, hs4⟩ : ∃ v, Measures s3 v ∧ (∀ k, k < 64 → (v.tract k).iHist.head? = some (tractCurrent cells k)) ∧
      v = forEach (upTo 64) (fun t s => s.frameTract cells t) s3 := by
    refine ⟨_, .foldl _ s3 fun u k hk => (frameTract_spec u cells (mem_upTo.mp hk)).1, fun k hk => ?_, rfl⟩
    have hat := foldl_upTo_at (fun v : State => (v.tract k).iHist) (f := fun v k => v.frameTract cells k) hk
      (fun v j hj hne => (frameTract_spec v cells hj).2.2 k hne.symm) s3
    exact (congrArg List.head? hat).trans (frameTract_spec _ cells hk).2.1
  obtain ⟨s5, h5, ht5, hs5⟩ : ∃ v, Measures s4 v ∧ v.tracts = s4.tracts ∧ v = forEach (upTo 256) (fun c s => s.frameRejoin c (cells.getD c 0)) s4 :=
    ⟨_, .foldl _ s4 fun u c hc => (frameRejoin_spec u _ (mem_upTo.mp hc)).1,
      foldl_keeps State.tracts (f := fun s c => s.frameRejoin c (cells.getD c 0)) (l := upTo 256) (fun u c hc => (frameRejoin_spec u _ (mem_upTo.mp hc)).2) s4, rfl⟩
  obtain ⟨s6, h6, ht6, hs6⟩ : ∃ v, Measures s5 v ∧ v.tracts = s5.tracts ∧ v = forEach (upTo 32) (fun d s => s.frameRetention d) s5 :=
    ⟨_, .foldl _ s5 fun u d _ => (frameRetention_spec u d).1,
      foldl_keeps State.tracts (f := fun s d => s.frameRetention d) (l := upTo 32) (fun u d _ => (frameRetention_spec u d).2) s5, rfl⟩
  rw [← hs3, ← hs4, ← hs5, ← hs6]
  refine ⟨((h3.trans h4).trans h5).trans h6, fun k hk => ?_⟩
  rw [State.tract, ht6, ht5]
  exact hhist k hk

end Sys2Proof.Machine
end

section
/-!
SUPPORT. A frame put together; suspect stations, and comparators found stuck (R117-R125, R133).
-/

namespace Sys2Proof.Machine

variable {s t u : State}

/-! ### What a frame leaves -/

/-- All that a frame leaves alone but the registers. -/
def State.sansFrame (s : State) : State := { s.unreg with loops := {}, stns := [], cells := [], tracts := [], doms := [], cap := {}, nrg := {} }

theorem framePhases_spec (s : State) (isns : List Int) (peaks : PhasePeaks) :
    ∃ w, forEach (upTo 256) (fun c s => s.framePhases isns peaks c) s = { s with cells := w } ∧
      ∀ k, k < 256 → (({ s with cells := w } : State).cell k).isns0 = isns.getD (2 * k) 0 ∧ (({ s with cells := w } : State).cell k).isns1 = isns.getD (2 * k + 1) 0 := by
  obtain ⟨v, hv⟩ : ∃ v, v = forEach (upTo 256) (fun c s => s.framePhases isns peaks c) s := ⟨_, rfl⟩
  have hdata : v = { s with cells := v.cells } := by
    rw [hv]
    exact foldl_keeps_prop (I := fun v : State => v = { s with cells := v.cells }) (f := fun s c => s.framePhases isns peaks c) (l := upTo 256)
      (fun a c _ ha => by rw [ha]; rfl) rfl
  refine ⟨v.cells, hv ▸ hdata, fun k hk => ?_⟩
  rw [← hdata, hv]
  have hat := foldl_upTo_at (fun v : State => v.cell k) (f := fun s c => s.framePhases isns peaks c) hk
    (fun a c _ hne => cell_updCell_ne a _ hne.symm) s
  unfold Machine.forEach
  rw [hat]
  unfold State.framePhases
  dsimp only
  rw [cell_updCell_same]
  exact ⟨rfl, rfl⟩

theorem getD_cellSums (isns : List Int) {c : Nat} (hc : c < 256) : (cellSums isns).getD c 0 = isns.getD (2 * c) 0 + isns.getD (2 * c + 1) 0 := by
  simp [cellSums, upTo, List.getD_eq_getElem?_getD, hc]

theorem tractCurrent_cellSums (isns : List Int) {k : Nat} (hk : k < 64) :
    tractCurrent (cellSums isns) k = (sumOverI (upTo 8) (fun j => isns.getD (8 * k + j) 0) + 50) / 100 := by
  have hsum : sumOverI (upTo 8) (fun j => isns.getD (8 * k + j) 0) = isns.getD (8 * k) 0 + isns.getD (8 * k + 1) 0 + isns.getD (8 * k + 2) 0 +
      isns.getD (8 * k + 3) 0 + isns.getD (8 * k + 4) 0 + isns.getD (8 * k + 5) 0 + isns.getD (8 * k + 6) 0 + isns.getD (8 * k + 7) 0 := by
    simp [sumOverI, upTo, List.range_succ]
  unfold tractCurrent
  rw [hsum, getD_cellSums _ (by omega), getD_cellSums _ (by omega), getD_cellSums _ (by omega), getD_cellSums _ (by omega)]
  rw [show 2 * (4 * k) = 8 * k by omega, show 2 * (4 * k + 1) = 8 * k + 2 by omega, show 2 * (4 * k + 2) = 8 * k + 4 by omega,
    show 2 * (4 * k + 3) = 8 * k + 6 by omega]
  congr 1
  ring

/-- The state with the frame counted. -/
def State.frameCounted (s : State) : State := { s with loops := { s.loops with frame := s.loops.frame + 1, frameAt := some s.now } }

/-- The tracts that a frame samples. -/
def State.frameTracts (s : State) : List Nat := (upTo 64).filter s.frameCounted.samplesNow

theorem mem_frameTracts {k : Nat} (hk : k < 64) : k ∈ s.frameTracts ↔
    s.aon ≠ 3 ∨ (s.loops.frame + 1) % 25 = 0 ∨ (s.lclk = true ∧ s.domState (s.domOf k) ≠ 2) := by
  rw [State.frameTracts, List.mem_filter, mem_upTo]
  show k < 64 ∧ (decide (s.aon ≠ 3) || decide ((s.loops.frame + 1) % 25 = 0) || (s.lclk && decide (s.domState (s.domOf k) ≠ 2))) = true ↔ _
  simp only [Bool.or_eq_true, Bool.and_eq_true, decide_eq_true_eq]
  tauto

/-- What a frame makes of a state whose sense ports are taken. -/
def State.framed (s : State) (uv tripped : List Nat) (cells : List Int) (ts : List Nat) : State :=
  if s.lclk then (((s.sampleRound uv tripped ts).measured cells).frameCap).frameEnergy cells else (s.sampleRound uv tripped ts).measured cells

theorem exec_frameStart (uv : List Nat) (isns : List Int) (peaks : PhasePeaks) (tripped : List Nat) (hrun : s.lclk = true ∨ s.aon = 2 ∨ s.aon = 3)
    (hdue : ∀ a, s.loops.frameAt = some a → a + 40 ≤ s.now) : ∃ w,
    (∀ k, k < 256 → (({ s.frameCounted with cells := w } : State).cell k).isns0 = isns.getD (2 * k) 0 ∧
      (({ s.frameCounted with cells := w } : State).cell k).isns1 = isns.getD (2 * k + 1) 0) ∧
    exec (.frameStart uv isns peaks tripped) s = .next (({ s.frameCounted with cells := w } : State).framed uv tripped (cellSums isns) s.frameTracts) := by
  obtain ⟨w, hw, hisns⟩ := framePhases_spec s.frameCounted isns peaks
  refine ⟨w, hisns, ?_⟩
  obtain ⟨f, hexec, hf⟩ : ∃ f : State → State, exec (.frameStart uv isns peaks tripped) s =
      .next (if (s.lclk || s.aon = 2 || s.aon = 3) && (match s.loops.frameAt with
        | none => true
        | some t => decide (t + 40 ≤ s.now)) then f (forEach (upTo 256) (fun c s => s.framePhases isns peaks c) s.frameCounted) else s) ∧
      f { s.frameCounted with cells := w } = ({ s.frameCounted with cells := w } : State).framed uv tripped (cellSums isns) s.frameTracts := by
    refine ⟨fun s1 => if s.lclk then (((s1.sampleRound uv tripped ((upTo 64).filter s1.samplesNow)).measured (cellSums isns)).frameCap).frameEnergy (cellSums isns)
      else (s1.sampleRound uv tripped ((upTo 64).filter s1.samplesNow)).measured (cellSums isns), ?_, rfl⟩
    show execFrameStart _ _ _ _ _ = _
    unfold execFrameStart
    exact congrArg Host.Outcome.next rfl
  have hguard : (s.lclk || decide (s.aon = 2) || decide (s.aon = 3)) = true := by
    simpa [or_assoc] using hrun
  have hready : (match s.loops.frameAt with
      | none => true
      | some t => decide (t + 40 ≤ s.now)) = true := by
    cases hat : s.loops.frameAt with
    | none => rfl
    | some a => exact decide_eq_true (hdue a hat)
  rw [hexec, hw, hguard, hready, ← hf]
  rfl

theorem frameCap_eq (s : State) : ∃ c, s.frameCap = { s with cap := c } := ⟨_, rfl⟩
theorem frameEnergy_eq (s : State) (cells : List Int) : ∃ c, s.frameEnergy cells = { s with nrg := c } := ⟨_, rfl⟩

theorem frameSums_eq (v : State) (cells : List Int) (b : Bool) : ∃ c n,
    (if b then v.frameCap.frameEnergy cells else v) = { v with cap := c, nrg := n } ∧ (b = false → c = v.cap ∧ n = v.nrg) := by
  obtain ⟨c, hc⟩ := frameCap_eq v
  obtain ⟨n, hn⟩ := frameEnergy_eq v.frameCap cells
  cases b with
  | true => exact ⟨c, n, by rw [if_pos rfl, hn, hc], fun h => absurd h (by decide)⟩
  | false => exact ⟨v.cap, v.nrg, by rw [if_neg (by decide)], fun _ => ⟨rfl, rfl⟩⟩

theorem frameTracts_lt {k : Nat} (h : k ∈ s.frameTracts) : k < 64 := mem_upTo.mp (List.mem_filter.mp h).1

/-- A frame, of a state whose sense ports are taken: the samples and their feedback, the currents, and what is left alone. -/
theorem framed_spec (s : State) (uv tripped : List Nat) (cells : List Int) {ts : List Nat} (hts : ∀ k ∈ ts, k < 64) (hnodup : ts.Nodup) :
    (s.framed uv tripped cells ts).loops = s.loops ∧ (s.framed uv tripped cells ts).sansFrame = s.sansFrame ∧
    (∀ n, n < 1024 → n / 16 ∈ ts → (s.framed uv tripped cells ts).reg (STN_VAL n) = stnWord (uv.getD n 0)) ∧
    (∀ k ∈ ts, (s.framed uv tripped cells ts).reg (STN_MIN k) = (s.framed uv tripped cells ts).minWord k) ∧
    (∀ k, k ∉ ts → k < 64 → (s.framed uv tripped cells ts).reg (STN_MIN k) = s.reg (STN_MIN k) ∧
      ((s.framed uv tripped cells ts).tract k).samples = (s.tract k).samples ∧
      ∀ n, n / 16 = k → (s.framed uv tripped cells ts).reg (STN_VAL n) = s.reg (STN_VAL n)) ∧
    (∀ k, k < 64 → ((s.framed uv tripped cells ts).tract k).iHist.head? = some (tractCurrent cells k)) ∧
    (∀ c, ((s.framed uv tripped cells ts).cell c).isns0 = (s.cell c).isns0 ∧ ((s.framed uv tripped cells ts).cell c).isns1 = (s.cell c).isns1) ∧
    (s.lclk = false → (s.framed uv tripped cells ts).cap = s.cap ∧ (s.framed uv tripped cells ts).nrg = s.nrg) ∧
    ∀ o, o ∉ (upTo 1024).map STN_VAL ++ (upTo 64).map STN_MIN ++ currentsRegs → (s.framed uv tripped cells ts).reg o = s.reg o := by
  obtain ⟨v, hv⟩ : ∃ v, v = s.sampleRound uv tripped ts := ⟨_, rfl⟩
  obtain ⟨w, hw⟩ : ∃ w, w = v.measured cells := ⟨_, rfl⟩
  obtain ⟨c, n, heq, hcap⟩ := frameSums_eq w cells s.lclk
  have hframed : s.framed uv tripped cells ts = { w with cap := c, nrg := n } := by
    rw [← heq, hw, hv, State.framed]
  rw [hframed]
  obtain ⟨hdata, hregs, hval, hmin, hrest⟩ := sampleRound_spec s uv tripped hts hnodup
  obtain ⟨⟨hmdata, hmregs, hpresent, hisns, hsamples⟩, hhist⟩ := measured_spec v cells
  rw [← hv] at hdata hregs hval hmin hrest
  rw [← hw] at hmdata hmregs hpresent hisns hsamples hhist
  clear hv hw
  have hvalOut (m : Nat) (hm : m < 1024) : STN_VAL m ∉ currentsRegs := by
    simp only [currentsRegs, List.mem_append, List.mem_map, mem_upTo, STN_VAL, CEL_CSTAT, CEL_MEAS, TRC_IMEAS]
    omega
  have hstnOut (k : Nat) (hk : k < 64) : STN_MIN k ∉ currentsRegs ∧ STN_EN k ∉ currentsRegs ∧ STN_SUSP k ∉ currentsRegs := by
    simp only [currentsRegs, List.mem_append, List.mem_map, mem_upTo, STN_MIN, STN_EN, STN_SUSP, CEL_CSTAT, CEL_MEAS, TRC_IMEAS]
    omega
  have hwval (m : Nat) (hm : m < 1024) : w.reg (STN_VAL m) = v.reg (STN_VAL m) := hmregs _ (hvalOut m hm)
  have hcells : v.cells = s.cells := (congrArg State.cells hdata :)
  have hstay : w.cap = s.cap ∧ w.nrg = s.nrg :=
    ⟨(congrArg State.cap hmdata :).trans (congrArg State.cap hdata :), (congrArg State.nrg hmdata :).trans (congrArg State.nrg hdata :)⟩
  have hframe : w.sansFrame = s.sansFrame := by
    refine Eq.trans ?_ (congrArg (fun x : State => { x with loops := {}, cells := [], doms := [], cap := {}, nrg := {} }) hdata)
    exact congrArg (fun x : State => { x with loops := {}, stns := [], cap := {}, nrg := {} }) hmdata
  have hreg (o : Nat) : ({ w with cap := c, nrg := n } : State).reg o = w.reg o := rfl
  refine ⟨(congrArg State.loops hmdata :).trans (congrArg State.loops hdata :), hframe, fun m hm hin => (hreg _).trans ((hwval m hm).trans (hval m hin)), fun k hk => ?_,
    fun k hk hlt => ⟨(hreg _).trans ((hmregs _ (hstnOut k hlt).1).trans (hrest k hk hlt).1), (hsamples k).trans (congrArg TractHid.samples (hrest k hk hlt).2.1),
      fun m hm => (hreg _).trans ((hwval m (by omega)).trans ((hrest k hk hlt).2.2 m hm))⟩, hhist, fun k => ?_,
    fun hno => ⟨(hcap hno).1.trans hstay.1, (hcap hno).2.trans hstay.2⟩, fun o ho => ?_⟩
  · obtain ⟨hmink, hen, hsusp⟩ := hstnOut k (hts k hk)
    have hfeed : ({ w with cap := c, nrg := n } : State).feedback k = v.feedback k :=
      feedback_congr ((hreg _).trans (hmregs _ hen)) ((hreg _).trans (hmregs _ hsusp))
        (fun m hm => (hreg _).trans (hwval m (by have := hts k hk; omega))) (hpresent (4 * k))
    unfold State.minWord
    rw [hfeed, hreg, hmregs _ hmink]
    exact hmin k hk
  · have hcell : v.cell k = s.cell k := by rw [State.cell, hcells, ← State.cell]
    rw [← hcell]
    exact hisns k
  · rw [List.mem_append, not_or] at ho
    exact (hreg o).trans ((hmregs o ho.2).trans (hregs o ho.1))

theorem runs_frameStart (s : State) (uv : List Nat) (isns : List Int) (peaks : PhasePeaks) (tripped : List Nat) (hrun : s.lclk = true ∨ s.aon = 2 ∨ s.aon = 3)
    (hdue : ∀ a, s.loops.frameAt = some a → a + 40 ≤ s.now) : Runs (.frameStart uv isns peaks tripped) s fun u =>
    u.loops = { s.loops with frame := s.loops.frame + 1, frameAt := some s.now } ∧
    (∀ k, k < 1024 → (s.aon ≠ 3 ∨ (s.loops.frame + 1) % 25 = 0 ∨ (s.lclk = true ∧ s.domState (s.domOf (k / 16)) ≠ 2)) →
      u.get (fSTN_VAL_CODE k) = (if uv.getD k 0 < 300000 then 240 else if 1100000 < uv.getD k 0 then 880 else (uv.getD k 0 + 624) / 1250) ∧
      u.on (fSTN_VAL_OVR k) = decide (1100000 < uv.getD k 0) ∧ u.on (fSTN_VAL_UND k) = decide (uv.getD k 0 < 300000)) ∧
    (∀ k f, k < 64 → (s.aon ≠ 3 ∨ (s.loops.frame + 1) % 25 = 0 ∨ (s.lclk = true ∧ s.domState (s.domOf k) ≠ 2)) → u.feedback k = some f →
      u.get (fSTN_MIN_CODE k) = f.1 ∧ u.get (fSTN_MIN_IDX k) = f.2.1) ∧
    (s.aon = 3 → (s.loops.frame + 1) % 25 ≠ 0 → ∀ t, t < 64 → (s.lclk = false ∨ s.domState (s.domOf t) = 2) →
      u.reg (STN_MIN t) = s.reg (STN_MIN t) ∧ (u.tract t).samples = (s.tract t).samples ∧
      ∀ k, k < 16 → u.reg (STN_VAL (16 * t + k)) = s.reg (STN_VAL (16 * t + k))) ∧
    (∀ k, k < 64 → (u.tract k).iHist.head? = some ((sumOverI (upTo 8) (fun j => isns.getD (8 * k + j) 0) + 50) / 100)) ∧
    (∀ k, k < 256 → (u.cell k).isns0 = isns.getD (2 * k) 0 ∧ (u.cell k).isns1 = isns.getD (2 * k + 1) 0) ∧
    (s.lclk = false → u.cap = s.cap ∧ u.nrg = s.nrg) ∧
    OnlyRegs { s with loops := u.loops, stns := u.stns, cells := u.cells, tracts := u.tracts, doms := u.doms, cap := u.cap, nrg := u.nrg } u
      ((upTo 1024).map STN_VAL ++ (upTo 64).map STN_MIN ++ (upTo 256).map CEL_CSTAT ++ (upTo 256).map CEL_MEAS ++ (upTo 64).map TRC_IMEAS) := by
  obtain ⟨w, hports, hexec⟩ := exec_frameStart uv isns peaks tripped hrun hdue
  obtain ⟨ts, hts⟩ : ∃ ts, ts = s.frameTracts := ⟨_, rfl⟩
  obtain ⟨hloops, hdata, hval, hmin, hrest, hhist, hisns, hcap, hregs⟩ := framed_spec ({ s.frameCounted with cells := w } : State) uv tripped (cellSums isns)
    (ts := ts) (fun k hk => frameTracts_lt (hts ▸ hk)) (by rw [hts]; exact List.nodup_range.filter _)
  have hreg (o : Nat) : ({ s.frameCounted with cells := w } : State).reg o = s.reg o := rfl
  have htract (k : Nat) : ({ s.frameCounted with cells := w } : State).tract k = s.tract k := rfl
  rw [← hts] at hexec
  generalize ({ s.frameCounted with cells := w } : State).framed uv tripped (cellSums isns) ts = u at *
  refine ⟨u, hexec, hloops, fun k hk hin => stn_fields_of (hval k hk (hts ▸ (mem_frameTracts (by omega)).mpr hin)),
    fun k f hk hin hf => minWord_fields u hf (hmin k (hts ▸ (mem_frameTracts hk).mpr hin)), fun hdeep hno k hk hnot => ?_,
    fun k hk => (hhist k hk).trans (congrArg some (tractCurrent_cellSums isns hk)), fun k hk => ?_, hcap, onlyRegs_of ?_ fun o ho => ?_⟩
  · have hout : k ∉ ts := by
      rw [hts, mem_frameTracts hk]
      rintro (h | h | ⟨hl, hd⟩)
      · exact h hdeep
      · exact hno h
      · rcases hnot with h | h
        · exact absurd (hl.symm.trans h) (by decide)
        · exact hd h
    obtain ⟨h1, h2, h3⟩ := hrest k hout hk
    exact ⟨h1.trans (hreg _), h2.trans (congrArg TractHid.samples (htract k)), fun j hj => (h3 _ (by omega)).trans (hreg _)⟩
  · obtain ⟨h0, h1⟩ := hisns k
    exact ⟨h0.trans (hports k hk).1, h1.trans (hports k hk).2⟩
  · exact congrArg (fun x : State => { x with loops := u.loops, stns := u.stns, cells := u.cells, tracts := u.tracts, doms := u.doms, cap := u.cap, nrg := u.nrg }) hdata
  · refine (hregs o ?_).trans (hreg o)
    simpa only [currentsRegs, List.append_assoc] using ho

end Sys2Proof.Machine
end

section
/-!
SUPPORT. Suspect stations, and comparators found stuck (R122-R125, R133).
-/

namespace Sys2Proof.Machine

variable {s t u : State}

/-! ### A bit set in a mask -/

theorem testBit_setBitN (v n k : Nat) : (setBitN v n true).testBit k = (decide (k = n) || v.testBit k) := by
  have hbit : bitN v n = v.testBit n := by rw [bitN, Nat.testBit_eq_decide_div_mod_eq]
  unfold setBitN
  rw [hbit]
  cases hv : v.testBit n with
  | true =>
    rw [if_pos rfl]
    by_cases h : k = n
    · rw [h, hv, Bool.or_true]
    · simp [h]
  | false =>
    rw [if_neg (by decide), if_pos rfl, Nat.add_comm]
    rcases Nat.lt_trichotomy k n with h | rfl | h
    · rw [Nat.testBit_two_pow_add_gt h]
      simp [h.ne]
    · rw [Nat.testBit_two_pow_add_eq, hv]
      simp
    · have hr : v % 2 ^ (n + 1) < 2 ^ n := by
        by_contra hge
        rw [Nat.testBit_eq_decide_div_mod_eq] at hv
        have hmod : v % 2 ^ (n + 1) / 2 ^ n = v / 2 ^ n % 2 := by rw [pow_succ, Nat.mod_mul_right_div_self]
        have hpos : 1 ≤ v % 2 ^ (n + 1) / 2 ^ n := (Nat.one_le_div_iff (by positivity)).mpr (by omega)
        simp at hv
        omega
      have hsum : 2 ^ n + v = 2 ^ (n + 1) * (v / 2 ^ (n + 1)) + (2 ^ n + v % 2 ^ (n + 1)) := by
        have := Nat.div_add_mod v (2 ^ (n + 1))
        omega
      have hdouble : 2 ^ (n + 1) = 2 * 2 ^ n := by ring
      rw [hsum, Nat.testBit_two_pow_mul_add _ (by omega), if_neg (by omega)]
      conv_rhs => rw [← Nat.div_add_mod v (2 ^ (n + 1))]
      rw [Nat.testBit_two_pow_mul_add _ (Nat.mod_lt _ (by positivity)), if_neg (by omega)]
      simp [h.ne']

theorem bitN_setBitN (v n k : Nat) : bitN (setBitN v n true) k = (decide (k = n) || bitN v k) := by
  have h := testBit_setBitN v n k
  rwa [Nat.testBit_eq_decide_div_mod_eq, Nat.testBit_eq_decide_div_mod_eq] at h

theorem setBitN_lt {v n w : Nat} (hv : v < 2 ^ w) (hn : n < w) : setBitN v n true < 2 ^ w := by
  refine Nat.lt_pow_two_of_testBit _ fun k hk => ?_
  rw [testBit_setBitN, Nat.testBit_lt_two_pow (hv.trans_le (Nat.pow_le_pow_right (by decide) hk))]
  simp
  omega
/-! ### The station farthest from the median -/

theorem farthest_usable {k n : Nat} (h : s.farthest k = some n) : n / 16 = k ∧ s.usable n = true := by
  unfold State.farthest at h
  dsimp only at h
  obtain ⟨l, hl⟩ : ∃ l, l = (s.usableIn k).filter fun n => (s.stn n).far = 25000 := ⟨_, rfl⟩
  rw [← hl] at h
  have hmem : ∀ m ∈ l, m / 16 = k ∧ s.usable m = true := fun m hm => mem_usableIn (List.mem_filter.mp (hl ▸ hm)).1
  have hall : ∀ m, (l.foldl (fun o n => match o with
      | none => some n
      | some m => if distN (s.get (fSTN_VAL_CODE m)) (s.tract k).med < distN (s.get (fSTN_VAL_CODE n)) (s.tract k).med then some n else some m) none) = some m →
      m / 16 = k ∧ s.usable m = true := by
    refine foldl_keeps_prop (I := fun o : Option Nat => ∀ m, o = some m → m / 16 = k ∧ s.usable m = true) (fun o b hb ho m hm => ?_)
      (fun m hm => absurd hm (by simp))
    split at hm
    · exact Option.some.inj hm ▸ hmem b hb
    · split at hm
      · exact Option.some.inj hm ▸ hmem b hb
      · exact ho m hm
  exact hall n h

/-- The station marked, before the event (R123). -/
def State.suspected (s : State) (k n : Nat) : State :=
  (((s.put (fSTN_SUSP_SUSP k) (setBitN (s.get (fSTN_SUSP_SUSP k)) (n % 16) true)).markSet (STN_SUSP k) (BitVec.ofNat 32 (2 ^ (n % 16)))).updStn n
    fun h => { h with far := 0 }).updTract k fun h => { h with consensus := false, marked := h.samples }

theorem exec_stationSuspect (s : State) (t : Fin 64) {n : Nat} (h : s.farthest t = some n) : ∃ d d',
    exec (.stationSuspect t) s = .next (if (s.usableIn t).length ≤ 4 then
        if (s.tract t).consensus then s else (s.updTract t fun h => { h with consensus := true }).raiseD evSTN_CONSENSUS t d
      else if (s.tract t).marked = (s.tract t).samples then s else (s.suspected t n).raiseD evSTN_SUSPECT n d') := by
  obtain ⟨d, d', f, hexec, hf⟩ : ∃ (d d' : Nat) (f : Nat → State), exec (.stationSuspect t) s = .next (match s.farthest t with
      | none => s
      | some n => f n) ∧ f n = (if (s.usableIn t).length ≤ 4 then
        if (s.tract t).consensus then s else (s.updTract t fun h => { h with consensus := true }).raiseD evSTN_CONSENSUS t d
      else if (s.tract t).marked = (s.tract t).samples then s else (s.suspected t n).raiseD evSTN_SUSPECT n d') := ⟨_, _, _, rfl, rfl⟩
  rw [h] at hexec
  exact ⟨d, d', hexec.trans (congrArg Host.Outcome.next hf)⟩

theorem stnRegs_apart {k : Nat} (hk : k < 64) : STN_SUSP k ∉ eventRegs 4 ∧ STN_EN k ∉ eventRegs 4 := by
  have h4 : blockBase 4 = 0x14000 := rfl
  constructor <;> refine apart_eventRegs ?_ ?_ ?_ ?_ <;> simp only [STN_SUSP, STN_EN] <;> omega

theorem suspected_spec (s : State) {k n : Nat} (hn : n / 16 = k) : (s.suspected k n).bareTracts = s.bareTracts ∧
    (∀ o, o ≠ STN_SUSP k → (s.suspected k n).reg o = s.reg o) ∧
    (∀ i, i < 16 → bitN ((s.suspected k n).get (fSTN_SUSP_SUSP k)) i = (decide (i = n % 16) || bitN (s.get (fSTN_SUSP_SUSP k)) i)) ∧
    ((s.suspected k n).stn n).far = 0 ∧ (∀ j, j ≠ n → (s.suspected k n).stn j = s.stn j) ∧
    (s.suspected k n).tract k = { s.tract k with consensus := false, marked := (s.tract k).samples } ∧ ∀ j, j ≠ k → (s.suspected k n).tract j = s.tract j := by
  unfold State.suspected
  obtain ⟨x, hx⟩ : ∃ x, x = setBitN (s.get (fSTN_SUSP_SUSP k)) (n % 16) true := ⟨_, rfl⟩
  have hlt : x < 2 ^ 16 := hx ▸ setBitN_lt (get_lt_pow s (fSTN_SUSP_SUSP k)) (Nat.mod_lt n (by decide))
  have hbit (i : Nat) : bitN x i = (decide (i = n % 16) || bitN (s.get (fSTN_SUSP_SUSP k)) i) := hx ▸ bitN_setBitN _ _ i
  rw [← hx]
  obtain ⟨v, hv⟩ : ∃ v, v = (s.put (fSTN_SUSP_SUSP k) x).markSet (STN_SUSP k) (BitVec.ofNat 32 (2 ^ (n % 16))) := ⟨_, rfl⟩
  have hvput : v.bareTracts = s.bareTracts ∧ v.stns = s.stns ∧ v.tracts = s.tracts ∧ ∀ o, v.reg o = (s.put (fSTN_SUSP_SUSP k) x).reg o := by
    rw [hv]
    exact ⟨bareTracts_of_bare (bare_setReg s (STN_SUSP k) (setBits (s.reg (STN_SUSP k)) 0 16 x)), rfl, rfl, fun _ => rfl⟩
  obtain ⟨hbare, hstns, htracts, hreg⟩ := hvput
  rw [← hv]
  have hstn (j : Nat) : v.stn j = s.stn j := by rw [State.stn, hstns, ← State.stn]
  have htract (j : Nat) : v.tract j = s.tract j := by rw [State.tract, htracts, ← State.tract]
  have hall (o : Nat) : ((v.updStn n fun h => { h with far := 0 }).updTract k fun h => { h with consensus := false, marked := h.samples }).reg o = v.reg o := rfl
  have hstns (j : Nat) : ((v.updStn n fun h => { h with far := 0 }).updTract k fun h => { h with consensus := false, marked := h.samples }).stn j =
      if j = n then { v.stn n with far := 0 } else v.stn j := stn_updStn v n j fun h => { h with far := 0 }
  refine ⟨Eq.trans rfl hbare, fun o ho => (hall o).trans ((hreg o).trans (reg_put_ne _ _ _ _ ho)), fun i hi => ?_, ?_, fun j hj => ?_, ?_, fun j hj => ?_⟩
  · rw [get_of_reg (fSTN_SUSP_SUSP k) ((hall _).trans (hreg _)), get_put _ _ _ (by simp), Nat.mod_eq_of_lt hlt, hbit]
  · rw [hstns, if_pos rfl]
  · rw [hstns, if_neg hj, hstn]
  · rw [tract_updTract_same]
    show ({ v.tract k with consensus := false, marked := (v.tract k).samples } : TractHid) = _
    rw [htract]
  · exact (tract_updTract_ne _ _ hj).trans (htract j)

theorem usable_of_susp {k n : Nat} (hen : t.reg (STN_EN k) = s.reg (STN_EN k)) (hn : n / 16 = k) : t.usable n =
    (bitN (s.get (fSTN_EN_EN k)) (n % 16) && !bitN (t.get (fSTN_SUSP_SUSP k)) (n % 16)) := by
  unfold State.usable
  rw [hn, get_of_reg (fSTN_EN_EN k) hen]

theorem stationSuspect_spec (s : State) (t : Fin 64) {k : Nat} (hk : s.farthest t = some k) :
    (4 < (s.usableIn t).length → (s.tract t).marked ≠ (s.tract t).samples → Runs (.stationSuspect t) s fun u =>
      u.usable k = false ∧ (∀ j, j < 1024 → j ≠ k → u.usable j = s.usable j) ∧ (u.stn k).far = 0 ∧
      u.stat evSTN_SUSPECT = true ∧ (∀ j, j ≠ k → u.stn j = s.stn j) ∧
      u.tract t = { s.tract t with consensus := false, marked := (s.tract t).samples } ∧ (∀ j, j ≠ t.val → u.tract j = s.tract j) ∧
      OnlyEvents { s with stns := u.stns, tracts := u.tracts } u ([STN_SUSP t] ++ eventRegs 4)) ∧
    (4 < (s.usableIn t).length → (s.tract t).marked = (s.tract t).samples → exec (.stationSuspect t) s = .next s) ∧
    ((s.usableIn t).length ≤ 4 → (s.tract t).consensus = false → Runs (.stationSuspect t) s fun u =>
      u.stat evSTN_CONSENSUS = true ∧ u.tract t = { s.tract t with consensus := true } ∧ (∀ j, j ≠ t.val → u.tract j = s.tract j) ∧
      OnlyEvents { s with tracts := u.tracts } u (eventRegs 4)) := by
  obtain ⟨hkt, -⟩ := farthest_usable hk
  obtain ⟨d, d', hexec⟩ := exec_stationSuspect s t hk
  refine ⟨fun hmany hnew => ?_, fun hmany hmarked => ?_, fun hfew hno => ?_⟩
  · rw [if_neg (by omega), if_neg hnew] at hexec
    obtain ⟨hbare, hregs, hbits, hfar, hstn, htract, htracts⟩ := suspected_spec s hkt
    generalize s.suspected t k = v at *
    obtain ⟨hsusp, hen⟩ := stnRegs_apart t.isLt
    have hreg {o : Nat} (ho : o ∉ eventRegs 4) : (v.raiseD evSTN_SUSPECT k d').reg o = v.reg o := reg_raiseD _ _ _ _ _ ho
    have hnotsusp {j : Nat} (h : j < 1024) (i : Nat) : STN_EN (j / 16) ≠ STN_SUSP i := by simp only [STN_EN, STN_SUSP]; omega
    have henabled {j : Nat} (hj : j < 1024) : (v.raiseD evSTN_SUSPECT k d').reg (STN_EN (j / 16)) = s.reg (STN_EN (j / 16)) :=
      (hreg (stnRegs_apart (k := j / 16) (by omega)).2).trans (hregs _ (hnotsusp hj _))
    have hklt : k < 1024 := by have := t.isLt; omega
    refine ⟨_, hexec, ?_, fun j hj hne => ?_, ?_, stat_raiseD_same _ _ _ _ (by decide), fun j hj => ?_, ?_, fun j hj => ?_, onlyEvents_tracts ?_ fun o ho => ?_⟩
    · rw [usable_of_susp (s := s) (k := t) (hkt ▸ henabled hklt) hkt, get_of_reg (fSTN_SUSP_SUSP t) (hreg hsusp), hbits _ (by omega)]
      simp
    · by_cases hjt : j / 16 = t
      · rw [usable_of_susp (s := s) (k := t) (hjt ▸ henabled hj) hjt, usable_of_susp (s := s) (k := t) rfl hjt,
          get_of_reg (fSTN_SUSP_SUSP t) (hreg hsusp), hbits _ (by omega), decide_eq_false (by omega), Bool.false_or]
      · exact usable_congr (henabled hj) ((hreg (stnRegs_apart (k := j / 16) (by omega)).1).trans (hregs _ (by simp only [STN_SUSP]; omega))) rfl
    · rw [State.stn, State.raiseD_stns, ← State.stn]
      exact hfar
    · rw [State.stn, State.raiseD_stns, ← State.stn]
      exact hstn j hj
    · rw [State.tract, State.raiseD_tracts, ← State.tract]
      exact htract
    · rw [State.tract, State.raiseD_tracts, ← State.tract]
      exact htracts j hj
    · exact (bareTracts_of_bare (bare_raiseD _ _ _ _)).trans hbare
    · rw [List.mem_append, not_or, List.mem_singleton] at ho
      exact (hreg ho.2).trans (hregs o ho.1)
  · rw [hexec, if_neg (by omega), if_pos hmarked]
  · rw [if_pos hfew, hno, if_neg (by decide)] at hexec
    refine ⟨_, hexec, stat_raiseD_same _ _ _ _ (by decide), ?_, fun j hj => ?_, onlyEvents_of ?_ fun o ho => reg_raiseD _ _ _ _ o ho⟩
    · rw [State.tract, State.raiseD_tracts, ← State.tract, tract_updTract_same]
    · rw [State.tract, State.raiseD_tracts, ← State.tract, tract_updTract_ne _ _ hj]
    · rw [bare_raiseD, State.raiseD_tracts]
      rfl

theorem cmpStuck_spec (s : State) (n : Fin 1024) (hstuck : (s.stn n).stuck = 32) (harmed : (s.stn n).disarmed = false) : Runs (.cmpStuck n) s fun u =>
    u.armed n = false ∧ u.stat evSTN_CMP_STUCK = true ∧ u.stn n = { s.stn n with disarmed := true } ∧
    (∀ k, k ≠ n.val → u.stn k = s.stn k) ∧ OnlyEvents { s with stns := u.stns } u (eventRegs 4) := by
  obtain ⟨d, hexec⟩ : ∃ d, exec (.cmpStuck n) s = .next ((s.updStn n fun h => { h with disarmed := true }).raiseD evSTN_CMP_STUCK n d) := by
    refine ⟨s.stnData (s.get (fSTN_VAL_CODE n)) (n / 16), ?_⟩
    show execCmpStuck n s = _
    unfold execCmpStuck
    rw [hstuck, harmed]
    rfl
  have hstn (k : Nat) : ((s.updStn n fun h => { h with disarmed := true }).raiseD evSTN_CMP_STUCK n d).stn k =
      if k = n.val then { s.stn n with disarmed := true } else s.stn k := by
    rw [State.stn, State.raiseD_stns, ← State.stn, stn_updStn]
  refine ⟨_, hexec, ?_, stat_raiseD_same _ _ _ _ (by decide), (hstn n).trans (if_pos rfl), fun k hk => (hstn k).trans (if_neg hk), onlyEvents_of ?_ fun o ho => reg_raiseD _ _ _ _ o ho⟩
  · unfold State.armed
    rw [hstn, if_pos rfl]
    simp
  · rw [bare_raiseD, State.raiseD_stns]
    rfl

/-! ### A write of STN_SUSP -/

theorem stnSusp_placed : ∀ t : Fin 64, STN_SUSP t % 4 = 0 ∧ STN_SUSP t < 0x80000 ∧ coefWindow (STN_SUSP t) = none ∧ commonAt (STN_SUSP t) = none ∧
    blockOf (STN_SUSP t) = some 4 ∧ accessOf (STN_SUSP t) = some ⟨0, 0, 0xFFFF, 0⟩ := by decide +kernel

/-- The bits of a write of STN_SUSP that take effect: those that hardware does not set in the same cycle (R15). -/
def State.suspMask (s : State) (k : Nat) (m : Word) : Nat := bitsAt (m &&& ~~~(0xFFFF#32 &&& s.freshBits (STN_SUSP k))) 0 16

theorem bitN_suspMask (s : State) {k j : Nat} (m : BitVec 16) (hj : j < 16) :
    bitN (s.suspMask k (m.setWidth 32)) j = (bitN m.toNat j && !(s.freshBits (STN_SUSP k)).getLsbD j) := by
  have hones : (0xFFFF#32).getLsbD j = true := (by decide : ∀ j < 16, (0xFFFF#32).getLsbD j = true) j hj
  rw [bitN, ← Nat.testBit_eq_decide_div_mod_eq, bitN, ← Nat.testBit_eq_decide_div_mod_eq, State.suspMask, testBit_bitsAt, BitVec.testBit_toNat]
  simp only [Nat.zero_add, BitVec.getLsbD_and, BitVec.getLsbD_not, BitVec.getLsbD_setWidth, hones, decide_eq_true hj, Bool.true_and,
    decide_eq_true (show j < 32 by omega)]

theorem exec_stnSuspClear {p : Port} {k : Fin 64} (hs : Served p (STN_SUSP k) s) (m : BitVec 16) :
    exec (.stnSuspClear p k m) s = .next ((s.clearSuspects k (s.suspMask k (m.setWidth 32))).okay 0) := by
  obtain ⟨h4, hlt, hcoef, hcommon, hblock, hacc⟩ := stnSusp_placed k
  have hmark : s.hostMark (p = .core) (STN_SUSP k) (0 ||| 0) = s := if_pos (by simp)
  have hwrite := portWrite_in s p (STN_SUSP k) (m.setWidth 32) 4 ⟨0, 0, 0xFFFF, 0⟩ hs h4 hlt hcoef hacc rfl hcommon hblock (by decide)
  dsimp only at hwrite
  rw [hmark] at hwrite
  refine hwrite.trans ?_
  have hstore (w v : Word) : s.storeIn (p = .core) 4 (STN_SUSP k) w v = s.clearSuspects k (bitsAt v 0 16) := by
    have hix : arrayIx (STN_SUSP 0) 16 64 (STN_SUSP k) = some k.val := (by decide : ∀ k : Fin 64, arrayIx (STN_SUSP 0) 16 64 (STN_SUSP k) = some k.val) k
    show s.storeTract (STN_SUSP k) w v = _
    unfold State.storeTract
    rw [hix]
  rw [hstore]
  rfl

/-- A station that rejoins (R125, R133). -/
def StnHid.rejoined (h : StnHid) : StnHid := { h with far := 0, disarmed := false, stuck := 0 }

theorem clearSuspects_spec (s : State) (k m : Nat) : (∃ r w, s.clearSuspects k m = { s with regs := r, stns := w }) ∧
    (∀ o, o ≠ STN_SUSP k → (s.clearSuspects k m).reg o = s.reg o) ∧
    (∀ j, j < 16 → bitN ((s.clearSuspects k m).get (fSTN_SUSP_SUSP k)) j = (bitN (s.get (fSTN_SUSP_SUSP k)) j && !bitN m j)) ∧
    ∀ j, j < 16 → (s.clearSuspects k m).stn (16 * k + j) = if bitN m j then (s.stn (16 * k + j)).rejoined else s.stn (16 * k + j) := by
  obtain ⟨v, hv⟩ : ∃ v, v = s.put (fSTN_SUSP_SUSP k) (s.get (fSTN_SUSP_SUSP k) &&& (65535 - m % 65536)) := ⟨_, rfl⟩
  obtain ⟨f, hf⟩ : ∃ f : State → Nat → State, f = fun s j => if bitN m j then s.updStn (16 * k + j) StnHid.rejoined else s := ⟨_, rfl⟩
  have hrun : s.clearSuspects k m = (upTo 16).foldl f v := by rw [hf, hv]; rfl
  have hvdata : ∃ r, v = { s with regs := r } := ⟨_, hv⟩
  have hregs : ((upTo 16).foldl f v).regs = v.regs := foldl_keeps State.regs (f := f) (l := upTo 16) (fun a j _ => by
    rw [hf]
    dsimp only
    split <;> rfl) v
  have hreg (o : Nat) : ((upTo 16).foldl f v).reg o = v.reg o := by rw [State.reg, hregs, ← State.reg]
  have hvstns : v.stns = s.stns := by rw [hv]; rfl
  rw [hrun]
  refine ⟨?_, fun o ho => (hreg o).trans (hv ▸ reg_put_ne _ _ _ _ ho), fun j hj => ?_, fun j hj => ?_⟩
  · obtain ⟨r, hr⟩ := hvdata
    refine foldl_keeps_prop (I := fun a : State => ∃ r w, a = { s with regs := r, stns := w }) (fun a j _ ha => ?_) ⟨r, s.stns, hr⟩
    obtain ⟨r, w, rfl⟩ := ha
    rw [hf]
    dsimp only
    split
    · exact ⟨_, _, rfl⟩
    · exact ⟨_, _, rfl⟩
  · have hlt : s.get (fSTN_SUSP_SUSP k) &&& (65535 - m % 65536) < 2 ^ 16 := Nat.and_le_left.trans_lt (get_lt_pow s (fSTN_SUSP_SUSP k))
    have hcompl : (65535 - m % 65536).testBit j = !m.testBit j := by
      have h := Nat.testBit_two_pow_sub_succ (x := m % 2 ^ 16) (n := 16) (Nat.mod_lt _ (by decide)) j
      rw [show 65535 - m % 65536 = 2 ^ 16 - (m % 2 ^ 16 + 1) by omega, h, Nat.testBit_mod_two_pow, decide_eq_true hj]
      rfl
    rw [get_of_reg (fSTN_SUSP_SUSP k) (hreg _), hv, get_put _ _ _ (by simp), Nat.mod_eq_of_lt hlt]
    simp only [bitN, ← Nat.testBit_eq_decide_div_mod_eq, Nat.testBit_and, hcompl]
  · have hat := foldl_upTo_at (fun a : State => a.stn (16 * k + j)) (f := f) hj (fun a i _ hi => by
      rw [hf]
      dsimp only
      split
      · rw [stn_updStn, if_neg (by omega)]
      · rfl) v
    have hold : ((upTo j).foldl f v).stn (16 * k + j) = s.stn (16 * k + j) := by
      refine (foldl_keeps (fun a : State => a.stn (16 * k + j)) (f := f) (l := upTo j) (fun a i hi => ?_) v).trans ?_
      · have := mem_upTo.mp hi
        rw [hf]
        dsimp only
        split
        · rw [stn_updStn, if_neg (by omega)]
        · rfl
      · rw [State.stn, hvstns, ← State.stn]
    rw [hat]
    generalize (upTo j).foldl f v = a at hold ⊢
    rw [hf]
    dsimp only
    split
    · rw [stn_updStn, if_pos rfl, hold]
    · exact hold

theorem runs_stnSuspClear {p : Port} {t : Fin 64} (hs : Served p (STN_SUSP t) s) (m : BitVec 16) : Runs (.stnSuspClear p t m) s fun u =>
    (∀ k, k < 16 →
      bitN (u.get (fSTN_SUSP_SUSP t)) k = (bitN (s.get (fSTN_SUSP_SUSP t)) k && !(bitN m.toNat k && !(s.freshBits (STN_SUSP t)).getLsbD k)) ∧
      (bitN m.toNat k = true → (s.freshBits (STN_SUSP t)).getLsbD k = false →
        u.stn (16 * t + k) = { s.stn (16 * t + k) with far := 0, disarmed := false, stuck := 0 }) ∧
      ((bitN m.toNat k = false ∨ (s.freshBits (STN_SUSP t)).getLsbD k = true) → u.stn (16 * t + k) = s.stn (16 * t + k))) ∧
    OnlyRegs { s with stns := u.stns, bus := { slverr := false, data := 0 } } u [STN_SUSP t] := by
  have hexec := exec_stnSuspClear hs m
  have hmask {k : Nat} (hk : k < 16) := bitN_suspMask s (k := t) m hk
  obtain ⟨⟨r, w, hdata⟩, hregs, hbits, hstns⟩ := clearSuspects_spec s t (s.suspMask t (m.setWidth 32))
  generalize s.clearSuspects t (s.suspMask t (m.setWidth 32)) = v at hexec hdata hregs hbits hstns
  refine ⟨_, hexec, fun k hk => ⟨?_, fun hm hfresh => ?_, fun hnot => ?_⟩, ⟨r, s.cyc, by rw [hdata]; rfl⟩, fun o ho => hregs o fun h => ho (h ▸ List.mem_singleton_self _)⟩
  · rw [← hmask hk]
    exact hbits k hk
  · refine (hstns k hk).trans ?_
    rw [hmask hk, hm, hfresh]
    rfl
  · refine (hstns k hk).trans ?_
    rw [hmask hk]
    rcases hnot with h | h <;> rw [h] <;> simp

end Sys2Proof.Machine
end

section
/-!
SETTLED. A frame: every station sampled, every tract fed back.
-/

open Sys2Proof Sys2Proof.Machine

/-- Settles O34: the samples and their feedback stand through what follows them in a frame; the rest operation by operation. -/
theorem stationFrames : Obligations.StationFrames := by
  unfold Obligations.StationFrames
  exact fun s uv isns peaks tripped t n p m => ⟨fun hrun hdue => runs_frameStart s uv isns peaks tripped hrun hdue, fun _ hk => stationSuspect_spec s t hk,
    fun hs => runs_stnSuspClear hs m, fun hstuck harmed => cmpStuck_spec s n hstuck harmed⟩

end

section
/-!
SETTLED. The statement on the frames of the traverse (O57).
-/
open Sys2Proof Sys2Proof.Machine

/-- A running instance with a lift noted for a domain 73476, whose lift would be shown where the lock of the plat is. -/
def liftOnLock : State :=
  { runningBlock with so := { running := [{ no := 0, idx := 0, seq := 0, annAt := 0, ready := 0, stamp := 0, lifts := [(73476, 5)] }] } }

/-- Code 3 of a SHED frame of die 2. -/
def stopFrame : Word64 := frameWord 9 2 (3 * 2 ^ 32)

/-- Refutes O57: an orderly stop by a SHED frame closes setting-out, which withdraws the lift and with it the lock, and the frame is not
passed on. -/
theorem not_traverseFrames : ¬ Obligations.TraverseFrames := by
  unfold Obligations.TraverseFrames
  intro h
  obtain ⟨-, -, -, -, -, -, -, -, -, -, hshed, -⟩ := h liftOnLock .cw stopFrame ⟨0, 0, none, []⟩ 0 0 0 0 0 0 0 ⟨0, 0, (0, false), (0, false), [], false⟩
  have harrives : Arrives liftOnLock 9 .cw stopFrame := by
    unfold Arrives
    decide +kernel
  obtain ⟨hpassed, -⟩ := (hshed harrives).after
  have hmem := hpassed 0 (by decide +kernel) (by decide +kernel)
  have hempty : ((stateAfter (.shed .cw stopFrame) liftOnLock).trv.lane 0).txq = [] := by decide +kernel
  rw [hempty] at hmem
  exact List.not_mem_nil hmem

end

section
/-!
SUPPORT. What a reading of the sites leaves alone before shutdown is judged (R376-R392), and what the close of setting-out at a shutdown
leaves of a register where a lift of an instance is shown (R241, R396).
-/

namespace Sys2Proof.Machine

variable {s t : State}

/-! ### The steps of a reading -/

/-- Setting-out, the boot and the site that first reached SHUT. -/
def State.unread (s : State) : SoHid × BootHid × Option Nat := (s.so, s.boot, s.thm.hotFirst)

/-- The registers that a reading changes beside THM_STATE, as long as it marks no site. -/
def readingRegs : List Nat := (upTo 64).map THM_SITE ++ (upTo 64).map THM_RAW ++ (upTo 64).map THM_TDUTY ++ eventRegs 12

theorem ofBare_unread : OfBare State.unread := fun _ _ h => (congrArg (fun w : State => (w.so, w.boot, w.thm.hotFirst)) h :)

theorem blockBase_not_site (n : Nat) : blockBase n < 0x51000 ∨ 0x51400 ≤ blockBase n := by
  unfold blockBase
  split <;> decide

theorem readingRegs_of_mem {o k : Nat} (hk : k < 64) (h : o = THM_SITE k ∨ o = THM_RAW k ∨ o = THM_TDUTY k) :
    o ∈ readingRegs ∧ ∀ n, o ≠ blockBase n := by
  have hmem (f : Nat → Nat) : f k ∈ (upTo 64).map f := List.mem_map_of_mem (mem_upTo.mpr hk)
  refine ⟨?_, fun n => by have := blockBase_not_site n; simp only [THM_SITE, THM_RAW, THM_TDUTY] at h; omega⟩
  simp only [readingRegs, List.mem_append]
  rcases h with rfl | rfl | rfl
  · exact .inl (.inl (.inl (hmem _)))
  · exact .inl (.inl (.inr (hmem _)))
  · exact .inl (.inr (hmem _))

theorem thmEvents_readingRegs : ∀ o ∈ eventRegs 12, o ∈ readingRegs := fun _ h => List.mem_append_right _ h

/-- A step of a reading that marks no site. -/
abbrev ReadingStep (s t : State) : Prop := Within State.unread readingRegs s t

theorem readingStep_updSite (s : State) (k : Nat) (f : SiteHid → SiteHid) : ReadingStep s (s.updSite k f) := (Within.refl _ _ s).hidden

theorem readingStep_takeRaw (s : State) {k : Nat} (raw : Int) (hk : k < 64) : ReadingStep s (s.takeRaw k raw) :=
  ((Within.refl _ _ s).putI ofBare_unread _ (readingRegs_of_mem hk (.inr (.inl rfl)))).putB ofBare_unread _ (readingRegs_of_mem hk (.inl rfl))

theorem readingStep_storeValue (s : State) {k : Nat} (v : Int) (hk : k < 64) : ReadingStep s (s.storeValue k v) :=
  (((Within.refl _ _ s).putI ofBare_unread _ (readingRegs_of_mem hk (.inl rfl))).trans (readingStep_updSite _ k _)).putI ofBare_unread _
    (readingRegs_of_mem hk (.inr (.inl rfl)))

theorem readingStep_controlSite (s : State) {k : Nat} (hk : k < 64) : ReadingStep s (s.controlSite k) := by
  have hsite := readingRegs_of_mem (o := THM_SITE k) hk (.inl rfl)
  refine Within.raiseIf (.raiseIf (.raiseIf (.trans ?_ (readingStep_updSite _ k _)) ofBare_unread _ _ thmEvents_readingRegs) ofBare_unread _ _
    thmEvents_readingRegs) ofBare_unread _ _ thmEvents_readingRegs
  exact ((((Within.refl _ _ s).putB ofBare_unread _ hsite).putB ofBare_unread _ hsite).putB ofBare_unread _ hsite).put ofBare_unread _
    (readingRegs_of_mem hk (.inr (.inr rfl)))

/-! ### A single usable site -/

/-- Every site but site 0 is suspect. -/
def State.aloneUsable (s : State) : Prop := ∀ k, k < 64 → k ≠ 0 → s.suspect k = true

theorem suspect_congr (h0 : t.reg THM_SUSP0 = s.reg THM_SUSP0) (h1 : t.reg THM_SUSP1 = s.reg THM_SUSP1) (k : Nat) : t.suspect k = s.suspect k := by
  rw [State.suspect, State.suspect, get_of_reg fTHM_SUSP0_SUSP h0, get_of_reg fTHM_SUSP1_SUSP h1]

theorem siteUsable_of_alone (h : s.aloneUsable) {k : Nat} (hk : k < 64) (hne : k ≠ 0) : s.siteUsable k = false := by
  rw [State.siteUsable, h k hk hne]
  rfl

/-- With one usable site no site has two usable neighbours. -/
theorem expectation_of_alone (h : s.aloneUsable) {k : Nat} (hk : k < 64) : s.expectation k = none := by
  have hfew : (s.usableNear k).length < 2 := by
    have hle : (s.usableNear k).length ≤ (gridNeighbours k).countP (fun j => decide (j = 0)) := by
      rw [State.usableNear, ← List.countP_eq_length_filter]
      refine List.countP_mono_left fun j hj husable => decide_eq_true ?_
      by_contra hne
      have hlt := (by decide : ∀ k : Fin 64, ∀ j ∈ gridNeighbours k, j < 64) ⟨k, hk⟩ j hj
      rw [siteUsable_of_alone h hlt hne] at husable
      exact absurd husable (by decide)
    exact Nat.lt_of_le_of_lt hle ((by decide : ∀ k : Fin 64, (gridNeighbours k).countP (fun j => decide (j = 0)) < 2) ⟨k, hk⟩)
  rw [State.expectation]
  exact if_pos hfew

theorem beyond_of_alone (h : s.aloneUsable) {k : Nat} (hk : k < 64) : s.beyond k = none := by
  rw [State.beyond, expectation_of_alone h hk]
  exact ite_self _

theorem markedAtOnce_of_alone (h : s.aloneUsable) : s.markedAtOnce = [] := by
  refine List.filter_eq_nil_iff.mpr fun k hk => ?_
  rw [beyond_of_alone h (mem_upTo.mp hk)]
  exact Bool.false_ne_true

theorem readingStep_crossCheck_of_alone (h : s.aloneUsable) : ReadingStep s (s.crossCheck []) := by
  unfold State.crossCheck
  extract_lets none_ lone far s1 pick
  have hpick : pick = none := by
    have hfar : (upTo 64).filter (fun t => far t = 10) = [] := by
      refine List.filter_eq_nil_iff.mpr fun k hk => ?_
      have : far k = 0 := by
        simp only [far, beyond_of_alone h (mem_upTo.mp hk)]
        rfl
      rw [this]
      decide
    simp only [pick, hfar, List.foldl_nil]
  have hs1 : ReadingStep s s1 := Within.foldl _ (fun u k _ => (readingStep_updSite u k _).raiseIf ofBare_unread _ _ thmEvents_readingRegs) s
  rw [hpick]
  exact hs1

/-! ### The whole reading -/

theorem showHottest_eq (s : State) : ∃ k x, s.showHottest = (s.put fTHM_STATE_HSITE k).putI fTHM_STATE_HVAL x := by
  unfold State.showHottest
  extract_lets h
  generalize h = k
  exact ⟨k, _, rfl⟩

theorem shut_of_reg (h : t.on fTHM_STATE_SHUT = s.on fTHM_STATE_SHUT) : t.shut = s.shut := h

theorem shut_showHottest (s : State) : s.showHottest.shut = s.shut := by
  obtain ⟨k, x, h⟩ := showHottest_eq s
  rw [h]
  refine shut_of_reg (Eq.trans ?_ (on_put_apart s fTHM_STATE_HSITE fTHM_STATE_SHUT k rfl (by decide)))
  exact on_put_apart _ fTHM_STATE_HVAL fTHM_STATE_SHUT _ rfl (by decide)

theorem reg_showHottest (s : State) {o : Nat} (h : o ≠ THM_STATE) : s.showHottest.reg o = s.reg o := by
  obtain ⟨k, x, heq⟩ := showHottest_eq s
  rw [heq]
  exact (reg_put_ne _ _ _ _ h).trans (reg_put_ne _ _ _ _ h)

theorem unread_showHottest (s : State) : s.showHottest.unread = s.unread := by
  obtain ⟨k, x, heq⟩ := showHottest_eq s
  rw [heq]
  rfl

/-- The reading up to the values of the sites. -/
def State.stored (s : State) (raws : List Int) : State :=
  let s1 := forEach (upTo 64) (fun t s => s.takeRaw t (s.diodeTemp (raws.getD t 0))) s
  forEach (upTo 64) (fun t s => s.storeValue t (s1.substitute t)) s1

theorem exec_siteReading_calibrated (raws : List Int) (hpor : s.por = false) (h3 : s.aon ≠ 3) (h4 : s.aon ≠ 4)
    (hcal : s.on fTHM_STATE_CALDONE = true) : exec (.siteReading raws) s = .next
      ((forEach (upTo 64) (fun t s => s.controlSite t) ((s.stored raws).showHottest.crossCheck (s.stored raws).markedAtOnce)).judgeShutdown
        (s.stored raws).markedAtOnce) := by
  rw [exec, execSiteReading, if_neg (by simp [hpor, h3, h4])]
  extract_lets s1 s2 now s3
  rw [if_pos hcal]
  rfl

theorem readingStep_stored (s : State) (raws : List Int) : ReadingStep s (s.stored raws) := by
  unfold State.stored
  extract_lets s1
  have h1 : ReadingStep s s1 := Within.foldl _ (fun u k hk => readingStep_takeRaw u _ (mem_upTo.mp hk)) s
  exact h1.trans (Within.foldl _ (fun u k hk => readingStep_storeValue u _ (mem_upTo.mp hk)) s1)

theorem susp_not_readingReg : THM_SUSP0 ∉ readingRegs ∧ THM_SUSP1 ∉ readingRegs ∧ THM_STATE ∉ readingRegs := by decide

/-- A reading in which only site 0 is usable marks no site, and ends with shutdown judged in a state that agrees with the one before in
setting-out, the boot, the site that first reached SHUT, and every register but those of the sites. -/
theorem exec_siteReading_of_alone (raws : List Int) (hpor : s.por = false) (h3 : s.aon ≠ 3) (h4 : s.aon ≠ 4)
    (hcal : s.on fTHM_STATE_CALDONE = true) (halone : s.aloneUsable) : ∃ u : State, exec (.siteReading raws) s = .next (u.judgeShutdown []) ∧
      u.unread = s.unread ∧ u.shut = s.shut ∧ ∀ o, o ∉ readingRegs → o ≠ THM_STATE → u.reg o = s.reg o := by
  have hexec := exec_siteReading_calibrated raws hpor h3 h4 hcal
  have hstored := readingStep_stored s raws
  generalize s.stored raws = s2 at hexec hstored
  obtain ⟨hs0, hs1, hst⟩ := susp_not_readingReg
  have halone' {u : State} (hu : ∀ o, o ∉ readingRegs → o ≠ THM_STATE → u.reg o = s.reg o) : u.aloneUsable := fun k hk hne =>
    (suspect_congr (hu _ hs0 (by decide)) (hu _ hs1 (by decide)) k).trans (halone k hk hne)
  have hshown : ∀ o, o ∉ readingRegs → o ≠ THM_STATE → s2.showHottest.reg o = s.reg o := fun o ho hne =>
    (reg_showHottest s2 hne).trans (hstored.regs o ho)
  have hunread := (unread_showHottest s2).trans hstored.data
  have hshut := (shut_showHottest s2).trans (shut_of_reg (on_of_reg fTHM_STATE_SHUT (hstored.regs _ hst)))
  rw [markedAtOnce_of_alone (halone' fun o ho _ => hstored.regs o ho)] at hexec
  generalize s2.showHottest = s3 at hexec hshown hunread hshut
  have hcross := readingStep_crossCheck_of_alone (halone' hshown)
  have hrest := hcross.trans (Within.foldl (upTo 64) (fun u k hk => readingStep_controlSite u (mem_upTo.mp hk)) (s3.crossCheck []))
  exact ⟨_, hexec, hrest.data.trans hunread, (shut_of_reg (on_of_reg fTHM_STATE_SHUT (hrest.regs _ hst))).trans hshut,
    fun o ho hne => (hrest.regs o ho).trans (hshown o ho hne)⟩

/-! ### A lift of a domain that is none, withdrawn as setting-out closes -/

theorem domState_of_le {d : Nat} (h : 32 ≤ d) (s : State) : s.domState d = 0 := by
  rw [State.domState, if_pos (by simp [h])]

theorem retarget_of_le {d : Nat} (h : 32 ≤ d) (s : State) : s.retarget d = s := by
  rw [State.retarget, State.headsUp, domState_of_le h]
  rfl

/-- The lift of a domain that is none is shown as 0. -/
theorem reg_relift_of_le {d : Nat} (h : 32 ≤ d) (s : State) (i x o : Nat) :
    (s.relift d i x).reg o = ((s.put (fSO_DLIFT_LIFT d) 0).put (fSO_DLIFT_INST d) ((s.liftsOn d).filter fun x => 0 < x).length).reg o := by
  have hon : s.isOn d = false := by rw [State.isOn, domState_of_le h]; rfl
  unfold State.relift
  extract_lets l sum lim clip s1 s2
  have hsum : sum = 0 := if_neg (by rw [hon]; exact Bool.false_ne_true)
  have hclip : clip = false := by simp only [clip, hsum, Nat.not_lt_zero, decide_false]
  have hs2 : s2 = s1 := by simp only [s2, hclip, Bool.false_and, Bool.false_eq_true, if_false]
  have hs1 : s1 = (s.put (fSO_DLIFT_LIFT d) 0).put (fSO_DLIFT_INST d) (l.filter fun x => 0 < x).length := by simp only [s1, hsum, Nat.zero_min]
  have hdom (c : Prop) [Decidable c] (w : State) (f : DomHid → DomHid) : (if c then w else w.updDom d f).reg o = w.reg o := by split <;> rfl
  rw [retarget_of_le h, hdom, hs2, hs1]

theorem lift_relift_of_le {d : Nat} (h : 32 ≤ d) (s : State) (i x : Nat) : (s.relift d i x).get (fSO_DLIFT_LIFT d) = 0 := by
  have hreg := reg_relift_of_le h s i x (SO_DLIFT d)
  generalize ((s.liftsOn d).filter fun x => 0 < x).length = n at hreg
  calc (s.relift d i x).get (fSO_DLIFT_LIFT d)
      = ((s.put (fSO_DLIFT_LIFT d) 0).put (fSO_DLIFT_INST d) n).get (fSO_DLIFT_LIFT d) := get_of_reg _ hreg
    _ = (s.put (fSO_DLIFT_LIFT d) 0).get (fSO_DLIFT_LIFT d) := get_put_apart _ _ _ _ rfl (.inl (by simp only []; decide))
    _ = 0 := (get_put _ _ _ (by simp only []; decide)).trans (Nat.zero_mod _)

theorem get_with_so (s : State) (x : SoHid) (f : Fld) : ({ s with so := x } : State).get f = s.get f := rfl

theorem so_putHw (s : State) (f : Fld) (n : Nat) : (s.putHw f n).so = s.so := by
  unfold State.putHw
  split <;> rfl

/-- As setting-out closes on one running instance, with a lift noted for a domain that is none, what shows that lift shows 0. -/
theorem lift_soDisable {i : Inst} {d x : Nat} (haw : s.so.awaiting = []) (hrun : s.so.running = [i]) (hl : i.lifts = [(d, x)]) (hff : i.ffs = [])
    (hd : 32 ≤ d) (hsite : 0x51000 ≤ SO_DLIFT d) : s.soDisable.get (fSO_DLIFT_LIFT d) = 0 := by
  unfold State.soDisable
  extract_lets is s1 own s2
  have his : is = [i] := by simp only [is, haw, hrun, List.nil_append]
  have hs1 : s1.get (fSO_DLIFT_LIFT d) = 0 := by
    simp only [s1, his, List.foldl_cons, List.foldl_nil, State.withdraw, State.reliftAll, hl, List.map_cons, List.map_nil, hff]
    exact lift_relift_of_le hd _ _ _
  have hown (u : State) (k : Nat) (hk : k < 64) : (own u k).get (fSO_DLIFT_LIFT d) = u.get (fSO_DLIFT_LIFT d) := by
    simp only [own]
    split
    · exact get_of_reg (fSO_DLIFT_LIFT d) (reg_put_ne _ _ _ _ (by simp only [SO_TRK_STAT]; omega))
    · rfl
  have hfold : ((upTo 64).foldl own s1).get (fSO_DLIFT_LIFT d) = 0 :=
    (foldl_keeps (f := own) (l := upTo 64) (fun u => u.get (fSO_DLIFT_LIFT d)) (fun u k hk => hown u k (mem_upTo.mp hk)) s1).trans hs1
  simp only [s2]
  generalize (upTo 64).foldl own s1 = w at hfold
  rw [get_with_so]
  exact (get_put_reg w _ _ _ (by simp only [SO_GEN]; omega)).trans hfold

theorem lift_soClose {i : Inst} {d x : Nat} (haw : s.so.awaiting = []) (hrun : s.so.running = [i]) (hl : i.lifts = [(d, x)]) (hff : i.ffs = [])
    (hd : 32 ≤ d) (hsite : 0x51000 ≤ SO_DLIFT d) : s.soClose.get (fSO_DLIFT_LIFT d) = 0 := by
  have hso := so_putHw s fSO_CTL_EN 0
  exact lift_soDisable (by rw [hso, haw]) (by rw [hso, hrun]) hl hff hd hsite

/-! ### Shutdown -/

theorem so_movement (h : Movement s t) : t.so = s.so := (congrArg State.so h.data :)

theorem so_raise (s : State) (e : Ev) (i : Nat) : (s.raise e i).so = s.so := (congrArg State.so (bare_raise s e i) :)

theorem so_abandonHold (s : State) (k : Nat) : (s.abandonHold k).so = s.so := by
  unfold State.abandonHold
  extract_lets st s1 s2
  have hs2 : s2.so = s.so := by
    simp only [s2, State.raiseIf]
    split
    · exact so_raise _ _ _
    · rfl
  split
  · exact hs2
  · exact hs2

theorem so_keepAlive (s : State) : (s.keepAlive false).so = s.so := by
  unfold State.keepAlive
  extract_lets k s0 s1 s2
  have h2 : s2.so = s.so := by
    simp only [s2, s1, s0, Bool.false_eq_true, if_false]
    split <;> rfl
  split
  · rfl
  · obtain ⟨r, hr, -⟩ := hysModes_frame (s2.setRef (1250 * s2.ib.kaVka))
    rw [hr]
    exact h2

theorem so_failSchedule (s : State) (n k : Nat) : (s.failSchedule n k).so = s.so := rfl

theorem so_allOnSurvivor (s : State) (n : Nat) : (s.allOnSurvivor n).so = s.so := by
  unfold State.allOnSurvivor forEach
  exact foldl_keeps State.so (fun u j _ => so_failSchedule u n j) s

theorem so_abandonHolds (s : State) : (forEach (upTo 64) (fun t s => s.abandonHold t) s).so = s.so := by
  unfold forEach
  exact foldl_keeps State.so (fun u j _ => so_abandonHold u j) s

theorem so_allOff (s : State) : s.allOff.so = s.so := by
  unfold State.allOff
  extract_lets s1
  have hs1 : s1.so = s.so := foldl_keeps (l := upTo 256) State.so (fun u c hc => by
    dsimp only
    split
    · rfl
    · exact so_movement (movement_setMode u 0 (mem_upTo.mp hc))) s
  refine (foldl_keeps (l := upTo 32) State.so (fun u d hd => ?_) s1).trans hs1
  split
  · rfl
  · exact so_movement (movement_dropDomain u (mem_upTo.mp hd))

theorem get_with_bootThm (s : State) (b : BootHid) (x : ThmHid) (f : Fld) : ({ s with boot := b, thm := x } : State).get f = s.get f := rfl

theorem get_with_pst (s : State) (x : PstHid) (f : Fld) : ({ s with pst := x } : State).get f = s.get f := rfl

theorem get_setAon (s : State) (n : Nat) {f : Fld} (h : f.off ∉ [PST_STATE, MON_ACTIVE]) : (s.setAon n).get f = s.get f :=
  get_of_reg f (sameRegs_setAon s n f.off h)

/-- What shows the lift of a domain that is none reads 0 once a shutdown has begun. -/
theorem lift_beginShutdown {i : Inst} {d x : Nat} (k : Nat) (haw : s.so.awaiting = []) (hrun : s.so.running = [i]) (hl : i.lifts = [(d, x)])
    (hff : i.ffs = []) (hd : 32 ≤ d) (hsite : 0x51000 ≤ SO_DLIFT d ∧ SO_DLIFT d < 0x52000) (hstart : s.boot.toStart = [])
    (haon : s.aon ≠ 3) : (s.beginShutdown k).get (fSO_DLIFT_LIFT d) = 0 := by
  have hpst : SO_DLIFT d ≠ PST_STATE := by simp only [PST_STATE]; omega
  have hmon : SO_DLIFT d ≠ MON_ACTIVE := by simp only [MON_ACTIVE]; omega
  have hev : SO_DLIFT d ∉ eventRegs 12 := thmReg_not_event (by omega)
  unfold State.beginShutdown
  extract_lets +onlyGivenNames s1 s2 s2' _ s3 s4 s5 s5' _ _ s6 _ p s7
  have hs2 : s2.so = s.so := so_abandonHolds s1
  have hs2' : s2'.so = s.so := by
    simp only [s2']
    split
    · exact (so_allOnSurvivor s2 _).trans hs2
    · exact hs2
  have hclose : (s3.allOff.keepAlive false).so = s.so := (so_keepAlive _).trans ((so_allOff s3).trans hs2')
  have hs4 : s4.get (fSO_DLIFT_LIFT d) = 0 := lift_soClose (by rw [hclose, haw]) (by rw [hclose, hrun]) hl hff hd hsite.1
  have hs6 : s6.get (fSO_DLIFT_LIFT d) = 0 := by
    simp only [s6, s5', haon, s5, hstart, List.foldl_nil, if_false]
    rw [get_with_bootThm]
    exact hs4
  have hs7 : s7.get (fSO_DLIFT_LIFT d) = 0 := by
    simp only [s7, p]
    clear_value s6
    split
    · exact hs6
    · rw [State.putB, get_put_reg _ _ _ _ hpst, get_setAon _ _ (by simp only [List.mem_cons, List.not_mem_nil, or_false, not_or]; exact ⟨hpst, hmon⟩), get_with_pst]
      exact hs6
  clear_value s7
  exact (get_of_reg (fSO_DLIFT_LIFT d) (reg_raise _ _ _ _ hev)).trans hs7

/-- What holds after a command holds of the state that it runs to. -/
theorem Runs.post_of {c : Instr} {post : State → Prop} (h : Runs c s post) (hexec : exec c s = .next t) : post t := by
  obtain ⟨u, hu, hpost⟩ := h
  obtain rfl : u = t := by simpa using hu.symm.trans hexec
  exact hpost

/-- Sites shown at SHUT. -/
def State.showShut (s : State) (k : Nat) : State := s.putB (fTHM_SITE_SHUT k) true

theorem so_showShut (l : List Nat) (s : State) : (l.foldl State.showShut s).so = s.so := foldl_keeps (f := State.showShut) State.so (fun _ _ _ => rfl) s

theorem boot_showShut (l : List Nat) (s : State) : (l.foldl State.showShut s).boot = s.boot := foldl_keeps (f := State.showShut) State.boot (fun _ _ _ => rfl) s

theorem aon_showShut {l : List Nat} (h : ∀ k ∈ l, k < 64) (s : State) : (l.foldl State.showShut s).aon = s.aon :=
  foldl_keeps (f := State.showShut) State.aon (fun _ k hk => get_of_reg fPST_STATE_STATE
    (reg_putB_ne _ _ _ _ (by have := h k hk; simp only [PST_STATE, THM_SITE]; omega))) s

/-- Where a reading follows one that found a site at SHUT, judging it changes only what was found, or begins the shutdown. -/
theorem judgeShutdown_cases {k : Nat} (hshut : s.shut = false) (hfirst : s.thm.hotFirst = some k) (hk : k < 64) :
    (∃ x, s.judgeShutdown [] = { s with thm := x }) ∨
      ∃ v : State, s.judgeShutdown [] = v.beginShutdown k ∧ v.so = s.so ∧ v.boot = s.boot ∧ v.aon = s.aon := by
  unfold State.judgeShutdown
  extract_lets +onlyGivenNames hot _ s1
  rw [hshut, hfirst]
  dsimp only
  rw [if_neg Bool.false_ne_true]
  split
  · exact .inl ⟨_, rfl⟩
  · refine .inr ⟨_, rfl, (so_showShut _ s1).trans rfl, (boot_showShut _ s1).trans rfl, (aon_showShut (fun j hj => ?_) s1).trans rfl⟩
    rcases List.mem_cons.mp hj with rfl | hj
    · exact hk
    · exact mem_upTo.mp (List.mem_filter.mp hj).1

end Sys2Proof.Machine
end

section
/-!
SETTLED. The statement on the sites of the thermal sensing (O50).
-/
open Sys2Proof Sys2Proof.Machine

/-- A running instance with a lift noted for a domain that is none, whose lift would be shown where the raw reading of site 0 is. -/
def siteLift : Inst := { no := 0, idx := 0, seq := 0, annAt := 0, ready := 0, stamp := 0, lifts := [((THM_RAW 0 - SO_DLIFT 0) / 4, 5)] }

/-- A running block with that instance, whose latest reading found site 0 at SHUT, every other site suspect. -/
def liftOnSite : State :=
  { withFields runningBlock [(fTHM_STATE_CALDONE, 1), (fTHM_THR_SHUT, 0), (fTHM_SUSP0_SUSP, 0xFFFFFFFE), (fTHM_SUSP1_SUSP, 0xFFFFFFFF)] with
    thm := { hotFirst := some 0 }
    so := { running := [siteLift] } }

/-- Site 0 at 59 degC. -/
def hotReading : List Int := [60000000]

/-- A reading whose lowest eight bits are 0 is none of 59 degC. -/
theorem signed_ne_of_low_zero {s : State} (h : s.get ⟨THM_RAW 0, 0, 8⟩ = 0) : s.siteRaw 0 ≠ 944 := by
  rw [State.siteRaw, State.getI, State.get, bitsAt, signed]
  rw [State.get, bitsAt] at h
  dsimp only at h ⊢
  omega

/-- Refutes O50: the shutdown that a reading begins closes setting-out, which withdraws the lift and with it the low bits of the raw reading
of site 0. -/
theorem not_thermalSites : ¬ Obligations.ThermalSites := by
  unfold Obligations.ThermalSites
  intro h
  obtain ⟨hread, -⟩ := h liftOnSite hotReading .host 0 0 0
  have hpor : liftOnSite.por = false := by decide +kernel
  have h3 : liftOnSite.aon ≠ 3 := by decide +kernel
  have h4 : liftOnSite.aon ≠ 4 := by decide +kernel
  have hcal : liftOnSite.on fTHM_STATE_CALDONE = true := by decide +kernel
  have hshut : liftOnSite.shut = false := by decide +kernel
  have halone : liftOnSite.aloneUsable := by
    unfold State.aloneUsable
    decide +kernel
  have htemp : liftOnSite.diodeTemp (hotReading.getD 0 0) = 944 := by decide +kernel
  obtain ⟨u, hexec, hkept, hushut, hregs⟩ := exec_siteReading_of_alone hotReading hpor h3 h4 hcal halone
  obtain ⟨hinvalid, hraw, -, -, hbegin, -⟩ := (hread hpor h3 h4).post_of hexec
  have hvalid := hinvalid 0 (by decide)
  obtain ⟨hraw0, hsite⟩ := hraw 0 (by decide)
  rw [htemp] at hvalid hraw0 hsite
  have hso : u.so = liftOnSite.so := congrArg (·.1) hkept
  have hboot : u.boot = liftOnSite.boot := congrArg (·.2.1) hkept
  rcases judgeShutdown_cases (hushut.trans hshut) (congrArg (·.2.2) hkept) (by decide : 0 < 64) with ⟨y, hu⟩ | ⟨v, hu, hvso, hvboot, hvaon⟩
  · rw [hu] at hvalid hsite hbegin
    have hsuspect := suspect_congr (s := liftOnSite) (t := u) (hregs _ (by decide) (by decide)) (hregs _ (by decide) (by decide)) 0
    have hnow := hbegin hshut hcal (by decide +kernel) ⟨0, by decide, ?_, hsuspect⟩
    · exact absurd (hnow.symm.trans (hushut.trans hshut)) (by decide)
    · rw [hsite (by decide +kernel) hvalid]
      decide +kernel
  · have hzero : (v.beginShutdown 0).get (fSO_DLIFT_LIFT ((THM_RAW 0 - SO_DLIFT 0) / 4)) = 0 :=
      lift_beginShutdown (i := siteLift) 0 (by rw [hvso, hso]; rfl) (by rw [hvso, hso]; rfl) rfl rfl (by decide) (by decide)
        (by rw [hvboot, hboot]; rfl) (by rw [hvaon, State.aon, get_of_reg fPST_STATE_STATE (hregs _ (by decide) (by decide))]; exact h3)
    rw [hu] at hraw0
    rw [show fSO_DLIFT_LIFT ((THM_RAW 0 - SO_DLIFT 0) / 4) = ⟨THM_RAW 0, 0, 8⟩ by decide] at hzero
    exact signed_ne_of_low_zero hzero hraw0

end
